-- ==== Sys2Proof/Word.lean ====
section
/-! DEFINITION. The byte and the memory cell list: the only word types of the model (R8, R117). -/

namespace Sys2Proof

/-- One byte of a packet, a memory or a wire word (R8). -/
abbrev Byte := BitVec 8

/-- Bytes in ascending address order (R8: little-endian). -/
abbrev Bytes := List Byte

/-- A table with a default: pairs (index, value), indices strictly rising, no pair that holds the default. -/
abbrev Tab (α : Type) := List (Nat × α)

end Sys2Proof
end

