-- ==== Sys2Proof/Syntax.lean ====
section
/-! DEFINITION. The commands of the block: one constructor for each of the 174 rows of
spec/opcode_table.json, with the operands that the row's rule gives it. -/

namespace Sys2Proof

/-- The function through which a host access comes (R302, R423, R426, R427). -/
inductive Fn where
  /-- PF BAR0. -/
  | pf
  /-- PF BAR2 (the PF's MSI-X table). -/
  | pfMsix
  /-- BAR0 of VF v + 1, which serves partition v. -/
  | vf (v : Fin 16)
  deriving DecidableEq, Repr

/-- A command of a queue: the queue and the queue sequence number (R270). -/
structure CmdId where
  /-- Queue number. -/
  queue : Fin 16384
  /-- FETCH value of the command's first packet. -/
  seq : Nat
  deriving DecidableEq, Repr

/-- One direction of a tether port, seen from the module (R239). -/
inductive Dir where
  /-- Server to module. -/
  | rx
  /-- Module to server. -/
  | tx
  deriving DecidableEq, Repr

/-- An error of the channel: a symbol of a lane as received, which differs from the one sent (R239, R240). -/
structure SymErr where
  /-- Codeword of the frame, from 0. -/
  codeword : Nat
  /-- Symbol time of the codeword, from 0. -/
  time : Nat
  /-- Physical lane. -/
  lane : Nat
  /-- Received symbol XOR sent symbol. -/
  value : Nat
  deriving DecidableEq, Repr

/-- A WSL frame as sent, with the errors of the channel on its way to the receiver (R239, R242, R243). -/
structure WslFrame where
  /-- The symbols that the lanes changed; none in a frame that this module sends. -/
  errors : List SymErr
  /-- The CRC-32 that the frame carries. -/
  crc : Nat
  /-- CLASS, bits [2:0] of byte 0. -/
  cls : Nat
  /-- SHORT, bit 3 of byte 0. -/
  short : Bool
  /-- VERSION, bits [7:4] of byte 0. -/
  version : Nat
  /-- TYPE, byte 1. -/
  type : Nat
  /-- DST, bytes 4-7. -/
  dst : Nat
  /-- SRC, bytes 8-11. -/
  src : Nat
  /-- SEQ, bytes 12-15. -/
  seq : Nat
  /-- The WORDS words in use, 64 bytes each, joined. -/
  payload : Bytes
  deriving DecidableEq, Repr

/-- A class 0 message as received (R249). -/
structure Msg where
  /-- TYPE of Table 12-6. -/
  type : Nat
  /-- RESEND, byte 1 bit 0. -/
  resend : Bool
  /-- Port number, byte 2. -/
  port : Nat
  /-- MSG_SEQ, bytes 4-7. -/
  seq : Nat
  /-- Body, bytes 8-63. -/
  body : Bytes
  deriving DecidableEq, Repr

/-- A write of the PF driver that changes queues, fences or a queue's ENABLE (R296). -/
inductive ProtWrite where
  /-- PART[p]_QUEUES takes BASE and COUNT. -/
  | queues (p : Fin 16) (base count : Nat)
  /-- PART[p]_FENCES takes BASE and COUNT. -/
  | fences (p : Fin 16) (base count : Nat)
  /-- QTAB[q]_CMD.ENABLE takes the bit. -/
  | enable (q : Fin 16384) (on : Bool)
  deriving DecidableEq, Repr

/-- A write of the PF driver to PART[p]_PORTS or PART[p]_PAGES[k] (R314). -/
inductive WithdrawWrite where
  /-- PART[p]_PORTS takes the mask. -/
  | ports (p : Fin 16) (mask : Nat)
  /-- PART[p]_PAGES[k] takes the 32 two-bit codes. -/
  | pages (p : Fin 16) (k : Fin 72) (codes : Nat)
  deriving DecidableEq, Repr

/-- A command to the block: one row of spec/opcode_table.json each. -/
inductive Instr where
  /-- FRAME_EDGE (R32). -/
  | frameEdge
  /-- REEL_BEACON (R29): word 0 of the edge slot at port `n`; the slot passed its link check;
      `arrival` is its arrival in ps after the module's own edge. -/
  | reelBeacon (n : Fin 64) (linkOk : Bool) (word : Bytes) (arrival : Int)
  /-- LOCK (R35). -/
  | lock
  /-- HOLDOVER_LIMIT (R40). -/
  | holdoverLimit
  /-- PERIOD_CHANGE (R44). -/
  | periodChange
  /-- RESUME (R43). -/
  | resume
  /-- RESELECT (R30). -/
  | reselect
  /-- REEL_CFG_LOCK (R52): a write of `value` to REEL_CFG with LOCK set. -/
  | reelCfgLock (value : BitVec 32)
  /-- PWR_CFG_LOCK (R364): a write of `value` to PWR_CFG with LOCK set. -/
  | pwrCfgLock (value : BitVec 64)
  /-- LOGB_CFG_LOCK (R400): a write of `value` to LOGB_CFG with LOCK set. -/
  | logbCfgLock (value : BitVec 32)
  /-- REGISTER_WRITE (R11): `size` bytes of `value` at offset `off` of the function's BAR. -/
  | registerWrite (f : Fn) (off size value : Nat)
  /-- BAD_ACCESS (R14): a read or write of wrong size or alignment. -/
  | badAccess (f : Fn) (off size : Nat) (read : Bool)
  /-- DOORBELL (R271): doorbell `i` of the function, after the host put `mem` into its own memory. -/
  | doorbell (f : Fn) (i : Nat) (tail head : BitVec 32) (mem : List (Nat × Byte))
  /-- QUEUE_FAULT_CLEAR (R272). -/
  | queueFaultClear (q : Fin 16384)
  /-- FENCE_HOST_WRITE (R288): fence `i` of the function takes at least `value`. -/
  | fenceHostWrite (f : Fn) (i : Nat) (value : BitVec 64)
  /-- PROTECTION_CHANGE (R296). -/
  | protectionChange (w : ProtWrite)
  /-- RESOURCE_WITHDRAW (R314). -/
  | resourceWithdraw (w : WithdrawWrite)
  /-- TASK_FETCHED (R280). -/
  | taskFetched (p : Fin 16)
  /-- TASK_HEADER (R280). -/
  | taskHeader (p : Fin 16)
  /-- COMMAND_BEGIN (R283). -/
  | commandBegin (c : CmdId)
  /-- LATE_BEGIN (R450). -/
  | lateBegin (c : CmdId)
  /-- COMMAND_RETIRE (R285). -/
  | commandRetire (c : CmdId)
  /-- COMPLETION_RECORD (R297): the next record of queue `q`. -/
  | completionRecord (q : Fin 16384)
  /-- DEADLINE_MISS (R48). -/
  | deadlineMiss (c : CmdId)
  /-- NOP (R286). -/
  | nop (c : CmdId)
  /-- FENCE_WAIT (R290). -/
  | fenceWait (c : CmdId)
  /-- FENCE_SIGNAL (R289). -/
  | fenceSignal (c : CmdId)
  /-- BARRIER (R286). -/
  | barrier (c : CmdId)
  /-- WMATMUL (R82). -/
  | wmatmul (c : CmdId)
  /-- WMATMUL_SPEC (R213). -/
  | wmatmulSpec (c : CmdId)
  /-- WVECTOR (R89). -/
  | wvector (c : CmdId)
  /-- WCONV (R92). -/
  | wconv (c : CmdId)
  /-- WSAMPLE (R95). -/
  | wsample (c : CmdId)
  /-- STREAM_LOAD (R193). -/
  | streamLoad (c : CmdId)
  /-- SHARD_DATA (R176): a class 2 frame at port `n`. -/
  | shardData (n : Fin 64) (w : WslFrame)
  /-- VERDICT (R180): the verdict of shard `k` of the command. -/
  | verdict (c : CmdId) (k : Nat)
  /-- ROW_ABSENT (R181): row `row` of transfer `k` of the command is absent at its round. -/
  | rowAbsent (c : CmdId) (k row : Nat)
  /-- STREAM_SPEC (R210). -/
  | streamSpec (c : CmdId)
  /-- ROUTE_COMMIT (R217). -/
  | routeCommit (c : CmdId)
  /-- RESIDE (R200). -/
  | reside (c : CmdId)
  /-- EVICT (R202). -/
  | evict (c : CmdId)
  /-- SLOT_FREE (R202). -/
  | slotFree (p : Fin 16)
  /-- SWAP_MODEL (R205). -/
  | swapModel (c : CmdId)
  /-- MODEL_SWITCH (R205). -/
  | modelSwitch (p : Fin 16)
  /-- PRUNE_LOAD (R206). -/
  | pruneLoad (c : CmdId)
  /-- WRITEBACK (R207). -/
  | writeback (c : CmdId)
  /-- BCAST (R227). -/
  | bcast (c : CmdId)
  /-- REDUCE1 (R228). -/
  | reduce1 (c : CmdId)
  /-- COLLECTIVE_PIECE (R232): a class 3, TYPE 0 frame at port `n`. -/
  | collectivePiece (n : Fin 64) (w : WslFrame)
  /-- ACTIVATION_ROWS (R247): a class 3, TYPE 1 frame at port `n`. -/
  | activationRows (n : Fin 64) (w : WslFrame)
  /-- BULK_ROWS (R247): a class 4, TYPE 0 frame at port `n`. -/
  | bulkRows (n : Fin 64) (w : WslFrame)
  /-- MOVE (R291). -/
  | move (c : CmdId)
  /-- WINDOW_OPEN (R131). -/
  | windowOpen (c : CmdId)
  /-- WINDOW_CLOSE (R132). -/
  | windowClose (c : CmdId)
  /-- FORECAST (R356). -/
  | forecast (c : CmdId)
  /-- PART_CREATE (R305). -/
  | partCreate (c : CmdId)
  /-- PART_RESIZE (R318). -/
  | partResize (c : CmdId)
  /-- RESIZE_EFFECT (R318). -/
  | resizeEffect (p : Fin 16)
  /-- PART_DESTROY (R324). -/
  | partDestroy (c : CmdId)
  /-- PART_RESET (R315). -/
  | partReset (c : CmdId)
  /-- FLR (R316) of the VF that serves partition `p`. -/
  | flr (p : Fin 16)
  /-- MODE_PREPARE (R321). -/
  | modePrepare (c : CmdId)
  /-- MODE_PREPARE_EXPIRE (R322). -/
  | modePrepareExpire
  /-- MODE_COMMIT (R322). -/
  | modeCommit (c : CmdId)
  /-- MODE_DECISION (R322). -/
  | modeDecision
  /-- MODE_SWITCH (R322). -/
  | modeSwitch
  /-- CORE_FENCE (R381). -/
  | coreFence (c : CmdId)
  /-- CORE_REMAP (R382). -/
  | coreRemap (c : CmdId)
  /-- BIST_RUN (R383). -/
  | bistRun (c : CmdId)
  /-- INJECT_FAULT (R386). -/
  | injectFault (c : CmdId)
  /-- INJECTED_FAULT (R387). -/
  | injectedFault (c : CmdId)
  /-- JOURNAL_ENABLE (R339). -/
  | journalEnable (c : CmdId)
  /-- JOURNAL_DISABLE (R339). -/
  | journalDisable (c : CmdId)
  /-- MARK (R339). -/
  | mark (c : CmdId)
  /-- TAP (R341). -/
  | tap (c : CmdId)
  /-- PROG_LOAD (R310) of slot `h`, the image bytes being in host memory through `mem`. -/
  | progLoad (p : Fin 16) (h : Fin 32) (mem : List (Nat × Byte))
  /-- PROG_CLEAR (R310). -/
  | progClear (p : Fin 16) (h : Fin 32)
  /-- BIND (R148) of the plan in slot `h`. -/
  | bind (p : Fin 16) (h : Fin 32)
  /-- TMEM_CLEAR_DONE (R136) of core position `n`. -/
  | tmemClearDone (n : Fin 96)
  /-- ERT_WINDOW_WRITE (R425): the 8-byte write to half `half` of entry `e`. -/
  | ertWindowWrite (e : Fin 262144) (half : Fin 2) (value : BitVec 64)
  /-- SWITCH (R171). -/
  | ertSwitch (p : Fin 16)
  /-- ERT_BANK_SWITCH (R171). -/
  | ertBankSwitch (p : Fin 16)
  /-- SHADOW_SYNC_DONE (R171). -/
  | shadowSyncDone (p : Fin 16)
  /-- PATROL_SCRUB (R168) of stack `m`: the 375 bursts of one group of 3 refresh periods. -/
  | patrolScrub (m : Fin 48)
  /-- RESIDENT_DIGEST_CHECK (R199) of shard `k` of ERT entry `e`. -/
  | residentDigestCheck (e : Fin 262144) (k : Nat)
  /-- HBM_STACK_FAIL (R374). -/
  | hbmStackFail (m : Fin 48)
  /-- DRAIN (R384). -/
  | drain (m : Fin 48)
  /-- DRAINED (R384). -/
  | drained (m : Fin 48)
  /-- SCRUB (R384). -/
  | scrub (m : Fin 48)
  /-- SCRUB_DONE (R384): the read pass found `uncorr` uncorrectable bursts. -/
  | scrubDone (m : Fin 48) (uncorr : Nat)
  /-- RETURN (R384). -/
  | returnStack (m : Fin 48)
  /-- PAGE_CLEAR (R417) on stack `m`. -/
  | pageClear (m : Fin 48)
  /-- PAGE_CLEAR_DONE (R417) on stack `m`. -/
  | pageClearDone (m : Fin 48)
  /-- BRIDLE_UNCORRECTABLE (R143) on the link direction of core record `n` (R157), lane `lane`: a word whose four
      16-byte quarters have so many flipped bits. -/
  | bridleUncorrectable (n : Fin 96) (lane : Fin 375) (flips : List Nat)
  /-- WSL_FRAME (R244) at port `n`. -/
  | wslFrame (n : Fin 64) (w : WslFrame)
  /-- ASSIGN (R251) at port `n`. -/
  | assign (n : Fin 64) (m : Msg)
  /-- ACK (R250) at port `n`. -/
  | ack (n : Fin 64) (m : Msg)
  /-- MESSAGE_RESEND (R250): the first message of port `n` that is overdue. -/
  | messageResend (n : Fin 64)
  /-- LANE_LOST (R254): receive lane `l` of port `n`, by loss of signal or clock lock, or else by its corrected symbols. -/
  | laneLost (n : Fin 64) (l : Fin 17) (signal : Bool)
  /-- LANE_FAIL (R256) at port `n`. -/
  | laneFail (n : Fin 64) (m : Msg)
  /-- LANE_SWITCH (R256) at port `n`. -/
  | laneSwitch (n : Fin 64) (m : Msg)
  /-- SUBSTITUTION (R256). -/
  | substitution (n : Fin 64) (d : Dir)
  /-- NARROW (R257) at port `n`. -/
  | narrow (n : Fin 64) (m : Msg)
  /-- NARROW_SWITCH (R257). -/
  | narrowSwitch (n : Fin 64) (d : Dir)
  /-- UNCORR_LIMIT (R261). -/
  | uncorrLimit (n : Fin 64)
  /-- RETRAIN_REQ (R262) at port `n`. -/
  | retrainReq (n : Fin 64) (m : Msg)
  /-- TRAINING (R262): the healthy receive and transmit lanes found. -/
  | training (n : Fin 64) (rx tx : BitVec 17)
  /-- TRAINING_DONE (R262): the DELAY_REPLY, and its arrival in ps of the module's time. -/
  | trainingDone (n : Fin 64) (m : Msg) (arrival : Nat)
  /-- TRAINING_TIMEOUT (R262). -/
  | trainingTimeout (n : Fin 64)
  /-- ONLINE (R263). -/
  | online (n : Fin 64)
  /-- LOOPBACK (R263). -/
  | loopback (n : Fin 64)
  /-- OFFLINE (R263). -/
  | offline (n : Fin 64)
  /-- RETRAIN (R263). -/
  | retrain (n : Fin 64)
  /-- LASER_INSERT (R264): lower memory and upper page 00h, 128 bytes each; whether the module type is accepted; the part number; the power in W. -/
  | laserInsert (e : Fin 16) (lower page : Bytes) (typeOk : Bool) (part : Bytes) (watts : Nat)
  /-- LASER_READY (R264). -/
  | laserReady (e : Fin 16)
  /-- SWAP (R265). -/
  | swap (e : Fin 16)
  /-- LASER_ALARM (R266). -/
  | laserAlarm (e : Fin 16)
  /-- INFLATE (R346). -/
  | inflate (d : Fin 250)
  /-- DEFLATE (R348). -/
  | deflate (d : Fin 250)
  /-- VMIN_REARM (R363). -/
  | vminRearm (d : Fin 250)
  /-- INFLATION_START (R349). -/
  | inflationStart
  /-- INFLATION_STAGE (R346): a stage of domain `d` ends; its current in parts per 10,000 of the hard limit. -/
  | inflationStage (d : Fin 250) (current : Nat)
  /-- DEFLATION_DONE (R348). -/
  | deflationDone (d : Fin 250)
  /-- HARD_LIMIT_TRIP (R358). -/
  | hardLimitTrip (d : Fin 250)
  /-- DROOP_STEP (R362): the rise in parts per 10,000 of the hard limit, and the quotient in micro-ohms. -/
  | droopStep (d : Fin 250) (rise quotient : Nat)
  /-- EMERGENCY_CLOCK_STEP (R360): the trigger, a code of PWR_STEP.CAUSE 1 to 3. -/
  | emergencyClockStep (cause : Nat)
  /-- CLOCK_STEP_END (R360). -/
  | clockStepEnd
  /-- ORDERLY_SHUTDOWN (R361). -/
  | orderlyShutdown
  /-- BRICK_FAIL (R343). -/
  | brickFail (b : Fin 18)
  /-- BRICK_INSERT (R343): its identity (32 bytes) and telemetry; `ok` when the identity is accepted. -/
  | brickInsert (b : Fin 18) (ident : Bytes) (ok : Bool) (watts temp : Nat)
  /-- THERMAL_WARNING (R438): inlet in tenths of a degree, flow in tenths of L/min. -/
  | thermalWarning (inlet flow : Nat)
  /-- HBM_OVERTEMP (R438). -/
  | hbmOvertemp (m : Fin 48)
  /-- POSITION_FAULT (R369). -/
  | positionFault (n : Fin 96)
  /-- REMAP (R370). -/
  | remap (p : Fin 16)
  /-- GONDOLA_HALF_STOP (R377): 0 GW, 1 GE. -/
  | gondolaHalfStop (g : Fin 2)
  /-- FIRMWARE_TAKEOVER (R378). -/
  | firmwareTakeover
  /-- MODULE_RESET (R430): 0 power-on, 1 GCTL_RESET, 2 management bus. -/
  | moduleReset (cause : Fin 3)
  /-- BRING_UP_RING (R350): the next ring comes up; the domains of it that fail. -/
  | bringUpRing (failed : List Nat)
  /-- RING_TIMEOUT (R351). -/
  | ringTimeout
  /-- HOST_LINK_CHANGE (R431): the link of host port `h` goes up or down. -/
  | hostLinkChange (h : Fin 2) (up full : Bool)
  /-- STAGE (R404), the image bytes being in host memory through `mem`. -/
  | stage (mem : List (Nat × Byte))
  /-- HANDOVER (R405). -/
  | handover
  /-- HANDOVER_TAKEOVER (R405). -/
  | handoverTakeover
  /-- CONFIRM (R406). -/
  | confirm
  /-- FALLBACK (R406). -/
  | fallback
  /-- SETTINGS_WRITE (R410), the record being in host memory through `mem`. -/
  | settingsWrite (mem : List (Nat × Byte))
  /-- OPEN (R418), the token being in host memory through `mem`. -/
  | openDebug (mem : List (Nat × Byte))
  /-- KEY_LOAD (R414). -/
  | keyLoad (p : Fin 16) (slot : Fin 16)
  /-- KEY_ERASE (R415). -/
  | keyErase (p : Fin 16) (slot : Fin 16)
  /-- KEY_ERASE_ALL (R415). -/
  | keyEraseAll (p : Fin 16)
  /-- ENTDAA (R411): the dynamic address that the bus controller assigns. -/
  | entdaa (addr : Fin 128)
  /-- GET_VERSION (R412). -/
  | getVersion
  /-- GET_CAPABILITIES (R412). -/
  | getCapabilities
  /-- NEGOTIATE_ALGORITHMS (R412): the requester offers ECDSA P-384 and SHA-384. -/
  | negotiateAlgorithms (p384 sha384 : Bool)
  /-- GET_DIGESTS (R412). -/
  | getDigests
  /-- GET_CERTIFICATE (R412): slot, offset and length. -/
  | getCertificate (slot off len : Nat)
  /-- CHALLENGE (R412): slot and the requester's nonce. -/
  | challenge (slot : Nat) (nonce : Bytes)
  /-- GET_MEASUREMENTS (R412): index and the requester's nonce. -/
  | getMeasurements (index : Nat) (nonce : Bytes)
  /-- OWNER_KEY_INSTALL (R419): the owner's public key. -/
  | ownerKeyInstall (key : Bytes)
  /-- PLDM_SENSOR_READ (R438): 0 inlet, 1 outlet, 2 flow, 3 hottest core, 4 hottest HBM case. -/
  | pldmSensorRead (sensor : Fin 5)
  /-- PLDM_LOGBOOK_READ (R398): offset and length in the read window. -/
  | pldmLogbookRead (off len : Nat)
  /-- LOGBOOK_STORE (R389). -/
  | logbookStore
  /-- FREEZE (R398). -/
  | freeze
  /-- THAW (R398). -/
  | thaw
  /-- FREEZE_TIMEOUT (R398). -/
  | freezeTimeout
  /-- FREEZE_QUEUE_FULL (R398). -/
  | freezeQueueFull
  /-- REEL_BEACON_ERR_CLEAR (R52): the value written to REEL_BEACON_ERR[n]. -/
  | reelBeaconErrClear (n : Fin 64) (value : BitVec 32)
  /-- LASER_REMOVE (R265). -/
  | laserRemove (e : Fin 16)
  /-- BRICK_REMOVE (R343). -/
  | brickRemove (b : Fin 18)
  /-- VF_ENABLE_CHANGE (R298). -/
  | vfEnableChange (v : Fin 16) (on : Bool)
  /-- FETCH_COMPLETION_ERROR (R272). -/
  | fetchCompletionError (q : Fin 16384)
  /-- BIST_DONE (R383): the result code of CORE[n]_BIST and the Vmin code found. -/
  | bistDone (n : Fin 96) (result vmin : Nat)
  /-- STANDBY_REBOOT_DONE (R405). -/
  | standbyRebootDone
  /-- PORT_ENABLE (R252). -/
  | portEnable (n : Fin 64)
  deriving DecidableEq, Repr

end Sys2Proof
end

