-- ==== Sys2Proof/Decode.lean ====
section
/-! DEFINITION. spec/opcode_table.json gives no row a bit: no word spells a command (its rows are steps of the part). -/

namespace Sys2Proof

/-- The command that a word of the opcode table spells: the table gives no row any bit, so no word spells one. -/
def decodeTableWord (_nbits _w : Nat) : Option Instr := none

end Sys2Proof
end

