-- ==== Sys2Proof/Machine/Tab.lean ====
section
/-! DEFINITION. Tables with a default, memories, little-endian bytes and bit fields: the helpers that every family uses
(R8, R117). -/

namespace Sys2Proof.Machine

/-- The value of index `k`: what the table lists, else the default. -/
def Tab.get {α : Type} (d : α) : Tab α → Nat → α
  | [], _ => d
  | (j, v) :: r, k => if j = k then v else Tab.get d r k

/-- The table with `v` at index `k`; the default is not listed. -/
def Tab.put {α : Type} [DecidableEq α] (d : α) (t : Tab α) (k : Nat) (v : α) : Tab α :=
  t.filter (fun c => decide (c.1 < k)) ++ ((if v = d then [] else [(k, v)]) ++ t.filter (fun c => decide (k < c.1)))

/-- The canonical form of a table: indices strictly rising, the default not listed. -/
def Tab.wf {α : Type} [DecidableEq α] (d : α) (t : Tab α) : Bool :=
  decide ((t.map Prod.fst).Pairwise (· < ·)) && t.all (fun c => decide (c.2 ≠ d))

/-- A byte memory; an unlisted byte reads 0 (log entry 6). -/
abbrev Mem := Tab Byte

/-- One byte of a memory. -/
def Mem.byte (m : Mem) (a : Nat) : Byte := Tab.get (0 : Byte) m a

/-- `n` bytes from address `a`. -/
def Mem.read (m : Mem) (a n : Nat) : Bytes := (List.range n).map fun i => Mem.byte m (a + i)

/-- The cells that bytes from address `a` would list: zeros are not listed. -/
def Mem.cells : Nat → Bytes → Mem
  | _, [] => []
  | a, b :: r => if b = 0 then Mem.cells (a + 1) r else (a, b) :: Mem.cells (a + 1) r

/-- The memory with the bytes stored from address `a`. -/
def Mem.write (m : Mem) (a : Nat) (bs : Bytes) : Mem :=
  m.filter (fun c => decide (c.1 < a)) ++ (Mem.cells a bs ++ m.filter (fun c => decide (a + bs.length ≤ c.1)))

/-- The memory with zeros in `n` bytes from address `a`. -/
def Mem.clear (m : Mem) (a n : Nat) : Mem :=
  m.filter (fun c => decide (c.1 < a)) ++ m.filter (fun c => decide (a + n ≤ c.1))

/-- The memory with one byte stored, cell by cell. -/
def Mem.writeCells (m : Mem) (cs : List (Nat × Byte)) : Mem := cs.foldl (fun m c => Tab.put (0 : Byte) m c.1 c.2) m

/-- The canonical form of a memory. -/
abbrev Mem.wf (m : Mem) : Bool := Tab.wf (0 : Byte) m

/-- The number that little-endian bytes spell (R8). -/
def leNat : Bytes → Nat
  | [] => 0
  | b :: r => b.toNat + 256 * leNat r

/-- `n` little-endian bytes of a number (R8). -/
def natLE (n x : Nat) : Bytes := (List.range n).map fun i => BitVec.ofNat 8 (x >>> (8 * i))

/-- Bits [hi:lo] of a number (R8). -/
def bits (x hi lo : Nat) : Nat := (x >>> lo) % 2 ^ (hi + 1 - lo)

/-- Bit `i` of a number. -/
def bit (x i : Nat) : Bool := x.testBit i

/-- A Bool as the number 0 or 1. -/
def nat01 (b : Bool) : Nat := if b then 1 else 0

/-- `n` little-endian bytes at byte `i` as a number. -/
def le (bs : Bytes) (i n : Nat) : Nat := leNat ((bs.drop i).take n)

/-- Byte `i`. -/
def u8 (bs : Bytes) (i : Nat) : Nat := le bs i 1
/-- The 2 bytes at byte `i`. -/
def u16 (bs : Bytes) (i : Nat) : Nat := le bs i 2
/-- The 4 bytes at byte `i`. -/
def u32 (bs : Bytes) (i : Nat) : Nat := le bs i 4
/-- The 8 bytes at byte `i`. -/
def u64 (bs : Bytes) (i : Nat) : Nat := le bs i 8

/-- The signed value of the low `w` bits. -/
def toSigned (w x : Nat) : Int := if x % 2 ^ w < 2 ^ (w - 1) then ((x % 2 ^ w : Nat) : Int) else ((x % 2 ^ w : Nat) : Int) - (2 ^ w : Nat)

/-- The `w` low bits of a signed value in two's complement. -/
def ofSigned (w : Nat) (x : Int) : Nat := (x % ((2 ^ w : Nat) : Int)).toNat

/-- `x` cut to at most the largest value of `w` bits (saturating counters). -/
def satW (w x : Nat) : Nat := min x (2 ^ w - 1)

/-- A list padded with zero bytes, or cut, to exactly `n` bytes. -/
def fitBytes (n : Nat) (bs : Bytes) : Bytes := (bs ++ List.replicate (n - bs.length) 0).take n

/-- Ceiling of a quotient. -/
def cdiv (a b : Nat) : Nat := (a + b - 1) / b

/-- The least element of a list of numbers, or `d` if it is empty. -/
def minD (d : Nat) : List Nat → Nat
  | [] => d
  | x :: r => r.foldl min x

/-- The sum of a list of numbers. -/
def sumN (l : List Nat) : Nat := l.foldl (· + ·) 0

/-- The elements of a list with their positions, from `i`. -/
def enumFrom {α : Type} : Nat → List α → List (Nat × α)
  | _, [] => []
  | i, x :: r => (i, x) :: enumFrom (i + 1) r

/-- Chunks of `n` elements (a short last chunk is kept), at most `fuel` of them. -/
def chunks {α : Type} (n : Nat) : Nat → List α → List (List α)
  | 0, _ => []
  | fuel + 1, l => if l.isEmpty then [] else l.take n :: chunks n fuel (l.drop n)

end Sys2Proof.Machine
end

