-- ==== Sys2Proof/Machine/Crypto.lean ====
section
/-! DEFINITION. The public cryptographic functions that the spec names: SHA-256 (R180), SHA-384, HMAC and HKDF (R412,
R414), AES-256-GCM and the key wrap of NIST SP 800-38F (R413, R414), and ECDSA and ECDH over P-384 (R402, R414). -/

namespace Sys2Proof.Machine

/-- Rotation to the right of a `w`-bit word. -/
def rotr (w n x : Nat) : Nat := (x >>> n) ||| ((x <<< (w - n)) % 2 ^ w)

/-- Big-endian bytes as a number. -/
def beNat (bs : Bytes) : Nat := bs.foldl (fun a b => 256 * a + b.toNat) 0

/-- A number as `n` big-endian bytes. -/
def natBE (n x : Nat) : Bytes := (natLE n x).reverse

/-- The floor of the n-th root of x, found digit by digit in base 2 from digit k - 1 down; r holds the digits found. -/
def rootDigits (n x : Nat) : Nat → Nat → Nat
  | 0, r => r
  | k + 1, r => rootDigits n x k (if (r + 2 ^ k) ^ n ≤ x then r + 2 ^ k else r)

/-- The first w bits after the binary point of the n-th root of p, for a root below 8. -/
def rootBits (n w p : Nat) : Nat := rootDigits n (p * 2 ^ (n * w)) (w + 3) 0 % 2 ^ w

/-- The primes below 410: the 80 that the SHA-2 functions use. -/
def shaPrimes : List Nat :=
  (List.range 410).filter fun p => decide (2 ≤ p) && (List.range 21).all fun d => decide (d < 2) || decide (p ≤ d) || p % d != 0

/-- The constants of the rounds: bits of the cube roots of the primes, w of them for each (FIPS 180-4). -/
def shaRoundWords (w n : Nat) : List Nat := (shaPrimes.take n).map (rootBits 3 w)

/-- The hash value to begin with: bits of the square roots of eight primes, the first skipped ones left out (FIPS 180-4). -/
def shaStart (w skipped : Nat) : List Nat := ((shaPrimes.drop skipped).take 8).map (rootBits 2 w)

def sboxA : Bytes :=
  [0x63, 0x7c, 0x77, 0x7b, 0xf2, 0x6b, 0x6f, 0xc5, 0x30, 0x01, 0x67, 0x2b, 0xfe, 0xd7, 0xab, 0x76,
   0xca, 0x82, 0xc9, 0x7d, 0xfa, 0x59, 0x47, 0xf0, 0xad, 0xd4, 0xa2, 0xaf, 0x9c, 0xa4, 0x72, 0xc0,
   0xb7, 0xfd, 0x93, 0x26, 0x36, 0x3f, 0xf7, 0xcc, 0x34, 0xa5, 0xe5, 0xf1, 0x71, 0xd8, 0x31, 0x15,
   0x04, 0xc7, 0x23, 0xc3, 0x18, 0x96, 0x05, 0x9a, 0x07, 0x12, 0x80, 0xe2, 0xeb, 0x27, 0xb2, 0x75,
   0x09, 0x83, 0x2c, 0x1a, 0x1b, 0x6e, 0x5a, 0xa0, 0x52, 0x3b, 0xd6, 0xb3, 0x29, 0xe3, 0x2f, 0x84,
   0x53, 0xd1, 0x00, 0xed, 0x20, 0xfc, 0xb1, 0x5b, 0x6a, 0xcb, 0xbe, 0x39, 0x4a, 0x4c, 0x58, 0xcf,
   0xd0, 0xef, 0xaa, 0xfb, 0x43, 0x4d, 0x33, 0x85, 0x45, 0xf9, 0x02, 0x7f, 0x50, 0x3c, 0x9f, 0xa8,
   0x51, 0xa3, 0x40, 0x8f, 0x92, 0x9d, 0x38, 0xf5, 0xbc, 0xb6, 0xda, 0x21, 0x10, 0xff, 0xf3, 0xd2]

def sboxB : Bytes :=
  [0xcd, 0x0c, 0x13, 0xec, 0x5f, 0x97, 0x44, 0x17, 0xc4, 0xa7, 0x7e, 0x3d, 0x64, 0x5d, 0x19, 0x73,
   0x60, 0x81, 0x4f, 0xdc, 0x22, 0x2a, 0x90, 0x88, 0x46, 0xee, 0xb8, 0x14, 0xde, 0x5e, 0x0b, 0xdb,
   0xe0, 0x32, 0x3a, 0x0a, 0x49, 0x06, 0x24, 0x5c, 0xc2, 0xd3, 0xac, 0x62, 0x91, 0x95, 0xe4, 0x79,
   0xe7, 0xc8, 0x37, 0x6d, 0x8d, 0xd5, 0x4e, 0xa9, 0x6c, 0x56, 0xf4, 0xea, 0x65, 0x7a, 0xae, 0x08,
   0xba, 0x78, 0x25, 0x2e, 0x1c, 0xa6, 0xb4, 0xc6, 0xe8, 0xdd, 0x74, 0x1f, 0x4b, 0xbd, 0x8b, 0x8a,
   0x70, 0x3e, 0xb5, 0x66, 0x48, 0x03, 0xf6, 0x0e, 0x61, 0x35, 0x57, 0xb9, 0x86, 0xc1, 0x1d, 0x9e,
   0xe1, 0xf8, 0x98, 0x11, 0x69, 0xd9, 0x8e, 0x94, 0x9b, 0x1e, 0x87, 0xe9, 0xce, 0x55, 0x28, 0xdf,
   0x8c, 0xa1, 0x89, 0x0d, 0xbf, 0xe6, 0x42, 0x68, 0x41, 0x99, 0x2d, 0x0f, 0xb0, 0x54, 0xbb, 0x16]

/-- The parameters of a SHA-2 function (FIPS 180-4): word width, the round constants, the rotations of the two big and
the two small sigma functions, and the bytes of a length field. -/
structure ShaParam where
  w : Nat
  k : List Nat
  big0 : Nat × Nat × Nat
  big1 : Nat × Nat × Nat
  small0 : Nat × Nat × Nat
  small1 : Nat × Nat × Nat
  lenBytes : Nat

def sha256P : ShaParam := ⟨32, shaRoundWords 32 64, (2, 13, 22), (6, 11, 25), (7, 18, 3), (17, 19, 10), 8⟩
def sha384P : ShaParam := ⟨64, shaRoundWords 64 80, (28, 34, 39), (14, 18, 41), (1, 8, 7), (19, 61, 6), 16⟩

/-- A big sigma function. -/
def ShaParam.big (p : ShaParam) (r : Nat × Nat × Nat) (x : Nat) : Nat :=
  rotr p.w r.1 x ^^^ rotr p.w r.2.1 x ^^^ rotr p.w r.2.2 x

/-- A small sigma function, whose last move is a shift. -/
def ShaParam.small (p : ShaParam) (r : Nat × Nat × Nat) (x : Nat) : Nat :=
  rotr p.w r.1 x ^^^ rotr p.w r.2.1 x ^^^ (x >>> r.2.2)

/-- The message schedule, from its 16 latest words, latest first. -/
def shaSchedule (p : ShaParam) : Nat → List Nat → List Nat
  | 0, _ => []
  | n + 1, l =>
    let x := (p.small p.small1 (l.getD 1 0) + l.getD 6 0 + p.small p.small0 (l.getD 14 0) + l.getD 15 0) % 2 ^ p.w
    x :: shaSchedule p n (x :: l.take 15)

/-- The eight working variables. -/
structure ShaVars where
  a : Nat
  b : Nat
  c : Nat
  d : Nat
  e : Nat
  f : Nat
  g : Nat
  h : Nat

def shaRound (p : ShaParam) (v : ShaVars) (kw : Nat × Nat) : ShaVars :=
  let m := 2 ^ p.w
  let t1 := v.h + p.big p.big1 v.e + ((v.e &&& v.f) ^^^ ((m - 1 - v.e) &&& v.g)) + kw.1 + kw.2
  let t2 := p.big p.big0 v.a + ((v.a &&& v.b) ^^^ (v.a &&& v.c) ^^^ (v.b &&& v.c))
  ⟨(t1 + t2) % m, v.a, v.b, v.c, (v.d + t1) % m, v.e, v.f, v.g⟩

/-- One block of 16 words. -/
def shaBlock (p : ShaParam) (h : List Nat) (blk : Bytes) : List Nat :=
  let ws := (chunks (p.w / 8) 16 blk).map beNat
  let all := ws ++ shaSchedule p (p.k.length - 16) ws.reverse
  let v := (List.zip p.k all).foldl (shaRound p)
    ⟨h.getD 0 0, h.getD 1 0, h.getD 2 0, h.getD 3 0, h.getD 4 0, h.getD 5 0, h.getD 6 0, h.getD 7 0⟩
  (List.zip h [v.a, v.b, v.c, v.d, v.e, v.f, v.g, v.h]).map fun x => (x.1 + x.2) % 2 ^ p.w

/-- A whole message: padding, then block by block. -/
def shaRun (p : ShaParam) (h : List Nat) (msg : Bytes) : Bytes :=
  let b := 2 * p.w
  let n := msg.length
  let padded := msg ++ [0x80] ++ List.replicate ((2 * b - 1 - p.lenBytes - n % b) % b) 0 ++ natBE p.lenBytes (8 * n)
  ((chunks b (padded.length / b + 1) padded).foldl (shaBlock p) h).flatMap (natBE (p.w / 8))

/-- SHA-256: 32 bytes. -/
def sha256 (msg : Bytes) : Bytes := shaRun sha256P (shaStart 32 0) msg

/-- SHA-384: 48 bytes. -/
def sha384 (msg : Bytes) : Bytes := (shaRun sha384P (shaStart 64 8) msg).take 48

/-- Exclusive or of two byte strings. -/
def xorB (a b : Bytes) : Bytes := List.zipWith (· ^^^ ·) a b

/-- HMAC with SHA-384 (RFC 2104). -/
def hmac384 (key msg : Bytes) : Bytes :=
  let k := fitBytes 128 (if key.length ≤ 128 then key else sha384 key)
  sha384 (k.map (· ^^^ 0x5C) ++ sha384 (k.map (· ^^^ 0x36) ++ msg))

/-- HKDF with SHA-384 (RFC 5869), at most 48 bytes of output. -/
def hkdf384 (salt ikm info : Bytes) (n : Nat) : Bytes :=
  (hmac384 (hmac384 (if salt.isEmpty then List.replicate 48 0 else salt) ikm) (info ++ [1])).take n

/-- The S-box of AES. -/
def sbox (x : Byte) : Byte := (sboxA ++ sboxB).getD x.toNat 0

/-- Its inverse. -/
def invSbox (x : Byte) : Byte := BitVec.ofNat 8 ((sboxA ++ sboxB).findIdx (· == x))

/-- Multiplication by x in the field of AES. -/
def xtime (x : Byte) : Byte := if x.msb then (x <<< 1) ^^^ 0x1B else x <<< 1

/-- Multiplication by a small constant in the field of AES. -/
def gmul (c : Nat) (x : Byte) : Byte :=
  (if c.testBit 0 then x else 0) ^^^ (if c.testBit 1 then xtime x else 0) ^^^
  (if c.testBit 2 then xtime (xtime x) else 0) ^^^ (if c.testBit 3 then xtime (xtime (xtime x)) else 0)

/-- The words of the AES-256 key schedule after the first eight, from the eight latest (oldest first); `i` counts words
and `rc` is the round constant. -/
def aesExpand : Nat → Nat → Byte → List Bytes → List Bytes
  | 0, _, _, _ => []
  | n + 1, i, rc, l =>
    let t := l.getD 7 []
    let t' := if i % 8 = 0 then xorB ((t.drop 1 ++ t.take 1).map sbox) [rc, 0, 0, 0]
      else if i % 8 = 4 then t.map sbox else t
    let w := xorB (l.getD 0 []) t'
    w :: aesExpand n (i + 1) (if i % 8 = 0 then xtime rc else rc) (l.drop 1 ++ [w])

/-- The 15 round keys of AES-256. -/
def aesKeys (key : Bytes) : List Bytes :=
  let k := chunks 4 8 key
  (chunks 4 15 (k ++ aesExpand 52 8 1 k)).map List.flatten

/-- The state's bytes by a list of places. -/
def permB (p : List Nat) (s : Bytes) : Bytes := p.map fun i => s.getD i 0

def shiftRows (s : Bytes) : Bytes := permB [0, 5, 10, 15, 4, 9, 14, 3, 8, 13, 2, 7, 12, 1, 6, 11] s
def invShiftRows (s : Bytes) : Bytes := permB [0, 13, 10, 7, 4, 1, 14, 11, 8, 5, 2, 15, 12, 9, 6, 3] s

/-- The column mix with a row of coefficients. -/
def mixWith (c : List Nat) (s : Bytes) : Bytes :=
  (chunks 4 4 s).flatMap fun col => (List.range 4).map fun r =>
    (List.range 4).foldl (fun a j => a ^^^ gmul (c.getD ((j + 4 - r) % 4) 0) (col.getD j 0)) 0

/-- AES-256 of one block. -/
def aesEncrypt (ks : List Bytes) (blk : Bytes) : Bytes :=
  let s := xorB blk (ks.getD 0 [])
  let s := ((ks.drop 1).take 13).foldl (fun s k => xorB (mixWith [2, 3, 1, 1] (shiftRows (s.map sbox))) k) s
  xorB (shiftRows (s.map sbox)) (ks.getD 14 [])

/-- The inverse of AES-256 of one block. -/
def aesDecrypt (ks : List Bytes) (blk : Bytes) : Bytes :=
  let s := (invShiftRows (xorB blk (ks.getD 14 []))).map invSbox
  let s := ((ks.drop 1).take 13).reverse.foldl
    (fun s k => (invShiftRows (mixWith [14, 11, 13, 9] (xorB s k))).map invSbox) s
  xorB s (ks.getD 0 [])

/-- Multiplication in the field of GCM, first bit of a block most significant. -/
def gcmMulLoop : Nat → Nat → Nat → Nat → Nat → Nat
  | 0, _, _, _, z => z
  | n + 1, i, x, v, z =>
    gcmMulLoop n (i + 1) x (if v % 2 = 1 then (v >>> 1) ^^^ (0xE1 <<< 120) else v >>> 1)
      (if x.testBit (127 - i) then z ^^^ v else z)

def gcmMul (x y : Nat) : Nat := gcmMulLoop 128 0 x y 0

/-- Bytes padded with zeros to whole blocks of 16. -/
def pad16 (bs : Bytes) : Bytes := bs ++ List.replicate ((16 - bs.length % 16) % 16) 0

/-- The hash of GCM. -/
def ghash (h : Nat) (bs : Bytes) : Nat :=
  (chunks 16 (bs.length / 16 + 1) bs).foldl (fun y b => gcmMul (y ^^^ beNat b) h) 0

/-- Counter mode from counter 2, with a 12-byte IV: encryption and decryption alike. -/
def gcmCrypt (key iv data : Bytes) : Bytes :=
  let ks := aesKeys key
  (enumFrom 2 (chunks 16 (data.length / 16 + 1) data)).flatMap fun c => xorB c.2 (aesEncrypt ks (iv ++ natBE 4 c.1))

/-- The tag of AES-256-GCM over associated data and ciphertext. -/
def gcmTag (key iv aad cipher : Bytes) : Bytes :=
  let ks := aesKeys key
  let h := beNat (aesEncrypt ks (List.replicate 16 0))
  let y := ghash h (pad16 aad ++ pad16 cipher ++ natBE 8 (8 * aad.length) ++ natBE 8 (8 * cipher.length))
  xorB (natBE 16 y) (aesEncrypt ks (iv ++ natBE 4 1))

/-- The steps of the key unwrap, from step number `t` down. -/
def unwrapLoop (ks : List Bytes) (n : Nat) : Nat → Bytes → List Bytes → Bytes × List Bytes
  | 0, a, r => (a, r)
  | t + 1, a, r =>
    let i := t % n
    let b := aesDecrypt ks (natBE 8 (beNat a ^^^ (t + 1)) ++ r.getD i [])
    unwrapLoop ks n t (b.take 8) (r.set i (b.drop 8))

/-- The key unwrap of NIST SP 800-38F with an AES-256 key: the plaintext, if the check value matches. -/
def keyUnwrap (key c : Bytes) : Option Bytes :=
  let r := (chunks 8 (c.length / 8) c).drop 1
  let x := unwrapLoop (aesKeys key) r.length (6 * r.length) (c.take 8) r
  if x.1 = List.replicate 8 0xA6 then some x.2.flatten else none

/-- The prime, the order, the coefficient and the base point of P-384 (FIPS 186). -/
def p384 : Nat := 2 ^ 384 - 2 ^ 128 - 2 ^ 96 + 2 ^ 32 - 1
def p384n : Nat :=
  0xffffffffffffffffffffffffffffffffffffffffffffffffc7634d81f4372ddf581a0db248b0a77aecec196accc52973
def p384b : Nat :=
  0xb3312fa7e23ee7e4988e056be3f82d19181d9c6efe8141120314088f5013875ac656398d8a2ed19d2a85c8edd3ec2aef

/-- A power modulo m. -/
def powMod (m : Nat) : Nat → Nat → Nat → Nat
  | 0, _, _ => 1 % m
  | fuel + 1, x, e => if e = 0 then 1 % m else
    let r := powMod m fuel (x * x % m) (e / 2)
    if e % 2 = 1 then r * x % m else r

/-- The inverse modulo a prime. -/
def invMod (m x : Nat) : Nat := powMod m 400 x (m - 2)

/-- A point of the curve; none is the point at infinity. -/
abbrev Point := Option (Nat × Nat)

def p384g : Point := some
  (0xaa87ca22be8b05378eb1c71ef320ad746e1d3b628ba79b9859f741e082542a385502f25dbf55296c3a545e3872760ab7,
   0x3617de4a96262c6f5d9e98bf9292dc29f8f41dbd289a147ce9da3113b5f0b8c00a60b1ce1d7e819d7a431d7c90ea0e5f)

def onCurve (x y : Nat) : Bool :=
  decide (x < p384) && decide (y < p384) && (y * y % p384 == (x * x * x + (p384 - 3) * x + p384b) % p384)

def pointAdd : Point → Point → Point
  | none, q => q
  | p, none => p
  | some (x1, y1), some (x2, y2) =>
    if x1 = x2 ∧ (y1 + y2) % p384 = 0 then none
    else
      let l := if x1 = x2 then (3 * x1 * x1 + p384 - 3) * invMod p384 (2 * y1 % p384) % p384
        else (y2 + p384 - y1) * invMod p384 ((x2 + p384 - x1) % p384) % p384
      let x := (l * l + 2 * p384 - x1 - x2) % p384
      some (x, (l * (x1 + p384 - x) + p384 - y1) % p384)

def pointMul : Nat → Nat → Point → Point
  | 0, _, _ => none
  | fuel + 1, k, p => if k = 0 then none else
    let r := pointMul fuel (k / 2) (pointAdd p p)
    if k % 2 = 1 then pointAdd r p else r

/-- A public key of 96 bytes, x and y big-endian, from a private number. -/
def publicKey (d : Nat) : Bytes := match pointMul 384 (d % p384n) p384g with
  | some (x, y) => natBE 48 x ++ natBE 48 y
  | none => List.replicate 96 0

/-- The point that 96 bytes spell, if it lies on the curve. -/
def pointOf (k : Bytes) : Point :=
  let x := beNat (k.take 48)
  let y := beNat ((k.drop 48).take 48)
  if k.length = 96 ∧ onCurve x y = true then some (x, y) else none

/-- The shared secret of ECDH: the x coordinate, 48 bytes. -/
def ecdh (d : Nat) (k : Bytes) : Option Bytes :=
  match pointOf k with
  | some q => match pointMul 384 (d % p384n) (some q) with
    | some (x, _) => some (natBE 48 x)
    | none => none
  | none => none

/-- ECDSA over P-384 with SHA-384: key 96 bytes, signature r and s of 48 bytes each. -/
def ecdsaVerify (key msg sig : Bytes) : Bool :=
  let r := beNat (sig.take 48)
  let t := beNat ((sig.drop 48).take 48)
  match pointOf key with
  | none => false
  | some q =>
    if sig.length = 96 ∧ 0 < r ∧ r < p384n ∧ 0 < t ∧ t < p384n then
      let w := invMod p384n t
      let e := beNat (sha384 msg)
      match pointAdd (pointMul 384 (e * w % p384n) p384g) (pointMul 384 (r * w % p384n) (some q)) with
      | some (x, _) => x % p384n == r
      | none => false
    else false

end Sys2Proof.Machine
end

