-- ==== Sys2Proof/Machine/Num.lean ====
section
/-! DEFINITION. Exact values, the element formats, rounding and the correctly rounded functions (R53 to R60, R63, R65
to R72, R90). -/

namespace Sys2Proof.Machine

/-- An exact value: NaN, an infinity, or (-1)^neg × m × 2^e; zeros keep their sign. -/
inductive Val where
  | nan
  | inf (neg : Bool)
  | fin (neg : Bool) (m : Nat) (e : Int)
  deriving DecidableEq, Repr

/-- The parameters of a floating-point element format (Table 3-2). -/
structure FloatFmt where
  /-- Exponent bits. -/
  eb : Nat
  /-- Mantissa bits. -/
  mb : Nat
  bias : Nat
  /-- 0: infinities and NaNs as IEEE; 1: E4M3 (one NaN, no infinity); 2: neither. -/
  special : Nat
  deriving DecidableEq, Repr

/-- The float format behind a format code (Table 3-1); none for INT8, KC4 and reserved codes. -/
def floatFmt : Nat → Option FloatFmt
  | 0 => some ⟨8, 23, 127, 0⟩
  | 1 => some ⟨8, 7, 127, 0⟩
  | 2 => some ⟨5, 10, 15, 0⟩
  | 3 => some ⟨4, 3, 7, 1⟩
  | 4 => some ⟨5, 2, 15, 0⟩
  | 6 => some ⟨4, 3, 7, 1⟩
  | 7 => some ⟨5, 2, 15, 0⟩
  | 8 => some ⟨2, 3, 1, 2⟩
  | 9 => some ⟨3, 2, 3, 2⟩
  | 10 => some ⟨2, 1, 1, 2⟩
  | _ => none

/-- Element bits of a format code (Table 3-1); 0 for a reserved code. -/
def elemBits : Nat → Nat
  | 0 => 32
  | 1 => 16
  | 2 => 16
  | 3 => 8
  | 4 => 8
  | 5 => 8
  | 6 => 8
  | 7 => 8
  | 8 => 6
  | 9 => 6
  | 10 => 4
  | 11 => 4
  | _ => 0

/-- The format carries E8M0 block scales (Table 3-1). -/
def isMx (f : Nat) : Bool := decide (6 ≤ f) && decide (f ≤ 10)

/-- The exact value of a float element (R54). -/
def decodeFloat (p : FloatFmt) (c : Nat) : Val :=
  let s := c.testBit (p.eb + p.mb)
  let e := bits c (p.eb + p.mb - 1) p.mb
  let m := c % 2 ^ p.mb
  if p.special = 0 ∧ e = 2 ^ p.eb - 1 then (if m = 0 then .inf s else .nan)
  else if p.special = 1 ∧ e = 2 ^ p.eb - 1 ∧ m = 2 ^ p.mb - 1 then .nan
  else if e = 0 then .fin s m (1 - (p.bias : Int) - p.mb)
  else .fin s (2 ^ p.mb + m) ((e : Int) - p.bias - p.mb)

/-- The exact value of an element of a format code (R54; INT8 in two's complement). A KC4 index is not a value. -/
def decodeElem (f c : Nat) : Val :=
  if f = 5 then
    let x := toSigned 8 c
    .fin (decide (x < 0)) x.natAbs 0
  else match floatFmt f with
    | some p => decodeFloat p c
    | none => .nan

/-- The value times 2^k. -/
def Val.scale (k : Int) : Val → Val
  | .fin s m e => .fin s m (e + k)
  | v => v

/-- The value with its block scale folded in (R60). -/
def scaled (v : Val) (sc : Nat) : Val := if sc = 255 then .nan else v.scale ((sc : Int) - 127)

def Val.isNan : Val → Bool
  | .nan => true
  | _ => false

def Val.isInf : Val → Bool
  | .inf _ => true
  | _ => false

/-- The value is a zero of either sign. -/
def Val.isZero : Val → Bool
  | .fin _ m _ => m == 0
  | _ => false

/-- The value without its sign. -/
def Val.abs : Val → Val
  | .fin _ m e => .fin false m e
  | .inf _ => .inf false
  | .nan => .nan

def Val.neg : Val → Val
  | .fin s m e => .fin (!s) m e
  | .inf s => .inf (!s)
  | .nan => .nan

/-- m × 2^e as an integer number of units 2^u, truncated toward zero where u is above e. -/
def shiftTo (m : Nat) (e u : Int) : Nat := if u ≤ e then m <<< (e - u).toNat else m >>> (u - e).toNat

/-- The signed integer of a finite value in units of 2^u (u not above its exponent). -/
def signedAt (s : Bool) (m : Nat) (e u : Int) : Int := if s then -((shiftTo m e u : Nat) : Int) else ((shiftTo m e u : Nat) : Int)

/-- The exact sum; an exact zero of unequal signs is +0 (R57). -/
def Val.add : Val → Val → Val
  | .nan, _ => .nan
  | _, .nan => .nan
  | .inf a, .inf b => if a = b then .inf a else .nan
  | .inf a, .fin _ _ _ => .inf a
  | .fin _ _ _, .inf b => .inf b
  | .fin a m e, .fin b n f =>
    let u := min e f
    let x := signedAt a m e u + signedAt b n f u
    if x = 0 then .fin (a && b) 0 0 else .fin (decide (x < 0)) x.natAbs u

/-- The exact product (R65). -/
def Val.mul : Val → Val → Val
  | .nan, _ => .nan
  | _, .nan => .nan
  | .inf a, .inf b => .inf (a != b)
  | .inf a, .fin b m _ => if m = 0 then .nan else .inf (a != b)
  | .fin a m _, .inf b => if m = 0 then .nan else .inf (a != b)
  | .fin a m e, .fin b n f => .fin (a != b) (m * n) (e + f)

/-- Less-than over values that are not NaN; zeros of either sign compare equal. -/
def Val.lt : Val → Val → Bool
  | .inf true, .inf true => false
  | .inf true, .fin _ _ _ => true
  | .inf true, .inf false => true
  | .fin _ _ _, .inf false => true
  | .fin a m e, .fin b n f =>
    let u := min e f
    decide (signedAt a m e u < signedAt b n f u)
  | _, _ => false

/-- floor(log2 |v|) of a finite non-zero value. -/
def log2Of (m : Nat) (e : Int) : Int := (Nat.log2 m : Int) + e

/-- A magnitude m × 2^e on the grid with unit 2^q: mode 0 nearest even, 1 toward zero, 2 stochastic with draw r
(R67, R72). -/
def roundUnits (mode r m : Nat) (e q : Int) : Nat :=
  if q ≤ e then m <<< (e - q).toNat
  else
    let sh := (q - e).toNat
    let t := m >>> sh
    let rem := m - (t <<< sh)
    if mode = 0 then (if 2 * rem > 2 ^ sh ∨ (2 * rem = 2 ^ sh ∧ t % 2 = 1) then t + 1 else t)
    else if mode = 1 then t
    else if rem = 0 then t
    else if r < rem * 2 ^ 32 / 2 ^ sh then t + 1 else t

/-- The code of the largest finite value, without its sign (Table 3-2). -/
def maxCode (p : FloatFmt) : Nat :=
  if p.special = 0 then (2 ^ p.eb - 2) * 2 ^ p.mb + (2 ^ p.mb - 1)
  else if p.special = 1 then 2 ^ (p.eb + p.mb) - 2
  else 2 ^ (p.eb + p.mb) - 1

/-- The code of canonical NaN (R56); formats without NaN never ask for it. -/
def nanCode (p : FloatFmt) : Nat :=
  if p.special = 0 then (2 ^ p.eb - 1) * 2 ^ p.mb + 2 ^ (p.mb - 1)
  else 2 ^ (p.eb + p.mb) - 1

/-- E5M2's canonical NaN is 0x7F (R56), where the other IEEE-like formats have only the top mantissa bit set. -/
def canonicalNan (f : Nat) : Nat :=
  match floatFmt f with
  | some p => if p.special = 0 ∧ p.mb = 2 then 0x7F else nanCode p
  | none => 0

/-- The code of an infinity, without its sign. -/
def infCode (p : FloatFmt) : Nat := (2 ^ p.eb - 1) * 2 ^ p.mb

/-- A finite value rounded to a float format: its code, and whether the rounded magnitude exceeds the largest finite
value (R67, R72). -/
def roundFloat (p : FloatFmt) (mode r m : Nat) (e : Int) : Nat × Bool :=
  if m = 0 then (0, false)
  else
    let qmin : Int := 1 - (p.bias : Int) - p.mb
    let q := max (log2Of m e - p.mb) qmin
    let n := roundUnits mode r m e q
    let carry := decide (n = 2 ^ (p.mb + 1))
    let n' := if carry then 2 ^ p.mb else n
    let q' := if carry then q + 1 else q
    if n' < 2 ^ p.mb then (n', false)
    else
      let ef := q' + p.bias + p.mb
      let c := ef.toNat * 2 ^ p.mb + (n' - 2 ^ p.mb)
      (c, decide (maxCode p < c))

/-- A value in the code of a format: rounding mode, SAT and draw (R67, R68, R72). The flag says that a NaN went to
INT8, which is counted (R68). MX elements saturate (R68). -/
def encodeElem (f mode : Nat) (sat : Bool) (r : Nat) (v : Val) : Nat × Bool :=
  if f = 5 then
    match v with
    | .nan => (0, true)
    | .inf s => (if s then 0x80 else 0x7F, false)
    | .fin s m e =>
      let n := roundUnits mode r m e 0
      (if s then ofSigned 8 (-((min n 128 : Nat) : Int)) else min n 127, false)
  else match floatFmt f with
    | none => (0, false)
    | some p =>
      let sgn (s : Bool) := if s then 2 ^ (p.eb + p.mb) else 0
      let toMax := isMx f || decide (p.special ≠ 0) || sat
      match v with
      | .nan => (canonicalNan f, false)
      | .inf s => (sgn s + (if toMax then maxCode p else infCode p), false)
      | .fin s m e =>
        let (c, ov) := roundFloat p mode r m e
        (sgn s + (if ov then (if toMax || mode == 1 then maxCode p else infCode p) else c), false)

/-- RNE32: the FP32 code of the exact value rounded once to nearest even. -/
def fp32 (v : Val) : Nat := (encodeElem 0 0 false 0 v).1

/-- The value of an FP32 code. -/
def ofFp32 (c : Nat) : Val := decodeElem 0 c

/-- The exact value rounded once by RNE32, as a value. -/
def rn (v : Val) : Val := ofFp32 (fp32 v)

/-- The FP32 value 1.0. -/
def Val.one : Val := .fin false 1 0

/-- +0. -/
def Val.zero : Val := .fin false 0 0

/-- Division of exact values, kept to `60` bits with a sticky bit: enough for one rounding to FP32. A zero divisor gives
an infinity, 0/0 and inf/inf NaN. -/
def Val.div : Val → Val → Val
  | .nan, _ => .nan
  | _, .nan => .nan
  | .inf _, .inf _ => .nan
  | .inf a, .fin b _ _ => .inf (a != b)
  | .fin a _ _, .inf b => .fin (a != b) 0 0
  | .fin a m e, .fin b n f =>
    if n = 0 then (if m = 0 then .nan else .inf (a != b))
    else if m = 0 then .fin (a != b) 0 0
    else
      let k := Nat.log2 n + 60
      let q := (m <<< k) / n
      let sticky := if (m <<< k) % n = 0 then 0 else 1
      .fin (a != b) (2 * q + sticky) (e - f - k - 1)

/-- The exact 1/√v kept with a sticky bit (R90): ±infinity at ±0, NaN below 0. -/
def Val.rsqrt : Val → Val
  | .nan => .nan
  | .inf s => if s then .nan else .zero
  | .fin s m e =>
    if m = 0 then .inf s
    else if s then .nan
    else
      let m' := if e % 2 = 0 then m else 2 * m
      let e' := if e % 2 = 0 then e else e - 1
      let k := Nat.log2 m' + 60
      let q := Nat.sqrt ((1 <<< (2 * k)) / m')
      let sticky := if q * q * m' = 1 <<< (2 * k) then 0 else 1
      .fin false (2 * q + sticky) (-(e' / 2) - k - 1)

/-- Lower and upper bounds on exp of a number in [0, 2^7), in units of 2^-P: a Taylor sum at a 1,024th of the argument,
squared ten times. -/
def expLoop : Nat → Nat → Nat → Nat → Nat → Nat → Nat → Nat → Nat → Nat × Nat
  | 0, _, _, _, _, _, thi, slo, shi => (slo, shi + 2 * thi + 2)
  | fuel + 1, p, i, ylo, yhi, tlo, thi, slo, shi =>
    let tlo' := (tlo * ylo) / (2 ^ p * (i + 1))
    let thi' := (thi * yhi) / (2 ^ p * (i + 1)) + 1
    expLoop fuel p (i + 1) ylo yhi tlo' thi' (slo + tlo') (shi + thi')

/-- Repeated squaring of bounds in units of 2^-P. -/
def squareLoop : Nat → Nat → Nat → Nat → Nat × Nat
  | 0, _, lo, hi => (lo, hi)
  | k + 1, p, lo, hi => squareLoop k p (lo * lo / 2 ^ p) (hi * hi / 2 ^ p + 1)

/-- Bounds on exp(m × 2^e) in units of 2^-P, for an argument below 2^7. -/
def expBounds (p m : Nat) (e : Int) : Nat × Nat :=
  let ylo := shiftTo m (e - 10) (-(p : Int))
  let (lo, hi) := expLoop (p / 3 + 4) p 0 ylo (ylo + 1) (2 ^ p) (2 ^ p) (2 ^ p) (2 ^ p)
  squareLoop 10 p lo hi

/-- The first rounding on which both bounds agree, the precision doubling; exact results never come here. -/
def ziv (f : Nat → Val × Val) : Nat → Nat → Val
  | 0, p => rn (f p).1
  | fuel + 1, p =>
    let (lo, hi) := f p
    if fp32 lo = fp32 hi then rn lo else ziv f fuel (2 * p)

/-- exp correctly rounded to FP32 (R90). -/
def expCr : Val → Val
  | .nan => .nan
  | .inf s => if s then .zero else .inf false
  | .fin s m e =>
    if m = 0 then .one
    else if log2Of m e ≥ 7 then (if s then .zero else .inf false)
    else ziv (fun p =>
      let (lo, hi) := expBounds p m e
      if s then (.fin false (2 ^ (2 * p) / hi) (-(p : Int)), .fin false (2 ^ (2 * p) / lo + 1) (-(p : Int)))
      else (.fin false lo (-(p : Int)), .fin false hi (-(p : Int)))) 8 256

/-- Bounds on atanh(a/b), 0 ≤ a/b ≤ 1/3, in units of 2^-P. -/
def atanhLoop : Nat → Nat → Nat → Nat → Nat → Nat → Nat → Nat → Nat → Nat × Nat
  | 0, _, _, _, _, _, thi, slo, shi => (slo, shi + 2 * thi + 2)
  | fuel + 1, p, i, z2lo, z2hi, tlo, thi, slo, shi =>
    let tlo' := tlo * z2lo / 2 ^ p
    let thi' := thi * z2hi / 2 ^ p + 1
    atanhLoop fuel p (i + 1) z2lo z2hi tlo' thi' (slo + tlo' / (2 * i + 3)) (shi + thi' / (2 * i + 3) + 1)

def atanhBounds (p a b : Nat) : Nat × Nat :=
  let zlo := a * 2 ^ p / b
  let zhi := zlo + 1
  atanhLoop (p / 3 + 4) p 0 (zlo * zlo / 2 ^ p) (zhi * zhi / 2 ^ p + 1) zlo zhi zlo zhi

/-- A signed number of units 2^-P as a value. -/
def ofUnits (p : Nat) (x : Int) : Val := .fin (decide (x < 0)) x.natAbs (-(p : Int))

/-- ln correctly rounded to FP32: −infinity at ±0, NaN below 0 (R90). -/
def lnCr : Val → Val
  | .nan => .nan
  | .inf s => if s then .nan else .inf false
  | .fin s m e =>
    if m = 0 then .inf true
    else if s then .nan
    else
      let l := Nat.log2 m
      let k : Int := (l : Int) + e
      if m = 2 ^ l ∧ k = 0 then .zero
      else ziv (fun p =>
        let (flo, fhi) := atanhBounds p (m - 2 ^ l) (m + 2 ^ l)
        let (tlo, thi) := atanhBounds p 1 3
        let lo : Int := 2 * (flo : Int) + (if 0 ≤ k then k * 2 * (tlo : Int) else k * 2 * (thi : Int))
        let hi : Int := 2 * (fhi : Int) + (if 0 ≤ k then k * 2 * (thi : Int) else k * 2 * (tlo : Int))
        (ofUnits p lo, ofUnits p hi)) 8 256

/-- tanh correctly rounded to FP32 (R90, GELU). -/
def tanhCr : Val → Val
  | .nan => .nan
  | .inf s => .fin s 1 0
  | .fin s m e =>
    if m = 0 then .fin s 0 0
    else if log2Of m e ≥ 5 then .fin s 1 0
    else ziv (fun p =>
      let (lo, hi) := expBounds p m (e + 1)
      let one := 2 ^ p
      let tlo := one - (2 * one * one / (lo + one) + 1)
      let thi := one - 2 * one * one / (hi + one)
      (.fin s tlo (-(p : Int)), .fin s thi (-(p : Int)))) 8 256

/-- The larger value; +0 above −0; NaN if either is NaN (R90). -/
def Val.max (a b : Val) : Val :=
  if a.isNan || b.isNan then .nan
  else if a.lt b then b
  else if b.lt a then a
  else match a with
    | .fin true _ _ => b
    | _ => a

/-- The smaller value; −0 below +0; NaN if either is NaN (R90). -/
def Val.min (a b : Val) : Val :=
  if a.isNan || b.isNan then .nan
  else if a.lt b then a
  else if b.lt a then b
  else match a with
    | .fin true _ _ => a
    | _ => b

/-- The exact sum of a list of values (before its one rounding); the empty sum is +0. -/
def sumExact : List Val → Val
  | [] => .zero
  | v :: r => r.foldl Val.add v

/-- es: the exact sum rounded once (R90). -/
def es (l : List Val) : Val := rn (sumExact l)

/-- spool_rand: the four-round counter-based draw (R70). -/
def spoolRand (seed domain step lane : Nat) : Nat :=
  let m := 2 ^ 64
  let round (kx : Nat × Nat) : Nat × Nat :=
    let (k, x) := kx
    let x := (x + k) % m
    let x := x ^^^ (x >>> 31)
    let x := (x * 0x9e3779b97f4a7c15) % m
    let x := x ^^^ (x >>> 29)
    ((k + 0xd1b54a32d192ed03) % m, x)
  let k0 := (seed ^^^ (domain <<< 56)) % m
  let x0 := (step % 2 ^ 32) * 2 ^ 32 + lane % 2 ^ 32
  (round (round (round (round (k0, x0))))).2 >>> 32

/-- emax of the element format of an MX code (R69). -/
def mxEmax : Nat → Int
  | 10 => 2
  | 8 => 2
  | 9 => 4
  | 6 => 8
  | 7 => 15
  | _ => 0

/-- mx_quantize: the scale code and the element codes of one block of 32 (R69). -/
def mxQuantize (f mode seed step firstLane : Nat) (block : List Val) : Nat × List Nat :=
  if block.any fun v => v.isNan || v.isInf then (255, block.map fun _ => 0)
  else
    let amax := block.foldl (fun a v => if a.lt v.abs then v.abs else a) Val.zero
    match amax with
    | .fin _ m e =>
      if m = 0 then (127, block.map fun _ => 0)
      else
        let x := Max.max (-127) (Min.min 127 (log2Of m e - mxEmax f))
        ((x + 127).toNat, (enumFrom 0 block).map fun iv =>
          (encodeElem f mode true (spoolRand seed 0 step ((firstLane + iv.1) % 2 ^ 32)) (iv.2.scale (-x))).1)
    | _ => (255, block.map fun _ => 0)

/-- ktile_sum with the special operands settled first (R65, R78): 48-bit windows below the largest exponent. -/
def ktileSum (products : List Val) : Val :=
  if products.any Val.isNan then .nan
  else
    let pinf := products.any fun v => v == .inf false
    let ninf := products.any fun v => v == .inf true
    if pinf && ninf then .nan
    else if pinf then .inf false
    else if ninf then .inf true
    else
      let nz := products.filterMap fun v => match v with
        | .fin s m e => if m = 0 then none else some (s, m, e)
        | _ => none
      match nz with
      | [] => .zero
      | (_, m0, e0) :: r =>
        let e := r.foldl (fun a p => Max.max a (log2Of p.2.1 p.2.2)) (log2Of m0 e0)
        let total := nz.foldl (fun (t : Int) p => t + signedAt p.1 p.2.1 p.2.2 (e - 47)) 0
        if total = 0 then .zero else .fin (decide (total < 0)) total.natAbs (e - 47)

/-- accumulate: the accumulator code after one K-tile (R78, R79). -/
def accumulate (acc : Nat) (products : List Val) : Nat := fp32 ((ofFp32 acc).add (ktileSum products))

/-- Output conversion before the final rounding: c and v′ of R66. -/
def convertScaled (v sw sa mult : Val) : Val :=
  let c := fp32 ((rn (sw.mul sa)).mul mult)
  if c = fp32 .one then v else rn (v.mul (ofFp32 c))

end Sys2Proof.Machine
end

