-- ==== Sys2Proof/Machine/Fields.lean ====
section
/-! DEFINITION. Every register of the spec and every field of it, from the spec's own field tables
(R11 to R13, R423 to R429): where it lies, its bits, its access code and its reset value. -/

namespace Sys2Proof.Machine

/-- Access codes of Table 0-5 (R11). -/
inductive Access where
  | ro | rw | w1c | wo | rwl | rws
  deriving DecidableEq, Repr

/-- A register: its number here, whether it lies in a VF's BAR0 (else the PF's), the offset of instance 0, the
(stride, count) of each index, and its width in bits (R14, R423, R425, R427, R433). -/
structure Reg where
  code : Nat
  vf : Bool
  base : Nat
  dims : List (Nat × Nat)
  bits : Nat
  deriving DecidableEq, Repr

/-- A field: its number here, its register's number, its high and low bit, its access code and its reset value. A
reset value that the spec takes from fuses or from a store stands as 0 here; State.reset writes the fuse values
(log entries 3, 4). -/
structure Field where
  code : Nat
  reg : Nat
  hi : Nat
  lo : Nat
  acc : Access
  reset : Nat
  deriving DecidableEq, Repr

/-- Reel configuration (R52). -/
def Reg.REEL_CFG : Reg := ⟨0, false, 0x2000, [], 32⟩
/-- REEL_CFG[31:31], RWL, reset 0. -/
def Field.REEL_CFG_LOCK : Field := ⟨0, 0, 31, 31, .rwl, 0⟩
/-- REEL_CFG[23:8], RWL, reset 0x0100. -/
def Field.REEL_CFG_SLACK_WARN : Field := ⟨1, 0, 23, 8, .rwl, 0x100⟩
/-- REEL_CFG[7:0], RWL, reset 0x40. -/
def Field.REEL_CFG_LOCK_FRAMES : Field := ⟨2, 0, 7, 0, .rwl, 0x40⟩
/-- Reference set (R52). -/
def Reg.REEL_REFSET : Reg := ⟨1, false, 0x2008, [], 64⟩
/-- REEL_REFSET[63:0], RWL, reset 0xFFFF_FFFF_FFFF_FFFF. -/
def Field.REEL_REFSET_PORTS : Field := ⟨3, 1, 63, 0, .rwl, 0xffffffffffffffff⟩
/-- Reel status (R52). -/
def Reg.REEL_STAT : Reg := ⟨2, false, 0x2010, [], 32⟩
/-- REEL_STAT[27:24], RO, reset 0. -/
def Field.REEL_STAT_CAUSE : Field := ⟨4, 2, 27, 24, .ro, 0⟩
/-- REEL_STAT[18:16], RO, reset 2. -/
def Field.REEL_STAT_PERIOD : Field := ⟨5, 2, 18, 16, .ro, 2⟩
/-- REEL_STAT[15:15], RO, reset 0. -/
def Field.REEL_STAT_REF_VALID : Field := ⟨6, 2, 15, 15, .ro, 0⟩
/-- REEL_STAT[13:8], RO, reset 0. -/
def Field.REEL_STAT_REF_PORT : Field := ⟨7, 2, 13, 8, .ro, 0⟩
/-- REEL_STAT[2:0], RO, reset 0. -/
def Field.REEL_STAT_STATE : Field := ⟨8, 2, 2, 0, .ro, 0⟩
/-- Reel Count (R52). -/
def Reg.REEL_COUNT : Reg := ⟨3, false, 0x2018, [], 64⟩
/-- REEL_COUNT[63:0], RO, reset 0. -/
def Field.REEL_COUNT_COUNT : Field := ⟨9, 3, 63, 0, .ro, 0⟩
/-- Cycle in frame (R52). -/
def Reg.REEL_CYCLE : Reg := ⟨4, false, 0x2020, [], 32⟩
/-- REEL_CYCLE[13:0], RO, reset 0. -/
def Field.REEL_CYCLE_CYCLE : Field := ⟨10, 4, 13, 0, .ro, 0⟩
/-- Holdover count (R52). -/
def Reg.REEL_HOLD : Reg := ⟨5, false, 0x2024, [], 32⟩
/-- REEL_HOLD[26:16], RO, reset 0. -/
def Field.REEL_HOLD_LAST : Field := ⟨11, 5, 26, 16, .ro, 0⟩
/-- REEL_HOLD[10:0], RO, reset 0. -/
def Field.REEL_HOLD_CURRENT : Field := ⟨12, 5, 10, 0, .ro, 0⟩
/-- Phase error (R52). -/
def Reg.REEL_PHASE : Reg := ⟨6, false, 0x2028, [], 32⟩
/-- REEL_PHASE[31:0], RO, reset 0. -/
def Field.REEL_PHASE_ERROR : Field := ⟨13, 6, 31, 0, .ro, 0⟩
/-- Reel control (R52). -/
def Reg.REEL_CTL : Reg := ⟨7, false, 0x2030, [], 32⟩
/-- REEL_CTL[1:1], WO, reset 0. -/
def Field.REEL_CTL_RESUME : Field := ⟨14, 7, 1, 1, .wo, 0⟩
/-- REEL_CTL[0:0], WO, reset 0. -/
def Field.REEL_CTL_RESELECT : Field := ⟨15, 7, 0, 0, .wo, 0⟩
/-- Reel events (R52). -/
def Reg.REEL_EVT : Reg := ⟨8, false, 0x2034, [], 32⟩
/-- REEL_EVT[6:6], W1C, reset 0. -/
def Field.REEL_EVT_PERIOD_CHANGE : Field := ⟨16, 8, 6, 6, .w1c, 0⟩
/-- REEL_EVT[5:5], W1C, reset 0. -/
def Field.REEL_EVT_BEACON_DISCARD : Field := ⟨17, 8, 5, 5, .w1c, 0⟩
/-- REEL_EVT[4:4], W1C, reset 0. -/
def Field.REEL_EVT_RELOCK : Field := ⟨18, 8, 4, 4, .w1c, 0⟩
/-- REEL_EVT[3:3], W1C, reset 0. -/
def Field.REEL_EVT_LOST : Field := ⟨19, 8, 3, 3, .w1c, 0⟩
/-- REEL_EVT[2:2], W1C, reset 0. -/
def Field.REEL_EVT_HOLDOVER_EXIT : Field := ⟨20, 8, 2, 2, .w1c, 0⟩
/-- REEL_EVT[1:1], W1C, reset 0. -/
def Field.REEL_EVT_HOLDOVER_ENTER : Field := ⟨21, 8, 1, 1, .w1c, 0⟩
/-- REEL_EVT[0:0], W1C, reset 0. -/
def Field.REEL_EVT_REF_CHANGE : Field := ⟨22, 8, 0, 0, .w1c, 0⟩
/-- Announced period change (R52). -/
def Reg.REEL_PERIOD_NEXT : Reg := ⟨9, false, 0x2038, [], 64⟩
/-- REEL_PERIOD_NEXT[63:63], RO, reset 0. -/
def Field.REEL_PERIOD_NEXT_VALID : Field := ⟨23, 9, 63, 63, .ro, 0⟩
/-- REEL_PERIOD_NEXT[58:56], RO, reset 0. -/
def Field.REEL_PERIOD_NEXT_CODE : Field := ⟨24, 9, 58, 56, .ro, 0⟩
/-- REEL_PERIOD_NEXT[55:0], RO, reset 0. -/
def Field.REEL_PERIOD_NEXT_FRAME : Field := ⟨25, 9, 55, 0, .ro, 0⟩
/-- Partition slack, p = 0 to 15 (R52). -/
def Reg.REEL_SLACK : Reg := ⟨10, false, 0x2100, [(8, 16)], 64⟩
/-- REEL_SLACK[63:32], RO, reset 0. -/
def Field.REEL_SLACK_FRAME : Field := ⟨26, 10, 63, 32, .ro, 0⟩
/-- REEL_SLACK[31:0], RO, reset 0x7FFF_FFFF. -/
def Field.REEL_SLACK_MIN_SLACK : Field := ⟨27, 10, 31, 0, .ro, 0x7fffffff⟩
/-- Discarded beacons, port n = 0 to 63 (R52). -/
def Reg.REEL_BEACON_ERR : Reg := ⟨11, false, 0x2200, [(4, 64)], 32⟩
/-- REEL_BEACON_ERR[31:0], RWS, reset 0. -/
def Field.REEL_BEACON_ERR_COUNT : Field := ⟨28, 11, 31, 0, .rws, 0⟩
/-- Sparse path control (R112). -/
def Reg.PART_SPARSE : Reg := ⟨12, false, 0x100c0, [(0x1000, 16)], 32⟩
/-- PART_SPARSE[25:25], RWS, reset 0. -/
def Field.PART_SPARSE_DROP_FAULT_EN : Field := ⟨29, 12, 25, 25, .rws, 0⟩
/-- PART_SPARSE[24:9], RWS, reset 0x0001. -/
def Field.PART_SPARSE_DROP_LIMIT : Field := ⟨30, 12, 24, 9, .rws, 1⟩
/-- PART_SPARSE[8:0], RWS, reset 0x04C. -/
def Field.PART_SPARSE_MERGE_MAX_ROWS : Field := ⟨31, 12, 8, 0, .rws, 0x4c⟩
/-- Dropped-index counts (R112). -/
def Reg.CORE_DROP : Reg := ⟨13, false, 0x20080, [(0x100, 96)], 64⟩
/-- CORE_DROP[63:32], RO, reset 0. -/
def Field.CORE_DROP_TOTAL : Field := ⟨32, 13, 63, 32, .ro, 0⟩
/-- CORE_DROP[15:0], RO, reset 0. -/
def Field.CORE_DROP_TASK : Field := ⟨33, 13, 15, 0, .ro, 0⟩
/-- Tiles by path (R112). -/
def Reg.CORE_PATHS : Reg := ⟨14, false, 0x20088, [(0x100, 96)], 64⟩
/-- CORE_PATHS[63:48], RO, reset 0. -/
def Field.CORE_PATHS_EXPANDED : Field := ⟨34, 14, 63, 48, .ro, 0⟩
/-- CORE_PATHS[47:32], RO, reset 0. -/
def Field.CORE_PATHS_MERGE : Field := ⟨35, 14, 47, 32, .ro, 0⟩
/-- CORE_PATHS[31:16], RO, reset 0. -/
def Field.CORE_PATHS_STRUCT : Field := ⟨36, 14, 31, 16, .ro, 0⟩
/-- CORE_PATHS[15:0], RO, reset 0. -/
def Field.CORE_PATHS_DENSE : Field := ⟨37, 14, 15, 0, .ro, 0⟩
/-- Prune counts (R112). -/
def Reg.CORE_PRUNE : Reg := ⟨15, false, 0x20090, [(0x100, 96)], 64⟩
/-- CORE_PRUNE[63:32], RO, reset 0. -/
def Field.CORE_PRUNE_GROUPS : Field := ⟨38, 15, 63, 32, .ro, 0⟩
/-- CORE_PRUNE[31:0], RO, reset 0. -/
def Field.CORE_PRUNE_TIES : Field := ⟨39, 15, 31, 0, .ro, 0⟩
/-- Hazard counts (R138). -/
def Reg.CORE_TMEM_HAZ : Reg := ⟨16, false, 0x200a0, [(0x100, 96)], 64⟩
/-- CORE_TMEM_HAZ[63:32], RO, reset 0. -/
def Field.CORE_TMEM_HAZ_TOTAL : Field := ⟨40, 16, 63, 32, .ro, 0⟩
/-- CORE_TMEM_HAZ[31:16], RO, reset 0. -/
def Field.CORE_TMEM_HAZ_WW : Field := ⟨41, 16, 31, 16, .ro, 0⟩
/-- CORE_TMEM_HAZ[15:0], RO, reset 0. -/
def Field.CORE_TMEM_HAZ_TASK : Field := ⟨42, 16, 15, 0, .ro, 0⟩
/-- Open windows (R138). -/
def Reg.CORE_TMEM_WIN : Reg := ⟨17, false, 0x200a8, [(0x100, 96)], 64⟩
/-- CORE_TMEM_WIN[63:0], RO, reset 0. -/
def Field.CORE_TMEM_WIN_OPEN : Field := ⟨43, 17, 63, 0, .ro, 0⟩
/-- Stable ranges and violations (R138). -/
def Reg.CORE_TMEM_STAB : Reg := ⟨18, false, 0x200b0, [(0x100, 96)], 64⟩
/-- CORE_TMEM_STAB[63:32], RO, reset 0. -/
def Field.CORE_TMEM_STAB_VIOL_TOTAL : Field := ⟨44, 18, 63, 32, .ro, 0⟩
/-- CORE_TMEM_STAB[15:0], RO, reset 0. -/
def Field.CORE_TMEM_STAB_STABLE_OPEN : Field := ⟨45, 18, 15, 0, .ro, 0⟩
/-- Error counts (R138). -/
def Reg.CORE_TMEM_ECC : Reg := ⟨19, false, 0x200b8, [(0x100, 96)], 64⟩
/-- CORE_TMEM_ECC[63:32], RO, reset 0. -/
def Field.CORE_TMEM_ECC_CORRECTED : Field := ⟨46, 19, 63, 32, .ro, 0⟩
/-- CORE_TMEM_ECC[31:0], RO, reset 0. -/
def Field.CORE_TMEM_ECC_UNCORRECTABLE : Field := ⟨47, 19, 31, 0, .ro, 0⟩
/-- Clearing status (R138). -/
def Reg.CORE_TMEM_CLR : Reg := ⟨20, false, 0x200c0, [(0x100, 96)], 64⟩
/-- CORE_TMEM_CLR[63:63], RO, reset 0. -/
def Field.CORE_TMEM_CLR_BUSY : Field := ⟨48, 20, 63, 63, .ro, 0⟩
/-- CORE_TMEM_CLR[62:60], RO, reset 0. -/
def Field.CORE_TMEM_CLR_CAUSE : Field := ⟨49, 20, 62, 60, .ro, 0⟩
/-- CORE_TMEM_CLR[55:0], RO, reset 0. -/
def Field.CORE_TMEM_CLR_FRAME : Field := ⟨50, 20, 55, 0, .ro, 0⟩
/-- Bridle lane shares (R154). -/
def Reg.PART_BRIDLE : Reg := ⟨21, false, 0x100c8, [(0x1000, 16)], 64⟩
/-- PART_BRIDLE[63:63], RO, reset 0. -/
def Field.PART_BRIDLE_BOUND : Field := ⟨51, 21, 63, 63, .ro, 0⟩
/-- PART_BRIDLE[56:48], RO, reset 0. -/
def Field.PART_BRIDLE_BASE : Field := ⟨52, 21, 56, 48, .ro, 0⟩
/-- PART_BRIDLE[40:32], RWS, reset 0. -/
def Field.PART_BRIDLE_REMOTE : Field := ⟨53, 21, 40, 32, .rws, 0⟩
/-- PART_BRIDLE[24:16], RWS, reset 0. -/
def Field.PART_BRIDLE_WRITE : Field := ⟨54, 21, 24, 16, .rws, 0⟩
/-- PART_BRIDLE[8:0], RWS, reset 0. -/
def Field.PART_BRIDLE_READ : Field := ⟨55, 21, 8, 0, .rws, 0⟩
/-- Outgoing link status (R157). -/
def Reg.CORE_BRIDLE_LINK : Reg := ⟨22, false, 0x200d0, [(0x100, 96)], 64⟩
/-- CORE_BRIDLE_LINK[63:62], RO, reset 0. -/
def Field.CORE_BRIDLE_LINK_STATE : Field := ⟨56, 22, 63, 62, .ro, 0⟩
/-- CORE_BRIDLE_LINK[59:56], RO, reset 0. -/
def Field.CORE_BRIDLE_LINK_SPARES_USED : Field := ⟨57, 22, 59, 56, .ro, 0⟩
/-- CORE_BRIDLE_LINK[47:32], RO, reset 0. -/
def Field.CORE_BRIDLE_LINK_UNCORRECTABLE : Field := ⟨58, 22, 47, 32, .ro, 0⟩
/-- CORE_BRIDLE_LINK[31:0], RO, reset 0. -/
def Field.CORE_BRIDLE_LINK_CORRECTED : Field := ⟨59, 22, 31, 0, .ro, 0⟩
/-- Stack status (R173). -/
def Reg.HBM_STAT : Reg := ⟨23, false, 0x40000, [(0x400, 48)], 32⟩
/-- HBM_STAT[31:16], RO, reset 0. -/
def Field.HBM_STAT_WW : Field := ⟨60, 23, 31, 16, .ro, 0⟩
/-- HBM_STAT[2:0], RO, reset 0. -/
def Field.HBM_STAT_STATE : Field := ⟨61, 23, 2, 0, .ro, 0⟩
/-- Error counts (R173). -/
def Reg.HBM_ECC : Reg := ⟨24, false, 0x40008, [(0x400, 48)], 64⟩
/-- HBM_ECC[63:32], RO, reset 0. -/
def Field.HBM_ECC_CORRECTED : Field := ⟨62, 24, 63, 32, .ro, 0⟩
/-- HBM_ECC[31:0], RO, reset 0. -/
def Field.HBM_ECC_UNCORRECTABLE : Field := ⟨63, 24, 31, 0, .ro, 0⟩
/-- Patrol position (R173). -/
def Reg.HBM_SCRUB : Reg := ⟨25, false, 0x40010, [(0x400, 48)], 64⟩
/-- HBM_SCRUB[63:32], RO, reset 0. -/
def Field.HBM_SCRUB_PASSES : Field := ⟨64, 25, 63, 32, .ro, 0⟩
/-- HBM_SCRUB[31:0], RO, reset 0. -/
def Field.HBM_SCRUB_POSITION : Field := ⟨65, 25, 31, 0, .ro, 0⟩
/-- ERT range (R173). -/
def Reg.PART_ERT : Reg := ⟨26, false, 0x100d0, [(0x1000, 16)], 64⟩
/-- PART_ERT[50:32], RO, reset 0. -/
def Field.PART_ERT_COUNT : Field := ⟨66, 26, 50, 32, .ro, 0⟩
/-- PART_ERT[17:0], RO, reset 0. -/
def Field.PART_ERT_BASE : Field := ⟨67, 26, 17, 0, .ro, 0⟩
/-- ERT generations (R173). -/
def Reg.PART_ERT_GEN : Reg := ⟨27, false, 0x100d8, [(0x1000, 16)], 64⟩
/-- PART_ERT_GEN[63:32], RW, reset 0. -/
def Field.PART_ERT_GEN_SHADOW : Field := ⟨68, 27, 63, 32, .rw, 0⟩
/-- PART_ERT_GEN[31:0], RO, reset 0. -/
def Field.PART_ERT_GEN_COMMITTED : Field := ⟨69, 27, 31, 0, .ro, 0⟩
/-- ERT switch control (R173). -/
def Reg.PART_ERT_CTL : Reg := ⟨28, false, 0x100e0, [(0x1000, 16)], 32⟩
/-- PART_ERT_CTL[2:2], W1C, reset 0. -/
def Field.PART_ERT_CTL_REJECT : Field := ⟨70, 28, 2, 2, .w1c, 0⟩
/-- PART_ERT_CTL[1:1], RO, reset 0. -/
def Field.PART_ERT_CTL_SYNC_BUSY : Field := ⟨71, 28, 1, 1, .ro, 0⟩
/-- PART_ERT_CTL[0:0], WO, reset 0. -/
def Field.PART_ERT_CTL_SWITCH : Field := ⟨72, 28, 0, 0, .wo, 0⟩
/-- Staging pool (R208). -/
def Reg.PART_STAGE : Reg := ⟨29, false, 0x100e8, [(0x1000, 16)], 64⟩
/-- PART_STAGE[47:40], RO, reset 0. -/
def Field.PART_STAGE_SPEC_MAX : Field := ⟨73, 29, 47, 40, .ro, 0⟩
/-- PART_STAGE[39:32], RWS, reset 0. -/
def Field.PART_STAGE_BUF_COUNT : Field := ⟨74, 29, 39, 32, .rws, 0⟩
/-- PART_STAGE[29:16], RWS, reset 0. -/
def Field.PART_STAGE_BUF_ROWS : Field := ⟨75, 29, 29, 16, .rws, 0⟩
/-- PART_STAGE[13:0], RWS, reset 0. -/
def Field.PART_STAGE_BASE_ROW : Field := ⟨76, 29, 13, 0, .rws, 0⟩
/-- Model switch status (R208). -/
def Reg.PART_MODEL_CTL : Reg := ⟨30, false, 0x100f0, [(0x1000, 16)], 32⟩
/-- PART_MODEL_CTL[2:2], W1C, reset 0. -/
def Field.PART_MODEL_CTL_REJECT : Field := ⟨77, 30, 2, 2, .w1c, 0⟩
/-- PART_MODEL_CTL[1:1], W1C, reset 0. -/
def Field.PART_MODEL_CTL_SWITCHED : Field := ⟨78, 30, 1, 1, .w1c, 0⟩
/-- PART_MODEL_CTL[0:0], RO, reset 0. -/
def Field.PART_MODEL_CTL_PENDING : Field := ⟨79, 30, 0, 0, .ro, 0⟩
/-- Digest scrubber (R208). -/
def Reg.STRM_SCRUB_CFG : Reg := ⟨31, false, 0x60000, [], 32⟩
/-- STRM_SCRUB_CFG[16:0], RW, reset 0x0_0384. -/
def Field.STRM_SCRUB_CFG_INTERVAL : Field := ⟨80, 31, 16, 0, .rw, 0x384⟩
/-- Digest scrubber counts (R208). -/
def Reg.STRM_SCRUB_STAT : Reg := ⟨32, false, 0x60008, [], 64⟩
/-- STRM_SCRUB_STAT[63:32], RO, reset 0. -/
def Field.STRM_SCRUB_STAT_CHECKED : Field := ⟨81, 32, 63, 32, .ro, 0⟩
/-- STRM_SCRUB_STAT[31:0], RO, reset 0. -/
def Field.STRM_SCRUB_STAT_BAD : Field := ⟨82, 32, 31, 0, .ro, 0⟩
/-- Allocation counts, p = 0 to 15 (R208). -/
def Reg.STRM_DEFER : Reg := ⟨33, false, 0x60100, [(0x10, 16)], 64⟩
/-- STRM_DEFER[63:32], RO, reset 0. -/
def Field.STRM_DEFER_EXHAUSTED : Field := ⟨83, 33, 63, 32, .ro, 0⟩
/-- STRM_DEFER[31:0], RO, reset 0. -/
def Field.STRM_DEFER_DEFERRALS : Field := ⟨84, 33, 31, 0, .ro, 0⟩
/-- Stream fault counts, p = 0 to 15 (R208). -/
def Reg.STRM_FAIL : Reg := ⟨34, false, 0x60108, [(0x10, 16)], 64⟩
/-- STRM_FAIL[63:32], RO, reset 0. -/
def Field.STRM_FAIL_DIGEST : Field := ⟨85, 34, 63, 32, .ro, 0⟩
/-- STRM_FAIL[31:16], RO, reset 0. -/
def Field.STRM_FAIL_OVERRUN : Field := ⟨86, 34, 31, 16, .ro, 0⟩
/-- STRM_FAIL[15:0], RO, reset 0. -/
def Field.STRM_FAIL_UNDERRUN : Field := ⟨87, 34, 15, 0, .ro, 0⟩
/-- Prediction slots (R225). -/
def Reg.PART_SPEC_STATE : Reg := ⟨35, false, 0x100f8, [(0x1000, 16)], 32⟩
/-- PART_SPEC_STATE[31:16], RO, reset 0. -/
def Field.PART_SPEC_STATE_REFUTED : Field := ⟨88, 35, 31, 16, .ro, 0⟩
/-- PART_SPEC_STATE[15:0], RO, reset 0. -/
def Field.PART_SPEC_STATE_PENDING : Field := ⟨89, 35, 15, 0, .ro, 0⟩
/-- Prediction outcomes (R225). -/
def Reg.PART_SPEC_CNT : Reg := ⟨36, false, 0x10100, [(0x1000, 16)], 64⟩
/-- PART_SPEC_CNT[63:40], RO, reset 0. -/
def Field.PART_SPEC_CNT_SQUASHED : Field := ⟨90, 36, 63, 40, .ro, 0⟩
/-- PART_SPEC_CNT[39:16], RO, reset 0. -/
def Field.PART_SPEC_CNT_CONFIRMED : Field := ⟨91, 36, 39, 16, .ro, 0⟩
/-- PART_SPEC_CNT[15:8], RO, reset 0. -/
def Field.PART_SPEC_CNT_HELD_FAULTS : Field := ⟨92, 36, 15, 8, .ro, 0⟩
/-- PART_SPEC_CNT[7:0], RO, reset 0. -/
def Field.PART_SPEC_CNT_STRAY : Field := ⟨93, 36, 7, 0, .ro, 0⟩
/-- Discarded bytes (R225). -/
def Reg.PART_SPEC_BYTES : Reg := ⟨37, false, 0x10108, [(0x1000, 16)], 64⟩
/-- PART_SPEC_BYTES[63:0], RO, reset 0. -/
def Field.PART_SPEC_BYTES_BYTES : Field := ⟨94, 37, 63, 0, .ro, 0⟩
/-- Dispatch results (R225). -/
def Reg.PART_SPILL : Reg := ⟨38, false, 0x10110, [(0x1000, 16)], 64⟩
/-- PART_SPILL[63:32], RO, reset 0. -/
def Field.PART_SPILL_BLOCKS_RUN : Field := ⟨95, 38, 63, 32, .ro, 0⟩
/-- PART_SPILL[31:16], RO, reset 0. -/
def Field.PART_SPILL_LAST_SPILLED : Field := ⟨96, 38, 31, 16, .ro, 0⟩
/-- PART_SPILL[15:0], RO, reset 0. -/
def Field.PART_SPILL_LAST_MAX : Field := ⟨97, 38, 15, 0, .ro, 0⟩
/-- Accumulator map (R225). -/
def Reg.CORE_ACC_MAP : Reg := ⟨39, false, 0x200d8, [(0x100, 96)], 32⟩
/-- CORE_ACC_MAP[23:0], RO, reset 0xFA_C688. -/
def Field.CORE_ACC_MAP_MAP : Field := ⟨98, 39, 23, 0, .ro, 0xfac688⟩
/-- Reduce outcomes (R238). -/
def Reg.CORE_RED_CNT : Reg := ⟨40, false, 0x200e0, [(0x100, 96)], 64⟩
/-- CORE_RED_CNT[63:32], RO, reset 0. -/
def Field.CORE_RED_CNT_FLUSHED : Field := ⟨99, 40, 63, 32, .ro, 0⟩
/-- CORE_RED_CNT[31:16], RO, reset 0. -/
def Field.CORE_RED_CNT_RANGE : Field := ⟨100, 40, 31, 16, .ro, 0⟩
/-- CORE_RED_CNT[15:0], RO, reset 0. -/
def Field.CORE_RED_CNT_NAN : Field := ⟨101, 40, 15, 0, .ro, 0⟩
/-- Gather entries (R238). -/
def Reg.CORE_GATHER : Reg := ⟨41, false, 0x200e8, [(0x100, 96)], 64⟩
/-- CORE_GATHER[63:48], RO, reset 0. -/
def Field.CORE_GATHER_MISSES : Field := ⟨102, 41, 63, 48, .ro, 0⟩
/-- CORE_GATHER[40:32], RO, reset 0. -/
def Field.CORE_GATHER_ARMED : Field := ⟨103, 41, 40, 32, .ro, 0⟩
/-- CORE_GATHER[31:0], RO, reset 0. -/
def Field.CORE_GATHER_SET : Field := ⟨104, 41, 31, 0, .ro, 0⟩
/-- Collective counts (R238). -/
def Reg.PART_COLL : Reg := ⟨42, false, 0x10118, [(0x1000, 16)], 64⟩
/-- PART_COLL[63:32], RO, reset 0. -/
def Field.PART_COLL_MISMATCH : Field := ⟨105, 42, 63, 32, .ro, 0⟩
/-- PART_COLL[31:0], RO, reset 0. -/
def Field.PART_COLL_INEXACT : Field := ⟨106, 42, 31, 0, .ro, 0⟩
/-- Port configuration (R267). -/
def Reg.TETH_CFG : Reg := ⟨43, false, 0x30000, [(0x400, 64)], 32⟩
/-- TETH_CFG[31:16], RW, reset 0x0010. -/
def Field.TETH_CFG_UNCORR_LIMIT : Field := ⟨107, 43, 31, 16, .rw, 0x10⟩
/-- TETH_CFG[15:8], RW, reset 0x40. -/
def Field.TETH_CFG_LANE_ERR_LIMIT : Field := ⟨108, 43, 15, 8, .rw, 0x40⟩
/-- TETH_CFG[1:1], RW, reset 1. -/
def Field.TETH_CFG_NARROW_EN : Field := ⟨109, 43, 1, 1, .rw, 1⟩
/-- TETH_CFG[0:0], RW, reset 0. -/
def Field.TETH_CFG_ENABLE : Field := ⟨110, 43, 0, 0, .rw, 0⟩
/-- Port control (R267). -/
def Reg.TETH_CTL : Reg := ⟨44, false, 0x30004, [(0x400, 64)], 32⟩
/-- TETH_CTL[3:3], WO, reset 0. -/
def Field.TETH_CTL_ONLINE : Field := ⟨111, 44, 3, 3, .wo, 0⟩
/-- TETH_CTL[2:2], WO, reset 0. -/
def Field.TETH_CTL_LOOPBACK : Field := ⟨112, 44, 2, 2, .wo, 0⟩
/-- TETH_CTL[1:1], WO, reset 0. -/
def Field.TETH_CTL_OFFLINE : Field := ⟨113, 44, 1, 1, .wo, 0⟩
/-- TETH_CTL[0:0], WO, reset 0. -/
def Field.TETH_CTL_RETRAIN : Field := ⟨114, 44, 0, 0, .wo, 0⟩
/-- Port status (R267). -/
def Reg.TETH_STAT : Reg := ⟨45, false, 0x30008, [(0x400, 64)], 32⟩
/-- TETH_STAT[27:24], RO, reset 0. -/
def Field.TETH_STAT_DOWN_CAUSE : Field := ⟨115, 45, 27, 24, .ro, 0⟩
/-- TETH_STAT[20:16], RO, reset 0x1F. -/
def Field.TETH_STAT_TX_SUBST : Field := ⟨116, 45, 20, 16, .ro, 0x1f⟩
/-- TETH_STAT[12:8], RO, reset 0x1F. -/
def Field.TETH_STAT_RX_SUBST : Field := ⟨117, 45, 12, 8, .ro, 0x1f⟩
/-- TETH_STAT[5:5], RO, reset 0. -/
def Field.TETH_STAT_TX_WIDTH : Field := ⟨118, 45, 5, 5, .ro, 0⟩
/-- TETH_STAT[4:4], RO, reset 0. -/
def Field.TETH_STAT_RX_WIDTH : Field := ⟨119, 45, 4, 4, .ro, 0⟩
/-- TETH_STAT[2:0], RO, reset 0. -/
def Field.TETH_STAT_STATE : Field := ⟨120, 45, 2, 0, .ro, 0⟩
/-- Receive lane states (R267). -/
def Reg.TETH_LANE_RX : Reg := ⟨46, false, 0x30010, [(0x400, 64)], 64⟩
/-- TETH_LANE_RX[50:0], RO, reset 0. -/
def Field.TETH_LANE_RX_LANES : Field := ⟨121, 46, 50, 0, .ro, 0⟩
/-- Transmit lane states (R267). -/
def Reg.TETH_LANE_TX : Reg := ⟨47, false, 0x30018, [(0x400, 64)], 64⟩
/-- TETH_LANE_TX[50:0], RO, reset 0. -/
def Field.TETH_LANE_TX_LANES : Field := ⟨122, 47, 50, 0, .ro, 0⟩
/-- FEC counts (R267). -/
def Reg.TETH_FEC : Reg := ⟨48, false, 0x30020, [(0x400, 64)], 64⟩
/-- TETH_FEC[63:32], RO, reset 0. -/
def Field.TETH_FEC_CORRECTED : Field := ⟨123, 48, 63, 32, .ro, 0⟩
/-- TETH_FEC[31:0], RO, reset 0. -/
def Field.TETH_FEC_UNCORR_TOTAL : Field := ⟨124, 48, 31, 0, .ro, 0⟩
/-- Limit count (R267). -/
def Reg.TETH_UNCORR : Reg := ⟨49, false, 0x30028, [(0x400, 64)], 64⟩
/-- TETH_UNCORR[63:32], RO, reset 0. -/
def Field.TETH_UNCORR_DISCARD_NARROW : Field := ⟨125, 49, 63, 32, .ro, 0⟩
/-- TETH_UNCORR[15:0], RO, reset 0. -/
def Field.TETH_UNCORR_SINCE_TRAIN : Field := ⟨126, 49, 15, 0, .ro, 0⟩
/-- Link events (R267). -/
def Reg.TETH_LINK_CNT : Reg := ⟨50, false, 0x30030, [(0x400, 64)], 64⟩
/-- TETH_LINK_CNT[63:48], RO, reset 0. -/
def Field.TETH_LINK_CNT_RETRAINS : Field := ⟨127, 50, 63, 48, .ro, 0⟩
/-- TETH_LINK_CNT[47:32], RO, reset 0. -/
def Field.TETH_LINK_CNT_NARROWINGS : Field := ⟨128, 50, 47, 32, .ro, 0⟩
/-- TETH_LINK_CNT[31:16], RO, reset 0. -/
def Field.TETH_LINK_CNT_SUBSTITUTIONS : Field := ⟨129, 50, 31, 16, .ro, 0⟩
/-- TETH_LINK_CNT[15:0], RO, reset 0. -/
def Field.TETH_LINK_CNT_LANES_LOST : Field := ⟨130, 50, 15, 0, .ro, 0⟩
/-- Port events (R267). -/
def Reg.TETH_EVT : Reg := ⟨51, false, 0x30038, [(0x400, 64)], 32⟩
/-- TETH_EVT[7:7], W1C, reset 0. -/
def Field.TETH_EVT_LASER : Field := ⟨131, 51, 7, 7, .w1c, 0⟩
/-- TETH_EVT[6:6], W1C, reset 0. -/
def Field.TETH_EVT_ADDR_MISMATCH : Field := ⟨132, 51, 6, 6, .w1c, 0⟩
/-- TETH_EVT[5:5], W1C, reset 0. -/
def Field.TETH_EVT_DOWN : Field := ⟨133, 51, 5, 5, .w1c, 0⟩
/-- TETH_EVT[4:4], W1C, reset 0. -/
def Field.TETH_EVT_RETRAINED : Field := ⟨134, 51, 4, 4, .w1c, 0⟩
/-- TETH_EVT[3:3], W1C, reset 0. -/
def Field.TETH_EVT_STOPPED : Field := ⟨135, 51, 3, 3, .w1c, 0⟩
/-- TETH_EVT[2:2], W1C, reset 0. -/
def Field.TETH_EVT_NARROWED : Field := ⟨136, 51, 2, 2, .w1c, 0⟩
/-- TETH_EVT[1:1], W1C, reset 0. -/
def Field.TETH_EVT_SUBSTITUTED : Field := ⟨137, 51, 1, 1, .w1c, 0⟩
/-- TETH_EVT[0:0], W1C, reset 0. -/
def Field.TETH_EVT_LANE_LOST : Field := ⟨138, 51, 0, 0, .w1c, 0⟩
/-- Node addresses (R267). -/
def Reg.TETH_NODE : Reg := ⟨52, false, 0x30040, [(0x400, 64)], 64⟩
/-- TETH_NODE[63:32], RO, reset 0. -/
def Field.TETH_NODE_PEER : Field := ⟨139, 52, 63, 32, .ro, 0⟩
/-- TETH_NODE[31:0], RO, reset 0. -/
def Field.TETH_NODE_NODE : Field := ⟨140, 52, 31, 0, .ro, 0⟩
/-- Link delay (R267). -/
def Reg.TETH_DELAY : Reg := ⟨53, false, 0x30048, [(0x400, 64)], 32⟩
/-- TETH_DELAY[31:0], RO, reset 0. -/
def Field.TETH_DELAY_DELAY : Field := ⟨141, 53, 31, 0, .ro, 0⟩
/-- Laser module E(n/4) (R267). -/
def Reg.TETH_LASER : Reg := ⟨54, false, 0x30100, [(0x1000, 16)], 32⟩
/-- TETH_LASER[31:16], RO, reset 0. -/
def Field.TETH_LASER_INSERTIONS : Field := ⟨142, 54, 31, 16, .ro, 0⟩
/-- TETH_LASER[8:8], WO, reset 0. -/
def Field.TETH_LASER_SWAP : Field := ⟨143, 54, 8, 8, .wo, 0⟩
/-- TETH_LASER[2:0], RO, reset 0. -/
def Field.TETH_LASER_STATE : Field := ⟨144, 54, 2, 0, .ro, 0⟩
/-- Command ring (R299). -/
def Reg.QTAB_CMD : Reg := ⟨55, false, 0x100000, [(0x20, 16384)], 64⟩
/-- QTAB_CMD[63:63], RW, reset 0. -/
def Field.QTAB_CMD_ENABLE : Field := ⟨145, 55, 63, 63, .rw, 0⟩
/-- QTAB_CMD[62:62], W1C, reset 0. -/
def Field.QTAB_CMD_FAULT : Field := ⟨146, 55, 62, 62, .w1c, 0⟩
/-- QTAB_CMD[61:58], RO, reset 0. -/
def Field.QTAB_CMD_FAULT_CAUSE : Field := ⟨147, 55, 61, 58, .ro, 0⟩
/-- QTAB_CMD[52:12], RW, reset 0. -/
def Field.QTAB_CMD_BASE : Field := ⟨148, 55, 52, 12, .rw, 0⟩
/-- QTAB_CMD[4:0], RW, reset 4. -/
def Field.QTAB_CMD_LOG2 : Field := ⟨149, 55, 4, 0, .rw, 4⟩
/-- Completion ring (R299). -/
def Reg.QTAB_CPL : Reg := ⟨56, false, 0x100008, [(0x20, 16384)], 64⟩
/-- QTAB_CPL[61:53], RW, reset 0. -/
def Field.QTAB_CPL_VECTOR : Field := ⟨150, 56, 61, 53, .rw, 0⟩
/-- QTAB_CPL[52:12], RW, reset 0. -/
def Field.QTAB_CPL_BASE : Field := ⟨151, 56, 52, 12, .rw, 0⟩
/-- QTAB_CPL[4:0], RW, reset 4. -/
def Field.QTAB_CPL_LOG2 : Field := ⟨152, 56, 4, 0, .rw, 4⟩
/-- Doorbell (R299). -/
def Reg.QTAB_DB : Reg := ⟨57, false, 0x100010, [(0x20, 16384)], 64⟩
/-- QTAB_DB[63:32], RW, reset 0. -/
def Field.QTAB_DB_CPL_HEAD : Field := ⟨153, 57, 63, 32, .rw, 0⟩
/-- QTAB_DB[31:0], RW, reset 0. -/
def Field.QTAB_DB_TAIL : Field := ⟨154, 57, 31, 0, .rw, 0⟩
/-- Engine counters (R299). -/
def Reg.QTAB_PTR : Reg := ⟨58, false, 0x100018, [(0x20, 16384)], 64⟩
/-- QTAB_PTR[63:32], RO, reset 0. -/
def Field.QTAB_PTR_CPL_TAIL : Field := ⟨155, 58, 63, 32, .ro, 0⟩
/-- QTAB_PTR[31:0], RO, reset 0. -/
def Field.QTAB_PTR_FETCH : Field := ⟨156, 58, 31, 0, .ro, 0⟩
/-- Fence (R299). -/
def Reg.FENCE_VALUE : Reg := ⟨59, false, 0x180000, [(8, 32768)], 64⟩
/-- FENCE_VALUE[63:0], RW, reset 0. -/
def Field.FENCE_VALUE_VALUE : Field := ⟨157, 59, 63, 0, .rw, 0⟩
/-- Command limits (R300). -/
def Reg.PART_CMD : Reg := ⟨60, false, 0x10120, [(0x1000, 16)], 64⟩
/-- PART_CMD[63:32], RO, reset 0. -/
def Field.PART_CMD_DEFER_DROPPED : Field := ⟨158, 60, 63, 32, .ro, 0⟩
/-- PART_CMD[31:30], RO, reset 0. -/
def Field.PART_CMD_TASK : Field := ⟨159, 60, 31, 30, .ro, 0⟩
/-- PART_CMD[28:16], RO, reset 0. -/
def Field.PART_CMD_INFLIGHT : Field := ⟨160, 60, 28, 16, .ro, 0⟩
/-- PART_CMD[12:0], RWS, reset 0. -/
def Field.PART_CMD_QUOTA : Field := ⟨161, 60, 12, 0, .rws, 0⟩
/-- Queue range (R300). -/
def Reg.PART_QUEUES : Reg := ⟨61, false, 0x10128, [(0x1000, 16)], 64⟩
/-- PART_QUEUES[44:32], RWS, reset 0. -/
def Field.PART_QUEUES_COUNT : Field := ⟨162, 61, 44, 32, .rws, 0⟩
/-- PART_QUEUES[13:0], RWS, reset 0. -/
def Field.PART_QUEUES_BASE : Field := ⟨163, 61, 13, 0, .rws, 0⟩
/-- Fence range (R300). -/
def Reg.PART_FENCES : Reg := ⟨62, false, 0x10130, [(0x1000, 16)], 64⟩
/-- PART_FENCES[46:32], RWS, reset 0. -/
def Field.PART_FENCES_COUNT : Field := ⟨164, 62, 46, 32, .rws, 0⟩
/-- PART_FENCES[14:0], RWS, reset 0. -/
def Field.PART_FENCES_BASE : Field := ⟨165, 62, 14, 0, .rws, 0⟩
/-- Doorbell (R301). -/
def Reg.VFDB_RING : Reg := ⟨63, true, 0x1000, [(8, 4096)], 64⟩
/-- VFDB_RING[63:32], WO, reset 0. -/
def Field.VFDB_RING_CPL_HEAD : Field := ⟨166, 63, 63, 32, .wo, 0⟩
/-- VFDB_RING[31:0], WO, reset 0. -/
def Field.VFDB_RING_TAIL : Field := ⟨167, 63, 31, 0, .wo, 0⟩
/-- Fence view (R301). -/
def Reg.VFFENCE_VALUE : Reg := ⟨64, true, 0x10000, [(8, 16384)], 64⟩
/-- VFFENCE_VALUE[63:0], RW, reset 0. -/
def Field.VFFENCE_VALUE_VALUE : Field := ⟨168, 64, 63, 0, .rw, 0⟩
/-- Partition state (R326). -/
def Reg.PART_STATE : Reg := ⟨65, false, 0x10000, [(0x1000, 16)], 64⟩
/-- PART_STATE[63:32], RO, reset 0. -/
def Field.PART_STATE_GEN : Field := ⟨169, 65, 63, 32, .ro, 0⟩
/-- PART_STATE[24:24], RO, reset 0. -/
def Field.PART_STATE_RETAINED : Field := ⟨170, 65, 24, 24, .ro, 0⟩
/-- PART_STATE[23:16], RO, reset 0. -/
def Field.PART_STATE_LAST_CHECK : Field := ⟨171, 65, 23, 16, .ro, 0⟩
/-- PART_STATE[8:8], RO, reset 0. -/
def Field.PART_STATE_RESIZE_ARMED : Field := ⟨172, 65, 8, 8, .ro, 0⟩
/-- PART_STATE[2:0], RO, reset 0. -/
def Field.PART_STATE_STATE : Field := ⟨173, 65, 2, 0, .ro, 0⟩
/-- Bound shape (R326). -/
def Reg.PART_SHAPE : Reg := ⟨66, false, 0x10008, [(0x1000, 16)], 32⟩
/-- PART_SHAPE[11:8], RO, reset 0. -/
def Field.PART_SHAPE_SPARES : Field := ⟨174, 66, 11, 8, .ro, 0⟩
/-- PART_SHAPE[6:0], RO, reset 0. -/
def Field.PART_SHAPE_LCORES : Field := ⟨175, 66, 6, 0, .ro, 0⟩
/-- Tether ports (R326). -/
def Reg.PART_PORTS : Reg := ⟨67, false, 0x10010, [(0x1000, 16)], 64⟩
/-- PART_PORTS[63:0], RWS, reset 0. -/
def Field.PART_PORTS_PORTS : Field := ⟨176, 67, 63, 0, .rws, 0⟩
/-- Stack burst share (R326). -/
def Reg.PART_HBM_SHARE : Reg := ⟨68, false, 0x10018, [(0x1000, 16)], 32⟩
/-- PART_HBM_SHARE[6:0], RWS, reset 0. -/
def Field.PART_HBM_SHARE_BURSTS : Field := ⟨177, 68, 6, 0, .rws, 0⟩
/-- Partition events (R326). -/
def Reg.PART_EVT : Reg := ⟨69, false, 0x10020, [(0x1000, 16)], 32⟩
/-- PART_EVT[31:0], W1C, reset 0. -/
def Field.PART_EVT_EVENTS : Field := ⟨178, 69, 31, 0, .w1c, 0⟩
/-- Mode change status (R326). -/
def Reg.PART_MODE : Reg := ⟨70, false, 0x10028, [(0x1000, 16)], 32⟩
/-- PART_MODE[15:8], RO, reset 0. -/
def Field.PART_MODE_MODE : Field := ⟨179, 70, 15, 8, .ro, 0⟩
/-- PART_MODE[7:4], RO, reset 0. -/
def Field.PART_MODE_CAUSE : Field := ⟨180, 70, 7, 4, .ro, 0⟩
/-- PART_MODE[1:0], RO, reset 0. -/
def Field.PART_MODE_ACK : Field := ⟨181, 70, 1, 0, .ro, 0⟩
/-- Carrier page map, k = 0 to 71 (R326). -/
def Reg.PART_PAGES : Reg := ⟨71, false, 0x10200, [(0x1000, 16), (8, 72)], 64⟩
/-- PART_PAGES[63:0], RWS, reset 0. -/
def Field.PART_PAGES_CODES : Field := ⟨182, 71, 63, 0, .rws, 0⟩
/-- Program image address, h = 0 to 31 (R326). -/
def Reg.PART_PROG_ADDR : Reg := ⟨72, false, 0x10600, [(0x1000, 16), (0x40, 32)], 64⟩
/-- PART_PROG_ADDR[52:12], RW, reset 0. -/
def Field.PART_PROG_ADDR_BASE : Field := ⟨183, 72, 52, 12, .rw, 0⟩
/-- Program slot control (R326). -/
def Reg.PART_PROG_CTL : Reg := ⟨73, false, 0x10608, [(0x1000, 16), (0x40, 32)], 64⟩
/-- PART_PROG_CTL[63:63], WO, reset 0. -/
def Field.PART_PROG_CTL_LOAD : Field := ⟨184, 73, 63, 63, .wo, 0⟩
/-- PART_PROG_CTL[62:62], WO, reset 0. -/
def Field.PART_PROG_CTL_CLEAR : Field := ⟨185, 73, 62, 62, .wo, 0⟩
/-- PART_PROG_CTL[19:0], RW, reset 0. -/
def Field.PART_PROG_CTL_LENGTH : Field := ⟨186, 73, 19, 0, .rw, 0⟩
/-- Image digest, i = 0 to 3 (R326). -/
def Reg.PART_PROG_DIGEST : Reg := ⟨74, false, 0x10610, [(0x1000, 16), (0x40, 32), (8, 4)], 64⟩
/-- PART_PROG_DIGEST[63:0], RW, reset 0. -/
def Field.PART_PROG_DIGEST_DIGEST : Field := ⟨187, 74, 63, 0, .rw, 0⟩
/-- Program slot status (R326). -/
def Reg.PART_PROG_STAT : Reg := ⟨75, false, 0x10630, [(0x1000, 16), (0x40, 32)], 64⟩
/-- PART_PROG_STAT[63:37], RO, reset 0. -/
def Field.PART_PROG_STAT_SERIAL : Field := ⟨188, 75, 63, 37, .ro, 0⟩
/-- PART_PROG_STAT[18:16], RO, reset 0. -/
def Field.PART_PROG_STAT_PERIOD : Field := ⟨189, 75, 18, 16, .ro, 0⟩
/-- PART_PROG_STAT[14:8], RO, reset 0. -/
def Field.PART_PROG_STAT_LCORES : Field := ⟨190, 75, 14, 8, .ro, 0⟩
/-- PART_PROG_STAT[2:0], RO, reset 0. -/
def Field.PART_PROG_STAT_STATE : Field := ⟨191, 75, 2, 0, .ro, 0⟩
/-- Core binding (R327). -/
def Reg.CORE_BIND : Reg := ⟨76, false, 0x20000, [(0x100, 96)], 64⟩
/-- CORE_BIND[63:63], RO, reset 0. -/
def Field.CORE_BIND_BOUND : Field := ⟨192, 76, 63, 63, .ro, 0⟩
/-- CORE_BIND[62:62], RO, reset 0. -/
def Field.CORE_BIND_SPARE : Field := ⟨193, 76, 62, 62, .ro, 0⟩
/-- CORE_BIND[61:61], RO, reset 0. -/
def Field.CORE_BIND_FENCED : Field := ⟨194, 76, 61, 61, .ro, 0⟩
/-- CORE_BIND[60:60], RO, reset fuse. -/
def Field.CORE_BIND_DISABLED : Field := ⟨195, 76, 60, 60, .ro, 0⟩
/-- CORE_BIND[51:48], RO, reset 0. -/
def Field.CORE_BIND_PART : Field := ⟨196, 76, 51, 48, .ro, 0⟩
/-- CORE_BIND[6:0], RO, reset 0. -/
def Field.CORE_BIND_SLOT : Field := ⟨197, 76, 6, 0, .ro, 0⟩
/-- Function identity (R328). -/
def Reg.VFID_STAT : Reg := ⟨77, true, 0x0, [(0, 16)], 64⟩
/-- VFID_STAT[63:32], RO, reset 0. -/
def Field.VFID_STAT_GEN : Field := ⟨198, 77, 63, 32, .ro, 0⟩
/-- VFID_STAT[22:16], RO, reset 0. -/
def Field.VFID_STAT_LCORES : Field := ⟨199, 77, 22, 16, .ro, 0⟩
/-- VFID_STAT[10:8], RO, reset 0. -/
def Field.VFID_STAT_STATE : Field := ⟨200, 77, 10, 8, .ro, 0⟩
/-- VFID_STAT[3:0], RO, reset 0. -/
def Field.VFID_STAT_PART : Field := ⟨201, 77, 3, 0, .ro, 0⟩
/-- Partition events (R328). -/
def Reg.VFEVT_STAT : Reg := ⟨78, true, 0x80000, [(0, 16)], 32⟩
/-- VFEVT_STAT[10:10], W1C, reset 0. -/
def Field.VFEVT_STAT_PROG_READY : Field := ⟨202, 78, 10, 10, .w1c, 0⟩
/-- VFEVT_STAT[9:9], W1C, reset 0. -/
def Field.VFEVT_STAT_REEL_LOST : Field := ⟨203, 78, 9, 9, .w1c, 0⟩
/-- VFEVT_STAT[8:8], W1C, reset 0. -/
def Field.VFEVT_STAT_MODE_CANCELLED : Field := ⟨204, 78, 8, 8, .w1c, 0⟩
/-- VFEVT_STAT[7:7], W1C, reset 0. -/
def Field.VFEVT_STAT_MODE_SWITCHED : Field := ⟨205, 78, 7, 7, .w1c, 0⟩
/-- VFEVT_STAT[6:6], W1C, reset 0. -/
def Field.VFEVT_STAT_PROTECTION_CHANGED : Field := ⟨206, 78, 6, 6, .w1c, 0⟩
/-- VFEVT_STAT[5:5], W1C, reset 0. -/
def Field.VFEVT_STAT_RESIZE_CANCELLED : Field := ⟨207, 78, 5, 5, .w1c, 0⟩
/-- VFEVT_STAT[4:4], W1C, reset 0. -/
def Field.VFEVT_STAT_RESIZED : Field := ⟨208, 78, 4, 4, .w1c, 0⟩
/-- VFEVT_STAT[3:3], W1C, reset 0. -/
def Field.VFEVT_STAT_RESET_DONE : Field := ⟨209, 78, 3, 3, .w1c, 0⟩
/-- VFEVT_STAT[2:2], W1C, reset 0. -/
def Field.VFEVT_STAT_MODEL_REJECT : Field := ⟨210, 78, 2, 2, .w1c, 0⟩
/-- VFEVT_STAT[1:1], W1C, reset 0. -/
def Field.VFEVT_STAT_MODEL_SWITCHED : Field := ⟨211, 78, 1, 1, .w1c, 0⟩
/-- VFEVT_STAT[0:0], W1C, reset 0. -/
def Field.VFEVT_STAT_SLACK_WARN : Field := ⟨212, 78, 0, 0, .w1c, 0⟩
/-- Event interrupt (R328). -/
def Reg.VFEVT_CFG : Reg := ⟨79, true, 0x80008, [(0, 16)], 32⟩
/-- VFEVT_CFG[31:31], RWS, reset 0. -/
def Field.VFEVT_CFG_ENABLE : Field := ⟨213, 79, 31, 31, .rws, 0⟩
/-- VFEVT_CFG[8:0], RWS, reset 0. -/
def Field.VFEVT_CFG_VECTOR : Field := ⟨214, 79, 8, 0, .rws, 0⟩
/-- Journal ring (R342). -/
def Reg.PART_JRNL_BASE : Reg := ⟨80, false, 0x10140, [(0x1000, 16)], 64⟩
/-- PART_JRNL_BASE[52:12], RO, reset 0. -/
def Field.PART_JRNL_BASE_BASE : Field := ⟨215, 80, 52, 12, .ro, 0⟩
/-- PART_JRNL_BASE[4:0], RO, reset 0. -/
def Field.PART_JRNL_BASE_LOG2 : Field := ⟨216, 80, 4, 0, .ro, 0⟩
/-- Journal status (R342). -/
def Reg.PART_JRNL_STAT : Reg := ⟨81, false, 0x10148, [(0x1000, 16)], 64⟩
/-- PART_JRNL_STAT[63:32], RO, reset 0. -/
def Field.PART_JRNL_STAT_NEXT_SEQ : Field := ⟨217, 81, 63, 32, .ro, 0⟩
/-- PART_JRNL_STAT[31:16], RO, reset 0. -/
def Field.PART_JRNL_STAT_MIRROR_DROPPED : Field := ⟨218, 81, 31, 16, .ro, 0⟩
/-- PART_JRNL_STAT[15:8], RO, reset 0. -/
def Field.PART_JRNL_STAT_WRITE_ERR : Field := ⟨219, 81, 15, 8, .ro, 0⟩
/-- PART_JRNL_STAT[1:1], RO, reset 0. -/
def Field.PART_JRNL_STAT_MIRROR : Field := ⟨220, 81, 1, 1, .ro, 0⟩
/-- PART_JRNL_STAT[0:0], RO, reset 0. -/
def Field.PART_JRNL_STAT_ENABLED : Field := ⟨221, 81, 0, 0, .ro, 0⟩
/-- Journal bytes written (R342). -/
def Reg.PART_JRNL_TAIL : Reg := ⟨82, false, 0x10150, [(0x1000, 16)], 64⟩
/-- PART_JRNL_TAIL[63:0], RO, reset 0. -/
def Field.PART_JRNL_TAIL_BYTES : Field := ⟨222, 82, 63, 0, .ro, 0⟩
/-- Step counter (R342). -/
def Reg.PART_STEP : Reg := ⟨83, false, 0x10158, [(0x1000, 16)], 32⟩
/-- PART_STEP[31:0], RO, reset 0. -/
def Field.PART_STEP_STEP : Field := ⟨223, 83, 31, 0, .ro, 0⟩
/-- Power configuration (R364). -/
def Reg.PWR_CFG : Reg := ⟨84, false, 0x4000, [], 64⟩
/-- PWR_CFG[63:63], RWL, reset 0. -/
def Field.PWR_CFG_LOCK : Field := ⟨224, 84, 63, 63, .rwl, 0⟩
/-- PWR_CFG[47:40], RWL, reset 200. -/
def Field.PWR_CFG_DROOP_FAIL : Field := ⟨225, 84, 47, 40, .rwl, 0xc8⟩
/-- PWR_CFG[39:32], RWL, reset 150. -/
def Field.PWR_CFG_DROOP_WARN : Field := ⟨226, 84, 39, 32, .rwl, 0x96⟩
/-- PWR_CFG[31:16], RWL, reset fuse. -/
def Field.PWR_CFG_CORE_BUDGET : Field := ⟨227, 84, 31, 16, .rwl, 0⟩
/-- PWR_CFG[15:0], RWL, reset fuse. -/
def Field.PWR_CFG_LIMIT : Field := ⟨228, 84, 15, 0, .rwl, 0⟩
/-- Power status (R364). -/
def Reg.PWR_STAT : Reg := ⟨85, false, 0x4008, [], 64⟩
/-- PWR_STAT[63:48], RO, reset 0. -/
def Field.PWR_STAT_INPUT_W : Field := ⟨229, 85, 63, 48, .ro, 0⟩
/-- PWR_STAT[35:32], RO, reset 0. -/
def Field.PWR_STAT_RING : Field := ⟨230, 85, 35, 32, .ro, 0⟩
/-- PWR_STAT[31:30], RO, reset 0. -/
def Field.PWR_STAT_PHASE : Field := ⟨231, 85, 31, 30, .ro, 0⟩
/-- PWR_STAT[17:17], RO, reset 0. -/
def Field.PWR_STAT_STEPPING : Field := ⟨232, 85, 17, 17, .ro, 0⟩
/-- PWR_STAT[16:16], W1C, reset 0. -/
def Field.PWR_STAT_SUSPECT : Field := ⟨233, 85, 16, 16, .w1c, 0⟩
/-- PWR_STAT[15:8], RO, reset 0. -/
def Field.PWR_STAT_BRICKS_OK : Field := ⟨234, 85, 15, 8, .ro, 0⟩
/-- PWR_STAT[7:0], RO, reset 0. -/
def Field.PWR_STAT_FAILED_DOMAINS : Field := ⟨235, 85, 7, 0, .ro, 0⟩
/-- Emergency steps (R364). -/
def Reg.PWR_STEP : Reg := ⟨86, false, 0x4010, [], 64⟩
/-- PWR_STEP[63:32], RO, reset 0. -/
def Field.PWR_STEP_FRAME : Field := ⟨236, 86, 63, 32, .ro, 0⟩
/-- PWR_STEP[31:16], RO, reset 0. -/
def Field.PWR_STEP_COUNT : Field := ⟨237, 86, 31, 16, .ro, 0⟩
/-- PWR_STEP[1:0], RO, reset 0. -/
def Field.PWR_STEP_CAUSE : Field := ⟨238, 86, 1, 0, .ro, 0⟩
/-- Partition power, p = 0 to 15 (R364). -/
def Reg.PWR_PART : Reg := ⟨87, false, 0x4100, [(8, 16)], 64⟩
/-- PWR_PART[63:48], RO, reset 0. -/
def Field.PWR_PART_MEASURED : Field := ⟨239, 87, 63, 48, .ro, 0⟩
/-- PWR_PART[47:32], RO, reset 0. -/
def Field.PWR_PART_OVER : Field := ⟨240, 87, 47, 32, .ro, 0⟩
/-- PWR_PART[15:0], RWS, reset 0. -/
def Field.PWR_PART_ALLOC : Field := ⟨241, 87, 15, 0, .rws, 0⟩
/-- Converter brick, b = 0 to 17 (R364). -/
def Reg.PWR_BRICK : Reg := ⟨88, false, 0x4200, [(8, 18)], 64⟩
/-- PWR_BRICK[63:48], RO, reset 0. -/
def Field.PWR_BRICK_OUT_W : Field := ⟨242, 88, 63, 48, .ro, 0⟩
/-- PWR_BRICK[47:40], RO, reset 0. -/
def Field.PWR_BRICK_TEMP : Field := ⟨243, 88, 47, 40, .ro, 0⟩
/-- PWR_BRICK[2:0], RO, reset 0. -/
def Field.PWR_BRICK_STATE : Field := ⟨244, 88, 2, 0, .ro, 0⟩
/-- Domain control (R364). -/
def Reg.PWR_DOM_CTL : Reg := ⟨89, false, 0x5000, [(0x10, 250)], 32⟩
/-- PWR_DOM_CTL[2:2], WO, reset 0. -/
def Field.PWR_DOM_CTL_VMIN_REARM : Field := ⟨245, 89, 2, 2, .wo, 0⟩
/-- PWR_DOM_CTL[1:1], WO, reset 0. -/
def Field.PWR_DOM_CTL_DEFLATE : Field := ⟨246, 89, 1, 1, .wo, 0⟩
/-- PWR_DOM_CTL[0:0], WO, reset 0. -/
def Field.PWR_DOM_CTL_INFLATE : Field := ⟨247, 89, 0, 0, .wo, 0⟩
/-- Domain status (R364). -/
def Reg.PWR_DOM_STAT : Reg := ⟨90, false, 0x5008, [(0x10, 250)], 32⟩
/-- PWR_DOM_STAT[31:24], RO, reset 0. -/
def Field.PWR_DOM_STAT_STAGE_FAILS : Field := ⟨248, 90, 31, 24, .ro, 0⟩
/-- PWR_DOM_STAT[23:16], RO, reset 0. -/
def Field.PWR_DOM_STAT_SETPOINT : Field := ⟨249, 90, 23, 16, .ro, 0⟩
/-- PWR_DOM_STAT[11:11], RO, reset 0. -/
def Field.PWR_DOM_STAT_GROUP_LOST : Field := ⟨250, 90, 11, 11, .ro, 0⟩
/-- PWR_DOM_STAT[10:8], RO, reset 0. -/
def Field.PWR_DOM_STAT_CAUSE : Field := ⟨251, 90, 10, 8, .ro, 0⟩
/-- PWR_DOM_STAT[2:0], RO, reset 0. -/
def Field.PWR_DOM_STAT_STATE : Field := ⟨252, 90, 2, 0, .ro, 0⟩
/-- Minimum voltage (R364). -/
def Reg.PWR_DOM_VMIN : Reg := ⟨91, false, 0x6000, [(0x10, 250)], 64⟩
/-- PWR_DOM_VMIN[63:32], RO, reset 0. -/
def Field.PWR_DOM_VMIN_FRAME : Field := ⟨253, 91, 63, 32, .ro, 0⟩
/-- PWR_DOM_VMIN[31:18], RO, reset 0. -/
def Field.PWR_DOM_VMIN_CYCLE : Field := ⟨254, 91, 31, 18, .ro, 0⟩
/-- PWR_DOM_VMIN[17:17], RO, reset 0. -/
def Field.PWR_DOM_VMIN_LOCKED : Field := ⟨255, 91, 17, 17, .ro, 0⟩
/-- PWR_DOM_VMIN[11:0], RO, reset 0xFFF. -/
def Field.PWR_DOM_VMIN_MIN : Field := ⟨256, 91, 11, 0, .ro, 0xfff⟩
/-- Droop detector (R364). -/
def Reg.PWR_DOM_DROOP : Reg := ⟨92, false, 0x7000, [(8, 250)], 64⟩
/-- PWR_DOM_DROOP[63:48], RO, reset 0. -/
def Field.PWR_DOM_DROOP_BASELINE : Field := ⟨257, 92, 63, 48, .ro, 0⟩
/-- PWR_DOM_DROOP[47:32], RO, reset 0. -/
def Field.PWR_DOM_DROOP_MEDIAN : Field := ⟨258, 92, 47, 32, .ro, 0⟩
/-- PWR_DOM_DROOP[31:0], RO, reset 0. -/
def Field.PWR_DOM_DROOP_STEPS : Field := ⟨259, 92, 31, 0, .ro, 0⟩
/-- Recovery control (R388). -/
def Reg.PART_RECOVER : Reg := ⟨93, false, 0x10160, [(0x1000, 16)], 64⟩
/-- PART_RECOVER[63:32], RO, reset 0x7FFF_FFFF. -/
def Field.PART_RECOVER_LAST_TASK_SLACK : Field := ⟨260, 93, 63, 32, .ro, 0x7fffffff⟩
/-- PART_RECOVER[31:24], RO, reset 0. -/
def Field.PART_RECOVER_REMAPS : Field := ⟨261, 93, 31, 24, .ro, 0⟩
/-- PART_RECOVER[11:8], RO, reset 0. -/
def Field.PART_RECOVER_SPARES_FREE : Field := ⟨262, 93, 11, 8, .ro, 0⟩
/-- PART_RECOVER[1:1], RWS, reset 0. -/
def Field.PART_RECOVER_INJECT_EN : Field := ⟨263, 93, 1, 1, .rws, 0⟩
/-- PART_RECOVER[0:0], RWS, reset 1. -/
def Field.PART_RECOVER_AUTO_REMAP : Field := ⟨264, 93, 0, 0, .rws, 1⟩
/-- Self-test (R388). -/
def Reg.CORE_BIST : Reg := ⟨94, false, 0x200f0, [(0x100, 96)], 64⟩
/-- CORE_BIST[63:63], RO, reset 0. -/
def Field.CORE_BIST_BUSY : Field := ⟨265, 94, 63, 63, .ro, 0⟩
/-- CORE_BIST[62:60], RO, reset 0. -/
def Field.CORE_BIST_RESULT : Field := ⟨266, 94, 62, 60, .ro, 0⟩
/-- CORE_BIST[55:48], RO, reset fuse. -/
def Field.CORE_BIST_VMIN : Field := ⟨267, 94, 55, 48, .ro, 0⟩
/-- CORE_BIST[47:32], RO, reset 0. -/
def Field.CORE_BIST_MICROCODE : Field := ⟨268, 94, 47, 32, .ro, 0⟩
/-- CORE_BIST[31:0], RO, reset 0. -/
def Field.CORE_BIST_FRAME : Field := ⟨269, 94, 31, 0, .ro, 0⟩
/-- Stack service control (R388). -/
def Reg.HBM_CTL : Reg := ⟨95, false, 0x40020, [(0x400, 48)], 32⟩
/-- HBM_CTL[2:2], WO, reset 0. -/
def Field.HBM_CTL_RETURN : Field := ⟨270, 95, 2, 2, .wo, 0⟩
/-- HBM_CTL[1:1], WO, reset 0. -/
def Field.HBM_CTL_SCRUB : Field := ⟨271, 95, 1, 1, .wo, 0⟩
/-- HBM_CTL[0:0], WO, reset 0. -/
def Field.HBM_CTL_DRAIN : Field := ⟨272, 95, 0, 0, .wo, 0⟩
/-- Stack service status (R388). -/
def Reg.HBM_SVC : Reg := ⟨96, false, 0x40028, [(0x400, 48)], 64⟩
/-- HBM_SVC[63:63], RO, reset 0. -/
def Field.HBM_SVC_DRAINED : Field := ⟨273, 96, 63, 63, .ro, 0⟩
/-- HBM_SVC[62:62], RO, reset 0. -/
def Field.HBM_SVC_SCRUB_BUSY : Field := ⟨274, 96, 62, 62, .ro, 0⟩
/-- HBM_SVC[31:0], RO, reset 0. -/
def Field.HBM_SVC_SCRUB_UNCORR : Field := ⟨275, 96, 31, 0, .ro, 0⟩
/-- Logbook configuration (R400). -/
def Reg.LOGB_CFG : Reg := ⟨97, false, 0x8000, [], 32⟩
/-- LOGB_CFG[31:31], RWL, reset 0. -/
def Field.LOGB_CFG_LOCK : Field := ⟨276, 97, 31, 31, .rwl, 0⟩
/-- LOGB_CFG[7:0], RWL, reset 0x40. -/
def Field.LOGB_CFG_RATE_NEW : Field := ⟨277, 97, 7, 0, .rwl, 0x40⟩
/-- Logbook losses (R400). -/
def Reg.LOGB_STAT : Reg := ⟨98, false, 0x8008, [], 64⟩
/-- LOGB_STAT[63:32], RO, reset from store. -/
def Field.LOGB_STAT_OVERWRITTEN : Field := ⟨278, 98, 63, 32, .ro, 0⟩
/-- LOGB_STAT[31:0], RO, reset from store. -/
def Field.LOGB_STAT_LOST : Field := ⟨279, 98, 31, 0, .ro, 0⟩
/-- Update sequence (R400). -/
def Reg.LOGB_SEQ : Reg := ⟨99, false, 0x8010, [], 64⟩
/-- LOGB_SEQ[63:0], RO, reset from store. -/
def Field.LOGB_SEQ_SEQ : Field := ⟨280, 99, 63, 0, .ro, 0⟩
/-- Freeze control (R400). -/
def Reg.LOGB_CTL : Reg := ⟨100, false, 0x8018, [], 32⟩
/-- LOGB_CTL[1:1], WO, reset 0. -/
def Field.LOGB_CTL_THAW : Field := ⟨281, 100, 1, 1, .wo, 0⟩
/-- LOGB_CTL[0:0], WO, reset 0. -/
def Field.LOGB_CTL_FREEZE : Field := ⟨282, 100, 0, 0, .wo, 0⟩
/-- Freeze status (R400). -/
def Reg.LOGB_FRZ : Reg := ⟨101, false, 0x801c, [], 32⟩
/-- LOGB_FRZ[30:16], RO, reset 0. -/
def Field.LOGB_FRZ_PENDING : Field := ⟨283, 101, 30, 16, .ro, 0⟩
/-- LOGB_FRZ[0:0], RO, reset 0. -/
def Field.LOGB_FRZ_FROZEN : Field := ⟨284, 101, 0, 0, .ro, 0⟩
/-- Current stamps (R400). -/
def Reg.LOGB_TIME : Reg := ⟨102, false, 0x8020, [], 64⟩
/-- LOGB_TIME[48:48], RO, reset from store. -/
def Field.LOGB_TIME_LAST_ORDERLY : Field := ⟨285, 102, 48, 48, .ro, 0⟩
/-- LOGB_TIME[47:32], RO, reset from store. -/
def Field.LOGB_TIME_POWER_CYCLES : Field := ⟨286, 102, 47, 32, .ro, 0⟩
/-- LOGB_TIME[31:0], RO, reset from store. -/
def Field.LOGB_TIME_OP_SEC : Field := ⟨287, 102, 31, 0, .ro, 0⟩
/-- Partition view sequence (R400). -/
def Reg.VFLOG_SEQ : Reg := ⟨103, true, 0x81000, [(0, 16)], 64⟩
/-- VFLOG_SEQ[63:0], RO, reset 0. -/
def Field.VFLOG_SEQ_PSEQ : Field := ⟨288, 103, 63, 0, .ro, 0⟩
/-- Firmware status (R421). -/
def Reg.GCTL_FW_STAT : Reg := ⟨104, false, 0x1800, [], 64⟩
/-- GCTL_FW_STAT[55:50], RO, reset fuse. -/
def Field.GCTL_FW_STAT_FUSED_SVN : Field := ⟨289, 104, 55, 50, .ro, 0⟩
/-- GCTL_FW_STAT[49:44], RO, reset 0. -/
def Field.GCTL_FW_STAT_BOOT_SVN : Field := ⟨290, 104, 49, 44, .ro, 0⟩
/-- GCTL_FW_STAT[43:40], RO, reset 0. -/
def Field.GCTL_FW_STAT_HANDOVER_RESULT : Field := ⟨291, 104, 43, 40, .ro, 0⟩
/-- GCTL_FW_STAT[39:36], RO, reset 0. -/
def Field.GCTL_FW_STAT_STAGE_RESULT : Field := ⟨292, 104, 39, 36, .ro, 0⟩
/-- GCTL_FW_STAT[35:33], RO, reset 0. -/
def Field.GCTL_FW_STAT_SET_RESULT : Field := ⟨293, 104, 35, 33, .ro, 0⟩
/-- GCTL_FW_STAT[32:32], RO, reset 0. -/
def Field.GCTL_FW_STAT_UNREADABLE : Field := ⟨294, 104, 32, 32, .ro, 0⟩
/-- GCTL_FW_STAT[31:31], RO, reset 0. -/
def Field.GCTL_FW_STAT_CONFIRMED : Field := ⟨295, 104, 31, 31, .ro, 0⟩
/-- GCTL_FW_STAT[30:30], RO, reset 0. -/
def Field.GCTL_FW_STAT_BOOT_SLOT : Field := ⟨296, 104, 30, 30, .ro, 0⟩
/-- GCTL_FW_STAT[23:8], RO, reset 0. -/
def Field.GCTL_FW_STAT_SCHEMA : Field := ⟨297, 104, 23, 8, .ro, 0⟩
/-- GCTL_FW_STAT[5:3], RO, reset 0. -/
def Field.GCTL_FW_STAT_GE_STATE : Field := ⟨298, 104, 5, 3, .ro, 0⟩
/-- GCTL_FW_STAT[2:0], RO, reset 0. -/
def Field.GCTL_FW_STAT_GW_STATE : Field := ⟨299, 104, 2, 0, .ro, 0⟩
/-- Image address (R421). -/
def Reg.GCTL_FW_IMG : Reg := ⟨105, false, 0x1808, [], 64⟩
/-- GCTL_FW_IMG[52:12], RW, reset 0. -/
def Field.GCTL_FW_IMG_BASE : Field := ⟨300, 105, 52, 12, .rw, 0⟩
/-- GCTL_FW_IMG[11:0], RW, reset 0. -/
def Field.GCTL_FW_IMG_LENGTH : Field := ⟨301, 105, 11, 0, .rw, 0⟩
/-- Firmware control (R421). -/
def Reg.GCTL_FW_CTL : Reg := ⟨106, false, 0x1810, [], 32⟩
/-- GCTL_FW_CTL[3:3], WO, reset 0. -/
def Field.GCTL_FW_CTL_FALLBACK : Field := ⟨302, 106, 3, 3, .wo, 0⟩
/-- GCTL_FW_CTL[2:2], WO, reset 0. -/
def Field.GCTL_FW_CTL_CONFIRM : Field := ⟨303, 106, 2, 2, .wo, 0⟩
/-- GCTL_FW_CTL[1:1], WO, reset 0. -/
def Field.GCTL_FW_CTL_HANDOVER : Field := ⟨304, 106, 1, 1, .wo, 0⟩
/-- GCTL_FW_CTL[0:0], WO, reset 0. -/
def Field.GCTL_FW_CTL_STAGE : Field := ⟨305, 106, 0, 0, .wo, 0⟩
/-- Settings record address (R421). -/
def Reg.GCTL_SET_ADDR : Reg := ⟨107, false, 0x1818, [], 64⟩
/-- GCTL_SET_ADDR[52:4], RW, reset 0. -/
def Field.GCTL_SET_ADDR_BASE : Field := ⟨306, 107, 52, 4, .rw, 0⟩
/-- Settings control (R421). -/
def Reg.GCTL_SET_CTL : Reg := ⟨108, false, 0x1820, [], 32⟩
/-- GCTL_SET_CTL[0:0], WO, reset 0. -/
def Field.GCTL_SET_CTL_WRITE : Field := ⟨307, 108, 0, 0, .wo, 0⟩
/-- Debug challenge, i = 0 to 3 (R421). -/
def Reg.GCTL_DBG_CHAL : Reg := ⟨109, false, 0x1840, [(8, 4)], 64⟩
/-- GCTL_DBG_CHAL[63:0], RO, reset 0. -/
def Field.GCTL_DBG_CHAL_CHALLENGE : Field := ⟨308, 109, 63, 0, .ro, 0⟩
/-- Debug token (R421). -/
def Reg.GCTL_DBG_ADDR : Reg := ⟨110, false, 0x1860, [], 64⟩
/-- GCTL_DBG_ADDR[63:63], WO, reset 0. -/
def Field.GCTL_DBG_ADDR_OPEN : Field := ⟨309, 110, 63, 63, .wo, 0⟩
/-- GCTL_DBG_ADDR[62:62], RO, reset 0. -/
def Field.GCTL_DBG_ADDR_IS_OPEN : Field := ⟨310, 110, 62, 62, .ro, 0⟩
/-- GCTL_DBG_ADDR[52:4], RW, reset 0. -/
def Field.GCTL_DBG_ADDR_BASE : Field := ⟨311, 110, 52, 4, .rw, 0⟩
/-- Key-import public key, i = 0 to 11 (R422). -/
def Reg.PART_KEY_PUB : Reg := ⟨111, false, 0x10e00, [(0x1000, 16), (8, 12)], 64⟩
/-- PART_KEY_PUB[63:0], RO, reset 0. -/
def Field.PART_KEY_PUB_KEY : Field := ⟨312, 111, 63, 0, .ro, 0⟩
/-- Key input, i = 0 to 16 (R422). -/
def Reg.PART_KEY_IN : Reg := ⟨112, false, 0x10e80, [(0x1000, 16), (8, 17)], 64⟩
/-- PART_KEY_IN[63:0], WO, reset 0. -/
def Field.PART_KEY_IN_DATA : Field := ⟨313, 112, 63, 0, .wo, 0⟩
/-- Key control (R422). -/
def Reg.PART_KEY_CTL : Reg := ⟨113, false, 0x10f10, [(0x1000, 16)], 32⟩
/-- PART_KEY_CTL[31:31], WO, reset 0. -/
def Field.PART_KEY_CTL_LOAD : Field := ⟨314, 113, 31, 31, .wo, 0⟩
/-- PART_KEY_CTL[5:5], WO, reset 0. -/
def Field.PART_KEY_CTL_ERASE_ALL : Field := ⟨315, 113, 5, 5, .wo, 0⟩
/-- PART_KEY_CTL[4:4], WO, reset 0. -/
def Field.PART_KEY_CTL_ERASE : Field := ⟨316, 113, 4, 4, .wo, 0⟩
/-- PART_KEY_CTL[3:0], WO, reset 0. -/
def Field.PART_KEY_CTL_SLOT : Field := ⟨317, 113, 3, 0, .wo, 0⟩
/-- Key status (R422). -/
def Reg.PART_KEY_STAT : Reg := ⟨114, false, 0x10f18, [(0x1000, 16)], 64⟩
/-- PART_KEY_STAT[63:32], RO, reset 0. -/
def Field.PART_KEY_STAT_REFUSED : Field := ⟨318, 114, 63, 32, .ro, 0⟩
/-- PART_KEY_STAT[15:0], RO, reset 0. -/
def Field.PART_KEY_STAT_LOADED : Field := ⟨319, 114, 15, 0, .ro, 0⟩
/-- Page clearing (R422). -/
def Reg.HBM_CLR : Reg := ⟨115, false, 0x40030, [(0x400, 48)], 64⟩
/-- HBM_CLR[63:63], RO, reset 0. -/
def Field.HBM_CLR_BUSY : Field := ⟨320, 115, 63, 63, .ro, 0⟩
/-- HBM_CLR[53:48], RO, reset 0. -/
def Field.HBM_CLR_PAGE : Field := ⟨321, 115, 53, 48, .ro, 0⟩
/-- HBM_CLR[47:0], RO, reset 0. -/
def Field.HBM_CLR_PENDING : Field := ⟨322, 115, 47, 0, .ro, 0⟩
/-- Device IDs (R428). -/
def Reg.ID_DEVICE : Reg := ⟨116, false, 0x0, [], 32⟩
/-- ID_DEVICE[31:16], RO, reset 0xA961. -/
def Field.ID_DEVICE_VF_DEVICE : Field := ⟨323, 116, 31, 16, .ro, 0xa961⟩
/-- ID_DEVICE[15:0], RO, reset 0xA960. -/
def Field.ID_DEVICE_PF_DEVICE : Field := ⟨324, 116, 15, 0, .ro, 0xa960⟩
/-- Vendor ID (R428). -/
def Reg.ID_VENDOR : Reg := ⟨117, false, 0x4, [], 32⟩
/-- ID_VENDOR[15:0], RO, reset 0x1F3C. -/
def Field.ID_VENDOR_VENDOR : Field := ⟨325, 117, 15, 0, .ro, 0x1f3c⟩
/-- Part (R428). -/
def Reg.ID_PART : Reg := ⟨118, false, 0x8, [], 32⟩
/-- ID_PART[31:24], RO, reset fuse. -/
def Field.ID_PART_STEPPING : Field := ⟨326, 118, 31, 24, .ro, 0⟩
/-- ID_PART[17:16], RO, reset fuse. -/
def Field.ID_PART_GRADE : Field := ⟨327, 118, 17, 16, .ro, 0⟩
/-- ID_PART[6:0], RO, reset fuse. -/
def Field.ID_PART_ENABLED : Field := ⟨328, 118, 6, 0, .ro, 0⟩
/-- Disabled positions 0–63 (R428). -/
def Reg.ID_DISABLED_LO : Reg := ⟨119, false, 0x10, [], 64⟩
/-- ID_DISABLED_LO[63:0], RO, reset fuse. -/
def Field.ID_DISABLED_LO_MASK : Field := ⟨329, 119, 63, 0, .ro, 0⟩
/-- Disabled positions 64–95 (R428). -/
def Reg.ID_DISABLED_HI : Reg := ⟨120, false, 0x18, [], 64⟩
/-- ID_DISABLED_HI[31:0], RO, reset fuse. -/
def Field.ID_DISABLED_HI_MASK : Field := ⟨330, 120, 31, 0, .ro, 0⟩
/-- Determinism signature (R428). -/
def Reg.ID_SIGNATURE : Reg := ⟨121, false, 0x20, [], 64⟩
/-- ID_SIGNATURE[63:0], RO, reset 0. -/
def Field.ID_SIGNATURE_SIG : Field := ⟨331, 121, 63, 0, .ro, 0⟩
/-- Provisioned identity (R428). -/
def Reg.ID_IDENTITY : Reg := ⟨122, false, 0x28, [], 64⟩
/-- ID_IDENTITY[47:0], RO, reset fuse. -/
def Field.ID_IDENTITY_PID : Field := ⟨332, 122, 47, 0, .ro, 0⟩
/-- Serial number (R428). -/
def Reg.ID_SERIAL : Reg := ⟨123, false, 0x30, [], 64⟩
/-- ID_SERIAL[63:0], RO, reset fuse. -/
def Field.ID_SERIAL_SERIAL : Field := ⟨333, 123, 63, 0, .ro, 0⟩
/-- Capabilities 0 (R428). -/
def Reg.ID_CAP0 : Reg := ⟨124, false, 0x40, [], 64⟩
/-- ID_CAP0[63:56], RO, reset 0x10. -/
def Field.ID_CAP0_PARTITIONS : Field := ⟨334, 124, 63, 56, .ro, 0x10⟩
/-- ID_CAP0[55:48], RO, reset 0x30. -/
def Field.ID_CAP0_STACKS : Field := ⟨335, 124, 55, 48, .ro, 0x30⟩
/-- ID_CAP0[47:40], RO, reset 0x40. -/
def Field.ID_CAP0_PORTS : Field := ⟨336, 124, 47, 40, .ro, 0x40⟩
/-- ID_CAP0[39:32], RO, reset 0x10. -/
def Field.ID_CAP0_LASERS : Field := ⟨337, 124, 39, 32, .ro, 0x10⟩
/-- ID_CAP0[31:16], RO, reset 0x4000. -/
def Field.ID_CAP0_QUEUES : Field := ⟨338, 124, 31, 16, .ro, 0x4000⟩
/-- ID_CAP0[15:0], RO, reset 0x1000. -/
def Field.ID_CAP0_INFLIGHT : Field := ⟨339, 124, 15, 0, .ro, 0x1000⟩
/-- Capabilities 1 (R428). -/
def Reg.ID_CAP1 : Reg := ⟨125, false, 0x48, [], 64⟩
/-- ID_CAP1[63:32], RO, reset 0x0004_0000. -/
def Field.ID_CAP1_ERT_ENTRIES : Field := ⟨340, 125, 63, 32, .ro, 0x40000⟩
/-- ID_CAP1[31:16], RO, reset 0x8000. -/
def Field.ID_CAP1_FENCES : Field := ⟨341, 125, 31, 16, .ro, 0x8000⟩
/-- ID_CAP1[15:8], RO, reset 0x30. -/
def Field.ID_CAP1_STACK_GIB : Field := ⟨342, 125, 15, 8, .ro, 0x30⟩
/-- ID_CAP1[7:0], RO, reset 0x60. -/
def Field.ID_CAP1_POSITIONS : Field := ⟨343, 125, 7, 0, .ro, 0x60⟩
/-- Capabilities 2 (R428). -/
def Reg.ID_CAP2 : Reg := ⟨126, false, 0x50, [], 64⟩
/-- ID_CAP2[63:48], RO, reset 0x0640. -/
def Field.ID_CAP2_CORE_MHZ : Field := ⟨344, 126, 63, 48, .ro, 0x640⟩
/-- ID_CAP2[47:32], RO, reset 0x07D0. -/
def Field.ID_CAP2_BRIDLE_MHZ : Field := ⟨345, 126, 47, 32, .ro, 0x7d0⟩
/-- ID_CAP2[31:16], RO, reset 0x0FFF. -/
def Field.ID_CAP2_FORMATS : Field := ⟨346, 126, 31, 16, .ro, 0xfff⟩
/-- ID_CAP2[15:11], RO, reset 0x1F. -/
def Field.ID_CAP2_PERIODS : Field := ⟨347, 126, 15, 11, .ro, 0x1f⟩
/-- ID_CAP2[9:0], RO, reset 0x200. -/
def Field.ID_CAP2_VF_VECTORS : Field := ⟨348, 126, 9, 0, .ro, 0x200⟩
/-- Module reset (R429). -/
def Reg.GCTL_RESET : Reg := ⟨127, false, 0x1000, [], 32⟩
/-- GCTL_RESET[31:16], WO, reset 0. -/
def Field.GCTL_RESET_KEY : Field := ⟨349, 127, 31, 16, .wo, 0⟩
/-- GCTL_RESET[0:0], WO, reset 0. -/
def Field.GCTL_RESET_MODULE : Field := ⟨350, 127, 0, 0, .wo, 0⟩
/-- Module status (R429). -/
def Reg.GCTL_STAT : Reg := ⟨128, false, 0x1008, [], 32⟩
/-- GCTL_STAT[31:28], RO, reset 0. -/
def Field.GCTL_STAT_RESET_CAUSE : Field := ⟨351, 128, 31, 28, .ro, 0⟩
/-- GCTL_STAT[1:1], RO, reset 0. -/
def Field.GCTL_STAT_STOPPED : Field := ⟨352, 128, 1, 1, .ro, 0⟩
/-- GCTL_STAT[0:0], RO, reset 0. -/
def Field.GCTL_STAT_UP : Field := ⟨353, 128, 0, 0, .ro, 0⟩
/-- Host ports (R429). -/
def Reg.GCTL_HOST : Reg := ⟨129, false, 0x1010, [], 32⟩
/-- GCTL_HOST[9:9], RO, reset 0. -/
def Field.GCTL_HOST_ACTIVE : Field := ⟨354, 129, 9, 9, .ro, 0⟩
/-- GCTL_HOST[8:8], RW, reset 0. -/
def Field.GCTL_HOST_PRIMARY : Field := ⟨355, 129, 8, 8, .rw, 0⟩
/-- GCTL_HOST[5:5], RO, reset 0. -/
def Field.GCTL_HOST_FULL1 : Field := ⟨356, 129, 5, 5, .ro, 0⟩
/-- GCTL_HOST[4:4], RO, reset 0. -/
def Field.GCTL_HOST_UP1 : Field := ⟨357, 129, 4, 4, .ro, 0⟩
/-- GCTL_HOST[1:1], RO, reset 0. -/
def Field.GCTL_HOST_FULL0 : Field := ⟨358, 129, 1, 1, .ro, 0⟩
/-- GCTL_HOST[0:0], RO, reset 0. -/
def Field.GCTL_HOST_UP0 : Field := ⟨359, 129, 0, 0, .ro, 0⟩
/-- Copy status (R432). -/
def Reg.FRU_STAT : Reg := ⟨130, false, 0x50f00, [], 64⟩
/-- FRU_STAT[63:48], RO, reset 0. -/
def Field.FRU_STAT_LASER_VALID : Field := ⟨360, 130, 63, 48, .ro, 0⟩
/-- FRU_STAT[47:30], RO, reset 0. -/
def Field.FRU_STAT_BRICK_VALID : Field := ⟨361, 130, 47, 30, .ro, 0⟩
/-- FRU_STAT[29:29], RO, reset 0. -/
def Field.FRU_STAT_SHUFFLE_VALID : Field := ⟨362, 130, 29, 29, .ro, 0⟩
/-- FRU_STAT[28:28], RO, reset 0. -/
def Field.FRU_STAT_SENSOR_VALID : Field := ⟨363, 130, 28, 28, .ro, 0⟩
/-- FRU_STAT[15:0], RO, reset 0. -/
def Field.FRU_STAT_GEN : Field := ⟨364, 130, 15, 0, .ro, 0⟩

/-- Every register, in the order of the chapters, part 0. -/
def Reg.all0 : List Reg :=
  [Reg.REEL_CFG, Reg.REEL_REFSET, Reg.REEL_STAT, Reg.REEL_COUNT, Reg.REEL_CYCLE, Reg.REEL_HOLD,
   Reg.REEL_PHASE, Reg.REEL_CTL, Reg.REEL_EVT, Reg.REEL_PERIOD_NEXT, Reg.REEL_SLACK, Reg.REEL_BEACON_ERR,
   Reg.PART_SPARSE, Reg.CORE_DROP, Reg.CORE_PATHS, Reg.CORE_PRUNE, Reg.CORE_TMEM_HAZ, Reg.CORE_TMEM_WIN,
   Reg.CORE_TMEM_STAB, Reg.CORE_TMEM_ECC, Reg.CORE_TMEM_CLR, Reg.PART_BRIDLE, Reg.CORE_BRIDLE_LINK, Reg.HBM_STAT]
/-- Every register, in the order of the chapters, part 1. -/
def Reg.all1 : List Reg :=
  [Reg.HBM_ECC, Reg.HBM_SCRUB, Reg.PART_ERT, Reg.PART_ERT_GEN, Reg.PART_ERT_CTL, Reg.PART_STAGE,
   Reg.PART_MODEL_CTL, Reg.STRM_SCRUB_CFG, Reg.STRM_SCRUB_STAT, Reg.STRM_DEFER, Reg.STRM_FAIL, Reg.PART_SPEC_STATE,
   Reg.PART_SPEC_CNT, Reg.PART_SPEC_BYTES, Reg.PART_SPILL, Reg.CORE_ACC_MAP, Reg.CORE_RED_CNT, Reg.CORE_GATHER,
   Reg.PART_COLL, Reg.TETH_CFG, Reg.TETH_CTL, Reg.TETH_STAT, Reg.TETH_LANE_RX, Reg.TETH_LANE_TX]
/-- Every register, in the order of the chapters, part 2. -/
def Reg.all2 : List Reg :=
  [Reg.TETH_FEC, Reg.TETH_UNCORR, Reg.TETH_LINK_CNT, Reg.TETH_EVT, Reg.TETH_NODE, Reg.TETH_DELAY,
   Reg.TETH_LASER, Reg.QTAB_CMD, Reg.QTAB_CPL, Reg.QTAB_DB, Reg.QTAB_PTR, Reg.FENCE_VALUE,
   Reg.PART_CMD, Reg.PART_QUEUES, Reg.PART_FENCES, Reg.VFDB_RING, Reg.VFFENCE_VALUE, Reg.PART_STATE,
   Reg.PART_SHAPE, Reg.PART_PORTS, Reg.PART_HBM_SHARE, Reg.PART_EVT, Reg.PART_MODE, Reg.PART_PAGES]
/-- Every register, in the order of the chapters, part 3. -/
def Reg.all3 : List Reg :=
  [Reg.PART_PROG_ADDR, Reg.PART_PROG_CTL, Reg.PART_PROG_DIGEST, Reg.PART_PROG_STAT, Reg.CORE_BIND, Reg.VFID_STAT,
   Reg.VFEVT_STAT, Reg.VFEVT_CFG, Reg.PART_JRNL_BASE, Reg.PART_JRNL_STAT, Reg.PART_JRNL_TAIL, Reg.PART_STEP,
   Reg.PWR_CFG, Reg.PWR_STAT, Reg.PWR_STEP, Reg.PWR_PART, Reg.PWR_BRICK, Reg.PWR_DOM_CTL,
   Reg.PWR_DOM_STAT, Reg.PWR_DOM_VMIN, Reg.PWR_DOM_DROOP, Reg.PART_RECOVER, Reg.CORE_BIST, Reg.HBM_CTL]
/-- Every register, in the order of the chapters, part 4. -/
def Reg.all4 : List Reg :=
  [Reg.HBM_SVC, Reg.LOGB_CFG, Reg.LOGB_STAT, Reg.LOGB_SEQ, Reg.LOGB_CTL, Reg.LOGB_FRZ,
   Reg.LOGB_TIME, Reg.VFLOG_SEQ, Reg.GCTL_FW_STAT, Reg.GCTL_FW_IMG, Reg.GCTL_FW_CTL, Reg.GCTL_SET_ADDR,
   Reg.GCTL_SET_CTL, Reg.GCTL_DBG_CHAL, Reg.GCTL_DBG_ADDR, Reg.PART_KEY_PUB, Reg.PART_KEY_IN, Reg.PART_KEY_CTL,
   Reg.PART_KEY_STAT, Reg.HBM_CLR, Reg.ID_DEVICE, Reg.ID_VENDOR, Reg.ID_PART, Reg.ID_DISABLED_LO]
/-- Every register, in the order of the chapters, part 5. -/
def Reg.all5 : List Reg :=
  [Reg.ID_DISABLED_HI, Reg.ID_SIGNATURE, Reg.ID_IDENTITY, Reg.ID_SERIAL, Reg.ID_CAP0, Reg.ID_CAP1,
   Reg.ID_CAP2, Reg.GCTL_RESET, Reg.GCTL_STAT, Reg.GCTL_HOST, Reg.FRU_STAT]
/-- Every register, in the order of the chapters. -/
def Reg.all : List Reg := List.flatten [Reg.all0, Reg.all1, Reg.all2, Reg.all3, Reg.all4, Reg.all5]

/-- Every field that is not reserved, part 0. -/
def Field.all0 : List Field :=
  [Field.REEL_CFG_LOCK, Field.REEL_CFG_SLACK_WARN, Field.REEL_CFG_LOCK_FRAMES, Field.REEL_REFSET_PORTS, Field.REEL_STAT_CAUSE, Field.REEL_STAT_PERIOD,
   Field.REEL_STAT_REF_VALID, Field.REEL_STAT_REF_PORT, Field.REEL_STAT_STATE, Field.REEL_COUNT_COUNT, Field.REEL_CYCLE_CYCLE, Field.REEL_HOLD_LAST,
   Field.REEL_HOLD_CURRENT, Field.REEL_PHASE_ERROR, Field.REEL_CTL_RESUME, Field.REEL_CTL_RESELECT, Field.REEL_EVT_PERIOD_CHANGE, Field.REEL_EVT_BEACON_DISCARD,
   Field.REEL_EVT_RELOCK, Field.REEL_EVT_LOST, Field.REEL_EVT_HOLDOVER_EXIT, Field.REEL_EVT_HOLDOVER_ENTER, Field.REEL_EVT_REF_CHANGE, Field.REEL_PERIOD_NEXT_VALID]
/-- Every field that is not reserved, part 1. -/
def Field.all1 : List Field :=
  [Field.REEL_PERIOD_NEXT_CODE, Field.REEL_PERIOD_NEXT_FRAME, Field.REEL_SLACK_FRAME, Field.REEL_SLACK_MIN_SLACK, Field.REEL_BEACON_ERR_COUNT, Field.PART_SPARSE_DROP_FAULT_EN,
   Field.PART_SPARSE_DROP_LIMIT, Field.PART_SPARSE_MERGE_MAX_ROWS, Field.CORE_DROP_TOTAL, Field.CORE_DROP_TASK, Field.CORE_PATHS_EXPANDED, Field.CORE_PATHS_MERGE,
   Field.CORE_PATHS_STRUCT, Field.CORE_PATHS_DENSE, Field.CORE_PRUNE_GROUPS, Field.CORE_PRUNE_TIES, Field.CORE_TMEM_HAZ_TOTAL, Field.CORE_TMEM_HAZ_WW,
   Field.CORE_TMEM_HAZ_TASK, Field.CORE_TMEM_WIN_OPEN, Field.CORE_TMEM_STAB_VIOL_TOTAL, Field.CORE_TMEM_STAB_STABLE_OPEN, Field.CORE_TMEM_ECC_CORRECTED, Field.CORE_TMEM_ECC_UNCORRECTABLE]
/-- Every field that is not reserved, part 2. -/
def Field.all2 : List Field :=
  [Field.CORE_TMEM_CLR_BUSY, Field.CORE_TMEM_CLR_CAUSE, Field.CORE_TMEM_CLR_FRAME, Field.PART_BRIDLE_BOUND, Field.PART_BRIDLE_BASE, Field.PART_BRIDLE_REMOTE,
   Field.PART_BRIDLE_WRITE, Field.PART_BRIDLE_READ, Field.CORE_BRIDLE_LINK_STATE, Field.CORE_BRIDLE_LINK_SPARES_USED, Field.CORE_BRIDLE_LINK_UNCORRECTABLE, Field.CORE_BRIDLE_LINK_CORRECTED,
   Field.HBM_STAT_WW, Field.HBM_STAT_STATE, Field.HBM_ECC_CORRECTED, Field.HBM_ECC_UNCORRECTABLE, Field.HBM_SCRUB_PASSES, Field.HBM_SCRUB_POSITION,
   Field.PART_ERT_COUNT, Field.PART_ERT_BASE, Field.PART_ERT_GEN_SHADOW, Field.PART_ERT_GEN_COMMITTED, Field.PART_ERT_CTL_REJECT, Field.PART_ERT_CTL_SYNC_BUSY]
/-- Every field that is not reserved, part 3. -/
def Field.all3 : List Field :=
  [Field.PART_ERT_CTL_SWITCH, Field.PART_STAGE_SPEC_MAX, Field.PART_STAGE_BUF_COUNT, Field.PART_STAGE_BUF_ROWS, Field.PART_STAGE_BASE_ROW, Field.PART_MODEL_CTL_REJECT,
   Field.PART_MODEL_CTL_SWITCHED, Field.PART_MODEL_CTL_PENDING, Field.STRM_SCRUB_CFG_INTERVAL, Field.STRM_SCRUB_STAT_CHECKED, Field.STRM_SCRUB_STAT_BAD, Field.STRM_DEFER_EXHAUSTED,
   Field.STRM_DEFER_DEFERRALS, Field.STRM_FAIL_DIGEST, Field.STRM_FAIL_OVERRUN, Field.STRM_FAIL_UNDERRUN, Field.PART_SPEC_STATE_REFUTED, Field.PART_SPEC_STATE_PENDING,
   Field.PART_SPEC_CNT_SQUASHED, Field.PART_SPEC_CNT_CONFIRMED, Field.PART_SPEC_CNT_HELD_FAULTS, Field.PART_SPEC_CNT_STRAY, Field.PART_SPEC_BYTES_BYTES, Field.PART_SPILL_BLOCKS_RUN]
/-- Every field that is not reserved, part 4. -/
def Field.all4 : List Field :=
  [Field.PART_SPILL_LAST_SPILLED, Field.PART_SPILL_LAST_MAX, Field.CORE_ACC_MAP_MAP, Field.CORE_RED_CNT_FLUSHED, Field.CORE_RED_CNT_RANGE, Field.CORE_RED_CNT_NAN,
   Field.CORE_GATHER_MISSES, Field.CORE_GATHER_ARMED, Field.CORE_GATHER_SET, Field.PART_COLL_MISMATCH, Field.PART_COLL_INEXACT, Field.TETH_CFG_UNCORR_LIMIT,
   Field.TETH_CFG_LANE_ERR_LIMIT, Field.TETH_CFG_NARROW_EN, Field.TETH_CFG_ENABLE, Field.TETH_CTL_ONLINE, Field.TETH_CTL_LOOPBACK, Field.TETH_CTL_OFFLINE,
   Field.TETH_CTL_RETRAIN, Field.TETH_STAT_DOWN_CAUSE, Field.TETH_STAT_TX_SUBST, Field.TETH_STAT_RX_SUBST, Field.TETH_STAT_TX_WIDTH, Field.TETH_STAT_RX_WIDTH]
/-- Every field that is not reserved, part 5. -/
def Field.all5 : List Field :=
  [Field.TETH_STAT_STATE, Field.TETH_LANE_RX_LANES, Field.TETH_LANE_TX_LANES, Field.TETH_FEC_CORRECTED, Field.TETH_FEC_UNCORR_TOTAL, Field.TETH_UNCORR_DISCARD_NARROW,
   Field.TETH_UNCORR_SINCE_TRAIN, Field.TETH_LINK_CNT_RETRAINS, Field.TETH_LINK_CNT_NARROWINGS, Field.TETH_LINK_CNT_SUBSTITUTIONS, Field.TETH_LINK_CNT_LANES_LOST, Field.TETH_EVT_LASER,
   Field.TETH_EVT_ADDR_MISMATCH, Field.TETH_EVT_DOWN, Field.TETH_EVT_RETRAINED, Field.TETH_EVT_STOPPED, Field.TETH_EVT_NARROWED, Field.TETH_EVT_SUBSTITUTED,
   Field.TETH_EVT_LANE_LOST, Field.TETH_NODE_PEER, Field.TETH_NODE_NODE, Field.TETH_DELAY_DELAY, Field.TETH_LASER_INSERTIONS, Field.TETH_LASER_SWAP]
/-- Every field that is not reserved, part 6. -/
def Field.all6 : List Field :=
  [Field.TETH_LASER_STATE, Field.QTAB_CMD_ENABLE, Field.QTAB_CMD_FAULT, Field.QTAB_CMD_FAULT_CAUSE, Field.QTAB_CMD_BASE, Field.QTAB_CMD_LOG2,
   Field.QTAB_CPL_VECTOR, Field.QTAB_CPL_BASE, Field.QTAB_CPL_LOG2, Field.QTAB_DB_CPL_HEAD, Field.QTAB_DB_TAIL, Field.QTAB_PTR_CPL_TAIL,
   Field.QTAB_PTR_FETCH, Field.FENCE_VALUE_VALUE, Field.PART_CMD_DEFER_DROPPED, Field.PART_CMD_TASK, Field.PART_CMD_INFLIGHT, Field.PART_CMD_QUOTA,
   Field.PART_QUEUES_COUNT, Field.PART_QUEUES_BASE, Field.PART_FENCES_COUNT, Field.PART_FENCES_BASE, Field.VFDB_RING_CPL_HEAD, Field.VFDB_RING_TAIL]
/-- Every field that is not reserved, part 7. -/
def Field.all7 : List Field :=
  [Field.VFFENCE_VALUE_VALUE, Field.PART_STATE_GEN, Field.PART_STATE_RETAINED, Field.PART_STATE_LAST_CHECK, Field.PART_STATE_RESIZE_ARMED, Field.PART_STATE_STATE,
   Field.PART_SHAPE_SPARES, Field.PART_SHAPE_LCORES, Field.PART_PORTS_PORTS, Field.PART_HBM_SHARE_BURSTS, Field.PART_EVT_EVENTS, Field.PART_MODE_MODE,
   Field.PART_MODE_CAUSE, Field.PART_MODE_ACK, Field.PART_PAGES_CODES, Field.PART_PROG_ADDR_BASE, Field.PART_PROG_CTL_LOAD, Field.PART_PROG_CTL_CLEAR,
   Field.PART_PROG_CTL_LENGTH, Field.PART_PROG_DIGEST_DIGEST, Field.PART_PROG_STAT_SERIAL, Field.PART_PROG_STAT_PERIOD, Field.PART_PROG_STAT_LCORES, Field.PART_PROG_STAT_STATE]
/-- Every field that is not reserved, part 8. -/
def Field.all8 : List Field :=
  [Field.CORE_BIND_BOUND, Field.CORE_BIND_SPARE, Field.CORE_BIND_FENCED, Field.CORE_BIND_DISABLED, Field.CORE_BIND_PART, Field.CORE_BIND_SLOT,
   Field.VFID_STAT_GEN, Field.VFID_STAT_LCORES, Field.VFID_STAT_STATE, Field.VFID_STAT_PART, Field.VFEVT_STAT_PROG_READY, Field.VFEVT_STAT_REEL_LOST,
   Field.VFEVT_STAT_MODE_CANCELLED, Field.VFEVT_STAT_MODE_SWITCHED, Field.VFEVT_STAT_PROTECTION_CHANGED, Field.VFEVT_STAT_RESIZE_CANCELLED, Field.VFEVT_STAT_RESIZED, Field.VFEVT_STAT_RESET_DONE,
   Field.VFEVT_STAT_MODEL_REJECT, Field.VFEVT_STAT_MODEL_SWITCHED, Field.VFEVT_STAT_SLACK_WARN, Field.VFEVT_CFG_ENABLE, Field.VFEVT_CFG_VECTOR, Field.PART_JRNL_BASE_BASE]
/-- Every field that is not reserved, part 9. -/
def Field.all9 : List Field :=
  [Field.PART_JRNL_BASE_LOG2, Field.PART_JRNL_STAT_NEXT_SEQ, Field.PART_JRNL_STAT_MIRROR_DROPPED, Field.PART_JRNL_STAT_WRITE_ERR, Field.PART_JRNL_STAT_MIRROR, Field.PART_JRNL_STAT_ENABLED,
   Field.PART_JRNL_TAIL_BYTES, Field.PART_STEP_STEP, Field.PWR_CFG_LOCK, Field.PWR_CFG_DROOP_FAIL, Field.PWR_CFG_DROOP_WARN, Field.PWR_CFG_CORE_BUDGET,
   Field.PWR_CFG_LIMIT, Field.PWR_STAT_INPUT_W, Field.PWR_STAT_RING, Field.PWR_STAT_PHASE, Field.PWR_STAT_STEPPING, Field.PWR_STAT_SUSPECT,
   Field.PWR_STAT_BRICKS_OK, Field.PWR_STAT_FAILED_DOMAINS, Field.PWR_STEP_FRAME, Field.PWR_STEP_COUNT, Field.PWR_STEP_CAUSE, Field.PWR_PART_MEASURED]
/-- Every field that is not reserved, part 10. -/
def Field.all10 : List Field :=
  [Field.PWR_PART_OVER, Field.PWR_PART_ALLOC, Field.PWR_BRICK_OUT_W, Field.PWR_BRICK_TEMP, Field.PWR_BRICK_STATE, Field.PWR_DOM_CTL_VMIN_REARM,
   Field.PWR_DOM_CTL_DEFLATE, Field.PWR_DOM_CTL_INFLATE, Field.PWR_DOM_STAT_STAGE_FAILS, Field.PWR_DOM_STAT_SETPOINT, Field.PWR_DOM_STAT_GROUP_LOST, Field.PWR_DOM_STAT_CAUSE,
   Field.PWR_DOM_STAT_STATE, Field.PWR_DOM_VMIN_FRAME, Field.PWR_DOM_VMIN_CYCLE, Field.PWR_DOM_VMIN_LOCKED, Field.PWR_DOM_VMIN_MIN, Field.PWR_DOM_DROOP_BASELINE,
   Field.PWR_DOM_DROOP_MEDIAN, Field.PWR_DOM_DROOP_STEPS, Field.PART_RECOVER_LAST_TASK_SLACK, Field.PART_RECOVER_REMAPS, Field.PART_RECOVER_SPARES_FREE, Field.PART_RECOVER_INJECT_EN]
/-- Every field that is not reserved, part 11. -/
def Field.all11 : List Field :=
  [Field.PART_RECOVER_AUTO_REMAP, Field.CORE_BIST_BUSY, Field.CORE_BIST_RESULT, Field.CORE_BIST_VMIN, Field.CORE_BIST_MICROCODE, Field.CORE_BIST_FRAME,
   Field.HBM_CTL_RETURN, Field.HBM_CTL_SCRUB, Field.HBM_CTL_DRAIN, Field.HBM_SVC_DRAINED, Field.HBM_SVC_SCRUB_BUSY, Field.HBM_SVC_SCRUB_UNCORR,
   Field.LOGB_CFG_LOCK, Field.LOGB_CFG_RATE_NEW, Field.LOGB_STAT_OVERWRITTEN, Field.LOGB_STAT_LOST, Field.LOGB_SEQ_SEQ, Field.LOGB_CTL_THAW,
   Field.LOGB_CTL_FREEZE, Field.LOGB_FRZ_PENDING, Field.LOGB_FRZ_FROZEN, Field.LOGB_TIME_LAST_ORDERLY, Field.LOGB_TIME_POWER_CYCLES, Field.LOGB_TIME_OP_SEC]
/-- Every field that is not reserved, part 12. -/
def Field.all12 : List Field :=
  [Field.VFLOG_SEQ_PSEQ, Field.GCTL_FW_STAT_FUSED_SVN, Field.GCTL_FW_STAT_BOOT_SVN, Field.GCTL_FW_STAT_HANDOVER_RESULT, Field.GCTL_FW_STAT_STAGE_RESULT, Field.GCTL_FW_STAT_SET_RESULT,
   Field.GCTL_FW_STAT_UNREADABLE, Field.GCTL_FW_STAT_CONFIRMED, Field.GCTL_FW_STAT_BOOT_SLOT, Field.GCTL_FW_STAT_SCHEMA, Field.GCTL_FW_STAT_GE_STATE, Field.GCTL_FW_STAT_GW_STATE,
   Field.GCTL_FW_IMG_BASE, Field.GCTL_FW_IMG_LENGTH, Field.GCTL_FW_CTL_FALLBACK, Field.GCTL_FW_CTL_CONFIRM, Field.GCTL_FW_CTL_HANDOVER, Field.GCTL_FW_CTL_STAGE,
   Field.GCTL_SET_ADDR_BASE, Field.GCTL_SET_CTL_WRITE, Field.GCTL_DBG_CHAL_CHALLENGE, Field.GCTL_DBG_ADDR_OPEN, Field.GCTL_DBG_ADDR_IS_OPEN, Field.GCTL_DBG_ADDR_BASE]
/-- Every field that is not reserved, part 13. -/
def Field.all13 : List Field :=
  [Field.PART_KEY_PUB_KEY, Field.PART_KEY_IN_DATA, Field.PART_KEY_CTL_LOAD, Field.PART_KEY_CTL_ERASE_ALL, Field.PART_KEY_CTL_ERASE, Field.PART_KEY_CTL_SLOT,
   Field.PART_KEY_STAT_REFUSED, Field.PART_KEY_STAT_LOADED, Field.HBM_CLR_BUSY, Field.HBM_CLR_PAGE, Field.HBM_CLR_PENDING, Field.ID_DEVICE_VF_DEVICE,
   Field.ID_DEVICE_PF_DEVICE, Field.ID_VENDOR_VENDOR, Field.ID_PART_STEPPING, Field.ID_PART_GRADE, Field.ID_PART_ENABLED, Field.ID_DISABLED_LO_MASK,
   Field.ID_DISABLED_HI_MASK, Field.ID_SIGNATURE_SIG, Field.ID_IDENTITY_PID, Field.ID_SERIAL_SERIAL, Field.ID_CAP0_PARTITIONS, Field.ID_CAP0_STACKS]
/-- Every field that is not reserved, part 14. -/
def Field.all14 : List Field :=
  [Field.ID_CAP0_PORTS, Field.ID_CAP0_LASERS, Field.ID_CAP0_QUEUES, Field.ID_CAP0_INFLIGHT, Field.ID_CAP1_ERT_ENTRIES, Field.ID_CAP1_FENCES,
   Field.ID_CAP1_STACK_GIB, Field.ID_CAP1_POSITIONS, Field.ID_CAP2_CORE_MHZ, Field.ID_CAP2_BRIDLE_MHZ, Field.ID_CAP2_FORMATS, Field.ID_CAP2_PERIODS,
   Field.ID_CAP2_VF_VECTORS, Field.GCTL_RESET_KEY, Field.GCTL_RESET_MODULE, Field.GCTL_STAT_RESET_CAUSE, Field.GCTL_STAT_STOPPED, Field.GCTL_STAT_UP,
   Field.GCTL_HOST_ACTIVE, Field.GCTL_HOST_PRIMARY, Field.GCTL_HOST_FULL1, Field.GCTL_HOST_UP1, Field.GCTL_HOST_FULL0, Field.GCTL_HOST_UP0]
/-- Every field that is not reserved, part 15. -/
def Field.all15 : List Field :=
  [Field.FRU_STAT_LASER_VALID, Field.FRU_STAT_BRICK_VALID, Field.FRU_STAT_SHUFFLE_VALID, Field.FRU_STAT_SENSOR_VALID, Field.FRU_STAT_GEN]
/-- Every field that is not reserved. -/
def Field.all : List Field := List.flatten [Field.all0, Field.all1, Field.all2, Field.all3, Field.all4, Field.all5, Field.all6, Field.all7, Field.all8, Field.all9, Field.all10, Field.all11, Field.all12, Field.all13, Field.all14, Field.all15]

/-- The fields of a register. -/
def Reg.fields (r : Reg) : List Field := Field.all.filter fun f => f.reg == r.code

/-- Width of a field in bits. -/
def Field.width (f : Field) : Nat := f.hi + 1 - f.lo

/-- The index of a field in the table of register values: the field and its instance (below 65,536). -/
def Field.key (f : Field) (i : Nat) : Nat := f.code * 65536 + i % 65536

/-- The instance number of offset `rel` past instance 0, if it is exactly an instance (R425). -/
def Reg.instanceOf : List (Nat × Nat) → Nat → Option Nat
  | [], rel => if rel = 0 then some 0 else none
  | (stride, count) :: rest, rel =>
    if stride = 0 then Reg.instanceOf rest rel
    else
      let i := rel / stride
      if i < count then
        match Reg.instanceOf rest (rel % stride) with
        | some j => some (i * (rest.map Prod.snd).prod + j)
        | none => none
      else none

/-- The register and instance whose first byte lies at `off` of PF BAR0 (`vf` false) or of a VF BAR0. -/
def Reg.find (vf : Bool) (off : Nat) : Option (Reg × Nat) :=
  Reg.all.findSome? fun r =>
    if r.vf = vf ∧ r.base ≤ off then (Reg.instanceOf r.dims (off - r.base)).map fun i => (r, i) else none

end Sys2Proof.Machine
end

