-- ==== Sys2Proof/Machine/State.lean ====
section
/-! DEFINITION. The state of the block as plain data, and the state after reset (INVENTORY.md, '## State'). Every indexed
family is a table with a default, so that equal states are equal data. -/

namespace Sys2Proof.Machine

/-- Why the block stops. No meaning raises either: the spec gives every command an effect. -/
inductive Fault where
  /-- Raised by nothing: kept so that the type has a constructor. Safe. -/
  | none
  deriving DecidableEq, Repr

/-- Why a command has no meaning. -/
inductive Refusal where
  /-- The arm of exec of a command without a meaning yet. Safe. -/
  | notModelled (mnemonic : String)
  deriving DecidableEq, Repr

/-- Time: the core cycle since module reset, the cycle in which the current frame began, the frames since module reset,
and the core cycles that the current frame holds (R9, R32, R51). -/
structure Clock where
  now : Nat
  frameStart : Nat
  frameNo : Nat
  frameLen : Nat
  deriving DecidableEq, Repr

/-- What the Reel unit knows of one port's beacons (R29, R35, R38). -/
structure Tracker where
  /-- Valid beacon received since the last edge: its count. -/
  got : Option Nat
  /-- PERIOD of that beacon. -/
  gotPeriod : Nat
  /-- Phase error of that beacon, ps. -/
  gotPhase : Int
  /-- Edges in a row with a valid beacon, each one greater than the one before. -/
  run : Nat
  /-- Edges in a row without a valid beacon. -/
  missed : Nat
  /-- Beacons in a row whose count differed from the expected one. -/
  bad : Nat
  /-- Count of the last valid beacon. -/
  last : Option Nat
  /-- Edges since that beacon. -/
  since : Nat
  healthy : Bool
  /-- Beacons of the run with one PERIOD code, and that code. -/
  periodRun : Nat
  period : Nat
  /-- Edges in a row with the phase error within 1 ns. -/
  phaseRun : Nat
  deriving DecidableEq, Repr

/-- A port of which no beacon has been seen. -/
def Tracker.init : Tracker := ⟨none, 0, 0, 0, 0, 0, none, 0, false, 0, 0, 0⟩

/-- One edge's evidence for R41: the healthy ports before R38, every valid beacon's port and count, the module's count. -/
structure EdgeLog where
  healthy : List Nat
  beacons : List (Nat × Nat)
  count : Nat
  deriving DecidableEq, Repr

/-- The Reel unit beside its registers (R29 to R43). -/
structure ReelSt where
  track : Tab Tracker
  /-- The last edges, latest first, at most 3. -/
  log : List EdgeLog
  /-- Edges until the selection after a failure; 0: none awaited (R38). -/
  reselect : Nat
  /-- REEL_CTL.RESELECT awaits the next edge (R30). -/
  request : Bool
  /-- Data fetching is allowed after LOST (R43). -/
  resumed : Bool
  /-- Outcome of the last edge's judgement in HOLDOVER: 0 none, 1 agreement, 2 mismatch (R40). -/
  verdict : Nat
  /-- A late announcement was received: the frame at whose edge LOST follows (R44). -/
  late : Option Nat
  /-- The state has been LOST since module reset (REEL_EVT.RELOCK). -/
  wasLost : Bool
  deriving DecidableEq, Repr

/-- A change of a fence: added, or applied as a maximum, in cycle `at` (R288). -/
structure FenceUpd where
  fence : Nat
  cycle : Nat
  add : Bool
  value : Nat
  deriving DecidableEq, Repr

/-- A fetched command that has not retired (R281 to R285). `part` is none for a PF queue; `batch` is the task's serial
number in its partition, or the frame of the fetch for a PF queue; `ord` is its place in its queue. -/
structure Cmd where
  queue : Nat
  seq : Nat
  part : Option Nat
  batch : Nat
  ord : Nat
  bytes : Bytes
  /-- Frame (since reset) at whose edge it was fetched. -/
  fetched : Nat
  /-- Its first cycle, once begun. -/
  began : Option Nat
  /-- Its opcode's own step has been performed. -/
  ran : Bool
  /-- The cycle in which it retires, once known. -/
  due : Option Nat
  status : Nat
  detail : Nat
  /-- Step number of a wide operation (R332). -/
  step : Nat
  /-- Deferrals so far (R186). -/
  defer : Nat
  /-- The first cycle whose work, of those that its own step performs one after another, is still to be done; for a REDUCE1 that of
  its transfers, and that of its reduce phase. -/
  upto : Nat
  phase : Nat
  /-- Its end arises from an injected fault (R387). -/
  rehearsal : Bool
  deriving DecidableEq, Repr

/-- A completion record that waits to be written (R292, R297). -/
structure Rec where
  queue : Nat
  seq : Nat
  part : Option Nat
  opcode : Nat
  status : Nat
  reel : Nat
  cycles : Nat
  slack : Int
  detail : Nat
  interrupt : Bool
  /-- A BUF_DEFER record does not end its command (R186). -/
  progress : Bool
  /-- It arises from an injected fault (R387). -/
  rehearsal : Bool
  deriving DecidableEq, Repr

/-- A queue beside its registers (R270 to R272). -/
structure QueueSt where
  /-- Latest doorbell not yet sampled: TAIL, CPL_HEAD. -/
  doorbell : Option (Nat × Nat)
  /-- ENABLE in force (R296). -/
  enabled : Bool
  /-- Commands fetched so far. -/
  ord : Nat
  deriving DecidableEq, Repr

def QueueSt.init : QueueSt := ⟨none, false, 0⟩

/-- A task whose header has been found (R277 to R280). -/
structure Task where
  batch : Nat
  queue : Nat
  seq : Nat
  queueCount : Nat
  commands : Nat
  program : Nat
  lcores : Nat
  period : Nat
  tag : Nat
  /-- One of the three cases of R280 in which the rest is fetched and retired at once. -/
  refused : Bool
  /-- Queues of the set whose TASK_LAST command has been fetched. -/
  closed : List Nat
  /-- Commands fetched. -/
  fetched : Nat
  /-- Anchor: the frame (since reset), its Reel Count, and its first cycle once reached. -/
  anchor : Option Nat
  anchorReel : Nat
  anchorAt : Option Nat
  /-- The journal has been on since the edge of its first fetch (R337). -/
  journaled : Bool
  /-- Its TASK_BEGIN record has been written, or would have been with the journal on. -/
  opened : Bool
  deriving DecidableEq, Repr

/-- What a running task gathers (R332, R338, R356, R380). -/
structure TaskSum where
  /-- The cycle in which its header retired. -/
  headerAt : Option Nat
  /-- Least slack of its retired commands. -/
  slack : Int
  /-- Reel Count of the first frame that a clock step shortened, and the core cycles lacked so far. -/
  voidFrom : Option Nat
  voidLost : Nat
  /-- MERGE_MAX_ROWS in force (R100). -/
  mergeMax : Nat
  /-- Spill blocks of the dispatches so far: queue, first order number, commands, and whether it runs (R224). -/
  spill : List (Nat × Nat × Nat × Bool)
  /-- Forecast segment in force and its first frame; those that FORECAST named, in order (R356). -/
  segment : Nat × Nat
  nextSegment : List (Nat × Nat)
  deriving DecidableEq, Repr

def TaskSum.init : TaskSum := ⟨none, 0x7FFFFFFF, none, 0, 0, [], (0, 0), []⟩

/-- A traffic plan entry (Table 7-3); `back` is bytes 20-23 as one number (R147). -/
structure PlanEntry where
  cls : Nat
  colFirst : Bool
  merge : Bool
  srcKind : Nat
  dstKind : Nat
  src : Nat
  dstFirst : Nat
  dstLast : Nat
  lanes : Nat
  rows : Nat
  sendRound : Nat
  need : Nat
  dstRow : Nat
  srcRow : Nat
  addr : Nat
  back : Nat
  deriving DecidableEq, Repr

/-- What binding gives one entry: its round, the read cycles of its rows on a core source, and the delivery cycles on
each destination core (R148). -/
structure Bound where
  round : Nat
  reads : List Nat
  deliveries : List (Nat × List Nat)
  deriving DecidableEq, Repr

/-- A phase list entry (Table 7-6). -/
structure Phase where
  kind : Nat
  first : Nat
  last : Nat
  cycle : Nat
  cycles : Nat
  deriving DecidableEq, Repr

/-- A forecast entry (Table 16-4). -/
structure Forecast where
  power : Nat
  peak : Nat
  step : Nat
  onset : Nat
  deriving DecidableEq, Repr

/-- A program slot beside PART[p]_PROG[h]_STAT (R310, R311, R446). -/
structure Slot where
  digest : Bytes
  plan : List PlanEntry
  bound : List Bound
  phases : List Phase
  segments : List (Nat × Nat)
  forecast : List Forecast
  peak : Nat
  /-- Detail of the unfit cause (Table 7-5). -/
  cause : Nat
  /-- A LOAD or CLEAR awaits the next edge. -/
  pending : Bool
  deriving DecidableEq, Repr

def Slot.init : Slot := ⟨[], [], [], [], [], [], 0, 0, false⟩

/-- The shape and the descriptor registers that a bind put in force (R305, R306). -/
structure Shape where
  lcores : Nat
  spares : Nat
  /-- Physical core index of each logical core, then of each spare. -/
  positions : List Nat
  gen : Nat
  digest : Bytes
  ertBase : Nat
  ertCount : Nat
  sparse : Nat
  stage : Nat
  bridle : Nat
  quota : Nat
  ports : Nat
  bursts : Nat
  pages : List Nat
  /-- The command's own bytes, which a recomputed binding record takes (R370). -/
  params : Bytes
  deriving DecidableEq, Repr

/-- One access of a tile-memory slot on a logical core in a cycle: slot 0 A, 1 B, 2 S; the row that it touches and, of a
write, the stretches of bytes in the row: offset, length (R119, R120, R124 to R127). -/
structure SlotUse where
  core : Nat
  slot : Nat
  write : Bool
  cycle : Nat
  row : Nat
  parts : List (Nat × Nat)
  deriving DecidableEq, Repr

/-- A work item of a wide operation (R84, R93): the group's fields that it uses, its panel, and what it has reached. -/
structure Item where
  group : Nat
  panel : Nat
  m : Nat
  init : Bool
  drain : Bool
  actRow : Nat
  outRow : Nat
  cscaleRow : Nat
  sw : Nat
  mult : Nat
  /-- Tokens of the groups before it (R85). -/
  tokenBase : Nat
  deriving DecidableEq, Repr

/-- An output row of a drain that waits for its write on slot B: the first cycle that may take it or, once `fixed`, its cycle;
the row, its stretches of bytes by offset, and the NaNs that went to INT8 in it (R66, R77). -/
structure OutRow where
  cycle : Nat
  fixed : Bool
  row : Nat
  parts : List (Nat × Bytes)
  nans : Nat
  deriving DecidableEq, Repr

/-- The progress of one core in a matrix operation (R87), in cycles from the operation's first: when the array and the
converter are free, the drains of finished items, the item and the K-tile of the tile that is loaded, the tiles loaded so
far, the linear weight row of the next one, entries dropped (R111), tiles by path (dense, 2:4, merge, expanded), output rows
not yet written, and the cycles in which it moved past the laps of a ring. -/
structure Walk where
  core : Nat
  items : List Item
  c : Nat
  conv : Nat
  done : List Nat
  item : Nat
  ktile : Nat
  index : Nat
  row : Nat
  dropped : Nat
  paths : Nat × Nat × Nat × Nat
  outs : List OutRow
  passes : List (Nat × Nat)
  finished : Option Nat
  /-- Slot-B cycles that the operation has taken so far (R77, R120). -/
  busy : List Nat
  /-- The cycle in which the header row of the next tile was read (R97). -/
  hdrAt : Nat
  deriving DecidableEq, Repr

/-- A wide operation under way (R18, R82, R213): a matrix operation by its walks, a vector operation by the first cycle whose
accesses have not been performed. -/
structure Wide where
  queue : Nat
  seq : Nat
  walks : List Walk
  upto : Nat
  deriving DecidableEq, Repr

/-- A staging buffer (Table 9-2): state code 0 FREE, 1 EMPTY, 2 FILLING, 3 READY, 4 IN_USE, 5 SPENT; its lap, the rows of
the lap placed on each core, and the cycle of its last change. -/
structure Buf where
  state : Nat
  lap : Nat
  rows : List (Nat × Nat)
  cycle : Nat
  deriving DecidableEq, Repr

def Buf.init : Buf := ⟨0, 0, [], 0⟩

/-- A ring that the partition holds (R185, R190). -/
structure Ring where
  queue : Nat
  seq : Nat
  firstBuf : Nat
  nbuf : Nat
  hdrRows : Nat
  layer : Nat
  consumer : Nat
  /-- Prediction slot of a speculative ring. -/
  spec : Option Nat
  /-- The cycle in which the last row of its shards was placed, once every one is. -/
  placed : Option Nat
  /-- The retirement cycle of the operation that consumed it. -/
  consumed : Option Nat
  deriving DecidableEq, Repr

/-- A shard on its way (R174 to R182); port 64 for one that comes from carrier memory. -/
structure Shard where
  id : Nat
  /-- Plan entry, port (tether source). -/
  entry : Nat
  port : Nat
  header : Bytes
  /-- Where in carrier memory it is read, for one that comes from there (R170, R194, R200). -/
  addr : Nat
  /-- Bytes received after the header word, as on the wire. -/
  data : Bytes
  /-- Bytes that came after them and are not kept, the port's store being full as the first of them came (R361). -/
  lost : Nat
  /-- Cycle of its first payload word and the key it met then (R415). -/
  key : Option Bytes
  /-- Verdict: cause of a DIGEST_FAIL plus 1, 0 for OK; and the cycle by which it has reached every core. -/
  verdict : Option (Nat × Nat)
  delivered : Bool
  cancelled : Bool
  /-- Where its data rows and header words go on each destination core: core, first row, first word (R182). -/
  place : List (Nat × Nat × Nat)
  /-- The S cycles, from the anchor, of the output rows of a pruned shard on each core (R115, R123). -/
  outs : List (Nat × List Nat)
  deriving DecidableEq, Repr

/-- The shards of one streaming command, or the pieces and rows of a collective or plan transfer that it waits for, each
piece standing as a shard whose header is the piece header. Queue 16,384 stands for shards whose command has ended and
whose words may still arrive (R197, R218). -/
structure Stream where
  queue : Nat
  seq : Nat
  shards : List Shard
  /-- Ports on which its rows ran degraded: port, erased lane, width 8 (R259). -/
  degraded : List (Nat × Nat × Nat)
  /-- The request has gone out (R181). -/
  asked : Bool
  deriving DecidableEq, Repr

/-- A prediction slot (Table 10-1): state 0 IDLE, 1 PENDING, 3 REFUTED. -/
structure Pred where
  state : Nat
  group : Nat
  firstBuf : Nat
  nbuf : Nat
  outFirst : Nat
  outRows : Nat
  /-- Accumulator groups of its shadow region, and of its target. -/
  shadow : List (Nat × Nat)
  /-- Held commands with their completion records (R219). -/
  held : List (Cmd × Rec)
  /-- Held fault: cycle, status, detail (R216). -/
  fault : Option (Nat × Nat × Nat)
  /-- Bytes streamed for it, as a squashed record counts them (R219). -/
  bytes : Nat
  /-- Dropped entries of its commands by core position, which enter the cores' counts at confirmation (R216). -/
  drops : List (Nat × Nat)
  deriving DecidableEq, Repr

def Pred.init : Pred := ⟨0, 0, 0, 0, 0, 0, [], [], none, 0, []⟩

/-- A pending EVICT (R202): the carrier address of its region, the slots of it, and the cycle of its step. -/
structure Evict where
  addr : Nat
  slots : Nat
  cycle : Nat
  deriving DecidableEq, Repr

/-- What is bound to a partition (R305 to R325). -/
structure PartBind where
  shape : Option Shape
  armed : Option Shape
  /-- Queue and fence ranges in force: base, count. -/
  queues : Nat × Nat
  fences : Nat × Nat
  /-- Digest and slots kept by PART_DESTROY with RETAIN; with each slot its STATE, LCORES and PERIOD at the places that
  PROG_STAT gives them. -/
  retained : Option (Bytes × List (Nat × Slot × Nat))
  /-- The command that retires when the change is complete, and the changes under way: 1 bind, 2 reset, 3 FLR, 4 destroy, 5 resize,
  6 remap. -/
  waiter : Option (Nat × Nat)
  ending : List Nat
  /-- RETAIN of the destroy under way. -/
  retain : Bool
  /-- Remaps that await their edge: logical core, spare index (0xFF: the lowest free one), and whether each waits until
  no task runs (R370, R381, R382). -/
  remap : List (Nat × Nat × Bool)
  /-- Program slots that await rebinding, in their order; the first is bound next (R312, R370). -/
  rebinds : List Nat
  /-- The first slot of a remap rebinding has bound (R370). -/
  firstBound : Bool
  /-- Frame at which rebinding is complete (R312, R370). -/
  readyAt : Option Nat
  /-- The remap that awaits its edge arises from an injected fault (R387). -/
  rehearsal : Bool
  deriving DecidableEq, Repr

def PartBind.init : PartBind := ⟨none, none, (0, 0), (0, 0), none, none, [], false, [], [], false, none, false⟩

/-- What runs on a partition. -/
structure PartRun where
  next : Option Task
  task : Option Task
  sum : TaskSum
  /-- Serial number of the next task. -/
  batch : Nat
  wide : Option Wide
  /-- First cycle in which the next wide operation may begin (R88). -/
  wideFree : Nat
  uses : List SlotUse
  /-- Least slack of the commands retired since the last edge (R50). -/
  minSlack : Option Int
  /-- Event bits set since the last edge, for the event vector (R328). -/
  newEvents : Bool
  /-- The cycle in which its latest command ended (R286). -/
  lastEnd : Nat
  deriving DecidableEq, Repr

def PartRun.init : PartRun := ⟨none, none, TaskSum.init, 0, none, 0, [], none, false, 0⟩

/-- The streaming state of a partition. -/
structure PartStream where
  bufs : Tab Buf
  rings : List Ring
  streams : List Stream
  preds : Tab Pred
  evicts : List Evict
  /-- A SWAP_MODEL is armed by the task of this batch (R205). -/
  swap : Option Nat
  modelCommitted : Bytes
  modelShadow : Bytes
  /-- ERT switch requested in this cycle (R171); frames since a switch whose refill runs. -/
  ertSwitch : Option Nat
  ertSync : Option Nat
  /-- Regions that a bank switch took out of the committed bank: first address, bytes, cycle of the switch (R202). -/
  dropped : List (Nat × Nat × Nat)
  deriving DecidableEq, Repr

def PartStream.init : PartStream :=
  ⟨[], [], [], [], [], none, List.replicate 32 0, List.replicate 32 0, none, none, []⟩

/-- The tenant keys of a partition (R413 to R416): slot keys, IV counters and the key that each counter belongs to, the private
half of the key-import pair, KEY_IN's bytes. -/
structure PartKeys where
  keys : Tab Bytes
  ivs : Tab Nat
  ivKeys : Tab Bytes
  secret : Option Nat
  keyIn : Bytes
  deriving DecidableEq, Repr

def PartKeys.init : PartKeys := ⟨[], [], [], none, []⟩

/-- A journal record before it has its header: its type, the queue and sequence number by which records of one cycle are ordered
(R337), and its body. -/
structure JournalRec where
  type : Nat
  queue : Nat
  seq : Nat
  body : Bytes
  deriving DecidableEq, Repr

/-- The records of the journal's latest cycle, and the journal as that cycle found it: JRNL_TAIL, NEXT_SEQ, MIRROR_DROPPED and the
records that then waited for their mirror (R337). -/
structure JournalGroup where
  cycle : Nat
  tail : Nat
  seq : Nat
  dropped : Nat
  mirror : List Bytes
  recs : List JournalRec
  deriving DecidableEq, Repr

/-- The journal of a partition beside its registers (R334, R340), the records of its latest cycle (R337), and the digests of the
TAPs that have read their rows and not yet retired: queue, sequence number, digest (R341). -/
structure PartJournal where
  port : Nat
  mirror : List Bytes
  taps : List (Nat × Nat × Bytes)
  group : Option JournalGroup
  deriving DecidableEq, Repr

/-- A partition. -/
structure Part where
  bind : PartBind
  run : PartRun
  strm : PartStream
  slots : Tab Slot
  keys : PartKeys
  journal : PartJournal
  deriving DecidableEq, Repr

def Part.init : Part := ⟨PartBind.init, PartRun.init, PartStream.init, [], PartKeys.init, ⟨0, [], [], none⟩⟩

/-- A window (R129, Table 6-1). -/
structure Window where
  index : Nat
  rowFirst : Nat
  rowLast : Nat
  wcolFirst : Nat
  wcolLast : Nat
  core : Bool
  stream : Bool
  tether : Bool
  srcFirst : Nat
  srcLast : Nat
  /-- The first cycle whose writes it checks, and the first one whose writes it no longer checks (R134). -/
  since : Nat
  till : Option Nat
  deriving DecidableEq, Repr

/-- A stable range (R127), with the cycles of a window. -/
structure StableRange where
  index : Nat
  rowFirst : Nat
  rowLast : Nat
  since : Nat
  till : Option Nat
  deriving DecidableEq, Repr

/-- A gather entry (R237): the rows it watches, the cycle in which it was armed, and its flag's cycle once set. -/
structure Gather where
  rowFirst : Nat
  rows : Nat
  since : Nat
  flag : Option Nat
  deriving DecidableEq, Repr

/-- A lane of the reduce unit (R233). -/
structure RedLane where
  a : Int
  nan : Bool
  posOver : Bool
  negOver : Bool
  flushed : Nat
  deriving DecidableEq, Repr

def RedLane.init : RedLane := ⟨0, false, false, false, 0⟩

/-- A write to tile memory as seen by earlier cycles (R124, R125): its cycle and slot, the bytes that stood from an address on
before it, and the quarters whose flipped bits it put right. -/
structure Replaced where
  cycle : Nat
  slot : Nat
  addr : Nat
  old : Bytes
  ecc : List (Nat × Nat)
  deriving DecidableEq, Repr

/-- A core position (R16): tile memory, accumulators by physical row × 256 + column, the array's weight and shadow
registers as the tile last loaded and the one before, reduce lanes, windows, stable ranges, gather entries, the
conversion counter, flipped bits per 16-byte quarter, the clearing under way (end cycle). -/
structure Core where
  tmem : Mem
  acc : Tab Nat
  weights : Bytes
  shadow : Bytes
  lanes : Tab RedLane
  windows : List Window
  stable : List StableRange
  gather : Tab (Option Gather)
  conv : Nat
  ecc : Tab Nat
  clearing : Option Nat
  /-- Frame of the last uncorrectable tile-memory quarter (R369). -/
  lastEcc : Option Nat
  /-- Quarters in which INJECT_FAULT flipped bits (R387). -/
  injected : List Nat
  /-- CORE[n]_TMEM_ECC.CORRECTED as it stood at the last histogram sample (R397). -/
  sampled : Nat
  /-- What the writes of the cycles that running commands may still read replaced, in the order of the writes (R124). -/
  past : List Replaced
  deriving DecidableEq, Repr

def Core.init : Core := ⟨[], [], [], [], [], [], [], [], 0, [], none, none, [], 0, []⟩

/-- Carrier memory by carrier address (R159), the flipped bits of bursts by burst number, the bursts written in the frames that
running commands may still write in, as Reel Count and burst (R166), bad resident shards by carrier address, last checks, page clearing (R417), stacks whose readers are
draining, with the cycle of the DRAIN (R384). -/
structure Carrier where
  mem : Mem
  flips : Tab Nat
  written : List (Nat × Nat)
  /-- What the writes of the stack periods that running commands may still read replaced (R165); `cycle` is the period. -/
  past : List Replaced
  bad : List Nat
  checked : List (Nat × Nat)
  /-- Pages awaiting clearing, page number, in order; per stack the page under way: page, bursts left. -/
  clearing : List Nat
  active : Tab (Option Nat)
  /-- The cycles in which the last mappings of shared pages that await clearing ended (R203). -/
  unmapped : Tab Nat
  draining : List (Nat × Nat)
  ertCommitted : Tab Nat
  ertShadow : Tab Nat
  /-- Patrol bursts to be written back. -/
  patrol : Tab Nat
  /-- Bursts in which INJECT_FAULT flipped bits (R387). -/
  injected : List Nat
  /-- The cycles in which each stack's present patrol pass and the one before began, and the last group of periods that it has patrolled
  (R168, R199). -/
  passes : Tab (Nat × Nat)
  patrolled : Tab Nat
  /-- The cycle in which commands last wrote shadow entries, and those entries (R170). -/
  shadowBy : Nat × List Nat
  deriving DecidableEq, Repr

/-- A link direction beside its register (R155, R156): lanes on spares, corrected words per lane in this frame, lanes to
retire at the next edge. -/
structure Link where
  spared : List Nat
  corrected : List (Nat × Nat)
  retire : List Nat
  /-- Bits that INJECT_FAULT will flip in the next word: 0, 1 or 2, and the cycle from which it waits (R386, R387). -/
  injected : Nat
  since : Nat
  deriving DecidableEq, Repr

def Link.init : Link := ⟨[], [], [], 0, 0⟩

/-- One direction of a port (R240, R241, R256, R257). -/
structure PortDir where
  /-- Lane states, 0 to 4 of Table 12-8, lane 0 first. -/
  lanes : List Nat
  /-- Physical lane of each logical lane, in order: 16 or 8 of them (R240). -/
  map : List Nat
  /-- Logical lane that moves to L16, and the Reel Count of the switch. -/
  substitute : Option (Nat × Nat)
  /-- Lane mask of a narrowing, its switch Reel Count, and the first SEQ to resend. -/
  narrow : Option (Nat × Nat × Nat)
  /-- A direction without parity that discards until it narrows. -/
  lossy : Bool
  seq : Nat
  deriving DecidableEq, Repr

def PortDir.init : PortDir := ⟨List.replicate 17 0, List.range 16, none, none, false, 0⟩

/-- A class 0 message that awaits its acknowledgement: message, edge of its sending, resends (R250). -/
structure Sent where
  msg : Msg
  edge : Nat
  resends : Nat
  deriving DecidableEq, Repr

/-- A tether port beside its registers. -/
structure Port where
  rx : PortDir
  tx : PortDir
  queue : List Msg
  sent : List Sent
  msgSeq : Nat
  seen : List Nat
  acks : List Nat
  /-- Long frames of the last 64 µs: cycle, frame (R257). -/
  store : List (Nat × WslFrame)
  /-- Training: attempts so far, done. -/
  attempts : Nat
  trained : Bool
  assigned : Bool
  /-- Received codewords with corrected symbols in this frame (HCODE 0x04). -/
  corrected : Nat
  /-- Corrected symbols of each receive lane in this frame; a lane that is not listed has none (R254). -/
  laneErrs : Tab Nat
  /-- Received frames that failed the link check, since module reset (R244). -/
  discarded : Nat
  /-- A retraining to come: its latest cycle, and the MSG_SEQs of the messages that go before it (R261). -/
  retrain : Option (Nat × List Nat)
  /-- An action of TETH[n]_CTL for the next edge: 1 ONLINE, 2 LOOPBACK, 3 OFFLINE, 4 RETRAIN, 5 swap. -/
  action : List Nat
  /-- A fault that INJECT_FAULT made is still on the port (R387). -/
  rehearsal : Bool
  deriving DecidableEq, Repr

def Port.init : Port := ⟨PortDir.init, PortDir.init, [], [], 0, [], [], [], 0, false, false, 0, [], 0, none, [], false⟩

/-- A laser bay (R264 to R266). -/
structure Laser where
  present : Bool
  /-- CMIS lower memory and upper page 00h, as read at insertion. -/
  lower : Bytes
  page : Bytes
  /-- Module type and power class pass their checks. -/
  accepted : Bool
  part : Bytes
  swapping : Bool
  deriving DecidableEq, Repr

def Laser.init : Laser := ⟨false, List.replicate 128 0, List.replicate 128 0, false, [], false⟩

/-- A power domain beside its registers (R346 to R349, R357, R362). -/
structure Domain where
  /-- Stage under way, 1 to 4; 0 none. -/
  stage : Nat
  waiting : Bool
  failed : Bool
  quotients : List Nat
  /-- Headroom in units of 0.1 mV and the sixteenth at which it begins. -/
  headroom : Nat × Nat
  groupsLost : Nat
  deriving DecidableEq, Repr

def Domain.init : Domain := ⟨0, false, false, [], (0, 0), 0⟩

/-- An emergency clock step under way (R360): whole frames without a trigger, whether one came in this frame, frames
affected, the cycles that the whole ones lacked, and the cycle since which this frame runs at the lower rate. -/
structure ClockStep where
  quiet : Nat
  trigger : Bool
  frames : Nat
  lost : Nat
  start : Nat
  deriving DecidableEq, Repr

/-- The power manager (R346 to R362). -/
structure Power where
  domains : Tab Domain
  step : Option ClockStep
  /-- Next ring of bring-up, 0 to 8. -/
  ring : Nat
  shutdown : Bool
  /-- Inlet temperature and flow of the last reading that THERMAL_WARNING gave, in tenths (R438). -/
  climate : Option (Nat × Nat)
  deriving DecidableEq, Repr

/-- The prepared mode change (R320 to R323). -/
structure ModeChange where
  mode : Nat
  targets : Nat
  token : Nat
  value : Nat
  frame : Nat
  /-- The MODE_COMMIT that has begun: queue, seq, FRAME; and whether it is decided. -/
  commit : Option (Nat × Nat × Nat)
  decided : Bool
  deriving DecidableEq, Repr

/-- A fault that INJECT_FAULT scheduled (R386). -/
structure Inject where
  queue : Nat
  seq : Nat
  kind : Nat
  part : Nat
  index : Nat
  sub : Nat
  frame : Nat
  addr : Nat
  deriving DecidableEq, Repr

/-- A BIST_RUN under way (R383). -/
structure Bist where
  queue : Nat
  seq : Nat
  position : Nat
  tests : Nat
  done : Bool
  deriving DecidableEq, Repr

/-- The Gondola halves (R377, R378, R405): a half that stopped driving; the half that runs the firmware; a failure that
awaits its takeover; handover stage: 0 none, 1 asked, 2 standby rebooting, 3 ready. -/
structure Gondola where
  gwStopped : Bool
  geStopped : Bool
  firmware : Nat
  takeover : Bool
  handover : Nat
  deriving DecidableEq, Repr

/-- A settings record: header and body (R407). -/
structure Settings where
  schema : Nat
  gen : Nat
  header : Bytes
  body : Bytes
  deriving DecidableEq, Repr

/-- A firmware image in its slot (R401): its bytes, empty for the one of the manufacturer; the root key whose signature
verifies; SVN, MIRROR_MIN, the mirror format that it writes, the microcode level, the highest settings schema it knows. -/
structure Image where
  bytes : Bytes
  signer : Option Nat
  svn : Nat
  mirrorMin : Nat
  mirrorFormat : Nat
  microcode : Nat
  schema : Nat
  deriving DecidableEq, Repr

/-- The firmware, the settings store and the security subsystem (R401 to R419). -/
structure Security where
  slotA : Option Image
  slotB : Option Image
  /-- An image booted by a handover has not been confirmed (R404, R406). -/
  bootedOnce : Bool
  /-- The update has been confirmed (R406). -/
  confirmed : Bool
  /-- FALLBACK awaits the next handover or module reset. -/
  fallback : Bool
  settings : List Settings
  index : List (Nat × Nat)
  selected : Option Settings
  ownerKey : Bytes
  /-- The owner key that a debug opening lets replace it at module reset. -/
  nextOwner : Option Bytes
  rootOpened : Bool
  /-- I3C dynamic address; SPDM algorithms negotiated; the transcript of the exchange. -/
  address : Option Nat
  negotiated : Bool
  transcript : Bytes
  /-- The device and alias keys are locked, and the test access port opens once the clearing has ended (R418). -/
  keysLocked : Bool
  opening : Bool
  deriving DecidableEq, Repr

/-- What is fused (R3, R13, R402, R428, R436). -/
structure Fuses where
  grade : Nat
  enabled : Nat
  disabled : Nat
  identity : Nat
  serial : Nat
  svn : Nat
  limit : Nat
  budget : Nat
  vmin : Nat
  options : Nat
  revoked : Nat
  ownerDigest : Bytes
  deriving DecidableEq, Repr

/-- A tally record (Table 18-2). -/
structure Tally where
  code : Nat
  severity : Nat
  rehearsal : Bool
  overflow : Bool
  subject : Nat
  count : Nat
  arg : Nat
  first : Nat
  last : Nat
  deriving DecidableEq, Repr

/-- A histogram record (Table 18-3); bins by number. -/
structure Hist where
  samples : Nat
  first : Nat
  last : Nat
  min : Int
  max : Int
  bins : Tab Nat
  deriving DecidableEq, Repr

/-- An event for the logbook: code, subject, argument, rehearsal; or a histogram sample. -/
inductive Update where
  | event (code subject arg : Nat) (rehearsal : Bool)
  | sample (hcode subject : Nat) (x : Int)
  deriving DecidableEq, Repr

/-- A partition's view of the book (R399). -/
structure View where
  tallies : List Tally
  hists : Tab Hist
  waiting : List Update
  deriving DecidableEq, Repr

def View.init : View := ⟨[], [], []⟩

/-- The logbook (R389 to R399): tallies by index, histograms by HCODE × 1,024 + subject, records created in this hour per
code, queued updates of a freeze, the cycle of the freeze, the stored copy. -/
structure Book where
  tallies : Tab (Option Tally)
  hists : Tab (Option Hist)
  hour : Nat
  created : List (Nat × Nat)
  /-- Updates that wait for the end of a freeze: the cycle and the stamps of their detection (R398). -/
  queue : List (Nat × Nat × Update)
  frozenAt : Nat
  /-- The store of an orderly shutdown waits for the end of a freeze (R398). -/
  storeDue : Bool
  stored : Tab (Option Tally)
  storedHists : Tab (Option Hist)
  storeTime : Nat
  /-- LOGB_SEQ, OVERWRITTEN and LOST as stored. -/
  storeCounts : Nat × Nat × Nat
  /-- OP_SEC at the start of the present count of cycles (R390). -/
  opBase : Nat
  views : Tab View
  deriving DecidableEq, Repr

/-- An MSI-X function's tables (R298, R303): entries of 16 bytes, with bit 0 of byte 12, the mask bit, inverted; pending bits, vectors with an interrupting record or
event since the last edge, function masked. -/
structure Msix where
  table : Mem
  pending : List Nat
  raised : List Nat
  deriving DecidableEq, Repr

def Msix.init : Msix := ⟨[], [], []⟩

/-- What the module sends to the world outside. -/
inductive Out where
  /-- A WSL frame: a long one of classes 2 to 4, or an edge slot; with the lanes that carry it, and whether L16 carries parity
  (R240, R241). -/
  | frame (port : Nat) (w : WslFrame) (map : List Nat) (parity : Bool)
  /-- An MSI-X message of function 0 (PF) or v: address, data. -/
  | msix (fn address data : Nat)
  /-- The data of a host read. -/
  | read (value : Nat)
  /-- A reply over SPDM. -/
  | spdm (bytes : Bytes)
  /-- A PLDM event: its number. -/
  | pldmEvent (number : Nat)
  /-- A PLDM reply. -/
  | pldm (bytes : Bytes)
  deriving DecidableEq, Repr

/-- What waits for the next frame edge, in the order it was asked for. -/
inductive EdgeReq where
  | mail (i : Instr)
  | fence (f value : Nat)
  | queues (p base count : Nat)
  | fences (p base count : Nat)
  | enable (q : Nat) (on : Bool)
  | port (p mask : Nat)
  | page (p k codes : Nat)
  | flr (p : Nat)
  | load (p h : Nat)
  | clear (p h : Nat)
  | keyLoad (p slot : Nat)
  | keyErase (p slot : Nat)
  | keyEraseAll (p : Nat)
  | journal (p : Nat) (on : Bool) (log2 base : Nat) (mirror : Option Nat)
  | inflate (d : Nat)
  | deflate (d : Nat)
  | vf (v : Nat) (on : Bool)
  | handover
  | host (port : Nat)
  | trip (d cause : Nat)
  | core (n cause : Nat)
  deriving DecidableEq, Repr

/-- The whole machine. -/
structure State where
  /-- Commands waiting, first in, first out. -/
  pending : List Instr
  clock : Clock
  /-- Free values drawn so far (log entry 7): the model's own field. -/
  free : Nat
  fuses : Fuses
  /-- Register fields by Field.key; an unlisted field holds its reset value. -/
  regs : Tab Nat
  /-- The fields that hold measurements, random numbers and counts of the book, in one order, listed once each; an unlisted one
  holds its reset value. -/
  analog : Tab Nat
  reel : ReelSt
  host : Mem
  /-- FRU block bytes (R432). -/
  fru : Mem
  cmds : List Cmd
  recs : List Rec
  fences : List FenceUpd
  queues : Tab QueueSt
  parts : Tab Part
  cores : Tab Core
  carrier : Carrier
  links : Tab Link
  ports : Tab Port
  lasers : Tab Laser
  power : Power
  mode : Option ModeChange
  injects : List Inject
  bists : List Bist
  gondola : Gondola
  sec : Security
  book : Book
  msix : Tab Msix
  vfs : List Nat
  edge : List EdgeReq
  /-- The event under way arises from an injected fault (R387). -/
  rehearsal : Bool
  out : List Out
  /-- The W1C bits that an event has set in the present cycle, as the cycle and their indices in `regs`: a clearing write of that cycle leaves them set (R11). -/
  fresh : Nat × List Nat
  deriving DecidableEq, Repr

/-- Core cycles of a frame of period code c (Table 0-4): 800 × 2^c. -/
def cyclesOf (c : Nat) : Nat := 800 * 2 ^ c

/-- The fuses of the module that the model describes: an FQ-A9600 (log entry 3). -/
def Fuses.init : Fuses := ⟨0, 96, 0, 0, 0, 0, 20000, 12500, 0, 1, 0, []⟩

/-- The fields whose reset is 'fuse', as listed register values (R13, R428, R436). -/
def fuseRegs (f : Fuses) : List (Field × Nat × Nat) :=
  [(Field.ID_PART_STEPPING, 0, 0xA2), (Field.ID_PART_GRADE, 0, f.grade), (Field.ID_PART_ENABLED, 0, f.enabled),
   (Field.ID_DISABLED_LO_MASK, 0, f.disabled % 2 ^ 64), (Field.ID_DISABLED_HI_MASK, 0, f.disabled / 2 ^ 64),
   (Field.ID_IDENTITY_PID, 0, f.identity), (Field.ID_SERIAL_SERIAL, 0, f.serial),
   (Field.PWR_CFG_LIMIT, 0, f.limit), (Field.PWR_CFG_CORE_BUDGET, 0, f.budget),
   (Field.GCTL_FW_STAT_FUSED_SVN, 0, f.svn)]
  ++ ((List.range 96).map fun n => (Field.CORE_BIND_DISABLED, n, (f.disabled >>> n) % 2))
  ++ ((List.range 96).map fun n => (Field.CORE_BIST_VMIN, n, f.vmin))

/-- The registers right after module reset. -/
def resetRegs (f : Fuses) : Tab Nat :=
  (fuseRegs f).foldl (fun t x => Tab.put x.1.reset t (x.1.key x.2.1) (x.2.2 % 2 ^ x.1.width)) []

def ReelSt.init : ReelSt := ⟨[], [], 0, false, true, 0, none, false⟩

def Power.init : Power := ⟨[], none, 0, false, none⟩

def Carrier.init : Carrier := ⟨[], [], [], [], [], [], [], [], [], [], [], [], [], [], [], [], (0, [])⟩

/-- The image that the manufacturer put into slot A (log entry 4). -/
def Image.factory : Image := ⟨[], some 0, 0, 0, 0, 1, 1⟩

/-- Body of the manufacturer's settings record of schema 1: the reset values of the registers that it sets, no port enabled,
no laser part accepted, no lock (log entry 4; Table 19-2). -/
def factoryBody : Bytes :=
  List.replicate 8 0 ++ List.replicate 8 0xFF ++ [0x40, 0x00, 0x01, 0x00] ++ [0x02, 0x40, 0x10, 0x00] ++ [0x20, 0x03, 0x00, 0x00] ++
  [0x84, 0x03, 0x00, 0x00] ++ [0x40, 0x00, 0x00, 0x00] ++ [0x20, 0x4E, 0x00, 0x00] ++ [0x96, 0xC8, 0, 0, 0, 0, 0, 0] ++
  List.replicate 272 0

/-- SHA-256 of that body. -/
def factoryDigest : Bytes :=
  [0x11, 0xFF, 0x42, 0x86, 0x17, 0x6E, 0xE5, 0x91, 0x83, 0x5E, 0xDF, 0x71, 0x34, 0x05, 0xCC, 0x3E] ++
  [0xBA, 0xF0, 0xDA, 0x77, 0x6F, 0x41, 0x62, 0xFE, 0x18, 0x3B, 0x5E, 0x86, 0xBE, 0x9F, 0xA9, 0x81]

/-- That record: schema 1, generation 1, no owner key (Table 19-1). -/
def Settings.factory : Settings :=
  ⟨1, 1, [1, 0, 0, 0] ++ [1, 0, 0, 0] ++ [0x40, 1, 0, 0] ++ [0, 0, 0, 0] ++ factoryDigest ++ List.replicate 96 0, factoryBody⟩

def Security.init : Security :=
  ⟨some Image.factory, none, false, false, false, [Settings.factory], [(1, 1)], none, [], none, false, none, false, [], false, false⟩

def Book.init : Book := ⟨[], [], 0, [], [], 0, false, [], [], 0, (0, 0, 0), 0, []⟩

/-- The machine right after module reset at power-on: every register at its reset value (R13), fences 0 (R287), Reel
UNLOCKED at the free count 0 of a 2 µs frame (R35, R37, R444), partitions FREE (R304), no bring-up ring up yet (R350). -/
def State.reset : State where
  pending := []
  clock := ⟨0, 0, 0, 3200⟩
  free := 0
  fuses := Fuses.init
  regs := resetRegs Fuses.init
  analog := []
  reel := ReelSt.init
  host := []
  fru := []
  cmds := []
  recs := []
  fences := []
  queues := []
  parts := []
  cores := []
  carrier := Carrier.init
  links := []
  ports := []
  lasers := []
  power := Power.init
  mode := none
  injects := []
  bists := []
  gondola := ⟨false, false, 0, false, 0⟩
  sec := Security.init
  book := Book.init
  msix := []
  vfs := []
  edge := []
  rehearsal := false
  out := []
  fresh := (0, [])

end Sys2Proof.Machine
end

