-- ==== Sys2Proof/Machine/Operands.lean ====
section
/-! DEFINITION. The fields of a command packet: the header (Table 13-1), the opcodes (Table 13-2) and the parameters of
every opcode (R273 to R277 and the chapters that Table 13-2 names). -/

namespace Sys2Proof.Machine

/-- OPCODE. -/
def Cmd.op (c : Cmd) : Nat := u16 c.bytes 0
/-- TASK_BEGIN. -/
def Cmd.taskBegin (c : Cmd) : Bool := bit (u8 c.bytes 2) 0
/-- TASK_LAST. -/
def Cmd.taskLast (c : Cmd) : Bool := bit (u8 c.bytes 2) 1
/-- INTERRUPT. -/
def Cmd.interrupt (c : Cmd) : Bool := bit (u8 c.bytes 2) 2
/-- LENGTH, in 8-byte units. -/
def Cmd.len (c : Cmd) : Nat := u8 c.bytes 3
/-- WAIT_EN, the fence index of the wait, WAIT_VALUE. -/
def Cmd.waitEn (c : Cmd) : Bool := bit (u32 c.bytes 4) 31
def Cmd.waitIdx (c : Cmd) : Nat := bits (u32 c.bytes 4) 14 0
def Cmd.waitValue (c : Cmd) : Nat := u64 c.bytes 8
/-- SIGNAL_EN, the fence index of the signal, INCREMENT (0 acts as 1). -/
def Cmd.sigEn (c : Cmd) : Bool := bit (u32 c.bytes 16) 31
def Cmd.sigIdx (c : Cmd) : Nat := bits (u32 c.bytes 16) 14 0
def Cmd.sigInc (c : Cmd) : Nat := max 1 (bits (u32 c.bytes 16) 30 16)
/-- START and DEADLINE. -/
def Cmd.start (c : Cmd) : Nat := u32 c.bytes 20
def Cmd.deadline (c : Cmd) : Nat := u32 c.bytes 24
/-- DEADLINE is a frame offset, not "none" (R47). -/
def Cmd.hasDeadline (c : Cmd) : Bool := c.deadline != 0xFFFFFFFF

/-- LENGTH of a listed opcode (Table 13-2). -/
def opLength (op : Nat) : Option Nat :=
  if op < 4 then some 8
  else if op = 0x103 then some 16
  else if 0x100 ≤ op ∧ op ≤ 0x104 then some 8
  else if 0x200 ≤ op ∧ op ≤ 0x207 then some 8
  else if op = 0x300 ∨ op = 0x301 then some 8
  else if 0x400 ≤ op ∧ op ≤ 0x402 then some 8
  else if op = 0x500 then some 8
  else if op = 0x600 ∨ op = 0x601 then some 32
  else if 0x602 ≤ op ∧ op ≤ 0x607 then some 8
  else if 0x700 ≤ op ∧ op ≤ 0x702 then some 8
  else none

/-- Packets that a command occupies for fetching (R275). -/
def opPackets (op : Nat) : Nat := match opLength op with
  | some n => n / 8
  | none => 1

/-- A partition-only opcode: a data opcode or FORECAST (R275, R276). -/
def opPartOnly (op : Nat) : Bool := decide (0x100 ≤ op ∧ op ≤ 0x500)
/-- A PF-only opcode. -/
def opPfOnly (op : Nat) : Bool := decide (0x600 ≤ op ∧ op ≤ 0x701)
/-- A wide operation (R18). -/
def opWide (op : Nat) : Bool := decide (0x100 ≤ op ∧ op ≤ 0x104)

/-- The task header's parameters (Table 13-3). -/
def Cmd.hdrQueues (c : Cmd) : Nat := u16 c.bytes 28
def Cmd.hdrCommands (c : Cmd) : Nat := u16 c.bytes 30
def Cmd.hdrProgram (c : Cmd) : Nat := u32 c.bytes 32
def Cmd.hdrLcores (c : Cmd) : Nat := u16 c.bytes 36
def Cmd.hdrPeriod (c : Cmd) : Nat := bits (u8 c.bytes 38) 2 0
def Cmd.hdrTag (c : Cmd) : Nat := u64 c.bytes 40

/-- The enabled conditions of FENCE_WAIT: fence index, value (R290). -/
def Cmd.waitConds (c : Cmd) : List (Nat × Nat) :=
  [28, 40, 52].filterMap fun o =>
    if bit (u32 c.bytes o) 31 then some (bits (u32 c.bytes o) 14 0, u64 c.bytes (o + 4)) else none

/-- Every wait of a command: the header's, and for FENCE_WAIT its own (R283, R290). -/
def Cmd.waits (c : Cmd) : List (Nat × Nat) :=
  (if c.waitEn then [(c.waitIdx, c.waitValue)] else []) ++ (if c.op = 1 then c.waitConds else [])

/-- FENCE_SIGNAL's own change: whether it raises, fence index, value (R289). -/
def Cmd.fsOp (c : Cmd) : Bool := bit (u8 c.bytes 28) 0
def Cmd.fsFence (c : Cmd) : Nat := bits (u32 c.bytes 32) 14 0
def Cmd.fsValue (c : Cmd) : Nat := u64 c.bytes 40

/-- MOVE (R291). -/
structure MoveP where
  isLocal : Bool
  first : Nat
  entries : Nat
  src : Nat
  dst : Nat
  rows : Nat
  coreFirst : Nat
  coreLast : Nat
  phase : Nat

def Cmd.move (c : Cmd) : MoveP :=
  ⟨bit (u8 c.bytes 28) 0, u16 c.bytes 30, u16 c.bytes 32, u16 c.bytes 34, u16 c.bytes 36, u16 c.bytes 38,
   u16 c.bytes 40, u16 c.bytes 42, u32 c.bytes 44⟩

/-- JOURNAL_CTL (Table 15-4). -/
structure JournalP where
  op : Nat
  part : Nat
  log2 : Nat
  mirror : Bool
  perCore : Bool
  arg : Nat
  port : Nat
  row : Nat
  rows : Nat
  phase : Nat

def Cmd.journal (c : Cmd) : JournalP :=
  ⟨bits (u8 c.bytes 28) 1 0, bits (u8 c.bytes 29) 3 0, u8 c.bytes 30, bit (u8 c.bytes 31) 0, bit (u8 c.bytes 31) 1,
   u64 c.bytes 32, bits (u8 c.bytes 40) 5 0, u16 c.bytes 42, u16 c.bytes 44, u32 c.bytes 48⟩

/-- STREAM_LOAD, PRUNE_LOAD (Table 9-3) and STREAM_SPEC (Table 10-2) in one form. -/
structure StreamP where
  fixed : Bool
  byExpert : Bool
  retry : Nat
  layer : Nat
  source : Nat
  shards : Nat
  firstBuf : Nat
  nbuf : Nat
  hdrRows : Nat
  dstRow : Nat
  firstTile : Nat
  tetherEntry : Nat
  stackEntry : Nat
  consumer : Nat
  /-- Prediction slot, token group and shadow output range of STREAM_SPEC. -/
  spec : Option (Nat × Nat × Nat × Nat)

def Cmd.stream (c : Cmd) : StreamP :=
  if c.op = 0x201 then
    ⟨false, true, u8 c.bytes 29, u16 c.bytes 30, bits (u32 c.bytes 32) 17 0, 0, u8 c.bytes 39, u8 c.bytes 40,
     u8 c.bytes 41, 0, u32 c.bytes 44, u16 c.bytes 48, u16 c.bytes 50, u32 c.bytes 56,
     some (bits (u8 c.bytes 28) 3 0, u16 c.bytes 36, u16 c.bytes 42, u16 c.bytes 52)⟩
  else
    ⟨bit (u8 c.bytes 28) 0, bit (u8 c.bytes 28) 1, u8 c.bytes 29, u16 c.bytes 30, le c.bytes 32 6, u8 c.bytes 38,
     u8 c.bytes 39, u8 c.bytes 40, u8 c.bytes 41, u16 c.bytes 42, u32 c.bytes 44, u16 c.bytes 48, u16 c.bytes 50,
     u32 c.bytes 52, none⟩

/-- A ring is requested: STREAM_LOAD in ring mode, PRUNE_LOAD, STREAM_SPEC (R185). -/
def Cmd.wantsRing (c : Cmd) : Bool := (c.op == 0x200 && !c.stream.fixed) || c.op == 0x206 || c.op == 0x201

/-- RESIDE (Table 9-4). -/
structure ResideP where
  expert : Nat
  count : Nat
  entry : Nat
  caddr : Nat

def Cmd.reside (c : Cmd) : ResideP := ⟨bits (u32 c.bytes 28) 17 0, u16 c.bytes 32, u16 c.bytes 34, u64 c.bytes 40⟩

/-- EVICT (R202). -/
structure EvictP where
  unmap : Bool
  slots : Nat
  count : Nat
  expert : Nat
  caddr : Nat

def Cmd.evict (c : Cmd) : EvictP :=
  ⟨bit (u8 c.bytes 28) 0, u16 c.bytes 32, u16 c.bytes 34, bits (u32 c.bytes 36) 17 0, u64 c.bytes 40⟩

/-- WRITEBACK (Table 9-6). -/
structure WritebackP where
  enc : Bool
  key : Nat
  tiles : Nat
  newId : Nat
  hdrRow : Nat
  firstTile : Nat
  srcRow : Nat
  entry : Nat

def Cmd.writeback (c : Cmd) : WritebackP :=
  ⟨bit (u8 c.bytes 28) 0, u8 c.bytes 29, u16 c.bytes 30, le c.bytes 32 6, u16 c.bytes 38, u16 c.bytes 40,
   u16 c.bytes 42, u16 c.bytes 44⟩

/-- ROUTE_COMMIT (Table 10-4). -/
structure RouteP where
  commit : Bool
  dispatch : Bool
  k : Nat
  maskCore : Nat
  maskRow : Nat
  maskWcol : Nat
  tokens : Nat
  routeRow : Nat
  experts : Nat
  capacity : Nat
  spillM : Nat
  spillJ : Nat
  spillCmds : Nat
  gtabMain : Nat
  gtabSpill : Nat
  listRow : Nat
  dispEntry : Nat

def Cmd.route (c : Cmd) : RouteP :=
  ⟨bit (u8 c.bytes 28) 0, bit (u8 c.bytes 28) 1, u8 c.bytes 29, u16 c.bytes 30, u16 c.bytes 32, bits (u8 c.bytes 34) 5 0,
   u16 c.bytes 36, u16 c.bytes 38, u16 c.bytes 40, u16 c.bytes 42, u16 c.bytes 44, u8 c.bytes 46, u8 c.bytes 47,
   u16 c.bytes 48, u16 c.bytes 50, u16 c.bytes 52, u16 c.bytes 54⟩

/-- PART_CREATE and PART_RESIZE (Table 14-2). -/
structure PartP where
  part : Nat
  warm : Bool
  lcores : Nat
  spares : Nat
  gen : Nat
  ertBase : Nat
  ertCount : Nat
  digest : Bytes
  /-- The 96 bytes of POSITIONS. -/
  positions : List Nat

def partOf (b : Bytes) : PartP :=
  ⟨bits (u8 b 28) 3 0, bit (u8 b 29) 0, u8 b 30, u8 b 31, u32 b 32, bits (u32 b 36) 17 0, bits (u32 b 40) 18 0,
   (b.drop 64).take 32, (List.range 96).map fun i => u8 b (96 + i)⟩

def Cmd.partP (c : Cmd) : PartP := partOf c.bytes

/-- PART of PART_RESET and PART_DESTROY; RETAIN (R315, R324). -/
def Cmd.partArg (c : Cmd) : Nat := bits (u8 c.bytes 28) 3 0
def Cmd.retain (c : Cmd) : Bool := bit (u8 c.bytes 29) 0

/-- MODE_PREPARE: MODE, TARGETS, TOKEN, VALUE (R321). -/
def Cmd.modeP (c : Cmd) : Nat × Nat × Nat × Nat := (u8 c.bytes 28, u16 c.bytes 30, u32 c.bytes 32, u64 c.bytes 36)
/-- MODE_COMMIT: TOKEN, FRAME (R322). -/
def Cmd.commitP (c : Cmd) : Nat × Nat := (u32 c.bytes 32, u64 c.bytes 40)

/-- WMATMUL and WMATMUL_SPEC (Table 4-2, R213). -/
structure MatP where
  wfmt : Nat
  afmt : Nat
  ofmt : Nat
  mode : Nat
  sat : Bool
  k32 : Nat
  n32 : Nat
  groups : Nat
  gtab : Nat
  wstage : Nat
  cbRow : Nat
  cbCount : Nat
  sA : Nat
  accBase : Nat
  regions : Nat
  slot : Nat
  shadowBase : Nat
  seed : Nat

def Cmd.mat (c : Cmd) : MatP :=
  let f := u8 c.bytes 28
  let o := u8 c.bytes 29
  ⟨bits f 3 0, bits f 7 4, bits o 3 0, bits o 5 4, bit o 6, u16 c.bytes 30, u16 c.bytes 32, u16 c.bytes 34, u16 c.bytes 36,
   u16 c.bytes 38, u16 c.bytes 40, u16 c.bytes 42, u32 c.bytes 44, u16 c.bytes 48, u8 c.bytes 50, bits (u8 c.bytes 51) 3 0,
   u16 c.bytes 52, u64 c.bytes 56⟩

/-- WVECTOR (Table 4-4). -/
structure VecP where
  op : Nat
  fa : Nat
  fb : Nat
  ofmt : Nat
  mode : Nat
  sat : Bool
  rows : Nat
  n : Nat
  aRow : Nat
  bRow : Nat
  cRow : Nat
  outRow : Nat
  imm : Nat
  k : Nat
  seed : Nat

def Cmd.vec (c : Cmd) : VecP :=
  let o := u8 c.bytes 30
  ⟨bits (u8 c.bytes 28) 5 0, bits (u8 c.bytes 29) 3 0, bits (u8 c.bytes 29) 7 4, bits o 3 0, bits o 5 4, bit o 6,
   u32 c.bytes 32, u32 c.bytes 36, u16 c.bytes 40, u16 c.bytes 42, u16 c.bytes 44, u16 c.bytes 46, u32 c.bytes 48,
   u16 c.bytes 52, u64 c.bytes 56⟩

/-- WSAMPLE (R95): format of A, ROWS, N, A_ROW, OUT_ROW, TOP_P, TEMP, TOP_K, SEED. -/
structure SampleP where
  fa : Nat
  rows : Nat
  n : Nat
  aRow : Nat
  topP : Nat
  outRow : Nat
  temp : Nat
  topK : Nat
  seed : Nat

def Cmd.samp (c : Cmd) : SampleP :=
  ⟨bits (u8 c.bytes 29) 3 0, u32 c.bytes 32, u32 c.bytes 36, u16 c.bytes 40, u32 c.bytes 42, u16 c.bytes 46, u32 c.bytes 48,
   u16 c.bytes 52, u64 c.bytes 56⟩

/-- WCONV (Table 4-6, R92). -/
structure ConvP where
  wfmt : Nat
  afmt : Nat
  ofmt : Nat
  mode : Nat
  sat : Bool
  cin : Nat
  cout : Nat
  h : Nat
  w : Nat
  kh : Nat
  kw : Nat
  stride : Nat
  dil : Nat
  depthwise : Bool
  padY : Nat
  padX : Nat
  inRow : Nat
  outRow : Nat
  wstage : Nat
  sA : Nat
  accBase : Nat
  regions : Nat
  seed : Nat
  sW : Nat
  mult : Nat
  deriving DecidableEq, Repr

def Cmd.conv (c : Cmd) : ConvP :=
  let f := u8 c.bytes 28
  let o := u8 c.bytes 29
  let k := u8 c.bytes 38
  let g := u8 c.bytes 39
  let y := u8 c.bytes 40
  ⟨bits f 3 0, bits f 7 4, bits o 3 0, bits o 5 4, bit o 6, 32 * u16 c.bytes 30, 32 * u16 c.bytes 32, u16 c.bytes 34,
   u16 c.bytes 36, bits k 3 0, bits k 7 4, bits g 1 0 + 1, bits g 3 2 + 1, bit g 4, bits y 2 0, bits y 6 4, u16 c.bytes 42,
   u16 c.bytes 44, u16 c.bytes 46, u32 c.bytes 48, u16 c.bytes 52, u8 c.bytes 54, u64 c.bytes 56, u32 c.bytes 64, u32 c.bytes 68⟩

/-- Output height and width of WCONV (R92). -/
def ConvP.ho (q : ConvP) : Nat := (q.h + 2 * q.padY - (q.dil * (q.kh - 1) + 1)) / q.stride + 1
def ConvP.wo (q : ConvP) : Nat := (q.w + 2 * q.padX - (q.dil * (q.kw - 1) + 1)) / q.stride + 1

/-- FORECAST: SEGMENT and FRAME (R356). -/
def Cmd.forecastP (c : Cmd) : Nat × Nat := (u16 c.bytes 28, u32 c.bytes 32)

/-- BCAST and REDUCE1 (Tables 11-1, 11-2): `flag` is GATHER or OUT_FMT. -/
structure CollP where
  scope : Nat
  flag : Bool
  first : Nat
  entries : Nat
  gather : Nat
  collId : Nat
  root : Nat
  contrib : Nat
  inRow : Nat
  rows : Nat
  outRow : Nat
  winTop : Int
  phase : Nat

def Cmd.coll (c : Cmd) : CollP :=
  ⟨bits (u8 c.bytes 28) 1 0, bit (u8 c.bytes 28) 2, u16 c.bytes 30, u16 c.bytes 32, u8 c.bytes 34, u32 c.bytes 36, u16 c.bytes 40,
   u16 c.bytes 42, u16 c.bytes 44, u16 c.bytes 46, u16 c.bytes 48, toSigned 16 (u16 c.bytes 50), u32 c.bytes 52⟩

/-- CORE_FENCE: POSITION and OP (R381). -/
def Cmd.fenceP (c : Cmd) : Nat × Bool := (u8 c.bytes 28, bit (u8 c.bytes 29) 0)
/-- CORE_REMAP: PART, LCORE, SPARE (R382). -/
def Cmd.remapP (c : Cmd) : Nat × Nat × Nat := (bits (u8 c.bytes 28) 3 0, u8 c.bytes 29, u8 c.bytes 30)
/-- BIST_RUN: POSITION and TESTS (R383). -/
def Cmd.bistP (c : Cmd) : Nat × Nat := (u8 c.bytes 28, u8 c.bytes 29)

/-- INJECT_FAULT (R386). -/
structure InjectP where
  kind : Nat
  part : Nat
  index : Nat
  sub : Nat
  frame : Nat
  addr : Nat

def Cmd.injectP (c : Cmd) : InjectP :=
  ⟨u8 c.bytes 28, bits (u8 c.bytes 29) 3 0, u8 c.bytes 30, u8 c.bytes 31, u64 c.bytes 32, u64 c.bytes 40⟩

end Sys2Proof.Machine
end

