-- ==== Sys2Proof/Machine/Tiles.lean ====
section
/-! DEFINITION. Weight tiles: packing, sizes, headers, paths, the values of their cells; staging rings and their laps
(R59 to R63, R74, R75, R97 to R109, R184, R190). -/

namespace Sys2Proof.Machine

/-- Element i of a packed string of b-bit elements (R59). -/
def packed (bs : Bytes) (b i : Nat) : Nat := (le bs (i * b / 8) 4 >>> (i * b % 8)) % 2 ^ b

/-- The first n elements of a packed string. -/
def unpack (bs : Bytes) (b n : Nat) : List Nat := (List.range n).map (packed bs b)

/-- Elements of b bits, packed; the last byte is filled with zero bits. -/
def packElems (b : Nat) (l : List Nat) : Bytes :=
  natLE (cdiv (l.length * b) 8) (l.foldr (fun x a => x % 2 ^ b + a * 2 ^ b) 0)

/-- Bytes of n elements of a format. -/
def elemBytes (f n : Nat) : Nat := cdiv (n * elemBits f) 8

/-- Scale or reference bytes of a tile (Tables 4-1 and 5-2, R106). -/
def tileScales (cls f : Nat) : Nat := if isMx f then (if cls = 1 then 4096 else 2048) else if f = 11 then 512 else 0

/-- Bytes of a tile of a class and format, U listed rows (R74, R103, R106, R175). -/
def tileBytes (cls f u : Nat) : Nat :=
  if cls = 2 then 4096 + 256 * elemBytes f u + tileScales cls f
  else elemBytes f 65536 + tileScales cls f + (if cls = 1 then 16384 else 0)

/-- Tile-memory rows of a tile. -/
def tileRows (cls f u : Nat) : Nat := cdiv (tileBytes cls f u) 4096

/-- CLASS, FORMAT, ROWS and U of a header (Table 5-1). -/
def hdrClass (h : Bytes) : Nat := bits (u8 h 0) 1 0
def hdrFormat (h : Bytes) : Nat := bits (u8 h 1) 3 0
def hdrRows (h : Bytes) : Nat := u16 h 2
def hdrU (h : Bytes) : Nat := u16 h 4

/-- CLASS, FORMAT and U from which a tile size follows (R98, R176). -/
def hdrSized (h : Bytes) : Bool :=
  decide (hdrClass h ≤ 2) && decide (hdrFormat h ≤ 11) && !(hdrClass h == 1 && (hdrFormat h == 1 || hdrFormat h == 2)) &&
  (if hdrClass h = 2 then decide (1 ≤ hdrU h) && decide (hdrU h ≤ 256) else hdrU h == 0)

/-- The checks of R99 that do not depend on the tile's place. -/
def hdrOk (h : Bytes) (wfmt : Nat) : Bool :=
  hdrSized h && (hdrFormat h == wfmt) && (hdrRows h == tileRows (hdrClass h) (hdrFormat h) (hdrU h))

/-- Bytes of the tile that a sized header describes. -/
def hdrBytes (h : Bytes) : Nat := tileBytes (hdrClass h) (hdrFormat h) (hdrU h)

/-- The header of a tile (Table 5-1). -/
def makeHeader (cls f rows u : Nat) (pruned : Bool) : Bytes :=
  fitBytes 64 (natLE 1 cls ++ natLE 1 f ++ natLE 2 rows ++ natLE 2 u ++ natLE 1 (nat01 pruned))

/-- The tile takes the merge path (Table 5-3). -/
def merges (h : Bytes) (mergeMax : Nat) : Bool := (hdrClass h == 2) && decide (hdrU h ≤ mergeMax)

/-- Array cycles of m token rows on the dense, 2:4 and expanded paths (Table 4-1). -/
def rowCycles (wfmt m : Nat) : Nat := if wfmt = 1 ∨ wfmt = 2 then 2 * m else if wfmt = 10 then (m + 1) / 2 else m

/-- Token cycles of a tile (R87, R107). -/
def tokenCycles (h : Bytes) (mergeMax m : Nat) : Nat :=
  if merges h mergeMax then m * max (cdiv (hdrU h) 64) (rowCycles (hdrFormat h) 1) else rowCycles (hdrFormat h) m

/-- Token rows whose streaming has begun x cycles after the tile's first. -/
def tokensBy (h : Bytes) (mergeMax m x : Nat) : Nat :=
  ((List.range m).filter fun t => decide (tokenCycles h mergeMax (t + 1) - tokenCycles h mergeMax 1 < x)).length

/-- Load cycles of a tile, cbRows being the codebook rows that it reads (R74, R75, R103, R107). -/
def loadCycles (h : Bytes) (mergeMax cbRows : Nat) : Nat :=
  let own := tileRows (hdrClass h) (hdrFormat h) (hdrU h)
  let l := if hdrClass h = 2 ∧ merges h mergeMax = false then max own (tileRows 0 (hdrFormat h) 0) else own
  if hdrFormat h = 11 then max l cbRows else l

/-- Byte offset of the references of a KC4 tile (R61, R102, R106). -/
def refOffset (h : Bytes) : Nat := if hdrClass h = 2 then 4096 + 256 * elemBytes 11 (hdrU h) else 32768

/-- The 256 codebook references of a KC4 tile. -/
def tileRefs (h tile : Bytes) : List Nat := (List.range 256).map fun j => u16 tile (refOffset h + 2 * j)

/-- The distinct rows of the codebook table that a tile's references touch, in ascending order (R75). -/
def refRows (refs : List Nat) (cbCount : Nat) : List Nat :=
  (List.range 256).filter fun r => refs.any fun x => decide (x ≤ cbCount) && x / 256 == r

/-- The index list of an unstructured tile: an entry is kept if it is below 256 and above the last kept one (R109). -/
def keepIndices (last : Option Nat) : List Nat → List (Option Nat)
  | [] => []
  | e :: r =>
    let ok := decide (e < 256) && (match last with
      | some l => decide (l < e)
      | none => true)
    (if ok then some e else none) :: keepIndices (if ok then some e else last) r

/-- The listed K-rows of an unstructured tile. -/
def tileIndices (h tile : Bytes) : List (Option Nat) := keepIndices none (unpack tile 16 (hdrU h))

/-- The metadata nibble of column j, group g of a 2:4 tile (R102). -/
def metaNibble (h tile : Bytes) (j g : Nat) : Nat :=
  let b := u8 tile (elemBytes (hdrFormat h) 65536 + tileScales 1 (hdrFormat h) + 64 * j + g / 2)
  if g % 2 = 0 then b % 16 else b / 16

/-- Codebook references beyond the table that the engine drops in one load of a KC4 tile (R63). -/
def refDrops (h tile : Bytes) (cbCount : Nat) : Nat :=
  if hdrFormat h = 11 then ((tileRefs h tile).filter fun r => decide (cbCount < r)).length else 0

/-- Index entries and metadata that the engine drops in one load of a tile (R109). -/
def indexDrops (h tile : Bytes) : Nat :=
  if hdrClass h = 2 then ((tileIndices h tile).filter Option.isNone).length
  else if hdrClass h = 1 then
    ((List.range 256).flatMap fun j => (List.range 128).filter fun g =>
      let n := metaNibble h tile j g
      n % 4 == n / 4).length
  else 0

/-- The value of a stored element of column j: its code, the scale of its K block, or its codebook entry. -/
def cellVal (f : Nat) (code scale : Nat) (book : Bytes) : Val :=
  if f = 11 then decodeElem 3 (u8 book code)
  else if isMx f then scaled (decodeElem f code) scale
  else decodeElem f code

/-- Column j of a tile: its 256 (2:4: 512) cells in ascending K, absent ones exact zeros (R61, R74, R101, R102, R106).
`books` holds 16 bytes per column. -/
def tileColumn (h tile books : Bytes) (j : Nat) : List Val :=
  let f := hdrFormat h
  let b := elemBits f
  let book := (books.drop (16 * j)).take 16
  if hdrClass h = 0 then
    let col := (tile.drop (j * elemBytes f 256)).take (elemBytes f 256)
    let sc := (tile.drop (elemBytes f 65536 + 8 * j)).take 8
    (enumFrom 0 (unpack col b 256)).map fun x => cellVal f x.2 (u8 sc (x.1 / 32)) book
  else if hdrClass h = 1 then
    let col := (tile.drop (j * elemBytes f 256)).take (elemBytes f 256)
    let sc := (tile.drop (elemBytes f 65536 + 16 * j)).take 16
    (List.range 128).flatMap fun g =>
      let n := metaNibble h tile j g
      (List.range 4).map fun q =>
        if q = n % 4 then cellVal f (packed col b (2 * g)) (u8 sc ((4 * g + q) / 32)) book
        else if q = n / 4 then cellVal f (packed col b (2 * g + 1)) (u8 sc ((4 * g + q) / 32)) book
        else Val.zero
  else
    let u := hdrU h
    let col := (tile.drop (4096 + j * elemBytes f u)).take (elemBytes f u)
    let sc := (tile.drop (4096 + 256 * elemBytes f u + 8 * j)).take 8
    let idx := tileIndices h tile
    (List.range 256).map fun e =>
      match idx.findIdx? (· == some e) with
      | some i => cellVal f (packed col b i) (u8 sc (e / 32)) book
      | none => Val.zero

/-- The geometry of a staging ring (R184, R190): first row of the first buffer, header rows, rows per buffer, buffers,
first buffer's number. -/
structure RingGeo where
  base : Nat
  hdr : Nat
  bufRows : Nat
  nbuf : Nat
  firstBuf : Nat
  deriving DecidableEq, Repr

/-- The ring's first data row, and its data rows. -/
def RingGeo.dataFirst (g : RingGeo) : Nat := g.base + g.hdr
def RingGeo.dataRows (g : RingGeo) : Nat := g.nbuf * g.bufRows - g.hdr

/-- The tile-memory row of linear data row r (R190). -/
def RingGeo.rowOf (g : RingGeo) (r : Nat) : Nat := g.dataFirst + r % max 1 g.dataRows

/-- The buffer of linear data row r and its lap. -/
def RingGeo.bufOf (g : RingGeo) (r : Nat) : Nat × Nat :=
  (g.firstBuf + (r % max 1 g.dataRows + g.hdr) / max 1 g.bufRows, r / max 1 g.dataRows)

/-- Linear rows at which a lap of a buffer ends. -/
def RingGeo.lapEnd (g : RingGeo) (buf lap : Nat) : Nat := lap * g.dataRows + ((buf - g.firstBuf + 1) * g.bufRows - g.hdr)

/-- The geometry of a ring of a partition's pool (first row, rows per buffer, buffers). -/
def Ring.geo (r : Ring) (pool : Nat × Nat × Nat) : RingGeo := ⟨pool.1 + r.firstBuf * pool.2.1, r.hdrRows, pool.2.1, r.nbuf, r.firstBuf⟩

end Sys2Proof.Machine
end

