-- ==== Sys2Proof/Config.lean ====
section
/-! DEFINITION. What the spec leaves to the installation or does not state: free values, opaque, so that no proof can see
them (log entries 7 and 8). -/

namespace Sys2Proof.Config

/-- The free values of the engine's own choosing (private keys, nonces, challenges), in the order in which the counter
State.free draws them (log entry 7). -/
opaque free : Nat → Nat

/-- The index of the root key whose signature on a firmware image verifies, if any: R401 and R402 give no layout of the
image (log entry 8). -/
opaque imageSigner : Bytes → Option (Fin 4)

/-- The security version number in a firmware image's header (R401; the header's layout is not given: log entry 8). -/
opaque imageSvn : Bytes → Fin 64

/-- MIRROR_MIN of a firmware image's header (R401; log entry 8). -/
opaque imageMirrorMin : Bytes → Nat

/-- The mirror-state format that a firmware image writes (R405; log entry 8). -/
opaque imageMirrorFormat : Bytes → Nat

/-- The microcode level that a firmware image carries (R401, R403; log entry 8). -/
opaque imageMicrocode : Bytes → BitVec 16

/-- The arithmetic level of a microcode level (R331; log entry 8). -/
opaque arithLevel : BitVec 16 → BitVec 16

/-- The highest settings schema that a firmware image understands (R408; log entry 8). -/
opaque imageSchema : Bytes → BitVec 16

/-- The body of a settings record, written in one schema, in the layout of another (R408: only that of schema 1 is given; log
entry 8). -/
opaque settingsAs : Nat → Nat → Bytes → Bytes

/-- The header of a record of a schema that the firmware writes itself, over its body (R408; log entry 8). -/
opaque settingsHeader : Nat → Bytes → Bytes

/-- The identity that an attached module holds at bring-up (R343, R432): brick b 0 to 17, 18 the fibre shuffle with its map, 19
the sensor board (log entry 8). -/
opaque attached : Nat → Bytes

/-- A part of the immutable store that the spec names but whose bytes it does not give: 0 the Scawell root certificate, 1 the
device certificate, 2 the boot ROM, 3 the image of the manufacturer (R402, R411, R412; log entry 8). -/
opaque romBytes : Nat → Bytes

/-- The certificate of the alias key of a boot image, by its SHA-384 (R411; log entry 8). -/
opaque aliasCert : Bytes → Bytes

/-- The microcode of a level (R401; log entry 8). -/
opaque microcode : Nat → Bytes

/-- What the reply to GET_CAPABILITIES holds (R412 names no field; log entry 8). -/
opaque spdmCapabilities : Bytes

/-- The signature, r and s, 96 bytes, that the alias key of a boot image, by its SHA-384, gives to a message (R411, R412; log
entry 8). -/
opaque aliasSign : Bytes → Bytes → Bytes

/-- The fused root key of an index, as an ECDSA P-384 public key (R402; log entry 8). -/
opaque romKey : Nat → Bytes

/-- The first row and the length (minus 1) of the codebook table of a WCONV with KC4 weights: Table 4-6 has no field for
them (log entry 20). -/
opaque convCbRow : Nat

/-- The codebooks, minus 1, of that table (log entry 20). -/
opaque convCbCount : Nat

/-- The codebook bytes of KC4 weights of a depthwise WCONV, by channel and code: no rule gives them a place (log entry 20). -/
opaque depthBook : Nat → Nat

/-- What a TOPK writes at the places past the end of a row with fewer than K elements: the spec states no value (log
entry 21). -/
opaque topPad : Nat → Nat

/-- What a WSAMPLE draws from a row whose weights are not numbers (no finite logit): the spec states no value (log entry
21). -/
opaque sampleOpen : Nat → Nat

/-- Whether a plan transfer to a tether port that MOVE makes leaves in class 4, TYPE 0 and not in class 3, TYPE 1: the spec
states no rule (log entry 23). -/
opaque moveBulk : Bool

end Sys2Proof.Config
end

