-- ==== Sys2Proof/Machine/Ops.lean ====
section
/-! DEFINITION. The named operations over registers, tables, memories and time that every family uses. A block has no
exception entry: raising an event bit or an interrupt is Machine/Flags.lean. -/

namespace Sys2Proof.Machine

/-- The value of field `f` of instance `i` (R11 to R13). -/
def State.get (s : State) (f : Field) (i : Nat) : Nat := Tab.get f.reset s.regs (f.key i)

/-- Field `f` of instance `i` takes the value, cut to its width. -/
def State.put (s : State) (f : Field) (i v : Nat) : State :=
  { s with regs := Tab.put f.reset s.regs (f.key i) (v % 2 ^ f.width) }

/-- A counter field rises by `n` and saturates. -/
def State.inc (s : State) (f : Field) (i n : Nat) : State := s.put f i (satW f.width (s.get f i + n))

/-- Field `f` of instance `i` is a W1C bit that an event sets now: the cycle and the bit are noted (R11). -/
def State.setEvent (s : State) (f : Field) (i : Nat) : State :=
  { s.put f i 1 with fresh := (s.clock.now, if s.fresh.1 = s.clock.now then f.key i :: s.fresh.2 else [f.key i]) }

/-- An event has set this W1C bit in the present cycle: a clearing write of the cycle leaves it set (R11). -/
def State.isFresh (s : State) (f : Field) (i : Nat) : Bool := s.fresh.1 == s.clock.now && s.fresh.2.contains (f.key i)

/-- The value of a field that holds a measurement, a random number or a count of the book. -/
def State.getA (s : State) (f : Field) (i : Nat) : Nat := Tab.get f.reset s.analog (f.key i)

/-- Such a field takes the value, cut to its width. -/
def State.putA (s : State) (f : Field) (i v : Nat) : State :=
  { s with analog := s.analog.filter (fun c => decide (c.1 < f.key i)) ++
      ((f.key i, v % 2 ^ f.width) :: s.analog.filter (fun c => decide (f.key i < c.1))) }

/-- Such a counter rises by `n` and saturates. -/
def State.incA (s : State) (f : Field) (i n : Nat) : State := s.putA f i (satW f.width (s.getA f i + n))

/-- Of a change that depends on a measurement, what it does to the book and to measurements. -/
def State.confine (s t : State) : State := { s with book := t.book, analog := t.analog }

/-- The fields that stand in `analog`. -/
def analogFields : List Field :=
  [Field.PWR_DOM_DROOP_BASELINE, Field.PWR_PART_MEASURED, Field.PWR_PART_OVER, Field.PWR_DOM_VMIN_MIN, Field.PWR_DOM_VMIN_FRAME] ++
  [Field.PWR_DOM_VMIN_CYCLE, Field.PWR_DOM_VMIN_LOCKED, Field.PWR_STAT_INPUT_W, Field.PWR_BRICK_OUT_W, Field.PWR_BRICK_TEMP] ++
  [Field.GCTL_DBG_CHAL_CHALLENGE, Field.PART_KEY_PUB_KEY, Field.LOGB_SEQ_SEQ, Field.LOGB_STAT_OVERWRITTEN, Field.LOGB_STAT_LOST] ++
  [Field.VFLOG_SEQ_PSEQ]

/-- The arithmetic level of a microcode level (R331): that of the manufacturer's level 1 is 1 (log entry 4). -/
def arithOf (level : Nat) : Nat := if level = 1 then 1 else (Config.arithLevel (BitVec.ofNat 16 level)).toNat

/-- Partition `p`. -/
def State.part (s : State) (p : Nat) : Part := Tab.get Part.init s.parts p
def State.setPart (s : State) (p : Nat) (x : Part) : State := { s with parts := Tab.put Part.init s.parts p x }
def State.modPart (s : State) (p : Nat) (f : Part → Part) : State := s.setPart p (f (s.part p))
def State.modBind (s : State) (p : Nat) (f : PartBind → PartBind) : State :=
  s.modPart p fun x => { x with bind := f x.bind }
def State.modRun (s : State) (p : Nat) (f : PartRun → PartRun) : State :=
  s.modPart p fun x => { x with run := f x.run }
def State.modStrm (s : State) (p : Nat) (f : PartStream → PartStream) : State :=
  s.modPart p fun x => { x with strm := f x.strm }

/-- Core position `n`. -/
def State.core (s : State) (n : Nat) : Core := Tab.get Core.init s.cores n
def State.setCore (s : State) (n : Nat) (x : Core) : State := { s with cores := Tab.put Core.init s.cores n x }
def State.modCore (s : State) (n : Nat) (f : Core → Core) : State := s.setCore n (f (s.core n))

/-- Tether port `n`. -/
def State.port (s : State) (n : Nat) : Port := Tab.get Port.init s.ports n
def State.setPort (s : State) (n : Nat) (x : Port) : State := { s with ports := Tab.put Port.init s.ports n x }
def State.modPort (s : State) (n : Nat) (f : Port → Port) : State := s.setPort n (f (s.port n))

/-- Laser bay `e`. -/
def State.laser (s : State) (e : Nat) : Laser := Tab.get Laser.init s.lasers e
def State.setLaser (s : State) (e : Nat) (x : Laser) : State := { s with lasers := Tab.put Laser.init s.lasers e x }

/-- Power domain `d`. -/
def State.domain (s : State) (d : Nat) : Domain := Tab.get Domain.init s.power.domains d
def State.setDomain (s : State) (d : Nat) (x : Domain) : State :=
  { s with power := { s.power with domains := Tab.put Domain.init s.power.domains d x } }

/-- Queue `q`. -/
def State.queueSt (s : State) (q : Nat) : QueueSt := Tab.get QueueSt.init s.queues q
def State.setQueue (s : State) (q : Nat) (x : QueueSt) : State :=
  { s with queues := Tab.put QueueSt.init s.queues q x }

/-- What the Reel unit knows of port `n`. -/
def State.tracker (s : State) (n : Nat) : Tracker := Tab.get Tracker.init s.reel.track n
def State.setTracker (s : State) (n : Nat) (x : Tracker) : State :=
  { s with reel := { s.reel with track := Tab.put Tracker.init s.reel.track n x } }

/-- Link direction reported in core record `n` (R157). -/
def State.link (s : State) (n : Nat) : Link := Tab.get Link.init s.links n
def State.setLink (s : State) (n : Nat) (x : Link) : State := { s with links := Tab.put Link.init s.links n x }

/-- MSI-X tables of function `fn` (0 PF, 1 to 16 VFs). -/
def State.msixOf (s : State) (fn : Nat) : Msix := Tab.get Msix.init s.msix fn
def State.setMsix (s : State) (fn : Nat) (x : Msix) : State := { s with msix := Tab.put Msix.init s.msix fn x }

/-- The present core cycle, counted from module reset. -/
def State.now (s : State) : Nat := s.clock.now
/-- The core cycle within the frame (R9). -/
def State.cycle (s : State) : Nat := s.clock.now - s.clock.frameStart
/-- The Reel Count of the frame (or the free count, R444). -/
def State.reelCount (s : State) : Nat := s.get .REEL_COUNT_COUNT 0
/-- The first cycle of the next frame. -/
def State.nextEdge (s : State) : Nat := s.clock.frameStart + s.clock.frameLen
/-- The machine stands at cycle 0 of a frame. -/
def State.atEdge (s : State) : Bool := s.clock.now == s.clock.frameStart

/-- Time moves forward to cycle `t`, if `t` lies in the present frame and not in the past. -/
def State.advance (s : State) (t : Nat) : State :=
  if s.now ≤ t ∧ t < s.nextEdge then { s with clock := { s.clock with now := t } } else s

/-- What follows is performed as of cycle `t`, if `t` lies in the present frame. -/
def State.setNow (s : State) (t : Nat) : State :=
  if s.clock.frameStart ≤ t ∧ t < s.nextEdge then { s with clock := { s.clock with now := t } } else s

/-- A free value of the engine's own choosing (log entry 7): the opaque sequence's next one. -/
def State.draw (s : State) : Nat × State := (Config.free s.free, { s with free := s.free + 1 })

/-- Port n lies in the reference set and is healthy. -/
def State.refHealthy (s : State) (n : Nat) : Bool := (s.get .REEL_REFSET_PORTS 0).testBit n && (s.tracker n).healthy

/-- The lowest-numbered healthy port of the reference set (R30). -/
def State.lowestRef (s : State) : Option Nat := (List.range 64).find? s.refHealthy

/-- The frame-period code by which the frames to come are made (R35, R44): in ACQUIRE that of the beacons of the lowest-numbered
healthy port (log entry 71). -/
def State.periodInForce (s : State) : Nat :=
  if s.get .REEL_STAT_STATE 0 = 1 then match s.lowestRef with
    | some n => (s.tracker n).period
    | none => s.get .REEL_STAT_PERIOD 0
  else s.get .REEL_STAT_PERIOD 0

/-- Something is sent to the world outside. -/
def State.send (s : State) (o : Out) : State := { s with out := s.out ++ [o] }

/-- A class 0 message is queued on port n; MSG_SEQ counts the port's messages (R249, R250). -/
def State.queueMsg (s : State) (n type : Nat) (body : Bytes) : State :=
  s.modPort n fun x => { x with queue := x.queue ++ [⟨type, false, n, x.msgSeq % 2 ^ 32, fitBytes 56 body⟩], msgSeq := x.msgSeq + 1 }

/-- Something waits for the next frame edge. -/
def State.atNextEdge (s : State) (r : EdgeReq) : State := { s with edge := s.edge ++ [r] }

/-- Reading host memory; a byte nothing has written reads 0 (log entries 5 and 6). -/
def State.hostRead (s : State) (a n : Nat) : Bytes := Mem.read s.host a n
def State.hostWrite (s : State) (a : Nat) (bs : Bytes) : State := { s with host := Mem.write s.host a bs }

/-- Partition p is created: it is not FREE (R304). -/
def State.created (s : State) (p : Nat) : Bool := s.get .PART_STATE_STATE p != 0

/-- State of a Gondola half in GCTL_FW_STAT: 0 GW, 1 GE (R421). -/
def State.halfState (s : State) (g : Nat) : Nat :=
  if g = 0 then s.get .GCTL_FW_STAT_GW_STATE 0 else s.get .GCTL_FW_STAT_GE_STATE 0

/-- A half drives the outputs: running or standby (R377). -/
def State.drives (s : State) (g : Nat) : Bool := s.halfState g == 2 || s.halfState g == 3

/-- The Gondola has booted: a half runs (R430). -/
def State.booted (s : State) : Bool := s.drives 0 || s.drives 1

/-- What a write to PF BAR0 or a request on the management bus does: nothing until the Gondola has booted (R430). -/
def State.whenBooted (s t : State) : State := if s.booted then t else s

/-- What the firmware takes up: a settings write, or a request on the management bus. During a takeover it waits, and it is taken up at
the first edge after that (R378; log entry 83). -/
def State.viaFirmware (s : State) (i : Instr) (t : State) : State := if s.gondola.takeover then s.atNextEdge (.mail i) else t

/-- The bound shape's logical cores, 0 without one. -/
def Part.lcores (x : Part) : Nat := match x.bind.shape with
  | some sh => sh.lcores
  | none => 0

/-- The physical index of logical core c of a partition, if it is one. -/
def Part.position (x : Part) (c : Nat) : Option Nat := match x.bind.shape with
  | some sh => if c < sh.lcores then sh.positions[c]? else none
  | none => none

/-- Every position bound to a partition, spares included. -/
def Part.positions (x : Part) : List Nat := match x.bind.shape with
  | some sh => sh.positions
  | none => []

/-- The physical indices of a partition's logical cores in order. -/
def Part.cores (x : Part) : List Nat := match x.bind.shape with
  | some sh => sh.positions.take sh.lcores
  | none => []

/-- The partition whose queue range in force holds queue q, if any (R269). -/
def State.ownerOf (s : State) (q : Nat) : Option Nat :=
  (List.range 16).find? fun p =>
    let r := (s.part p).bind.queues
    s.created p && decide (r.1 ≤ q) && decide (q < r.1 + r.2)

/-- The partition that owns tether port n by its bound mask, if any (R248). -/
def State.portOwner (s : State) (n : Nat) : Option Nat :=
  (List.range 16).find? fun p => match (s.part p).bind.shape with
    | some sh => sh.ports.testBit n
    | none => false


/-- A descriptor in force from one cycle until before another checks what happens in cycle x (R134). -/
def inForce (since : Nat) (till : Option Nat) (x : Nat) : Bool := decide (since ≤ x) && (match till with
  | some t => decide (x < t)
  | none => true)

/-- Byte address of word-column c of row r (R117). -/
def tmemAddr (r c : Nat) : Nat := r * 4096 + c * 64

/-- Reading bytes of a core's tile memory. -/
def Core.read (k : Core) (a n : Nat) : Bytes := Mem.read k.tmem a n

/-- Row r of tile memory. -/
def Core.row (k : Core) (r : Nat) : Bytes := k.read (r * 4096) 4096

/-- Bytes from address a, with what a write from address b replaced put back where they meet. -/
def putBack (a : Nat) (bs : Bytes) (b : Nat) (old : Bytes) : Bytes :=
  if a + bs.length ≤ b ∨ b + old.length ≤ a then bs
  else (enumFrom a bs).map fun x => if b ≤ x.1 ∧ x.1 < b + old.length then old.getD (x.1 - b) 0 else x.2

/-- Bytes from address a as a read of time x sees them: before every write of that time or a later one (R124, R165). -/
def asOf (past : List Replaced) (x a : Nat) (bs : Bytes) : Bytes :=
  (past.filter fun e => decide (x ≤ e.cycle)).foldr (fun e b => putBack a b e.addr e.old) bs

/-- Flipped bits as a read of time x meets them. -/
def flipsAt (past : List Replaced) (x : Nat) (now : Tab Nat) : List (Nat × Nat) :=
  now ++ (past.filter fun e => decide (x ≤ e.cycle)).flatMap Replaced.ecc

/-- Bytes of tile memory as a read in cycle x sees them (R124). -/
def Core.readAt (k : Core) (x a n : Nat) : Bytes := asOf k.past x a (k.read a n)

/-- Row r of tile memory as a read in cycle x sees it. -/
def Core.rowAt (k : Core) (x r : Nat) : Bytes := k.readAt x (r * 4096) 4096

/-- Flipped bits as a read in cycle x meets them. -/
def Core.eccAt (k : Core) (x : Nat) : List (Nat × Nat) := flipsAt k.past x k.ecc

/-- The write comes after one of cycle x on a slot: in a later cycle, or in the same one on a later slot (R125). -/
def Replaced.after (e : Replaced) (x slot : Nat) : Bool := decide (x < e.cycle) || (e.cycle == x && decide (slot < e.slot))

/-- Bytes of a write that later writes cover become what the first of those replaced; the others are left. -/
def coverBytes : List Replaced → List (Nat × Byte) → List Replaced × List (Nat × Byte)
  | [], ws => ([], ws)
  | e :: r, ws =>
    let mine := ws.filter fun w => decide (e.addr ≤ w.1) && decide (w.1 < e.addr + e.old.length)
    let rest := coverBytes r (ws.filter fun w => !(decide (e.addr ≤ w.1) && decide (w.1 < e.addr + e.old.length)))
    ({ e with old := mine.foldl (fun o w => o.set (w.1 - e.addr) w.2) e.old } :: rest.1, rest.2)

/-- A write of bytes at time x, on a slot where there are several, takes its place among the writes of its time; `hit` are the
flipped bits that it puts right. -/
def timedWrite (m : Mem) (past : List Replaced) (x slot a : Nat) (bs : Bytes) (hit : List (Nat × Nat)) : Mem × List Replaced :=
  let later := past.filter fun e => e.after x slot
  let old := later.foldr (fun e b => putBack a b e.addr e.old) (Mem.read m a bs.length)
  let rest := coverBytes later (enumFrom a bs)
  (if later.isEmpty then Mem.write m a bs else Mem.writeCells m rest.2,
   (past.filter fun e => !e.after x slot) ++ ⟨x, slot, a, old, hit⟩ :: rest.1)

/-- A write of bytes to tile memory in cycle x on a slot (R124, R125); the wholly written quarters lose their error bits (R135). -/
def Core.writeAt (k : Core) (x slot a : Nat) (bs : Bytes) : Core :=
  let covers := fun (c : Nat × Nat) => decide (a ≤ c.1 * 16) && decide (c.1 * 16 + 16 ≤ a + bs.length)
  let w := timedWrite k.tmem k.past x slot a bs (k.ecc.filter covers)
  { k with tmem := w.1, ecc := k.ecc.filter fun c => !covers c, past := w.2 }

/-- Writes before cycle x are no longer told apart from older ones. -/
def Core.forget (k : Core) (x : Nat) : Core := { k with past := k.past.filter fun e => decide (x ≤ e.cycle) }

/-- `n` rows from row r read as zero from now on (R136, R218). -/
def Core.clearRows (k : Core) (r n : Nat) : Core :=
  { k with
    tmem := Mem.clear k.tmem (r * 4096) (n * 4096)
    ecc := k.ecc.filter fun c => !(decide (r * 256 ≤ c.1) && decide (c.1 < (r + n) * 256)) }

/-- The accumulators of physical group g read as zero from now on (R136, R218). -/
def Core.clearGroup (k : Core) (g : Nat) : Core :=
  { k with acc := k.acc.filter fun c => !(decide (g * 65536 ≤ c.1) && decide (c.1 < (g + 1) * 65536)) }

/-- The physical accumulator row of named row r under an accumulator map (R214). -/
def mapAcc (map r : Nat) : Nat := bits map (3 * (r / 256) + 2) (3 * (r / 256)) * 256 + r % 256


end Sys2Proof.Machine
end

