-- ==== Sys2Proof/Machine/Logbook.lean ====
section
/-! DEFINITION. The logbook's own operations: stamps, tallies, histograms, freezes and partition views (R389 to R399). -/

namespace Sys2Proof.Machine

/-- The stamps of now: OP_SEC and POWER_CYCLES (R390). -/
def State.stamps (s : State) : Nat := s.get .LOGB_TIME_OP_SEC 0 + s.get .LOGB_TIME_POWER_CYCLES 0 * 2 ^ 32

/-- The severity of a code (R394, R420). -/
def severityOf (code : Nat) : Nat :=
  if code < 0x1000 then 0
  else if code < 0x3000 then 1
  else if code < 0x5000 then 2
  else if code < 0x6000 then 3
  else if code < 0x6100 then (if code = 0x6003 then 3 else 1)
  else if code < 0x7000 then 0
  else if code < 0x8000 then (if code = 0x7005 then 2 else 1)
  else if code < 0x8004 then 2
  else if code = 0x8004 then 1
  else if code < 0x8020 then 2
  else if code < 0x9000 then 1
  else if code < 0x9010 then (if code = 0x9004 then 3 else 0)
  else if code = 0x9010 then 1
  else if code = 0x9011 then 2
  else if code = 0xA000 then 3
  else if code = 0xA003 then 2
  else if code < 0xB000 then (if code = 0xA001 then 2 else 1)
  else if code = 0xB000 then 1
  else if code = 0xB003 then 2
  else if code < 0xC000 then 0
  else if code = 0xC000 then 0
  else if code ≤ 0xC003 then 2
  else if code = 0xC004 ∨ code = 0xC007 then 3
  else 1

/-- What a code does with its argument: 0 keeps none, 1 the largest, 2 the last (R394, R420). -/
def argMode (code : Nat) : Nat :=
  if code < 0x6100 then 1
  else if code < 0x7000 then 0
  else if code < 0x8000 then 2
  else if code < 0x8020 then 1
  else if code = 0x8030 ∨ code = 0xA002 then 1
  else if code = 0xA001 ∨ code = 0xB001 then 2
  else if 0xC000 ≤ code ∧ code ≤ 0xC006 ∧ code ≠ 0xC004 then 2
  else 0

/-- The kept argument after one more event (R394). -/
def keepArg (code old new : Nat) : Nat :=
  if argMode code = 1 then max old new else if argMode code = 2 then new else 0

/-- One more event in a tally (R392). -/
def Tally.more (t : Tally) (arg stamp : Nat) : Tally :=
  { t with count := satW 32 (t.count + 1), arg := keepArg t.code t.arg (arg % 2 ^ 32), last := stamp }

/-- The tally with a key (R392). -/
def Book.findKey (b : Book) (code subject : Nat) (reh ovf : Bool) : Option (Nat × Tally) :=
  b.tallies.findSome? fun c => match c.2 with
    | some t => if t.code = code ∧ t.subject = subject ∧ t.rehearsal = reh ∧ t.overflow = ovf then some (c.1, t) else none
    | none => none

/-- The lowest empty tally index of a sorted list of indices, from `i`. -/
def firstGap : Nat → List Nat → Nat
  | i, [] => i
  | i, x :: r => if x = i then firstGap (i + 1) r else i

/-- The victim of R396: lowest severity, then oldest LAST, then lowest index. -/
def Book.victim (b : Book) : Option (Nat × Tally) :=
  b.tallies.foldl (fun acc c => match c.2 with
    | some t =>
      if t.overflow then acc
      else match acc with
        | none => some (c.1, t)
        | some (j, u) => if t.severity < u.severity ∨ (t.severity = u.severity ∧ t.last < u.last) then some (c.1, t) else some (j, u)
    | none => acc) none

/-- A record of a severity may be created: a place is empty, or a victim is no more severe (R396). -/
def Book.hasRoom (b : Book) (severity : Nat) : Bool :=
  decide (firstGap 0 (b.tallies.map Prod.fst) < 65408) || (match b.victim with
    | some (_, u) => decide (u.severity ≤ severity)
    | none => false)

/-- A new record enters the book, or a victim makes room, or the event is lost (R396). -/
def State.createTally (s : State) (t : Tally) : State :=
  let i := firstGap 0 (s.book.tallies.map Prod.fst)
  if i < 65408 then { s with book := { s.book with tallies := Tab.put none s.book.tallies i (some t) } }
  else match s.book.victim with
    | some (j, u) =>
      if u.severity ≤ t.severity then
        ({ s with book := { s.book with tallies := Tab.put none s.book.tallies j (some t) } }).incA .LOGB_STAT_OVERWRITTEN 0 1
      else s.incA .LOGB_STAT_LOST 0 1
    | none => s.incA .LOGB_STAT_LOST 0 1

/-- An event, detected at the stamps `st`, reaches the book: its record, a new one within the hour's limit, or the overflow tally
(R395). -/
def State.applyEvent (s : State) (st code subject arg : Nat) (reh : Bool) : State :=
  let s := s.putA .LOGB_SEQ_SEQ 0 (s.getA .LOGB_SEQ_SEQ 0 + 1)
  let hour := s.get .LOGB_TIME_OP_SEC 0 / 3600
  let s := if s.book.hour = hour then s else { s with book := { s.book with hour := hour, created := [] } }
  match s.book.findKey code subject reh false with
  | some (i, t) => { s with book := { s.book with tallies := Tab.put none s.book.tallies i (some (t.more arg st)) } }
  | none =>
    let n := Tab.get 0 s.book.created code
    if n < max 1 (s.get .LOGB_CFG_RATE_NEW 0) then
      let s := { s with book := { s.book with created := Tab.put 0 s.book.created code (n + nat01 (s.book.hasRoom (severityOf code))) } }
      s.createTally ⟨code, severityOf code, reh, false, subject, 1, keepArg code 0 (arg % 2 ^ 32), st, st⟩
    else match s.book.findKey code 0xFFFF reh true with
      | some (i, t) => { s with book := { s.book with tallies := Tab.put none s.book.tallies i (some (t.more arg st)) } }
      | none => s.createTally ⟨code, severityOf code, reh, true, 0xFFFF, 1, keepArg code 0 (arg % 2 ^ 32), st, st⟩

/-- WIDTH of a histogram (Table 18-5); BASE is 0 in all of them. -/
def histWidth : Nat → Nat
  | 1 => 256
  | 2 => 4
  | 3 => 1
  | 4 => 16
  | 5 => 300
  | 6 => 2
  | 7 => 1
  | 8 => 64
  | _ => 1

/-- The bin of a sample (R393). -/
def histBin (hcode : Nat) (x : Int) : Nat :=
  if x < 0 then 0 else if (46 * histWidth hcode : Nat) ≤ x then 47 else 1 + x.toNat / histWidth hcode

/-- One more sample (R393). -/
def Hist.more (h : Option Hist) (hcode : Nat) (x : Int) (stamp : Nat) : Hist :=
  let b := histBin hcode x
  match h with
  | some h => { h with samples := satW 64 (h.samples + 1), last := stamp, min := Min.min h.min x, max := Max.max h.max x,
                       bins := Tab.put 0 h.bins b (satW 32 (Tab.get 0 h.bins b + 1)) }
  | none => ⟨1, stamp, stamp, x, x, [(b, 1)]⟩

/-- A sample reaches the book (R397). -/
def State.applySample (s : State) (st hcode subject : Nat) (x : Int) : State :=
  let s := s.putA .LOGB_SEQ_SEQ 0 (s.getA .LOGB_SEQ_SEQ 0 + 1)
  let k := hcode * 1024 + subject
  { s with book := { s.book with hists := Tab.put none s.book.hists k (some (Hist.more (Tab.get none s.book.hists k) hcode x st)) } }

/-- An update that was detected at the stamps `st` reaches the book. -/
def State.applyUpdate (s : State) (st : Nat) : Update → State
  | .event c sub arg r => s.applyEvent st c sub arg r
  | .sample h sub x => s.applySample st h sub x

/-- What orders the updates of one cycle in the queue of a freeze: the code, then the subject (R398; log entry 81 for samples). -/
def Update.key : Update → Nat × Nat
  | .event c sub _ _ => (c, sub)
  | .sample h sub _ => (h, sub)

/-- An update enters the queue of a freeze, after those of earlier cycles and in its order among those of its own (R398). -/
def insertUpdate (u : Nat × Nat × Update) : List (Nat × Nat × Update) → List (Nat × Nat × Update)
  | [] => [u]
  | x :: l =>
    let a := u.2.2.key
    let b := x.2.2.key
    if u.1 = x.1 ∧ (a.1 < b.1 ∨ (a.1 = b.1 ∧ a.2 < b.2)) then u :: x :: l else x :: insertUpdate u l

/-- The partition in whose view an update appears (R399). -/
def Update.view : Update → Option Nat
  | .event c sub _ _ =>
    if sub < 16 ∧ ((0 < c ∧ c < 0x6000) ∨ (0x6100 ≤ c ∧ c < 0x6200)) then some sub else none
  | .sample h sub _ => if h = 1 ∨ h = 5 ∨ h = 7 ∨ h = 8 then some sub else none

/-- An update: into the queue of a freeze, else into the book (R398); its copy waits for the partition's view (R399). -/
def State.update (s : State) (u : Update) : State :=
  let s := match u.view with
    | some p =>
      let v := Tab.get View.init s.book.views p
      { s with book := { s.book with views := Tab.put View.init s.book.views p { v with waiting := v.waiting ++ [u] } } }
    | none => s
  if s.get .LOGB_FRZ_FROZEN 0 = 1 then { s with book := { s.book with queue := insertUpdate (s.now, s.stamps, u) s.book.queue } }
  else s.applyUpdate s.stamps u

/-- An event is logged, marked as rehearsal where an injected fault causes it (R387). -/
def State.event (s : State) (code subject arg : Nat) : State := s.update (.event code subject arg s.rehearsal)

/-- A histogram sample (R397). -/
def State.sample (s : State) (hcode subject : Nat) (x : Int) : State := s.update (.sample hcode subject x)

/-- One update of a partition's view: stamps are PSEQ values, the limits are the view's (R399). -/
def View.apply (v : View) (pseq : Nat) : Update → View
  | .event c sub arg r =>
    if v.tallies.any fun t => t.code == c && t.rehearsal == r then
      { v with tallies := v.tallies.map fun t => if t.code = c ∧ t.rehearsal = r then t.more arg pseq else t }
    else if v.tallies.length < 1760 then
      { v with tallies := v.tallies ++ [⟨c, severityOf c, r, false, sub, 1, keepArg c 0 (arg % 2 ^ 32), pseq, pseq⟩] }
    else v
  | .sample h _ x =>
    match Tab.get ⟨0, 0, 0, 0, 0, []⟩ v.hists h with
    | old => { v with hists := Tab.put ⟨0, 0, 0, 0, 0, []⟩ v.hists h (Hist.more (if old.samples = 0 then none else some old) h x pseq) }

/-- Views take their waiting updates at a frame edge only (R399). -/
def State.applyViews (s : State) : State :=
  (List.range 16).foldl (fun (s : State) p =>
    let v := Tab.get View.init s.book.views p
    if v.waiting.isEmpty then s
    else
      let n := s.getA .VFLOG_SEQ_PSEQ p
      let v' := (enumFrom 0 v.waiting).foldl (fun (v : View) iu => v.apply (n + iu.1 + 1) iu.2) v
      ({ s with book := { s.book with views := Tab.put View.init s.book.views p { v' with waiting := [] } } }).putA
        .VFLOG_SEQ_PSEQ p (n + v.waiting.length)) s

/-- The book is written to its store with its counts; `orderly` marks an orderly power-down (R389, R400). -/
def State.storeBook (s : State) (orderly : Bool) : State :=
  { s with book := { s.book with
      stored := s.book.tallies
      storedHists := s.book.hists
      storeTime := s.stamps + nat01 orderly * 2 ^ 48
      storeCounts := (s.getA .LOGB_SEQ_SEQ 0, s.getA .LOGB_STAT_OVERWRITTEN 0, s.getA .LOGB_STAT_LOST 0) } }

/-- One update of the queue is applied. -/
def State.applyQueued (s : State) (x : Nat × Nat × Update) : State := s.applyUpdate x.2.1 x.2.2

/-- The end of a freeze: the queued updates are applied in order, and a store that waited is made (R398). -/
def State.thaw (s : State) : State :=
  if s.get .LOGB_FRZ_FROZEN 0 = 1 then
    let q := s.book.queue
    let due := s.book.storeDue
    let s := { s with book := { s.book with queue := [], storeDue := false } }
    let s := q.foldl State.applyQueued (s.put .LOGB_FRZ_FROZEN 0 0)
    if due then s.storeBook true else s
  else s

/-- The store of an orderly shutdown; it waits while the book is frozen (R389, R398). -/
def State.storeOrderly (s : State) : State :=
  if s.get .LOGB_FRZ_FROZEN 0 = 1 then { s with book := { s.book with storeDue := true } } else s.storeBook true

/-- The 32 bytes of a tally record (Table 18-2). -/
def Tally.bytes (t : Tally) : Bytes :=
  natLE 2 t.code ++ natLE 2 (t.severity + 4 * nat01 t.rehearsal + 8 * nat01 t.overflow) ++ natLE 4 t.subject ++
  natLE 4 t.count ++ natLE 4 t.arg ++ natLE 8 t.first ++ natLE 8 t.last

/-- The 256 bytes of a histogram record (Table 18-3). -/
def histBytes (hcode subject : Nat) (h : Option Hist) : Bytes :=
  let h := match h with
    | some h => h
    | none => ⟨0, 0, 0, 0, 0, []⟩
  natLE 4 hcode ++ natLE 4 subject ++ natLE 8 h.samples ++ natLE 8 h.first ++ natLE 8 h.last ++
  natLE 4 (ofSigned 32 h.min) ++ natLE 4 (ofSigned 32 h.max) ++ natLE 4 0 ++ natLE 4 (histWidth hcode) ++
  List.replicate 16 0 ++ (List.range 48).flatMap fun b => natLE 4 (Tab.get 0 h.bins b)

/-- Subjects of a histogram code in record order, with the place of its first record (Table 18-5: 570 in all). -/
def histScopes : List (Nat × Nat × Nat) :=
  [(1, 0, 16), (2, 16, 96), (3, 112, 96), (4, 208, 64), (5, 272, 16), (6, 288, 250), (7, 538, 16), (8, 554, 16)]

/-- The histogram code and subject of record number i. -/
def histOfIndex (i : Nat) : Option (Nat × Nat) :=
  histScopes.findSome? fun x => if x.2.1 ≤ i ∧ i < x.2.1 + x.2.2 then some (x.1, i - x.2.1) else none

/-- One byte of the read window (R391). -/
def State.windowByte (s : State) (off : Nat) : Byte :=
  if off < 0x1000 then
    (natLE 8 s.book.storeTime ++ natLE 4 s.book.tallies.length ++ natLE 4 570).getD off 0
  else if off < 0x200000 then
    match Tab.get none s.book.tallies ((off - 0x1000) / 32) with
    | some t => t.bytes.getD (off % 32) 0
    | none => 0
  else if off < 0x400000 then
    match histOfIndex ((off - 0x200000) / 256) with
    | some (h, sub) => (histBytes h sub (Tab.get none s.book.hists (h * 1024 + sub))).getD (off % 256) 0
    | none => 0
  else 0

end Sys2Proof.Machine
end

