-- ==== Sys2Proof/Machine/Flags.lean ====
section
/-! DEFINITION. Event bits, state changes that are logged, and interrupts: every flag of the block and who sets it
(R37, R252, R260, R298, R328, R394). -/

namespace Sys2Proof.Machine

/-- A bit of REEL_EVT is set and logged (R37, R394). -/
def State.reelEvent (s : State) (f : Field) : State :=
  (s.setEvent f 0).event (0x6000 + f.lo) 0 (s.get .REEL_HOLD_LAST 0)

/-- A bit of a partition's event view is set: VFEVT_STAT, and PART[p]_EVT with it (R326, R328, R394). The vector waits for a
bit that was not set before (log entry 70). -/
def State.partEvent (s : State) (f : Field) (p : Nat) : State :=
  ((s.setEvent f p).modRun p fun r => { r with newEvents := r.newEvents || s.get f p == 0 }).event (0x6100 + f.lo) p 0

/-- A bit of TETH[n]_EVT is set and logged (R252, R394). -/
def State.tethEvent (s : State) (f : Field) (n : Nat) : State :=
  (s.setEvent f n).update (.event (0x7000 + f.lo) n (s.get .TETH_STAT_DOWN_CAUSE n) (s.rehearsal || (s.port n).rehearsal))

/-- Register offset in PF BAR0 / 8 of a TETH counter (R394, code 0xB000). -/
def tethOffset (f : Field) (n : Nat) : Nat :=
  match Reg.all.find? fun r => r.code == f.reg with
  | some r => ((r.base + n * 0x400) / 8) % 2 ^ 16
  | none => 0

/-- A TETH counter rises; its first saturation is logged (R260). -/
def State.tethInc (s : State) (f : Field) (n k : Nat) : State :=
  let full := 2 ^ f.width - 1
  let old := s.get f n
  let s := s.inc f n k
  if old < full ∧ s.get f n = full then s.event 0xB000 (tethOffset f n) 0 else s

/-- A host access that is ignored or has no effect (R14, code 0xB001). -/
def State.ignored (s : State) (off : Nat) : State := s.event 0xB001 0 off

/-- HBM[m]_STAT.STATE takes a state; 2 to 4 are logged (R394). -/
def State.stackState (s : State) (m v : Nat) : State :=
  let s := s.put .HBM_STAT_STATE m v
  if 2 ≤ v then s.event (0x9000 + v) m 0 else s

/-- A domain fails with a cause, which is logged (R347, R358, R362, R394). -/
def State.domainCause (s : State) (d c : Nat) : State :=
  (s.put .PWR_DOM_STAT_CAUSE d c).event (0x8000 + c) d (s.get .PWR_DOM_STAT_STAGE_FAILS d)

/-- Vector v of function fn has an interrupting record or event since the last edge (R298, R328). -/
def State.raise (s : State) (fn v : Nat) : State :=
  let m := s.msixOf fn
  if m.raised.contains v then s else s.setMsix fn { m with raised := m.raised ++ [v] }

/-- One MSI-X vector's message at an edge: sent, or its pending bit set where the entry is masked (R298). The table is held with
bit 0 of every vector-control word inverted, so that an unlisted entry is masked (log entry 11). -/
def State.sendVector (s : State) (fn v : Nat) : State :=
  let m := s.msixOf fn
  let e := Mem.read m.table (16 * v) 16
  if e.getD 12 0 &&& 1 = 0 then s.setMsix fn { m with pending := if m.pending.contains v then m.pending else m.pending ++ [v] }
  else (s.setMsix fn { m with pending := m.pending.filter (· != v) }).send (.msix fn (u64 e 0) (u32 e 8))

/-- The messages of an edge: one per raised vector (R298). -/
def State.sendMsix (s : State) : State :=
  (List.range 17).foldl (fun (s : State) fn =>
    let v := (s.msixOf fn).raised
    let s := s.setMsix fn { s.msixOf fn with raised := [] }
    v.foldl (fun s v => s.sendVector fn v) s) s

/-- The function that owns a queue's vector: the partition's VF while enabled, else the PF (R298). -/
def State.vectorFn (s : State) (p : Option Nat) : Nat := match p with
  | some p => if s.vfs.contains p then p + 1 else 0
  | none => 0

/-- The event vectors of an edge: one message where an enabled event bit has become set (R328). -/
def State.eventVectors (s : State) : State :=
  (List.range 16).foldl (fun (s : State) p =>
    if (s.part p).run.newEvents then
      let s := s.modRun p fun r => { r with newEvents := false }
      if s.get .VFEVT_CFG_ENABLE p = 1 ∧ s.vfs.contains p then s.raise (p + 1) (s.get .VFEVT_CFG_VECTOR p) else s
    else s) s

end Sys2Proof.Machine
end

