-- ==== Sys2Proof/Machine/Journal.lean ====
section
/-! DEFINITION. The replay journal: its records, its ring in host memory and its mirror (R334 to R341). -/

namespace Sys2Proof.Machine

/-- The determinism signature of a microcode level (Table 15-1). -/
def State.signatureOf (s : State) (level : Nat) : Nat :=
  0xA2 * 2 ^ 56 + arithOf level * 2 ^ 40 + s.fuses.options % 65536 * 2 ^ 24

/-- The determinism signature that TASK_BEGIN carries: the arithmetic level is that of the partition's positions (R331, R403). -/
def State.signature (s : State) (p : Nat) : Nat := s.signatureOf (match (s.part p).cores.head? with
  | some n => s.get .CORE_BIST_MICROCODE n
  | none => 0)

/-- Size of the journal mirror's buffer: 1 MiB (R340). -/
def mirrorLimit : Nat := 2 ^ 20

/-- One record of `len` 16-byte units at the ring's next place (R334, R336): header, body, zero fill. -/
def State.journalRaw (s : State) (p type len : Nat) (body : Bytes) : State :=
  let n := s.get .PART_JRNL_TAIL_BYTES p
  let seq := s.get .PART_JRNL_STAT_NEXT_SEQ p
  let rec_ := fitBytes (16 * len)
    ([BitVec.ofNat 8 type, BitVec.ofNat 8 len, BitVec.ofNat 8 p, BitVec.ofNat 8 (nat01 s.rehearsal)] ++
      natLE 4 seq ++ natLE 6 s.reelCount ++ natLE 2 s.cycle ++ body)
  let base := s.get .PART_JRNL_BASE_BASE p * 4096
  let s := s.hostWrite (base + n % 2 ^ s.get .PART_JRNL_BASE_LOG2 p) rec_
  let s := (s.put .PART_JRNL_STAT_NEXT_SEQ p (seq + 1)).put .PART_JRNL_TAIL_BYTES p (n + 16 * len)
  if s.get .PART_JRNL_STAT_MIRROR p = 1 then
    let m := (s.part p).journal.mirror
    if sumN (m.map List.length) + 16 * len ≤ mirrorLimit then
      s.modPart p fun x => { x with journal := { x.journal with mirror := m ++ [rec_] } }
    else s.inc .PART_JRNL_STAT_MIRROR_DROPPED p 1
  else s

/-- One record of the group is written; a PAD record fills the ring to its end where the record would cross it (R334). -/
def State.journalPut (s : State) (p : Nat) (r : JournalRec) : State :=
  let len := 1 + cdiv r.body.length 16
  let size := 2 ^ s.get .PART_JRNL_BASE_LOG2 p
  let left := size - s.get .PART_JRNL_TAIL_BYTES p % size
  let s := if left < 16 * len then s.journalRaw p 0 (left / 16) [] else s
  s.journalRaw p r.type len r.body

/-- The place of a record among those of its cycle: by TYPE, then by queue, then by sequence number (R337). -/
def insertRec (r : JournalRec) : List JournalRec → List JournalRec
  | [] => [r]
  | x :: l =>
    if r.type < x.type ∨ (r.type = x.type ∧ (r.queue < x.queue ∨ (r.queue = x.queue ∧ r.seq < x.seq))) then r :: x :: l
    else x :: insertRec r l

/-- The group that a record of the present cycle joins: that of the cycle, or a new one. -/
def State.journalGroup (s : State) (p : Nat) : JournalGroup :=
  let j := (s.part p).journal
  let new : JournalGroup := ⟨s.now, s.get .PART_JRNL_TAIL_BYTES p, s.get .PART_JRNL_STAT_NEXT_SEQ p, s.get .PART_JRNL_STAT_MIRROR_DROPPED p,
    j.mirror, []⟩
  match j.group with
  | some g => if g.cycle = s.now then g else new
  | none => new

/-- The journal is as the group found it. -/
def State.journalBack (s : State) (p : Nat) (g : JournalGroup) : State :=
  (((s.put .PART_JRNL_TAIL_BYTES p g.tail).put .PART_JRNL_STAT_NEXT_SEQ p g.seq).put .PART_JRNL_STAT_MIRROR_DROPPED p g.dropped).modPart p
    fun x => { x with journal := { x.journal with mirror := g.mirror, group := some g } }

/-- A record is written if the journal is on, and the records of its cycle stand in their order (R337). `body` begins at byte 16 of
the record. -/
def State.journal (s : State) (p type queue seq : Nat) (body : Bytes) : State :=
  if s.get .PART_JRNL_STAT_ENABLED p = 1 then
    let g := s.journalGroup p
    let g' := { g with recs := insertRec ⟨type, queue, seq, body⟩ g.recs }
    g'.recs.foldl (fun (s : State) r => s.journalPut p r) (s.journalBack p g')
  else s

/-- The 64-bit value of PART[p]_SPARSE's low 32 bits as TASK_BEGIN carries it (Table 15-3). -/
def State.sparseWord (s : State) (p : Nat) : Nat :=
  s.get .PART_SPARSE_MERGE_MAX_ROWS p * 2 ^ Field.PART_SPARSE_MERGE_MAX_ROWS.lo +
  s.get .PART_SPARSE_DROP_LIMIT p * 2 ^ Field.PART_SPARSE_DROP_LIMIT.lo +
  s.get .PART_SPARSE_DROP_FAULT_EN p * 2 ^ Field.PART_SPARSE_DROP_FAULT_EN.lo

/-- TASK_BEGIN (type 1): the anchor and the resident state (Table 15-3). -/
def State.journalTaskBegin (s : State) (p : Nat) (t : Task) : State :=
  let x := s.part p
  let digest := match x.bind.shape with
    | some sh => sh.digest
    | none => []
  s.journal p 1 t.queue t.seq (natLE 8 t.anchorReel ++ natLE 8 t.tag ++ natLE 4 t.program ++ natLE 1 t.lcores ++ natLE 1 t.period ++
    natLE 2 t.queue ++ natLE 8 (s.signature p) ++ natLE 4 (s.get .PART_STATE_GEN p) ++
    natLE 4 (s.get .PART_ERT_GEN_COMMITTED p) ++ fitBytes 4 (x.strm.modelCommitted.drop 4) ++
    natLE 4 (s.sparseWord p) ++ fitBytes 32 (Tab.get Slot.init x.slots (t.program % 32)).digest ++ fitBytes 32 digest)

/-- DOORBELL (type 2). -/
def State.journalDoorbell (s : State) (p q tail head : Nat) : State :=
  s.journal p 2 q 0 (natLE 2 q ++ [0, 0] ++ natLE 4 tail ++ natLE 4 head)

/-- COMMAND (type 3): the packets as fetched. -/
def State.journalCommand (s : State) (p : Nat) (c : Cmd) : State :=
  s.journal p 3 c.queue c.seq (natLE 4 c.seq ++ natLE 2 c.queue ++ List.replicate 10 0 ++ c.bytes)

/-- FENCE_HOST (type 4). -/
def State.journalFence (s : State) (p rel value : Nat) : State :=
  s.journal p 4 0 0 (natLE 2 rel ++ List.replicate 6 0 ++ natLE 8 value)

/-- INPUT (type 5). -/
def State.journalInput (s : State) (c : Cmd) (p kind port entry rows : Nat) (ref digest : Bytes) : State :=
  s.journal p 5 c.queue c.seq (natLE 1 kind ++ natLE 1 port ++ natLE 2 entry ++ natLE 4 rows ++ fitBytes 8 ref ++ fitBytes 48 digest)

/-- ROUTE (type 6). -/
def State.journalRoute (s : State) (c : Cmd) (p confirm resolve spilled maxN : Nat) (dispatch runs : Bool) (digest : Bytes) :
    State :=
  s.journal p 6 c.queue c.seq (natLE 2 confirm ++ natLE 2 resolve ++ natLE 2 spilled ++ natLE 2 maxN ++
    natLE 4 (nat01 dispatch + 2 * nat01 runs) ++ natLE 4 (s.get .PART_STEP_STEP p) ++ fitBytes 32 digest)

/-- SWITCH (type 7). -/
def State.journalSwitch (s : State) (p queue seq kind gen : Nat) (digest : Bytes) : State :=
  s.journal p 7 queue seq (natLE 4 kind ++ natLE 4 gen ++ List.replicate 8 0 ++ fitBytes 32 digest)

/-- TAP (type 8). -/
def State.journalTap (s : State) (c : Cmd) (p core row rows : Nat) (digest : Bytes) : State :=
  s.journal p 8 c.queue c.seq (natLE 4 (s.get .PART_STEP_STEP p) ++ natLE 2 core ++ natLE 2 row ++ natLE 2 rows ++
    List.replicate 6 0 ++ fitBytes 32 digest)

/-- FAULT (type 9). -/
def State.journalFault (s : State) (p : Nat) (c : Cmd) (status detail : Nat) : State :=
  s.journal p 9 c.queue c.seq (natLE 2 status ++ natLE 2 c.queue ++ natLE 4 c.seq ++ natLE 8 detail)

/-- VOID (type 10). -/
def State.journalVoid (s : State) (p lost frames : Nat) : State := s.journal p 10 0 0 (natLE 4 lost ++ natLE 4 frames ++ List.replicate 8 0)

/-- MARK (type 11). -/
def State.journalMark (s : State) (c : Cmd) (p value : Nat) : State :=
  s.journal p 11 c.queue c.seq (natLE 8 value ++ natLE 4 (s.get .PART_STEP_STEP p) ++ List.replicate 4 0)

/-- TASK_END (type 12). -/
def State.journalTaskEnd (s : State) (p status : Nat) (void aborted complete : Bool) (cycles : Nat) : State :=
  s.journal p 12 0 0 (natLE 2 status ++ natLE 2 (nat01 void + 2 * nat01 aborted + 4 * nat01 complete) ++
    natLE 4 (s.get .PART_STEP_STEP p) ++ natLE 8 cycles ++ natLE 8 s.reelCount ++ List.replicate 24 0)

/-- The journal of a task has a gap (R337). -/
def Task.gap (t : Task) : Task := { t with journaled := false }

/-- ENABLE and DISABLE at their edge; a task in whose time the journal is off has no complete one (R337, R339). -/
def State.journalSwitchOn (s : State) (p : Nat) (on : Bool) (log2 base : Nat) (mirror : Option Nat) : State :=
  if on then
    let s := s.modPart p fun x => { x with journal := { x.journal with group := none } }
    let s := (((s.put .PART_JRNL_BASE_BASE p (base / 4096)).put .PART_JRNL_BASE_LOG2 p log2).put
      .PART_JRNL_TAIL_BYTES p 0).put .PART_JRNL_STAT_ENABLED p 1
    match mirror with
    | some n => (s.put .PART_JRNL_STAT_MIRROR p 1).modPart p fun x => { x with journal := { x.journal with port := n } }
    | none => s.put .PART_JRNL_STAT_MIRROR p 0
  else
    let s := s.modRun p fun r => { r with task := r.task.map Task.gap, next := r.next.map Task.gap }
    (s.put .PART_JRNL_STAT_ENABLED p 0).put .PART_JRNL_STAT_MIRROR p 0

end Sys2Proof.Machine
end

