-- ==== Sys2Proof/Machine/Cmds.lean ====
section
/-! DEFINITION. The life of a command: fences, waits, retirement, completion records, refutation of prediction slots, task
abort and task end (R45 to R50, R216 to R220, R282 to R297, R448, R449). -/

namespace Sys2Proof.Machine

/-- The command of a queue with a sequence number, among those in the Gondola. -/
def State.findCmd (s : State) (q seq : Nat) : Option Cmd := s.cmds.find? fun c => c.queue == q && c.seq == seq

/-- The command takes a new content. -/
def State.setCmd (s : State) (c : Cmd) : State :=
  { s with cmds := s.cmds.map fun d => if d.queue = c.queue ∧ d.seq = c.seq then c else d }

/-- The command leaves the list of commands that have not retired. -/
def State.dropCmd (s : State) (c : Cmd) : State :=
  { s with cmds := s.cmds.filter fun d => !(d.queue == c.queue && d.seq == c.seq) }

/-- Fetch order: the task (or the frame of the fetch), the queue, the place in the queue (R282). -/
def Cmd.before (a b : Cmd) : Bool :=
  decide (a.batch < b.batch ∨ (a.batch = b.batch ∧ (a.queue < b.queue ∨ (a.queue = b.queue ∧ a.ord < b.ord))))

/-- A command enters a list at its place in fetch order. -/
def insertCmd (c : Cmd) : List Cmd → List Cmd
  | [] => [c]
  | d :: r => if c.before d then c :: d :: r else d :: insertCmd c r

/-- Commands in fetch order. -/
def sortCmds (l : List Cmd) : List Cmd := l.foldl (fun acc c => insertCmd c acc) []

/-- First fence of a command's queue's partition; PF queues use absolute indices (R274). -/
def State.fenceBase (s : State) (p : Option Nat) : Nat := match p with
  | some p => (s.part p).bind.fences.1
  | none => 0

/-- Fences that a command may name (R274). -/
def State.fenceCount (s : State) (p : Option Nat) : Nat := match p with
  | some p => (s.part p).bind.fences.2
  | none => 32768

/-- A fence after one change (R287, R288). -/
def FenceUpd.apply (v : Nat) (u : FenceUpd) : Nat := if u.add then satW 64 (v + u.value) else max v u.value

/-- A change enters the list by cycle; within a cycle maxima follow sums (R288). -/
def insertUpd (u : FenceUpd) : List FenceUpd → List FenceUpd
  | [] => [u]
  | d :: r => if u.cycle < d.cycle ∨ (u.cycle = d.cycle ∧ u.add = true ∧ d.add = false) then u :: d :: r else d :: insertUpd u r

/-- Fence f with the changes whose cycle plus `lag` has been reached in cycle x. -/
def State.fenceAt (s : State) (f x lag : Nat) : Nat :=
  (s.fences.filter fun u => u.fence == f && decide (u.cycle + lag ≤ x)).foldl FenceUpd.apply (s.get .FENCE_VALUE_VALUE f)

/-- The value of fence f as its register shows it (R288). -/
def State.fenceNow (s : State) (f : Nat) : Nat := s.fenceAt f s.now 0

/-- The value that a wait sees in cycle x: a change of cycle t + 1 from cycle t + 8 (R288). -/
def State.fenceSeen (s : State) (f x : Nat) : Nat := s.fenceAt f x 7

/-- Changes that every wait can see enter the fences themselves. -/
def State.settleFences (s : State) : State :=
  let done := s.fences.filter fun u => decide (u.cycle + 7 ≤ s.now)
  let s' := { s with fences := s.fences.filter fun u => !decide (u.cycle + 7 ≤ s.now) }
  done.foldl (fun (s : State) u => s.put .FENCE_VALUE_VALUE u.fence (FenceUpd.apply (s.get .FENCE_VALUE_VALUE u.fence) u)) s'

/-- Changes of fences enter the fence unit. -/
def State.addUpds (s : State) (us : List FenceUpd) : State :=
  { s with fences := us.foldl (fun l u => insertUpd u l) s.fences }

/-- The changes that a command's retirement in this cycle makes (R285, R288, R289). -/
def State.signals (s : State) (c : Cmd) : List FenceUpd :=
  let b := s.fenceBase c.part
  (if c.sigEn then [⟨b + c.sigIdx, s.now + 1, true, c.sigInc⟩] else []) ++
  (if c.op = 2 then [⟨b + c.fsFence, s.now + 1, !c.fsOp, c.fsValue⟩] else [])

/-- A command's waits hold in cycle x (R283, R290). -/
def State.waitsOk (s : State) (c : Cmd) (x : Nat) : Bool :=
  c.waits.all fun w => decide (w.2 ≤ s.fenceSeen (s.fenceBase c.part + w.1) x)

/-- The first cycle from t0 on in which a command's waits hold, as the changes so far make it. -/
def State.waitTime (s : State) (c : Cmd) (t0 : Nat) : Option Nat :=
  match (t0 :: (s.fences.map fun u => u.cycle + 7).filter fun x => decide (t0 < x)).filter (s.waitsOk c) with
  | [] => none
  | x :: r => some (r.foldl min x)

/-- Core cycles of a frame that no clock step shortens. -/
def State.fullLen (s : State) : Nat := cyclesOf s.periodInForce

/-- The first cycle of frame F, counted since module reset, as the frames to come are now planned. -/
def State.frameCycle (s : State) (F : Nat) : Int :=
  if F ≤ s.clock.frameNo then (s.clock.frameStart : Int) - ((s.clock.frameNo - F) * s.fullLen : Nat)
  else (s.nextEdge : Int) + ((F - s.clock.frameNo - 1) * s.fullLen : Nat)

/-- The task to which a command belongs, if its anchor is fixed. -/
def State.taskOf (s : State) (c : Cmd) : Option Task := match c.part with
  | some p => match (s.part p).run.task with
    | some t => if t.batch = c.batch then some t else none
    | none => none
  | none => none

/-- The frame from which START and DEADLINE count (R45, R274). -/
def State.baseFrame (s : State) (c : Cmd) : Option Nat := match c.part with
  | none => some (c.fetched + 1)
  | some _ => match s.taskOf c with
    | some t => t.anchor
    | none => none

/-- The deadline edge of a command, if it has one (R47). -/
def State.deadlineCycle (s : State) (c : Cmd) : Option Int :=
  if c.hasDeadline then (s.baseFrame c).map fun b => s.frameCycle (b + c.deadline) else none

/-- A signed 32-bit slack. -/
def clampSlack (x : Int) : Int := max (-2147483648) (min 2147483647 x)

/-- The slack of a command that retires in cycle t (R49, R292). -/
def State.slackAt (s : State) (c : Cmd) (t : Nat) : Int :=
  match c.began, s.deadlineCycle c with
  | some _, some d => clampSlack (d - t)
  | _, _ => 2147483647

/-- The completion record of a command that ends now (R292). -/
def State.recordOf (s : State) (c : Cmd) (status detail : Nat) (slack : Int) : Rec :=
  ⟨c.queue, c.seq, c.part, c.op % 32768, status, s.reelCount,
   (match c.began with
    | some b => s.now - b
    | none => 0), slack, detail, c.interrupt, false, s.rehearsal⟩

/-- A command of the partition ends in this cycle (R286): its least slacks (R50, R380). -/
def State.noteSlack (s : State) (p : Option Nat) (slack : Int) : State := match p with
  | some p => s.modRun p fun r =>
      { r with minSlack := some (match r.minSlack with
                 | some m => min m slack
                 | none => slack),
               lastEnd := s.now,
               sum := { r.sum with slack := min r.sum.slack slack } }
  | none => s

/-- A command ends: it leaves, and its record waits to be written (R285, R297). -/
def State.finish (s : State) (c : Cmd) (status detail : Nat) (slack : Int) : State :=
  let r := s.recordOf c status detail slack
  ({ s.dropCmd c with recs := s.recs ++ [r] }).noteSlack c.part slack

/-- PART[p]_CMD.TASK (R300). -/
def State.showTask (s : State) (p : Nat) : State :=
  let r := (s.part p).run
  s.put .PART_CMD_TASK p (if r.task.isSome then 2 else if r.next.isSome then 1 else 0)

/-- Commands of partition p in flight: not retired, held, or with a record not yet written (R281, R219). -/
def State.inflight (s : State) (p : Nat) : Nat :=
  (s.cmds.filter fun c => c.part == some p).length +
  (s.recs.filter fun r => r.part == some p && !r.progress).length +
  sumN ((s.part p).strm.preds.map fun x => x.2.held.length)

/-- Commands of the PF queues in flight. -/
def State.inflightPf (s : State) : Nat :=
  (s.cmds.filter fun c => c.part == none).length + (s.recs.filter fun r => r.part == none && !r.progress).length

/-- The staging pool in force: first row, rows per buffer, buffers (R184, R208). -/
def Part.pool (x : Part) : Nat × Nat × Nat := match x.bind.shape with
  | some sh => (bits sh.stage 13 0, bits sh.stage 29 16, bits sh.stage 39 32)
  | none => (0, 0, 0)

/-- Prediction slot k of a partition. -/
def Part.pred (x : Part) (k : Nat) : Pred := Tab.get Pred.init x.strm.preds k
/-- Prediction slot k takes a value. -/
def State.setPred (s : State) (p k : Nat) (v : Pred) : State :=
  s.modStrm p fun x => { x with preds := Tab.put Pred.init x.preds k v }

/-- The prediction slot of a speculative command (R210, R213). -/
def Cmd.specSlot (c : Cmd) : Option Nat :=
  if c.op = 0x201 then some (bits (u8 c.bytes 28) 3 0)
  else if c.op = 0x101 then some (bits (u8 c.bytes 51) 3 0)
  else none

/-- The slot of a speculative command while it is PENDING (R215). -/
def State.pendingSlot (s : State) (c : Cmd) : Option Nat := match c.part, c.specSlot with
  | some p, some k => if ((s.part p).pred k).state = 1 then some k else none
  | _, _ => none

/-- Shard identities from a first one: a CANCEL's body (Table 12-6). -/
def cancelBody (id n : Nat) : Bytes := natLE 6 id ++ natLE 2 n

/-- A CANCEL goes out for every outstanding tether shard of a stream; pieces have numbers from 2^48 on (R197, R218). -/
def State.cancelStream (s : State) (st : Stream) : State :=
  st.shards.foldl (fun (s : State) h =>
    if h.cancelled || h.delivered || 64 ≤ h.port || 2 ^ 48 ≤ h.id then s else s.queueMsg h.port 8 (cancelBody h.id 1)) s

/-- A shard whose words are still to come over a tether. -/
def Shard.outstanding (h : Shard) : Bool := decide (h.port < 64) && !h.delivered && h.verdict.isNone

/-- The streams of a command end; outstanding shards are cancelled, and words that still arrive for them are dropped. -/
def State.endStreams (s : State) (p : Nat) (keep : Stream → Bool) : State :=
  let ended := (s.part p).strm.streams.filter fun st => !keep st
  let left := (ended.flatMap Stream.shards).filter Shard.outstanding
  let junk : List Stream := if left.isEmpty then [] else [⟨16384, 0, left.map fun h => { h with cancelled := true }, [], true⟩]
  (ended.foldl State.cancelStream s).modStrm p fun x => { x with streams := x.streams.filter keep ++ junk }

/-- Rows of every logical core of a partition become void: they read as zero (R218). -/
def State.voidRows (s : State) (p r n : Nat) : State :=
  if n = 0 then s else (s.part p).cores.foldl (fun (s : State) k => s.modCore k fun x => x.clearRows r n) s

/-- An accumulator group, by its name under the map, becomes void on every core (R214, R218). -/
def State.voidGroup (s : State) (p g : Nat) : State :=
  (s.part p).cores.foldl (fun (s : State) k =>
    let m := s.get .CORE_ACC_MAP_MAP k
    s.modCore k fun x => x.clearGroup (bits m (3 * g + 2) (3 * g))) s

/-- A slot's speculative region becomes void: its ring's rows, its output range, its shadow groups (R218, R220). -/
def State.voidSlot (s : State) (p : Nat) (d : Pred) : State :=
  let pool := (s.part p).pool
  let s := s.voidRows p (pool.1 + d.firstBuf * pool.2.1) (d.nbuf * pool.2.1)
  let s := s.voidRows p d.outFirst d.outRows
  d.shadow.foldl (fun (s : State) g => s.voidGroup p g.1) s

/-- The Detail of SPEC_SQUASHED: bytes arrived or cycles used, and the slot (R219). -/
def squashDetail (k : Nat) (d : Pred) (c : Cmd) (cycles : Nat) : Nat :=
  (if c.op = 0x201 then d.bytes else cycles) % 2 ^ 40 + k * 2 ^ 40

/-- The commands of slot k that have begun, with the held records of those that have ended (R219). -/
def State.slotCmds (s : State) (p k : Nat) : List (Nat × Cmd × Option Rec) :=
  (((s.part p).pred k).held.map fun h => (k, h.1, some h.2)) ++
    (s.cmds.filter fun c => c.part == some p && c.specSlot == some k && c.began.isSome).map fun c => (k, c, none)

/-- A command of a slot enters a list at its place in fetch order. -/
def insertHeld (x : Nat × Cmd × Option Rec) : List (Nat × Cmd × Option Rec) → List (Nat × Cmd × Option Rec)
  | [] => [x]
  | y :: r => if x.2.1.before y.2.1 then x :: y :: r else y :: insertHeld x r

/-- Core cycles since a command began. -/
def State.ranFor (s : State) (c : Cmd) : Nat := match c.began with
  | some b => s.now - b
  | none => 0

/-- What a command of a resolved slot had held back is released (R219): its record as it stands if the slot is one of `yes`, the
confirmed ones, unless it is a fault's (R218), else SPEC_SQUASHED; its signal. A command of a refuted slot that runs ends. -/
def State.releaseOne (s : State) (p : Nat) (yes : List Nat) (x : Nat × Cmd × Option Rec) : State :=
  let d := (s.part p).pred x.1
  let c := x.2.1
  match x.2.2, yes.contains x.1 with
  | some r, true => (if 0x3000 ≤ c.status then s else { s with recs := s.recs ++ [r] }).addUpds (s.signals c)
  | some r, false => ({ s with recs := s.recs ++ [{ r with status := 2, detail := squashDetail x.1 d c r.cycles }] }).addUpds (s.signals c)
  | none, true => s
  | none, false =>
    let s := s.endStreams p fun st => !(st.queue == c.queue && st.seq == c.seq)
    (s.addUpds (s.signals c)).finish c 2 (squashDetail x.1 d c (s.ranFor c)) (s.slackAt c s.now)

/-- A refuted slot's region becomes void; its held faults, the slot and its bytes are counted (R216, R218, R225). -/
def State.voidOut (s : State) (p k : Nat) : State :=
  let d := (s.part p).pred k
  let n := ((s.slotCmds p k).filter fun x => decide (0x3000 ≤ x.2.1.status)).length
  let s := s.voidSlot p d
  let s := if n = 0 then s else s.inc .PART_SPEC_CNT_HELD_FAULTS p n
  ((s.inc .PART_SPEC_CNT_SQUASHED p 1).inc .PART_SPEC_BYTES_BYTES p d.bytes).setPred p k { d with state := 3 }

/-- Slots are resolved in this cycle (R218 to R220): those of `no` are refuted; what the slots held is released in fetch order. -/
def State.settleSlots (s : State) (p : Nat) (yes no : List Nat) : State :=
  let s := no.foldl (fun (s : State) k => s.voidOut p k) s
  let s := (((yes ++ no).flatMap fun k => s.slotCmds p k).foldl (fun l x => insertHeld x l) []).foldl (fun (s : State) x => s.releaseOne p yes x) s
  no.foldl (fun (s : State) k => s.setPred p k { (s.part p).pred k with held := [], fault := none }) s

/-- The PENDING slots of a partition. -/
def Part.pendingSlots (x : Part) : List Nat := (x.strm.preds.filter fun c => c.2.state == 1).map Prod.fst

/-- Armed entries of the partition's cores are disarmed when a task ends (R237). -/
def State.disarm (s : State) (p : Nat) : State :=
  (s.part p).cores.foldl (fun (s : State) k => s.modCore k fun c => { c with gather := [] }) s

/-- A task ends in this cycle (R237, R280, R337, R380). -/
def State.endTask (s : State) (p : Nat) (status : Nat) (aborted : Bool) : State :=
  let r := (s.part p).run
  match r.task with
  | none => s
  | some t =>
    let cyc := match t.anchorAt with
      | some a => s.now - a
      | none => 0
    let s := s.journalTaskEnd p status r.sum.voidFrom.isSome aborted t.journaled cyc
    let s := s.put .PART_STEP_STEP p 0
    let s := s.put .PART_RECOVER_LAST_TASK_SLACK p (ofSigned 32 r.sum.slack)
    let s := (s.part p).cores.foldl (fun (s : State) k => s.sample 2 k (s.get .CORE_TMEM_HAZ_TASK k)) s
    let s := s.disarm p
    let s := s.modRun p fun x => { x with task := none, sum := TaskSum.init, wide := none, uses := [] }
    s.showTask p

/-- Every fetched command of the running task has ended: the task ends, PENDING slots being refuted first (R220, R280). -/
def State.taskDone (s : State) (p : Nat) : State :=
  match (s.part p).run.task with
  | none => s
  | some t =>
    if s.cmds.any fun c => c.part == some p && c.batch == t.batch then s
    else (s.settleSlots p [] (s.part p).pendingSlots).endTask p 0 false

/-- Core cycles that the present frame has lacked so far under a clock step: a third of those run at the lower rate
(R338, R360). -/
def State.lackNow (s : State) : Nat := match s.power.step with
  | some x => if x.quiet < 4 then (s.now - x.start) / 3 else 0
  | none => 0

/-- The status of a command that runs to its end, after R294 and R338. -/
def State.finalStatus (s : State) (c : Cmd) : Nat × Nat :=
  match c.part, s.taskOf c with
  | some p, some _ =>
    let m := (s.part p).run.sum
    match m.voidFrom with
    | some f =>
      if c.status < 0x1000 ∧ c.status ≠ 2 then (5, min (m.voidLost + s.lackNow) 0xFFFFFFFF + f % 2 ^ 32 * 2 ^ 32) else (c.status, c.detail)
    | none => (c.status, c.detail)
  | _, _ => (c.status, c.detail)

/-- A retired wide operation or ROUTE_COMMIT of the partition lets the next wide operation begin in the next cycle (R88, R217). -/
def State.freeWide (s : State) (c : Cmd) : State := match c.part with
  | some p => if opWide c.op ∨ c.op = 0x202 then s.modRun p fun r => { r with wide := none, wideFree := s.now + 1 } else s
  | none => s

/-- A command retires in this cycle (R285): its record, or a held record for a speculative one (R219), and its signal. -/
def State.retire (s : State) (c : Cmd) : State :=
  let sd := s.finalStatus c
  let slack := s.slackAt c s.now
  let s := match c.part, s.pendingSlot c with
    | some p, some k =>
      let d := (s.part p).pred k
      ((s.dropCmd c).setPred p k { d with held := d.held ++ [(c, s.recordOf c sd.1 sd.2 slack)] }).noteSlack c.part slack
    | _, _ => (s.finish c sd.1 sd.2 slack).addUpds (s.signals c)
  let s := s.freeWide c
  match c.part with
  | some p => if (s.taskOf c).isSome then s.taskDone p else s
  | none => s

/-- The commands of a task that have not retired, held ones among them, in fetch order (R282). -/
def State.taskCmds (s : State) (p batch : Nat) : List Cmd :=
  sortCmds ((s.cmds.filter fun c => c.part == some p && c.batch == batch) ++
    ((s.part p).strm.preds.flatMap fun x => x.2.held.map Prod.fst).filter fun c => c.batch == batch)

/-- A partition's streaming state after an abort: buffers FREE, prediction slots IDLE with their regions void, streams
cancelled (R197, R220). -/
def State.dropStreams (s : State) (p : Nat) : State :=
  let s := (s.part p).pendingSlots.foldl (fun (s : State) k => s.voidSlot p ((s.part p).pred k)) s
  let s := s.endStreams p fun st => st.queue == 16384
  s.modStrm p fun x => { x with bufs := [], rings := [], preds := [] }

/-- A FAULT message goes out on every port of the partition (Table 12-6; log entry 12). -/
def State.sendFault (s : State) (p status : Nat) : State :=
  let body := natLE 1 p ++ [0] ++ natLE 2 status ++ List.replicate 4 0 ++ natLE 8 s.reelCount
  ((List.range 64).filter fun n => match (s.part p).bind.shape with
    | some sh => sh.ports.testBit n
    | none => false).foldl (fun (s : State) n => s.queueMsg n 9 body) s

/-- The running task of a partition is aborted in this cycle (R295): `statusOf` gives each command its status and Detail,
`first` stands at the head of the records, `slack` overrides the first one's slack. -/
def State.abortTask (s : State) (p : Nat) (first : Option Cmd) (statusOf : Cmd → Nat × Nat) (slack : Option Int)
    (taskStatus : Nat) (records : Bool) : State :=
  match (s.part p).run.task with
  | none => s
  | some t =>
    let all := s.taskCmds p t.batch
    let held := (s.part p).strm.preds.flatMap fun x => x.2.held
    let order : List Cmd := match first with
      | some f => all.filter (fun c => c.queue == f.queue && c.seq == f.seq) ++
                  all.filter (fun c => !(c.queue == f.queue && c.seq == f.seq))
      | none => all
    let s := match first with
      | some f => s.journalFault p f (statusOf f).1 (statusOf f).2
      | none => s
    let s := order.foldl (fun (s : State) c =>
      if records then
        let sl := match first, slack with
          | some f, some x => if f.queue = c.queue ∧ f.seq = c.seq then x else s.slackAt c s.now
          | _, _ => s.slackAt c s.now
        match held.find? fun h => h.1.queue == c.queue && h.1.seq == c.seq with
        | some h => { s with recs := s.recs ++ [{ h.2 with status := (statusOf c).1, detail := (statusOf c).2 }] }
        | none => s.finish c (statusOf c).1 (statusOf c).2 sl
      else s.dropCmd c) s
    let s := (s.dropStreams p).sendFault p taskStatus
    let s := if all.any fun (c : Cmd) => opWide c.op && c.began.isSome then
        s.modRun p fun r => { r with wideFree := max r.wideFree (s.now + 1) } else s
    s.endTask p taskStatus true

/-- The next task, whose header has been found, ends: each of its commands that is in the Gondola takes its status, and
the rest is fetched and retired as it arrives (R280, R296). -/
def State.dropNext (s : State) (p : Nat) (statusOf : Cmd → Nat × Nat) (records : Bool) : State :=
  match (s.part p).run.next with
  | none => s
  | some t =>
    let s := (s.taskCmds p t.batch).foldl (fun (s : State) c =>
      if records then s.finish c (statusOf c).1 (statusOf c).2 2147483647 else s.dropCmd c) s
    let s := s.modRun p fun r => { r with next := if t.closed.length < t.queueCount then some { t with refused := true } else none }
    s.showTask p

/-- The usual abort (R295): the faulting command has its own status, every other one ABORTED_TASK. -/
def State.abort (s : State) (c : Cmd) (status detail : Nat) : State := match c.part with
  | some p => s.abortTask p (some c)
      (fun d => if d.queue = c.queue ∧ d.seq = c.seq then (status, detail) else (0x4000, 0)) none status true
  | none => s.finish c status detail (s.slackAt c s.now)

/-- A fault of a command (R295), a DIGEST_FAIL being counted (R208); one of a speculative command is held in its slot, where a STREAM_SPEC ends with it (R216). -/
def State.fault (s : State) (c : Cmd) (status detail : Nat) : State :=
  match c.part, s.pendingSlot c with
  | some p, some k =>
    let d := (s.part p).pred k
    let d := if d.fault.isNone then { d with fault := some (s.now, status, detail) } else d
    if c.op = 0x201 then
      let r := s.recordOf c status detail (s.slackAt c s.now)
      let s := ((s.dropCmd c).endStreams p fun st => !(st.queue == c.queue && st.seq == c.seq)).setPred p k
        { d with held := d.held ++ [({ c with status := status, detail := detail }, r)] }
      s.taskDone p
    else
      (s.setCmd { c with status := status, detail := detail }).setPred p k d
  | _, _ => (match c.part with
    | some p => if status = 0x3002 then s.inc .STRM_FAIL_DIGEST p 1 else s
    | none => s).abort c status detail

/-- A refusal before a command starts (R275, R448): its status and Detail, the command never having begun. -/
def State.refuse (s : State) (c : Cmd) (r : Nat × Nat) : State :=
  let c' := { c with began := none }
  (s.setCmd c').abort c' r.1 r.2

/-- A command that has retired by cycle x. -/
def Cmd.over (c : Cmd) (x : Nat) : Bool := match c.due with
  | some t => decide (t ≤ x)
  | none => false

/-- The command that a fault of a partition in cycle x is charged to (R449): the oldest in execution, else the oldest that has not
retired. -/
def State.charge (s : State) (p x : Nat) : Option Cmd := match (s.part p).run.task with
  | none => none
  | some t =>
    let l := sortCmds (s.cmds.filter fun c => c.part == some p && c.batch == t.batch && !c.over x)
    match l.find? fun c => c.began.isSome with
    | some c => some c
    | none => l.head?

/-- A fault that R449 charges to the oldest command; with none to charge, one with a status of its own is counted in the logbook. -/
def State.chargeFault (s : State) (p status detail : Nat) : State := match s.charge p s.now with
  | some c => s.abort c status detail
  | none => if status = 0x4000 then s else s.event status p 0

/-- A running command of the opcode that has begun and has not yet done its work. -/
def State.ready (s : State) (id : CmdId) (op : Nat) : Option Cmd :=
  match s.findCmd id.queue.val id.seq with
  | some c => if c.op = op ∧ c.began.isSome ∧ c.ran = false ∧ c.due = none then some c else none
  | none => none

/-- The mark of an injected fault applies to what follows, or no longer (R387). -/
def State.mark (s : State) (on : Bool) : State := { s with rehearsal := on }

/-- A fault charged to the command ends it in cycle t or earlier (R449). -/
def Cmd.endsBy (c : Cmd) (t : Nat) : Bool := decide (0x3000 ≤ c.status) && (match c.due with
  | some x => decide (x ≤ t)
  | none => false)

/-- The command whose work is done, as it will retire in cycle t with that status: a fault that its work met and that ends it
before stays (R285, R449). -/
def State.doneCmd (s : State) (c : Cmd) (t status detail : Nat) : Cmd :=
  match (s.findCmd c.queue c.seq).filter fun d => d.endsBy t with
  | some d => { d with queue := c.queue, seq := c.seq }
  | none => { c with ran := true, due := some t, status := status, detail := detail, rehearsal := s.rehearsal }

/-- The command's work is done; it retires in cycle t with a status of class 0, or ends there with the fault that it met
(R285), unless one that its work met ends it before (R449). -/
def State.done (s : State) (c : Cmd) (t status detail : Nat) : State := (s.setCmd (s.doneCmd c t status detail)).mark false

/-- The first cycle of a command. -/
def Cmd.t0 (c : Cmd) : Nat := match c.began with
  | some b => b
  | none => 0

/-- The first cycle of a task's anchor frame. -/
def State.anchorCycle (s : State) (p : Nat) : Nat := match (s.part p).run.task with
  | some t => match t.anchorAt with
    | some a => a
    | none => 0
  | none => 0

/-- The quota of partition p in force (R281). -/
def State.quotaOf (s : State) (p : Nat) : Nat := match (s.part p).bind.shape with
  | some v => v.quota
  | none => 0

end Sys2Proof.Machine
end

