-- ==== Sys2Proof/Machine/Reel.lean ====
section
/-! DEFINITION. The Reel unit: beacons, port health, lock, holdover, loss, period changes (R28 to R44, R444). The beacons
of an edge are taken before its FRAME_EDGE and judged at it (log entry 13). -/

namespace Sys2Proof.Machine

/-- The frame-period code of a beacon word, its CHANGE bit and NEW_PERIOD (Table 12-3). -/
def beaconPeriod (w : Bytes) : Nat := bits (u8 w 8) 2 0
def beaconChange (w : Bytes) : Bool := bit (u8 w 8) 3
def beaconNew (w : Bytes) : Nat := bits (u8 w 8) 6 4

/-- A beacon is valid: link check and frame-period codes (R28). -/
def beaconValid (linkOk : Bool) (w : Bytes) : Bool :=
  linkOk && decide (beaconPeriod w ≤ 4) && (!beaconChange w || decide (beaconNew w ≤ 4))

/-- Port n is up (R29, R252). -/
def State.portUp (s : State) (n : Nat) : Bool := s.get .TETH_STAT_STATE n == 3

/-- Port n takes classes 0 and 1: UP or STOPPED (Table 12-7). -/
def State.portTalks (s : State) (n : Nat) : Bool := s.get .TETH_STAT_STATE n == 3 || s.get .TETH_STAT_STATE n == 4

/-- The module holds a Reel Count of its own (R29, R444). -/
def State.ownCount (s : State) : Bool := s.get .REEL_STAT_STATE 0 == 2 || s.get .REEL_STAT_STATE 0 == 3

/-- Data commands may be fetched (R36, R43). -/
def State.fetchAllowed (s : State) : Bool := s.ownCount && s.reel.resumed

/-- A change announced for a frame (R44): at least 1,024 frames ahead it stands as the pending one; the pending one again, or one
that is over and whose code is in force, says nothing new; any other one is late, and LOST follows at the next edge (log entry
72). -/
def State.takeChange (s : State) (code frame : Nat) : State :=
  if s.get .REEL_PERIOD_NEXT_VALID 0 = 1 ∧ s.get .REEL_PERIOD_NEXT_CODE 0 = code ∧ s.get .REEL_PERIOD_NEXT_FRAME 0 = frame % 2 ^ 56 then s
  else if s.reelCount + 1 + 1024 ≤ frame then
    ((s.put .REEL_PERIOD_NEXT_VALID 0 1).put .REEL_PERIOD_NEXT_CODE 0 code).put .REEL_PERIOD_NEXT_FRAME 0 frame
  else if frame ≤ s.reelCount + 1 ∧ code = s.get .REEL_STAT_PERIOD 0 then s
  else { s with reel := { s.reel with late := some (s.clock.frameNo + 2) } }

/-- A valid beacon is kept for the edge that it marks; the reference's beacon reports the phase and announces a period
change (R29, R33, R44; log entry 72). -/
def State.takeBeacon (s : State) (n : Nat) (w : Bytes) (arrival : Int) : State :=
  let phase := arrival - (u32 w 24 : Nat) - (s.get .TETH_DELAY_DELAY n : Nat)
  let s := s.setTracker n { s.tracker n with got := some (u64 w 0), gotPeriod := beaconPeriod w, gotPhase := phase }
  if s.get .REEL_STAT_REF_VALID 0 = 1 ∧ s.get .REEL_STAT_REF_PORT 0 = n then
    let s := s.put .REEL_PHASE_ERROR 0 (ofSigned 32 phase)
    if beaconChange w = true ∧ s.ownCount = true ∧ s.reel.late = none then s.takeChange (beaconNew w) (u64 w 16) else s
  else s

/-- REEL_BEACON (R28, R29). -/
def execReelBeacon (n : Fin 64) (linkOk : Bool) (word : Bytes) (arrival : Int) (s : State) : Host.Outcome State Fault Refusal :=
  .next (if s.portTalks n.val then
    if beaconValid linkOk word then s.takeBeacon n.val word arrival
    else (s.inc .REEL_BEACON_ERR_COUNT n.val 1).reelEvent .REEL_EVT_BEACON_DISCARD
  else s)

/-- What the Reel unit knows of a port after an edge; `mod` is the module's own count, if it holds one (R29, R35, R38). -/
def Tracker.edge (t : Tracker) (up : Bool) (mod : Option Nat) : Tracker :=
  if !up then { Tracker.init with healthy := false }
  else match t.got with
    | none => { t with run := 0, missed := t.missed + 1, since := t.since + 1, periodRun := 0, phaseRun := 0 }
    | some c =>
      let expected := match mod, t.last with
        | some m, _ => m
        | none, some l => l + t.since + 1
        | none, none => c
      let follows := match t.last with
        | some l => t.since == 0 && c == l + 1
        | none => false
      { t with
        got := none
        run := if follows && t.run != 0 then t.run + 1 else 1
        missed := 0
        bad := if c = expected then 0 else t.bad + 1
        last := some c
        since := 0
        periodRun := if follows && t.period == t.gotPeriod && t.run != 0 then t.periodRun + 1 else 1
        period := t.gotPeriod
        phaseRun := if -1000 ≤ t.gotPhase ∧ t.gotPhase ≤ 1000 then t.phaseRun + 1 else 0 }

/-- A port qualifies: valid beacons at the last 16 edges with consecutive counts (R29). -/
def Tracker.qualifies (t : Tracker) : Bool := decide (16 ≤ t.run)

/-- Health after an edge: lost by R38, gained by R29. -/
def Tracker.judge (t : Tracker) (mod : Option Nat) : Tracker :=
  if t.healthy then { t with healthy := decide (t.missed < 2 ∧ t.bad < 3) }
  else if t.qualifies then
    match mod with
    | some m => if t.last = some m then { t with healthy := true, bad := 0 } else t
    | none => { t with healthy := true, bad := 0 }
  else t

/-- The evidence of R41 over the last three edges. -/
def contradicted (log : List EdgeLog) : Bool :=
  match log with
  | [c, b, a] =>
    !a.healthy.isEmpty && [a, b, c].all fun e =>
      match (a.healthy.map fun n => (e.beacons.find? fun x => x.1 == n).map Prod.snd) with
      | some x :: r => r.all (fun y => y == some x) && x != e.count
      | _ => false
  | _ => false

/-- The reference is selected (R30, R38). -/
def State.selectRef (s : State) : State := match s.lowestRef with
  | some n =>
    let changed := s.get .REEL_STAT_REF_PORT 0 ≠ n ∧ s.ownCount = true
    let s := (s.put .REEL_STAT_REF_PORT 0 n).put .REEL_STAT_REF_VALID 0 1
    let s := { s with reel := { s.reel with reselect := 0 } }
    if changed then s.reelEvent .REEL_EVT_REF_CHANGE else s
  | none => s.put .REEL_STAT_REF_VALID 0 0

/-- A completed holdover's length (R52). -/
def State.endHoldover (s : State) : State :=
  if s.get .REEL_STAT_STATE 0 = 3 then
    (s.put .REEL_HOLD_LAST 0 (min 1024 (s.get .REEL_HOLD_CURRENT 0))).put .REEL_HOLD_CURRENT 0 0
  else s

/-- The tasks of a partition end by Reel loss: commands in execution with REEL_LOST, the others, held ones among them, with
ABORTED_TASK (R42, R220). -/
def State.reelAbort (s : State) (p : Nat) : State :=
  let had := (s.part p).run.task.isSome || (s.part p).run.next.isSome
  let executes := fun (c : Cmd) => c.began.isSome && (s.findCmd c.queue c.seq).isSome
  let s := s.abortTask p none (fun c => (if executes c then 0x4003 else 0x4000, 0)) none 0x4003 true
  let s := s.dropNext p (fun _ => (0x4000, 0)) true
  if had then s.partEvent .VFEVT_STAT_REEL_LOST p else s

/-- The state becomes LOST (R42, R43, R444); a pending period change is dropped (log entry 72). -/
def State.enterLost (s : State) (cause : Nat) : State :=
  let s := s.endHoldover
  let s := ((s.put .REEL_STAT_STATE 0 4).put .REEL_STAT_REF_VALID 0 0).put .REEL_STAT_CAUSE 0 cause
  let s := s.put .REEL_PERIOD_NEXT_VALID 0 0
  let s := { s with reel := { s.reel with resumed := false, wasLost := true, late := none, reselect := 0, verdict := 0, log := [] } }
  let s := s.reelEvent .REEL_EVT_LOST
  (List.range 16).foldl (fun s p => s.reelAbort p) s

/-- A holdover that ends with the counts agreeing (R40). -/
def State.exitHoldover (s : State) : State :=
  let s := s.endHoldover
  let s := { s.put .REEL_STAT_STATE 0 2 with reel := { s.reel with verdict := 0 } }
  s.selectRef.reelEvent .REEL_EVT_HOLDOVER_EXIT

/-- Holdover begins (R39). -/
def State.enterHoldover (s : State) : State :=
  let s := ((s.put .REEL_STAT_STATE 0 3).put .REEL_STAT_REF_VALID 0 0).put .REEL_HOLD_CURRENT 0 0
  ({ s with reel := { s.reel with verdict := 0, reselect := 0 } }).reelEvent .REEL_EVT_HOLDOVER_ENTER

/-- LOCKED at an edge: the reference's failure, the awaited selection, a forced selection (R30, R38, R39). -/
def State.edgeLocked (s : State) : State :=
  match s.lowestRef with
  | none => s.enterHoldover
  | some _ =>
    let s := if s.get .REEL_STAT_REF_VALID 0 = 1 ∧ s.refHealthy (s.get .REEL_STAT_REF_PORT 0) = false then
        { s.put .REEL_STAT_REF_VALID 0 0 with reel := { s.reel with reselect := 3 } }
      else s
    let s := { s with reel := { s.reel with reselect := s.reel.reselect - 1 } }
    if s.reel.request ∨ (s.get .REEL_STAT_REF_VALID 0 = 0 ∧ s.reel.reselect = 0) then s.selectRef else s

/-- One more edge of a holdover (R52). -/
def State.countHoldover (s : State) : State := s.put .REEL_HOLD_CURRENT 0 (min 1024 (s.get .REEL_HOLD_CURRENT 0 + 1))

/-- HOLDOVER at an edge: one more frame, and the judgement of R40, which takes effect at the next edge. -/
def State.edgeHoldover (s : State) (before : List Nat) : State :=
  let s := s.countHoldover
  let differ := (List.range 64).any fun n =>
    (s.get .REEL_REFSET_PORTS 0).testBit n && !before.contains n && (s.tracker n).qualifies && !(s.tracker n).healthy
  let v := if s.lowestRef.isSome ∧ s.get .REEL_HOLD_CURRENT 0 < 1024 then 1 else if differ then 2 else 0
  { s with reel := { s.reel with verdict := v } }

/-- The Reel unit at an edge, the count having advanced (R29, R37 to R41). Entering ACQUIRE and the first lock set no bit of
REEL_EVT and are not logged (log entry 71). -/
def State.edgeReel (s : State) : State :=
  let state := s.get .REEL_STAT_STATE 0
  let mod := if s.ownCount then some s.reelCount else none
  let before := (List.range 64).filter s.refHealthy
  let beacons := (List.range 64).filterMap fun n => if s.portUp n then (s.tracker n).got.map fun c => (n, c) else none
  let s := (List.range 64).foldl (fun (s : State) n => s.setTracker n ((s.tracker n).edge (s.portUp n) mod)) s
  let s := { s with reel := { s.reel with log := match mod with
    | some m => (⟨before, beacons, m⟩ :: s.reel.log).take 3
    | none => [] } }
  let lost41 := state == 2 && contradicted s.reel.log
  let s := (List.range 64).foldl (fun (s : State) n => s.setTracker n ((s.tracker n).judge mod)) s
  let s :=
    if lost41 then s.enterLost 3
    else if state = 3 ∧ s.reel.verdict = 2 then s.countHoldover.enterLost 2
    else if state = 3 ∧ s.reel.verdict = 1 ∧ s.lowestRef.isSome = true then s.countHoldover.exitHoldover
    else if state = 2 then s.edgeLocked
    else if state = 3 then s.edgeHoldover before
    else if s.lowestRef.isSome then s.put .REEL_STAT_STATE 0 1
    else s
  { s with reel := { s.reel with request := false } }

/-- The conditions of lock at this edge, and the reference (R35): in ACQUIRE the lowest-numbered healthy port, anew at each edge, with
REF_VALID 0 (log entry 71). -/
def State.lockPort (s : State) : Option Nat :=
  if s.atEdge && s.get .REEL_STAT_STATE 0 == 1 then
    match s.lowestRef with
    | some n =>
      let t := s.tracker n
      let need := max 16 (s.get .REEL_CFG_LOCK_FRAMES 0)
      if need ≤ t.run ∧ need ≤ t.periodRun ∧ 16 ≤ t.phaseRun ∧ t.last.isSome then some n else none
    | none => none
  else none

/-- Core cycles of the present frame, at its first cycle, with a period code; an emergency clock step takes a quarter of them
(R360). -/
def State.lenOf (s : State) (code : Nat) : Nat := match s.power.step with
  | some x => if x.quiet < 4 then cyclesOf code * 3 / 4 else cyclesOf code
  | none => cyclesOf code

/-- Lock with reference n: the count and the period are adopted (R35, R43, R444). -/
def State.lockOn (s : State) (n : Nat) : State :=
  let t := s.tracker n
  let s := match t.last with
    | some c => s.put .REEL_COUNT_COUNT 0 c
    | none => s
  let changed := s.get .REEL_STAT_PERIOD 0 ≠ t.period
  let relock := s.reel.wasLost && !s.reel.resumed
  let s := (((s.put .REEL_STAT_STATE 0 2).put .REEL_STAT_PERIOD 0 t.period).put .REEL_STAT_REF_PORT 0 n).put .REEL_STAT_REF_VALID 0 1
  let s := { s with clock := { s.clock with frameLen := s.lenOf t.period }, reel := { s.reel with log := [], reselect := 0 } }
  let s := if changed then s.reelEvent .REEL_EVT_PERIOD_CHANGE else s
  if relock then s.reelEvent .REEL_EVT_RELOCK else s

/-- LOCK (R35, R43). -/
def execLock (s : State) : Host.Outcome State Fault Refusal :=
  .next (match s.lockPort with
    | some n => s.lockOn n
    | none => s)

/-- HOLDOVER_LIMIT: the 1,024th edge of a holdover (R40). -/
def execHoldoverLimit (s : State) : Host.Outcome State Fault Refusal :=
  .next (if s.atEdge = true ∧ s.get .REEL_STAT_STATE 0 = 3 ∧ 1024 ≤ s.get .REEL_HOLD_CURRENT 0 then s.enterLost 1 else s)

/-- The tasks that a period change aborts (R44). -/
def State.periodAbort (s : State) (p : Nat) : State :=
  match (s.part p).run.task with
  | some t => match t.anchorAt with
    | some a => if a < s.now then s.abortTask p none (fun _ => (0x4000, 0)) none 0x4000 true else s
    | none => s
  | none => s

/-- The change frame's edge (R44). -/
def State.switchPeriod (s : State) : State :=
  let code := s.get .REEL_PERIOD_NEXT_CODE 0
  let s := (s.put .REEL_STAT_PERIOD 0 code).put .REEL_PERIOD_NEXT_VALID 0 0
  let s := { s with clock := { s.clock with frameLen := s.lenOf code } }
  let s := s.reelEvent .REEL_EVT_PERIOD_CHANGE
  (List.range 16).foldl (fun s p => s.periodAbort p) s

/-- A late announcement's edge has come (R44). -/
def State.lateDue (s : State) : Bool := match s.reel.late with
  | some f => decide (f ≤ s.clock.frameNo)
  | none => false

/-- PERIOD_CHANGE: the announced change frame's edge, or LOST after a late announcement (R44). -/
def execPeriodChange (s : State) : Host.Outcome State Fault Refusal :=
  .next (if s.atEdge = true ∧ s.ownCount = true then
    if s.lateDue then s.enterLost 4
    else if s.get .REEL_PERIOD_NEXT_VALID 0 = 1 ∧ s.get .REEL_PERIOD_NEXT_FRAME 0 = s.reelCount % 2 ^ 56 then s.switchPeriod
    else s
  else s)

/-- RESUME (R43): no effect unless LOCKED. -/
def execResume (s : State) : Host.Outcome State Fault Refusal :=
  .next (s.whenBooted (if s.get .REEL_STAT_STATE 0 = 2 then { s with reel := { s.reel with resumed := true } } else s))

/-- RESELECT (R30): a selection at the next edge. -/
def execReselect (s : State) : Host.Outcome State Fault Refusal :=
  .next (s.whenBooted { s with reel := { s.reel with request := true } })

end Sys2Proof.Machine
end

