-- ==== Sys2Proof/Machine/Wire.lean ====
section
/-! DEFINITION. The Wiern Stream Link below its frames: header and CRC-32 of a WSL frame (R242, R243), RS(544,514) over
10-bit symbols (R239), the lanes that carry the symbols, parity mode (R240, R241), and what the receiver makes of the
symbol errors of the channel (R239, R254, R255; log entry 79). -/

namespace Sys2Proof.Machine

/-- The 16 bytes of a header (Table 12-2). -/
def frameHeader (w : WslFrame) : Bytes :=
  natLE 1 (w.cls + 8 * nat01 w.short + 16 * w.version) ++ natLE 1 w.type ++ natLE 1 (w.payload.length / 64) ++ [0] ++
    natLE 4 w.dst ++ natLE 4 w.src ++ natLE 4 w.seq

/-- Header and words, the unused words zero: 80 words in a long frame, 8 in a short one (Table 12-1). -/
def frameBody (w : WslFrame) : Bytes := frameHeader w ++ fitBytes (if w.short then 512 else 5120) w.payload

/-- One bit of the CRC-32 of IEEE 802.3, in its reflected form. -/
def crcBit (c : Nat) : Nat := if c % 2 = 1 then (c / 2) ^^^ 0xEDB88320 else c / 2

/-- One byte of the CRC-32. -/
def crcByte (c : Nat) (b : Byte) : Nat := crcBit (crcBit (crcBit (crcBit (crcBit (crcBit (crcBit (crcBit (c ^^^ b.toNat))))))))

/-- The register of the CRC-32 after a list of bytes. -/
def crcFrom : Bytes → Nat → Nat
  | [], c => c
  | b :: r, 0 => crcFrom r (crcByte 0 b)
  | b :: r, c + 1 => crcFrom r (crcByte (c + 1) b)

/-- The CRC-32 of IEEE 802.3. -/
def crc32 (bs : Bytes) : Nat := crcFrom bs 0xFFFFFFFF ^^^ 0xFFFFFFFF

/-- The CRC-32 of a frame: over the header and every word (R242). -/
def frameCrc (w : WslFrame) : Nat := crc32 (frameBody w)

/-- A frame with its CRC-32. -/
def sealFrame (w : WslFrame) : WslFrame := { w with crc := frameCrc w }

/-- Codewords of a frame (Table 12-1). -/
def frameCodewords (w : WslFrame) : Nat := if w.short then 1 else 8

/-- The 514 message symbols of each codeword of a frame, zero-filled (Table 12-1; log entry 79). -/
def messageSymbols (w : WslFrame) (k : Nat) : List Nat :=
  let n := leNat (frameBody w ++ natLE 4 w.crc)
  (List.range 514).map fun i => n / 1024 ^ (514 * k + i) % 1024

/-- Doubling in the field of 1,024 elements of IEEE 802.3. -/
def gfDouble (x : Nat) : Nat := if 512 ≤ x then (2 * x) ^^^ 0x409 else 2 * x

/-- Multiplication in that field, by the n low bits of a. -/
def gfMul : Nat → Nat → Nat → Nat
  | 0, _, _ => 0
  | n + 1, a, b => (if a % 2 = 1 then b else 0) ^^^ gfDouble (gfMul n (a / 2) b)

/-- The generator polynomial of RS(544,514), its leading coefficient left out: the product of x + 2^i for i below 30. -/
def rsGenerator : List Nat :=
  ((List.range 30).foldl (fun (a : Nat × List Nat) _ =>
    (gfDouble a.1, List.zipWith (· ^^^ ·) (a.2 ++ [0]) (0 :: a.2.map (gfMul 10 a.1)))) (1, [1])).2.drop 1

/-- The 30 parity symbols of a message (R239). -/
def rsParity (msg : List Nat) : List Nat :=
  msg.foldl (fun r m =>
    let q := m ^^^ r.headD 0
    List.zipWith (fun x g => x ^^^ gfMul 10 q g) (r.drop 1 ++ [0]) rsGenerator) (List.replicate 30 0)

/-- A codeword: 544 symbols. -/
def codeword (w : WslFrame) (k : Nat) : List Nat := messageSymbols w k ++ rsParity (messageSymbols w k)

/-- The symbol on lane l in symbol time t of codeword k (R240, R241): `map` gives the lane of each logical lane, and in parity
mode L16 carries the XOR of all. -/
def laneSymbol (w : WslFrame) (map : List Nat) (parity : Bool) (k t l : Nat) : Nat :=
  let row := ((codeword w k).drop (t * map.length)).take map.length
  match map.findIdx? (· == l) with
  | some j => row.getD j 0
  | none => if parity && l == 16 then row.foldl (· ^^^ ·) 0 else 0

/-- The channel's error on lane l in symbol time t of codeword k. -/
def laneError (w : WslFrame) (k t l : Nat) : Nat :=
  w.errors.foldl (fun a e => if e.codeword = k ∧ e.time = t ∧ e.lane = l then a ^^^ e.value else a) 0

/-- The error of a lane's symbol as the decoder sees it: that of an erased lane's symbol, which is rebuilt from the other 16
lanes, is the XOR of theirs (R255). -/
def seenError (w : WslFrame) (erased : Option Nat) (k t l : Nat) : Nat :=
  if erased = some l then (List.range 17).foldl (fun a x => if x = l then a else a ^^^ laneError w k t x) 0
  else laneError w k t l

/-- The lanes of the wrong symbols of codeword k, one entry for each symbol. -/
def wrongSymbols (w : WslFrame) (map : List Nat) (erased : Option Nat) (k : Nat) : List Nat :=
  let times := ((w.errors.filter fun e => e.codeword == k && decide (e.time < 544 / map.length)).map SymErr.time).dedup
  times.flatMap fun t => map.filter fun l => seenError w erased k t l != 0

/-- The wrong symbols of each codeword of a frame. -/
def wrongLanes (w : WslFrame) (map : List Nat) (erased : Option Nat) : List (List Nat) :=
  (List.range (frameCodewords w)).map (wrongSymbols w map erased)

/-- RS(544,514) corrects up to 15 wrong symbols (R239). -/
def decodes (wrong : List Nat) : Bool := decide (wrong.length ≤ 15)

end Sys2Proof.Machine
end

