-- ==== Sys2Proof/Machine/Tether.lean ====
section
/-! DEFINITION. Tether ports: lanes, the link check, class 0 messages, edge slots, training, port control and laser
modules (R239 to R267). -/

namespace Sys2Proof.Machine

/-- Lane states as the register packs them (R267). -/
def packLanes (l : List Nat) : Nat := (enumFrom 0 l).foldl (fun a x => a + x.2 * 8 ^ x.1) 0

/-- The direction of a port. -/
def Port.dir (x : Port) : Dir → PortDir
  | .rx => x.rx
  | .tx => x.tx

/-- A direction of port n takes new lanes, with its registers (R240, R253, R267): `width8`, and the logical lane on L16. -/
def State.setDir (s : State) (n : Nat) (d : Dir) (v : PortDir) (width8 : Bool) (subst : Nat) : State :=
  match d with
  | .rx => (((s.modPort n fun x => { x with rx := v }).put .TETH_LANE_RX_LANES n (packLanes v.lanes)).put
      .TETH_STAT_RX_WIDTH n (nat01 width8)).put .TETH_STAT_RX_SUBST n subst
  | .tx => (((s.modPort n fun x => { x with tx := v }).put .TETH_LANE_TX_LANES n (packLanes v.lanes)).put
      .TETH_STAT_TX_WIDTH n (nat01 width8)).put .TETH_STAT_TX_SUBST n subst

/-- A direction runs at width 8. -/
def State.width8 (s : State) (n : Nat) (d : Dir) : Bool := match d with
  | .rx => s.get .TETH_STAT_RX_WIDTH n == 1
  | .tx => s.get .TETH_STAT_TX_WIDTH n == 1

/-- The logical lane that L16 carries, 0x1F for none. -/
def State.subst (s : State) (n : Nat) (d : Dir) : Nat := match d with
  | .rx => s.get .TETH_STAT_RX_SUBST n
  | .tx => s.get .TETH_STAT_TX_SUBST n

/-- Lane l is healthy: unused, data or parity (R253). -/
def healthyLane (v : PortDir) (l : Nat) : Bool := decide (v.lanes.getD l 4 < 3)

/-- The eight lowest-numbered healthy lanes (R240, R257). -/
def PortDir.lowest8 (v : PortDir) : List Nat := ((List.range 17).filter (healthyLane v)).take 8

/-- A set of lanes as a mask. -/
def maskOf (l : List Nat) : Nat := l.foldl (fun a i => a + 2 ^ i) 0

/-- The node address is forgotten, and a port in training awaits another ASSIGN (R251). -/
def State.forgetNode (s : State) : State :=
  (List.range 64).foldl (fun (s : State) k => (s.put .TETH_NODE_NODE k 0).modPort k fun x => { x with assigned := false }) s

/-- A port's state changes (R252; log entry 71); when the last port that was UP leaves UP, the node address is forgotten (R251). -/
def State.setPortState (s : State) (n v : Nat) : State :=
  let was := s.portUp n
  let s := s.put .TETH_STAT_STATE n v
  if was && (List.range 64).all fun k => !s.portUp k then s.forgetNode else s

/-- A port goes DOWN with a cause (R252, R267). -/
def State.portDown (s : State) (n cause : Nat) : State :=
  ((s.setPortState n 6).put .TETH_STAT_DOWN_CAUSE n cause).tethEvent .TETH_EVT_DOWN n

/-- A message of training itself: DISCOVER, RETRAIN_REQ, DELAY_PROBE. -/
def trainingMsg (m : Msg) : Bool := m.type == 1 || m.type == 7 || m.type == 0x0A

/-- A port before a training: other messages that wait keep their places, and those not acknowledged count their resends anew
(R250, R261, R262). -/
def Port.untrained (x : Port) : Port :=
  { x with
    trained := false
    assigned := false
    retrain := none
    store := []
    queue := x.queue.filter fun m => !trainingMsg m && !m.resend
    sent := (x.sent.filter fun t => !trainingMsg t.msg).map fun t => { t with resends := 0 } }

/-- Training begins (R252, R262). -/
def State.startTraining (s : State) (n : Nat) : State :=
  let s := if s.portTalks n then s.tethInc .TETH_LINK_CNT_RETRAINS n 1 else s
  (s.setPortState n 2).modPort n fun x => { x.untrained with attempts := 0, rehearsal := false }

/-- The laser module of a port: E(n / 4). -/
def laserOf (n : Nat) : Nat := n / 4

/-- The state of the laser module of port n's group (R267: the register of record 4e). -/
def State.laserState (s : State) (e : Nat) : Nat := s.get .TETH_LASER_STATE (4 * e)

/-- A DARK port trains if its ENABLE is set, its laser is ready and the settings are readable (R252, R264, R409). -/
def State.tryTrain (s : State) (n : Nat) : State :=
  if s.get .TETH_STAT_STATE n = 1 ∧ s.get .TETH_CFG_ENABLE n = 1 ∧ s.laserState (laserOf n) = 4 ∧
     s.get .GCTL_FW_STAT_UNREADABLE 0 = 0 then s.startTraining n else s

/-- The four ports of a laser module. -/
def laserPorts (e : Nat) : List Nat := [4 * e, 4 * e + 1, 4 * e + 2, 4 * e + 3]

/-- A laser module's state changes, with the LASER event on its four ports (R267). -/
def State.setLaserState (s : State) (e v : Nat) : State :=
  if s.laserState e = v then s
  else (laserPorts e).foldl (fun (s : State) n => s.tethEvent .TETH_EVT_LASER n) (s.put .TETH_LASER_STATE (4 * e) v)

/-- The lane whose symbols a direction rebuilds (R253, R255). -/
def PortDir.erased (v : PortDir) : Option Nat := (List.range 17).find? fun l => v.lanes.getD l 4 == 3

/-- The wrong symbols of each codeword of a frame at port n, by lane (R239, R240, R255). -/
def State.wrongAt (s : State) (n : Nat) (w : WslFrame) : List (List Nat) := wrongLanes w (s.port n).rx.map (s.port n).rx.erased

/-- Codewords with corrected symbols are counted, and the symbols of each lane (R254, R260, R267). -/
def State.countCorrected (s : State) (n : Nat) (wrong : List (List Nat)) : State :=
  let fixed := wrong.filter fun x => !x.isEmpty && decodes x
  if fixed.isEmpty then s
  else (s.tethInc .TETH_FEC_CORRECTED n fixed.length).modPort n fun x => { x with
    corrected := x.corrected + fixed.length
    laneErrs := fixed.flatten.foldl (fun t l => Tab.put 0 t l (Tab.get 0 t l + 1)) x.laneErrs }

/-- Uncorrectable codewords are counted; those of frames that await a narrowing not in SINCE_TRAIN (R257, R260, R261). -/
def State.countUncorr (s : State) (n : Nat) (wrong : List (List Nat)) (since : Bool) : State :=
  let k := (wrong.filter fun x => !decodes x).length
  if k = 0 then s
  else
    let s := s.tethInc .TETH_FEC_UNCORR_TOTAL n k
    if since then s.tethInc .TETH_UNCORR_SINCE_TRAIN n k else s

/-- A frame passes the link check (R244). -/
def State.linkOk (s : State) (n : Nat) (w : WslFrame) : Bool :=
  w.version == 1 && w.cls != 5 && w.cls != 6 && (w.dst == s.get .TETH_NODE_NODE n || (w.cls == 1 && w.dst == 0xFFFFFFFF)) &&
    (s.wrongAt n w).all decodes && w.crc == frameCrc w

/-- The link check of a received WSL frame with the counts it makes (R244, R257, R260, R261; log entry 79): whether the frame
stands. -/
def State.linkCheck (s : State) (n : Nat) (w : WslFrame) : Bool × State :=
  let wrong := s.wrongAt n w
  let ok := s.linkOk n w
  let data := decide (2 ≤ w.cls ∧ w.cls ≤ 4)
  let lost := (s.port n).rx.lossy && !w.short && (data || !wrong.all decodes)
  let s := (s.countCorrected n wrong).countUncorr n wrong (!lost)
  if lost then (false, s.tethInc .TETH_UNCORR_DISCARD_NARROW n 1)
  else if !ok then (false, s.modPort n fun x => { x with discarded := x.discarded + 1 })
  else
    let stands := (s.portUp n || (!data && s.portTalks n)) && !(data && s.get .REEL_STAT_STATE 0 == 4)
    let s := if data then s.modPort n fun x => { x with rx := { x.rx with seq := (w.seq + 1) % 2 ^ 32 } } else s
    (stands, s)

/-- Short frames pass at port n: it is UP or STOPPED, or its lanes are trained (Table 12-7, R262). -/
def State.slotOpen (s : State) (n : Nat) : Bool :=
  s.portTalks n || (s.get .TETH_STAT_STATE n == 2 && (s.port n).trained)

/-- WSL_FRAME: the link check of a frame (R244); what the frame carries is a row of its own. In LOOPBACK the frame stands for the test
pattern, and only error counts advance (R263). -/
def execWslFrame (n : Fin 64) (w : WslFrame) (s : State) : Host.Outcome State Fault Refusal :=
  .next (if s.slotOpen n.val then (s.linkCheck n.val w).2
  else if s.get .TETH_STAT_STATE n.val = 5 then (s.countCorrected n.val (s.wrongAt n.val w)).countUncorr n.val (s.wrongAt n.val w) true
  else s)

/-- A class 0 message is accepted once; it is acknowledged each time (R250). -/
def State.acceptMsg (s : State) (n : Nat) (m : Msg) : Bool × State :=
  let x := s.port n
  let s := if m.type = 3 then s else s.modPort n fun x => { x with acks := x.acks ++ [m.seq] }
  if x.seen.contains m.seq then (false, s)
  else (true, s.modPort n fun x => { x with seen := m.seq :: x.seen })

/-- A port that exchanges messages: UP, STOPPED or TRAINING. -/
def State.portHears (s : State) (n : Nat) : Bool := s.portTalks n || s.get .TETH_STAT_STATE n == 2

/-- A row that takes a class 0 message of one type. -/
def State.onMsg (s : State) (n : Nat) (m : Msg) (type : Nat) (f : State → State) : State :=
  if s.portHears n && m.type == type then
    let a := s.acceptMsg n m
    if a.1 then f a.2 else a.2
  else s

/-- ASSIGN (R251): body 8-11 the module's address, 12-15 the server's. -/
def State.assignNode (s : State) (n : Nat) (m : Msg) : State :=
  let node := u32 m.body 0
  let mine := s.get .TETH_NODE_NODE n
  if mine = 0 ∨ mine = node then
    let s := (List.range 64).foldl (fun (s : State) k => s.put .TETH_NODE_NODE k node) s
    (s.put .TETH_NODE_PEER n (u32 m.body 4)).modPort n fun x => { x with assigned := true }
  else (s.portDown n 3).tethEvent .TETH_EVT_ADDR_MISMATCH n

def execAssign (n : Fin 64) (m : Msg) (s : State) : Host.Outcome State Fault Refusal :=
  .next (s.onMsg n.val m 2 fun s => s.assignNode n.val m)

/-- ACK (R250): the message acknowledged waits no more. -/
def execAck (n : Fin 64) (m : Msg) (s : State) : Host.Outcome State Fault Refusal :=
  .next (s.onMsg n.val m 3 fun s => s.modPort n.val fun x => { x with
    sent := x.sent.filter fun t => t.msg.seq != u32 m.body 0
    queue := x.queue.filter fun t => !(t.resend && t.seq == u32 m.body 0) })

/-- The first message of a port that the second edge slot after its sending has left unacknowledged, and whose resend does not yet
wait (R250). -/
def Port.overdue (x : Port) (frameNo : Nat) : Option Sent :=
  x.sent.find? fun t => decide (t.edge + 2 ≤ frameNo) && !(x.queue.any fun m => m.resend && m.seq == t.msg.seq)

/-- MESSAGE_RESEND (R250): a message not acknowledged by the second edge slot goes again; after three resends the port
retrains. -/
def execMessageResend (n : Fin 64) (s : State) : Host.Outcome State Fault Refusal :=
  .next (match (if s.slotOpen n.val then (s.port n.val).overdue s.clock.frameNo else none) with
    | none => s
    | some t =>
      if 3 ≤ t.resends then s.startTraining n.val
      else s.modPort n.val fun x => { x with queue := { t.msg with resend := true } :: x.queue })

/-- A direction without parity loses a lane: it is narrowed, or the port goes DOWN (R257, R258). -/
def State.narrowRx (s : State) (n : Nat) : State :=
  let v := (s.port n).rx
  if ((List.range 17).filter (healthyLane v)).length < 8 then s.portDown n 1
  else if s.get .TETH_CFG_NARROW_EN n = 0 then s.portDown n 5
  else
    let f := s.reelCount + 3
    let s := s.modPort n fun x => { x with rx := { x.rx with narrow := some (maskOf v.lowest8, f, x.rx.seq), lossy := true, substitute := none } }
    s.queueMsg n 6 (natLE 4 (maskOf v.lowest8) ++ natLE 4 v.seq ++ natLE 8 f)

/-- A receive lane of a port that is up is lost (R254 to R258). -/
def State.loseLane (s : State) (n l : Nat) : State :=
  let v := (s.port n).rx
  let old := v.lanes.getD l 4
  if 3 ≤ old then s
  else
    let s := (s.tethInc .TETH_LINK_CNT_LANES_LOST n 1).tethEvent .TETH_EVT_LANE_LOST n
    let w8 := s.width8 n .rx
    let sub := s.subst n .rx
    let erased := v.lanes.contains 3
    let set := fun (st : Nat) (s : State) => s.setDir n .rx { v with lanes := v.lanes.set l st } w8 sub
    if old = 0 then set 4 s
    else if old = 2 then
      let s := set 4 s
      if erased then s.narrowRx n else s
    else if v.lanes.getD 16 4 = 2 ∧ erased = false ∧ w8 = false then
      (set 3 s).queueMsg n 4 (natLE 1 l)
    else (set 4 s).narrowRx n

/-- Lane l has more corrected symbols in this frame than the limit allows (R254). -/
def State.laneNoisy (s : State) (n l : Nat) : Bool :=
  decide (16 * s.get .TETH_CFG_LANE_ERR_LIMIT n < Tab.get 0 (s.port n).laneErrs l)

/-- LANE_LOST (R254): by loss of signal or clock lock, or by the count of corrected symbols. -/
def execLaneLost (n : Fin 64) (l : Fin 17) (signal : Bool) (s : State) : Host.Outcome State Fault Refusal :=
  .next (if s.portTalks n.val && (signal || s.laneNoisy n.val l.val) then s.loseLane n.val l.val else s)

/-- LANE_FAIL from the peer: a data lane of our transmit direction, in parity mode, is lost; LANE_SWITCH answers (R256). Its switch
Reel Count is named again as the answer leaves. -/
def State.answerLaneFail (s : State) (n : Nat) (m : Msg) : State :=
  let l := u8 m.body 0
  let v := (s.port n).tx
  let f := s.reelCount + 3
  if l < 16 ∧ v.lanes.getD 16 4 = 2 then
    let s := s.setDir n .tx { v with lanes := v.lanes.set l 3, substitute := some (l, f) } (s.width8 n .tx) (s.subst n .tx)
    s.queueMsg n 5 (natLE 8 l ++ natLE 8 f)
  else s

def execLaneFail (n : Fin 64) (m : Msg) (s : State) : Host.Outcome State Fault Refusal :=
  .next (s.onMsg n.val m 4 fun s => s.answerLaneFail n.val m)

/-- LANE_SWITCH from the peer: our receive direction moves a logical lane to L16 (R256). -/
def execLaneSwitch (n : Fin 64) (m : Msg) (s : State) : Host.Outcome State Fault Refusal :=
  .next (s.onMsg n.val m 5 fun s => s.modPort n.val fun x =>
    { x with rx := { x.rx with substitute := some (u8 m.body 0, u64 m.body 8) } })

/-- SUBSTITUTION at the switch edge: L16 carries the lost logical lane, the lost lane is FAILED, parity ends (R256). -/
def State.substitute (s : State) (n : Nat) (d : Dir) : State :=
  let v := (s.port n).dir d
  match v.substitute with
  | some (l, f) =>
    if f ≤ s.reelCount ∧ s.portTalks n = true then
      let lanes := (v.lanes.set 16 1).set l 4
      ((s.setDir n d { v with lanes := lanes, map := v.map.set l 16, substitute := none } (s.width8 n d) l).tethInc
        .TETH_LINK_CNT_SUBSTITUTIONS n 1).tethEvent .TETH_EVT_SUBSTITUTED n
    else s
  | none => s

def execSubstitution (n : Fin 64) (d : Dir) (s : State) : Host.Outcome State Fault Refusal :=
  .next (s.substitute n.val d)

/-- NARROW from the peer: our transmit direction narrows at the named edge (R257). -/
def execNarrow (n : Fin 64) (m : Msg) (s : State) : Host.Outcome State Fault Refusal :=
  .next (s.onMsg n.val m 6 fun s => s.modPort n.val fun x =>
    { x with tx := { x.tx with narrow := some (bits (u32 m.body 0) 16 0, u64 m.body 8, u32 m.body 4) } })

/-- Lanes of a direction after narrowing to a mask, which names the eight lowest-numbered healthy lanes: a lane below the last of
them that it does not name is lost (R240, R253, R257). -/
def narrowLanes (v : PortDir) (mask : Nat) : List Nat :=
  (List.range 17).map fun l => if mask.testBit l then 1 else if healthyLane v l && decide (mask < 2 ^ l) then 0 else 4

/-- The lanes of a mask, in ascending order. -/
def lanesOf (mask : Nat) : List Nat := (List.range 17).filter mask.testBit

/-- A WSL frame leaves on the lanes of port n's transmit direction (R240, R241). -/
def State.sendOn (s : State) (n : Nat) (w : WslFrame) : State :=
  s.send (.frame n w (s.port n).tx.map ((s.port n).tx.lanes.getD 16 4 == 2))

/-- Frames of classes 2 to 4 may leave at port n: it is UP and the Reel is not LOST (R42, R248, R261). -/
def State.dataFlows (s : State) (n : Nat) : Bool := s.portUp n && s.get .REEL_STAT_STATE 0 != 4

/-- The frames of the last 64 µs from a SEQ on leave again (R257). -/
def State.resendFrom (s : State) (n q : Nat) : State :=
  if s.dataFlows n then
    ((s.port n).store.filter fun x => decide (s.now ≤ x.1 + 102400) && decide ((x.2.seq + 2 ^ 32 - q) % 2 ^ 32 < 2 ^ 31)).foldl
      (fun (s : State) x => s.sendOn n x.2) s
  else s

/-- NARROW_SWITCH: both ends change to width 8; the transmitter resends from the named SEQ (R257). -/
def State.narrowSwitch (s : State) (n : Nat) (d : Dir) : State :=
  let v := (s.port n).dir d
  match v.narrow with
  | some (mask, f, q) =>
    if f ≤ s.reelCount ∧ s.portTalks n = true then
      let v' := { v with lanes := narrowLanes v mask, map := lanesOf mask, narrow := none, lossy := false, substitute := none }
      let s := ((s.setDir n d v' true 0x1F).tethInc .TETH_LINK_CNT_NARROWINGS n 1).tethEvent .TETH_EVT_NARROWED n
      match d with
      | .rx => s
      | .tx => s.resendFrom n q
    else s
  | none => s

def execNarrowSwitch (n : Fin 64) (d : Dir) (s : State) : Host.Outcome State Fault Refusal :=
  .next (s.narrowSwitch n.val d)

/-- A long WSL frame of classes 2 to 4 leaves port n; the transmitter keeps those of the last 64 µs (R243, R257). -/
def State.sendFrame (s : State) (n cls type : Nat) (payload : Bytes) : State :=
  if s.dataFlows n = false then s
  else
    let w := sealFrame ⟨[], 0, cls, false, 1, type, s.get .TETH_NODE_PEER n, s.get .TETH_NODE_NODE n, (s.port n).tx.seq, payload⟩
    (s.modPort n fun x => { x with
      tx := { x.tx with seq := (x.tx.seq + 1) % 2 ^ 32 }
      store := (x.store.filter fun k => decide (s.now ≤ k.1 + 102400)) ++ [(s.now, w)] }).sendOn n w

/-- The idle long frame that a transmitter with nothing to send sends (R242, R243; log entry 79). -/
def State.idleFrame (s : State) (n : Nat) : WslFrame :=
  sealFrame ⟨[], 0, 7, false, 1, 0, s.get .TETH_NODE_PEER n, s.get .TETH_NODE_NODE n, (s.port n).tx.seq, []⟩

/-- A message of many words, in frames of at most 80 words (R242). -/
def State.sendWords (s : State) (n cls type : Nat) (bytes : Bytes) : State :=
  let padded := bytes ++ List.replicate ((64 - bytes.length % 64) % 64) 0
  (chunks 5120 (padded.length / 5120 + 1) padded).foldl (fun (s : State) c => s.sendFrame n cls type c) s

/-- UNCORR_LIMIT (R261). -/
def execUncorrLimit (n : Fin 64) (s : State) : Host.Outcome State Fault Refusal :=
  let lim := s.get .TETH_CFG_UNCORR_LIMIT n.val
  .next (if s.portUp n.val = true ∧ lim ≠ 0 ∧ lim ≤ s.get .TETH_UNCORR_SINCE_TRAIN n.val then
    let before := ((s.port n.val).queue.filter fun m => !m.resend).map Msg.seq
    let s := ((s.setPortState n.val 4).tethEvent .TETH_EVT_STOPPED n.val).queueMsg n.val 7 (natLE 1 0)
    s.modPort n.val fun x => { x with retrain := some (s.now + 3200, before) }
  else s)

/-- RETRAIN_REQ from the peer: training begins (R261, R262; log entry 14). -/
def execRetrainReq (n : Fin 64) (m : Msg) (s : State) : Host.Outcome State Fault Refusal :=
  .next (s.onMsg n.val m 7 fun s => if s.portTalks n.val then s.startTraining n.val else s)

/-- A retraining that has come due: the messages queued before it have gone, or its latest cycle has come (R261). -/
def State.retrainDue (s : State) (n : Nat) : State := match (s.port n).retrain with
  | some (t, before) =>
    if s.portTalks n && (decide (t ≤ s.now) || !((s.port n).queue.any fun m => !m.resend && before.contains m.seq)) then
      s.startTraining n
    else s
  | none => s

/-- Lanes and width after training found the healthy lanes of a direction (R262). -/
def trainedDir (mask : Nat) (v : PortDir) : PortDir × Bool × Nat :=
  let ok := (List.range 17).filter mask.testBit
  let base : PortDir := { PortDir.init with seq := v.seq }
  if ok.length = 17 then ({ base with lanes := List.replicate 16 1 ++ [2] }, false, 0x1F)
  else if ok.length = 16 then
    match (List.range 17).find? fun l => !mask.testBit l with
    | some l => ({ base with lanes := (List.replicate 17 1).set l 4, map := base.map.set l 16 }, false, if l = 16 then 0x1F else l)
    | none => (base, false, 0x1F)
  else
    let use := ok.take 8
    ({ base with
      lanes := (List.range 17).map fun l => if use.contains l then 1 else if ok.contains l then 0 else 4
      map := use }, true, 0x1F)

/-- TRAINING finds the healthy lanes, sets the widths and sends DISCOVER and DELAY_PROBE (R251, R262). -/
def State.trainLanes (s : State) (n rx tx : Nat) : State :=
  let x := s.port n
  let r := trainedDir rx x.rx
  let t := trainedDir tx x.tx
  let s := (s.setDir n .rx { r.1 with seq := 0 } r.2.1 r.2.2).setDir n .tx { t.1 with seq := 0 } t.2.1 t.2.2
  if ((List.range 17).filter rx.testBit).length < 8 ∨ ((List.range 17).filter tx.testBit).length < 8 then s.portDown n 1
  else
    ((s.modPort n fun x => { x.untrained with trained := true }).queueMsg n 1
      (natLE 6 (s.get .ID_IDENTITY_PID 0) ++ natLE 1 n ++ [0xA2])).queueMsg n 0x0A (natLE 8 (625 * s.now))

def execTraining (n : Fin 64) (rx tx : BitVec 17) (s : State) : Host.Outcome State Fault Refusal :=
  let s := if s.get .TETH_STAT_STATE n.val = 4 then s.retrainDue n.val else s
  .next (if s.get .TETH_STAT_STATE n.val = 2 then s.trainLanes n.val rx.toNat tx.toNat else s)

/-- The link delay that a DELAY_REPLY gives: half of the round trip less the server's turnaround, in ps (R262). -/
def replyDelay (m : Msg) (arrival : Nat) : Nat := (arrival - u64 m.body 0 - u32 m.body 8) / 2

/-- TRAINING_DONE: with the DELAY_REPLY the link delay is measured, and the port enters UP at a frame edge (R249, R262). -/
def execTrainingDone (n : Fin 64) (m : Msg) (arrival : Nat) (s : State) : Host.Outcome State Fault Refusal :=
  let x := s.port n.val
  .next (if s.atEdge = true ∧ s.get .TETH_STAT_STATE n.val = 2 ∧ x.trained = true ∧ x.assigned = true then
    s.onMsg n.val m 0x0B fun s =>
      (((s.setPortState n.val 3).put .TETH_DELAY_DELAY n.val (replyDelay m arrival)).put .TETH_UNCORR_SINCE_TRAIN n.val 0).tethEvent
        .TETH_EVT_RETRAINED n.val
  else s)

/-- TRAINING_TIMEOUT: the port trains again; after three failed attempts in a row it goes DOWN (R262). -/
def execTrainingTimeout (n : Fin 64) (s : State) : Host.Outcome State Fault Refusal :=
  let a := (s.port n.val).attempts + 1
  .next (if s.get .TETH_STAT_STATE n.val = 2 then
    if 3 ≤ a then s.portDown n.val 2
    else s.modPort n.val fun x => { x.untrained with attempts := a }
  else s)

/-- Register offset of TETH[n]_CTL in PF BAR0, for the logbook. -/
def tethCtlOffset (n : Nat) : Nat := Reg.TETH_CTL.base + n * 0x400

/-- A port action waits for the next edge, if the port's state allows it (R263). -/
def State.portAction (s : State) (n a : Nat) (allowed : Bool) : State :=
  if allowed then s.modPort n fun x => { x with action := x.action ++ [a] } else s.ignored (tethCtlOffset n)

/-- ONLINE: from DARK, LOOPBACK or DOWN. -/
def execOnline (n : Fin 64) (s : State) : Host.Outcome State Fault Refusal :=
  let st := s.get .TETH_STAT_STATE n.val
  .next (s.whenBooted (s.portAction n.val 1 (st == 1 || st == 5 || st == 6)))

/-- LOOPBACK: from DARK. -/
def execLoopback (n : Fin 64) (s : State) : Host.Outcome State Fault Refusal :=
  .next (s.whenBooted (s.portAction n.val 2 (s.get .TETH_STAT_STATE n.val == 1)))

/-- OFFLINE: from any state but OFF. -/
def execOffline (n : Fin 64) (s : State) : Host.Outcome State Fault Refusal :=
  .next (s.whenBooted (s.portAction n.val 3 (s.get .TETH_STAT_STATE n.val != 0)))

/-- RETRAIN: from UP or STOPPED. -/
def execRetrain (n : Fin 64) (s : State) : Host.Outcome State Fault Refusal :=
  .next (s.whenBooted (s.portAction n.val 4 (s.portTalks n.val)))

/-- The host's RETRAIN at its edge: RETRAIN_REQ waits for the edge slot, behind which training begins (R249, R263; log entry 79). -/
def State.hostRetrain (s : State) (n : Nat) : State :=
  if s.portTalks n then (s.queueMsg n 7 (natLE 1 1)).modPort n fun x => { x with retrain := some (s.now, []) } else s

/-- A port action at its edge (R263, R265): 1 ONLINE, 2 LOOPBACK, 3 OFFLINE, 4 RETRAIN, 5 the DARK of a swap. -/
def State.doAction (s : State) (n a : Nat) : State :=
  if a = 1 then
    if s.laserState (laserOf n) = 4 ∧ s.get .GCTL_FW_STAT_UNREADABLE 0 = 0 then s.startTraining n else s.setPortState n 1
  else if a = 2 then s.setPortState n 5
  else if a = 4 then s.hostRetrain n
  else if s.get .TETH_STAT_STATE n = 0 then s else s.setPortState n 1

/-- Every port's actions at an edge. -/
def State.portActions (s : State) : State :=
  (List.range 64).foldl (fun (s : State) n =>
    if (s.port n).action.isEmpty then s
    else
      let l := (s.port n).action
      l.foldl (fun s a => s.doAction n a) (s.modPort n fun x => { x with action := [] })) s

/-- PORT_ENABLE (R252): ENABLE is set; a DARK port with its laser ready trains. -/
def execPortEnable (n : Fin 64) (s : State) : Host.Outcome State Fault Refusal :=
  .next (s.whenBooted ((s.put .TETH_CFG_ENABLE n.val 1).tryTrain n.val))

/-- The echo word of an edge slot (Table 12-3): the module's own count, its period, the time of the first symbol (log
entry 15). -/
def State.echo (s : State) : Bytes × State :=
  let d := s.draw
  (fitBytes 64 (natLE 8 s.reelCount ++ natLE 1 (s.get .REEL_STAT_PERIOD 0) ++ List.replicate 15 0 ++ natLE 4 (d.1 % 27201)), d.2)

/-- The 64 bytes of a message (R249). -/
def msgWord (m : Msg) : Bytes := natLE 1 m.type ++ natLE 1 (nat01 m.resend) ++ natLE 1 m.port ++ [0] ++ natLE 4 m.seq ++ fitBytes 56 m.body

/-- A message as it leaves: LANE_SWITCH and NARROW name their sending edge + 2, a DELAY_PROBE the time (R249, R256, R257). -/
def stampMsg (reel now : Nat) (m : Msg) : Msg :=
  if (m.type = 5 ∨ m.type = 6) ∧ m.resend = false then { m with body := m.body.take 8 ++ natLE 8 (reel + 2) ++ m.body.drop 16 }
  else if m.type = 0x0A then { m with body := natLE 8 (625 * now) ++ m.body.drop 8 }
  else m

/-- What a port remembers of the messages that leave: when, and the switch edges that they name (R250, R256, R257). -/
def Port.gone (x : Port) (msgs : List Msg) (frameNo reel : Nat) : Port :=
  let fresh := msgs.filter fun m => !m.resend
  let again := (msgs.filter fun m => m.resend).map Msg.seq
  { x with
    sent := (x.sent.map fun t => if again.contains t.msg.seq then { t with edge := frameNo, resends := t.resends + 1 } else t) ++
      fresh.map fun m => ⟨m, frameNo, 0⟩
    tx := if fresh.any fun m => m.type == 5 then { x.tx with substitute := x.tx.substitute.map fun v => (v.1, reel + 2) } else x.tx
    rx := if fresh.any fun m => m.type == 6 then { x.rx with narrow := x.rx.narrow.map fun v => (v.1, reel + 2, v.2.2) } else x.rx }

/-- The messages of one edge slot: ACKs first, then the queue, at most seven (R250). -/
def State.slotMessages (s : State) (n : Nat) : List Msg × State :=
  let x := s.port n
  let acks := (enumFrom x.msgSeq (x.acks.take 7)).map fun q => (⟨3, false, n, q.1 % 2 ^ 32, fitBytes 56 (natLE 4 q.2)⟩ : Msg)
  let msgs := (x.queue.take (7 - acks.length)).map (stampMsg s.reelCount s.now)
  (acks ++ msgs, s.setPort n ({ x with
    acks := x.acks.drop 7
    msgSeq := x.msgSeq + acks.length
    queue := x.queue.drop (7 - acks.length) }.gone msgs s.clock.frameNo s.reelCount))

/-- The edge slot of one port: a short frame whose word 0 is the echo and whose words 1 to 7 are messages (R243, R245). -/
def State.edgeSlot (s : State) (n : Nat) : State :=
  if s.slotOpen n then
    let e := s.echo
    let m := e.2.slotMessages n
    let s := m.2
    (s.sendOn n (sealFrame ⟨[], 0, 1, true, 1, 1, s.get .TETH_NODE_PEER n, s.get .TETH_NODE_NODE n, (s.port n).tx.seq,
      e.1 ++ m.1.flatMap msgWord⟩)).retrainDue n
  else s

/-- The records that the mirror may send: those of earlier cycles, and what then stays (R337, R340). -/
def PartJournal.ready (j : PartJournal) (now : Nat) : List Bytes × PartJournal := match j.group with
  | some g => if g.cycle = now then (g.mirror, { j with mirror := j.mirror.drop g.mirror.length, group := some { g with mirror := [] } })
    else (j.mirror, { j with mirror := [] })
  | none => (j.mirror, { j with mirror := [] })

/-- The journal records of a mirror leave in class 4, TYPE 1 (R340). -/
def State.mirrorFlush (s : State) (p : Nat) : State :=
  let j := (s.part p).journal
  if s.get .PART_JRNL_STAT_MIRROR p = 1 ∧ s.dataFlows j.port = true then
    (j.ready s.now).1.foldl (fun (s : State) r => s.sendWords j.port 4 1 r)
      (s.modPart p fun x => { x with journal := (x.journal.ready s.now).2 })
  else s

/-- A frame's counts of corrections end with it: histogram 0x04, per port that is up, and the counts of the lanes (R254, R397). -/
def State.portHist (s : State) : State :=
  (List.range 64).foldl (fun (s : State) n =>
    let s := if s.portUp n then s.sample 4 n (s.port n).corrected else s
    s.modPort n fun x => { x with corrected := 0, laneErrs := [] }) s

/-- The selected record's body in the layout of schema 1 (Table 19-2). -/
def Settings.fields (r : Settings) : Bytes := if r.schema = 1 then r.body else Config.settingsAs r.schema 1 r.body

/-- The accepted laser part numbers of the settings (Table 19-2). -/
def State.laserParts (s : State) : List Bytes := match s.sec.selected with
  | some r => chunks 16 16 ((r.fields.drop 64).take 256)
  | none => []

/-- A copy in the FRU block, with FRU_STAT.GEN stepped at its begin and its end (R432). -/
def State.fruCopy (s : State) (a : Nat) (bs : Bytes) (f : Field) (bitNo : Nat) (valid : Bool) : State :=
  let s := { s with fru := Mem.write s.fru a bs }
  let m := s.get f 0
  let m' := if valid then (if m.testBit bitNo then m else m + 2 ^ bitNo) else (if m.testBit bitNo then m - 2 ^ bitNo else m)
  (s.put f 0 m').put .FRU_STAT_GEN 0 (s.get .FRU_STAT_GEN 0 + 2)

/-- The power domain of a laser module. -/
def laserDomain (e : Nat) : Nat := 232 + e

/-- The checks of a laser module whose identity has been read, at insertion and in Ring 7; if they pass, its domain's power (R264). -/
def State.checkLaser (s : State) (e : Nat) : State :=
  let x := s.laser e
  let ok := x.accepted && s.laserParts.contains (fitBytes 16 x.part)
  let s := s.fruCopy (0x80 * e) (if ok then x.page else List.replicate 128 0) .FRU_STAT_LASER_VALID e ok
  if ok then (s.setLaserState e 3).put .PWR_DOM_STAT_STATE (laserDomain e) 1 else s.setLaserState e 2

/-- A module that was rejected while the settings were unreadable is checked again as bring-up completes from Ring 7 (R264, R410). -/
def State.recheckLaser (s : State) (e : Nat) : State :=
  if (s.laser e).present = true ∧ s.laserState e = 2 ∧ s.get .PWR_DOM_STAT_STATE (laserDomain e) = 0 then s.checkLaser e else s

/-- LASER_INSERT (R264): the identity is read, copied and checked. -/
def State.insertLaser (s : State) (e : Nat) (lower page : Bytes) (typeOk : Bool) (part : Bytes) (watts : Nat) : State :=
  ((s.tethInc .TETH_LASER_INSERTIONS (4 * e) 1).setLaser e ⟨true, lower, page, typeOk && decide (watts ≤ 36), part, false⟩).checkLaser e

def execLaserInsert (e : Fin 16) (lower page : Bytes) (typeOk : Bool) (part : Bytes) (watts : Nat) (s : State) : Host.Outcome State Fault Refusal :=
  .next (if (s.laser e.val).present then s else s.insertLaser e.val lower page typeOk part watts)

/-- LASER_READY (R264): the CMIS ModuleReady state; the four ports train if enabled. -/
def execLaserReady (e : Fin 16) (s : State) : Host.Outcome State Fault Refusal :=
  .next (if s.laserState e.val = 3 then
    (laserPorts e.val).foldl (fun (s : State) n => s.tryTrain n)
      ((s.setLaserState e.val 4).put .PWR_DOM_STAT_STATE (laserDomain e.val) 2)
  else s)

/-- SWAP (R265): at the next edge the four ports enter DARK and the laser domain is switched off. -/
def execSwap (e : Fin 16) (s : State) : Host.Outcome State Fault Refusal :=
  .next (s.whenBooted (if (s.laser e.val).present then
    ((laserPorts e.val).foldl (fun (s : State) n => s.modPort n fun x => { x with action := x.action ++ [5] }) s).setLaser e.val
      { s.laser e.val with swapping := true }
  else s))

/-- LASER_ALARM (R266): from a running module. -/
def execLaserAlarm (e : Fin 16) (s : State) : Host.Outcome State Fault Refusal :=
  .next (if s.laserState e.val = 4 then
    (laserPorts e.val).foldl (fun (s : State) n => if s.get .TETH_STAT_STATE n = 0 then s else s.portDown n 4) (s.setLaserState e.val 5)
  else s)

/-- LASER_REMOVE (R265): the module is withdrawn. -/
def execLaserRemove (e : Fin 16) (s : State) : Host.Outcome State Fault Refusal :=
  .next (if (s.laser e.val).present then
    let s := (laserPorts e.val).foldl (fun (s : State) n => if s.get .TETH_STAT_STATE n = 0 then s else s.setPortState n 1) s
    ((s.setLaser e.val Laser.init).fruCopy (0x80 * e.val) (List.replicate 128 0) .FRU_STAT_LASER_VALID e.val false).setLaserState e.val 0
  else s)

/-- REEL_BEACON_ERR_CLEAR (R52): writing 0 clears the count; any other write is ignored. -/
def execReelBeaconErrClear (n : Fin 64) (value : BitVec 32) (s : State) : Host.Outcome State Fault Refusal :=
  .next (s.whenBooted (if value = 0 then s.put .REEL_BEACON_ERR_COUNT n.val 0 else s))

end Sys2Proof.Machine
end

