-- ==== Sys2Proof/Machine/Faults.lean ====
section
/-! DEFINITION. What a failed part does: clearing of a core, position faults, stack failures, the stop of the module, the
Gondola halves (R136, R137, R358, R359, R365 to R378). -/

namespace Sys2Proof.Machine

/-- Core cycles of a clearing (R136). -/
def clearCycles : Nat := 5478

/-- Clearing of core position n starts at cycle 0 of this frame (R136). -/
def State.clearCore (s : State) (n cause : Nat) : State :=
  let s := s.modCore n fun k => { Core.init with conv := k.conv, lastEcc := k.lastEcc, sampled := k.sampled, clearing := some (s.clock.frameStart + clearCycles) }
  let s := ((s.put .CORE_TMEM_CLR_BUSY n 1).put .CORE_TMEM_CLR_CAUSE n cause).put .CORE_ACC_MAP_MAP n Field.CORE_ACC_MAP_MAP.reset
  let s := (s.put .CORE_TMEM_HAZ_TASK n 0).put .CORE_TMEM_HAZ_WW n 0
  s.put .CORE_DROP_TASK n 0

/-- A core position is being cleared (R137). -/
def State.clearing (s : State) (n : Nat) : Bool := (s.core n).clearing.isSome

/-- Clearing of position n ends in this cycle (R136). -/
def State.endClear (s : State) (n : Nat) : State :=
  let locked := s.get .REEL_STAT_STATE 0 == 2 || s.get .REEL_STAT_STATE 0 == 3
  let s := s.modCore n fun k => { k with clearing := none }
  (s.put .CORE_TMEM_CLR_BUSY n 0).put .CORE_TMEM_CLR_FRAME n
    (if s.get .CORE_TMEM_CLR_CAUSE n = 3 ∧ locked = false then 0 else s.reelCount)

/-- The partition to which position n is bound. -/
def State.boundTo (s : State) (n : Nat) : Option Nat :=
  if s.get .CORE_BIND_BOUND n = 1 then some (s.get .CORE_BIND_PART n) else none

/-- The free reserved spares of a partition, by spare index and position (R370). -/
def State.freeSpares (s : State) (p : Nat) : List (Nat × Nat) := match (s.part p).bind.shape with
  | some sh => ((sh.positions.drop sh.lcores).filter fun n => s.boundTo n == some p && s.get .CORE_BIND_SPARE n == 1).map fun n =>
      (s.get .CORE_BIND_SLOT n - sh.lcores, n)
  | none => []

/-- A domain begins to deflate (R348). -/
def State.deflate (s : State) (d : Nat) : State :=
  if s.get .PWR_DOM_STAT_STATE d = 0 ∨ s.get .PWR_DOM_STAT_STATE d = 5 then s
  else (s.put .PWR_DOM_STAT_STATE d 3).setDomain d { s.domain d with stage := 0, waiting := false }

/-- The domains in FAILED (PWR_STAT). -/
def State.countFailed (s : State) : State :=
  s.put .PWR_STAT_FAILED_DOMAINS 0 ((List.range 250).filter fun d => s.get .PWR_DOM_STAT_STATE d == 5).length

/-- A domain fails by a cause and is deflated at once (R358, R362). -/
def State.failDomain (s : State) (d cause : Nat) : State :=
  let s := (s.domainCause d cause).deflate d
  s.setDomain d { s.domain d with failed := true }

/-- The program slot of a partition's running task. -/
def Part.taskSlot (x : Part) : Option Nat := x.run.task.map fun t => t.program % 32

/-- A position fault (R369): the owner's task aborts, the position is fenced, its domain deflates, and a remap waits for
the next edge if one can be made (R370). -/
def State.positionFault (s : State) (n : Nat) : State :=
  let s := s.event 0xA000 n 0
  let owner := s.boundTo n
  let slot := s.get .CORE_BIND_SLOT n
  let spare := s.get .CORE_BIND_SPARE n
  let s := match owner with
    | some p =>
      let first := (s.part p).taskSlot
      let s := s.chargeFault p 0x4000 n
      let s := (s.put .CORE_BIND_FENCED n 1).put .CORE_BIND_BOUND n 0
      if spare = 0 ∧ s.get .PART_RECOVER_AUTO_REMAP p = 1 ∧ (s.freeSpares p).isEmpty = false then
        s.modBind p fun b => { b with
          remap := b.remap ++ [(slot, 0xFF, false)]
          readyAt := some (s.clock.frameNo + 1)
          rehearsal := s.rehearsal
          rebinds := (match first with
            | some h => h :: b.rebinds.filter (· != h)
            | none => b.rebinds) }
      else s
    | none => s.put .CORE_BIND_FENCED n 1
  s.deflate n

/-- The tests on position n have ended with a result; the position is cleared from the next frame on (R383). -/
def State.endBist (s : State) (n result : Nat) : State :=
  let s := (s.put .CORE_BIST_RESULT n result).put .CORE_BIST_FRAME n (s.reelCount % 2 ^ 32)
  let l := s.bists.map fun (x : Bist) => if x.position = n then { x with done := true } else x
  ({ s with bists := l }).atNextEdge (.core n 4)

/-- A fault of a fenced position ends the self-test that runs there with a failed result, and reaches no partition (R379). Which of
the failed results it is stands open: a free value from 2 to 6. -/
def State.bistFault (s : State) (n : Nat) : State :=
  if s.bists.any fun b => b.position == n && !b.done then (let d := s.draw; d.2.endBist n (2 + d.1 % 5)) else s

/-- A fault of core position n: a position fault, or one that a self-test meets (R369, R379). -/
def State.coreFault (s : State) (n : Nat) : State :=
  if s.get .CORE_BIND_FENCED n = 1 then s.bistFault n else s.positionFault n

/-- POSITION_FAULT (R369, R379). -/
def execPositionFault (n : Fin 96) (s : State) : Host.Outcome State Fault Refusal := .next (s.coreFault n.val)

/-- A plan entry moves data to or from stack m. -/
def PlanEntry.onStack (e : PlanEntry) (m : Nat) : Bool :=
  (e.srcKind == 1 && e.src == m) || (e.dstKind == 1 && e.dstFirst == m)

/-- A plan entry uses tether port n. -/
def PlanEntry.onPort (e : PlanEntry) (n : Nat) : Bool :=
  (e.srcKind == 2 && e.src == n) || (e.dstKind == 2 && e.dstFirst == n)

/-- The plan of a partition's running task. -/
def Part.taskPlan (x : Part) : List PlanEntry := match x.taskSlot with
  | some h => (Tab.get Slot.init x.slots h).plan
  | none => []

/-- Stack m fails (R358, R374, R438): HBM state 4. -/
def State.failStack (s : State) (m : Nat) : State := s.stackState m 4

/-- The tasks whose bound plans use stack m are aborted (R358). -/
def State.abortStackUsers (s : State) (m : Nat) : State :=
  (List.range 16).foldl (fun (s : State) p =>
    if (s.part p).taskPlan.any fun e => e.onStack m then s.chargeFault p 0x4000 0 else s) s

/-- HBM_STACK_FAIL (R374): tasks abort as their transfers meet the stack. -/
def execHbmStackFail (m : Fin 48) (s : State) : Host.Outcome State Fault Refusal :=
  .next (if s.get .HBM_STAT_STATE m.val = 4 then s else s.failStack m.val)

/-- HBM_OVERTEMP (R438): a case above 95 °C for 1 ms. -/
def execHbmOvertemp (m : Fin 48) (s : State) : Host.Outcome State Fault Refusal :=
  .next (if s.get .HBM_STAT_STATE m.val = 4 then s else s.failStack m.val)

/-- The ring of a domain (Table 16-1, Table 16-3): 0 Gondola, 1 to 6 die columns, 7 optics and lasers. -/
def domainRing (d : Nat) : Nat :=
  if d < 96 then 1 + d / 16
  else if d < 120 then 1 + (d - 96) / 4
  else if d < 168 then 1 + (d - 120) / 8
  else if d < 248 then 7
  else 0

/-- The domain is neither off nor failed. -/
def State.active (s : State) (d : Nat) : Bool :=
  s.get .PWR_DOM_STAT_STATE d != 0 && s.get .PWR_DOM_STAT_STATE d != 5

/-- A stop deflates the rings in the order 7 down to 0: the highest ring that still has a domain on (R361, R366). -/
def State.deflateNext (s : State) : State :=
  match (List.range 8).reverse.find? fun r => (List.range 250).any fun d => domainRing d == r && s.active d with
  | some r => ((List.range 250).filter fun d => domainRing d == r).foldl (fun (s : State) d => s.deflate d) s
  | none => s

/-- Every task of the module is aborted with ABORTED_TASK (R361, R366). -/
def State.abortAll (s : State) (records : Bool) : State :=
  (List.range 16).foldl (fun (s : State) p =>
    (s.abortTask p none (fun _ => (0x4000, 0)) none 0x4000 records).dropNext p (fun _ => (0x4000, 0)) records) s

/-- The module stops: every task is aborted and the rings are deflated (R359, R366). -/
def State.stopModule (s : State) : State :=
  let s := s.abortAll true
  let s := s.put .GCTL_STAT_STOPPED 0 1
  ({ s with power := { s.power with shutdown := true } }).deflateNext

/-- A die whose uncore has lost both regulator groups is deflated: its cores, its uncore, which has failed, and its stacks (R359). -/
def State.deflateDie (s : State) (d : Nat) : State :=
  let s := s.setDomain (96 + d) { s.domain (96 + d) with failed := true }
  [4 * d, 4 * d + 1, 4 * d + 2, 4 * d + 3, 96 + d, 120 + 2 * d, 121 + 2 * d].foldl (fun (s : State) x => s.deflate x) s

/-- A trip or a droop failure of a die-uncore domain: one regulator group is lost; the second stops the module (R359). -/
def State.uncoreTrip (s : State) (d cause : Nat) : State :=
  let s := (s.domainCause d cause).put .PWR_DOM_STAT_GROUP_LOST d 1
  let s := s.setDomain d { s.domain d with groupsLost := (s.domain d).groupsLost + 1 }
  if 2 ≤ (s.domain d).groupsLost then (s.deflateDie (d - 96)).stopModule else s

/-- A Gondola half takes a state (R421). -/
def State.setHalf (s : State) (g v : Nat) : State :=
  if g = 0 then s.put .GCTL_FW_STAT_GW_STATE 0 v else s.put .GCTL_FW_STAT_GE_STATE 0 v

/-- A Gondola half stops driving (R377, R366): the other carries on; without another the module stops. The firmware of a
half that ran it waits for its takeover (R378). -/
def State.halfStop (s : State) (g : Nat) : State :=
  let ran := s.halfState g == 2
  let s := (s.setHalf g 4).event 0xB003 g 0
  let s := { s with gondola := { s.gondola with
    gwStopped := s.gondola.gwStopped || g == 0
    geStopped := s.gondola.geStopped || g == 1
    takeover := s.gondola.takeover || ran } }
  if s.drives (1 - g) then s else s.stopModule

/-- GONDOLA_HALF_STOP (R377). -/
def execGondolaHalfStop (g : Fin 2) (s : State) : Host.Outcome State Fault Refusal :=
  .next (if s.drives g.val then s.halfStop g.val else s)

/-- FIRMWARE_TAKEOVER (R378): the standby half runs the firmware; a PF command that had not retired is executed again from
its beginning, and a binding in progress restarts. -/
def State.takeOver (s : State) (g : Nat) : State :=
  let s := s.setHalf g 2
  let s := { s with gondola := { s.gondola with firmware := g, takeover := false } }
  { s with cmds := s.cmds.map fun c => if c.part = none ∧ c.ran = false ∧ c.due = none then { c with began := none } else c }

def execFirmwareTakeover (s : State) : Host.Outcome State Fault Refusal :=
  let g := 1 - s.gondola.firmware
  .next (if s.gondola.takeover = true ∧ s.drives g = true then s.takeOver g else s)

/-- HARD_LIMIT_TRIP (R358, R359). -/
def State.trip (s : State) (d cause : Nat) : State :=
  if d < 96 then
    (s.failDomain d cause).coreFault d
  else if d < 120 then s.uncoreTrip d cause
  else if d < 168 then ((s.failDomain d cause).failStack (d - 120)).abortStackUsers (d - 120)
  else if d < 232 then
    let s := s.failDomain d cause
    if s.get .TETH_STAT_STATE (d - 168) = 0 then s else s.portDown (d - 168) 4
  else if d < 248 then s.failDomain d cause
  else
    let s := s.failDomain d cause
    if s.drives (d - 248) then s.halfStop (d - 248) else s

def execHardLimitTrip (d : Fin 250) (s : State) : Host.Outcome State Fault Refusal :=
  .next (if s.active d.val = true ∧ s.get .PWR_DOM_STAT_STATE d.val ≠ 3 then s.trip d.val 2 else s)

end Sys2Proof.Machine
end

