-- ==== Sys2Proof/Machine/Power.lean ====
section
/-! DEFINITION. Inflation and deflation, droop detection, the emergency clock step, converter bricks, thermal actions and
the orderly shutdown (R343 to R349, R357, R360 to R363, R438). -/

namespace Sys2Proof.Machine

/-- Register offset of PWR_DOM[d]_CTL in PF BAR0, for the logbook. -/
def domCtlOffset (d : Nat) : Nat := Reg.PWR_DOM_CTL.base + 16 * d

/-- R348 allows a deflation of domain d: a core fenced or unbound, a stack drained, a port OFF or DARK; no Ring 0 domain
(R364). -/
def State.mayDeflate (s : State) (d : Nat) : Bool :=
  if d < 96 then s.get .CORE_BIND_FENCED d == 1 || s.get .CORE_BIND_BOUND d == 0
  else if d < 120 then true
  else if d < 168 then s.get .HBM_SVC_DRAINED (d - 120) == 1
  else if d < 232 then decide (s.get .TETH_STAT_STATE (d - 168) ≤ 1)
  else decide (d < 248)

/-- A fused-off core position's domain is never inflated (R345). -/
def State.fusedOff (s : State) (d : Nat) : Bool := decide (d < 96) && s.get .CORE_BIND_DISABLED d == 1

/-- INFLATE: a request for the next edge; one for a Ring 0 domain is ignored and logged (R364). -/
def execInflate (d : Fin 250) (s : State) : Host.Outcome State Fault Refusal :=
  .next (s.whenBooted (if d.val < 248 ∧ s.fusedOff d.val = false then s.atNextEdge (.inflate d.val) else s.ignored (domCtlOffset d.val)))

/-- DEFLATE: a request for the next edge, if R348 allows it; else it is ignored and logged (R364). -/
def execDeflate (d : Fin 250) (s : State) : Host.Outcome State Fault Refusal :=
  .next (s.whenBooted (if s.mayDeflate d.val then s.atNextEdge (.deflate d.val) else s.ignored (domCtlOffset d.val)))

/-- VMIN_REARM (R363): the minimum-voltage record restarts. -/
def execVminRearm (d : Fin 250) (s : State) : Host.Outcome State Fault Refusal :=
  .next (s.whenBooted (if d.val < 248 then
    (((s.putA .PWR_DOM_VMIN_MIN d.val 0xFFF).putA .PWR_DOM_VMIN_FRAME d.val 0).putA .PWR_DOM_VMIN_CYCLE d.val 0).putA .PWR_DOM_VMIN_LOCKED d.val 0
  else s.ignored (domCtlOffset d.val)))

/-- An inflation request at its edge: the domain waits its turn (R349). -/
def State.requestInflate (s : State) (d : Nat) : State :=
  if s.active d then s else s.setDomain d { s.domain d with waiting := true }

/-- A deflation request at its edge. -/
def State.requestDeflate (s : State) (d : Nat) : State := if s.mayDeflate d then s.deflate d else s

/-- INFLATION_START (R349): with fewer than 8 inflating, the lowest-numbered waiting domain starts. -/
def State.startInflation (s : State) : State :=
  if 8 ≤ ((List.range 250).filter fun d => (s.domain d).stage != 0).length then s
  else match (List.range 250).find? fun d => (s.domain d).waiting with
    | some d =>
      let s := s.setDomain d { s.domain d with waiting := false, stage := 1, failed := false }
      (s.put .PWR_DOM_STAT_STATE d 1).countFailed
    | none => s

def execInflationStart (s : State) : Host.Outcome State Fault Refusal := .next s.startInflation

/-- Current limit at the end of a stage, in parts per 10,000 of the hard limit (Table 16-2). -/
def stageLimit : Nat → Nat
  | 1 => 100
  | 2 => 400
  | 3 => 1500
  | _ => 3000

/-- A domain is on: what it carries becomes usable (R136, R252, Table 8 of HBM states). -/
def State.domainOn (s : State) (d : Nat) : State :=
  let s := s.put .PWR_DOM_STAT_STATE d 2
  if d < 96 then s.atNextEdge (.core d 3)
  else if 120 ≤ d ∧ d < 168 then (if s.get .HBM_STAT_STATE (d - 120) = 4 then s else s.put .HBM_STAT_STATE (d - 120) 1)
  else if 168 ≤ d ∧ d < 232 then (if s.get .TETH_STAT_STATE (d - 168) = 0 then (s.setPortState (d - 168) 1).tryTrain (d - 168) else s)
  else s

/-- INFLATION_STAGE (R346, R347): the stage's end; an over-current opens all switches and fails the domain. -/
def State.endStage (s : State) (d current : Nat) : State :=
  let x := s.domain d
  if stageLimit x.stage < current then
    let s := s.inc .PWR_DOM_STAT_STAGE_FAILS d 1
    let s := (s.domainCause d 1).put .PWR_DOM_STAT_STATE d 5
    (s.setDomain d { x with stage := 0, failed := true }).countFailed
  else if x.stage < 4 then s.setDomain d { x with stage := x.stage + 1 }
  else (s.setDomain d { x with stage := 0 }).domainOn d

def execInflationStage (d : Fin 250) (current : Nat) (s : State) : Host.Outcome State Fault Refusal :=
  .next (if (s.domain d.val).stage = 0 then s else s.endStage d.val current)

/-- DEFLATION_DONE (R348): the domain is off, or FAILED after a failure; what it carries is off with it. -/
def State.endDeflation (s : State) (d : Nat) : State :=
  let s := (s.put .PWR_DOM_STAT_STATE d (if (s.domain d).failed then 5 else 0)).countFailed
  let s :=
    if 120 ≤ d ∧ d < 168 then (if s.get .HBM_STAT_STATE (d - 120) = 4 then s else s.put .HBM_STAT_STATE (d - 120) 0)
    else if 168 ≤ d ∧ d < 232 then s.setPortState (d - 168) 0
    else if 232 ≤ d ∧ d < 248 ∧ (s.laser (d - 232)).swapping = true then s.setLaserState (d - 232) 6
    else if 248 ≤ d ∧ s.halfState (d - 248) ≠ 4 then s.setHalf (d - 248) 0
    else s
  if s.power.shutdown then s.deflateNext else s

def execDeflationDone (d : Fin 250) (s : State) : Host.Outcome State Fault Refusal :=
  .next (if s.get .PWR_DOM_STAT_STATE d.val = 3 then s.endDeflation d.val else s)

/-- The median of a list of quotients: of an even number, the mean of the two middle ones (log entry 16). -/
def median (l : List Nat) : Nat :=
  let s := l.foldl (fun acc x => acc.takeWhile (fun y => y ≤ x) ++ [x] ++ acc.dropWhile (fun y => y ≤ x)) []
  let n := s.length
  if n = 0 then 0 else (s.getD ((n - 1) / 2) 0 + s.getD (n / 2) 0) / 2

/-- DROOP_STEP (R362): a rise of more than 5% enters its quotient; the median is judged against the baseline. -/
def State.droop (s : State) (d quotient : Nat) : State :=
  let x := s.domain d
  let q := (x.quotients ++ [quotient]).drop (x.quotients.length - 15)
  let s := (s.setDomain d { x with quotients := q }).inc .PWR_DOM_DROOP_STEPS d 1
  let m := min (median q) 0xFFFF
  let s := s.put .PWR_DOM_DROOP_MEDIAN d m
  let b := s.getA .PWR_DOM_DROOP_BASELINE d
  let s := if b * s.get .PWR_CFG_DROOP_WARN 0 < 100 * m ∧ s.get .PWR_DOM_STAT_STATE d = 2 then
      ((s.put .PWR_DOM_STAT_STATE d 4).setEvent .PWR_STAT_SUSPECT 0).event 0x8004 d m
    else s
  if b * s.get .PWR_CFG_DROOP_FAIL 0 < 100 * m then s.atNextEdge (.trip d 3) else s

/-- A domain with a final regulator: all but the laser domains (R344). -/
def hasRegulator (d : Nat) : Bool := decide (d < 232) || decide (248 ≤ d)

def execDroopStep (d : Fin 250) (rise quotient : Nat) (s : State) : Host.Outcome State Fault Refusal :=
  .next (if hasRegulator d.val = true ∧ 500 < rise ∧ (s.get .PWR_DOM_STAT_STATE d.val = 2 ∨ s.get .PWR_DOM_STAT_STATE d.val = 4) then
    s.droop d.val quotient else s)

/-- The running task of partition p runs in a shortened frame (R338). -/
def State.markVoid (s : State) (p : Nat) : State := match (s.part p).run.task with
  | some t => match t.anchorAt with
    | some _ => s.modRun p fun r => { r with sum := { r.sum with voidFrom := match r.sum.voidFrom with
        | some f => some f
        | none => some s.reelCount } }
    | none => s
  | none => s

/-- The present frame is one that a clock step shortens (R360). -/
def State.lowRate (s : State) : Bool := match s.power.step with
  | some x => decide (x.quiet < 4)
  | none => false

/-- EMERGENCY_CLOCK_STEP (R51, R360): the rest of the frame holds three quarters of its cycles. -/
def State.clockStep (s : State) (cause : Nat) : State :=
  let s := s.put .PWR_STEP_CAUSE 0 cause
  match s.power.step with
  | some x => { s with power := { s.power with step := some { x with trigger := true } } }
  | none =>
    let s := ((s.put .PWR_STAT_STEPPING 0 1).put .PWR_STEP_FRAME 0 s.reelCount).inc .PWR_STEP_COUNT 0 1
    let s := { s with
      clock := { s.clock with frameLen := max (s.cycle + 1) (s.cycle + (s.clock.frameLen - s.cycle) * 3 / 4) }
      power := { s.power with step := some ⟨0, true, 1, 0, s.now⟩ } }
    (List.range 16).foldl (fun s p => s.markVoid p) s

def execEmergencyClockStep (cause : Nat) (s : State) : Host.Outcome State Fault Refusal :=
  .next (if 1 ≤ cause ∧ cause ≤ 3 ∧ s.get .GCTL_STAT_STOPPED 0 = 0 then s.clockStep cause else s)

/-- The step's part of a frame edge, once the new frame has begun (R360): the frame that ended is judged, and the new frame
runs at the lower rate until four whole frames were quiet. -/
def State.edgeStep (s : State) (lacked : Nat) : State := match s.power.step with
  | some x =>
    let q := if x.trigger then 0 else x.quiet + 1
    let s := (List.range 16).foldl (fun (s : State) p =>
      if (s.part p).run.sum.voidFrom.isSome then
        s.modRun p fun r => { r with sum := { r.sum with voidLost := r.sum.voidLost + lacked } }
      else s) s
    if 4 < q then s
    else if q = 4 then { s with power := { s.power with step := some { x with quiet := q, trigger := false, lost := x.lost + lacked } } }
    else
      let s := { s with
        clock := { s.clock with frameLen := s.clock.frameLen * 3 / 4 }
        power := { s.power with step := some ⟨q, false, x.frames + 1, x.lost + lacked, s.now⟩ } }
      (List.range 16).foldl (fun s p => s.markVoid p) s
  | none => s

/-- The VOID record of a partition whose running task the step made void (R338). -/
def State.writeVoid (s : State) (p : Nat) (x : ClockStep) : State :=
  let r := (s.part p).run
  if r.task.isSome = true ∧ r.sum.voidFrom.isSome = true then s.journalVoid p x.lost x.frames else s

/-- CLOCK_STEP_END (R360): the clocks return to full rate at the first edge after four whole frames without a trigger; the
VOID records are written (R338). -/
def State.endClockStep (s : State) (x : ClockStep) : State :=
  let s := (s.put .PWR_STAT_STEPPING 0 0).event (0x8010 + s.get .PWR_STEP_CAUSE 0) 0 x.frames
  let s := { s with power := { s.power with step := none } }
  (List.range 16).foldl (fun s p => s.writeVoid p x) s

def execClockStepEnd (s : State) : Host.Outcome State Fault Refusal :=
  .next (match s.power.step with
    | some x => if s.atEdge = true ∧ x.quiet = 4 then s.endClockStep x else s
    | none => s)

/-- An orderly shutdown (R361, R389, R438): every task is aborted, the book is stored, the rings deflate. -/
def State.shutdown (s : State) : State :=
  let s := (s.abortAll true).put .PWR_STAT_PHASE 0 3
  let s := s.storeOrderly
  ({ s with power := { s.power with shutdown := true } }).deflateNext

def execOrderlyShutdown (s : State) : Host.Outcome State Fault Refusal :=
  .next (if s.power.shutdown then s else s.shutdown)

/-- PWR_STAT.BRICKS_OK (R364). -/
def State.countBricks (s : State) : State :=
  s.put .PWR_STAT_BRICKS_OK 0 ((List.range 18).filter fun b => s.get .PWR_BRICK_STATE b == 1).length

/-- BRICK_FAIL (R343). -/
def execBrickFail (b : Fin 18) (s : State) : Host.Outcome State Fault Refusal :=
  .next (if s.get .PWR_BRICK_STATE b.val = 1 then
    ((s.put .PWR_BRICK_STATE b.val 2).event 0x8020 b.val 0).countBricks
  else s)

/-- BRICK_INSERT (R343, R432): identity and telemetry are read; a rejected identity is not copied. -/
def State.insertBrick (s : State) (b : Nat) (ident : Bytes) (ok : Bool) (watts temp : Nat) : State :=
  let s := s.fruCopy (0x800 + 0x20 * b) (if ok then fitBytes 32 ident else List.replicate 32 0) .FRU_STAT_BRICK_VALID b ok
  let s := (s.putA .PWR_BRICK_OUT_W b watts).putA .PWR_BRICK_TEMP b temp
  (if ok then s.put .PWR_BRICK_STATE b 1 else (s.put .PWR_BRICK_STATE b 3).event 0x8020 b 0).countBricks

def execBrickInsert (b : Fin 18) (ident : Bytes) (ok : Bool) (watts temp : Nat) (s : State) : Host.Outcome State Fault Refusal :=
  .next (if s.get .PWR_BRICK_STATE b.val = 0 then s.insertBrick b.val ident ok watts temp else s)

/-- BRICK_REMOVE (R343, R432). -/
def execBrickRemove (b : Fin 18) (s : State) : Host.Outcome State Fault Refusal :=
  .next (if s.get .PWR_BRICK_STATE b.val = 0 then s else
    (((s.put .PWR_BRICK_STATE b.val 0).putA .PWR_BRICK_OUT_W b.val 0).fruCopy (0x800 + 0x20 * b.val) (List.replicate 32 0)
      .FRU_STAT_BRICK_VALID b.val false).countBricks)

/-- THERMAL_WARNING (R438): a PLDM warning event, and no other effect. -/
def execThermalWarning (inlet flow : Nat) (s : State) : Host.Outcome State Fault Refusal :=
  let s := { s with power := { s.power with climate := some (inlet, flow) } }
  .next (if 400 < inlet ∨ flow < 300 then s.send (.pldmEvent 1) else s)

end Sys2Proof.Machine
end

