-- ==== Sys2Proof/Machine/Tmem.lean ====
section
/-! DEFINITION. Tile memory as the units use it: windows and stable ranges, remote writes, stream hazards, error bits,
gather flags (R117 to R135, R215, R237), and the two window commands. -/

namespace Sys2Proof.Machine

/-- Program slot h of a partition. -/
def Part.slot (x : Part) (h : Nat) : Slot := Tab.get Slot.init x.slots h

/-- The bound plan of the running task's slot. -/
def Part.taskSlotOf (x : Part) : Slot := match x.taskSlot with
  | some h => x.slot h
  | none => Slot.init

/-- Plan entry i of the running task with what binding made of it. -/
def Part.entry (x : Part) (i : Nat) : Option (PlanEntry × Bound) :=
  let v := x.taskSlotOf
  match v.plan[i]?, v.bound[i]? with
  | some e, some b => some (e, b)
  | _, _ => none

/-- The cycle, since module reset, of anchor-relative cycle x. -/
def State.boundCycle (s : State) (p x : Nat) : Nat := s.anchorCycle p + x

/-- The bound cycle, from the anchor, in which row j is written on logical core lc (R148). -/
def Bound.cycleOn (b : Bound) (lc j : Nat) : Option Nat := match b.deliveries.find? fun d => d.1 == lc with
  | some d => d.2[j]?
  | none => none

/-- A fault found while a step's work is done: its cycle, logical core, status, Detail, and what is counted with it: 0
nothing, 1 an uncorrectable quarter, 2 a gather miss, 3 an underrun. -/
structure Flt where
  cycle : Nat
  core : Nat
  status : Nat
  detail : Nat
  kind : Nat
  deriving DecidableEq, Repr

/-- The fault of the earliest cycle, and of the lowest logical core in it. -/
def firstFlt : List Flt → Option Flt
  | [] => none
  | f :: r => some (r.foldl (fun a b => if b.cycle < a.cycle ∨ (b.cycle = a.cycle ∧ b.core < a.core) then b else a) f)

/-- The core of a logical core. -/
def State.lcore (s : State) (p lc : Nat) : Core := match (s.part p).position lc with
  | some n => s.core n
  | none => Core.init

/-- A change of a logical core's state. -/
def State.modLcore (s : State) (p lc : Nat) (f : Core → Core) : State := match (s.part p).position lc with
  | some n => s.modCore n f
  | none => s

/-- A read of a whole row on a slot. -/
def readUse (lc slot x row : Nat) : SlotUse := ⟨lc, slot, false, x, row, [(0, 4096)]⟩

/-- A write of bytes from an address of one row on a slot. -/
def writeUse (lc slot x a n : Nat) : SlotUse := ⟨lc, slot, true, x, a / 4096, [(a % 4096, n)]⟩

/-- Two accesses write a common byte of their row. -/
def SlotUse.overlaps (u v : SlotUse) : Bool :=
  u.parts.any fun a => v.parts.any fun b => decide (a.1 < b.1 + b.2) && decide (b.1 < a.1 + a.2)

/-- Two accesses touch a common row of a core in the same cycle. -/
def SlotUse.meets (u v : SlotUse) : Bool := u.core == v.core && u.cycle == v.cycle && u.row == v.row

/-- The bank of a word of row r in word-column c (R118). -/
def bankOf (r c : Nat) : Nat := (r + c) % 64

/-- The two kinds of access (R119): words of one row, and words of one word-column in rows 64a to 64a + 63. -/
inductive TmemAccess where
  | row (r : Nat)
  | column (c a : Nat)
  deriving DecidableEq, Repr

/-- The words of a full access as (row, word-column), lane by lane. -/
def TmemAccess.words : TmemAccess → List (Nat × Nat)
  | .row r => (List.range 64).map fun c => (r, c)
  | .column c a => (List.range 64).map fun i => (64 * a + i, c)

/-- The words that a full read brings in cycle x, lane by lane (R119). -/
def Core.access (k : Core) (x : Nat) (m : TmemAccess) : List Bytes := m.words.map fun w => k.readAt x (tmemAddr w.1 w.2) 64

/-- A full access of a slot in cycle x, row by row as it is counted: a column segment touches each of its 64 rows (R126). -/
def TmemAccess.uses (m : TmemAccess) (lc slot : Nat) (write : Bool) (x : Nat) : List SlotUse := match m with
  | .row r => [⟨lc, slot, write, x, r, [(0, 4096)]⟩]
  | .column c a => (List.range 64).map fun i => ⟨lc, slot, write, x, 64 * a + i, [(64 * c, 64)]⟩

/-- A window covers a write and lists its source (R129). -/
def Window.covers (w : Window) (x row wc0 wc1 kind sender : Nat) : Bool :=
  inForce w.since w.till x && decide (w.rowFirst ≤ row) && decide (row ≤ w.rowLast) && decide (w.wcolFirst ≤ wc0) && decide (wc1 ≤ w.wcolLast) &&
  (if kind = 0 then w.core && decide (w.srcFirst ≤ sender) && decide (sender ≤ w.srcLast)
   else if kind = 1 then w.stream else w.tether)

/-- A core accepts a remote write in cycle x (R129). -/
def Core.accepts (k : Core) (x row wc0 wc1 kind sender : Nat) : Bool :=
  k.windows.any fun w => w.covers x row wc0 wc1 kind sender

/-- The lowest stable range in force in cycle x that holds row r (R127). -/
def Core.stableOf (k : Core) (x r : Nat) : Option Nat :=
  match (k.stable.filter fun v => inForce v.since v.till x && decide (v.rowFirst ≤ r) && decide (r ≤ v.rowLast)).map StableRange.index with
  | [] => none
  | i :: l => some (l.foldl min i)

/-- Row r belongs to the speculative region of a PENDING slot (R212, R215). -/
def Part.pendingRow (x : Part) (r : Nat) : Option Nat :=
  (x.strm.preds.find? fun c =>
    let d := c.2
    let first := x.pool.1 + d.firstBuf * x.pool.2.1
    d.state == 1 && ((decide (first ≤ r) && decide (r < first + d.nbuf * x.pool.2.1)) ||
      (decide (d.outFirst ≤ r) && decide (r < d.outFirst + d.outRows)))).map Prod.fst

/-- Some row of a range is pending, for a slot other than `own`. -/
def Part.pendingRows (x : Part) (own : Option Nat) (r n : Nat) : Bool :=
  x.strm.preds.any fun c =>
    let d := c.2
    let first := x.pool.1 + d.firstBuf * x.pool.2.1
    let meets (a b : Nat) : Bool := decide (r < a + b) && decide (a < r + n) && decide (0 < b)
    d.state == 1 && own != some c.1 && (meets first (d.nbuf * x.pool.2.1) || meets d.outFirst d.outRows)

/-- Quarters with flipped bits that a read of row r in cycle x meets: (quarter, bits). -/
def Core.eccIn (k : Core) (x r : Nat) : List (Nat × Nat) := (k.eccAt x).filter fun c => c.1 / 256 == r

/-- The Detail of an uncorrectable quarter (R135). -/
def eccDetail (q lc : Nat) : Nat := q / 256 + q % 256 / 4 * 2 ^ 16 + lc * 2 ^ 32

/-- The uncorrectable quarters that a read of a row meets, as faults of its cycle. -/
def Core.eccFaults (k : Core) (lc x r : Nat) : List Flt :=
  (k.eccIn x r).filterMap fun c => if 2 ≤ c.2 then some ⟨x, lc, 0x4000, eccDetail c.1 lc, 1⟩ else none

/-- A read of a row in cycle x delivers corrected data and counts it (R135). -/
def State.countEcc (s : State) (p lc x r : Nat) : State := match (s.part p).position lc with
  | some k =>
    let m := ((s.core k).eccIn x r).filter fun c => c.2 == 1
    if m.isEmpty then s else s.inc .CORE_TMEM_ECC_CORRECTED k m.length
  | none => s

/-- An uncorrectable quarter was read on logical core lc (R135, R369): it is counted and logged; a second one within 1,024
frames is a position fault. -/
def State.noteEcc (s : State) (p lc : Nat) : State := match (s.part p).position lc with
  | some k =>
    let s := s.mark (s.rehearsal || (s.core k).injected.any fun q => (s.core k).ecc.any fun c => c.1 == q)
    let s := (s.inc .CORE_TMEM_ECC_UNCORRECTABLE k 1).event 0xA003 k 0
    let second := match (s.core k).lastEcc with
      | some f => decide (s.clock.frameNo < f + 1024)
      | none => false
    let s := s.modCore k fun c => { c with lastEcc := some s.clock.frameNo }
    if second = true ∧ s.get .CORE_BIND_FENCED k = 0 then s.positionFault k else s
  | none => s

/-- A fault charged to the oldest command in the cycle of its detection (R449); one of a later frame waits there as that
command's end. -/
def State.chargeAt (s : State) (p x status detail : Nat) : State :=
  (if x < s.nextEdge then (s.advance x).chargeFault p status detail
   else match s.charge p x with
    | some c => if 0x3000 ≤ c.status then s
      else s.setCmd { c with ran := true, due := some x, status := status, detail := detail, rehearsal := s.rehearsal }
    | none => if status = 0x4000 then s else s.event status p 0).mark false

/-- Accesses enter the log of slot uses. -/
def State.addUses (s : State) (p : Nat) (us : List SlotUse) : State := s.modRun p fun r => { r with uses := r.uses ++ us }

/-- Stream hazards of an S write (R126, R127), and same-byte collisions with writes on A or B (R125). -/
def State.hazards (s : State) (p : Nat) (u : SlotUse) : State := match (s.part p).position u.core with
  | none => s
  | some k =>
    let met := (s.part p).run.uses.filter fun v => v.slot != 2 && u.meets v
    let s := if met.any fun v => v.write && u.overlaps v then s.inc .CORE_TMEM_HAZ_WW k 1 else s
    if met.all SlotUse.write then s
    else
      let s := (s.inc .CORE_TMEM_HAZ_TASK k 1).inc .CORE_TMEM_HAZ_TOTAL k 1
      match (s.core k).stableOf u.cycle u.row with
      | some i => s.chargeAt p u.cycle 0x3005 (u.row + i * 2 ^ 16 + u.core * 2 ^ 32)
      | none => s

/-- The flag of gather entry g of a core is set in cycle x: the last row of its piece is written there (R237). -/
def State.setFlag (s : State) (p lc g x : Nat) : State := match (s.part p).position lc with
  | none => s
  | some k => match Tab.get none (s.core k).gather g with
    | some v => if v.flag.isSome then s
      else (s.modCore k fun c => { c with gather := Tab.put none c.gather g (some { v with flag := some x }) }).inc .CORE_GATHER_SET k 1
    | none => s

/-- The Detail of a window violation (R130). -/
def violDetail (row wc kind sender lc : Nat) : Nat :=
  row + wc * 2 ^ 16 + kind * 2 ^ 24 + (if kind = 0 then sender else 0xFFFF) * 2 ^ 32 + lc * 2 ^ 48

/-- A remote write is accepted: a window covers it, and no tether write meets a pending row (R129, R215). -/
def State.covered (s : State) (p lc row wc0 wc1 kind sender x : Nat) : Bool :=
  (s.lcore p lc).accepts x row wc0 wc1 kind sender && !(kind == 2 && ((s.part p).pendingRow row).isSome)

/-- A write on slot S of bytes into row `row` from word-column wc0 on, in cycle x. -/
def State.writeS (s : State) (p lc row wc0 : Nat) (bs : Bytes) (x : Nat) : State := match (s.part p).position lc with
  | none => s
  | some k =>
    let u := writeUse lc 2 x (tmemAddr row wc0) bs.length
    ((s.modCore k fun c => c.writeAt x 2 (tmemAddr row wc0) bs).addUses p [u]).hazards p u

/-- A remote write of bytes into row `row` from word-column wc0 on, in cycle x (R128 to R130, R215): kind 0 CORE, 1 STREAM,
2 TETHER. A violation is never partly written. -/
def State.remoteWrite (s : State) (p lc row wc0 : Nat) (bs : Bytes) (kind sender x : Nat) : State :=
  match (s.part p).position lc with
  | none => s
  | some k =>
    let wc1 := wc0 + (cdiv bs.length 64 - 1)
    if s.covered p lc row wc0 wc1 kind sender x then s.writeS p lc row wc0 bs x
    else (s.inc .CORE_TMEM_STAB_VIOL_TOTAL k 1).chargeAt p x 0x3004 (violDetail row wc0 kind sender lc)

/-- A gather entry that covers row r of a core with its flag not set before cycle x (R237). -/
def Core.flagMiss (k : Core) (r x : Nat) : Option Nat :=
  (k.gather.find? fun c => match c.2 with
    | some g => decide (g.since ≤ x) && decide (g.rowFirst ≤ r) && decide (r < g.rowFirst + g.rows) && (match g.flag with
        | some f => decide (x ≤ f)
        | none => true)
    | none => false).map Prod.fst

/-- A read misses a gather flag: DEADLINE_MISS with row, entry and core (R237). -/
def Core.gatherFaults (k : Core) (u : SlotUse) : List Flt := match k.flagMiss u.row u.cycle with
  | some g => [⟨u.cycle, u.core, 0x3001, u.row + g * 2 ^ 16 + u.core * 2 ^ 32, 2⟩]
  | none => []

/-- WINDOW_OPEN (Table 6-1). -/
structure WindowP where
  stable : Bool
  index : Nat
  first : Nat
  last : Nat
  rowFirst : Nat
  rowLast : Nat
  wcolFirst : Nat
  wcolLast : Nat
  core : Bool
  stream : Bool
  tether : Bool
  srcFirst : Nat
  srcLast : Nat

def Cmd.window (c : Cmd) : WindowP :=
  ⟨bit (u8 c.bytes 28) 0, u8 c.bytes 29, u16 c.bytes 30, u16 c.bytes 32, u16 c.bytes 34, u16 c.bytes 36,
   bits (u8 c.bytes 38) 5 0, bits (u8 c.bytes 39) 5 0, bit (u8 c.bytes 40) 0, bit (u8 c.bytes 40) 1, bit (u8 c.bytes 40) 2,
   u16 c.bytes 42, u16 c.bytes 44⟩

/-- ALL of WINDOW_CLOSE (R132). -/
def Cmd.closeAll (c : Cmd) : Bool := bit (u8 c.bytes 28) 1

/-- WINDOW_OPEN and WINDOW_CLOSE are refused (R133): fields of a window that WINDOW_CLOSE does not have are not checked. -/
def windowBad (lcores : Nat) (w : WindowP) (isOpen all : Bool) : Bool :=
  (!all && decide ((if w.stable then 15 else 63) < w.index)) || decide (w.last < w.first) || decide (lcores ≤ w.last) ||
  (isOpen && (decide (w.rowLast < w.rowFirst) || decide (16383 < w.rowLast) ||
    (!w.stable && (decide (w.wcolLast < w.wcolFirst) || !(w.core || w.stream || w.tether) ||
      (w.core && (decide (w.srcLast < w.srcFirst) || decide (lcores ≤ w.srcLast)))))))

/-- The first cycle whose writes a changed descriptor checks, for a retirement in cycle t: the change takes effect in the cycle
after it, and what is checked in that cycle sees the descriptors as they were (R134). -/
def windowSince (t : Nat) : Nat := t + 2

/-- The descriptors of a core that an index, or every index, has open stop checking in cycle x. -/
def Core.closeWindow (k : Core) (w : WindowP) (all : Bool) (x : Nat) : Core :=
  let ends := fun (i : Nat) (till : Option Nat) => if (all || i == w.index) && till.isNone then some x else till
  if w.stable then { k with stable := k.stable.map fun d => { d with till := ends d.index d.till } }
  else { k with windows := k.windows.map fun d => { d with till := ends d.index d.till } }

/-- WINDOW_OPEN on one core (R131): from cycle x on the descriptor stands in place of the index's earlier one. -/
def Core.openWindow (k : Core) (w : WindowP) (x : Nat) : Core :=
  let k := k.closeWindow w false x
  if w.stable then { k with stable := k.stable ++ [⟨w.index, w.rowFirst, w.rowLast, x, none⟩] }
  else { k with windows := k.windows ++ [⟨w.index, w.rowFirst, w.rowLast, w.wcolFirst, w.wcolLast, w.core, w.stream, w.tether, w.srcFirst,
    w.srcLast, x, none⟩] }

/-- Descriptors that ended before cycle x are no longer told. -/
def Core.forgetWindows (k : Core) (x : Nat) : Core :=
  let live := fun (till : Option Nat) => match till with
    | some t => decide (x ≤ t)
    | none => true
  { k with windows := k.windows.filter fun d => live d.till, stable := k.stable.filter fun d => live d.till }

/-- The named logical cores of a window command. -/
def WindowP.cores (w : WindowP) : List Nat := (List.range (w.last + 1 - w.first)).map (· + w.first)

/-- The descriptors change on every named core as the command retires in cycle t (R131, R132, R134). -/
def State.changeWindows (s : State) (c : Cmd) (p t : Nat) : State :=
  c.window.cores.foldl (fun (s : State) lc => s.modLcore p lc fun k =>
    if c.op = 0x401 then k.openWindow c.window (windowSince t) else k.closeWindow c.window c.closeAll (windowSince t)) s

/-- WINDOW_OPEN (R131, R134): it occupies 4 cycles on each named core; the descriptors change with its retirement
(State.changeWindows). -/
def execWindowOpen (c : CmdId) (s : State) : Host.Outcome State Fault Refusal :=
  .next (match s.ready c 0x401 with
    | some d => s.done d (d.t0 + 4) 0 0
    | none => s)

/-- WINDOW_CLOSE (R132, R134), likewise. -/
def execWindowClose (c : CmdId) (s : State) : Host.Outcome State Fault Refusal :=
  .next (match s.ready c 0x402 with
    | some d => s.done d (d.t0 + 4) 0 0
    | none => s)

end Sys2Proof.Machine
end

