-- ==== Sys2Proof/Machine/Matrix.lean ====
section
/-! DEFINITION. The matrix operations on one core: items, tile loads, accumulation, output conversion and the cycle cost
(R73 to R111, R190, R191, R213, R445). -/

namespace Sys2Proof.Machine

/-- A matrix operation as a core performs it. -/
structure MatOp where
  wfmt : Nat
  afmt : Nat
  ofmt : Nat
  mode : Nat
  sat : Bool
  /-- K-tiles of an item, and columns of the output. -/
  ktiles : Nat
  n : Nat
  wstage : Nat
  ring : Option RingGeo
  cbRow : Nat
  cbCount : Nat
  sA : Nat
  accBase : Nat
  regions : Nat
  seed : Nat
  step : Nat
  /-- The image of a convolution. -/
  conv : Option ConvP
  mergeMax : Nat
  /-- Slot-B accesses of the fill without codebook rows (R445). -/
  fill : Nat
  /-- The operation's first cycle, and the last one that may be performed now. -/
  start : Nat
  now : Nat
  /-- The next row of the ring that is still to be placed: its cycle (R191). -/
  coming : Option Nat
  /-- Nothing that the ring lacks is a fault: the schedule alone is wanted (R48, R216). -/
  dry : Bool
  /-- Named accumulator groups in which INIT clears (R83, R213; log entry 73). -/
  groups : List Nat
  /-- The drop limit that faults, if any, and the core's count before the operation (R110). -/
  limit : Option Nat
  dropped0 : Nat
  bufs : Tab Buf
  /-- A fault falls in this cycle: nothing that begins in it or later is done. -/
  horizon : Option Nat

/-- The first free cycle from x on, past the cycles taken. -/
def freeUp (busy : List Nat) : Nat → Nat → Nat
  | 0, x => x
  | n + 1, x => if busy.contains x then freeUp busy n (x + 1) else x

/-- The latest free cycle from `lo` to x. -/
def freeDown (busy : List Nat) (lo : Nat) : Nat → Nat → Option Nat
  | 0, _ => none
  | n + 1, x => if x < lo then none else if busy.contains x then (if x = 0 then none else freeDown busy lo n (x - 1)) else some x

/-- The first cycle from x on in which slot B is free (R120). -/
def nextFree (busy : List Nat) (x : Nat) : Nat := freeUp busy (busy.length + 1) x

/-- The latest cycle up to x in which slot B is free; where the operation has none, the next one (R77; log entry 10). -/
def lastFree (busy : List Nat) (lo x : Nat) : Nat := match freeDown busy lo (busy.length + 1) x with
  | some c => c
  | none => nextFree busy (x + 1)

/-- The first n free cycles from x on. -/
def nextFrees (busy : List Nat) : Nat → Nat → List Nat
  | 0, _ => []
  | n + 1, x =>
    let c := nextFree busy x
    c :: nextFrees busy n (c + 1)

/-- Rows of an accumulator region (R80). -/
def MatOp.region (o : MatOp) : Nat := 2048 / max 1 o.regions

/-- Bytes of one token's slice of an activation block (R77). -/
def sliceBytes (f : Nat) : Nat := elemBytes f 256

/-- Rows of a block of m tokens (R77, R85). -/
def blockRows (f m : Nat) : Nat := cdiv (m * sliceBytes f + (if isMx f then 8 * m else 0)) 4096

/-- A group entry (Table 4-3): M, FLAGS, ACT_ROW, OUT_ROW, CSCALE_ROW, S_W, MULT. -/
structure GroupE where
  m : Nat
  init : Bool
  drain : Bool
  actRow : Nat
  outRow : Nat
  cscaleRow : Nat
  sw : Nat
  mult : Nat

/-- Entry g of a core's group table as the fill of an operation begun in cycle x reads it (R83, R445). -/
def Core.group (k : Core) (x gtab g : Nat) : GroupE :=
  let e := k.readAt (x + 1 + g / 128) (gtab * 4096 + 32 * g) 32
  ⟨u16 e 0, bit (u8 e 2) 0, bit (u8 e 2) 1, u16 e 4, u16 e 6, u16 e 8, u32 e 12, u32 e 16⟩

/-- The numbers from floor(c n / L) to floor((c + 1) n / L) − 1 (R84). -/
def dealt (n lcores c : Nat) : List Nat :=
  let a := c * n / max 1 lcores
  (List.range ((c + 1) * n / max 1 lcores - a)).map (· + a)

/-- The items of one core from its groups, in consumption order (R84, R85). -/
def dealItems (ofmt panels lcores c : Nat) (gs : List GroupE) : List Item :=
  let bases := gs.foldl (fun (a : List Nat × Nat) g => (a.1 ++ [a.2], a.2 + g.m)) ([], 0)
  let all := (enumFrom 0 (gs.zip bases.1)).flatMap fun x =>
    if x.2.1.m = 0 then [] else (List.range panels).map fun p => (x.1, p, x.2)
  let mine := (dealt all.length lcores c).filterMap fun i => all[i]?
  mine.map fun x =>
    let g := x.2.2.1
    let p0 := minD 0 ((mine.filter fun y => y.1 == x.1).map fun y => y.2.1)
    ⟨x.1, x.2.1, g.m, g.init, g.drain, g.actRow, g.outRow + (x.2.1 - p0) * blockRows ofmt g.m, g.cscaleRow, g.sw, g.mult, x.2.2.2⟩

/-- A row field of a group entry lies past row 16,383, or blocks that the entry has on the core would run past it; `own` items are
the core's (R117, R445; log entry 74 for the channel scales of the last panel). -/
def GroupE.bad (g : GroupE) (o : MatOp) (own : Nat) : Bool :=
  decide (16383 < g.actRow) || decide (16383 < g.outRow) || decide (16383 < g.cscaleRow) ||
  (decide (0 < own) && (decide (16384 < g.actRow + o.ktiles * blockRows o.afmt g.m) || decide (16384 < g.outRow + own * blockRows o.ofmt g.m) ||
    (o.wfmt == 5 && decide (16384 < g.cscaleRow + cdiv (cdiv o.n 256) 4))))

/-- The checks of the fill on one core (R445): cycles count from the operation's first. -/
def fillFaults (o : MatOp) (lc : Nat) (gs : List GroupE) (items : List Item) : List Flt :=
  let bad := (enumFrom 0 gs).filterMap fun x =>
    let own := (items.filter fun i => i.group == x.1).length
    if o.region < x.2.m ∨ x.2.bad o own = true then
      some (⟨o.start + 1 + x.1 / 128, lc, 0x3000, x.1 + lc * 2 ^ 32, 0⟩ : Flt)
    else none
  let total := sumN (gs.map GroupE.m)
  bad ++ (if 2 ^ 32 < total * o.n then [⟨o.start + cdiv gs.length 128, lc, 0x3000, 0xFFFF + lc * 2 ^ 32, 0⟩] else [])

/-- A run of one core's share of a matrix operation. -/
structure MatRun where
  w : Walk
  k : Core
  uses : List SlotUse
  flts : List Flt
  /-- Entries dropped: cycle, count (R110). -/
  drops : List (Nat × Nat)
  /-- Accesses of the tile under way that fall in the past; the tile itself is still to be performed. -/
  ahead : List SlotUse
  /-- A lap that is needed has not arrived, or what comes next has not ended by the present. -/
  wait : Bool
  /-- A fault or the horizon has ended the core's work. -/
  stop : Bool

/-- Header-table rows of the operation on a core (R97). -/
def MatOp.hdrTable (o : MatOp) (w : Walk) : Nat := cdiv (w.items.length * o.ktiles) 64

/-- The tile-memory row of linear weight row r. -/
def MatOp.row (o : MatOp) (r : Nat) : Nat := match o.ring with
  | some g => g.rowOf r
  | none => o.wstage + r

/-- A ring row may still be placed before cycle x: x lies ahead, or rows of cycles before it are still to be placed. -/
def MatOp.mayCome (o : MatOp) (x : Nat) : Bool := decide (o.now < x) || (match o.coming with
  | some c => decide (c < x)
  | none => false)

/-- The first of n linear rows whose lap has not been READY by its read: its place, whether it may still come (R191). Row
j is read in cycle x + j. -/
def MatOp.missing (o : MatOp) (r n x : Nat) : Option (Nat × Bool) := if o.dry then none else match o.ring with
  | none => none
  | some g => (List.range n).findSome? fun j =>
    let bl := g.bufOf (r + j)
    let b := Tab.get Buf.init o.bufs bl.1
    if b.lap = bl.2 ∧ (b.state = 3 ∨ b.state = 4) then (if x + j < b.cycle then some (j, false) else none)
    else some (j, o.mayCome (x + j) && decide (b.lap ≤ bl.2) && b.state != 5)

/-- The Detail of an underrun or overrun (R191). -/
def bufDetail (row buf lc : Nat) : Nat := row + buf * 2 ^ 16 + lc * 2 ^ 32

/-- The underrun fault of linear row r read in cycle x. -/
def MatOp.underrun (o : MatOp) (lc r x : Nat) : Flt :=
  let b := match o.ring with
    | some g => (g.bufOf r).1
    | none => 0
  ⟨x, lc, 0x3001, bufDetail (o.row r) b lc, 3⟩

/-- Counts of dropped entries in the order of their cycles, as faults where the core's count for the task reaches the limit, `before`
being its count so far (R110). -/
def dropFaults (limit : Option Nat) (lc before : Nat) (ds : List (Nat × Nat)) : List Flt := match limit with
  | none => []
  | some l =>
    let live := ds.filter fun d => d.2 != 0
    live.filterMap fun d =>
      let n := before + sumN ((live.filter fun e => decide (e.1 ≤ d.1)).map Prod.snd)
      if l ≤ n then some ⟨d.1, lc, 0x3000, satW 16 n + lc * 2 ^ 32, 0⟩ else none

/-- The codebooks that a tile's references name, one per column, each table row as it is read in its cycle (R62, R63). -/
def MatOp.books (o : MatOp) (k : Core) (refs : List Nat) (at_ : List (Nat × Nat)) : Bytes := refs.flatMap fun q =>
  if q ≤ o.cbCount then
    (match at_.find? fun c => c.1 == q / 256 with
     | some c => k.readAt c.2 (o.cbRow * 4096 + 16 * q) 16
     | none => List.replicate 16 0)
  else List.replicate 16 0

/-- The path of a tile enters the counts (R100, Table 5-3). -/
def MatOp.countPath (o : MatOp) (h : Bytes) (p : Nat × Nat × Nat × Nat) : Nat × Nat × Nat × Nat :=
  if hdrClass h = 0 then (p.1 + 1, p.2.1, p.2.2.1, p.2.2.2)
  else if hdrClass h = 1 then (p.1, p.2.1 + 1, p.2.2.1, p.2.2.2)
  else if merges h o.mergeMax then (p.1, p.2.1, p.2.2.1 + 1, p.2.2.2)
  else (p.1, p.2.1, p.2.2.1, p.2.2.2 + 1)

/-- The laps of buffers that end within n linear rows, row r being read in cycle x (R189). -/
def MatOp.lapsPassed (o : MatOp) (r n x : Nat) : List (Nat × Nat) := match o.ring with
  | some g => (List.range n).filterMap fun j =>
      let bl := g.bufOf (r + j)
      if g.lapEnd bl.1 bl.2 = r + j + 1 then some (r + j + 1, x + j) else none
  | none => []

/-- The next tile of a core is loaded, its first row in cycle `rel` of the operation (R75, R97, R99, R110), and its load cycles. Its
header row is read on slot B in that cycle, its rows on slot A, its codebook rows in the first free cycles of slot B: after the
group table in the fill, else from the load's first cycle on. The array's registers take the header, the tile's bytes and a
codebook per column. -/
def MatOp.load (o : MatOp) (r : MatRun) (rel : Nat) : MatRun × Nat :=
  let w := r.w
  let x := o.start + rel
  let word := o.wstage - o.hdrTable w + w.index / 64
  let hdrAt := if w.index = 0 then x else if w.index % 64 = 0 then nextFree w.busy x else w.hdrAt
  let h := r.k.readAt hdrAt (word * 4096 + 64 * (w.index % 64)) 64
  let hdrUse : List SlotUse := if w.index % 64 = 0 then [readUse w.core 1 hdrAt word] else []
  let busy := if w.index % 64 = 0 then hdrAt :: w.busy else w.busy
  match o.missing w.row 1 x with
  | some (_, true) => ({ r with wait := true }, 0)
  | m0 =>
    if hdrOk h o.wfmt = false ∨ (o.ring = none ∧ 16384 < o.wstage + w.row + hdrRows h) then
      ({ r with uses := r.uses ++ hdrUse, stop := true,
                flts := r.flts ++ [⟨x, w.core, 0x3000, w.index % 2 ^ 32 + w.core * 2 ^ 32, 0⟩] }, 0)
    else
      let rows := tileRows (hdrClass h) o.wfmt (hdrU h)
      let miss := match m0 with
        | some m => some m
        | none => o.missing w.row rows x
      match miss with
      | some (_, true) => ({ r with wait := true }, 0)
      | _ =>
        let flt : List Flt := match miss with
          | some (j, _) => [o.underrun w.core (w.row + j) (x + j)]
          | none => []
        let tile := ((List.range rows).flatMap fun j => r.k.rowAt (x + j) (o.row (w.row + j))).take (hdrBytes h)
        let refs := if o.wfmt = 11 then tileRefs h tile else []
        let cb := refRows refs o.cbCount
        let cycles := nextFrees busy cb.length (if w.index = 0 then o.start + o.fill else x)
        let cbAt := cb.zip cycles
        let lc := loadCycles h o.mergeMax cb.length
        let drops := [(x + lc - 1, indexDrops h tile), (cycles.getLast?.getD (x + lc - 1), refDrops h tile o.cbCount)]
        let aUses := (List.range rows).map fun j => readUse w.core 0 (x + j) (o.row (w.row + j))
        let cUses := cbAt.map fun c => readUse w.core 1 c.2 (o.cbRow + c.1)
        ({ r with
            w := { w with
              index := w.index + 1, row := w.row + rows, dropped := w.dropped + sumN (drops.map Prod.snd), paths := o.countPath h w.paths
              passes := w.passes ++ o.lapsPassed w.row rows x, busy := cycles ++ busy, hdrAt := hdrAt }
            k := { r.k with shadow := h ++ tile ++ o.books r.k refs cbAt }
            uses := r.uses ++ hdrUse ++ aUses ++ cUses
            drops := r.drops ++ drops
            flts := r.flts ++ flt ++ dropFaults o.limit w.core (o.dropped0 + w.dropped) drops }, lc)

/-- Where a token's activations of one K-tile lie in tile memory: elements and MX scale bytes (address, bytes), and how many of the
256 elements there are; the others are zeros. -/
structure ActSpan where
  elems : Nat × Nat
  scales : Nat × Nat
  live : Nat

/-- Token t's slice of the block of an item in K-tile j (R77). -/
def MatOp.sliceSpan (o : MatOp) (it : Item) (j t : Nat) : ActSpan :=
  let a := (it.actRow + j * blockRows o.afmt it.m) * 4096
  let n := sliceBytes o.afmt
  ⟨(a + t * n, n), (a + it.m * n + 8 * t, if isMx o.afmt then 8 else 0), 256⟩

/-- n channels of an image from channel c of pixel (y, x), none outside it (R93; log entry 20). -/
def ConvP.span (q : ConvP) (y x : Int) (c n : Nat) : Option ActSpan :=
  if y < 0 ∨ x < 0 ∨ (q.h : Int) ≤ y ∨ (q.w : Int) ≤ x then none
  else
    let live := min n (q.cin - c)
    let e := (y.toNat * q.w + x.toNat) * q.cin + c
    some ⟨(q.inRow * 4096 + e * elemBits q.afmt / 8, elemBytes q.afmt live),
      (q.inRow * 4096 + elemBytes q.afmt (q.h * q.w * q.cin) + e / 32, if isMx q.afmt then cdiv live 32 else 0), live⟩

/-- The image position that output position pos takes for kernel place (ky, kx). -/
def ConvP.place (q : ConvP) (pos ky kx : Nat) : Int × Int :=
  (((pos / max 1 q.wo * q.stride + ky * q.dil : Nat) : Int) - (q.padY : Nat), ((pos % max 1 q.wo * q.stride + kx * q.dil : Nat) : Int) - (q.padX : Nat))

/-- Where the activations of a token of an item in K-tile j lie; none in the padding. -/
def MatOp.span (o : MatOp) (it : Item) (j t : Nat) : Option ActSpan := match o.conv with
  | some q =>
    let cb := cdiv q.cin 256
    let yx := q.place (it.tokenBase + t) (j / cb / q.kw) (j / cb % q.kw)
    q.span yx.1 yx.2 (j % cb * 256) 256
  | none => some (o.sliceSpan it j t)

/-- The rows that bytes from an address touch. -/
def rowsOf (a n : Nat) : List Nat := if n = 0 then [] else (List.range ((a + n - 1) / 4096 - a / 4096 + 1)).map (· + a / 4096)

/-- A row read for activations: the row, whether for its scale bytes, and its slot-B cycle. -/
abbrev ActRead := Nat × Bool × Nat

/-- The rows that a token needs are read unless the token before it had them: elements no later than the cycle in which the token
enters, scales in the one before (R77). The first part is the cycles taken so far, the second what the last token had, the third
the reads of every token in turn. -/
def planToken (lo x : Nat) (sp : Option ActSpan) (a : List Nat × List ActRead × List (List ActRead)) : List Nat × List ActRead × List (List ActRead) :=
  match sp with
  | none => (a.1, a.2.1, a.2.2 ++ [[]])
  | some sp =>
    let need := (rowsOf sp.elems.1 sp.elems.2).map (fun r => (r, false)) ++ (rowsOf sp.scales.1 sp.scales.2).map (fun r => (r, true))
    let got := need.foldl (fun (b : List Nat × List ActRead) n =>
      match a.2.1.find? fun h => h.1 == n.1 && h.2.1 == n.2 with
      | some h => (b.1, b.2 ++ [h])
      | none =>
        let c := lastFree b.1 lo (if n.2 then x - 1 else x)
        (c :: b.1, b.2 ++ [(n.1, n.2, c)])) (a.1, [])
    (got.1, got.2, a.2.2 ++ [got.2])

/-- The cycle in which token t of a tile enters the array, the tile's first in cycle x. -/
def MatOp.tokenAt (o : MatOp) (h : Bytes) (x t : Nat) : Nat := x + (tokenCycles h o.mergeMax (t + 1) - tokenCycles h o.mergeMax 1)

/-- The reads of m tokens of an item in K-tile j, the first one entering in cycle x: the slot-B cycles taken, and each token's. -/
def MatOp.planReads (o : MatOp) (busy : List Nat) (h : Bytes) (it : Item) (j m x : Nat) : List Nat × List (List ActRead) :=
  let r := (List.range m).foldl (fun a t => planToken o.start (o.tokenAt h x t) (o.span it j t) a) (busy, [], [])
  (r.1, r.2.2)

/-- The accesses of planned reads. -/
def actUses (lc : Nat) (rs : List (List ActRead)) : List SlotUse := (rs.flatMap id).dedup.map fun r => readUse lc 1 r.2.2 r.1

/-- Bytes from address a as the planned reads bring them. -/
def Core.spanBytes (k : Core) (rs : List ActRead) (scale : Bool) (a n : Nat) : Bytes := (rowsOf a n).flatMap fun r =>
  let lo := max a (r * 4096)
  let hi := min (a + n) (r * 4096 + 4096)
  match rs.find? fun h => h.1 == r && h.2.1 == scale with
  | some h => k.readAt h.2.2 lo (hi - lo)
  | none => List.replicate (hi - lo) 0

/-- The 256 exact activations of a token with their block scales (R60, R77). -/
def Core.actVals (k : Core) (f : Nat) (rs : List ActRead) (sp : Option ActSpan) : List Val := match sp with
  | none => List.replicate 256 Val.zero
  | some sp =>
    let bs := k.spanBytes rs false sp.elems.1 sp.elems.2
    let sc := k.spanBytes rs true sp.scales.1 sp.scales.2
    ((enumFrom 0 (unpack bs (elemBits f) sp.live)).map fun v =>
      if isMx f then scaled (decodeElem f v.2) (u8 sc (v.1 / 32)) else decodeElem f v.2) ++ List.replicate (256 - sp.live) Val.zero

/-- The 256 accumulators of a physical row. -/
def Core.accRow (k : Core) (r : Nat) : List Nat :=
  let row := k.acc.filter fun c => c.1 / 256 == r
  (List.range 256).map fun j => Tab.get 0 row (r * 256 + j)

/-- A physical accumulator row takes 256 codes. -/
def Core.putAccRow (k : Core) (r : Nat) (v : List Nat) : Core :=
  { k with acc := (k.acc.filter fun c => decide (c.1 < r * 256)) ++
      ((enumFrom (r * 256) v).filter fun c => c.2 != 0) ++ (k.acc.filter fun c => decide ((r + 1) * 256 ≤ c.1)) }

/-- The named accumulator row of token t of item i (R80), and the physical one under the core's map (R214). -/
def MatOp.namedRow (o : MatOp) (i t : Nat) : Nat := o.accBase + i % max 1 o.regions * o.region + t
def MatOp.accRow (o : MatOp) (map i t : Nat) : Nat := mapAcc map (o.namedRow i t)

/-- One token row against the columns of the loaded tile (R78, R79, R104). -/
def mulRow (acc : List Nat) (cols : List (List Val)) (a0 a1 : List Val) (two skip : Bool) : List Nat :=
  List.zipWith (fun v col =>
    let v := accumulate v (List.zipWith Val.mul (col.take 256) a0)
    if two && !skip then accumulate v (List.zipWith Val.mul (col.drop 256) a1) else v) acc cols

/-- The loaded tile streams `m` token rows of item number i with their planned reads, of a 2:4 tile also those of the second K-tile
(R78, R79, R104, R105). -/
def MatOp.stream (o : MatOp) (map : Nat) (k : Core) (it : Item) (i j m : Nat) (rs rs1 : List (List ActRead)) : Core :=
  let h := k.weights.take 64
  let body := k.weights.drop 64
  let tile := body.take (hdrBytes h)
  let books := body.drop (hdrBytes h)
  let cols := (List.range 256).map fun c => tileColumn h tile books c
  let two := hdrClass h == 1
  let skip := decide (o.ktiles ≤ j + 1)
  (List.range m).foldl (fun (x : Core) t =>
    let a0 := x.actVals o.afmt (rs.getD t []) (o.span it j t)
    let a1 := if two && !skip then x.actVals o.afmt (rs1.getD t []) (o.span it (j + 1) t) else []
    let r := o.accRow map i t
    x.putAccRow r (mulRow (x.accRow r) cols a0 a1 two skip)) k

/-- INIT clears the item's region first, in the groups that the command's items use (R83; log entry 73). -/
def MatOp.initRegion (o : MatOp) (map : Nat) (k : Core) (i : Nat) : Core :=
  (List.range o.region).foldl (fun (x : Core) t =>
    if o.namedRow i t < 2048 ∧ o.groups.contains (o.namedRow i t / 256) = true then x.putAccRow (o.accRow map i t) [] else x) k

/-- The channel scale of column j of a panel (Table 4-3), as read in cycle x; 1.0 where the weights have none (R66). A WCONV has
no channel scales, and S_W serves every column (log entry 20). -/
def MatOp.weightScale (o : MatOp) (k : Core) (x : Nat) (it : Item) (j : Nat) : Nat :=
  if o.wfmt = 5 then
    (match o.conv with
     | some q => q.sW
     | none => u32 (k.readAt x (it.cscaleRow * 4096 + 1024 * it.panel + 4 * j) 4) 0)
  else if o.wfmt = 3 ∨ o.wfmt = 4 then it.sw
  else fp32 .one

/-- The activation scale, supplied for FP8, KC4 and INT8 operands (Table 3-4, R66). -/
def MatOp.actScale (o : MatOp) : Nat := if o.wfmt = 3 ∨ o.wfmt = 4 ∨ o.wfmt = 5 ∨ o.wfmt = 11 then o.sA else fp32 .one

/-- Output columns of a panel that are written (R84). -/
def MatOp.columns (o : MatOp) (p : Nat) : Nat := min 256 (o.n - 256 * p)

/-- The converted codes and block scales of one output row from its values before the last rounding (R66 to R72). The third
part counts NaNs that went to INT8. -/
def convertRow (f mode : Nat) (sat : Bool) (seed step lane0 : Nat) (vals : List Val) : List Nat × List Nat × Nat :=
  if isMx f then
    let blocks := (enumFrom 0 (chunks 32 (cdiv vals.length 32) vals)).map fun b => mxQuantize f mode seed step ((lane0 + 32 * b.1) % 2 ^ 32) b.2
    (blocks.flatMap Prod.snd, blocks.map Prod.fst, 0)
  else
    let c := (enumFrom 0 vals).map fun v =>
      encodeElem f mode sat (if mode = 2 then spoolRand seed 0 step ((lane0 + v.1) % 2 ^ 32) else 0) v.2
    (c.map Prod.fst, [], (c.filter Prod.snd).length)

/-- Numbers below 256 as bytes. -/
def codeBytes (l : List Nat) : Bytes := l.map fun x => BitVec.ofNat 8 x

/-- Stretches of bytes, by address, of the drained token t of an item, and NaNs that went to INT8; channel scales are read in cycle
`x` (R66, R77, R85). -/
def MatOp.drainToken (o : MatOp) (map : Nat) (k : Core) (x : Nat) (it : Item) (i t : Nat) : List (Nat × Bytes) × Nat :=
  let nc := o.columns it.panel
  let acc := (k.accRow (o.accRow map i t)).take nc
  let vals := (enumFrom 0 acc).map fun v =>
    convertScaled (ofFp32 v.2) (ofFp32 (o.weightScale k x it v.1)) (ofFp32 o.actScale) (ofFp32 it.mult)
  let c := convertRow o.ofmt o.mode o.sat o.seed o.step (((it.tokenBase + t) * o.n + 256 * it.panel) % 2 ^ 32) vals
  let a := it.outRow * 4096
  ((a + t * sliceBytes o.ofmt, packElems (elemBits o.ofmt) c.1) ::
    (if isMx o.ofmt then [(a + it.m * sliceBytes o.ofmt + 8 * t, codeBytes c.2.1)] else []), c.2.2)

/-- What a stretch of bytes at an address has in row r: offset, bytes. -/
def clipRow (r : Nat) (q : Nat × Bytes) : Option (Nat × Bytes) :=
  let lo := max q.1 (r * 4096)
  let hi := min (q.1 + q.2.length) (r * 4096 + 4096)
  if lo < hi then some (lo - r * 4096, (q.2.drop (lo - q.1)).take (hi - lo)) else none

/-- Drain cycles of an item (R87). -/
def MatOp.drainCycles (o : MatOp) (m : Nat) : Nat := cdiv (m * elemBits o.ofmt) 128 + 12

/-- The output rows of an item whose converter starts in cycle x, one row per cycle (R85, R87; log entry 10); channel scales were
read in cycle `sx`. -/
def MatOp.drainRows (o : MatOp) (map : Nat) (k : Core) (it : Item) (i x sx : Nat) : List OutRow :=
  let toks := (List.range it.m).map fun t => o.drainToken map k sx it i t
  let all := toks.flatMap Prod.fst
  (List.range (blockRows o.ofmt it.m)).filterMap fun r =>
    let parts := all.filterMap (clipRow (it.outRow + r))
    let nans := sumN ((toks.filter fun p => p.1.any fun q => q.1 / 4096 == it.outRow + r).map Prod.snd)
    if parts.isEmpty then none else some ⟨x + r, false, it.outRow + r, parts, if r = 0 ∨ 0 < nans then nans else 0⟩

/-- The access of an output row. -/
def OutRow.use (u : OutRow) (lc : Nat) : SlotUse := ⟨lc, 1, true, u.cycle, u.row, u.parts.map fun q => (q.1, q.2.length)⟩

/-- An output row is written on slot B. -/
def Core.writeOut (k : Core) (u : OutRow) : Core :=
  let k := u.parts.foldl (fun (k : Core) q => k.writeAt u.cycle 1 (u.row * 4096 + q.1) q.2) k
  { k with conv := satW 32 (k.conv + u.nans) }

/-- Waiting output rows take the first free cycles before cycle `hi`, in their order. The second part holds once a row found
none. -/
def fixOuts (hi : Nat) : List OutRow → List Nat → List OutRow × List Nat
  | [], busy => ([], busy)
  | u :: r, busy =>
    if u.fixed then
      let t := fixOuts hi r busy
      (u :: t.1, t.2)
    else
      let c := nextFree busy u.cycle
      if c < hi then
        let t := fixOuts hi r (c :: busy)
        ({ u with cycle := c, fixed := true } :: t.1, t.2)
      else (u :: r, busy)

/-- The horizon allows work that begins in cycle x. -/
def MatOp.allows (o : MatOp) (x : Nat) : Bool := match o.horizon with
  | some h => decide (x < h)
  | none => true

/-- Output rows whose cycle is fixed and may be performed now are written. -/
def MatOp.settle (o : MatOp) (r : MatRun) : MatRun :=
  let due := fun (u : OutRow) => u.fixed && o.allows u.cycle && decide (u.cycle ≤ o.now)
  let outs := r.w.outs.filter due
  { r with
    w := { r.w with outs := r.w.outs.filter fun u => !due u }
    k := outs.foldl Core.writeOut r.k
    uses := r.uses ++ outs.map fun u => u.use r.w.core }

/-- Output rows get their cycles before cycle `hi`, and those that fall in the past are written. -/
def MatOp.drainUpTo (o : MatOp) (r : MatRun) (hi : Nat) : MatRun :=
  let f := fixOuts hi r.w.outs r.w.busy
  o.settle { r with w := { r.w with outs := f.1, busy := f.2 } }

/-- Token rows of the loaded tile that begin before the horizon, the tile's first in cycle x. -/
def MatOp.tokens (o : MatOp) (h : Bytes) (m x : Nat) : Nat := match o.horizon with
  | some z => tokensBy h o.mergeMax m (z - x)
  | none => m

/-- The end of an item: its drain, and the item after it (R87). INT8 channel scales are read in the latest free cycle of slot B
before the array is free (log entry 10). -/
def MatOp.endItem (o : MatOp) (map : Nat) (r : MatRun) (it : Item) : MatRun :=
  let w := r.w
  let conv0 := max w.conv (w.c + 20)
  let scales := it.drain && o.wfmt == 5 && o.conv.isNone
  let sx := lastFree w.busy o.start (o.start + w.c - 1)
  let outs := if it.drain && o.allows (o.start + conv0) then o.drainRows map r.k it w.item (o.start + conv0) sx else []
  { r with
    w := { w with
      conv := conv0 + (if it.drain then o.drainCycles it.m else 0)
      done := w.done ++ [conv0 + (if it.drain then o.drainCycles it.m else 0)]
      item := w.item + 1, ktile := 0, outs := w.outs ++ outs, busy := if scales then sx :: w.busy else w.busy }
    uses := r.uses ++ (if scales then [readUse w.core 1 sx (it.cscaleRow + it.panel / 4)] else []) }

/-- A tile and its load are performed once they lie in the past; until then only the faults that they have met count. -/
def MatOp.commit (o : MatOp) (r t : MatRun) : MatRun :=
  if o.horizon.isSome ∨ o.start + t.w.c ≤ o.now + 1 then t
  else
    let past := t.flts.filter fun f => decide (f.cycle ≤ o.now)
    { r with flts := past, ahead := t.uses.filter fun u => decide (u.cycle ≤ o.now), wait := past.isEmpty, stop := !past.isEmpty }

/-- The loaded tile of an item streams while the next one loads (R76, R87). -/
def MatOp.tile (o : MatOp) (map : Nat) (r : MatRun) (it : Item) : MatRun :=
  let w := r.w
  let s := if w.ktile = 0 ∧ o.regions ≤ w.item then max w.c (w.done.getD (w.item - o.regions) 0) else w.c
  let x := o.start + s
  let h := r.k.weights.take 64
  let nextK := w.ktile + (if hdrClass h = 1 then 2 else 1)
  let last := decide (o.ktiles ≤ nextK)
  if o.allows x = false then { r with stop := true }
  else
    let more := !last || decide (w.item + 1 < w.items.length)
    let ld := if more then o.load (o.drainUpTo r x) s else (o.drainUpTo r x, 0)
    if ld.1.wait then { r with wait := true }
    else
      let r1 := ld.1
      let accBad := w.ktile = 0 ∧ 2048 < o.namedRow w.item it.m
      let flts := if accBad then [(⟨x, w.core, 0x3000, 0, 0⟩ : Flt)] else []
      let m := if accBad then 0 else o.tokens h it.m x
      let p0 := o.planReads r1.w.busy h it w.ktile it.m x
      let p1 := if hdrClass h = 1 ∧ w.ktile + 1 < o.ktiles then o.planReads p0.1 h it (w.ktile + 1) it.m x else (p0.1, [])
      let c := s + max (tokenCycles h o.mergeMax it.m) ld.2
      let r2 := o.drainUpTo { r1 with
        uses := r1.uses ++ actUses w.core p0.2 ++ actUses w.core p1.2
        flts := r1.flts ++ flts
        w := { r1.w with c := c, ktile := nextK, busy := p1.1 } } (o.start + c)
      let k := if w.ktile = 0 ∧ it.init = true ∧ ¬accBad then o.initRegion map r2.k w.item else r2.k
      let k := o.stream map k it w.item w.ktile m p0.2 p1.2
      let r3 := { r2 with k := if more then { k with weights := k.shadow } else k }
      o.commit r (if last then o.endItem map r3 it else r3)

/-- The first tile is loaded in the fill (R87, R445). -/
def MatOp.first (o : MatOp) (r : MatRun) : MatRun :=
  let ld := o.load r 0
  let cb := (refRows (if o.wfmt = 11 then tileRefs (ld.1.k.shadow.take 64) (ld.1.k.shadow.drop 64) else []) o.cbCount).length
  if ld.1.wait || ld.1.stop then
    (if ld.1.wait then { r with wait := true } else o.commit r { ld.1 with w := { ld.1.w with c := 1 } })
  else o.commit r { ld.1 with k := { ld.1.k with weights := ld.1.k.shadow }, w := { ld.1.w with c := max ld.2 (o.fill + cb) } }

/-- The core's work has come to its end: the last output rows are written (R87). -/
def MatOp.finish (o : MatOp) (r : MatRun) : MatRun :=
  let r := o.drainUpTo r (o.start + r.w.conv + 2 ^ 32)
  let e := if r.w.items.isEmpty then 0 else max (r.w.c + 20) r.w.conv
  if o.start + e ≤ o.now + 1 then { r with w := { r.w with finished := some e } } else { r with wait := true }

/-- One core's work, tile by tile. -/
def MatOp.walk (o : MatOp) (map : Nat) : Nat → MatRun → MatRun
  | 0, r => r
  | fuel + 1, r =>
    if r.wait || r.stop || r.w.finished.isSome then r
    else match r.w.items[r.w.item]? with
      | none => o.finish r
      | some it => o.walk map fuel (if r.w.index = 0 then o.first r else o.tile map r it)

/-- A core's walk right at the operation's start (R88): slot B has taken the header row and the group table (R445). -/
def Walk.start (lc x fill : Nat) (items : List Item) : Walk :=
  ⟨lc, items, 0, 0, [], 0, 0, 0, 0, 0, (0, 0, 0, 0), [], [], none, (List.range fill).map (· + x), x⟩

end Sys2Proof.Machine
end

