-- ==== Sys2Proof/Machine/Wide.lean ====
section
/-! DEFINITION. Wide operations on a partition: what their cores' work adds up to, faults, drops, rings and the three matrix
commands WMATMUL, WMATMUL_SPEC and WCONV (R18, R82 to R88, R92, R93, R110, R111, R189 to R191, R213 to R216). A step performs
what falls in cycles up to a given one, `lim` (log entry 2). -/

namespace Sys2Proof.Machine

/-- What one core's share of a wide operation comes to, as far as it is performed: the core, its accesses, entries dropped (cycle,
count), and the core's cycles. -/
structure CoreRun where
  lc : Nat
  k : Core
  uses : List SlotUse
  cycles : Nat
  drops : List (Nat × Nat)

/-- Slot-S writes already placed that reads of an operation meet (R126); a core has one such access in a cycle. -/
def PartRun.readHazards (r : PartRun) (us : List SlotUse) : List SlotUse :=
  r.uses.filter fun u => u.slot == 2 && u.write && us.any fun v => !v.write && v.slot != 2 && u.meets v

/-- Slot-S writes already placed that writes of an operation meet in a byte (R125). -/
def PartRun.writeHazards (r : PartRun) (us : List SlotUse) : List SlotUse :=
  r.uses.filter fun u => u.slot == 2 && u.write && us.any fun v => v.write && v.slot != 2 && u.meets v && u.overlaps v

/-- Reads that meet a slot-S write on an open stable range (R127). -/
def State.stableFaults (s : State) (p : Nat) (us : List SlotUse) : List Flt :=
  ((s.part p).run.readHazards us).filterMap fun u =>
    ((s.lcore p u.core).stableOf u.cycle u.row).map fun i => ⟨u.cycle, u.core, 0x3005, u.row + i * 2 ^ 16 + u.core * 2 ^ 32, 0⟩

/-- Faults that the accesses of an operation meet: uncorrectable quarters, gather misses, stable rows. -/
def State.useFaults (s : State) (p : Nat) (us : List SlotUse) : List Flt :=
  (us.filter fun u => !u.write).flatMap (fun u =>
    (s.lcore p u.core).eccFaults u.core u.cycle u.row ++ (s.lcore p u.core).gatherFaults u) ++ s.stableFaults p us

/-- The drop limit that faults in partition p, as bound (R110, R112, R305). -/
def State.dropLimit (s : State) (p : Nat) : Option Nat := match (s.part p).bind.shape with
  | some sh => if bit sh.sparse 25 then some (max 1 (bits sh.sparse 24 9)) else none
  | none => none

/-- The dropped count of a logical core's current task. -/
def State.dropTask (s : State) (p lc : Nat) : Nat := match (s.part p).position lc with
  | some n => s.get .CORE_DROP_TASK n
  | none => 0

/-- Entries dropped on a position enter its counts (R109, R112). -/
def State.addDrops (s : State) (n k : Nat) : State := (s.inc .CORE_DROP_TASK n k).inc .CORE_DROP_TOTAL n k

/-- Stream hazards and write collisions that the accesses of an operation bring about are counted (R125, R126). -/
def State.countHazards (s : State) (p : Nat) (us : List SlotUse) : State :=
  let run := (s.part p).run
  let s := (run.readHazards us).foldl (fun (s : State) u => match (s.part p).position u.core with
    | some n => (s.inc .CORE_TMEM_HAZ_TASK n 1).inc .CORE_TMEM_HAZ_TOTAL n 1
    | none => s) s
  (run.writeHazards us).foldl (fun (s : State) u => match (s.part p).position u.core with
    | some n => s.inc .CORE_TMEM_HAZ_WW n 1
    | none => s) s

/-- Accesses of a wide operation are performed: hazards and corrected quarters are counted, and they enter the log. -/
def State.perform (s : State) (p : Nat) (us : List SlotUse) : State :=
  let s := s.countHazards p us
  let s := (us.filter fun u => !u.write).foldl (fun (s : State) u => s.countEcc p u.core u.cycle u.row) s
  s.addUses p us

/-- The cores take what an operation made of them; its accesses and drops are counted. Drops of a speculative operation wait in its
slot (R216). -/
def State.applyRuns (s : State) (p : Nat) (rs : List CoreRun) (spec : Option Nat) : State :=
  rs.foldl (fun (s : State) r => match (s.part p).position r.lc with
    | some n =>
      let s := s.setCore n r.k
      let k := sumN (r.drops.map Prod.snd)
      if k = 0 then s
      else match spec with
        | some v =>
          let d := (s.part p).pred v
          s.setPred p v { d with drops := d.drops ++ [(n, k)] }
        | none => s.addDrops n k
    | none => s) (s.perform p (rs.flatMap CoreRun.uses))

/-- The Detail of INDEX_DROPPED from each core's dropped entries (R111), and whether any entry was dropped. -/
def dropDetail (rs : List (Nat × Nat)) : Bool × Nat :=
  let d := rs.filter fun r => r.2 != 0
  (!d.isEmpty, min (sumN (d.map Prod.snd)) (2 ^ 32 - 1) + minD 0 (d.map Prod.fst) * 2 ^ 32)

/-- What is counted with a fault (R135, R191, R208, R237). -/
def State.countFault (s : State) (p : Nat) (f : Flt) : State :=
  if f.kind = 1 then s.noteEcc p f.core
  else if f.kind = 2 then match (s.part p).position f.core with
    | some n => s.inc .CORE_GATHER_MISSES n 1
    | none => s
  else if f.kind = 3 then s.inc .STRM_FAIL_UNDERRUN p 1
  else s

/-- Every uncorrectable quarter and missing flag that reads of the fault's cycle found is counted (R135, R238). -/
def State.countFaults (s : State) (p : Nat) (f : Flt) (all : List Flt) : State :=
  if f.kind = 3 then s.countFault p f
  else (all.filter fun g => g.cycle == f.cycle && (g.kind == 1 || g.kind == 2)).foldl (fun (s : State) g => s.countFault p g) s

/-- A wide operation ends in a fault of its own: in the fault's cycle, or, a speculative one, at the end that it would have
reached, the fault being held in its slot (R216, R295). Where that end hangs on headers that cannot be read, it is a free value
(log entry 30). -/
def State.wideFault (s : State) (c : Cmd) (p : Nat) (f : Flt) (all : List Flt) (spec full : Option Nat) : State :=
  let s := s.countFaults p f all
  match spec with
  | some k =>
    let d := (s.part p).pred k
    let s := s.setPred p k (if d.fault.isNone then { d with fault := some (f.cycle, f.status, f.detail) } else d)
    match full with
    | some t => s.done c (max t (f.cycle + 1)) f.status f.detail
    | none => s.draw.2.done c (f.cycle + 1 + s.draw.1) f.status f.detail
  | none => s.done c (max f.cycle s.now) f.status f.detail

/-- A wide operation runs to its end after that many cycles on its slowest core: OK or INDEX_DROPPED (R88, R111). -/
def State.wideDone (s : State) (c : Cmd) (drops : List (Nat × Nat)) (cycles : Nat) : State :=
  let d := dropDetail drops
  s.done c (c.t0 + cycles + 8) (if d.1 then 1 else 0) (if d.1 then d.2 else 0)

/-- The progress of a wide operation: a matrix operation's walks, and the first cycle not yet performed. -/
def State.setWide (s : State) (c : Cmd) (p : Nat) (ws : List Walk) (upto : Nat) : State :=
  s.modRun p fun r => { r with wide := some ⟨c.queue, c.seq, ws, upto⟩ }

/-- The first cycle of a wide operation that has not been performed. -/
def State.wideFrom (s : State) (c : Cmd) (p : Nat) : Nat := match (s.part p).run.wide with
  | some w => w.upto
  | none => c.t0

/-- The ring of a partition whose first data row is `row`. -/
def Part.ringAt (x : Part) (row : Nat) : Option Ring := x.strm.rings.find? fun r => (r.geo x.pool).dataFirst == row

/-- The ring of a prediction slot. -/
def Part.specRing (x : Part) (k : Nat) : Option Ring := x.strm.rings.find? fun r => r.spec == some k

/-- The first cycle whose rows are still to be placed in a ring, as long as its command places rows (R191). -/
def State.comingRow (s : State) (p : Nat) (r : Ring) : Option Nat :=
  if (s.part p).strm.streams.any fun st => st.queue == r.queue && st.seq == r.seq then
    (s.findCmd r.queue r.seq).map Cmd.upto
  else none

/-- Buffers after an operation's cores have come this far (R189): those read are IN_USE, those passed by every core are
EMPTY for the next lap, or SPENT where the ring has nothing left to place. -/
def nextBufs (g : RingGeo) (placed : Option Nat) (ws : List Walk) (bufs : Tab Buf) : Tab Buf :=
  let live := ws.filter fun w => !w.items.isEmpty
  (List.range g.nbuf).foldl (fun (t : Tab Buf) i =>
    let b := g.firstBuf + i
    let x := Tab.get Buf.init t b
    if x.state ≠ 3 ∧ x.state ≠ 4 then t
    else
      let e := g.lapEnd b x.lap
      let first := x.lap * g.dataRows + (if i = 0 then 0 else i * g.bufRows - g.hdr)
      let cyc := live.flatMap fun w => (w.passes.filter fun q => q.1 == e).map Prod.snd
      let read := live.any fun w => decide (first < w.row)
      let passed := live.all fun w => w.finished.isSome || w.passes.any fun q => q.1 == e
      let ended := live.all fun w => w.finished.isSome
      let none' := match placed with
        | some y => decide (y ≤ cyc.foldl max 0)
        | none => false
      if !cyc.isEmpty && passed then
        Tab.put Buf.init t b (if none' then { x with state := 5, cycle := cyc.foldl max 0 } else ⟨1, x.lap + 1, [], cyc.foldl max 0⟩)
      else if read && ended && placed.isSome then Tab.put Buf.init t b { x with state := 5 }
      else if read then Tab.put Buf.init t b { x with state := 4 }
      else t) bufs

/-- The walks' effect on the staging pool. -/
def State.consume (s : State) (p : Nat) (g : Option RingGeo) (ws : List Walk) (due : Option Nat) : State := match g with
  | none => s
  | some g => s.modStrm p fun x =>
    let hit := fun (r : Ring) => r.firstBuf == g.firstBuf && r.hdrRows == g.hdr
    { x with
      bufs := nextBufs g ((x.rings.find? hit).bind Ring.placed) ws x.bufs
      rings := match due with
        | some d => x.rings.map fun r => if hit r then { r with consumed := some d } else r
        | none => x.rings }

/-- A core's run as its share of the operation; what falls in cycles after a fault's does not count. -/
def MatRun.share (r : MatRun) (horizon : Option Nat) : CoreRun :=
  let live := fun (x : Nat) => match horizon with
    | some f => decide (x ≤ f)
    | none => true
  ⟨r.w.core, r.k, r.uses.filter fun u => live u.cycle, (match r.w.finished with
    | some n => n
    | none => max (r.w.c + 20) r.w.conv), r.drops.filter fun d => live d.1⟩

/-- Every core's run from its walk. -/
def State.matRuns (s : State) (p : Nat) (o : MatOp) (ws : List Walk) : List MatRun :=
  ws.map fun w =>
    let map := match (s.part p).position w.core with
      | some n => s.get .CORE_ACC_MAP_MAP n
      | none => 0
    ({ o with dropped0 := s.dropTask p w.core }).walk map (w.items.length * o.ktiles + 3) ⟨w, s.lcore p w.core, [], [], [], [], false, false⟩

/-- The cycles of the slowest core (R88). -/
def slowest (rs : List MatRun) : Nat := ((rs.map fun r => r.share none).map CoreRun.cycles).foldl max 0

/-- The last cycle of a matrix operation's schedule with its completion, if the headers at hand give it (R48, R88, R216). -/
def State.matEnd (s : State) (p : Nat) (o : MatOp) (ws : List Walk) : Option Nat :=
  let rs := s.matRuns p { o with dry := true, now := 2 ^ 64, limit := none } ws
  if rs.all fun r => r.w.finished.isSome then some (o.start + slowest rs + 8) else none

/-- What a matrix operation's fill reads and finds on the cores, apart from tiles (R445). -/
structure Fill where
  uses : List SlotUse
  flts : List Flt

/-- The walks of an operation as they stand: those whose first tile is not loaded yet start afresh. -/
def State.walksNow (s : State) (p : Nat) (start : List Walk) : List Walk := match (s.part p).run.wide with
  | some w => (w.walks.zip start).map fun x => if x.1.index = 0 ∧ x.1.finished = none then x.2 else x.1
  | none => start

/-- A matrix operation, as far as the present and the laps that have arrived allow (R190, R191). -/
def State.runMatrix (s : State) (c : Cmd) (p : Nat) (o : MatOp) (spec : Option Nat) (start : List Walk) (fill : Fill) : State :=
  let seen := s.wideFrom c p
  let live := fun (x : Nat) => decide (seen ≤ x) && decide (x ≤ o.now)
  let table := fill.uses.filter fun u => live u.cycle
  let ws := s.walksNow p start
  let runs := s.matRuns p o ws
  let flts := ((fill.flts.filter fun f => decide (seen ≤ f.cycle)) ++ runs.flatMap MatRun.flts ++
    s.useFaults p (table ++ runs.flatMap fun r => r.uses ++ r.ahead)).filter fun f => decide (f.cycle ≤ o.now)
  match firstFlt flts with
  | some f =>
    let cut := s.matRuns p { o with horizon := some f.cycle } ws
    let s1 := (s.perform p (table.filter fun u => decide (u.cycle ≤ f.cycle))).applyRuns p (cut.map fun r => r.share (some f.cycle)) spec
    (s1.setWide c p (cut.map MatRun.w) (f.cycle + 1)).wideFault c p f flts spec (match spec with
      | some _ => s.matEnd p o ws
      | none => none)
  | none =>
    let s := (s.perform p table).applyRuns p (runs.map fun r => r.share none) spec
    let ws' := runs.map MatRun.w
    let s := s.setWide c p ws' (o.now + 1)
    if ws'.all fun w => w.finished.isSome then
      (s.consume p o.ring ws' (some (o.start + slowest runs + 8))).wideDone c (ws'.map fun w => (w.core, w.dropped)) (slowest runs)
    else s.consume p o.ring ws' none

/-- The 256-row groups, counted from the first accumulator row of an operation, that its items' rows touch (R80, R213, R445). -/
def accOffsets (regions : Nat) (ws : List Walk) : List Nat :=
  (ws.flatMap fun w => (enumFrom 0 w.items).flatMap fun x =>
    (List.range (cdiv x.2.m 256)).map (· + x.1 % max 1 regions * (2048 / max 1 regions) / 256)).dedup

/-- The named accumulator groups that the items of an operation use from a first row that is a multiple of 256, or touch from
another (R80). -/
def accGroups (base regions : Nat) (ws : List Walk) : List Nat :=
  ((accOffsets regions ws).flatMap fun o => if base % 256 = 0 then [base / 256 + o] else [base / 256 + o, base / 256 + o + 1]).dedup.filter fun g => decide (g < 8)

/-- The rows that the items use of each accumulator region are whole groups of 256 (R213). -/
def wholeGroups (regions : Nat) (ws : List Walk) : Bool :=
  ws.all fun w => (List.range (max 1 regions)).all fun r =>
    (((enumFrom 0 w.items).filter fun x => x.1 % max 1 regions == r).map fun x => x.2.m).foldl max 0 % 256 == 0

/-- The operation of WMATMUL's parameters; accumulators from `acc` (R82, R213). -/
def State.matOp (s : State) (p : Nat) (c : Cmd) (acc : Nat) (ws : List Walk) (lim : Nat) : MatOp :=
  let q := c.mat
  let x := s.part p
  let ring := x.ringAt q.wstage
  ⟨q.wfmt, q.afmt, q.ofmt, q.mode, q.sat, cdiv q.k32 8, 32 * q.n32, q.wstage, ring.map fun r => r.geo x.pool, q.cbRow,
   q.cbCount, q.sA, acc, q.regions, q.seed, c.step, none, x.run.sum.mergeMax, 1 + cdiv q.groups 128, c.t0, lim, ring.bind (s.comingRow p),
   false, accGroups acc q.regions ws, s.dropLimit p, 0, x.strm.bufs, none⟩

/-- The groups of a core's own table, as the fill of an operation begun in cycle x reads them. -/
def MatP.groupsOn (q : MatP) (k : Core) (x : Nat) : List GroupE := (List.range q.groups).map fun g => k.group x q.gtab g

/-- The walks of a WMATMUL begun in cycle x, at its start (R84). -/
def State.matStart (s : State) (p : Nat) (q : MatP) (x : Nat) : List Walk :=
  let n := (s.part p).lcores
  (List.range n).map fun lc => Walk.start lc x (1 + cdiv q.groups 128) (dealItems q.ofmt (cdiv q.n32 8) n lc (q.groupsOn (s.lcore p lc) x))

/-- The fill on every core: its reads of the group table, and its checks (R445). -/
def State.matFill (s : State) (p : Nat) (q : MatP) (o : MatOp) (ws : List Walk) : Fill :=
  ⟨ws.flatMap fun w => (List.range (cdiv q.groups 128)).map fun j => readUse w.core 1 (o.start + 1 + j) (q.gtab + j),
   ws.flatMap fun w => fillFaults o w.core (q.groupsOn (s.lcore p w.core) o.start) w.items⟩

/-- WMATMUL (R82 to R88), as far as cycle `lim`. -/
def State.wmatmul (s : State) (c : Cmd) (p lim : Nat) : State :=
  let ws := s.matStart p c.mat c.t0
  let o := s.matOp p c c.mat.accBase ws lim
  s.runMatrix c p o none ws (s.matFill p c.mat o ws)

/-- The shadow groups of a WMATMUL_SPEC with their target groups (R213, R214). -/
def shadowPairs (q : MatP) (ws : List Walk) : List (Nat × Nat) :=
  ((accOffsets q.regions ws).map fun o => (q.shadowBase / 256 + o, q.accBase / 256 + o)).filter fun g => decide (g.1 < 8) && decide (g.2 < 8)

/-- WMATMUL_SPEC (R213), as far as cycle `lim`: its accumulators are the shadow region, whose groups become pending. -/
def State.wmatmulSpec (s : State) (c : Cmd) (p lim : Nat) : State :=
  let q := c.mat
  let ws := s.matStart p q c.t0
  let d := (s.part p).pred q.slot
  let s := s.setPred p q.slot { d with shadow := (d.shadow ++ shadowPairs q ws).dedup }
  let o := s.matOp p c q.shadowBase ws lim
  s.runMatrix c p o (some q.slot) ws (s.matFill p q o ws)

/-- A WMATMUL_SPEC is stopped in this cycle by a fault that its slot holds: it ends where it would have ended (R216). -/
def State.specStop (s : State) (c : Cmd) (p status detail : Nat) : State :=
  let q := c.mat
  let ws := s.matStart p q c.t0
  let f : Flt := ⟨s.now, 0, status, detail, 0⟩
  s.wideFault c p f [f] (some q.slot) (s.matEnd p (s.matOp p c q.shadowBase ws s.now) (s.walksNow p ws))

/-- The position groups of a convolution as groups of tokens (R93). -/
def ConvP.groups (q : ConvP) : List GroupE :=
  let size := 2048 / max 1 q.regions
  let tokens := q.ho * q.wo
  (List.range (cdiv tokens size)).map fun g => ⟨min size (tokens - g * size), true, true, 0, 0, 0, q.sW, q.mult⟩

/-- The output blocks of a convolution's items on a core, one after another from a row (R85, R93; log entry 20). -/
def placeItems (ofmt : Nat) : Nat → List Item → List Item
  | _, [] => []
  | row, i :: r => { i with outRow := row } :: placeItems ofmt (row + blockRows ofmt i.m) r

/-- The walks of a WCONV begun in cycle x, at its start. -/
def State.convStart (s : State) (p : Nat) (q : ConvP) (x : Nat) : List Walk :=
  let n := (s.part p).lcores
  (List.range n).map fun lc => Walk.start lc x 1 (placeItems q.ofmt q.outRow (dealItems q.ofmt (cdiv q.cout 256) n lc q.groups))

/-- WCONV with DEPTHWISE = 0 as a matrix operation (R93). -/
def State.convOp (s : State) (p : Nat) (c : Cmd) (ws : List Walk) (lim : Nat) : MatOp :=
  let q := c.conv
  let x := s.part p
  let ring := x.ringAt q.wstage
  ⟨q.wfmt, q.afmt, q.ofmt, q.mode, q.sat, q.kh * q.kw * cdiv q.cin 256, q.cout, q.wstage, ring.map fun r => r.geo x.pool,
   Config.convCbRow, Config.convCbCount, q.sA, q.accBase, q.regions, q.seed, c.step, some q, x.run.sum.mergeMax, 1, c.t0, lim,
   ring.bind (s.comingRow p), false, accGroups q.accBase q.regions ws, s.dropLimit p, 0, x.strm.bufs, none⟩

/-- The progress of a running command is forgotten unless it is this one's. -/
def State.ownWide (s : State) (c : Cmd) (p : Nat) : State := match (s.part p).run.wide with
  | some w => if w.queue = c.queue ∧ w.seq = c.seq then s else s.modRun p fun r => { r with wide := none }
  | none => s

/-- WMATMUL. -/
def execWmatmul (c : CmdId) (s : State) : Host.Outcome State Fault Refusal :=
  .next (match s.ready c 0x100 with
    | some d => match d.part with
      | some p => (s.ownWide d p).wmatmul d p s.now
      | none => s
    | none => s)

/-- WMATMUL_SPEC. -/
def execWmatmulSpec (c : CmdId) (s : State) : Host.Outcome State Fault Refusal :=
  .next (match s.ready c 0x101 with
    | some d => match d.part with
      | some p => (s.ownWide d p).wmatmulSpec d p s.now
      | none => s
    | none => s)

/-- The format pairs of Table 3-4 (R64). -/
def pairOk (w a : Nat) : Bool :=
  (w == 10 && a == 10) || ((w == 8 || w == 9) && (a == 8 || a == 9)) || ((w == 6 || w == 7) && (a == 6 || a == 7)) ||
  ((w == 3 || w == 4 || w == 11) && (a == 3 || a == 4)) || (w == 5 && a == 5) || (w == 1 && a == 1) || (w == 2 && a == 2)

/-- An output format that a command may name (R53, R86, R89). -/
def outOk (f : Nat) : Bool := decide (f < 11)

/-- ACC_BASE and ACC_REGIONS (Table 4-2). -/
def accOk (base regions : Nat) : Bool := decide (base ≤ 2047) && (regions == 1 || regions == 2 || regions == 4 || regions == 8)

/-- WMATMUL is refused on its parameters alone (R53, R64, R67, R86, R117). -/
def matBad (q : MatP) : Bool :=
  !(pairOk q.wfmt q.afmt && outOk q.ofmt && q.mode != 3 && decide (1 ≤ q.k32) && decide (q.k32 ≤ 2048) && decide (1 ≤ q.n32) &&
    decide (q.n32 ≤ 8192) && decide (1 ≤ q.groups) && decide (q.groups ≤ 4096) && accOk q.accBase q.regions && decide (q.wstage ≤ 16383) &&
    decide (q.cbRow ≤ 16383) && decide (q.gtab + cdiv q.groups 128 ≤ 16384) &&
    (q.wfmt != 11 || decide (q.cbRow + cdiv (q.cbCount + 1) 256 ≤ 16384)))

/-- The further parameters of WMATMUL_SPEC (R213). -/
def matSpecBad (q : MatP) : Bool :=
  matBad q || q.accBase % 256 != 0 || q.shadowBase % 256 != 0 || decide (2047 < q.shadowBase)

/-- A header table does not fit below WSTAGE_ROW (R97). -/
def tableBad (wstage ktiles : Nat) (ws : List Walk) : Bool := ws.any fun w => decide (wstage < cdiv (w.items.length * ktiles) 64)

/-- The linear rows that a core's tiles take by their headers as they stand. -/
def tileSpan (k : Core) (hdrRow ktiles : Nat) : Nat :=
  sumN ((List.range ktiles).map fun i => hdrRows (k.read (hdrRow * 4096 + 64 * i) 4))

/-- The runs of tile-memory rows that n linear weight rows from the first take: as they stand, or in their ring, which may wrap. -/
def weightRanges (ring : Option RingGeo) (wstage n : Nat) : List (Nat × Nat) := match ring with
  | some g => [(g.dataFirst, min n g.dataRows)]
  | none => [(wstage, n)]

/-- The ranges of rows (first, count) that a WMATMUL touches on a core: group table, header table and weights, codebooks, channel
scales, activation and output blocks. -/
def MatP.ranges (q : MatP) (ring : Option RingGeo) (k : Core) (w : Walk) : List (Nat × Nat) :=
  let kt := cdiv q.k32 8
  let h := cdiv (w.items.length * kt) 64
  [(q.gtab, cdiv q.groups 128), (q.wstage - h, h)] ++ weightRanges ring q.wstage (tileSpan k (q.wstage - h) (w.items.length * kt)) ++
  (if q.wfmt = 11 then [(q.cbRow, cdiv (q.cbCount + 1) 256)] else []) ++
  (w.items.flatMap fun i => (i.actRow, kt * blockRows q.afmt i.m) ::
    ((if i.drain then [(i.outRow, blockRows q.ofmt i.m)] else []) ++ (if i.drain && q.wfmt == 5 then [(i.cscaleRow + i.panel / 4, 1)] else [])))

/-- Named accumulator groups of PENDING slots other than `own` (R215). -/
def Part.pendingGroup (x : Part) (own : Option Nat) (g : Nat) : Bool :=
  x.strm.preds.any fun c => c.2.state == 1 && own != some c.1 && c.2.shadow.any fun a => a.1 == g

/-- WMATMUL is refused on the state in which it would begin (R97, R215). -/
def State.matRefused (s : State) (p : Nat) (q : MatP) : Bool :=
  let x := s.part p
  let ws := s.matStart p q s.now
  tableBad q.wstage (cdiv q.k32 8) ws ||
  (ws.any fun w => !w.items.isEmpty &&
    (q.ranges ((x.ringAt q.wstage).map fun r => r.geo x.pool) (s.lcore p w.core) w).any fun r => x.pendingRows none r.1 r.2) ||
  ((accGroups q.accBase q.regions ws).any fun g => x.pendingGroup none g)

/-- WMATMUL_SPEC is refused on the state in which it would begin (R97, R213, R215). -/
def State.matSpecRefused (s : State) (p : Nat) (q : MatP) : Bool :=
  let x := s.part p
  let ws := s.matStart p q s.now
  let d := x.pred q.slot
  let target := accGroups q.accBase q.regions ws
  let shadow := accGroups q.shadowBase q.regions ws
  d.state != 1 ||
  (match x.specRing q.slot with
   | some r => (r.geo x.pool).dataFirst != q.wstage
   | none => true) ||
  tableBad q.wstage (cdiv q.k32 8) ws || !wholeGroups q.regions ws ||
  (ws.any fun w => !w.items.isEmpty &&
    (q.ranges ((x.ringAt q.wstage).map fun r => r.geo x.pool) (s.lcore p w.core) w).any fun r => x.pendingRows (some q.slot) r.1 r.2) ||
  (ws.any fun w => w.items.any fun i => i.drain &&
    !(decide (d.outFirst ≤ i.outRow) && decide (i.outRow + blockRows q.ofmt i.m ≤ d.outFirst + d.outRows))) ||
  ((target ++ shadow).any fun g => x.pendingGroup (some q.slot) g) || (target.any fun g => shadow.contains g) ||
  (target.any fun g => d.shadow.any fun a => a.1 == g)

/-- WCONV is refused on its parameters alone (R53, R64, R71, R86, R89, R92; log entry 20 for sizes that leave no output and for
images past the last row). -/
def convBad (q : ConvP) : Bool :=
  let span := q.dil * (q.kh - 1) + 1
  let spanX := q.dil * (q.kw - 1) + 1
  let out := q.ho * q.wo * q.cout
  let bytes := fun (f e : Nat) => elemBytes f e + (if isMx f then cdiv e 32 else 0)
  !(pairOk q.wfmt q.afmt && outOk q.ofmt && q.mode != 3 && decide (1 ≤ q.cin) && decide (1 ≤ q.cout) && decide (1 ≤ q.h) && decide (q.h ≤ 4096) &&
    decide (1 ≤ q.w) && decide (q.w ≤ 4096) && decide (1 ≤ q.kh) && decide (q.kh ≤ 7) && decide (1 ≤ q.kw) && decide (q.kw ≤ 7) &&
    decide (q.padY ≤ 6) && decide (q.padX ≤ 6) && decide (span ≤ q.h + 2 * q.padY) && decide (spanX ≤ q.w + 2 * q.padX) &&
    decide (out ≤ 2 ^ 32) && decide (q.inRow ≤ 16383) && decide (q.outRow ≤ 16383) && decide (q.wstage ≤ 16383) &&
    decide (q.inRow + cdiv (bytes q.afmt (q.h * q.w * q.cin)) 4096 ≤ 16384) &&
    (if q.depthwise then q.cout == q.cin && decide (q.outRow + cdiv (bytes q.ofmt out) 4096 ≤ 16384) else accOk q.accBase q.regions))

/-- Rows that n elements of a format take with their MX scale bytes. -/
def spanRows (f n : Nat) : Nat := cdiv (elemBytes f n + (if isMx f then cdiv n 32 else 0)) 4096

/-- The ranges of rows that a WCONV touches on a core with these walks' items: the image, and the output and weights of a depthwise
one; else the core's output blocks, header table, weights and codebooks. -/
def ConvP.ranges (q : ConvP) (ring : Option RingGeo) (k : Core) (w : Walk) : List (Nat × Nat) :=
  (q.inRow, spanRows q.afmt (q.h * q.w * q.cin)) ::
  (if q.depthwise then
     [(q.outRow, spanRows q.ofmt (q.ho * q.wo * q.cout)), (q.wstage, spanRows q.wfmt (q.kh * q.kw * q.cin))]
   else
     let kt := q.kh * q.kw * cdiv q.cin 256
     let h := cdiv (w.items.length * kt) 64
     (q.outRow, sumN (w.items.map fun i => blockRows q.ofmt i.m)) :: (q.wstage - h, h) ::
       (weightRanges ring q.wstage (tileSpan k (q.wstage - h) (w.items.length * kt)) ++
        (if q.wfmt = 11 then [(Config.convCbRow, cdiv (Config.convCbCount + 1) 256)] else [])))

/-- WCONV is refused on the state in which it would begin (R97, R215; log entry 20 for outputs past the last row). -/
def State.convRefused (s : State) (p : Nat) (q : ConvP) : Bool :=
  let x := s.part p
  let ws := s.convStart p q s.now
  (ws.any fun w => (!w.items.isEmpty || q.depthwise) &&
    (q.ranges ((x.ringAt q.wstage).map fun r => r.geo x.pool) (s.lcore p w.core) w).any fun r => x.pendingRows none r.1 r.2) ||
  (if q.depthwise then decide (16384 < q.wstage + spanRows q.wfmt (q.kh * q.kw * q.cin))
   else (ws.any fun w => decide (16384 < q.outRow + sumN (w.items.map fun i => blockRows q.ofmt i.m))) ||
     tableBad q.wstage (q.kh * q.kw * cdiv q.cin 256) ws || ((accGroups q.accBase q.regions ws).any fun g => x.pendingGroup none g))

end Sys2Proof.Machine
end

