-- ==== Sys2Proof/Machine/Vector.lean ====
section
/-! DEFINITION. The vector unit: WVECTOR, WSAMPLE and WCONV (R57, R89 to R96, R109). Placements that the spec does not give
are log entries 20 and 21, and the cycles of the accesses log entry 10. -/

namespace Sys2Proof.Machine

/-- Tile-memory rows of one operand row of n elements: the elements, then in MX formats one scale byte per block of 32. -/
def vecRows (f n : Nat) : Nat := spanRows f n

/-- One operand row as FP32 values, from its bytes (R89). -/
def vecVals (f n : Nat) (bs : Bytes) : List Val :=
  (enumFrom 0 (unpack (bs.take (elemBytes f n)) (elemBits f) n)).map fun v =>
    rn (if isMx f then scaled (decodeElem f v.2) (u8 bs (elemBytes f n + v.1 / 32)) else decodeElem f v.2)

/-- A vector operation as it goes through its core's rows: the core as it is before the operation, the logical core, the operation's
first cycle, slot accesses made so far (two in a cycle, slot A then slot B), entries dropped by cycle (R110), and output writes:
byte address, bytes, NaNs that went to INT8. -/
structure VecRun where
  k : Core
  lc : Nat
  t0 : Nat
  n : Nat
  uses : List SlotUse
  drops : List (Nat × Nat)
  outs : List (Nat × Bytes × Nat)

/-- The slot and the cycle of an operation's access number i (R120, R121). -/
def VecRun.cycle (v : VecRun) (i : Nat) : Nat := v.t0 + i / 2

/-- Rows r to r + cnt − 1 are read in their order, each as its cycle sees it (R124). -/
def VecRun.rows (v : VecRun) (r cnt : Nat) : Bytes × VecRun :=
  ((List.range cnt).flatMap fun j => v.k.rowAt (v.cycle (v.n + j)) (r + j),
   { v with n := v.n + cnt, uses := v.uses ++ (List.range cnt).map fun j => readUse v.lc ((v.n + j) % 2) (v.cycle (v.n + j)) (r + j) })

/-- An operand row of n elements is read. -/
def VecRun.vals (v : VecRun) (f n row : Nat) : List Val × VecRun :=
  let b := v.rows row (vecRows f n)
  (vecVals f n b.1, b.2)

/-- A vector operation begins on a core. -/
def VecRun.start (k : Core) (lc t0 : Nat) : VecRun := ⟨k, lc, t0, 0, [], [], []⟩

/-- An output row is to be written from row r on. -/
def VecRun.out (v : VecRun) (r : Nat) (bs : Bytes) (nans : Nat) : VecRun := { v with outs := v.outs ++ [(r * 4096, bs, nans)] }

/-- One write access: its number among the operation's accesses, its address, bytes, NaNs that went to INT8. -/
abbrev VecOut := Nat × Nat × Bytes × Nat

/-- The rows that the output writes touch, one access each. -/
def splitRows (q : Nat × Bytes × Nat) : List (Nat × Bytes × Nat) :=
  (enumFrom 0 (rowsOf q.1 q.2.1.length)).filterMap fun r => (clipRow r.2 (q.1, q.2.1)).map fun c => (r.2 * 4096 + c.1, c.2, if r.1 = 0 then q.2.2 else 0)

/-- The writes of an operation of `cycles` cycles, in their order: two in a cycle, ending with the core's last cycle, after every
read (R91; log entry 10). -/
def VecRun.writes (v : VecRun) (cycles : Nat) : List VecOut :=
  let ws := v.outs.flatMap splitRows
  enumFrom (max v.n (2 * cycles - ws.length)) ws

/-- The access of a write. -/
def VecRun.writeUse (v : VecRun) (w : VecOut) : SlotUse := Sys2Proof.Machine.writeUse v.lc (w.1 % 2) (v.cycle w.1) w.2.1 w.2.2.1.length

/-- Constants of GELU: the FP32 values nearest √(2/π) and 0.044715 (R90). -/
def geluK0 : Val := ofFp32 0x3F4C422A
def geluK1 : Val := ofFp32 0x3D372713

/-- The logistic function as R90 rounds it. -/
def silu (a : Val) : Val := rn (a.mul (rn (Val.one.div (rn (Val.one.add (expCr a.neg))))))

def gelu (a : Val) : Val :=
  let cube := rn (a.mul (rn (a.mul a)))
  let t := tanhCr (rn (geluK0.mul (rn (a.add (rn (geluK1.mul cube))))))
  rn ((rn ((Val.fin false 1 (-1)).mul a)).mul (rn (Val.one.add t)))

/-- Element operations (Table 4-5). -/
def vecElem (op : Nat) (a b c : Val) : Val :=
  if op = 0 then rn a
  else if op = 1 then rn (a.add b)
  else if op = 2 then rn (a.mul b)
  else if op = 3 then rn ((a.mul b).add c)
  else if op = 4 then a.max b
  else if op = 5 then a.min b
  else if op = 6 then expCr a
  else if op = 7 then lnCr a
  else if op = 8 then rn (Val.one.div a)
  else if op = 9 then rn a.rsqrt
  else if op = 10 then silu a
  else if op = 11 then rn ((silu a).mul b)
  else gelu a

def ofNatVal (n : Nat) : Val := .fin false n 0

def softmaxRow (a : List Val) (imm : Val) : List Val :=
  let z := a.map fun x => rn (x.mul imm)
  let m := match z with
    | [] => Val.zero
    | x :: r => r.foldl Val.max x
  let e := z.map fun x => expCr (rn (x.add m.neg))
  let s := es e
  e.map fun x => rn (x.div s)

def rmsnormRow (a c : List Val) (imm : Val) : List Val :=
  let r := rn (rn ((rn ((es (a.map fun x => x.mul x)).div (ofNatVal a.length))).add imm)).rsqrt
  List.zipWith (fun x y => rn ((rn (x.mul r)).mul y)) a c

def layernormRow (a b c : List Val) (imm : Val) : List Val :=
  let mu := rn ((es a).div (ofNatVal a.length))
  let d := a.map fun x => rn (x.add mu.neg)
  let r := rn (rn ((rn ((es (d.map fun x => x.mul x)).div (ofNatVal a.length))).add imm)).rsqrt
  (d.zip (b.zip c)).map fun x => rn (((rn (x.1.mul r)).mul x.2.2).add x.2.1)

/-- x ranks strictly above y: NaN below −infinity (R90). -/
def ranksAbove (x y : Val) : Bool := if x.isNan then false else if y.isNan then true else y.lt x

/-- An index enters a descending list after every one that its value does not rank above. -/
def insertDesc (x : Nat × Val) : List (Nat × Val) → List (Nat × Val)
  | [] => [x]
  | y :: r => if ranksAbove x.2 y.2 then x :: y :: r else y :: insertDesc x r

/-- Indices and values in descending order, ties to the lower index. -/
def descending (l : List Val) : List (Nat × Val) := (enumFrom 0 l).foldl (fun acc x => insertDesc x acc) []

/-- SCAN along a row (R90). -/
def scanRow (h : Val) : List (Val × Val) → List Val
  | [] => []
  | (a, b) :: r =>
    let h' := rn ((a.mul h).add b)
    h' :: scanRow h' r

/-- Operand B is read element by element. -/
def usesB (op : Nat) : Bool := op == 1 || op == 2 || op == 3 || op == 4 || op == 5 || op == 11 || op == 0x15
/-- Operand C is read. -/
def usesC (op : Nat) : Bool := op == 3 || op == 0x11 || op == 0x12
/-- Row operations (R90, R91). -/
def isRowOp (op : Nat) : Bool := decide (0x10 ≤ op) && decide (op ≤ 0x14)

/-- Lane-cycles per element (Table 4-5). -/
def laneCycles (op : Nat) : Nat :=
  if op ≤ 5 then 1 else if op ≤ 7 then 4 else if op ≤ 9 then 2 else if op ≤ 11 then 6 else if op = 12 then 8
  else if op = 0x10 then 7 else if op = 0x11 then 4 else if op = 0x12 then 6 else if op = 0x13 then 1 else 2

/-- A listed operation. -/
def vecOpOk (op : Nat) : Bool := decide (op ≤ 12) || (decide (0x10 ≤ op) && decide (op ≤ 0x16))

/-- Converted elements of an output row: one for ROWSUM, K for TOPK, else n. -/
def VecP.outLen (q : VecP) : Nat := if q.op = 0x13 then 1 else if q.op = 0x14 then q.k else q.n

/-- Lanes of an output row: TOPK's indices count (R71). -/
def VecP.lanes (q : VecP) : Nat := if q.op = 0x14 then 2 * q.k else q.outLen

/-- Bytes of an output row. -/
def VecP.outBytes (q : VecP) : Nat :=
  elemBytes q.ofmt q.outLen + (if isMx q.ofmt then cdiv q.outLen 32 else 0) + (if q.op = 0x14 then 4 * q.k else 0)

/-- What the rows of a core share: operand C, and B where one vector serves every row (R89, R90). -/
structure VecShared where
  b : List Val
  c : List Val
  states : Bytes

/-- The shared operands are read first. -/
def VecP.shared (q : VecP) (cnt : Nat) (v : VecRun) : VecShared × VecRun :=
  if cnt = 0 then (⟨[], [], []⟩, v)
  else if q.op = 0x15 then
    (let r := v.rows q.cRow (cdiv (4 * cnt) 4096)
     (⟨[], [], r.1⟩, r.2))
  else
    let c := if usesC q.op then v.vals 0 q.n q.cRow else ([], v)
    let b := if q.op = 0x12 then c.2.vals q.fb q.n q.bRow else ([], c.2)
    (⟨b.1, c.1, []⟩, b.2)

/-- COMBINE of one output row: its list, then each source row of the core's share; one out of range is dropped in the cycle in which
it would be read (R90, R110). -/
def VecP.combine (q : VecP) (lo cnt i : Nat) (v : VecRun) : List Val × VecRun :=
  let l := v.rows (q.bRow + i * cdiv (8 * q.k) 4096) (cdiv (8 * q.k) 4096)
  (List.range q.k).foldl (fun (a : List Val × VecRun) j =>
    let src := u32 l.1 (8 * j)
    let w := ofFp32 (u32 l.1 (8 * j + 4))
    let r := if lo ≤ src ∧ src < lo + cnt then a.2.vals q.fa q.n (q.aRow + (src - lo) * vecRows q.fa q.n)
      else (List.replicate q.n Val.zero, { a.2 with drops := a.2.drops ++ [(a.2.cycle a.2.n, 1)] })
    (List.zipWith (fun y x => rn ((w.mul x).add y)) a.1 r.1, r.2)) (List.replicate q.n Val.zero, l.2)

/-- The values of one output row, and TOPK's indices. `i` is the row's place on its core, `lo` the core's first row and `cnt` its
rows. -/
def VecP.row (q : VecP) (sh : VecShared) (lo cnt i : Nat) (v : VecRun) : List Val × Bytes × VecRun :=
  if q.op = 0x16 then
    (let r := q.combine lo cnt i v
     (r.1, [], r.2))
  else
    let a := v.vals q.fa q.n (q.aRow + i * vecRows q.fa q.n)
    let b := if usesB q.op then a.2.vals q.fb q.n (q.bRow + i * vecRows q.fb q.n) else (a.1, a.2)
    let imm := ofFp32 q.imm
    if q.op = 0x10 then (softmaxRow a.1 imm, [], b.2)
    else if q.op = 0x11 then (rmsnormRow a.1 sh.c imm, [], b.2)
    else if q.op = 0x12 then (layernormRow a.1 sh.b sh.c imm, [], b.2)
    else if q.op = 0x13 then ([es a.1], [], b.2)
    else if q.op = 0x14 then
      (let d := (descending a.1).take q.k
       ((List.range q.k).map fun j => (match d[j]? with
          | some x => x.2
          | none => ofFp32 (Config.topPad (2 * j))),
        (List.range q.k).flatMap fun j => natLE 4 (match d[j]? with
          | some x => x.1
          | none => Config.topPad (2 * j + 1)), b.2))
    else if q.op = 0x15 then (scanRow (ofFp32 (u32 sh.states (4 * i))) (a.1.zip b.1), [], b.2)
    else ((a.1.zip (b.1.zip (if usesC q.op then sh.c else a.1))).map fun x => vecElem q.op x.1 x.2.1 x.2.2, [], b.2)

/-- The bytes of an output row of values, with block scales after the elements, and NaNs that went to INT8. -/
def vecOut (ofmt mode : Nat) (sat : Bool) (seed step lane0 : Nat) (vals : List Val) : Bytes × Nat :=
  let c := convertRow ofmt mode sat seed step (lane0 % 2 ^ 32) vals
  (packElems (elemBits ofmt) c.1 ++ codeBytes c.2.1, c.2.2)

/-- Bytes that a core reads and writes on slots A and B (R91). -/
def VecP.traffic (q : VecP) (cnt : Nat) : Nat :=
  let bytes := fun (f n : Nat) => elemBytes f n + (if isMx f then cdiv n 32 else 0)
  cnt * bytes q.fa q.n * (if q.op = 0x16 then q.k else 1) +
  (if usesB q.op then cnt * bytes q.fb q.n else if q.op = 0x12 then bytes q.fb q.n else if q.op = 0x16 then 8 * q.k * cnt else 0) +
  (if usesC q.op then 4 * q.n else if q.op = 0x15 then 4 * cnt else 0) + cnt * q.outBytes

/-- Cycles of a WVECTOR on one core (R91). -/
def VecP.cycles (q : VecP) (cnt : Nat) : Nat :=
  if q.op = 0x15 then 4 * q.n * cdiv cnt 4096 + 24
  else max (cdiv (cnt * q.n * laneCycles q.op) 4096) (cdiv (q.traffic cnt) 8192) + 24 + (if isRowOp q.op then 16 * cnt else 0)

/-- A core's rows of a WVECTOR in their order. -/
def VecP.run (q : VecP) (k : Core) (lc lcores t0 step : Nat) : VecRun :=
  let mine := dealt q.rows lcores lc
  let lo := minD 0 mine
  let cnt := mine.length
  let sh := q.shared cnt (VecRun.start k lc t0)
  let per := cdiv q.outBytes 4096
  (List.range cnt).foldl (fun (v : VecRun) i =>
    let r := q.row sh.1 lo cnt i v
    let o := vecOut q.ofmt q.mode q.sat q.seed step ((lo + i) * q.lanes) r.1
    r.2.2.out (q.outRow + i * per) (o.1 ++ r.2.1) o.2) sh.2

/-- One core's share of a vector operation: its rows, its cycles, the core's dropped entries before it. -/
structure VecShare where
  v : VecRun
  cycles : Nat
  dropped0 : Nat

/-- What of a share falls in cycles from `lo` to `hi`, writes before cycle `cut` only. -/
def VecShare.part (x : VecShare) (lo hi cut : Nat) : CoreRun :=
  let live := fun (c : Nat) => decide (lo ≤ c) && decide (c ≤ hi)
  let ws := (x.v.writes x.cycles).filter fun w => live (x.v.cycle w.1) && decide (x.v.cycle w.1 < cut)
  let k := ws.foldl (fun (k : Core) w => k.writeAt (x.v.cycle w.1) (w.1 % 2) w.2.1 w.2.2.1) x.v.k
  ⟨x.v.lc, { k with conv := satW 32 (k.conv + sumN (ws.map fun w => w.2.2.2)) },
   (x.v.uses.filter fun u => live u.cycle) ++ ws.map x.v.writeUse, x.cycles, x.v.drops.filter fun d => live d.1⟩

/-- The last cycle in which a core of the operation does anything, writes that find no room before it included. -/
def VecShare.last (x : VecShare) : Nat := ((x.v.writes x.cycles).map fun w => x.v.cycle w.1).foldl max (x.v.t0 + x.cycles - 1)

/-- A vector operation from its cores' shares, as far as cycle `lim`: it retires after its slowest core (R88), or ends in a fault that
its reads or drops meet, after which nothing is written. -/
def State.runVector (s : State) (c : Cmd) (p lim : Nat) (xs : List VecShare) : State :=
  let seen := s.wideFrom c p
  let us := xs.flatMap fun x => x.v.uses.filter fun u => decide (seen ≤ u.cycle) && decide (u.cycle ≤ lim)
  let drops := xs.flatMap fun x => dropFaults (s.dropLimit p) x.v.lc x.dropped0 x.v.drops
  let flts := (drops ++ s.useFaults p us).filter fun f => decide (seen ≤ f.cycle) && decide (f.cycle ≤ lim)
  match firstFlt flts with
  | some f => ((s.applyRuns p (xs.map fun x => x.part seen f.cycle f.cycle) none).setWide c p [] (f.cycle + 1)).wideFault c p f flts none none
  | none =>
    let s := (s.applyRuns p (xs.map fun x => x.part seen lim (lim + 1)) none).setWide c p [] (lim + 1)
    if xs.all fun x => decide (x.last ≤ lim) then
      s.wideDone c (xs.map fun x => (x.v.lc, sumN (x.v.drops.map Prod.snd))) ((xs.map VecShare.cycles).foldl max 0)
    else s

/-- WVECTOR (R89 to R91), as far as cycle `lim`. -/
def State.wvector (s : State) (c : Cmd) (p lim : Nat) : State :=
  let n := (s.part p).lcores
  s.runVector c p lim ((List.range n).map fun lc =>
    ⟨c.vec.run (s.lcore p lc) lc n c.t0 c.step, c.vec.cycles (dealt c.vec.rows n lc).length, s.dropTask p lc⟩)

def execWvector (c : CmdId) (s : State) : Host.Outcome State Fault Refusal :=
  .next (match s.ready c 0x102 with
    | some d => match d.part with
      | some p => (s.ownWide d p).wvector d p s.now
      | none => s
    | none => s)

/-- The shortest prefix whose exact sum reaches a bound (R95). -/
def keepPrefix (bound acc : Val) : List (Nat × Val) → List (Nat × Val)
  | [] => []
  | x :: r =>
    let a := acc.add x.2
    if a.lt bound then x :: keepPrefix bound a r else [x]

/-- The first entry whose exact running sum exceeds a threshold (R95). -/
def pick (thr acc : Val) : List (Nat × Val) → Option Nat
  | [] => none
  | x :: r =>
    let a := acc.add x.2
    if thr.lt a then some x.1 else pick thr a r

/-- wsample_row (R95): the index drawn, and whether a NaN was counted. -/
def sampleRow (q : SampleP) (x : List Val) (step row : Nat) : Nat × Bool :=
  if x.any Val.isNan then (0xFFFFFFFF, true)
  else
    let cand := (descending x).take (min q.topK q.n)
    match cand with
    | [] => (0, false)
    | c0 :: _ =>
      let temp := ofFp32 q.temp
      if temp.isZero || c0.2 == .inf false then (c0.1, false)
      else
        let z := cand.map fun c => (c.1, rn (c.2.div temp))
        let z0 := rn (c0.2.div temp)
        let w := z.map fun c => (c.1, expCr (rn (c.2.add z0.neg)))
        if w.any fun c => c.2.isNan then (Config.sampleOpen row % 2 ^ 32, false)
        else
          let total := sumExact (w.map Prod.snd)
          let keep := keepPrefix ((ofFp32 q.topP).mul total) .zero w
          let r := spoolRand q.seed 1 step row
          let thr := (((ofNatVal r).mul (sumExact (keep.map Prod.snd))).scale (-32))
          (match pick thr .zero keep with
           | some j => j
           | none => c0.1, false)

/-- A core's rows of a WSAMPLE (R95): indices packed from OUT_ROW in the order of its rows. -/
def SampleP.run (q : SampleP) (k : Core) (lc lcores t0 step : Nat) : VecRun :=
  let mine := dealt q.rows lcores lc
  let lo := minD 0 mine
  let r := (List.range mine.length).foldl (fun (a : List (Nat × Bool) × VecRun) i =>
    let x := a.2.vals q.fa q.n (q.aRow + i * vecRows q.fa q.n)
    (a.1 ++ [sampleRow q x.1 step (lo + i)], x.2)) ([], VecRun.start k lc t0)
  if mine.isEmpty then r.2 else r.2.out q.outRow (r.1.flatMap fun x => natLE 4 x.1) (r.1.filter Prod.snd).length

/-- Cycles of a WSAMPLE on a core with `cnt` rows (R96). -/
def SampleP.cycles (q : SampleP) (cnt : Nat) : Nat := cnt * (cdiv (3 * q.n) 4096 + 2 * q.topK + 48) + 24

/-- WSAMPLE, as far as cycle `lim`. -/
def State.wsample (s : State) (c : Cmd) (p lim : Nat) : State :=
  let n := (s.part p).lcores
  s.runVector c p lim ((List.range n).map fun lc =>
    ⟨c.samp.run (s.lcore p lc) lc n c.t0 c.step, c.samp.cycles (dealt c.samp.rows n lc).length, 0⟩)

def execWsample (c : CmdId) (s : State) : Host.Outcome State Fault Refusal :=
  .next (match s.ready c 0x104 with
    | some d => match d.part with
      | some p => (s.ownWide d p).wsample d p s.now
      | none => s
    | none => s)

/-- Rows read once each, in ascending order, as a table of their bytes. -/
def VecRun.table (v : VecRun) (rows : List Nat) : List (Nat × Bytes) × VecRun :=
  rows.foldl (fun (a : List (Nat × Bytes) × VecRun) r =>
    let b := a.2.rows r 1
    (a.1 ++ [(r, b.1)], b.2)) ([], v)

/-- Bytes from an address of a table of rows. -/
def tableBytes (t : List (Nat × Bytes)) (a n : Nat) : Bytes := (rowsOf a n).flatMap fun r =>
  match t.find? fun x => x.1 == r with
  | some x => (x.2.drop (max a (r * 4096) - r * 4096)).take (min (a + n) (r * 4096 + 4096) - max a (r * 4096))
  | none => []

/-- The weights of tap t of a depthwise convolution: byte addresses and lengths of their elements and MX scale bytes (R59; log
entry 20). -/
def ConvP.tapSpan (q : ConvP) (t : Nat) : (Nat × Nat) × (Nat × Nat) :=
  let e := t * q.cin
  ((q.wstage * 4096 + e * elemBits q.wfmt / 8, elemBytes q.wfmt q.cin),
   (q.wstage * 4096 + elemBytes q.wfmt (q.kh * q.kw * q.cin) + e / 32, if isMx q.wfmt then cdiv q.cin 32 else 0))

/-- The weights of tap t by channel, from the rows that hold them; codebook values of KC4 weights have no place of their own and are
open (log entry 20). -/
def ConvP.tap (q : ConvP) (rows : List (Nat × Bytes)) (t : Nat) : List Val :=
  let sp := q.tapSpan t
  let sc := tableBytes rows sp.2.1 sp.2.2
  (enumFrom 0 (unpack (tableBytes rows sp.1.1 sp.1.2) (elemBits q.wfmt) q.cin)).map fun v =>
    rn (if q.wfmt = 11 then decodeElem 3 (Config.depthBook (v.1 * 16 + v.2) % 256)
      else if isMx q.wfmt then scaled (decodeElem q.wfmt v.2) (u8 sc (v.1 / 32)) else decodeElem q.wfmt v.2)

/-- The channels of an image position, from the rows that hold them; zeros in the padding (R93). -/
def ConvP.pixel (q : ConvP) (rows : List (Nat × Bytes)) (y x : Int) : List Val := match q.span y x 0 q.cin with
  | none => List.replicate q.cin Val.zero
  | some sp =>
    let sc := tableBytes rows sp.scales.1 sp.scales.2
    (enumFrom 0 (unpack (tableBytes rows sp.elems.1 sp.elems.2) (elemBits q.afmt) q.cin)).map fun v =>
      rn (if isMx q.afmt then scaled (decodeElem q.afmt v.2) (u8 sc (v.1 / 32)) else decodeElem q.afmt v.2)

/-- One position of a depthwise convolution: an FMA chain over (ky, kx) per channel, starting from +0 (R94). -/
def ConvP.depthRow (q : ConvP) (rows : List (Nat × Bytes)) (taps : List (List Val)) (pos : Nat) : List Val :=
  (enumFrom 0 taps).foldl (fun y t =>
    let yx := q.place pos (t.1 / max 1 q.kw) (t.1 % max 1 q.kw)
    List.zipWith (fun y p => rn ((Val.mul p.1 p.2).add y)) y (t.2.zip (q.pixel rows yx.1 yx.2))) (List.replicate q.cout Val.zero)

/-- The image rows that output positions need, in ascending order. -/
def ConvP.imageRows (q : ConvP) (mine : List Nat) : List Nat :=
  let need := (mine.flatMap fun pos => (List.range (q.kh * q.kw)).flatMap fun t =>
    let yx := q.place pos (t / max 1 q.kw) (t % max 1 q.kw)
    match q.span yx.1 yx.2 0 q.cin with
    | some sp => rowsOf sp.elems.1 sp.elems.2 ++ rowsOf sp.scales.1 sp.scales.2
    | none => [])
  (List.range (spanRows q.afmt (q.h * q.w * q.cin))).map (· + q.inRow) |>.filter need.contains

/-- A core's positions of a depthwise convolution: output positions are dealt as rows, and the image and the weights are read row by
row, each once (R94; log entry 20). -/
def ConvP.run (q : ConvP) (k : Core) (lc lcores t0 step : Nat) : VecRun :=
  let mine := dealt (q.ho * q.wo) lcores lc
  if mine.isEmpty then VecRun.start k lc t0
  else
    let w := (VecRun.start k lc t0).table ((List.range (spanRows q.wfmt (q.kh * q.kw * q.cin))).map (· + q.wstage))
    let im := w.2.table (q.imageRows mine)
    let taps := (List.range (q.kh * q.kw)).map (q.tap w.1)
    let sw := if q.wfmt = 3 ∨ q.wfmt = 4 ∨ q.wfmt = 5 then q.sW else fp32 .one
    let sa := if q.afmt = 3 ∨ q.afmt = 4 ∨ q.afmt = 5 then q.sA else fp32 .one
    mine.foldl (fun (v : VecRun) pos =>
      let vals := (q.depthRow im.1 taps pos).map fun x => convertScaled x (ofFp32 sw) (ofFp32 sa) (ofFp32 q.mult)
      let r := convertRow q.ofmt q.mode q.sat q.seed step (pos * q.cout % 2 ^ 32) vals
      let e := pos * q.cout
      let outs := [(q.outRow * 4096 + e * elemBits q.ofmt / 8, packElems (elemBits q.ofmt) r.1, r.2.2)] ++
        (if isMx q.ofmt then [(q.outRow * 4096 + elemBytes q.ofmt (q.ho * q.wo * q.cout) + e / 32, codeBytes r.2.1, 0)] else [])
      { v with outs := v.outs ++ outs }) im.2

/-- Bytes that a core with `cnt` positions reads and writes over slots A and B, MX scale bytes with them (R91, R94). -/
def ConvP.traffic (q : ConvP) (cnt : Nat) : Nat :=
  let bytes := fun (f n : Nat) => elemBytes f n + (if isMx f then cdiv n 32 else 0)
  bytes q.afmt (cnt * q.cin * (q.kh * q.kw)) + bytes q.wfmt (q.kh * q.kw * q.cin) + bytes q.ofmt (cnt * q.cout)

/-- Cycles of a depthwise convolution on a core with `cnt` positions: those of R91 with kh × kw lane-cycles (R94). -/
def ConvP.cycles (q : ConvP) (cnt : Nat) : Nat := max (cdiv (cnt * q.cout * (q.kh * q.kw)) 4096) (cdiv (q.traffic cnt) 8192) + 24

/-- WCONV (R92 to R94), as far as cycle `lim`. -/
def State.wconv (s : State) (c : Cmd) (p lim : Nat) : State :=
  let q := c.conv
  let n := (s.part p).lcores
  if q.depthwise then s.runVector c p lim ((List.range n).map fun lc =>
    ⟨q.run (s.lcore p lc) lc n c.t0 c.step, q.cycles (dealt (q.ho * q.wo) n lc).length, 0⟩)
  else
    let ws := s.convStart p q c.t0
    s.runMatrix c p (s.convOp p c ws lim) none ws ⟨[], []⟩

def execWconv (c : CmdId) (s : State) : Host.Outcome State Fault Refusal :=
  .next (match s.ready c 0x103 with
    | some d => match d.part with
      | some p => (s.ownWide d p).wconv d p s.now
      | none => s
    | none => s)

/-- WVECTOR is refused on its parameters alone (R53, R67, R69, R71, R89, R90, R117). -/
def vecBad (q : VecP) : Bool :=
  !(vecOpOk q.op && decide (q.fa < 11) && decide (q.fb < (if usesB q.op || q.op == 0x12 then 11 else 12)) && outOk q.ofmt && q.mode != 3 &&
    decide (1 ≤ q.rows) && decide (q.rows ≤ 2 ^ 24) && decide (1 ≤ q.n) && decide (q.n ≤ 262144) && decide (q.aRow ≤ 16383) &&
    decide (q.bRow ≤ 16383) && decide (q.cRow ≤ 16383) && decide (q.outRow ≤ 16383) && decide (q.rows * q.lanes ≤ 2 ^ 32) &&
    (!isMx q.ofmt || q.outLen % 32 == 0) && (!isMx q.fa || q.n % 32 == 0) && (!(isMx q.fb && (usesB q.op || q.op == 0x12)) || q.n % 32 == 0) &&
    (if q.op = 0x14 then decide (1 ≤ q.k) && decide (q.k ≤ 64) else if q.op = 0x16 then decide (1 ≤ q.k) && decide (q.k ≤ 16) else true))

/-- Ranges of rows (first, count) of a WVECTOR on a core with `cnt` rows. -/
def VecP.ranges (q : VecP) (cnt : Nat) : List (Nat × Nat) :=
  [(q.aRow, cnt * vecRows q.fa q.n), (q.outRow, cnt * cdiv q.outBytes 4096)] ++
  (if usesB q.op then [(q.bRow, cnt * vecRows q.fb q.n)] else if q.op = 0x12 then [(q.bRow, vecRows q.fb q.n)]
   else if q.op = 0x16 then [(q.bRow, cnt * cdiv (8 * q.k) 4096)] else []) ++
  (if usesC q.op then [(q.cRow, vecRows 0 q.n)] else if q.op = 0x15 then [(q.cRow, cdiv (4 * cnt) 4096)] else [])

/-- A range of rows runs past row 16,383, or is pending (R117, R215; log entry 21). -/
def Part.rangeBad (x : Part) (r : Nat × Nat) : Bool := decide (16384 < r.1 + r.2) || x.pendingRows none r.1 r.2

/-- WVECTOR is refused on the state in which it would begin. -/
def State.vecRefused (s : State) (p : Nat) (q : VecP) : Bool :=
  let x := s.part p
  (List.range x.lcores).any fun lc => (q.ranges (dealt q.rows x.lcores lc).length).any x.rangeBad

/-- WSAMPLE is refused on its parameters alone (R53, R89, R95, R117). -/
def sampBad (q : SampleP) : Bool :=
  let p := ofFp32 q.topP
  let t := ofFp32 q.temp
  !(decide (q.fa < 11) && decide (1 ≤ q.rows) && decide (q.rows ≤ 2 ^ 24) && decide (1 ≤ q.n) && decide (q.n ≤ 262144) &&
    decide (q.aRow ≤ 16383) && decide (q.outRow ≤ 16383) && Val.lt .zero p && !(Val.lt .one p) && !p.isNan &&
    !t.isNan && !t.isInf && !(t.lt .zero) && decide (1 ≤ q.topK) && decide (q.topK ≤ 1024) && (!isMx q.fa || q.n % 32 == 0))

/-- WSAMPLE is refused on the state in which it would begin. -/
def State.sampRefused (s : State) (p : Nat) (q : SampleP) : Bool :=
  let x := s.part p
  (List.range x.lcores).any fun lc =>
    let cnt := (dealt q.rows x.lcores lc).length
    x.rangeBad (q.aRow, cnt * vecRows q.fa q.n) || x.rangeBad (q.outRow, cdiv (4 * cnt) 4096)

end Sys2Proof.Machine
end

