-- ==== Sys2Proof/Machine/Bind.lean ====
section
/-! DEFINITION. The bridle fabric and binding: routes, program images, phase lists, forecasts, and what binding makes of a
traffic plan (R123, R139 to R154, R158 to R164, R310 to R313, R354, R355, R446, R447). -/

namespace Sys2Proof.Machine

/-- Column and row of a die (Table 0-3). -/
def dieCol (d : Nat) : Nat := d / 4
def dieRow (d : Nat) : Nat := d % 4

/-- The die of a core position, and of a stack (R158). -/
def dieOf (n : Nat) : Nat := n / 4
def stackDie (m : Nat) : Nat := m / 2

/-- The die that hosts a tether port (Table 7-1). -/
def portDie (n : Nat) : Nat :=
  if n ≤ 2 then 0 else if n ≤ 5 then 4 else if n ≤ 7 then 8 else if n ≤ 9 then 12 else if n ≤ 12 then 16 else if n ≤ 19 then 20
  else if n ≤ 23 then 21 else if n ≤ 27 then 22 else if n ≤ 34 then 23 else if n ≤ 37 then 19 else if n ≤ 39 then 15
  else if n ≤ 41 then 11 else if n ≤ 44 then 7 else if n ≤ 51 then 3 else if n ≤ 55 then 2 else if n ≤ 59 then 1 else 0

/-- Hops between two dies (R144). -/
def hops (a b : Nat) : Nat := (dieCol a - dieCol b) + (dieCol b - dieCol a) + ((dieRow a - dieRow b) + (dieRow b - dieRow a))

/-- A link direction by the core record that reports it: north of die d is record 4d, east 4d + 1, south 4d + 2, west
4d + 3 (R157). -/
def linkN (d : Nat) : Nat := 4 * d
def linkE (d : Nat) : Nat := 4 * d + 1
def linkS (d : Nat) : Nat := 4 * d + 2
def linkW (d : Nat) : Nat := 4 * d + 3

/-- Links from column a to column b along row r, with hop indices from i. -/
def alongRow (r a b i : Nat) : List (Nat × Nat) :=
  if a ≤ b then (List.range (b - a)).map fun j => (linkE ((a + j) * 4 + r), i + j)
  else (List.range (a - b)).map fun j => (linkW ((a - j) * 4 + r), i + j)

/-- Links from row a to row b along column c, with hop indices from i. -/
def alongCol (c a b i : Nat) : List (Nat × Nat) :=
  if a ≤ b then (List.range (b - a)).map fun j => (linkS (c * 4 + a + j), i + j)
  else (List.range (a - b)).map fun j => (linkN (c * 4 + (a - j)), i + j)

/-- The route from die a to die b: link directions with hop indices (R144, R145). -/
def route (colFirst : Bool) (a b : Nat) : List (Nat × Nat) :=
  if colFirst then
    alongCol (dieCol a) (dieRow a) (dieRow b) 0 ++
      alongRow (dieRow b) (dieCol a) (dieCol b) ((dieRow a - dieRow b) + (dieRow b - dieRow a))
  else
    alongRow (dieRow a) (dieCol a) (dieCol b) 0 ++
      alongCol (dieCol b) (dieRow a) (dieRow b) ((dieCol a - dieCol b) + (dieCol b - dieCol a))

/-- The broadcast tree from die a (R151): each link once. -/
def tree (colFirst : Bool) (a : Nat) (dests : List Nat) : List (Nat × Nat) := (dests.flatMap fun b => route colFirst a b).dedup

/-- The core cycle in which a word sent in round r over h hops is ready (R144). -/
def readyCycle (r h : Nat) : Nat := cdiv (4 * (4 * r + 76 + 48 * h)) 5

/-- The first core cycle at or after the begin of round r (3.2 cycles per round). -/
def roundStart (r : Nat) : Nat := cdiv (16 * r) 5

/-- A traffic plan entry from its 32 bytes (Table 7-3). -/
def planEntry (b : Bytes) : PlanEntry :=
  let f := u8 b 0
  ⟨bits f 1 0, bit f 2, bit f 3, bits f 5 4, bits f 7 6, u16 b 2, u16 b 4, u16 b 6, u16 b 8, u16 b 10, u32 b 12, u32 b 16, u16 b 20,
   u16 b 22, u64 b 24, u32 b 20⟩

/-- A phase list entry (Table 7-6). -/
def phaseEntry (b : Bytes) : Phase := ⟨u8 b 0, u16 b 2, u16 b 4, u32 b 8, u32 b 12⟩

/-- The class that an entry's kinds give (R147). -/
def classOf (sk dk : Nat) : Option Nat :=
  if sk = 0 then (if dk = 0 then some 2 else if dk ≤ 2 then some 1 else none)
  else if sk ≤ 2 then (if dk = 0 then some 0 else if dk = 1 then some 1 else none)
  else none

/-- What binding works with: the Core Map, the program's logical cores, lanes by class, bursts, ports, page codes, failed
link directions (R148, R153, R160, R313). -/
structure BindCtx where
  map : List Nat
  lcores : Nat
  read : Nat
  write : Nat
  remote : Nat
  bursts : Nat
  ports : Nat
  pages : List Nat
  failed : List Nat

/-- The lane share of a class. -/
def BindCtx.share (c : BindCtx) (cls : Nat) : Nat := if cls = 0 then c.read else if cls = 1 then c.write else c.remote

/-- The page code of a carrier address (R160, R326): 0 unmapped, 1 private, 2 shared. -/
def pageCode (pages : List Nat) (caddr : Nat) : Nat :=
  let g := bits caddr 41 36 * 48 + bits caddr 35 30
  bits (pages.getD (g / 32) 0) (2 * (g % 32) + 1) (2 * (g % 32))

/-- The die of logical core c. -/
def BindCtx.die (c : BindCtx) (lc : Nat) : Nat := dieOf (c.map.getD lc 0)

/-- The source die of an entry. -/
def PlanEntry.srcDie (e : PlanEntry) (c : BindCtx) : Nat :=
  if e.srcKind = 0 then c.die e.src else if e.srcKind = 1 then stackDie e.src else portDie e.src

/-- The destination logical cores of an entry. -/
def PlanEntry.dstCores (e : PlanEntry) : List Nat :=
  if e.dstKind = 0 then (List.range (e.dstLast + 1 - e.dstFirst)).map (· + e.dstFirst) else []

/-- The destination dies of an entry. -/
def PlanEntry.dstDies (e : PlanEntry) (c : BindCtx) : List Nat :=
  if e.dstKind = 0 then (e.dstCores.map c.die).dedup else if e.dstKind = 1 then [stackDie e.dstFirst] else [portDie e.dstFirst]

/-- Bytes that an entry moves, and the rounds that it takes on each link (R148). -/
def PlanEntry.bytes (e : PlanEntry) : Nat := 4096 * e.rows
def PlanEntry.rounds (e : PlanEntry) : Nat := cdiv (64 * e.rows) (max 1 e.lanes)

/-- The destination carrier address of an entry into a stack (R147). -/
def PlanEntry.dstAddr (e : PlanEntry) : Nat := if e.srcKind = 1 then bits e.back 29 0 * 4096 else e.addr

/-- A carrier address stands in the stack named, on a row boundary, and the transfer ends within the stack (R159). -/
def caddrOk (caddr stack len : Nat) : Bool :=
  caddr % 4096 == 0 && decide (caddr < 2 ^ 42) && bits caddr 41 36 == stack && decide (bits caddr 35 0 + len ≤ 0xC00000000)

/-- Every page that a transfer touches has one of the codes. -/
def pagesOk (pages : List Nat) (caddr len : Nat) (write : Bool) : Bool :=
  (List.range (len / 2 ^ 30 + 2)).all fun i =>
    let a := caddr / 2 ^ 30 * 2 ^ 30 + i * 2 ^ 30
    if caddr + len ≤ a then true
    else
      let k := pageCode pages a
      if write then k == 1 else k == 1 || k == 2

/-- Bursts that an entry puts into one stack period at most (R163). -/
def PlanEntry.perPeriod (e : PlanEntry) : Nat := min (2 * e.lanes) (64 * e.rows)

/-- The entry is well formed (Table 7-5). -/
def PlanEntry.wellFormed (e : PlanEntry) (c : BindCtx) : Bool :=
  let n := min c.lcores c.map.length
  let stack := e.srcKind == 1 || e.dstKind == 1
  classOf e.srcKind e.dstKind == some e.cls &&
  decide (1 ≤ e.lanes) && decide (e.lanes ≤ 368) && decide (1 ≤ e.rows) && decide (e.rows ≤ 16384) &&
  (if e.srcKind = 0 then decide (e.src < n) && decide (e.srcRow + e.rows ≤ 16384)
   else if e.srcKind = 1 then decide (e.src < 48) && caddrOk e.addr e.src e.bytes && pagesOk c.pages e.addr e.bytes false
   else decide (e.src < 64) && c.ports.testBit e.src) &&
  (stack || e.addr == 0) &&
  (if e.dstKind = 0 then decide (e.dstFirst ≤ e.dstLast) && decide (e.dstLast < n) && decide (e.dstRow + e.rows ≤ 16384)
   else if e.dstKind = 1 then decide (e.dstFirst < 48) && caddrOk e.dstAddr e.dstFirst e.bytes && pagesOk c.pages e.dstAddr e.bytes true
   else decide (e.dstFirst < 64) && c.ports.testBit e.dstFirst) &&
  (!stack || (decide (e.rounds ≤ 1922) && decide (e.perPeriod ≤ c.bursts))) &&
  !((tree e.colFirst (e.srcDie c) (e.dstDies c)).any fun l => c.failed.contains l.1)

/-- Lanes or bursts held over a run of rounds: key, first round, rounds, amount per round. -/
structure Held where
  key : Nat
  first : Nat
  rounds : Nat
  amount : Nat

/-- The most that is held at a key within rounds lo to lo + k − 1. -/
def heldMax (u : List Held) (key lo k : Nat) : Nat :=
  let w := u.filter fun h => h.key == key && decide (h.first < lo + k) && decide (lo < h.first + h.rounds)
  let at' := fun (x : Nat) => sumN ((w.filter fun h => decide (h.first ≤ x) && decide (x < h.first + h.rounds)).map Held.amount)
  ((lo :: (w.map Held.first).filter fun x => decide (lo ≤ x)).map at').foldl max 0

/-- The key of a link direction's lanes of a class, and of a stack's bursts. -/
def laneKey (link cls : Nat) : Nat := link * 4 + cls
def stackKey (m : Nat) : Nat := 1000 + m

/-- The bursts of an entry that stack m moves from round lo on: LANES in every round, what is left in the last one (R161). -/
def PlanEntry.stackHeld (e : PlanEntry) (m lo : Nat) : List Held :=
  let k := e.rounds
  [⟨stackKey m, lo, k - 1, e.lanes⟩, ⟨stackKey m, lo + (k - 1), 1, 64 * e.rows - (k - 1) * e.lanes⟩]

/-- What is held in stack period p of the anchor's numbering (R161). -/
def Held.inPeriod (h : Held) (p : Nat) : Nat := (min (h.first + h.rounds) (2 * p + 2) - max h.first (2 * p)) * h.amount

/-- A stack transfer fits at round lo: no refresh period, the anchor frame being one that holds a refresh (R162; log entry 22), and
the bursts of every period within the share (R163). -/
def stackFits (u : List Held) (bursts m lo : Nat) (e : PlanEntry) : Bool :=
  let all := e.stackHeld m lo ++ u.filter fun h => h.key == stackKey m
  (List.range ((lo + e.rounds - 1) / 2 + 1 - lo / 2)).all fun i =>
    decide (39 ≤ (lo / 2 + i) % 1000) && decide (sumN (all.map fun h => h.inPeriod (lo / 2 + i)) ≤ bursts)

/-- S cycles of logical cores held: (core, first cycle, cycles). -/
abbrev Busy := List (Nat × Nat × Nat)

/-- The S cycle x of core lc is held. -/
def Busy.held (b : Busy) (lc x : Nat) : Bool := b.any fun h => h.1 == lc && decide (h.2.1 ≤ x) && decide (x < h.2.1 + h.2.2)

/-- The first free S cycle from x on. -/
def freeFrom (b : Busy) (lc : Nat) : Nat → Nat → Nat
  | 0, x => x
  | fuel + 1, x => if Busy.held b lc x then freeFrom b lc fuel (x + 1) else x

/-- The latest free S cycle at or before x, counting down. -/
def freeBack (b : Busy) (lc : Nat) : Nat → Option Nat
  | 0 => if Busy.held b lc 0 then none else some 0
  | x + 1 => if Busy.held b lc (x + 1) then freeBack b lc x else some (x + 1)

/-- The most cycles that a core's S slot is held for in all. -/
def Busy.total (b : Busy) : Nat := sumN (b.map fun h => h.2.2)

/-- The read cycles of rows j − 1 down to 0 on the source core, `next` being the read cycle of row j (R123, R148). -/
def sourceReads (lc r lanes : Nat) : Nat → Option Nat → Busy → List Nat → Option (List Nat × Busy)
  | 0, _, b, acc => some (acc, b)
  | j + 1, next, b, acc =>
    let rj := r + 64 * j / max 1 lanes
    -- the last cycle c with c + 1 ≤ 3.2 rj
    let top := 16 * rj / 5
    let top := match next with
      | some n => min top n
      | none => top
    if top = 0 then none
    else match freeBack b lc (top - 1) with
      | some c => sourceReads lc r lanes j (some c) ((lc, c, 1) :: b) (c :: acc)
      | none => none

/-- Words that wait in a die switch for a core: (core, from, to, words). -/
abbrev Waits := List (Nat × Nat × Nat × Nat)

/-- The most words that wait for a core at one time. -/
def waitPeak (w : Waits) (lc : Nat) : Nat :=
  let own := w.filter fun x => x.1 == lc
  (own.map fun x => sumN ((own.filter fun y => decide (y.2.1 ≤ x.2.1) && decide (x.2.1 < y.2.2.1)).map fun y => y.2.2.2)).foldl max 0

/-- The deliveries of an entry's rows on one core: their cycles, and the words that wait (R148). -/
def deliver (lc r lanes rows h : Nat) (b : Busy) : List Nat × Busy × Waits :=
  (List.range rows).foldl (fun (a : List Nat × Busy × Waits) j =>
    let last := r + (64 * j + 63) / max 1 lanes
    let c := freeFrom a.2.1 lc (Busy.total a.2.1 + 1) (readyCycle last h)
    let first := r + 64 * j / max 1 lanes
    let ws := (List.range (last + 1 - first)).filterMap fun i =>
      let q := first + i
      let lo := max (64 * j) ((q - r) * lanes)
      let hi := min (64 * (j + 1)) ((q - r + 1) * lanes)
      if readyCycle q h < c then some (lc, readyCycle q h, c, hi - lo) else none
    (a.1 ++ [c], (lc, c, 1) :: a.2.1, ws ++ a.2.2)) ([], b, [])

/-- Binding as it goes on: lanes and bursts held, S cycles, waiting words, the entries bound so far, the cause once unfit. -/
structure BindSt where
  used : List Held
  busy : Busy
  waits : Waits
  bound : List Bound
  cause : Option Nat

/-- Two reads belong to one merged-read group (R152). -/
def PlanEntry.sameGroup (a b : PlanEntry) : Bool :=
  a.merge && b.merge && a.cls == 0 && b.cls == 0 && a.srcKind == 1 && b.srcKind == 1 && a.src == b.src && a.addr == b.addr &&
  a.rows == b.rows && a.sendRound == b.sendRound

/-- The first round from r on at which an entry fits on its links and stacks. -/
def fitRound (c : BindCtx) (e : PlanEntry) (links : List (Nat × Nat)) (h : Nat) (u : List Held) : Nat → Nat → Nat
  | 0, r => r
  | fuel + 1, r =>
    let ok := (links.all fun l => decide (heldMax u (laneKey l.1 e.cls) (r + 8 + 12 * l.2) e.rounds + e.lanes ≤ c.share e.cls)) &&
      (e.srcKind != 1 || stackFits u c.bursts e.src r e) &&
      (e.dstKind != 1 || stackFits u c.bursts e.dstFirst (r + 8 + 12 * h) e)
    if ok then r else fitRound c e links h u fuel (r + 1)

/-- Detail of an unfit entry: index, lateness or none (R446). -/
def unfitDetail (i late : Nat) : Nat := i + late * 2 ^ 32

/-- One entry is bound (R148); `group` is the plan it stands in, for merged reads (R152, R164). -/
def bindEntry (c : BindCtx) (plan : List PlanEntry) (s : BindSt) (ie : Nat × PlanEntry) : BindSt :=
  let i := ie.1
  let e := ie.2
  if s.cause.isSome then s
  else if e.wellFormed c = false ∨ c.share e.cls < e.lanes then { s with cause := some (unfitDetail i 0xFFFFFFFF) }
  else
    let peers := (enumFrom 0 plan).filter fun x => x.2.sameGroup e
    let earlier := peers.find? fun x => decide (x.1 < i)
    let all := if peers.isEmpty then [e] else peers.map Prod.snd
    let dies := (all.flatMap fun x => x.dstDies c).dedup
    let a := e.srcDie c
    let links := tree e.colFirst a dies
    let h := if e.dstKind = 1 then hops a (stackDie e.dstFirst) else 0
    let fuel := (s.used.map fun u => u.first + u.rounds).foldl max 0 + 8200
    let r := match earlier with
      | some x => (s.bound.getD x.1 ⟨0, [], []⟩).round
      | none => fitRound c e links h s.used fuel e.sendRound
    let held : List Held := if earlier.isSome then [] else
      (links.map fun l => ⟨laneKey l.1 e.cls, r + 8 + 12 * l.2, e.rounds, e.lanes⟩) ++
      (if e.srcKind = 1 then e.stackHeld e.src r else []) ++
      (if e.dstKind = 1 then e.stackHeld e.dstFirst (r + 8 + 12 * h) else [])
    let reads := if e.srcKind = 0 then sourceReads e.src r e.lanes e.rows none s.busy [] else some ([], s.busy)
    match reads with
    | none => { s with cause := some (unfitDetail i 0xFFFFFFFF) }
    | some (rs, busy) =>
      let d := e.dstCores.foldl (fun (x : List (Nat × List Nat) × Busy × Waits) lc =>
        let v := deliver lc r e.lanes e.rows (hops a (c.die lc)) x.2.1
        (x.1 ++ [(lc, v.1)], v.2.1, v.2.2 ++ x.2.2)) ([], busy, s.waits)
      if e.dstCores.any fun lc => decide (256 < waitPeak d.2.2 lc) then { s with cause := some (unfitDetail i 0xFFFFFFFF) }
      else
        match (d.1.flatMap Prod.snd).find? fun x => decide (e.need < x) with
        | some x => { s with cause := some (unfitDetail i (min (x - e.need) 0xFFFFFFFE)) }
        | none => ⟨held ++ s.used, d.2.1, d.2.2, s.bound ++ [⟨r, rs, d.1⟩], none⟩

/-- S cycles of a phase list, and whether two phases claim one of a core (R123, R446). -/
def phaseBusy (l : List Phase) : Busy × Bool :=
  l.foldl (fun (a : Busy × Bool) f =>
    let own := (List.range (f.last + 1 - f.first)).map fun i => (i + f.first, f.cycle, f.cycles)
    let clash := own.any fun x => a.1.any fun y => y.1 == x.1 && decide (y.2.1 < x.2.1 + x.2.2) && decide (x.2.1 < y.2.1 + y.2.2)
    (own ++ a.1, a.2 || clash)) ([], false)

/-- bind (R148): the bound entries, or the cause of Table 7-5. -/
def bindPlan (c : BindCtx) (plan : List PlanEntry) (phases : List Phase) : List Bound × Option Nat :=
  let ph := phaseBusy phases
  if ph.2 then ([], some (unfitDetail 0xFFFFFFFF 0xFFFFFFFF))
  else
    let s := (enumFrom 0 plan).foldl (bindEntry c plan) ⟨[], ph.1, [], [], none⟩
    (s.bound, s.cause)

/-- The context of a partition and a program's logical cores. -/
def State.bindCtx (s : State) (p lcores : Nat) : BindCtx :=
  let x := s.part p
  let failed := (List.range 96).filter fun n => s.get .CORE_BRIDLE_LINK_STATE n == 2
  match x.bind.shape with
  | some sh => ⟨x.cores, lcores, bits sh.bridle 8 0, bits sh.bridle 24 16, bits sh.bridle 40 32, sh.bursts, sh.ports, sh.pages, failed⟩
  | none => ⟨[], lcores, 0, 0, 0, 0, 0, [], failed⟩

/-- Instance of PART[p]_PROG[h] registers. -/
def progIdx (p h : Nat) : Nat := p * 32 + h

def State.setSlot (s : State) (p h : Nat) (v : Slot) : State := s.modPart p fun x => { x with slots := Tab.put Slot.init x.slots h v }

/-- The Detail of a forecast that the partition's limits do not allow (Table 7-5). -/
def forecastCause : Nat := unfitDetail 0xFFFFFFFE 0xFFFFFFFF

/-- A slot's plan is bound on the present Core Map (R148, R312, R355): READY or UNFIT with its cause. -/
def State.bindSlot (s : State) (p h : Nat) : State :=
  let v := (s.part p).slot h
  let i := progIdx p h
  let b := bindPlan (s.bindCtx p (s.get .PART_PROG_STAT_LCORES i)) v.plan v.phases
  let tooMuch := decide (s.get .PWR_PART_ALLOC p < v.peak) || v.forecast.any fun f => decide (240 < f.peak)
  let cause := match b.2 with
    | some c => some c
    | none => if tooMuch then some forecastCause else none
  (s.setSlot p h { v with bound := b.1, cause := (match cause with
      | some c => c
      | none => 0) }).put .PART_PROG_STAT_STATE i (if cause.isSome then 3 else 2)

/-- A load reaches an end state: SERIAL advances (R311), PROG_READY is raised (R328). -/
def State.endLoad (s : State) (p h : Nat) : State :=
  let i := progIdx p h
  (s.put .PART_PROG_STAT_SERIAL i ((s.get .PART_PROG_STAT_SERIAL i + 1) % 2 ^ 27)).partEvent .VFEVT_STAT_PROG_READY p

/-- The forecast section agrees with the image (R355). -/
def forecastOk (b : Bytes) : Bool :=
  let segs := u16 b 2
  let n := u32 b 4
  u16 b 0 == 1 && decide (1 ≤ segs) && decide (segs ≤ 4096) && b.length == 16 + 8 * segs + 8 * n &&
  ((List.range segs).all fun i =>
    let e := (b.drop (16 + 8 * i)).take 8
    decide (1 ≤ u16 e 4) && decide (u32 e 0 + u16 e 4 ≤ n)) &&
  u32 b 8 == ((List.range n).map fun i => u16 ((b.drop (16 + 8 * segs + 8 * i)).take 8) 0).foldl max 0

/-- A phase entry that R447 allows. -/
def phaseOk (lcores : Nat) (f : Phase) : Bool :=
  decide (f.kind ≤ 2) && decide (f.cycles ≠ 0) && decide (f.first ≤ f.last) && decide (f.last < lcores)

/-- The header of an image passes R310. -/
def imageOk (b : Bytes) : Bool :=
  let po := u32 b 4
  let pe := u32 b 8
  let fo := u32 b 12
  let fl := u32 b 16
  let ho := u32 b 20
  let hc := u32 b 24
  decide (64 ≤ b.length) && u16 b 0 == 1 && decide (1 ≤ u8 b 2) && decide (u8 b 2 ≤ 96) && decide (bits (u8 b 3) 2 0 ≤ 4) &&
  po % 64 == 0 && ho % 16 == 0 && decide (1 ≤ pe) && decide (pe ≤ 65536) && decide (hc ≤ 65536) &&
  decide (po + 32 * pe ≤ b.length) && decide (fo + fl ≤ b.length) && decide (ho + 16 * hc ≤ b.length) &&
  ((List.range hc).all fun i => phaseOk (u8 b 2) (phaseEntry ((b.drop (ho + 16 * i)).take 16))) &&
  forecastOk ((b.drop fo).take fl)

/-- The contents of a slot from an image that passes. -/
def imageSlot (b digest : Bytes) : Slot :=
  let f := (b.drop (u32 b 12)).take (u32 b 16)
  let segs := u16 f 2
  { Slot.init with
    digest := digest
    plan := (List.range (u32 b 8)).map fun i => planEntry ((b.drop (u32 b 4 + 32 * i)).take 32)
    phases := (List.range (u32 b 24)).map fun i => phaseEntry ((b.drop (u32 b 20 + 16 * i)).take 16)
    segments := (List.range segs).map fun i => (u32 ((f.drop (16 + 8 * i)).take 8) 0, u16 ((f.drop (16 + 8 * i)).take 8) 4)
    forecast := (List.range (u32 f 4)).map fun i =>
      let e := (f.drop (16 + 8 * segs + 8 * i)).take 8
      (⟨u16 e 0, u16 e 2, u16 e 4, bits (u8 e 6) 3 0⟩ : Forecast)
    peak := u32 f 8 }

/-- The digest that the PF driver wrote for slot h. -/
def State.slotDigest (s : State) (p h : Nat) : Bytes := (List.range 4).flatMap fun i => natLE 8 (s.get .PART_PROG_DIGEST_DIGEST (4 * progIdx p h + i))

/-- LOAD at its edge (R310): the image is read and checked; a good one waits for its binding. -/
def State.loadImage (s : State) (p h : Nat) : State :=
  let i := progIdx p h
  let img := s.hostRead (s.get .PART_PROG_ADDR_BASE i * 4096) (s.get .PART_PROG_CTL_LENGTH i * 4096)
  let dg := s.slotDigest p h
  if sha256 img ≠ dg then ((s.setSlot p h { Slot.init with digest := dg }).put .PART_PROG_STAT_STATE i 4).endLoad p h
  else if imageOk img = false then ((s.setSlot p h { Slot.init with digest := dg }).put .PART_PROG_STAT_STATE i 5).endLoad p h
  else
    (((s.setSlot p h { imageSlot img dg with pending := true }).put .PART_PROG_STAT_LCORES i (u8 img 2)).put .PART_PROG_STAT_PERIOD i
      (bits (u8 img 3) 2 0)).put .PART_PROG_STAT_STATE i 1

/-- CLEAR at its edge: the slot is empty; SERIAL stays (R311). -/
def State.clearSlot (s : State) (p h : Nat) : State :=
  let i := progIdx p h
  (((s.setSlot p h Slot.init).put .PART_PROG_STAT_STATE i 0).put .PART_PROG_STAT_LCORES i 0).put .PART_PROG_STAT_PERIOD i 0

/-- The slot is named by the running task, or by one whose header has been found (R311). -/
def Part.names (x : Part) (h : Nat) : Bool :=
  (match x.run.task with
   | some t => t.program % 32 == h
   | none => false) ||
  (match x.run.next with
   | some t => t.program % 32 == h
   | none => false)

/-- Register offset of PART[p]_PROG[h]_CTL in PF BAR0. -/
def progCtlOffset (p h : Nat) : Nat := Reg.PART_PROG_CTL.base + 0x1000 * p + 64 * h

/-- PROG_LOAD (R310): LOAD, at the next edge; the slot is loading. -/
def execProgLoad (p : Fin 16) (h : Fin 32) (mem : List (Nat × Byte)) (s : State) : Host.Outcome State Fault Refusal :=
  let s := { s with host := Mem.writeCells s.host mem }
  .next (s.whenBooted (if (s.part p.val).names h.val then s.ignored (progCtlOffset p.val h.val)
  else (s.put .PART_PROG_STAT_STATE (progIdx p.val h.val) 1).atNextEdge (.load p.val h.val)))

/-- PROG_CLEAR (R310): CLEAR, at the next edge. -/
def execProgClear (p : Fin 16) (h : Fin 32) (s : State) : Host.Outcome State Fault Refusal :=
  .next (s.whenBooted (if (s.part p.val).names h.val then s.ignored (progCtlOffset p.val h.val) else s.atNextEdge (.clear p.val h.val)))

/-- BIND (R148): the plan of a loaded image is bound; a slot that waits for rebinding is bound again (R312, R370). A takeover restarts
the binding: it ends after it (R378). -/
def State.bindStep (s : State) (p h : Nat) : State :=
  let v := (s.part p).slot h
  if s.gondola.takeover then s
  else if v.pending then ((s.setSlot p h { v with pending := false }).bindSlot p h).endLoad p h
  else match (s.part p).bind.rebinds with
    | k :: r =>
      if k = h then ((s.modBind p fun b => { b with rebinds := r, firstBound := true }).bindSlot p h).partEvent .VFEVT_STAT_PROG_READY p
      else s
    | [] => s

def execBind (p : Fin 16) (h : Fin 32) (s : State) : Host.Outcome State Fault Refusal := .next (s.bindStep p.val h.val)

/-- The cycle, since module reset, at which round r of a task's anchor frame begins. -/
def State.roundCycle (s : State) (p r : Nat) : Nat := s.anchorCycle p + roundStart r

/-- Round r, counted from the anchor of partition p's task, in module-wide rounds (R162): the frames of the frame period hold 250,
500, 1,000, 2,000 or 4,000 rounds. -/
def State.wideRound (s : State) (p r : Nat) : Nat :=
  (match (s.part p).run.task with
   | some t => t.anchorReel * (250 * 2 ^ s.get .REEL_STAT_PERIOD 0)
   | none => 0) + r

/-- The stack period of such a round (R162). -/
def State.stackPeriod (s : State) (p r : Nat) : Nat := s.wideRound p r / 2

/-- The first lane of a class in partition p's range, and its lanes: read, then write, then remote (R153). -/
def State.laneRange (s : State) (p cls : Nat) : Nat × Nat :=
  let base := s.get .PART_BRIDLE_BASE p
  match (s.part p).bind.shape with
  | some sh =>
    let r := bits sh.bridle 8 0
    let w := bits sh.bridle 24 16
    if cls = 0 then (base, r) else if cls = 1 then (base + r, w) else (base + r + w, bits sh.bridle 40 32)
  | none => (base, 0)

/-- The partition and class to which an allocatable lane is allotted (R142, R153). -/
def State.laneOwner (s : State) (lane : Nat) : Option (Nat × Nat) :=
  ((List.range 16).flatMap fun p => (List.range 3).map fun c => (p, c)).find? fun y =>
    let g := s.laneRange y.1 y.2
    decide (g.1 ≤ lane) && decide (lane < g.1 + g.2)

/-- The phase list of the running task holds an entry with these fields (R447). -/
def Part.hasPhase (x : Part) (f : Phase) : Bool := x.taskSlotOf.phases.contains f

end Sys2Proof.Machine
end

