-- ==== Sys2Proof/Machine/Transfer.lean ====
section
/-! DEFINITION. Plan transfers as commands perform them, cycle by cycle: rows read at their source, bursts that leave and enter
stacks, deliveries to cores, frames that leave at ports; double writes, uncorrectable bursts and words, failed stacks, degraded
links (R123, R128, R143 to R155, R165 to R167, R237, R247, R259, R374). -/

namespace Sys2Proof.Machine

/-- The command has not ended. -/
def State.alive (s : State) (c : Cmd) : Bool := (s.findCmd c.queue c.seq).isSome

/-- The rounds, from the anchor, in which word w of an entry, and the first and the last word of row j, leave (R123, R144). -/
def PlanEntry.wordRound (e : PlanEntry) (r w : Nat) : Nat := r + w / max 1 e.lanes
def PlanEntry.rowRound (e : PlanEntry) (r j : Nat) : Nat := e.wordRound r (64 * j)
def PlanEntry.rowLast (e : PlanEntry) (r j : Nat) : Nat := e.wordRound r (64 * j + 63)

/-- The words that an entry moves in its q-th round: the first one and their number. -/
def PlanEntry.roundWords (e : PlanEntry) (q : Nat) : Nat × Nat := (q * e.lanes, min e.lanes (64 * e.rows - q * e.lanes))

/-- What a direction of port n is like: an erased lane, width 8 (R259). -/
def State.linkBits (s : State) (n : Nat) (d : Dir) : List (Nat × Nat × Nat) :=
  let a := nat01 (((s.port n).dir d).lanes.contains 3)
  let b := nat01 (s.width8 n d)
  if a = 0 ∧ b = 0 then [] else [(n, a, b)]

/-- The Detail of LINK_DEGRADED, if a transfer ran degraded (R259). -/
def linkDetail (l : List (Nat × Nat × Nat)) : Option Nat := match l with
  | [] => none
  | _ => some (minD 0 (l.map Prod.fst) + 64 * nat01 (l.any fun x => x.2.1 == 1) + 128 * nat01 (l.any fun x => x.2.2 == 1))

/-- A command whose transfers are done retires in cycle t: OK or LINK_DEGRADED (R259). -/
def State.doneLinks (s : State) (c : Cmd) (t : Nat) (l : List (Nat × Nat × Nat)) : State := match linkDetail l with
  | some d => s.done c t 4 d
  | none => s.done c t 0 0

/-- A fault of a transfer of the command in cycle x that R449 charges to the oldest command; that of a speculative command is
held in its slot (R216). -/
def State.transferFault (s : State) (c : Cmd) (p x status detail : Nat) : State :=
  if (s.pendingSlot c).isSome then ((s.advance x).fault c status detail).mark false else s.chargeAt p x status detail

/-- The 16-bit symbols of a 32-byte half of a burst in which bits are flipped (R167). -/
def badSymbols (mask half : Nat) : Nat :=
  ((List.range 16).filter fun i => bits mask (256 * half + 16 * i + 15) (256 * half + 16 * i) != 0).length

/-- What a read makes of a burst with these bits flipped: 0 as stored, 1 corrected, 2 uncorrectable (R167). -/
def burstState (mask : Nat) : Nat :=
  if mask = 0 then 0 else if badSymbols mask 0 ≤ 1 ∧ badSymbols mask 1 ≤ 1 then 1 else 2

/-- Bytes of carrier memory as a plan read in a stack period sees them (R165). -/
def State.stackRead (s : State) (period a n : Nat) : Bytes := asOf s.carrier.past period a (Mem.read s.carrier.mem a n)

/-- Flipped bursts, by burst number, that a plan read of n bytes from address a in a stack period meets. -/
def State.stackFlips (s : State) (period a n : Nat) : List (Nat × Nat) :=
  (flipsAt s.carrier.past period s.carrier.flips).filter fun f => decide (a / 64 ≤ f.1) && decide (f.1 < (a + n) / 64)

/-- Bursts leave a stack for a transfer of the command in the round that begins in cycle x (R167, R374): corrected ones are
counted, once for a merged-read group (`counts`; R152); a failed stack or an uncorrectable one is a fault. -/
def State.leaveBursts (s : State) (c : Cmd) (p x period a n : Nat) (counts : Bool) : State :=
  let m := bits a 41 36
  if s.get .HBM_STAT_STATE m = 4 then s.transferFault c p x 0x4000 a
  else
    let hit := s.stackFlips period a n
    let one := hit.filter fun f => burstState f.2 == 1
    let two := hit.filter fun f => burstState f.2 == 2
    let s := if counts = true ∧ one.isEmpty = false then s.inc .HBM_ECC_CORRECTED m one.length else s
    match two with
    | [] => s
    | f :: _ =>
      let s := s.mark (s.rehearsal || two.any fun g => s.carrier.injected.contains g.1)
      (s.inc .HBM_ECC_UNCORRECTABLE m two.length).transferFault c p x 0x4000 (f.1 * 64)

/-- The frame, by its Reel Count, in which a module-wide round falls. -/
def State.roundFrame (s : State) (w : Nat) : Nat := w / (250 * 2 ^ s.get .REEL_STAT_PERIOD 0)

/-- A burst enters its stack for plan entry i in round r from the anchor, which begins in cycle x (R165, R166, R374): the second
write of a frame is discarded. -/
def State.enterBurst (s : State) (c : Cmd) (p i r x a : Nat) (bs : Bytes) : State :=
  let m := bits a 41 36
  let k := (s.roundFrame (s.wideRound p r), a / 64)
  if s.get .HBM_STAT_STATE m = 4 then s.transferFault c p x 0x4000 a
  else if s.carrier.written.contains k then
    (s.inc .HBM_STAT_WW m 1).transferFault c p x 0x4000 (a + min i (2 ^ 22 - 1) * 2 ^ 42)
  else
    let v := s.carrier
    let w := timedWrite v.mem v.past (s.stackPeriod p r) 0 a bs (v.flips.filter fun f => f.1 == a / 64)
    { s with carrier := { v with mem := w.1, past := w.2, flips := v.flips.filter fun f => f.1 != a / 64, written := k :: v.written } }

/-- Bytes enter a stack from address a on, burst by burst, in one round. -/
def State.enterBursts (s : State) (c : Cmd) (p i r x a : Nat) (bs : Bytes) : State :=
  (enumFrom 0 (chunks 64 (bs.length / 64 + 1) bs)).foldl (fun (s : State) b =>
    if s.alive c then s.enterBurst c p i r x (a + 64 * b.1) b.2 else s) s

/-- A word with flipped bits, given for each of its 16-byte quarters, crosses the link direction of record n on a lane in cycle x
(R143, R155): a corrected word is counted for the link and its lane; an uncorrectable one is counted, retires the lane, and
aborts the task of the partition that holds the lane; reserved-lane traffic is sent again. -/
def State.linkWord (s : State) (n lane : Nat) (flips : List Nat) (x : Nat) : State :=
  let l := s.link n
  if flips.any fun f => decide (2 ≤ f) then
    let s := (s.inc .CORE_BRIDLE_LINK_UNCORRECTABLE n 1).setLink n
      { l with retire := if l.retire.contains lane then l.retire else l.retire ++ [lane] }
    match s.laneOwner lane with
    | some y => if (s.part y.1).run.task.isSome then s.chargeAt y.1 x 0x4000 0 else s.event 0x4000 y.1 0
    | none => s
  else if flips.any fun f => f == 1 then
    (s.inc .CORE_BRIDLE_LINK_CORRECTED n 1).setLink n { l with corrected := Tab.put 0 l.corrected lane (Tab.get 0 l.corrected lane + 1) }
  else s

/-- The bits that INJECT_FAULT asked for are flipped in the word that crosses link n (R386, R387); whether two of them fall into one
quarter is a free value (log entry 56). -/
def State.crossInjected (s : State) (n lane x : Nat) : State :=
  let l := s.link n
  let d := if l.injected = 2 then s.draw else (0, s)
  let s := (d.2.setLink n { l with injected := 0 }).mark true
  (s.linkWord n lane (if l.injected = 2 ∧ d.1 % 4 ≠ 0 then [1, 1] else [l.injected]) x).mark false

/-- The links of an entry's route or tree, with hop indices, on the present Core Map (R144, R145, R151). -/
def State.entryTree (s : State) (p lcores : Nat) (e : PlanEntry) : List (Nat × Nat) :=
  let c := s.bindCtx p lcores
  tree e.colFirst (e.srcDie c) (e.dstDies c)

/-- Hops of an entry into a stack or a port (R144, R158). -/
def State.farHops (s : State) (p : Nat) (e : PlanEntry) : Nat :=
  let src := if e.srcKind = 0 then dieOf ((s.part p).cores.getD e.src 0) else if e.srcKind = 1 then stackDie e.src else portDie e.src
  hops src (if e.dstKind = 1 then stackDie e.dstFirst else portDie e.dstFirst)

/-- The cycle in which a word sent in a round has arrived in a stack's or a port's die. -/
def State.farCycle (s : State) (p : Nat) (e : PlanEntry) (round : Nat) : Nat := s.boundCycle p (readyCycle round (s.farHops p e))

/-- The deliveries of a row on cores: logical core and cycle. -/
def State.deliveries (s : State) (p : Nat) (e : PlanEntry) (b : Bound) (j : Nat) : List (Nat × Nat) :=
  e.dstCores.filterMap fun lc => (b.cycleOn lc j).map fun x => (lc, s.boundCycle p x)

/-- The cycle in which the last copy of a row is in place. -/
def State.rowEnd (s : State) (p : Nat) (e : PlanEntry) (b : Bound) (j : Nat) : Nat :=
  if e.dstKind = 0 then ((s.deliveries p e b j).map Prod.snd).foldl max 0 else s.farCycle p e (e.rowLast b.round j)

/-- The last cycle in which a row of entries first to first + n − 1 is in place. -/
def State.lastRow (s : State) (p first n : Nat) : Nat :=
  ((List.range n).map fun i => match (s.part p).entry (first + i) with
    | some (e, b) => if e.rows = 0 then 0 else ((List.range e.rows).map fun j => s.rowEnd p e b j).foldl max 0
    | none => 0).foldl max 0

/-- What a transfer does in one cycle: row j is read on the source core; the q-th round's bursts leave a stack; row j is written
on a core; the q-th round's bursts enter a stack; frame f leaves at a port; a word crosses a link in which a fault waits. -/
inductive Act where
  | read (j : Nat)
  | leave (q : Nat)
  | place (j : Nat)
  | enter (q : Nat)
  | frame (f : Nat)
  | cross (link : Nat)

/-- An act of plan entry `index` in a cycle, on a logical core where it is on one. -/
structure Event where
  cycle : Nat
  core : Nat
  index : Nat
  act : Act

/-- Words of a long frame (R242). -/
def frameCap : Nat := 80

/-- The frames in which an entry leaves at a port, `head` words coming before its rows. -/
def PlanEntry.frames (e : PlanEntry) (head : Nat) : Nat := cdiv (head + 64 * e.rows) frameCap

/-- The word of an entry with which frame f is complete. -/
def PlanEntry.frameWord (e : PlanEntry) (head f : Nat) : Nat := min (head + 64 * e.rows) (frameCap * (f + 1)) - 1 - head

/-- The first word of an entry that crosses a link, at hop i, in which a fault has waited since a cycle. -/
def State.crossing (s : State) (p : Nat) (e : PlanEntry) (b : Bound) (l : Nat × Nat) : Option Nat :=
  if (s.link l.1).injected = 0 then none
  else ((List.range e.rounds).map fun q => s.roundCycle p (b.round + 8 + 12 * l.2 + q)).find? fun x => decide ((s.link l.1).since ≤ x)

/-- All that plan entry i does, `head` words coming before its rows at a port. -/
def State.entryEvents (s : State) (p head i : Nat) : List Event := match (s.part p).entry i with
  | none => []
  | some (e, b) =>
    (if e.srcKind = 0 then (enumFrom 0 b.reads).map fun x => ⟨s.boundCycle p x.2, e.src, i, .read x.1⟩ else []) ++
    (if e.srcKind = 1 then (List.range e.rounds).map fun q => ⟨s.roundCycle p (b.round + q), 0, i, .leave q⟩ else []) ++
    ((s.entryTree p (s.part p).lcores e).filterMap fun l => (s.crossing p e b l).map fun x => ⟨x, 0, i, .cross l.1⟩) ++
    (if e.dstKind = 0 then (List.range e.rows).flatMap fun j => (s.deliveries p e b j).map fun d => ⟨d.2, d.1, i, .place j⟩ else []) ++
    (if e.dstKind = 1 then (List.range e.rounds).map fun q => ⟨s.roundCycle p (b.round + 8 + 12 * s.farHops p e + q), 0, i, .enter q⟩ else []) ++
    (if e.dstKind = 2 then (List.range (e.frames head)).map fun f => ⟨s.farCycle p e (e.wordRound b.round (e.frameWord head f)), 0, i, .frame f⟩
     else [])

/-- An event enters a list at its place by cycle and core. -/
def insertEvent (u : Event) : List Event → List Event
  | [] => [u]
  | v :: r => if u.cycle < v.cycle ∨ (u.cycle = v.cycle ∧ u.core < v.core) then u :: v :: r else v :: insertEvent u r

/-- All that plan entries first to first + n − 1 do, in order. -/
def State.planEvents (s : State) (p head first n : Nat) : List Event :=
  ((List.range n).flatMap fun i => s.entryEvents p head (first + i)).foldl (fun l u => insertEvent u l) []

/-- A stream of the partition, by its command. -/
def Part.stream (x : Part) (c : Cmd) : Option Stream := x.strm.streams.find? fun st => st.queue == c.queue && st.seq == c.seq

/-- What has come over a tether for plan entry i of a command. -/
def Part.arrived (x : Part) (c : Cmd) (i : Nat) : Bytes := match (x.stream c).bind fun st => st.shards.find? fun h => h.entry == i with
  | some h => h.data
  | none => []

/-- Word w of plan entry i as it stood where and when it was read (R124, R165). -/
def State.sourceWord (s : State) (c : Cmd) (p i : Nat) (e : PlanEntry) (b : Bound) (w : Nat) : Bytes :=
  if e.srcKind = 0 then
    (s.lcore p e.src).readAt (s.boundCycle p (b.reads.getD (w / 64) 0)) (tmemAddr (e.srcRow + w / 64) (w % 64)) 64
  else if e.srcKind = 1 then s.stackRead (s.stackPeriod p (e.wordRound b.round w)) (e.addr + 64 * w) 64
  else fitBytes 64 (((s.part p).arrived c i).drop (64 * w))

/-- Words w to w + n − 1. -/
def State.sourceWords (s : State) (c : Cmd) (p i : Nat) (e : PlanEntry) (b : Bound) (w n : Nat) : Bytes :=
  (List.range n).flatMap fun k => s.sourceWord c p i e b (w + k)

/-- Words of an entry that an event needs to have arrived. -/
def Event.needs (u : Event) (e : PlanEntry) (head : Nat) : Nat := match u.act with
  | .place j => 64 * (j + 1)
  | .enter q => (e.roundWords q).1 + (e.roundWords q).2
  | .frame f => e.frameWord head f + 1
  | .read _ | .leave _ | .cross _ => 0

/-- What an event moves is there: only words that come over a tether can be missing (R181, R232). -/
def State.eventReady (s : State) (c : Cmd) (p head : Nat) (u : Event) : Bool := match (s.part p).entry u.index with
  | some (e, _) => e.srcKind != 2 || decide (64 * u.needs e head ≤ ((s.part p).arrived c u.index).length)
  | none => true

/-- The header of a collective piece (Table 11-4). -/
def pieceHeader (collId piece contrib rows kind : Nat) : Bytes :=
  fitBytes 64 (natLE 4 collId ++ natLE 2 piece ++ natLE 2 contrib ++ natLE 2 rows ++ natLE 1 kind)

/-- The class and type of the frames in which entry i of a command leaves at a port, and the word that comes before its rows: a
piece header of a collective, none of a MOVE (R231, R247; log entry 23). -/
def Cmd.frameHead (c : Cmd) (i : Nat) (e : PlanEntry) : Nat × Nat × Bytes :=
  let q := c.coll
  if c.op = 0x300 then (3, 0, pieceHeader q.collId (i - q.first) 0xFFFF e.rows 0)
  else if c.op = 0x301 then (3, 0, pieceHeader q.collId (i - q.first) ((q.contrib + (i - q.first)) % 65536) e.rows 1)
  else if Config.moveBulk then (4, 0, []) else (3, 1, [])

/-- Words that come before an entry's rows at a port. -/
def Cmd.headWords (c : Cmd) : Nat := if c.op = 0x300 ∨ c.op = 0x301 then 1 else 0

/-- The gather entry that a command arms for its plan entry i (R237). -/
def Cmd.gatherOf (c : Cmd) (i : Nat) : Option Nat :=
  let q := c.coll
  if (c.op = 0x300 ∧ q.flag = true) ∨ (c.op = 0x301 ∧ q.scope = 0) then some (q.gather + (i - q.first)) else none

/-- The source core of an entry. -/
def PlanEntry.core (e : PlanEntry) : Option Nat := if e.srcKind = 0 then some e.src else none

/-- A row of a transfer is written on logical core lc in cycle x; from the core itself it is no remote write (R128). -/
def State.placeRow (s : State) (p lc row wc0 : Nat) (bs : Bytes) (src : Option Nat) (kind x : Nat) : State := match src with
  | some c => if c = lc then s.writeS p lc row wc0 bs x else s.remoteWrite p lc row wc0 bs 0 c x
  | none => s.remoteWrite p lc row wc0 bs kind 0 x

/-- No earlier entry of the plan stands in entry i's merged-read group (R152). -/
def Part.leads (x : Part) (i : Nat) (e : PlanEntry) : Bool := (x.taskSlotOf.plan.take i).all fun d => !(d.sameGroup e)

/-- A row of a logical core is read on slot S in cycle x: corrected quarters are counted, an uncorrectable one is a fault (R135). -/
def State.readRow (s : State) (c : Cmd) (p x lc row : Nat) : State :=
  match (s.lcore p lc).eccFaults lc x row with
  | f :: _ => (s.noteEcc p lc).transferFault c p x 0x4000 f.detail
  | [] => (s.countEcc p lc x row).addUses p [readUse lc 2 x row]

/-- A row is written on a core; the last one of a piece sets the gather flag (R237). -/
def State.placeEvent (s : State) (c : Cmd) (p : Nat) (u : Event) (e : PlanEntry) (b : Bound) (j : Nat) : State :=
  let s := s.placeRow p u.core (e.dstRow + j) 0 (s.sourceWords c p u.index e b (64 * j) 64) e.core e.srcKind u.cycle
  match c.gatherOf u.index with
  | some g => if j + 1 = e.rows ∧ s.alive c = true then s.setFlag p u.core g u.cycle else s
  | none => s

/-- Frame f of an entry leaves at its port (R242, R247). -/
def State.frameEvent (s : State) (c : Cmd) (p i : Nat) (e : PlanEntry) (b : Bound) (f : Nat) : State :=
  let h := c.frameHead i e
  let n := h.2.2.length / 64
  let first := if f = 0 then 0 else frameCap * f - n
  let bytes := (if f = 0 then h.2.2 else []) ++ s.sourceWords c p i e b first (e.frameWord n f + 1 - first)
  s.sendFrame e.dstFirst h.1 h.2.1 bytes

/-- An event happens. -/
def State.happen (s : State) (c : Cmd) (p : Nat) (u : Event) : State := match (s.part p).entry u.index with
  | none => s
  | some (e, b) => match u.act with
    | .read j => s.readRow c p u.cycle e.src (e.srcRow + j)
    | .leave q =>
      let w := e.roundWords q
      s.leaveBursts c p u.cycle (s.stackPeriod p (b.round + q)) (e.addr + 64 * w.1) (64 * w.2) ((s.part p).leads u.index e)
    | .place j => s.placeEvent c p u e b j
    | .enter q =>
      let w := e.roundWords q
      s.enterBursts c p u.index (b.round + 8 + 12 * s.farHops p e + q) u.cycle (e.dstAddr + 64 * w.1) (s.sourceWords c p u.index e b w.1 w.2)
    | .frame f => s.frameEvent c p u.index e b f
    | .cross l => s.crossInjected l (s.laneRange p e.cls).1 u.cycle

/-- Events happen in order for as long as the command goes on. -/
def State.happenAll (s : State) (c : Cmd) (p : Nat) (us : List Event) : State :=
  us.foldl (fun (s : State) u => if s.alive c then s.happen c p u else s) s

/-- The first cycle of a command's work that is still to be done. -/
def State.uptoOf (s : State) (c : Cmd) : Nat := match s.findCmd c.queue c.seq with
  | some d => d.upto
  | none => 0

/-- Work of the command before cycle x is done. -/
def State.setUpto (s : State) (c : Cmd) (x : Nat) : State := match s.findCmd c.queue c.seq with
  | some d => s.setCmd { d with upto := max d.upto x }
  | none => s

/-- The first of the cycles from one on that is to come, cut off at another. -/
def firstOf (lim : Nat) (l : List Nat) : Nat := l.foldl min lim

/-- The transfers of a command's plan entries first to first + n − 1 go on as far as cycle `lim`, and as far as what they move is
there; the answer says whether all is done (log entry 2). -/
def State.runPlan (s : State) (c : Cmd) (p first n lim : Nat) : State × Bool :=
  let all := s.planEvents p c.headWords first n
  let todo := all.filter fun u => decide (s.uptoOf c ≤ u.cycle)
  let stop := firstOf (lim + 1) ((todo.filter fun u => !s.eventReady c p c.headWords u).map Event.cycle)
  ((s.happenAll c p (todo.filter fun u => decide (u.cycle < stop))).setUpto c stop, todo.all fun u => decide (u.cycle < stop))

/-- Tile-memory rows that a logical core's own rows span pending slots: a plan entry that reads or writes them (R215). -/
def Part.entryPending (x : Part) (own : Option Nat) (e : PlanEntry) : Bool :=
  (e.srcKind == 0 && x.pendingRows own e.srcRow e.rows) || (e.dstKind == 0 && x.pendingRows own e.dstRow e.rows)

/-- The first cycle by which a command of these entries must have begun: a reserved S read on a source core, or the round of
a transfer (R123, R150, R450); the Detail of lateness: entry index or none. -/
def State.entryDue (s : State) (p i : Nat) : Option (Nat × Nat) := match (s.part p).entry i with
  | some (e, b) =>
    let round := s.anchorCycle p + 16 * b.round / 5
    match b.reads.head? with
    | some x => if e.srcKind = 0 ∧ s.boundCycle p x < round then some (s.boundCycle p x, 0xFFFFFFFF) else some (round, i)
    | none => some (round, i)
  | none => none

/-- The earliest such cycle of entries first to first + n − 1. -/
def State.entriesDue (s : State) (p first n : Nat) : Option (Nat × Nat) :=
  ((List.range n).filterMap fun i => s.entryDue p (first + i)).foldl (fun a d => match a with
    | some x => if d.1 < x.1 then some d else some x
    | none => some d) none

end Sys2Proof.Machine
end

