-- ==== Sys2Proof/Machine/Stream.lean ====
section
/-! DEFINITION. Shards: headers, decryption, placement, buffers and verdicts; the ERT and the streaming commands (R113 to
R116, R169, R170, R174 to R202, R205 to R207, R210, R212). -/

namespace Sys2Proof.Machine

/-- The fields of a shard header (Table 9-1). -/
def shKind (h : Bytes) : Nat := bits (u8 h 1) 1 0
def shEnc (h : Bytes) : Bool := bit (u8 h 1) 2
def shPrune (h : Bytes) : Bool := bit (u8 h 1) 3
def shId (h : Bytes) : Nat := le h 2 6
def shLen (h : Bytes) : Nat := u32 h 8
def shTiles (h : Bytes) : Nat := u16 h 12
def shKey (h : Bytes) : Nat := u8 h 14
def shIv (h : Bytes) : Bytes := (h.drop 16).take 12
def shDigest (h : Bytes) : Bytes := (h.drop 32).take 32

/-- The checks of R176 that the header word alone decides. -/
def shOk (h : Bytes) (id : Nat) : Bool :=
  u8 h 0 == 1 && shKind h != 3 && shLen h % 64 == 0 && decide (shLen h ≤ 4194304) && shId h == id

/-- Bytes that follow the header word on a tether. -/
def shWire (h : Bytes) : Nat := shLen h + (if shEnc h then 64 else 0)

/-- Bytes that have come after the header word, kept or not. -/
def Shard.came (h : Shard) : Nat := h.data.length + h.lost

/-- One more word; `full` says that the port's store does not take it (R361). Once a word is not kept, none after it is. -/
def Shard.more (h : Shard) (w : Bytes) (full : Bool) : Shard :=
  if full = false ∧ h.lost = 0 then { h with data := h.data ++ w } else { h with lost := h.lost + w.length }

/-- Every payload byte and the tag word have arrived. -/
def Shard.full (h : Shard) : Bool := !h.header.isEmpty && decide (shWire h.header ≤ h.came)

/-- The plaintext bytes that have arrived so far (R178); none for an empty key slot. -/
def Shard.plain (h : Shard) : Bytes :=
  let d := h.data.take (shLen h.header)
  if shEnc h.header then match h.key with
    | some k => gcmCrypt k (shIv h.header) d
    | none => []
  else d

/-- The tile headers of a KIND 0 shard, once they have all arrived. -/
def Shard.heads (h : Shard) : List Bytes :=
  let p := h.plain
  (List.range (shTiles h.header)).map fun t => (p.drop (64 * t)).take 64

/-- What R176 asks of the tile headers can be judged: they have all arrived, or LENGTH has no room for them. -/
def Shard.headsIn (h : Shard) : Bool :=
  !h.header.isEmpty && (shKind h.header != 0 || decide (64 * shTiles h.header ≤ h.plain.length) || decide (shLen h.header < 64 * shTiles h.header))

/-- The tile-header checks of R176. -/
def Shard.headsOk (h : Shard) : Bool :=
  shKind h.header != 0 || (decide (64 * shTiles h.header ≤ shLen h.header) && (h.heads.all hdrSized) &&
    shLen h.header == 64 * shTiles h.header + sumN (h.heads.map hdrBytes))

/-- A stretch of a payload that fills one row: its offset and bytes. -/
abbrev Cut := Nat × Nat

/-- The rows of `n` bytes from offset `off`, `rows` of them. -/
def cuts (off n rows : Nat) : List Cut := (List.range rows).map fun r => (off + 4096 * r, min 4096 (n - 4096 * r))

/-- The data rows of a shard's tiles, each tile on the ROWS that its header gives (R182). -/
def tileCuts (off : Nat) : List Bytes → List Cut
  | [] => []
  | h :: r => cuts off (hdrBytes h) (hdrRows h) ++ tileCuts (off + hdrBytes h) r

/-- The data rows of a shard: tiles in a ring, else the payload as it stands (R182, R195). -/
def Shard.dataCuts (h : Shard) (tiles : Bool) : List Cut :=
  if tiles && shKind h.header == 0 then tileCuts (64 * shTiles h.header) h.heads else cuts 0 (shLen h.header) (cdiv (shLen h.header) 4096)

/-- Header-table rows that `n` header words from word w touch. -/
def headRows (w n : Nat) : Nat := if n = 0 then 0 else (w + n - 1) / 64 - w / 64 + 1

/-- The header words that the j-th touched header-table row takes: first word and count. -/
def headCut (w n j : Nat) : Nat × Nat :=
  let row := w / 64 + j
  let lo := max w (64 * row)
  (lo, min (w + n) (64 * row + 64) - lo)

/-- What transfer row j of a shard writes on a core: row offset in the header table or the linear data row, word-column,
bytes of plaintext needed before it, and the bytes. -/
structure Piece where
  head : Bool
  row : Nat
  wc0 : Nat
  need : Nat
  bytes : Bytes

/-- Header-table rows of a shard whose first header word is w0. -/
def Shard.headCount (h : Shard) (tiles : Bool) (w0 : Nat) : Nat := headRows w0 (if tiles && shKind h.header == 0 then shTiles h.header else 0)

/-- Transfer row j of a shard on a core where its first data row is r0 and its first header word w0 (R182): first the header
words, one header-table row each, then the data rows, which the tile headers give. -/
def Shard.pieceAt (h : Shard) (tiles : Bool) (r0 w0 j : Nat) : Option Piece :=
  let hr := h.headCount tiles w0
  if j < hr then
    let c := headCut w0 (shTiles h.header) j
    some ⟨true, w0 / 64 + j, c.1 % 64, 64 * (c.1 - w0 + c.2), (h.plain.drop (64 * (c.1 - w0))).take (64 * c.2)⟩
  else if h.headsIn = false then none
  else match (h.dataCuts tiles)[j - hr]? with
    | some c => some ⟨false, r0 + (j - hr), 0, c.1 + c.2, fitBytes 4096 ((h.plain.drop c.1).take c.2)⟩
    | none => none

/-- Entry e of partition p's ERT range in the committed bank, or 0 beyond COUNT (R169, R170). -/
def State.ertLookup (s : State) (p e : Nat) : Nat := match (s.part p).bind.shape with
  | some sh => if e < sh.ertCount then Tab.get 0 s.carrier.ertCommitted (sh.ertBase + e) else 0
  | none => 0
/-- The same in the shadow bank. -/
def State.ertShadow (s : State) (p e : Nat) : Nat := match (s.part p).bind.shape with
  | some sh => if e < sh.ertCount then Tab.get 0 s.carrier.ertShadow (sh.ertBase + e) else 0
  | none => 0

/-- STATE, SHARDS, SHARD_ID and carrier address of an ERT entry (Table 8-2). -/
def ertState (x : Nat) : Nat := bits x 1 0
def ertShards (x : Nat) : Nat := bits x 15 8
def ertId (x : Nat) : Nat := bits x 63 16
def ertCaddr (x : Nat) : Nat := bits x 93 64 * 4096

/-- Where the shards of a streaming command come from: carrier memory's slot region, or the tethers; their number and the
first ID (R193, R194, R210). -/
def State.streamSource (s : State) (p : Nat) (q : StreamP) : Option Nat × Nat × Nat :=
  if q.byExpert then
    let x := s.ertLookup p (bits q.source 17 0)
    (if ertState x = 2 then some (ertCaddr x) else none, ertShards x, ertId x)
  else (none, q.shards, q.source)

/-- A shard of which nothing has come: its ID, plan entry and port (64: carrier memory). -/
def Shard.init (id entry port : Nat) : Shard := ⟨id, entry, port, [], 0, [], 0, none, none, false, false, [], []⟩

/-- A shard that comes from carrier memory: its stored header, and its place; it is not checked again on the way (R183, R198). -/
def State.storedShard (s : State) (id entry head addr : Nat) : Shard :=
  { Shard.init id entry 64 with header := Mem.read s.carrier.mem head 64, addr := addr, verdict := some (0, 0) }

/-- A shard that comes over the port of its plan entry. -/
def Part.tetherShard (x : Part) (id entry : Nat) : Shard := Shard.init id entry (match x.taskSlotOf.plan[entry]? with
  | some e => e.src
  | none => 64)

/-- The shards of a streaming command at its begin, with the places that it keeps until it retires (R170, R194): the address of a
stack entry is the entry's offset from the expert's slot region. -/
def State.streamShards (s : State) (p : Nat) (q : StreamP) : List Shard :=
  let src := s.streamSource p q
  (List.range src.2.1).map fun k =>
    let id := (src.2.2 + k) % 2 ^ 48
    match src.1 with
    | some base => s.storedShard id (q.stackEntry + k) (base + 64 * k) (base + (match (s.part p).taskSlotOf.plan[q.stackEntry + k]? with
        | some e => bits e.addr 35 0
        | none => 0))
    | none => (s.part p).tetherShard id (q.tetherEntry + k)

def State.setStream (s : State) (p : Nat) (st : Stream) : State :=
  s.modStrm p fun x => { x with streams := x.streams.map fun t => if t.queue = st.queue ∧ t.seq = st.seq then st else t }
def State.addStream (s : State) (p : Nat) (st : Stream) : State := s.modStrm p fun x => { x with streams := x.streams ++ [st] }
def Stream.setShard (st : Stream) (k : Nat) (h : Shard) : Stream := { st with shards := st.shards.set k h }

/-- The ring of a command. -/
def Part.ringOf (x : Part) (c : Cmd) : Option Ring := x.strm.rings.find? fun r => r.queue == c.queue && r.seq == c.seq

/-- Logical cores to which a shard goes. -/
def Part.shardCores (x : Part) (h : Shard) : List Nat := match x.entry h.entry with
  | some (e, _) => e.dstCores
  | none => []

/-- Words of 16 bytes of a request (Table 12-5). -/
def State.requestEntry (s : State) (p : Nat) (h : Shard) : Bytes :=
  let rpf := 250 * 2 ^ s.get .REEL_STAT_PERIOD 0
  let r := match (s.part p).entry h.entry with
    | some (_, b) => b.round
    | none => 0
  let a := match (s.part p).run.task with
    | some t => t.anchorReel
    | none => 0
  natLE 6 h.id ++ natLE 1 h.port ++ [0] ++ natLE 6 (a + r / rpf) ++ natLE 2 (r % rpf)

/-- The request of a stream goes out on each port for its shards (R181). -/
def State.sendRequests (s : State) (p : Nat) (st : Stream) : State :=
  let ports := ((st.shards.filter fun h => decide (h.port < 64)).map Shard.port).dedup
  ports.foldl (fun (s : State) n =>
    s.sendWords n 2 0 ((st.shards.filter fun h => h.port == n).flatMap fun h => s.requestEntry p h)) s

/-- A DIGEST_FAIL ends the command (R179); one that a prediction slot holds is counted when it is reported (R208, R216). -/
def State.digestFail (s : State) (c : Cmd) (_p id cause : Nat) : State := s.fault c 0x3002 (id % 2 ^ 48 + cause * 2 ^ 48)

/-- Magnitude a ranks above b (R114). -/
def above (a b : Val) : Bool := (a.isNan && !b.isNan) || (!a.isNan && !b.isNan && Val.lt b.abs a.abs)

/-- The four positions of a group in rank order, equal magnitudes lower position first (R114). -/
def rank4 (vs : List Val) : List (Nat × Val) :=
  (enumFrom 0 vs).foldl (fun l x => (l.takeWhile fun y => !above x.2 y.2) ++ [x] ++ (l.dropWhile fun y => !above x.2 y.2)) []

/-- The kept positions of a group, ascending, and whether the tie rule was needed. -/
def keep2 (vs : List Val) : Nat × Nat × Bool :=
  match rank4 vs with
  | a :: b :: c :: _ => (min a.1 b.1, max a.1 b.1, !above b.2 c.2)
  | _ => (0, 1, false)

/-- Two dense tiles of a format become one 2:4 tile (R102, R113, R114): its bytes and its ties. -/
def prunePair (f : Nat) (a b : Bytes) : Bytes × Nat :=
  let eb := elemBits f
  let cols := (List.range 256).map fun j =>
    let codes := unpack ((a.drop (j * elemBytes f 256)).take (elemBytes f 256)) eb 256 ++
      unpack ((b.drop (j * elemBytes f 256)).take (elemBytes f 256)) eb 256
    (chunks 4 128 codes).map fun g => (g, keep2 (g.map fun x => decodeElem f x))
  let data := cols.flatMap fun gs => packElems eb (gs.flatMap fun x => [x.1.getD x.2.1 0, x.1.getD x.2.2.1 0])
  let scales := if isMx f then (List.range 256).flatMap fun j =>
      ((a.drop (elemBytes f 65536 + 8 * j)).take 8) ++ ((b.drop (elemBytes f 65536 + 8 * j)).take 8) else []
  let meta_ := cols.flatMap fun gs => packElems 4 (gs.map fun x => x.2.1 + 4 * x.2.2.1)
  (data ++ scales ++ meta_, sumN (cols.map fun gs => (gs.filter fun x => x.2.2.2).length))

/-- A format that the prune-on-load unit takes (R113). -/
def prunable (f : Nat) : Bool := decide (3 ≤ f) && decide (f ≤ 10)

/-- The pruned tiles of a complete shard: header, bytes, ties, and the offset of the pair's last byte. -/
def Shard.pruned (h : Shard) : List (Bytes × Bytes × Nat × Nat) :=
  let p := h.plain
  let heads := h.heads
  let f := hdrFormat (heads.getD 0 [])
  let size := tileBytes 0 f 0
  (List.range (cdiv heads.length 2)).map fun t =>
    let off := 64 * heads.length + 2 * t * size
    let a := (p.drop off).take size
    let b := fitBytes size ((p.drop (off + size)).take (if 2 * t + 1 < heads.length then size else 0))
    let r := prunePair f a b
    (makeHeader 1 f (tileRows 1 f 0) 0 true, r.1, r.2, off + (if 2 * t + 1 < heads.length then 2 * size else size))

/-- S cycles that binding reserved on a logical core: phases, reads and deliveries of the running task's plan. -/
def State.reserved (s : State) (p lc : Nat) : List (Nat × Nat) :=
  let v := (s.part p).taskSlotOf
  ((v.phases.filter fun f => decide (f.first ≤ lc) && decide (lc ≤ f.last)).map fun f => (f.cycle, f.cycles)) ++
  ((v.plan.zip v.bound).flatMap fun x =>
    (if x.1.srcKind = 0 ∧ x.1.src = lc then x.2.reads.map fun y => (y, 1) else []) ++
    ((x.2.deliveries.filter fun d => d.1 == lc).flatMap fun d => d.2.map fun y => (y, 1)))

/-- S cycles that the outputs of pruned shards hold on a logical core (R123; log entry 75). -/
def Part.pruneHeld (x : Part) (lc : Nat) : List Nat :=
  (x.strm.streams.flatMap fun st => st.shards.flatMap fun h => (h.outs.filter fun y => y.1 == lc).flatMap Prod.snd)

/-- The first `n` cycles from x on, anchor-relative, that nothing holds (R115, R123). -/
def freeCycles (b : Busy) (lc : Nat) : Nat → Nat → List Nat
  | 0, _ => []
  | n + 1, x =>
    let c := freeFrom b lc (Busy.total b + 1) x
    c :: freeCycles b lc n (c + 1)

/-- Rows of a pruned tile, and pairs of a shard (Table 5-2). -/
def Shard.outRows (h : Shard) : Nat := tileRows 1 (hdrFormat (h.heads.getD 0 [])) 0
def Shard.pairs (h : Shard) : Nat := cdiv (shTiles h.header) 2

/-- The S cycles, from the anchor, of a pruned shard's output rows, pair by pair, and then of its header-table rows, which start at
word w0: the first free ones from the 24th cycle past each pair's last input row on (R115). -/
def State.pruneCycles (s : State) (p : Nat) (h : Shard) (e : PlanEntry) (b : Bound) (lc w0 : Nat) : List Nat :=
  let busy : Busy := (s.reserved p lc).map (fun x => (lc, x.1, x.2)) ++ ((s.part p).pruneHeld lc).map fun y => (lc, y, 1)
  let perTile := cdiv (hdrBytes (h.heads.getD 0 [])) 4096
  let rows := (List.range h.pairs).foldl (fun (a : List Nat × Nat) t =>
    let lastIn := h.headCount true 0 + min (2 * t + 2) (shTiles h.header) * perTile - 1
    let ready := match b.cycleOn lc (min lastIn (e.rows - 1)) with
      | some x => x + 24
      | none => 24
    let cyc := freeCycles busy lc h.outRows (max ready a.2)
    (a.1 ++ cyc, cyc.getLast?.getD a.2 + 1)) ([], 0)
  rows.1 ++ freeCycles busy lc (headRows w0 h.pairs) rows.2

/-- What a pruned shard writes on a core where its first data row is r0 and its first header word w0, in order (R113 to R115). -/
def Shard.prunedPieces (h : Shard) (r0 w0 : Nat) : List Piece :=
  let outs := h.pruned
  let n := h.outRows
  let heads := outs.flatMap fun o => o.1
  ((enumFrom 0 outs).flatMap fun o => (List.range n).map fun y =>
    (⟨false, r0 + o.1 * n + y, 0, o.2.2.2.2, fitBytes 4096 ((o.2.2.1.drop (4096 * y)).take 4096)⟩ : Piece)) ++
  (List.range (headRows w0 h.pairs)).map fun y =>
    let c := headCut w0 h.pairs y
    ⟨true, w0 / 64 + y, c.1 % 64, 64 * h.pairs, (heads.drop (64 * (c.1 - w0))).take (64 * c.2)⟩

/-- Data rows and header words that a shard takes on each destination core in a ring (R182, R206). -/
def Shard.extent (h : Shard) (prune : Bool) : Nat × Nat :=
  if prune then (h.pairs * h.outRows, h.pairs)
  else ((h.dataCuts true).length, if shKind h.header = 0 then shTiles h.header else 0)

/-- Shard k gets its place on every destination core once its header is in and the rows of every earlier shard of those cores are
known (R182, R190, R195); a pruned one its S cycles too. -/
def State.reserveShard (s : State) (p : Nat) (c : Cmd) (st : Stream) (k : Nat) : Option Shard :=
  match st.shards[k]? with
  | none => none
  | some h =>
    let x := s.part p
    let cores := x.shardCores h
    let prune := c.op == 0x206
    let before := (st.shards.take k).filter fun g => (x.shardCores g).any cores.contains
    if h.header.isEmpty || !h.place.isEmpty || (prune && !h.headsIn) || (before.any fun g => g.place.isEmpty || !g.headsIn) then none
    else
      let q := c.stream
      let place := cores.map fun lc =>
        let own := before.flatMap fun g => (g.place.filter fun y => y.1 == lc).map fun y => (g, y)
        if q.fixed then (lc, q.dstRow + sumN (own.map fun g => (g.1.dataCuts false).length), 0)
        else (lc, (own.map fun g => g.2.2.1 + (g.1.extent prune).1).foldl max 0,
          (own.map fun g => g.2.2.2 + (g.1.extent prune).2).foldl max q.firstTile)
      let outs := match (if prune then x.entry h.entry else none) with
        | some (e, b) => place.map fun y => (y.1, s.pruneCycles p h e b y.1 y.2.2)
        | none => []
      some { h with place := place, outs := outs }

/-- What a shard writes on its cores, as far as it is known: cycle, core, piece. -/
def State.pieces (s : State) (p : Nat) (c : Cmd) (h : Shard) : List (Nat × Nat × Piece) := match (s.part p).entry h.entry with
  | none => []
  | some (e, b) => h.place.flatMap fun y =>
    if c.op = 0x206 then
      let cycles := ((h.outs.filter fun o => o.1 == y.1).map Prod.snd).flatten
      (cycles.zip (h.prunedPieces y.2.1 y.2.2)).map fun z => (s.boundCycle p z.1, y.1, z.2)
    else (List.range e.rows).filterMap fun j => match h.pieceAt (!c.stream.fixed) y.2.1 y.2.2 j, b.cycleOn y.1 j with
      | some q, some x => some (s.boundCycle p x, y.1, q)
      | _, _ => none

/-- The cycle of the first row of a shard that is not yet known, if there is one. -/
def State.unknownRow (s : State) (p : Nat) (c : Cmd) (h : Shard) : Option Nat := match (s.part p).entry h.entry with
  | none => none
  | some (e, b) =>
    let first := fun (j : Nat) => match (s.deliveries p e b j).map Prod.snd with
      | [] => none
      | x :: l => some (l.foldl min x)
    if h.place.isEmpty then first 0
    else if h.headsIn then none
    else first ((h.place.map fun y => h.headCount (!c.stream.fixed) y.2.2).foldl min 65536)

/-- A shard's standing on one core for its ring's buffers: its first linear data row, its data rows, those written, and those whose
tiles have their header words written. -/
structure Standing where
  core : Nat
  first : Nat
  rows : Nat
  written : Nat
  headed : Nat
  verdict : Bool

/-- The standing of a shard on its cores after cycle x. -/
def State.standings (s : State) (p : Nat) (c : Cmd) (x : Nat) (h : Shard) : List Standing :=
  let prune := c.op == 0x206
  let done := (s.pieces p c h).filter fun w => decide (w.1 ≤ x)
  h.place.map fun y =>
    let own := (done.filter fun w => w.2.1 == y.1).map fun w => w.2.2
    let rows := (h.extent prune).1
    ⟨y.1, y.2.1, rows, (own.filter fun q => !q.head).length,
     if prune then sumN ((own.filter fun q => q.head).map fun q => q.bytes.length / 64) * h.outRows else rows, h.verdict.isSome⟩

/-- One buffer of a ring after cycle x (Table 9-2): FILLING with the first row of its lap, READY once every row of the lap and
every header word of its tiles is written and every shard with bytes in it has its verdict. `known` says that every row to
come is in the standings. -/
def settleBuf (g : RingGeo) (cores : List Nat) (ss : List Standing) (known : Bool) (b x : Nat) (v : Buf) : Buf :=
  if v.state ≠ 1 ∧ v.state ≠ 2 then v
  else
    let i := b - g.firstBuf
    let first := v.lap * g.dataRows + (if i = 0 then 0 else i * g.bufRows - g.hdr)
    let fin := g.lapEnd b v.lap
    let any := ss.any fun q => decide (first < q.first + q.written) && decide (q.first < fin) && decide (0 < q.written)
    let whole := ss.all fun q => decide (fin ≤ q.first) || decide (q.first + q.rows ≤ first) ||
      (decide (min (q.first + q.rows) fin ≤ q.first + min q.written q.headed) && q.verdict)
    let covered := known || cores.all fun lc => decide (fin ≤ ((ss.filter fun q => q.core == lc).map fun q => q.first + q.rows).foldl max 0)
    if any then (if whole && covered then { v with state := 3, cycle := x } else if v.state = 1 then { v with state := 2, cycle := x } else v)
    else v

/-- The buffers of a command's ring after cycle x. -/
def State.settleRing (s : State) (p : Nat) (c : Cmd) (x : Nat) : State := match (s.part p).ringOf c, (s.part p).stream c with
  | some r, some st =>
    let g := r.geo (s.part p).pool
    let cores := (st.shards.flatMap fun h => (s.part p).shardCores h).dedup
    let ss := (st.shards.filter Shard.headsIn).flatMap fun h => s.standings p c x h
    let known := st.shards.all fun h => h.headsIn && !h.place.isEmpty
    s.modStrm p fun y => { y with bufs := (List.range g.nbuf).foldl (fun (t : Tab Buf) i =>
      let b := g.firstBuf + i
      Tab.put Buf.init t b (settleBuf g cores ss known b x (Tab.get Buf.init t b))) y.bufs }
  | _, _ => s

/-- What the partition's wide operation reads in cycles up to x is known: no matrix operation runs, or its cores have come past x. -/
def State.readPast (s : State) (p x : Nat) : Bool := match (s.part p).run.wide with
  | some w => match s.findCmd w.queue w.seq with
    | some c => w.walks.all fun v => v.finished.isSome || decide (x < c.t0 + v.c)
    | none => true
  | none => true

/-- What a row of a stream meets at its buffer in cycle x: 0 it may be written, 1 the consumption up to x is not known yet, 2 an
overrun (R189, R191). -/
def State.bufCheck (s : State) (p : Nat) (r : Ring) (row x : Nat) : Nat :=
  let g := r.geo (s.part p).pool
  let k := g.bufOf row
  let v := Tab.get Buf.init (s.part p).strm.bufs k.1
  if v.lap = k.2 ∧ (v.state = 2 ∨ (v.state = 1 ∧ v.cycle ≤ x)) then 0 else if s.readPast p x then 2 else 1

/-- The ring into which a command places tiles. -/
def Part.tileRing (x : Part) (c : Cmd) : Option Ring := if c.stream.fixed then none else x.ringOf c

/-- The tile-memory row of a piece: in the header table of its ring, in its data rows, or a fixed row. -/
def Piece.row' (q : Piece) (g : Option RingGeo) : Nat := match g with
  | some g => if q.head then g.base + q.row else g.rowOf q.row
  | none => q.row

/-- Pruned pairs are counted as their first row is written (R116). -/
def State.countPrune (s : State) (p lc : Nat) (h : Shard) (q : Piece) : State :=
  let r0 := match h.place.find? fun y => y.1 == lc with
    | some y => y.2.1
    | none => 0
  let n := max 1 h.outRows
  if q.head = true ∨ (q.row - r0) % n ≠ 0 then s
  else match (s.part p).position lc, h.pruned[(q.row - r0) / n]? with
    | some k, some o => (s.inc .CORE_PRUNE_GROUPS k 32768).inc .CORE_PRUNE_TIES k o.2.2.1
    | _, _ => s

/-- One piece is written on a core in cycle x, or the overrun that it meets (R130, R182, R191). -/
def State.writePiece (s : State) (c : Cmd) (p lc : Nat) (h : Shard) (q : Piece) (x : Nat) : State :=
  let r := (s.part p).tileRing c
  let g := r.map fun r => r.geo (s.part p).pool
  match (if q.head then none else r.filter fun r => s.bufCheck p r q.row x == 2) with
  | some r =>
    let k := (r.geo (s.part p).pool).bufOf q.row
    ((s.inc .STRM_FAIL_OVERRUN p 1).advance x).fault c 0x4000 (q.row' g + k.1 * 2 ^ 16 + lc * 2 ^ 32)
  | none =>
    let s := s.remoteWrite p lc (q.row' g) q.wc0 q.bytes 1 0 x
    if c.op = 0x206 then s.countPrune p lc h q else s

/-- A piece must wait until the consumption of its buffer is known. -/
def State.pieceWaits (s : State) (c : Cmd) (p : Nat) (q : Piece) (x : Nat) : Bool :=
  !q.head && (match (s.part p).tileRing c with
    | some r => s.bufCheck p r q.row x == 1
    | none => false)

/-- A number enters a rising list once. -/
def insertNat (x : Nat) : List Nat → List Nat
  | [] => [x]
  | y :: r => if x < y then x :: y :: r else if x = y then y :: r else y :: insertNat x r

/-- A stream's rows of one cycle, core by core: the stream then stands there; the second part is the cycle before which all is
done. -/
def State.pieceCycle (s : State) (c : Cmd) (p stop x : Nat) (ws : List (Nat × Nat × Shard × Piece)) : State × Nat :=
  if stop ≤ x ∨ s.alive c = false then (s, stop)
  else
    let own := ws.filter fun w => w.1 == x
    if own.any fun w => s.pieceWaits c p w.2.2.2 x then (s, x)
    else
      let s := (List.range (s.part p).lcores).foldl (fun (s : State) lc =>
        (own.filter fun w => w.2.1 == lc).foldl (fun (s : State) w => if s.alive c then s.writePiece c p lc w.2.2.1 w.2.2.2 x else s) s) s
      (s.settleRing p c x, stop)

/-- The rows of a command's shards are written on their cores in the cycles up to `lim`, as far as they have come. -/
def State.runPieces (s : State) (c : Cmd) (p lim : Nat) : State := match (s.part p).stream c with
  | none => s
  | some st =>
    let live := st.shards.filter fun h => !h.cancelled
    let ws := (live.flatMap fun h => (s.pieces p c h).map fun w => (w.1, w.2.1, h, w.2.2)).filter fun w => decide (s.uptoOf c ≤ w.1)
    let late := (ws.filter fun w => decide (w.2.2.1.plain.length < w.2.2.2.need)).map Prod.fst
    let stop := firstOf (lim + 1) (late ++ live.filterMap fun h => s.unknownRow p c h)
    let r := ((ws.map Prod.fst).foldl (fun l x => insertNat x l) []).foldl (fun (a : State × Nat) x => a.1.pieceCycle c p a.2 x ws) (s, stop)
    r.1.setUpto c r.2

/-- Shard k takes a new content. -/
def State.putShard (s : State) (c : Cmd) (p k : Nat) (h : Shard) : State := match (s.part p).stream c with
  | some st => s.setStream p (st.setShard k h)
  | none => s

/-- Bytes of a speculative command that have arrived enter its slot (R219). -/
def State.addBytes (s : State) (c : Cmd) (p n : Nat) : State := match s.pendingSlot c with
  | some k =>
    let d := (s.part p).pred k
    s.setPred p k { d with bytes := d.bytes + n }
  | none => s

/-- The q-th round of shard k leaves carrier memory, if it has not yet done so and its cycle has come (R165, R167, R183). -/
def State.readRound (s : State) (c : Cmd) (p lim k q : Nat) : State := match (s.part p).stream c with
  | none => s
  | some st => match st.shards[k]? with
    | none => s
    | some h => match (s.part p).entry h.entry with
      | none => s
      | some (e, b) =>
        let w := e.roundWords q
        let x := s.roundCycle p (b.round + q)
        if h.port < 64 ∨ h.data.length ≠ 64 * w.1 ∨ w.2 = 0 ∨ lim < x ∨ s.alive c = false then s
        else
          let a := h.addr + 64 * w.1
          let period := s.stackPeriod p (b.round + q)
          let bs := s.stackRead period a (64 * w.2)
          let s := s.leaveBursts c p x period a (64 * w.2) ((s.part p).leads h.entry e)
          (s.putShard c p k { h with data := h.data ++ bs }).addBytes c p (min bs.length (shLen h.header - h.data.length))

/-- What leaves carrier memory for a command up to cycle `lim`, in the order of the rounds. -/
def State.readStacks (s : State) (c : Cmd) (p lim : Nat) : State := match (s.part p).stream c with
  | none => s
  | some st =>
    let rounds := (st.shards.map fun h => match (s.part p).entry h.entry with
      | some (e, _) => if h.port = 64 then e.rounds else 0
      | none => 0).foldl max 0
    (List.range rounds).foldl (fun (s : State) q =>
      (List.range st.shards.length).foldl (fun (s : State) k => s.readRound c p lim k q) s) s

/-- What R176, R206 and the layout of a slot region (log entry 76) find wrong in a shard's headers ends the command. -/
def State.headFault (s : State) (c : Cmd) (p : Nat) (h : Shard) : Option State :=
  if h.header.isEmpty || h.cancelled || !h.headsIn then none
  else if !h.headsOk then some (s.digestFail c p h.id 2)
  else if c.op = 0x206 ∧ (h.heads.all fun t => hdrClass t == 0 && prunable (hdrFormat t) && hdrFormat t == hdrFormat (h.heads.getD 0 [])) = false
  then some (s.fault c 0x3000 0)
  else if c.op = 0x203 then match (s.part p).entry h.entry with
    | some (e, _) => if e.rows = cdiv (shLen h.header) 4096 then none else some (s.fault c 0x3000 0)
    | none => none
  else none

/-- A shard's headers are checked, and it gets its place. -/
def State.settleShard (s : State) (c : Cmd) (p k : Nat) : State := match (s.part p).stream c with
  | none => s
  | some st => match st.shards[k]? with
    | none => s
    | some h =>
      if s.alive c = false then s
      else match s.headFault c p h with
        | some t => t
        | none => match (if c.op = 0x203 then none else s.reserveShard p c st k) with
          | some h' => s.setStream p (st.setShard k h')
          | none => s

/-- The rounds in which a shard of RESIDE enters its stack: cycle, round from the anchor, first word, words. -/
def State.enterRounds (s : State) (p : Nat) (h : Shard) : List (Nat × Nat × Nat × Nat) := match (s.part p).entry h.entry with
  | none => []
  | some (e, b) => (List.range e.rounds).map fun q =>
    let r := b.round + 8 + 12 * s.farHops p e + q
    (s.roundCycle p r, r, (e.roundWords q).1, (e.roundWords q).2)

/-- The plaintext that words of a shard need. -/
def Shard.wordsIn (h : Shard) (w : Nat × Nat × Nat × Nat) : Bool := !h.header.isEmpty &&
  decide (min (64 * (w.2.2.1 + w.2.2.2)) (shLen h.header) ≤ h.plain.length)

/-- The shards of a RESIDE enter carrier memory in the cycles up to `lim`, as far as they have come (R200). -/
def State.runEnters (s : State) (c : Cmd) (p lim : Nat) : State := match (s.part p).stream c with
  | none => s
  | some st =>
    let ws := (st.shards.flatMap fun h => (s.enterRounds p h).map fun w => (h, w)).filter fun w => decide (s.uptoOf c ≤ w.2.1)
    let stop := firstOf (lim + 1) ((ws.filter fun w => !w.1.wordsIn w.2).map fun w => w.2.1)
    let due := ws.filter fun w => decide (w.2.1 < stop)
    let s := ((due.map fun w => w.2.1).foldl (fun l x => insertNat x l) []).foldl (fun (s : State) x =>
      (due.filter fun w => w.2.1 == x).foldl (fun (s : State) w => if s.alive c = false then s else match (s.part p).entry w.1.entry with
        | some (e, _) => s.enterBursts c p w.1.entry w.2.2.1 x (e.dstAddr + 64 * w.2.2.2.1)
            (fitBytes (64 * w.2.2.2.2) ((w.1.plain.drop (64 * w.2.2.2.1)).take (64 * w.2.2.2.2)))
        | none => s) s) s
    s.setUpto c stop

/-- Every row of a shard is placed: all of it has come, and its cycles lie before what is still to be done. -/
def State.allPlaced (s : State) (c : Cmd) (p : Nat) (h : Shard) : Bool :=
  h.full && h.headsIn && (if c.op = 0x203 then (s.enterRounds p h).all fun w => decide (w.1 < s.uptoOf c)
    else !h.place.isEmpty && (s.pieces p c h).all fun w => decide (w.1 < s.uptoOf c))

/-- The last cycle in which a row of a shard is in place. -/
def State.placeEnd (s : State) (p : Nat) (c : Cmd) (h : Shard) : Nat := match (s.part p).entry h.entry with
  | some (e, b) =>
    if c.op = 0x203 then (if e.rows = 0 then 0 else s.farCycle p e (e.rowLast b.round (e.rows - 1)))
    else ((s.pieces p c h).map Prod.fst).foldl max 0
  | none => 0

/-- Shards whose rows are all placed are delivered; the ring of a command that has no row left knows when the last one came. -/
def State.markDelivered (s : State) (c : Cmd) (p : Nat) : State := match (s.part p).stream c with
  | none => s
  | some st =>
    let st' : Stream := { st with shards := st.shards.map fun h => { h with delivered := h.delivered || s.allPlaced c p h } }
    let s := s.setStream p st'
    if st'.shards.all Shard.delivered then
      let x := (st'.shards.map fun h => s.placeEnd p c h).foldl max 0
      s.modStrm p fun y => { y with rings := y.rings.map fun r => if r.queue = c.queue ∧ r.seq = c.seq then { r with placed := some x } else r }
    else s

/-- Slot regions of RESIDE (R198, R200): expert, its ERT entry in the shadow bank, the first plan entry of its shards, its new
region's address and its slots. -/
structure Region where
  expert : Nat
  ert : Nat
  first : Nat
  addr : Nat
  slots : Nat

/-- Rows of plan entries first to first + n − 1. -/
def Part.planRows (x : Part) (first n : Nat) : Nat := sumN ((List.range n).map fun i => match x.taskSlotOf.plan[first + i]? with
  | some e => e.rows
  | none => 0)

/-- The regions of a RESIDE, each at the first slot after the one before. -/
def State.regions (s : State) (p : Nat) (q : ResideP) : List Region :=
  ((List.range q.count).foldl (fun (a : List Region × Nat × Nat) i =>
    let x := s.ertShadow p (q.expert + i)
    let slots := cdiv (16384 + 4096 * (s.part p).planRows a.2.1 (ertShards x)) (2 ^ 22)
    (a.1 ++ [⟨q.expert + i, x, a.2.1, a.2.2, slots⟩], a.2.1 + ertShards x, a.2.2 + slots * 2 ^ 22)) ([], q.entry, q.caddr)).1

/-- The carrier address of resident shard k of an ERT entry (R198). -/
def State.residentShard (s : State) (x k : Nat) : Nat :=
  ertCaddr x + 16384 + sumN ((List.range k).map fun i => cdiv (shLen (Mem.read s.carrier.mem (ertCaddr x + 64 * i) 16)) 4096 * 4096)

/-- A command or the host writes entry e of a partition's range in the shadow bank; while the bank is refilled the write is
discarded and tallied (R170, R171). -/
def State.writeShadow (s : State) (p e v : Nat) : State :=
  if s.get .PART_ERT_CTL_SYNC_BUSY p = 1 then s.event 0xB002 p 0
  else match (s.part p).bind.shape with
    | some sh =>
      let c := s.carrier
      { s with carrier := { c with
        ertShadow := Tab.put 0 c.ertShadow (sh.ertBase + e) v
        shadowBy := (s.now, (sh.ertBase + e) :: (if c.shadowBy.1 = s.now then c.shadowBy.2 else [])) } }
    | none => s

/-- RESIDE's last cycle: the stored headers, the shadow entries with STATE 2 (R198, R200); its shards are good again, and their
comparison counts as a check (R199; log entry 77). -/
def State.writeResidents (s : State) (p : Nat) (q : ResideP) (st : Stream) : State :=
  (s.regions p q).foldl (fun (s : State) r =>
    let n := ertShards r.ert
    let hs := (st.shards.drop (r.first - q.entry)).take n
    let s := (enumFrom 0 hs).foldl (fun (s : State) x =>
      { s with carrier := { s.carrier with
          mem := Mem.write s.carrier.mem (r.addr + 64 * x.1) (x.2.header.set 1 ((x.2.header.getD 1 0) &&& 0xFB)) } }) s
    let e := r.ert / 4 * 4 + 2
    let e := e % 2 ^ 64 + r.addr / 4096 * 2 ^ 64 + bits r.ert 127 96 * 2 ^ 96
    let s := s.writeShadow p r.expert e
    let outside := fun (a : Nat) => decide (a < r.addr) || decide (r.addr + r.slots * 2 ^ 22 ≤ a)
    let c := s.carrier
    { s with carrier := { c with
      bad := c.bad.filter outside
      checked := (List.range n).foldl (fun t k => Tab.put 0 t (s.residentShard e k) s.now) (c.checked.filter fun a => outside a.1) } }) s

/-- The stream's command has nothing left to do: it retires in the cycle after its last row is placed and its last verdict
has arrived (R192). -/
def State.streamDone (s : State) (c : Cmd) (p : Nat) : State :=
  match (s.part p).stream c, s.findCmd c.queue c.seq with
  | some st, some d =>
    if d.due.isSome ∨ d.began = none then s
    else if st.shards.all fun h => h.delivered && h.verdict.isSome then
      let v := (st.shards.map fun h => match h.verdict with
        | some y => y.2
        | none => 0).foldl max d.t0
      let t := max v ((st.shards.map fun h => s.placeEnd p c h).foldl max 0) + 1
      let s := if c.op = 0x203 then s.writeResidents p c.reside st else s
      let s := s.modStrm p fun x => { x with streams := x.streams.filter fun t => !(t.queue == c.queue && t.seq == c.seq) }
      s.doneLinks d t st.degraded
    else s
  | _, _ => s

/-- The digest of a stack-to-stack copy is compared when its last byte has been read (R177, R200). -/
def State.recheck (s : State) (c : Cmd) (p : Nat) : State := match (s.part p).stream c with
  | none => s
  | some st => match (if c.op = 0x203 then st.shards.find? fun h => h.port == 64 && h.full && sha256 h.plain != shDigest h.header else none) with
    | some h => s.digestFail c p h.id 0
    | none => s

/-- Everything of a streaming command that falls in cycles up to `lim` is done, as far as its shards have come: carrier memory is
read, headers are checked, rows are placed (log entry 2). -/
def State.pumpTo (s : State) (c : Cmd) (p lim : Nat) : State := match (s.part p).stream c with
  | none => s
  | some st =>
    let s := (s.readStacks c p lim).recheck c p
    let s := (List.range st.shards.length).foldl (fun (s : State) k => s.settleShard c p k) s
    if s.alive c = false then s
    else
      let s := if c.op = 0x203 then s.runEnters c p lim else s.runPieces c p lim
      if s.alive c then (s.markDelivered c p).streamDone c p else s

/-- The same up to the present cycle. -/
def State.pump (s : State) (c : Cmd) (p : Nat) : State := s.pumpTo c p s.now

/-- A streaming command's own step (R181, R183, R193, R210): its request goes out, carrier memory is read, rows move on. -/
def State.streamStep (s : State) (c : Cmd) (p lim : Nat) : State :=
  match (s.part p).stream c with
  | none => s
  | some st =>
    let s := if st.asked then s else (s.sendRequests p st).setStream p { st with asked := true }
    s.pumpTo c p lim

/-- STREAM_LOAD (R193 to R195). -/
def execStreamLoad (c : CmdId) (s : State) : Host.Outcome State Fault Refusal :=
  .next (match s.ready c 0x200 with
    | some d => match d.part with
      | some p => s.streamStep d p s.now
      | none => s
    | none => s)

/-- STREAM_SPEC (R210, R212). -/
def execStreamSpec (c : CmdId) (s : State) : Host.Outcome State Fault Refusal :=
  .next (match s.ready c 0x201 with
    | some d => match d.part with
      | some p => s.streamStep d p s.now
      | none => s
    | none => s)

/-- PRUNE_LOAD (R206). -/
def execPruneLoad (c : CmdId) (s : State) : Host.Outcome State Fault Refusal :=
  .next (match s.ready c 0x206 with
    | some d => match d.part with
      | some p => s.streamStep d p s.now
      | none => s
    | none => s)

/-- Shards of a RESIDE at its begin (R200): from the tethers, or from where they lie in the current slot regions. -/
def State.resideShards (s : State) (p : Nat) (q : ResideP) : List Shard :=
  (s.regions p q).flatMap fun r => (List.range (ertShards r.ert)).map fun k =>
    let id := (ertId r.ert + k) % 2 ^ 48
    if ertState r.ert = 2 then s.storedShard id (r.first + k) (ertCaddr r.ert + 64 * k) (s.residentShard r.ert k)
    else (s.part p).tetherShard id (r.first + k)

/-- Bytes of the slot region of an ERT entry, by its stored headers (R198). -/
def State.regionBytes (s : State) (x : Nat) : Nat := s.residentShard x (ertShards x) - ertCaddr x

/-- An address lies in the slots that an ERT entry's region occupies. -/
def State.pointsInto (s : State) (x a : Nat) : Bool :=
  ertState x == 2 && decide (ertCaddr x ≤ a) && decide (a < ertCaddr x + cdiv (s.regionBytes x) (2 ^ 22) * 2 ^ 22)

/-- A slot of carrier memory is unavailable to a RESIDE (R201): its page is not private, an entry of either bank points into
it, or a pending EVICT holds it. -/
def State.slotTaken (s : State) (p a : Nat) : Bool :=
  (match (s.part p).bind.shape with
   | some sh => pageCode sh.pages a != 1
   | none => true) ||
  (s.carrier.ertCommitted.any fun e => s.pointsInto e.2 a) || (s.carrier.ertShadow.any fun e => s.pointsInto e.2 a) ||
  ((List.range 16).any fun p => (s.part p).strm.evicts.any fun v => decide (v.addr ≤ a) && decide (a < v.addr + v.slots * 2 ^ 22))

/-- The slots that a RESIDE needs. -/
def State.neededSlots (s : State) (p : Nat) (q : ResideP) : List Nat :=
  (s.regions p q).flatMap fun r => (List.range r.slots).map fun i => r.addr + i * 2 ^ 22

/-- RESIDE (R200, R201): refused with RESIDENCY_REFUSED before any byte moves, or its request goes out and its shards move. -/
def State.resideStep (s : State) (d : Cmd) (p lim : Nat) : State :=
  match (s.part p).stream d with
  | none => s
  | some st =>
    let need := s.neededSlots p d.reside
    let short := (need.filter fun a => s.slotTaken p a).length
    if st.asked = false ∧ short ≠ 0 then
      (s.modStrm p fun x => { x with streams := x.streams.filter fun t => !(t.queue == d.queue && t.seq == d.seq) }).done d (d.t0 + 1)
        0x2000 (short + need.length * 2 ^ 32)
    else
      let s := if st.asked then s else (s.sendRequests p st).setStream p { st with asked := true }
      s.pumpTo d p lim

def execReside (c : CmdId) (s : State) : Host.Outcome State Fault Refusal :=
  .next (match s.ready c 0x203 with
    | some d => match d.part with
      | some p => s.resideStep d p s.now
      | none => s
    | none => s)

/-- Words of a frame's payload. -/
def frameWords (w : WslFrame) : List Bytes := chunks 64 81 w.payload

/-- Every shard of a partition on port n: stream, place in it, shard. -/
def Part.onPort (x : Part) (n : Nat) : List (Stream × Nat × Shard) :=
  x.strm.streams.flatMap fun st => (enumFrom 0 st.shards).filterMap fun h => if h.2.port = n then some (st, h.1, h.2) else none

/-- The round of a shard's bound transfer. -/
def Part.roundOf (x : Part) (h : Shard) : Nat := match x.entry h.entry with
  | some (_, b) => b.round
  | none => 0

/-- The shard whose header is expected next on port n: the earliest round. -/
def Part.expected (x : Part) (n : Nat) : Option (Stream × Nat × Shard) :=
  ((x.onPort n).filter fun y => y.2.2.header.isEmpty && !y.2.2.cancelled && decide (y.2.2.id < 2 ^ 48)).foldl (fun a y => match a with
    | some z => if x.roundOf y.2.2 < x.roundOf z.2.2 then some y else some z
    | none => some y) none

/-- The command of a stream. -/
def State.streamCmd (s : State) (st : Stream) : Option Cmd := s.findCmd st.queue st.seq

/-- First number of the pieces of a collective, and of the rows of plan transfers, among a stream's shards. -/
def pieceBase : Nat := 2 ^ 48
def rowBase : Nat := 2 ^ 49

/-- Bytes that row j of what shard h brings needs; none where it has no such row. -/
def rowNeed (c : Cmd) (h : Shard) (e : PlanEntry) (j : Nat) : Option Nat :=
  if e.rows ≤ j then none
  else if pieceBase ≤ h.id then some (4096 * (j + 1))
  else if h.header.isEmpty then some 1
  else
    let tiles := !c.stream.fixed && c.op != 0x203
    match h.place.head? with
    | some y => (h.pieceAt tiles y.2.1 y.2.2 j).map Piece.need
    | none => if shLen h.header ≤ 4096 * j ∧ h.headsIn = true then none
      else some (if h.headsIn then min (4096 * (j + 1)) (shLen h.header) else h.plain.length + 1)

/-- Bytes of shard h that a port holds until their rounds: those of rows whose round has come have left it (R361). -/
def State.heldOf (s : State) (p : Nat) (c : Cmd) (h : Shard) : Nat := match (s.part p).entry h.entry with
  | none => 0
  | some (e, b) => h.data.length - (List.range e.rows).foldl (fun a j =>
      if s.roundCycle p (e.rowLast b.round j) ≤ s.now then max a (match rowNeed c h e j with
        | some m => m
        | none => 0) else a) 0

/-- Class 2 to 4 payload that port n holds for partition p (R361). -/
def State.storeHeld (s : State) (n p : Nat) : Nat := sumN (((s.part p).onPort n).map fun y =>
  match (if y.2.2.cancelled then none else s.streamCmd y.1) with
  | some c => s.heldOf p c y.2.2
  | none => 0)

/-- What a port receives in 32 µs: 2,352 long WSL frames at width 16, half of them at width 8 (Table 12-1, R361; log entry 82). -/
def State.storeBytes (s : State) (n : Nat) : Nat := 5120 * (if s.width8 n .rx then 1176 else 2352)

/-- While an emergency clock step lasts, `len` more bytes would exceed what port n holds (R361). -/
def State.storeFull (s : State) (n p len : Nat) : Bool := s.power.step.isSome && decide (s.storeBytes n < s.storeHeld n p + len)

/-- Payload bytes that shard h takes next arrive: rows that come after their round are late (R181). -/
def State.lateRow (s : State) (p : Nat) (c : Cmd) (old new : Shard) : Option Nat :=
  match (s.part p).entry new.entry with
  | none => none
  | some (e, b) =>
    let tiles := !c.stream.fixed && c.op != 0x203
    (List.range e.rows).find? fun j =>
      let need := match new.place.head? with
        | some y => (new.pieceAt tiles y.2.1 y.2.2 j).map Piece.need
        | none => if min (4096 * (j + 1)) (shLen new.header) ≤ 4096 * j then none else some (min (4096 * (j + 1)) (shLen new.header))
      match need with
      | some m => decide (old.data.length < m) && decide (m ≤ new.data.length) && decide (s.roundCycle p (e.rowLast b.round j) < s.now)
      | none => false

/-- A row absent at its round (R181). -/
def State.absentRow (s : State) (c : Cmd) (id j : Nat) : State := s.fault c 0x3001 (id % 2 ^ 48 + j % 2 ^ 16 * 2 ^ 48)

/-- One word of class 2 data arrives on port n for partition p (R176, R178, R181, R415). -/
def State.shardWord (s : State) (n p : Nat) (w : Bytes) : State :=
  let x := s.part p
  match (x.onPort n).find? fun y => !y.2.2.header.isEmpty && !y.2.2.full && decide (y.2.2.id < 2 ^ 48) with
  | some (st, k, h) =>
    let h' := { h.more w (!h.cancelled && s.storeFull n p w.length) with key := (if h.data.isEmpty && shEnc h.header then
        (let v := Tab.get [] x.keys.keys (shKey h.header)
         if v.isEmpty then none else some v) else h.key) }
    if h.cancelled then
      if h'.full then s.modStrm p fun y => { y with streams := (y.streams.map fun t =>
        if t = st then { t with shards := t.shards.eraseIdx k } else t).filter fun t => !(t.queue == 16384 && t.shards.isEmpty) }
      else s.modStrm p fun y => { y with streams := y.streams.map fun t => if t = st then st.setShard k h' else t }
    else match s.streamCmd st with
      | none => s
      | some c =>
        let st' := { st with degraded := (s.linkBits n .rx ++ st.degraded).dedup }
        let s := (s.setStream p (st'.setShard k h')).addBytes c p (if h'.lost = 0 then min 64 (shLen h.header - h.data.length) else 0)
        let s := match s.headFault c p h' with
          | some t => t
          | none => s
        if s.alive c = false then s
        else
          let h2 := match (if c.op = 0x203 then none else s.reserveShard p c (st'.setShard k h') k) with
            | some g => g
            | none => h'
          let s := s.setStream p (st'.setShard k h2)
          match s.lateRow p c h h2 with
          | some j => s.absentRow c h.id j
          | none => s
  | none =>
    match (x.onPort n).find? fun y => y.2.2.cancelled && y.2.2.header.isEmpty && y.2.2.id == shId w with
    | some (st, k, h) => s.modStrm p fun y => { y with streams := y.streams.map fun t => if t = st then st.setShard k { h with header := w } else t }
    | none => match x.expected n with
      | some (st, k, h) => match s.streamCmd st with
        | some c =>
          if shOk w h.id = false then s.digestFail c p h.id 2
          else if c.op = 0x206 ∧ (shPrune w = false ∨ shKind w ≠ 0) then s.fault c 0x3000 0
          else s.setStream p (st.setShard k { h with header := w })
        | none => s
      | none =>
        -- a word after the last shard of its port (R176)
        match ((x.onPort n).filter fun y => y.2.2.full && !y.2.2.cancelled && decide (y.2.2.id < 2 ^ 48)).getLast? with
        | some (st, _, h) => match s.streamCmd st with
          | some c => s.digestFail c p h.id 2
          | none => s
        | none => s

/-- SHARD_DATA (R176 to R182): a class 2, TYPE 1 frame at port n. -/
def execShardData (n : Fin 64) (w : WslFrame) (s : State) : Host.Outcome State Fault Refusal :=
  .next (if s.portTalks n.val = false ∨ w.cls ≠ 2 ∨ w.type ≠ 1 then s else
    let l := s.linkCheck n.val w
    match (if l.1 then l.2.portOwner n.val else none) with
    | none => l.2
    | some p =>
      let s := (frameWords w).foldl (fun (s : State) x => s.shardWord n.val p x) l.2
      let cs := ((s.part p).strm.streams.filter fun st => st.shards.any fun h => h.port == n.val && decide (h.id < 2 ^ 48)).filterMap s.streamCmd
      cs.foldl (fun (s : State) c => s.pump c p) s)

/-- The cause of a shard's DIGEST_FAIL, if its verdict is not OK (R177 to R179). -/
def Shard.cause (h : Shard) : Option Nat :=
  let n := shLen h.header
  if shEnc h.header then match h.key with
    | none => some 1
    | some k =>
      if gcmTag k (shIv h.header) (h.header.take 32) (h.data.take n) ≠ (h.data.drop n).take 16 then some 1
      else if sha256 h.plain ≠ shDigest h.header then some 0 else none
  else if sha256 h.plain ≠ shDigest h.header then some 0 else none

/-- Rows that a shard moves to a destination. -/
def State.movedRows (s : State) (p : Nat) (c : Cmd) (h : Shard) : Nat :=
  if c.op = 0x203 then cdiv (shLen h.header) 4096
  else match h.place.head? with
    | some y => ((s.pieces p c h).filter fun w => w.2.1 == y.1).length
    | none => 0

/-- VERDICT (R180): the verdict of shard k has reached every destination. -/
def State.verdict (s : State) (c : Cmd) (p k : Nat) : State :=
  let s := s.pump c p
  match (if s.alive c then (s.part p).stream c else none) with
  | none => s
  | some st => match st.shards[k]? with
    | none => s
    | some h =>
      if h.verdict.isSome ∨ h.full = false ∨ h.lost ≠ 0 ∨ (h.delivered = false ∧ h.cause = none) then s
      else match h.cause with
        | some e => s.digestFail c p h.id e
        | none =>
          let s := s.journalInput c p 0 h.port h.entry (s.movedRows p c h) (natLE 6 h.id) (shDigest h.header)
          let s := (s.setStream p (st.setShard k { h with verdict := some (0, s.now) })).settleRing p c s.now
          s.pump c p

def execVerdict (c : CmdId) (k : Nat) (s : State) : Host.Outcome State Fault Refusal :=
  .next (match s.findCmd c.queue.val c.seq with
    | some d => match d.part with
      | some p => s.verdict d p k
      | none => s
    | none => s)

end Sys2Proof.Machine
end

