-- ==== Sys2Proof/Machine/Resident.lean ====
section
/-! DEFINITION. Resident experts, the model pointer, WRITEBACK, and what refuses the streaming commands (R116, R193 to R195,
R198 to R207, R215). -/

namespace Sys2Proof.Machine

/-- Status and Detail of a refusal; none where the command may begin. -/
abbrev Refused := Option (Nat × Nat)

/-- CONFIG_INVALID with no Detail, if the condition holds. -/
def invalidIf (b : Bool) : Refused := if b then some (0x3000, 0) else none

/-- Plan entries first to first + n − 1 of the running task exist and have these kinds. -/
def Part.kinds (x : Part) (first n sk dk : Nat) : Bool :=
  (List.range n).all fun i => match x.taskSlotOf.plan[first + i]? with
    | some e => e.srcKind == sk && e.dstKind == dk
    | none => false

/-- Rows from `row` meet the staging pool. -/
def Part.meetsPool (x : Part) (row n : Nat) : Bool :=
  decide (row < x.pool.1 + x.pool.2.1 * x.pool.2.2) && decide (x.pool.1 < row + n) && decide (0 < n)

/-- The rows that entries deliver to their busiest core. -/
def Part.busiest (x : Part) (first n : Nat) : Nat :=
  ((List.range x.lcores).map fun lc => sumN ((List.range n).map fun i => match x.taskSlotOf.plan[first + i]? with
    | some e => if e.dstFirst ≤ lc ∧ lc ≤ e.dstLast then e.rows else 0
    | none => 0)).foldl max 0

/-- STREAM_LOAD, PRUNE_LOAD and STREAM_SPEC are refused on their own parameters and the plan (R184, R193, R195, R206, R210). -/
def Part.streamBad (x : Part) (op : Nat) (q : StreamP) : Bool :=
  let count := x.pool.2.2
  let top := if op = 0x201 then count / 4 else count
  let ring := decide ((if op = 0x201 then 1 else 2) ≤ q.nbuf) && decide (q.nbuf ≤ top) && decide (q.firstBuf + q.nbuf ≤ count) &&
    decide (q.hdrRows ≤ 64) && decide (q.hdrRows < q.nbuf * x.pool.2.1) && q.dstRow == 0
  let fixed := decide (q.dstRow ≤ 16383) && q.consumer == 0 &&
    (q.byExpert || (let n := x.busiest q.tetherEntry q.shards
                    decide (q.dstRow + n ≤ 16384) && !x.meetsPool q.dstRow n))
  let source := if q.byExpert then decide (q.source < 2 ^ 18) else decide (1 ≤ q.shards) && x.kinds q.tetherEntry q.shards 2 0
  let out := match q.spec with
    | some v => decide (v.2.2.1 + v.2.2.2 ≤ 16384) && !x.meetsPool v.2.2.1 v.2.2.2
    | none => true
  !((if q.fixed then fixed && op == 0x200 else ring) && source && out && !(op == 0x206 && (q.byExpert || q.fixed)))

/-- The first bad resident shard of an ERT entry, as DIGEST_FAIL, cause 3 (R199). -/
def State.badShard (s : State) (x : Nat) : Refused :=
  ((List.range (ertShards x)).find? fun k => s.carrier.bad.contains (s.residentShard x k)).map fun k =>
    (0x3002, (ertId x + k) % 2 ^ 48 + 3 * 2 ^ 48)

/-- The ERT entry of a BY_EXPERT command, as the command begins (R194, R199, R374). -/
def State.expertRefused (s : State) (p : Nat) (q : StreamP) : Refused :=
  let x := s.part p
  let e := s.ertLookup p (bits q.source 17 0)
  let n := ertShards e
  if ertState e = 1 then invalidIf (n == 0 || !x.kinds q.tetherEntry n 2 0)
  else if ertState e = 2 then
    let pages := match x.bind.shape with
      | some sh => sh.pages
      | none => []
    let ok := s.get .HBM_STAT_STATE (bits (ertCaddr e) 41 36) != 4 && q.stackEntry != 0xFFFF && n != 0 && x.kinds q.stackEntry n 1 0 && (List.range n).all fun k =>
      match x.taskSlotOf.plan[q.stackEntry + k]? with
      | some t => t.src == bits (ertCaddr e) 41 36 && pagesOk pages (ertCaddr e + bits t.addr 35 0) t.bytes false
      | none => false
    if ok then s.badShard e else some (0x3000, 0)
  else some (0x3000, 0)

/-- A streaming command is refused on the state in which it would begin (R194, R195, R215). -/
def State.streamRefused (s : State) (p : Nat) (q : StreamP) : Refused :=
  let x := s.part p
  let src := s.streamSource p q
  let first := if src.1.isSome then q.stackEntry else q.tetherEntry
  let n := x.busiest first src.2.1
  let e := if q.byExpert then s.expertRefused p q else none
  if e.isSome then e
  else invalidIf (q.fixed && (decide (16384 < q.dstRow + n) || x.meetsPool q.dstRow n || x.pendingRows none q.dstRow n))

/-- The linear data rows that the shards of a STREAM_SPEC take on a logical core: those of carrier memory by their stored headers, those
of a tether at least what their entries move beyond header-table rows (R182, R210). -/
def State.specRows (s : State) (p lc : Nat) (q : StreamP) : Nat :=
  let x := s.part p
  let own := (s.streamShards p q).filter fun h => (x.shardCores h).contains lc
  if own.all fun h => h.port == 64 then
    sumN (own.map fun h => (({ h with data := Mem.read s.carrier.mem h.addr (64 * shTiles h.header) }).dataCuts true).length)
  else sumN (own.map fun h => match x.entry h.entry with
    | some (e, _) => e.rows
    | none => 0) - (if q.hdrRows = 0 then 0 else q.hdrRows + own.length - 1)

/-- STREAM_SPEC is refused at the edge at which its ring could be granted (R210): its slot, the pending output ranges, the room
in its ring. -/
def State.specRefused (s : State) (p : Nat) (q : StreamP) : Refused :=
  let x := s.part p
  match q.spec with
  | none => some (0x3000, 0)
  | some v =>
    let group := x.strm.preds.filter fun c => c.2.state == 1 && c.2.group == v.2.1
    let bad := (x.pred v.1).state != 0 || decide (8 ≤ group.length) ||
      (x.strm.preds.any fun c => c.2.state == 1 && decide (0 < v.2.2.2) && decide (0 < c.2.outRows) &&
        decide (v.2.2.1 < c.2.outFirst + c.2.outRows) && decide (c.2.outFirst < v.2.2.1 + v.2.2.2)) ||
      ((List.range x.lcores).any fun lc => decide (q.nbuf * x.pool.2.1 - q.hdrRows < s.specRows p lc q))
    if bad then some (0x3000, 0) else s.expertRefused p q

/-- The partition's ERT entries. -/
def Part.ertCount (x : Part) : Nat := match x.bind.shape with
  | some sh => sh.ertCount
  | none => 0

/-- RESIDE is refused on its own parameters (R200). -/
def Part.resideBad (x : Part) (q : ResideP) : Bool :=
  !(decide (1 ≤ q.count) && decide (q.count ≤ 4096) && q.caddr % 2 ^ 22 == 0 && decide (q.caddr < 2 ^ 42) &&
    decide (q.expert + q.count ≤ x.ertCount))

/-- The entries of a region's shards put them where the layout of R198 has them, by their ROWS (R200; log entry 76). -/
def Part.regionFits (x : Part) (r : Region) : Bool := (List.range (ertShards r.ert)).all fun k =>
  match x.taskSlotOf.plan[r.first + k]? with
  | some e => e.dstAddr == r.addr + 16384 + 4096 * x.planRows r.first k
  | none => false

/-- RESIDE is refused on the shadow entries as it begins (R199, R200). -/
def State.resideRefused (s : State) (p : Nat) (q : ResideP) : Refused :=
  let x := s.part p
  (s.regions p q).findSome? fun r =>
    let n := ertShards r.ert
    if ertState r.ert = 1 then invalidIf (n == 0 || !x.kinds r.first n 2 1 || !x.regionFits r)
    else if ertState r.ert = 2 then (if n == 0 || !x.kinds r.first n 1 1 || !x.regionFits r then some (0x3000, 0) else s.badShard r.ert)
    else some (0x3000, 0)

/-- EVICT is refused on its own parameters and the bound pages (R202). -/
def Part.evictBad (x : Part) (q : EvictP) : Bool :=
  !(decide (1 ≤ q.slots) && decide (q.slots ≤ 12288) && q.caddr % 2 ^ 22 == 0 && decide (q.caddr < 48 * 2 ^ 36) &&
    decide (bits q.caddr 35 0 + q.slots * 2 ^ 22 ≤ 0xC00000000) &&
    (match x.bind.shape with
     | some sh => pagesOk sh.pages q.caddr (q.slots * 2 ^ 22) true
     | none => false) &&
    (!q.unmap || (decide (1 ≤ q.count) && decide (q.count ≤ 4096) && decide (q.expert + q.count ≤ x.ertCount))))

/-- EVICT (R202): the named experts become STATE 1 in the shadow bank, and the slots wait to be freed. -/
def State.evict (s : State) (c : Cmd) (p : Nat) : State :=
  let q := c.evict
  let s := if q.unmap then (List.range q.count).foldl (fun (s : State) i =>
      let x := s.ertShadow p (q.expert + i)
      s.writeShadow p (q.expert + i) (x / 4 * 4 + 1)) s else s
  (s.modStrm p fun x => { x with evicts := x.evicts ++ [⟨q.caddr, q.slots, s.now⟩] }).done c (c.t0 + 1) 0 0

def execEvict (c : CmdId) (s : State) : Host.Outcome State Fault Refusal :=
  .next (match s.ready c 0x204 with
    | some d => match d.part with
      | some p => s.evict d p
      | none => s
    | none => s)

/-- A command of partition p that began before cycle x is still executing. -/
def State.olderRuns (s : State) (p x : Nat) : Bool := s.cmds.any fun c => c.part == some p && (match c.began with
  | some b => decide (b < x)
  | none => false)

/-- A region of carrier memory and a run of slots have an address in common. -/
def Evict.meets (v : Evict) (a n : Nat) : Bool := decide (v.addr < a + n) && decide (a < v.addr + v.slots * 2 ^ 22)

/-- The slots of an EVICT may be freed (R202): no committed entry points into them, and no command that began while one did is
still executing. -/
def State.mayFree (s : State) (p : Nat) (v : Evict) : Bool :=
  !(s.carrier.ertCommitted.any fun e => ertState e.2 == 2 && v.meets (ertCaddr e.2) (cdiv (s.regionBytes e.2) (2 ^ 22) * 2 ^ 22)) &&
  !((s.part p).strm.dropped.any fun d => v.meets d.1 d.2.1 && s.olderRuns p d.2.2)

/-- SLOT_FREE (R202): at a frame edge the slots of the EVICTs whose conditions hold are free. -/
def execSlotFree (p : Fin 16) (s : State) : Host.Outcome State Fault Refusal :=
  .next (if s.atEdge then s.modStrm p.val fun x => { x with evicts := x.evicts.filter fun v => !(decide (v.cycle < s.now) && s.mayFree p.val v) }
  else s)

/-- Regions of a partition's committed entries that a new bank no longer has, with the cycle of the switch. -/
def State.droppedRegions (s : State) (p : Nat) : List (Nat × Nat × Nat) :=
  ((List.range (s.part p).ertCount).filterMap fun e =>
    let old := s.ertLookup p e
    let new := s.ertShadow p e
    if ertState old = 2 ∧ !(ertState new = 2 ∧ ertCaddr new = ertCaddr old) then
      some (ertCaddr old, cdiv (s.regionBytes old) (2 ^ 22) * 2 ^ 22, s.now) else none)

/-- The entries of a range, and the table without them. -/
def ertRange (base n : Nat) (t : Tab Nat) : Tab Nat := t.filter fun c => decide (base ≤ c.1) && decide (c.1 < base + n)
def ertOutside (base n : Nat) (t : Tab Nat) : Tab Nat := t.filter fun c => !(decide (base ≤ c.1) && decide (c.1 < base + n))
/-- The table with a range taken from another one. -/
def ertTake (base n : Nat) (t from_ : Tab Nat) : Tab Nat :=
  (ertRange base n from_).foldl (fun a c => Tab.put 0 a c.1 c.2) (ertOutside base n t)

/-- The banks of a partition's range exchange roles (R171): the new generation is committed, and the refill begins. -/
def State.exchangeErt (s : State) (p queue seq : Nat) : State :=
  match (s.part p).bind.shape with
  | none => s
  | some sh =>
    let gone := s.droppedRegions p
    let c := s.carrier
    let s' := { s with carrier := { c with
      ertCommitted := ertTake sh.ertBase sh.ertCount c.ertCommitted c.ertShadow
      ertShadow := ertTake sh.ertBase sh.ertCount c.ertShadow c.ertCommitted } }
    let g := s.get .PART_ERT_GEN_SHADOW p
    let s' := (s'.put .PART_ERT_GEN_COMMITTED p g).put .PART_ERT_CTL_SYNC_BUSY p 1
    let s' := s'.modStrm p fun x => { x with
      ertSync := some s.clock.frameNo
      dropped := (x.dropped.filter fun d => s.olderRuns p d.2.2) ++ gone }
    s'.journalSwitch p queue seq 0 g []

/-- SWAP_MODEL (R205): the request is armed, and the command retires at once. -/
def execSwapModel (c : CmdId) (s : State) : Host.Outcome State Fault Refusal :=
  .next (match s.ready c 0x205 with
    | some d => match d.part with
      | some p => ((s.modStrm p fun x => { x with swap := some d.batch }).put .PART_MODEL_CTL_PENDING p 1).done d (d.t0 + 1) 0 0
      | none => s
    | none => s)

/-- GEN and ERT_GEN of a model pointer bank (Table 9-5). -/
def modelGen (b : Bytes) : Nat := u32 b 4
def modelErt (b : Bytes) : Nat := u32 b 16

/-- An armed SWAP_MODEL has retired and its task has ended (R205). -/
def State.swapDue (s : State) (p : Nat) : Bool := match (s.part p).strm.swap with
  | some b => !(s.cmds.any fun c => c.part == some p && c.batch == b && (c.began.isSome || c.op == 0x205)) &&
      (match (s.part p).run.task with
       | some t => t.batch != b
       | none => true)
  | none => false

/-- The checks of a model switch hold (R205). -/
def State.swapOk (s : State) (p : Nat) : Bool :=
  let x := (s.part p).strm
  modelGen x.modelShadow == (modelGen x.modelCommitted + 1) % 2 ^ 32 &&
  s.get .PART_ERT_GEN_SHADOW p == modelErt x.modelShadow &&
  s.get .PART_ERT_GEN_SHADOW p == (s.get .PART_ERT_GEN_COMMITTED p + 1) % 2 ^ 32 && s.get .PART_ERT_CTL_SYNC_BUSY p == 0

/-- MODEL_SWITCH (R205): the model pointer and the ERT range exchange banks at one edge, or the switch is rejected. -/
def State.modelSwitch (s : State) (p : Nat) : State :=
  let ok := s.swapOk p
  let s := (s.modStrm p fun x => { x with swap := none }).put .PART_MODEL_CTL_PENDING p 0
  if ok then
    let s := s.modStrm p fun x => { x with modelCommitted := x.modelShadow, modelShadow := x.modelCommitted }
    let s := s.journalSwitch p 0 0 1 (modelGen (s.part p).strm.modelCommitted) []
    ((s.exchangeErt p 0 0).setEvent .PART_MODEL_CTL_SWITCHED p).partEvent .VFEVT_STAT_MODEL_SWITCHED p
  else (s.setEvent .PART_MODEL_CTL_REJECT p).partEvent .VFEVT_STAT_MODEL_REJECT p

def execModelSwitch (p : Fin 16) (s : State) : Host.Outcome State Fault Refusal :=
  .next (if s.atEdge && s.swapDue p.val then s.modelSwitch p.val else s)

/-- The tile headers of a WRITEBACK in tile memory. -/
def WritebackP.heads (q : WritebackP) (k : Core) : List Bytes :=
  (List.range q.tiles).map fun t => k.read (q.hdrRow * 4096 + 64 * (q.firstTile + t)) 64

/-- Header rows, and the rows of the tiles, that it reads. -/
def WritebackP.hdrSpan (q : WritebackP) : Nat := cdiv (q.firstTile + q.tiles) 64
def tilesSpan (hs : List Bytes) : Nat := sumN (hs.map fun h => tileRows (hdrClass h) (hdrFormat h) (hdrU h))

/-- A tile's bytes as a shard holds them: of an unstructured one, the index-list row with zeros from byte 2U on (R175). -/
def packTile (h bs : Bytes) : Bytes :=
  let b := bs.take (hdrBytes h)
  if hdrClass h = 2 then fitBytes 4096 (b.take (2 * hdrU h)) ++ b.drop 4096 else b

/-- The tiles one after another without their padding, from the rows that were read (R175, R207). -/
def packTiles : List Bytes → Bytes → Bytes
  | [], _ => []
  | h :: t, rows =>
    let n := 4096 * tileRows (hdrClass h) (hdrFormat h) (hdrU h)
    packTile h (rows.take n) ++ packTiles t (rows.drop n)

/-- WRITEBACK is refused on its own parameters and the plan (R207). -/
def Part.writebackBad (x : Part) (q : WritebackP) : Bool :=
  !(decide (1 ≤ q.tiles) && decide (q.key ≤ 15) && decide (q.firstTile ≤ 63) && decide (q.hdrRow + q.hdrSpan ≤ 16384) &&
    decide (q.srcRow ≤ 16383) && x.kinds q.entry 1 0 2)

/-- The source core of a WRITEBACK. -/
def State.writebackCore (s : State) (p : Nat) (q : WritebackP) : Nat := match (s.part p).entry q.entry with
  | some (e, _) => e.src
  | none => 0

/-- WRITEBACK is refused on the state in which it would begin: an empty key slot, headers from which no size follows, rows past
tile memory or past those that its entry moves, a payload past the limit of R174, a pending source row (R215; log entry 24). -/
def State.writebackRefused (s : State) (p : Nat) (q : WritebackP) : Refused :=
  let x := s.part p
  let hs := q.heads (s.lcore p (s.writebackCore p q))
  let n := tilesSpan hs
  let len := 64 * q.tiles + sumN (hs.map hdrBytes)
  invalidIf ((q.enc && (Tab.get [] x.keys.keys q.key).isEmpty) || !(hs.all hdrSized) || decide (16384 < q.srcRow + n) ||
    decide (4194304 < len) || len % 64 != 0 ||
    x.pendingRows none q.hdrRow q.hdrSpan || x.pendingRows none q.srcRow n ||
    (match x.entry q.entry with
     | some (e, _) => decide (e.rows < q.hdrSpan + n)
     | none => true))

/-- The tile headers of a WRITEBACK as its reads of the header rows find them, in the cycles given. -/
def WritebackP.headsAt (q : WritebackP) (k : Core) (cycles : List Nat) : List Bytes := (List.range q.tiles).map fun t =>
  let w := q.firstTile + t
  k.readAt (cycles.getD (w / 64) 0) (tmemAddr (q.hdrRow + w / 64) (w % 64)) 64

/-- The rows that WRITEBACK reads, with their cycles: header rows first, then the tiles. -/
def State.writebackReads (s : State) (p : Nat) (q : WritebackP) : List (Nat × Nat) := match (s.part p).entry q.entry with
  | some (e, b) =>
    let cycles := b.reads.map fun x => s.boundCycle p x
    let n := tilesSpan (q.headsAt (s.lcore p e.src) cycles)
    ((List.range q.hdrSpan).map (· + q.hdrRow) ++ (List.range n).map (· + q.srcRow)).zip cycles
  | none => []

/-- The payload of a WRITEBACK: the tile headers, then the tiles, as they were read. -/
def State.writebackPayload (s : State) (p : Nat) (q : WritebackP) : Bytes := match (s.part p).entry q.entry with
  | some (e, b) =>
    let k := s.lcore p e.src
    let hs := q.headsAt k (b.reads.map fun x => s.boundCycle p x)
    hs.flatten ++ packTiles hs (((s.writebackReads p q).drop q.hdrSpan).flatMap fun r => k.rowAt r.2 r.1)
  | none => []

/-- The shard header of a WRITEBACK (Table 9-1, R116). -/
def writebackHeader (q : WritebackP) (plain iv : Bytes) : Bytes :=
  fitBytes 64 (natLE 1 1 ++ natLE 1 (if q.enc then 4 else 0) ++ natLE 6 q.newId ++ natLE 4 plain.length ++ natLE 2 q.tiles ++ natLE 1 q.key ++ [0] ++
    fitBytes 16 iv ++ sha256 plain)

/-- The shard of a WRITEBACK leaves in class 2, TYPE 2 once its rows have come to the port (R116, R207). -/
def State.sendWriteback (s : State) (c : Cmd) (p : Nat) (e : PlanEntry) : State :=
  let q := c.writeback
  let plain := s.writebackPayload p q
  let key := Tab.get [] (s.part p).keys.keys q.key
  let n := Tab.get 0 (s.part p).keys.ivs q.key
  let iv := if q.enc then natLE 6 (s.get .ID_IDENTITY_PID 0) ++ natLE 6 n else []
  let h := writebackHeader q plain iv
  let body := if q.enc then
      (let ct := gcmCrypt key (fitBytes 12 iv) plain
       ct ++ fitBytes 64 (gcmTag key (fitBytes 12 iv) (h.take 32) ct)) else plain
  let s := if q.enc then s.modPart p fun x => { x with keys := { x.keys with ivs := Tab.put 0 x.keys.ivs q.key (n + 1) } } else s
  (s.sendWords e.dstFirst 2 2 (h ++ body)).doneLinks c (max c.t0 (s.lastRow p q.entry 1) + 1) (s.linkBits e.dstFirst .tx)

/-- WRITEBACK (R207): rows are read in their bound cycles, as far as cycle `lim`; then the shard leaves. -/
def State.writeback (s : State) (c : Cmd) (p lim : Nat) : State :=
  let q := c.writeback
  match (s.part p).entry q.entry with
  | none => s
  | some (e, _) =>
    let due := (s.writebackReads p q).filter fun r => decide (s.uptoOf c ≤ r.2) && decide (r.2 ≤ lim)
    let s := due.foldl (fun (s : State) r => if s.alive c then s.readRow c p r.2 e.src r.1 else s) s
    let s := s.setUpto c (lim + 1)
    if s.alive c = true ∧ s.lastRow p q.entry 1 ≤ lim then s.sendWriteback c p e else s

def execWriteback (c : CmdId) (s : State) : Host.Outcome State Fault Refusal :=
  .next (match s.ready c 0x207 with
    | some d => match d.part with
      | some p => s.writeback d p s.now
      | none => s
    | none => s)

end Sys2Proof.Machine
end

