-- ==== Sys2Proof/Machine/Ert.lean ====
section
/-! DEFINITION. The Expert Residency Table's window and switches, patrol and digest checks, the service of a stack, page
clearing, uncorrectable words and failed links of the bridle (R143, R155, R156, R168 to R171, R199, R203, R384, R417, R425). -/

namespace Sys2Proof.Machine

/-- The created partition whose ERT range holds entry e. -/
def State.ertOwner (s : State) (e : Nat) : Option Nat :=
  (List.range 16).find? fun p => match (s.part p).bind.shape with
    | some sh => decide (sh.ertBase ≤ e) && decide (e < sh.ertBase + sh.ertCount)
    | none => false

/-- ERT_WINDOW_WRITE (R170, R171, R425): one half of an entry of the shadow bank; discarded while the bank is refilled, and
between SWITCH and the edge at which it is checked; a command's write of the entry in the same cycle stands. -/
def State.windowWrite (s : State) (e half v : Nat) : State :=
  let old := Tab.get 0 s.carrier.ertShadow e
  let new := if half = 0 then old / 2 ^ 64 * 2 ^ 64 + v else old % 2 ^ 64 + v * 2 ^ 64
  let put := if s.carrier.shadowBy.1 = s.now ∧ s.carrier.shadowBy.2.contains e = true then s
    else { s with carrier := { s.carrier with ertShadow := Tab.put 0 s.carrier.ertShadow e new } }
  match s.ertOwner e with
  | some p =>
    if s.get .PART_ERT_CTL_SYNC_BUSY p = 1 ∨ (s.part p).strm.ertSwitch.isSome = true then s.event 0xB002 p 0 else put
  | none => put

def execErtWindowWrite (e : Fin 262144) (half : Fin 2) (value : BitVec 64) (s : State) : Host.Outcome State Fault Refusal :=
  .next (s.whenBooted (s.windowWrite e.val half.val value.toNat))

/-- SWITCH (R171): a bank switch is asked for. -/
def execErtSwitch (p : Fin 16) (s : State) : Host.Outcome State Fault Refusal :=
  .next (s.whenBooted (s.modStrm p.val fun x => { x with ertSwitch := some (match x.ertSwitch with
    | some t => t
    | none => s.now) }))

/-- The request is checked at this edge: not if it was written in the last 64 core cycles of the frame (R171). -/
def State.ertDue (s : State) (p : Nat) : Bool := match (s.part p).strm.ertSwitch with
  | some t => decide (t + 64 < s.now)
  | none => false

/-- ERT_BANK_SWITCH (R171): the checks, and the exchange or REJECT. -/
def State.ertBankSwitch (s : State) (p : Nat) : State :=
  let s := s.modStrm p fun x => { x with ertSwitch := none }
  if s.get .PART_ERT_GEN_SHADOW p = (s.get .PART_ERT_GEN_COMMITTED p + 1) % 2 ^ 32 ∧ s.get .PART_ERT_CTL_SYNC_BUSY p = 0 then s.exchangeErt p 0 0
  else s.setEvent .PART_ERT_CTL_REJECT p

def execErtBankSwitch (p : Fin 16) (s : State) : Host.Outcome State Fault Refusal :=
  .next (if s.atEdge && s.ertDue p.val then s.ertBankSwitch p.val else s)

/-- SHADOW_SYNC_DONE (R171): at the second edge after a switch the shadow bank holds what the committed bank holds. -/
def State.shadowSync (s : State) (p : Nat) : State :=
  let s := match (s.part p).bind.shape with
    | some sh => { s with carrier := { s.carrier with
        ertShadow := ertTake sh.ertBase sh.ertCount s.carrier.ertShadow s.carrier.ertCommitted } }
    | none => s
  (s.modStrm p fun x => { x with ertSync := none }).put .PART_ERT_CTL_SYNC_BUSY p 0

def execShadowSyncDone (p : Fin 16) (s : State) : Host.Outcome State Fault Refusal :=
  .next (match (s.part p.val).strm.ertSync with
    | some f => if s.atEdge = true ∧ f + 2 ≤ s.clock.frameNo then s.shadowSync p.val else s
    | none => s)

/-- Bursts of a stack (R158), and of one group of patrol periods (R168). -/
def stackBursts : Nat := 805306368
def patrolBursts : Nat := 375

/-- Flipped bursts of a stack: its first global burst number is m × 2^30. -/
def inStack (m b : Nat) : Bool := b / 2 ^ 30 == m

/-- The number of the present stack period (R162). -/
def State.periodNow (s : State) : Nat := (s.reelCount * (250 * 2 ^ s.get .REEL_STAT_PERIOD 0) + 5 * s.cycle / 16) / 2

/-- A patrol pass of stack m begins in this cycle. -/
def State.beginPass (s : State) (m : Nat) : State :=
  let c := s.carrier
  { s with carrier := { c with passes := Tab.put (0, 0) c.passes m (s.now, (Tab.get (0, 0) c.passes m).1) } }

/-- The patrol of a stack in one group of refresh periods (R168): bursts corrected before are written back, then the next ones are
read. -/
def State.patrolGroup (s : State) (m : Nat) : State :=
  let back := (s.carrier.patrol.filter fun c => inStack m c.1).map Prod.fst
  let c := s.carrier
  let s := { s with carrier := { c with
    flips := c.flips.filter fun f => !(back.contains f.1 && burstState f.2 == 1)
    patrol := c.patrol.filter (fun f => !inStack m f.1)
    patrolled := Tab.put 0 c.patrolled m (s.periodNow / 1000 + 1) } }
  let pos := s.get .HBM_SCRUB_POSITION m
  let n := min (patrolBursts - back.length) (stackBursts - pos)
  let first := m * 2 ^ 30 + pos
  let hit := s.carrier.flips.filter fun f => decide (first ≤ f.1) && decide (f.1 < first + n)
  let one := hit.filter fun f => burstState f.2 == 1
  let two := hit.filter fun f => burstState f.2 == 2
  let s := { s with carrier := { s.carrier with patrol := s.carrier.patrol ++ one } }
  let s := if one.isEmpty then s else s.inc .HBM_ECC_CORRECTED m one.length
  let s := two.foldl (fun (s : State) _ => (s.inc .HBM_ECC_UNCORRECTABLE m 1).event 0x9010 m 0) s
  if pos + n = stackBursts then ((s.put .HBM_SCRUB_POSITION m 0).inc .HBM_SCRUB_PASSES m 1).beginPass m
  else s.put .HBM_SCRUB_POSITION m (pos + n)

/-- The last 3 of the 39 refresh periods of each 1,000 are patrol's (R168). -/
def State.patrolTime (s : State) : Bool := decide (36 ≤ s.periodNow % 1000) && decide (s.periodNow % 1000 < 39)

/-- PATROL_SCRUB (R168): once in each group of patrol periods, for a stack in service or draining. -/
def execPatrolScrub (m : Fin 48) (s : State) : Host.Outcome State Fault Refusal :=
  .next (if (s.get .HBM_STAT_STATE m.val = 1 ∨ s.get .HBM_STAT_STATE m.val = 2) ∧ s.patrolTime = true ∧
      Tab.get 0 s.carrier.patrolled m.val ≠ s.periodNow / 1000 + 1 then s.patrolGroup m.val else s)

/-- Core cycles between two checks of a resident shard (R199, R208). -/
def State.checkInterval (s : State) : Nat := 1600000000 * max 60 (min 86400 (s.get .STRM_SCRUB_CFG_INTERVAL 0))

/-- A stored burst of a range cannot be read (R167). -/
def State.rangeUncorr (s : State) (a n : Nat) : Bool :=
  s.carrier.flips.any fun f => decide (a / 64 ≤ f.1) && decide (f.1 * 64 < a + n) && burstState f.2 == 2

/-- RESIDENT_DIGEST_CHECK (R199): the shard's bytes against the digest of its stored header; bytes that cannot be read do not match
it (log entry 77). -/
def State.digestCheck (s : State) (x k : Nat) : State :=
  let h := Mem.read s.carrier.mem (ertCaddr x + 64 * k) 64
  let a := s.residentShard x k
  let c := s.carrier
  let s := { s with carrier := { c with checked := Tab.put 0 c.checked a s.now } }
  let s := s.inc .STRM_SCRUB_STAT_CHECKED 0 1
  if ((sha256 (Mem.read s.carrier.mem a (shLen h)) == shDigest h) && !s.rangeUncorr a (shLen h)) || s.carrier.bad.contains a then s
  else
    let s := (s.inc .STRM_SCRUB_STAT_BAD 0 1).event 0x9011 (bits a 41 36) 0
    { s with carrier := { s.carrier with bad := a :: s.carrier.bad } }

/-- A patrol pass that began in cycle b or later has read n bytes from carrier address a: the present one, or the one before it, which
is complete (R168, R199). -/
def State.patrolRead (s : State) (a n b : Nat) : Bool :=
  let m := bits a 41 36
  let w := Tab.get (0, 0) s.carrier.passes m
  (decide (b ≤ w.1) && decide (cdiv (bits a 35 0 + n) 64 ≤ s.get .HBM_SCRUB_POSITION m)) ||
  (decide (b ≤ w.2) && s.get .HBM_SCRUB_PASSES m != 0)

/-- RESIDENT_DIGEST_CHECK (R199): a patrol pass that began after the interval since the last check has read the shard. -/
def execResidentDigestCheck (e : Fin 262144) (k : Nat) (s : State) : Host.Outcome State Fault Refusal :=
  let a := Tab.get 0 s.carrier.ertCommitted e.val
  let x := if ertState a = 2 then a else Tab.get 0 s.carrier.ertShadow e.val
  let at' := s.residentShard x k
  let n := shLen (Mem.read s.carrier.mem (ertCaddr x + 64 * k) 64)
  .next (if ertState x = 2 ∧ k < ertShards x ∧ s.patrolRead at' n (Tab.get 0 s.carrier.checked at' + s.checkInterval) = true
    then s.digestCheck x k else s)

/-- Register offset of HBM[m]_CTL in PF BAR0. -/
def hbmCtlOffset (m : Nat) : Nat := Reg.HBM_CTL.base + m * 0x400

/-- A partition codes a page of stack m non-zero (R384). -/
def State.stackCoded (s : State) (m : Nat) : Bool :=
  (List.range 16).any fun p => (List.range 48).any fun i =>
    let g := m * 48 + i
    bits (s.get .PART_PAGES_CODES (p * 72 + g / 32)) (2 * (g % 32) + 1) (2 * (g % 32)) != 0

/-- An ERT entry of either bank points into stack m. -/
def State.stackPointed (s : State) (m : Nat) : Bool :=
  let hit := fun (c : Nat × Nat) => ertState c.2 == 2 && bits (ertCaddr c.2) 41 36 == m
  s.carrier.ertCommitted.any hit || s.carrier.ertShadow.any hit

/-- DRAIN (R384): state 2, or ignored and logged. -/
def execDrain (m : Fin 48) (s : State) : Host.Outcome State Fault Refusal :=
  .next (s.whenBooted (if s.get .HBM_STAT_STATE m.val = 1 ∧ s.stackCoded m.val = false ∧ s.stackPointed m.val = false then
    (let s := (s.stackState m.val 2).put .HBM_SVC_DRAINED m.val 0
     { s with carrier := { s.carrier with draining := s.carrier.draining ++ [(m.val, s.now)] } })
  else s.ignored (hbmCtlOffset m.val)))

/-- DRAINED (R384): at an edge at which no command that began before the DRAIN is still executing. -/
def execDrained (m : Fin 48) (s : State) : Host.Outcome State Fault Refusal :=
  .next (match s.carrier.draining.find? fun d => d.1 == m.val with
    | some d =>
      if s.atEdge = true ∧ d.2 < s.now ∧ (List.range 16).all (fun p => !s.olderRuns p d.2) = true then
        (let s := s.put .HBM_SVC_DRAINED m.val 1
         { s with carrier := { s.carrier with draining := s.carrier.draining.filter fun d => d.1 != m.val } })
      else s
    | none => s)

/-- SCRUB (R384): in state 2 with DRAINED set. -/
def execScrub (m : Fin 48) (s : State) : Host.Outcome State Fault Refusal :=
  .next (s.whenBooted (if s.get .HBM_STAT_STATE m.val = 2 ∧ s.get .HBM_SVC_DRAINED m.val = 1 then
    (s.stackState m.val 3).put .HBM_SVC_SCRUB_BUSY m.val 1
  else s.ignored (hbmCtlOffset m.val)))

/-- Carrier memory from address a on reads as zeros with valid check bits (R384, R417). -/
def State.zeroCarrier (s : State) (a n : Nat) : State :=
  let c := s.carrier
  { s with carrier := { c with
    mem := Mem.clear c.mem a n
    flips := c.flips.filter fun f => !(decide (a ≤ f.1 * 64) && decide (f.1 * 64 < a + n))
    patrol := c.patrol.filter fun f => !(decide (a ≤ f.1 * 64) && decide (f.1 * 64 < a + n))
    bad := c.bad.filter fun f => !(decide (a ≤ f) && decide (f < a + n)) } }

/-- SCRUB_DONE (R384): zeros everywhere; a burst that the read pass found uncorrectable fails the stack. -/
def State.scrubDone (s : State) (m uncorr : Nat) : State :=
  let s := ((s.zeroCarrier (m * 2 ^ 36) (2 ^ 36)).put .HBM_SVC_SCRUB_BUSY m 0).put .HBM_SVC_SCRUB_UNCORR m uncorr
  s.stackState m (if uncorr = 0 then 2 else 4)

def execScrubDone (m : Fin 48) (uncorr : Nat) (s : State) : Host.Outcome State Fault Refusal :=
  .next (if s.get .HBM_STAT_STATE m.val = 3 then s.scrubDone m.val uncorr else s)

/-- RETURN (R384): from state 2 to state 1. -/
def execReturnStack (m : Fin 48) (s : State) : Host.Outcome State Fault Refusal :=
  .next (s.whenBooted (if s.get .HBM_STAT_STATE m.val = 2 then
    (let s := (s.stackState m.val 1).put .HBM_SVC_DRAINED m.val 0
     { s with carrier := { s.carrier with draining := s.carrier.draining.filter fun d => d.1 != m.val } })
  else s.ignored (hbmCtlOffset m.val)))

/-- Carrier address of page g (R160): 48 pages of 1 GiB per stack. -/
def pageAddr (g : Nat) : Nat := g / 48 * 2 ^ 36 + g % 48 * 2 ^ 30

/-- HBM[m]_CLR.PENDING as a mask of stack m's waiting pages. -/
def State.showClear (s : State) (m : Nat) : State :=
  s.put .HBM_CLR_PENDING m (maskOf ((s.carrier.clearing.filter fun g => g / 48 == m).map fun g => g % 48))

/-- Page g awaits clearing (R417). -/
def State.queuePage (s : State) (g : Nat) : State :=
  if s.carrier.clearing.contains g then s
  else ({ s with carrier := { s.carrier with clearing := s.carrier.clearing ++ [g] } }).showClear (g / 48)

/-- The last mapping of a shared page ends: the page is free once no command that has begun by then executes (R203). -/
def State.unmapPage (s : State) (g : Nat) : State :=
  (({ s with carrier := { s.carrier with unmapped := Tab.put 0 s.carrier.unmapped g s.now } }).queuePage g)

/-- A page that awaits clearing is free: a private one at once, a shared one when the commands that began while it was mapped have
ended (R203, R417). -/
def State.pageFree (s : State) (g : Nat) : Bool := match Tab.get 0 s.carrier.unmapped g with
  | 0 => true
  | t => !(s.cmds.any fun c => match c.began with
    | some b => decide (b < t)
    | none => false)

/-- Bursts of each stack period that created partitions hold (R313). -/
def State.heldBursts (s : State) : Nat := sumN ((List.range 16).map fun p => match (s.part p).bind.shape with
  | some sh => sh.bursts
  | none => 0)

/-- PAGE_CLEAR (R417): the lowest waiting page, of those that are free, of a stack that clears none; not while the partitions hold
every burst. -/
def State.pageClear (s : State) (m : Nat) : State :=
  match (List.range 48).find? fun i => s.carrier.clearing.contains (m * 48 + i) && s.pageFree (m * 48 + i) with
  | none => s
  | some i =>
    let c := s.carrier
    let s := { s with carrier := { c with
      clearing := c.clearing.filter (· != m * 48 + i)
      unmapped := Tab.put 0 c.unmapped (m * 48 + i) 0
      active := Tab.put none c.active m (some i) } }
    ((s.showClear m).put .HBM_CLR_BUSY m 1).put .HBM_CLR_PAGE m i

def execPageClear (m : Fin 48) (s : State) : Host.Outcome State Fault Refusal :=
  .next (if (Tab.get none s.carrier.active m.val).isNone ∧ s.heldBursts < 125 then s.pageClear m.val else s)

/-- PAGE_CLEAR_DONE (R417): every burst of the page is zero. -/
def execPageClearDone (m : Fin 48) (s : State) : Host.Outcome State Fault Refusal :=
  .next (match Tab.get none s.carrier.active m.val with
    | some i =>
      let s := s.zeroCarrier (pageAddr (m.val * 48 + i)) (2 ^ 30)
      ({ s with carrier := { s.carrier with active := Tab.put none s.carrier.active m.val none } }).put .HBM_CLR_BUSY m.val 0
    | none => s)

/-- The die whose outgoing link record n reports, and a link direction exists (R157). -/
def State.linkUp (s : State) (n : Nat) : Bool := s.get .CORE_BRIDLE_LINK_STATE n == 1

/-- BRIDLE_UNCORRECTABLE (R143, R153, R155): a word in whose quarters bits are flipped crosses a link on a lane, which tells the partition
whose transfer it belongs to, or reserved-lane traffic, which is sent again (log entry 78). -/
def execBridleUncorrectable (n : Fin 96) (lane : Fin 375) (flips : List Nat) (s : State) : Host.Outcome State Fault Refusal :=
  .next (if s.linkUp n.val then s.linkWord n.val lane.val flips s.now else s)

/-- Link directions that a plan entry uses on a partition. -/
def State.entryLinks (s : State) (p h : Nat) (e : PlanEntry) : List Nat :=
  (s.entryTree p (s.get .PART_PROG_STAT_LCORES (progIdx p h)) e).map Prod.fst

/-- Loaded slots of a partition (states 2 and 3). -/
def State.loadedSlots (s : State) (p : Nat) : List Nat :=
  (List.range 32).filter fun h => s.get .PART_PROG_STAT_STATE (progIdx p h) == 2

/-- A link direction fails (R156): plans that use it are unfit, and the tasks on them are aborted. -/
def State.failLink (s : State) (n : Nat) : State :=
  let s := s.put .CORE_BRIDLE_LINK_STATE n 2
  (List.range 16).foldl (fun (s : State) p =>
    let hit := (s.loadedSlots p).filter fun h => ((s.part p).slot h).plan.any fun e => (s.entryLinks p h e).contains n
    if hit.isEmpty then s
    else
      let s := match (s.part p).taskSlot with
        | some h => if hit.contains h then s.chargeFault p 0x4000 0 else s
        | none => s
      hit.foldl (fun (s : State) h =>
        let v := (s.part p).slot h
        let i := match (enumFrom 0 v.plan).find? fun e => (s.entryLinks p h e.2).contains n with
          | some e => e.1
          | none => 0xFFFFFFFF
        (s.setSlot p h { v with cause := unfitDetail i 0xFFFFFFFF }).put .PART_PROG_STAT_STATE (progIdx p h) 3) s) s

/-- A lane is mapped onto the lowest free spare, or the link fails (R155, R156). -/
def State.retireLane (s : State) (n lane : Nat) : State :=
  if s.linkUp n = false then s
  else
    let used := s.get .CORE_BRIDLE_LINK_SPARES_USED n
    if 8 ≤ used then s.failLink n
    else
      let l := s.link n
      ((s.setLink n { l with spared := l.spared ++ [lane] }).put .CORE_BRIDLE_LINK_SPARES_USED n (used + 1)).event 0xA002 n (used + 1)

/-- The lanes to be retired at an edge: those with an uncorrectable word, those with more than 16 corrected ones (R155). -/
def State.retireLanes (s : State) : State :=
  (s.links.map Prod.fst).foldl (fun (s : State) n =>
    let l := s.link n
    let bad := (l.retire ++ (l.corrected.filter fun c => decide (16 < c.2)).map Prod.fst).dedup
    let s := s.setLink n { l with retire := [], corrected := [] }
    bad.foldl (fun (s : State) k => s.retireLane n k) s) s

end Sys2Proof.Machine
end

