-- ==== Sys2Proof/Machine/Spec.lean ====
section
/-! DEFINITION. ROUTE_COMMIT: confirmation and refutation of prediction slots, and the dispatch of tokens to experts (R214 to
R224). -/

namespace Sys2Proof.Machine

/-- Dispatch as it walks the route list (R221): tokens per expert, main and spill list entries (list, place, token), dropped
routes. -/
structure Disp where
  n : Tab Nat
  main : List (Nat × Nat × Nat)
  spill : List (Nat × Nat × Nat)
  dropped : Nat

/-- One route of a token; `seen` are its experts so far. -/
def RouteP.route (q : RouteP) (t : Nat) (a : Disp × List Nat) (e : Nat) : Disp × List Nat :=
  if q.experts ≤ e ∨ a.2.contains e = true then ({ a.1 with dropped := a.1.dropped + 1 }, a.2)
  else
    let n := Tab.get 0 a.1.n e
    let d := { a.1 with n := Tab.put 0 a.1.n e (n + 1) }
    (if n < q.capacity then { d with main := (e, n, t) :: d.main }
     else
       let s := n - q.capacity
       { d with spill := (e * q.spillJ + s / max 1 q.spillM, s % max 1 q.spillM, t) :: d.spill }, e :: a.2)

/-- dispatch over TOKENS × K routes (R221). -/
def RouteP.dispatchAll (q : RouteP) (routes : List Nat) : Disp :=
  (enumFrom 0 (chunks q.k q.tokens routes)).foldl (fun d tr => (tr.2.foldl (q.route tr.1) (d, [])).1) ⟨[], [], [], 0⟩

/-- Entries of main group e and of spill group g. -/
def Disp.mainCount (d : Disp) (q : RouteP) (e : Nat) : Nat := min (Tab.get 0 d.n e) q.capacity
def Disp.spillCount (d : Disp) (g : Nat) : Nat := (d.spill.filter fun x => x.1 == g).length

/-- Groups of the spill pass; bytes of the token lists. -/
def RouteP.spillGroups (q : RouteP) : Nat := q.experts * q.spillJ
def RouteP.listBytes (q : RouteP) : Nat := 4 * (q.experts * q.capacity + q.spillGroups * q.spillM)

/-- The token lists, unused entries all ones (R221). -/
def Disp.lists (d : Disp) (q : RouteP) : Bytes :=
  let at' := fun (l : List (Nat × Nat × Nat)) (g i : Nat) => match l.find? fun x => x.1 == g && x.2.1 == i with
    | some x => natLE 4 x.2.2
    | none => natLE 4 0xFFFFFFFF
  ((List.range q.experts).flatMap fun e => (List.range q.capacity).flatMap fun i => at' d.main e i) ++
  ((List.range q.spillGroups).flatMap fun g => (List.range q.spillM).flatMap fun i => at' d.spill g i)

/-- Rows of the results: the main group table, the spill group table, the lists. -/
def RouteP.mainRows (q : RouteP) : Nat := cdiv (32 * q.experts) 4096
def RouteP.spillRows (q : RouteP) : Nat := cdiv (32 * q.spillGroups) 4096
def RouteP.listRows (q : RouteP) : Nat := cdiv q.listBytes 4096
def RouteP.resultRows (q : RouteP) : Nat := q.mainRows + q.spillRows + q.listRows

/-- A row of a group table with M written into bytes 0-1 of its entries (R221). -/
def patchGroups (old : Bytes) (first total : Nat) (m : Nat → Nat) : Bytes :=
  (List.range 128).flatMap fun i =>
    let e := (old.drop (32 * i)).take 32
    if first + i < total then natLE 2 (m (first + i)) ++ e.drop 2 else e

/-- Result row j: where it is to stand on a core, and its bytes over those that the row has before cycle x. -/
def Disp.result (d : Disp) (q : RouteP) (k : Core) (x j : Nat) : Nat × Bytes :=
  if j < q.mainRows then
    (q.gtabMain + j, patchGroups (k.rowAt x (q.gtabMain + j)) (128 * j) q.experts (d.mainCount q))
  else if j < q.mainRows + q.spillRows then
    let i := j - q.mainRows
    (q.gtabSpill + i, patchGroups (k.rowAt x (q.gtabSpill + i)) (128 * i) q.spillGroups d.spillCount)
  else
    let i := j - q.mainRows - q.spillRows
    let own := ((d.lists q).drop (4096 * i)).take 4096
    (q.listRow + i, own)

/-- The bytes of the results in the order written, for the journal (R220, R336). -/
def Disp.bytes (d : Disp) (q : RouteP) : Bytes :=
  ((List.range q.experts).flatMap fun e => natLE 2 (d.mainCount q e)) ++
  ((List.range q.spillGroups).flatMap fun g => natLE 2 (d.spillCount g)) ++ d.lists q

/-- Byte ranges a and b (address, bytes) overlap. -/
def overlap (a b : Nat × Nat) : Bool := decide (a.1 < b.1 + b.2) && decide (b.1 < a.1 + a.2)

/-- ROUTE_COMMIT is refused on its own parameters and the plan (R217, R222; log entry 25 for DISP_ENTRY). -/
def Part.routeBad (x : Part) (q : RouteP) : Bool :=
  let mask := decide (q.maskCore < x.lcores) && decide (q.maskRow ≤ 16383)
  let lists := (q.listRow * 4096, q.listBytes)
  let disp := decide (1 ≤ q.k) && decide (q.k ≤ 8) && decide (1 ≤ q.tokens) && decide (q.tokens ≤ 16384) && decide (1 ≤ q.experts) &&
    decide (q.experts ≤ 4096) && decide (1 ≤ q.capacity) && decide (q.capacity ≤ 2048) && decide (1 ≤ q.spillM) && decide (q.spillM ≤ 2048) &&
    decide (1 ≤ q.spillJ) && decide (q.spillJ ≤ 64) && decide (q.spillGroups ≤ 4096) &&
    !(decide (q.capacity < q.tokens) && decide (q.spillJ * q.spillM < q.tokens - q.capacity)) &&
    decide (q.routeRow * 4096 + 4 * q.tokens * q.k ≤ 2 ^ 26) && decide (q.gtabMain * 4096 + 32 * q.experts ≤ 2 ^ 26) &&
    decide (q.gtabSpill * 4096 + 32 * q.spillGroups ≤ 2 ^ 26) && decide (q.listRow * 4096 + q.listBytes ≤ 2 ^ 26) &&
    !overlap lists (q.gtabMain * 4096, 32 * q.experts) && !overlap lists (q.gtabSpill * 4096, 32 * q.spillGroups) &&
    (match x.taskSlotOf.plan[q.dispEntry]? with
     | some e => e.srcKind == 0 && e.src == q.maskCore && e.dstKind == 0 && e.dstFirst == 0 && e.dstLast + 1 == x.lcores &&
        decide (q.resultRows ≤ e.rows)
     | none => false)
  !(mask && (!q.dispatch || disp))

/-- ROUTE_COMMIT is refused if it reads or writes a pending row (R215). -/
def Part.routeRefused (x : Part) (q : RouteP) : Refused :=
  invalidIf ((q.commit && x.pendingRows none q.maskRow 1) ||
    (q.dispatch && ([(q.routeRow, cdiv (4 * q.tokens * q.k) 4096), (q.gtabMain, q.mainRows), (q.gtabSpill, q.spillRows),
      (q.listRow, q.listRows)].any fun r => x.pendingRows none r.1 r.2)))

/-- WMATMULs of the running task that have not begun and take their groups from a table at row `gtab` that command c writes: one of
c's queue comes after it, and no later ROUTE_COMMIT of the consumer's queue writes the table in between (log entry 25). -/
def State.consumers (s : State) (c : Cmd) (p gtab : Nat) : List Cmd :=
  let own := s.cmds.filter fun d => d.part == some p && d.batch == c.batch && d.began.isNone
  own.filter fun d => (d.op == 0x100 || d.op == 0x101) && d.mat.gtab == gtab && (d.queue != c.queue || decide (c.ord < d.ord)) &&
    !own.any fun e => e.op == 0x202 && e.queue == d.queue && decide (e.ord < d.ord) && (e.queue != c.queue || decide (c.ord < e.ord)) &&
      e.route.dispatch && (e.route.gtabMain == gtab || e.route.gtabSpill == gtab)

/-- CAPACITY or SPILL_M exceeds the group limit of a WMATMUL that consumes the table (R83, R222). -/
def State.groupsBad (s : State) (c : Cmd) (p : Nat) : Bool :=
  let q := c.route
  let past := fun (gtab n : Nat) => (s.consumers c p gtab).any fun d => decide (2048 / max 1 d.mat.regions < n)
  q.dispatch && (past q.gtabMain q.capacity || past q.gtabSpill q.spillM)

/-- A map with the entries of two groups exchanged (R214). -/
def swapMap (m a b : Nat) : Nat :=
  let x := bits m (3 * a + 2) (3 * a)
  let y := bits m (3 * b + 2) (3 * b)
  m - x * 2 ^ (3 * a) - (if a = b then 0 else y * 2 ^ (3 * b)) + y * 2 ^ (3 * a) + (if a = b then 0 else x * 2 ^ (3 * b))

/-- The shadow groups of a confirmed slot are renamed into place on every core (R214, R218). -/
def State.renameGroups (s : State) (p : Nat) (pairs : List (Nat × Nat)) : State :=
  (s.part p).cores.foldl (fun (s : State) n =>
    pairs.foldl (fun (s : State) g => s.put .CORE_ACC_MAP_MAP n (swapMap (s.get .CORE_ACC_MAP_MAP n) g.1 g.2)) s) s

/-- Slot k is confirmed (R216, R218): its groups are renamed, its drops enter the cores' counts, its ring becomes an ordinary one, and
it is IDLE; a command of it that met a fault stays with it for the abort. -/
def State.confirmSlot (s : State) (p k : Nat) : State :=
  let d := (s.part p).pred k
  let s := s.renameGroups p d.shadow
  let s := d.drops.foldl (fun (s : State) x => s.addDrops x.1 x.2) s
  let s := s.modStrm p fun x => { x with rings := x.rings.map fun r => if r.spec = some k then { r with spec := none } else r }
  (s.inc .PART_SPEC_CNT_CONFIRMED p 1).setPred p k { Pred.init with held := d.held.filter fun h => decide (0x3000 ≤ h.1.status) }

/-- The command of slot k that a held fault belongs to: the first with its status and Detail, else the slot's first. -/
def State.heldCmd (s : State) (p k : Nat) (f : Nat × Nat × Nat) : Option Cmd :=
  let l := sortCmds ((s.slotCmds p k).map fun x => x.2.1)
  match l.find? fun c => c.status == f.2.1 && c.detail == f.2.2 with
  | some c => some c
  | none => l.head?

/-- The earliest held fault of the confirmed slots, the oldest command's of one cycle: its command, status and Detail (R218, R295). -/
def State.worst (s : State) (p : Nat) (ks : List Nat) : Option (Nat × Cmd × Nat × Nat) :=
  (ks.filterMap fun k => match ((s.part p).pred k).fault with
    | some f => (s.heldCmd p k f).map fun c => (f.1, c, f.2.1, f.2.2)
    | none => none).foldl (fun a y => match a with
    | some z => if y.1 < z.1 ∨ (y.1 = z.1 ∧ y.2.1.before z.2.1 = true) then some y else some z
    | none => some y) none

/-- The mask word is applied in the commit cycle (R217 to R219); the answer is the held fault to be reported. -/
def State.applyMask (s : State) (p confirm resolve : Nat) : State × Option (Nat × Cmd × Nat × Nat) :=
  let rs := (List.range 16).filter resolve.testBit
  let live := rs.filter fun k => ((s.part p).pred k).state == 1
  let yes := live.filter confirm.testBit
  let f := s.worst p yes
  let no := live.filter fun k => !confirm.testBit k
  let s := (s.inc .PART_SPEC_CNT_STRAY p (rs.length - live.length)).sample 7 p no.length
  let s := s.settleSlots p yes no
  (yes.foldl (fun (s : State) k => s.confirmSlot p k) s, f)

/-- A held fault is reported under its own rule, as if it had just occurred (R208, R218). -/
def State.reportHeld (s : State) (p : Nat) (f : Nat × Cmd × Nat × Nat) : State :=
  (if f.2.2.1 = 0x3002 then s.inc .STRM_FAIL_DIGEST p 1 else s).abort f.2.1 f.2.2.1 f.2.2.2

/-- A fault of the command itself, or one that R449 charges to the oldest command. -/
def State.fltAt (s : State) (c : Cmd) (p : Nat) (f : Flt) (all : List Flt) : State :=
  let s := s.countFaults p f all
  if f.kind = 2 then (s.advance f.cycle).fault c f.status f.detail else s.chargeAt p f.cycle f.status f.detail

/-- The slot-B read of the mask word in cycle x (R218). -/
def RouteP.maskUse (q : RouteP) (x : Nat) : SlotUse := ⟨q.maskCore, 1, false, x, q.maskRow, [(64 * q.maskWcol, 64)]⟩

/-- What the read of the mask word meets: uncorrectable quarters of the word, a clear gather flag, a hazard on a stable row. -/
def State.maskFaults (s : State) (p : Nat) (q : RouteP) (x : Nat) : List Flt :=
  let k := s.lcore p q.maskCore
  ((k.eccIn x q.maskRow).filterMap fun c =>
    if 2 ≤ c.2 ∧ c.1 % 256 / 4 = q.maskWcol then some ⟨x, q.maskCore, 0x4000, eccDetail c.1 q.maskCore, 1⟩ else none) ++
  k.gatherFaults (q.maskUse x) ++ s.stableFaults p [q.maskUse x]

/-- Corrected quarters of the mask word are counted (R135). -/
def State.maskEcc (s : State) (p : Nat) (q : RouteP) (x : Nat) : State := match (s.part p).position q.maskCore with
  | some n =>
    let m := ((s.core n).eccIn x q.maskRow).filter fun c => c.2 == 1 && c.1 % 256 / 4 == q.maskWcol
    if m.isEmpty then s else s.inc .CORE_TMEM_ECC_CORRECTED n m.length
  | none => s

/-- Cycle 0 of ROUTE_COMMIT: the mask word is read (R218). -/
def State.readMask (s : State) (c : Cmd) (p : Nat) : State :=
  let q := c.route
  if q.commit = false then s
  else match firstFlt (s.maskFaults p q c.t0) with
    | some f => s.fltAt c p f (s.maskFaults p q c.t0)
    | none => ((s.countHazards p [q.maskUse c.t0]).maskEcc p q c.t0).addUses p [q.maskUse c.t0]

/-- CONFIRM and RESOLVE of the mask word as cycle 0 read them; zero with COMMIT clear (R217, R218). -/
def State.maskWord (s : State) (c : Cmd) (p : Nat) : Nat × Nat :=
  let q := c.route
  let w := if q.commit then (s.lcore p q.maskCore).readAt c.t0 (tmemAddr q.maskRow q.maskWcol) 4 else [0, 0, 0, 0]
  (u16 w 0, u16 w 2)

/-- The commit cycle of ROUTE_COMMIT. -/
def Cmd.commitAt (c : Cmd) : Nat := c.t0 + 40

/-- Rows of the route list. -/
def RouteP.routeRows (q : RouteP) : Nat := cdiv (4 * q.tokens * q.k) 4096

/-- The commit cycle (R218 to R220): what speculative streams do in cycles up to it is done first; the mask is applied and recorded; a
held fault of a confirmed slot aborts the task; without dispatch the command retires in the next cycle. The route list is read
here (log entry 25). -/
def State.commitNow (s : State) (c : Cmd) (p : Nat) : State :=
  let q := c.route
  let m := s.maskWord c p
  let streams := sortCmds (s.cmds.filter fun d => d.part == some p && d.op == 0x201 && d.began.isSome)
  let s := streams.foldl (fun (s : State) d => if s.alive d then s.streamStep d p c.commitAt else s) s
  if s.alive c = false then s
  else
    let r := (s.setNow c.commitAt).applyMask p m.1 m.2
    let s := r.1.setUpto c (c.commitAt + 1)
    match r.2 with
    | some f => (s.journalRoute c p m.1 m.2 0 0 false false []).reportHeld p f
    | none =>
      if q.dispatch = false then (s.journalRoute c p m.1 m.2 0 0 false false []).done c (c.commitAt + 1) 0 0
      else
        let flts := (List.range q.routeRows).flatMap fun i => (s.lcore p q.maskCore).eccFaults q.maskCore c.commitAt (q.routeRow + i)
        match flts with
        | f :: _ => (s.journalRoute c p m.1 m.2 0 0 true false []).fltAt c p f flts
        | [] => (List.range q.routeRows).foldl (fun (s : State) i => s.countEcc p q.maskCore c.commitAt (q.routeRow + i)) s

/-- The rounds by which cycle x comes after the start of round r of the task's frame (R150). -/
def State.roundsLate (s : State) (p r x : Nat) : Nat := cdiv (5 * (x - s.anchorCycle p)) 16 - r

/-- The dispatch of the route list (R221). -/
def State.dispOf (s : State) (c : Cmd) (p : Nat) : Disp :=
  let q := c.route
  let bytes := (s.lcore p q.maskCore).readAt c.commitAt (q.routeRow * 4096) (4 * q.tokens * q.k)
  q.dispatchAll ((List.range (q.tokens * q.k)).map fun i => u32 bytes (4 * i))

/-- The cycle in which the dispatch is computed (R223). -/
def Cmd.dispatchAt (c : Cmd) : Nat := c.commitAt + cdiv (c.route.tokens * c.route.k) 64 + 24

/-- The Detail of INDEX_DROPPED of a dispatch (R109, R111). -/
def Disp.detail (d : Disp) (q : RouteP) : Nat := min d.dropped (2 ^ 32 - 1) + q.maskCore * 2 ^ 32

/-- The dispatch is computed (R109, R110, R220, R223 to R225): its counts, the journal, the spill block; dropped routes that reach the
limit end the command, and so does a round bound to DISP_ENTRY that has begun before (R150). -/
def State.dispatchNow (s : State) (c : Cmd) (p : Nat) (b : Bound) : State :=
  let q := c.route
  let m := s.maskWord c p
  let fin := c.dispatchAt
  let s := s.setUpto c (fin + 1)
  if s.roundCycle p b.round < fin then
    (s.journalRoute c p m.1 m.2 0 0 true false []).done c (s.roundCycle p b.round) 0x3001 (q.dispEntry + s.roundsLate p b.round fin * 2 ^ 32)
  else
    let d := s.dispOf c p
    let pos := ((s.part p).position q.maskCore).getD 0
    let s := if d.dropped = 0 then s else s.addDrops pos d.dropped
    let count := s.get .CORE_DROP_TASK pos
    let limit := match s.dropLimit p with
      | some l => decide (d.dropped ≠ 0) && decide (l ≤ count)
      | none => false
    let spilled := min d.spill.length 0xFFFF
    let most := (d.n.map Prod.snd).foldl max 0
    let runs := decide (spilled ≠ 0)
    let s := ((s.put .PART_SPILL_LAST_SPILLED p spilled).put .PART_SPILL_LAST_MAX p most).sample 8 p spilled
    let s := s.journalRoute c p m.1 m.2 spilled most true (runs && decide (q.spillCmds ≠ 0)) (sha256 (d.bytes q))
    if limit then s.done c fin 0x3000 (count % 2 ^ 32 + q.maskCore * 2 ^ 32)
    else
      let s := if runs && decide (q.spillCmds ≠ 0) then s.inc .PART_SPILL_BLOCKS_RUN p 1 else s
      s.modRun p fun r => { r with sum := { r.sum with spill := r.sum.spill ++ [(c.queue, c.ord + 1, q.spillCmds, runs)] } }

/-- What the results' entry does beyond a row on a core does not matter to them: result row j arrives on a core, or a word crosses a
link in which a fault waits. -/
def State.resultEvent (s : State) (c : Cmd) (p : Nat) (u : Event) : State :=
  let q := c.route
  match u.act with
  | .place j =>
    if j < q.resultRows then
      let r := (s.dispOf c p).result q (s.lcore p u.core) u.cycle j
      s.placeRow p u.core r.1 0 r.2 (some q.maskCore) 0 u.cycle
    else s
  | .cross _ => s.happen c p u
  | _ => s

/-- The results of a dispatch arrive on the cores in the cycles bound for DISP_ENTRY, as far as cycle `lim`; ROUTE_COMMIT retires in the
cycle after the last one (R223). -/
def State.results (s : State) (c : Cmd) (p : Nat) (e : PlanEntry) (b : Bound) (lim : Nat) : State :=
  let q := c.route
  let lo := s.uptoOf c
  let us := (s.planEvents p 0 q.dispEntry 1).filter fun u => decide (lo ≤ u.cycle) && decide (u.cycle ≤ lim)
  let s := us.foldl (fun (s : State) u => if s.alive c then s.resultEvent c p u else s) s
  let s := s.setUpto c (lim + 1)
  let fin := s.rowEnd p e b (q.resultRows - 1)
  let d := s.dispOf c p
  if s.alive c = true ∧ fin ≤ lim then s.done c (fin + 1) (if d.dropped = 0 then 0 else 1) (if d.dropped = 0 then 0 else d.detail q)
  else s

/-- The command has not ended, and nothing has fixed its end. -/
def State.goesOn (s : State) (c : Cmd) : Bool := match s.findCmd c.queue c.seq with
  | some d => d.due.isNone
  | none => false

/-- The dispatch of a ROUTE_COMMIT, as far as cycle `lim` (R221 to R224). -/
def State.dispatch (s : State) (c : Cmd) (p lim : Nat) : State := match (s.part p).entry c.route.dispEntry with
  | none => s
  | some (e, b) =>
    let s := if c.dispatchAt ≤ lim ∧ s.uptoOf c ≤ c.dispatchAt then ((s.setNow c.dispatchAt).dispatchNow c p b).setNow s.now else s
    if s.goesOn c = true ∧ c.dispatchAt ≤ lim then s.results c p e b lim else s

/-- ROUTE_COMMIT (R217 to R224), as far as cycle `lim`: the mask of cycle 0, applied in cycle 40, then dispatch. -/
def State.routeCommit (s : State) (c : Cmd) (p lim : Nat) : State :=
  let s := if c.t0 ≤ lim ∧ s.uptoOf c ≤ c.t0 then (s.readMask c p).setUpto c (c.t0 + 1) else s
  let n := s.now
  let s := if s.goesOn c = true ∧ c.commitAt ≤ lim ∧ s.uptoOf c ≤ c.commitAt then (s.commitNow c p).setNow (max n c.commitAt) else s
  if s.goesOn c = true ∧ c.commitAt ≤ lim ∧ c.route.dispatch = true then s.dispatch c p lim else s

/-- ROUTE_COMMIT: its step is the event of its commit cycle, if that lies in the present frame. -/
def execRouteCommit (c : CmdId) (s : State) : Host.Outcome State Fault Refusal :=
  .next (match s.ready c 0x202 with
    | some d => match d.part with
      | some p => s.routeCommit d p (if d.commitAt < s.nextEdge then max s.now d.commitAt else s.now)
      | none => s
    | none => s)

end Sys2Proof.Machine
end

