-- ==== Sys2Proof/Machine/Collect.lean ====
section
/-! DEFINITION. Collectives and MOVE: pieces and rows over tethers, the long adder, the reduce phase, gather entries, local
copies (R226 to R237, R247, R291). -/

namespace Sys2Proof.Machine


/-- What a command's tether entries wait for: one shard per entry whose source is a port. -/
def Part.arrivals (x : Part) (base first n : Nat) : List Shard :=
  (List.range n).filterMap fun i => match x.taskSlotOf.plan[first + i]? with
    | some e => if e.srcKind = 2 then some (Shard.init (base + i) (first + i) e.src) else none
    | none => none

/-- The stream of a command with tether entries, as it begins. -/
def State.awaitRows (s : State) (c : Cmd) (p base first n : Nat) : State :=
  let l := (s.part p).arrivals base first n
  if l.isEmpty then s else s.addStream p ⟨c.queue, c.seq, l, [], true⟩

/-- A piece header is the one that entry i of a running command expects (R232). -/
def State.expects (s : State) (st : Stream) (h : Shard) (w : Bytes) : Bool :=
  let i := h.id - pieceBase
  match s.streamCmd st with
  | none => false
  | some c =>
    let q := c.coll
    if c.op = 0x300 then u32 w 0 == q.collId && u16 w 4 == i
    else if c.op = 0x301 then
      match c.part with
      | some p => match (s.part p).taskSlotOf.plan[h.entry]? with
        | some e => u32 w 0 == q.collId && u8 w 10 == 1 && q.inRow + u16 w 6 * q.rows == e.dstRow
        | none => false
      | none => false
    else false

/-- Rows of a piece or transfer that the engine takes. -/
def Shard.takes (h : Shard) : Nat := if h.id < rowBase then u16 h.header 8 else 16384

/-- A piece or transfer of partition p on port n that is under way. -/
def Part.underWay (x : Part) (n lo hi : Nat) : Option (Stream × Nat × Shard) := (x.onPort n).find? fun y =>
  decide (lo ≤ y.2.2.id) && decide (y.2.2.id < hi) && !y.2.2.header.isEmpty && decide (y.2.2.came < 4096 * y.2.2.takes) &&
  (decide (y.2.2.id < rowBase) || (match x.taskSlotOf.plan[y.2.2.entry]? with
    | some e => decide (y.2.2.came < 4096 * e.rows)
    | none => false))

/-- The detail of an absent row (R181, R232; log entry 26 for MOVE). -/
def absentDetail (c : Cmd) (h : Shard) (j : Nat) : Nat :=
  if c.op = 0x300 ∨ c.op = 0x301 then c.coll.collId + (h.id - pieceBase) % 2 ^ 16 * 2 ^ 32 + j % 2 ^ 16 * 2 ^ 48
  else if c.op = 0x400 then h.entry + j % 2 ^ 16 * 2 ^ 48
  else h.id % 2 ^ 48 + j % 2 ^ 16 * 2 ^ 48

/-- One word joins a piece; a row that is complete after its round is absent (R232). -/
def State.joinWord (s : State) (n p : Nat) (st : Stream) (k : Nat) (h : Shard) (w : Bytes) : State :=
  let h' := h.more w (!h.cancelled && s.storeFull n p w.length)
  if h.cancelled then
    let st' := if 4096 * h.takes ≤ h'.came then { st with shards := st.shards.eraseIdx k } else st.setShard k h'
    s.modStrm p fun y => { y with streams := (y.streams.map fun t => if t = st then st' else t).filter fun t => !(t.queue == 16384 && t.shards.isEmpty) }
  else match s.streamCmd st with
    | none => s
    | some c =>
      let st' : Stream := { st with degraded := (s.linkBits n .rx ++ st.degraded).dedup }
      let s := s.setStream p (st'.setShard k h')
      match (s.part p).entry h.entry with
      | some (e, b) =>
        let j := h.data.length / 4096
        if h'.lost = 0 ∧ h'.data.length % 4096 = 0 ∧ j < e.rows ∧ s.roundCycle p (e.rowLast b.round j) < s.now then
          s.fault c 0x3001 (absentDetail c h j)
        else s
      | none => s

/-- A word of a class 3, TYPE 0 frame on port n: data of the piece under way, or the header of a new one (R231, R232). -/
def State.pieceWord (s : State) (n p : Nat) (w : Bytes) : State :=
  let x := s.part p
  match x.underWay n pieceBase rowBase with
  | some y => s.joinWord n p y.1 y.2.1 y.2.2 w
  | none =>
    match (x.onPort n).find? fun y => y.2.2.header.isEmpty && !y.2.2.cancelled && s.expects y.1 y.2.2 w with
    | some y => s.setStream p (y.1.setShard y.2.1 { y.2.2 with header := w })
    | none =>
      let s := s.inc .PART_COLL_MISMATCH p 1
      if u16 w 8 = 0 then s
      else s.addStream p ⟨16384, 0, [{ Shard.init pieceBase 0 n with header := w, cancelled := true }], [], true⟩

/-- A word of a plan transfer's frame on port n: it belongs to the transfer of the earliest round that is not complete (R247).
`head` is the first frame's source address and SEQ, and the kind of the frame. -/
def State.rowWord (s : State) (n p : Nat) (head w : Bytes) : State :=
  let x := s.part p
  match x.underWay n rowBase (2 ^ 50) with
  | some y => s.joinWord n p y.1 y.2.1 y.2.2 w
  | none =>
    match ((x.onPort n).filter fun y => y.2.2.header.isEmpty && !y.2.2.cancelled && decide (rowBase ≤ y.2.2.id)).foldl (fun a y => match a with
        | some z => if x.roundOf y.2.2 < x.roundOf z.2.2 then some y else some z
        | none => some y) none with
    | some y => s.joinWord n p (y.1.setShard y.2.1 { y.2.2 with header := head }) y.2.1 { y.2.2 with header := head } w
    | none => s

/-- Entries of a command that come over a tether and are all placed are delivered; a complete piece or transfer enters the journal
(R336). -/
def State.settleArrivals (s : State) (c : Cmd) (p : Nat) : State := match (s.part p).stream c with
  | none => s
  | some st => (enumFrom 0 st.shards).foldl (fun (s : State) kh =>
    let h := kh.2
    let fin := (s.entryEvents p 0 h.entry).all fun u => decide (u.cycle < s.uptoOf c)
    match (if fin && !h.delivered && !h.cancelled then (s.part p).entry h.entry else none) with
    | some (e, _) =>
      (s.putShard c p kh.1 { h with delivered := true }).journalInput c p (if h.id < rowBase then 1 else u8 h.header 8) h.port h.entry e.rows
        (if h.id < rowBase then h.header.take 6 else h.header.take 8) (sha256 (h.data.take (4096 * e.rows)))
    | none => s) s

/-- The ports on which rows of a command that came over tethers ran degraded (R259). -/
def State.degradedOf (s : State) (c : Cmd) (p : Nat) : List (Nat × Nat × Nat) := match (s.part p).stream c with
  | some st => st.degraded
  | none => []

/-- A command's stream ends with it. -/
def State.closeStream (s : State) (c : Cmd) (p : Nat) : State :=
  s.modStrm p fun x => { x with streams := x.streams.filter fun t => !(t.queue == c.queue && t.seq == c.seq) }

/-- Ports of a command's egress that run degraded. -/
def State.egress (s : State) (p first n : Nat) : List (Nat × Nat × Nat) :=
  ((List.range n).flatMap fun i => match (s.part p).entry (first + i) with
    | some (e, _) => if e.dstKind = 2 then s.linkBits e.dstFirst .tx else []
    | none => []).dedup

/-- The transfers of a command's plan entries go on as far as cycle `lim`; the answer says whether all is done. -/
def State.moveRows (s : State) (c : Cmd) (p first n lim : Nat) : State × Bool :=
  let r := s.runPlan c p first n lim
  (if r.1.alive c then r.1.settleArrivals c p else r.1, r.2 && r.1.alive c)

/-- The command's transfers are all done: it retires in the cycle after the last row has arrived, or has left its port (R230,
R291). -/
def State.moved (s : State) (c : Cmd) (p first n : Nat) : State :=
  (s.closeStream c p).doneLinks c (max c.t0 (s.lastRow p first n) + 1) ((s.egress p first n ++ s.degradedOf c p).dedup)

/-- The plan entries of a command, as far as cycle `lim` (R146, R150, R227, R230, R291). -/
def State.runMoves (s : State) (c : Cmd) (p first n lim : Nat) : State :=
  let r := s.moveRows c p first n lim
  if r.2 then r.1.moved c p first n else r.1

/-- BCAST (R227, R230), as far as cycle `lim`. -/
def State.bcast (s : State) (c : Cmd) (p lim : Nat) : State := s.runMoves c p c.coll.first c.coll.entries lim

def execBcast (c : CmdId) (s : State) : Host.Outcome State Fault Refusal :=
  .next (match s.ready c 0x300 with
    | some d => match d.part with
      | some p => s.bcast d p s.now
      | none => s
    | none => s)

/-- long_add (R233): one FP32 input enters a lane. -/
def RedLane.add (l : RedLane) (top : Int) (v : Val) : RedLane :=
  let beyond := fun (neg : Bool) => if neg then { l with negOver := true } else { l with posOver := true }
  match v with
  | .nan => { l with nan := true }
  | .inf s => beyond s
  | .fin s m e =>
    if m = 0 then l
    else if top ≤ log2Of m e then beyond s
    else
      let lo := top - 160
      let x := shiftTo m e lo
      let exact := decide (lo ≤ e) || x <<< (lo - e).toNat == m
      let l := if exact then l else { l with flushed := l.flushed + 1 }
      { l with a := if s then l.a - (x : Int) else l.a + (x : Int) }

/-- long_round (R234): the element's code, and its outcome: 0 ok, 1 nan, 2 range, 3 inexact. -/
def RedLane.round (l : RedLane) (fmt : Nat) (top : Int) : Nat × Nat :=
  match floatFmt fmt with
  | none => (0, 0)
  | some f =>
    let most := fun (neg : Bool) => (maxCode f + (if neg then 2 ^ (f.eb + f.mb) else 0), 2)
    if l.nan || (l.posOver && l.negOver) then (canonicalNan fmt, 1)
    else if l.posOver then most false
    else if l.negOver then most true
    else if l.a = 0 then (0, 0)
    else
      let neg := decide (l.a < 0)
      let m := l.a.natAbs
      let e := top - 160
      if top ≤ log2Of m e then most neg
      else
        let r := roundFloat f 0 0 m e
        if r.2 then most neg else (r.1 + (if neg then 2 ^ (f.eb + f.mb) else 0), if l.flushed = 0 then 0 else 3)

/-- Contribution count of a root. -/
def CollP.count (q : CollP) : Nat := q.contrib

/-- The cycle in which quarter u of contribution c's row j is read, and that in which output row j is written, from cycle P on
(R235). -/
def CollP.readAt (q : CollP) (x0 j u c : Nat) : Nat := x0 + j * (4 * q.count + 1) + u * q.count + c
def CollP.writeAt (q : CollP) (x0 j : Nat) : Nat := x0 + j * (4 * q.count + 1) + 4 * q.count

/-- A lane after n inputs of an element of output row j, each as its read finds it (R124, R233). -/
def CollP.lane (q : CollP) (k : Core) (x0 j i n : Nat) : RedLane :=
  (List.range n).foldl (fun (l : RedLane) c =>
    l.add q.winTop (ofFp32 (leNat (k.readAt (q.readAt x0 j (i / 256) c) ((q.inRow + c * q.rows + j) * 4096 + 4 * i) 4)))) RedLane.init

/-- Element i of output row j on the root: code, outcome, flushed inputs (R233, R234). -/
def CollP.element (q : CollP) (k : Core) (x0 j i : Nat) : Nat × Nat × Nat :=
  let l := q.lane k x0 j i q.count
  let r := l.round (if q.flag then 1 else 0) q.winTop
  (r.1, r.2, l.flushed)

/-- The lanes of the reduce unit after the reads of cycles up to x: each has taken the inputs of its quarter so far (R233). -/
def CollP.lanesAt (q : CollP) (k : Core) (x0 x : Nat) : Tab RedLane :=
  let d := x + 1 - x0
  let j := d / (4 * q.count + 1)
  let m := d % (4 * q.count + 1)
  (List.range 256).foldl (fun t l =>
    Tab.put RedLane.init t l (q.lane k x0 j (256 * (m / max 1 q.count) + l) (m % max 1 q.count))) []

/-- One read of the phase, in cycle x: a clear gather flag or an uncorrectable quarter is a fault, corrected quarters of its words
are counted (R135, R235, R237). -/
def State.reduceRead (s : State) (c : Cmd) (p pos row u x : Nat) : State :=
  let q := c.coll
  match (s.core pos).gatherFaults (readUse q.root 2 x row) with
  | f :: _ => ((s.inc .CORE_GATHER_MISSES pos 1).advance x).fault c f.status f.detail
  | [] =>
    let hit := ((s.core pos).eccIn x row).filter fun y => y.1 % 256 / 64 == u
    match hit.find? fun y => decide (2 ≤ y.2) with
    | some y => (s.noteEcc p q.root).chargeAt p x 0x4000 (eccDetail y.1 q.root)
    | none => if hit.isEmpty then s else s.inc .CORE_TMEM_ECC_CORRECTED pos hit.length

/-- The reads of output row j that fall in cycles from `lo` to `hi`, in order. -/
def State.reduceReads (s : State) (c : Cmd) (p pos x0 lo hi j : Nat) : State :=
  let q := c.coll
  (List.range (4 * q.count)).foldl (fun (s : State) i =>
    let x := q.readAt x0 j (i / max 1 q.count) (i % max 1 q.count)
    if lo ≤ x ∧ x ≤ hi ∧ s.alive c = true then s.reduceRead c p pos (q.inRow + i % max 1 q.count * q.rows + j) (i / max 1 q.count) x else s) s

/-- Output row j is written: its elements enter the counts; a range element ends the command (R234, R235). -/
def State.reduceRow (s : State) (c : Cmd) (p pos x0 j : Nat) : State :=
  let q := c.coll
  let es := (List.range 1024).map fun i => q.element (s.core pos) x0 j i
  let x := q.writeAt x0 j
  let kinds := fun (k : Nat) => (es.filter fun e => e.2.1 == k).length
  let s := ((s.inc .CORE_RED_CNT_NAN pos (kinds 1)).inc .CORE_RED_CNT_RANGE pos (kinds 2)).inc .CORE_RED_CNT_FLUSHED pos
    (sumN (es.map fun e => e.2.2))
  let s := if q.flag then s.writeS p q.root (q.outRow + j / 2) (32 * (j % 2)) (es.flatMap fun e => natLE 2 e.1) x
    else s.writeS p q.root (q.outRow + j) 0 (es.flatMap fun e => natLE 4 e.1) x
  match es.findIdx? fun e => e.2.1 == 2 with
  | some i => if s.alive c then (s.advance x).fault c 0x3006 ((j * 1024 + i) % 2 ^ 32 + q.root * 2 ^ 32) else s
  | none => s

/-- The reduce phase (R235) in cycles from `lo` to `hi`, row by row. -/
def State.reduceRows (s : State) (c : Cmd) (p pos x0 lo hi : Nat) : State :=
  let q := c.coll
  (List.range q.rows).foldl (fun (s : State) j =>
    let s := s.reduceReads c p pos x0 lo hi j
    if lo ≤ q.writeAt x0 j ∧ q.writeAt x0 j ≤ hi ∧ s.alive c = true then s.reduceRow c p pos x0 j else s) s

/-- Inexact elements of the phase, and its flushed inputs (R234). -/
def CollP.inexact (q : CollP) (k : Core) (x0 : Nat) : Nat × Nat :=
  let es := (List.range q.rows).flatMap fun j => (List.range 1024).map fun i => q.element k x0 j i
  ((es.filter fun e => e.2.1 == 3).length, sumN (es.map fun e => e.2.2))

/-- The cycle of a REDUCE1's phase that is next, as its command has it. -/
def State.phaseOf (s : State) (c : Cmd) : Nat := match s.findCmd c.queue c.seq with
  | some d => d.phase
  | none => 0

/-- The reduce phase as far as cycle `lim`; the lanes keep what they have (R233, R235). -/
def State.reducePhase (s : State) (c : Cmd) (p pos lim : Nat) : State :=
  let x0 := s.boundCycle p c.coll.phase
  if lim < x0 then s
  else
    let s := s.reduceRows c p pos x0 (s.phaseOf c) lim
    let s := s.modCore pos fun k => { k with lanes := c.coll.lanesAt k x0 lim }
    match s.findCmd c.queue c.seq with
    | some d => s.setCmd { d with phase := max d.phase (lim + 1) }
    | none => s

/-- REDUCE1 at its root has done all: OK, LINK_DEGRADED or REDUCE_INEXACT (R234, R235). -/
def State.reduceDone (s : State) (c : Cmd) (p pos : Nat) : State :=
  let q := c.coll
  let x0 := s.boundCycle p q.phase
  let t := x0 + q.rows * (4 * q.count + 1) + 8
  let n := q.inexact (s.core pos) x0
  let links := s.degradedOf c p
  let s := s.closeStream c p
  if n.1 = 0 then s.doneLinks c t links else s.done c t 3 (min n.2 (2 ^ 32 - 1) + q.root * 2 ^ 32)

/-- REDUCE1 (R228, R235, R236), as far as cycle `lim`. -/
def State.reduce1 (s : State) (c : Cmd) (p lim : Nat) : State :=
  let q := c.coll
  if q.scope = 1 then s.runMoves c p q.first q.entries lim
  else match (s.part p).position q.root with
    | none => s
    | some pos =>
      let r := s.moveRows c p q.first q.entries lim
      let s := if r.1.alive c then r.1.reducePhase c p pos lim else r.1
      if s.alive c = true ∧ r.2 = true ∧ s.boundCycle p q.phase + q.rows * (4 * q.count + 1) ≤ s.phaseOf c then s.reduceDone c p pos else s

def execReduce1 (c : CmdId) (s : State) : Host.Outcome State Fault Refusal :=
  .next (match s.ready c 0x301 with
    | some d => match d.part with
      | some p => s.reduce1 d p s.now
      | none => s
    | none => s)

/-- What a command waits on that rows over a tether bring goes on, up to the present. -/
def State.advanceRows (s : State) (c : Cmd) (p : Nat) : State :=
  if c.op = 0x300 then s.bcast c p s.now
  else if c.op = 0x301 then s.reduce1 c p s.now
  else s.runMoves c p c.move.first c.move.entries s.now

/-- The command of a stream moves on after rows have arrived. -/
def State.resume (s : State) (c : Cmd) (p : Nat) : State :=
  match s.findCmd c.queue c.seq with
  | some d => if d.due.isNone then s.advanceRows d p else s
  | none => s

/-- A frame of partition p's rows at port n: each word joins its piece or transfer, then their commands place what they can. -/
def State.takeRows (s : State) (n p : Nat) (w : WslFrame) (f : State → Bytes → State) : State :=
  let s := (frameWords w).foldl f s
  let cs := ((s.part p).strm.streams.filter fun st => st.shards.any fun h => h.port == n && decide (pieceBase ≤ h.id)).filterMap s.streamCmd
  cs.foldl (fun (s : State) c => s.resume c p) s

/-- A frame of a class and type stands at port n for the partition that owns the port (R244, R248). -/
def State.dataFrame (s : State) (n : Nat) (w : WslFrame) (cls type : Nat) (f : Nat → State → State) : State :=
  if s.portTalks n = false ∨ w.cls ≠ cls ∨ w.type ≠ type then s
  else
    let l := s.linkCheck n w
    match (if l.1 then l.2.portOwner n else none) with
    | none => l.2
    | some p => f p l.2

/-- COLLECTIVE_PIECE (R232). -/
def execCollectivePiece (n : Fin 64) (w : WslFrame) (s : State) : Host.Outcome State Fault Refusal :=
  .next (s.dataFrame n.val w 3 0 fun p s => s.takeRows n.val p w fun s x => s.pieceWord n.val p x)

/-- What the journal names of a transfer's first frame: source address, SEQ, kind (R336). -/
def rowHead (w : WslFrame) (kind : Nat) : Bytes := natLE 4 w.src ++ natLE 4 w.seq ++ natLE 1 kind

/-- ACTIVATION_ROWS (R247): class 3, TYPE 1. -/
def execActivationRows (n : Fin 64) (w : WslFrame) (s : State) : Host.Outcome State Fault Refusal :=
  .next (s.dataFrame n.val w 3 1 fun p s => s.takeRows n.val p w fun s x => s.rowWord n.val p (rowHead w 2) x)

/-- BULK_ROWS (R247): class 4, TYPE 0. -/
def execBulkRows (n : Fin 64) (w : WslFrame) (s : State) : Host.Outcome State Fault Refusal :=
  .next (s.dataFrame n.val w 4 0 fun p s => s.takeRows n.val p w fun s x => s.rowWord n.val p (rowHead w 3) x)

/-- One cycle of a local copy on one core, the k-th of the phase: row k/2 is read, then written (R291). -/
def State.copyCycle (s : State) (c : Cmd) (p lc x0 k : Nat) : State :=
  let q := c.move
  if k % 2 = 0 then s.readRow c p (x0 + k) lc (q.src + k / 2)
  else s.writeS p lc (q.dst + k / 2) 0 ((s.lcore p lc).rowAt (x0 + k - 1) (q.src + k / 2)) (x0 + k)

/-- A local MOVE (R291): a sequential copy on every named core, from cycle PHASE_CYCLE on, as far as cycle `lim`. -/
def State.moveLocal (s : State) (c : Cmd) (p lim : Nat) : State :=
  let q := c.move
  let x0 := s.boundCycle p q.phase
  let lo := s.uptoOf c
  let s := ((List.range (2 * q.rows)).filter fun k => decide (lo ≤ x0 + k) && decide (x0 + k ≤ lim)).foldl (fun (s : State) k =>
    (List.range (q.coreLast + 1 - q.coreFirst)).foldl (fun (s : State) j =>
      if s.alive c then s.copyCycle c p (q.coreFirst + j) x0 k else s) s) s
  let s := s.setUpto c (lim + 1)
  if s.alive c = true ∧ x0 + 2 * q.rows ≤ lim + 1 then s.done c (x0 + 2 * q.rows + 4) 0 0 else s

/-- MOVE (R291), as far as cycle `lim`. -/
def State.move (s : State) (c : Cmd) (p lim : Nat) : State :=
  if c.move.isLocal then s.moveLocal c p lim else s.runMoves c p c.move.first c.move.entries lim

def execMove (c : CmdId) (s : State) : Host.Outcome State Fault Refusal :=
  .next (match s.ready c 0x400 with
    | some d => match d.part with
      | some p => s.move d p s.now
      | none => s
    | none => s)

/-- MOVE is refused on its own parameters, the plan and the phase list (R291, R447). -/
def Part.moveBad (x : Part) (q : MoveP) : Bool :=
  if q.isLocal then
    !(decide (1 ≤ q.rows) && decide (q.src + q.rows ≤ 16384) && decide (q.dst + q.rows ≤ 16384) && decide (q.coreFirst ≤ q.coreLast) &&
      decide (q.coreLast < x.lcores) && x.hasPhase ⟨0, q.coreFirst, q.coreLast, q.phase, 2 * q.rows⟩)
  else !(decide (1 ≤ q.entries) && decide (q.entries ≤ 256) && decide (q.first + q.entries ≤ x.taskSlotOf.plan.length))

/-- Entries first to first + n − 1 touch pending rows. -/
def Part.entriesPending (x : Part) (first n : Nat) : Bool := (List.range n).any fun i => match x.taskSlotOf.plan[first + i]? with
  | some e => x.entryPending none e
  | none => false

/-- MOVE is refused if it reads or writes a pending row (R215). -/
def Part.moveRefused (x : Part) (q : MoveP) : Refused :=
  invalidIf (if q.isLocal then x.pendingRows none q.src q.rows || x.pendingRows none q.dst q.rows else x.entriesPending q.first q.entries)

/-- BCAST is refused on its own parameters and the plan (R229, Table 11-3). -/
def Part.bcastBad (x : Part) (q : CollP) : Bool :=
  !(decide (1 ≤ q.entries) && decide (q.entries ≤ 256) && (!q.flag || (decide (q.gather + q.entries ≤ 256) && q.scope != 1)) &&
    (if q.scope = 0 then x.kinds q.first q.entries 0 0 else if q.scope = 1 then x.kinds q.first q.entries 0 2
     else if q.scope = 2 then x.kinds q.first q.entries 2 0 else false))

/-- REDUCE1 is refused on its own parameters, the plan and the phase list (R229, R447). -/
def Part.reduceBad (x : Part) (q : CollP) : Bool :=
  !(if q.scope = 1 then decide (1 ≤ q.entries) && decide (q.entries ≤ 256) && x.kinds q.first q.entries 0 2 && decide (1 ≤ q.rows) &&
      decide (q.rows ≤ 4096) && decide (11 ≤ q.winTop) && decide (q.winTop ≤ 128)
    else if q.scope = 0 then
      decide (q.entries ≤ 256) && decide (q.gather + q.entries ≤ 256) && decide (q.root < x.lcores) && decide (1 ≤ q.contrib) &&
      decide (q.contrib ≤ 4096) && decide (1 ≤ q.rows) && decide (q.rows ≤ 4096) && decide (q.inRow + q.contrib * q.rows ≤ 16384) &&
      decide (q.outRow + (if q.flag then cdiv q.rows 2 else q.rows) ≤ 16384) && decide (11 ≤ q.winTop) && decide (q.winTop ≤ 128) &&
      (List.range q.entries).all (fun i => match x.taskSlotOf.plan[q.first + i]? with
        | some e => (e.srcKind == 0 || e.srcKind == 2) && e.dstKind == 0 && e.dstFirst == q.root && e.dstLast == q.root
        | none => false) &&
      x.hasPhase ⟨1, q.root, q.root, q.phase, q.rows * (4 * q.contrib + 1)⟩
    else false)

/-- The gather entries that a collective arms: core, entry number, rows (R237). -/
def Part.arms (x : Part) (q : CollP) : List (Nat × Nat × Nat × Nat) :=
  (List.range q.entries).flatMap fun i => match x.taskSlotOf.plan[q.first + i]? with
    | some e => e.dstCores.map fun lc => (lc, q.gather + i, e.dstRow, e.rows)
    | none => []

/-- One of them is still armed with its flag clear (R229). -/
def State.stillArmed (s : State) (p : Nat) (q : CollP) : Bool :=
  ((s.part p).arms q).any fun a => match Tab.get none (s.lcore p a.1).gather a.2.1 with
    | some g => g.flag.isNone
    | none => false

/-- They are armed, their flags clear, in the cycle in which the command begins (R237). -/
def State.arm (s : State) (p : Nat) (q : CollP) : State :=
  ((s.part p).arms q).foldl (fun (s : State) a =>
    s.modLcore p a.1 fun k => { k with gather := Tab.put none k.gather a.2.1 (some ⟨a.2.2.1, a.2.2.2, s.now, none⟩) }) s

/-- BCAST and REDUCE1 are refused on the state in which they would begin (R215, R229). -/
def State.collRefused (s : State) (p : Nat) (q : CollP) (reduce : Bool) : Refused :=
  let x := s.part p
  let arms := if reduce then q.scope == 0 else q.flag
  invalidIf ((arms && s.stillArmed p q) || x.entriesPending q.first q.entries ||
    (reduce && q.scope == 0 && (x.pendingRows none q.inRow (q.contrib * q.rows) ||
      x.pendingRows none q.outRow (if q.flag then cdiv q.rows 2 else q.rows))))

/-- What a command's tether entry k brings: its piece or rows, or shard k of its own (R146, R181). -/
def Stream.transfer (st : Stream) (k : Nat) : Option Shard :=
  st.shards.find? fun h => (if pieceBase ≤ h.id then h.id % 2 ^ 48 else h.entry - (match st.shards.head? with
    | some g => g.entry
    | none => 0)) == k && decide (h.port < 64)

/-- ROW_ABSENT (R48, R181, R232): row `row` of transfer `k` has not come by its round. -/
def State.rowAbsent (s : State) (c : Cmd) (p k row : Nat) : State :=
  match (s.part p).stream c with
  | none => s
  | some st => match st.transfer k with
    | none => s
    | some h => match (s.part p).entry h.entry with
      | none => s
      | some (e, b) => match rowNeed c h e row with
        | some m =>
          if h.data.length < m ∧ s.roundCycle p (e.rowLast b.round row) ≤ s.now then ((s.mark (s.port h.port).rehearsal).fault c 0x3001 (absentDetail c h row)).mark false
          else s
        | none => s

def execRowAbsent (c : CmdId) (k row : Nat) (s : State) : Host.Outcome State Fault Refusal :=
  .next (match s.findCmd c.queue.val c.seq with
    | some d => match d.part with
      | some p => s.rowAbsent d p k row
      | none => s
    | none => s)

end Sys2Proof.Machine
end

