-- ==== Sys2Proof/Machine/Jctl.lean ====
section
/-! DEFINITION. JOURNAL_CTL: ENABLE, DISABLE, MARK and TAP (R339 to R341). -/

namespace Sys2Proof.Machine

/-- The partition on which a JOURNAL_CTL acts (R339). -/
def Cmd.journalPart (c : Cmd) : Nat := match c.part with
  | some p => p
  | none => c.journal.part

/-- JOURNAL_CTL is refused on its own parameters, the ports bound and the phase list (R334, R339, R341, R447; log entry 31). -/
def State.journalBad (s : State) (c : Cmd) : Bool :=
  let j := c.journal
  let x := s.part c.journalPart
  let own := match x.bind.shape with
    | some sh => sh.ports.testBit j.port
    | none => false
  (c.part.isSome && j.part != 0) ||
  (if j.op = 0 then
     !(decide (16 ≤ j.log2) && decide (j.log2 ≤ 30) && j.arg % 4096 == 0 && decide (j.arg < 2 ^ 53) && (!j.mirror || own))
   else if j.op = 3 then
     c.part.isNone || !(decide (1 ≤ j.rows) && decide (j.rows ≤ 1024) && decide (j.row + j.rows ≤ 16384) &&
       x.hasPhase ⟨2, 0, x.lcores - 1, j.phase, j.rows⟩)
   else false)

/-- A TAP that names a pending row is refused (R341). -/
def State.journalRefused (s : State) (c : Cmd) : Bool :=
  c.journal.op == 3 && (s.part c.journalPart).pendingRows none c.journal.row c.journal.rows

/-- A JOURNAL_CTL command with the operation. -/
def State.journalReady (s : State) (id : CmdId) (op : Nat) : Option Cmd := match s.ready id 0x702 with
  | some c => if c.journal.op = op then some c else none
  | none => none

/-- JOURNAL_ENABLE (R339): at the next frame edge. -/
def execJournalEnable (c : CmdId) (s : State) : Host.Outcome State Fault Refusal :=
  .next (match s.journalReady c 0 with
    | some d =>
      let j := d.journal
      (s.atNextEdge (.journal d.journalPart true j.log2 j.arg (if j.mirror then some j.port else none))).done d (d.t0 + 1) 0 0
    | none => s)

/-- JOURNAL_DISABLE (R339): at the next frame edge. -/
def execJournalDisable (c : CmdId) (s : State) : Host.Outcome State Fault Refusal :=
  .next (match s.journalReady c 1 with
    | some d => (s.atNextEdge (.journal d.journalPart false 0 0 none)).done d (d.t0 + 1) 0 0
    | none => s)

/-- MARK (R339): its record is written in its retirement cycle (State.commandRetire). -/
def execMark (c : CmdId) (s : State) : Host.Outcome State Fault Refusal :=
  .next (match s.journalReady c 2 with
    | some d => s.done d (d.t0 + 1) 0 0
    | none => s)

/-- The reads of a TAP in its i-th cycle, on every logical core (R341). -/
def State.tapCycle (s : State) (c : Cmd) (p x0 i : Nat) : State :=
  (List.range (s.part p).lcores).foldl (fun (s : State) lc => if s.alive c then s.readRow c p (x0 + i) lc (c.journal.row + i) else s) s

/-- The digests of a TAP whose rows are all read: the combined one, and those of the cores with PER_CORE (R341). -/
def State.tapDigests (s : State) (c : Cmd) (p x0 : Nat) : List Bytes :=
  let j := c.journal
  let ds := (List.range (s.part p).lcores).map fun lc => sha256 ((List.range j.rows).flatMap fun i => (s.lcore p lc).rowAt (x0 + i) (j.row + i))
  sha256 ds.flatten :: (if j.perCore then ds else [])

/-- TAP (R341): every logical core's rows are read from cycle PHASE_CYCLE on, one per cycle, as far as cycle `lim`, and hashed; the
records are kept for the retirement, 160 cycles after the last read. -/
def State.tap (s : State) (c : Cmd) (p lim : Nat) : State :=
  let j := c.journal
  let x0 := s.boundCycle p j.phase
  let lo := s.uptoOf c
  let s := ((List.range j.rows).filter fun i => decide (lo ≤ x0 + i) && decide (x0 + i ≤ lim)).foldl (fun (s : State) i => s.tapCycle c p x0 i) s
  let s := s.setUpto c (lim + 1)
  if s.alive c = true ∧ x0 + j.rows ≤ lim + 1 then
    (let all := s.tapDigests c p x0
     (s.modPart p fun x => { x with journal := { x.journal with taps := x.journal.taps ++ all.map fun d => (c.queue, c.seq, d) } }).done c
       (x0 + j.rows + 159) 0 0)
  else s

def execTap (c : CmdId) (s : State) : Host.Outcome State Fault Refusal :=
  .next (match s.journalReady c 3 with
    | some d => match d.part with
      | some p => s.tap d p s.now
      | none => s
    | none => s)

end Sys2Proof.Machine
end

