-- ==== Sys2Proof/Machine/Tasks.lean ====
section
/-! DEFINITION. The life of a task and of its commands: the anchor, the header, retirement, deadlines, and the commands of the
fence unit (R26, R45 to R49, R149, R275, R277 to R280, R285 to R290, R311, R356). -/

namespace Sys2Proof.Machine

/-- What R275 checks in a packet header; `fences` are the fences that it may name. -/
def Cmd.headBad (c : Cmd) (fences : Nat) : Bool :=
  opLength c.op != some c.len ||
  (c.waitEn && decide (fences ≤ c.waitIdx)) || (c.sigEn && decide (fences ≤ c.sigIdx)) ||
  (c.op == 2 && decide (fences ≤ c.fsFence)) || (c.op == 1 && c.waitConds.any fun w => decide (fences ≤ w.1)) ||
  (match c.part with
   | some _ => opPfOnly c.op || (c.taskBegin && c.op != 0)
   | none => opPartOnly c.op || c.taskBegin || c.taskLast)

/-- The next task of a partition whose header counts as fetched in this cycle (R280): every command of it is in the Gondola
and the previous task has ended; not in CLEARING or MODE_HOLD (Table 14-1). -/
def State.nextReady (s : State) (p : Nat) : Option Task :=
  let r := (s.part p).run
  let st := s.get .PART_STATE_STATE p
  match r.task, r.next with
  | none, some t => if t.refused = false ∧ t.queueCount ≤ t.closed.length ∧ (st = 2 ∨ st = 3 ∨ st = 4) then some t else none
  | _, _ => none

/-- The anchor is fixed (R45): the first frame edge after this cycle, and the header's start offset. -/
def State.fixAnchor (s : State) (p : Nat) (t : Task) : State :=
  let start := match s.findCmd t.queue t.seq with
    | some c => c.start
    | none => 0
  let t' := { t with anchor := some (s.clock.frameNo + 1 + start), anchorReel := (s.reelCount + 1 + start) % 2 ^ 64, anchorAt := none }
  (s.modRun p fun r => { r with task := some t', next := none, sum := TaskSum.init }).showTask p

/-- TASK_FETCHED (R45, R280). -/
def execTaskFetched (p : Fin 16) (s : State) : Host.Outcome State Fault Refusal :=
  .next (match s.nextReady p.val with
    | some t => s.fixAnchor p.val t
    | none => s)

/-- What refuses a task as its header begins (R26, R149, R275, R280, R311, R371): an unfit slot's Detail is that of its cause. -/
def State.headerBad (s : State) (p : Nat) (t : Task) (c : Cmd) : Option (Nat × Nat) :=
  let x := s.part p
  let i := progIdx p (t.program % 32)
  let st := s.get .PART_PROG_STAT_STATE i
  let n := s.get .PART_PROG_STAT_LCORES i
  if c.headBad (s.fenceCount (some p)) = true ∨ s.get .PART_PROG_STAT_SERIAL i ≠ t.program / 32 then some (0x3000, 0)
  else if st = 3 then some (0x3000, (x.slot (t.program % 32)).cause)
  else if (x.cores.any fun k => s.get .CORE_BIND_FENCED k == 1) = true ∨ st ≠ 2 ∨ n ≠ t.lcores ∨ n ≠ x.lcores ∨ s.get .PART_PROG_STAT_PERIOD i ≠ t.period ∨ t.period ≠ s.get .REEL_STAT_PERIOD 0 then
    some (0x3000, 0)
  else none

/-- A task starts: counters of the task are 0 on its cores, segment 0 of its forecast is in force (R100, R112, R138, R332,
R356). -/
def State.startTask (s : State) (p : Nat) (t : Task) : State :=
  let s := (s.part p).cores.foldl (fun (s : State) n =>
    ((s.put .CORE_TMEM_HAZ_TASK n 0).put .CORE_TMEM_HAZ_WW n 0).put .CORE_DROP_TASK n 0) s
  let a := match t.anchor with
    | some f => f
    | none => 0
  let m := s.get .PART_SPARSE_MERGE_MAX_ROWS p
  (s.modRun p fun r => { r with uses := [], sum := { r.sum with mergeMax := m, segment := (0, a), nextSegment := [] } }).put .PART_STEP_STEP p 0

/-- TASK_HEADER (R280): at the anchor edge the header's checks, then its begin; it waits for an armed model switch of an
earlier task (R205). -/
def State.taskHeader (s : State) (p : Nat) (t : Task) (c : Cmd) : State :=
  let s := if t.opened then s else s.journalTaskBegin p t
  match s.headerBad p t c with
  | some r => s.refuse c r
  | none => (s.startTask p t).setCmd { c with began := some s.now, ran := true, due := some (s.now + 1), status := 0, detail := 0 }

def execTaskHeader (p : Fin 16) (s : State) : Host.Outcome State Fault Refusal :=
  .next (match (s.part p.val).run.task with
    | some t => match s.findCmd t.queue t.seq with
      | some c =>
        if s.atEdge = true ∧ t.anchorAt.isSome = true ∧ c.began = none ∧ (s.part p.val).strm.swap.isNone = true then s.taskHeader p.val t c else s
      | none => s
    | none => s)

/-- CORE[n]_PATHS of the partition's cores at the retirement of a wide operation. -/
def State.showPaths (s : State) (c : Cmd) (p : Nat) : State :=
  let walks := match (s.part p).run.wide with
    | some w => if w.queue = c.queue ∧ w.seq = c.seq then w.walks else []
    | none => []
  (enumFrom 0 (s.part p).cores).foldl (fun (s : State) ln =>
    let t := match walks.find? fun w => w.core == ln.1 with
      | some w => w.paths
      | none => (0, 0, 0, 0)
    (((s.put .CORE_PATHS_DENSE ln.2 (min t.1 0xFFFF)).put .CORE_PATHS_STRUCT ln.2 (min t.2.1 0xFFFF)).put .CORE_PATHS_MERGE ln.2
      (min t.2.2.1 0xFFFF)).put .CORE_PATHS_EXPANDED ln.2 (min t.2.2.2 0xFFFF)) s

/-- The header of a running task has retired in this cycle (R283, condition 7). -/
def State.noteHeader (s : State) (c : Cmd) : State := match c.part, s.taskOf c with
  | some p, some t => if t.queue = c.queue ∧ t.seq = c.seq then
      s.modRun p fun r => { r with sum := { r.sum with headerAt := some s.now } } else s
  | _, _ => s

/-- The records of a TAP are written in its retirement cycle: the combined digest, then those of the cores (R341). -/
def State.writeTaps (s : State) (c : Cmd) (p : Nat) : State :=
  let j := c.journal
  let own := fun (x : Nat × Nat × Bytes) => x.1 == c.queue && x.2.1 == c.seq
  let all := ((s.part p).journal.taps.filter own).map fun x => x.2.2
  let s := s.modPart p fun x => { x with journal := { x.journal with taps := x.journal.taps.filter fun y => !own y } }
  (enumFrom 0 all).foldl (fun (s : State) d => s.journalTap c p (if d.1 = 0 then 0xFFFF else d.1 - 1) j.row j.rows d.2) s

/-- The plan entries that a command performs: first and number (R150); those of a stream that has begun are the stream's (R194). -/
def State.entriesOf (s : State) (c : Cmd) (p : Nat) : Option (Nat × Nat) :=
  if c.op = 0x200 ∨ c.op = 0x201 ∨ c.op = 0x206 ∨ c.op = 0x203 then
    match (s.part p).stream c with
    | some st => some ((st.shards.map Shard.entry).headD 0, st.shards.length)
    | none =>
      if c.op = 0x203 then some (c.reside.entry, sumN ((s.regions p c.reside).map fun y => ertShards y.ert))
      else
        let x := s.streamSource p c.stream
        some ((if x.1.isSome then c.stream.stackEntry else c.stream.tetherEntry), x.2.1)
  else if c.op = 0x207 then some (c.writeback.entry, 1)
  else if c.op = 0x300 ∨ c.op = 0x301 then some (c.coll.first, c.coll.entries)
  else if c.op = 0x400 ∧ c.move.isLocal = false then some (c.move.first, c.move.entries)
  else if c.op = 0x202 ∧ c.route.dispatch = true then some (c.route.dispEntry, 1)
  else none

/-- The last cycle of a command whose parameters and bound plan fix it (R48). -/
def State.plannedEnd (s : State) (c : Cmd) (p : Nat) : Option Nat :=
  if c.op = 0x400 ∧ c.move.isLocal = true then some (s.boundCycle p c.move.phase + 2 * c.move.rows + 3)
  else if c.op = 0x301 ∧ c.coll.scope = 0 then some (s.boundCycle p c.coll.phase + c.coll.rows * (4 * c.coll.contrib + 1) + 7)
  else if c.op = 0x702 ∧ c.journal.op = 3 then some (s.boundCycle p c.journal.phase + c.journal.rows + 158)
  else if c.op = 0x202 ∧ c.route.dispatch = true then match (s.part p).entry c.route.dispEntry with
    | some (e, b) => some (s.rowEnd p e b (c.route.resultRows - 1))
    | none => none
  else (s.entriesOf c p).map fun e => s.lastRow p e.1 e.2

/-- The first cycle of such a command's schedule. -/
def State.plannedStart (s : State) (c : Cmd) (p : Nat) : Option Nat :=
  if c.op = 0x400 ∧ c.move.isLocal = true then some (s.boundCycle p c.move.phase)
  else if c.op = 0x702 ∧ c.journal.op = 3 then some (s.boundCycle p c.journal.phase)
  else match s.entriesOf c p with
    | some e => match s.entriesDue p e.1 e.2 with
      | some d => some d.1
      | none => (s.plannedEnd c p).map fun _ => s.boundCycle p c.coll.phase
    | none => none

/-- The retirement cycle that the static schedule gives a wide operation which began in its first cycle, if its whole schedule is known
(R48, R88). -/
def State.wideEnd (s : State) (c : Cmd) (p : Nat) : Option Nat :=
  let n := (s.part p).lcores
  let slowest := fun (f : Nat → Nat) (rows : Nat) => c.t0 + (((List.range n).map fun lc => f (dealt rows n lc).length).foldl max 0) + 8
  if c.op = 0x102 then some (slowest c.vec.cycles c.vec.rows)
  else if c.op = 0x104 then some (slowest c.samp.cycles c.samp.rows)
  else if c.op = 0x103 then
    (if c.conv.depthwise then some (slowest c.conv.cycles (c.conv.ho * c.conv.wo))
     else
       let ws := s.convStart p c.conv c.t0
       s.matEnd p (s.convOp p c ws s.now) ((s.ownWide c p).walksNow p ws))
  else
    let ws := s.matStart p c.mat c.t0
    s.matEnd p (s.matOp p c (if c.op = 0x101 then c.mat.shadowBase else c.mat.accBase) ws s.now) ((s.ownWide c p).walksNow p ws)

/-- The cycle after the last one that the static schedule gives a command which has begun; none where neither its parameters nor the
plan fix it. -/
def State.staticEnd (s : State) (c : Cmd) (p : Nat) : Option Nat := match c.due with
  | some d => some d
  | none =>
    if opWide c.op then s.wideEnd c p
    else if c.op = 0x401 ∨ c.op = 0x402 then some (c.t0 + 4)
    else if c.op = 0x202 ∧ c.route.dispatch = false then some (c.t0 + 41)
    else match s.plannedEnd c p with
      | some e => some (e + 1)
      | none => some (c.t0 + 1)

/-- The other commands of the partition that execute (R286). -/
def State.others (s : State) (c : Cmd) (p : Nat) : List Cmd :=
  s.cmds.filter fun d => d.part == some p && d.began.isSome && !(d.queue == c.queue && d.seq == c.seq)

/-- Another command of the partition executes and its end is not yet known. -/
def State.othersOpen (s : State) (c : Cmd) (p : Nat) : Bool := (s.others c p).any fun d => d.due.isNone

/-- The latest end of the commands on which a BARRIER waits, those that have ended with them. -/
def State.othersDue (s : State) (c : Cmd) (p : Nat) : Nat := ((s.others c p).filterMap Cmd.due).foldl max (s.part p).run.lastEnd

/-- A BARRIER retires in the first cycle after its begin in which no other command of the partition executes (R286). -/
def State.barrier (s : State) (c : Cmd) (p : Nat) : State :=
  if s.othersOpen c p then s else s.done c (max (c.t0 + 1) (s.othersDue c p)) 0 0

/-- A command that has begun and whose end nothing has fixed goes on by its own step as far as cycle `lim` (log entry 2). -/
def State.stepTo (s : State) (c : Cmd) (p lim : Nat) : State :=
  if c.op = 0x100 then (s.ownWide c p).wmatmul c p lim
  else if c.op = 0x101 then (s.ownWide c p).wmatmulSpec c p lim
  else if c.op = 0x102 then (s.ownWide c p).wvector c p lim
  else if c.op = 0x103 then (s.ownWide c p).wconv c p lim
  else if c.op = 0x104 then (s.ownWide c p).wsample c p lim
  else if c.op = 0x200 ∨ c.op = 0x201 ∨ c.op = 0x206 then s.streamStep c p lim
  else if c.op = 0x202 then s.routeCommit c p lim
  else if c.op = 0x203 then s.resideStep c p lim
  else if c.op = 0x207 then s.writeback c p lim
  else if c.op = 0x300 then s.bcast c p lim
  else if c.op = 0x301 then s.reduce1 c p lim
  else if c.op = 0x400 then s.move c p lim
  else if c.op = 0x702 then (if c.journal.op = 3 then s.tap c p lim else s)
  else if c.op = 3 then s.barrier c p
  else s

/-- Commands of a partition that have begun, in the order in which a round takes them: transfers, wide operations, BARRIERs. -/
def State.begunCmds (s : State) (p : Nat) : List Cmd :=
  let l := sortCmds (s.cmds.filter fun c => c.part == some p && c.began.isSome)
  (l.filter fun c => !opWide c.op && c.op != 3) ++ (l.filter fun c => opWide c.op) ++ l.filter fun c => c.op == 3

/-- One round of a partition's commands as far as cycle `lim`. -/
def State.roundTo (s : State) (p lim : Nat) : State := (s.begunCmds p).foldl (fun (s : State) c =>
  match (s.findCmd c.queue c.seq).filter fun d => d.began.isSome && !d.ran && d.due.isNone with
  | some d => s.stepTo d p lim
  | none => s) s

/-- Rounds of a partition's commands until they bring nothing new. -/
def State.runAll (s : State) (p lim : Nat) : Nat → State
  | 0 => s
  | n + 1 =>
    let t := s.roundTo p lim
    if t.cmds = s.cmds ∧ t.part p = s.part p then t else t.runAll p lim n

/-- More rounds than any work takes: each but the last brings a command or a buffer further. -/
def State.rounds : Nat := 2 ^ 24

/-- The batch of a partition's running task. -/
def State.batchOf (s : State) (p : Nat) : Option Nat := (s.part p).run.task.map Task.batch

/-- The command whose fault, met by its work and not held in a slot, ends the running task first, in cycle `lim` or before; the oldest
one of a cycle (R295). -/
def State.firstFault (s : State) (p lim : Nat) : Option (Nat × Cmd) :=
  ((sortCmds (s.cmds.filter fun c => c.part == some p && c.began.isSome)).filterMap fun c => match c.due with
    | some d => if 0x3000 ≤ c.status ∧ d ≤ lim ∧ s.pendingSlot c = none then some (d, c) else none
    | none => none).foldl (fun a y => match a with
      | some z => if y.1 < z.1 then some y else some z
      | none => some y) none

/-- A fault that its work met ends a command. -/
def State.meetFault (s : State) (c : Cmd) : State := ((s.mark c.rehearsal).abort c c.status c.detail).mark false

/-- Every command of a partition that has begun goes on as far as cycle `lim`; where a fault ends the task before, as far as the
earliest fault's cycle (log entry 2). -/
def State.catchUpN (s : State) (p lim : Nat) : Nat → State
  | 0 => s.runAll p lim State.rounds
  | n + 1 =>
    let t := s.runAll p lim State.rounds
    if t.batchOf p = s.batchOf p ∨ lim < t.now then t
    else
      let u := s.catchUpN p (t.now - 1) n
      if u.batchOf p ≠ s.batchOf p then u
      else match u.firstFault p (t.now - 1) with
        | some g => ((s.runAll p g.1 State.rounds).advance g.1).meetFault g.2
        | none => u.runAll p t.now State.rounds

/-- The same; 64 is more than the commands of a partition that can meet faults at once. -/
def State.catchUp (s : State) (p lim : Nat) : State := s.catchUpN p lim 64

/-- What a command's retirement itself brings about: window descriptors, a MARK's and a TAP's records, the count of inexact
reductions (R131, R132, R238, R339, R341). -/
def State.retireEffect (s : State) (c : Cmd) (p : Nat) : State :=
  if opWide c.op then s.showPaths c p
  else if c.op = 0x401 ∨ c.op = 0x402 then s.changeWindows c p s.now
  else if c.op = 0x702 ∧ c.journal.op = 3 then s.writeTaps c p
  else if c.op = 0x301 ∧ c.status = 3 then s.inc .PART_COLL_INEXACT p 1
  else s

/-- A MARK writes its record as it retires, in a partition's queue or in a PF queue (R339). -/
def State.writeMark (s : State) (c : Cmd) : State :=
  if c.op = 0x702 ∧ c.journal.op = 2 then s.journalMark c c.journalPart c.journal.arg else s

/-- A command retires in this cycle (R285). -/
def State.retireNow (s : State) (c : Cmd) : State :=
  let s := match c.part with
    | some p => s.retireEffect c p
    | none => s
  ((s.writeMark c).noteHeader c).retire c

/-- In cycle x of the present frame the command of a partition retires, or the task ends with the first fault up to then. -/
def State.endAt (s : State) (c : Cmd) (p x : Nat) : State :=
  let s := (s.catchUp p x).advance x
  match s.firstFault p x, s.findCmd c.queue c.seq with
  | some f, _ => s.meetFault f.2
  | none, some d => if d.due = some x then s.retireNow d else s
  | none, none => s

/-- COMMAND_RETIRE of a command of a task (R285, R295): in the cycle that its chapter gives, everything up to then being done, it
retires, or ends with the fault that it met there; a fault that ends the task before comes instead. -/
def State.partRetire (s : State) (c : Cmd) (p : Nat) : State :=
  let t := s.catchUp p (match c.due with
    | some d => d
    | none => s.nextEdge - 1)
  match t.findCmd c.queue c.seq with
  | none => if s.batchOf p = t.batchOf p then s else t
  | some d =>
    let x := match d.due, t.firstFault p (s.nextEdge - 1) with
      | some y, some f => some (min y f.1)
      | some y, none => some y
      | none, some f => some f.1
      | none, none => none
    match x with
    | some x => if x < s.nextEdge then s.endAt d p x else s
    | none => s

/-- COMMAND_RETIRE (R285). -/
def State.commandRetire (s : State) (c : Cmd) : State := match c.part with
  | some p => if c.began.isSome then s.partRetire c p else s
  | none => match c.due with
    | some t => if t < s.nextEdge then
        (let s := s.advance t
         if 0x3000 ≤ c.status then s.meetFault c else s.retireNow c)
      else s
    | none => s

def execCommandRetire (c : CmdId) (s : State) : Host.Outcome State Fault Refusal :=
  .next (match s.findCmd c.queue.val c.seq with
    | some d => s.commandRetire d
    | none => s)

/-- The remaining count of a command at the deadline edge (R48); none where neither its parameters nor the plan fix it. -/
def State.remaining (s : State) (c : Cmd) : Option Nat := match c.part with
  | none => some (match c.began, c.due with
    | some _, some d => d - s.now
    | some _, none => 0
    | none, _ => 1)
  | some p => match c.began with
    | some _ =>
      if c.op = 3 then
        (let l := (s.others c p).map fun d => s.staticEnd d p
         if l.all Option.isSome then some (max ((l.filterMap id).foldl max (s.part p).run.lastEnd + 1 - s.now) 1) else none)
      else (s.staticEnd c p).map fun d => d - s.now
    | none =>
      if opWide c.op then
        (let d := { c with began := some s.now, ran := false, due := none, status := 0, detail := 0, step := s.get .PART_STEP_STEP p }
         ((s.modRun p fun r => { r with wide := none }).wideEnd d p).map fun x => x - s.now)
      else if c.op = 0x401 ∨ c.op = 0x402 then some 4
      else if c.op = 0x202 ∧ c.route.dispatch = false then some 41
      else match s.plannedStart c p, s.plannedEnd c p with
        | some a, some b => some (b + 1 - a)
        | _, _ => some 1

/-- DEADLINE_MISS (R48): the command has not finished at its deadline edge. Where nothing fixes the remaining count, it is a
free value (log entry 30). A speculative command's is held in its slot (R216). -/
def State.deadlineMiss (s : State) (c : Cmd) : State :=
  let x : Nat × State := match s.remaining c with
    | some n => (n, s)
    | none => s.draw
  let n := min x.1 0x7FFFFFFF
  let s := x.2
  let detail := n % 2 ^ 32 + s.reelCount % 2 ^ 32 * 2 ^ 32
  match c.part, s.pendingSlot c with
  | some p, none => s.abortTask p (some c)
      (fun d => if d.queue = c.queue ∧ d.seq = c.seq then (0x3001, detail) else (0x4000, 0)) (some (-(n : Int))) 0x3001 true
  | some p, some _ => if c.op = 0x101 ∧ c.began.isSome = true then s.specStop c p 0x3001 detail else s.fault c 0x3001 detail
  | none, _ => s.finish c 0x3001 detail (-(n : Int))

/-- The command is unfinished at the edge of its deadline frame; a fault that its slot holds has not stopped it (R48, R216). -/
def State.missed (s : State) (c : Cmd) : Bool :=
  s.atEdge && (match s.deadlineCycle c with
    | some d => decide (d ≤ (s.now : Int))
    | none => false) && (match c.due with
    | some t => decide (s.now < t)
    | none => true) && !((s.pendingSlot c).isSome && decide (0x3000 ≤ c.status))

/-- The oldest command of a task that misses its deadline at this edge, no slot holding its fault (R295). -/
def State.oldestMiss (s : State) (p : Nat) (c : Cmd) : Cmd :=
  if (s.pendingSlot c).isSome then c
  else match (sortCmds (s.cmds.filter fun d => d.part == some p && d.batch == c.batch && s.missed d && (s.pendingSlot d).isNone)).head? with
    | some d => d
    | none => c

/-- DEADLINE_MISS of a command of a task: everything up to this edge is done first; the oldest command that faults in this cycle is the
one that ends the task (R48, R295). -/
def State.partMiss (s : State) (c : Cmd) (p : Nat) : State :=
  let t := s.catchUp p s.now
  match t.findCmd c.queue c.seq with
  | none => t
  | some d =>
    if t.missed d = false then s
    else
      let y := t.oldestMiss p d
      match t.firstFault p t.now with
      | some f => if f.1 < t.now ∨ f.2.before y = true then t.meetFault f.2 else t.deadlineMiss y
      | none => t.deadlineMiss y

def execDeadlineMiss (c : CmdId) (s : State) : Host.Outcome State Fault Refusal :=
  .next (match s.findCmd c.queue.val c.seq with
    | some d =>
      if s.missed d then
        match d.part with
        | some p => s.partMiss d p
        | none => s.deadlineMiss d
      else s
    | none => s)

/-- NOP (R286): it does nothing. -/
def execNop (c : CmdId) (s : State) : Host.Outcome State Fault Refusal :=
  .next (match s.ready c 0 with
    | some d => s.done d (d.t0 + 1) 0 0
    | none => s)

/-- FENCE_WAIT (R290): its waits held as it began; it retires in the next cycle. -/
def execFenceWait (c : CmdId) (s : State) : Host.Outcome State Fault Refusal :=
  .next (match s.ready c 1 with
    | some d => s.done d (d.t0 + 1) 0 0
    | none => s)

/-- FENCE_SIGNAL (R289): its change is applied in its retirement cycle, the one after its begin (State.signals). -/
def execFenceSignal (c : CmdId) (s : State) : Host.Outcome State Fault Refusal :=
  .next (match s.ready c 2 with
    | some d => s.done d (d.t0 + 1) 0 0
    | none => s)

/-- BARRIER (R286); in a PF queue it retires in the cycle after it begins. -/
def execBarrier (c : CmdId) (s : State) : Host.Outcome State Fault Refusal :=
  .next (match s.ready c 3 with
    | some d => match d.part with
      | some p => s.barrier d p
      | none => s.done d (d.t0 + 1) 0 0
    | none => s)

/-- FORECAST (R356): the segment applies from the edge of frame anchor + FRAME. -/
def State.forecast (s : State) (c : Cmd) (p : Nat) : State :=
  let q := c.forecastP
  let a := match (s.taskOf c) with
    | some t => match t.anchor with
      | some f => f
      | none => 0
    | none => 0
  (s.modRun p fun r => { r with sum := { r.sum with nextSegment := r.sum.nextSegment ++ [(q.1, a + q.2)] } }).done c (c.t0 + 1) 0 0

def execForecast (c : CmdId) (s : State) : Host.Outcome State Fault Refusal :=
  .next (match s.ready c 0x500 with
    | some d => match d.part with
      | some p => s.forecast d p
      | none => s
    | none => s)

/-- FORECAST is refused if its segment does not exist (R356). -/
def Part.forecastBad (x : Part) (c : Cmd) : Bool := decide (x.taskSlotOf.segments.length ≤ c.forecastP.1)

/-- FORECAST is refused if its edge is not later than the edge of the frame in which it begins (R356). -/
def State.forecastRefused (s : State) (c : Cmd) : Bool := match s.taskOf c with
  | some t => match t.anchor with
    | some f => decide (f + c.forecastP.2 ≤ s.clock.frameNo)
    | none => true
  | none => true

end Sys2Proof.Machine
end

