-- ==== Sys2Proof/Machine/Parts.lean ====
section
/-! DEFINITION. Partitions: binding, reset, FLR, destroy, resize, remap, and the end of a core's clearing (R136, R154, R304 to
R319, R324, R325, R370, R371, R413, R416, R417). -/

namespace Sys2Proof.Machine

/-- The value of a register's fields together. -/
def State.regOf (s : State) (fs : List Field) (i : Nat) : Nat := sumN (fs.map fun f => s.get f i * 2 ^ f.lo)

/-- PART[p]_PAGES[0] to [71]. -/
def State.descPages (s : State) (p : Nat) : List Nat := (List.range 72).map fun k => s.get .PART_PAGES_CODES (p * 72 + k)

/-- BASE and COUNT of PART[p]_QUEUES and PART[p]_FENCES. -/
def State.descQueues (s : State) (p : Nat) : Nat × Nat := (s.get .PART_QUEUES_BASE p, s.get .PART_QUEUES_COUNT p)
def State.descFences (s : State) (p : Nat) : Nat × Nat := (s.get .PART_FENCES_BASE p, s.get .PART_FENCES_COUNT p)

/-- The shape that parameters and the descriptor registers give (R305); RO fields are taken as zero (R306). -/
def State.newShape (s : State) (p : Nat) (b : Bytes) : Shape :=
  let q := partOf b
  { lcores := q.lcores
    spares := q.spares
    positions := q.positions.take (q.lcores + q.spares)
    gen := q.gen
    digest := q.digest
    ertBase := q.ertBase
    ertCount := q.ertCount
    sparse := s.regOf [.PART_SPARSE_MERGE_MAX_ROWS, .PART_SPARSE_DROP_LIMIT, .PART_SPARSE_DROP_FAULT_EN] p
    stage := s.regOf [.PART_STAGE_BASE_ROW, .PART_STAGE_BUF_ROWS, .PART_STAGE_BUF_COUNT] p
    bridle := s.regOf [.PART_BRIDLE_READ, .PART_BRIDLE_WRITE, .PART_BRIDLE_REMOTE] p
    quota := s.get .PART_CMD_QUOTA p
    ports := s.get .PART_PORTS_PORTS p
    bursts := s.get .PART_HBM_SHARE_BURSTS p
    pages := s.descPages p
    params := b }

/-- The binding record: 831 bytes (R306). -/
def bindingRecord (v : Shape) (queues fences : Nat × Nat) : Bytes :=
  let b := fitBytes 256 v.params
  (b.drop 28).take 1 ++ (b.drop 30).take 2 ++ (b.drop 36).take 28 ++ b.drop 96 ++
  ([v.sparse, v.bridle, v.stage, v.quota, queues.1 + queues.2 * 2 ^ 32, fences.1 + fences.2 * 2 ^ 32, v.ports, v.bursts].flatMap
    fun x => natLE 8 x) ++ v.pages.flatMap fun x => natLE 8 x

/-- Two ranges have a number in common. -/
def rangesMeet (a b : Nat × Nat) : Bool := decide (a.1 < b.1 + b.2) && decide (b.1 < a.1 + a.2) && decide (0 < a.2) && decide (0 < b.2)

/-- Lanes that a shape holds on every link direction (R154). -/
def Shape.lanes (v : Shape) : Nat := bits v.bridle 8 0 + bits v.bridle 24 16 + bits v.bridle 40 32

/-- Shapes in force of the other created partitions, with their numbers. -/
def State.otherShapes (s : State) (p : Nat) : List (Nat × Shape) :=
  (List.range 16).filterMap fun k => if k ≠ p ∧ s.created k = true then (s.part k).bind.shape.map fun v => (k, v) else none

/-- Queue and fence ranges in force of the other created partitions. -/
def State.otherBinds (s : State) (p : Nat) : List PartBind :=
  ((List.range 16).filter fun k => k != p && s.created k).map fun k => (s.part k).bind

/-- The first listed position that check 0x05 does not allow. -/
def State.badPosition (s : State) (p : Nat) (l : List Nat) : Option Nat :=
  ((enumFrom 0 l).find? fun x =>
    decide (95 < x.2) || (l.take x.1).contains x.2 || s.get .CORE_BIND_DISABLED x.2 == 1 || s.get .CORE_BIND_FENCED x.2 == 1 ||
    (match s.boundTo x.2 with
     | some k => k != p
     | none => false)).map Prod.snd

/-- The code of page g in a list of PAGES values. -/
def codeOf (pages : List Nat) (g : Nat) : Nat := bits (pages.getD (g / 32) 0) (2 * (g % 32) + 1) (2 * (g % 32))

/-- Page g awaits its clearing: it counts as private to another partition (R417). -/
def State.pageBusy (s : State) (g : Nat) : Bool :=
  s.carrier.clearing.contains g || Tab.get none s.carrier.active (g / 48) == some (g % 48)

/-- The first page that check 0x09 does not allow. -/
def State.badPage (s : State) (p : Nat) (pages : List Nat) : Option Nat :=
  (List.range 2304).find? fun g =>
    let k := codeOf pages g
    let o := (s.otherShapes p).map fun v => codeOf v.2.pages g
    k == 3 || (k == 1 && (o.any (· != 0) || s.pageBusy g)) || (k == 2 && (o.any (· == 1) || s.pageBusy g))

/-- One binding check: its code, with the position or port and the page that fail it. -/
def failIf (b : Bool) (code : Nat) : Option (Nat × Nat × Nat) := if b then some (code, 0, 0) else none

/-- The binding checks in order (Table 14-3); `again` is the check at the edge at which a resize would take effect (R319). -/
def State.checkBind (s : State) (p : Nat) (v : Shape) (resize again : Bool) : Option (Nat × Nat × Nat) :=
  let q := s.descQueues p
  let f := s.descFences p
  let o := s.otherShapes p
  let b := s.otherBinds p
  let pool := bits v.stage 13 0 + bits v.stage 29 16 * bits v.stage 39 32
  [failIf (s.created p != resize) 1,
   failIf (v.gen != (s.get .PART_STATE_GEN p + 1) % 2 ^ 32) 2,
   failIf (sha256 (bindingRecord v q f) != v.digest) 3,
   failIf (!(decide (1 ≤ v.lcores) && decide (v.lcores ≤ 96) && decide (v.spares ≤ 8) && decide (v.lcores + v.spares ≤ s.fuses.enabled))) 4,
   (s.badPosition p v.positions).map fun n => (5, n, 0),
   failIf (decide (368 < v.lanes + sumN (o.map fun x => x.2.lanes))) 6,
   failIf (decide (125 < v.bursts + sumN (o.map fun x => x.2.bursts))) 7,
   ((List.range 64).find? fun n => v.ports.testBit n && o.any fun x => x.2.ports.testBit n).map fun n => (8, n, 0),
   (s.badPage p v.pages).map fun g => (9, 0, g),
   failIf (decide (16384 < q.1 + q.2) || decide (4096 < q.2) || b.any fun x => rangesMeet q x.queues) 10,
   failIf (decide (32768 < f.1 + f.2) || decide (16384 < f.2) || b.any fun x => rangesMeet f x.fences) 11,
   failIf (decide (262144 < v.ertBase + v.ertCount) || o.any fun x => rangesMeet (v.ertBase, v.ertCount) (x.2.ertBase, x.2.ertCount)) 12,
   failIf (decide (16384 < pool)) 13,
   failIf (!again && (s.get .PART_STATE_RESIZE_ARMED p == 1 || s.get .PART_MODE_ACK p == 1 || s.get .PART_MODE_ACK p == 3)) 14].findSome? id

/-- The Detail of a failed check (R307). -/
def checkDetail (x : Nat × Nat × Nat) : Nat := x.1 + x.2.1 % 256 * 2 ^ 8 + x.2.2 % 65536 * 2 ^ 16

/-- A PF command that has failed its checks ends with CONFIG_INVALID, LAST_CHECK keeping the code (R307). -/
def State.failCheck (s : State) (c : Cmd) (p : Nat) (x : Nat × Nat × Nat) : State :=
  (s.put .PART_STATE_LAST_CHECK p x.1).abort c 0x3000 (checkDetail x)

/-- Lane ranges of the created partitions, in ascending order (R153, R309). -/
def State.rebase (s : State) : State :=
  ((List.range 16).foldl (fun (a : State × Nat) p => match (s.part p).bind.shape with
    | some v => ((a.1.put .PART_BRIDLE_BASE p a.2).put .PART_BRIDLE_BOUND p 1, a.2 + v.lanes)
    | none => ((a.1.put .PART_BRIDLE_BASE p 0).put .PART_BRIDLE_BOUND p 0, a.2)) (s, 0)).1

/-- The Core Map of a shape is recorded (R308, R327). -/
def State.bindCores (s : State) (p : Nat) (v : Shape) : State :=
  (enumFrom 0 v.positions).foldl (fun (s : State) x =>
    (((s.put .CORE_BIND_BOUND x.2 1).put .CORE_BIND_SPARE x.2 (nat01 (decide (v.lcores ≤ x.1)))).put .CORE_BIND_PART x.2 p).put
      .CORE_BIND_SLOT x.2 x.1) s

/-- A position belongs to no partition any more. -/
def State.freeCore (s : State) (n : Nat) : State :=
  (((s.put .CORE_BIND_BOUND n 0).put .CORE_BIND_SPARE n 0).put .CORE_BIND_PART n 0).put .CORE_BIND_SLOT n 0

/-- A shape is in force: SHAPE, GEN, the ERT range, the staging pool and the lane ranges (R308, R309). -/
def State.putShape (s : State) (p : Nat) (v : Shape) : State :=
  let s := s.modBind p fun b => { b with shape := some v, queues := s.descQueues p, fences := s.descFences p }
  let s := s.bindCores p v
  let s := ((s.put .PART_SHAPE_LCORES p v.lcores).put .PART_SHAPE_SPARES p v.spares).put .PART_STATE_GEN p v.gen
  let s := ((s.put .PART_ERT_BASE p v.ertBase).put .PART_ERT_COUNT p v.ertCount).put .PART_STAGE_SPEC_MAX p (bits v.stage 39 32 / 4)
  s.rebase

/-- Every program slot of a partition is empty; SERIAL stays (R311, R325). -/
def State.emptySlots (s : State) (p : Nat) : State := (List.range 32).foldl (fun (s : State) h => s.clearSlot p h) s

/-- STATE, LCORES and PERIOD of a program slot, at their places in PROG_STAT. -/
def State.slotStat (s : State) (p h : Nat) : Nat :=
  s.regOf [.PART_PROG_STAT_STATE, .PART_PROG_STAT_LCORES, .PART_PROG_STAT_PERIOD] (progIdx p h)

/-- Slots of a partition that are not empty (R325). -/
def State.fullSlots (s : State) (p : Nat) : List Nat := (List.range 32).filter fun h => s.get .PART_PROG_STAT_STATE (progIdx p h) != 0

/-- Slots whose rebinding is still to be done (R312). -/
def State.unboundSlots (s : State) (p : Nat) : List Nat :=
  (List.range 32).filter fun h => s.get .PART_PROG_STAT_STATE (progIdx p h) == 1 && !((s.part p).slot h).pending

/-- A retained slot returns in its retained state, without binding (R325). -/
def State.restoreSlot (s : State) (p h : Nat) (v : Slot) (stat : Nat) : State :=
  let i := progIdx p h
  (((s.setSlot p h v).put .PART_PROG_STAT_STATE i (bits stat 2 0)).put .PART_PROG_STAT_LCORES i (bits stat 14 8)).put
    .PART_PROG_STAT_PERIOD i (bits stat 18 16)

/-- A fresh key-import key pair, its public half published (R413). -/
def State.freshKeys (s : State) (p : Nat) : State :=
  let d := s.draw
  let s := d.2.modPart p fun x => { x with keys := { x.keys with secret := some d.1 } }
  let k := publicKey d.1
  (List.range 12).foldl (fun (s : State) i => s.putA .PART_KEY_PUB_KEY (p * 12 + i) (u64 k (8 * i))) s

/-- Every key slot and the key-import key pair are erased (R416). -/
def State.eraseKeys (s : State) (p : Nat) : State :=
  let s := s.modPart p fun x => { x with keys := { x.keys with keys := [], secret := none } }
  let s := (List.range 12).foldl (fun (s : State) i => s.putA .PART_KEY_PUB_KEY (p * 12 + i) 0) s
  s.put .PART_KEY_STAT_LOADED p 0

/-- A bind takes effect (R308): CLEARING, GEN, the positions' clearing, the Core Map, the resources; a warm one restores the
retained slots (R325), and its view of the book starts empty (R399). -/
def State.create (s : State) (c : Cmd) (p : Nat) (v : Shape) : State :=
  let s := s.put .PART_STATE_STATE p 1
  let s := v.positions.foldl (fun (s : State) n => s.clearCore n 1) s
  let s := s.putShape p v
  let s := s.emptySlots p
  let s := match (s.part p).bind.retained with
    | some (d, l) => if (partOf v.params).warm = true ∧ d = v.digest then
        l.foldl (fun (s : State) (x : Nat × Slot × Nat) => s.restoreSlot p x.1 x.2.1 x.2.2) s else s
    | none => s
  let s := (s.put .PART_STATE_RETAINED p 0).modBind p fun b => { b with retained := none, ending := [1], waiter := none, readyAt := none, rebinds := s.unboundSlots p }
  let s := ({ s with book := { s.book with views := Tab.put View.init s.book.views p View.init } }).putA .VFLOG_SEQ_PSEQ p 0
  (s.freshKeys p).done c s.now 0 0

/-- A PF command that began before this edge, whose edge has come (R307). -/
def State.atItsEdge (s : State) (c : CmdId) (op : Nat) : Option Cmd :=
  match s.ready c op with
  | some d => if s.atEdge = true ∧ d.t0 < s.now then some d else none
  | none => none

/-- PART_CREATE (R305 to R308). -/
def execPartCreate (c : CmdId) (s : State) : Host.Outcome State Fault Refusal :=
  .next (match s.atItsEdge c 0x600 with
    | some d =>
      let p := d.partP.part
      let v := s.newShape p d.bytes
      match s.checkBind p v false false with
      | some x => s.failCheck d p x
      | none => s.create d p v
    | none => s)

/-- A resize is armed, and its command retires (R318). -/
def State.armResize (s : State) (c : Cmd) (p : Nat) (v : Shape) : State :=
  let s := s.put .PART_STATE_RESIZE_ARMED p 1
  let s := if s.get .PART_STATE_STATE p = 1 then s else s.put .PART_STATE_STATE p 4
  (s.modBind p fun b => { b with armed := some v, readyAt := some (s.clock.frameNo + 1) }).done c s.now 0 0

/-- PART_RESIZE (R307, R318). -/
def execPartResize (c : CmdId) (s : State) : Host.Outcome State Fault Refusal :=
  .next (match s.atItsEdge c 0x601 with
    | some d =>
      let p := d.partP.part
      let v := s.newShape p d.bytes
      match s.checkBind p v true false with
      | some x => s.failCheck d p x
      | none => s.armResize d p v
    | none => s)

/-- Pages whose last mapping ends when a partition's codes change from `old` to `new`: private ones, and shared ones that no other
partition maps, which are free once the commands that used them have ended (R203, R417). A page that becomes shared keeps its
contents. -/
def State.releasePages (s : State) (p : Nat) (old new : List Nat) : State :=
  (List.range 2304).foldl (fun (s : State) g =>
    let a := codeOf old g
    let b := codeOf new g
    if a = 1 ∧ b = 0 then s.queuePage g
    else if a = 2 ∧ b = 0 ∧ ((s.otherShapes p).any fun v => codeOf v.2.pages g == 2) = false then s.unmapPage g
    else s) s

/-- Slots of a partition that a rebind binds again: READY and UNFIT, ascending (R312). -/
def State.boundSlots (s : State) (p : Nat) : List Nat :=
  (List.range 32).filter fun h => s.get .PART_PROG_STAT_STATE (progIdx p h) == 2 || s.get .PART_PROG_STAT_STATE (progIdx p h) == 3

/-- Slots await rebinding, `first` ones before the others; they read as loading (R312, R370). -/
def State.rebindSlots (s : State) (p : Nat) (first : List Nat) : State :=
  let l := first ++ (s.boundSlots p).filter fun h => !first.contains h
  let s := l.foldl (fun (s : State) h => s.put .PART_PROG_STAT_STATE (progIdx p h) 1) s
  s.modBind p fun b => { b with rebinds := l, firstBound := l.isEmpty }

/-- A resize takes effect (R318): released positions are cleared and freed, added ones cleared, then the new shape. -/
def State.resize (s : State) (p : Nat) (v : Shape) : State :=
  let old := (s.part p).positions
  let pages := match (s.part p).bind.shape with
    | some u => u.pages
    | none => []
  let gone := old.filter fun n => !v.positions.contains n && s.boundTo n == some p
  let added := v.positions.filter fun n => !old.contains n
  let s := gone.foldl (fun (s : State) n => (s.clearCore n 1).freeCore n) s
  let s := added.foldl (fun (s : State) n => s.clearCore n 1) s
  let s := (s.putShape p v).releasePages p pages v.pages
  let s := (s.put .PART_STATE_STATE p 1).put .PART_STATE_RESIZE_ARMED p 0
  let s := s.modBind p fun b => { b with armed := none, remap := b.remap.filter fun x => x.2.2, ending := 5 :: b.ending, readyAt := none }
  s.rebindSlots p (s.part p).bind.rebinds

/-- An armed resize is cancelled (R315, R319). -/
def State.cancelResize (s : State) (p : Nat) : State :=
  let s := (s.put .PART_STATE_RESIZE_ARMED p 0).modBind p fun b => { b with armed := none }
  s.partEvent .VFEVT_STAT_RESIZE_CANCELLED p

/-- RESIZE_EFFECT (R318, R319): the first edge after the last task on the old shape. -/
def State.resizeEffect (s : State) (p : Nat) (b : Bytes) : State :=
  let v := s.newShape p b
  match s.checkBind p v true true with
  | some x => ((s.put .PART_STATE_LAST_CHECK p x.1).put .PART_STATE_STATE p 2).cancelResize p
  | none => s.resize p v

/-- The edge recorded for a change of a partition has come. -/
def State.partDue (s : State) (p : Nat) : Bool := s.atEdge && (match (s.part p).bind.readyAt with
  | some f => decide (f ≤ s.clock.frameNo)
  | none => true)

def execResizeEffect (p : Fin 16) (s : State) : Host.Outcome State Fault Refusal :=
  .next (match (s.part p.val).bind.armed with
    | some v =>
      if s.partDue p.val = true ∧ s.get .PART_STATE_STATE p.val = 4 ∧ (s.part p.val).run.task = none ∧ (s.part p.val).run.next = none then
        s.resizeEffect p.val v.params else s
    | none => s)

/-- The next task of a partition that is reset ends with its commands; what has not been fetched of it belongs to no task
(R315). -/
def State.resetNext (s : State) (p : Nat) (records : Bool) : State :=
  match (s.part p).run.next with
  | none => s
  | some t =>
    let s := (s.taskCmds p t.batch).foldl (fun (s : State) c => if records then s.finish c 0x4001 0 2147483647 else s.dropCmd c) s
    (s.modRun p fun r => { r with next := none }).showTask p

/-- What PART_RESET, an FLR and PART_DESTROY do at their edge (R315): commands end, prediction slots settle, buffers are FREE,
positions are cleared, an armed resize and an acknowledgement fall. -/
def State.resetPart (s : State) (p cause : Nat) (records : Bool) : State :=
  let s := s.abortTask p none (fun _ => (0x4001, 0)) none 0x4001 records
  let s := (s.resetNext p records).dropStreams p
  let s := ((s.part p).positions.filter fun n => s.boundTo n == some p).foldl (fun (s : State) n => s.clearCore n cause) s
  let s := s.put .PART_STATE_STATE p 1
  let s := if s.get .PART_STATE_RESIZE_ARMED p = 1 then s.cancelResize p else s
  if s.get .PART_MODE_ACK p = 1 then s.put .PART_MODE_ACK p 3 else s

/-- A command waits for the end of the change that it makes. -/
def State.await (s : State) (c : Cmd) (p ending : Nat) : State :=
  (s.setCmd { c with ran := true }).modBind p fun b => { b with waiter := some (c.queue, c.seq), ending := ending :: b.ending }

/-- The command that waits for a partition's change retires in this cycle. -/
def State.doneWaiter (s : State) (p : Nat) : State := match (s.part p).bind.waiter with
  | some (q, n) =>
    let s := s.modBind p fun b => { b with waiter := none }
    (match s.findCmd q n with
     | some c => s.done c s.now 0 0
     | none => s)
  | none => s

/-- PART_RESET (R307, R315). -/
def execPartReset (c : CmdId) (s : State) : Host.Outcome State Fault Refusal :=
  .next (match s.atItsEdge c 0x603 with
    | some d =>
      let p := d.partArg
      if s.created p then (s.resetPart p 2 true).await d p 2 else s.failCheck d p (1, 0, 0)
    | none => s)

/-- PART_DESTROY begins its clearing; the keys are erased and the journal ends (R324, R339, R416). -/
def State.destroy (s : State) (c : Cmd) (p : Nat) : State :=
  let s := ((s.resetPart p 1 true).eraseKeys p).journalSwitchOn p false 0 0 none
  (s.modBind p fun b => { b with retain := c.retain }).await c p 4

/-- PART_DESTROY (R307, R324). -/
def execPartDestroy (c : CmdId) (s : State) : Host.Outcome State Fault Refusal :=
  .next (match s.atItsEdge c 0x602 with
    | some d => if s.created d.partArg then s.destroy d d.partArg else s.failCheck d d.partArg (1, 0, 0)
    | none => s)

/-- A destroyed partition becomes FREE at the first edge after its clearing (R324, R325). -/
def State.releasePart (s : State) (p : Nat) : State :=
  let b := (s.part p).bind
  let kept := (s.fullSlots p).map fun h => (h, (s.part p).slot h, s.slotStat p h)
  let s := match b.shape with
    | some v =>
      let s := v.positions.foldl (fun (s : State) n => if s.boundTo n = some p then s.freeCore n else s) s
      (if b.retain then (s.put .PART_STATE_RETAINED p 1).modBind p fun b => { b with retained := some (v.digest, kept) } else s)
    | none => s
  let s := s.emptySlots p
  let s := (s.put .PART_SHAPE_LCORES p 0).put .PART_SHAPE_SPARES p 0
  let s := ((s.put .PART_ERT_BASE p 0).put .PART_ERT_COUNT p 0).put .PART_STAGE_SPEC_MAX p 0
  let s := (s.put .PART_STATE_STATE p 0).modBind p fun b =>
    { b with shape := none, armed := none, queues := (0, 0), fences := (0, 0), ending := [], retain := false, remap := [], rebinds := [],
             readyAt := none, firstBound := false }
  let s := match b.shape with
    | some v => s.releasePages p v.pages []
    | none => s
  s.rebase.doneWaiter p

/-- A queue's counters are 0, as when its ENABLE takes effect (R270). -/
def State.restartQueue (s : State) (q : Nat) : State :=
  let s := (((s.put .QTAB_DB_TAIL q 0).put .QTAB_DB_CPL_HEAD q 0).put .QTAB_PTR_FETCH q 0).put .QTAB_PTR_CPL_TAIL q 0
  s.setQueue q { s.queueSt q with ord := 0 }

/-- FLR (R316): it takes effect at the next edge; a VF that is not enabled has none. -/
def execFlr (p : Fin 16) (s : State) : Host.Outcome State Fault Refusal :=
  .next (if s.vfs.contains p.val then s.atNextEdge (.flr p.val) else s)

/-- An FLR at its edge (R316, R413, R416): R315 without records, fences 0, counters restarted, fresh keys, MSI-X reset. -/
def State.flrEdge (s : State) (p : Nat) : State :=
  let s := s.setMsix (p + 1) Msix.init
  if s.created p = false then s
  else
    let s := s.resetPart p 2 false
    let s := { s with recs := s.recs.filter fun r => r.part != some p }
    let f := (s.part p).bind.fences
    let q := (s.part p).bind.queues
    let s := { s with fences := s.fences.filter fun u => !(decide (f.1 ≤ u.fence) && decide (u.fence < f.1 + f.2)) }
    let s := (List.range f.2).foldl (fun (s : State) i => s.put .FENCE_VALUE_VALUE (f.1 + i) 0) s
    let s := (List.range q.2).foldl (fun (s : State) i => s.restartQueue (q.1 + i)) s
    let s := ((s.eraseKeys p).freshKeys p).journalSwitchOn p false 0 0 none
    s.modBind p fun b => { b with ending := 3 :: b.ending }

/-- A position bound to partition p is being cleared. -/
def State.partClearing (s : State) (p : Nat) : Bool := (s.part p).positions.any fun n => s.boundTo n == some p && s.clearing n

/-- Detail of a BIST_RUN that has ended (R383). -/
def State.bistDetail (s : State) (n : Nat) : Nat :=
  s.get .CORE_BIST_RESULT n + s.get .CORE_BIST_VMIN n * 2 ^ 8 + s.get .CORE_BIST_MICROCODE n * 2 ^ 16

/-- A BIST_RUN retires as the clearing of its position ends (R383). -/
def State.bistCleared (s : State) (n : Nat) : State :=
  match s.bists.find? fun b => b.position == n && b.done with
  | some b =>
    let s := ({ s with bists := s.bists.filter fun x => x.position != n }).put .CORE_BIST_BUSY n 0
    (match s.findCmd b.queue b.seq with
     | some c => s.done c s.now 0 (s.bistDetail n)
     | none => s)
  | none => s

/-- The command that waits for partition p's change is a PART_RESET. -/
def State.resetWaits (s : State) (p : Nat) : Bool := match (s.part p).bind.waiter with
  | some (q, n) => match s.findCmd q n with
    | some c => c.op == 0x603
    | none => false
  | none => false

/-- PART_RESET retires in the cycle in which the last core's clearing ends (R315). -/
def State.resetCleared (s : State) (n : Nat) : State := match s.boundTo n with
  | some p => if s.resetWaits p = true ∧ s.partClearing p = false then s.doneWaiter p else s
  | none => s

/-- TMEM_CLEAR_DONE (R136, R137): the clearing of core position n ends, 5,478 cycles after it began. -/
def execTmemClearDone (n : Fin 96) (s : State) : Host.Outcome State Fault Refusal :=
  .next (match (s.core n.val).clearing with
    | some e => if e < s.nextEdge then ((((s.advance e).endClear n.val).resetCleared n.val).bistCleared n.val) else s
    | none => s)

/-- The parameters with the positions and counts of a changed shape, which the recomputed binding record takes (R370, R381). -/
def Shape.reparam (v : Shape) : Shape :=
  let b := fitBytes 256 v.params
  let pos := (List.range 96).map fun i => BitVec.ofNat 8 (v.positions.getD i 0xFF)
  { v with params := b.take 30 ++ [BitVec.ofNat 8 v.lcores, BitVec.ofNat 8 v.spares] ++ (b.drop 32).take 64 ++ pos ++ b.drop 192 }

/-- A changed shape is in force with its recomputed digest (R370, R381). -/
def State.reshape (s : State) (p : Nat) (v : Shape) : State :=
  let v := v.reparam
  let b := (s.part p).bind
  let v := { v with digest := sha256 (bindingRecord v b.queues b.fences) }
  (s.modBind p fun b => { b with shape := some v }).put .PART_SHAPE_SPARES p v.spares

/-- The spare that a remap takes: by its index, or the lowest free one (R370, R382). -/
def State.pickSpare (s : State) (p spare : Nat) : Option Nat :=
  ((s.freeSpares p).find? fun x => spare == 0xFF || x.1 == spare).map Prod.snd

/-- Steps 1 to 6 of a remap of logical core lc onto position n (R370). -/
def State.remapTo (s : State) (p lc n : Nat) (v : Shape) : State :=
  let old := v.positions.getD lc 0xFF
  let s := if s.boundTo old = some p then (s.put .CORE_BIND_FENCED old 1).put .CORE_BIND_BOUND old 0 else s
  let s := (s.put .CORE_BIND_SPARE n 0).put .CORE_BIND_SLOT n lc
  let g := (s.get .PART_STATE_GEN p + 1) % 2 ^ 32
  let pos := (v.positions.take v.lcores).set lc n ++ (v.positions.drop v.lcores).filter (· != n)
  let s := (s.put .PART_STATE_GEN p g).reshape p { v with gen := g, spares := v.spares - 1, positions := pos }
  let s := s.put .PWR_DOM_STAT_SETPOINT n (s.get .PWR_DOM_STAT_SETPOINT old)
  let s := (s.inc .PART_RECOVER_REMAPS p 1).event 0xA001 n lc
  let s := s.rebindSlots p (s.part p).bind.rebinds
  let s := if s.get .PART_STATE_STATE p = 1 then s
    else (s.put .PART_STATE_STATE p 4).modBind p fun b => { b with ending := 6 :: b.ending }
  s.journalSwitch p 0 0 2 g (match (s.part p).bind.shape with
    | some u => u.digest
    | none => [])

/-- A remap that can no longer be made is dropped, and a command that waits for it ends with CONFIG_INVALID. -/
def State.dropRemap (s : State) (p : Nat) : State := match (s.part p).bind.waiter with
  | some (q, n) => match s.findCmd q n with
    | some c => if c.op = 0x606 ∨ c.op = 0x607 then (s.modBind p fun b => { b with waiter := none }).abort c 0x3000 0 else s
    | none => s
  | none => s

/-- REMAP (R370, R381, R382): at the edge after the fault, or the first one at which the partition runs no task. -/
def State.remap (s : State) (p : Nat) (x : Nat × Nat × Bool) (r : List (Nat × Nat × Bool)) : State :=
  let s := (s.modBind p fun b => { b with remap := r }).mark (s.part p).bind.rehearsal
  let s := match (s.part p).bind.shape, s.pickSpare p x.2.1 with
    | some v, some n => if x.1 < v.lcores then s.remapTo p x.1 n v else s.dropRemap p
    | _, _ => s.dropRemap p
  (s.modBind p fun b => { b with rehearsal := false }).mark false

def execRemap (p : Fin 16) (s : State) : Host.Outcome State Fault Refusal :=
  .next (match (s.part p.val).bind.remap with
    | x :: r =>
      if s.partDue p.val = true ∧ (x.2.2 = false ∨ ((s.part p.val).run.task = none ∧ (s.part p.val).run.next = none)) then s.remap p.val x r else s
    | [] => s)

/-- A partition's change at a frame edge (R304, R308, R315, R318, R324, R370): clearing has ended, the first slot of a remap has
bound, or a task has ended with none following. -/
def State.edgePart (s : State) (p : Nat) : State :=
  let b := (s.part p).bind
  let st := s.get .PART_STATE_STATE p
  let idle := if b.armed.isSome then 4 else 2
  if st = 1 then
    (if s.partClearing p = true ∨ (b.ending.contains 5 = true ∧ b.rebinds.isEmpty = false) then s
     else if b.ending.contains 4 then s.releasePart p
     else
       let s := (s.put .PART_STATE_STATE p idle).modBind p fun b =>
         { b with ending := [], readyAt := (if b.armed.isSome then some (s.clock.frameNo + 1) else b.readyAt) }
       let s := if b.remap.isEmpty ∨ s.resetWaits p = true then s.doneWaiter p else s
       let s := if b.ending.contains 2 ∨ b.ending.contains 3 then s.partEvent .VFEVT_STAT_RESET_DONE p else s
       if b.ending.contains 5 then s.partEvent .VFEVT_STAT_RESIZED p else s)
  else if st = 4 ∧ b.ending.contains 6 then
    (if b.firstBound then ((s.put .PART_STATE_STATE p idle).modBind p fun b => { b with ending := [] }).doneWaiter p else s)
  else if st = 3 ∧ (s.part p).run.task = none then s.put .PART_STATE_STATE p 2
  else s

end Sys2Proof.Machine
end

