-- ==== Sys2Proof/Machine/Mode.lean ====
section
/-! DEFINITION. Mode changes: preparation, acknowledgement, decision, switch (R257, R320 to R323, R352, R353, R355). -/

namespace Sys2Proof.Machine

/-- The partitions of a mask. -/
def maskParts (m : Nat) : List Nat := (List.range 16).filter fun p => m.testBit p

/-- MODE_PREPARE is refused (R320, R321): another code, or a change already prepared. -/
def State.modePrepareRefused (s : State) (c : Cmd) : Bool :=
  !(decide (1 ≤ c.modeP.1) && decide (c.modeP.1 ≤ 3)) || s.mode.isSome

/-- MODE_PREPARE (R321): the change is prepared, its targets await their answer; it retires in the next cycle. -/
def State.modePrepare (s : State) (c : Cmd) : State :=
  let q := c.modeP
  let s := { s with mode := some ⟨q.1, q.2.1, q.2.2.1, q.2.2.2, s.clock.frameNo, none, false⟩ }
  let s := (maskParts q.2.1).foldl (fun (s : State) p =>
    ((s.put .PART_MODE_MODE p q.1).put .PART_MODE_CAUSE p 0).put .PART_MODE_ACK p 3) s
  s.done c (c.t0 + 1) 0 0

def execModePrepare (c : CmdId) (s : State) : Host.Outcome State Fault Refusal :=
  .next (match s.ready c 0x604 with
    | some d => s.modePrepare d
    | none => s)

/-- Power allocations of all partitions with a change's value for its targets (R355). -/
def State.allocSum (s : State) (m : ModeChange) : Nat :=
  sumN ((List.range 16).map fun p => if m.targets.testBit p then m.value else s.get .PWR_PART_ALLOC p)

/-- VALUE is out of range for a target (R321, R352, R355). -/
def State.modeValueBad (s : State) (m : ModeChange) (p : Nat) : Bool :=
  if m.mode = 1 then
    decide (m.value < 600) || decide (850 < m.value) ||
    (s.part p).positions.any fun n => decide (m.value < 600 + 5 * s.get .CORE_BIST_VMIN n + 25)
  else if m.mode = 2 then
    decide (65535 < m.value) || decide (s.get .PWR_CFG_CORE_BUDGET 0 < s.allocSum m) ||
    (List.range 32).any fun h => s.get .PART_PROG_STAT_STATE (progIdx p h) == 2 && decide (m.value < ((s.part p).slot h).peak)
  else decide (1 < m.value)

/-- A target's answer at an edge (R321, R323): refused with its cause, ready once it is IDLE and no task of it is fetched, or none
yet. -/
def State.modeAck (s : State) (p : Nat) : State := match s.mode with
  | none => s
  | some m =>
    if m.targets.testBit p = false ∨ s.get .PART_MODE_ACK p ≠ 3 then s
    else
      let cause := if s.created p = false then 2 else if s.get .PART_STATE_RESIZE_ARMED p = 1 then 3 else if s.modeValueBad m p then 1 else 0
      if cause ≠ 0 then (s.put .PART_MODE_ACK p 2).put .PART_MODE_CAUSE p cause
      else if s.get .PART_STATE_STATE p = 2 ∧ (s.part p).run.task = none then (s.put .PART_MODE_ACK p 1).put .PART_STATE_STATE p 5
      else s

/-- A target that has acknowledged holds its tasks again after a remap (R323). -/
def State.modeHold (s : State) (p : Nat) : State :=
  if s.mode.isSome ∧ s.get .PART_MODE_ACK p = 1 ∧ s.get .PART_STATE_STATE p = 2 then s.put .PART_STATE_STATE p 5 else s

/-- The targets leave MODE_HOLD, with an event (R322, R328). -/
def State.endMode (s : State) (m : ModeChange) (f : Field) : State :=
  (maskParts m.targets).foldl (fun (s : State) p =>
    let s := (s.put .PART_MODE_MODE p 0).put .PART_MODE_ACK p 0
    let s := if s.get .PART_STATE_STATE p = 5 then s.put .PART_STATE_STATE p 2 else s
    s.partEvent f p) { s with mode := none }

/-- MODE_PREPARE_EXPIRE (R322): no MODE_COMMIT has begun within 1,024 frames. -/
def execModePrepareExpire (s : State) : Host.Outcome State Fault Refusal :=
  .next (match s.mode with
    | some m => if s.atEdge = true ∧ m.commit = none ∧ m.frame + 1024 ≤ s.clock.frameNo then s.endMode m .VFEVT_STAT_MODE_CANCELLED else s
    | none => s)

/-- MODE_COMMIT is refused (R322). -/
def State.modeCommitRefused (s : State) (c : Cmd) : Bool := match s.mode with
  | some m => m.token != c.commitP.1 || m.commit.isSome || decide (c.commitP.2 < s.reelCount + 3) || decide (s.reelCount + 1024 < c.commitP.2)
  | none => true

/-- MODE_COMMIT (R322): it waits for the edge of FRAME − 2. -/
def execModeCommit (c : CmdId) (s : State) : Host.Outcome State Fault Refusal :=
  .next (match s.ready c 0x605, s.mode with
    | some d, some m => { s.setCmd { d with ran := true } with mode := some { m with commit := some (d.queue, d.seq, d.commitP.2) } }
    | _, _ => s)

/-- The targets whose acknowledgement reads a value, as a mask. -/
def State.ackMask (s : State) (m : ModeChange) (ack : Nat → Bool) : Nat :=
  sumN ((maskParts m.targets).map fun p => if ack (s.get .PART_MODE_ACK p) then 2 ^ p else 0)

/-- The command of a mode change retires in this cycle. -/
def State.doneMode (s : State) (q n status detail : Nat) : State := match s.findCmd q n with
  | some c => s.done c s.now status detail
  | none => s

/-- MODE_DECISION (R322): the edge of FRAME − 2. -/
def State.decideMode (s : State) (m : ModeChange) (q n : Nat) : State :=
  let refused := s.ackMask m (· == 2)
  let open_ := s.ackMask m fun a => a != 1 && a != 2
  if refused = 0 ∧ open_ = 0 then { s with mode := some { m with decided := true } }
  else (s.endMode m .VFEVT_STAT_MODE_CANCELLED).doneMode q n 0x2001 (refused + open_ * 2 ^ 16)

def execModeDecision (s : State) : Host.Outcome State Fault Refusal :=
  .next (match s.mode with
    | some m => match m.commit with
      | some (q, n, f) => if s.atEdge = true ∧ m.decided = false ∧ f ≤ s.reelCount + 2 then s.decideMode m q n else s
      | none => s
    | none => s)

/-- A mode takes its value on one target (Table 14-6). -/
def State.applyMode (s : State) (m : ModeChange) (p : Nat) : State :=
  if m.mode = 1 then (s.part p).positions.foldl (fun (s : State) n => s.put .PWR_DOM_STAT_SETPOINT n ((m.value - 600) / 5)) s
  else if m.mode = 2 then s.put .PWR_PART_ALLOC p m.value
  else ((List.range 64).filter fun n => match (s.part p).bind.shape with
    | some v => v.ports.testBit n
    | none => false).foldl (fun (s : State) n => s.put .TETH_CFG_NARROW_EN n m.value) s

/-- MODE_SWITCH (R322): the edge of FRAME, every target at once. -/
def execModeSwitch (s : State) : Host.Outcome State Fault Refusal :=
  .next (match s.mode with
    | some m => match m.commit with
      | some (q, n, f) =>
        if s.atEdge = true ∧ m.decided = true ∧ f ≤ s.reelCount then
          (((maskParts m.targets).foldl (fun (s : State) p => s.applyMode m p) s).endMode m .VFEVT_STAT_MODE_SWITCHED).doneMode q n 0 0
        else s
      | none => s
    | none => s)

end Sys2Proof.Machine
end

