-- ==== Sys2Proof/Machine/Service.lean ====
section
/-! DEFINITION. Core service commands, self-test and fault rehearsal (R136, R254, R379, R381 to R383, R386, R387). -/

namespace Sys2Proof.Machine

/-- CORE_FENCE is refused (R381); a position outside 0 to 95 is none. -/
def State.coreFenceRefused (s : State) (c : Cmd) : Bool :=
  let n := c.fenceP.1
  decide (95 < n) || s.get .CORE_BIND_DISABLED n == 1 ||
  (if c.fenceP.2 then s.get .CORE_BIND_FENCED n == 0
   else match s.boundTo n with
    | some p => s.get .CORE_BIND_SPARE n == 0 && (s.freeSpares p).isEmpty
    | none => false)

/-- A reserved spare is removed: the binding record is recomputed without rebinding (R381). -/
def State.removeSpare (s : State) (p n : Nat) : State :=
  let s := (s.freeCore n).put .CORE_BIND_FENCED n 1
  match (s.part p).bind.shape with
  | some v => s.reshape p { v with spares := v.spares - 1, positions := v.positions.filter (· != n) }
  | none => s

/-- CORE_FENCE at its edge (R381). -/
def State.coreFence (s : State) (c : Cmd) : State :=
  let n := c.fenceP.1
  if c.fenceP.2 then (s.put .CORE_BIND_FENCED n 0).done c s.now 0 0
  else match s.boundTo n with
    | none => (s.put .CORE_BIND_FENCED n 1).done c s.now 0 0
    | some p =>
      if s.get .CORE_BIND_SPARE n = 1 then (s.removeSpare p n).done c s.now 0 0
      else (s.setCmd { c with ran := true }).modBind p fun b =>
        { b with waiter := some (c.queue, c.seq), remap := b.remap ++ [(s.get .CORE_BIND_SLOT n, 0xFF, true)] }

def execCoreFence (c : CmdId) (s : State) : Host.Outcome State Fault Refusal :=
  .next (match s.atItsEdge c 0x606 with
    | some d => s.coreFence d
    | none => s)

/-- CORE_REMAP is refused (R382). -/
def State.coreRemapRefused (s : State) (c : Cmd) : Bool :=
  let q := c.remapP
  decide ((s.part q.1).lcores ≤ q.2.1) || (s.pickSpare q.1 q.2.2).isNone

/-- CORE_REMAP at its edge (R382): the task is aborted, then steps 1 to 6 of R370. -/
def State.coreRemap (s : State) (c : Cmd) : State :=
  let p := c.remapP.1
  let first := (s.part p).taskSlot
  let s := s.abortTask p none (fun _ => (0x4000, 0)) none 0x4000 true
  let s := s.dropNext p (fun _ => (0x4000, 0)) true
  match (s.part p).bind.shape, s.pickSpare p c.remapP.2.2 with
  | some v, some n =>
    let s := (s.setCmd { c with ran := true }).modBind p fun b => { b with
      waiter := some (c.queue, c.seq)
      rebinds := (match first with
        | some h => h :: b.rebinds.filter (· != h)
        | none => b.rebinds) }
    s.remapTo p c.remapP.2.1 n v
  | _, _ => s.abort c 0x3000 0

def execCoreRemap (c : CmdId) (s : State) : Host.Outcome State Fault Refusal :=
  .next (match s.atItsEdge c 0x607 with
    | some d => s.coreRemap d
    | none => s)

/-- BIST_RUN is refused (R383): the position must be fenced and inflated. -/
def State.bistRefused (s : State) (c : Cmd) : Bool :=
  let n := c.bistP.1
  decide (95 < n) || s.get .CORE_BIND_FENCED n == 0 || !(s.get .PWR_DOM_STAT_STATE n == 2 || s.get .PWR_DOM_STAT_STATE n == 4)

/-- BIST_RUN (R383): the tests run. -/
def execBistRun (c : CmdId) (s : State) : Host.Outcome State Fault Refusal :=
  .next (match s.ready c 0x700 with
    | some d =>
      let b : Bist := ⟨d.queue, d.seq, d.bistP.1, d.bistP.2, false⟩
      let s : State := { s.setCmd { d with ran := true } with bists := s.bists ++ [b] }
      s.put .CORE_BIST_BUSY d.bistP.1 1
    | none => s)

/-- The image of the boot slot (R401). -/
def State.bootImage (s : State) : Option Image := if s.get .GCTL_FW_STAT_BOOT_SLOT 0 = 0 then s.sec.slotA else s.sec.slotB

/-- The microcode level of the boot slot's image (R403). -/
def State.bootMicrocode (s : State) : Nat := match s.bootImage with
  | some i => i.microcode
  | none => 0

/-- The last test of a BIST_RUN has ended (R383): its result, a new Vmin, the microcode; the position is cleared from the next
frame on. -/
def State.bistDone (s : State) (b : Bist) (result vmin : Nat) : State :=
  let n := b.position
  let s := if b.tests.testBit 3 = true ∧ result ≠ 5 then s.put .CORE_BIST_VMIN n vmin else s
  let s := if b.tests.testBit 4 = true ∧ result ≠ 6 then s.put .CORE_BIST_MICROCODE n s.bootMicrocode else s
  s.endBist n result

def execBistDone (n : Fin 96) (result vmin : Nat) (s : State) : Host.Outcome State Fault Refusal :=
  .next (match s.bists.find? fun b => b.position == n.val && !b.done with
    | some b => s.bistDone b result vmin
    | none => s)

/-- A partition's bound mask holds port n. -/
def State.ownsPort (s : State) (p n : Nat) : Bool := match (s.part p).bind.shape with
  | some v => v.ports.testBit n
  | none => false

/-- The link direction that an injected bridle error names: N, E, S, W of a die (R386). -/
def InjectP.link (q : InjectP) : Nat := 4 * q.index + bits q.sub 4 3

/-- The target of an injection is out of range, or PART does not own it (R386). -/
def State.injectTargetBad (s : State) (q : InjectP) : Bool :=
  if q.kind = 0 then !(decide (q.index < 64) && s.ownsPort q.part q.index && decide (q.sub < 17))
  else if q.kind = 1 then !(decide (q.index < 64) && s.ownsPort q.part q.index)
  else if q.kind = 2 then !(decide (q.index < 96) && s.boundTo q.index == some q.part)
  else if q.kind = 3 then
    (let t := bits q.sub 1 0
     if t = 0 then !(decide (q.index < 96) && s.boundTo q.index == some q.part && decide (bits q.addr 15 0 < 16384))
     else if t = 1 then !(decide (q.addr < 48 * 2 ^ 36) && decide (bits q.addr 35 0 < 0xC00000000) && (match (s.part q.part).bind.shape with
       | some v => pageCode v.pages q.addr == 1 || pageCode v.pages q.addr == 2
       | none => false))
     else if t = 2 then !(decide (q.index < 24) && s.linkUp q.link)
     else true)
  else if q.kind = 4 then !(s.created q.part)
  else decide (q.kind ≠ 5)

/-- INJECT_FAULT is refused (R386). -/
def State.injectRefused (s : State) (c : Cmd) : Bool :=
  let q := c.injectP
  (if q.kind = 5 then (List.range 16).any fun p => s.created p && s.get .PART_RECOVER_INJECT_EN p == 0
   else s.get .PART_RECOVER_INJECT_EN q.part == 0) ||
  decide (q.frame < s.reelCount + 2) || decide (s.reelCount + 1024 < q.frame) || s.injectTargetBad q

/-- INJECT_FAULT (R386): the fault waits for its frame. -/
def execInjectFault (c : CmdId) (s : State) : Host.Outcome State Fault Refusal :=
  .next (match s.ready c 0x701 with
    | some d =>
      let q := d.injectP
      { s.setCmd { d with ran := true } with
        injects := s.injects ++ [⟨d.queue, d.seq, q.kind, q.part, q.index, q.sub, q.frame, q.addr⟩] }
    | none => s)

/-- A fault has been put on port n (R387). -/
def State.markPort (s : State) (n : Nat) : State := s.modPort n fun x => { x with rehearsal := true }

/-- A quarter of tile memory with k more flipped bits, by INJECT_FAULT. -/
def Core.flipQuarter (c : Core) (q k : Nat) : Core :=
  if k = 0 then c else { c with ecc := Tab.put 0 c.ecc q (min 2 (Tab.get 0 c.ecc q + k)), injected := q :: c.injected }

/-- One or two bits are flipped (R386, kind 3): in a stored tile-memory word, in a stored burst, or in the next word on a link. Which
bits of the word or burst they are is a free value (log entry 56). -/
def State.flipBits (s : State) (i : Inject) : State :=
  let two := bit i.sub 2
  let t := bits i.sub 1 0
  let d := s.draw
  let e := d.2.draw
  if t = 0 then
    let word := bits i.addr 15 0 * 256 + bits i.addr 21 16 * 4
    e.2.modCore i.index fun c => (c.flipQuarter (word + d.1 % 4) 1).flipQuarter (word + e.1 % 4) (if two then 1 else 0)
  else if t = 1 then
    let r := e.2.carrier
    let b := i.addr / 64
    let x := d.1 % 512
    let mask := 2 ^ x ^^^ (if two then 2 ^ ((x + 1 + e.1 % 511) % 512) else 0)
    { e.2 with carrier := { r with flips := Tab.put 0 r.flips b (Tab.get 0 r.flips b ^^^ mask), injected := b :: r.injected } }
  else
    let n := 4 * i.index + bits i.sub 4 3
    s.setLink n { s.link n with injected := if two then 2 else 1, since := s.now }

/-- The command that an injected deadline miss ends: the oldest in fetch order, in execution, with a deadline (R386, kind 4). -/
def State.missVictim (s : State) (p : Nat) : Option Cmd := match (s.part p).run.task with
  | some t => (sortCmds (s.cmds.filter fun c => c.part == some p && c.batch == t.batch)).find? fun c => c.began.isSome && c.hasDeadline
  | none => none

/-- An injected deadline miss: slack margin −1, Detail [31:0] 1 (R386, R48). -/
def State.injectMiss (s : State) (p : Nat) : State := match s.missVictim p with
  | some c =>
    let detail := 1 + s.reelCount % 2 ^ 32 * 2 ^ 32
    if (s.pendingSlot c).isSome then s.fault c 0x3001 detail
    else s.abortTask p (some c) (fun d => if d.queue = c.queue ∧ d.seq = c.seq then (0x3001, detail) else (0x4000, 0)) (some (-1)) 0x3001 true
  | none => s

/-- The effect of an injected fault at the edge of its frame (Table 17-5). -/
def State.inject (s : State) (i : Inject) : State :=
  if i.kind = 0 then (if s.portTalks i.index then (s.markPort i.index).loseLane i.index i.sub else s)
  else if i.kind = 1 then
    (if s.portTalks i.index ∨ s.get .TETH_STAT_STATE i.index = 2 then (s.markPort i.index).portDown i.index 1 else s)
  else if i.kind = 2 then s.coreFault i.index
  else if i.kind = 3 then s.flipBits i
  else if i.kind = 4 then s.injectMiss i.part
  else s.enterLost 3

/-- INJECTED_FAULT (R386, R387): the edge of FRAME; what follows carries the rehearsal mark, and the command retires. -/
def execInjectedFault (c : CmdId) (s : State) : Host.Outcome State Fault Refusal :=
  .next (match s.injects.find? fun i => i.queue == c.queue.val && i.seq == c.seq with
    | some i =>
      if s.atEdge = true ∧ i.frame ≤ s.reelCount then
        (let s := { s with injects := s.injects.filter fun x => !(x.queue == i.queue && x.seq == i.seq) }
         let s := ((s.mark true).inject i).mark false
         match s.findCmd i.queue i.seq with
         | some d => s.done d s.now 0 0
         | none => s)
      else s
    | none => s)

end Sys2Proof.Machine
end

