-- ==== Sys2Proof/Machine/Begin.lean ====
section
/-! DEFINITION. How commands begin: order, waits, checks and refusals, the spill block, and a begin that comes too late (R46, R123,
R150, R185, R215, R217, R224, R236, R275, R283, R284, R291, R341, R409, R448, R450). -/

namespace Sys2Proof.Machine

/-- The check of a command's own parameters, of the bound plan and phase list, and of bound registers (R275, R448). -/
def State.staticBad (s : State) (c : Cmd) (p : Nat) : Bool :=
  let x := s.part p
  c.headBad (s.fenceCount (some p)) ||
  (if c.op = 0x100 then matBad c.mat
   else if c.op = 0x101 then matSpecBad c.mat
   else if c.op = 0x102 then vecBad c.vec
   else if c.op = 0x103 then convBad c.conv
   else if c.op = 0x104 then sampBad c.samp
   else if c.op = 0x200 ∨ c.op = 0x201 ∨ c.op = 0x206 then x.streamBad c.op c.stream
   else if c.op = 0x202 then x.routeBad c.route || s.groupsBad c p
   else if c.op = 0x203 then x.resideBad c.reside
   else if c.op = 0x204 then x.evictBad c.evict
   else if c.op = 0x207 then x.writebackBad c.writeback
   else if c.op = 0x300 then x.bcastBad c.coll
   else if c.op = 0x301 then x.reduceBad c.coll
   else if c.op = 0x400 then x.moveBad c.move
   else if c.op = 0x401 then windowBad x.lcores c.window true false
   else if c.op = 0x402 then windowBad x.lcores c.window false c.closeAll
   else if c.op = 0x500 then x.forecastBad c
   else if c.op = 0x702 then s.journalBad c
   else false)

/-- The check of the state in which a command would begin (R448): its status and Detail, if it is refused. STREAM_SPEC is checked
at its grant. -/
def State.beginRefused (s : State) (c : Cmd) (p : Nat) : Refused :=
  let x := s.part p
  if c.op = 0x100 then invalidIf (s.matRefused p c.mat)
  else if c.op = 0x101 then invalidIf (s.matSpecRefused p c.mat)
  else if c.op = 0x102 then invalidIf (s.vecRefused p c.vec)
  else if c.op = 0x103 then invalidIf (s.convRefused p c.conv)
  else if c.op = 0x104 then invalidIf (s.sampRefused p c.samp)
  else if c.op = 0x200 ∨ c.op = 0x206 then s.streamRefused p c.stream
  else if c.op = 0x202 then x.routeRefused c.route
  else if c.op = 0x203 then s.resideRefused p c.reside
  else if c.op = 0x207 then s.writebackRefused p c.writeback
  else if c.op = 0x300 then s.collRefused p c.coll false
  else if c.op = 0x301 then s.collRefused p c.coll true
  else if c.op = 0x400 then x.moveRefused c.move
  else if c.op = 0x500 then invalidIf (s.forecastRefused c)
  else if c.op = 0x702 then invalidIf (s.journalRefused c)
  else none

/-- A refusal in place of a begin; one for a bad shard is counted (R208, R448). -/
def State.refuseBegin (s : State) (c : Cmd) (p : Nat) (r : Nat × Nat) : State :=
  (if r.1 = 0x3002 then s.inc .STRM_FAIL_DIGEST p 1 else s).refuse c r

/-- Commands of a command's queue and task that stand before it and have not retired. -/
def State.ahead (s : State) (c : Cmd) : List Cmd :=
  s.cmds.filter fun d => d.part == c.part && d.batch == c.batch && d.queue == c.queue && decide (d.ord < c.ord)

/-- Conditions 1 and 7 of R283 hold for a command of a running task: the first cycle in which they do. -/
def State.turn (s : State) (c : Cmd) (p : Nat) : Option Nat :=
  match s.taskOf c, (s.part p).run.sum.headerAt with
  | some t, some h =>
    if (t.queue = c.queue ∧ t.seq = c.seq) ∨ c.began.isSome = true ∨ ((s.ahead c).any fun d => d.began.isNone) = true then none
    else some (((s.ahead c).map Cmd.t0).foldl max h)
  | _, _ => none

/-- A command of the partition with an opcode that `f` takes is in execution. -/
def State.executing (s : State) (p : Nat) (f : Nat → Bool) : Bool := s.cmds.any fun d => d.part == some p && d.began.isSome && f d.op

/-- The command lies in the spill block of a ROUTE_COMMIT that has not retired. -/
def State.spillOpen (s : State) (c : Cmd) : Bool := (s.ahead c).any fun d =>
  d.op == 0x202 && d.route.dispatch && decide (c.ord ≤ d.ord + d.route.spillCmds)

/-- The command lies in a spill block that is skipped (R224). -/
def State.spillSkips (s : State) (c : Cmd) (p : Nat) : Bool := (s.part p).run.sum.spill.any fun b =>
  !b.2.2.2 && b.1 == c.queue && decide (b.2.1 ≤ c.ord) && decide (c.ord < b.2.1 + b.2.2.1)

/-- The ring that a ring command needs is granted (R185). -/
def State.ringGranted (s : State) (c : Cmd) (p : Nat) : Bool := !c.wantsRing || ((s.part p).ringOf c).isSome

/-- The first cycle from now on in which every condition of R283 but the order of wide operations holds, as things stand. -/
def State.beginTime (s : State) (c : Cmd) (p : Nat) : Option Nat :=
  match s.turn c p, s.baseFrame c with
  | some t, some a =>
    if s.executing p (· == 3) = true ∨ s.spillOpen c = true then none
    else
      let f := (max (s.frameCycle (a + c.start)) 0).toNat
      let lo := max (max s.now t) f
      if s.spillSkips c p then s.waitTime c lo
      else if (opWide c.op ∨ c.op = 0x202) ∧ s.executing p opWide = true then none
      else if opWide c.op = true ∧ s.executing p (· == 0x202) = true then none
      else if s.ringGranted c p = false then none
      else s.waitTime c (if opWide c.op ∨ c.op = 0x202 then max lo (s.part p).run.wideFree else lo)
  | _, _ => none

/-- Another wide operation or ROUTE_COMMIT begins before this one: in an earlier cycle, or in the same one from a lower queue
(R217, R284). -/
def State.rival (s : State) (c : Cmd) (p t : Nat) : Bool := s.cmds.any fun d =>
  d.part == some p && d.batch == c.batch && d.queue != c.queue && (opWide d.op || d.op == 0x202) && (opWide c.op || (opWide d.op && c.op == 0x202)) &&
  !s.spillSkips d p &&
  match s.beginTime d p with
  | some u => decide (u < t) || (u == t && decide (d.queue < c.queue))
  | none => false

/-- PART[p]_STEP as a wide operation begins (R332). -/
def State.takeStep (s : State) (p : Nat) : State := s.put .PART_STEP_STEP p ((s.get .PART_STEP_STEP p + 1) % 2 ^ 32)

/-- A command of a spill block that is skipped (R224): OK, 0 cycles, its signal; a wide one takes its step, and a ring that it holds
is released. -/
def State.skip (s : State) (c : Cmd) (p : Nat) : State :=
  let c := { c with began := some s.now, status := 0, detail := 0 }
  let s := if opWide c.op then s.takeStep p else s
  let s := s.modStrm p fun x => { x with rings := x.rings.map fun r =>
    if r.queue = c.queue ∧ r.seq = c.seq then { r with placed := some s.now, consumed := some s.now } else r }
  let s := s.setCmd c
  let sd := s.finalStatus c
  let s := (s.finish c sd.1 sd.2 (s.slackAt c s.now)).addUpds (s.signals c)
  s.taskDone p

/-- The lanes of a root's reduce unit start empty (R233). -/
def State.clearLanes (s : State) (p lc : Nat) : State := s.modLcore p lc fun k => { k with lanes := [] }

/-- What a command does in its first cycle: transfers that it waits for, gather entries that it arms. -/
def State.beginEffect (s : State) (c : Cmd) (p : Nat) : State :=
  if c.op = 0x200 ∨ c.op = 0x201 ∨ c.op = 0x206 then s.addStream p ⟨c.queue, c.seq, s.streamShards p c.stream, [], false⟩
  else if c.op = 0x203 then s.addStream p ⟨c.queue, c.seq, s.resideShards p c.reside, [], false⟩
  else if c.op = 0x300 then
    (let q := c.coll
     let s := if q.scope = 2 then s.awaitRows c p pieceBase q.first q.entries else s
     if q.flag then s.arm p q else s)
  else if c.op = 0x301 ∧ c.coll.scope = 0 then
    (let q := c.coll
     ((s.awaitRows c p pieceBase q.first q.entries).arm p q).clearLanes p q.root)
  else if c.op = 0x400 ∧ c.move.isLocal = false then s.awaitRows c p rowBase c.move.first c.move.entries
  else s

/-- A command of a task begins in this cycle, or is refused, or skipped (R224, R283, R448). -/
def State.beginNow (s : State) (c : Cmd) (p : Nat) : State :=
  if s.spillSkips c p then s.skip c p
  else match s.beginRefused c p with
    | some r => s.refuseBegin c p r
    | none =>
      let c := { c with began := some s.now, step := s.get .PART_STEP_STEP p }
      let s := s.setCmd c
      let s := if opWide c.op then s.takeStep p else s
      s.beginEffect c p

/-- COMMAND_BEGIN of a command of a task (R283, R284, R448): what begun commands do up to its first cycle is done first. -/
def State.beginPart (s : State) (c : Cmd) (p : Nat) : State :=
  match s.turn c p with
  | none => s
  | some t0 =>
    if s.staticBad c p = true ∧ s.spillSkips c p = false then
      (let t := max s.now t0
       if t < s.nextEdge then (s.advance t).refuse c (0x3000, 0) else s)
    else match s.beginTime c p with
      | none => s
      | some t =>
        if s.nextEdge ≤ t ∨ s.rival c p t = true then s
        else
          let s := (s.catchUp p t).advance t
          if s.alive c then s.beginNow c p else s

/-- The check of a PF command as it would begin (R275, R448), beside its header. -/
def State.pfRefused (s : State) (c : Cmd) : Bool :=
  c.headBad (s.fenceCount none) ||
  (if c.op = 0x604 then s.modePrepareRefused c
   else if c.op = 0x605 then s.modeCommitRefused c
   else if c.op = 0x606 then s.coreFenceRefused c
   else if c.op = 0x607 then s.coreRemapRefused c
   else if c.op = 0x700 then s.bistRefused c
   else if c.op = 0x701 then s.injectRefused c
   else if c.op = 0x702 then s.journalBad c || s.journalRefused c
   else false)

/-- The PF command that comes next: the oldest one, none being in execution (R282, R283); none during a takeover (R378). -/
def State.nextPf (s : State) : Option Cmd :=
  if s.gondola.takeover then none
  else match sortCmds (s.cmds.filter fun c => c.part == none) with
    | c :: _ => if c.began.isNone then some c else none
    | [] => none

/-- COMMAND_BEGIN of a PF command (R46, R283): START 0 is no constraint; with unreadable settings it ends with SETTINGS_UNREADABLE (R409). -/
def State.beginPf (s : State) (c : Cmd) : State :=
  match s.nextPf with
  | none => s
  | some d =>
    if d.queue ≠ c.queue ∨ d.seq ≠ c.seq then s
    else
      let f := if c.start = 0 then s.now else (max (s.frameCycle (c.fetched + 1 + c.start)) 0).toNat
      match s.waitTime c (max s.now f) with
      | none => s
      | some t =>
        if s.nextEdge ≤ t then s
        else
          let s := s.advance t
          if s.get .GCTL_FW_STAT_UNREADABLE 0 = 1 then s.refuse c (0x5000, 0)
          else if s.pfRefused c then s.refuse c (0x3000, 0)
          else s.setCmd { c with began := some s.now }

/-- COMMAND_BEGIN (R283). -/
def execCommandBegin (c : CmdId) (s : State) : Host.Outcome State Fault Refusal :=
  .next (match s.findCmd c.queue.val c.seq with
    | some d => match d.part with
      | some p => s.beginPart d p
      | none => s.beginPf d
    | none => s)

/-- The earlier of two last begin cycles. -/
def earlier (a b : Option (Nat × Nat)) : Option (Nat × Nat) := match a, b with
  | some x, some y => if y.1 < x.1 then some y else some x
  | some x, none => some x
  | none, y => y

/-- The cycle by which a command must have begun, with bits [31:0] of the Detail of lateness: its phase, the first reserved S cycle
or the round of its first transfer (R123, R150, R236, R291, R341, R450). -/
def State.beginBy (s : State) (c : Cmd) (p : Nat) : Option (Nat × Nat) :=
  let phase := fun (x : Nat) => some (s.boundCycle p x, 0xFFFFFFFF)
  let plan := match s.entriesOf c p with
    | some e => s.entriesDue p e.1 e.2
    | none => none
  if c.op = 0x400 ∧ c.move.isLocal = true then phase c.move.phase
  else if c.op = 0x301 ∧ c.coll.scope = 0 then earlier (phase c.coll.phase) plan
  else if c.op = 0x702 ∧ c.journal.op = 3 then phase c.journal.phase
  else plan

/-- LATE_BEGIN (R450): a command that has not begun by the end of cycle X ends in cycle X + 1 with DEADLINE_MISS, lateness 1. -/
def State.lateBegin (s : State) (c : Cmd) (p : Nat) : State :=
  match s.beginBy c p with
  | some (x, low) => if x + 1 < s.nextEdge then (s.advance (x + 1)).refuse c (0x3001, low + 2 ^ 32) else s
  | none => s

def execLateBegin (c : CmdId) (s : State) : Host.Outcome State Fault Refusal :=
  .next (match s.findCmd c.queue.val c.seq with
    | some d => match d.part, s.taskOf d with
      | some p, some t =>
        if d.began = none ∧ t.anchorAt.isSome = true ∧ (s.part p).run.sum.headerAt.isSome = true ∧ s.spillSkips d p = false then s.lateBegin d p else s
      | _, _ => s
    | none => s)

end Sys2Proof.Machine
end

