-- ==== Sys2Proof/Machine/Queues.lean ====
section
/-! DEFINITION. What the host does to queues, fences and a partition's resources, and the completion records (R271, R272, R288,
R292, R296 to R298, R314, R326). -/

namespace Sys2Proof.Machine

/-- The queue that doorbell i of a function rings (R271): one outside a VF's range rings none. -/
def State.doorbellQueue (s : State) (f : Fn) (i : Nat) : Option Nat := match f with
  | .pf => if s.booted = true ∧ i < 16384 then some i else none
  | .pfMsix => none
  | .vf v =>
    let r := (s.part v.val).bind.queues
    if s.vfs.contains v.val = true ∧ i < r.2 then some (r.1 + i) else none

/-- DOORBELL (R271): the packets stand in host memory; of several writes in one frame the last stands. -/
def execDoorbell (f : Fn) (i : Nat) (tail head : BitVec 32) (mem : List (Nat × Byte)) (s : State) : Host.Outcome State Fault Refusal :=
  let s := { s with host := Mem.writeCells s.host mem }
  .next (match s.doorbellQueue f i with
    | some q => s.setQueue q { s.queueSt q with doorbell := some (tail.toNat, head.toNat) }
    | none => s)

/-- QUEUE_FAULT_CLEAR (R272): fetching resumes at the next edge, where the latest doorbell, which a fault leaves in place,
is checked again. -/
def execQueueFaultClear (q : Fin 16384) (s : State) : Host.Outcome State Fault Refusal :=
  .next (s.whenBooted (if s.get .QTAB_CMD_FAULT q.val = 1 ∧ s.isFresh .QTAB_CMD_FAULT q.val = false then
    (s.put .QTAB_CMD_FAULT q.val 0).put .QTAB_CMD_FAULT_CAUSE q.val 0
  else s))

/-- Queue q is faulted with a cause (R272). -/
def State.faultQueue (s : State) (q cause : Nat) : State := (s.setEvent .QTAB_CMD_FAULT q).put .QTAB_CMD_FAULT_CAUSE q cause

/-- FETCH_COMPLETION_ERROR (R272): a fetch read of the queue met a PCIe completion error. -/
def execFetchCompletionError (q : Fin 16384) (s : State) : Host.Outcome State Fault Refusal :=
  .next (if (s.queueSt q.val).enabled then s.faultQueue q.val 3 else s)

/-- The fence that index i of a function names (R271, R287, R288). -/
def State.hostFence (s : State) (f : Fn) (i : Nat) : Option Nat := match f with
  | .pf => if s.booted = true ∧ i < 32768 then some i else none
  | .pfMsix => none
  | .vf v =>
    let r := (s.part v.val).bind.fences
    if s.vfs.contains v.val = true ∧ i < r.2 then some (r.1 + i) else none

/-- FENCE_HOST_WRITE (R288): a MAX at cycle 0 of the next edge. -/
def execFenceHostWrite (f : Fn) (i : Nat) (value : BitVec 64) (s : State) : Host.Outcome State Fault Refusal :=
  .next (match s.hostFence f i with
    | some n => s.atNextEdge (.fence n value.toNat)
    | none => s)

/-- PROTECTION_CHANGE (R296): the register takes its value, and the change takes effect at the next edge. -/
def execProtectionChange (w : ProtWrite) (s : State) : Host.Outcome State Fault Refusal :=
  .next (s.whenBooted (match w with
    | .queues p b n => ((s.put .PART_QUEUES_BASE p.val b).put .PART_QUEUES_COUNT p.val n).atNextEdge (.queues p.val b n)
    | .fences p b n => ((s.put .PART_FENCES_BASE p.val b).put .PART_FENCES_COUNT p.val n).atNextEdge (.fences p.val b n)
    | .enable q on => (s.put .QTAB_CMD_ENABLE q.val (nat01 on)).atNextEdge (.enable q.val on)))

/-- RESOURCE_WITHDRAW (R314). -/
def execResourceWithdraw (w : WithdrawWrite) (s : State) : Host.Outcome State Fault Refusal :=
  .next (s.whenBooted (match w with
    | .ports p m => (s.put .PART_PORTS_PORTS p.val m).atNextEdge (.port p.val m)
    | .pages p k c => (s.put .PART_PAGES_CODES (p.val * 72 + k.val) c).atNextEdge (.page p.val k.val c)))

/-- VF_ENABLE_CHANGE (R298): it takes effect at the next edge. -/
def execVfEnableChange (v : Fin 16) (on : Bool) (s : State) : Host.Outcome State Fault Refusal := .next (s.atNextEdge (.vf v.val on))

/-- The commands that `hit` names end with PROTECTION_CHANGED: a running task is aborted, a next task does not run, PF commands end
alone (R296, R314). -/
def State.withdraw (s : State) (hit : Cmd → Bool) : State :=
  let status := fun (c : Cmd) => if hit c then (0x4002, 0) else (0x4000, 0)
  let s := (List.range 16).foldl (fun (s : State) p =>
    let s := match (s.part p).run.task with
      | some t => match (s.taskCmds p t.batch).find? hit with
        | some c => s.abortTask p (some c) status none 0x4002 true
        | none => s
      | none => s
    match (s.part p).run.next with
    | some t => if (s.taskCmds p t.batch).any hit then s.dropNext p status true else s
    | none => s) s
  (sortCmds (s.cmds.filter fun c => c.part == none && hit c)).foldl (fun (s : State) c => s.finish c 0x4002 0 (s.slackAt c s.now)) s

/-- n lies in a range. -/
def inRange (r : Nat × Nat) (n : Nat) : Bool := decide (r.1 ≤ n) && decide (n < r.1 + r.2)

/-- A range lost a number. -/
def rangeLost (old new : Nat × Nat) : Bool := decide (0 < old.2) && !(decide (new.1 ≤ old.1) && decide (old.1 + old.2 ≤ new.1 + new.2))

/-- A range of queues or fences that may come into force for a partition beside those of the other created ones (R269, R287). -/
def rangeOk (total most : Nat) (new : Nat × Nat) (others : List (Nat × Nat)) : Bool :=
  decide (new.1 + new.2 ≤ total) && decide (new.2 ≤ most) && !others.any (rangesMeet new)

/-- PART[p]_QUEUES at its edge (R296); a range that R269 excludes does not come into force (log entry 80). -/
def State.changeQueues (s : State) (p : Nat) (new : Nat × Nat) : State :=
  if s.created p = false then s
  else if rangeOk 16384 4096 new ((s.otherBinds p).map PartBind.queues) = false then s.ignored (Reg.PART_QUEUES.base + 0x1000 * p)
  else
    let old := (s.part p).bind.queues
    let s := s.withdraw fun c => c.part == some p && inRange old c.queue && !inRange new c.queue
    let s := s.modBind p fun b => { b with queues := new }
    if rangeLost old new then s.partEvent .VFEVT_STAT_PROTECTION_CHANGED p else s

/-- The fence indices that a command's waits and signals name. -/
def Cmd.fencesNamed (c : Cmd) : List Nat :=
  c.waits.map Prod.fst ++ (if c.sigEn then [c.sigIdx] else []) ++ (if c.op = 2 then [c.fsFence] else [])

/-- PART[p]_FENCES at its edge (R296); a range that R287 excludes does not come into force (log entry 80). -/
def State.changeFences (s : State) (p : Nat) (new : Nat × Nat) : State :=
  if s.created p = false then s
  else if rangeOk 32768 16384 new ((s.otherBinds p).map PartBind.fences) = false then s.ignored (Reg.PART_FENCES.base + 0x1000 * p)
  else
    let old := (s.part p).bind.fences
    let s := s.withdraw fun c => c.part == some p && c.fencesNamed.any fun i => inRange old (old.1 + i) && !inRange new (old.1 + i)
    let s := s.modBind p fun b => { b with fences := new }
    if rangeLost old new then s.partEvent .VFEVT_STAT_PROTECTION_CHANGED p else s

/-- QTAB[q]_CMD.ENABLE at its edge (R270, R296). -/
def State.changeEnable (s : State) (q : Nat) (on : Bool) : State :=
  let old := (s.queueSt q).enabled
  let owner := s.ownerOf q
  if old = on then s
  else if on then (s.setQueue q { s.queueSt q with enabled := true }).restartQueue q
  else
    let s := s.withdraw fun c => c.queue == q
    let s := s.setQueue q { s.queueSt q with enabled := false }
    match owner with
    | some p => s.partEvent .VFEVT_STAT_PROTECTION_CHANGED p
    | none => s

/-- The plan of the task to which a command of partition p belongs. -/
def State.planOf (s : State) (c : Cmd) (p : Nat) : List PlanEntry :=
  let x := s.part p
  let h := (match x.run.task, x.run.next with
    | some t, some u => if t.batch = c.batch then some t.program else if u.batch = c.batch then some u.program else none
    | some t, none => some t.program
    | none, some u => some u.program
    | none, none => none)
  match h with
  | some h => (x.slot (h % 32)).plan
  | none => []

/-- A streaming command that reads an expert's shards (R194). -/
def Cmd.byExpert (c : Cmd) : Bool := (c.op == 0x200 || c.op == 0x201) && c.stream.byExpert

/-- The plan entries that stay bound for a command: those that it performs, and for an expert's shards those of the tethers as well
(R194). -/
def State.boundEntries (s : State) (c : Cmd) (p : Nat) : List (Nat × Nat) :=
  (s.entriesOf c p).toList ++ (if c.byExpert then [(c.stream.tetherEntry, (s.streamSource p c.stream).2.1)] else [])

/-- A command's bound transfers use a resource that `uses` recognises in an entry (R314). -/
def State.cmdUses (s : State) (uses : PlanEntry → Bool) (c : Cmd) (p : Nat) : Bool :=
  (s.boundEntries c p).any fun e => ((s.planOf c p).drop e.1 |>.take e.2).any uses

/-- Program slots whose plan uses a withdrawn resource become UNFIT (R314). -/
def State.unfitSlots (s : State) (p : Nat) (uses : PlanEntry → Bool) : State :=
  (List.range 32).foldl (fun (s : State) h =>
    let v := (s.part p).slot h
    let i := progIdx p h
    match (enumFrom 0 v.plan).find? fun e => uses e.2 with
    | some e => if s.get .PART_PROG_STAT_STATE i = 2 then
        (s.setSlot p h { v with cause := unfitDetail e.1 0xFFFFFFFF }).put .PART_PROG_STAT_STATE i 3 else s
    | none => s) s

/-- PART[p]_PORTS at its edge (R314): cleared bits withdraw their ports. -/
def State.changePorts (s : State) (p mask : Nat) : State := match (s.part p).bind.shape with
  | none => s
  | some v =>
    let gone := (List.range 64).filter fun n => v.ports.testBit n && !mask.testBit n
    if gone.isEmpty then s
    else
      let uses := fun (e : PlanEntry) => gone.any e.onPort
      let s := s.withdraw fun c => c.part == some p && s.cmdUses uses c p
      let s := s.unfitSlots p uses
      (s.modBind p fun b => { b with shape := some { v with ports := v.ports &&& mask } }).partEvent .VFEVT_STAT_PROTECTION_CHANGED p

/-- A range of carrier memory touches page g. -/
def touchesPage (g a len : Nat) : Bool := decide (a < pageAddr g + 2 ^ 30) && decide (pageAddr g < a + len)

/-- A plan entry touches page g. -/
def PlanEntry.onPage (e : PlanEntry) (g : Nat) : Bool :=
  (e.srcKind == 1 && touchesPage g e.addr e.bytes) || (e.dstKind == 1 && touchesPage g e.dstAddr e.bytes)

/-- An expert's shards lie in a resident region that touches a page: the one that the command took as it began, or would take (R170,
R194). -/
def State.regionOn (s : State) (c : Cmd) (p g : Nat) : Bool := match (s.part p).stream c with
  | some st => st.shards.any fun h => h.port == 64 && touchesPage g h.addr (shLen h.header)
  | none => match (s.streamSource p c.stream).1 with
    | some a => touchesPage g a (s.regionBytes (s.ertLookup p (bits c.stream.source 17 0)))
    | none => false

/-- A command's bound transfers use page g (R314): a stack entry of an expert's shards counts from its region. -/
def State.usesPage (s : State) (c : Cmd) (p g : Nat) : Bool :=
  if c.byExpert then s.regionOn c p g else s.cmdUses (fun e => e.onPage g) c p

/-- Page codes in which those that a write sets to 0 are 0 (R314). -/
def clearedCodes (old new : Nat) : Nat :=
  sumN ((List.range 32).map fun i => if bits new (2 * i + 1) (2 * i) = 0 then 0 else bits old (2 * i + 1) (2 * i) * 2 ^ (2 * i))

/-- PART[p]_PAGES[k] at its edge (R314, R417): codes set to 0 withdraw their pages, which are cleared. -/
def State.changePages (s : State) (p k codes : Nat) : State := match (s.part p).bind.shape with
  | none => s
  | some v =>
    let new := v.pages.set k (clearedCodes (v.pages.getD k 0) codes)
    if new = v.pages then s
    else
      let gone := (List.range 32).filterMap fun i =>
        let g := 32 * k + i
        if codeOf v.pages g ≠ 0 ∧ codeOf new g = 0 then some g else none
      let uses := fun (e : PlanEntry) => gone.any e.onPage
      let s := s.withdraw fun c => c.part == some p && gone.any (s.usesPage c p)
      let s := s.unfitSlots p uses
      let s := s.modBind p fun b => { b with shape := some { v with pages := new } }
      (s.releasePages p v.pages new).partEvent .VFEVT_STAT_PROTECTION_CHANGED p

/-- Bytes of a completion record (Table 13-4). -/
def recBytes (r : Rec) (phase : Bool) : Bytes :=
  natLE 2 r.status ++ natLE 2 (r.opcode % 32768 + 32768 * nat01 phase) ++ natLE 4 r.seq ++ natLE 8 r.reel ++ natLE 4 r.cycles ++
  natLE 4 (ofSigned 32 r.slack) ++ natLE 8 r.detail

/-- The completion ring of a queue has room for a record (R297). -/
def State.ringRoom (s : State) (q : Nat) : Bool :=
  decide ((s.get .QTAB_PTR_CPL_TAIL q + 2 ^ 32 - s.get .QTAB_DB_CPL_HEAD q) % 2 ^ 32 < 2 ^ s.get .QTAB_CPL_LOG2 q)

/-- A record is written at the ring's tail (R292). -/
def State.writeRecord (s : State) (r : Rec) : State :=
  let q := r.queue
  let n := s.get .QTAB_PTR_CPL_TAIL q
  let size := 2 ^ s.get .QTAB_CPL_LOG2 q
  let s := s.hostWrite (s.get .QTAB_CPL_BASE q * 4096 + n % size * 32) (recBytes r (n / size % 2 == 0))
  s.put .QTAB_PTR_CPL_TAIL q ((n + 1) % 2 ^ 32)

/-- The tally of a record (Table 18-4), and its interrupt (R298). -/
def State.noteRecord (s : State) (r : Rec) : State :=
  let s := if r.status = 0 ∨ r.status = 0x1000 then s
    else s.update (.event r.status (match r.part with
      | some p => p
      | none => 0xFF) r.cycles r.rehearsal)
  if r.interrupt = true ∨ 0x2000 ≤ r.status then s.raise (s.vectorFn r.part) (s.get .QTAB_CPL_VECTOR r.queue) else s

/-- The first record of a list for queue q, and the list without it. -/
def takeRec (q : Nat) : List Rec → Option (Rec × List Rec)
  | [] => none
  | r :: l => if r.queue = q then some (r, l) else (takeRec q l).map fun x => (x.1, r :: x.2)

/-- The BUF_DEFER records of a queue whose ring is full are dropped, and counted for their partitions (R297). -/
def State.dropProgress (s : State) (q : Nat) : State :=
  let gone := s.recs.filter fun r => r.queue == q && r.progress
  (gone.filterMap Rec.part).foldl (fun (s : State) p => s.inc .PART_CMD_DEFER_DROPPED p 1)
    { s with recs := s.recs.filter fun r => !(r.queue == q && r.progress) }

/-- COMPLETION_RECORD (R292, R297, R298): the queue's oldest record is written if its ring has room; BUF_DEFER records that meet a
full ring are counted and dropped. -/
def execCompletionRecord (q : Fin 16384) (s : State) : Host.Outcome State Fault Refusal :=
  .next (match takeRec q.val s.recs with
    | some (r, l) => if s.ringRoom q.val then (({ s with recs := l }).writeRecord r).noteRecord r else s.dropProgress q.val
    | none => s)

end Sys2Proof.Machine
end

