-- ==== Sys2Proof/Machine/Firmware.lean ====
section
/-! DEFINITION. Firmware slots and boot, live update, the settings store, debug access and tenant keys (R401 to R410, R413 to R416,
R418, R421, R422). -/

namespace Sys2Proof.Machine

/-- The image that bytes spell: the layout of its header is not given (R401; log entry 8). -/
def imageOf (b : Bytes) : Image :=
  { bytes := b
    signer := (Config.imageSigner b).map fun k => k.val
    svn := (Config.imageSvn b).val
    mirrorMin := Config.imageMirrorMin b
    mirrorFormat := Config.imageMirrorFormat b
    microcode := (Config.imageMicrocode b).toNat
    schema := (Config.imageSchema b).toNat }

/-- The image of a firmware slot: 0 A, 1 B (R401). -/
def State.slotImage (s : State) (b : Nat) : Option Image := if b = 0 then s.sec.slotA else s.sec.slotB

/-- The boot slot and the previous slot (R401). -/
def State.bootSlot (s : State) : Nat := s.get .GCTL_FW_STAT_BOOT_SLOT 0
def State.prevSlot (s : State) : Nat := 1 - s.bootSlot

/-- The checks of R402, with the code that STAGE_RESULT gives a failure: 2 signature, 3 revoked key, 4 SVN, 5 no image; 0 passes. -/
def State.imageFail (s : State) (i : Option Image) : Nat := match i with
  | none => 5
  | some i => match i.signer with
    | none => 2
    | some k => if s.fuses.revoked.testBit k then 3 else if i.svn < s.fuses.svn then 4 else 0

/-- A record checks (R407): length, digest, signature under an installed owner key, GEN as the index has it. -/
def State.recordDigestOk (r : Settings) : Bool :=
  u32 r.header 8 == r.body.length && decide (16 ≤ r.body.length) && decide (r.body.length ≤ 65536) &&
  sha256 r.body == (r.header.drop 16).take 32
def State.recordSigned (s : State) (r : Settings) : Bool :=
  s.sec.ownerKey.isEmpty || ecdsaVerify s.sec.ownerKey (r.header.take 48) ((r.header.drop 48).take 96)
def State.recordChecks (s : State) (r : Settings) : Bool :=
  State.recordDigestOk r && s.recordSigned r && Tab.get 0 s.sec.index r.schema == r.gen

/-- The record of the highest schema up to `max` that checks (R408). -/
def State.pickSettings (s : State) (max : Nat) : Option Settings :=
  (s.sec.settings.filter fun r => decide (r.schema ≤ max) && s.recordChecks r).foldl (fun (a : Option Settings) r => match a with
    | some x => if x.schema < r.schema then some r else some x
    | none => some r) none

/-- Records that fail their check are logged (R408). -/
def State.logBadRecords (s : State) (max : Nat) : State :=
  (s.sec.settings.filter fun r => decide (r.schema ≤ max) && !s.recordChecks r).foldl (fun (s : State) r => s.event 0xC003 r.schema r.gen) s

/-- A record of a schema enters the store, with its index entry (R407, R410). -/
def State.storeRecord (s : State) (r : Settings) : State :=
  { s with sec := { s.sec with
      settings := s.sec.settings.filter (fun x => x.schema != r.schema) ++ [r]
      index := Tab.put 0 s.sec.index r.schema r.gen } }

/-- A record of the firmware's own schema is translated from the selected one, if the store has none that checks (R408). -/
def State.translate (s : State) (own : Nat) (r : Settings) : State :=
  if s.sec.settings.any fun x => x.schema == own && s.recordChecks x then s
  else
    let b := Config.settingsAs r.schema own r.body
    s.storeRecord ⟨own, Tab.get 0 s.sec.index own + 1, Config.settingsHeader own b, b⟩

/-- The settings that a firmware image selects (R408, R409). -/
def State.selectSettings (s : State) (own : Nat) : State :=
  let s := s.logBadRecords own
  match s.pickSettings own with
  | some r =>
    let s := s.translate own r
    ({ s with sec := { s.sec with selected := some r } }).put .GCTL_FW_STAT_SCHEMA 0 r.schema |>.put .GCTL_FW_STAT_UNREADABLE 0 0
  | none => (({ s with sec := { s.sec with selected := none } }).put .GCTL_FW_STAT_UNREADABLE 0 1).event 0xC004 0 0

/-- The core set-point code of the settings, or that of 800 mV (R352). -/
def State.settingsPoint (s : State) : Nat := match s.sec.selected with
  | some r => if u16 r.fields 24 = 0 then 40 else (u16 r.fields 24 - 600) / 5
  | none => 40

/-- The selected settings take effect (Table 19-2), but for the locks and the core set-point. -/
def State.applySettings (s : State) : State := match s.sec.selected with
  | none => s
  | some r =>
    let b := r.fields
    let s := (s.put .REEL_REFSET_PORTS 0 (u64 b 8)).put .REEL_CFG_LOCK_FRAMES 0 (u8 b 16) |>.put .REEL_CFG_SLACK_WARN 0 (u16 b 17)
    let t := u32 b 20
    let s := (List.range 64).foldl (fun (s : State) n =>
      (((s.put .TETH_CFG_ENABLE n (nat01 (bit (u64 b 0) n))).put .TETH_CFG_NARROW_EN n (bits t 1 1)).put .TETH_CFG_LANE_ERR_LIMIT n
        (bits t 15 8)).put .TETH_CFG_UNCORR_LIMIT n (bits t 31 16)) s
    let s := (s.put .STRM_SCRUB_CFG_INTERVAL 0 (u32 b 28)).put .LOGB_CFG_RATE_NEW 0 (u8 b 32)
    ((s.put .PWR_CFG_LIMIT 0 (min (u32 b 36) s.fuses.limit)).put .PWR_CFG_DROOP_WARN 0 (u8 b 40)).put .PWR_CFG_DROOP_FAIL 0 (u8 b 41)

/-- The locks of the settings are set at the end of bring-up (Table 19-2). -/
def State.lockSettings (s : State) : State := match s.sec.selected with
  | none => s
  | some r =>
    let m := u16 r.fields 48
    let s := if m.testBit 0 then s.put .REEL_CFG_LOCK 0 1 else s
    let s := if m.testBit 1 then s.put .PWR_CFG_LOCK 0 1 else s
    if m.testBit 2 then s.put .LOGB_CFG_LOCK 0 1 else s

/-- Bring-up is complete (R350): the locks, the signature, and the training of every enabled port. -/
def State.completeBringUp (s : State) : State :=
  let s := (s.lockSettings.put .GCTL_STAT_UP 0 1).put .PWR_STAT_PHASE 0 1
  let s := s.put .ID_SIGNATURE_SIG 0 (s.signatureOf s.bootMicrocode)
  (List.range 64).foldl (fun (s : State) n => s.tryTrain n) s

/-- An image runs (R402, R408): BOOT_SVN, the settings that it selects. -/
def State.runImage (s : State) (i : Image) : State :=
  (s.put .GCTL_FW_STAT_BOOT_SVN 0 i.svn).selectSettings i.schema

/-- The boot slot and the previous slot exchange roles. -/
def State.swapSlots (s : State) : State := s.put .GCTL_FW_STAT_BOOT_SLOT 0 s.prevSlot

/-- A half has booted an image (R420). -/
def State.halfBoots (s : State) (g v : Nat) (i : Image) : State := (s.setHalf g v).event 0xC000 g i.svn

/-- Both halves boot (R402): the boot slot, else the previous slot, else neither; halves in `failed` stay failed. -/
def State.bootHalves (s : State) (failed : List Nat) : State :=
  let f := s.imageFail s.bootImage
  let s := if f = 0 then s else s.event 0xC001 s.bootSlot f
  let g := s.imageFail (s.slotImage s.prevSlot)
  let s := if f = 0 then s else if g = 0 then s.swapSlots else s.event 0xC001 s.prevSlot g
  match s.bootImage with
  | some i =>
    if f ≠ 0 ∧ g ≠ 0 then (s.setHalf 0 4).setHalf 1 4
    else
      let gw := !failed.contains 248
      let ge := !failed.contains 249
      let s := if gw then s.halfBoots 0 2 i else s.setHalf 0 4
      let s := if ge then s.halfBoots 1 (if gw then 3 else 2) i else s.setHalf 1 4
      let s := { s with gondola := { s.gondola with firmware := if gw then 0 else 1 } }
      if gw || ge then (s.put .GCTL_FW_STAT_CONFIRMED 0 (nat01 s.sec.confirmed)).runImage i else s
  | none => (s.setHalf 0 4).setHalf 1 4

/-- STAGE (R404): the image is read into the previous slot and checked. -/
def State.stage (s : State) : State :=
  let i := imageOf (s.hostRead (s.get .GCTL_FW_IMG_BASE 0 * 4096) (s.get .GCTL_FW_IMG_LENGTH 0 * 4096))
  let f := s.imageFail (some i)
  if f = 0 then
    (if s.prevSlot = 0 then { s with sec := { s.sec with slotA := some i } } else { s with sec := { s.sec with slotB := some i } }).put
      .GCTL_FW_STAT_STAGE_RESULT 0 1
  else (s.put .GCTL_FW_STAT_STAGE_RESULT 0 f).event 0xC001 s.prevSlot f

def execStage (mem : List (Nat × Byte)) (s : State) : Host.Outcome State Fault Refusal :=
  let s := { s with host := Mem.writeCells s.host mem }
  .next (s.whenBooted (if s.sec.bootedOnce then s.ignored 0x1810 else s.stage))

/-- HANDOVER (R405): a live update starts at the next edge. -/
def execHandover (s : State) : Host.Outcome State Fault Refusal :=
  .next (s.whenBooted (s.atNextEdge .handover))

/-- A handover at its edge: the standby half reboots from the staged slot. -/
def State.startHandover (s : State) : State :=
  let g := 1 - s.gondola.firmware
  if s.gondola.handover = 0 ∧ s.halfState g = 3 then
    { s.setHalf g 1 with gondola := { s.gondola with handover := 2 } }
  else s

/-- The checks of a handover pass (R405): R402, the mirror format, a settings record. -/
def State.handoverPasses (s : State) (old new : Image) : Bool :=
  s.imageFail (some new) == 0 && decide (new.mirrorMin ≤ old.mirrorFormat) && (s.pickSettings new.schema).isSome

/-- The new firmware takes over (R405): the slots exchange roles and the other half reboots. -/
def State.handOver (s : State) (new : Image) : State :=
  let g := 1 - s.gondola.firmware
  let s := ((s.setHalf (1 - g) 1).takeOver g).swapSlots
  let s := { s with
    sec := { s.sec with bootedOnce := true, confirmed := false, fallback := false }
    gondola := { s.gondola with handover := 3 } }
  let s := ((s.put .GCTL_FW_STAT_HANDOVER_RESULT 0 1).put .GCTL_FW_STAT_CONFIRMED 0 0).event 0xC000 g new.svn
  let s := s.runImage new
  s.put .ID_SIGNATURE_SIG 0 (s.signatureOf new.microcode)

/-- The standby half reboots from the old slot (R405). -/
def State.handoverFails (s : State) : State :=
  (({ s with gondola := { s.gondola with handover := 3 } }).put .GCTL_FW_STAT_HANDOVER_RESULT 0 2).event 0xC002 0 2

/-- HANDOVER_TAKEOVER (R405), at a frame edge. -/
def execHandoverTakeover (s : State) : Host.Outcome State Fault Refusal :=
  .next (if s.gondola.handover = 2 ∧ s.atEdge = true then
    match s.bootImage, s.slotImage s.prevSlot with
    | some old, some new => if s.handoverPasses old new then s.handOver new else s.handoverFails
    | _, _ => s.handoverFails
  else s)

/-- STANDBY_REBOOT_DONE (R405): the other half has rebooted and is the standby. -/
def execStandbyRebootDone (s : State) : Host.Outcome State Fault Refusal :=
  let g := 1 - s.gondola.firmware
  .next (if s.gondola.handover = 3 ∧ s.halfState g = 1 then
    { (s.setHalf g 3).event 0xC000 g (s.get .GCTL_FW_STAT_BOOT_SVN 0) with gondola := { s.gondola with handover := 0 } }
  else s)

/-- CONFIRM (R406): SVN fuses are blown up to the boot image's SVN, and the update is confirmed. -/
def State.confirm (s : State) : State :=
  let v := s.get .GCTL_FW_STAT_BOOT_SVN 0
  let n := max s.fuses.svn v
  let s := { s with
    fuses := { s.fuses with svn := n }
    sec := { s.sec with bootedOnce := false, confirmed := true } }
  ((s.put .GCTL_FW_STAT_FUSED_SVN 0 n).put .GCTL_FW_STAT_CONFIRMED 0 1).event 0xC005 0 v

def execConfirm (s : State) : Host.Outcome State Fault Refusal := .next (s.whenBooted s.confirm)

/-- FALLBACK is refused (R406): the update is confirmed, or the previous image's SVN lies below the fused one. -/
def State.fallbackRefused (s : State) : Bool := s.sec.confirmed || (match s.slotImage s.prevSlot with
  | some i => decide (i.svn < s.fuses.svn)
  | none => true)

/-- FALLBACK (R406): the swap takes effect at the next handover or module reset. -/
def execFallback (s : State) : Host.Outcome State Fault Refusal :=
  .next (s.whenBooted (if s.fallbackRefused then s.ignored 0x1810
    else ({ s with sec := { s.sec with fallback := true } }).event 0xC005 1 (s.get .GCTL_FW_STAT_BOOT_SVN 0)))

/-- The settings record that stands in host memory (R407, R410). -/
def State.hostRecord (s : State) : Settings :=
  let a := s.get .GCTL_SET_ADDR_BASE 0 * 16
  let h := s.hostRead a 144
  ⟨u16 h 0, u32 h 4, h, s.hostRead (a + 144) (min (u32 h 8) 65536)⟩

/-- The cause for which a settings record is refused (R410): 2 schema, 3 digest, 4 signature, 5 generation; 1 accepted. -/
def State.recordResult (s : State) (r : Settings) : Nat :=
  let own := match s.bootImage with
    | some i => i.schema
    | none => 0
  if r.schema = 0 ∨ own < r.schema then 2
  else if State.recordDigestOk r = false then 3
  else if s.recordSigned r = false then 4
  else if r.gen ≠ Tab.get 0 s.sec.index r.schema + 1 then 5
  else 1

/-- An accepted record that ends SETTINGS_UNREADABLE takes effect at once, and bring-up completes from Ring 7 (R409, R410). -/
def State.readableAgain (s : State) : State :=
  let own := match s.bootImage with
    | some i => i.schema
    | none => 0
  let s := s.selectSettings own
  if s.get .GCTL_FW_STAT_UNREADABLE 0 = 1 then s
  else
    let s := s.applySettings
    let p := s.settingsPoint
    let s := (List.range 96).foldl (fun (s : State) n =>
      if s.get .CORE_BIND_DISABLED n = 1 then s else s.put .PWR_DOM_STAT_SETPOINT n (max p (s.get .CORE_BIST_VMIN n + 5))) s
    if s.power.ring = 8 then ((List.range 16).foldl (fun (s : State) e => s.recheckLaser e) s).completeBringUp else s

/-- SETTINGS_WRITE (R410). -/
def State.writeSettings (s : State) : State :=
  let r := s.hostRecord
  let v := s.recordResult r
  let s := s.put .GCTL_FW_STAT_SET_RESULT 0 v
  if v = 1 then
    (let s := s.storeRecord r
     if s.get .GCTL_FW_STAT_UNREADABLE 0 = 1 then s.readableAgain else s)
  else s

def execSettingsWrite (mem : List (Nat × Byte)) (s : State) : Host.Outcome State Fault Refusal :=
  let s := { s with host := Mem.writeCells s.host mem }
  .next (s.whenBooted (s.viaFirmware (.settingsWrite []) s.writeSettings))

/-- The debug challenge: 32 bytes (R418). -/
def State.challengeBytes (s : State) : Bytes := (List.range 4).flatMap fun i => natLE 8 (s.getA .GCTL_DBG_CHAL_CHALLENGE i)

/-- A new challenge. -/
def State.newChallenge (s : State) : State := (List.range 4).foldl (fun (s : State) i =>
  let d := s.draw
  d.2.putA .GCTL_DBG_CHAL_CHALLENGE i d.1) s

/-- Whose token stands in host memory: 0 a root key's, 1 the owner key's (R418). -/
def State.tokenSigner (s : State) : Option Nat :=
  let t := s.hostRead (s.get .GCTL_DBG_ADDR_BASE 0 * 16) 96
  let c := s.challengeBytes
  if (List.range 4).any fun k => !s.fuses.revoked.testBit k && ecdsaVerify (Config.romKey k) c t then some 0
  else if !s.sec.ownerKey.isEmpty && ecdsaVerify s.sec.ownerKey c t then some 1
  else none

/-- Debug opening (R418): keys are erased, device and alias keys locked, all memory is cleared; the port opens when it is. -/
def State.openDebug (s : State) (who : Nat) : State :=
  let s := (List.range 16).foldl (fun (s : State) p => s.eraseKeys p) s
  let s := { s with sec := { s.sec with keysLocked := true, opening := true, rootOpened := s.sec.rootOpened || who == 0 } }
  let s := (List.range 96).foldl (fun (s : State) n => if s.get .CORE_BIND_DISABLED n = 1 then s else s.atNextEdge (.core n 5)) s
  let s := (List.range 2304).foldl (fun (s : State) g => s.queuePage g) s
  s.event 0xC007 who 0

/-- OPEN (R418). -/
def execOpenDebug (mem : List (Nat × Byte)) (s : State) : Host.Outcome State Fault Refusal :=
  let s := { s with host := Mem.writeCells s.host mem }
  .next (s.whenBooted (
    let free := (List.range 16).all fun p => !s.created p
    let t := if free then (match s.tokenSigner with
      | some w => s.openDebug w
      | none => s) else s
    t.newChallenge))

/-- The test access port opens once every clearing of a debug opening has ended (R418). -/
def State.edgeOpen (s : State) : State :=
  if s.sec.opening = true ∧ ((List.range 96).all fun n => (s.core n).clearing.isNone) = true ∧ s.carrier.clearing = [] ∧
     ((List.range 48).all fun m => (Tab.get none s.carrier.active m).isNone) = true ∧
     (s.edge.all fun r => match r with
       | .core _ _ => false
       | _ => true) = true then
    { s.put .GCTL_DBG_ADDR_IS_OPEN 0 1 with sec := { s.sec with opening := false } }
  else s

/-- A debug opening is under way or in force. -/
def State.debugOpen (s : State) : Bool := s.sec.opening || s.get .GCTL_DBG_ADDR_IS_OPEN 0 == 1

/-- KEY_LOAD (R414), at the next edge. -/
def execKeyLoad (p : Fin 16) (slot : Fin 16) (s : State) : Host.Outcome State Fault Refusal :=
  .next (s.whenBooted (s.atNextEdge (.keyLoad p.val slot.val)))

/-- KEY_ERASE (R415), at the next edge. -/
def execKeyErase (p : Fin 16) (slot : Fin 16) (s : State) : Host.Outcome State Fault Refusal :=
  .next (s.whenBooted (s.atNextEdge (.keyErase p.val slot.val)))

/-- KEY_ERASE_ALL (R415), at the next edge. -/
def execKeyEraseAll (p : Fin 16) (s : State) : Host.Outcome State Fault Refusal :=
  .next (s.whenBooted (s.atNextEdge (.keyEraseAll p.val)))

/-- The key that KEY_IN carries for slot k (R414). -/
def State.unwrapKey (s : State) (p k : Nat) : Option Bytes :=
  let x := (s.part p).keys
  let b := fitBytes 136 x.keyIn
  match x.secret with
  | none => none
  | some d => match ecdh d (b.take 96) with
    | none => none
    | some z =>
      let kek := hkdf384 (natLE 4 (s.get .PART_STATE_GEN p) ++ natLE 1 p) z ([0x41, 0x47, 0x4B, 0x45, 0x59] ++ natLE 1 k) 32
      keyUnwrap kek (b.drop 96)

/-- A key load at its edge (R414 to R416). -/
def State.loadKey (s : State) (p k : Nat) : State :=
  match (if s.debugOpen then none else s.unwrapKey p k) with
  | some key =>
    let s := s.modPart p fun x => { x with keys := { x.keys with
      keys := Tab.put [] x.keys.keys k key
      ivs := if Tab.get [] x.keys.ivKeys k = key then x.keys.ivs else Tab.put 0 x.keys.ivs k 0
      ivKeys := Tab.put [] x.keys.ivKeys k key } }
    let m := s.get .PART_KEY_STAT_LOADED p
    if m.testBit k then s else s.put .PART_KEY_STAT_LOADED p (m + 2 ^ k)
  | none => (s.inc .PART_KEY_STAT_REFUSED p 1).event 0xC006 p k

/-- An erase of one slot at its edge (R415). -/
def State.eraseKey (s : State) (p k : Nat) : State :=
  let s := s.modPart p fun x => { x with keys := { x.keys with keys := Tab.put [] x.keys.keys k [] } }
  let m := s.get .PART_KEY_STAT_LOADED p
  if m.testBit k then s.put .PART_KEY_STAT_LOADED p (m - 2 ^ k) else s

/-- An erase of every slot at its edge (R415). -/
def State.eraseAllKeys (s : State) (p : Nat) : State :=
  (s.modPart p fun x => { x with keys := { x.keys with keys := [] } }).put .PART_KEY_STAT_LOADED p 0

end Sys2Proof.Machine
end

