-- ==== Sys2Proof/Machine/BringUp.lean ====
section
/-! DEFINITION. Module reset, bring-up ring by ring, and the host links (R136, R343, R350 to R352, R362, R389, R390, R402, R430 to
R432). -/

namespace Sys2Proof.Machine

/-- Domain d fails in bring-up (R346, R351). -/
def State.bringUpFail (s : State) (d : Nat) : State :=
  let s := ((s.domainCause d 1).put .PWR_DOM_STAT_STATE d 5).inc .PWR_DOM_STAT_STAGE_FAILS d 1
  (s.setDomain d { s.domain d with failed := true, stage := 0 }).countFailed

/-- A domain is on after bring-up, with a calibrated baseline, a free value of the module, where it has a droop detector (R350,
R362). -/
def State.bringUpOn (s : State) (d : Nat) (baseline : Bool) : State :=
  let s := (s.put .PWR_DOM_STAT_STATE d 2).setDomain d { s.domain d with failed := false, stage := 0, waiting := false }
  if baseline then (let r := s.draw; r.2.putA .PWR_DOM_DROOP_BASELINE d r.1) else s

/-- A die-uncore domain of a ring (R350, R351): `n` of its two regulator groups fail. -/
def State.bringUpUncore (s : State) (d n : Nat) : State :=
  if n = 0 then s.bringUpOn d true
  else
    let s := ((s.domainCause d 1).put .PWR_DOM_STAT_GROUP_LOST d 1).setDomain d { s.domain d with groupsLost := n }
    if n = 1 then s.bringUpOn d true else s.bringUpFail d

/-- The inner links of a die column train: within the column and to the previous one (R157, R350). -/
def State.trainLinks (s : State) (col : Nat) : State :=
  (List.range 4).foldl (fun (s : State) r =>
    let d := 4 * col + r
    let s := if 0 < r then s.put .CORE_BRIDLE_LINK_STATE (4 * d) 1 else s
    let s := if r < 3 then s.put .CORE_BRIDLE_LINK_STATE (4 * d + 2) 1 else s
    if 0 < col then (s.put .CORE_BRIDLE_LINK_STATE (4 * d + 3) 1).put .CORE_BRIDLE_LINK_STATE (4 * (d - 4) + 1) 1 else s) s

/-- An HBM domain of a ring (R351). -/
def State.bringUpStack (s : State) (m : Nat) (bad : Bool) : State :=
  if bad then (s.bringUpFail (120 + m)).stackState m 4
  else (s.bringUpOn (120 + m) true).put .HBM_STAT_STATE m 1

/-- A core domain of a ring: its set-point, its microcode, and its clearing with cause 3 (R136, R351, R352, R403). -/
def State.bringUpCore (s : State) (n : Nat) (bad : Bool) : State :=
  if s.get .CORE_BIND_DISABLED n = 1 then s
  else
    let s := s.put .PWR_DOM_STAT_SETPOINT n (max s.settingsPoint (s.get .CORE_BIST_VMIN n + 5))
    if bad then (s.bringUpFail n).put .CORE_BIND_FENCED n 1
    else ((s.put .CORE_BIST_MICROCODE n s.bootMicrocode).bringUpOn n true).atNextEdge (.core n 3)

/-- How often a list names a number. -/
def timesIn (l : List Nat) (x : Nat) : Nat := (l.filter (· == x)).length

/-- Bring-up stops (R351): a carrier fault. -/
def State.stopBringUp (s : State) : State := (s.put .PWR_STAT_PHASE 0 2).put .GCTL_STAT_STOPPED 0 1

/-- A die column's ring (R350, R351). -/
def State.columnRing (s : State) (col : Nat) (failed : List Nat) : State :=
  let dies := (List.range 4).map fun r => 4 * col + r
  let s := dies.foldl (fun (s : State) d => s.bringUpUncore (96 + d) (timesIn failed (96 + d))) s
  if dies.any fun d => decide (2 ≤ timesIn failed (96 + d)) then s.stopBringUp
  else
    let s := s.trainLinks col
    let s := (List.range 8).foldl (fun (s : State) i => s.bringUpStack (8 * col + i) (failed.contains (120 + 8 * col + i))) s
    (List.range 16).foldl (fun (s : State) i => s.bringUpCore (16 * col + i) (failed.contains (16 * col + i))) s

/-- The converter bricks and the identities that the Gondola copies at bring-up (R343, R432); what they read is the
installation's. -/
def State.readModules (s : State) : State :=
  let s := (List.range 18).foldl (fun (s : State) b =>
    if s.get .PWR_BRICK_STATE b = 0 then
      (let w := s.draw
       let t := w.2.draw
       (((t.2.put .PWR_BRICK_STATE b 1).putA .PWR_BRICK_OUT_W b w.1).putA .PWR_BRICK_TEMP b t.1).fruCopy (0x800 + 0x20 * b)
         (fitBytes 32 (Config.attached b)) .FRU_STAT_BRICK_VALID b true)
    else s) s
  let s := (s.fruCopy 0xC00 (fitBytes 128 (Config.attached 18)) .FRU_STAT_SHUFFLE_VALID 0 true).fruCopy 0xD00
    (fitBytes 64 (Config.attached 19)) .FRU_STAT_SENSOR_VALID 0 true
  s.countBricks

/-- Ring 0 (R350, R390, R402): the Gondola's halves, the firmware's boot, the settings. -/
def State.gondolaRing (s : State) (failed : List Nat) : State :=
  let s := [248, 249].foldl (fun (s : State) d => if failed.contains d then s.bringUpFail d else s.bringUpOn d true) s
  let s := s.put .LOGB_TIME_POWER_CYCLES 0 (satW 16 (s.get .LOGB_TIME_POWER_CYCLES 0 + 1))
  let s := s.bootHalves failed
  if s.booted then s.readModules.applySettings else s

/-- A laser module that is present at Ring 7 (R264, R351). -/
def State.bringUpLaser (s : State) (e : Nat) (bad : Bool) : State :=
  if (s.laser e).present = false then s
  else if bad then s.bringUpFail (232 + e)
  else s.checkLaser e

/-- Ring 7 (R350, R351, R409): optical engines, then laser modules; with unreadable settings the ports stay DARK. -/
def State.opticsRing (s : State) (failed : List Nat) : State :=
  let s := (List.range 64).foldl (fun (s : State) n =>
    if failed.contains (168 + n) then s.bringUpFail (168 + n) else (s.bringUpOn (168 + n) true).setPortState n 1) s
  let s := (List.range 16).foldl (fun (s : State) e => s.bringUpLaser e (failed.contains (232 + e))) s
  if s.get .GCTL_FW_STAT_UNREADABLE 0 = 1 then
    (s.put .GCTL_STAT_UP 0 1).put .ID_SIGNATURE_SIG 0 (s.signatureOf s.bootMicrocode)
  else s.completeBringUp

/-- A column ring has finished its clearing (R350, step 5). -/
def State.ringCleared (s : State) : Bool :=
  ((List.range 96).all fun n => (s.core n).clearing.isNone) &&
  s.edge.all fun r => match r with
    | .core _ _ => false
    | _ => true

/-- The next ring may start (R350): bring-up is under way, the Gondola has booted, and the ring before it has finished. -/
def State.mayRing (s : State) : Bool :=
  s.get .PWR_STAT_PHASE 0 == 0 && s.get .GCTL_STAT_STOPPED 0 == 0 && decide (s.power.ring ≤ 7) &&
  (s.power.ring == 0 || (s.booted && s.ringCleared))

/-- BRING_UP_RING (R350, R351): `failed` names the domains that fail, a die-uncore domain once for each regulator group. -/
def execBringUpRing (failed : List Nat) (s : State) : Host.Outcome State Fault Refusal :=
  .next (if s.mayRing then
    (let r := s.power.ring
     let s := { s.put .PWR_STAT_RING 0 r with power := { s.power with ring := r + 1 } }
     if r = 0 then s.gondolaRing failed
     else if r = 7 then s.opticsRing failed
     else s.columnRing (r - 1) failed)
  else s)

/-- RING_TIMEOUT (R351): a ring over its time limit. -/
def execRingTimeout (s : State) : Host.Outcome State Fault Refusal :=
  .next (if s.get .PWR_STAT_PHASE 0 = 0 ∧ s.power.ring ≤ 8 ∧ s.get .GCTL_STAT_STOPPED 0 = 0 ∧ s.get .GCTL_STAT_UP 0 = 0 then s.stopBringUp else s)

/-- Fields that a module reset keeps: the logbook's from its store, the host links' from the links (R13, R389, R430). -/
def keptFields : List Field :=
  [Field.LOGB_TIME_LAST_ORDERLY, Field.LOGB_TIME_POWER_CYCLES,
   Field.LOGB_TIME_OP_SEC, Field.GCTL_HOST_UP0, Field.GCTL_HOST_UP1, Field.GCTL_HOST_FULL0, Field.GCTL_HOST_FULL1,
   Field.GCTL_FW_STAT_BOOT_SLOT]

/-- The logbook after a loss of power: what its store holds (R389, R400). -/
def State.reloadBook (s : State) : State :=
  let t := s.book.storeTime
  let c := s.book.storeCounts
  let s := { s with book := { s.book with tallies := s.book.stored, hists := s.book.storedHists, created := [], queue := [], opBase := t % 2 ^ 32 } }
  let s := ((s.putA .LOGB_SEQ_SEQ 0 c.1).putA .LOGB_STAT_OVERWRITTEN 0 c.2.1).putA .LOGB_STAT_LOST 0 c.2.2
  ((s.put .LOGB_TIME_OP_SEC 0 (t % 2 ^ 32)).put .LOGB_TIME_POWER_CYCLES 0 (bits t 47 32)).put .LOGB_TIME_LAST_ORDERLY 0 (bits t 48 48)

/-- Everything at its reset value but what no module reset changes: the commands that wait, fuses, host memory, the firmware and
settings stores, the owner key, the book, the laser modules in their bays, the PCIe configuration (R13, R430). A handover whose other
half has yet to reboot is abandoned, and the boot slot is the one that it replaced (R430). -/
def State.resetTo (s : State) (cause : Nat) : State :=
  let owner := match s.sec.nextOwner with
    | some k => k
    | none => s.sec.ownerKey
  let fuses : Fuses := { s.fuses with ownerDigest := if s.sec.nextOwner.isSome then sha384 owner else s.fuses.ownerDigest }
  let bays : Tab Laser := s.lasers.map fun x => (x.1, { x.2 with swapping := false })
  let t : State := { State.reset with
    pending := s.pending
    free := s.free
    fuses := fuses
    regs := resetRegs fuses
    host := s.host
    lasers := bays
    sec := { Security.init with
      slotA := s.sec.slotA
      slotB := s.sec.slotB
      bootedOnce := s.sec.bootedOnce
      confirmed := s.sec.confirmed
      settings := s.sec.settings
      index := s.sec.index
      ownerKey := owner }
    book := { s.book with opBase := s.get .LOGB_TIME_OP_SEC 0, views := [], queue := [], frozenAt := 0, storeDue := false }
    vfs := s.vfs
    out := s.out }
  let t := keptFields.foldl (fun (t : State) f => t.put f 0 (s.get f 0)) t
  let t := [Field.LOGB_STAT_OVERWRITTEN, Field.LOGB_STAT_LOST, Field.LOGB_SEQ_SEQ].foldl (fun (t : State) f => t.putA f 0 (s.getA f 0)) t
  let t := if s.sec.fallback || (s.gondola.handover == 3 && s.get .GCTL_FW_STAT_HANDOVER_RESULT 0 == 1) then t.swapSlots else t
  let t := if cause = 0 then t.reloadBook else t
  t.put .GCTL_STAT_RESET_CAUSE 0 cause

/-- MODULE_RESET (R430): tasks end without records, the book is stored, every register takes its reset value. A power-on finds the
book as its store holds it (R389); other requests are ignored until UP is 1. -/
def execModuleReset (cause : Fin 3) (s : State) : Host.Outcome State Fault Refusal :=
  .next (if cause.val = 0 then s.resetTo 0
  else if s.get .GCTL_STAT_UP 0 = 1 then
    (let s := ((s.abortAll false).thaw).storeBook false
     s.resetTo cause.val)
  else s)

/-- The port that carries the requests of the engine (R431): PRIMARY while its link is up, else the other. -/
def State.activePort (s : State) : Nat :=
  let p := s.get .GCTL_HOST_PRIMARY 0
  let up := if p = 0 then s.get .GCTL_HOST_UP0 0 else s.get .GCTL_HOST_UP1 0
  if up = 1 then p else 1 - p

/-- HOST_LINK_CHANGE (R431): a link goes up or down; ACTIVE moves at the next edge. -/
def execHostLinkChange (h : Fin 2) (up full : Bool) (s : State) : Host.Outcome State Fault Refusal :=
  .next ((if h.val = 0 then (s.put .GCTL_HOST_UP0 0 (nat01 up)).put .GCTL_HOST_FULL0 0 (nat01 (up && full))
    else (s.put .GCTL_HOST_UP1 0 (nat01 up)).put .GCTL_HOST_FULL1 0 (nat01 (up && full))).atNextEdge (.host h.val))

end Sys2Proof.Machine
end

