-- ==== Sys2Proof/Machine/Attest.lean ====
section
/-! DEFINITION. The management bus and the logbook's own commands: I3C, SPDM, PLDM, store and freeze (R389, R398, R411, R412, R419,
R438). A reply carries the fields that the spec names; the framing of DSP0274 and DSP0248 is not modelled (log entry 32). -/

namespace Sys2Proof.Machine

/-- ENTDAA (R411): the dynamic address. -/
def State.setAddress (s : State) (addr : Nat) : State := { s with sec := { s.sec with address := some addr } }

def execEntdaa (addr : Fin 128) (s : State) : Host.Outcome State Fault Refusal :=
  .next (s.whenBooted (s.viaFirmware (.entdaa addr) (s.setAddress addr.val)))

/-- An SPDM reply goes out; the exchange's transcript grows by request and reply (R412). -/
def State.spdmReply (s : State) (request reply : Bytes) : State :=
  ({ s with sec := { s.sec with transcript := s.sec.transcript ++ request ++ reply } }).send (.spdm reply)

/-- An SPDM request that fails authentication is refused and logged (R412). -/
def State.spdmRefuse (s : State) : State := s.event 0xC008 0 0

/-- SHA-384 of the running image (R411, R412). -/
def State.imageDigest (s : State) : Bytes := match s.bootImage with
  | some i => sha384 (if i.bytes.isEmpty then Config.romBytes 3 else i.bytes)
  | none => sha384 []

/-- The certificate chain of slot 0: root, device, alias (R412). -/
def State.chain (s : State) : Bytes := Config.romBytes 0 ++ Config.romBytes 1 ++ Config.aliasCert s.imageDigest

/-- Digest of the chain. -/
def State.chainDigest (s : State) : Bytes := sha384 s.chain

/-- GET_VERSION (R412): SPDM 1.2; a new exchange begins. -/
def State.replyVersion (s : State) : State := ({ s with sec := { s.sec with transcript := [], negotiated := false } }).spdmReply [0x84] [0x12]

def execGetVersion (s : State) : Host.Outcome State Fault Refusal :=
  .next (s.whenBooted (s.viaFirmware .getVersion s.replyVersion))

/-- GET_CAPABILITIES (R412). -/
def State.replyCapabilities (s : State) : State := s.spdmReply [0xE1] Config.spdmCapabilities

def execGetCapabilities (s : State) : Host.Outcome State Fault Refusal :=
  .next (s.whenBooted (s.viaFirmware .getCapabilities s.replyCapabilities))

/-- NEGOTIATE_ALGORITHMS (R412): ECDSA P-384 and SHA-384 only. -/
def State.negotiate (s : State) (p384 sha384 : Bool) : State :=
  if p384 && sha384 then ({ s with sec := { s.sec with negotiated := true } }).spdmReply [0xE3, 1, 1] [1, 1] else s.spdmRefuse

def execNegotiateAlgorithms (p384 sha384 : Bool) (s : State) : Host.Outcome State Fault Refusal :=
  .next (s.whenBooted (s.viaFirmware (.negotiateAlgorithms p384 sha384) (s.negotiate p384 sha384)))

/-- GET_DIGESTS (R412): slot 0's chain. -/
def State.replyDigests (s : State) : State := s.spdmReply [0x81] s.chainDigest

def execGetDigests (s : State) : Host.Outcome State Fault Refusal :=
  .next (s.whenBooted (s.viaFirmware .getDigests s.replyDigests))

/-- GET_CERTIFICATE (R412): a portion of slot 0's chain. -/
def State.replyCertificate (s : State) (slot off len : Nat) : State :=
  if slot = 0 then s.spdmReply ([0x82, 0] ++ natLE 2 off ++ natLE 2 len) ((s.chain.drop off).take len) else s.spdmRefuse

def execGetCertificate (slot off len : Nat) (s : State) : Host.Outcome State Fault Refusal :=
  .next (s.whenBooted (s.viaFirmware (.getCertificate slot off len) (s.replyCertificate slot off len)))

/-- A request that asks for a signature: algorithms negotiated, slot 0, a nonce of 32 bytes. -/
def State.mayAttest (s : State) (slot : Nat) (nonce : Bytes) : Bool :=
  s.sec.negotiated && slot == 0 && nonce.length == 32

/-- The signed part of a reply: content, a nonce of the module, the alias key's signature over the transcript (R412). -/
def State.signedReply (s : State) (request content : Bytes) : State :=
  let d := s.draw
  let s := d.2
  let body := content ++ natLE 32 d.1
  let sig := Config.aliasSign s.imageDigest (s.sec.transcript ++ request ++ body)
  s.spdmReply request (body ++ sig)

/-- CHALLENGE (R412). -/
def State.replyChallenge (s : State) (slot : Nat) (nonce : Bytes) : State :=
  if s.mayAttest slot nonce then s.signedReply ([0x83, 0] ++ nonce) s.chainDigest else s.spdmRefuse

def execChallenge (slot : Nat) (nonce : Bytes) (s : State) : Host.Outcome State Fault Refusal :=
  .next (s.whenBooted (s.viaFirmware (.challenge slot nonce) (s.replyChallenge slot nonce)))

/-- The microcode levels in use, ascending (Table 19-3). -/
def State.levelsInUse (s : State) : List Nat :=
  ((List.range 96).filterMap fun n =>
    if s.get .CORE_BIND_DISABLED n = 1 then none else some (s.get .CORE_BIST_MICROCODE n)).foldl (fun acc x =>
      if acc.contains x then acc else acc.takeWhile (fun y => y < x) ++ [x] ++ acc.dropWhile (fun y => y < x)) []

/-- The content of a measurement (Table 19-3). -/
def State.measurement (s : State) (index : Nat) : Option Bytes :=
  if index = 1 then some (sha384 (Config.romBytes 2))
  else if index = 2 then some s.imageDigest
  else if index = 3 then some (s.levelsInUse.flatMap fun l => sha384 (Config.microcode l))
  else if index = 4 then (match s.sec.selected with
    | some r => some (sha384 (r.header ++ r.body))
    | none => some [])
  else if index = 5 then some (natLE 1 s.fuses.svn ++ natLE 1 s.fuses.revoked ++ fitBytes 48 s.fuses.ownerDigest ++ natLE 1 (nat01 s.debugOpen))
  else if 16 ≤ index ∧ index < 32 then
    (let p := index - 16
     let d := match (s.part p).bind.shape with
       | some v => v.digest
       | none => List.replicate 32 0
     some (natLE 4 (s.get .PART_STATE_GEN p) ++ fitBytes 32 d ++ (List.range 12).flatMap fun i => natLE 8 (s.getA .PART_KEY_PUB_KEY (p * 12 + i))))
  else none

/-- GET_MEASUREMENTS (R412, Table 19-3), signed with the alias key. -/
def State.replyMeasurement (s : State) (index : Nat) (nonce : Bytes) : State := match s.measurement index with
  | some m => if s.mayAttest 0 nonce then s.signedReply ([0xE0] ++ natLE 1 index ++ nonce) (natLE 1 index ++ m) else s.spdmRefuse
  | none => s.spdmRefuse

def execGetMeasurements (index : Nat) (nonce : Bytes) (s : State) : Host.Outcome State Fault Refusal :=
  .next (s.whenBooted (s.viaFirmware (.getMeasurements index nonce) (s.replyMeasurement index nonce)))

/-- OWNER_KEY_INSTALL (R419): once; after a debug opening with a root key's token, a replacement that the next module reset makes. -/
def State.installOwner (s : State) (key : Bytes) : State :=
  if key.length ≠ 96 then s
  else if s.sec.ownerKey.isEmpty then
    { s with sec := { s.sec with ownerKey := key }, fuses := { s.fuses with ownerDigest := sha384 key } }
  else if s.sec.rootOpened then { s with sec := { s.sec with nextOwner := some key } }
  else s

def execOwnerKeyInstall (key : Bytes) (s : State) : Host.Outcome State Fault Refusal :=
  .next (s.whenBooted (s.viaFirmware (.ownerKeyInstall key) (s.installOwner key)))

/-- A sensor's reading: 0 inlet, 1 outlet, 2 flow, 3 hottest core, 4 hottest HBM case (R438). What no event has told is the
installation's: a free value. -/
def State.sensor (s : State) (n : Nat) : Nat × State := match s.power.climate with
  | some (inlet, flow) => if n = 0 then (inlet, s) else if n = 2 then (flow, s) else s.draw
  | none => s.draw

/-- PLDM_SENSOR_READ (R438). -/
def State.replySensor (s : State) (sensor : Nat) : State :=
  let r := s.sensor sensor
  r.2.send (.pldm (natLE 4 r.1))

def execPldmSensorRead (sensor : Fin 5) (s : State) : Host.Outcome State Fault Refusal :=
  .next (s.whenBooted (s.viaFirmware (.pldmSensorRead sensor) (s.replySensor sensor.val)))

/-- PLDM_LOGBOOK_READ (R391, R398): bytes of the read window. -/
def State.replyBook (s : State) (off len : Nat) : State := s.send (.pldm ((List.range len).map fun i => s.windowByte (off + i)))

def execPldmLogbookRead (off len : Nat) (s : State) : Host.Outcome State Fault Refusal :=
  .next (s.whenBooted (s.viaFirmware (.pldmLogbookRead off len) (s.replyBook off len)))

/-- A request that waited for the end of a takeover is taken up (R378). -/
def State.mailed (s : State) (i : Instr) : State := match i with
  | .settingsWrite _ => s.writeSettings
  | .entdaa addr => s.setAddress addr.val
  | .getVersion => s.replyVersion
  | .getCapabilities => s.replyCapabilities
  | .negotiateAlgorithms p384 sha384 => s.negotiate p384 sha384
  | .getDigests => s.replyDigests
  | .getCertificate slot off len => s.replyCertificate slot off len
  | .challenge slot nonce => s.replyChallenge slot nonce
  | .getMeasurements index nonce => s.replyMeasurement index nonce
  | .ownerKeyInstall key => s.installOwner key
  | .pldmSensorRead sensor => s.replySensor sensor.val
  | .pldmLogbookRead off len => s.replyBook off len
  | _ => s

/-- It is, unless the takeover lasts. -/
def State.openMail (s : State) (i : Instr) : State := s.viaFirmware i (s.mailed i)

/-- LOGBOOK_STORE (R389): every 60 s of operating time; it waits while the book is frozen (R398). -/
def execLogbookStore (s : State) : Host.Outcome State Fault Refusal :=
  .next (if s.booted = true ∧ s.get .LOGB_FRZ_FROZEN 0 = 0 ∧ s.book.storeTime % 2 ^ 32 + 60 ≤ s.get .LOGB_TIME_OP_SEC 0 then s.storeBook false else s)

/-- FREEZE (R398). -/
def execFreeze (s : State) : Host.Outcome State Fault Refusal :=
  .next (s.whenBooted (if s.get .LOGB_FRZ_FROZEN 0 = 1 then s
    else { s.put .LOGB_FRZ_FROZEN 0 1 with book := { s.book with frozenAt := s.now } }))

/-- THAW (R398). -/
def execThaw (s : State) : Host.Outcome State Fault Refusal := .next (s.whenBooted s.thaw)

/-- FREEZE_TIMEOUT (R398): a freeze ends after 1 s, 1,600,000,000 core cycles. -/
def execFreezeTimeout (s : State) : Host.Outcome State Fault Refusal :=
  .next (if s.get .LOGB_FRZ_FROZEN 0 = 1 ∧ s.book.frozenAt + 1600000000 ≤ s.now then s.thaw else s)

/-- FREEZE_QUEUE_FULL (R398): a freeze ends when the queue holds 16,384 updates. -/
def execFreezeQueueFull (s : State) : Host.Outcome State Fault Refusal :=
  .next (if s.get .LOGB_FRZ_FROZEN 0 = 1 ∧ 16384 ≤ s.book.queue.length then s.thaw else s)

end Sys2Proof.Machine
end

