-- ==== Sys2Proof/Machine/Regs.lean ====
section
/-! DEFINITION. Host accesses to the registers: what a write of one or two words does under the access codes, what a read returns,
the locks, and accesses of a wrong size (R11 to R14, R270, R271, R281, R288, R296, R298, R301, R310, R328, R355, R364, R391, R400,
R414, R423 to R433). -/

namespace Sys2Proof.Machine

/-- The state that an outcome leaves. -/
def State.after (s : State) (o : Host.Outcome State Fault Refusal) : State := match o with
  | .next t => t
  | .fault _ => s
  | .refused _ => s

/-- All bits of a width. -/
def ones (w : Nat) : Nat := 2 ^ w - 1

/-- The value of a field after a write of the bits in `m` (R14). -/
def mergeBits (w old m x : Nat) : Nat := (old &&& (ones w ^^^ (m &&& ones w))) ||| (x &&& (m &&& ones w))

/-- The bits of a register-wide mask and value that belong to a field. -/
def Field.part (f : Field) (v : Nat) : Nat := bits v f.hi f.lo

/-- A field of a register that is written with value v under a mask (R11, R14); a lock is tested before. -/
def State.writeField (s : State) (f : Field) (i mask v : Nat) : State :=
  let m := f.part mask
  if m = 0 then s
  else match f.acc with
    | .ro => s
    | .wo => s
    | .w1c => if s.isFresh f i then s else s.put f i (s.get f i &&& (ones f.width ^^^ (f.part v &&& m)))
    | .rw => s.put f i (mergeBits f.width (s.get f i) m (f.part v))
    | .rws => s.put f i (mergeBits f.width (s.get f i) m (f.part v))
    | .rwl => s.put f i (mergeBits f.width (s.get f i) m (f.part v))

/-- Every field of a register is written. -/
def State.writeFields (s : State) (r : Reg) (i mask v : Nat) : State :=
  r.fields.foldl (fun (s : State) f => s.writeField f i mask v) s

/-- The value that a field would take. -/
def State.merged (s : State) (f : Field) (i mask v : Nat) : Nat := mergeBits f.width (s.get f i) (f.part mask) (f.part v)

/-- Bit b of a write is 1 and lies in a half that is written. -/
def setBit (mask v b : Nat) : Bool := bit (v &&& mask) b

/-- The lock bit of a register (R52, R364, R400). -/
def lockOf (r : Reg) : Option Field :=
  if r = Reg.REEL_CFG ∨ r = Reg.REEL_REFSET then some .REEL_CFG_LOCK
  else if r = Reg.PWR_CFG then some .PWR_CFG_LOCK
  else if r = Reg.LOGB_CFG then some .LOGB_CFG_LOCK
  else none

/-- A register is locked (R11). -/
def State.locked (s : State) (r : Reg) : Bool := match lockOf r with
  | some f => s.get f 0 == 1
  | none => false

/-- A write to a register that a lock may hold: ignored and logged once it is set (R11). -/
def State.lockedWrite (s : State) (r : Reg) (mask v off : Nat) : State :=
  if s.locked r then s.ignored off else s.writeFields r 0 mask v

/-- REEL_CFG_LOCK (R52): the fields take the value written and the lock is set. -/
def execReelCfgLock (value : BitVec 32) (s : State) : Host.Outcome State Fault Refusal :=
  .next (s.whenBooted (s.lockedWrite Reg.REEL_CFG (ones 32) (value.toNat ||| 2 ^ 31) 0x2000))

/-- PWR_CFG_LOCK (R364). -/
def execPwrCfgLock (value : BitVec 64) (s : State) : Host.Outcome State Fault Refusal :=
  .next (s.whenBooted (s.lockedWrite Reg.PWR_CFG (ones 64) (value.toNat ||| 2 ^ 63) 0x4000))

/-- LOGB_CFG_LOCK (R400). -/
def execLogbCfgLock (value : BitVec 32) (s : State) : Host.Outcome State Fault Refusal :=
  .next (s.whenBooted (s.lockedWrite Reg.LOGB_CFG (ones 32) (value.toNat ||| 2 ^ 31) 0x8000))

/-- A write to an access of a command row happens if its bit is set. -/
def State.actIf (s : State) (b : Bool) (f : State → Host.Outcome State Fault Refusal) : State := if b then s.after (f s) else s

/-- QTAB[q]_CMD (R270, R272, R296): BASE and LOG2 only while ENABLE is 0, LOG2 from 4 to 16, ENABLE at the next edge. -/
def State.writeQueueCmd (s : State) (q mask v off : Nat) : State :=
  let s := s.actIf (setBit mask v 62) (execQueueFaultClear (Fin.ofNat 16384 q))
  let on := s.get .QTAB_CMD_ENABLE q
  let b := s.merged .QTAB_CMD_BASE q mask v
  let l := s.merged .QTAB_CMD_LOG2 q mask v
  let differs := b != s.get .QTAB_CMD_BASE q || l != s.get .QTAB_CMD_LOG2 q
  let s := if differs = false then s
    else if on = 1 then s.ignored off
    else
      let s := s.put .QTAB_CMD_BASE q b
      if 4 ≤ l ∧ l ≤ 16 then s.put .QTAB_CMD_LOG2 q l else s.ignored off
  let e := s.merged .QTAB_CMD_ENABLE q mask v
  s.actIf (e != on) (execProtectionChange (.enable (Fin.ofNat 16384 q) (e == 1)))

/-- QTAB[q]_CPL (R270, R296, R298). -/
def State.writeQueueCpl (s : State) (q mask v off : Nat) : State :=
  let b := s.merged .QTAB_CPL_BASE q mask v
  let l := s.merged .QTAB_CPL_LOG2 q mask v
  let differs := b != s.get .QTAB_CPL_BASE q || l != s.get .QTAB_CPL_LOG2 q
  let s := s.put .QTAB_CPL_VECTOR q (s.merged .QTAB_CPL_VECTOR q mask v)
  if differs = false then s
  else if s.get .QTAB_CMD_ENABLE q = 1 then s.ignored off
  else
    let s := s.put .QTAB_CPL_BASE q b
    if 4 ≤ l ∧ l ≤ 16 then s.put .QTAB_CPL_LOG2 q l else s.ignored off

/-- PART[p]_CMD.QUOTA: a write that breaks the sum of 4,032 has no effect; a quota in force counts until it is bound anew (R281; log
entry 80). -/
def State.writeQuota (s : State) (p mask v off : Nat) : State :=
  let n := s.merged .PART_CMD_QUOTA p mask v
  let rest := sumN (((List.range 16).filter (· != p)).map fun k => max (s.get .PART_CMD_QUOTA k) (s.quotaOf k))
  if 4032 < rest + max n (s.quotaOf p) then s.ignored off else s.put .PART_CMD_QUOTA p n

/-- PART[p]_PROG[h]_CTL (R310): LENGTH; LOAD or CLEAR; a write of both has no effect. -/
def State.writeProgCtl (s : State) (i mask v off : Nat) : State :=
  let p := Fin.ofNat 16 (i / 32)
  let h := Fin.ofNat 32 (i % 32)
  if setBit mask v 63 && setBit mask v 62 then s.ignored off
  else ((s.put .PART_PROG_CTL_LENGTH i (s.merged .PART_PROG_CTL_LENGTH i mask v)).actIf (setBit mask v 63) (execProgLoad p h [])).actIf (setBit mask v 62) (execProgClear p h)

/-- PART[p]_KEY_CTL (R414, R415, R422): one of LOAD, ERASE and ERASE_ALL. -/
def State.writeKeyCtl (s : State) (p mask v off : Nat) : State :=
  let q := Fin.ofNat 16 p
  let k := Fin.ofNat 16 (bits (v &&& mask) 3 0)
  if 1 < nat01 (setBit mask v 31) + nat01 (setBit mask v 5) + nat01 (setBit mask v 4) then s.ignored off
  else ((s.actIf (setBit mask v 31) (execKeyLoad q k)).actIf (setBit mask v 4) (execKeyErase q k)).actIf (setBit mask v 5) (execKeyEraseAll q)

/-- Bytes with the bytes of a masked 8-byte write at place a. -/
def putBytes (bs : Bytes) (a mask v : Nat) : Bytes :=
  let old := le bs a 8
  let new := natLE 8 (mergeBits 64 old mask v)
  bs.take a ++ new ++ bs.drop (a + 8)

/-- PART[p]_KEY_IN[i] (R414). -/
def State.writeKeyIn (s : State) (i mask v : Nat) : State :=
  s.modPart (i / 17) fun x => { x with keys := { x.keys with keyIn := putBytes (fitBytes 136 x.keys.keyIn) (8 * (i % 17)) mask v } }

/-- GCTL_RESET (R429, R430): MODULE with its key in the same write. -/
def State.writeReset (s : State) (mask v off : Nat) : State :=
  if bits (v &&& mask) 31 16 = 0xA9A9 then s.actIf (setBit mask v 0) (execModuleReset 1) else s.ignored off

/-- The value that a fence takes by a write to one or both of its halves (R14, R288). -/
def State.fenceMerged (s : State) (f mask v : Nat) : BitVec 64 := BitVec.ofNat 64 (mergeBits 64 (s.fenceNow f) mask v)

/-- GCTL_HOST.PRIMARY (R431): ACTIVE follows at the next edge. -/
def State.writeHost (s : State) (mask v : Nat) : State :=
  let n := s.merged .GCTL_HOST_PRIMARY 0 mask v
  if n = s.get .GCTL_HOST_PRIMARY 0 then s else (s.put .GCTL_HOST_PRIMARY 0 n).atNextEdge (.host n)

/-- A write to a register of PF BAR0 with behaviour of its own; every other one follows its access codes alone (R11). -/
def State.writePf (s : State) (r : Reg) (i mask v off : Nat) : State :=
  let b := setBit mask v
  if (lockOf r).isSome then s.lockedWrite r mask v off
  else if r = Reg.REEL_CTL then (s.actIf (b 0) execReselect).actIf (b 1) execResume
  else if r = Reg.REEL_BEACON_ERR then s.after (execReelBeaconErrClear (Fin.ofNat 64 i) (BitVec.ofNat 32 v) s)
  else if r = Reg.PART_ERT_CTL then (s.writeFields r i mask v).actIf (b 0) (execErtSwitch (Fin.ofNat 16 i))
  else if r = Reg.TETH_CFG then (s.writeFields r i mask v).actIf (b 0) (execPortEnable (Fin.ofNat 64 i))
  else if r = Reg.TETH_CTL then
    (let n := Fin.ofNat 64 i
     (((s.actIf (b 0) (execRetrain n)).actIf (b 1) (execOffline n)).actIf (b 2) (execLoopback n)).actIf (b 3) (execOnline n))
  else if r = Reg.TETH_LASER then s.actIf (b 8) (execSwap (Fin.ofNat 16 i))
  else if r = Reg.QTAB_CMD then s.writeQueueCmd i mask v off
  else if r = Reg.QTAB_CPL then s.writeQueueCpl i mask v off
  else if r = Reg.QTAB_DB then
    (if mask = ones 64 then s.after (execDoorbell .pf i (BitVec.ofNat 32 v) (BitVec.ofNat 32 (v / 2 ^ 32)) [] s) else s.ignored off)
  else if r = Reg.FENCE_VALUE then s.after (execFenceHostWrite .pf i (s.fenceMerged i mask v) s)
  else if r = Reg.PART_CMD then s.writeQuota i mask v off
  else if r = Reg.PART_QUEUES then
    s.after (execProtectionChange (.queues (Fin.ofNat 16 i) (s.merged .PART_QUEUES_BASE i mask v) (s.merged .PART_QUEUES_COUNT i mask v)) s)
  else if r = Reg.PART_FENCES then
    s.after (execProtectionChange (.fences (Fin.ofNat 16 i) (s.merged .PART_FENCES_BASE i mask v) (s.merged .PART_FENCES_COUNT i mask v)) s)
  else if r = Reg.PART_PORTS then s.after (execResourceWithdraw (.ports (Fin.ofNat 16 i) (s.merged .PART_PORTS_PORTS i mask v)) s)
  else if r = Reg.PART_PAGES then
    s.after (execResourceWithdraw (.pages (Fin.ofNat 16 (i / 72)) (Fin.ofNat 72 (i % 72)) (s.merged .PART_PAGES_CODES i mask v)) s)
  else if r = Reg.PART_EVT then Reg.VFEVT_STAT.fields.foldl (fun (s : State) f => s.writeField f i mask v) s
  else if r = Reg.PART_PROG_CTL then s.writeProgCtl i mask v off
  else if r = Reg.PWR_PART then (if s.created i then s.ignored off else s.writeFields r i mask v)
  else if r = Reg.PWR_DOM_CTL then
    (let d := Fin.ofNat 250 i
     ((s.actIf (b 0) (execInflate d)).actIf (b 1) (execDeflate d)).actIf (b 2) (execVminRearm d))
  else if r = Reg.HBM_CTL then
    (let m := Fin.ofNat 48 i
     ((s.actIf (b 0) (execDrain m)).actIf (b 1) (execScrub m)).actIf (b 2) (execReturnStack m))
  else if r = Reg.LOGB_CTL then (s.actIf (b 0) execFreeze).actIf (b 1) execThaw
  else if r = Reg.GCTL_RESET then s.writeReset mask v off
  else if r = Reg.GCTL_HOST then s.writeHost mask v
  else if r = Reg.GCTL_FW_CTL then
    (((s.actIf (b 0) (execStage [])).actIf (b 1) execHandover).actIf (b 2) execConfirm).actIf (b 3) execFallback
  else if r = Reg.GCTL_SET_CTL then s.actIf (b 0) (execSettingsWrite [])
  else if r = Reg.GCTL_DBG_ADDR then (s.writeFields r i mask v).actIf (b 63) (execOpenDebug [])
  else if r = Reg.PART_KEY_IN then s.writeKeyIn i mask v
  else if r = Reg.PART_KEY_CTL then s.writeKeyCtl i mask v off
  else s.writeFields r i mask v

/-- A write to a register of VF BAR0 (R271, R288, R301, R328). -/
def State.writeVf (s : State) (p : Fin 16) (r : Reg) (i mask v off : Nat) : State :=
  if r = Reg.VFDB_RING then
    (if mask = ones 64 then s.after (execDoorbell (.vf p) i (BitVec.ofNat 32 v) (BitVec.ofNat 32 (v / 2 ^ 32)) [] s) else s.ignored off)
  else if r = Reg.VFFENCE_VALUE then
    s.after (execFenceHostWrite (.vf p) i (s.fenceMerged ((s.part p.val).bind.fences.1 + i) mask v) s)
  else s.writeFields r p.val mask v

/-- The register, the instance and the half (0 low, 1 high) to which the 4-byte word at an offset belongs (R14, R425). -/
def wordOf (vf : Bool) (off : Nat) : Option (Reg × Nat × Nat) := match Reg.find vf off with
  | some (r, i) => some (r, i, 0)
  | none => if off < 4 then none else match Reg.find vf (off - 4) with
    | some (r, i) => if r.bits = 64 then some (r, i, 1) else none
    | none => none

/-- Offsets of PF BAR0 and VF BAR0 that are implemented, read-only and no register: the FRU copies, the committed model pointers, the
logbook's read window, a VF's pending bits and view (R204, R391, R399, R427, R432). -/
def readOnlyBytes (vf : Bool) (off : Nat) : Bool :=
  if vf then decide (0x48000 ≤ off ∧ off < 0x48040) || decide (0x82000 ≤ off ∧ off < 0x90000)
  else decide (0x50000 ≤ off ∧ off < 0x50A40) || decide (0x50C00 ≤ off ∧ off < 0x50C80) || decide (0x50D00 ≤ off ∧ off < 0x50D40) ||
    (decide (0x60400 ≤ off ∧ off < 0x60800) && decide (off % 64 < 32)) || decide (0x800000 ≤ off ∧ off < 0xC00000)

/-- The shadow model pointers (R204). -/
def modelBytes (off : Nat) : Bool := decide (0x60400 ≤ off ∧ off < 0x60800) && decide (32 ≤ off % 64)

/-- The bits of the 4-byte word at place a of a model pointer that are not reserved (R12, Table 9-5). -/
def modelBits (a : Nat) : Nat := if a = 0 then 0x0003FFFF else if a < 20 then 0xFFFFFFFF else 0

/-- A 4-byte write to a shadow model pointer. -/
def State.writeModel (s : State) (off v : Nat) : State :=
  s.modStrm ((off - 0x60400) / 64) fun x =>
    let a := off % 32
    { x with modelShadow := x.modelShadow.take a ++ natLE 4 (v &&& modelBits a) ++ x.modelShadow.drop (a + 4) }

/-- The ERT window (R425). -/
def ertBytes (off : Nat) : Bool := decide (0x200000 ≤ off ∧ off < 0x600000)

/-- The 4-byte word at an offset of PF BAR0, or of a VF BAR0, is reserved (R424). -/
def reservedWord (vf : Bool) (off : Nat) : Bool :=
  (wordOf vf off).isNone && !readOnlyBytes vf off && (vf || !(modelBytes off || ertBytes off))

/-- A 4-byte write to PF BAR0 (R14, R424). -/
def State.pfWord (s : State) (off v : Nat) : State := match wordOf false off with
  | some (r, i, h) => s.writePf r i (ones 32 * 2 ^ (32 * h)) (v * 2 ^ (32 * h)) off
  | none => if modelBytes off then s.writeModel off v else if readOnlyBytes false off || ertBytes off then s else s.ignored off

/-- A 4-byte write to a VF BAR0. -/
def State.vfWord (s : State) (p : Fin 16) (off v : Nat) : State := match wordOf true off with
  | some (r, i, h) => s.writeVf p r i (ones 32 * 2 ^ (32 * h)) (v * 2 ^ (32 * h)) off
  | none => if readOnlyBytes true off then s else s.ignored off

/-- Byte a of an MSI-X table has its mask bit inverted in the state. -/
def flipMask (a : Nat) (b : Byte) : Byte := if a % 16 = 12 then b ^^^ 1 else b

/-- A write to an MSI-X table; an entry that is unmasked sends the message that waits for it (R298, R426). -/
def State.writeMsix (s : State) (fn a size v : Nat) : State :=
  let m := s.msixOf fn
  let bs := (enumFrom a (natLE size v)).map fun x => flipMask x.1 x.2
  let s := s.setMsix fn { m with table := Mem.write m.table a bs }
  if m.pending.contains (a / 16) then s.sendVector fn (a / 16) else s

/-- The whole 64-bit register at an offset (R14). -/
def wholeReg (vf : Bool) (off : Nat) : Option (Reg × Nat) := match Reg.find vf off with
  | some (r, i) => if r.bits = 64 then some (r, i) else none
  | none => none

/-- A write of a right size and alignment (R14, R301, R424 to R427). -/
def State.busWrite (s : State) (f : Fn) (off size v : Nat) : State := match f with
  | .pfMsix => if off + size ≤ 0x2000 then s.writeMsix 0 off size v else if 0x8000 ≤ off ∧ off < 0x8040 then s else s.ignored off
  | .pf =>
    if size = 8 then
      (if ertBytes off then
        s.after (execErtWindowWrite (Fin.ofNat 262144 ((off - 0x200000) / 16)) (Fin.ofNat 2 (off / 8 % 2)) (BitVec.ofNat 64 v) s)
      else match wholeReg false off with
        | some (r, i) => s.writePf r i (ones 64) v off
        | none => if reservedWord false off && reservedWord false (off + 4) then s.ignored off
          else (s.pfWord off (v % 2 ^ 32)).pfWord (off + 4) (v / 2 ^ 32))
    else s.pfWord off v
  | .vf p =>
    if s.vfs.contains p.val = false then s
    else if 0x40000 ≤ off ∧ off + size ≤ 0x42000 then s.writeMsix (p.val + 1) (off - 0x40000) size v
    else if size = 8 then
      (match wholeReg true off with
       | some (r, i) => s.writeVf p r i (ones 64) v off
       | none => if reservedWord true off && reservedWord true (off + 4) then s.ignored off
         else (s.vfWord p off (v % 2 ^ 32)).vfWord p (off + 4) (v / 2 ^ 32))
    else s.vfWord p off v

/-- An access is of a right size and alignment (R14). -/
def goodAccess (off size : Nat) : Bool := (size == 4 || size == 8) && off % size == 0

/-- REGISTER_WRITE (R11 to R14, R423 to R433); writes to PF BAR0 are ignored until the Gondola has booted (R430). -/
def execRegisterWrite (f : Fn) (off size value : Nat) (s : State) : Host.Outcome State Fault Refusal :=
  .next (if goodAccess off size then
    (match f with
     | .pf => s.whenBooted (s.busWrite f off size (value % 2 ^ (8 * size)))
     | _ => s.busWrite f off size (value % 2 ^ (8 * size)))
  else s.ignored off)

/-- BAD_ACCESS (R14): no effect, all ones on a read, a count in the logbook. -/
def execBadAccess (_f : Fn) (off size : Nat) (read : Bool) (s : State) : Host.Outcome State Fault Refusal :=
  .next (if goodAccess off size then s
  else (let s := s.ignored off
        if read then s.send (.read (ones (8 * size))) else s))

/-- The set numbers below n as a mask. -/
def maskWhere (n : Nat) (f : Nat → Bool) : Nat := maskOf ((List.range n).filter f)

/-- What a field reads as (R11): a WO field zero, a status that other state holds from there. -/
def State.view (s : State) (f : Field) (i : Nat) : Nat :=
  if f.acc = .wo then 0
  else if f = .REEL_CYCLE_CYCLE then s.cycle
  else if f = .PART_CMD_INFLIGHT then s.inflight i
  else if f = .CORE_TMEM_WIN_OPEN then maskWhere 64 fun k => (s.core i).windows.any fun w => w.index == k && inForce w.since w.till (s.now + 1)
  else if f = .CORE_TMEM_STAB_STABLE_OPEN then maskWhere 16 fun k => (s.core i).stable.any fun w => w.index == k && inForce w.since w.till (s.now + 1)
  else if f = .CORE_GATHER_ARMED then ((s.core i).gather.filter fun x => x.2.isSome).length
  else if f = .PART_SPEC_STATE_PENDING then maskWhere 16 fun k => ((s.part i).pred k).state == 1
  else if f = .PART_SPEC_STATE_REFUTED then maskWhere 16 fun k => ((s.part i).pred k).state == 3
  else if f = .PART_RECOVER_SPARES_FREE then (s.freeSpares i).length
  else if f = .LOGB_FRZ_PENDING then min s.book.queue.length 16384
  else if f = .PART_EVT_EVENTS then s.regOf Reg.VFEVT_STAT.fields i
  else if f = .FENCE_VALUE_VALUE then s.fenceNow i
  else if f = .VFID_STAT_PART then i
  else if f = .VFID_STAT_GEN then s.get .PART_STATE_GEN i
  else if f = .VFID_STAT_STATE then s.get .PART_STATE_STATE i
  else if f = .VFID_STAT_LCORES then s.get .PART_SHAPE_LCORES i
  else if analogFields.contains f then s.getA f i
  else s.get f i

/-- The value of a register (R12: reserved bits read zero). -/
def State.readReg (s : State) (r : Reg) (i : Nat) : Nat :=
  r.fields.foldl (fun a f => a + s.view f (if r = Reg.TETH_LASER then 4 * i else i) * 2 ^ f.lo) 0

/-- The 32-bit word that a read of PF BAR0 returns (R14, R424, R430): zero, but for ID and GCTL, until the Gondola has booted. -/
def State.readPfWord (s : State) (off : Nat) : Nat :=
  if s.booted = false ∧ 0x2000 ≤ off then 0
  else match wordOf false off with
    | some (r, i, h) => bits (s.readReg r i) (32 * h + 31) (32 * h)
    | none =>
      if ertBytes off then bits (Tab.get 0 s.carrier.ertShadow ((off - 0x200000) / 16)) (off % 16 * 8 + 31) (off % 16 * 8)
      else if 0x60400 ≤ off ∧ off < 0x60800 then
        (let x := (s.part ((off - 0x60400) / 64)).strm
         u32 (if off % 64 < 32 then x.modelCommitted else x.modelShadow) (off % 32))
      else if 0x50000 ≤ off ∧ off < 0x50F00 then leNat (Mem.read s.fru (off - 0x50000) 4)
      else if 0x800000 ≤ off ∧ off < 0xC00000 then leNat ((List.range 4).map fun i => s.windowByte (off - 0x800000 + i))
      else 0

/-- One byte of a partition's view of the book (R399): the four histograms, then the tallies. -/
def State.viewByte (s : State) (p off : Nat) : Byte :=
  let v := Tab.get View.init s.book.views p
  if off < 0x400 then
    (let h := [1, 5, 7, 8].getD (off / 256) 1
     let x := Tab.get ⟨0, 0, 0, 0, 0, []⟩ v.hists h
     (histBytes h p (if x.samples = 0 then none else some x)).getD (off % 256) 0)
  else match v.tallies[(off - 0x400) / 32]? with
    | some t => t.bytes.getD (off % 32) 0
    | none => 0

/-- The 32-bit word that a read of partition p's VF BAR0 returns (R301, R427, R328, R399): fences and doorbells past the range in
force read zero. -/
def State.readVfWord (s : State) (p off : Nat) : Nat :=
  match wordOf true off with
  | some (r, i, h) =>
    if r = Reg.VFFENCE_VALUE then
      (let f := (s.part p).bind.fences
       if i < f.2 then bits (s.fenceNow (f.1 + i)) (32 * h + 31) (32 * h) else 0)
    else if r = Reg.VFDB_RING then 0
    else bits (s.readReg r p) (32 * h + 31) (32 * h)
  | none =>
    if 0x40000 ≤ off ∧ off < 0x42000 then
      leNat ((enumFrom (off - 0x40000) (Mem.read (s.msixOf (p + 1)).table (off - 0x40000) 4)).map fun x => flipMask x.1 x.2)
    else if 0x48000 ≤ off ∧ off < 0x48040 then
      maskWhere 32 fun k => (s.msixOf (p + 1)).pending.contains ((off - 0x48000) * 8 + k)
    else if 0x82000 ≤ off ∧ off < 0x90000 then leNat ((List.range 4).map fun i => s.viewByte p (off - 0x82000 + i))
    else 0

end Sys2Proof.Machine
end

