-- ==== Sys2Proof/Machine/Fetch.lean ====
section
/-! DEFINITION. What a frame edge does to queues: doorbells are sampled, packets are fetched, headers are found (R270 to R282,
R296, R337). -/

namespace Sys2Proof.Machine

/-- A doorbell's values are adopted, and a change of them is journaled (R271, R272, Table 15-3). -/
def State.adopt (s : State) (q tail head : Nat) : State :=
  let changed := tail != s.get .QTAB_DB_TAIL q || head != s.get .QTAB_DB_CPL_HEAD q
  let s := (s.put .QTAB_DB_TAIL q tail).put .QTAB_DB_CPL_HEAD q head
  let s := s.setQueue q { s.queueSt q with doorbell := none }
  match s.ownerOf q with
  | some p => if changed then s.journalDoorbell p q tail head else s
  | none => s

/-- Sampling of one queue at an edge (R272). -/
def State.sampleQueue (s : State) (q : Nat) : State :=
  let x := s.queueSt q
  if x.enabled = false then s.setQueue q { x with doorbell := none }
  else if s.get .QTAB_CMD_FAULT q = 1 then s
  else
    match x.doorbell with
    | some (tail, head) =>
      let d := (head + 2 ^ 32 - s.get .QTAB_PTR_CPL_TAIL q) % 2 ^ 32
      if 2 ^ s.get .QTAB_CMD_LOG2 q < (tail + 2 ^ 32 - s.get .QTAB_PTR_FETCH q) % 2 ^ 32 then s.faultQueue q 1
      else if d ≠ 0 ∧ d ≤ 2 ^ 31 then s.faultQueue q 2
      else s.adopt q tail head
    | none => s

/-- Doorbells are sampled, in ascending queue number (R271). -/
def State.sampleDoorbells (s : State) : State := (s.queues.map Prod.fst).foldl (fun (s : State) q => s.sampleQueue q) s

/-- The packets of the next command of queue q, once TAIL covers them all (R275, R279). -/
def State.peek (s : State) (q : Nat) : Option Bytes :=
  let n := s.get .QTAB_PTR_FETCH q
  let left := (s.get .QTAB_DB_TAIL q + 2 ^ 32 - n) % 2 ^ 32
  let packet := fun (i : Nat) => s.hostRead (s.get .QTAB_CMD_BASE q * 4096 + (n + i) % 2 ^ s.get .QTAB_CMD_LOG2 q * 64) 64
  if (s.queueSt q).enabled = false ∨ s.get .QTAB_CMD_FAULT q = 1 ∨ left = 0 then none
  else
    let k := opPackets (u16 (packet 0) 0)
    if left < k then none else some ((List.range k).flatMap packet)

/-- A command is fetched from queue q: FETCH moves past its packets (R270, R281). -/
def State.fetch (s : State) (q : Nat) (bs : Bytes) (p : Option Nat) (batch : Nat) : Cmd × State :=
  let n := s.get .QTAB_PTR_FETCH q
  let x := s.queueSt q
  (⟨q, n, p, batch, x.ord, bs, s.clock.frameNo, none, false, none, 0, 0, 0, 0, 0, 0, false⟩,
   (s.put .QTAB_PTR_FETCH q ((n + bs.length / 64) % 2 ^ 32)).setQueue q { x with ord := x.ord + 1 })

/-- A command enters the Gondola as one of the next task, and the journal (R337). -/
def State.enterTask (s : State) (p : Nat) (c : Cmd) : State := ({ s with cmds := s.cmds ++ [c] }).journalCommand p c

/-- The next task of a partition takes a new content. -/
def State.setNext (s : State) (p : Nat) (t : Option Task) : State := (s.modRun p fun r => { r with next := t }).showTask p

/-- The task that a header begins (R277, R280): refused where its set lies outside the partition or COMMANDS exceeds the quota. -/
def State.newTask (s : State) (p : Nat) (c : Cmd) : Task :=
  let n := c.hdrQueues
  let outside := decide (n = 0) || decide (4096 < n) || (List.range n).any fun i => s.ownerOf (c.queue + i) != some p
  { batch := c.batch
    queue := c.queue
    seq := c.seq
    queueCount := if outside then 1 else n
    commands := c.hdrCommands
    program := c.hdrProgram
    lcores := c.hdrLcores
    period := c.hdrPeriod
    tag := c.hdrTag
    refused := outside || decide (s.quotaOf p < c.hdrCommands) || decide (c.hdrCommands < 1)
    closed := if c.taskLast then [c.queue] else []
    fetched := 1
    anchor := none
    anchorReel := 0
    anchorAt := none
    journaled := s.get .PART_JRNL_STAT_ENABLED p == 1
    opened := false }

/-- A queue is searched for a header (R279): a stray is fetched and ends with CONFIG_INVALID. -/
def State.searchQueue (s : State) (p q : Nat) : State :=
  match s.peek q with
  | none => s
  | some bs =>
    let f := s.fetch q bs (some p) (s.part p).run.batch
    let c := f.1
    let s := f.2
    if c.op = 0 ∧ c.taskBegin = true then
      let t := s.newTask p c
      ((s.enterTask p c).modRun p fun r => { r with batch := r.batch + 1 }).setNext p (some t)
    else ({ s with cmds := s.cmds ++ [c] }).finish c 0x3000 0 2147483647

/-- The queues of a partition in turn, while no header has been found and the quota allows (R279). -/
def State.searchHeader (s : State) (p : Nat) : State :=
  let r := (s.part p).bind.queues
  (List.range r.2).foldl (fun (s : State) i =>
    if (s.part p).run.next.isNone = true ∧ s.inflight p < s.quotaOf p then s.searchQueue p (r.1 + i) else s) s

/-- One more command of the next task has been fetched (R278, R280). -/
def Task.more (t : Task) (c : Cmd) : Task :=
  { t with
    fetched := t.fetched + 1
    closed := if c.taskLast then t.closed ++ [c.queue] else t.closed
    refused := t.refused || decide (t.commands < t.fetched + 1) }

/-- Commands of queue q are fetched for the next task until one with TASK_LAST, within the quota; for a refused task regardless of
it (R279, R280). -/
def State.fillQueue (s : State) (p q : Nat) : Nat → State
  | 0 => s
  | fuel + 1 =>
    match (s.part p).run.next with
    | none => s
    | some t =>
      if t.closed.contains q = true ∨ (t.refused = false ∧ s.quotaOf p ≤ s.inflight p) then s
      else match s.peek q with
        | none => s
        | some bs =>
          let f := s.fetch q bs (some p) t.batch
          ((f.2.enterTask p f.1).setNext p (some (t.more f.1))).fillQueue p q fuel

/-- Queues of a refused task that give no more commands: disabled ones, and those that the partition has lost. -/
def State.deadQueues (s : State) (p : Nat) (t : Task) : List Nat :=
  if t.refused then ((List.range t.queueCount).map (t.queue + ·)).filter fun q =>
    !t.closed.contains q && (!(s.queueSt q).enabled || s.ownerOf q != some p)
  else []

/-- A refused task: its header ends with CONFIG_INVALID, the others with ABORTED_TASK, as they arrive; once all of it has come,
the next header may be found (R280, R296). -/
def State.settleNext (s : State) (p : Nat) : State := match (s.part p).run.next with
  | none => s
  | some t =>
    if t.refused then
      let t' : Task := { t with closed := t.closed ++ s.deadQueues p t }
      let s := (s.taskCmds p t.batch).foldl (fun (s : State) c =>
        s.finish c (if c.queue = t.queue ∧ c.seq = t.seq then 0x3000 else 0x4000) 0 2147483647) s
      s.setNext p (if t'.queueCount ≤ t'.closed.length then none else some t')
    else s

/-- A task of whose queues one no longer belongs to the partition is refused (R280). -/
def State.recheckQueues (s : State) (p : Nat) (t : Task) : Task :=
  { t with refused := t.refused || (List.range t.queueCount).any fun i => s.ownerOf (t.queue + i) != some p }

/-- The rest of the next task is fetched from its queues in ascending order (R279). -/
def State.fillTask (s : State) (p : Nat) : State := match ((s.part p).run.next).map (s.recheckQueues p) with
  | none => s
  | some t => ((List.range t.queueCount).foldl (fun (s : State) i => s.fillQueue p (t.queue + i) 65536) (s.setNext p (some t))).settleNext p

/-- Commands are fetched from every queue at all: bring-up is complete and the module has not stopped (R36, R350, R409). -/
def State.fetching (s : State) : Bool :=
  s.fetchAllowed && s.get .PWR_STAT_PHASE 0 == 1 && s.get .GCTL_STAT_STOPPED 0 == 0 && s.get .GCTL_FW_STAT_UNREADABLE 0 == 0

/-- fetch_partition (R279): none in FREE and CLEARING; in DRAINING no new header (Table 14-1, R318). -/
def State.fetchPart (s : State) (p : Nat) : State :=
  let st := s.get .PART_STATE_STATE p
  if s.fetching = false ∨ st < 2 then s
  else
    let s := if (s.part p).run.next.isNone = true ∧ st ≠ 4 then s.searchHeader p else s
    s.fillTask p

/-- Commands of one PF queue are fetched, at most 64 of all PF queues being in flight (R281). -/
def State.fillPf (s : State) (q : Nat) : Nat → State
  | 0 => s
  | fuel + 1 =>
    if 64 ≤ s.inflightPf then s
    else match s.peek q with
      | none => s
      | some bs =>
        let f := s.fetch q bs none s.clock.frameNo
        ({ f.2 with cmds := f.2.cmds ++ [f.1] }).fillPf q fuel

/-- The PF queues (R269): enabled ones in no created partition's range. -/
def State.pfQueues (s : State) : List Nat := (s.queues.filter fun c => c.2.enabled && (s.ownerOf c.1).isNone).map Prod.fst

/-- The PF queues' commands are fetched, before lock too (R36, R281). -/
def State.fetchPf (s : State) : State :=
  if s.booted = false ∨ s.get .GCTL_STAT_STOPPED 0 = 1 ∨ s.get .PWR_STAT_PHASE 0 = 3 then s
  else s.pfQueues.foldl (fun (s : State) q => s.fillPf q 64) s

/-- Every partition fetches for itself (R281), then the PF queues. -/
def State.fetchAll (s : State) : State := ((List.range 16).foldl (fun (s : State) p => s.fetchPart p) s).fetchPf

end Sys2Proof.Machine
end

