-- ==== Sys2Proof/Machine/Edge.lean ====
section
/-! DEFINITION. The frame edge: what becomes of a frame that ends and what the new one begins with (R32, R35, R50, R185 to R189,
R211, R212, R218, R245, R288, R298, R328, R349, R354 to R357, R363, R390, R397, R399, R444). -/

namespace Sys2Proof.Machine

/-- REEL_SLACK of partition p for the frame that ends, its warning and its histogram sample (R50, R397). -/
def State.slackReport (s : State) (p : Nat) : State :=
  let s := s.put .REEL_SLACK_FRAME p s.reelCount
  match (s.part p).run.minSlack with
  | none => s.put .REEL_SLACK_MIN_SLACK p 0x7FFFFFFF
  | some m =>
    let s := (s.put .REEL_SLACK_MIN_SLACK p (ofSigned 32 m)).modRun p fun r => { r with minSlack := none }
    let s := s.sample 1 p m
    if m < (s.get .REEL_CFG_SLACK_WARN 0 : Int) then s.partEvent .VFEVT_STAT_SLACK_WARN p else s

/-- Histogram 0x03: corrected tile-memory quarters of each core in 1,024 frames (R397). -/
def State.eccHist (s : State) : State :=
  if s.clock.frameNo % 1024 = 1023 then
    (List.range 96).foldl (fun (s : State) n =>
      let c := s.get .CORE_TMEM_ECC_CORRECTED n
      (s.sample 3 n ((c - (s.core n).sampled : Nat) : Int)).modCore n fun k => { k with sampled := c }) s
  else s

/-- Power of a partition in the frame that ends, a measurement (R357): PWR_PART, its histogram, the logbook. -/
def State.measurePart (s : State) (p : Nat) : State :=
  let d := s.draw
  let w := d.1 % 65536
  let s := (d.2.putA .PWR_PART_MEASURED p w).sample 5 p (w : Int)
  let a := s.get .PWR_PART_ALLOC p
  s.confine (if a < w then (s.incA .PWR_PART_OVER p 1).event 0x8030 p (w - a) else s)

/-- Nominal supply or set-point of a domain in mV, where the spec gives one figure (Table 16-1). -/
def State.nominal (s : State) (d : Nat) : Option Nat :=
  if d < 96 then some (600 + 5 * s.get .PWR_DOM_STAT_SETPOINT d)
  else if d < 120 ∨ 248 ≤ d then some 750
  else none

/-- The lowest voltage of a domain in the frame that ends, a measurement in units of 0.5 mV (R363, R397): its record and its
histogram; for a domain with no single nominal figure the histogram's sample is a measurement of its own. -/
def State.measureDomain (s : State) (d : Nat) : State :=
  let x := s.draw
  let y := x.2.draw
  let v := x.1 % 4096
  let s := y.2.sample 6 d (match s.nominal d with
    | some n => (n : Int) - ((v / 2 : Nat) : Int)
    | none => (y.1 : Int))
  s.confine (if v < s.getA .PWR_DOM_VMIN_MIN d then
      (((s.putA .PWR_DOM_VMIN_MIN d v).putA .PWR_DOM_VMIN_FRAME d s.reelCount).putA .PWR_DOM_VMIN_CYCLE d (y.1 % max 1 s.clock.frameLen)).putA
        .PWR_DOM_VMIN_LOCKED d (nat01 s.ownCount)
    else s)

/-- Input power of the module, a measurement (R364). -/
def State.measureInput (s : State) : State :=
  let d := s.draw
  d.2.putA .PWR_STAT_INPUT_W 0 d.1

/-- The reports of the frame that ends (R50, R298, R328, R357, R363, R397): messages first, for what came before this edge
(Table 14-5). -/
def State.closeFrame (s : State) : State :=
  let s := s.eventVectors.sendMsix
  let s := (List.range 16).foldl (fun (s : State) p => s.slackReport p) s
  let s := s.eccHist.portHist
  let s := ((List.range 16).filter s.created).foldl (fun (s : State) p => s.measurePart p) s
  let s := ((List.range 250).filter s.active).foldl (fun (s : State) d => s.measureDomain d) s
  s.measureInput

/-- Core cycles that the frame that ends has lacked under an emergency clock step (R338, R360). -/
def State.lackedIn (s : State) : Nat := if s.power.step.isSome then cyclesOf s.periodInForce - s.clock.frameLen else 0

/-- The new frame begins (R32, R35, R390, R444): its first cycle, its length, its count. -/
def State.openFrame (s : State) : State :=
  let n := s.nextEdge
  let s := { s with clock := ⟨n, n, s.clock.frameNo + 1, cyclesOf s.periodInForce⟩ }
  let s := s.put .REEL_COUNT_COUNT 0 (s.reelCount + 1)
  if s.active 248 = true ∨ s.active 249 = true then s.put .LOGB_TIME_OP_SEC 0 (s.book.opBase + n / 1600000000) else s

/-- From the start of ACQUIRE frames have the period of the reference's beacons (R35). -/
def State.acquirePeriod (s : State) : State :=
  if s.get .REEL_STAT_STATE 0 = 1 then { s with clock := { s.clock with frameLen := s.lenOf s.periodInForce } } else s

/-- The host's fence writes of the frame: a MAX at cycle 0 (R288). -/
def State.hostFences (s : State) (l : List EdgeReq) : State := l.foldl (fun (s : State) r => match r with
  | .fence f v => s.addUpds [⟨f, s.now, false, v⟩]
  | _ => s) s

/-- The partition whose fence range in force holds fence f. -/
def State.fenceOwner (s : State) (f : Nat) : Option Nat :=
  (List.range 16).find? fun p => s.created p && inRange (s.part p).bind.fences f

/-- They enter the journal of the fence's partition (R335, R337). -/
def State.journalFences (s : State) (l : List EdgeReq) : State := l.foldl (fun (s : State) r => match r with
  | .fence f v => match s.fenceOwner f with
    | some p => s.journalFence p (f - (s.part p).bind.fences.1) v
    | none => s
  | _ => s) s

/-- A request that waited for this edge. -/
def State.serve (s : State) : EdgeReq → State
  | .fence _ _ => s
  | .mail i => s.openMail i
  | .queues p b n => s.changeQueues p (b, n)
  | .fences p b n => s.changeFences p (b, n)
  | .enable q on => s.changeEnable q on
  | .port p m => s.changePorts p m
  | .page p k c => s.changePages p k c
  | .flr p => s.flrEdge p
  | .load p h => if s.gondola.takeover then s.atNextEdge (.load p h) else s.loadImage p h
  | .clear p h => s.clearSlot p h
  | .keyLoad p k => s.loadKey p k
  | .keyErase p k => s.eraseKey p k
  | .keyEraseAll p => s.eraseAllKeys p
  | .journal p on l b m => s.journalSwitchOn p on l b m
  | .inflate d => s.requestInflate d
  | .deflate d => s.requestDeflate d
  | .vf v on => { s with vfs := if on then (if s.vfs.contains v then s.vfs else s.vfs ++ [v]) else s.vfs.filter (· != v) }
  | .handover => s.startHandover
  | .host _ => s.put .GCTL_HOST_ACTIVE 0 s.activePort
  | .trip d c => if s.active d then s.trip d c else s
  | .core n c => s.clearCore n c

/-- Everything that waited for this edge, in the order asked; what these ask for waits for the next edge. -/
def State.serveAll (s : State) (l : List EdgeReq) : State := l.foldl State.serve s

/-- The laser domain of a module that is swapped out is switched off; one that is off already makes the module safe to remove at once
(R265). -/
def State.swapLaser (s : State) (e : Nat) : State :=
  if (s.laser e).swapping = false then s
  else if s.get .PWR_DOM_STAT_STATE (laserDomain e) = 0 ∨ s.get .PWR_DOM_STAT_STATE (laserDomain e) = 5 then s.setLaserState e 6
  else s.deflate (laserDomain e)

def State.swapOut (s : State) : State := (List.range 16).foldl (fun (s : State) e => s.swapLaser e) s

/-- A task whose anchor frame begins (R45, R51, R304, R337): the partition is RUNNING, and TASK_BEGIN is written unless an armed model
switch holds the header back. -/
def State.reachAnchor (s : State) (p : Nat) : State := match (s.part p).run.task with
  | some t =>
    if t.anchor = some s.clock.frameNo then
      let ready := (s.part p).strm.swap.isNone
      let s := if ready then s.journalTaskBegin p t else s
      let s := s.modRun p fun r => { r with task := some { t with anchorAt := some s.now, opened := ready } }
      let s := if s.lowRate then s.markVoid p else s
      if s.get .PART_STATE_STATE p = 2 then s.put .PART_STATE_STATE p 3 else s
    else s
  | none => s

/-- A ring's buffers are FREE, and the ring is held no more (R189). -/
def State.freeRing (s : State) (p : Nat) (r : Ring) : State := s.modStrm p fun x =>
  { x with
    rings := x.rings.filter fun y => !(y.queue == r.queue && y.seq == r.seq)
    bufs := x.bufs.filter fun b => !(decide (r.firstBuf ≤ b.1) && decide (b.1 < r.firstBuf + r.nbuf)) }

/-- Buffers are released at the first edge after the consuming operation retired, its ring having nothing left to place; those of a
refuted slot become FREE and the slot IDLE (R189, R218). -/
def State.releaseRings (s : State) (p : Nat) : State :=
  let x := (s.part p).strm
  let dead := fun (r : Ring) => match r.spec with
    | some k => ((s.part p).pred k).state == 3
    | none => false
  let used := fun (r : Ring) => match r.consumed with
    | some t => r.placed.isSome && decide (t < s.now)
    | none => false
  let gone := x.rings.filter fun r => dead r || used r
  let s := gone.foldl (fun (s : State) r => s.freeRing p r) s
  ((x.preds.filter fun c => c.2.state == 3).map Prod.fst).foldl (fun (s : State) k => s.setPred p k Pred.init) s

/-- A ring request is eligible at this edge (R185). -/
def State.eligible (s : State) (p : Nat) (c : Cmd) : Bool :=
  c.wantsRing && c.began.isNone && ((s.part p).ringOf c).isNone && s.waitsOk c s.now && (match s.baseFrame c with
    | some a => decide (a + c.start ≤ s.clock.frameNo)
    | none => false) && !s.spillSkips c p && !s.staticBad c p

/-- The buffers that a request names. -/
def StreamP.wanted (q : StreamP) : List Nat := (List.range q.nbuf).map (q.firstBuf + ·)

/-- The first of them that is held. -/
def Part.heldBuf (x : Part) (q : StreamP) : Option Nat := q.wanted.find? fun b => (Tab.get Buf.init x.strm.bufs b).state != 0

/-- The conditions of R185 and R211 on a request. -/
def State.grantable (s : State) (p : Nat) (q : StreamP) : Bool :=
  let x := s.part p
  let spec := x.strm.rings.filter fun r => r.spec.isSome
  let plain := x.strm.rings.filter fun r => r.spec.isNone
  (x.heldBuf q).isNone && decide (s.get .PART_STEP_STEP p ≤ q.consumer) &&
  (match q.spec with
   | none => plain.all fun r => r.layer == q.layer
   | some _ => decide (sumN (spec.map fun r => r.nbuf) + q.nbuf ≤ s.get .PART_STAGE_SPEC_MAX p) && (spec.all fun r => r.layer == q.layer) &&
      plain.all fun r => q.layer == r.layer || q.layer == (r.layer + 1) % 65536)

/-- A ring is granted: its buffers are EMPTY; a speculative one makes its slot PENDING (R189, R212). -/
def State.grantRing (s : State) (p : Nat) (c : Cmd) (q : StreamP) : State :=
  let ring : Ring := ⟨c.queue, c.seq, q.firstBuf, q.nbuf, q.hdrRows, q.layer, q.consumer, q.spec.map fun v => v.1, none, none⟩
  let s := s.modStrm p fun x => { x with
    rings := x.rings ++ [ring]
    bufs := q.wanted.foldl (fun t b => Tab.put Buf.init t b ⟨1, 0, [], s.now⟩) x.bufs }
  let s := s.setCmd { c with defer := 0 }
  match q.spec with
  | some v => s.setPred p v.1 { Pred.init with
      state := 1, group := v.2.1, firstBuf := q.firstBuf, nbuf := q.nbuf, outFirst := v.2.2.1, outRows := v.2.2.2 }
  | none => s

/-- The Detail of BUF_EXHAUSTED (R186). -/
def State.exhaustDetail (s : State) (p : Nat) (c : Cmd) (q : StreamP) : Nat :=
  let x := s.part p
  let b := x.heldBuf q
  let holder := match b with
    | some b => x.strm.rings.find? fun (r : Ring) => decide (r.firstBuf ≤ b) && decide (b < r.firstBuf + r.nbuf)
    | none => none
  c.defer % 256 + (match b with
    | some b => b % 256 * 2 ^ 8
    | none => 0) + (match holder with
    | some r => if r.layer = q.layer then r.queue else 0xFFFF
    | none => 0xFFFF) * 2 ^ 32

/-- A request that is not granted and not late (R186): exhausted, or deferred with a BUF_DEFER record. -/
def State.deferOpen (s : State) (p : Nat) (c : Cmd) (q : StreamP) : State :=
  if q.retry ≤ c.defer then (s.inc .STRM_DEFER_EXHAUSTED p 1).refuse c (0x3003, s.exhaustDetail p c q)
  else
    let n := c.defer + 1
    let r : Rec := ⟨c.queue, c.seq, c.part, c.op % 32768, 0x1000, s.reelCount, 0, 2147483647, n % 256 + s.reelCount % 2 ^ 32 * 2 ^ 32,
      false, true, false⟩
    (({ s with recs := s.recs ++ [r] }).setCmd { c with defer := n }).inc .STRM_DEFER_DEFERRALS p 1

/-- A request that is not granted (R186, R187): too late, or R186. -/
def State.deferRing (s : State) (p : Nat) (c : Cmd) (q : StreamP) : State :=
  let due := match s.entriesOf c p with
    | some e => s.entriesDue p e.1 e.2
    | none => none
  match due with
  | some (x, low) =>
    if x < s.nextEdge then s.refuse c (0x3001, low + cdiv (5 * (s.now - x)) 16 * 2 ^ 32) else s.deferOpen p c q
  | none => s.deferOpen p c q
/-- One request at this edge (R185, R210, R448). -/
def State.presentRing (s : State) (p : Nat) (c : Cmd) : State :=
  let q := c.stream
  if s.grantable p q then
    match (if q.spec.isSome then s.specRefused p q else none) with
    | some r => s.refuseBegin c p r
    | none => s.grantRing p c q
  else s.deferRing p c q

/-- The ring requests of a partition's running task, in ascending queue number and fetch order (R185, R188). -/
def State.grantRings (s : State) (p : Nat) : State :=
  match (s.part p).run.task, (s.part p).run.sum.headerAt with
  | some t, some _ =>
    (sortCmds (s.cmds.filter fun c => c.part == some p && c.batch == t.batch)).foldl (fun (s : State) c =>
      if s.alive c = true ∧ s.eligible p c = true then s.presentRing p c else s) s
  | _, _ => s

/-- Forecast segments named for this edge take force, in the order named (R356). -/
def State.nextForecast (s : State) (p : Nat) : State :=
  let m := (s.part p).run.sum
  let now := m.nextSegment.filter fun x => decide (x.2 ≤ s.clock.frameNo)
  if now.isEmpty then s
  else s.modRun p fun r => { r with sum := { r.sum with
    segment := now.getLastD r.sum.segment
    nextSegment := r.sum.nextSegment.filter fun x => decide (s.clock.frameNo < x.2) } }

/-- The forecast entry in force for a partition (R354). -/
def State.forecastEntry (s : State) (p : Nat) : Option Forecast :=
  let x := s.part p
  match x.run.task with
  | some t =>
    if t.anchorAt.isNone then none
    else
      -- At the anchor edge itself the header has not begun, and segment 0 is in force from it (R356).
      let g := if x.run.sum.headerAt.isSome then x.run.sum.segment else (0, s.clock.frameNo)
      match x.taskSlotOf.segments[g.1]? with
      | some (first, count) => x.taskSlotOf.forecast[first + min (s.clock.frameNo - g.2) (count - 1)]?
      | none => none
  | none => none

/-- The regulators of a partition's cores take STEP and ONSET of the entry in force, in units of 0.1 mV (R357). -/
def State.applyForecast (s : State) (p : Nat) : State :=
  let s := s.nextForecast p
  let h := match s.forecastEntry p with
    | some f => (f.step, f.onset)
    | none => (0, 0)
  (s.part p).cores.foldl (fun (s : State) n => s.setDomain n { s.domain n with headroom := h }) s

/-- The first cycle of the oldest command that executes, or the present one: no work of an earlier cycle is still to be done. -/
def State.oldestBegun (s : State) : Nat := (s.cmds.filterMap Cmd.began).foldl min s.now

/-- A stack period and a frame, by its Reel Count, no later than those of a cycle that has passed. -/
def State.periodOf (s : State) (x : Nat) : Nat := s.periodNow - cdiv ((s.now - x) * 5) 16 - 2
def State.frameOfCycle (s : State) (x : Nat) : Nat := s.reelCount - cdiv (s.now - x) 400 - 1

/-- What only work of cycles before x could still ask for is forgotten: replaced bytes, windows that have ended, slot uses (R124, R134,
R165, R166). -/
def State.forgetBefore (s : State) (x : Nat) : State :=
  let c := s.carrier
  let s := { s with carrier := { c with
    past := c.past.filter fun e => decide (s.periodOf x ≤ e.cycle)
    written := c.written.filter fun k => decide (s.frameOfCycle x ≤ k.1) } }
  let s := (s.cores.map Prod.fst).foldl (fun (s : State) n => s.modCore n fun k => (k.forget x).forgetWindows x) s
  (s.parts.map Prod.fst).foldl (fun (s : State) p => s.modRun p fun r => { r with uses := r.uses.filter fun u => decide (x ≤ u.cycle) }) s

/-- Work that is done is forgotten. -/
def State.pruneWrites (s : State) : State := s.forgetBefore s.oldestBegun

/-- What the new frame begins with, on the requests that waited for it. -/
def State.beginFrame (s : State) (l : List EdgeReq) : State :=
  let s := (s.settleFences.hostFences l).edgeReel.acquirePeriod
  let s := s.serveAll l
  let s := s.portActions.swapOut
  let s := (List.range 16).foldl (fun (s : State) p => s.reachAnchor p) s
  let s := (List.range 16).foldl (fun (s : State) p => ((s.edgePart p).modeAck p).modeHold p) s
  let s := (List.range 16).foldl (fun (s : State) p => s.releaseRings p) s
  let s := s.sampleDoorbells.fetchAll.journalFences l
  let s := (List.range 16).foldl (fun (s : State) p => s.applyForecast p) s
  let s := (List.range 16).foldl (fun (s : State) p => s.grantRings p) s
  let s := s.retireLanes.edgeOpen.pruneWrites
  let s := (List.range 64).foldl (fun (s : State) n => s.edgeSlot n) s
  let s := (List.range 16).foldl (fun (s : State) p => s.mirrorFlush p) s
  s.applyViews

/-- A frame edge (R32). -/
def State.frameEdge (s : State) : State :=
  let lacked := s.lackedIn
  let s := s.closeFrame.openFrame.edgeStep lacked
  ({ s with edge := [] }).beginFrame s.edge

/-- FRAME_EDGE (R32): time moves to the first cycle of the next frame. -/
def execFrameEdge (s : State) : Host.Outcome State Fault Refusal := .next s.frameEdge

/-- A core cycle passes with no command; the last one of a frame is followed by the frame edge (log entry 1). -/
def State.tick (s : State) : State :=
  if s.now + 1 < s.nextEdge then { s with clock := { s.clock with now := s.now + 1 } } else s.frameEdge

end Sys2Proof.Machine
end

