-- ==== Sys2Proof/Machine/Dispatch.lean ====
section
/-! DEFINITION. The meaning of every command: one arm each (spec/opcode_table.json). -/

namespace Sys2Proof.Machine

/-- The effect of a command on everything but the queue. -/
def exec (i : Instr) (s : State) : Host.Outcome State Fault Refusal :=
  match i with
  | .frameEdge => Sys2Proof.Machine.execFrameEdge s
  | .reelBeacon n linkOk word arrival => Sys2Proof.Machine.execReelBeacon n linkOk word arrival s
  | .lock => Sys2Proof.Machine.execLock s
  | .holdoverLimit => Sys2Proof.Machine.execHoldoverLimit s
  | .periodChange => Sys2Proof.Machine.execPeriodChange s
  | .resume => Sys2Proof.Machine.execResume s
  | .reselect => Sys2Proof.Machine.execReselect s
  | .reelCfgLock value => Sys2Proof.Machine.execReelCfgLock value s
  | .pwrCfgLock value => Sys2Proof.Machine.execPwrCfgLock value s
  | .logbCfgLock value => Sys2Proof.Machine.execLogbCfgLock value s
  | .registerWrite f off size value => Sys2Proof.Machine.execRegisterWrite f off size value s
  | .badAccess f off size read => Sys2Proof.Machine.execBadAccess f off size read s
  | .doorbell f j tail head mem => Sys2Proof.Machine.execDoorbell f j tail head mem s
  | .queueFaultClear q => Sys2Proof.Machine.execQueueFaultClear q s
  | .fenceHostWrite f j value => Sys2Proof.Machine.execFenceHostWrite f j value s
  | .protectionChange w => Sys2Proof.Machine.execProtectionChange w s
  | .resourceWithdraw w => Sys2Proof.Machine.execResourceWithdraw w s
  | .taskFetched p => Sys2Proof.Machine.execTaskFetched p s
  | .taskHeader p => Sys2Proof.Machine.execTaskHeader p s
  | .commandBegin c => Sys2Proof.Machine.execCommandBegin c s
  | .lateBegin c => Sys2Proof.Machine.execLateBegin c s
  | .commandRetire c => Sys2Proof.Machine.execCommandRetire c s
  | .completionRecord q => Sys2Proof.Machine.execCompletionRecord q s
  | .deadlineMiss c => Sys2Proof.Machine.execDeadlineMiss c s
  | .nop c => Sys2Proof.Machine.execNop c s
  | .fenceWait c => Sys2Proof.Machine.execFenceWait c s
  | .fenceSignal c => Sys2Proof.Machine.execFenceSignal c s
  | .barrier c => Sys2Proof.Machine.execBarrier c s
  | .wmatmul c => Sys2Proof.Machine.execWmatmul c s
  | .wmatmulSpec c => Sys2Proof.Machine.execWmatmulSpec c s
  | .wvector c => Sys2Proof.Machine.execWvector c s
  | .wconv c => Sys2Proof.Machine.execWconv c s
  | .wsample c => Sys2Proof.Machine.execWsample c s
  | .streamLoad c => Sys2Proof.Machine.execStreamLoad c s
  | .shardData n w => Sys2Proof.Machine.execShardData n w s
  | .verdict c k => Sys2Proof.Machine.execVerdict c k s
  | .rowAbsent c k row => Sys2Proof.Machine.execRowAbsent c k row s
  | .streamSpec c => Sys2Proof.Machine.execStreamSpec c s
  | .routeCommit c => Sys2Proof.Machine.execRouteCommit c s
  | .reside c => Sys2Proof.Machine.execReside c s
  | .evict c => Sys2Proof.Machine.execEvict c s
  | .slotFree p => Sys2Proof.Machine.execSlotFree p s
  | .swapModel c => Sys2Proof.Machine.execSwapModel c s
  | .modelSwitch p => Sys2Proof.Machine.execModelSwitch p s
  | .pruneLoad c => Sys2Proof.Machine.execPruneLoad c s
  | .writeback c => Sys2Proof.Machine.execWriteback c s
  | .bcast c => Sys2Proof.Machine.execBcast c s
  | .reduce1 c => Sys2Proof.Machine.execReduce1 c s
  | .collectivePiece n w => Sys2Proof.Machine.execCollectivePiece n w s
  | .activationRows n w => Sys2Proof.Machine.execActivationRows n w s
  | .bulkRows n w => Sys2Proof.Machine.execBulkRows n w s
  | .move c => Sys2Proof.Machine.execMove c s
  | .windowOpen c => Sys2Proof.Machine.execWindowOpen c s
  | .windowClose c => Sys2Proof.Machine.execWindowClose c s
  | .forecast c => Sys2Proof.Machine.execForecast c s
  | .partCreate c => Sys2Proof.Machine.execPartCreate c s
  | .partResize c => Sys2Proof.Machine.execPartResize c s
  | .resizeEffect p => Sys2Proof.Machine.execResizeEffect p s
  | .partDestroy c => Sys2Proof.Machine.execPartDestroy c s
  | .partReset c => Sys2Proof.Machine.execPartReset c s
  | .flr p => Sys2Proof.Machine.execFlr p s
  | .modePrepare c => Sys2Proof.Machine.execModePrepare c s
  | .modePrepareExpire => Sys2Proof.Machine.execModePrepareExpire s
  | .modeCommit c => Sys2Proof.Machine.execModeCommit c s
  | .modeDecision => Sys2Proof.Machine.execModeDecision s
  | .modeSwitch => Sys2Proof.Machine.execModeSwitch s
  | .coreFence c => Sys2Proof.Machine.execCoreFence c s
  | .coreRemap c => Sys2Proof.Machine.execCoreRemap c s
  | .bistRun c => Sys2Proof.Machine.execBistRun c s
  | .injectFault c => Sys2Proof.Machine.execInjectFault c s
  | .injectedFault c => Sys2Proof.Machine.execInjectedFault c s
  | .journalEnable c => Sys2Proof.Machine.execJournalEnable c s
  | .journalDisable c => Sys2Proof.Machine.execJournalDisable c s
  | .mark c => Sys2Proof.Machine.execMark c s
  | .tap c => Sys2Proof.Machine.execTap c s
  | .progLoad p h mem => Sys2Proof.Machine.execProgLoad p h mem s
  | .progClear p h => Sys2Proof.Machine.execProgClear p h s
  | .bind p h => Sys2Proof.Machine.execBind p h s
  | .tmemClearDone n => Sys2Proof.Machine.execTmemClearDone n s
  | .ertWindowWrite e half value => Sys2Proof.Machine.execErtWindowWrite e half value s
  | .ertSwitch p => Sys2Proof.Machine.execErtSwitch p s
  | .ertBankSwitch p => Sys2Proof.Machine.execErtBankSwitch p s
  | .shadowSyncDone p => Sys2Proof.Machine.execShadowSyncDone p s
  | .patrolScrub m => Sys2Proof.Machine.execPatrolScrub m s
  | .residentDigestCheck e k => Sys2Proof.Machine.execResidentDigestCheck e k s
  | .hbmStackFail m => Sys2Proof.Machine.execHbmStackFail m s
  | .drain m => Sys2Proof.Machine.execDrain m s
  | .drained m => Sys2Proof.Machine.execDrained m s
  | .scrub m => Sys2Proof.Machine.execScrub m s
  | .scrubDone m uncorr => Sys2Proof.Machine.execScrubDone m uncorr s
  | .returnStack m => Sys2Proof.Machine.execReturnStack m s
  | .pageClear m => Sys2Proof.Machine.execPageClear m s
  | .pageClearDone m => Sys2Proof.Machine.execPageClearDone m s
  | .bridleUncorrectable n lane flips => Sys2Proof.Machine.execBridleUncorrectable n lane flips s
  | .wslFrame n w => Sys2Proof.Machine.execWslFrame n w s
  | .assign n m => Sys2Proof.Machine.execAssign n m s
  | .ack n m => Sys2Proof.Machine.execAck n m s
  | .messageResend n => Sys2Proof.Machine.execMessageResend n s
  | .laneLost n l signal => Sys2Proof.Machine.execLaneLost n l signal s
  | .laneFail n m => Sys2Proof.Machine.execLaneFail n m s
  | .laneSwitch n m => Sys2Proof.Machine.execLaneSwitch n m s
  | .substitution n d => Sys2Proof.Machine.execSubstitution n d s
  | .narrow n m => Sys2Proof.Machine.execNarrow n m s
  | .narrowSwitch n d => Sys2Proof.Machine.execNarrowSwitch n d s
  | .uncorrLimit n => Sys2Proof.Machine.execUncorrLimit n s
  | .retrainReq n m => Sys2Proof.Machine.execRetrainReq n m s
  | .training n rx tx => Sys2Proof.Machine.execTraining n rx tx s
  | .trainingDone n m arrival => Sys2Proof.Machine.execTrainingDone n m arrival s
  | .trainingTimeout n => Sys2Proof.Machine.execTrainingTimeout n s
  | .online n => Sys2Proof.Machine.execOnline n s
  | .loopback n => Sys2Proof.Machine.execLoopback n s
  | .offline n => Sys2Proof.Machine.execOffline n s
  | .retrain n => Sys2Proof.Machine.execRetrain n s
  | .laserInsert e lower page typeOk part watts => Sys2Proof.Machine.execLaserInsert e lower page typeOk part watts s
  | .laserReady e => Sys2Proof.Machine.execLaserReady e s
  | .swap e => Sys2Proof.Machine.execSwap e s
  | .laserAlarm e => Sys2Proof.Machine.execLaserAlarm e s
  | .inflate d => Sys2Proof.Machine.execInflate d s
  | .deflate d => Sys2Proof.Machine.execDeflate d s
  | .vminRearm d => Sys2Proof.Machine.execVminRearm d s
  | .inflationStart => Sys2Proof.Machine.execInflationStart s
  | .inflationStage d current => Sys2Proof.Machine.execInflationStage d current s
  | .deflationDone d => Sys2Proof.Machine.execDeflationDone d s
  | .hardLimitTrip d => Sys2Proof.Machine.execHardLimitTrip d s
  | .droopStep d rise quotient => Sys2Proof.Machine.execDroopStep d rise quotient s
  | .emergencyClockStep cause => Sys2Proof.Machine.execEmergencyClockStep cause s
  | .clockStepEnd => Sys2Proof.Machine.execClockStepEnd s
  | .orderlyShutdown => Sys2Proof.Machine.execOrderlyShutdown s
  | .brickFail b => Sys2Proof.Machine.execBrickFail b s
  | .brickInsert b ident ok watts temp => Sys2Proof.Machine.execBrickInsert b ident ok watts temp s
  | .thermalWarning inlet flow => Sys2Proof.Machine.execThermalWarning inlet flow s
  | .hbmOvertemp m => Sys2Proof.Machine.execHbmOvertemp m s
  | .positionFault n => Sys2Proof.Machine.execPositionFault n s
  | .remap p => Sys2Proof.Machine.execRemap p s
  | .gondolaHalfStop g => Sys2Proof.Machine.execGondolaHalfStop g s
  | .firmwareTakeover => Sys2Proof.Machine.execFirmwareTakeover s
  | .moduleReset cause => Sys2Proof.Machine.execModuleReset cause s
  | .bringUpRing failed => Sys2Proof.Machine.execBringUpRing failed s
  | .ringTimeout => Sys2Proof.Machine.execRingTimeout s
  | .hostLinkChange h up full => Sys2Proof.Machine.execHostLinkChange h up full s
  | .stage mem => Sys2Proof.Machine.execStage mem s
  | .handover => Sys2Proof.Machine.execHandover s
  | .handoverTakeover => Sys2Proof.Machine.execHandoverTakeover s
  | .confirm => Sys2Proof.Machine.execConfirm s
  | .fallback => Sys2Proof.Machine.execFallback s
  | .settingsWrite mem => Sys2Proof.Machine.execSettingsWrite mem s
  | .openDebug mem => Sys2Proof.Machine.execOpenDebug mem s
  | .keyLoad p slot => Sys2Proof.Machine.execKeyLoad p slot s
  | .keyErase p slot => Sys2Proof.Machine.execKeyErase p slot s
  | .keyEraseAll p => Sys2Proof.Machine.execKeyEraseAll p s
  | .entdaa addr => Sys2Proof.Machine.execEntdaa addr s
  | .getVersion => Sys2Proof.Machine.execGetVersion s
  | .getCapabilities => Sys2Proof.Machine.execGetCapabilities s
  | .negotiateAlgorithms p384 sha384 => Sys2Proof.Machine.execNegotiateAlgorithms p384 sha384 s
  | .getDigests => Sys2Proof.Machine.execGetDigests s
  | .getCertificate slot off len => Sys2Proof.Machine.execGetCertificate slot off len s
  | .challenge slot nonce => Sys2Proof.Machine.execChallenge slot nonce s
  | .getMeasurements index nonce => Sys2Proof.Machine.execGetMeasurements index nonce s
  | .ownerKeyInstall key => Sys2Proof.Machine.execOwnerKeyInstall key s
  | .pldmSensorRead sensor => Sys2Proof.Machine.execPldmSensorRead sensor s
  | .pldmLogbookRead off len => Sys2Proof.Machine.execPldmLogbookRead off len s
  | .logbookStore => Sys2Proof.Machine.execLogbookStore s
  | .freeze => Sys2Proof.Machine.execFreeze s
  | .thaw => Sys2Proof.Machine.execThaw s
  | .freezeTimeout => Sys2Proof.Machine.execFreezeTimeout s
  | .freezeQueueFull => Sys2Proof.Machine.execFreezeQueueFull s
  | .reelBeaconErrClear n value => Sys2Proof.Machine.execReelBeaconErrClear n value s
  | .laserRemove e => Sys2Proof.Machine.execLaserRemove e s
  | .brickRemove b => Sys2Proof.Machine.execBrickRemove b s
  | .vfEnableChange v on => Sys2Proof.Machine.execVfEnableChange v on s
  | .fetchCompletionError q => Sys2Proof.Machine.execFetchCompletionError q s
  | .bistDone n result vmin => Sys2Proof.Machine.execBistDone n result vmin s
  | .standbyRebootDone => Sys2Proof.Machine.execStandbyRebootDone s
  | .portEnable n => Sys2Proof.Machine.execPortEnable n s

end Sys2Proof.Machine
end

