-- ==== Sys2Proof/WellFormed.lean ====
section
/-! DEFINITION. When a command is well-formed: its operands lie in the ranges that the spec gives them (R14, R29, R242,
R249, R264, R412). -/

namespace Sys2Proof

/-- Cells of host memory lie in the 64-bit bus address space. -/
def cellsWf (mem : List (Nat × Byte)) : Bool := mem.all fun c => decide (c.1 < 2 ^ 64)

/-- A symbol error names a symbol of 10 bits that a frame can have (R239, R240, Table 12-1). -/
def SymErr.wf (e : SymErr) : Bool :=
  decide (e.codeword < 8) && decide (e.time < 68) && decide (e.lane < 17) && e.value != 0 && decide (e.value < 1024)

/-- A WSL frame fits its header and holds whole words, 8 of them at most if it is short (R242, R243). -/
def WslFrame.wf (w : WslFrame) : Bool :=
  w.errors.all SymErr.wf && decide (w.crc < 2 ^ 32) && (!w.short || decide (w.payload.length ≤ 512)) && decide (w.cls < 8) && decide (w.version < 16) && decide (w.type < 256) && decide (w.dst < 2 ^ 32) &&
  decide (w.src < 2 ^ 32) && decide (w.seq < 2 ^ 32) && w.payload.length % 64 == 0 && decide (w.payload.length ≤ 5120)

/-- A class 0 message fits its word (R249). -/
def Msg.wf (m : Msg) : Bool :=
  decide (m.type < 256) && decide (m.port < 64) && decide (m.seq < 2 ^ 32) && m.body.length == 56

/-- A protection write fits its registers (R300). -/
def ProtWrite.wf : ProtWrite → Bool
  | .queues _ base count => decide (base < 2 ^ 14) && decide (count < 2 ^ 13)
  | .fences _ base count => decide (base < 2 ^ 15) && decide (count < 2 ^ 15)
  | .enable _ _ => true

/-- A withdrawing write fits its register (R326). -/
def WithdrawWrite.wf : WithdrawWrite → Bool
  | .ports _ mask => decide (mask < 2 ^ 64)
  | .pages _ _ codes => decide (codes < 2 ^ 64)

/-- The operands of a command are in range. -/
def Instr.wf : Instr → Bool
  | .frameEdge => true
  | .reelBeacon _ _ word _ => word.length == 64
  | .lock => true
  | .holdoverLimit => true
  | .periodChange => true
  | .resume => true
  | .reselect => true
  | .reelCfgLock _ => true
  | .pwrCfgLock _ => true
  | .logbCfgLock _ => true
  | .registerWrite _ off size value => (size == 4 || size == 8) && off % size == 0 && decide (value < 256 ^ size)
  | .badAccess _ off size _ => !((size == 4 || size == 8) && off % size == 0)
  | .doorbell f i _ _ mem => f != Fn.pfMsix && decide (i < 16384) && cellsWf mem
  | .queueFaultClear _ => true
  | .fenceHostWrite f i _ => f != Fn.pfMsix && decide (i < 32768)
  | .protectionChange w => w.wf
  | .resourceWithdraw w => w.wf
  | .taskFetched _ => true
  | .taskHeader _ => true
  | .commandBegin _ => true
  | .lateBegin _ => true
  | .commandRetire _ => true
  | .completionRecord _ => true
  | .deadlineMiss _ => true
  | .nop _ => true
  | .fenceWait _ => true
  | .fenceSignal _ => true
  | .barrier _ => true
  | .wmatmul _ => true
  | .wmatmulSpec _ => true
  | .wvector _ => true
  | .wconv _ => true
  | .wsample _ => true
  | .streamLoad _ => true
  | .shardData _ w => w.wf
  | .verdict _ _ => true
  | .rowAbsent _ _ _ => true
  | .streamSpec _ => true
  | .routeCommit _ => true
  | .reside _ => true
  | .evict _ => true
  | .slotFree _ => true
  | .swapModel _ => true
  | .modelSwitch _ => true
  | .pruneLoad _ => true
  | .writeback _ => true
  | .bcast _ => true
  | .reduce1 _ => true
  | .collectivePiece _ w => w.wf
  | .activationRows _ w => w.wf
  | .bulkRows _ w => w.wf
  | .move _ => true
  | .windowOpen _ => true
  | .windowClose _ => true
  | .forecast _ => true
  | .partCreate _ => true
  | .partResize _ => true
  | .resizeEffect _ => true
  | .partDestroy _ => true
  | .partReset _ => true
  | .flr _ => true
  | .modePrepare _ => true
  | .modePrepareExpire => true
  | .modeCommit _ => true
  | .modeDecision => true
  | .modeSwitch => true
  | .coreFence _ => true
  | .coreRemap _ => true
  | .bistRun _ => true
  | .injectFault _ => true
  | .injectedFault _ => true
  | .journalEnable _ => true
  | .journalDisable _ => true
  | .mark _ => true
  | .tap _ => true
  | .progLoad _ _ mem => cellsWf mem
  | .progClear _ _ => true
  | .bind _ _ => true
  | .tmemClearDone _ => true
  | .ertWindowWrite _ _ _ => true
  | .ertSwitch _ => true
  | .ertBankSwitch _ => true
  | .shadowSyncDone _ => true
  | .patrolScrub _ => true
  | .residentDigestCheck _ _ => true
  | .hbmStackFail _ => true
  | .drain _ => true
  | .drained _ => true
  | .scrub _ => true
  | .scrubDone _ _ => true
  | .returnStack _ => true
  | .pageClear _ => true
  | .pageClearDone _ => true
  | .bridleUncorrectable _ _ flips => flips.length == 4 && flips.all fun f => decide (f ≤ 128)
  | .wslFrame _ w => w.wf
  | .assign _ m => m.wf
  | .ack _ m => m.wf
  | .messageResend _ => true
  | .laneLost _ _ _ => true
  | .laneFail _ m => m.wf
  | .laneSwitch _ m => m.wf
  | .substitution _ _ => true
  | .narrow _ m => m.wf
  | .narrowSwitch _ _ => true
  | .uncorrLimit _ => true
  | .retrainReq _ m => m.wf
  | .training _ _ _ => true
  | .trainingDone _ m _ => m.wf
  | .trainingTimeout _ => true
  | .online _ => true
  | .loopback _ => true
  | .offline _ => true
  | .retrain _ => true
  | .laserInsert _ lower page _ _ _ => lower.length == 128 && page.length == 128
  | .laserReady _ => true
  | .swap _ => true
  | .laserAlarm _ => true
  | .inflate _ => true
  | .deflate _ => true
  | .vminRearm _ => true
  | .inflationStart => true
  | .inflationStage _ current => decide (current ≤ 65535)
  | .deflationDone _ => true
  | .hardLimitTrip _ => true
  | .droopStep _ _ _ => true
  | .emergencyClockStep cause => decide (1 ≤ cause) && decide (cause ≤ 3)
  | .clockStepEnd => true
  | .orderlyShutdown => true
  | .brickFail _ => true
  | .brickInsert _ ident _ _ _ => ident.length == 32
  | .thermalWarning _ _ => true
  | .hbmOvertemp _ => true
  | .positionFault _ => true
  | .remap _ => true
  | .gondolaHalfStop _ => true
  | .firmwareTakeover => true
  | .moduleReset _ => true
  | .bringUpRing failed => failed.all fun d => decide (d < 250)
  | .ringTimeout => true
  | .hostLinkChange _ up full => up || !full
  | .stage mem => cellsWf mem
  | .handover => true
  | .handoverTakeover => true
  | .confirm => true
  | .fallback => true
  | .settingsWrite mem => cellsWf mem
  | .openDebug mem => cellsWf mem
  | .keyLoad _ _ => true
  | .keyErase _ _ => true
  | .keyEraseAll _ => true
  | .entdaa _ => true
  | .getVersion => true
  | .getCapabilities => true
  | .negotiateAlgorithms _ _ => true
  | .getDigests => true
  | .getCertificate _ _ _ => true
  | .challenge _ nonce => nonce.length == 32
  | .getMeasurements index nonce => decide (index < 256) && nonce.length == 32
  | .ownerKeyInstall key => key.length == 96
  | .pldmSensorRead _ => true
  | .pldmLogbookRead _ _ => true
  | .logbookStore => true
  | .freeze => true
  | .thaw => true
  | .freezeTimeout => true
  | .freezeQueueFull => true
  | .reelBeaconErrClear _ _ => true
  | .laserRemove _ => true
  | .brickRemove _ => true
  | .vfEnableChange _ _ => true
  | .fetchCompletionError _ => true
  | .bistDone _ result vmin => decide (result < 8) && decide (vmin < 256)
  | .standbyRebootDone => true
  | .portEnable _ => true

/-- The opcode of Table 13-2 that a row of the table performs; none for an event of the engine or a host access (R276). -/
def Instr.opcode : Instr → Option Nat
  | .frameEdge => none
  | .reelBeacon _ _ _ _ => none
  | .lock => none
  | .holdoverLimit => none
  | .periodChange => none
  | .resume => none
  | .reselect => none
  | .reelCfgLock _ => none
  | .pwrCfgLock _ => none
  | .logbCfgLock _ => none
  | .registerWrite _ _ _ _ => none
  | .badAccess _ _ _ _ => none
  | .doorbell _ _ _ _ _ => none
  | .queueFaultClear _ => none
  | .fenceHostWrite _ _ _ => none
  | .protectionChange _ => none
  | .resourceWithdraw _ => none
  | .taskFetched _ => none
  | .taskHeader _ => none
  | .commandBegin _ => none
  | .lateBegin _ => none
  | .commandRetire _ => none
  | .completionRecord _ => none
  | .deadlineMiss _ => none
  | .nop _ => some 0x0000
  | .fenceWait _ => some 0x0001
  | .fenceSignal _ => some 0x0002
  | .barrier _ => some 0x0003
  | .wmatmul _ => some 0x0100
  | .wmatmulSpec _ => some 0x0101
  | .wvector _ => some 0x0102
  | .wconv _ => some 0x0103
  | .wsample _ => some 0x0104
  | .streamLoad _ => some 0x0200
  | .shardData _ _ => none
  | .verdict _ _ => none
  | .rowAbsent _ _ _ => none
  | .streamSpec _ => some 0x0201
  | .routeCommit _ => some 0x0202
  | .reside _ => some 0x0203
  | .evict _ => some 0x0204
  | .slotFree _ => none
  | .swapModel _ => some 0x0205
  | .modelSwitch _ => none
  | .pruneLoad _ => some 0x0206
  | .writeback _ => some 0x0207
  | .bcast _ => some 0x0300
  | .reduce1 _ => some 0x0301
  | .collectivePiece _ _ => none
  | .activationRows _ _ => none
  | .bulkRows _ _ => none
  | .move _ => some 0x0400
  | .windowOpen _ => some 0x0401
  | .windowClose _ => some 0x0402
  | .forecast _ => some 0x0500
  | .partCreate _ => some 0x0600
  | .partResize _ => some 0x0601
  | .resizeEffect _ => none
  | .partDestroy _ => some 0x0602
  | .partReset _ => some 0x0603
  | .flr _ => none
  | .modePrepare _ => some 0x0604
  | .modePrepareExpire => none
  | .modeCommit _ => some 0x0605
  | .modeDecision => none
  | .modeSwitch => none
  | .coreFence _ => some 0x0606
  | .coreRemap _ => some 0x0607
  | .bistRun _ => some 0x0700
  | .injectFault _ => some 0x0701
  | .injectedFault _ => none
  | .journalEnable _ => some 0x0702
  | .journalDisable _ => some 0x0702
  | .mark _ => some 0x0702
  | .tap _ => some 0x0702
  | .progLoad _ _ _ => none
  | .progClear _ _ => none
  | .bind _ _ => none
  | .tmemClearDone _ => none
  | .ertWindowWrite _ _ _ => none
  | .ertSwitch _ => none
  | .ertBankSwitch _ => none
  | .shadowSyncDone _ => none
  | .patrolScrub _ => none
  | .residentDigestCheck _ _ => none
  | .hbmStackFail _ => none
  | .drain _ => none
  | .drained _ => none
  | .scrub _ => none
  | .scrubDone _ _ => none
  | .returnStack _ => none
  | .pageClear _ => none
  | .pageClearDone _ => none
  | .bridleUncorrectable _ _ _ => none
  | .wslFrame _ _ => none
  | .assign _ _ => none
  | .ack _ _ => none
  | .messageResend _ => none
  | .laneLost _ _ _ => none
  | .laneFail _ _ => none
  | .laneSwitch _ _ => none
  | .substitution _ _ => none
  | .narrow _ _ => none
  | .narrowSwitch _ _ => none
  | .uncorrLimit _ => none
  | .retrainReq _ _ => none
  | .training _ _ _ => none
  | .trainingDone _ _ _ => none
  | .trainingTimeout _ => none
  | .online _ => none
  | .loopback _ => none
  | .offline _ => none
  | .retrain _ => none
  | .laserInsert _ _ _ _ _ _ => none
  | .laserReady _ => none
  | .swap _ => none
  | .laserAlarm _ => none
  | .inflate _ => none
  | .deflate _ => none
  | .vminRearm _ => none
  | .inflationStart => none
  | .inflationStage _ _ => none
  | .deflationDone _ => none
  | .hardLimitTrip _ => none
  | .droopStep _ _ _ => none
  | .emergencyClockStep _ => none
  | .clockStepEnd => none
  | .orderlyShutdown => none
  | .brickFail _ => none
  | .brickInsert _ _ _ _ _ => none
  | .thermalWarning _ _ => none
  | .hbmOvertemp _ => none
  | .positionFault _ => none
  | .remap _ => none
  | .gondolaHalfStop _ => none
  | .firmwareTakeover => none
  | .moduleReset _ => none
  | .bringUpRing _ => none
  | .ringTimeout => none
  | .hostLinkChange _ _ _ => none
  | .stage _ => none
  | .handover => none
  | .handoverTakeover => none
  | .confirm => none
  | .fallback => none
  | .settingsWrite _ => none
  | .openDebug _ => none
  | .keyLoad _ _ => none
  | .keyErase _ _ => none
  | .keyEraseAll _ => none
  | .entdaa _ => none
  | .getVersion => none
  | .getCapabilities => none
  | .negotiateAlgorithms _ _ => none
  | .getDigests => none
  | .getCertificate _ _ _ => none
  | .challenge _ _ => none
  | .getMeasurements _ _ => none
  | .ownerKeyInstall _ => none
  | .pldmSensorRead _ => none
  | .pldmLogbookRead _ _ => none
  | .logbookStore => none
  | .freeze => none
  | .thaw => none
  | .freezeTimeout => none
  | .freezeQueueFull => none
  | .reelBeaconErrClear _ _ => none
  | .laserRemove _ => none
  | .brickRemove _ => none
  | .vfEnableChange _ _ => none
  | .fetchCompletionError _ => none
  | .bistDone _ _ _ => none
  | .standbyRebootDone => none
  | .portEnable _ => none

/-- The queue command that a row of the table names, if it names one. -/
def Instr.cmdId : Instr → Option CmdId
  | .frameEdge => none
  | .reelBeacon _ _ _ _ => none
  | .lock => none
  | .holdoverLimit => none
  | .periodChange => none
  | .resume => none
  | .reselect => none
  | .reelCfgLock _ => none
  | .pwrCfgLock _ => none
  | .logbCfgLock _ => none
  | .registerWrite _ _ _ _ => none
  | .badAccess _ _ _ _ => none
  | .doorbell _ _ _ _ _ => none
  | .queueFaultClear _ => none
  | .fenceHostWrite _ _ _ => none
  | .protectionChange _ => none
  | .resourceWithdraw _ => none
  | .taskFetched _ => none
  | .taskHeader _ => none
  | .commandBegin c => some c
  | .lateBegin c => some c
  | .commandRetire c => some c
  | .completionRecord _ => none
  | .deadlineMiss c => some c
  | .nop c => some c
  | .fenceWait c => some c
  | .fenceSignal c => some c
  | .barrier c => some c
  | .wmatmul c => some c
  | .wmatmulSpec c => some c
  | .wvector c => some c
  | .wconv c => some c
  | .wsample c => some c
  | .streamLoad c => some c
  | .shardData _ _ => none
  | .verdict c _ => some c
  | .rowAbsent c _ _ => some c
  | .streamSpec c => some c
  | .routeCommit c => some c
  | .reside c => some c
  | .evict c => some c
  | .slotFree _ => none
  | .swapModel c => some c
  | .modelSwitch _ => none
  | .pruneLoad c => some c
  | .writeback c => some c
  | .bcast c => some c
  | .reduce1 c => some c
  | .collectivePiece _ _ => none
  | .activationRows _ _ => none
  | .bulkRows _ _ => none
  | .move c => some c
  | .windowOpen c => some c
  | .windowClose c => some c
  | .forecast c => some c
  | .partCreate c => some c
  | .partResize c => some c
  | .resizeEffect _ => none
  | .partDestroy c => some c
  | .partReset c => some c
  | .flr _ => none
  | .modePrepare c => some c
  | .modePrepareExpire => none
  | .modeCommit c => some c
  | .modeDecision => none
  | .modeSwitch => none
  | .coreFence c => some c
  | .coreRemap c => some c
  | .bistRun c => some c
  | .injectFault c => some c
  | .injectedFault c => some c
  | .journalEnable c => some c
  | .journalDisable c => some c
  | .mark c => some c
  | .tap c => some c
  | .progLoad _ _ _ => none
  | .progClear _ _ => none
  | .bind _ _ => none
  | .tmemClearDone _ => none
  | .ertWindowWrite _ _ _ => none
  | .ertSwitch _ => none
  | .ertBankSwitch _ => none
  | .shadowSyncDone _ => none
  | .patrolScrub _ => none
  | .residentDigestCheck _ _ => none
  | .hbmStackFail _ => none
  | .drain _ => none
  | .drained _ => none
  | .scrub _ => none
  | .scrubDone _ _ => none
  | .returnStack _ => none
  | .pageClear _ => none
  | .pageClearDone _ => none
  | .bridleUncorrectable _ _ _ => none
  | .wslFrame _ _ => none
  | .assign _ _ => none
  | .ack _ _ => none
  | .messageResend _ => none
  | .laneLost _ _ _ => none
  | .laneFail _ _ => none
  | .laneSwitch _ _ => none
  | .substitution _ _ => none
  | .narrow _ _ => none
  | .narrowSwitch _ _ => none
  | .uncorrLimit _ => none
  | .retrainReq _ _ => none
  | .training _ _ _ => none
  | .trainingDone _ _ _ => none
  | .trainingTimeout _ => none
  | .online _ => none
  | .loopback _ => none
  | .offline _ => none
  | .retrain _ => none
  | .laserInsert _ _ _ _ _ _ => none
  | .laserReady _ => none
  | .swap _ => none
  | .laserAlarm _ => none
  | .inflate _ => none
  | .deflate _ => none
  | .vminRearm _ => none
  | .inflationStart => none
  | .inflationStage _ _ => none
  | .deflationDone _ => none
  | .hardLimitTrip _ => none
  | .droopStep _ _ _ => none
  | .emergencyClockStep _ => none
  | .clockStepEnd => none
  | .orderlyShutdown => none
  | .brickFail _ => none
  | .brickInsert _ _ _ _ _ => none
  | .thermalWarning _ _ => none
  | .hbmOvertemp _ => none
  | .positionFault _ => none
  | .remap _ => none
  | .gondolaHalfStop _ => none
  | .firmwareTakeover => none
  | .moduleReset _ => none
  | .bringUpRing _ => none
  | .ringTimeout => none
  | .hostLinkChange _ _ _ => none
  | .stage _ => none
  | .handover => none
  | .handoverTakeover => none
  | .confirm => none
  | .fallback => none
  | .settingsWrite _ => none
  | .openDebug _ => none
  | .keyLoad _ _ => none
  | .keyErase _ _ => none
  | .keyEraseAll _ => none
  | .entdaa _ => none
  | .getVersion => none
  | .getCapabilities => none
  | .negotiateAlgorithms _ _ => none
  | .getDigests => none
  | .getCertificate _ _ _ => none
  | .challenge _ _ => none
  | .getMeasurements _ _ => none
  | .ownerKeyInstall _ => none
  | .pldmSensorRead _ => none
  | .pldmLogbookRead _ _ => none
  | .logbookStore => none
  | .freeze => none
  | .thaw => none
  | .freezeTimeout => none
  | .freezeQueueFull => none
  | .reelBeaconErrClear _ _ => none
  | .laserRemove _ => none
  | .brickRemove _ => none
  | .vfEnableChange _ _ => none
  | .fetchCompletionError _ => none
  | .bistDone _ _ _ => none
  | .standbyRebootDone => none
  | .portEnable _ => none

end Sys2Proof
end

