-- ==== Sys2Proof/Safety.lean ====
section
/-! DEFINITION. The terms in which claims speak: a step that goes on, a queue of commands that the spec allows to be sent, the
invariant of every step, and what a command may change. -/

namespace Sys2Proof.Safety

open Sys2Proof.Machine

/-- A step is safe when it goes on: it answers a next state. -/
def StepSafe (s : State) : Prop := ∃ t, Sys2Proof.Machine.step s = Host.Outcome.next t

/-- The queue holds well-formed commands only. -/
def QueueWf (s : State) : Bool := s.pending.all Sys2Proof.Instr.wf

/-- The present cycle lies in the present frame (R9, R32). -/
def ClockOk (s : State) : Prop := s.clock.frameStart ≤ s.clock.now ∧ s.clock.now < s.clock.frameStart + s.clock.frameLen

/-- Host memory, carrier memory and the FRU block are in canonical form, and the registers' table is in rising order. -/
def MemoriesOk (s : State) : Prop :=
  Mem.wf s.host = true ∧ Mem.wf s.carrier.mem = true ∧ Mem.wf s.fru = true ∧ (s.regs.map Prod.fst).Pairwise (· < ·)

/-- What every step keeps. -/
def Inv (s : State) : Prop := QueueWf s = true ∧ ClockOk s ∧ MemoriesOk s

/-- The parts of the state beside the register fields. -/
inductive Component where
  | pending | clock | free | fuses | reel | host | fru | cmds | recs | fences | queues | parts | cores | carrier | links
  | ports | lasers | power | mode | injects | bists | gondola | sec | book | msix | vfs | edge | rehearsal | out | fresh
  deriving DecidableEq, Repr

/-- A part of the state is the same in both. -/
def Component.same (s t : State) : Component → Prop
  | .pending => t.pending = s.pending
  | .clock => t.clock = s.clock
  | .free => t.free = s.free
  | .fuses => t.fuses = s.fuses
  | .reel => t.reel = s.reel
  | .host => t.host = s.host
  | .fru => t.fru = s.fru
  | .cmds => t.cmds = s.cmds
  | .recs => t.recs = s.recs
  | .fences => t.fences = s.fences
  | .queues => t.queues = s.queues
  | .parts => t.parts = s.parts
  | .cores => t.cores = s.cores
  | .carrier => t.carrier = s.carrier
  | .links => t.links = s.links
  | .ports => t.ports = s.ports
  | .lasers => t.lasers = s.lasers
  | .power => t.power = s.power
  | .mode => t.mode = s.mode
  | .injects => t.injects = s.injects
  | .bists => t.bists = s.bists
  | .gondola => t.gondola = s.gondola
  | .sec => t.sec = s.sec
  | .book => t.book = s.book
  | .msix => t.msix = s.msix
  | .vfs => t.vfs = s.vfs
  | .edge => t.edge = s.edge
  | .rehearsal => t.rehearsal = s.rehearsal
  | .out => t.out = s.out
  | .fresh => t.fresh = s.fresh

/-- From `s` to `t` at most these register fields and these parts of the state change; the memories of `t` are, byte for byte, those
of `s` unless their part is listed. -/
def Changes (F : List Field) (C : List Component) (s t : State) : Prop :=
  (∀ f ∈ Field.all, f ∉ F → ∀ i, t.get f i = s.get f i ∧ t.getA f i = s.getA f i) ∧ ∀ c : Component, c ∉ C → c.same s t

/-- The command completes in `s`: exec answers a next state `t`, between `s` and `t` at most the fields `F` and the parts `C` change,
and `t` is as `Q` says. -/
def Completes (c : Instr) (s : State) (F : List Field) (C : List Component) (Q : State → Prop) : Prop :=
  ∃ t, exec c s = Host.Outcome.next t ∧ Changes F C s t ∧ Q t

/-- In `t` command d has performed its step and is to retire in cycle `x` with this status and Detail, its record being marked as
those of `s` are (R285, R387). -/
def RetiresAt (s t : State) (d : Cmd) (x status detail : Nat) : Prop :=
  t.findCmd d.queue d.seq =
    some { d with ran := true, due := some x, status := status, detail := detail, rehearsal := s.rehearsal }

/-- As `RetiresAt`, for a command whose own step goes on from cycle to cycle; where it last stood is not told. -/
def RetiresWith (s t : State) (d : Cmd) (x status detail : Nat) : Prop :=
  ∃ u v, t.findCmd d.queue d.seq =
    some { d with ran := true, due := some x, status := status, detail := detail, rehearsal := s.rehearsal, upto := u, phase := v }

/-- As `RetiresWith`, with the status of a command whose transfers ran over the degraded ports `l` (R259). -/
def RetiresOver (s t : State) (d : Cmd) (x : Nat) (l : List (Nat × Nat × Nat)) : Prop :=
  RetiresWith s t d x (if l.isEmpty then 0 else 4) ((linkDetail l).getD 0)

/-- Every word of a shard that comes from carrier memory has left it; over a tether words come of themselves (R183). -/
def Brought (s : State) (p : Nat) (h : Shard) : Prop :=
  h.port < 64 ∨ ∀ e b, (s.part p).entry h.entry = some (e, b) → ∀ q, 64 * (e.roundWords q).1 = h.data.length → (e.roundWords q).2 = 0

/-- Nothing of what stream `st` of command `d` brings is left to be done but its verdicts: every shard has come whole, its headers
are as they should be, and its rows, or what RESIDE stores, are in place (R176, R192, R200). -/
def InPlace (s : State) (p : Nat) (d : Cmd) (st : Stream) : Prop :=
  ∀ h ∈ st.shards, h.delivered = true ∧ Brought s p h ∧ (s.headFault d p h).isNone = true ∧ (d.op = 0x203 ∨ h.place ≠ []) ∧
    (d.op = 0x203 → (∀ w ∈ s.enterRounds p h, w.1 < s.uptoOf d) ∧ (h.port = 64 → h.full = true → sha256 h.plain = shDigest h.header)) ∧
    (d.op ≠ 0x203 → ∀ w ∈ s.pieces p d h, w.1 < s.uptoOf d)

/-- The last cycle in which a row of a stream is in place. -/
def lastPlaced (s : State) (p : Nat) (d : Cmd) (st : Stream) : Nat := (st.shards.map fun h => s.placeEnd p d h).foldl max 0

/-- The command is still fetched, and no fault has been charged to it. -/
def Unfaulted (s : State) (d : Cmd) : Prop := ∃ v, s.findCmd d.queue d.seq = some v ∧ v.status < 0x3000

/-- Command `d` of partition `p` has begun, is of this opcode, and has not yet performed its step. -/
def Running (s : State) (c : CmdId) (op : Nat) (d : Cmd) (p : Nat) : Prop := s.ready c op = some d ∧ d.part = some p

/-- The registers of PF BAR0 whose writes do more than their access codes say, or are held by a lock. -/
def ownRegs : List Reg :=
  [Reg.REEL_CFG, Reg.REEL_REFSET, Reg.PWR_CFG, Reg.LOGB_CFG, Reg.REEL_CTL, Reg.REEL_BEACON_ERR, Reg.PART_ERT_CTL, Reg.TETH_CFG,
   Reg.TETH_CTL, Reg.TETH_LASER, Reg.QTAB_CMD, Reg.QTAB_CPL, Reg.QTAB_DB, Reg.FENCE_VALUE, Reg.PART_CMD, Reg.PART_QUEUES,
   Reg.PART_FENCES, Reg.PART_PORTS, Reg.PART_PAGES, Reg.PART_EVT, Reg.PART_PROG_CTL, Reg.PWR_PART, Reg.PWR_DOM_CTL, Reg.HBM_CTL,
   Reg.LOGB_CTL, Reg.GCTL_RESET, Reg.GCTL_HOST, Reg.GCTL_FW_CTL, Reg.GCTL_SET_CTL, Reg.GCTL_DBG_ADDR, Reg.PART_KEY_IN,
   Reg.PART_KEY_CTL]

/-- Register `r` of instance `i` has been written whole with `v` (R11): plain fields take their bits, a W1C field loses the bits written
as 1 unless an event set it in the same cycle; other instances keep theirs. -/
def Written (s t : State) (r : Reg) (i v : Nat) : Prop :=
  ∀ f ∈ r.fields,
    (f.acc = .rw ∨ f.acc = .rws ∨ f.acc = .rwl → t.get f i = f.part v) ∧
    (f.acc = .w1c → t.get f i = if s.isFresh f i then s.get f i else s.get f i &&& (ones f.width ^^^ f.part v)) ∧
    ∀ j, j % 65536 ≠ i % 65536 → t.get f j = s.get f j

/-- No command that is held in a prediction slot of the partition is among the fetched ones that have not retired (R219). -/
def HeldApart (s : State) (p : Nat) : Prop :=
  ∀ x ∈ (s.part p).strm.preds, ∀ h ∈ x.2.held, ∀ d ∈ s.cmds, ¬(d.queue = h.1.queue ∧ d.seq = h.1.seq)

/-- The end of everything that has begun in partition `p` is known (R285). -/
def Settled (s : State) (p : Nat) : Prop :=
  ∀ x ∈ s.cmds, x.part = some p → x.began.isSome = true → ∀ y, s.findCmd x.queue x.seq = some y → y.due.isSome = true

/-- The state once everything that has begun in command `d`'s partition has gone on as far as cycle `x` (log entry 2). -/
def caughtUp (s : State) (d : Cmd) (x : Nat) : State := match d.part with
  | some p => s.catchUp p x
  | none => s

/-- Port `n` hears a class 0 message of this type for the first time (R250). -/
def Heard (s : State) (n : Nat) (m : Msg) (type : Nat) : Prop :=
  s.portHears n = true ∧ m.type = type ∧ (s.port n).seen.contains m.seq = false

/-- Nothing of what shard `h` brings is due yet: its rows' rounds and cycles lie ahead (R181). -/
def Ahead (s : State) (p : Nat) (h : Shard) : Prop :=
  ∀ e b, (s.part p).entry h.entry = some (e, b) →
    (∀ j, s.now ≤ s.roundCycle p (e.rowLast b.round j)) ∧ ∀ lc j x, b.cycleOn lc j = some x → s.now < s.boundCycle p x

/-- A frame of this class and type and of one word stands at port `n` for partition `p`, whose one stream `st` waits for the one shard
or piece `h` on that port, and no clock step lasts (R176, R232, R247, R361). -/
def OneWord (s : State) (n : Nat) (w : WslFrame) (cls type p : Nat) (st : Stream) (h : Shard) : Prop :=
  s.portTalks n = true ∧ w.cls = cls ∧ w.type = type ∧ w.payload.length = 64 ∧ (s.linkCheck n w).1 = true ∧
  s.portOwner n = some p ∧ (s.part p).strm.streams = [st] ∧ st.shards = [h] ∧ h.port = n ∧ h.cancelled = false ∧
  h.lost = 0 ∧ h.delivered = false ∧ h.verdict = none ∧ s.power.step = none

/-- Partition `p`'s cores hold what the shares `rs` of an operation made of them. -/
def CoresTake (s t : State) (p : Nat) (rs : List CoreRun) : Prop :=
  ∀ r ∈ rs, ∀ k, (s.part p).position r.lc = some k → t.core k = r.k

/-- A vector operation whose cores' shares on `x` are `xs` (R18, R88, R91, R111): it goes as far as the present cycle. Without a fault
up to there it waits, or, every core having come to its last cycle, retires 8 cycles after the slowest core, with INDEX_DROPPED if
entries were dropped; its first fault ends it, after which nothing more is written (an uncorrectable quarter, kind 1, may fence its
position as well). -/
def VectorOp (c : Instr) (s x : State) (d : Cmd) (p : Nat) (xs : List VecShare) (F : List Field) (C : List Component) : Prop :=
  let seen := x.wideFrom d p
  let us := xs.flatMap fun y => y.v.uses.filter fun u => decide (seen ≤ u.cycle) && decide (u.cycle ≤ s.now)
  let drops := xs.flatMap fun y => dropFaults (x.dropLimit p) y.v.lc y.dropped0 y.v.drops
  let flts := (drops ++ x.useFaults p us).filter fun f => decide (seen ≤ f.cycle) && decide (f.cycle ≤ s.now)
  let f := firstFlt flts
  let dropped := dropDetail (xs.map fun y => (y.v.lc, sumN (y.v.drops.map Prod.snd)))
  Completes c s F C (fun _ => True) ∧ ((x.part p).positions.Nodup → (xs.map fun y => y.v.lc).Nodup →
  (f = none → (∀ y ∈ xs, y.last ≤ s.now) → Completes c s F C fun t =>
    RetiresAt s t d (d.t0 + (xs.map VecShare.cycles).foldl max 0 + 8) (if dropped.1 then 1 else 0) (if dropped.1 then dropped.2 else 0) ∧
    CoresTake s t p (xs.map fun y => y.part seen s.now (s.now + 1))) ∧
  (f = none → (∃ y ∈ xs, s.now < y.last) → Completes c s F C fun t =>
    t.cmds = s.cmds ∧ (t.part p).run.wide = some ⟨d.queue, d.seq, [], s.now + 1⟩ ∧
    CoresTake s t p (xs.map fun y => y.part seen s.now (s.now + 1))) ∧
  ∀ e, f = some e → (∀ g ∈ flts, g.kind ≠ 1) → Completes c s F C fun t =>
    RetiresAt s t d (max e.cycle s.now) e.status e.detail ∧ CoresTake s t p (xs.map fun y => y.part seen e.cycle e.cycle))

/-- A matrix operation `o` on `x`, whose cores walk from `start` or go on from where they stood (R18, R88, R111, R190). Without a fault
up to the present cycle it waits, or, every core having come to its end, retires 8 cycles after the slowest one, with
INDEX_DROPPED if entries were dropped. Either way `Q` holds afterwards. -/
def MatrixOp (c : Instr) (s x : State) (d : Cmd) (p : Nat) (o : MatOp) (start : List Walk) (fill : Fill) (F : List Field)
    (C : List Component) (Q : State → Prop) : Prop :=
  let seen := x.wideFrom d p
  let table := fill.uses.filter fun u => decide (seen ≤ u.cycle) && decide (u.cycle ≤ s.now)
  let runs := x.matRuns p o (x.walksNow p start)
  let walks := runs.map MatRun.w
  let dropped := dropDetail (walks.map fun w => (w.core, w.dropped))
  Completes c s F C (fun _ => True) ∧ ((x.part p).positions.Nodup → (walks.map Walk.core).Nodup →
  firstFlt (((fill.flts.filter fun f => decide (seen ≤ f.cycle)) ++ runs.flatMap MatRun.flts ++
    x.useFaults p (table ++ runs.flatMap fun r => r.uses ++ r.ahead)).filter fun f => decide (f.cycle ≤ s.now)) = none →
  ((walks.all fun w => w.finished.isSome) = true → Completes c s F C fun t =>
    RetiresAt s t d (d.t0 + slowest runs + 8) (if dropped.1 then 1 else 0) (if dropped.1 then dropped.2 else 0) ∧
    (∀ r ∈ runs, ∀ k, (s.part p).position r.w.core = some k → t.core k = r.k) ∧ Q t) ∧
  ((walks.all fun w => w.finished.isSome) = false → Completes c s F C fun t =>
    t.cmds = s.cmds ∧ (t.part p).run.wide = some ⟨d.queue, d.seq, walks, s.now + 1⟩ ∧
    (∀ r ∈ runs, ∀ k, (s.part p).position r.w.core = some k → t.core k = r.k) ∧ Q t))

/-- The fields that count what the logbook holds: they change with every event (R390, R392). -/
def bookFields : List Field := [Field.LOGB_STAT_OVERWRITTEN, Field.LOGB_STAT_LOST, Field.LOGB_SEQ_SEQ]

/-- What every record of a partition's journal changes (R335, R344). -/
def journalFields : List Field := [Field.PART_JRNL_STAT_NEXT_SEQ, Field.PART_JRNL_STAT_MIRROR_DROPPED, Field.PART_JRNL_TAIL_BYTES]

/-- What a task's end changes (R280, R295): its partition's summary, its journal, the logbook. -/
def taskFields : List Field :=
  [Field.PART_CMD_TASK, Field.PART_STEP_STEP, Field.PART_RECOVER_LAST_TASK_SLACK] ++ journalFields ++ bookFields

/-- Counts of prediction slots (R219, R225). -/
def slotFields : List Field := [Field.PART_SPEC_CNT_SQUASHED, Field.PART_SPEC_CNT_HELD_FAULTS, Field.PART_SPEC_BYTES_BYTES]

/-- What accesses to tile memory count, and what a second uncorrectable quarter does to its position (R125, R126, R135, R369). -/
def accessFields : List Field :=
  [Field.CORE_TMEM_HAZ_TOTAL, Field.CORE_TMEM_HAZ_WW, Field.CORE_TMEM_HAZ_TASK, Field.CORE_TMEM_ECC_CORRECTED,
   Field.CORE_TMEM_ECC_UNCORRECTABLE, Field.CORE_BIND_BOUND, Field.CORE_BIND_FENCED, Field.PWR_DOM_STAT_STATE]

/-- What bytes that move count (R130, R166, R167, R208, R237). -/
def moveFields : List Field :=
  [Field.CORE_TMEM_STAB_VIOL_TOTAL, Field.HBM_STAT_WW, Field.HBM_ECC_CORRECTED, Field.HBM_ECC_UNCORRECTABLE, Field.STRM_FAIL_DIGEST,
   Field.CORE_GATHER_SET]

/-- What streaming counts beside (R116, R191). -/
def pruneFields : List Field := [Field.CORE_PRUNE_GROUPS, Field.CORE_PRUNE_TIES, Field.STRM_FAIL_OVERRUN]

/-- Corrected and uncorrectable words of the Bridle links (R157). -/
def linkFields : List Field := [Field.CORE_BRIDLE_LINK_UNCORRECTABLE, Field.CORE_BRIDLE_LINK_CORRECTED]

/-- Counts of reductions (R236). -/
def reduceFields : List Field := [Field.CORE_RED_CNT_FLUSHED, Field.CORE_RED_CNT_RANGE, Field.CORE_RED_CNT_NAN]

/-- What a ROUTE_COMMIT reports (R217, R225). -/
def routeFields : List Field :=
  [Field.PART_SPEC_CNT_CONFIRMED, Field.PART_SPEC_CNT_STRAY, Field.PART_SPILL_BLOCKS_RUN, Field.PART_SPILL_LAST_SPILLED,
   Field.PART_SPILL_LAST_MAX]

/-- What a Wsl frame's link check counts (R244, R257, R260). -/
def frameFields : List Field := [Field.TETH_FEC_CORRECTED, Field.TETH_FEC_UNCORR_TOTAL, Field.TETH_UNCORR_DISCARD_NARROW]

/-- A port's widths and lanes (R266). -/
def laneFields : List Field :=
  [Field.TETH_STAT_TX_SUBST, Field.TETH_STAT_RX_SUBST, Field.TETH_STAT_TX_WIDTH, Field.TETH_STAT_RX_WIDTH, Field.TETH_LANE_RX_LANES,
   Field.TETH_LANE_TX_LANES]

/-- What a position's binding shows (R329). -/
def bindFields : List Field := [Field.PART_STATE_GEN, Field.PART_SHAPE_SPARES, Field.CORE_BIND_SPARE, Field.CORE_BIND_SLOT]

/-- What a partition's shape shows (R153, R171, R329). -/
def shapeFields : List Field :=
  [Field.PART_BRIDLE_BOUND, Field.PART_BRIDLE_BASE, Field.PART_ERT_COUNT, Field.PART_ERT_BASE, Field.PART_STAGE_SPEC_MAX,
   Field.PART_SHAPE_LCORES]

/-- What the settings block loads (R434). -/
def settingFields : List Field :=
  [Field.REEL_CFG_LOCK, Field.REEL_CFG_SLACK_WARN, Field.REEL_CFG_LOCK_FRAMES, Field.REEL_REFSET_PORTS, Field.STRM_SCRUB_CFG_INTERVAL,
   Field.TETH_CFG_UNCORR_LIMIT, Field.TETH_CFG_LANE_ERR_LIMIT, Field.PWR_CFG_LOCK, Field.PWR_CFG_DROOP_FAIL,
   Field.PWR_CFG_DROOP_WARN, Field.PWR_CFG_LIMIT, Field.LOGB_CFG_LOCK, Field.LOGB_CFG_RATE_NEW, Field.GCTL_STAT_UP]

/-- What the loss of the Reel shows (R40 to R42). -/
def lostFields : List Field :=
  [Field.REEL_STAT_CAUSE, Field.REEL_STAT_REF_VALID, Field.REEL_STAT_STATE, Field.REEL_HOLD_LAST, Field.REEL_HOLD_CURRENT,
   Field.REEL_EVT_LOST, Field.REEL_PERIOD_NEXT_VALID, Field.VFEVT_STAT_REEL_LOST]

/-- The parts that a task's end changes: records, journal bytes in host memory, frames to a mirror, the logbook. -/
def taskParts : List Component :=
  [Component.host, Component.cmds, Component.recs, Component.parts, Component.cores, Component.ports, Component.book]

/-- A request of the management bus, which the driving half's firmware answers (R378, R411, R412, R419, R438). -/
def FirmwareRequest (c : Instr) : Prop :=
  (∃ a, c = .entdaa a) ∨ c = .getVersion ∨ c = .getCapabilities ∨ (∃ a b, c = .negotiateAlgorithms a b) ∨ c = .getDigests ∨
  (∃ k off len, c = .getCertificate k off len) ∨ (∃ k nonce, c = .challenge k nonce) ∨ (∃ k nonce, c = .getMeasurements k nonce) ∨
  (∃ key, c = .ownerKeyInstall key) ∨ (∃ k, c = .pldmSensorRead k) ∨ ∃ off len, c = .pldmLogbookRead off len

end Sys2Proof.Safety
end

