-- ==== Sys2Proof/Certificates/Slice0/Obligations.lean ====
section
/-! DEFINITION. The statements of this row. Each says of the commands it names that exec answers a next state (`Completes`, or an
equation), what that state holds, and which register fields and parts of the state may differ from before. -/

open Sys2Proof Sys2Proof.Machine Sys2Proof.Safety

/-- A step takes the command at the front of the queue; an empty queue lets one core cycle pass (log entry 1). -/
def Obligations.StepTakesFront : Prop :=
  (∀ (s : State) (c : Instr) (r : List Instr), step { s with pending := c :: r } = exec c { s with pending := r }) ∧
  (∀ s : State, s.pending = [] → s.now + 1 < s.nextEdge →
    step s = .next { s with clock := { s.clock with now := s.now + 1 } }) ∧
  (∀ s : State, s.pending = [] → s.nextEdge ≤ s.now + 1 → step s = exec .frameEdge s)

/-- Every step keeps the invariant: the queue holds well-formed commands, the present cycle lies in the present frame, and the
memories and the registers' table are in canonical form. -/
def Obligations.StepKeepsInvariant : Prop := ∀ s t : State, Inv s → step s = .next t → Inv t

/-- The state after reset has the invariant. -/
def Obligations.ResetHasInvariant : Prop := Inv State.reset

/-- No command stops the block: of every command, in every state, exec answers a next state, and every step does. -/
def Obligations.NoCommandStops : Prop := (∀ (c : Instr) (s : State), ∃ t, exec c s = .next t) ∧ ∀ s : State, StepSafe s

/-- No command touches the queue or what is fused of the module's identity, and none moves the present cycle out of its frame. -/
def Obligations.CommandsKeepQueueAndIdentity : Prop :=
  ∀ (c : Instr) (s t : State), exec c s = .next t →
    t.pending = s.pending ∧ t.fuses.grade = s.fuses.grade ∧ t.fuses.enabled = s.fuses.enabled ∧
    t.fuses.disabled = s.fuses.disabled ∧ t.fuses.identity = s.fuses.identity ∧ t.fuses.serial = s.fuses.serial ∧
    (ClockOk s → ClockOk t) ∧ (MemoriesOk s → MemoriesOk t)

/-- After a write a field reads the value cut to its width, and every other field, and every other instance, reads as before; a
saturating counter stops at its largest value. A memory read after a write gives the bytes written, every other byte reads as before,
and a cleared range reads zero. -/
def Obligations.RegistersAndMemoryReadBack : Prop :=
  (∀ (s : State) (f g : Field), f ∈ Field.all → g ∈ Field.all → ∀ i j v : Nat,
    (s.put f i v).get f i = v % 2 ^ f.width ∧
    ((f ≠ g ∨ i ≠ j) → i < 65536 → j < 65536 → (s.put f i v).get g j = s.get g j) ∧
    (s.inc f i v).get f i = min (s.get f i + v) (2 ^ f.width - 1) ∧
    (s.putA f i v).getA f i = v % 2 ^ f.width) ∧
  ∀ (m : Mem) (a : Nat) (bs : Bytes),
    (∀ i, i < bs.length → Mem.byte (Mem.write m a bs) (a + i) = bs.getD i 0) ∧
    (∀ j, j < a ∨ a + bs.length ≤ j → Mem.byte (Mem.write m a bs) j = Mem.byte m j) ∧
    (∀ n j, Mem.byte (Mem.clear m a n) j = if a ≤ j ∧ j < a + n then 0 else Mem.byte m j)

/-- The state after reset (R13): every field holds the value of its Reset column, those whose entry is 'fuse' what the fuses hold;
fences are 0, no partition is created, nothing is fetched, and the free count's first frame of 2 µs begins (R287, R304, R444). -/
def Obligations.ResetLeavesTheResetColumn : Prop :=
  (∀ f ∈ Field.all, f ∉ (fuseRegs Fuses.init).map Prod.fst → ∀ i, State.reset.get f i = f.reset) ∧
  (∀ x ∈ fuseRegs Fuses.init, State.reset.get x.1 x.2.1 = x.2.2 % 2 ^ x.1.width) ∧
  (∀ f, State.reset.fenceNow f = 0) ∧ (∀ p, State.reset.created p = false) ∧
  State.reset.cmds = [] ∧ State.reset.pending = [] ∧ State.reset.reelCount = 0 ∧ State.reset.clock.frameLen = 3200

/-- FRAME_EDGE (R32, R444): time moves to the first cycle of the next frame, and the Reel Count rises by one. -/
def Obligations.FrameEdgeBeginsTheNextFrame : Prop :=
  ∀ s : State, Completes .frameEdge s (settingFields ++ taskFields ++ lostFields ++ shapeFields ++ bindFields ++ slotFields
    ++ [Field.REEL_STAT_REF_PORT, Field.REEL_COUNT_COUNT, Field.REEL_EVT_HOLDOVER_EXIT, Field.REEL_EVT_HOLDOVER_ENTER]
      ++ [Field.REEL_EVT_REF_CHANGE, Field.REEL_SLACK_FRAME, Field.REEL_SLACK_MIN_SLACK, Field.CORE_DROP_TASK]
        ++ [Field.CORE_TMEM_HAZ_WW, Field.CORE_TMEM_HAZ_TASK, Field.CORE_TMEM_CLR_BUSY, Field.CORE_TMEM_CLR_CAUSE]
          ++ [Field.CORE_BRIDLE_LINK_STATE, Field.CORE_BRIDLE_LINK_SPARES_USED, Field.HBM_STAT_STATE, Field.STRM_DEFER_EXHAUSTED]
          ++ [Field.STRM_DEFER_DEFERRALS, Field.STRM_FAIL_DIGEST, Field.CORE_ACC_MAP_MAP, Field.TETH_CFG_NARROW_EN]
          ++ [Field.TETH_CFG_ENABLE, Field.TETH_STAT_DOWN_CAUSE, Field.TETH_STAT_STATE, Field.TETH_LINK_CNT_RETRAINS]
          ++ [Field.TETH_EVT_LASER, Field.TETH_EVT_DOWN, Field.TETH_NODE_NODE, Field.TETH_LASER_STATE] ++ [Field.QTAB_CMD_FAULT,
          Field.QTAB_CMD_FAULT_CAUSE, Field.QTAB_DB_CPL_HEAD, Field.QTAB_DB_TAIL] ++ [Field.QTAB_PTR_CPL_TAIL,
          Field.QTAB_PTR_FETCH, Field.FENCE_VALUE_VALUE, Field.PART_STATE_RETAINED] ++ [Field.PART_STATE_RESIZE_ARMED,
          Field.PART_STATE_STATE, Field.PART_MODE_CAUSE, Field.PART_MODE_ACK] ++ [Field.PART_PROG_STAT_SERIAL,
          Field.PART_PROG_STAT_PERIOD, Field.PART_PROG_STAT_LCORES, Field.PART_PROG_STAT_STATE] ++ [Field.CORE_BIND_BOUND,
          Field.CORE_BIND_FENCED, Field.CORE_BIND_PART, Field.VFEVT_STAT_PROG_READY] ++ [Field.VFEVT_STAT_PROTECTION_CHANGED,
          Field.VFEVT_STAT_RESIZE_CANCELLED, Field.VFEVT_STAT_RESIZED, Field.VFEVT_STAT_RESET_DONE]
          ++ [Field.VFEVT_STAT_SLACK_WARN, Field.PART_JRNL_BASE_BASE, Field.PART_JRNL_BASE_LOG2, Field.PART_JRNL_STAT_MIRROR]
          ++ [Field.PART_JRNL_STAT_ENABLED, Field.PWR_STAT_INPUT_W, Field.PWR_STAT_PHASE, Field.PWR_PART_MEASURED]
          ++ [Field.PWR_PART_OVER, Field.PWR_DOM_STAT_SETPOINT, Field.PWR_DOM_STAT_GROUP_LOST, Field.PWR_DOM_STAT_CAUSE]
          ++ [Field.PWR_DOM_STAT_STATE, Field.PWR_DOM_VMIN_FRAME, Field.PWR_DOM_VMIN_CYCLE, Field.PWR_DOM_VMIN_LOCKED]
          ++ [Field.PWR_DOM_VMIN_MIN, Field.PART_RECOVER_REMAPS, Field.CORE_BIST_RESULT, Field.CORE_BIST_FRAME]
          ++ [Field.LOGB_TIME_OP_SEC, Field.VFLOG_SEQ_PSEQ, Field.GCTL_FW_STAT_SET_RESULT, Field.GCTL_FW_STAT_UNREADABLE]
          ++ [Field.GCTL_FW_STAT_SCHEMA, Field.GCTL_FW_STAT_GE_STATE, Field.GCTL_FW_STAT_GW_STATE, Field.GCTL_DBG_ADDR_IS_OPEN]
          ++ [Field.PART_KEY_PUB_KEY, Field.PART_KEY_STAT_REFUSED, Field.PART_KEY_STAT_LOADED, Field.HBM_CLR_PENDING]
          ++ [Field.ID_SIGNATURE_SIG, Field.GCTL_STAT_STOPPED, Field.GCTL_HOST_ACTIVE, Field.FRU_STAT_LASER_VALID]
          ++ [Field.FRU_STAT_GEN]) (taskParts
          ++ [Component.clock, Component.free, Component.fuses, Component.reel, Component.fru, Component.fences, Component.queues, Component.carrier, Component.links, Component.power, Component.bists, Component.gondola, Component.sec, Component.msix, Component.vfs, Component.edge, Component.rehearsal, Component.out, Component.fresh]) fun t =>
      t.clock.now = s.nextEdge ∧ t.clock.frameStart = s.nextEdge ∧ t.clock.frameNo = s.clock.frameNo + 1 ∧
      t.reelCount = (s.reelCount + 1) % 2 ^ 64

/-- REEL_BEACON on a port that takes class 0 (R28, R29, R33): a valid beacon is kept with its count and period for the edge that it
marks, and the reference's one reports the phase error; an invalid one is discarded and counted. -/
def Obligations.ReelBeaconIsKeptOrCounted : Prop :=
  ∀ (s : State) (n : Fin 64) (ok : Bool) (w : Bytes) (a : Int), s.portTalks n.val = true →
    (beaconValid ok w = true → Completes (.reelBeacon n ok w a) s (bookFields ++ [Field.REEL_PHASE_ERROR,
      Field.REEL_EVT_BEACON_DISCARD, Field.REEL_PERIOD_NEXT_VALID, Field.REEL_PERIOD_NEXT_CODE] ++ [Field.REEL_PERIOD_NEXT_FRAME,
        Field.REEL_BEACON_ERR_COUNT]) [Component.reel, Component.book, Component.fresh] fun t =>
      (t.tracker n.val).got = some (u64 w 0) ∧ (t.tracker n.val).gotPeriod = beaconPeriod w ∧
      (∀ k, k ≠ n.val → t.tracker k = s.tracker k) ∧
      (s.get .REEL_STAT_REF_VALID 0 = 1 → s.get .REEL_STAT_REF_PORT 0 = n.val →
        t.get .REEL_PHASE_ERROR 0 = ofSigned 32 (a - (u32 w 24 : Nat) - (s.get .TETH_DELAY_DELAY n.val : Nat)) % 2 ^ 32)) ∧
    (beaconValid ok w = false →
      exec (.reelBeacon n ok w a) s =
        .next ((s.put .REEL_BEACON_ERR_COUNT n.val (satW Field.REEL_BEACON_ERR_COUNT.width (s.get .REEL_BEACON_ERR_COUNT n.val + 1))).reelEvent
          .REEL_EVT_BEACON_DISCARD))

/-- A period change that a beacon of the reference announces at least 1,024 frames ahead stands in REEL_PERIOD_NEXT until its frame;
the announcement that stands there changes nothing, and another one given later makes the state LOST at an edge after this one
(R44; which port's beacons announce, and when, is log entry 72). -/
def Obligations.PeriodAnnouncementIsTaken : Prop :=
  ∀ (s : State) (n : Fin 64) (w : Bytes) (a : Int), s.portTalks n.val = true → beaconValid true w = true → beaconChange w = true →
    s.get .REEL_STAT_REF_VALID 0 = 1 → s.get .REEL_STAT_REF_PORT 0 = n.val → s.ownCount = true → s.reel.late = none →
    let told := s.get .REEL_PERIOD_NEXT_VALID 0 = 1 ∧ s.get .REEL_PERIOD_NEXT_CODE 0 = beaconNew w ∧
      s.get .REEL_PERIOD_NEXT_FRAME 0 = u64 w 16 % 2 ^ 56
    ∃ t, exec (.reelBeacon n true w a) s = .next t ∧
      (told → t.get .REEL_PERIOD_NEXT_VALID 0 = 1 ∧ t.get .REEL_PERIOD_NEXT_CODE 0 = beaconNew w ∧
        t.get .REEL_PERIOD_NEXT_FRAME 0 = u64 w 16 % 2 ^ 56 ∧ t.reel.late = none) ∧
      (¬told → s.reelCount + 1 + 1024 ≤ u64 w 16 →
        t.get .REEL_PERIOD_NEXT_VALID 0 = 1 ∧ t.get .REEL_PERIOD_NEXT_CODE 0 = beaconNew w ∧
        t.get .REEL_PERIOD_NEXT_FRAME 0 = u64 w 16 % 2 ^ 56 ∧ t.reel.late = none) ∧
      (¬told → s.reelCount + 1 < u64 w 16 → u64 w 16 < s.reelCount + 1 + 1024 →
        t.get .REEL_PERIOD_NEXT_VALID 0 = s.get .REEL_PERIOD_NEXT_VALID 0 ∧ t.reel.late = some (s.clock.frameNo + 2))

/-- LOCK (R35, R43): at an edge in ACQUIRE at which port n meets the conditions, the state is LOCKED, and the module adopts the
beacons' count and period. -/
def Obligations.LockAdoptsCountAndPeriod : Prop :=
  ∀ (s : State) (n c : Nat), s.lockPort = some n → (s.tracker n).last = some c →
    Completes .lock s (bookFields ++ [Field.REEL_STAT_PERIOD, Field.REEL_STAT_REF_VALID, Field.REEL_STAT_REF_PORT,
      Field.REEL_STAT_STATE] ++ [Field.REEL_COUNT_COUNT, Field.REEL_EVT_PERIOD_CHANGE,
        Field.REEL_EVT_RELOCK]) [Component.clock, Component.reel, Component.book, Component.fresh] fun t =>
      t.get .REEL_STAT_STATE 0 = 2 ∧ t.reelCount = c % 2 ^ 64 ∧ t.get .REEL_STAT_PERIOD 0 = (s.tracker n).period % 8 ∧
      t.get .REEL_STAT_REF_VALID 0 = 1 ∧ t.get .REEL_STAT_REF_PORT 0 = n % 64 ∧ t.reel.resumed = s.reel.resumed ∧
      (s.get .REEL_STAT_PERIOD 0 ≠ (s.tracker n).period → t.get .REEL_EVT_PERIOD_CHANGE 0 = 1) ∧
      (s.power.step = none → t.clock = { s.clock with frameLen := cyclesOf (s.tracker n).period })

/-- HOLDOVER_LIMIT and a late announcement's PERIOD_CHANGE (R40, R42, R44): the state is LOST with its cause, no reference is
selected, data fetching waits for RESUME, the port states stay, and the holdover's length is kept. -/
def Obligations.LossOfTheReel : Prop :=
  ∀ s : State, s.atEdge = true →
    (s.get .REEL_STAT_STATE 0 = 3 → 1024 ≤ s.get .REEL_HOLD_CURRENT 0 →
      Completes .holdoverLimit s (taskFields ++ lostFields) (taskParts ++ [Component.reel, Component.fresh]) fun t =>
        t.get .REEL_STAT_STATE 0 = 4 ∧ t.get .REEL_STAT_CAUSE 0 = 1 ∧ t.get .REEL_STAT_REF_VALID 0 = 0 ∧
        t.get .REEL_HOLD_LAST 0 = 1024 ∧ t.get .REEL_HOLD_CURRENT 0 = 0 ∧ t.get .REEL_EVT_LOST 0 = 1 ∧ t.reel.resumed = false) ∧
    (s.ownCount = true → s.lateDue = true →
      Completes .periodChange s (taskFields ++ lostFields ++ [Field.REEL_STAT_PERIOD, Field.REEL_EVT_PERIOD_CHANGE]) (taskParts
        ++ [Component.clock, Component.reel, Component.fresh]) fun t =>
        t.get .REEL_STAT_STATE 0 = 4 ∧ t.get .REEL_STAT_CAUSE 0 = 4 ∧ t.get .REEL_EVT_LOST 0 = 1 ∧ t.reel.resumed = false) ∧
    (s.ownCount = true → s.lateDue = false → s.get .REEL_PERIOD_NEXT_VALID 0 = 1 →
      s.get .REEL_PERIOD_NEXT_FRAME 0 = s.reelCount % 2 ^ 56 →
      Completes .periodChange s (taskFields ++ lostFields ++ [Field.REEL_STAT_PERIOD, Field.REEL_EVT_PERIOD_CHANGE]) (taskParts
        ++ [Component.clock, Component.reel, Component.fresh]) fun t =>
        t.get .REEL_STAT_PERIOD 0 = s.get .REEL_PERIOD_NEXT_CODE 0 % 8 ∧ t.get .REEL_PERIOD_NEXT_VALID 0 = 0 ∧
        t.get .REEL_EVT_PERIOD_CHANGE 0 = 1 ∧ t.reel = s.reel ∧
        (s.power.step = none → t.clock = { s.clock with frameLen := cyclesOf (s.get .REEL_PERIOD_NEXT_CODE 0) }))

/-- RESUME lets data commands be fetched again, in LOCKED only; RESELECT asks for a selection at the next edge; a zero written to
REEL_BEACON_ERR clears the port's count, and another value has no effect (R30, R43, R52). -/
def Obligations.ReelControls : Prop :=
  ∀ s : State, s.booted = true →
    (s.get .REEL_STAT_STATE 0 = 2 → exec .resume s = .next { s with reel := { s.reel with resumed := true } }) ∧
    (s.get .REEL_STAT_STATE 0 ≠ 2 → exec .resume s = .next s) ∧
    exec .reselect s = .next { s with reel := { s.reel with request := true } } ∧
    (∀ n : Fin 64, exec (.reelBeaconErrClear n 0) s = .next (s.put .REEL_BEACON_ERR_COUNT n.val 0)) ∧
    ∀ (n : Fin 64) (v : BitVec 32), v ≠ 0 → exec (.reelBeaconErrClear n v) s = .next s

/-- The three locks (R11, R52, R364, R400): unlocked, every field of the register takes its bits of the value, and the lock is set;
locked, the write is ignored and counted in the logbook. -/
def Obligations.LocksHold : Prop :=
  ∀ s : State, s.booted = true →
    (∀ v : BitVec 32,
      (s.get .REEL_CFG_LOCK 0 ≠ 1 → ∃ t, exec (.reelCfgLock v) s = .next t ∧ t.get .REEL_CFG_LOCK 0 = 1 ∧
        t.get .REEL_CFG_SLACK_WARN 0 = bits v.toNat 23 8 ∧ t.get .REEL_CFG_LOCK_FRAMES 0 = bits v.toNat 7 0 ∧
        Changes [Field.REEL_CFG_LOCK, Field.REEL_CFG_SLACK_WARN, Field.REEL_CFG_LOCK_FRAMES] [] s t) ∧
      (s.get .REEL_CFG_LOCK 0 = 1 → exec (.reelCfgLock v) s = .next (s.ignored 0x2000))) ∧
    (∀ v : BitVec 64,
      (s.get .PWR_CFG_LOCK 0 ≠ 1 → ∃ t, exec (.pwrCfgLock v) s = .next t ∧ t.get .PWR_CFG_LOCK 0 = 1 ∧
        t.get .PWR_CFG_LIMIT 0 = bits v.toNat 15 0 ∧ t.get .PWR_CFG_CORE_BUDGET 0 = bits v.toNat 31 16 ∧
        t.get .PWR_CFG_DROOP_WARN 0 = bits v.toNat 39 32 ∧ t.get .PWR_CFG_DROOP_FAIL 0 = bits v.toNat 47 40 ∧
        Changes [Field.PWR_CFG_LOCK, Field.PWR_CFG_LIMIT, Field.PWR_CFG_CORE_BUDGET, Field.PWR_CFG_DROOP_WARN,
          Field.PWR_CFG_DROOP_FAIL] [] s t) ∧
      (s.get .PWR_CFG_LOCK 0 = 1 → exec (.pwrCfgLock v) s = .next (s.ignored 0x4000))) ∧
    ∀ v : BitVec 32,
      (s.get .LOGB_CFG_LOCK 0 ≠ 1 → ∃ t, exec (.logbCfgLock v) s = .next t ∧ t.get .LOGB_CFG_LOCK 0 = 1 ∧
        t.get .LOGB_CFG_RATE_NEW 0 = bits v.toNat 7 0 ∧ Changes [Field.LOGB_CFG_LOCK, Field.LOGB_CFG_RATE_NEW] [] s t) ∧
      (s.get .LOGB_CFG_LOCK 0 = 1 → exec (.logbCfgLock v) s = .next (s.ignored 0x8000))

/-- REGISTER_WRITE to a register that follows its access codes alone (R11, R14): in one access of the register's width, a plain field
takes its bits of the value, a W1C field loses the bits written as 1, and no other field of any register changes. -/
def Obligations.RegisterWritesFollowAccessCodes : Prop :=
  ∀ (s : State) (r : Reg) (off size v : Nat), goodAccess off size = true → r.bits = 8 * size → v < 2 ^ r.bits →
    (∀ i, s.booted = true → Reg.find false off = some (r, i) → r ∉ ownRegs → ertBytes off = false →
      ∃ t, exec (.registerWrite .pf off size v) s = .next t ∧ Written s t r i v ∧
        Changes (r.fields.filter fun f => f.acc != .ro && f.acc != .wo) [] s t) ∧
    (∀ (p : Fin 16) (i : Nat), s.vfs.contains p.val = true → Reg.find true off = some (r, i) → r ≠ Reg.VFDB_RING →
      r ≠ Reg.VFFENCE_VALUE → (off < 0x40000 ∨ 0x42000 < off + size) →
      ∃ t, exec (.registerWrite (.vf p) off size v) s = .next t ∧ Written s t r p.val v ∧
        Changes (r.fields.filter fun f => f.acc != .ro && f.acc != .wo) [] s t)

/-- An access of a wrong size or alignment has no effect, is counted in the logbook, and returns all ones on a read (R14); a write to
a VF whose function is not enabled does nothing. -/
def Obligations.BadAccessesAreCounted : Prop :=
  ∀ (s : State) (f : Fn) (off size v : Nat), 
    (goodAccess off size = false →
      exec (.registerWrite f off size v) s = .next (s.ignored off) ∧
      exec (.badAccess f off size false) s = .next (s.ignored off) ∧
      exec (.badAccess f off size true) s = .next ((s.ignored off).send (.read (ones (8 * size))))) ∧
    (goodAccess off size = true → ∀ b, exec (.badAccess f off size b) s = .next s) ∧
    ∀ p : Fin 16, goodAccess off size = true → s.vfs.contains p.val = false →
      exec (.registerWrite (.vf p) off size v) s = .next s

/-- What the host does to queues, fences, protection and resources (R271, R272, R288, R296, R298, R314): each write stands in its
register, and what waits for the next edge is asked of it; nothing else changes. -/
def Obligations.HostWritesWaitForTheEdge : Prop :=
  ∀ s : State,
    (∀ (i : Nat) (tail head : BitVec 32) (m : List (Nat × Byte)), s.booted = true → i < 16384 →
      exec (.doorbell .pf i tail head m) s =
        .next (({ s with host := Mem.writeCells s.host m }).setQueue i { s.queueSt i with doorbell := some (tail.toNat, head.toNat) })) ∧
    (∀ (v : Fin 16) (i : Nat) (tail head : BitVec 32) (m : List (Nat × Byte)), s.vfs.contains v.val = true →
      exec (.doorbell (.vf v) i tail head m) s =
        (let q := (s.part v.val).bind.queues.1 + i
         if i < (s.part v.val).bind.queues.2 then
           .next (({ s with host := Mem.writeCells s.host m }).setQueue q { s.queueSt q with doorbell := some (tail.toNat, head.toNat) })
         else .next { s with host := Mem.writeCells s.host m })) ∧
    (∀ q : Fin 16384, s.booted = true → s.get .QTAB_CMD_FAULT q.val = 1 →
      exec (.queueFaultClear q) s =
        .next ((s.put .QTAB_CMD_FAULT q.val 0).put .QTAB_CMD_FAULT_CAUSE q.val 0)) ∧
    (∀ q : Fin 16384, exec (.fetchCompletionError q) s = .next ((s.put .QTAB_CMD_FAULT q.val 1).put .QTAB_CMD_FAULT_CAUSE q.val 3)) ∧
    (∀ (i : Nat) (v : BitVec 64), s.booted = true → i < 32768 →
      exec (.fenceHostWrite .pf i v) s = .next { s with edge := s.edge ++ [.fence i v.toNat] }) ∧
    (∀ (p : Fin 16) (i : Nat) (v : BitVec 64), s.vfs.contains p.val = true →
      exec (.fenceHostWrite (.vf p) i v) s =
        if i < (s.part p.val).bind.fences.2 then
          .next { s with edge := s.edge ++ [.fence ((s.part p.val).bind.fences.1 + i) v.toNat] }
        else .next s) ∧
    (∀ (p : Fin 16) (b n : Nat), s.booted = true →
      exec (.protectionChange (.queues p b n)) s =
        .next { (s.put .PART_QUEUES_BASE p.val b).put .PART_QUEUES_COUNT p.val n with edge := s.edge ++ [.queues p.val b n] } ∧
      exec (.protectionChange (.fences p b n)) s =
        .next { (s.put .PART_FENCES_BASE p.val b).put .PART_FENCES_COUNT p.val n with edge := s.edge ++ [.fences p.val b n] }) ∧
    (∀ (q : Fin 16384) (on : Bool), s.booted = true →
      exec (.protectionChange (.enable q on)) s =
        .next { s.put .QTAB_CMD_ENABLE q.val (if on then 1 else 0) with edge := s.edge ++ [.enable q.val on] }) ∧
    (∀ (p : Fin 16) (m : Nat), s.booted = true →
      exec (.resourceWithdraw (.ports p m)) s = .next { s.put .PART_PORTS_PORTS p.val m with edge := s.edge ++ [.port p.val m] }) ∧
    (∀ (p : Fin 16) (k : Fin 72) (c : Nat), s.booted = true →
      exec (.resourceWithdraw (.pages p k c)) s =
        .next { s.put .PART_PAGES_CODES (p.val * 72 + k.val) c with edge := s.edge ++ [.page p.val k.val c] }) ∧
    ∀ (v : Fin 16) (on : Bool), exec (.vfEnableChange v on) s = .next { s with edge := s.edge ++ [.vf v.val on] }

/-- Fences only rise, and saturate at 2^64 - 1 (R287): whatever changes wait, a fence shows at least its register's value; a sum
saturates, a MAX takes the greater value. -/
def Obligations.FencesOnlyRise : Prop :=
  (∀ (s : State) (f x lag : Nat), s.get .FENCE_VALUE_VALUE f < 2 ^ 64 → s.get .FENCE_VALUE_VALUE f ≤ s.fenceAt f x lag) ∧
  ∀ (v : Nat) (u : FenceUpd), v < 2 ^ 64 →
    (u.add = true → u.apply v = min (v + u.value) (2 ^ 64 - 1)) ∧ (u.add = false → u.apply v = max v u.value)

/-- COMPLETION_RECORD (R292, R297, R298): the oldest record of queue q is written into its ring's next slot with the phase of the
lap, CPL_TAIL moves on, and a vector is raised where the record asks for it; with no room an ordinary record waits, and the
queue's BUF_DEFER records are counted and dropped. -/
def Obligations.CompletionRecordIsWritten : Prop :=
  ∀ (s : State) (q : Fin 16384) (r : Rec) (l : List Rec), takeRec q.val s.recs = some (r, l) →
    let n := s.get .QTAB_PTR_CPL_TAIL q.val
    let size := 2 ^ s.get .QTAB_CPL_LOG2 q.val
    let a := s.get .QTAB_CPL_BASE q.val * 4096 + n % size * 32
    (s.ringRoom q.val = true →
      Completes (.completionRecord q) s (bookFields ++ [Field.QTAB_PTR_CPL_TAIL,
        Field.PART_CMD_DEFER_DROPPED]) [Component.host, Component.recs, Component.book, Component.msix] fun t =>
        t.recs = l ∧ t.get .QTAB_PTR_CPL_TAIL q.val = (n + 1) % 2 ^ 32 ∧
        (∀ i, i < 32 → Mem.byte t.host (a + i) = (recBytes r (n / size % 2 == 0)).getD i 0) ∧
        (∀ i, i < a ∨ a + 32 ≤ i → Mem.byte t.host i = Mem.byte s.host i) ∧
        (r.interrupt = true ∨ 0x2000 ≤ r.status →
          (s.get .QTAB_CPL_VECTOR r.queue) ∈ (t.msixOf (s.vectorFn r.part)).raised)) ∧
    let gone := s.recs.filter fun x => x.queue == q.val && x.progress
    (s.ringRoom q.val = false → Completes (.completionRecord q) s [Field.PART_CMD_DEFER_DROPPED] [Component.recs] fun t =>
      t.recs = s.recs.filter (fun x => !(x.queue == q.val && x.progress)) ∧
      ((∀ x ∈ gone, ∀ k, x.part = some k → k < 16) → ∀ p : Fin 16,
        let n := (gone.filter fun x => x.part == some p.val).length
        t.get .PART_CMD_DEFER_DROPPED p.val =
          if n = 0 then s.get .PART_CMD_DEFER_DROPPED p.val
          else satW Field.PART_CMD_DEFER_DROPPED.width (s.get .PART_CMD_DEFER_DROPPED p.val + n)))

/-- TASK_FETCHED (R45, R280): the next task runs, its anchor being the first frame edge after this cycle and the header's start
offset; the other partitions stay as they are. -/
def Obligations.TaskFetchedFixesTheAnchor : Prop :=
  ∀ (s : State) (p : Fin 16) (t : Task) (c : Cmd), s.nextReady p.val = some t → s.findCmd t.queue t.seq = some c →
    Completes (.taskFetched p) s [Field.PART_CMD_TASK] [Component.parts] fun u =>
      (u.part p.val).run.task = some { t with
        anchor := some (s.clock.frameNo + 1 + c.start), anchorReel := (s.reelCount + 1 + c.start) % 2 ^ 64, anchorAt := none } ∧
      (u.part p.val).run.next = none ∧ (u.part p.val).run.sum = TaskSum.init ∧ u.get .PART_CMD_TASK p.val = 2 ∧
      ∀ k, k ≠ p.val → u.part k = s.part k

/-- TASK_HEADER (R26, R280): at the anchor edge the header begins and is to retire in the next cycle, or, where its checks fail, the
task is refused with their status and Detail. -/
def Obligations.TaskHeaderBeginsOrRefuses : Prop :=
  ∀ (s : State) (p : Fin 16) (t : Task) (c : Cmd), (s.part p.val).run.task = some t → s.findCmd t.queue t.seq = some c →
    s.atEdge = true → t.anchorAt.isSome = true → c.began = none → (s.part p.val).strm.swap.isNone = true →
    let s1 := if t.opened then s else s.journalTaskBegin p.val t
    (s1.headerBad p.val t c = none →
      Completes (.taskHeader p) s (taskFields ++ [Field.CORE_DROP_TASK, Field.CORE_TMEM_HAZ_WW,
        Field.CORE_TMEM_HAZ_TASK]) taskParts fun u =>
        u.findCmd t.queue t.seq =
          some { c with began := some s.now, ran := true, due := some (s.now + 1), status := 0, detail := 0 } ∧
        u.get .PART_STEP_STEP p.val = 0 ∧ (u.part p.val).run.task = some t ∧
        (u.part p.val).run.sum.mergeMax = s.get .PART_SPARSE_MERGE_MAX_ROWS p.val ∧
        ∀ n ∈ (s.part p.val).cores, n < 96 →
          u.get .CORE_TMEM_HAZ_TASK n = 0 ∧ u.get .CORE_TMEM_HAZ_WW n = 0 ∧ u.get .CORE_DROP_TASK n = 0) ∧
    ∀ r, s1.headerBad p.val t c = some r → exec (.taskHeader p) s = .next (s1.refuse c r)

/-- The abort of a running task (R295): the task ends, none of its commands stays, the faulting one's record carries its status and
Detail, and every other command's record its own. -/
def Obligations.AbortEndsTheTask : Prop :=
  ∀ (s : State) (p : Nat) (t : Task) (c : Cmd) (st : Cmd → Nat × Nat) (slack : Option Int) (ts : Nat),
    (s.part p).run.task = some t → c ∈ s.cmds → c.part = some p → c.batch = t.batch →
    HeldApart s p →
    let u := s.abortTask p (some c) st slack ts true
    (u.part p).run.task = none ∧ (∀ d ∈ u.cmds, ¬(d.part = some p ∧ d.batch = t.batch)) ∧
    ∀ d ∈ s.cmds, d.part = some p → d.batch = t.batch →
      ∃ r ∈ u.recs, r.queue = d.queue ∧ r.seq = d.seq ∧ r.status = (st d).1 ∧ r.detail = (st d).2

/-- COMMAND_BEGIN (R46, R283, R284, R448): a command whose conditions all hold begins in the first cycle in which they do, what begun
commands do up to then being done first; a wide one takes the partition's next step number; a refused one ends with its refusal in
place of a begin; a PF command alone. -/
def Obligations.CommandBeginsWhenItsConditionsHold : Prop :=
  ∀ (s : State) (c : CmdId) (d : Cmd), s.findCmd c.queue.val c.seq = some d →
    Completes (.commandBegin c) s (taskFields ++ accessFields ++ moveFields ++ routeFields ++ slotFields ++ pruneFields
      ++ reduceFields ++ linkFields ++ [Field.CORE_DROP_TOTAL, Field.CORE_DROP_TASK, Field.STRM_FAIL_UNDERRUN,
        Field.CORE_ACC_MAP_MAP] ++ [Field.CORE_GATHER_MISSES]) (taskParts
          ++ [Component.clock, Component.free, Component.fences, Component.carrier, Component.links, Component.power, Component.rehearsal, Component.out]) (fun _ => True) ∧
    (∀ p t0 x, d.part = some p → s.turn d p = some t0 → s.staticBad d p = false → s.spillSkips d p = false →
      s.beginTime d p = some x → x < s.nextEdge → s.rival d p x = false →
      let u := (s.catchUp p x).advance x
      u.now = x → u.findCmd d.queue d.seq = some d → u.spillSkips d p = false →
      (u.beginRefused d p = none →
        Completes (.commandBegin c) s (taskFields ++ accessFields ++ moveFields ++ routeFields ++ slotFields ++ pruneFields
          ++ reduceFields ++ linkFields ++ [Field.CORE_DROP_TOTAL, Field.CORE_DROP_TASK, Field.STRM_FAIL_UNDERRUN,
          Field.CORE_ACC_MAP_MAP] ++ [Field.CORE_GATHER_MISSES]) (taskParts
          ++ [Component.clock, Component.free, Component.fences, Component.carrier, Component.links, Component.power, Component.rehearsal, Component.out]) fun t =>
          t.findCmd d.queue d.seq = some { d with began := some x, step := u.get .PART_STEP_STEP p } ∧ t.clock.now = x ∧
          t.get .PART_STEP_STEP p = if opWide d.op then (u.get .PART_STEP_STEP p + 1) % 2 ^ 32 else u.get .PART_STEP_STEP p) ∧
      ∀ r, u.beginRefused d p = some r → exec (.commandBegin c) s = .next (u.refuseBegin d p r)) ∧
    (∀ p t0, d.part = some p → s.turn d p = some t0 → s.staticBad d p = true → s.spillSkips d p = false →
      max s.now t0 < s.nextEdge → exec (.commandBegin c) s = .next ((s.advance (max s.now t0)).refuse d (0x3000, 0))) ∧
    (∀ x, d.part = none → s.nextPf = some d → s.waitTime d (max s.now (if d.start = 0 then s.now
        else (max (s.frameCycle (d.fetched + 1 + d.start)) 0).toNat)) = some x → s.now ≤ x → x < s.nextEdge →
      (s.get .GCTL_FW_STAT_UNREADABLE 0 = 1 → exec (.commandBegin c) s = .next ((s.advance x).refuse d (0x5000, 0))) ∧
      (s.get .GCTL_FW_STAT_UNREADABLE 0 ≠ 1 → (s.advance x).pfRefused d = false →
        Completes (.commandBegin c) s (taskFields ++ accessFields ++ moveFields ++ routeFields ++ slotFields ++ pruneFields
          ++ reduceFields ++ linkFields ++ [Field.CORE_DROP_TOTAL, Field.CORE_DROP_TASK, Field.STRM_FAIL_UNDERRUN,
          Field.CORE_ACC_MAP_MAP] ++ [Field.CORE_GATHER_MISSES]) (taskParts
          ++ [Component.clock, Component.free, Component.fences, Component.carrier, Component.links, Component.power, Component.rehearsal, Component.out]) fun t =>
          t.findCmd d.queue d.seq = some { d with began := some x } ∧ t.clock.now = x) ∧
      (s.get .GCTL_FW_STAT_UNREADABLE 0 ≠ 1 → (s.advance x).pfRefused d = true →
        exec (.commandBegin c) s = .next ((s.advance x).refuse d (0x3000, 0))))

/-- COMMAND_RETIRE (R285, R288, R289, R292): in its cycle, begun commands of its partition having gone on up to then, a command of no
prediction slot leaves, its record waits to be written with the cycles since it began, and its changes of fences take effect in the
next cycle. Where the ends of all begun commands are known, nothing is left for them to do. -/
def Obligations.CommandRetires : Prop :=
  (∀ (s : State) (c : CmdId), Completes (.commandRetire c) s (taskFields ++ accessFields ++ moveFields ++ routeFields ++ slotFields
    ++ pruneFields ++ reduceFields ++ linkFields ++ [Field.CORE_DROP_TOTAL, Field.CORE_DROP_TASK, Field.CORE_PATHS_EXPANDED,
      Field.CORE_PATHS_MERGE] ++ [Field.CORE_PATHS_STRUCT, Field.CORE_PATHS_DENSE, Field.STRM_FAIL_UNDERRUN, Field.CORE_ACC_MAP_MAP]
        ++ [Field.CORE_GATHER_MISSES, Field.PART_COLL_INEXACT]) (taskParts
          ++ [Component.clock, Component.free, Component.fences, Component.carrier, Component.links, Component.power, Component.rehearsal, Component.out]) fun _ => True) ∧
  (∀ (s : State) (p x : Nat), Settled s p → s.catchUp p x = s) ∧
  ∀ (s : State) (c : CmdId) (d : Cmd) (x b : Nat), s.findCmd c.queue.val c.seq = some d → d.due = some x → d.began = some b →
    x < s.nextEdge →
    let u := caughtUp s d x
    u.now ≤ x → x < u.nextEdge → u.findCmd d.queue d.seq = some d → u.pendingSlot d = none → d.status < 0x3000 →
    (∀ p, d.part = some p → u.firstFault p (s.nextEdge - 1) = none) →
    Completes (.commandRetire c) s (taskFields ++ accessFields ++ moveFields ++ routeFields ++ slotFields ++ pruneFields
      ++ reduceFields ++ linkFields ++ [Field.CORE_DROP_TOTAL, Field.CORE_DROP_TASK, Field.CORE_PATHS_EXPANDED,
        Field.CORE_PATHS_MERGE] ++ [Field.CORE_PATHS_STRUCT, Field.CORE_PATHS_DENSE, Field.STRM_FAIL_UNDERRUN,
          Field.CORE_ACC_MAP_MAP] ++ [Field.CORE_GATHER_MISSES, Field.PART_COLL_INEXACT]) (taskParts
          ++ [Component.clock, Component.free, Component.fences, Component.carrier, Component.links, Component.power, Component.rehearsal, Component.out]) fun t =>
      t.clock.now = x ∧ t.findCmd d.queue d.seq = none ∧
      (∃ r ∈ t.recs, r.queue = d.queue ∧ r.seq = d.seq ∧ r.part = d.part ∧ r.opcode = d.op % 32768 ∧ r.reel = u.reelCount ∧
        r.cycles = x - b ∧ r.interrupt = d.interrupt ∧ r.slack = (u.advance x).slackAt d x ∧
        ((∀ p, d.part = some p → (u.part p).run.sum.voidFrom = none) → r.status = d.status ∧ r.detail = d.detail)) ∧
      (d.sigEn = true → (⟨u.fenceBase d.part + d.sigIdx, x + 1, true, d.sigInc⟩ : FenceUpd) ∈ t.fences) ∧
      (d.op = 2 → (⟨u.fenceBase d.part + d.fsFence, x + 1, !d.fsOp, d.fsValue⟩ : FenceUpd) ∈ t.fences)

/-- DEADLINE_MISS and LATE_BEGIN (R48, R450): a command unfinished at its deadline edge ends with the remaining count in bits [31:0]
of its Detail, the Reel Count above it, and the negative slack; a task's oldest such command aborts its task, a PF command ends alone; a
command that has not begun by the end of its last cycle X ends in cycle X + 1, with lateness 1 in bits [63:32] of its Detail. -/
def Obligations.LateCommandsAreDeadlineMisses : Prop :=
  (∀ (s : State) (c : CmdId), Completes (.lateBegin c) s taskFields (taskParts ++ [Component.clock]) (fun _ => True) ∧
    Completes (.deadlineMiss c) s (taskFields ++ accessFields ++ moveFields ++ routeFields ++ slotFields ++ pruneFields
      ++ reduceFields ++ linkFields ++ [Field.CORE_DROP_TOTAL, Field.CORE_DROP_TASK, Field.STRM_FAIL_UNDERRUN,
        Field.CORE_ACC_MAP_MAP] ++ [Field.CORE_GATHER_MISSES]) (taskParts
          ++ [Component.clock, Component.free, Component.fences, Component.carrier, Component.links, Component.power, Component.rehearsal, Component.out]) fun _ => True) ∧
  (∀ (s : State) (c : CmdId) (d : Cmd) (p : Nat) (t : Task) (x low : Nat), s.findCmd c.queue.val c.seq = some d → d.part = some p →
    s.taskOf d = some t → d.began = none → t.anchorAt.isSome = true → (s.part p).run.sum.headerAt.isSome = true →
    s.spillSkips d p = false → s.beginBy d p = some (x, low) → s.now ≤ x + 1 → x + 1 < s.nextEdge →
    HeldApart s p →
    Completes (.lateBegin c) s taskFields (taskParts ++ [Component.clock]) fun u =>
      u.clock.now = x + 1 ∧ (u.part p).run.task = none ∧
      ∃ r ∈ u.recs, r.queue = d.queue ∧ r.seq = d.seq ∧ r.status = 0x3001 ∧ r.detail = low + 2 ^ 32 ∧ r.cycles = 0) ∧
  ∀ (s : State) (c : CmdId) (d : Cmd) (n : Nat), s.findCmd c.queue.val c.seq = some d → s.missed d = true →
    let u := caughtUp s d s.now
    u.remaining d = some n → n ≤ 0x7FFFFFFF →
    (d.part = none → exec (.deadlineMiss c) s = .next (s.finish d 0x3001 (n + s.reelCount % 2 ^ 32 * 2 ^ 32) (-(n : Int)))) ∧
    ∀ p t, d.part = some p → u.findCmd d.queue d.seq = some d → u.missed d = true → u.oldestMiss p d = d →
      u.firstFault p u.now = none → u.pendingSlot d = none → (u.part p).run.task = some t → d.batch = t.batch → d ∈ u.cmds →
      HeldApart u p →
      Completes (.deadlineMiss c) s (taskFields ++ accessFields ++ moveFields ++ routeFields ++ slotFields ++ pruneFields
        ++ reduceFields ++ linkFields ++ [Field.CORE_DROP_TOTAL, Field.CORE_DROP_TASK, Field.STRM_FAIL_UNDERRUN,
          Field.CORE_ACC_MAP_MAP] ++ [Field.CORE_GATHER_MISSES]) (taskParts
          ++ [Component.clock, Component.free, Component.fences, Component.carrier, Component.links, Component.power, Component.rehearsal, Component.out]) fun v =>
        (v.part p).run.task = none ∧
        ∃ r ∈ v.recs, r.queue = d.queue ∧ r.seq = d.seq ∧ r.status = 0x3001 ∧ r.detail = n + u.reelCount % 2 ^ 32 * 2 ^ 32 ∧
          r.slack = -(n : Int)

/-- NOP, FENCE_WAIT and FENCE_SIGNAL retire in the cycle after they begin; a BARRIER in the first cycle after its begin in which no
other command of the partition executes, in a PF queue in the cycle after it begins (R286, R289, R290); so does FORECAST, whose
segment waits for the edge of frame anchor + FRAME (R356). -/
def Obligations.FenceUnitCommandsAndForecastRetire : Prop :=
  ∀ (s : State) (c : CmdId) (d : Cmd),
    (s.ready c 0 = some d → Completes (.nop c) s [] [Component.cmds, Component.rehearsal] fun t => RetiresAt s t d (d.t0 + 1) 0 0) ∧
    (s.ready c 1 = some d → Completes (.fenceWait c) s [] [Component.cmds, Component.rehearsal] fun t => RetiresAt s t d (d.t0 + 1) 0 0) ∧
    (s.ready c 2 = some d → Completes (.fenceSignal c) s [] [Component.cmds, Component.rehearsal] fun t => RetiresAt s t d (d.t0 + 1) 0 0) ∧
    (s.ready c 3 = some d → d.part = none → Completes (.barrier c) s []
      [Component.cmds, Component.rehearsal] fun t => RetiresAt s t d (d.t0 + 1) 0 0) ∧
    (∀ p, Running s c 3 d p → s.othersOpen d p = false →
      Completes (.barrier c) s [] [Component.cmds, Component.rehearsal] fun t => RetiresAt s t d (max (d.t0 + 1) (s.othersDue d p)) 0 0) ∧
    ∀ (p a : Nat) (k : Task), Running s c 0x500 d p → s.taskOf d = some k → k.anchor = some a →
      Completes (.forecast c) s [] [Component.cmds, Component.parts, Component.rehearsal] fun t =>
        RetiresAt s t d (d.t0 + 1) 0 0 ∧
        (t.part p).run.sum.nextSegment = (s.part p).run.sum.nextSegment ++ [(d.forecastP.1, a + d.forecastP.2)] ∧
        ∀ n, n ≠ p → t.part n = s.part n

/-- Every NaN that the block produces is canonical with its sign bit clear, in every rounding mode, and a NaN of any payload is
accepted (R56). -/
def Obligations.NansAreCanonical : Prop :=
  (∀ (mode r : Nat) (sat : Bool),
    (encodeElem 0 mode sat r .nan).1 = 0x7FC00000 ∧ (encodeElem 1 mode sat r .nan).1 = 0x7FC0 ∧
    (encodeElem 2 mode sat r .nan).1 = 0x7E00 ∧ (encodeElem 3 mode sat r .nan).1 = 0x7F ∧ (encodeElem 4 mode sat r .nan).1 = 0x7F) ∧
  (∀ c, c < 2 ^ 32 → 0x7F800000 < c % 2 ^ 31 → decodeElem 0 c = .nan) ∧
  (∀ c, c < 2 ^ 16 → 0x7F80 < c % 2 ^ 15 → decodeElem 1 c = .nan) ∧
  (∀ c, c < 2 ^ 16 → 0x7C00 < c % 2 ^ 15 → decodeElem 2 c = .nan) ∧
  (∀ c, c < 2 ^ 8 → c % 2 ^ 7 = 0x7F → decodeElem 3 c = .nan) ∧
  ∀ c, c < 2 ^ 8 → 0x7C < c % 2 ^ 7 → decodeElem 4 c = .nan

/-- A K-tile's sum does not depend on the order of its products, and products that are zero leave it as it is, so that a sparse
tile and its dense equivalent give the same bits (R78, R79, R101). -/
def Obligations.KtileSumIgnoresOrderAndZeros : Prop :=
  (∀ l m : List Val, l.Perm m → ktileSum l = ktileSum m) ∧
  ∀ (l : List Val) (g : Bool) (e : Int), ktileSum (.fin g 0 e :: l) = ktileSum l

/-- WVECTOR and WSAMPLE (R89 to R91, R95, R96): every logical core does its share of the rows; the operation retires 8 cycles after
the slowest core's last cycle. -/
def Obligations.VectorCommandsComplete : Prop :=
  ∀ (s : State) (c : CmdId) (d : Cmd) (p : Nat),
    let x := s.ownWide d p
    let n := (x.part p).lcores
    (Running s c 0x102 d p → VectorOp (.wvector c) s x d p
      ((List.range n).map fun lc => ⟨d.vec.run (x.lcore p lc) lc n d.t0 d.step, d.vec.cycles (dealt d.vec.rows n lc).length, x.dropTask p lc⟩)
      (taskFields ++ accessFields ++ slotFields ++ [Field.CORE_DROP_TOTAL, Field.CORE_DROP_TASK, Field.STRM_FAIL_DIGEST,
        Field.STRM_FAIL_UNDERRUN] ++ [Field.CORE_GATHER_MISSES]) (taskParts
          ++ [Component.free, Component.fences, Component.power, Component.rehearsal])) ∧
    (Running s c 0x104 d p → VectorOp (.wsample c) s x d p
      ((List.range n).map fun lc => ⟨d.samp.run (x.lcore p lc) lc n d.t0 d.step, d.samp.cycles (dealt d.samp.rows n lc).length, 0⟩)
      (taskFields ++ accessFields ++ slotFields ++ [Field.CORE_DROP_TOTAL, Field.CORE_DROP_TASK, Field.STRM_FAIL_DIGEST,
        Field.STRM_FAIL_UNDERRUN] ++ [Field.CORE_GATHER_MISSES]) (taskParts
          ++ [Component.free, Component.fences, Component.power, Component.rehearsal]))

/-- WMATMUL and WMATMUL_SPEC (R82 to R88, R190, R213): the groups are dealt to the cores, each walks its items, the operation
retires 8 cycles after the slowest core's last cycle; where a lap of its ring has not arrived it waits. A speculative one
accumulates in its shadow region, whose groups become its slot's. -/
def Obligations.MatrixCommandsComplete : Prop :=
  ∀ (s : State) (c : CmdId) (d : Cmd) (p : Nat),
    let x := s.ownWide d p
    let ws := x.matStart p d.mat d.t0
    (Running s c 0x100 d p →
      let o := x.matOp p d d.mat.accBase ws s.now
      MatrixOp (.wmatmul c) s x d p o ws (x.matFill p d.mat o ws) (taskFields ++ accessFields ++ slotFields
        ++ [Field.CORE_DROP_TOTAL, Field.CORE_DROP_TASK, Field.STRM_FAIL_DIGEST, Field.STRM_FAIL_UNDERRUN]
          ++ [Field.CORE_GATHER_MISSES]) (taskParts
          ++ [Component.free, Component.fences, Component.power, Component.rehearsal]) fun _ => True) ∧
    (Running s c 0x101 d p →
      let e := (x.part p).pred d.mat.slot
      let y := x.setPred p d.mat.slot { e with shadow := (e.shadow ++ shadowPairs d.mat ws).dedup }
      let o := y.matOp p d d.mat.shadowBase ws s.now
      MatrixOp (.wmatmulSpec c) s y d p o ws (y.matFill p d.mat o ws) (taskFields ++ accessFields ++ slotFields
        ++ [Field.CORE_DROP_TOTAL, Field.CORE_DROP_TASK, Field.STRM_FAIL_DIGEST, Field.STRM_FAIL_UNDERRUN]
          ++ [Field.CORE_GATHER_MISSES]) (taskParts ++ [Component.free, Component.fences, Component.power, Component.rehearsal]) fun t =>
        ∀ g ∈ shadowPairs d.mat ws, g ∈ ((t.part p).pred d.mat.slot).shadow)

/-- WCONV (R92 to R94): a depthwise one deals output positions to the cores as rows; any other one is a matrix operation whose
K-tiles run over the kernel's places and the input channels. -/
def Obligations.ConvolutionCompletes : Prop :=
  ∀ (s : State) (c : CmdId) (d : Cmd) (p : Nat), Running s c 0x103 d p →
    let x := s.ownWide d p
    let n := (x.part p).lcores
    let ws := x.convStart p d.conv d.t0
    (d.conv.depthwise = true → VectorOp (.wconv c) s x d p
      ((List.range n).map fun lc => ⟨d.conv.run (x.lcore p lc) lc n d.t0 d.step, d.conv.cycles (dealt (d.conv.ho * d.conv.wo) n lc).length, 0⟩)
      (taskFields ++ accessFields ++ slotFields ++ [Field.CORE_DROP_TOTAL, Field.CORE_DROP_TASK, Field.STRM_FAIL_DIGEST,
        Field.STRM_FAIL_UNDERRUN] ++ [Field.CORE_GATHER_MISSES]) (taskParts
          ++ [Component.free, Component.fences, Component.power, Component.rehearsal])) ∧
    (d.conv.depthwise = false → MatrixOp (.wconv c) s x d p (x.convOp p d ws s.now) ws ⟨[], []⟩ (taskFields ++ accessFields
      ++ slotFields ++ [Field.CORE_DROP_TOTAL, Field.CORE_DROP_TASK, Field.STRM_FAIL_DIGEST, Field.STRM_FAIL_UNDERRUN]
        ++ [Field.CORE_GATHER_MISSES]) (taskParts
          ++ [Component.free, Component.fences, Component.power, Component.rehearsal]) fun _ => True)

/-- Until the Gondola has booted, writes to PF BAR0 and requests on the management bus do nothing (R430); bytes that the host holds in
its own memory for them stand there. -/
def Obligations.BeforeBootWritesAreIgnored : Prop :=
  ∀ (s : State), s.booted = false →
    (∀ (d : Fin 250) (m : Fin 48) (n : Fin 64) (e p k : Fin 16) (h : Fin 32) (x : Fin 262144) (half : Fin 2) (v : BitVec 64)
      (u : BitVec 32) (q : Fin 16384) (i off size w : Nat) (a b : Bool) (y : Bytes) (g : Fin 128) (r : Fin 5) (pw : ProtWrite)
      (ww : WithdrawWrite), goodAccess off size = true →
      ∀ c ∈ ([Instr.resume, .reselect, .reelCfgLock u, .pwrCfgLock v, .logbCfgLock u, .registerWrite .pf off size w, .queueFaultClear q,
          .fenceHostWrite .pf i v, .protectionChange pw, .resourceWithdraw ww, .reelBeaconErrClear n u, .progClear p h,
          .ertWindowWrite x half v, .ertSwitch p, .drain m, .scrub m, .returnStack m, .inflate d, .deflate d, .vminRearm d,
          .online n, .loopback n, .offline n, .retrain n, .portEnable n, .swap e, .handover, .confirm, .fallback, .keyLoad p k,
          .keyErase p k, .keyEraseAll p, .freeze, .thaw, .logbookStore, .entdaa g, .getVersion, .getCapabilities,
          .negotiateAlgorithms a b, .getDigests, .getCertificate i off size, .challenge i y, .getMeasurements i y,
          .ownerKeyInstall y, .pldmSensorRead r, .pldmLogbookRead off size] : List Instr), exec c s = .next s) ∧
    ∀ (p : Fin 16) (h : Fin 32) (i : Nat) (t u : BitVec 32) (l : List (Nat × Byte)),
      ∀ c ∈ ([Instr.progLoad p h l, .stage l, .settingsWrite l, .openDebug l, .doorbell .pf i t u l] : List Instr),
        exec c s = .next { s with host := Mem.writeCells s.host l }

/-- WINDOW_OPEN and WINDOW_CLOSE (R131, R132, R134): the command retires in cycle 4, and with its retirement the descriptor changes on
every named core and on no other: two cycles later an opened one checks writes, and one closed or replaced no longer does; until
then what was in force stays in force. -/
def Obligations.WindowsOpenAndClose : Prop :=
  (∀ (s : State) (c : CmdId) (d : Cmd),
    (s.ready c 0x401 = some d → Completes (.windowOpen c) s []
      [Component.cmds, Component.rehearsal] fun t => RetiresAt s t d (d.t0 + 4) 0 0) ∧
    (s.ready c 0x402 = some d → Completes (.windowClose c) s []
      [Component.cmds, Component.rehearsal] fun t => RetiresAt s t d (d.t0 + 4) 0 0)) ∧
  (∀ (s : State) (c : CmdId) (d : Cmd) (p x : Nat), s.findCmd c.queue.val c.seq = some d → d.part = some p → (d.op = 0x401 ∨ d.op = 0x402) →
    d.due = some x → d.began.isSome = true → x < s.nextEdge →
    let u := s.catchUp p x
    u.now ≤ x → x < u.nextEdge → u.findCmd d.queue d.seq = some d → d.status < 0x3000 → u.firstFault p (s.nextEdge - 1) = none →
    Completes (.commandRetire c) s (taskFields ++ accessFields ++ moveFields ++ routeFields ++ slotFields ++ pruneFields
      ++ reduceFields ++ linkFields ++ [Field.CORE_DROP_TOTAL, Field.CORE_DROP_TASK, Field.CORE_PATHS_EXPANDED,
        Field.CORE_PATHS_MERGE] ++ [Field.CORE_PATHS_STRUCT, Field.CORE_PATHS_DENSE, Field.STRM_FAIL_UNDERRUN,
          Field.CORE_ACC_MAP_MAP] ++ [Field.CORE_GATHER_MISSES, Field.PART_COLL_INEXACT]) (taskParts
          ++ [Component.clock, Component.free, Component.fences, Component.carrier, Component.links, Component.power, Component.rehearsal, Component.out]) fun t =>
      ∀ k, (t.core k).windows = ((u.changeWindows d p x).core k).windows ∧ (t.core k).stable = ((u.changeWindows d p x).core k).stable) ∧
  ∀ (s : State) (d : Cmd) (p x : Nat), (s.part p).positions.Nodup →
    let named := fun (k : Nat) => ∃ lc, d.window.first ≤ lc ∧ lc ≤ d.window.last ∧ (s.part p).position lc = some k
    let t := s.changeWindows d p x
    (∀ k, ¬named k → t.core k = s.core k) ∧
    (∀ k, named k → d.op = 0x401 → t.core k = (s.core k).openWindow d.window (x + 2)) ∧
    (∀ k, named k → d.op ≠ 0x401 → t.core k = (s.core k).closeWindow d.window d.closeAll (x + 2)) ∧
    (∀ k y row a b e n, y < x + 2 → (t.core k).accepts y row a b e n = (s.core k).accepts y row a b e n) ∧
    (∀ k y row a b n, named k → d.op = 0x401 → d.window.stable = false → d.window.tether = true → x + 2 ≤ y →
      d.window.rowFirst ≤ row → row ≤ d.window.rowLast → d.window.wcolFirst ≤ a → b ≤ d.window.wcolLast →
      (t.core k).accepts y row a b 2 n = true) ∧
    ∀ k y row a b e n, named k → d.op = 0x402 → d.window.stable = false → d.closeAll = true → x + 2 ≤ y →
      (∀ w ∈ (s.core k).windows, ∀ z, w.till = some z → z ≤ x + 2) → (t.core k).accepts y row a b e n = false

/-- STREAM_LOAD, STREAM_SPEC and PRUNE_LOAD (R181, R192, R259): with shards still to come over tethers its request goes out, once;
with every row in place and every verdict in, it retires in the cycle after the last of these, its stream ends, and its ring is
known to be complete. -/
def Obligations.StreamingCommandsAskAndRetire : Prop :=
  ∀ (s : State) (c : CmdId) (d : Cmd) (p : Nat) (st : Stream), (s.part p).stream d = some st →
    ∀ x ∈ [(0x200, Instr.streamLoad c), (0x201, Instr.streamSpec c), (0x206, Instr.pruneLoad c)],
      Completes x.2 s (taskFields ++ slotFields ++ pruneFields ++ [Field.CORE_TMEM_HAZ_TOTAL, Field.CORE_TMEM_HAZ_WW,
        Field.CORE_TMEM_HAZ_TASK, Field.CORE_TMEM_STAB_VIOL_TOTAL] ++ [Field.HBM_STAT_WW, Field.HBM_ECC_CORRECTED,
          Field.HBM_ECC_UNCORRECTABLE, Field.STRM_FAIL_DIGEST]) (taskParts
          ++ [Component.clock, Component.fences, Component.carrier, Component.rehearsal, Component.out]) (fun _ => True) ∧
      (Running s c x.1 d p →
        (st.asked = false → st.shards ≠ [] →
          (∀ h ∈ st.shards, h.port < 64 ∧ h.header = [] ∧ h.place = [] ∧ h.delivered = false) →
          Completes x.2 s (taskFields ++ slotFields ++ pruneFields ++ [Field.CORE_TMEM_HAZ_TOTAL, Field.CORE_TMEM_HAZ_WW,
          Field.CORE_TMEM_HAZ_TASK, Field.CORE_TMEM_STAB_VIOL_TOTAL] ++ [Field.HBM_STAT_WW, Field.HBM_ECC_CORRECTED,
          Field.HBM_ECC_UNCORRECTABLE, Field.STRM_FAIL_DIGEST]) (taskParts
          ++ [Component.clock, Component.fences, Component.carrier, Component.rehearsal, Component.out]) fun t =>
            (t.part p).stream d = some { st with asked := true } ∧ t.out = (s.sendRequests p st).out ∧
            ∃ v, t.findCmd d.queue d.seq = some v ∧ v.due = none) ∧
        (st.asked = true → (∀ h ∈ st.shards, h.verdict.isSome = true) → InPlace s p d st →
          let v := (st.shards.filterMap fun h => h.verdict.map Prod.snd).foldl max d.t0
          Completes x.2 s (taskFields ++ slotFields ++ pruneFields ++ [Field.CORE_TMEM_HAZ_TOTAL, Field.CORE_TMEM_HAZ_WW,
          Field.CORE_TMEM_HAZ_TASK, Field.CORE_TMEM_STAB_VIOL_TOTAL] ++ [Field.HBM_STAT_WW, Field.HBM_ECC_CORRECTED,
          Field.HBM_ECC_UNCORRECTABLE, Field.STRM_FAIL_DIGEST]) (taskParts
          ++ [Component.clock, Component.fences, Component.carrier, Component.rehearsal, Component.out]) fun t =>
            RetiresOver s t d (max v (lastPlaced s p d st) + 1) st.degraded ∧ (t.part p).stream d = none ∧
            ∀ r ∈ (t.part p).strm.rings, r.queue = d.queue → r.seq = d.seq → r.placed = some (lastPlaced s p d st)))

/-- RESIDE (R198, R200, R201): refused with RESIDENCY_REFUSED before any byte moves where slots are unavailable; else its request goes
out; with everything stored it retires, and every expert's entry in the shadow bank is of STATE 2 and points to its new region. -/
def Obligations.ResideStoresExperts : Prop :=
  ∀ (s : State) (c : CmdId), Completes (.reside c) s (taskFields ++ slotFields ++ pruneFields ++ [Field.CORE_TMEM_HAZ_TOTAL,
    Field.CORE_TMEM_HAZ_WW, Field.CORE_TMEM_HAZ_TASK, Field.CORE_TMEM_STAB_VIOL_TOTAL] ++ [Field.HBM_STAT_WW,
      Field.HBM_ECC_CORRECTED, Field.HBM_ECC_UNCORRECTABLE, Field.STRM_FAIL_DIGEST]) (taskParts
        ++ [Component.clock, Component.fences, Component.carrier, Component.rehearsal, Component.out]) (fun _ => True) ∧
    ∀ (d : Cmd) (p : Nat) (st : Stream) (sh : Shape), (s.part p).stream d = some st → Running s c 0x203 d p →
    let need := s.neededSlots p d.reside
    let short := (need.filter fun a => s.slotTaken p a).length
    (st.asked = false → short ≠ 0 → Completes (.reside c) s (taskFields ++ slotFields ++ pruneFields
      ++ [Field.CORE_TMEM_HAZ_TOTAL, Field.CORE_TMEM_HAZ_WW, Field.CORE_TMEM_HAZ_TASK, Field.CORE_TMEM_STAB_VIOL_TOTAL]
        ++ [Field.HBM_STAT_WW, Field.HBM_ECC_CORRECTED, Field.HBM_ECC_UNCORRECTABLE, Field.STRM_FAIL_DIGEST]) (taskParts
          ++ [Component.clock, Component.fences, Component.carrier, Component.rehearsal, Component.out]) fun t =>
      RetiresAt s t d (d.t0 + 1) 0x2000 (short + need.length * 2 ^ 32) ∧ (t.part p).stream d = none ∧ t.carrier = s.carrier ∧ t.out = s.out) ∧
    (st.asked = false → short = 0 → st.shards ≠ [] →
      (∀ h ∈ st.shards, h.port < 64 ∧ h.header = [] ∧ h.place = [] ∧ h.delivered = false) →
      Completes (.reside c) s (taskFields ++ slotFields ++ pruneFields ++ [Field.CORE_TMEM_HAZ_TOTAL, Field.CORE_TMEM_HAZ_WW,
        Field.CORE_TMEM_HAZ_TASK, Field.CORE_TMEM_STAB_VIOL_TOTAL] ++ [Field.HBM_STAT_WW, Field.HBM_ECC_CORRECTED,
          Field.HBM_ECC_UNCORRECTABLE, Field.STRM_FAIL_DIGEST]) (taskParts
          ++ [Component.clock, Component.fences, Component.carrier, Component.rehearsal, Component.out]) fun t =>
        (t.part p).stream d = some { st with asked := true } ∧ t.out = (s.sendRequests p st).out ∧ t.carrier = s.carrier) ∧
    (st.asked = true → (s.part p).bind.shape = some sh → s.get .PART_ERT_CTL_SYNC_BUSY p ≠ 1 →
      (∀ h ∈ st.shards, h.verdict.isSome = true) → InPlace s p d st →
      let v := (st.shards.filterMap fun h => h.verdict.map Prod.snd).foldl max d.t0
      Completes (.reside c) s (taskFields ++ slotFields ++ pruneFields ++ [Field.CORE_TMEM_HAZ_TOTAL, Field.CORE_TMEM_HAZ_WW,
        Field.CORE_TMEM_HAZ_TASK, Field.CORE_TMEM_STAB_VIOL_TOTAL] ++ [Field.HBM_STAT_WW, Field.HBM_ECC_CORRECTED,
          Field.HBM_ECC_UNCORRECTABLE, Field.STRM_FAIL_DIGEST]) (taskParts
          ++ [Component.clock, Component.fences, Component.carrier, Component.rehearsal, Component.out]) fun t =>
        RetiresOver s t d (max v (lastPlaced s p d st) + 1) st.degraded ∧ (t.part p).stream d = none ∧
        ∀ r ∈ s.regions p d.reside, r.addr % 4096 = 0 → r.addr < 2 ^ 42 →
          ertState (Tab.get 0 t.carrier.ertShadow (sh.ertBase + r.expert)) = 2 ∧
          ertCaddr (Tab.get 0 t.carrier.ertShadow (sh.ertBase + r.expert)) = r.addr ∧
          ertShards (Tab.get 0 t.carrier.ertShadow (sh.ertBase + r.expert)) = ertShards r.ert)

/-- SHARD_DATA (R176, R178): the first word of a shard is its header; each later one joins the shard, whose first payload word fixes
the key. A frame that does not stand, or whose port no partition owns, changes only what its link check counts. -/
def Obligations.ShardWordsJoinTheirShard : Prop :=
  ∀ (s : State) (n : Fin 64) (w : WslFrame),
    (s.portTalks n.val = true → w.cls = 2 → w.type = 1 → ((s.linkCheck n.val w).1 = false ∨ s.portOwner n.val = none) →
      exec (.shardData n w) s = .next (s.linkCheck n.val w).2) ∧
    (∀ (p : Nat) (st : Stream) (h : Shard) (d : Cmd), OneWord s n.val w 2 1 p st h → Ahead s p h → s.streamCmd st = some d →
      h.id < 2 ^ 48 →
      h.place = [] →
      (h.header = [] → h.data = [] → h.key = none → (d.op = 0x200 ∨ d.op = 0x206) → shOk w.payload h.id = true → shKind w.payload = 0 →
        0 < shTiles w.payload → 64 * shTiles w.payload ≤ shLen w.payload → (d.op = 0x206 → shPrune w.payload = true) →
        Completes (.shardData n w) s (taskFields ++ slotFields ++ pruneFields ++ frameFields ++ [Field.CORE_TMEM_HAZ_TOTAL,
          Field.CORE_TMEM_HAZ_WW, Field.CORE_TMEM_HAZ_TASK, Field.CORE_TMEM_STAB_VIOL_TOTAL] ++ [Field.HBM_STAT_WW,
          Field.HBM_ECC_CORRECTED, Field.HBM_ECC_UNCORRECTABLE, Field.STRM_FAIL_DIGEST]
          ++ [Field.TETH_UNCORR_SINCE_TRAIN]) (taskParts
          ++ [Component.clock, Component.fences, Component.carrier, Component.rehearsal]) fun t =>
          ∃ g, (t.part p).strm.streams = [{ st with shards := [g] }] ∧ g.header = w.payload ∧ g.data = [] ∧ g.key = none ∧
            g.id = h.id ∧ g.verdict = none ∧ g.delivered = false) ∧
      (h.header ≠ [] → h.full = false → d.op = 0x200 → shKind h.header = 0 → h.data.length + 64 < 64 * shTiles h.header →
        64 * shTiles h.header ≤ shLen h.header →
        Completes (.shardData n w) s (taskFields ++ slotFields ++ pruneFields ++ frameFields ++ [Field.CORE_TMEM_HAZ_TOTAL,
          Field.CORE_TMEM_HAZ_WW, Field.CORE_TMEM_HAZ_TASK, Field.CORE_TMEM_STAB_VIOL_TOTAL] ++ [Field.HBM_STAT_WW,
          Field.HBM_ECC_CORRECTED, Field.HBM_ECC_UNCORRECTABLE, Field.STRM_FAIL_DIGEST]
          ++ [Field.TETH_UNCORR_SINCE_TRAIN]) (taskParts
          ++ [Component.clock, Component.fences, Component.carrier, Component.rehearsal]) fun t =>
          ∃ g deg, (t.part p).strm.streams = [{ st with shards := [g], degraded := deg }] ∧ g.header = h.header ∧
            g.data = h.data ++ w.payload ∧ g.verdict = none ∧ (h.data ≠ [] → g.key = h.key) ∧
            (h.data = [] → shEnc h.header = true → Tab.get [] (s.part p).keys.keys (shKey h.header) ≠ [] →
              g.key = some (Tab.get [] (s.part p).keys.keys (shKey h.header))))) ∧
    Completes (.shardData n w) s (taskFields ++ slotFields ++ pruneFields ++ frameFields ++ [Field.CORE_TMEM_HAZ_TOTAL,
      Field.CORE_TMEM_HAZ_WW, Field.CORE_TMEM_HAZ_TASK, Field.CORE_TMEM_STAB_VIOL_TOTAL] ++ [Field.HBM_STAT_WW,
        Field.HBM_ECC_CORRECTED, Field.HBM_ECC_UNCORRECTABLE, Field.STRM_FAIL_DIGEST] ++ [Field.TETH_UNCORR_SINCE_TRAIN]) (taskParts
          ++ [Component.clock, Component.fences, Component.carrier, Component.rehearsal]) fun _ => True

/-- VERDICT (R177 to R180, R192): rows and bytes that are due move first; a shard whose digest, tag or key fails ends its command with
DIGEST_FAIL; the last good verdict of a command with every row in place lets it retire in the next cycle, with its stream gone. -/
def Obligations.VerdictEndsTheShard : Prop :=
  ∀ (s : State) (c : CmdId) (k : Nat), Completes (.verdict c k) s (taskFields ++ slotFields ++ pruneFields
    ++ [Field.CORE_TMEM_HAZ_TOTAL, Field.CORE_TMEM_HAZ_WW, Field.CORE_TMEM_HAZ_TASK, Field.CORE_TMEM_STAB_VIOL_TOTAL]
      ++ [Field.HBM_STAT_WW, Field.HBM_ECC_CORRECTED, Field.HBM_ECC_UNCORRECTABLE, Field.STRM_FAIL_DIGEST]) (taskParts
        ++ [Component.clock, Component.fences, Component.carrier, Component.rehearsal]) (fun _ => True) ∧
    ∀ (d : Cmd) (p : Nat) (st : Stream) (h : Shard), s.findCmd c.queue.val c.seq = some d → d.part = some p →
    let u := s.pump d p
    u.alive d = true → (u.part p).stream d = some st → st.shards[k]? = some h → h.verdict = none → h.full = true → h.lost = 0 →
    (∀ e, h.cause = some e → exec (.verdict c k) s = .next (u.fault d 0x3002 (h.id % 2 ^ 48 + e * 2 ^ 48))) ∧
    (h.cause = none → k = 0 → st.shards = [h] → (d.op = 0x200 ∨ d.op = 0x201 ∨ d.op = 0x206) → InPlace u p d st →
      u.findCmd d.queue d.seq = some d → d.began.isSome = true → d.due = none →
      Completes (.verdict c k) s (taskFields ++ slotFields ++ pruneFields ++ [Field.CORE_TMEM_HAZ_TOTAL, Field.CORE_TMEM_HAZ_WW,
        Field.CORE_TMEM_HAZ_TASK, Field.CORE_TMEM_STAB_VIOL_TOTAL] ++ [Field.HBM_STAT_WW, Field.HBM_ECC_CORRECTED,
          Field.HBM_ECC_UNCORRECTABLE, Field.STRM_FAIL_DIGEST]) (taskParts
          ++ [Component.clock, Component.fences, Component.carrier, Component.rehearsal]) fun t =>
        RetiresOver u t d (max (max d.t0 u.now) (lastPlaced u p d st) + 1) st.degraded ∧ (t.part p).stream d = none)

/-- ROW_ABSENT (R48, R181, R232): a row of tether transfer k whose bytes have not come by its round is a DEADLINE_MISS of its command,
which names the transfer and the row. -/
def Obligations.AbsentRowIsADeadlineMiss : Prop :=
  ∀ (s : State) (c : CmdId) (d : Cmd) (p k row m : Nat) (st : Stream) (h : Shard) (e : PlanEntry) (b : Bound),
    s.findCmd c.queue.val c.seq = some d → d.part = some p → (s.part p).stream d = some st → st.transfer k = some h →
    (s.part p).entry h.entry = some (e, b) → rowNeed d h e row = some m → h.data.length < m →
    s.roundCycle p (e.rowLast b.round row) ≤ s.now →
    exec (.rowAbsent c k row) s =
      .next (((s.mark (s.port h.port).rehearsal).fault d 0x3001 (absentDetail d h row)).mark false) ∧
    (d.op = 0x200 → absentDetail d h row = h.id % 2 ^ 48 + row % 2 ^ 16 * 2 ^ 48)

/-- ROUTE_COMMIT (R150, R217 to R224): a mask word whose read meets no fault is applied in cycle 40: each PENDING slot that it resolves
is confirmed and IDLE, or refuted; without dispatch the command retires in the next cycle. The dispatch, 24 cycles and a cycle per 64
routes later, sets the spill counts of the partition; the command retires after its last result row, INDEX_DROPPED if routes were
dropped; a round that has begun before is a DEADLINE_MISS. -/
def Obligations.RouteCommitResolvesAndDispatches : Prop :=
  ∀ (s : State) (c : CmdId), Completes (.routeCommit c) s (taskFields ++ accessFields ++ moveFields ++ routeFields ++ slotFields
    ++ pruneFields ++ linkFields ++ [Field.CORE_DROP_TOTAL, Field.CORE_DROP_TASK, Field.STRM_FAIL_UNDERRUN, Field.CORE_ACC_MAP_MAP]
      ++ [Field.CORE_GATHER_MISSES]) (taskParts
        ++ [Component.clock, Component.free, Component.fences, Component.carrier, Component.links, Component.power, Component.rehearsal, Component.out]) (fun _ => True) ∧
    ∀ (d : Cmd) (p : Nat), Running s c 0x202 d p → d.commitAt < s.nextEdge →
    (∀ x ∈ s.cmds, x.queue = d.queue → x.seq = d.seq → x = d) →
    let q := d.route
    let k := s.lcore p q.maskCore
    let word := k.readAt d.t0 (tmemAddr q.maskRow q.maskWcol) 4
    (d.upto ≤ d.t0 → s.now ≤ d.commitAt → q.commit = true → q.dispatch = false → s.maskFaults p q d.t0 = [] →
      (∀ x ∈ s.cmds, x.part = some p → x.op = 0x201 → x.began = none) →
      (∀ j, j < 16 → (u16 word 0).testBit j = true → ((s.part p).pred j).fault = none) →
      Completes (.routeCommit c) s (taskFields ++ accessFields ++ moveFields ++ routeFields ++ slotFields ++ pruneFields
        ++ linkFields ++ [Field.CORE_DROP_TOTAL, Field.CORE_DROP_TASK, Field.STRM_FAIL_UNDERRUN, Field.CORE_ACC_MAP_MAP]
          ++ [Field.CORE_GATHER_MISSES]) (taskParts
          ++ [Component.clock, Component.free, Component.fences, Component.carrier, Component.links, Component.power, Component.rehearsal, Component.out]) fun t =>
        RetiresWith s t d (d.t0 + 41) 0 0 ∧ t.clock.now = d.t0 + 40 ∧
        ∀ j, j < 16 →
          ((u16 word 2).testBit j = true → ((s.part p).pred j).state = 1 →
            ((u16 word 0).testBit j = true → (t.part p).pred j =
              { Pred.init with held := ((s.part p).pred j).held.filter fun h => decide (0x3000 ≤ h.1.status) }) ∧
            ((u16 word 0).testBit j = false → ((t.part p).pred j).state = 3 ∧ ((t.part p).pred j).held = [])) ∧
          (((u16 word 2).testBit j = false ∨ ((s.part p).pred j).state ≠ 1) → (t.part p).pred j = (s.part p).pred j)) ∧
    ∀ e b, q.dispatch = true → (s.part p).entry q.dispEntry = some (e, b) → d.commitAt < d.upto → d.upto ≤ d.dispatchAt → d.dispatchAt ≤ s.now →
      let x := s.dispOf d p
      (s.roundCycle p b.round < d.dispatchAt → Completes (.routeCommit c) s (taskFields ++ accessFields ++ moveFields ++ routeFields
        ++ slotFields ++ pruneFields ++ linkFields ++ [Field.CORE_DROP_TOTAL, Field.CORE_DROP_TASK, Field.STRM_FAIL_UNDERRUN,
          Field.CORE_ACC_MAP_MAP] ++ [Field.CORE_GATHER_MISSES]) (taskParts
          ++ [Component.clock, Component.free, Component.fences, Component.carrier, Component.links, Component.power, Component.rehearsal, Component.out]) fun t =>
        RetiresWith s t d (s.roundCycle p b.round) 0x3001 (q.dispEntry + s.roundsLate p b.round d.dispatchAt * 2 ^ 32)) ∧
      (d.dispatchAt ≤ s.roundCycle p b.round → s.dropLimit p = none → Completes (.routeCommit c) s (taskFields ++ accessFields
        ++ moveFields ++ routeFields ++ slotFields ++ pruneFields ++ linkFields ++ [Field.CORE_DROP_TOTAL, Field.CORE_DROP_TASK,
          Field.STRM_FAIL_UNDERRUN, Field.CORE_ACC_MAP_MAP] ++ [Field.CORE_GATHER_MISSES]) (taskParts
          ++ [Component.clock, Component.free, Component.fences, Component.carrier, Component.links, Component.power, Component.rehearsal, Component.out]) fun t =>
        t.get .PART_SPILL_LAST_SPILLED p = min x.spill.length 0xFFFF % 2 ^ Field.PART_SPILL_LAST_SPILLED.width ∧
        t.get .PART_SPILL_LAST_MAX p = (x.n.map Prod.snd).foldl max 0 % 2 ^ Field.PART_SPILL_LAST_MAX.width ∧
        (s.rowEnd p e b (q.resultRows - 1) ≤ s.now → ∀ u, t.findCmd d.queue d.seq = some u → u.status < 0x3000 →
          u.due = some (s.rowEnd p e b (q.resultRows - 1) + 1) ∧ (u.status = 0 ∧ u.detail = 0 ∨ u.status = 1)))

/-- EVICT, SLOT_FREE and SWAP_MODEL (R202, R205): EVICT makes the named experts STATE 1 in the shadow bank and holds the slots until an
edge at which their conditions hold; SWAP_MODEL arms the switch and retires in the next cycle. -/
def Obligations.EvictHoldsSlotsUntilFree : Prop :=
  ∀ (s : State) (c : CmdId) (d : Cmd) (p : Nat),
    (Running s c 0x204 d p → Completes (.evict c) s bookFields [Component.cmds, Component.parts, Component.carrier, Component.book, Component.rehearsal] fun t =>
      RetiresAt s t d (d.t0 + 1) 0 0 ∧
      (t.part p).strm.evicts = (s.part p).strm.evicts ++ [⟨d.evict.caddr, d.evict.slots, s.now⟩] ∧
      (d.evict.unmap = true → s.get .PART_ERT_CTL_SYNC_BUSY p ≠ 1 →
        ∀ i, i < d.evict.count → d.evict.expert + i < (s.part p).ertCount →
          t.ertShadow p (d.evict.expert + i) = s.ertShadow p (d.evict.expert + i) / 4 * 4 + 1) ∧
      t.carrier.ertCommitted = s.carrier.ertCommitted) ∧
    (∀ p : Fin 16, s.atEdge = true → Completes (.slotFree p) s [] [Component.parts] fun t =>
      ∀ v, v ∈ (t.part p.val).strm.evicts ↔ v ∈ (s.part p.val).strm.evicts ∧ ¬(v.cycle < s.now ∧ s.mayFree p.val v = true)) ∧
    (Running s c 0x205 d p → Completes (.swapModel c) s [Field.PART_MODEL_CTL_PENDING]
      [Component.cmds, Component.parts, Component.rehearsal] fun t =>
      RetiresAt s t d (d.t0 + 1) 0 0 ∧ (t.part p).strm.swap = some d.batch ∧ t.get .PART_MODEL_CTL_PENDING p = 1)

/-- MODEL_SWITCH (R205): at an edge at which an armed switch is due, the model pointer's banks and the ERT's generation switch
together if the checks hold; else the switch is rejected, and nothing of either changes. -/
def Obligations.ModelSwitchIsWholeOrRejected : Prop :=
  ∀ (s : State) (p : Fin 16) (sh : Shape), s.atEdge = true → s.swapDue p.val = true → (s.part p.val).bind.shape = some sh →
    (s.swapOk p.val = true → Completes (.modelSwitch p) s (bookFields ++ journalFields ++ [Field.PART_ERT_GEN_COMMITTED,
      Field.PART_ERT_CTL_SYNC_BUSY, Field.PART_MODEL_CTL_REJECT, Field.PART_MODEL_CTL_SWITCHED] ++ [Field.PART_MODEL_CTL_PENDING,
        Field.VFEVT_STAT_MODEL_REJECT,
          Field.VFEVT_STAT_MODEL_SWITCHED]) [Component.host, Component.recs, Component.parts, Component.carrier, Component.book, Component.fresh] fun t =>
      (t.part p.val).strm.modelCommitted = (s.part p.val).strm.modelShadow ∧
      (t.part p.val).strm.modelShadow = (s.part p.val).strm.modelCommitted ∧ (t.part p.val).strm.swap = none ∧
      t.get .PART_ERT_GEN_COMMITTED p.val = s.get .PART_ERT_GEN_SHADOW p.val % 2 ^ Field.PART_ERT_GEN_COMMITTED.width ∧
      t.get .PART_ERT_CTL_SYNC_BUSY p.val = 1 ∧ t.get .PART_MODEL_CTL_PENDING p.val = 0 ∧
      t.get .PART_MODEL_CTL_SWITCHED p.val = 1 ∧ t.get .VFEVT_STAT_MODEL_SWITCHED p.val = 1) ∧
    (s.swapOk p.val = false → Completes (.modelSwitch p) s
      (bookFields ++ journalFields ++ [Field.PART_ERT_GEN_COMMITTED, Field.PART_ERT_CTL_SYNC_BUSY, Field.PART_MODEL_CTL_REJECT,
        Field.PART_MODEL_CTL_SWITCHED] ++ [Field.PART_MODEL_CTL_PENDING, Field.VFEVT_STAT_MODEL_REJECT,
          Field.VFEVT_STAT_MODEL_SWITCHED]) [Component.host, Component.recs, Component.parts, Component.carrier, Component.book, Component.fresh] fun t =>
      (t.part p.val).strm.modelCommitted = (s.part p.val).strm.modelCommitted ∧
      (t.part p.val).strm.modelShadow = (s.part p.val).strm.modelShadow ∧ (t.part p.val).strm.swap = none ∧
      t.get .PART_MODEL_CTL_PENDING p.val = 0 ∧
      t.get .PART_MODEL_CTL_REJECT p.val = 1 ∧ t.get .VFEVT_STAT_MODEL_REJECT p.val = 1)

/-- WRITEBACK (R207, R259): with no uncorrectable quarter in what it reads it retires in the cycle after its last row has left,
LINK_DEGRADED over a degraded port; an encrypted one takes the next number of its key. -/
def Obligations.WritebackLeavesWithItsKeyCount : Prop :=
  ∀ (s : State) (c : CmdId), Completes (.writeback c) s (taskFields ++ slotFields ++ [Field.CORE_TMEM_ECC_CORRECTED,
    Field.CORE_TMEM_ECC_UNCORRECTABLE, Field.STRM_FAIL_DIGEST, Field.CORE_BIND_BOUND] ++ [Field.CORE_BIND_FENCED,
      Field.PWR_DOM_STAT_STATE]) (taskParts
        ++ [Component.clock, Component.fences, Component.power, Component.rehearsal, Component.out]) (fun _ => True) ∧
    ∀ (d : Cmd) (p : Nat) (e : PlanEntry) (b : Bound), Running s c 0x207 d p →
    (s.part p).entry d.writeback.entry = some (e, b) → s.lastRow p d.writeback.entry 1 ≤ s.now →
    (∀ r ∈ s.writebackReads p d.writeback, (s.lcore p e.src).eccFaults e.src r.2 r.1 = []) →
    Completes (.writeback c) s (taskFields ++ slotFields ++ [Field.CORE_TMEM_ECC_CORRECTED, Field.CORE_TMEM_ECC_UNCORRECTABLE,
      Field.STRM_FAIL_DIGEST, Field.CORE_BIND_BOUND] ++ [Field.CORE_BIND_FENCED, Field.PWR_DOM_STAT_STATE]) (taskParts
        ++ [Component.clock, Component.fences, Component.power, Component.rehearsal, Component.out]) fun t =>
      RetiresOver s t d (max d.t0 (s.lastRow p d.writeback.entry 1) + 1) (s.linkBits e.dstFirst .tx) ∧
      Tab.get 0 (t.part p).keys.ivs d.writeback.key =
        Tab.get 0 (s.part p).keys.ivs d.writeback.key + (if d.writeback.enc then 1 else 0)

/-- BCAST, MOVE and a send-scope REDUCE1 (R227, R230, R259, R291): with every row in place or sent and no fault charged to it, the command
retires in the cycle after its last row. A local MOVE copies its rows on each named core, and retires four cycles after. -/
def Obligations.TransfersRetireAfterTheirLastRow : Prop :=
  ∀ (s : State) (c : CmdId),
    (∀ (d : Cmd) (p first n : Nat),
      let r := s.moveRows d p first n s.now
      ∀ x ∈ [(0x300, Instr.bcast c, d.coll.first, d.coll.entries), (0x301, Instr.reduce1 c, d.coll.first, d.coll.entries),
          (0x400, Instr.move c, d.move.first, d.move.entries)],
        Running s c x.1 d p → first = x.2.2.1 → n = x.2.2.2 → (x.1 = 0x301 → d.coll.scope = 1) → (x.1 = 0x400 → d.move.isLocal = false) →
        r.2 = true → Unfaulted r.1 d → Completes x.2.1 s (taskFields ++ accessFields ++ moveFields ++ slotFields ++ reduceFields
          ++ linkFields ++ [Field.CORE_GATHER_MISSES]) (taskParts
          ++ [Component.clock, Component.free, Component.fences, Component.carrier, Component.links, Component.power, Component.rehearsal, Component.out]) fun t =>
          RetiresOver r.1 t d (max d.t0 (r.1.lastRow p first n) + 1) ((r.1.egress p first n ++ r.1.degradedOf d p).dedup) ∧
          (∀ k, t.core k = r.1.core k) ∧ (t.part p).stream d = none) ∧
    (∀ (d : Cmd) (p : Nat), Running s c 0x400 d p → d.move.isLocal = true →
      let m := d.move
      let x0 := s.boundCycle p m.phase
      d.upto ≤ x0 → x0 + 2 * m.rows ≤ s.now + 1 → (s.part p).positions.Nodup →
      (∀ lc, m.coreFirst ≤ lc → lc ≤ m.coreLast → (s.lcore p lc).ecc = [] ∧ (s.lcore p lc).stable = [] ∧
        ∀ y ∈ (s.lcore p lc).past, y.cycle < x0) →
      Completes (.move c) s (taskFields ++ accessFields ++ moveFields ++ slotFields ++ linkFields) (taskParts
        ++ [Component.clock, Component.free, Component.fences, Component.carrier, Component.links, Component.power, Component.rehearsal, Component.out]) fun t =>
        RetiresWith s t d (x0 + 2 * m.rows + 4) 0 0 ∧
        ((m.dst + m.rows ≤ m.src ∨ m.src + m.rows ≤ m.dst) →
          ∀ lc k i, m.coreFirst ≤ lc → lc ≤ m.coreLast → (s.part p).position lc = some k → i < m.rows →
            (t.core k).row (m.dst + i) = (s.core k).row (m.src + i))) ∧
    Completes (.bcast c) s (taskFields ++ accessFields ++ moveFields ++ slotFields ++ linkFields) (taskParts
      ++ [Component.clock, Component.free, Component.fences, Component.carrier, Component.links, Component.power, Component.rehearsal, Component.out]) (fun _ => True) ∧ Completes (.move c) s (taskFields ++ accessFields ++ moveFields ++ slotFields ++ linkFields) (taskParts ++ [Component.clock, Component.free, Component.fences, Component.carrier, Component.links, Component.power, Component.rehearsal, Component.out]) fun _ => True

/-- REDUCE1 on its root (R233 to R236): from cycle P on it reduces row by row. With every row in place, no read fault, and no element out
of range or inexact, each FP32 output row holds its elements' rounded long sums, and the command retires 8 cycles after the phase. -/
def Obligations.ReducePhaseWritesTheSums : Prop :=
  ∀ (s : State) (c : CmdId), Completes (.reduce1 c) s (taskFields ++ accessFields ++ moveFields ++ slotFields ++ reduceFields
    ++ linkFields ++ [Field.CORE_GATHER_MISSES]) (taskParts
      ++ [Component.clock, Component.free, Component.fences, Component.carrier, Component.links, Component.power, Component.rehearsal, Component.out]) (fun _ => True) ∧
    ∀ (d : Cmd) (p n : Nat),
    let q := d.coll
    let r := s.moveRows d p q.first q.entries s.now
    let k := r.1.core n
    let x0 := r.1.boundCycle p q.phase
    Running s c 0x301 d p → q.scope ≠ 1 → q.flag = false → r.2 = true → Unfaulted r.1 d → (r.1.part p).position q.root = some n →
      r.1.phaseOf d ≤ x0 → x0 + q.rows * (4 * q.contrib + 1) ≤ s.now + 1 → k.ecc = [] → (∀ y ∈ k.past, y.cycle < x0) → k.stable = [] →
      (∀ x row, k.flagMiss row x = none) →
      (q.outRow + q.rows ≤ q.inRow ∨ q.inRow + q.contrib * q.rows ≤ q.outRow) →
      (∀ j i, j < q.rows → i < 1024 → (q.element k x0 j i).2.1 ≠ 2 ∧ (q.element k x0 j i).2.1 ≠ 3) →
      Completes (.reduce1 c) s (taskFields ++ accessFields ++ moveFields ++ slotFields ++ reduceFields ++ linkFields
        ++ [Field.CORE_GATHER_MISSES]) (taskParts
          ++ [Component.clock, Component.free, Component.fences, Component.carrier, Component.links, Component.power, Component.rehearsal, Component.out]) fun t =>
        RetiresOver r.1 t d (x0 + q.rows * (4 * q.contrib + 1) + 8) (r.1.degradedOf d p) ∧
        ∀ j, j < q.rows → (t.core n).row (q.outRow + j) = (List.range 1024).flatMap fun i => natLE 4 (q.element k x0 j i).1

/-- COLLECTIVE_PIECE, ACTIVATION_ROWS and BULK_ROWS (R231, R232, R247): a piece header that a running command expects begins its piece;
one that none expects is counted; words join the piece or transfer under way, unless a row comes after its round. Then the
command places what it can. -/
def Obligations.RowsJoinTheirTransfer : Prop :=
  ∀ (s : State) (n : Fin 64) (w : WslFrame),
    let u := (s.linkCheck n.val w).2
    (∀ (p : Nat) (st : Stream) (h : Shard) (d : Cmd) (e : PlanEntry) (b : Bound), s.streamCmd st = some d →
      (s.part p).entry h.entry = some (e, b) →
      let took := fun (g : Shard) => (u.setStream p { st with shards := [g], degraded := (s.linkBits n.val .rx
        ++ st.degraded).dedup }).resume d p
      let inTime := (h.data.length + 64) % 4096 = 0 → s.now ≤ s.roundCycle p (e.rowLast b.round (h.data.length / 4096))
      (OneWord s n.val w 3 0 p st h → pieceBase ≤ h.id → h.id < rowBase →
        (h.header = [] → s.expects st h w.payload = true →
          exec (.collectivePiece n w) s = .next ((u.setStream p { st with shards := [{ h with header := w.payload }] }).resume d p)) ∧
        (h.header = [] → s.expects st h w.payload = false → u16 w.payload 8 = 0 →
          exec (.collectivePiece n w) s = .next ((u.put .PART_COLL_MISMATCH p
            (satW Field.PART_COLL_MISMATCH.width (u.get .PART_COLL_MISMATCH p + 1))).resume d p)) ∧
        (h.header ≠ [] → h.data.length < 4096 * h.takes → inTime →
          exec (.collectivePiece n w) s = .next (took { h with data := h.data ++ w.payload }))) ∧
      ∀ x ∈ [(3, 1, 2, Instr.activationRows n w), (4, 0, 3, Instr.bulkRows n w)], OneWord s n.val w x.1 x.2.1 p st h →
        rowBase ≤ h.id → h.id < 2 ^ 50 → (h.header ≠ [] → h.data.length < 4096 * min e.rows 16384) → inTime →
        exec x.2.2.2 s = .next (took { h with
          header := if h.header = [] then rowHead w x.2.2.1 else h.header, data := h.data ++ w.payload })) ∧
    Completes (.collectivePiece n w) s (taskFields ++ accessFields ++ moveFields ++ slotFields ++ reduceFields ++ frameFields
      ++ linkFields ++ [Field.CORE_GATHER_MISSES, Field.PART_COLL_MISMATCH, Field.TETH_UNCORR_SINCE_TRAIN]) (taskParts
        ++ [Component.clock, Component.free, Component.fences, Component.carrier, Component.links, Component.power, Component.rehearsal, Component.out]) (fun _ => True) ∧
    Completes (.activationRows n w) s (taskFields ++ accessFields ++ moveFields ++ slotFields ++ reduceFields ++ frameFields
      ++ linkFields ++ [Field.CORE_GATHER_MISSES, Field.TETH_UNCORR_SINCE_TRAIN]) (taskParts
        ++ [Component.clock, Component.free, Component.fences, Component.carrier, Component.links, Component.power, Component.rehearsal, Component.out]) (fun _ => True) ∧
    Completes (.bulkRows n w) s (taskFields ++ accessFields ++ moveFields ++ slotFields ++ reduceFields ++ frameFields ++ linkFields
      ++ [Field.CORE_GATHER_MISSES, Field.TETH_UNCORR_SINCE_TRAIN]) (taskParts
        ++ [Component.clock, Component.free, Component.fences, Component.carrier, Component.links, Component.power, Component.rehearsal, Component.out]) fun _ => True

/-- PART_CREATE, PART_RESIZE, PART_RESET and PART_DESTROY act at the first edge after their begin (R304 to R308, R315, R318, R324): a
failed check ends the command with its code, which LAST_CHECK keeps; otherwise the partition takes its new state, and its cores
begin clearing. An FLR waits for the next edge (R316). -/
def Obligations.PartitionCommandsActAtTheirEdge : Prop :=
  ∀ (s : State) (c : CmdId) (d : Cmd),
    (s.atItsEdge c 0x600 = some d →
      let p := d.partP.part
      let v := s.newShape p d.bytes
      (∀ x, s.checkBind p v false false = some x →
        exec (.partCreate c) s = .next ((s.put .PART_STATE_LAST_CHECK p x.1).abort d 0x3000 (checkDetail x))) ∧
      (s.checkBind p v false false = none → v.positions.Nodup → (∀ n ∈ v.positions, n < 96) →
        Completes (.partCreate c) s (taskFields ++ shapeFields ++ bindFields ++ [Field.CORE_DROP_TASK, Field.CORE_TMEM_HAZ_WW,
          Field.CORE_TMEM_HAZ_TASK, Field.CORE_TMEM_CLR_BUSY] ++ [Field.CORE_TMEM_CLR_CAUSE, Field.CORE_ACC_MAP_MAP,
          Field.PART_STATE_RETAINED, Field.PART_STATE_LAST_CHECK] ++ [Field.PART_STATE_STATE, Field.PART_PROG_STAT_PERIOD,
          Field.PART_PROG_STAT_LCORES, Field.PART_PROG_STAT_STATE] ++ [Field.CORE_BIND_BOUND, Field.CORE_BIND_PART,
          Field.VFLOG_SEQ_PSEQ, Field.PART_KEY_PUB_KEY]) (taskParts ++ [Component.free, Component.rehearsal]) fun t =>
          RetiresAt s t d s.now 0 0 ∧ t.get .PART_STATE_STATE p = 1 ∧ t.get .PART_STATE_GEN p = v.gen % 2 ^ Field.PART_STATE_GEN.width ∧
          (t.part p).bind.shape = some v ∧ (t.part p).bind.queues = s.descQueues p ∧ (t.part p).bind.fences = s.descFences p ∧
          ∀ i n, v.positions[i]? = some n →
            t.get .CORE_BIND_BOUND n = 1 ∧ t.get .CORE_BIND_PART n = p % 2 ^ Field.CORE_BIND_PART.width ∧
            t.get .CORE_BIND_SLOT n = i % 2 ^ Field.CORE_BIND_SLOT.width ∧
            (t.core n).clearing = some (s.clock.frameStart + 5478) ∧ t.get .CORE_TMEM_CLR_BUSY n = 1)) ∧
    (s.atItsEdge c 0x601 = some d →
      let p := d.partP.part
      let v := s.newShape p d.bytes
      (∀ x, s.checkBind p v true false = some x →
        exec (.partResize c) s = .next ((s.put .PART_STATE_LAST_CHECK p x.1).abort d 0x3000 (checkDetail x))) ∧
      (s.checkBind p v true false = none → Completes (.partResize c) s (taskFields ++ [Field.PART_STATE_LAST_CHECK,
        Field.PART_STATE_RESIZE_ARMED, Field.PART_STATE_STATE]) (taskParts ++ [Component.rehearsal]) fun t =>
        RetiresAt s t d s.now 0 0 ∧ t.get .PART_STATE_RESIZE_ARMED p = 1 ∧ (t.part p).bind.armed = some v ∧
        (t.part p).bind.shape = (s.part p).bind.shape ∧ (s.get .PART_STATE_STATE p ≠ 1 → t.get .PART_STATE_STATE p = 4))) ∧
    (s.atItsEdge c 0x603 = some d →
      let p := d.partArg
      (s.created p = false → exec (.partReset c) s = .next ((s.put .PART_STATE_LAST_CHECK p 1).abort d 0x3000 1)) ∧
      (s.created p = true → Completes (.partReset c) s (taskFields ++ [Field.CORE_DROP_TASK, Field.CORE_TMEM_HAZ_WW,
        Field.CORE_TMEM_HAZ_TASK, Field.CORE_TMEM_CLR_BUSY] ++ [Field.CORE_TMEM_CLR_CAUSE, Field.CORE_ACC_MAP_MAP,
          Field.PART_STATE_LAST_CHECK, Field.PART_STATE_RESIZE_ARMED] ++ [Field.PART_STATE_STATE, Field.PART_MODE_ACK,
          Field.VFEVT_STAT_RESIZE_CANCELLED]) (taskParts ++ [Component.fresh]) fun t =>
        t.get .PART_STATE_STATE p = 1 ∧ (t.part p).run.task = none ∧ (t.part p).run.next = none ∧
        (t.part p).bind.waiter = some (d.queue, d.seq) ∧ (t.part p).bind.shape = (s.part p).bind.shape ∧
        ∀ n ∈ (s.part p).positions, n < 96 → s.boundTo n = some p → (t.core n).clearing = some (s.clock.frameStart + 5478))) ∧
    (s.atItsEdge c 0x602 = some d →
      let p := d.partArg
      (s.created p = false → exec (.partDestroy c) s = .next ((s.put .PART_STATE_LAST_CHECK p 1).abort d 0x3000 1)) ∧
      (s.created p = true → Completes (.partDestroy c) s (taskFields ++ [Field.CORE_DROP_TASK, Field.CORE_TMEM_HAZ_WW,
        Field.CORE_TMEM_HAZ_TASK, Field.CORE_TMEM_CLR_BUSY] ++ [Field.CORE_TMEM_CLR_CAUSE, Field.CORE_ACC_MAP_MAP,
          Field.PART_STATE_LAST_CHECK, Field.PART_STATE_RESIZE_ARMED] ++ [Field.PART_STATE_STATE, Field.PART_MODE_ACK,
          Field.VFEVT_STAT_RESIZE_CANCELLED, Field.PART_JRNL_BASE_BASE] ++ [Field.PART_JRNL_BASE_LOG2,
          Field.PART_JRNL_STAT_MIRROR, Field.PART_JRNL_STAT_ENABLED, Field.PART_KEY_PUB_KEY]
          ++ [Field.PART_KEY_STAT_LOADED]) (taskParts ++ [Component.fresh]) fun t =>
        t.get .PART_STATE_STATE p = 1 ∧ (t.part p).run.task = none ∧ (t.part p).run.next = none ∧
        (t.part p).bind.waiter = some (d.queue, d.seq) ∧ (t.part p).bind.retain = d.retain ∧ (t.part p).keys.keys = [] ∧
        t.get .PART_KEY_STAT_LOADED p = 0 ∧ t.get .PART_JRNL_STAT_ENABLED p = 0)) ∧
    ∀ p : Fin 16, (s.vfs.contains p.val = true → exec (.flr p) s = .next { s with edge := s.edge ++ [.flr p.val] }) ∧
      (s.vfs.contains p.val = false → exec (.flr p) s = .next s)

/-- What changes a partition's cores at an edge (R136, R318, R319, R370, R381, R382): an armed resize takes effect or is cancelled, a remap
replaces a position by a spare and fences it, a core is fenced, released or replaced, and a clearing ends. -/
def Obligations.PositionsChangeAtAnEdge : Prop :=
  ∀ s : State,
    (∀ (p : Fin 16) (v0 : Shape), (s.part p.val).bind.armed = some v0 → s.partDue p.val = true → s.get .PART_STATE_STATE p.val = 4 →
      (s.part p.val).run.task = none → (s.part p.val).run.next = none →
      let v := s.newShape p.val v0.params
      (s.checkBind p.val v true true = none → Completes (.resizeEffect p) s (shapeFields ++ bindFields ++ bookFields
        ++ [Field.CORE_DROP_TASK, Field.CORE_TMEM_HAZ_WW, Field.CORE_TMEM_HAZ_TASK, Field.CORE_TMEM_CLR_BUSY]
          ++ [Field.CORE_TMEM_CLR_CAUSE, Field.CORE_ACC_MAP_MAP, Field.PART_STATE_LAST_CHECK, Field.PART_STATE_RESIZE_ARMED]
          ++ [Field.PART_STATE_STATE, Field.PART_PROG_STAT_STATE, Field.CORE_BIND_BOUND, Field.CORE_BIND_PART]
          ++ [Field.VFEVT_STAT_RESIZE_CANCELLED,
          Field.HBM_CLR_PENDING]) [Component.parts, Component.cores, Component.carrier, Component.book, Component.fresh] fun t =>
        t.get .PART_STATE_STATE p.val = 1 ∧ t.get .PART_STATE_RESIZE_ARMED p.val = 0 ∧ (t.part p.val).bind.armed = none ∧
        (t.part p.val).bind.shape = some v) ∧
      ∀ x, s.checkBind p.val v true true = some x → Completes (.resizeEffect p) s
        (shapeFields ++ bindFields ++ bookFields ++ [Field.CORE_DROP_TASK, Field.CORE_TMEM_HAZ_WW, Field.CORE_TMEM_HAZ_TASK,
          Field.CORE_TMEM_CLR_BUSY] ++ [Field.CORE_TMEM_CLR_CAUSE, Field.CORE_ACC_MAP_MAP, Field.PART_STATE_LAST_CHECK,
          Field.PART_STATE_RESIZE_ARMED] ++ [Field.PART_STATE_STATE, Field.PART_PROG_STAT_STATE, Field.CORE_BIND_BOUND,
          Field.CORE_BIND_PART] ++ [Field.VFEVT_STAT_RESIZE_CANCELLED,
          Field.HBM_CLR_PENDING]) [Component.parts, Component.cores, Component.carrier, Component.book, Component.fresh] fun t =>
        t.get .PART_STATE_STATE p.val = 2 ∧ t.get .PART_STATE_RESIZE_ARMED p.val = 0 ∧ (t.part p.val).bind.armed = none ∧
        (t.part p.val).bind.shape = (s.part p.val).bind.shape ∧ t.get .VFEVT_STAT_RESIZE_CANCELLED p.val = 1) ∧
    (∀ (p : Fin 16) (x : Nat × Nat × Bool) (r : List (Nat × Nat × Bool)) (v : Shape) (n : Nat),
      (s.part p.val).bind.remap = x :: r → s.partDue p.val = true →
      (x.2.2 = false ∨ ((s.part p.val).run.task = none ∧ (s.part p.val).run.next = none)) →
      (s.part p.val).bind.shape = some v → x.1 < v.lcores → s.pickSpare p.val x.2.1 = some n →
      Completes (.remap p) s (taskFields ++ bindFields ++ [Field.PART_STATE_STATE, Field.PART_PROG_STAT_STATE,
        Field.CORE_BIND_BOUND, Field.CORE_BIND_FENCED] ++ [Field.PWR_DOM_STAT_SETPOINT, Field.PART_RECOVER_REMAPS]) (taskParts
          ++ [Component.rehearsal]) fun t =>
        (t.part p.val).bind.remap = r ∧ t.get .CORE_BIND_SPARE n = 0 ∧ t.get .CORE_BIND_SLOT n = x.1 % 2 ^ Field.CORE_BIND_SLOT.width ∧
        (s.boundTo (v.positions.getD x.1 0xFF) = some p.val → t.get .CORE_BIND_FENCED (v.positions.getD x.1 0xFF) = 1) ∧
        t.get .PART_STATE_GEN p.val = (s.get .PART_STATE_GEN p.val + 1) % 2 ^ 32 ∧
        t.get .PART_RECOVER_REMAPS p.val = satW Field.PART_RECOVER_REMAPS.width (s.get .PART_RECOVER_REMAPS p.val + 1)) ∧
    (∀ (n : Fin 96) (e : Nat), (s.core n.val).clearing = some e → s.now ≤ e → e < s.nextEdge →
      Completes (.tmemClearDone n) s [Field.CORE_TMEM_CLR_BUSY, Field.CORE_TMEM_CLR_FRAME, Field.CORE_BIST_BUSY]
        [Component.clock, Component.cmds, Component.parts, Component.cores, Component.bists, Component.rehearsal] fun t =>
        (t.core n.val).clearing = none ∧ t.clock.now = e ∧ t.get .CORE_TMEM_CLR_BUSY n.val = 0 ∧
        (∀ k, k ≠ n.val → t.core k = s.core k) ∧
        ((s.bists.any fun b => b.position == n.val && b.done) = true → t.get .CORE_BIST_BUSY n.val = 0)) ∧
    (∀ (c : CmdId) (d : Cmd), s.atItsEdge c 0x606 = some d →
      let n := d.fenceP.1
      Completes (.coreFence c) s (taskFields ++ bindFields ++ [Field.PART_STATE_STATE, Field.PART_PROG_STAT_STATE,
        Field.CORE_BIND_BOUND, Field.CORE_BIND_FENCED] ++ [Field.CORE_BIND_PART, Field.PWR_DOM_STAT_SETPOINT,
          Field.PART_RECOVER_REMAPS]) (taskParts ++ [Component.rehearsal]) fun t =>
        (d.fenceP.2 = true → RetiresAt s t d s.now 0 0 ∧ t.get .CORE_BIND_FENCED n = 0) ∧
        (d.fenceP.2 = false → s.boundTo n = none → RetiresAt s t d s.now 0 0 ∧ t.get .CORE_BIND_FENCED n = 1) ∧
        ∀ p, d.fenceP.2 = false → s.boundTo n = some p →
          (s.get .CORE_BIND_SPARE n = 1 →
            RetiresAt s t d s.now 0 0 ∧ t.get .CORE_BIND_FENCED n = 1 ∧ t.get .CORE_BIND_BOUND n = 0 ∧
            ((s.part p).bind.shape.isSome = true → (t.part p).positions = (s.part p).positions.filter (· != n))) ∧
          (s.get .CORE_BIND_SPARE n ≠ 1 →
            (t.part p).bind.remap = (s.part p).bind.remap ++ [(s.get .CORE_BIND_SLOT n, 0xFF, true)] ∧
            (t.part p).bind.waiter = some (d.queue, d.seq))) ∧
    ∀ (c : CmdId) (d : Cmd) (v : Shape) (n : Nat), s.atItsEdge c 0x607 = some d →
      let p := d.remapP.1
      (s.part p).bind.shape = some v → s.pickSpare p d.remapP.2.2 = some n →
      Completes (.coreRemap c) s (taskFields ++ bindFields ++ [Field.PART_STATE_STATE, Field.PART_PROG_STAT_STATE,
        Field.CORE_BIND_BOUND, Field.CORE_BIND_FENCED] ++ [Field.PWR_DOM_STAT_SETPOINT, Field.PART_RECOVER_REMAPS]) taskParts fun t =>
        (t.part p).run.task = none ∧ t.get .CORE_BIND_SPARE n = 0 ∧
        t.get .CORE_BIND_SLOT n = d.remapP.2.1 % 2 ^ Field.CORE_BIND_SLOT.width ∧
        t.get .PART_STATE_GEN p = (s.get .PART_STATE_GEN p + 1) % 2 ^ 32 ∧ (t.part p).bind.waiter = some (d.queue, d.seq)

/-- What waits for the next edge, each with its own request (R310, R315, R339, R346, R348, R364, R405, R414, R415): program loads and clears,
key loads and erasures, inflations and deflations, a live update, the journal's switches. -/
def Obligations.RequestsWaitForTheNextEdge : Prop :=
  ∀ s : State,
    (s.booted = true →
      (∀ (p : Fin 16) (h : Fin 32) (m : List (Nat × Byte)),
        let s1 := { s with host := Mem.writeCells s.host m }
        ((s.part p.val).names h.val = false →
          exec (.progLoad p h m) s =
            .next { s1.put .PART_PROG_STAT_STATE (progIdx p.val h.val) 1 with edge := s.edge ++ [.load p.val h.val] } ∧
          exec (.progClear p h) s = .next { s with edge := s.edge ++ [.clear p.val h.val] }) ∧
        ((s.part p.val).names h.val = true →
          exec (.progLoad p h m) s = .next (s1.ignored (progCtlOffset p.val h.val)) ∧
          exec (.progClear p h) s = .next (s.ignored (progCtlOffset p.val h.val)))) ∧
      (∀ p k : Fin 16,
        exec (.keyLoad p k) s = .next { s with edge := s.edge ++ [.keyLoad p.val k.val] } ∧
        exec (.keyErase p k) s = .next { s with edge := s.edge ++ [.keyErase p.val k.val] } ∧
        exec (.keyEraseAll p) s = .next { s with edge := s.edge ++ [.keyEraseAll p.val] }) ∧
      (∀ d : Fin 250,
        (d.val < 248 → s.fusedOff d.val = false → exec (.inflate d) s = .next { s with edge := s.edge ++ [.inflate d.val] }) ∧
        ((248 ≤ d.val ∨ s.fusedOff d.val = true) → exec (.inflate d) s = .next (s.ignored (domCtlOffset d.val))) ∧
        (s.mayDeflate d.val = true → exec (.deflate d) s = .next { s with edge := s.edge ++ [.deflate d.val] }) ∧
        (s.mayDeflate d.val = false → exec (.deflate d) s = .next (s.ignored (domCtlOffset d.val)))) ∧
      exec .handover s = .next { s with edge := s.edge ++ [.handover] }) ∧
    ∀ (c : CmdId) (d : Cmd),
      (s.journalReady c 0 = some d → Completes (.journalEnable c) s journalFields [Component.host, Component.cmds, Component.recs, Component.parts, Component.edge, Component.rehearsal] fun t =>
        RetiresAt s t d (d.t0 + 1) 0 0 ∧ t.edge = s.edge ++
          [.journal d.journalPart true d.journal.log2 d.journal.arg (if d.journal.mirror then some d.journal.port else none)]) ∧
      (s.journalReady c 1 = some d → Completes (.journalDisable c) s [] [Component.cmds, Component.edge, Component.rehearsal] fun t =>
        RetiresAt s t d (d.t0 + 1) 0 0 ∧ t.edge = s.edge ++ [.journal d.journalPart false 0 0 none])

/-- BIND (R148, R311, R312, R355): a loaded program is bound on the present Core Map, READY or UNFIT; its load then ends, SERIAL advances
and PROG_READY is raised. A slot that waits for rebinding is bound again, SERIAL staying. -/
def Obligations.BindMakesSlotsReadyOrUnfit : Prop :=
  ∀ (s : State) (p : Fin 16) (h : Fin 32),
    let v := (s.part p.val).slot h.val
    let i := progIdx p.val h.val
    let b := bindPlan (s.bindCtx p.val (s.get .PART_PROG_STAT_LCORES i)) v.plan v.phases
    let bound := fun (t : State) =>
      ((t.part p.val).slot h.val).bound = b.1 ∧ ((t.part p.val).slot h.val).pending = false ∧
      t.get .PART_PROG_STAT_STATE i =
        (if b.2 = none ∧ v.peak ≤ s.get .PWR_PART_ALLOC p.val ∧ ∀ f ∈ v.forecast, f.peak ≤ 240 then 2 else 3) ∧
      (b.2 = none → t.get .PART_PROG_STAT_STATE i = 3 → ((t.part p.val).slot h.val).cause = forecastCause) ∧
      (∀ x, b.2 = some x → ((t.part p.val).slot h.val).cause = x) ∧ t.get .VFEVT_STAT_PROG_READY p.val = 1
    (v.pending = true → Completes (.bind p h) s (bookFields ++ [Field.PART_PROG_STAT_SERIAL, Field.PART_PROG_STAT_STATE,
      Field.VFEVT_STAT_PROG_READY]) [Component.parts, Component.book, Component.fresh] fun t =>
      bound t ∧ t.get .PART_PROG_STAT_SERIAL i = (s.get .PART_PROG_STAT_SERIAL i + 1) % 2 ^ 27) ∧
    (∀ r, v.pending = false → (s.part p.val).bind.rebinds = h.val :: r →
      Completes (.bind p h) s (bookFields ++ [Field.PART_PROG_STAT_SERIAL, Field.PART_PROG_STAT_STATE,
        Field.VFEVT_STAT_PROG_READY]) [Component.parts, Component.book, Component.fresh] fun t =>
        bound t ∧ t.get .PART_PROG_STAT_SERIAL i = s.get .PART_PROG_STAT_SERIAL i ∧ (t.part p.val).bind.rebinds = r) ∧
    ((s.part p.val).bind.rebinds = [] → v.pending = false → exec (.bind p h) s = .next s)

/-- Mode changes (R320 to R323, R352, R353, R355): MODE_PREPARE sets its targets' answers open; after 1,024 frames without a commit, or at
a decision with refused or open answers, the change is cancelled; decided, it takes its value on every target at one edge. -/
def Obligations.ModeChangesRunToTheirEnd : Prop :=
  ∀ s : State,
    (∀ (c : CmdId) (d : Cmd), s.ready c 0x604 = some d → Completes (.modePrepare c) s [Field.PART_MODE_MODE,
      Field.PART_MODE_CAUSE, Field.PART_MODE_ACK] [Component.cmds, Component.mode, Component.rehearsal] fun t =>
      RetiresAt s t d (d.t0 + 1) 0 0 ∧
      t.mode = some ⟨d.modeP.1, d.modeP.2.1, d.modeP.2.2.1, d.modeP.2.2.2, s.clock.frameNo, none, false⟩ ∧
      ∀ p, p < 16 → d.modeP.2.1.testBit p = true →
        t.get .PART_MODE_MODE p = d.modeP.1 % 2 ^ Field.PART_MODE_MODE.width ∧ t.get .PART_MODE_ACK p = 3 ∧ t.get .PART_MODE_CAUSE p = 0) ∧
    (∀ (c : CmdId) (d : Cmd) (m : ModeChange), s.ready c 0x605 = some d → s.mode = some m →
      exec (.modeCommit c) s =
        .next { s.setCmd { d with ran := true } with mode := some { m with commit := some (d.queue, d.seq, d.commitP.2) } }) ∧
    ∀ m : ModeChange, s.mode = some m → s.atEdge = true →
      let ended := fun (t : State) => t.mode = none ∧ ∀ p, p < 16 → m.targets.testBit p = true →
        t.get .PART_MODE_MODE p = 0 ∧ t.get .PART_MODE_ACK p = 0 ∧ (s.get .PART_STATE_STATE p = 5 → t.get .PART_STATE_STATE p = 2)
      (m.commit = none → m.frame + 1024 ≤ s.clock.frameNo →
        Completes .modePrepareExpire s (bookFields ++ [Field.PART_STATE_STATE, Field.PART_MODE_MODE, Field.PART_MODE_ACK,
          Field.VFEVT_STAT_MODE_CANCELLED]) [Component.parts, Component.mode, Component.book, Component.fresh] fun t => ended t ∧
          ∀ p, p < 16 → m.targets.testBit p = true → t.get .VFEVT_STAT_MODE_CANCELLED p = 1) ∧
      ∀ q n f, m.commit = some (q, n, f) →
        (m.decided = false → f ≤ s.reelCount + 2 → s.ackMask m (· == 2) = 0 → s.ackMask m (fun a => a != 1 && a != 2) = 0 →
          exec .modeDecision s = .next { s with mode := some { m with decided := true } }) ∧
        (∀ d, m.decided = false → f ≤ s.reelCount + 2 → s.findCmd q n = some d → d.due = none →
          (s.ackMask m (· == 2) ≠ 0 ∨ s.ackMask m (fun a => a != 1 && a != 2) ≠ 0) →
          Completes .modeDecision s (bookFields ++ [Field.PART_STATE_STATE, Field.PART_MODE_MODE, Field.PART_MODE_ACK,
          Field.VFEVT_STAT_MODE_CANCELLED]) [Component.cmds, Component.parts, Component.mode, Component.book, Component.rehearsal, Component.fresh] fun t => ended t ∧
            RetiresAt s t d s.now 0x2001 (s.ackMask m (· == 2) + s.ackMask m (fun a => a != 1 && a != 2) * 2 ^ 16) ∧
            ∀ p, p < 16 → m.targets.testBit p = true → t.get .VFEVT_STAT_MODE_CANCELLED p = 1) ∧
        ∀ d, m.decided = true → f ≤ s.reelCount → s.findCmd q n = some d → d.due = none →
          Completes .modeSwitch s (bookFields ++ [Field.TETH_CFG_NARROW_EN, Field.PART_STATE_STATE, Field.PART_MODE_MODE,
          Field.PART_MODE_ACK] ++ [Field.VFEVT_STAT_MODE_SWITCHED, Field.PWR_PART_ALLOC,
          Field.PWR_DOM_STAT_SETPOINT]) [Component.cmds, Component.parts, Component.mode, Component.book, Component.rehearsal, Component.fresh] fun t => ended t ∧ RetiresAt s t d s.now 0 0 ∧
            ∀ p, p < 16 → m.targets.testBit p = true → t.get .VFEVT_STAT_MODE_SWITCHED p = 1 ∧
              (m.mode = 1 → ∀ k ∈ (s.part p).positions,
                t.get .PWR_DOM_STAT_SETPOINT k = (m.value - 600) / 5 % 2 ^ Field.PWR_DOM_STAT_SETPOINT.width) ∧
              (m.mode = 2 → t.get .PWR_PART_ALLOC p = m.value % 2 ^ Field.PWR_PART_ALLOC.width)

/-- Self-test, fault rehearsal, MARK and TAP (R339, R341, R383, R386, R387): a BIST_RUN's result stands in its registers and its position
is cleared from the next edge on; an injected fault happens at the edge of its frame and its command retires; a MARK retires
in the cycle after it begins; a TAP keeps its digests for its retirement, 160 cycles after its last read. -/
def Obligations.ServiceCommandsComplete : Prop :=
  ∀ (s : State) (c : CmdId) (d : Cmd),
    (s.ready c 0x700 = some d → exec (.bistRun c) s =
      .next (({ s.setCmd { d with ran := true } with
        bists := s.bists ++ [⟨d.queue, d.seq, d.bistP.1, d.bistP.2, false⟩] } : State).put .CORE_BIST_BUSY d.bistP.1 1)) ∧
    (∀ (n : Fin 96) (b : Bist) (r v : Nat), (s.bists.find? fun b => b.position == n.val && !b.done) = some b →
      Completes (.bistDone n r v) s [Field.CORE_BIST_RESULT, Field.CORE_BIST_VMIN, Field.CORE_BIST_MICROCODE, Field.CORE_BIST_FRAME]
        [Component.cmds, Component.bists, Component.edge, Component.rehearsal] fun t =>
        t.get .CORE_BIST_RESULT n.val = r % 2 ^ Field.CORE_BIST_RESULT.width ∧
        t.get .CORE_BIST_FRAME n.val = s.reelCount % 2 ^ 32 ∧
        (b.tests.testBit 3 = true → r ≠ 5 → t.get .CORE_BIST_VMIN n.val = v % 2 ^ Field.CORE_BIST_VMIN.width) ∧
        ((b.tests.testBit 3 = false ∨ r = 5) → t.get .CORE_BIST_VMIN n.val = s.get .CORE_BIST_VMIN n.val) ∧
        t.edge = s.edge ++ [.core n.val 4] ∧ ∀ x ∈ t.bists, x.position = n.val → x.done = true) ∧
    (s.ready c 0x701 = some d → exec (.injectFault c) s =
      .next { s.setCmd { d with ran := true } with injects := s.injects ++
        [⟨d.queue, d.seq, d.injectP.kind, d.injectP.part, d.injectP.index, d.injectP.sub, d.injectP.frame, d.injectP.addr⟩] }) ∧
    (∀ i : Inject, (s.injects.find? fun i => i.queue == c.queue.val && i.seq == c.seq) = some i → s.atEdge = true →
      i.frame ≤ s.reelCount → s.findCmd i.queue i.seq = some d → d.due = none → d.part = none →
      (∀ x ∈ s.cmds, x.queue = d.queue → x.seq = d.seq → x = d) →
      Completes (.injectedFault c) s (taskFields ++ lostFields ++ laneFields ++ slotFields ++ [Field.STRM_FAIL_DIGEST,
        Field.TETH_STAT_DOWN_CAUSE, Field.TETH_STAT_STATE, Field.TETH_LINK_CNT_LANES_LOST] ++ [Field.TETH_EVT_DOWN,
          Field.TETH_EVT_LANE_LOST, Field.TETH_NODE_NODE, Field.CORE_BIND_BOUND] ++ [Field.CORE_BIND_FENCED,
          Field.PWR_DOM_STAT_STATE, Field.CORE_BIST_RESULT, Field.CORE_BIST_FRAME]) (taskParts
          ++ [Component.free, Component.reel, Component.fences, Component.carrier, Component.links, Component.power, Component.injects, Component.bists, Component.edge, Component.rehearsal, Component.fresh]) fun t =>
        RetiresAt (s.mark false) t d s.now 0 0 ∧
        t.injects = s.injects.filter (fun x => !(x.queue == i.queue && x.seq == i.seq)) ∧
        (i.kind = 1 → s.portTalks i.index = true → t.get .TETH_STAT_STATE i.index = 6 ∧ t.get .TETH_STAT_DOWN_CAUSE i.index = 1) ∧
        (i.kind = 2 → t.get .CORE_BIND_FENCED i.index = 1) ∧
        (i.kind = 5 → t.get .REEL_STAT_STATE 0 = 4 ∧ t.get .REEL_STAT_CAUSE 0 = 3)) ∧
    (s.journalReady c 2 = some d → Completes (.mark c) s [] [Component.cmds, Component.rehearsal] fun t => RetiresAt s t d (d.t0 + 1) 0 0) ∧
    Completes (.tap c) s (taskFields ++ slotFields ++ [Field.CORE_TMEM_ECC_CORRECTED, Field.CORE_TMEM_ECC_UNCORRECTABLE,
      Field.STRM_FAIL_DIGEST, Field.CORE_BIND_BOUND] ++ [Field.CORE_BIND_FENCED, Field.PWR_DOM_STAT_STATE]) (taskParts
        ++ [Component.clock, Component.fences, Component.power, Component.rehearsal]) (fun _ => True) ∧
    ∀ p, s.journalReady c 3 = some d → d.part = some p →
      let x0 := s.boundCycle p d.journal.phase
      x0 + d.journal.rows ≤ s.now + 1 →
      (∀ lc, lc < (s.part p).lcores → (s.lcore p lc).ecc = [] ∧ ∀ y ∈ (s.lcore p lc).past, y.cycle < x0) →
      let own := (List.range (s.part p).lcores).map fun lc => sha256 ((s.lcore p lc).read (d.journal.row * 4096) (4096 * d.journal.rows))
      Completes (.tap c) s (taskFields ++ slotFields ++ [Field.CORE_TMEM_ECC_CORRECTED, Field.CORE_TMEM_ECC_UNCORRECTABLE,
        Field.STRM_FAIL_DIGEST, Field.CORE_BIND_BOUND] ++ [Field.CORE_BIND_FENCED, Field.PWR_DOM_STAT_STATE]) (taskParts
          ++ [Component.clock, Component.fences, Component.power, Component.rehearsal]) fun t =>
        RetiresWith s t d (x0 + d.journal.rows + 159) 0 0 ∧
        (t.part p).journal.taps = (s.part p).journal.taps ++
          (sha256 own.flatten :: (if d.journal.perCore then own else [])).map fun x => (d.queue, d.seq, x)

/-- The Expert Residency Table (R168, R170, R171, R199): the window writes one half of an entry of the shadow bank, unless the bank is
being refilled or a switch is asked for; a switch exchanges the banks' roles at an edge, or is rejected; two edges later the shadow
bank holds what the committed one holds. The patrol reads on through its stack; a resident shard's check is counted. -/
def Obligations.ResidencyTableSwitchesAtAnEdge : Prop :=
  ∀ s : State,
    (∀ (e : Fin 262144) (half : Fin 2) (v : BitVec 64), s.booted = true →
      let old := Tab.get 0 s.carrier.ertShadow e.val
      let shut := fun p => s.get .PART_ERT_CTL_SYNC_BUSY p = 1 ∨ (s.part p).strm.ertSwitch.isSome = true
      ((∀ p, s.ertOwner e.val = some p → ¬shut p) → (s.carrier.shadowBy.1 = s.now → e.val ∉ s.carrier.shadowBy.2) →
        Completes (.ertWindowWrite e half v) s bookFields [Component.carrier, Component.book] fun t =>
        Tab.get 0 t.carrier.ertShadow e.val =
          (if half = 0 then old / 2 ^ 64 * 2 ^ 64 + v.toNat else old % 2 ^ 64 + v.toNat * 2 ^ 64) ∧
        (∀ k, k ≠ e.val → Tab.get 0 t.carrier.ertShadow k = Tab.get 0 s.carrier.ertShadow k) ∧
        t.carrier.ertCommitted = s.carrier.ertCommitted ∧ t.carrier.mem = s.carrier.mem) ∧
      ∀ p, s.ertOwner e.val = some p → shut p → exec (.ertWindowWrite e half v) s = .next (s.event 0xB002 p 0)) ∧
    (∀ p : Fin 16, s.booted = true → Completes (.ertSwitch p) s [] [Component.parts] fun t =>
      (t.part p.val).strm.ertSwitch = some ((s.part p.val).strm.ertSwitch.getD s.now) ∧ ∀ k, k ≠ p.val → t.part k = s.part k) ∧
    (∀ (p : Fin 16) (sh : Shape), s.atEdge = true → s.ertDue p.val = true → (s.part p.val).bind.shape = some sh →
      let ok := s.get .PART_ERT_GEN_SHADOW p.val = (s.get .PART_ERT_GEN_COMMITTED p.val + 1) % 2 ^ 32 ∧
        s.get .PART_ERT_CTL_SYNC_BUSY p.val = 0
      (ok → Completes (.ertBankSwitch p) s (journalFields ++ [Field.PART_ERT_GEN_COMMITTED, Field.PART_ERT_CTL_REJECT,
        Field.PART_ERT_CTL_SYNC_BUSY]) [Component.host, Component.recs, Component.parts, Component.carrier, Component.fresh] fun t =>
        t.get .PART_ERT_GEN_COMMITTED p.val = s.get .PART_ERT_GEN_SHADOW p.val % 2 ^ 32 ∧
        t.get .PART_ERT_CTL_SYNC_BUSY p.val = 1 ∧ (t.part p.val).strm.ertSwitch = none ∧
        (t.part p.val).strm.ertSync = some s.clock.frameNo) ∧
      (¬ok → Completes (.ertBankSwitch p) s (journalFields ++ [Field.PART_ERT_GEN_COMMITTED, Field.PART_ERT_CTL_REJECT,
        Field.PART_ERT_CTL_SYNC_BUSY]) [Component.host, Component.recs, Component.parts, Component.carrier, Component.fresh] fun t =>
        t.get .PART_ERT_CTL_REJECT p.val = 1 ∧ (t.part p.val).strm.ertSwitch = none)) ∧
    (∀ (p : Fin 16) (f : Nat), (s.part p.val).strm.ertSync = some f → s.atEdge = true → f + 2 ≤ s.clock.frameNo →
      Completes (.shadowSyncDone p) s [Field.PART_ERT_CTL_SYNC_BUSY] [Component.parts, Component.carrier] fun t =>
        t.get .PART_ERT_CTL_SYNC_BUSY p.val = 0 ∧ (t.part p.val).strm.ertSync = none ∧
        t.carrier.ertCommitted = s.carrier.ertCommitted ∧ t.carrier.mem = s.carrier.mem) ∧
    (∀ m : Fin 48, (s.get .HBM_STAT_STATE m.val = 1 ∨ s.get .HBM_STAT_STATE m.val = 2) → (s.carrier.patrol.all fun c => !inStack m.val c.1) = true →
      s.patrolTime = true → Tab.get 0 s.carrier.patrolled m.val ≠ s.periodNow / 1000 + 1 →
      let pos := s.get .HBM_SCRUB_POSITION m.val
      Completes (.patrolScrub m) s (bookFields ++ [Field.HBM_ECC_CORRECTED, Field.HBM_ECC_UNCORRECTABLE, Field.HBM_SCRUB_PASSES,
        Field.HBM_SCRUB_POSITION]) [Component.carrier, Component.book] fun t =>
        t.get .HBM_SCRUB_POSITION m.val = (if 805306368 ≤ pos + 375 ∧ pos ≤ 805306368 then 0
          else if pos ≤ 805306368 then (pos + 375) % 2 ^ Field.HBM_SCRUB_POSITION.width else pos % 2 ^ Field.HBM_SCRUB_POSITION.width) ∧
        t.carrier.mem = s.carrier.mem) ∧
    ∀ (e : Fin 262144) (k : Nat),
      let a := Tab.get 0 s.carrier.ertCommitted e.val
      let x := if ertState a = 2 then a else Tab.get 0 s.carrier.ertShadow e.val
      let at' := s.residentShard x k
      let old := Tab.get 0 s.carrier.checked at'
      let h := Mem.read s.carrier.mem (ertCaddr x + 64 * k) 64
      ertState x = 2 → k < ertShards x → s.patrolRead at' (shLen h) (old + s.checkInterval) = true →
      Completes (.residentDigestCheck e k) s (bookFields ++ [Field.STRM_SCRUB_STAT_CHECKED,
        Field.STRM_SCRUB_STAT_BAD]) [Component.carrier, Component.book] fun t =>
        t.get .STRM_SCRUB_STAT_CHECKED 0 = satW Field.STRM_SCRUB_STAT_CHECKED.width (s.get .STRM_SCRUB_STAT_CHECKED 0 + 1) ∧
        Tab.get 0 t.carrier.checked at' = s.now ∧ t.carrier.mem = s.carrier.mem ∧
        (sha256 (Mem.read s.carrier.mem at' (shLen h)) ≠ shDigest h → s.carrier.bad.contains at' = false →
          t.get .STRM_SCRUB_STAT_BAD 0 = satW Field.STRM_SCRUB_STAT_BAD.width (s.get .STRM_SCRUB_STAT_BAD 0 + 1) ∧ at' ∈ t.carrier.bad)

/-- The service of a stack and of pages (R143, R155, R203, R384, R417): drain, scrub and return move the stack's state in their order,
and are ignored and logged in another state; a finished scrub or page clearing leaves zeros there and every other byte as it was. -/
def Obligations.StacksAreServicedInOrder : Prop :=
  ∀ (s : State) (m : Fin 48),
    (s.booted = true →
      (s.get .HBM_STAT_STATE m.val = 1 → s.stackCoded m.val = false → s.stackPointed m.val = false →
        Completes (.drain m) s (bookFields ++ [Field.HBM_STAT_STATE,
          Field.HBM_SVC_DRAINED]) [Component.carrier, Component.book] fun t => t.get .HBM_STAT_STATE m.val = 2 ∧ t.get .HBM_SVC_DRAINED m.val = 0 ∧
          t.carrier.draining = s.carrier.draining ++ [(m.val, s.now)] ∧ t.carrier.mem = s.carrier.mem) ∧
      ((s.get .HBM_STAT_STATE m.val ≠ 1 ∨ s.stackCoded m.val = true ∨ s.stackPointed m.val = true) →
        exec (.drain m) s = .next (s.ignored (hbmCtlOffset m.val))) ∧
      (s.get .HBM_STAT_STATE m.val = 2 → s.get .HBM_SVC_DRAINED m.val = 1 → Completes (.scrub m) s (bookFields
        ++ [Field.HBM_STAT_STATE, Field.HBM_SVC_SCRUB_BUSY]) [Component.book] fun t =>
        t.get .HBM_STAT_STATE m.val = 3 ∧ t.get .HBM_SVC_SCRUB_BUSY m.val = 1) ∧
      ((s.get .HBM_STAT_STATE m.val ≠ 2 ∨ s.get .HBM_SVC_DRAINED m.val ≠ 1) →
        exec (.scrub m) s = .next (s.ignored (hbmCtlOffset m.val))) ∧
      (s.get .HBM_STAT_STATE m.val = 2 → Completes (.returnStack m) s (bookFields ++ [Field.HBM_STAT_STATE,
        Field.HBM_SVC_DRAINED]) [Component.carrier, Component.book] fun t =>
        t.get .HBM_STAT_STATE m.val = 1 ∧ t.get .HBM_SVC_DRAINED m.val = 0 ∧ t.carrier.mem = s.carrier.mem) ∧
      (s.get .HBM_STAT_STATE m.val ≠ 2 → exec (.returnStack m) s = .next (s.ignored (hbmCtlOffset m.val)))) ∧
    (∀ d, (s.carrier.draining.find? fun d => d.1 == m.val) = some d → s.atEdge = true → d.2 < s.now →
      (List.range 16).all (fun p => !s.olderRuns p d.2) = true →
      Completes (.drained m) s [Field.HBM_SVC_DRAINED] [Component.carrier] fun t =>
        t.get .HBM_SVC_DRAINED m.val = 1 ∧ t.carrier.mem = s.carrier.mem) ∧
    (∀ u, s.get .HBM_STAT_STATE m.val = 3 → Completes (.scrubDone m u) s (bookFields ++ [Field.HBM_STAT_STATE,
      Field.HBM_SVC_SCRUB_BUSY, Field.HBM_SVC_SCRUB_UNCORR]) [Component.carrier, Component.book] fun t =>
      t.get .HBM_STAT_STATE m.val = (if u = 0 then 2 else 4) ∧ t.get .HBM_SVC_SCRUB_BUSY m.val = 0 ∧
      t.get .HBM_SVC_SCRUB_UNCORR m.val = u % 2 ^ Field.HBM_SVC_SCRUB_UNCORR.width ∧
      ∀ a, Mem.byte t.carrier.mem a = if m.val * 2 ^ 36 ≤ a ∧ a < m.val * 2 ^ 36 + 2 ^ 36 then 0 else Mem.byte s.carrier.mem a) ∧
    (∀ i, Tab.get none s.carrier.active m.val = none → s.heldBursts < 125 →
      ((List.range 48).find? fun i => s.carrier.clearing.contains (m.val * 48 + i) && s.pageFree (m.val * 48 + i)) = some i →
      Completes (.pageClear m) s [Field.HBM_CLR_BUSY, Field.HBM_CLR_PAGE, Field.HBM_CLR_PENDING] [Component.carrier] fun t =>
        Tab.get none t.carrier.active m.val = some i ∧ t.get .HBM_CLR_BUSY m.val = 1 ∧ t.get .HBM_CLR_PAGE m.val = i ∧
        (m.val * 48 + i) ∉ t.carrier.clearing ∧ t.carrier.mem = s.carrier.mem) ∧
    (∀ i, Tab.get none s.carrier.active m.val = some i → Completes (.pageClearDone m) s [Field.HBM_CLR_BUSY] [Component.carrier] fun t =>
      Tab.get none t.carrier.active m.val = none ∧ t.get .HBM_CLR_BUSY m.val = 0 ∧
      ∀ a, Mem.byte t.carrier.mem a =
        if pageAddr (m.val * 48 + i) ≤ a ∧ a < pageAddr (m.val * 48 + i) + 2 ^ 30 then 0 else Mem.byte s.carrier.mem a) ∧
    ∀ (n : Fin 96) (lane : Fin 375) (flips : List Nat), s.linkUp n.val = true →
      Completes (.bridleUncorrectable n lane flips) s (taskFields ++ slotFields ++ linkFields) (taskParts
        ++ [Component.clock, Component.fences, Component.links, Component.rehearsal]) fun t =>
        ((∃ f ∈ flips, 2 ≤ f) →
          t.get .CORE_BRIDLE_LINK_UNCORRECTABLE n.val =
            satW Field.CORE_BRIDLE_LINK_UNCORRECTABLE.width (s.get .CORE_BRIDLE_LINK_UNCORRECTABLE n.val + 1) ∧
          lane.val ∈ (t.link n.val).retire ∧ (s.laneOwner lane.val = none → t.cmds = s.cmds ∧ t.parts = s.parts) ∧
          ∀ y, s.laneOwner lane.val = some y → s.now < s.nextEdge → (s.charge y.1 s.now).isSome = true → (t.part y.1).run.task = none) ∧
        ((∀ f ∈ flips, f < 2) → t.cmds = s.cmds ∧ t.parts = s.parts ∧
          t.get .CORE_BRIDLE_LINK_CORRECTED n.val = (if 1 ∈ flips then
            satW Field.CORE_BRIDLE_LINK_CORRECTED.width (s.get .CORE_BRIDLE_LINK_CORRECTED n.val + 1)
            else s.get .CORE_BRIDLE_LINK_CORRECTED n.val))

/-- What fails stops (R358, R359, R366, R369, R370, R374, R377, R378, R438): a failed position is fenced and unbound, its domain
deflates and its owner's task ends; a failed or overheated stack takes its state; a Gondola half that stops leaves the module to the
other, or stops it; a domain's hard limit does to what it carries what its kind says; a temperature only warns. -/
def Obligations.FailedPartsStop : Prop :=
  ∀ s : State,
    (∀ n : Fin 96,
      (s.get .CORE_BIND_FENCED n.val = 1 → (s.bists.all fun b => b.position != n.val || b.done) = true →
        exec (.positionFault n) s = .next s) ∧
      (s.get .CORE_BIND_FENCED n.val ≠ 1 → Completes (.positionFault n) s (taskFields ++ [Field.CORE_BIND_BOUND,
        Field.CORE_BIND_FENCED, Field.PWR_DOM_STAT_STATE, Field.CORE_BIST_RESULT] ++ [Field.CORE_BIST_FRAME]) (taskParts
          ++ [Component.free, Component.power, Component.bists, Component.edge, Component.rehearsal]) fun t =>
        t.get .CORE_BIND_FENCED n.val = 1 ∧
        (s.active n.val = true → t.get .PWR_DOM_STAT_STATE n.val = 3) ∧
        (s.boundTo n.val = none → t.cmds = s.cmds ∧ t.parts = s.parts) ∧
        ∀ p, s.boundTo n.val = some p → t.get .CORE_BIND_BOUND n.val = 0 ∧
          ((s.charge p s.now).isSome = true → (t.part p).run.task = none) ∧
          (s.get .CORE_BIND_SPARE n.val = 0 → s.get .PART_RECOVER_AUTO_REMAP p = 1 → s.freeSpares p ≠ [] →
            (s.get .CORE_BIND_SLOT n.val, 0xFF, false) ∈ (t.part p).bind.remap))) ∧
    (∀ m : Fin 48, s.get .HBM_STAT_STATE m.val ≠ 4 →
      exec (.hbmStackFail m) s = .next ((s.put .HBM_STAT_STATE m.val 4).event 0x9004 m.val 0) ∧
      exec (.hbmOvertemp m) s = .next ((s.put .HBM_STAT_STATE m.val 4).event 0x9004 m.val 0)) ∧
    (∀ g : Fin 2, s.drives g.val = true → Completes (.gondolaHalfStop g) s (taskFields ++ [Field.PWR_DOM_STAT_STATE,
      Field.GCTL_FW_STAT_GE_STATE, Field.GCTL_FW_STAT_GW_STATE, Field.GCTL_STAT_STOPPED]) (taskParts
        ++ [Component.power, Component.gondola]) fun t =>
      t.halfState g.val = 4 ∧
      (s.drives (1 - g.val) = true → t.get .GCTL_STAT_STOPPED 0 = s.get .GCTL_STAT_STOPPED 0 ∧ t.cmds = s.cmds ∧ t.parts = s.parts ∧
        t.power = s.power ∧ ∀ d, t.get .PWR_DOM_STAT_STATE d = s.get .PWR_DOM_STAT_STATE d) ∧
      (s.drives (1 - g.val) = false → t.get .GCTL_STAT_STOPPED 0 = 1 ∧ ∀ p, p < 16 → (t.part p).run.task = none)) ∧
    (s.gondola.takeover = true → s.drives (1 - s.gondola.firmware) = true →
      Completes .firmwareTakeover s [Field.GCTL_FW_STAT_GE_STATE, Field.GCTL_FW_STAT_GW_STATE] [Component.cmds, Component.gondola] fun t =>
        t.halfState (1 - s.gondola.firmware) = 2 ∧ t.gondola.firmware = 1 - s.gondola.firmware ∧ t.gondola.takeover = false ∧
        t.cmds = s.cmds.map fun c => if c.part = none ∧ c.ran = false ∧ c.due = none then { c with began := none } else c) ∧
    (∀ d : Fin 250, s.active d.val = true → s.get .PWR_DOM_STAT_STATE d.val ≠ 3 →
      Completes (.hardLimitTrip d) s (taskFields ++ [Field.HBM_STAT_STATE, Field.TETH_STAT_DOWN_CAUSE, Field.TETH_STAT_STATE,
        Field.TETH_EVT_DOWN] ++ [Field.TETH_NODE_NODE, Field.CORE_BIND_BOUND, Field.CORE_BIND_FENCED, Field.PWR_DOM_STAT_GROUP_LOST]
          ++ [Field.PWR_DOM_STAT_CAUSE, Field.PWR_DOM_STAT_STATE, Field.CORE_BIST_RESULT, Field.CORE_BIST_FRAME]
          ++ [Field.GCTL_FW_STAT_GE_STATE, Field.GCTL_FW_STAT_GW_STATE, Field.GCTL_STAT_STOPPED]) (taskParts
          ++ [Component.free, Component.power, Component.bists, Component.gondola, Component.edge, Component.rehearsal, Component.fresh]) fun t =>
        t.get .PWR_DOM_STAT_CAUSE d.val = 2 ∧
        ((d.val < 96 ∨ 120 ≤ d.val) → t.get .PWR_DOM_STAT_STATE d.val = 3) ∧
        (∀ n : Fin 96, n.val = d.val → t.get .CORE_BIND_FENCED n.val = 1) ∧
        (96 ≤ d.val → d.val < 120 → t.get .PWR_DOM_STAT_GROUP_LOST d.val = 1 ∧
          ((s.domain d.val).groupsLost = 0 → t.get .PWR_DOM_STAT_STATE d.val = s.get .PWR_DOM_STAT_STATE d.val) ∧
          (1 ≤ (s.domain d.val).groupsLost → t.get .GCTL_STAT_STOPPED 0 = 1)) ∧
        (∀ m, d.val = 120 + m → m < 48 → t.get .HBM_STAT_STATE m = 4) ∧
        (∀ n, d.val = 168 + n → n < 64 → s.get .TETH_STAT_STATE n ≠ 0 → t.get .TETH_STAT_STATE n = 6 ∧ t.get .TETH_STAT_DOWN_CAUSE n = 4) ∧
        ∀ g, d.val = 248 + g → s.drives g = true → t.halfState g = 4) ∧
    ∀ inlet flow : Nat, Completes (.thermalWarning inlet flow) s [] [Component.power, Component.out] fun t =>
      t.out = if 400 < inlet ∨ flow < 300 then s.out ++ [.pldmEvent 1] else s.out

/-- Power (R343 to R349, R360 to R364): an inflation starts with the lowest waiting domain and goes through four stages, each under
its limit; a deflation ends off, or FAILED; a droop's quotient enters the median; a clock step shortens the frame and ends after four
quiet frames; an orderly shutdown ends every task; bricks come, fail and go. -/
def Obligations.PowerRunsByItsStates : Prop :=
  ∀ s : State,
    (∀ d : Fin 250, s.booted = true →
      (d.val < 248 → Completes (.vminRearm d) s (bookFields ++ [Field.PWR_DOM_VMIN_FRAME, Field.PWR_DOM_VMIN_CYCLE,
        Field.PWR_DOM_VMIN_LOCKED, Field.PWR_DOM_VMIN_MIN]) [Component.book] fun t =>
        t.getA .PWR_DOM_VMIN_MIN d.val = 0xFFF ∧ t.getA .PWR_DOM_VMIN_FRAME d.val = 0 ∧ t.getA .PWR_DOM_VMIN_CYCLE d.val = 0 ∧
        t.getA .PWR_DOM_VMIN_LOCKED d.val = 0 ∧ t.book = s.book) ∧
      (248 ≤ d.val → exec (.vminRearm d) s = .next (s.ignored (domCtlOffset d.val)))) ∧
    (∀ d, ((List.range 250).filter fun d => (s.domain d).stage != 0).length < 8 →
      ((List.range 250).find? fun d => (s.domain d).waiting) = some d →
      Completes .inflationStart s [Field.PWR_STAT_FAILED_DOMAINS, Field.PWR_DOM_STAT_STATE] [Component.power] fun t =>
        t.get .PWR_DOM_STAT_STATE d = 1 ∧ (t.domain d).stage = 1 ∧ (t.domain d).waiting = false ∧ (t.domain d).failed = false ∧
        ∀ k, k ≠ d → t.domain k = s.domain k) ∧
    (∀ (d : Fin 250) (current : Nat), (s.domain d.val).stage ≠ 0 →
      let x := s.domain d.val
      (stageLimit x.stage < current → Completes (.inflationStage d current) s (bookFields ++ [Field.HBM_STAT_STATE,
        Field.TETH_STAT_STATE, Field.TETH_LINK_CNT_RETRAINS, Field.TETH_NODE_NODE] ++ [Field.PWR_STAT_FAILED_DOMAINS,
          Field.PWR_DOM_STAT_STAGE_FAILS, Field.PWR_DOM_STAT_CAUSE,
          Field.PWR_DOM_STAT_STATE]) [Component.ports, Component.power, Component.book, Component.edge] fun t =>
        t.get .PWR_DOM_STAT_STATE d.val = 5 ∧ t.get .PWR_DOM_STAT_CAUSE d.val = 1 ∧ (t.domain d.val).stage = 0 ∧
        t.get .PWR_DOM_STAT_STAGE_FAILS d.val = satW Field.PWR_DOM_STAT_STAGE_FAILS.width (s.get .PWR_DOM_STAT_STAGE_FAILS d.val + 1)) ∧
      (current ≤ stageLimit x.stage → x.stage < 4 → exec (.inflationStage d current) s =
        .next (s.setDomain d.val { x with stage := x.stage + 1 })) ∧
      (current ≤ stageLimit x.stage → 4 ≤ x.stage → Completes (.inflationStage d current) s (bookFields ++ [Field.HBM_STAT_STATE,
        Field.TETH_STAT_STATE, Field.TETH_LINK_CNT_RETRAINS, Field.TETH_NODE_NODE] ++ [Field.PWR_STAT_FAILED_DOMAINS,
          Field.PWR_DOM_STAT_STAGE_FAILS, Field.PWR_DOM_STAT_CAUSE,
          Field.PWR_DOM_STAT_STATE]) [Component.ports, Component.power, Component.book, Component.edge] fun t =>
        t.get .PWR_DOM_STAT_STATE d.val = 2 ∧ (t.domain d.val).stage = 0 ∧
        (d.val < 96 → t.edge = s.edge ++ [.core d.val 3]) ∧
        (∀ m, d.val = 120 + m → m < 48 → s.get .HBM_STAT_STATE m ≠ 4 → t.get .HBM_STAT_STATE m = 1) ∧
        ∀ n, d.val = 168 + n → n < 64 → s.get .TETH_STAT_STATE n = 0 → (t.get .TETH_STAT_STATE n = 1 ∨ t.get .TETH_STAT_STATE n = 2))) ∧
    (∀ d : Fin 250, s.get .PWR_DOM_STAT_STATE d.val = 3 → Completes (.deflationDone d) s (bookFields ++ [Field.HBM_STAT_STATE,
      Field.TETH_STAT_STATE, Field.TETH_EVT_LASER, Field.TETH_NODE_NODE] ++ [Field.TETH_LASER_STATE,
        Field.PWR_STAT_FAILED_DOMAINS, Field.PWR_DOM_STAT_STATE, Field.GCTL_FW_STAT_GE_STATE]
          ++ [Field.GCTL_FW_STAT_GW_STATE]) [Component.ports, Component.power, Component.book, Component.fresh] fun t =>
      t.get .PWR_DOM_STAT_STATE d.val = (if (s.domain d.val).failed then 5 else 0) ∧
      (∀ m, d.val = 120 + m → m < 48 → t.get .HBM_STAT_STATE m = if s.get .HBM_STAT_STATE m = 4 then 4 else 0) ∧
      ∀ n, d.val = 168 + n → n < 64 → t.get .TETH_STAT_STATE n = 0) ∧
    (∀ (d : Fin 250) (rise quotient : Nat), hasRegulator d.val = true → 500 < rise →
      (s.get .PWR_DOM_STAT_STATE d.val = 2 ∨ s.get .PWR_DOM_STAT_STATE d.val = 4) →
      let q := ((s.domain d.val).quotients ++ [quotient]).drop ((s.domain d.val).quotients.length - 15)
      let m := min (median q) 0xFFFF
      let b := s.getA .PWR_DOM_DROOP_BASELINE d.val
      Completes (.droopStep d rise quotient) s (bookFields ++ [Field.PWR_STAT_SUSPECT, Field.PWR_DOM_STAT_STATE,
        Field.PWR_DOM_DROOP_MEDIAN, Field.PWR_DOM_DROOP_STEPS]) [Component.power, Component.book, Component.edge, Component.fresh] fun t =>
        t.get .PWR_DOM_DROOP_STEPS d.val = satW Field.PWR_DOM_DROOP_STEPS.width (s.get .PWR_DOM_DROOP_STEPS d.val + 1) ∧
        t.get .PWR_DOM_DROOP_MEDIAN d.val = m ∧ (t.domain d.val).quotients = q ∧
        t.get .PWR_DOM_STAT_STATE d.val =
          (if b * s.get .PWR_CFG_DROOP_WARN 0 < 100 * m then 4 else s.get .PWR_DOM_STAT_STATE d.val) ∧
        t.edge = if b * s.get .PWR_CFG_DROOP_FAIL 0 < 100 * m then s.edge ++ [.trip d.val 3] else s.edge) ∧
    (∀ cause, 1 ≤ cause → cause ≤ 3 → s.get .GCTL_STAT_STOPPED 0 = 0 →
      (∀ x, s.power.step = some x → Completes (.emergencyClockStep cause) s [Field.PWR_STAT_STEPPING, Field.PWR_STEP_FRAME,
        Field.PWR_STEP_COUNT, Field.PWR_STEP_CAUSE] [Component.clock, Component.parts, Component.power] fun t =>
        t.get .PWR_STEP_CAUSE 0 = cause ∧ t.power = { s.power with step := some { x with trigger := true } }) ∧
      (s.power.step = none → Completes (.emergencyClockStep cause) s [Field.PWR_STAT_STEPPING, Field.PWR_STEP_FRAME,
        Field.PWR_STEP_COUNT, Field.PWR_STEP_CAUSE] [Component.clock, Component.parts, Component.power] fun t =>
        t.get .PWR_STEP_CAUSE 0 = cause ∧ t.get .PWR_STAT_STEPPING 0 = 1 ∧
        t.get .PWR_STEP_COUNT 0 = (s.get .PWR_STEP_COUNT 0 + 1) % 2 ^ Field.PWR_STEP_COUNT.width ∧
        t.clock = { s.clock with frameLen := max (s.cycle + 1) (s.cycle + (s.clock.frameLen - s.cycle) * 3 / 4) } ∧
        t.power = { s.power with step := some ⟨0, true, 1, 0, s.now⟩ })) ∧
    (∀ x, s.power.step = some x → x.quiet = 4 → s.atEdge = true → Completes .clockStepEnd s (bookFields ++ journalFields
      ++ [Field.PWR_STAT_STEPPING]) [Component.host, Component.recs, Component.parts, Component.power, Component.book] fun t =>
      t.get .PWR_STAT_STEPPING 0 = 0 ∧ t.power = { s.power with step := none } ∧
      ((∀ p, s.get .PART_JRNL_STAT_ENABLED p ≠ 1) → t.host = s.host)) ∧
    (s.power.shutdown = false → Completes .orderlyShutdown s (taskFields ++ [Field.PWR_STAT_PHASE,
      Field.PWR_DOM_STAT_STATE]) (taskParts ++ [Component.power]) fun t =>
      t.get .PWR_STAT_PHASE 0 = 3 ∧ t.power.shutdown = true ∧ ∀ p, p < 16 → (t.part p).run.task = none) ∧
    ∀ b : Fin 18,
      let counted := fun (t : State) => t.get .PWR_STAT_BRICKS_OK 0 = ((List.range 18).filter fun k => t.get .PWR_BRICK_STATE k == 1).length
      (s.get .PWR_BRICK_STATE b.val = 1 → Completes (.brickFail b) s (bookFields ++ [Field.PWR_STAT_BRICKS_OK,
        Field.PWR_BRICK_STATE]) [Component.book] fun t =>
        t.get .PWR_BRICK_STATE b.val = 2 ∧ counted t) ∧
      (∀ (ident : Bytes) (ok : Bool) (watts temp : Nat), s.get .PWR_BRICK_STATE b.val = 0 →
        Completes (.brickInsert b ident ok watts temp) s (bookFields ++ [Field.PWR_STAT_BRICKS_OK, Field.PWR_BRICK_OUT_W,
          Field.PWR_BRICK_TEMP, Field.PWR_BRICK_STATE] ++ [Field.FRU_STAT_BRICK_VALID,
          Field.FRU_STAT_GEN]) [Component.fru, Component.book] fun t =>
          t.get .PWR_BRICK_STATE b.val = (if ok then 1 else 3) ∧ counted t ∧
          t.getA .PWR_BRICK_OUT_W b.val = watts % 2 ^ Field.PWR_BRICK_OUT_W.width ∧
          t.getA .PWR_BRICK_TEMP b.val = temp % 2 ^ Field.PWR_BRICK_TEMP.width ∧
          Mem.read t.fru (0x800 + 0x20 * b.val) 32 = if ok then fitBytes 32 ident else List.replicate 32 0) ∧
      (s.get .PWR_BRICK_STATE b.val ≠ 0 → Completes (.brickRemove b) s ([Field.PWR_STAT_BRICKS_OK, Field.PWR_BRICK_OUT_W,
        Field.PWR_BRICK_STATE, Field.FRU_STAT_BRICK_VALID] ++ [Field.FRU_STAT_GEN]) [Component.fru] fun t =>
        t.get .PWR_BRICK_STATE b.val = 0 ∧ counted t ∧ t.getA .PWR_BRICK_OUT_W b.val = 0 ∧
        Mem.read t.fru (0x800 + 0x20 * b.val) 32 = List.replicate 32 0)

/-- Class 0 messages and lanes of a tether port (R244, R250, R251, R253 to R258, R261, R262): a message heard for the first time has
its effect and one heard before is only acknowledged; lost lanes are substituted, or the direction narrows, or the port goes DOWN;
too many uncorrectable codewords stop the port; training makes it UP at an edge. -/
def Obligations.TetherPortsKeepTheirLanes : Prop :=
  ∀ (s : State) (n : Fin 64) (m : Msg),
    let x := s.port n.val
    (∀ c : Instr, (c = .assign n m ∧ m.type = 2 ∨ c = .ack n m ∧ m.type = 3 ∨ c = .laneFail n m ∧ m.type = 4 ∨
        c = .laneSwitch n m ∧ m.type = 5 ∨ c = .narrow n m ∧ m.type = 6 ∨ c = .retrainReq n m ∧ m.type = 7) →
      s.portHears n.val = true → x.seen.contains m.seq = true → Completes c s [] [Component.ports] fun t =>
        t.port n.val = if m.type = 3 then x else { x with acks := x.acks ++ [m.seq] }) ∧
    (∀ w : WslFrame, (s.slotOpen n.val = true ∨ s.get .TETH_STAT_STATE n.val = 5) → Completes (.wslFrame n w) s (bookFields
      ++ frameFields ++ [Field.TETH_UNCORR_SINCE_TRAIN]) [Component.ports, Component.book] fun t =>
      let wrong := s.wrongAt n.val w
      let fixed := (wrong.filter fun y => !y.isEmpty && decodes y).length
      let bad := (wrong.filter fun y => !decodes y).length
      let data := 2 ≤ w.cls ∧ w.cls ≤ 4
      let lost := x.rx.lossy = true ∧ w.short = false ∧ (data ∨ bad ≠ 0)
      (fixed ≠ 0 → t.get .TETH_FEC_CORRECTED n.val =
        satW Field.TETH_FEC_CORRECTED.width (s.get .TETH_FEC_CORRECTED n.val + fixed)) ∧
      (bad ≠ 0 → t.get .TETH_FEC_UNCORR_TOTAL n.val =
        satW Field.TETH_FEC_UNCORR_TOTAL.width (s.get .TETH_FEC_UNCORR_TOTAL n.val + bad)) ∧
      (s.slotOpen n.val = true → lost → t.get .TETH_UNCORR_DISCARD_NARROW n.val =
          satW Field.TETH_UNCORR_DISCARD_NARROW.width (s.get .TETH_UNCORR_DISCARD_NARROW n.val + 1) ∧ (t.port n.val).rx = x.rx) ∧
      (s.slotOpen n.val = true → ¬lost →
        (bad ≠ 0 → t.get .TETH_UNCORR_SINCE_TRAIN n.val =
          satW Field.TETH_UNCORR_SINCE_TRAIN.width (s.get .TETH_UNCORR_SINCE_TRAIN n.val + bad)) ∧
        (s.linkOk n.val w = false → (t.port n.val).rx = x.rx) ∧
        (s.linkOk n.val w = true → data → (t.port n.val).rx.seq = (w.seq + 1) % 2 ^ 32))) ∧
    (Heard s n.val m 2 →
      let node := u32 m.body 0
      let mine := s.get .TETH_NODE_NODE n.val
      ((mine = 0 ∨ mine = node) → Completes (.assign n m) s (bookFields ++ [Field.TETH_STAT_DOWN_CAUSE, Field.TETH_STAT_STATE,
        Field.TETH_EVT_ADDR_MISMATCH, Field.TETH_EVT_DOWN] ++ [Field.TETH_NODE_PEER,
          Field.TETH_NODE_NODE]) [Component.ports, Component.book, Component.fresh] fun t =>
        t.get .TETH_NODE_PEER n.val = u32 m.body 4 % 2 ^ 32 ∧ (t.port n.val).assigned = true ∧
        ∀ k, k < 64 → t.get .TETH_NODE_NODE k = node % 2 ^ 32) ∧
      (mine ≠ 0 → mine ≠ node → Completes (.assign n m) s (bookFields ++ [Field.TETH_STAT_DOWN_CAUSE, Field.TETH_STAT_STATE,
        Field.TETH_EVT_ADDR_MISMATCH, Field.TETH_EVT_DOWN] ++ [Field.TETH_NODE_PEER,
          Field.TETH_NODE_NODE]) [Component.ports, Component.book, Component.fresh] fun t =>
        t.get .TETH_STAT_STATE n.val = 6 ∧ t.get .TETH_STAT_DOWN_CAUSE n.val = 3 ∧ t.get .TETH_EVT_ADDR_MISMATCH n.val = 1)) ∧
    (Heard s n.val m 3 → Completes (.ack n m) s [] [Component.ports] fun t =>
      (t.port n.val).sent = x.sent.filter (fun u => u.msg.seq != u32 m.body 0) ∧
      (t.port n.val).queue = x.queue.filter fun u => !(u.resend && u.seq == u32 m.body 0)) ∧
    (∀ u, s.slotOpen n.val = true → x.overdue s.clock.frameNo = some u →
      Completes (.messageResend n) s (bookFields ++ [Field.TETH_STAT_STATE, Field.TETH_LINK_CNT_RETRAINS,
        Field.TETH_NODE_NODE]) [Component.ports, Component.book] fun t =>
        (u.resends < 3 → t.port n.val = { x with queue := { u.msg with resend := true } :: x.queue }) ∧
        (3 ≤ u.resends → t.get .TETH_STAT_STATE n.val = 2)) ∧
    (∀ (l : Fin 17) (signal : Bool), s.portTalks n.val = true →
      let old := x.rx.lanes.getD l.val 4
      ((3 ≤ old ∨ (signal = false ∧ Tab.get 0 x.laneErrs l.val ≤ 16 * s.get .TETH_CFG_LANE_ERR_LIMIT n.val)) →
        exec (.laneLost n l signal) s = .next s) ∧
      (old < 3 → (signal = true ∨ 16 * s.get .TETH_CFG_LANE_ERR_LIMIT n.val < Tab.get 0 x.laneErrs l.val) →
        Completes (.laneLost n l signal) s (laneFields ++ bookFields ++ [Field.TETH_STAT_DOWN_CAUSE, Field.TETH_STAT_STATE,
          Field.TETH_LINK_CNT_LANES_LOST, Field.TETH_EVT_DOWN] ++ [Field.TETH_EVT_LANE_LOST,
          Field.TETH_NODE_NODE]) [Component.ports, Component.book, Component.fresh] fun t =>
        t.get .TETH_LINK_CNT_LANES_LOST n.val =
          satW Field.TETH_LINK_CNT_LANES_LOST.width (s.get .TETH_LINK_CNT_LANES_LOST n.val + 1) ∧
        t.get .TETH_EVT_LANE_LOST n.val = 1 ∧
        (t.port n.val).rx.lanes = x.rx.lanes.set l.val
          (if old = 1 ∧ x.rx.lanes.getD 16 4 = 2 ∧ x.rx.lanes.contains 3 = false ∧ s.width8 n.val .rx = false then 3 else 4))) ∧
    (Heard s n.val m 4 → u8 m.body 0 < 16 → x.tx.lanes.getD 16 4 = 2 → Completes (.laneFail n m) s laneFields [Component.ports] fun t =>
      (t.port n.val).tx.lanes = x.tx.lanes.set (u8 m.body 0) 3 ∧
      (t.port n.val).tx.substitute = some (u8 m.body 0, s.reelCount + 3) ∧
      (t.port n.val).queue = x.queue ++
        [⟨5, false, n.val, x.msgSeq % 2 ^ 32, fitBytes 56 (natLE 8 (u8 m.body 0) ++ natLE 8 (s.reelCount + 3))⟩]) ∧
    (Heard s n.val m 5 → Completes (.laneSwitch n m) s [] [Component.ports] fun t =>
      (t.port n.val).rx.substitute = some (u8 m.body 0, u64 m.body 8)) ∧
    (∀ (d : Dir) (l f : Nat), (x.dir d).substitute = some (l, f) → f ≤ s.reelCount → s.portTalks n.val = true →
      Completes (.substitution n d) s (laneFields ++ bookFields ++ [Field.TETH_LINK_CNT_SUBSTITUTIONS,
        Field.TETH_EVT_SUBSTITUTED]) [Component.ports, Component.book, Component.fresh] fun t =>
        ((t.port n.val).dir d).lanes = ((x.dir d).lanes.set 16 1).set l 4 ∧ ((t.port n.val).dir d).substitute = none ∧
        t.subst n.val d = l % 32 ∧ t.get .TETH_EVT_SUBSTITUTED n.val = 1 ∧
        t.get .TETH_LINK_CNT_SUBSTITUTIONS n.val =
          satW Field.TETH_LINK_CNT_SUBSTITUTIONS.width (s.get .TETH_LINK_CNT_SUBSTITUTIONS n.val + 1)) ∧
    (Heard s n.val m 6 → Completes (.narrow n m) s [] [Component.ports] fun t =>
      (t.port n.val).tx.narrow = some (bits (u32 m.body 0) 16 0, u64 m.body 8, u32 m.body 4)) ∧
    (∀ (d : Dir) (mask f q : Nat), (x.dir d).narrow = some (mask, f, q) → f ≤ s.reelCount → s.portTalks n.val = true →
      Completes (.narrowSwitch n d) s (laneFields ++ bookFields ++ [Field.TETH_LINK_CNT_NARROWINGS,
        Field.TETH_EVT_NARROWED]) [Component.ports, Component.book, Component.out, Component.fresh] fun t =>
        ((t.port n.val).dir d).lanes = narrowLanes (x.dir d) mask ∧ ((t.port n.val).dir d).narrow = none ∧
        ((t.port n.val).dir d).lossy = false ∧ t.width8 n.val d = true ∧ t.subst n.val d = 0x1F ∧ t.get .TETH_EVT_NARROWED n.val = 1 ∧
        ((d = .rx ∨ s.dataFlows n.val = false) → t.out = s.out) ∧
        (d = .tx → s.dataFlows n.val = true → t.out = s.out ++ (x.store.filter fun k =>
            decide (s.now ≤ k.1 + 102400) && decide ((k.2.seq + 2 ^ 32 - q) % 2 ^ 32 < 2 ^ 31)).map fun k =>
          .frame n.val k.2 (lanesOf mask) false)) ∧
    (s.portUp n.val = true → s.get .TETH_CFG_UNCORR_LIMIT n.val ≠ 0 →
      s.get .TETH_CFG_UNCORR_LIMIT n.val ≤ s.get .TETH_UNCORR_SINCE_TRAIN n.val →
      Completes (.uncorrLimit n) s (bookFields ++ [Field.TETH_STAT_STATE, Field.TETH_EVT_STOPPED,
        Field.TETH_NODE_NODE]) [Component.ports, Component.book, Component.fresh] fun t =>
        t.get .TETH_STAT_STATE n.val = 4 ∧ t.get .TETH_EVT_STOPPED n.val = 1 ∧
        (t.port n.val).retrain = some (s.now + 3200, (x.queue.filter fun u => !u.resend).map Msg.seq) ∧
        (t.port n.val).queue = x.queue ++ [⟨7, false, n.val, x.msgSeq % 2 ^ 32, fitBytes 56 (natLE 1 0)⟩]) ∧
    (Heard s n.val m 7 → s.portTalks n.val = true → Completes (.retrainReq n m) s (bookFields ++ [Field.TETH_STAT_STATE,
      Field.TETH_LINK_CNT_RETRAINS, Field.TETH_NODE_NODE]) [Component.ports, Component.book] fun t =>
      t.get .TETH_STAT_STATE n.val = 2 ∧ (t.port n.val).trained = false ∧ (t.port n.val).assigned = false ∧ (t.port n.val).attempts = 0) ∧
    (∀ rx tx : BitVec 17,
      (s.get .TETH_STAT_STATE n.val = 2 → Completes (.training n rx tx) s (laneFields ++ bookFields
        ++ [Field.TETH_STAT_DOWN_CAUSE, Field.TETH_STAT_STATE, Field.TETH_LINK_CNT_RETRAINS, Field.TETH_EVT_DOWN]
          ++ [Field.TETH_NODE_NODE]) [Component.ports, Component.book, Component.fresh] fun t =>
        (t.port n.val).rx = { (trainedDir rx.toNat x.rx).1 with seq := 0 } ∧
        (t.port n.val).tx = { (trainedDir tx.toNat x.tx).1 with seq := 0 } ∧
        (8 ≤ ((List.range 17).filter rx.toNat.testBit).length → 8 ≤ ((List.range 17).filter tx.toNat.testBit).length →
          (t.port n.val).trained = true ∧ t.get .TETH_STAT_STATE n.val = 2 ∧
          (t.port n.val).queue = (x.queue.filter fun u => !trainingMsg u && !u.resend) ++
            [⟨1, false, n.val, x.msgSeq % 2 ^ 32, fitBytes 56 (natLE 6 (s.get .ID_IDENTITY_PID 0) ++ natLE 1 n.val ++ [0xA2])⟩,
             ⟨0x0A, false, n.val, (x.msgSeq + 1) % 2 ^ 32, fitBytes 56 (natLE 8 (625 * s.now))⟩]) ∧
        ((((List.range 17).filter rx.toNat.testBit).length < 8 ∨ ((List.range 17).filter tx.toNat.testBit).length < 8) →
          t.get .TETH_STAT_STATE n.val = 6 ∧ t.get .TETH_STAT_DOWN_CAUSE n.val = 1 ∧ t.out = s.out)) ∧
      (s.get .TETH_STAT_STATE n.val = 4 → (s.retrainDue n.val).get .TETH_STAT_STATE n.val = 2 →
        exec (.training n rx tx) s = exec (.training n rx tx) (s.retrainDue n.val))) ∧
    (∀ arrival, s.atEdge = true → s.get .TETH_STAT_STATE n.val = 2 → x.trained = true → x.assigned = true → Heard s n.val m 0x0B →
      Completes (.trainingDone n m arrival) s (bookFields ++ [Field.TETH_STAT_STATE, Field.TETH_UNCORR_SINCE_TRAIN,
        Field.TETH_EVT_RETRAINED, Field.TETH_NODE_NODE]
          ++ [Field.TETH_DELAY_DELAY]) [Component.ports, Component.book, Component.fresh] fun t =>
        t.get .TETH_STAT_STATE n.val = 3 ∧ t.get .TETH_DELAY_DELAY n.val = (arrival - u64 m.body 0 - u32 m.body 8) / 2 % 2 ^ 32 ∧
        t.get .TETH_UNCORR_SINCE_TRAIN n.val = 0 ∧ t.get .TETH_EVT_RETRAINED n.val = 1) ∧
    (s.get .TETH_STAT_STATE n.val = 2 →
      (x.attempts + 1 < 3 → exec (.trainingTimeout n) s =
        .next (s.modPort n.val fun x => { x.untrained with attempts := x.attempts + 1 })) ∧
      (3 ≤ x.attempts + 1 → Completes (.trainingTimeout n) s (bookFields ++ [Field.TETH_STAT_DOWN_CAUSE, Field.TETH_STAT_STATE,
        Field.TETH_EVT_DOWN, Field.TETH_NODE_NODE]) [Component.ports, Component.book, Component.fresh] fun t =>
        t.get .TETH_STAT_STATE n.val = 6 ∧ t.get .TETH_STAT_DOWN_CAUSE n.val = 2))

/-- Port control and laser modules (R252, R263 to R266): a port action waits for the next edge where the port's state allows it, and
is ignored and logged elsewhere; a laser module is checked when it is inserted, and its four ports follow its state. -/
def Obligations.PortsFollowControlsAndLasers : Prop :=
  ∀ (s : State),
    (∀ n : Fin 64, s.booted = true →
      let st := s.get .TETH_STAT_STATE n.val
      (∀ (c : Instr) (a : Nat), ((c = .online n ∧ a = 1 ∧ (st = 1 ∨ st = 5 ∨ st = 6)) ∨ (c = .loopback n ∧ a = 2 ∧ st = 1) ∨
          (c = .offline n ∧ a = 3 ∧ st ≠ 0) ∨ (c = .retrain n ∧ a = 4 ∧ (st = 3 ∨ st = 4))) →
        exec c s = .next (s.modPort n.val fun x => { x with action := x.action ++ [a] })) ∧
      (∀ c : Instr, ((c = .online n ∧ st ≠ 1 ∧ st ≠ 5 ∧ st ≠ 6) ∨ (c = .loopback n ∧ st ≠ 1) ∨
          (c = .offline n ∧ st = 0) ∨ (c = .retrain n ∧ st ≠ 3 ∧ st ≠ 4)) →
        exec c s = .next (s.ignored (tethCtlOffset n.val))) ∧
      Completes (.portEnable n) s (bookFields ++ [Field.TETH_CFG_ENABLE, Field.TETH_STAT_STATE, Field.TETH_LINK_CNT_RETRAINS,
        Field.TETH_NODE_NODE]) [Component.ports, Component.book] fun t =>
        t.get .TETH_CFG_ENABLE n.val = 1 ∧
        t.get .TETH_STAT_STATE n.val =
          if st = 1 ∧ s.laserState (laserOf n.val) = 4 ∧ s.get .GCTL_FW_STAT_UNREADABLE 0 = 0 then 2 else st) ∧
    ∀ e : Fin 16,
      (∀ (lower page : Bytes) (typeOk : Bool) (part : Bytes) (watts : Nat), (s.laser e.val).present = false →
        let ok := typeOk && s.laserParts.contains (fitBytes 16 part) && decide (watts ≤ 36)
        Completes (.laserInsert e lower page typeOk part watts) s (bookFields ++ [Field.TETH_EVT_LASER,
          Field.TETH_LASER_INSERTIONS, Field.TETH_LASER_STATE, Field.PWR_DOM_STAT_STATE] ++ [Field.FRU_STAT_LASER_VALID,
          Field.FRU_STAT_GEN]) [Component.fru, Component.lasers, Component.book, Component.fresh] fun t =>
          t.laser e.val = ⟨true, lower, page, typeOk && decide (watts ≤ 36), part, false⟩ ∧ t.laserState e.val = (if ok then 3 else 2) ∧
          (ok = true → t.get .PWR_DOM_STAT_STATE (laserDomain e.val) = 1 ∧
            ∀ k, k < page.length → Mem.byte t.fru (0x80 * e.val + k) = page.getD k 0) ∧
          (ok = false → ∀ d, t.get .PWR_DOM_STAT_STATE d = s.get .PWR_DOM_STAT_STATE d) ∧
          t.get .TETH_LASER_INSERTIONS (4 * e.val) =
            satW Field.TETH_LASER_INSERTIONS.width (s.get .TETH_LASER_INSERTIONS (4 * e.val) + 1)) ∧
      (s.laserState e.val = 3 → Completes (.laserReady e) s (bookFields ++ [Field.TETH_STAT_STATE, Field.TETH_LINK_CNT_RETRAINS,
        Field.TETH_EVT_LASER, Field.TETH_NODE_NODE] ++ [Field.TETH_LASER_STATE,
          Field.PWR_DOM_STAT_STATE]) [Component.ports, Component.book, Component.fresh] fun t =>
        t.laserState e.val = 4 ∧ t.get .PWR_DOM_STAT_STATE (laserDomain e.val) = 2 ∧
        ∀ n ∈ laserPorts e.val, t.get .TETH_STAT_STATE n =
          if s.get .TETH_STAT_STATE n = 1 ∧ s.get .TETH_CFG_ENABLE n = 1 ∧ s.get .GCTL_FW_STAT_UNREADABLE 0 = 0 then 2
          else s.get .TETH_STAT_STATE n) ∧
      (s.booted = true →
        ((s.laser e.val).present = false → exec (.swap e) s = .next s) ∧
        ((s.laser e.val).present = true → Completes (.swap e) s [] [Component.ports, Component.lasers] fun t =>
          t.laser e.val = { s.laser e.val with swapping := true } ∧
          ∀ n ∈ laserPorts e.val, (t.port n).action = (s.port n).action ++ [5])) ∧
      (s.laserState e.val = 4 → Completes (.laserAlarm e) s (bookFields ++ [Field.TETH_STAT_DOWN_CAUSE, Field.TETH_STAT_STATE,
        Field.TETH_EVT_LASER, Field.TETH_EVT_DOWN] ++ [Field.TETH_NODE_NODE,
          Field.TETH_LASER_STATE]) [Component.ports, Component.book, Component.fresh] fun t =>
        t.laserState e.val = 5 ∧ ∀ n ∈ laserPorts e.val,
          (s.get .TETH_STAT_STATE n ≠ 0 → t.get .TETH_STAT_STATE n = 6 ∧ t.get .TETH_STAT_DOWN_CAUSE n = 4) ∧
          (s.get .TETH_STAT_STATE n = 0 → t.get .TETH_STAT_STATE n = 0)) ∧
      ((s.laser e.val).present = true → Completes (.laserRemove e) s (bookFields ++ [Field.TETH_STAT_STATE, Field.TETH_EVT_LASER,
        Field.TETH_NODE_NODE, Field.TETH_LASER_STATE] ++ [Field.FRU_STAT_LASER_VALID,
          Field.FRU_STAT_GEN]) [Component.fru, Component.ports, Component.lasers, Component.book, Component.fresh] fun t =>
        t.laser e.val = Laser.init ∧ t.laserState e.val = 0 ∧ Mem.read t.fru (0x80 * e.val) 128 = List.replicate 128 0 ∧
        ∀ n ∈ laserPorts e.val, t.get .TETH_STAT_STATE n = if s.get .TETH_STAT_STATE n = 0 then 0 else 1)

/-- Module reset and bring-up (R13, R343, R350, R351, R389, R402, R430, R431): a reset takes every register back but those that it
keeps, and the stores stay; a ring brings its domains on or fails them by name; two lost regulator groups of a die stop it. -/
def Obligations.ResetAndBringUp : Prop :=
  ∀ s : State,
    (∀ c : Fin 3, (c.val ≠ 0 → s.get .GCTL_STAT_UP 0 ≠ 1 → exec (.moduleReset c) s = .next s) ∧
      ((c.val = 0 ∨ s.get .GCTL_STAT_UP 0 = 1) → ∃ t, exec (.moduleReset c) s = .next t ∧
        t.pending = s.pending ∧ (c.val = 0 → t.host = s.host) ∧ t.vfs = s.vfs ∧ t.clock = State.reset.clock ∧ t.reelCount = 0 ∧ t.cmds = [] ∧
        t.recs = [] ∧ t.carrier = State.reset.carrier ∧ t.sec.settings = s.sec.settings ∧ t.sec.slotA = s.sec.slotA ∧
        t.sec.slotB = s.sec.slotB ∧ (∀ p, t.created p = false) ∧ t.get .GCTL_STAT_RESET_CAUSE 0 = c.val ∧
        (c.val = 0 → t.book.tallies = s.book.stored) ∧ (c.val ≠ 0 → t.book.stored = t.book.tallies) ∧
        ∀ f ∈ Field.all, f ∉ keptFields → f ≠ .GCTL_STAT_RESET_CAUSE → f ∉ (fuseRegs s.fuses).map Prod.fst → ∀ k, t.get f k = f.reset)) ∧
    (∀ failed : List Nat, s.mayRing = true → Completes (.bringUpRing failed) s (settingFields ++ bookFields
      ++ [Field.CORE_BRIDLE_LINK_STATE, Field.HBM_STAT_STATE, Field.TETH_CFG_NARROW_EN, Field.TETH_CFG_ENABLE]
        ++ [Field.TETH_STAT_STATE, Field.TETH_LINK_CNT_RETRAINS, Field.TETH_EVT_LASER, Field.TETH_NODE_NODE]
          ++ [Field.TETH_LASER_STATE, Field.CORE_BIND_FENCED, Field.PWR_STAT_RING, Field.PWR_STAT_PHASE]
          ++ [Field.PWR_STAT_BRICKS_OK, Field.PWR_STAT_FAILED_DOMAINS, Field.PWR_BRICK_OUT_W, Field.PWR_BRICK_TEMP]
          ++ [Field.PWR_BRICK_STATE, Field.PWR_DOM_STAT_STAGE_FAILS, Field.PWR_DOM_STAT_SETPOINT, Field.PWR_DOM_STAT_GROUP_LOST]
          ++ [Field.PWR_DOM_STAT_CAUSE, Field.PWR_DOM_STAT_STATE, Field.PWR_DOM_DROOP_BASELINE, Field.CORE_BIST_MICROCODE]
          ++ [Field.LOGB_TIME_POWER_CYCLES, Field.GCTL_FW_STAT_BOOT_SVN, Field.GCTL_FW_STAT_UNREADABLE,
          Field.GCTL_FW_STAT_CONFIRMED] ++ [Field.GCTL_FW_STAT_BOOT_SLOT, Field.GCTL_FW_STAT_SCHEMA, Field.GCTL_FW_STAT_GE_STATE,
          Field.GCTL_FW_STAT_GW_STATE] ++ [Field.ID_SIGNATURE_SIG, Field.GCTL_STAT_STOPPED, Field.FRU_STAT_LASER_VALID,
          Field.FRU_STAT_BRICK_VALID] ++ [Field.FRU_STAT_SHUFFLE_VALID, Field.FRU_STAT_SENSOR_VALID,
          Field.FRU_STAT_GEN]) [Component.free, Component.fru, Component.ports, Component.power, Component.gondola, Component.sec, Component.book, Component.edge, Component.fresh] fun t =>
      t.power.ring = s.power.ring + 1 ∧ t.get .PWR_STAT_RING 0 = s.power.ring ∧
      (s.power.ring = 0 → s.imageFail s.bootImage = 0 → 248 ∉ failed → 249 ∉ failed →
        t.halfState 0 = 2 ∧ t.halfState 1 = 3 ∧ t.gondola.firmware = 0) ∧
      (s.power.ring = 7 → t.get .GCTL_STAT_UP 0 = 1 ∧
        t.get .PWR_STAT_PHASE 0 = if s.get .GCTL_FW_STAT_UNREADABLE 0 = 1 then 0 else 1) ∧
      (0 < s.power.ring → s.power.ring < 7 →
        ((∃ d, d < 24 ∧ d / 4 + 1 = s.power.ring ∧ 2 ≤ timesIn failed (96 + d)) →
          t.get .GCTL_STAT_STOPPED 0 = 1 ∧ t.get .PWR_STAT_PHASE 0 = 2) ∧
        ((∀ d, d < 24 → d / 4 + 1 = s.power.ring → timesIn failed (96 + d) < 2) →
          (∀ m, m < 48 → m / 8 + 1 = s.power.ring → t.get .HBM_STAT_STATE m = if failed.contains (120 + m) then 4 else 1) ∧
          ∀ n, n < 96 → n / 16 + 1 = s.power.ring → s.get .CORE_BIND_DISABLED n ≠ 1 →
            (failed.contains n = true → t.get .PWR_DOM_STAT_STATE n = 5 ∧ t.get .CORE_BIND_FENCED n = 1) ∧
            (failed.contains n = false → t.get .PWR_DOM_STAT_STATE n = 2 ∧ EdgeReq.core n 3 ∈ t.edge ∧
              t.get .CORE_BIST_MICROCODE n = s.bootMicrocode % 2 ^ Field.CORE_BIST_MICROCODE.width)))) ∧
    (s.get .PWR_STAT_PHASE 0 = 0 → s.power.ring ≤ 8 → s.get .GCTL_STAT_STOPPED 0 = 0 → s.get .GCTL_STAT_UP 0 = 0 →
      exec .ringTimeout s = .next ((s.put .PWR_STAT_PHASE 0 2).put .GCTL_STAT_STOPPED 0 1)) ∧
    ∀ up full : Bool,
      Completes (.hostLinkChange 0 up full) s [Field.GCTL_HOST_FULL1, Field.GCTL_HOST_UP1, Field.GCTL_HOST_FULL0, Field.GCTL_HOST_UP0]
        [Component.edge] (fun t =>
        t.get .GCTL_HOST_UP0 0 = nat01 up ∧ t.get .GCTL_HOST_FULL0 0 = nat01 (up && full) ∧ t.edge = s.edge ++ [.host 0]) ∧
      Completes (.hostLinkChange 1 up full) s [Field.GCTL_HOST_FULL1, Field.GCTL_HOST_UP1, Field.GCTL_HOST_FULL0, Field.GCTL_HOST_UP0]
        [Component.edge] fun t =>
        t.get .GCTL_HOST_UP1 0 = nat01 up ∧ t.get .GCTL_HOST_FULL1 0 = nat01 (up && full) ∧ t.edge = s.edge ++ [.host 1]

/-- Firmware, settings and debug (R402, R404 to R407, R410, R418): an image or a record is taken only if it checks, and its result
says why not, and none is staged over a version that runs unconfirmed; a handover exchanges the slots and halves, or leaves them; the
fused SVN rises only at a confirmation; a debug opening needs a token and every partition destroyed. -/
def Obligations.FirmwareChecksBeforeItChanges : Prop :=
  ∀ (s : State) (mem : List (Nat × Byte)), s.booted = true →
    let u : State := { s with host := Mem.writeCells s.host mem }
    let i := imageOf (u.hostRead (s.get .GCTL_FW_IMG_BASE 0 * 4096) (s.get .GCTL_FW_IMG_LENGTH 0 * 4096))
    let r := u.hostRecord
    let g := 1 - s.gondola.firmware
    (s.sec.bootedOnce = true → exec (.stage mem) s = .next (u.ignored 0x1810)) ∧
    (s.sec.bootedOnce = false → Completes (.stage mem) s (bookFields
      ++ [Field.GCTL_FW_STAT_STAGE_RESULT]) [Component.host, Component.sec, Component.book] fun t =>
      t.host = u.host ∧
      (s.imageFail (some i) = 0 → t.get .GCTL_FW_STAT_STAGE_RESULT 0 = 1 ∧ t.slotImage s.prevSlot = some i ∧
        t.slotImage (1 - s.prevSlot) = s.slotImage (1 - s.prevSlot)) ∧
      (s.imageFail (some i) ≠ 0 → t.get .GCTL_FW_STAT_STAGE_RESULT 0 = s.imageFail (some i) ∧ t.sec = s.sec)) ∧
    (∀ o n, s.gondola.handover = 2 → s.atEdge = true → s.bootImage = some o → s.slotImage s.prevSlot = some n →
      Completes .handoverTakeover s (bookFields ++ [Field.GCTL_FW_STAT_BOOT_SVN, Field.GCTL_FW_STAT_HANDOVER_RESULT,
        Field.GCTL_FW_STAT_UNREADABLE, Field.GCTL_FW_STAT_CONFIRMED] ++ [Field.GCTL_FW_STAT_BOOT_SLOT, Field.GCTL_FW_STAT_SCHEMA,
          Field.GCTL_FW_STAT_GE_STATE, Field.GCTL_FW_STAT_GW_STATE]
          ++ [Field.ID_SIGNATURE_SIG]) [Component.cmds, Component.gondola, Component.sec, Component.book] fun t =>
        t.gondola.handover = 3 ∧
        (s.handoverPasses o n = true → t.halfState g = 2 ∧ t.halfState (1 - g) = 1 ∧ t.gondola.firmware = g ∧
          t.get .GCTL_FW_STAT_HANDOVER_RESULT 0 = 1 ∧ t.get .GCTL_FW_STAT_BOOT_SLOT 0 = s.prevSlot ∧
          t.get .GCTL_FW_STAT_CONFIRMED 0 = 0 ∧ t.sec.bootedOnce = true) ∧
        (s.handoverPasses o n = false → t.get .GCTL_FW_STAT_HANDOVER_RESULT 0 = 2 ∧ t.halfState 0 = s.halfState 0 ∧
          t.halfState 1 = s.halfState 1 ∧ t.get .GCTL_FW_STAT_BOOT_SLOT 0 = s.get .GCTL_FW_STAT_BOOT_SLOT 0)) ∧
    (s.gondola.handover = 3 → s.halfState g = 1 → Completes .standbyRebootDone s (bookFields ++ [Field.GCTL_FW_STAT_GE_STATE,
      Field.GCTL_FW_STAT_GW_STATE]) [Component.gondola, Component.book] fun t =>
      t.halfState g = 3 ∧ t.gondola = { s.gondola with handover := 0 }) ∧
    (Completes .confirm s (bookFields ++ [Field.GCTL_FW_STAT_FUSED_SVN,
      Field.GCTL_FW_STAT_CONFIRMED]) [Component.fuses, Component.sec, Component.book] fun t =>
      t.fuses.svn = max s.fuses.svn (s.get .GCTL_FW_STAT_BOOT_SVN 0) ∧ t.get .GCTL_FW_STAT_FUSED_SVN 0 = t.fuses.svn % 2 ^ 6 ∧
      t.get .GCTL_FW_STAT_CONFIRMED 0 = 1 ∧ t.sec = { s.sec with bootedOnce := false, confirmed := true }) ∧
    (s.fallbackRefused = true → exec .fallback s = .next (s.ignored 0x1810)) ∧
    (s.fallbackRefused = false → Completes .fallback s bookFields [Component.sec, Component.book] fun t =>
      t.sec = { s.sec with fallback := true }) ∧
    (s.gondola.takeover = true → exec (.settingsWrite mem) s = .next { u with edge := s.edge ++ [.mail (.settingsWrite [])] }) ∧
    (s.gondola.takeover = false → Completes (.settingsWrite mem) s (settingFields ++ bookFields ++ [Field.TETH_CFG_NARROW_EN,
      Field.TETH_CFG_ENABLE, Field.TETH_STAT_STATE, Field.TETH_LINK_CNT_RETRAINS] ++ [Field.TETH_EVT_LASER, Field.TETH_NODE_NODE,
        Field.TETH_LASER_STATE, Field.PWR_STAT_PHASE] ++ [Field.PWR_DOM_STAT_SETPOINT, Field.PWR_DOM_STAT_STATE,
          Field.GCTL_FW_STAT_SET_RESULT, Field.GCTL_FW_STAT_UNREADABLE] ++ [Field.GCTL_FW_STAT_SCHEMA, Field.ID_SIGNATURE_SIG,
          Field.FRU_STAT_LASER_VALID,
          Field.FRU_STAT_GEN]) [Component.host, Component.fru, Component.ports, Component.sec, Component.book, Component.edge, Component.fresh] fun t =>
      t.host = u.host ∧ t.get .GCTL_FW_STAT_SET_RESULT 0 = u.recordResult r ∧
      (u.recordResult r ≠ 1 → t.sec = s.sec) ∧
      (u.recordResult r = 1 → r ∈ t.sec.settings ∧ Tab.get 0 t.sec.index r.schema = r.gen)) ∧
    ((∀ p, p < 16 → s.created p = false) → ∀ w, u.tokenSigner = some w →
      Completes (.openDebug mem) s (bookFields ++ [Field.GCTL_DBG_CHAL_CHALLENGE, Field.PART_KEY_PUB_KEY,
        Field.PART_KEY_STAT_LOADED,
          Field.HBM_CLR_PENDING]) [Component.free, Component.host, Component.parts, Component.carrier, Component.sec, Component.book, Component.edge] fun t =>
        t.host = u.host ∧ t.sec.opening = true ∧ t.sec.keysLocked = true ∧
        (∀ p, p < 16 → (t.part p).keys.keys = [] ∧ t.get .PART_KEY_STAT_LOADED p = 0) ∧
        ∀ n, n < 96 → s.get .CORE_BIND_DISABLED n ≠ 1 → EdgeReq.core n 5 ∈ t.edge) ∧
    (((∃ p, p < 16 ∧ s.created p = true) ∨ u.tokenSigner = none) →
      Completes (.openDebug mem) s (bookFields ++ [Field.GCTL_DBG_CHAL_CHALLENGE, Field.PART_KEY_PUB_KEY,
        Field.PART_KEY_STAT_LOADED,
          Field.HBM_CLR_PENDING]) [Component.free, Component.host, Component.parts, Component.carrier, Component.sec, Component.book, Component.edge] fun t => t.host = u.host)

/-- Management bus and logbook (R378, R389, R391 to R398, R411, R412, R419, R438): a request's reply goes out and enters the transcript;
one that may not be answered is refused and logged; one that comes while a half takes over waits for the next edge; the owner key is installed once; the book is stored and frozen whole; an event
whose tally stands makes it one more. -/
def Obligations.ManagementAndLogbookAnswer : Prop :=
  ∀ s : State,
    (s.booted = true →
      let replies := fun (c : Instr) (request reply : Bytes) => Completes c s [] [Component.sec, Component.out] fun t =>
        t.out = s.out ++ [.spdm reply] ∧ t.sec.transcript = s.sec.transcript ++ request ++ reply
      let signs := fun (c : Instr) (request content : Bytes) => Completes c s [] [Component.sec, Component.out, Component.free] fun t =>
        let body := content ++ natLE 32 s.draw.1
        t.out = s.out ++ [.spdm (body ++ Config.aliasSign s.imageDigest (s.sec.transcript ++ request ++ body))]
      (s.gondola.takeover = true → ∀ c, FirmwareRequest c → exec c s = .next { s with edge := s.edge ++ [.mail c] }) ∧
      (s.gondola.takeover = false →
      (∀ a, exec (.entdaa a) s = .next { s with sec := { s.sec with address := some a.val } }) ∧
      (Completes .getVersion s [] [Component.sec, Component.edge, Component.out] fun t => t.out = s.out ++ [.spdm [0x12]] ∧
        t.sec = { s.sec with transcript := [0x84, 0x12], negotiated := false }) ∧
      replies .getCapabilities [0xE1] Config.spdmCapabilities ∧
      (Completes (.negotiateAlgorithms true true) s bookFields [Component.sec, Component.book, Component.edge, Component.out] fun t =>
        t.out = s.out ++ [.spdm [1, 1]] ∧ t.sec.negotiated = true) ∧
      (∀ a b, (a && b) = false → exec (.negotiateAlgorithms a b) s = .next (s.event 0xC008 0 0)) ∧
      replies .getDigests [0x81] (sha384 s.chain) ∧
      (∀ off len, replies (.getCertificate 0 off len) ([0x82, 0] ++ natLE 2 off ++ natLE 2 len) ((s.chain.drop off).take len)) ∧
      (∀ slot off len, slot ≠ 0 → exec (.getCertificate slot off len) s = .next (s.event 0xC008 0 0)) ∧
      (∀ nonce : Bytes, s.sec.negotiated = true → nonce.length = 32 →
        signs (.challenge 0 nonce) ([0x83, 0] ++ nonce) (sha384 s.chain) ∧
        ∀ k m, s.measurement k = some m → signs (.getMeasurements k nonce) ([0xE0] ++ natLE 1 k ++ nonce) (natLE 1 k ++ m)) ∧
      (∀ slot nonce, (s.sec.negotiated = false ∨ slot ≠ 0 ∨ nonce.length ≠ 32) →
        exec (.challenge slot nonce) s = .next (s.event 0xC008 0 0)) ∧
      (∀ k nonce, (s.sec.negotiated = false ∨ s.measurement k = none ∨ nonce.length ≠ 32) →
        exec (.getMeasurements k nonce) s = .next (s.event 0xC008 0 0)) ∧
      (∀ key : Bytes, key.length = 96 →
        (s.sec.ownerKey = [] → exec (.ownerKeyInstall key) s =
          .next { s with sec := { s.sec with ownerKey := key }, fuses := { s.fuses with ownerDigest := sha384 key } }) ∧
        (s.sec.ownerKey ≠ [] → exec (.ownerKeyInstall key) s =
          .next (if s.sec.rootOpened then { s with sec := { s.sec with nextOwner := some key } } else s))) ∧
      (∀ (k : Fin 5) (a b : Nat), s.power.climate = some (a, b) →
        (k = 0 → exec (.pldmSensorRead k) s = .next (s.send (.pldm (natLE 4 a)))) ∧
        (k = 2 → exec (.pldmSensorRead k) s = .next (s.send (.pldm (natLE 4 b)))) ∧
        (k ≠ 0 → k ≠ 2 → exec (.pldmSensorRead k) s = .next (s.draw.2.send (.pldm (natLE 4 s.draw.1))))) ∧
      (∀ k : Fin 5, s.power.climate = none → exec (.pldmSensorRead k) s = .next (s.draw.2.send (.pldm (natLE 4 s.draw.1)))) ∧
      (∀ off len, exec (.pldmLogbookRead off len) s =
        .next (s.send (.pldm ((List.range len).map fun k => s.windowByte (off + k)))))) ∧
      (s.get .LOGB_FRZ_FROZEN 0 = 0 → s.book.storeTime % 2 ^ 32 + 60 ≤ s.get .LOGB_TIME_OP_SEC 0 →
        Completes .logbookStore s [] [Component.book] fun t =>
          t.book.stored = s.book.tallies ∧ t.book.storedHists = s.book.hists ∧ t.book.storeTime = s.stamps ∧
          t.book.tallies = s.book.tallies ∧ t.book.hists = s.book.hists) ∧
      (s.get .LOGB_FRZ_FROZEN 0 = 1 → exec .freeze s = .next s) ∧
      (s.get .LOGB_FRZ_FROZEN 0 ≠ 1 → Completes .freeze s [Field.LOGB_FRZ_FROZEN] [Component.book] fun t =>
        t.get .LOGB_FRZ_FROZEN 0 = 1 ∧ t.book = { s.book with frozenAt := s.now })) ∧
    (∀ c : Instr, s.get .LOGB_FRZ_FROZEN 0 = 1 →
      ((c = .thaw ∧ s.booted = true) ∨ (c = .freezeTimeout ∧ s.book.frozenAt + 1600000000 ≤ s.now) ∨
        (c = .freezeQueueFull ∧ 16384 ≤ s.book.queue.length)) →
      Completes c s [Field.LOGB_STAT_OVERWRITTEN, Field.LOGB_STAT_LOST, Field.LOGB_SEQ_SEQ, Field.LOGB_FRZ_FROZEN]
        [Component.book] fun t => t.get .LOGB_FRZ_FROZEN 0 = 0 ∧ t.book.queue = [] ∧
        t.getA .LOGB_SEQ_SEQ 0 % 2 ^ 64 = (s.getA .LOGB_SEQ_SEQ 0 + s.book.queue.length) % 2 ^ 64) ∧
    ∀ (code subject arg k : Nat) (y : Tally),
      (s.get .LOGB_FRZ_FROZEN 0 ≠ 1 → s.book.findKey code subject s.rehearsal false = some (k, y) →
        Tab.get none (s.event code subject arg).book.tallies k = some (y.more arg s.stamps) ∧
        ∀ j, j ≠ k → Tab.get none (s.event code subject arg).book.tallies j = Tab.get none s.book.tallies j) ∧
      (s.get .LOGB_FRZ_FROZEN 0 = 1 →
        (s.event code subject arg).book.queue = insertUpdate (s.now, s.stamps, .event code subject arg s.rehearsal) s.book.queue ∧
        (s.event code subject arg).book.tallies = s.book.tallies)
end

