-- ==== Sys2Proof/Laws/Tab.lean ====
section
/-! SUPPORT. Laws of tables and memories: what a read gives after a write, and that every operation keeps the canonical form. -/

namespace Sys2Proof.Machine

variable {α : Type}

/-- The indices rise strictly. -/
def Tab.Rising (t : Tab α) : Prop := (t.map Prod.fst).Pairwise (· < ·)

theorem Tab.wf_iff [DecidableEq α] (d : α) (t : Tab α) : Tab.wf d t = true ↔ Tab.Rising t ∧ ∀ c ∈ t, c.2 ≠ d := by
  simp [Tab.wf, Tab.Rising]

theorem Tab.wf_nil [DecidableEq α] (d : α) : Tab.wf d ([] : Tab α) = true := by simp [Tab.wf]

theorem Tab.Rising.filter {t : Tab α} (h : Tab.Rising t) (p : Nat × α → Bool) : Tab.Rising (t.filter p) :=
  List.Pairwise.sublist (List.Sublist.map _ List.filter_sublist) h

theorem Tab.Rising.append {a b : Tab α} (ha : Tab.Rising a) (hb : Tab.Rising b) (h : ∀ x ∈ a, ∀ y ∈ b, x.1 < y.1) :
    Tab.Rising (a ++ b) := by
  simp only [Tab.Rising, List.map_append, List.pairwise_append]
  exact ⟨ha, hb, by simpa using fun a1 b1 h1 a2 b2 h2 => h (a1, b1) h1 (a2, b2) h2⟩

@[simp] theorem Tab.get_nil (d : α) (k : Nat) : Tab.get d [] k = d := rfl

theorem Tab.get_append (d : α) (a b : Tab α) (k : Nat) (h : ∀ c ∈ a, c.1 ≠ k) : Tab.get d (a ++ b) k = Tab.get d b k := by
  induction a with
  | nil => rfl
  | cons c r ih =>
    have hc := h c (by simp)
    simp only [List.cons_append, Tab.get]
    rw [if_neg hc]
    exact ih fun x hx => h x (by simp [hx])

theorem Tab.get_absent (d : α) (a : Tab α) (k : Nat) (h : ∀ c ∈ a, c.1 ≠ k) : Tab.get d a k = d := by
  simpa using Tab.get_append d a [] k h

/-- Entries that a filter drops at other indices do not matter. -/
theorem Tab.get_filter (d : α) (t : Tab α) (p : Nat → Bool) (k : Nat) (h : p k = true) :
    Tab.get d (t.filter fun c => p c.1) k = Tab.get d t k := by
  induction t with
  | nil => rfl
  | cons c r ih =>
    by_cases hp : p c.1 = true
    · simp only [List.filter_cons, hp, if_true, Tab.get, ih]
    · have hc : c.1 ≠ k := fun e => hp (e ▸ h)
      simp only [List.filter_cons, hp, Tab.get]
      rw [if_neg hc]; simpa using ih

/-- The entries before `k`, then `m`, then the entries from `k + n`, read at an index outside. -/
theorem Tab.get_splice (d : α) (t m : Tab α) (k n j : Nat) (hm : ∀ c ∈ m, k ≤ c.1 ∧ c.1 < k + n) (hj : j < k ∨ k + n ≤ j) :
    Tab.get d (t.filter (fun c => decide (c.1 < k)) ++ (m ++ t.filter (fun c => decide (k + n ≤ c.1)))) j = Tab.get d t j := by
  rcases hj with hj | hj
  · have h1 : ∀ c ∈ m ++ t.filter (fun c => decide (k + n ≤ c.1)), c.1 ≠ j := by
      intro c hc; rcases List.mem_append.1 hc with hc | hc
      · have := hm c hc; omega
      · have := (List.mem_filter.1 hc).2; simp at this; omega
    have h2 := Tab.get_filter d t (fun x => decide (x < k)) j (by simpa using hj)
    rw [← h2]
    generalize t.filter (fun c => decide (c.1 < k)) = a at *
    induction a with
    | nil => rw [List.nil_append, Tab.get_absent d _ _ h1]; rfl
    | cons c r ih =>
      by_cases hc : c.1 = j
      · simp [Tab.get, hc]
      · simp only [List.cons_append, Tab.get, if_neg hc]
        have : ∀ (s : Tab α), Tab.get d (s ++ (m ++ t.filter (fun c => decide (k + n ≤ c.1)))) j = Tab.get d s j := by
          intro s
          induction s with
          | nil => rw [List.nil_append, Tab.get_absent d _ _ h1]; rfl
          | cons e s ih => simp only [List.cons_append, Tab.get]; split <;> simp_all
        exact this r
  · rw [Tab.get_append, Tab.get_append]
    · exact Tab.get_filter d t (fun x => decide (k + n ≤ x)) j (by simpa using hj)
    · intro c hc; have := hm c hc; omega
    · intro c hc; have := (List.mem_filter.1 hc).2; simp at this; omega

theorem Tab.rising_splice {t m : Tab α} (k n : Nat) (h : Tab.Rising t) (hr : Tab.Rising m) (hm : ∀ c ∈ m, k ≤ c.1 ∧ c.1 < k + n) :
    Tab.Rising (t.filter (fun c => decide (c.1 < k)) ++ (m ++ t.filter (fun c => decide (k + n ≤ c.1)))) := by
  refine Tab.Rising.append (Tab.Rising.filter h _) (Tab.Rising.append hr (Tab.Rising.filter h _) ?_) ?_
  · intro x hx y hy
    have := hm x hx; have := (List.mem_filter.1 hy).2; simp at this; omega
  · intro x hx y hy
    have h1 := (List.mem_filter.1 hx).2; simp at h1
    rcases List.mem_append.1 hy with hy | hy
    · have := hm y hy; omega
    · have := (List.mem_filter.1 hy).2; simp at this; omega

section Put
variable [DecidableEq α]

theorem Tab.put_eq (d : α) (t : Tab α) (k : Nat) (v : α) :
    Tab.put d t k v = t.filter (fun c => decide (c.1 < k)) ++ ((if v = d then [] else [(k, v)]) ++ t.filter (fun c => decide (k + 1 ≤ c.1))) := rfl

theorem Tab.mem_one (d : α) (k : Nat) (v : α) : ∀ c ∈ (if v = d then [] else [(k, v)] : Tab α), k ≤ c.1 ∧ c.1 < k + 1 := by
  intro c hc; split at hc <;> simp_all

/-- Reading index `k` after writing it gives what was written. -/
@[simp] theorem Tab.get_put_same (d : α) (t : Tab α) (k : Nat) (v : α) : Tab.get d (Tab.put d t k v) k = v := by
  unfold Tab.put
  rw [Tab.get_append _ _ _ _ (by intro c hc; have := (List.mem_filter.1 hc).2; simp at this; omega)]
  split
  · rename_i h
    rw [List.nil_append, Tab.get_absent]
    · exact h.symm
    · intro c hc; have := (List.mem_filter.1 hc).2; simp at this; omega
  · simp [Tab.get]

/-- Writing index `k` leaves every other index alone. -/
theorem Tab.get_put_other (d : α) (t : Tab α) {j k : Nat} (v : α) (h : j ≠ k) : Tab.get d (Tab.put d t k v) j = Tab.get d t j := by
  rw [Tab.put_eq]
  exact Tab.get_splice d t _ k 1 j (Tab.mem_one d k v) (by omega)

theorem Tab.rising_put (d : α) {t : Tab α} (k : Nat) (v : α) (h : Tab.Rising t) : Tab.Rising (Tab.put d t k v) := by
  rw [Tab.put_eq]
  exact Tab.rising_splice k 1 h (by split <;> simp [Tab.Rising]) (Tab.mem_one d k v)

/-- A write keeps the canonical form. -/
theorem Tab.wf_put (d : α) {t : Tab α} (k : Nat) (v : α) (h : Tab.wf d t = true) : Tab.wf d (Tab.put d t k v) = true := by
  rw [Tab.wf_iff] at h ⊢
  refine ⟨Tab.rising_put d k v h.1, fun c hc => ?_⟩
  rw [Tab.put_eq] at hc
  rcases List.mem_append.1 hc with hc | hc
  · exact h.2 c (List.mem_filter.1 hc).1
  · rcases List.mem_append.1 hc with hc | hc
    · split at hc <;> simp_all
    · exact h.2 c (List.mem_filter.1 hc).1

end Put

/-! Memories. -/

theorem Mem.cells_mem (a : Nat) (bs : Bytes) : ∀ c ∈ Mem.cells a bs, a ≤ c.1 ∧ c.1 < a + bs.length := by
  induction bs generalizing a with
  | nil => simp [Mem.cells]
  | cons b r ih =>
    intro c hc
    simp only [Mem.cells] at hc
    split at hc
    · have := ih (a + 1) c hc; simp; omega
    · rcases List.mem_cons.1 hc with rfl | hc
      · simp
      · have := ih (a + 1) c hc; simp; omega

theorem Mem.cells_rising (a : Nat) (bs : Bytes) : Tab.Rising (Mem.cells a bs) := by
  induction bs generalizing a with
  | nil => simp [Mem.cells, Tab.Rising]
  | cons b r ih =>
    simp only [Mem.cells]
    split
    · exact ih (a + 1)
    · simp only [Tab.Rising, List.map_cons, List.pairwise_cons]
      refine ⟨?_, ih (a + 1)⟩
      intro x hx
      obtain ⟨c, hc, rfl⟩ := List.mem_map.1 hx
      have := Mem.cells_mem (a + 1) r c hc; omega

theorem Mem.cells_ne (a : Nat) (bs : Bytes) : ∀ c ∈ Mem.cells a bs, c.2 ≠ 0 := by
  induction bs generalizing a with
  | nil => simp [Mem.cells]
  | cons b r ih =>
    intro c hc
    simp only [Mem.cells] at hc
    split at hc
    · exact ih (a + 1) c hc
    · rcases List.mem_cons.1 hc with rfl | hc
      · assumption
      · exact ih (a + 1) c hc

/-- A store keeps the canonical form. -/
theorem Mem.wf_write {m : Mem} (a : Nat) (bs : Bytes) (h : Mem.wf m = true) : Mem.wf (Mem.write m a bs) = true := by
  rw [Mem.wf, Tab.wf_iff] at h ⊢
  refine ⟨Tab.rising_splice a bs.length h.1 (Mem.cells_rising a bs) (Mem.cells_mem a bs), fun c hc => ?_⟩
  rcases List.mem_append.1 hc with hc | hc
  · exact h.2 c (List.mem_filter.1 hc).1
  · rcases List.mem_append.1 hc with hc | hc
    · exact Mem.cells_ne a bs c hc
    · exact h.2 c (List.mem_filter.1 hc).1

/-- Clearing keeps the canonical form. -/
theorem Mem.wf_clear {m : Mem} (a n : Nat) (h : Mem.wf m = true) : Mem.wf (Mem.clear m a n) = true := by
  rw [Mem.wf, Tab.wf_iff] at h ⊢
  refine ⟨?_, fun c hc => ?_⟩
  · simpa [Mem.clear] using Tab.rising_splice (m := []) a n h.1 (by simp [Tab.Rising]) (by simp)
  · rcases List.mem_append.1 hc with hc | hc <;> exact h.2 c (List.mem_filter.1 hc).1

/-- Storing cells one by one keeps the canonical form. -/
theorem Mem.wf_writeCells {m : Mem} (cs : List (Nat × Byte)) (h : Mem.wf m = true) : Mem.wf (Mem.writeCells m cs) = true := by
  unfold Mem.writeCells
  induction cs generalizing m with
  | nil => exact h
  | cons c r ih => exact ih (Tab.wf_put _ _ _ h)

/-- A store leaves every byte outside it alone. -/
theorem Mem.byte_write_other (m : Mem) (a : Nat) (bs : Bytes) (j : Nat) (h : j < a ∨ a + bs.length ≤ j) :
    Mem.byte (Mem.write m a bs) j = Mem.byte m j :=
  Tab.get_splice 0 m _ a bs.length j (Mem.cells_mem a bs) h

/-- Bytes outside a cleared range are left alone. -/
theorem Mem.byte_clear_other (m : Mem) (a n j : Nat) (h : j < a ∨ a + n ≤ j) : Mem.byte (Mem.clear m a n) j = Mem.byte m j := by
  simpa [Mem.byte, Mem.clear] using Tab.get_splice (0 : Byte) m [] a n j (by simp) h

/-- A cleared byte reads 0. -/
theorem Mem.byte_clear_same (m : Mem) (a n j : Nat) (h : a ≤ j ∧ j < a + n) : Mem.byte (Mem.clear m a n) j = 0 := by
  unfold Mem.byte Mem.clear
  apply Tab.get_absent
  intro c hc
  rcases List.mem_append.1 hc with hc | hc <;> (have := (List.mem_filter.1 hc).2; simp at this; omega)

theorem Mem.get_cells (a : Nat) (bs : Bytes) (i : Nat) : Tab.get (0 : Byte) (Mem.cells a bs) (a + i) = bs.getD i 0 := by
  induction bs generalizing a i with
  | nil => simp [Mem.cells]
  | cons b r ih =>
    simp only [Mem.cells]
    cases i with
    | zero =>
      split
      · rename_i h
        rw [Tab.get_absent _ _ _ (by intro c hc; have := Mem.cells_mem (a + 1) r c hc; omega)]
        simp [h]
      · simp [Tab.get]
    | succ i =>
      have e : a + (i + 1) = a + 1 + i := by omega
      split
      · rw [e, ih]; simp
      · rw [e, Tab.get, if_neg (by omega), ih]; simp

/-- A stored byte reads back. -/
theorem Mem.byte_write_same (m : Mem) (a : Nat) (bs : Bytes) (i : Nat) (h : i < bs.length) :
    Mem.byte (Mem.write m a bs) (a + i) = bs.getD i 0 := by
  unfold Mem.byte Mem.write
  rw [Tab.get_append _ _ _ _ (by intro c hc; have := (List.mem_filter.1 hc).2; simp at this; omega)]
  rw [← Mem.get_cells a bs i]
  have h1 : ∀ c ∈ m.filter (fun c => decide (a + bs.length ≤ c.1)), c.1 ≠ a + i := by
    intro c hc; have := (List.mem_filter.1 hc).2; simp at this; omega
  generalize Mem.cells a bs = l
  induction l with
  | nil => rw [List.nil_append, Tab.get_absent _ _ _ h1]; rfl
  | cons c r ih => simp only [List.cons_append, Tab.get]; split <;> simp_all

end Sys2Proof.Machine
end

