-- ==== Sys2Proof/Laws/Frame.lean ====
section
/-! SUPPORT. Frames: which register fields and which parts of the state an operation may change. `Same m s t` says that `t` differs
from `s` at most in the register fields whose number is a set bit of `m` and in the parts whose number, from 400 on, is one. -/

namespace Sys2Proof.Machine

/-- Nothing outside the mask differs. Bit 400 + k stands for the k-th field of `State`. -/
structure Same (m : Nat) (s t : State) : Prop where
  reg : ∀ (f : Field) (i : Nat), f.code < 400 → m.testBit f.code = false → t.get f i = s.get f i
  ana : ∀ (f : Field) (i : Nat), f.code < 400 → m.testBit f.code = false → t.getA f i = s.getA f i
  pending : m.testBit 400 = false → t.pending = s.pending
  clock : m.testBit 401 = false → t.clock = s.clock
  free : m.testBit 402 = false → t.free = s.free
  fuses : m.testBit 403 = false → t.fuses = s.fuses
  reel : m.testBit 406 = false → t.reel = s.reel
  host : m.testBit 407 = false → t.host = s.host
  fru : m.testBit 408 = false → t.fru = s.fru
  cmds : m.testBit 409 = false → t.cmds = s.cmds
  recs : m.testBit 410 = false → t.recs = s.recs
  fences : m.testBit 411 = false → t.fences = s.fences
  queues : m.testBit 412 = false → t.queues = s.queues
  parts : m.testBit 413 = false → t.parts = s.parts
  cores : m.testBit 414 = false → t.cores = s.cores
  carrier : m.testBit 415 = false → t.carrier = s.carrier
  links : m.testBit 416 = false → t.links = s.links
  ports : m.testBit 417 = false → t.ports = s.ports
  lasers : m.testBit 418 = false → t.lasers = s.lasers
  power : m.testBit 419 = false → t.power = s.power
  mode : m.testBit 420 = false → t.mode = s.mode
  injects : m.testBit 421 = false → t.injects = s.injects
  bists : m.testBit 422 = false → t.bists = s.bists
  gondola : m.testBit 423 = false → t.gondola = s.gondola
  sec : m.testBit 424 = false → t.sec = s.sec
  book : m.testBit 425 = false → t.book = s.book
  msix : m.testBit 426 = false → t.msix = s.msix
  vfs : m.testBit 427 = false → t.vfs = s.vfs
  edge : m.testBit 428 = false → t.edge = s.edge
  rehearsal : m.testBit 429 = false → t.rehearsal = s.rehearsal
  out : m.testBit 430 = false → t.out = s.out
  fresh : m.testBit 431 = false → t.fresh = s.fresh

theorem Same.refl {m : Nat} {s : State} : Same m s s :=
  ⟨fun _ _ _ _ => rfl, fun _ _ _ _ => rfl, fun _ => rfl, fun _ => rfl, fun _ => rfl, fun _ => rfl, fun _ => rfl, fun _ => rfl,
    fun _ => rfl, fun _ => rfl, fun _ => rfl, fun _ => rfl, fun _ => rfl, fun _ => rfl, fun _ => rfl, fun _ => rfl, fun _ =>
    rfl, fun _ => rfl, fun _ => rfl, fun _ => rfl, fun _ => rfl, fun _ => rfl, fun _ => rfl, fun _ => rfl, fun _ => rfl, fun _
    => rfl, fun _ => rfl, fun _ => rfl, fun _ => rfl, fun _ => rfl, fun _ => rfl, fun _ => rfl⟩

theorem Same.trans {m : Nat} {r s t : State} (h : Same m r s) (k : Same m s t) : Same m r t :=
  ⟨fun f i c b => (k.reg f i c b).trans (h.reg f i c b), fun f i c b => (k.ana f i c b).trans (h.ana f i c b),
   fun b => (k.pending b).trans (h.pending b),
   fun b => (k.clock b).trans (h.clock b),
   fun b => (k.free b).trans (h.free b),
   fun b => (k.fuses b).trans (h.fuses b),
   fun b => (k.reel b).trans (h.reel b),
   fun b => (k.host b).trans (h.host b),
   fun b => (k.fru b).trans (h.fru b),
   fun b => (k.cmds b).trans (h.cmds b),
   fun b => (k.recs b).trans (h.recs b),
   fun b => (k.fences b).trans (h.fences b),
   fun b => (k.queues b).trans (h.queues b),
   fun b => (k.parts b).trans (h.parts b),
   fun b => (k.cores b).trans (h.cores b),
   fun b => (k.carrier b).trans (h.carrier b),
   fun b => (k.links b).trans (h.links b),
   fun b => (k.ports b).trans (h.ports b),
   fun b => (k.lasers b).trans (h.lasers b),
   fun b => (k.power b).trans (h.power b),
   fun b => (k.mode b).trans (h.mode b),
   fun b => (k.injects b).trans (h.injects b),
   fun b => (k.bists b).trans (h.bists b),
   fun b => (k.gondola b).trans (h.gondola b),
   fun b => (k.sec b).trans (h.sec b),
   fun b => (k.book b).trans (h.book b),
   fun b => (k.msix b).trans (h.msix b),
   fun b => (k.vfs b).trans (h.vfs b),
   fun b => (k.edge b).trans (h.edge b),
   fun b => (k.rehearsal b).trans (h.rehearsal b),
   fun b => (k.out b).trans (h.out b),
   fun b => (k.fresh b).trans (h.fresh b)⟩

theorem testBit_of_or {k m : Nat} (h : k ||| m = m) {i : Nat} (b : m.testBit i = false) : k.testBit i = false := by
  have := congrArg (fun x => Nat.testBit x i) h
  simp only [Nat.testBit_or, b, Bool.or_false] at this
  exact this

theorem bit_of_or {k m : Nat} (h : k ||| m = m) {i : Nat} (b : k.testBit i = true) : m.testBit i = true := by
  rw [← h, Nat.testBit_or, b, Bool.true_or]

theorem or_sub {a b m : Nat} (h : a ||| b = b) (k : b ||| m = m) : a ||| m = m := by
  rw [← k, ← Nat.or_assoc, h]

/-- A larger mask says less. -/
theorem Same.mono {k m : Nat} {s t : State} (h : Same k s t) (hk : k ||| m = m) : Same m s t :=
  ⟨fun f i c b => h.reg f i c (testBit_of_or hk b), fun f i c b => h.ana f i c (testBit_of_or hk b),
   fun b => h.pending (testBit_of_or hk b),
   fun b => h.clock (testBit_of_or hk b),
   fun b => h.free (testBit_of_or hk b),
   fun b => h.fuses (testBit_of_or hk b),
   fun b => h.reel (testBit_of_or hk b),
   fun b => h.host (testBit_of_or hk b),
   fun b => h.fru (testBit_of_or hk b),
   fun b => h.cmds (testBit_of_or hk b),
   fun b => h.recs (testBit_of_or hk b),
   fun b => h.fences (testBit_of_or hk b),
   fun b => h.queues (testBit_of_or hk b),
   fun b => h.parts (testBit_of_or hk b),
   fun b => h.cores (testBit_of_or hk b),
   fun b => h.carrier (testBit_of_or hk b),
   fun b => h.links (testBit_of_or hk b),
   fun b => h.ports (testBit_of_or hk b),
   fun b => h.lasers (testBit_of_or hk b),
   fun b => h.power (testBit_of_or hk b),
   fun b => h.mode (testBit_of_or hk b),
   fun b => h.injects (testBit_of_or hk b),
   fun b => h.bists (testBit_of_or hk b),
   fun b => h.gondola (testBit_of_or hk b),
   fun b => h.sec (testBit_of_or hk b),
   fun b => h.book (testBit_of_or hk b),
   fun b => h.msix (testBit_of_or hk b),
   fun b => h.vfs (testBit_of_or hk b),
   fun b => h.edge (testBit_of_or hk b),
   fun b => h.rehearsal (testBit_of_or hk b),
   fun b => h.out (testBit_of_or hk b),
   fun b => h.fresh (testBit_of_or hk b)⟩

/-- One operation more. -/
theorem Same.via {k m : Nat} {r s t : State} (h2 : Same k s t) (hk : k ||| m = m) (h : Same m r s) : Same m r t :=
  h.trans (h2.mono hk)

theorem Same.ite {m : Nat} {r : State} {c : Prop} [Decidable c] {x y : State} (h : Same m r x) (k : Same m r y) :
    Same m r (if c then x else y) := by split <;> assumption

theorem Same.foldl {m : Nat} {r : State} {α : Type} {f : State → α → State} (h : ∀ s x, Same m r s → Same m r (f s x)) :
    ∀ (l : List α) {s : State}, Same m r s → Same m r (l.foldl f s)
  | [], _, k => k
  | x :: l, s, k => Same.foldl h l (h s x k)

theorem Same.foldl1 {m : Nat} {r : State} {α β : Type} {f : State × β → α → State × β}
    (h : ∀ s x, Same m r s.1 → Same m r (f s x).1) : ∀ (l : List α) {s : State × β}, Same m r s.1 → Same m r (l.foldl f s).1
  | [], _, k => k
  | x :: l, s, k => Same.foldl1 h l (h s x k)

theorem Same.upd {m : Nat} {r s : State} {v_pending : List Instr} {v_clock : Clock} {v_free : Nat} {v_fuses : Fuses} {v_reel :
    ReelSt} {v_host : Mem} {v_fru : Mem} {v_cmds : List Cmd} {v_recs : List Rec} {v_fences : List FenceUpd} {v_queues : Tab
    QueueSt} {v_parts : Tab Part} {v_cores : Tab Core} {v_carrier : Carrier} {v_links : Tab Link} {v_ports : Tab Port} {v_lasers
    : Tab Laser} {v_power : Power} {v_mode : Option ModeChange} {v_injects : List Inject} {v_bists : List Bist} {v_gondola :
    Gondola} {v_sec : Security} {v_book : Book} {v_msix : Tab Msix} {v_vfs : List Nat} {v_edge : List EdgeReq} {v_rehearsal :
    Bool} {v_out : List Out} {v_fresh : Nat × List Nat}
    (h : Same m r s) (h_pending : m.testBit 400 = false → v_pending = s.pending) (h_clock : m.testBit 401 = false → v_clock =
    s.clock) (h_free : m.testBit 402 = false → v_free = s.free) (h_fuses : m.testBit 403 = false → v_fuses = s.fuses) (h_reel :
    m.testBit 406 = false → v_reel = s.reel) (h_host : m.testBit 407 = false → v_host = s.host) (h_fru : m.testBit 408 = false →
    v_fru = s.fru) (h_cmds : m.testBit 409 = false → v_cmds = s.cmds) (h_recs : m.testBit 410 = false → v_recs = s.recs)
    (h_fences : m.testBit 411 = false → v_fences = s.fences) (h_queues : m.testBit 412 = false → v_queues = s.queues) (h_parts :
    m.testBit 413 = false → v_parts = s.parts) (h_cores : m.testBit 414 = false → v_cores = s.cores) (h_carrier : m.testBit 415
    = false → v_carrier = s.carrier) (h_links : m.testBit 416 = false → v_links = s.links) (h_ports : m.testBit 417 = false →
    v_ports = s.ports) (h_lasers : m.testBit 418 = false → v_lasers = s.lasers) (h_power : m.testBit 419 = false → v_power =
    s.power) (h_mode : m.testBit 420 = false → v_mode = s.mode) (h_injects : m.testBit 421 = false → v_injects = s.injects)
    (h_bists : m.testBit 422 = false → v_bists = s.bists) (h_gondola : m.testBit 423 = false → v_gondola = s.gondola) (h_sec :
    m.testBit 424 = false → v_sec = s.sec) (h_book : m.testBit 425 = false → v_book = s.book) (h_msix : m.testBit 426 = false →
    v_msix = s.msix) (h_vfs : m.testBit 427 = false → v_vfs = s.vfs) (h_edge : m.testBit 428 = false → v_edge = s.edge)
    (h_rehearsal : m.testBit 429 = false → v_rehearsal = s.rehearsal) (h_out : m.testBit 430 = false → v_out = s.out)
    (h_fresh : m.testBit 431 = false → v_fresh = s.fresh) :
    Same m r (State.mk v_pending v_clock v_free v_fuses s.regs s.analog v_reel v_host v_fru v_cmds v_recs v_fences v_queues
    v_parts v_cores v_carrier v_links v_ports v_lasers v_power v_mode v_injects v_bists v_gondola v_sec v_book v_msix v_vfs
    v_edge v_rehearsal v_out v_fresh) :=
  h.trans ⟨fun _ _ _ _ => rfl, fun _ _ _ _ => rfl, h_pending, h_clock, h_free, h_fuses, h_reel, h_host, h_fru, h_cmds, h_recs,
    h_fences, h_queues, h_parts, h_cores, h_carrier, h_links, h_ports, h_lasers, h_power, h_mode, h_injects, h_bists, h_gondola,
    h_sec, h_book, h_msix, h_vfs, h_edge, h_rehearsal, h_out, h_fresh⟩

/-- Fields with different numbers have different indices in the registers' table. -/
theorem Field.key_ne {f g : Field} (h : f.code ≠ g.code) (i j : Nat) : f.key i ≠ g.key j := by
  unfold Field.key; omega

theorem State.get_put_code (s : State) {f g : Field} (h : f.code ≠ g.code) (i j v : Nat) : (s.put g j v).get f i = s.get f i := by
  have k := Field.key_ne h i j
  exact Tab.get_splice f.reset s.regs _ (g.key j) 1 (f.key i) (Tab.mem_one g.reset (g.key j) (v % 2 ^ g.width)) (by omega)

theorem ne_of_bits {m a b : Nat} (ha : m.testBit a = false) (hb : m.testBit b = true) : a ≠ b := by
  intro e; subst e; rw [ha] at hb; cases hb

theorem State.put_frame {m : Nat} {r s : State} {f : Field} {i v : Nat} (hf : m.testBit f.code = true) (h : Same m r s) :
    Same m r (s.put f i v) :=
  h.trans ⟨fun _ _ _ b => State.get_put_code s (ne_of_bits b hf) _ _ _, fun _ _ _ _ => rfl, fun _ => rfl, fun _ => rfl, fun _ =>
    rfl, fun _ => rfl, fun _ => rfl, fun _ => rfl, fun _ => rfl, fun _ => rfl, fun _ => rfl, fun _ => rfl, fun _ => rfl, fun _
    => rfl, fun _ => rfl, fun _ => rfl, fun _ => rfl, fun _ => rfl, fun _ => rfl, fun _ => rfl, fun _ => rfl, fun _ => rfl, fun
    _ => rfl, fun _ => rfl, fun _ => rfl, fun _ => rfl, fun _ => rfl, fun _ => rfl, fun _ => rfl, fun _ => rfl, fun _ => rfl, fun _ => rfl⟩

theorem State.getA_putA_code (s : State) {f g : Field} (h : f.code ≠ g.code) (i j v : Nat) : (s.putA g j v).getA f i = s.getA f
    i := by
  have k := Field.key_ne h i j
  exact Tab.get_splice f.reset s.analog [(g.key j, v % 2 ^ g.width)] (g.key j) 1 (f.key i) (by simp) (by omega)

theorem State.putA_frame {m : Nat} {r s : State} {f : Field} {i v : Nat} (hf : m.testBit f.code = true) (h : Same m r s) :
    Same m r (s.putA f i v) :=
  h.trans ⟨fun _ _ _ _ => rfl, fun _ _ _ b => State.getA_putA_code s (ne_of_bits b hf) _ _ _, fun _ => rfl, fun _ => rfl, fun _
    => rfl, fun _ => rfl, fun _ => rfl, fun _ => rfl, fun _ => rfl, fun _ => rfl, fun _ => rfl, fun _ => rfl, fun _ => rfl, fun
    _ => rfl, fun _ => rfl, fun _ => rfl, fun _ => rfl, fun _ => rfl, fun _ => rfl, fun _ => rfl, fun _ => rfl, fun _ => rfl,
    fun _ => rfl, fun _ => rfl, fun _ => rfl, fun _ => rfl, fun _ => rfl, fun _ => rfl, fun _ => rfl, fun _ => rfl, fun _ =>
    rfl, fun _ => rfl⟩

end Sys2Proof.Machine
end

