-- ==== Sys2Proof/Laws/FrameOps.lean ====
section
/-! SUPPORT. Frames of the functions of Machine/Ops.lean (Laws/Frame.lean). -/

namespace Sys2Proof.Machine

set_option linter.unreachableTactic false
set_option linter.unusedTactic false
set_option linter.unusedVariables false

theorem State.inc_frame {mm : Nat} {rr : State} {s : State} {f : Field} {i n : Nat} (hf0 : mm.testBit f.code = true) (hm0 : 0x0 ||| mm = mm)
    (hv : Same mm rr s) : Same mm rr (State.inc s f i n) := by
  unfold State.inc
  try dsimp only
  repeat' first
    | with_reducible exact Same.refl
    | with_reducible assumption
    | with_reducible apply Same.ite
    | ((with_reducible apply State.put_frame); (first | decide | with_reducible assumption | exact or_sub (by decide) hm0 | exact bit_of_or hm0 (by decide)))
    | with_reducible apply Same.foldl
    | with_reducible apply Same.foldl1
    | intro _ _ _
    | intro _ _
    | (fail_if_no_progress ((with_reducible apply Same.upd) <;> first | (intro hb; first | with_reducible rfl | (exfalso; revert hb; decide) | exact absurd (testBit_of_or hm0 hb) (by decide)) | skip))
    | dsimp only
    | split

theorem State.setEvent_frame {mm : Nat} {rr : State} {s : State} {f : Field} {i : Nat} (hf0 : mm.testBit f.code = true) (hm0 : 0x800000000000000000000000000000000000000000000000000000000000000000000000000000000000000000000000000000000000 ||| mm = mm)
    (hv : Same mm rr s) : Same mm rr (State.setEvent s f i) := by
  unfold State.setEvent
  try dsimp only
  repeat' first
    | with_reducible exact Same.refl
    | with_reducible assumption
    | with_reducible apply Same.ite
    | ((with_reducible apply State.put_frame); (first | decide | with_reducible assumption | exact or_sub (by decide) hm0 | exact bit_of_or hm0 (by decide)))
    | with_reducible apply Same.foldl
    | with_reducible apply Same.foldl1
    | intro _ _ _
    | intro _ _
    | (fail_if_no_progress ((with_reducible apply Same.upd) <;> first | (intro hb; first | with_reducible rfl | (exfalso; revert hb; decide) | exact absurd (testBit_of_or hm0 hb) (by decide)) | skip))
    | dsimp only
    | split

theorem State.incA_frame {mm : Nat} {rr : State} {s : State} {f : Field} {i n : Nat} (hf0 : mm.testBit f.code = true) (hm0 : 0x0 ||| mm = mm)
    (hv : Same mm rr s) : Same mm rr (State.incA s f i n) := by
  unfold State.incA
  try dsimp only
  repeat' first
    | with_reducible exact Same.refl
    | with_reducible assumption
    | with_reducible apply Same.ite
    | ((with_reducible apply State.putA_frame); (first | decide | with_reducible assumption | exact or_sub (by decide) hm0 | exact bit_of_or hm0 (by decide)))
    | with_reducible apply Same.foldl
    | with_reducible apply Same.foldl1
    | intro _ _ _
    | intro _ _
    | (fail_if_no_progress ((with_reducible apply Same.upd) <;> first | (intro hb; first | with_reducible rfl | (exfalso; revert hb; decide) | exact absurd (testBit_of_or hm0 hb) (by decide)) | skip))
    | dsimp only
    | split

theorem State.confine_frame {mm : Nat} {rr s t : State} (hb : mm.testBit 425 = true) (h : Same mm rr s) (k : Same mm rr t) :
    Same mm rr (State.confine s t) :=
  ⟨h.reg, k.ana, h.pending, h.clock, h.free, h.fuses, h.reel, h.host, h.fru, h.cmds, h.recs, h.fences, h.queues, h.parts, h.cores, h.carrier, h.links, h.ports, h.lasers, h.power, h.mode, h.injects, h.bists, h.gondola, h.sec, fun b => absurd (hb.symm.trans b) (by decide), h.msix, h.vfs, h.edge, h.rehearsal, h.out, h.fresh⟩

theorem State.setPart_frame {s : State} {p : Nat} {x : Part} : Same 0x20000000000000000000000000000000000000000000000000000000000000000000000000000000000000000000000000000000 s (State.setPart s p x) := by
  unfold State.setPart
  try dsimp only
  repeat' first
    | with_reducible exact Same.refl
    | with_reducible assumption
    | with_reducible apply Same.ite
    | with_reducible apply Same.foldl
    | with_reducible apply Same.foldl1
    | intro _ _ _
    | intro _ _
    | (fail_if_no_progress ((with_reducible apply Same.upd) <;> first | (intro hb; first | with_reducible rfl | (exfalso; revert hb; decide)) | skip))
    | dsimp only
    | split

theorem State.modPart_frame {s : State} {p : Nat} {f : Part → Part} : Same 0x20000000000000000000000000000000000000000000000000000000000000000000000000000000000000000000000000000000 s (State.modPart s p f) := by
  unfold State.modPart
  try dsimp only
  repeat' first
    | with_reducible exact Same.refl
    | with_reducible assumption
    | with_reducible apply Same.ite
    | ((with_reducible apply Same.via State.setPart_frame); decide)
    | with_reducible apply Same.foldl
    | with_reducible apply Same.foldl1
    | intro _ _ _
    | intro _ _
    | (fail_if_no_progress ((with_reducible apply Same.upd) <;> first | (intro hb; first | with_reducible rfl | (exfalso; revert hb; decide)) | skip))
    | dsimp only
    | split

theorem State.modBind_frame {s : State} {p : Nat} {f : PartBind → PartBind} : Same 0x20000000000000000000000000000000000000000000000000000000000000000000000000000000000000000000000000000000 s (State.modBind s p f) := by
  unfold State.modBind
  try dsimp only
  repeat' first
    | with_reducible exact Same.refl
    | with_reducible assumption
    | with_reducible apply Same.ite
    | ((with_reducible apply Same.via State.modPart_frame); decide)
    | with_reducible apply Same.foldl
    | with_reducible apply Same.foldl1
    | intro _ _ _
    | intro _ _
    | (fail_if_no_progress ((with_reducible apply Same.upd) <;> first | (intro hb; first | with_reducible rfl | (exfalso; revert hb; decide)) | skip))
    | dsimp only
    | split

theorem State.modRun_frame {s : State} {p : Nat} {f : PartRun → PartRun} : Same 0x20000000000000000000000000000000000000000000000000000000000000000000000000000000000000000000000000000000 s (State.modRun s p f) := by
  unfold State.modRun
  try dsimp only
  repeat' first
    | with_reducible exact Same.refl
    | with_reducible assumption
    | with_reducible apply Same.ite
    | ((with_reducible apply Same.via State.modPart_frame); decide)
    | with_reducible apply Same.foldl
    | with_reducible apply Same.foldl1
    | intro _ _ _
    | intro _ _
    | (fail_if_no_progress ((with_reducible apply Same.upd) <;> first | (intro hb; first | with_reducible rfl | (exfalso; revert hb; decide)) | skip))
    | dsimp only
    | split

theorem State.modStrm_frame {s : State} {p : Nat} {f : PartStream → PartStream} : Same 0x20000000000000000000000000000000000000000000000000000000000000000000000000000000000000000000000000000000 s (State.modStrm s p f) := by
  unfold State.modStrm
  try dsimp only
  repeat' first
    | with_reducible exact Same.refl
    | with_reducible assumption
    | with_reducible apply Same.ite
    | ((with_reducible apply Same.via State.modPart_frame); decide)
    | with_reducible apply Same.foldl
    | with_reducible apply Same.foldl1
    | intro _ _ _
    | intro _ _
    | (fail_if_no_progress ((with_reducible apply Same.upd) <;> first | (intro hb; first | with_reducible rfl | (exfalso; revert hb; decide)) | skip))
    | dsimp only
    | split

theorem State.setCore_frame {s : State} {n : Nat} {x : Core} : Same 0x40000000000000000000000000000000000000000000000000000000000000000000000000000000000000000000000000000000 s (State.setCore s n x) := by
  unfold State.setCore
  try dsimp only
  repeat' first
    | with_reducible exact Same.refl
    | with_reducible assumption
    | with_reducible apply Same.ite
    | with_reducible apply Same.foldl
    | with_reducible apply Same.foldl1
    | intro _ _ _
    | intro _ _
    | (fail_if_no_progress ((with_reducible apply Same.upd) <;> first | (intro hb; first | with_reducible rfl | (exfalso; revert hb; decide)) | skip))
    | dsimp only
    | split

theorem State.modCore_frame {s : State} {n : Nat} {f : Core → Core} : Same 0x40000000000000000000000000000000000000000000000000000000000000000000000000000000000000000000000000000000 s (State.modCore s n f) := by
  unfold State.modCore
  try dsimp only
  repeat' first
    | with_reducible exact Same.refl
    | with_reducible assumption
    | with_reducible apply Same.ite
    | ((with_reducible apply Same.via State.setCore_frame); decide)
    | with_reducible apply Same.foldl
    | with_reducible apply Same.foldl1
    | intro _ _ _
    | intro _ _
    | (fail_if_no_progress ((with_reducible apply Same.upd) <;> first | (intro hb; first | with_reducible rfl | (exfalso; revert hb; decide)) | skip))
    | dsimp only
    | split

theorem State.setPort_frame {s : State} {n : Nat} {x : Port} : Same 0x200000000000000000000000000000000000000000000000000000000000000000000000000000000000000000000000000000000 s (State.setPort s n x) := by
  unfold State.setPort
  try dsimp only
  repeat' first
    | with_reducible exact Same.refl
    | with_reducible assumption
    | with_reducible apply Same.ite
    | with_reducible apply Same.foldl
    | with_reducible apply Same.foldl1
    | intro _ _ _
    | intro _ _
    | (fail_if_no_progress ((with_reducible apply Same.upd) <;> first | (intro hb; first | with_reducible rfl | (exfalso; revert hb; decide)) | skip))
    | dsimp only
    | split

theorem State.modPort_frame {s : State} {n : Nat} {f : Port → Port} : Same 0x200000000000000000000000000000000000000000000000000000000000000000000000000000000000000000000000000000000 s (State.modPort s n f) := by
  unfold State.modPort
  try dsimp only
  repeat' first
    | with_reducible exact Same.refl
    | with_reducible assumption
    | with_reducible apply Same.ite
    | ((with_reducible apply Same.via State.setPort_frame); decide)
    | with_reducible apply Same.foldl
    | with_reducible apply Same.foldl1
    | intro _ _ _
    | intro _ _
    | (fail_if_no_progress ((with_reducible apply Same.upd) <;> first | (intro hb; first | with_reducible rfl | (exfalso; revert hb; decide)) | skip))
    | dsimp only
    | split

theorem State.setLaser_frame {s : State} {e : Nat} {x : Laser} : Same 0x400000000000000000000000000000000000000000000000000000000000000000000000000000000000000000000000000000000 s (State.setLaser s e x) := by
  unfold State.setLaser
  try dsimp only
  repeat' first
    | with_reducible exact Same.refl
    | with_reducible assumption
    | with_reducible apply Same.ite
    | with_reducible apply Same.foldl
    | with_reducible apply Same.foldl1
    | intro _ _ _
    | intro _ _
    | (fail_if_no_progress ((with_reducible apply Same.upd) <;> first | (intro hb; first | with_reducible rfl | (exfalso; revert hb; decide)) | skip))
    | dsimp only
    | split

theorem State.setDomain_frame {s : State} {d : Nat} {x : Domain} : Same 0x800000000000000000000000000000000000000000000000000000000000000000000000000000000000000000000000000000000 s (State.setDomain s d x) := by
  unfold State.setDomain
  try dsimp only
  repeat' first
    | with_reducible exact Same.refl
    | with_reducible assumption
    | with_reducible apply Same.ite
    | with_reducible apply Same.foldl
    | with_reducible apply Same.foldl1
    | intro _ _ _
    | intro _ _
    | (fail_if_no_progress ((with_reducible apply Same.upd) <;> first | (intro hb; first | with_reducible rfl | (exfalso; revert hb; decide)) | skip))
    | dsimp only
    | split

theorem State.setQueue_frame {s : State} {q : Nat} {x : QueueSt} : Same 0x10000000000000000000000000000000000000000000000000000000000000000000000000000000000000000000000000000000 s (State.setQueue s q x) := by
  unfold State.setQueue
  try dsimp only
  repeat' first
    | with_reducible exact Same.refl
    | with_reducible assumption
    | with_reducible apply Same.ite
    | with_reducible apply Same.foldl
    | with_reducible apply Same.foldl1
    | intro _ _ _
    | intro _ _
    | (fail_if_no_progress ((with_reducible apply Same.upd) <;> first | (intro hb; first | with_reducible rfl | (exfalso; revert hb; decide)) | skip))
    | dsimp only
    | split

theorem State.setTracker_frame {s : State} {n : Nat} {x : Tracker} : Same 0x400000000000000000000000000000000000000000000000000000000000000000000000000000000000000000000000000000 s (State.setTracker s n x) := by
  unfold State.setTracker
  try dsimp only
  repeat' first
    | with_reducible exact Same.refl
    | with_reducible assumption
    | with_reducible apply Same.ite
    | with_reducible apply Same.foldl
    | with_reducible apply Same.foldl1
    | intro _ _ _
    | intro _ _
    | (fail_if_no_progress ((with_reducible apply Same.upd) <;> first | (intro hb; first | with_reducible rfl | (exfalso; revert hb; decide)) | skip))
    | dsimp only
    | split

theorem State.setLink_frame {s : State} {n : Nat} {x : Link} : Same 0x100000000000000000000000000000000000000000000000000000000000000000000000000000000000000000000000000000000 s (State.setLink s n x) := by
  unfold State.setLink
  try dsimp only
  repeat' first
    | with_reducible exact Same.refl
    | with_reducible assumption
    | with_reducible apply Same.ite
    | with_reducible apply Same.foldl
    | with_reducible apply Same.foldl1
    | intro _ _ _
    | intro _ _
    | (fail_if_no_progress ((with_reducible apply Same.upd) <;> first | (intro hb; first | with_reducible rfl | (exfalso; revert hb; decide)) | skip))
    | dsimp only
    | split

theorem State.setMsix_frame {s : State} {fn : Nat} {x : Msix} : Same 0x40000000000000000000000000000000000000000000000000000000000000000000000000000000000000000000000000000000000 s (State.setMsix s fn x) := by
  unfold State.setMsix
  try dsimp only
  repeat' first
    | with_reducible exact Same.refl
    | with_reducible assumption
    | with_reducible apply Same.ite
    | with_reducible apply Same.foldl
    | with_reducible apply Same.foldl1
    | intro _ _ _
    | intro _ _
    | (fail_if_no_progress ((with_reducible apply Same.upd) <;> first | (intro hb; first | with_reducible rfl | (exfalso; revert hb; decide)) | skip))
    | dsimp only
    | split

theorem State.advance_frame {s : State} {t : Nat} : Same 0x20000000000000000000000000000000000000000000000000000000000000000000000000000000000000000000000000000 s (State.advance s t) := by
  unfold State.advance
  try dsimp only
  repeat' first
    | with_reducible exact Same.refl
    | with_reducible assumption
    | with_reducible apply Same.ite
    | with_reducible apply Same.foldl
    | with_reducible apply Same.foldl1
    | intro _ _ _
    | intro _ _
    | (fail_if_no_progress ((with_reducible apply Same.upd) <;> first | (intro hb; first | with_reducible rfl | (exfalso; revert hb; decide)) | skip))
    | dsimp only
    | split

theorem State.setNow_frame {s : State} {t : Nat} : Same 0x20000000000000000000000000000000000000000000000000000000000000000000000000000000000000000000000000000 s (State.setNow s t) := by
  unfold State.setNow
  try dsimp only
  repeat' first
    | with_reducible exact Same.refl
    | with_reducible assumption
    | with_reducible apply Same.ite
    | with_reducible apply Same.foldl
    | with_reducible apply Same.foldl1
    | intro _ _ _
    | intro _ _
    | (fail_if_no_progress ((with_reducible apply Same.upd) <;> first | (intro hb; first | with_reducible rfl | (exfalso; revert hb; decide)) | skip))
    | dsimp only
    | split

theorem State.draw_frame {s : State} : Same 0x40000000000000000000000000000000000000000000000000000000000000000000000000000000000000000000000000000 s (State.draw s).2 := by
  unfold State.draw
  try dsimp only
  repeat' first
    | with_reducible exact Same.refl
    | with_reducible assumption
    | with_reducible apply Same.ite
    | with_reducible apply Same.foldl
    | with_reducible apply Same.foldl1
    | intro _ _ _
    | intro _ _
    | (fail_if_no_progress ((with_reducible apply Same.upd) <;> first | (intro hb; first | with_reducible rfl | (exfalso; revert hb; decide)) | skip))
    | dsimp only
    | split

theorem State.send_frame {s : State} {o : Out} : Same 0x400000000000000000000000000000000000000000000000000000000000000000000000000000000000000000000000000000000000 s (State.send s o) := by
  unfold State.send
  try dsimp only
  repeat' first
    | with_reducible exact Same.refl
    | with_reducible assumption
    | with_reducible apply Same.ite
    | with_reducible apply Same.foldl
    | with_reducible apply Same.foldl1
    | intro _ _ _
    | intro _ _
    | (fail_if_no_progress ((with_reducible apply Same.upd) <;> first | (intro hb; first | with_reducible rfl | (exfalso; revert hb; decide)) | skip))
    | dsimp only
    | split

theorem State.queueMsg_frame {s : State} {n type : Nat} {body : Bytes} : Same 0x200000000000000000000000000000000000000000000000000000000000000000000000000000000000000000000000000000000 s (State.queueMsg s n type body) := by
  unfold State.queueMsg
  try dsimp only
  repeat' first
    | with_reducible exact Same.refl
    | with_reducible assumption
    | with_reducible apply Same.ite
    | ((with_reducible apply Same.via State.modPort_frame); decide)
    | with_reducible apply Same.foldl
    | with_reducible apply Same.foldl1
    | intro _ _ _
    | intro _ _
    | (fail_if_no_progress ((with_reducible apply Same.upd) <;> first | (intro hb; first | with_reducible rfl | (exfalso; revert hb; decide)) | skip))
    | dsimp only
    | split

theorem State.atNextEdge_frame {s : State} {r : EdgeReq} : Same 0x100000000000000000000000000000000000000000000000000000000000000000000000000000000000000000000000000000000000 s (State.atNextEdge s r) := by
  unfold State.atNextEdge
  try dsimp only
  repeat' first
    | with_reducible exact Same.refl
    | with_reducible assumption
    | with_reducible apply Same.ite
    | with_reducible apply Same.foldl
    | with_reducible apply Same.foldl1
    | intro _ _ _
    | intro _ _
    | (fail_if_no_progress ((with_reducible apply Same.upd) <;> first | (intro hb; first | with_reducible rfl | (exfalso; revert hb; decide)) | skip))
    | dsimp only
    | split

theorem State.hostWrite_frame {s : State} {a : Nat} {bs : Bytes} : Same 0x800000000000000000000000000000000000000000000000000000000000000000000000000000000000000000000000000000 s (State.hostWrite s a bs) := by
  unfold State.hostWrite
  try dsimp only
  repeat' first
    | with_reducible exact Same.refl
    | with_reducible assumption
    | with_reducible apply Same.ite
    | with_reducible apply Same.foldl
    | with_reducible apply Same.foldl1
    | intro _ _ _
    | intro _ _
    | (fail_if_no_progress ((with_reducible apply Same.upd) <;> first | (intro hb; first | with_reducible rfl | (exfalso; revert hb; decide)) | skip))
    | dsimp only
    | split

theorem State.whenBooted_frame {mm : Nat} {rr s t : State} (h : Same mm rr s) (k : Same mm rr t) : Same mm rr (State.whenBooted s t) := by
  unfold State.whenBooted
  split <;> assumption

theorem State.viaFirmware_frame {mm : Nat} {rr s t : State} {i : Instr} (hm0 : 0x100000000000000000000000000000000000000000000000000000000000000000000000000000000000000000000000000000000000 ||| mm = mm) (h : Same mm rr s)
    (k : Same mm rr t) : Same mm rr (State.viaFirmware s i t) := by
  unfold State.viaFirmware
  split
  · with_reducible apply Same.via State.atNextEdge_frame
    · exact or_sub (by decide) hm0
    · assumption
  · assumption

end Sys2Proof.Machine
end

