-- ==== Sys2Proof/Laws/FrameLogbook.lean ====
section
/-! SUPPORT. Frames of the functions of Machine/Logbook.lean (Laws/Frame.lean). -/

namespace Sys2Proof.Machine

set_option linter.unreachableTactic false
set_option linter.unusedTactic false
set_option linter.unusedVariables false

theorem State.createTally_frame {s : State} {t : Tally} : Same 0x2000000000000000000000000000000000000c000000000000000000000000000000000000000000000000000000000000000000000 s (State.createTally s t) := by
  unfold State.createTally
  try dsimp only
  repeat' first
    | with_reducible exact Same.refl
    | with_reducible assumption
    | with_reducible apply Same.ite
    | ((with_reducible apply State.incA_frame); (decide); decide)
    | with_reducible apply Same.foldl
    | with_reducible apply Same.foldl1
    | intro _ _ _
    | intro _ _
    | (fail_if_no_progress ((with_reducible apply Same.upd) <;> first | (intro hb; first | with_reducible rfl | (exfalso; revert hb; decide)) | skip))
    | dsimp only
    | split

theorem State.applyEvent_frame {s : State} {st code subject arg : Nat} {reh : Bool} : Same 0x2000000000000000000000000000000000001c000000000000000000000000000000000000000000000000000000000000000000000 s (State.applyEvent s st code subject arg reh) := by
  unfold State.applyEvent
  try dsimp only
  repeat' first
    | with_reducible exact Same.refl
    | with_reducible assumption
    | with_reducible apply Same.ite
    | ((with_reducible apply State.putA_frame); decide)
    | ((with_reducible apply Same.via State.createTally_frame); decide)
    | with_reducible apply Same.foldl
    | with_reducible apply Same.foldl1
    | intro _ _ _
    | intro _ _
    | (fail_if_no_progress ((with_reducible apply Same.upd) <;> first | (intro hb; first | with_reducible rfl | (exfalso; revert hb; decide)) | skip))
    | dsimp only
    | split

theorem State.applySample_frame {s : State} {st hcode subject : Nat} {x : Int} : Same 0x20000000000000000000000000000000000010000000000000000000000000000000000000000000000000000000000000000000000 s (State.applySample s st hcode subject x) := by
  unfold State.applySample
  try dsimp only
  repeat' first
    | with_reducible exact Same.refl
    | with_reducible assumption
    | with_reducible apply Same.ite
    | ((with_reducible apply State.putA_frame); decide)
    | with_reducible apply Same.foldl
    | with_reducible apply Same.foldl1
    | intro _ _ _
    | intro _ _
    | (fail_if_no_progress ((with_reducible apply Same.upd) <;> first | (intro hb; first | with_reducible rfl | (exfalso; revert hb; decide)) | skip))
    | dsimp only
    | split

theorem State.applyUpdate_frame {s : State} {st : Nat} {vx : Update} : Same 0x2000000000000000000000000000000000001c000000000000000000000000000000000000000000000000000000000000000000000 s (State.applyUpdate s st vx) := by
  unfold State.applyUpdate
  try dsimp only
  repeat' first
    | with_reducible exact Same.refl
    | with_reducible assumption
    | with_reducible apply Same.ite
    | ((with_reducible apply Same.via State.applyEvent_frame); decide)
    | ((with_reducible apply Same.via State.applySample_frame); decide)
    | with_reducible apply Same.foldl
    | with_reducible apply Same.foldl1
    | intro _ _ _
    | intro _ _
    | (fail_if_no_progress ((with_reducible apply Same.upd) <;> first | (intro hb; first | with_reducible rfl | (exfalso; revert hb; decide)) | skip))
    | dsimp only
    | split

theorem State.update_frame {s : State} {u : Update} : Same 0x2000000000000000000000000000000000001c000000000000000000000000000000000000000000000000000000000000000000000 s (State.update s u) := by
  unfold State.update
  try dsimp only
  repeat' first
    | with_reducible exact Same.refl
    | with_reducible assumption
    | with_reducible apply Same.ite
    | ((with_reducible apply Same.via State.applyUpdate_frame); decide)
    | with_reducible apply Same.foldl
    | with_reducible apply Same.foldl1
    | intro _ _ _
    | intro _ _
    | (fail_if_no_progress ((with_reducible apply Same.upd) <;> first | (intro hb; first | with_reducible rfl | (exfalso; revert hb; decide)) | skip))
    | dsimp only
    | split

theorem State.event_frame {s : State} {code subject arg : Nat} : Same 0x2000000000000000000000000000000000001c000000000000000000000000000000000000000000000000000000000000000000000 s (State.event s code subject arg) := by
  unfold State.event
  try dsimp only
  repeat' first
    | with_reducible exact Same.refl
    | with_reducible assumption
    | with_reducible apply Same.ite
    | ((with_reducible apply Same.via State.update_frame); decide)
    | with_reducible apply Same.foldl
    | with_reducible apply Same.foldl1
    | intro _ _ _
    | intro _ _
    | (fail_if_no_progress ((with_reducible apply Same.upd) <;> first | (intro hb; first | with_reducible rfl | (exfalso; revert hb; decide)) | skip))
    | dsimp only
    | split

theorem State.sample_frame {s : State} {hcode subject : Nat} {x : Int} : Same 0x2000000000000000000000000000000000001c000000000000000000000000000000000000000000000000000000000000000000000 s (State.sample s hcode subject x) := by
  unfold State.sample
  try dsimp only
  repeat' first
    | with_reducible exact Same.refl
    | with_reducible assumption
    | with_reducible apply Same.ite
    | ((with_reducible apply Same.via State.update_frame); decide)
    | with_reducible apply Same.foldl
    | with_reducible apply Same.foldl1
    | intro _ _ _
    | intro _ _
    | (fail_if_no_progress ((with_reducible apply Same.upd) <;> first | (intro hb; first | with_reducible rfl | (exfalso; revert hb; decide)) | skip))
    | dsimp only
    | split

theorem State.applyViews_frame {s : State} : Same 0x20000000000000000000000000000000001000000000000000000000000000000000000000000000000000000000000000000000000 s (State.applyViews s) := by
  unfold State.applyViews
  try dsimp only
  repeat' first
    | with_reducible exact Same.refl
    | with_reducible assumption
    | with_reducible apply Same.ite
    | ((with_reducible apply State.putA_frame); decide)
    | with_reducible apply Same.foldl
    | with_reducible apply Same.foldl1
    | intro _ _ _
    | intro _ _
    | (fail_if_no_progress ((with_reducible apply Same.upd) <;> first | (intro hb; first | with_reducible rfl | (exfalso; revert hb; decide)) | skip))
    | dsimp only
    | split

theorem State.storeBook_frame {s : State} {orderly : Bool} : Same 0x20000000000000000000000000000000000000000000000000000000000000000000000000000000000000000000000000000000000 s (State.storeBook s orderly) := by
  unfold State.storeBook
  try dsimp only
  repeat' first
    | with_reducible exact Same.refl
    | with_reducible assumption
    | with_reducible apply Same.ite
    | with_reducible apply Same.foldl
    | with_reducible apply Same.foldl1
    | intro _ _ _
    | intro _ _
    | (fail_if_no_progress ((with_reducible apply Same.upd) <;> first | (intro hb; first | with_reducible rfl | (exfalso; revert hb; decide)) | skip))
    | dsimp only
    | split

theorem State.applyQueued_frame {s : State} {x : Nat × Nat × Update} : Same 0x2000000000000000000000000000000000001c000000000000000000000000000000000000000000000000000000000000000000000 s (State.applyQueued s x) := by
  unfold State.applyQueued
  try dsimp only
  repeat' first
    | with_reducible exact Same.refl
    | with_reducible assumption
    | with_reducible apply Same.ite
    | ((with_reducible apply Same.via State.applyUpdate_frame); decide)
    | with_reducible apply Same.foldl
    | with_reducible apply Same.foldl1
    | intro _ _ _
    | intro _ _
    | (fail_if_no_progress ((with_reducible apply Same.upd) <;> first | (intro hb; first | with_reducible rfl | (exfalso; revert hb; decide)) | skip))
    | dsimp only
    | split

theorem State.thaw_frame {s : State} : Same 0x2000000000000000000000000000000000011c000000000000000000000000000000000000000000000000000000000000000000000 s (State.thaw s) := by
  unfold State.thaw
  try dsimp only
  repeat' first
    | with_reducible exact Same.refl
    | with_reducible assumption
    | with_reducible apply Same.ite
    | ((with_reducible apply Same.via State.applyQueued_frame); decide)
    | ((with_reducible apply State.put_frame); decide)
    | ((with_reducible apply Same.via State.storeBook_frame); decide)
    | with_reducible apply Same.foldl
    | with_reducible apply Same.foldl1
    | intro _ _ _
    | intro _ _
    | (fail_if_no_progress ((with_reducible apply Same.upd) <;> first | (intro hb; first | with_reducible rfl | (exfalso; revert hb; decide)) | skip))
    | dsimp only
    | split

theorem State.storeOrderly_frame {s : State} : Same 0x20000000000000000000000000000000000000000000000000000000000000000000000000000000000000000000000000000000000 s (State.storeOrderly s) := by
  unfold State.storeOrderly
  try dsimp only
  repeat' first
    | with_reducible exact Same.refl
    | with_reducible assumption
    | with_reducible apply Same.ite
    | ((with_reducible apply Same.via State.storeBook_frame); decide)
    | with_reducible apply Same.foldl
    | with_reducible apply Same.foldl1
    | intro _ _ _
    | intro _ _
    | (fail_if_no_progress ((with_reducible apply Same.upd) <;> first | (intro hb; first | with_reducible rfl | (exfalso; revert hb; decide)) | skip))
    | dsimp only
    | split

end Sys2Proof.Machine
end

