-- ==== Sys2Proof/Laws/FrameFlags.lean ====
section
/-! SUPPORT. Frames of the functions of Machine/Flags.lean (Laws/Frame.lean). -/

namespace Sys2Proof.Machine

set_option linter.unreachableTactic false
set_option linter.unusedTactic false
set_option linter.unusedVariables false

theorem State.reelEvent_frame {mm : Nat} {rr : State} {s : State} {f : Field} (hf0 : mm.testBit f.code = true) (hm0 : 0x82000000000000000000000000000000000001c000000000000000000000000000000000000000000000000000000000000000000000 ||| mm = mm)
    (hv : Same mm rr s) : Same mm rr (State.reelEvent s f) := by
  unfold State.reelEvent
  try dsimp only
  repeat' first
    | with_reducible exact Same.refl
    | with_reducible assumption
    | with_reducible apply Same.ite
    | ((with_reducible apply State.setEvent_frame); (first | decide | with_reducible assumption | exact or_sub (by decide) hm0 | exact bit_of_or hm0 (by decide)); (first | decide | with_reducible assumption | exact or_sub (by decide) hm0 | exact bit_of_or hm0 (by decide)))
    | ((with_reducible apply Same.via State.event_frame); (first | decide | with_reducible assumption | exact or_sub (by decide) hm0 | exact bit_of_or hm0 (by decide)))
    | with_reducible apply Same.foldl
    | with_reducible apply Same.foldl1
    | intro _ _ _
    | intro _ _
    | (fail_if_no_progress ((with_reducible apply Same.upd) <;> first | (intro hb; first | with_reducible rfl | (exfalso; revert hb; decide) | exact absurd (testBit_of_or hm0 hb) (by decide)) | skip))
    | dsimp only
    | split

theorem State.partEvent_frame {mm : Nat} {rr : State} {s : State} {f : Field} {p : Nat} (hf0 : mm.testBit f.code = true) (hm0 : 0x82002000000000000000000000000000000001c000000000000000000000000000000000000000000000000000000000000000000000 ||| mm = mm)
    (hv : Same mm rr s) : Same mm rr (State.partEvent s f p) := by
  unfold State.partEvent
  try dsimp only
  repeat' first
    | with_reducible exact Same.refl
    | with_reducible assumption
    | with_reducible apply Same.ite
    | ((with_reducible apply State.setEvent_frame); (first | decide | with_reducible assumption | exact or_sub (by decide) hm0 | exact bit_of_or hm0 (by decide)); (first | decide | with_reducible assumption | exact or_sub (by decide) hm0 | exact bit_of_or hm0 (by decide)))
    | ((with_reducible apply Same.via State.modRun_frame); (first | decide | with_reducible assumption | exact or_sub (by decide) hm0 | exact bit_of_or hm0 (by decide)))
    | ((with_reducible apply Same.via State.event_frame); (first | decide | with_reducible assumption | exact or_sub (by decide) hm0 | exact bit_of_or hm0 (by decide)))
    | with_reducible apply Same.foldl
    | with_reducible apply Same.foldl1
    | intro _ _ _
    | intro _ _
    | (fail_if_no_progress ((with_reducible apply Same.upd) <;> first | (intro hb; first | with_reducible rfl | (exfalso; revert hb; decide) | exact absurd (testBit_of_or hm0 hb) (by decide)) | skip))
    | dsimp only
    | split

theorem State.tethEvent_frame {mm : Nat} {rr : State} {s : State} {f : Field} {n : Nat} (hf0 : mm.testBit f.code = true) (hm0 : 0x82000000000000000000000000000000000001c000000000000000000000000000000000000000000000000000000000000000000000 ||| mm = mm)
    (hv : Same mm rr s) : Same mm rr (State.tethEvent s f n) := by
  unfold State.tethEvent
  try dsimp only
  repeat' first
    | with_reducible exact Same.refl
    | with_reducible assumption
    | with_reducible apply Same.ite
    | ((with_reducible apply State.setEvent_frame); (first | decide | with_reducible assumption | exact or_sub (by decide) hm0 | exact bit_of_or hm0 (by decide)); (first | decide | with_reducible assumption | exact or_sub (by decide) hm0 | exact bit_of_or hm0 (by decide)))
    | ((with_reducible apply Same.via State.update_frame); (first | decide | with_reducible assumption | exact or_sub (by decide) hm0 | exact bit_of_or hm0 (by decide)))
    | with_reducible apply Same.foldl
    | with_reducible apply Same.foldl1
    | intro _ _ _
    | intro _ _
    | (fail_if_no_progress ((with_reducible apply Same.upd) <;> first | (intro hb; first | with_reducible rfl | (exfalso; revert hb; decide) | exact absurd (testBit_of_or hm0 hb) (by decide)) | skip))
    | dsimp only
    | split

theorem State.tethInc_frame {mm : Nat} {rr : State} {s : State} {f : Field} {n k : Nat} (hf0 : mm.testBit f.code = true) (hm0 : 0x2000000000000000000000000000000000001c000000000000000000000000000000000000000000000000000000000000000000000 ||| mm = mm)
    (hv : Same mm rr s) : Same mm rr (State.tethInc s f n k) := by
  unfold State.tethInc
  try dsimp only
  repeat' first
    | with_reducible exact Same.refl
    | with_reducible assumption
    | with_reducible apply Same.ite
    | ((with_reducible apply State.inc_frame); (first | decide | with_reducible assumption | exact or_sub (by decide) hm0 | exact bit_of_or hm0 (by decide)); (first | decide | with_reducible assumption | exact or_sub (by decide) hm0 | exact bit_of_or hm0 (by decide)))
    | ((with_reducible apply Same.via State.event_frame); (first | decide | with_reducible assumption | exact or_sub (by decide) hm0 | exact bit_of_or hm0 (by decide)))
    | with_reducible apply Same.foldl
    | with_reducible apply Same.foldl1
    | intro _ _ _
    | intro _ _
    | (fail_if_no_progress ((with_reducible apply Same.upd) <;> first | (intro hb; first | with_reducible rfl | (exfalso; revert hb; decide) | exact absurd (testBit_of_or hm0 hb) (by decide)) | skip))
    | dsimp only
    | split

theorem State.ignored_frame {s : State} {off : Nat} : Same 0x2000000000000000000000000000000000001c000000000000000000000000000000000000000000000000000000000000000000000 s (State.ignored s off) := by
  unfold State.ignored
  try dsimp only
  repeat' first
    | with_reducible exact Same.refl
    | with_reducible assumption
    | with_reducible apply Same.ite
    | ((with_reducible apply Same.via State.event_frame); decide)
    | with_reducible apply Same.foldl
    | with_reducible apply Same.foldl1
    | intro _ _ _
    | intro _ _
    | (fail_if_no_progress ((with_reducible apply Same.upd) <;> first | (intro hb; first | with_reducible rfl | (exfalso; revert hb; decide)) | skip))
    | dsimp only
    | split

theorem State.stackState_frame {s : State} {m v : Nat} : Same 0x2000000000000000000000000000000000001c000000000000000000000000000000000000000000000000000002000000000000000 s (State.stackState s m v) := by
  unfold State.stackState
  try dsimp only
  repeat' first
    | with_reducible exact Same.refl
    | with_reducible assumption
    | with_reducible apply Same.ite
    | ((with_reducible apply State.put_frame); decide)
    | ((with_reducible apply Same.via State.event_frame); decide)
    | with_reducible apply Same.foldl
    | with_reducible apply Same.foldl1
    | intro _ _ _
    | intro _ _
    | (fail_if_no_progress ((with_reducible apply Same.upd) <;> first | (intro hb; first | with_reducible rfl | (exfalso; revert hb; decide)) | skip))
    | dsimp only
    | split

theorem State.domainCause_frame {s : State} {d c : Nat} : Same 0x2000000000000000000000000000000000001c000000800000000000000000000000000000000000000000000000000000000000000 s (State.domainCause s d c) := by
  unfold State.domainCause
  try dsimp only
  repeat' first
    | with_reducible exact Same.refl
    | with_reducible assumption
    | with_reducible apply Same.ite
    | ((with_reducible apply State.put_frame); decide)
    | ((with_reducible apply Same.via State.event_frame); decide)
    | with_reducible apply Same.foldl
    | with_reducible apply Same.foldl1
    | intro _ _ _
    | intro _ _
    | (fail_if_no_progress ((with_reducible apply Same.upd) <;> first | (intro hb; first | with_reducible rfl | (exfalso; revert hb; decide)) | skip))
    | dsimp only
    | split

theorem State.raise_frame {s : State} {fn v : Nat} : Same 0x40000000000000000000000000000000000000000000000000000000000000000000000000000000000000000000000000000000000 s (State.raise s fn v) := by
  unfold State.raise
  try dsimp only
  repeat' first
    | with_reducible exact Same.refl
    | with_reducible assumption
    | with_reducible apply Same.ite
    | ((with_reducible apply Same.via State.setMsix_frame); decide)
    | with_reducible apply Same.foldl
    | with_reducible apply Same.foldl1
    | intro _ _ _
    | intro _ _
    | (fail_if_no_progress ((with_reducible apply Same.upd) <;> first | (intro hb; first | with_reducible rfl | (exfalso; revert hb; decide)) | skip))
    | dsimp only
    | split

theorem State.sendVector_frame {s : State} {fn v : Nat} : Same 0x440000000000000000000000000000000000000000000000000000000000000000000000000000000000000000000000000000000000 s (State.sendVector s fn v) := by
  unfold State.sendVector
  try dsimp only
  repeat' first
    | with_reducible exact Same.refl
    | with_reducible assumption
    | with_reducible apply Same.ite
    | ((with_reducible apply Same.via State.setMsix_frame); decide)
    | ((with_reducible apply Same.via State.send_frame); decide)
    | with_reducible apply Same.foldl
    | with_reducible apply Same.foldl1
    | intro _ _ _
    | intro _ _
    | (fail_if_no_progress ((with_reducible apply Same.upd) <;> first | (intro hb; first | with_reducible rfl | (exfalso; revert hb; decide)) | skip))
    | dsimp only
    | split

theorem State.sendMsix_frame {s : State} : Same 0x440000000000000000000000000000000000000000000000000000000000000000000000000000000000000000000000000000000000 s (State.sendMsix s) := by
  unfold State.sendMsix
  try dsimp only
  repeat' first
    | with_reducible exact Same.refl
    | with_reducible assumption
    | with_reducible apply Same.ite
    | ((with_reducible apply Same.via State.setMsix_frame); decide)
    | ((with_reducible apply Same.via State.sendVector_frame); decide)
    | with_reducible apply Same.foldl
    | with_reducible apply Same.foldl1
    | intro _ _ _
    | intro _ _
    | (fail_if_no_progress ((with_reducible apply Same.upd) <;> first | (intro hb; first | with_reducible rfl | (exfalso; revert hb; decide)) | skip))
    | dsimp only
    | split

theorem State.eventVectors_frame {s : State} : Same 0x40020000000000000000000000000000000000000000000000000000000000000000000000000000000000000000000000000000000 s (State.eventVectors s) := by
  unfold State.eventVectors
  try dsimp only
  repeat' first
    | with_reducible exact Same.refl
    | with_reducible assumption
    | with_reducible apply Same.ite
    | ((with_reducible apply Same.via State.modRun_frame); decide)
    | ((with_reducible apply Same.via State.raise_frame); decide)
    | with_reducible apply Same.foldl
    | with_reducible apply Same.foldl1
    | intro _ _ _
    | intro _ _
    | (fail_if_no_progress ((with_reducible apply Same.upd) <;> first | (intro hb; first | with_reducible rfl | (exfalso; revert hb; decide)) | skip))
    | dsimp only
    | split

end Sys2Proof.Machine
end

