-- ==== Sys2Proof/Laws/FrameJournal.lean ====
section
/-! SUPPORT. Frames of the functions of Machine/Journal.lean (Laws/Frame.lean). -/

namespace Sys2Proof.Machine

set_option linter.unreachableTactic false
set_option linter.unusedTactic false
set_option linter.unusedVariables false

theorem State.journalRaw_frame {s : State} {p type len : Nat} {body : Bytes} : Same 0x20800000000000000000000000000000000000000000000046000000000000000000000000000000000000000000000000000000 s (State.journalRaw s p type len body) := by
  unfold State.journalRaw
  try dsimp only
  repeat' first
    | with_reducible exact Same.refl
    | with_reducible assumption
    | with_reducible apply Same.ite
    | ((with_reducible apply Same.via State.hostWrite_frame); decide)
    | ((with_reducible apply State.put_frame); decide)
    | ((with_reducible apply Same.via State.modPart_frame); decide)
    | ((with_reducible apply State.inc_frame); (decide); decide)
    | with_reducible apply Same.foldl
    | with_reducible apply Same.foldl1
    | intro _ _ _
    | intro _ _
    | (fail_if_no_progress ((with_reducible apply Same.upd) <;> first | (intro hb; first | with_reducible rfl | (exfalso; revert hb; decide)) | skip))
    | dsimp only
    | split

theorem State.journalPut_frame {s : State} {p : Nat} {r : JournalRec} : Same 0x20800000000000000000000000000000000000000000000046000000000000000000000000000000000000000000000000000000 s (State.journalPut s p r) := by
  unfold State.journalPut
  try dsimp only
  repeat' first
    | with_reducible exact Same.refl
    | with_reducible assumption
    | with_reducible apply Same.ite
    | ((with_reducible apply Same.via State.journalRaw_frame); decide)
    | with_reducible apply Same.foldl
    | with_reducible apply Same.foldl1
    | intro _ _ _
    | intro _ _
    | (fail_if_no_progress ((with_reducible apply Same.upd) <;> first | (intro hb; first | with_reducible rfl | (exfalso; revert hb; decide)) | skip))
    | dsimp only
    | split

theorem State.journalBack_frame {s : State} {p : Nat} {g : JournalGroup} : Same 0x20000000000000000000000000000000000000000000000046000000000000000000000000000000000000000000000000000000 s (State.journalBack s p g) := by
  unfold State.journalBack
  try dsimp only
  repeat' first
    | with_reducible exact Same.refl
    | with_reducible assumption
    | with_reducible apply Same.ite
    | ((with_reducible apply State.put_frame); decide)
    | ((with_reducible apply Same.via State.modPart_frame); decide)
    | with_reducible apply Same.foldl
    | with_reducible apply Same.foldl1
    | intro _ _ _
    | intro _ _
    | (fail_if_no_progress ((with_reducible apply Same.upd) <;> first | (intro hb; first | with_reducible rfl | (exfalso; revert hb; decide)) | skip))
    | dsimp only
    | split

theorem State.journal_frame {s : State} {p type queue seq : Nat} {body : Bytes} : Same 0x24800000000000000000000000000000000000000000000046000000000000000000000000000000000000000000000000000000 s (State.journal s p type queue seq body) := by
  unfold State.journal
  try dsimp only
  repeat' first
    | with_reducible exact Same.refl
    | with_reducible assumption
    | with_reducible apply Same.ite
    | ((with_reducible apply Same.via State.journalPut_frame); decide)
    | ((with_reducible apply Same.via State.journalBack_frame); decide)
    | with_reducible apply Same.foldl
    | with_reducible apply Same.foldl1
    | intro _ _ _
    | intro _ _
    | (fail_if_no_progress ((with_reducible apply Same.upd) <;> first | (intro hb; first | with_reducible rfl | (exfalso; revert hb; decide)) | skip))
    | dsimp only
    | split

theorem State.journalTaskBegin_frame {s : State} {p : Nat} {t : Task} : Same 0x24800000000000000000000000000000000000000000000046000000000000000000000000000000000000000000000000000000 s (State.journalTaskBegin s p t) := by
  unfold State.journalTaskBegin
  try dsimp only
  repeat' first
    | with_reducible exact Same.refl
    | with_reducible assumption
    | with_reducible apply Same.ite
    | ((with_reducible apply Same.via State.journal_frame); decide)
    | with_reducible apply Same.foldl
    | with_reducible apply Same.foldl1
    | intro _ _ _
    | intro _ _
    | (fail_if_no_progress ((with_reducible apply Same.upd) <;> first | (intro hb; first | with_reducible rfl | (exfalso; revert hb; decide)) | skip))
    | dsimp only
    | split

theorem State.journalDoorbell_frame {s : State} {p q tail head : Nat} : Same 0x24800000000000000000000000000000000000000000000046000000000000000000000000000000000000000000000000000000 s (State.journalDoorbell s p q tail head) := by
  unfold State.journalDoorbell
  try dsimp only
  repeat' first
    | with_reducible exact Same.refl
    | with_reducible assumption
    | with_reducible apply Same.ite
    | ((with_reducible apply Same.via State.journal_frame); decide)
    | with_reducible apply Same.foldl
    | with_reducible apply Same.foldl1
    | intro _ _ _
    | intro _ _
    | (fail_if_no_progress ((with_reducible apply Same.upd) <;> first | (intro hb; first | with_reducible rfl | (exfalso; revert hb; decide)) | skip))
    | dsimp only
    | split

theorem State.journalCommand_frame {s : State} {p : Nat} {c : Cmd} : Same 0x24800000000000000000000000000000000000000000000046000000000000000000000000000000000000000000000000000000 s (State.journalCommand s p c) := by
  unfold State.journalCommand
  try dsimp only
  repeat' first
    | with_reducible exact Same.refl
    | with_reducible assumption
    | with_reducible apply Same.ite
    | ((with_reducible apply Same.via State.journal_frame); decide)
    | with_reducible apply Same.foldl
    | with_reducible apply Same.foldl1
    | intro _ _ _
    | intro _ _
    | (fail_if_no_progress ((with_reducible apply Same.upd) <;> first | (intro hb; first | with_reducible rfl | (exfalso; revert hb; decide)) | skip))
    | dsimp only
    | split

theorem State.journalFence_frame {s : State} {p rel value : Nat} : Same 0x24800000000000000000000000000000000000000000000046000000000000000000000000000000000000000000000000000000 s (State.journalFence s p rel value) := by
  unfold State.journalFence
  try dsimp only
  repeat' first
    | with_reducible exact Same.refl
    | with_reducible assumption
    | with_reducible apply Same.ite
    | ((with_reducible apply Same.via State.journal_frame); decide)
    | with_reducible apply Same.foldl
    | with_reducible apply Same.foldl1
    | intro _ _ _
    | intro _ _
    | (fail_if_no_progress ((with_reducible apply Same.upd) <;> first | (intro hb; first | with_reducible rfl | (exfalso; revert hb; decide)) | skip))
    | dsimp only
    | split

theorem State.journalInput_frame {s : State} {c : Cmd} {p kind port entry rows : Nat} {ref digest : Bytes} : Same 0x24800000000000000000000000000000000000000000000046000000000000000000000000000000000000000000000000000000 s (State.journalInput s c p kind port entry rows ref digest) := by
  unfold State.journalInput
  try dsimp only
  repeat' first
    | with_reducible exact Same.refl
    | with_reducible assumption
    | with_reducible apply Same.ite
    | ((with_reducible apply Same.via State.journal_frame); decide)
    | with_reducible apply Same.foldl
    | with_reducible apply Same.foldl1
    | intro _ _ _
    | intro _ _
    | (fail_if_no_progress ((with_reducible apply Same.upd) <;> first | (intro hb; first | with_reducible rfl | (exfalso; revert hb; decide)) | skip))
    | dsimp only
    | split

theorem State.journalRoute_frame {s : State} {c : Cmd} {p confirm resolve spilled maxN : Nat} {dispatch runs : Bool} {digest : Bytes} : Same 0x24800000000000000000000000000000000000000000000046000000000000000000000000000000000000000000000000000000 s (State.journalRoute s c p confirm resolve spilled maxN dispatch runs digest) := by
  unfold State.journalRoute
  try dsimp only
  repeat' first
    | with_reducible exact Same.refl
    | with_reducible assumption
    | with_reducible apply Same.ite
    | ((with_reducible apply Same.via State.journal_frame); decide)
    | with_reducible apply Same.foldl
    | with_reducible apply Same.foldl1
    | intro _ _ _
    | intro _ _
    | (fail_if_no_progress ((with_reducible apply Same.upd) <;> first | (intro hb; first | with_reducible rfl | (exfalso; revert hb; decide)) | skip))
    | dsimp only
    | split

theorem State.journalSwitch_frame {s : State} {p queue seq kind gen : Nat} {digest : Bytes} : Same 0x24800000000000000000000000000000000000000000000046000000000000000000000000000000000000000000000000000000 s (State.journalSwitch s p queue seq kind gen digest) := by
  unfold State.journalSwitch
  try dsimp only
  repeat' first
    | with_reducible exact Same.refl
    | with_reducible assumption
    | with_reducible apply Same.ite
    | ((with_reducible apply Same.via State.journal_frame); decide)
    | with_reducible apply Same.foldl
    | with_reducible apply Same.foldl1
    | intro _ _ _
    | intro _ _
    | (fail_if_no_progress ((with_reducible apply Same.upd) <;> first | (intro hb; first | with_reducible rfl | (exfalso; revert hb; decide)) | skip))
    | dsimp only
    | split

theorem State.journalTap_frame {s : State} {c : Cmd} {p core row rows : Nat} {digest : Bytes} : Same 0x24800000000000000000000000000000000000000000000046000000000000000000000000000000000000000000000000000000 s (State.journalTap s c p core row rows digest) := by
  unfold State.journalTap
  try dsimp only
  repeat' first
    | with_reducible exact Same.refl
    | with_reducible assumption
    | with_reducible apply Same.ite
    | ((with_reducible apply Same.via State.journal_frame); decide)
    | with_reducible apply Same.foldl
    | with_reducible apply Same.foldl1
    | intro _ _ _
    | intro _ _
    | (fail_if_no_progress ((with_reducible apply Same.upd) <;> first | (intro hb; first | with_reducible rfl | (exfalso; revert hb; decide)) | skip))
    | dsimp only
    | split

theorem State.journalFault_frame {s : State} {p : Nat} {c : Cmd} {status detail : Nat} : Same 0x24800000000000000000000000000000000000000000000046000000000000000000000000000000000000000000000000000000 s (State.journalFault s p c status detail) := by
  unfold State.journalFault
  try dsimp only
  repeat' first
    | with_reducible exact Same.refl
    | with_reducible assumption
    | with_reducible apply Same.ite
    | ((with_reducible apply Same.via State.journal_frame); decide)
    | with_reducible apply Same.foldl
    | with_reducible apply Same.foldl1
    | intro _ _ _
    | intro _ _
    | (fail_if_no_progress ((with_reducible apply Same.upd) <;> first | (intro hb; first | with_reducible rfl | (exfalso; revert hb; decide)) | skip))
    | dsimp only
    | split

theorem State.journalVoid_frame {s : State} {p lost frames : Nat} : Same 0x24800000000000000000000000000000000000000000000046000000000000000000000000000000000000000000000000000000 s (State.journalVoid s p lost frames) := by
  unfold State.journalVoid
  try dsimp only
  repeat' first
    | with_reducible exact Same.refl
    | with_reducible assumption
    | with_reducible apply Same.ite
    | ((with_reducible apply Same.via State.journal_frame); decide)
    | with_reducible apply Same.foldl
    | with_reducible apply Same.foldl1
    | intro _ _ _
    | intro _ _
    | (fail_if_no_progress ((with_reducible apply Same.upd) <;> first | (intro hb; first | with_reducible rfl | (exfalso; revert hb; decide)) | skip))
    | dsimp only
    | split

theorem State.journalMark_frame {s : State} {c : Cmd} {p value : Nat} : Same 0x24800000000000000000000000000000000000000000000046000000000000000000000000000000000000000000000000000000 s (State.journalMark s c p value) := by
  unfold State.journalMark
  try dsimp only
  repeat' first
    | with_reducible exact Same.refl
    | with_reducible assumption
    | with_reducible apply Same.ite
    | ((with_reducible apply Same.via State.journal_frame); decide)
    | with_reducible apply Same.foldl
    | with_reducible apply Same.foldl1
    | intro _ _ _
    | intro _ _
    | (fail_if_no_progress ((with_reducible apply Same.upd) <;> first | (intro hb; first | with_reducible rfl | (exfalso; revert hb; decide)) | skip))
    | dsimp only
    | split

theorem State.journalTaskEnd_frame {s : State} {p status : Nat} {void aborted complete : Bool} {cycles : Nat} : Same 0x24800000000000000000000000000000000000000000000046000000000000000000000000000000000000000000000000000000 s (State.journalTaskEnd s p status void aborted complete cycles) := by
  unfold State.journalTaskEnd
  try dsimp only
  repeat' first
    | with_reducible exact Same.refl
    | with_reducible assumption
    | with_reducible apply Same.ite
    | ((with_reducible apply Same.via State.journal_frame); decide)
    | with_reducible apply Same.foldl
    | with_reducible apply Same.foldl1
    | intro _ _ _
    | intro _ _
    | (fail_if_no_progress ((with_reducible apply Same.upd) <;> first | (intro hb; first | with_reducible rfl | (exfalso; revert hb; decide)) | skip))
    | dsimp only
    | split

theorem State.journalSwitchOn_frame {s : State} {p : Nat} {on : Bool} {log2 base : Nat} {mirror : Option Nat} : Same 0x24800000000000000000000000000000000000000000000077800000000000000000000000000000000000000000000000000000 s (State.journalSwitchOn s p on log2 base mirror) := by
  unfold State.journalSwitchOn
  try dsimp only
  repeat' first
    | with_reducible exact Same.refl
    | with_reducible assumption
    | with_reducible apply Same.ite
    | ((with_reducible apply Same.via State.modPart_frame); decide)
    | ((with_reducible apply Same.via State.journal_frame); decide)
    | ((with_reducible apply State.put_frame); decide)
    | ((with_reducible apply Same.via State.modRun_frame); decide)
    | with_reducible apply Same.foldl
    | with_reducible apply Same.foldl1
    | intro _ _ _
    | intro _ _
    | (fail_if_no_progress ((with_reducible apply Same.upd) <;> first | (intro hb; first | with_reducible rfl | (exfalso; revert hb; decide)) | skip))
    | dsimp only
    | split

end Sys2Proof.Machine
end

