-- ==== Sys2Proof/Laws/FrameCmds.lean ====
section
/-! SUPPORT. Frames of the functions of Machine/Cmds.lean (Laws/Frame.lean). -/

namespace Sys2Proof.Machine

set_option linter.unreachableTactic false
set_option linter.unusedTactic false
set_option linter.unusedVariables false

theorem State.setCmd_frame {s : State} {c : Cmd} : Same 0x2000000000000000000000000000000000000000000000000000000000000000000000000000000000000000000000000000000 s (State.setCmd s c) := by
  unfold State.setCmd
  try dsimp only
  repeat' first
    | with_reducible exact Same.refl
    | with_reducible assumption
    | with_reducible apply Same.ite
    | with_reducible apply Same.foldl
    | with_reducible apply Same.foldl1
    | intro _ _ _
    | intro _ _
    | (fail_if_no_progress ((with_reducible apply Same.upd) <;> first | (intro hb; first | with_reducible rfl | (exfalso; revert hb; decide)) | skip))
    | dsimp only
    | split

theorem State.dropCmd_frame {s : State} {c : Cmd} : Same 0x2000000000000000000000000000000000000000000000000000000000000000000000000000000000000000000000000000000 s (State.dropCmd s c) := by
  unfold State.dropCmd
  try dsimp only
  repeat' first
    | with_reducible exact Same.refl
    | with_reducible assumption
    | with_reducible apply Same.ite
    | with_reducible apply Same.foldl
    | with_reducible apply Same.foldl1
    | intro _ _ _
    | intro _ _
    | (fail_if_no_progress ((with_reducible apply Same.upd) <;> first | (intro hb; first | with_reducible rfl | (exfalso; revert hb; decide)) | skip))
    | dsimp only
    | split

theorem State.settleFences_frame {s : State} : Same 0x8000000000000000000000000000000000000000000000000000000000000002000000000000000000000000000000000000000 s (State.settleFences s) := by
  unfold State.settleFences
  try dsimp only
  repeat' first
    | with_reducible exact Same.refl
    | with_reducible assumption
    | with_reducible apply Same.ite
    | ((with_reducible apply State.put_frame); decide)
    | with_reducible apply Same.foldl
    | with_reducible apply Same.foldl1
    | intro _ _ _
    | intro _ _
    | (fail_if_no_progress ((with_reducible apply Same.upd) <;> first | (intro hb; first | with_reducible rfl | (exfalso; revert hb; decide)) | skip))
    | dsimp only
    | split

theorem State.addUpds_frame {s : State} {us : List FenceUpd} : Same 0x8000000000000000000000000000000000000000000000000000000000000000000000000000000000000000000000000000000 s (State.addUpds s us) := by
  unfold State.addUpds
  try dsimp only
  repeat' first
    | with_reducible exact Same.refl
    | with_reducible assumption
    | with_reducible apply Same.ite
    | with_reducible apply Same.foldl
    | with_reducible apply Same.foldl1
    | intro _ _ _
    | intro _ _
    | (fail_if_no_progress ((with_reducible apply Same.upd) <;> first | (intro hb; first | with_reducible rfl | (exfalso; revert hb; decide)) | skip))
    | dsimp only
    | split

theorem State.noteSlack_frame {s : State} {p : Option Nat} {slack : Int} : Same 0x20000000000000000000000000000000000000000000000000000000000000000000000000000000000000000000000000000000 s (State.noteSlack s p slack) := by
  unfold State.noteSlack
  try dsimp only
  repeat' first
    | with_reducible exact Same.refl
    | with_reducible assumption
    | with_reducible apply Same.ite
    | ((with_reducible apply Same.via State.modRun_frame); decide)
    | with_reducible apply Same.foldl
    | with_reducible apply Same.foldl1
    | intro _ _ _
    | intro _ _
    | (fail_if_no_progress ((with_reducible apply Same.upd) <;> first | (intro hb; first | with_reducible rfl | (exfalso; revert hb; decide)) | skip))
    | dsimp only
    | split

theorem State.finish_frame {s : State} {c : Cmd} {status detail : Nat} {slack : Int} : Same 0x26000000000000000000000000000000000000000000000000000000000000000000000000000000000000000000000000000000 s (State.finish s c status detail slack) := by
  unfold State.finish
  try dsimp only
  repeat' first
    | with_reducible exact Same.refl
    | with_reducible assumption
    | with_reducible apply Same.ite
    | ((with_reducible apply Same.via State.dropCmd_frame); decide)
    | ((with_reducible apply Same.via State.noteSlack_frame); decide)
    | with_reducible apply Same.foldl
    | with_reducible apply Same.foldl1
    | intro _ _ _
    | intro _ _
    | (fail_if_no_progress ((with_reducible apply Same.upd) <;> first | (intro hb; first | with_reducible rfl | (exfalso; revert hb; decide)) | skip))
    | dsimp only
    | split

theorem State.showTask_frame {s : State} {p : Nat} : Same 0x8000000000000000000000000000000000000000 s (State.showTask s p) := by
  unfold State.showTask
  try dsimp only
  repeat' first
    | with_reducible exact Same.refl
    | with_reducible assumption
    | with_reducible apply Same.ite
    | ((with_reducible apply State.put_frame); decide)
    | with_reducible apply Same.foldl
    | with_reducible apply Same.foldl1
    | intro _ _ _
    | intro _ _
    | (fail_if_no_progress ((with_reducible apply Same.upd) <;> first | (intro hb; first | with_reducible rfl | (exfalso; revert hb; decide)) | skip))
    | dsimp only
    | split

theorem State.setPred_frame {s : State} {p k : Nat} {v : Pred} : Same 0x20000000000000000000000000000000000000000000000000000000000000000000000000000000000000000000000000000000 s (State.setPred s p k v) := by
  unfold State.setPred
  try dsimp only
  repeat' first
    | with_reducible exact Same.refl
    | with_reducible assumption
    | with_reducible apply Same.ite
    | ((with_reducible apply Same.via State.modStrm_frame); decide)
    | with_reducible apply Same.foldl
    | with_reducible apply Same.foldl1
    | intro _ _ _
    | intro _ _
    | (fail_if_no_progress ((with_reducible apply Same.upd) <;> first | (intro hb; first | with_reducible rfl | (exfalso; revert hb; decide)) | skip))
    | dsimp only
    | split

theorem State.cancelStream_frame {s : State} {st : Stream} : Same 0x200000000000000000000000000000000000000000000000000000000000000000000000000000000000000000000000000000000 s (State.cancelStream s st) := by
  unfold State.cancelStream
  try dsimp only
  repeat' first
    | with_reducible exact Same.refl
    | with_reducible assumption
    | with_reducible apply Same.ite
    | ((with_reducible apply Same.via State.queueMsg_frame); decide)
    | with_reducible apply Same.foldl
    | with_reducible apply Same.foldl1
    | intro _ _ _
    | intro _ _
    | (fail_if_no_progress ((with_reducible apply Same.upd) <;> first | (intro hb; first | with_reducible rfl | (exfalso; revert hb; decide)) | skip))
    | dsimp only
    | split

theorem State.endStreams_frame {s : State} {p : Nat} {keep : Stream → Bool} : Same 0x220000000000000000000000000000000000000000000000000000000000000000000000000000000000000000000000000000000 s (State.endStreams s p keep) := by
  unfold State.endStreams
  try dsimp only
  repeat' first
    | with_reducible exact Same.refl
    | with_reducible assumption
    | with_reducible apply Same.ite
    | ((with_reducible apply Same.via State.cancelStream_frame); decide)
    | ((with_reducible apply Same.via State.modStrm_frame); decide)
    | with_reducible apply Same.foldl
    | with_reducible apply Same.foldl1
    | intro _ _ _
    | intro _ _
    | (fail_if_no_progress ((with_reducible apply Same.upd) <;> first | (intro hb; first | with_reducible rfl | (exfalso; revert hb; decide)) | skip))
    | dsimp only
    | split

theorem State.voidRows_frame {s : State} {p r n : Nat} : Same 0x40000000000000000000000000000000000000000000000000000000000000000000000000000000000000000000000000000000 s (State.voidRows s p r n) := by
  unfold State.voidRows
  try dsimp only
  repeat' first
    | with_reducible exact Same.refl
    | with_reducible assumption
    | with_reducible apply Same.ite
    | ((with_reducible apply Same.via State.modCore_frame); decide)
    | with_reducible apply Same.foldl
    | with_reducible apply Same.foldl1
    | intro _ _ _
    | intro _ _
    | (fail_if_no_progress ((with_reducible apply Same.upd) <;> first | (intro hb; first | with_reducible rfl | (exfalso; revert hb; decide)) | skip))
    | dsimp only
    | split

theorem State.voidGroup_frame {s : State} {p g : Nat} : Same 0x40000000000000000000000000000000000000000000000000000000000000000000000000000000000000000000000000000000 s (State.voidGroup s p g) := by
  unfold State.voidGroup
  try dsimp only
  repeat' first
    | with_reducible exact Same.refl
    | with_reducible assumption
    | with_reducible apply Same.ite
    | ((with_reducible apply Same.via State.modCore_frame); decide)
    | with_reducible apply Same.foldl
    | with_reducible apply Same.foldl1
    | intro _ _ _
    | intro _ _
    | (fail_if_no_progress ((with_reducible apply Same.upd) <;> first | (intro hb; first | with_reducible rfl | (exfalso; revert hb; decide)) | skip))
    | dsimp only
    | split

theorem State.voidSlot_frame {s : State} {p : Nat} {d : Pred} : Same 0x40000000000000000000000000000000000000000000000000000000000000000000000000000000000000000000000000000000 s (State.voidSlot s p d) := by
  unfold State.voidSlot
  try dsimp only
  repeat' first
    | with_reducible exact Same.refl
    | with_reducible assumption
    | with_reducible apply Same.ite
    | ((with_reducible apply Same.via State.voidRows_frame); decide)
    | ((with_reducible apply Same.via State.voidGroup_frame); decide)
    | with_reducible apply Same.foldl
    | with_reducible apply Same.foldl1
    | intro _ _ _
    | intro _ _
    | (fail_if_no_progress ((with_reducible apply Same.upd) <;> first | (intro hb; first | with_reducible rfl | (exfalso; revert hb; decide)) | skip))
    | dsimp only
    | split

theorem State.releaseOne_frame {s : State} {p : Nat} {yes : List Nat} {x : Nat × Cmd × Option Rec} : Same 0x22e000000000000000000000000000000000000000000000000000000000000000000000000000000000000000000000000000000 s (State.releaseOne s p yes x) := by
  unfold State.releaseOne
  try dsimp only
  repeat' first
    | with_reducible exact Same.refl
    | with_reducible assumption
    | with_reducible apply Same.ite
    | ((with_reducible apply Same.via State.addUpds_frame); decide)
    | ((with_reducible apply Same.via State.endStreams_frame); decide)
    | ((with_reducible apply Same.via State.finish_frame); decide)
    | with_reducible apply Same.foldl
    | with_reducible apply Same.foldl1
    | intro _ _ _
    | intro _ _
    | (fail_if_no_progress ((with_reducible apply Same.upd) <;> first | (intro hb; first | with_reducible rfl | (exfalso; revert hb; decide)) | skip))
    | dsimp only
    | split

theorem State.voidOut_frame {s : State} {p k : Nat} : Same 0x60000000000000000000000000000000000000000000000000000000000000000000000000000000540000000000000000000000 s (State.voidOut s p k) := by
  unfold State.voidOut
  try dsimp only
  repeat' first
    | with_reducible exact Same.refl
    | with_reducible assumption
    | with_reducible apply Same.ite
    | ((with_reducible apply Same.via State.voidSlot_frame); decide)
    | ((with_reducible apply State.inc_frame); (decide); decide)
    | ((with_reducible apply Same.via State.setPred_frame); decide)
    | with_reducible apply Same.foldl
    | with_reducible apply Same.foldl1
    | intro _ _ _
    | intro _ _
    | (fail_if_no_progress ((with_reducible apply Same.upd) <;> first | (intro hb; first | with_reducible rfl | (exfalso; revert hb; decide)) | skip))
    | dsimp only
    | split

theorem State.settleSlots_frame {s : State} {p : Nat} {yes no : List Nat} : Same 0x26e000000000000000000000000000000000000000000000000000000000000000000000000000000540000000000000000000000 s (State.settleSlots s p yes no) := by
  unfold State.settleSlots
  try dsimp only
  repeat' first
    | with_reducible exact Same.refl
    | with_reducible assumption
    | with_reducible apply Same.ite
    | ((with_reducible apply Same.via State.voidOut_frame); decide)
    | ((with_reducible apply Same.via State.releaseOne_frame); decide)
    | ((with_reducible apply Same.via State.setPred_frame); decide)
    | with_reducible apply Same.foldl
    | with_reducible apply Same.foldl1
    | intro _ _ _
    | intro _ _
    | (fail_if_no_progress ((with_reducible apply Same.upd) <;> first | (intro hb; first | with_reducible rfl | (exfalso; revert hb; decide)) | skip))
    | dsimp only
    | split

theorem State.disarm_frame {s : State} {p : Nat} : Same 0x40000000000000000000000000000000000000000000000000000000000000000000000000000000000000000000000000000000 s (State.disarm s p) := by
  unfold State.disarm
  try dsimp only
  repeat' first
    | with_reducible exact Same.refl
    | with_reducible assumption
    | with_reducible apply Same.ite
    | ((with_reducible apply Same.via State.modCore_frame); decide)
    | with_reducible apply Same.foldl
    | with_reducible apply Same.foldl1
    | intro _ _ _
    | intro _ _
    | (fail_if_no_progress ((with_reducible apply Same.upd) <;> first | (intro hb; first | with_reducible rfl | (exfalso; revert hb; decide)) | skip))
    | dsimp only
    | split

theorem State.endTask_frame {s : State} {p status : Nat} {aborted : Bool} : Same 0x2006480000000000000000000000000000001c0001000000000c6000000000000008000000000000000000000000000000000000000 s (State.endTask s p status aborted) := by
  unfold State.endTask
  try dsimp only
  repeat' first
    | with_reducible exact Same.refl
    | with_reducible assumption
    | with_reducible apply Same.ite
    | ((with_reducible apply Same.via State.journalTaskEnd_frame); decide)
    | ((with_reducible apply State.put_frame); decide)
    | ((with_reducible apply Same.via State.sample_frame); decide)
    | ((with_reducible apply Same.via State.disarm_frame); decide)
    | ((with_reducible apply Same.via State.modRun_frame); decide)
    | ((with_reducible apply Same.via State.showTask_frame); decide)
    | with_reducible apply Same.foldl
    | with_reducible apply Same.foldl1
    | intro _ _ _
    | intro _ _
    | (fail_if_no_progress ((with_reducible apply Same.upd) <;> first | (intro hb; first | with_reducible rfl | (exfalso; revert hb; decide)) | skip))
    | dsimp only
    | split

theorem State.taskDone_frame {s : State} {p : Nat} : Same 0x2026e80000000000000000000000000000001c0001000000000c6000000000000008000000000000000540000000000000000000000 s (State.taskDone s p) := by
  unfold State.taskDone
  try dsimp only
  repeat' first
    | with_reducible exact Same.refl
    | with_reducible assumption
    | with_reducible apply Same.ite
    | ((with_reducible apply Same.via State.settleSlots_frame); decide)
    | ((with_reducible apply Same.via State.endTask_frame); decide)
    | with_reducible apply Same.foldl
    | with_reducible apply Same.foldl1
    | intro _ _ _
    | intro _ _
    | (fail_if_no_progress ((with_reducible apply Same.upd) <;> first | (intro hb; first | with_reducible rfl | (exfalso; revert hb; decide)) | skip))
    | dsimp only
    | split

theorem State.freeWide_frame {s : State} {c : Cmd} : Same 0x20000000000000000000000000000000000000000000000000000000000000000000000000000000000000000000000000000000 s (State.freeWide s c) := by
  unfold State.freeWide
  try dsimp only
  repeat' first
    | with_reducible exact Same.refl
    | with_reducible assumption
    | with_reducible apply Same.ite
    | ((with_reducible apply Same.via State.modRun_frame); decide)
    | with_reducible apply Same.foldl
    | with_reducible apply Same.foldl1
    | intro _ _ _
    | intro _ _
    | (fail_if_no_progress ((with_reducible apply Same.upd) <;> first | (intro hb; first | with_reducible rfl | (exfalso; revert hb; decide)) | skip))
    | dsimp only
    | split

theorem State.retire_frame {s : State} {c : Cmd} : Same 0x2026e80000000000000000000000000000001c0001000000000c6000000000000008000000000000000540000000000000000000000 s (State.retire s c) := by
  unfold State.retire
  try dsimp only
  repeat' first
    | with_reducible exact Same.refl
    | with_reducible assumption
    | with_reducible apply Same.ite
    | ((with_reducible apply Same.via State.dropCmd_frame); decide)
    | ((with_reducible apply Same.via State.setPred_frame); decide)
    | ((with_reducible apply Same.via State.noteSlack_frame); decide)
    | ((with_reducible apply Same.via State.finish_frame); decide)
    | ((with_reducible apply Same.via State.addUpds_frame); decide)
    | ((with_reducible apply Same.via State.freeWide_frame); decide)
    | ((with_reducible apply Same.via State.taskDone_frame); decide)
    | with_reducible apply Same.foldl
    | with_reducible apply Same.foldl1
    | intro _ _ _
    | intro _ _
    | (fail_if_no_progress ((with_reducible apply Same.upd) <;> first | (intro hb; first | with_reducible rfl | (exfalso; revert hb; decide)) | skip))
    | dsimp only
    | split

theorem State.dropStreams_frame {s : State} {p : Nat} : Same 0x260000000000000000000000000000000000000000000000000000000000000000000000000000000000000000000000000000000 s (State.dropStreams s p) := by
  unfold State.dropStreams
  try dsimp only
  repeat' first
    | with_reducible exact Same.refl
    | with_reducible assumption
    | with_reducible apply Same.ite
    | ((with_reducible apply Same.via State.voidSlot_frame); decide)
    | ((with_reducible apply Same.via State.endStreams_frame); decide)
    | ((with_reducible apply Same.via State.modStrm_frame); decide)
    | with_reducible apply Same.foldl
    | with_reducible apply Same.foldl1
    | intro _ _ _
    | intro _ _
    | (fail_if_no_progress ((with_reducible apply Same.upd) <;> first | (intro hb; first | with_reducible rfl | (exfalso; revert hb; decide)) | skip))
    | dsimp only
    | split

theorem State.sendFault_frame {s : State} {p status : Nat} : Same 0x200000000000000000000000000000000000000000000000000000000000000000000000000000000000000000000000000000000 s (State.sendFault s p status) := by
  unfold State.sendFault
  try dsimp only
  repeat' first
    | with_reducible exact Same.refl
    | with_reducible assumption
    | with_reducible apply Same.ite
    | ((with_reducible apply Same.via State.queueMsg_frame); decide)
    | with_reducible apply Same.foldl
    | with_reducible apply Same.foldl1
    | intro _ _ _
    | intro _ _
    | (fail_if_no_progress ((with_reducible apply Same.upd) <;> first | (intro hb; first | with_reducible rfl | (exfalso; revert hb; decide)) | skip))
    | dsimp only
    | split

theorem State.abortTask_frame {s : State} {p : Nat} {first : Option Cmd} {statusOf : Cmd → Nat × Nat} {slack : Option Int} {taskStatus : Nat} {records : Bool} : Same 0x2026680000000000000000000000000000001c0001000000000c6000000000000008000000000000000000000000000000000000000 s (State.abortTask s p first statusOf slack taskStatus records) := by
  unfold State.abortTask
  try dsimp only
  repeat' first
    | with_reducible exact Same.refl
    | with_reducible assumption
    | with_reducible apply Same.ite
    | ((with_reducible apply Same.via State.journalFault_frame); decide)
    | ((with_reducible apply Same.via State.finish_frame); decide)
    | ((with_reducible apply Same.via State.dropCmd_frame); decide)
    | ((with_reducible apply Same.via State.dropStreams_frame); decide)
    | ((with_reducible apply Same.via State.sendFault_frame); decide)
    | ((with_reducible apply Same.via State.modRun_frame); decide)
    | ((with_reducible apply Same.via State.endTask_frame); decide)
    | with_reducible apply Same.foldl
    | with_reducible apply Same.foldl1
    | intro _ _ _
    | intro _ _
    | (fail_if_no_progress ((with_reducible apply Same.upd) <;> first | (intro hb; first | with_reducible rfl | (exfalso; revert hb; decide)) | skip))
    | dsimp only
    | split

theorem State.dropNext_frame {s : State} {p : Nat} {statusOf : Cmd → Nat × Nat} {records : Bool} : Same 0x26000000000000000000000000000000000000000000000000000000000000008000000000000000000000000000000000000000 s (State.dropNext s p statusOf records) := by
  unfold State.dropNext
  try dsimp only
  repeat' first
    | with_reducible exact Same.refl
    | with_reducible assumption
    | with_reducible apply Same.ite
    | ((with_reducible apply Same.via State.finish_frame); decide)
    | ((with_reducible apply Same.via State.dropCmd_frame); decide)
    | ((with_reducible apply Same.via State.modRun_frame); decide)
    | ((with_reducible apply Same.via State.showTask_frame); decide)
    | with_reducible apply Same.foldl
    | with_reducible apply Same.foldl1
    | intro _ _ _
    | intro _ _
    | (fail_if_no_progress ((with_reducible apply Same.upd) <;> first | (intro hb; first | with_reducible rfl | (exfalso; revert hb; decide)) | skip))
    | dsimp only
    | split

theorem State.abort_frame {s : State} {c : Cmd} {status detail : Nat} : Same 0x2026680000000000000000000000000000001c0001000000000c6000000000000008000000000000000000000000000000000000000 s (State.abort s c status detail) := by
  unfold State.abort
  try dsimp only
  repeat' first
    | with_reducible exact Same.refl
    | with_reducible assumption
    | with_reducible apply Same.ite
    | ((with_reducible apply Same.via State.abortTask_frame); decide)
    | ((with_reducible apply Same.via State.finish_frame); decide)
    | with_reducible apply Same.foldl
    | with_reducible apply Same.foldl1
    | intro _ _ _
    | intro _ _
    | (fail_if_no_progress ((with_reducible apply Same.upd) <;> first | (intro hb; first | with_reducible rfl | (exfalso; revert hb; decide)) | skip))
    | dsimp only
    | split

theorem State.fault_frame {s : State} {c : Cmd} {status detail : Nat} : Same 0x2026e80000000000000000000000000000001c0001000000000c6000000000000008000000000000000542000000000000000000000 s (State.fault s c status detail) := by
  unfold State.fault
  try dsimp only
  repeat' first
    | with_reducible exact Same.refl
    | with_reducible assumption
    | with_reducible apply Same.ite
    | ((with_reducible apply Same.via State.dropCmd_frame); decide)
    | ((with_reducible apply Same.via State.endStreams_frame); decide)
    | ((with_reducible apply Same.via State.setPred_frame); decide)
    | ((with_reducible apply Same.via State.taskDone_frame); decide)
    | ((with_reducible apply Same.via State.setCmd_frame); decide)
    | ((with_reducible apply State.inc_frame); (decide); decide)
    | ((with_reducible apply Same.via State.abort_frame); decide)
    | with_reducible apply Same.foldl
    | with_reducible apply Same.foldl1
    | intro _ _ _
    | intro _ _
    | (fail_if_no_progress ((with_reducible apply Same.upd) <;> first | (intro hb; first | with_reducible rfl | (exfalso; revert hb; decide)) | skip))
    | dsimp only
    | split

theorem State.refuse_frame {s : State} {c : Cmd} {r : Nat × Nat} : Same 0x2026680000000000000000000000000000001c0001000000000c6000000000000008000000000000000000000000000000000000000 s (State.refuse s c r) := by
  unfold State.refuse
  try dsimp only
  repeat' first
    | with_reducible exact Same.refl
    | with_reducible assumption
    | with_reducible apply Same.ite
    | ((with_reducible apply Same.via State.setCmd_frame); decide)
    | ((with_reducible apply Same.via State.abort_frame); decide)
    | with_reducible apply Same.foldl
    | with_reducible apply Same.foldl1
    | intro _ _ _
    | intro _ _
    | (fail_if_no_progress ((with_reducible apply Same.upd) <;> first | (intro hb; first | with_reducible rfl | (exfalso; revert hb; decide)) | skip))
    | dsimp only
    | split

theorem State.chargeFault_frame {s : State} {p status detail : Nat} : Same 0x2026680000000000000000000000000000001c0001000000000c6000000000000008000000000000000000000000000000000000000 s (State.chargeFault s p status detail) := by
  unfold State.chargeFault
  try dsimp only
  repeat' first
    | with_reducible exact Same.refl
    | with_reducible assumption
    | with_reducible apply Same.ite
    | ((with_reducible apply Same.via State.abort_frame); decide)
    | ((with_reducible apply Same.via State.event_frame); decide)
    | with_reducible apply Same.foldl
    | with_reducible apply Same.foldl1
    | intro _ _ _
    | intro _ _
    | (fail_if_no_progress ((with_reducible apply Same.upd) <;> first | (intro hb; first | with_reducible rfl | (exfalso; revert hb; decide)) | skip))
    | dsimp only
    | split

theorem State.mark_frame {s : State} {on : Bool} : Same 0x200000000000000000000000000000000000000000000000000000000000000000000000000000000000000000000000000000000000 s (State.mark s on) := by
  unfold State.mark
  try dsimp only
  repeat' first
    | with_reducible exact Same.refl
    | with_reducible assumption
    | with_reducible apply Same.ite
    | with_reducible apply Same.foldl
    | with_reducible apply Same.foldl1
    | intro _ _ _
    | intro _ _
    | (fail_if_no_progress ((with_reducible apply Same.upd) <;> first | (intro hb; first | with_reducible rfl | (exfalso; revert hb; decide)) | skip))
    | dsimp only
    | split

theorem State.done_frame {s : State} {c : Cmd} {t status detail : Nat} : Same 0x200002000000000000000000000000000000000000000000000000000000000000000000000000000000000000000000000000000000 s (State.done s c t status detail) := by
  unfold State.done
  try dsimp only
  repeat' first
    | with_reducible exact Same.refl
    | with_reducible assumption
    | with_reducible apply Same.ite
    | ((with_reducible apply Same.via State.setCmd_frame); decide)
    | ((with_reducible apply Same.via State.mark_frame); decide)
    | with_reducible apply Same.foldl
    | with_reducible apply Same.foldl1
    | intro _ _ _
    | intro _ _
    | (fail_if_no_progress ((with_reducible apply Same.upd) <;> first | (intro hb; first | with_reducible rfl | (exfalso; revert hb; decide)) | skip))
    | dsimp only
    | split

end Sys2Proof.Machine
end

