-- ==== Sys2Proof/Laws/FrameReel.lean ====
section
/-! SUPPORT. Frames of the functions of Machine/Reel.lean (Laws/Frame.lean). -/

namespace Sys2Proof.Machine

set_option linter.unreachableTactic false
set_option linter.unusedTactic false
set_option linter.unusedVariables false

theorem State.takeChange_frame {s : State} {code frame : Nat} : Same 0x400000000000000000000000000000000000000000000000000000000000000000000000000000000000000000000003800000 s (State.takeChange s code frame) := by
  unfold State.takeChange
  try dsimp only
  repeat' first
    | with_reducible exact Same.refl
    | with_reducible assumption
    | with_reducible apply Same.ite
    | ((with_reducible apply State.put_frame); decide)
    | with_reducible apply Same.foldl
    | with_reducible apply Same.foldl1
    | intro _ _ _
    | intro _ _
    | (fail_if_no_progress ((with_reducible apply Same.upd) <;> first | (intro hb; first | with_reducible rfl | (exfalso; revert hb; decide)) | skip))
    | dsimp only
    | split

theorem State.takeBeacon_frame {s : State} {n : Nat} {w : Bytes} {arrival : Int} : Same 0x400000000000000000000000000000000000000000000000000000000000000000000000000000000000000000000003802000 s (State.takeBeacon s n w arrival) := by
  unfold State.takeBeacon
  try dsimp only
  repeat' first
    | with_reducible exact Same.refl
    | with_reducible assumption
    | with_reducible apply Same.ite
    | ((with_reducible apply Same.via State.setTracker_frame); decide)
    | ((with_reducible apply State.put_frame); decide)
    | ((with_reducible apply Same.via State.takeChange_frame); decide)
    | with_reducible apply Same.foldl
    | with_reducible apply Same.foldl1
    | intro _ _ _
    | intro _ _
    | (fail_if_no_progress ((with_reducible apply Same.upd) <;> first | (intro hb; first | with_reducible rfl | (exfalso; revert hb; decide)) | skip))
    | dsimp only
    | split

theorem execReelBeacon_frame {n : Fin 64} {linkOk : Bool} {word : Bytes} {arrival : Int} {s : State} {t : State} (e : execReelBeacon n linkOk word arrival s = .next t) :
    Same 0x82000040000000000000000000000000000001c000000000000000000000000000000000000000000000000000000000000013822000 s t := by
  cases e
  try dsimp only
  repeat' first
    | with_reducible exact Same.refl
    | with_reducible assumption
    | with_reducible apply Same.ite
    | ((with_reducible apply Same.via State.takeBeacon_frame); decide)
    | ((with_reducible apply State.inc_frame); (decide); decide)
    | ((with_reducible apply State.reelEvent_frame); (decide); decide)
    | with_reducible apply Same.foldl
    | with_reducible apply Same.foldl1
    | intro _ _ _
    | intro _ _
    | (fail_if_no_progress ((with_reducible apply Same.upd) <;> first | (intro hb; first | with_reducible rfl | (exfalso; revert hb; decide)) | skip))
    | dsimp only
    | split

theorem State.selectRef_frame {s : State} : Same 0x82000040000000000000000000000000000001c0000000000000000000000000000000000000000000000000000000000000004000c0 s (State.selectRef s) := by
  unfold State.selectRef
  try dsimp only
  repeat' first
    | with_reducible exact Same.refl
    | with_reducible assumption
    | with_reducible apply Same.ite
    | ((with_reducible apply State.put_frame); decide)
    | ((with_reducible apply State.reelEvent_frame); (decide); decide)
    | with_reducible apply Same.foldl
    | with_reducible apply Same.foldl1
    | intro _ _ _
    | intro _ _
    | (fail_if_no_progress ((with_reducible apply Same.upd) <;> first | (intro hb; first | with_reducible rfl | (exfalso; revert hb; decide)) | skip))
    | dsimp only
    | split

theorem State.endHoldover_frame {s : State} : Same 0x1800 s (State.endHoldover s) := by
  unfold State.endHoldover
  try dsimp only
  repeat' first
    | with_reducible exact Same.refl
    | with_reducible assumption
    | with_reducible apply Same.ite
    | ((with_reducible apply State.put_frame); decide)
    | with_reducible apply Same.foldl
    | with_reducible apply Same.foldl1
    | intro _ _ _
    | intro _ _
    | (fail_if_no_progress ((with_reducible apply Same.upd) <;> first | (intro hb; first | with_reducible rfl | (exfalso; revert hb; decide)) | skip))
    | dsimp only
    | split

theorem State.reelAbort_frame {s : State} {p : Nat} : Same 0x82026680000000000000000000000000000001c0001000000000c6000800000000008000000000000000000000000000000000000000 s (State.reelAbort s p) := by
  unfold State.reelAbort
  try dsimp only
  repeat' first
    | with_reducible exact Same.refl
    | with_reducible assumption
    | with_reducible apply Same.ite
    | ((with_reducible apply Same.via State.abortTask_frame); decide)
    | ((with_reducible apply Same.via State.dropNext_frame); decide)
    | ((with_reducible apply State.partEvent_frame); (decide); decide)
    | with_reducible apply Same.foldl
    | with_reducible apply Same.foldl1
    | intro _ _ _
    | intro _ _
    | (fail_if_no_progress ((with_reducible apply Same.upd) <;> first | (intro hb; first | with_reducible rfl | (exfalso; revert hb; decide)) | skip))
    | dsimp only
    | split

theorem State.enterLost_frame {s : State} {cause : Nat} : Same 0x820266c0000000000000000000000000000001c0001000000000c6000800000000008000000000000000000000000000000000881950 s (State.enterLost s cause) := by
  unfold State.enterLost
  try dsimp only
  repeat' first
    | with_reducible exact Same.refl
    | with_reducible assumption
    | with_reducible apply Same.ite
    | ((with_reducible apply Same.via State.endHoldover_frame); decide)
    | ((with_reducible apply State.put_frame); decide)
    | ((with_reducible apply State.reelEvent_frame); (decide); decide)
    | ((with_reducible apply Same.via State.reelAbort_frame); decide)
    | with_reducible apply Same.foldl
    | with_reducible apply Same.foldl1
    | intro _ _ _
    | intro _ _
    | (fail_if_no_progress ((with_reducible apply Same.upd) <;> first | (intro hb; first | with_reducible rfl | (exfalso; revert hb; decide)) | skip))
    | dsimp only
    | split

theorem State.exitHoldover_frame {s : State} : Same 0x82000040000000000000000000000000000001c0000000000000000000000000000000000000000000000000000000000000005019c0 s (State.exitHoldover s) := by
  unfold State.exitHoldover
  try dsimp only
  repeat' first
    | with_reducible exact Same.refl
    | with_reducible assumption
    | with_reducible apply Same.ite
    | ((with_reducible apply Same.via State.endHoldover_frame); decide)
    | ((with_reducible apply State.put_frame); decide)
    | ((with_reducible apply Same.via State.selectRef_frame); decide)
    | ((with_reducible apply State.reelEvent_frame); (decide); decide)
    | with_reducible apply Same.foldl
    | with_reducible apply Same.foldl1
    | intro _ _ _
    | intro _ _
    | (fail_if_no_progress ((with_reducible apply Same.upd) <;> first | (intro hb; first | with_reducible rfl | (exfalso; revert hb; decide)) | skip))
    | dsimp only
    | split

theorem State.enterHoldover_frame {s : State} : Same 0x82000040000000000000000000000000000001c000000000000000000000000000000000000000000000000000000000000000201140 s (State.enterHoldover s) := by
  unfold State.enterHoldover
  try dsimp only
  repeat' first
    | with_reducible exact Same.refl
    | with_reducible assumption
    | with_reducible apply Same.ite
    | ((with_reducible apply State.put_frame); decide)
    | ((with_reducible apply State.reelEvent_frame); (decide); decide)
    | with_reducible apply Same.foldl
    | with_reducible apply Same.foldl1
    | intro _ _ _
    | intro _ _
    | (fail_if_no_progress ((with_reducible apply Same.upd) <;> first | (intro hb; first | with_reducible rfl | (exfalso; revert hb; decide)) | skip))
    | dsimp only
    | split

theorem State.edgeLocked_frame {s : State} : Same 0x82000040000000000000000000000000000001c0000000000000000000000000000000000000000000000000000000000000006011c0 s (State.edgeLocked s) := by
  unfold State.edgeLocked
  try dsimp only
  repeat' first
    | with_reducible exact Same.refl
    | with_reducible assumption
    | with_reducible apply Same.ite
    | ((with_reducible apply Same.via State.enterHoldover_frame); decide)
    | ((with_reducible apply State.put_frame); decide)
    | ((with_reducible apply Same.via State.selectRef_frame); decide)
    | with_reducible apply Same.foldl
    | with_reducible apply Same.foldl1
    | intro _ _ _
    | intro _ _
    | (fail_if_no_progress ((with_reducible apply Same.upd) <;> first | (intro hb; first | with_reducible rfl | (exfalso; revert hb; decide)) | skip))
    | dsimp only
    | split

theorem State.countHoldover_frame {s : State} : Same 0x1000 s (State.countHoldover s) := by
  unfold State.countHoldover
  try dsimp only
  repeat' first
    | with_reducible exact Same.refl
    | with_reducible assumption
    | with_reducible apply Same.ite
    | ((with_reducible apply State.put_frame); decide)
    | with_reducible apply Same.foldl
    | with_reducible apply Same.foldl1
    | intro _ _ _
    | intro _ _
    | (fail_if_no_progress ((with_reducible apply Same.upd) <;> first | (intro hb; first | with_reducible rfl | (exfalso; revert hb; decide)) | skip))
    | dsimp only
    | split

theorem State.edgeHoldover_frame {s : State} {before : List Nat} : Same 0x400000000000000000000000000000000000000000000000000000000000000000000000000000000000000000000000001000 s (State.edgeHoldover s before) := by
  unfold State.edgeHoldover
  try dsimp only
  repeat' first
    | with_reducible exact Same.refl
    | with_reducible assumption
    | with_reducible apply Same.ite
    | ((with_reducible apply Same.via State.countHoldover_frame); decide)
    | with_reducible apply Same.foldl
    | with_reducible apply Same.foldl1
    | intro _ _ _
    | intro _ _
    | (fail_if_no_progress ((with_reducible apply Same.upd) <;> first | (intro hb; first | with_reducible rfl | (exfalso; revert hb; decide)) | skip))
    | dsimp only
    | split

theorem State.edgeReel_frame {s : State} : Same 0x820266c0000000000000000000000000000001c0001000000000c6000800000000008000000000000000000000000000000000f819d0 s (State.edgeReel s) := by
  unfold State.edgeReel
  try dsimp only
  repeat' first
    | with_reducible exact Same.refl
    | with_reducible assumption
    | with_reducible apply Same.ite
    | ((with_reducible apply Same.via State.setTracker_frame); decide)
    | ((with_reducible apply Same.via State.enterLost_frame); decide)
    | ((with_reducible apply Same.via State.countHoldover_frame); decide)
    | ((with_reducible apply Same.via State.exitHoldover_frame); decide)
    | ((with_reducible apply Same.via State.edgeLocked_frame); decide)
    | ((with_reducible apply Same.via State.edgeHoldover_frame); decide)
    | ((with_reducible apply State.put_frame); decide)
    | with_reducible apply Same.foldl
    | with_reducible apply Same.foldl1
    | intro _ _ _
    | intro _ _
    | (fail_if_no_progress ((with_reducible apply Same.upd) <;> first | (intro hb; first | with_reducible rfl | (exfalso; revert hb; decide)) | skip))
    | dsimp only
    | split

theorem State.lockOn_frame {s : State} {n : Nat} : Same 0x82000042000000000000000000000000000001c0000000000000000000000000000000000000000000000000000000000000000503e0 s (State.lockOn s n) := by
  unfold State.lockOn
  try dsimp only
  repeat' first
    | with_reducible exact Same.refl
    | with_reducible assumption
    | with_reducible apply Same.ite
    | ((with_reducible apply State.put_frame); decide)
    | ((with_reducible apply State.reelEvent_frame); (decide); decide)
    | with_reducible apply Same.foldl
    | with_reducible apply Same.foldl1
    | intro _ _ _
    | intro _ _
    | (fail_if_no_progress ((with_reducible apply Same.upd) <;> first | (intro hb; first | with_reducible rfl | (exfalso; revert hb; decide)) | skip))
    | dsimp only
    | split

theorem execLock_frame {s : State} {t : State} (e : execLock s = .next t) :
    Same 0x82000042000000000000000000000000000001c0000000000000000000000000000000000000000000000000000000000000000503e0 s t := by
  cases e
  try dsimp only
  repeat' first
    | with_reducible exact Same.refl
    | with_reducible assumption
    | with_reducible apply Same.ite
    | ((with_reducible apply Same.via State.lockOn_frame); decide)
    | with_reducible apply Same.foldl
    | with_reducible apply Same.foldl1
    | intro _ _ _
    | intro _ _
    | (fail_if_no_progress ((with_reducible apply Same.upd) <;> first | (intro hb; first | with_reducible rfl | (exfalso; revert hb; decide)) | skip))
    | dsimp only
    | split

theorem execHoldoverLimit_frame {s : State} {t : State} (e : execHoldoverLimit s = .next t) :
    Same 0x820266c0000000000000000000000000000001c0001000000000c6000800000000008000000000000000000000000000000000881950 s t := by
  cases e
  try dsimp only
  repeat' first
    | with_reducible exact Same.refl
    | with_reducible assumption
    | with_reducible apply Same.ite
    | ((with_reducible apply Same.via State.enterLost_frame); decide)
    | with_reducible apply Same.foldl
    | with_reducible apply Same.foldl1
    | intro _ _ _
    | intro _ _
    | (fail_if_no_progress ((with_reducible apply Same.upd) <;> first | (intro hb; first | with_reducible rfl | (exfalso; revert hb; decide)) | skip))
    | dsimp only
    | split

theorem State.periodAbort_frame {s : State} {p : Nat} : Same 0x2026680000000000000000000000000000001c0001000000000c6000000000000008000000000000000000000000000000000000000 s (State.periodAbort s p) := by
  unfold State.periodAbort
  try dsimp only
  repeat' first
    | with_reducible exact Same.refl
    | with_reducible assumption
    | with_reducible apply Same.ite
    | ((with_reducible apply Same.via State.abortTask_frame); decide)
    | with_reducible apply Same.foldl
    | with_reducible apply Same.foldl1
    | intro _ _ _
    | intro _ _
    | (fail_if_no_progress ((with_reducible apply Same.upd) <;> first | (intro hb; first | with_reducible rfl | (exfalso; revert hb; decide)) | skip))
    | dsimp only
    | split

theorem State.switchPeriod_frame {s : State} : Same 0x82026682000000000000000000000000000001c0001000000000c6000000000000008000000000000000000000000000000000810020 s (State.switchPeriod s) := by
  unfold State.switchPeriod
  try dsimp only
  repeat' first
    | with_reducible exact Same.refl
    | with_reducible assumption
    | with_reducible apply Same.ite
    | ((with_reducible apply State.put_frame); decide)
    | ((with_reducible apply State.reelEvent_frame); (decide); decide)
    | ((with_reducible apply Same.via State.periodAbort_frame); decide)
    | with_reducible apply Same.foldl
    | with_reducible apply Same.foldl1
    | intro _ _ _
    | intro _ _
    | (fail_if_no_progress ((with_reducible apply Same.upd) <;> first | (intro hb; first | with_reducible rfl | (exfalso; revert hb; decide)) | skip))
    | dsimp only
    | split

theorem execPeriodChange_frame {s : State} {t : State} (e : execPeriodChange s = .next t) :
    Same 0x820266c2000000000000000000000000000001c0001000000000c6000800000000008000000000000000000000000000000000891970 s t := by
  cases e
  try dsimp only
  repeat' first
    | with_reducible exact Same.refl
    | with_reducible assumption
    | with_reducible apply Same.ite
    | ((with_reducible apply Same.via State.enterLost_frame); decide)
    | ((with_reducible apply Same.via State.switchPeriod_frame); decide)
    | with_reducible apply Same.foldl
    | with_reducible apply Same.foldl1
    | intro _ _ _
    | intro _ _
    | (fail_if_no_progress ((with_reducible apply Same.upd) <;> first | (intro hb; first | with_reducible rfl | (exfalso; revert hb; decide)) | skip))
    | dsimp only
    | split

theorem execResume_frame {s : State} {t : State} (e : execResume s = .next t) :
    Same 0x400000000000000000000000000000000000000000000000000000000000000000000000000000000000000000000000000000 s t := by
  cases e
  try dsimp only
  repeat' first
    | with_reducible exact Same.refl
    | with_reducible assumption
    | with_reducible apply Same.ite
    | with_reducible apply State.whenBooted_frame
    | with_reducible apply Same.foldl
    | with_reducible apply Same.foldl1
    | intro _ _ _
    | intro _ _
    | (fail_if_no_progress ((with_reducible apply Same.upd) <;> first | (intro hb; first | with_reducible rfl | (exfalso; revert hb; decide)) | skip))
    | dsimp only
    | split

theorem execReselect_frame {s : State} {t : State} (e : execReselect s = .next t) :
    Same 0x400000000000000000000000000000000000000000000000000000000000000000000000000000000000000000000000000000 s t := by
  cases e
  try dsimp only
  repeat' first
    | with_reducible exact Same.refl
    | with_reducible assumption
    | with_reducible apply Same.ite
    | with_reducible apply State.whenBooted_frame
    | with_reducible apply Same.foldl
    | with_reducible apply Same.foldl1
    | intro _ _ _
    | intro _ _
    | (fail_if_no_progress ((with_reducible apply Same.upd) <;> first | (intro hb; first | with_reducible rfl | (exfalso; revert hb; decide)) | skip))
    | dsimp only
    | split

end Sys2Proof.Machine
end

