-- ==== Sys2Proof/Laws/FrameTether.lean ====
section
/-! SUPPORT. Frames of the functions of Machine/Tether.lean (Laws/Frame.lean). -/

namespace Sys2Proof.Machine

set_option linter.unreachableTactic false
set_option linter.unusedTactic false
set_option linter.unusedVariables false

theorem State.setDir_frame {s : State} {n : Nat} {d : Dir} {v : PortDir} {width8 : Bool} {subst : Nat} : Same 0x200000000000000000000000000000000000000000000000000000000000000000000000006f00000000000000000000000000000 s (State.setDir s n d v width8 subst) := by
  unfold State.setDir
  try dsimp only
  repeat' first
    | with_reducible exact Same.refl
    | with_reducible assumption
    | with_reducible apply Same.ite
    | ((with_reducible apply Same.via State.modPort_frame); decide)
    | ((with_reducible apply State.put_frame); decide)
    | with_reducible apply Same.foldl
    | with_reducible apply Same.foldl1
    | intro _ _ _
    | intro _ _
    | (fail_if_no_progress ((with_reducible apply Same.upd) <;> first | (intro hb; first | with_reducible rfl | (exfalso; revert hb; decide)) | skip))
    | dsimp only
    | split

theorem State.forgetNode_frame {s : State} : Same 0x200000000000000000000000000000000000000000000000000000000000000000000100000000000000000000000000000000000 s (State.forgetNode s) := by
  unfold State.forgetNode
  try dsimp only
  repeat' first
    | with_reducible exact Same.refl
    | with_reducible assumption
    | with_reducible apply Same.ite
    | ((with_reducible apply State.put_frame); decide)
    | ((with_reducible apply Same.via State.modPort_frame); decide)
    | with_reducible apply Same.foldl
    | with_reducible apply Same.foldl1
    | intro _ _ _
    | intro _ _
    | (fail_if_no_progress ((with_reducible apply Same.upd) <;> first | (intro hb; first | with_reducible rfl | (exfalso; revert hb; decide)) | skip))
    | dsimp only
    | split

theorem State.setPortState_frame {s : State} {n v : Nat} : Same 0x200000000000000000000000000000000000000000000000000000000000000000000100001000000000000000000000000000000 s (State.setPortState s n v) := by
  unfold State.setPortState
  try dsimp only
  repeat' first
    | with_reducible exact Same.refl
    | with_reducible assumption
    | with_reducible apply Same.ite
    | ((with_reducible apply State.put_frame); decide)
    | ((with_reducible apply Same.via State.forgetNode_frame); decide)
    | with_reducible apply Same.foldl
    | with_reducible apply Same.foldl1
    | intro _ _ _
    | intro _ _
    | (fail_if_no_progress ((with_reducible apply Same.upd) <;> first | (intro hb; first | with_reducible rfl | (exfalso; revert hb; decide)) | skip))
    | dsimp only
    | split

theorem State.portDown_frame {s : State} {n cause : Nat} : Same 0x82020000000000000000000000000000000001c000000000000000000000000000000000102001080000000000000000000000000000 s (State.portDown s n cause) := by
  unfold State.portDown
  try dsimp only
  repeat' first
    | with_reducible exact Same.refl
    | with_reducible assumption
    | with_reducible apply Same.ite
    | ((with_reducible apply Same.via State.setPortState_frame); decide)
    | ((with_reducible apply State.put_frame); decide)
    | ((with_reducible apply State.tethEvent_frame); (decide); decide)
    | with_reducible apply Same.foldl
    | with_reducible apply Same.foldl1
    | intro _ _ _
    | intro _ _
    | (fail_if_no_progress ((with_reducible apply Same.upd) <;> first | (intro hb; first | with_reducible rfl | (exfalso; revert hb; decide)) | skip))
    | dsimp only
    | split

theorem State.startTraining_frame {s : State} {n : Nat} : Same 0x2020000000000000000000000000000000001c000000000000000000000000000000000100081000000000000000000000000000000 s (State.startTraining s n) := by
  unfold State.startTraining
  try dsimp only
  repeat' first
    | with_reducible exact Same.refl
    | with_reducible assumption
    | with_reducible apply Same.ite
    | ((with_reducible apply State.tethInc_frame); (decide); decide)
    | ((with_reducible apply Same.via State.setPortState_frame); decide)
    | ((with_reducible apply Same.via State.modPort_frame); decide)
    | with_reducible apply Same.foldl
    | with_reducible apply Same.foldl1
    | intro _ _ _
    | intro _ _
    | (fail_if_no_progress ((with_reducible apply Same.upd) <;> first | (intro hb; first | with_reducible rfl | (exfalso; revert hb; decide)) | skip))
    | dsimp only
    | split

theorem State.tryTrain_frame {s : State} {n : Nat} : Same 0x2020000000000000000000000000000000001c000000000000000000000000000000000100081000000000000000000000000000000 s (State.tryTrain s n) := by
  unfold State.tryTrain
  try dsimp only
  repeat' first
    | with_reducible exact Same.refl
    | with_reducible assumption
    | with_reducible apply Same.ite
    | ((with_reducible apply Same.via State.startTraining_frame); decide)
    | with_reducible apply Same.foldl
    | with_reducible apply Same.foldl1
    | intro _ _ _
    | intro _ _
    | (fail_if_no_progress ((with_reducible apply Same.upd) <;> first | (intro hb; first | with_reducible rfl | (exfalso; revert hb; decide)) | skip))
    | dsimp only
    | split

theorem State.setLaserState_frame {s : State} {e v : Nat} : Same 0x82000000000000000000000000000000000001c000000000000000000000000000000001000800000000000000000000000000000000 s (State.setLaserState s e v) := by
  unfold State.setLaserState
  try dsimp only
  repeat' first
    | with_reducible exact Same.refl
    | with_reducible assumption
    | with_reducible apply Same.ite
    | ((with_reducible apply State.tethEvent_frame); (decide); decide)
    | ((with_reducible apply State.put_frame); decide)
    | with_reducible apply Same.foldl
    | with_reducible apply Same.foldl1
    | intro _ _ _
    | intro _ _
    | (fail_if_no_progress ((with_reducible apply Same.upd) <;> first | (intro hb; first | with_reducible rfl | (exfalso; revert hb; decide)) | skip))
    | dsimp only
    | split

theorem State.countCorrected_frame {s : State} {n : Nat} {wrong : List (List Nat)} : Same 0x2020000000000000000000000000000000001c000000000000000000000000000000000000008000000000000000000000000000000 s (State.countCorrected s n wrong) := by
  unfold State.countCorrected
  try dsimp only
  repeat' first
    | with_reducible exact Same.refl
    | with_reducible assumption
    | with_reducible apply Same.ite
    | ((with_reducible apply State.tethInc_frame); (decide); decide)
    | ((with_reducible apply Same.via State.modPort_frame); decide)
    | with_reducible apply Same.foldl
    | with_reducible apply Same.foldl1
    | intro _ _ _
    | intro _ _
    | (fail_if_no_progress ((with_reducible apply Same.upd) <;> first | (intro hb; first | with_reducible rfl | (exfalso; revert hb; decide)) | skip))
    | dsimp only
    | split

theorem State.countUncorr_frame {s : State} {n : Nat} {wrong : List (List Nat)} {since : Bool} : Same 0x2000000000000000000000000000000000001c000000000000000000000000000000000000050000000000000000000000000000000 s (State.countUncorr s n wrong since) := by
  unfold State.countUncorr
  try dsimp only
  repeat' first
    | with_reducible exact Same.refl
    | with_reducible assumption
    | with_reducible apply Same.ite
    | ((with_reducible apply State.tethInc_frame); (decide); decide)
    | with_reducible apply Same.foldl
    | with_reducible apply Same.foldl1
    | intro _ _ _
    | intro _ _
    | (fail_if_no_progress ((with_reducible apply Same.upd) <;> first | (intro hb; first | with_reducible rfl | (exfalso; revert hb; decide)) | skip))
    | dsimp only
    | split

theorem State.linkCheck_frame {s : State} {n : Nat} {w : WslFrame} : Same 0x2020000000000000000000000000000000001c000000000000000000000000000000000000078000000000000000000000000000000 s (State.linkCheck s n w).2 := by
  unfold State.linkCheck
  try dsimp only
  repeat' first
    | with_reducible exact Same.refl
    | with_reducible assumption
    | with_reducible apply Same.ite
    | ((with_reducible apply Same.via State.countCorrected_frame); decide)
    | ((with_reducible apply Same.via State.countUncorr_frame); decide)
    | ((with_reducible apply State.tethInc_frame); (decide); decide)
    | ((with_reducible apply Same.via State.modPort_frame); decide)
    | with_reducible apply Same.foldl
    | with_reducible apply Same.foldl1
    | intro _ _ _
    | intro _ _
    | (fail_if_no_progress ((with_reducible apply Same.upd) <;> first | (intro hb; first | with_reducible rfl | (exfalso; revert hb; decide)) | skip))
    | dsimp only
    | split

theorem execWslFrame_frame {n : Fin 64} {w : WslFrame} {s : State} {t : State} (e : execWslFrame n w s = .next t) :
    Same 0x2020000000000000000000000000000000001c000000000000000000000000000000000000078000000000000000000000000000000 s t := by
  cases e
  try dsimp only
  repeat' first
    | with_reducible exact Same.refl
    | with_reducible assumption
    | with_reducible apply Same.ite
    | ((with_reducible apply Same.via State.linkCheck_frame); decide)
    | ((with_reducible apply Same.via State.countCorrected_frame); decide)
    | ((with_reducible apply Same.via State.countUncorr_frame); decide)
    | with_reducible apply Same.foldl
    | with_reducible apply Same.foldl1
    | intro _ _ _
    | intro _ _
    | (fail_if_no_progress ((with_reducible apply Same.upd) <;> first | (intro hb; first | with_reducible rfl | (exfalso; revert hb; decide)) | skip))
    | dsimp only
    | split

theorem State.acceptMsg_frame {s : State} {n : Nat} {m : Msg} : Same 0x200000000000000000000000000000000000000000000000000000000000000000000000000000000000000000000000000000000 s (State.acceptMsg s n m).2 := by
  unfold State.acceptMsg
  try dsimp only
  repeat' first
    | with_reducible exact Same.refl
    | with_reducible assumption
    | with_reducible apply Same.ite
    | ((with_reducible apply Same.via State.modPort_frame); decide)
    | with_reducible apply Same.foldl
    | with_reducible apply Same.foldl1
    | intro _ _ _
    | intro _ _
    | (fail_if_no_progress ((with_reducible apply Same.upd) <;> first | (intro hb; first | with_reducible rfl | (exfalso; revert hb; decide)) | skip))
    | dsimp only
    | split

theorem State.onMsg_frame {mm : Nat} {rr s : State} {n : Nat} {m : Msg} {type : Nat} {f : State → State}
    (hm0 : 0x200000000000000000000000000000000000000000000000000000000000000000000000000000000000000000000000000000000 ||| mm = mm) (hf : ∀ s, Same mm rr s → Same mm rr (f s)) (h : Same mm rr s) :
    Same mm rr (State.onMsg s n m type f) := by
  have k : Same mm rr (State.acceptMsg s n m).2 := Same.via State.acceptMsg_frame (or_sub (by decide) hm0) h
  unfold State.onMsg
  dsimp only
  split
  · split
    · exact hf _ k
    · exact k
  · exact h

theorem State.assignNode_frame {s : State} {n : Nat} {m : Msg} : Same 0x82020000000000000000000000000000000001c000000000000000000000000000000000183001080000000000000000000000000000 s (State.assignNode s n m) := by
  unfold State.assignNode
  try dsimp only
  repeat' first
    | with_reducible exact Same.refl
    | with_reducible assumption
    | with_reducible apply Same.ite
    | ((with_reducible apply State.put_frame); decide)
    | ((with_reducible apply Same.via State.modPort_frame); decide)
    | ((with_reducible apply Same.via State.portDown_frame); decide)
    | ((with_reducible apply State.tethEvent_frame); (decide); decide)
    | with_reducible apply Same.foldl
    | with_reducible apply Same.foldl1
    | intro _ _ _
    | intro _ _
    | (fail_if_no_progress ((with_reducible apply Same.upd) <;> first | (intro hb; first | with_reducible rfl | (exfalso; revert hb; decide)) | skip))
    | dsimp only
    | split

theorem execAssign_frame {n : Fin 64} {m : Msg} {s : State} {t : State} (e : execAssign n m s = .next t) :
    Same 0x82020000000000000000000000000000000001c000000000000000000000000000000000183001080000000000000000000000000000 s t := by
  cases e
  try dsimp only
  repeat' first
    | with_reducible exact Same.refl
    | with_reducible assumption
    | with_reducible apply Same.ite
    | ((with_reducible apply State.onMsg_frame); decide)
    | ((with_reducible apply Same.via State.assignNode_frame); decide)
    | with_reducible apply Same.foldl
    | with_reducible apply Same.foldl1
    | intro _ _ _
    | intro _ _
    | (fail_if_no_progress ((with_reducible apply Same.upd) <;> first | (intro hb; first | with_reducible rfl | (exfalso; revert hb; decide)) | skip))
    | dsimp only
    | split

theorem execAck_frame {n : Fin 64} {m : Msg} {s : State} {t : State} (e : execAck n m s = .next t) :
    Same 0x200000000000000000000000000000000000000000000000000000000000000000000000000000000000000000000000000000000 s t := by
  cases e
  try dsimp only
  repeat' first
    | with_reducible exact Same.refl
    | with_reducible assumption
    | with_reducible apply Same.ite
    | ((with_reducible apply State.onMsg_frame); decide)
    | ((with_reducible apply Same.via State.modPort_frame); decide)
    | with_reducible apply Same.foldl
    | with_reducible apply Same.foldl1
    | intro _ _ _
    | intro _ _
    | (fail_if_no_progress ((with_reducible apply Same.upd) <;> first | (intro hb; first | with_reducible rfl | (exfalso; revert hb; decide)) | skip))
    | dsimp only
    | split

theorem execMessageResend_frame {n : Fin 64} {s : State} {t : State} (e : execMessageResend n s = .next t) :
    Same 0x2020000000000000000000000000000000001c000000000000000000000000000000000100081000000000000000000000000000000 s t := by
  cases e
  try dsimp only
  repeat' first
    | with_reducible exact Same.refl
    | with_reducible assumption
    | with_reducible apply Same.ite
    | ((with_reducible apply Same.via State.startTraining_frame); decide)
    | ((with_reducible apply Same.via State.modPort_frame); decide)
    | with_reducible apply Same.foldl
    | with_reducible apply Same.foldl1
    | intro _ _ _
    | intro _ _
    | (fail_if_no_progress ((with_reducible apply Same.upd) <;> first | (intro hb; first | with_reducible rfl | (exfalso; revert hb; decide)) | skip))
    | dsimp only
    | split

theorem State.narrowRx_frame {s : State} {n : Nat} : Same 0x82020000000000000000000000000000000001c000000000000000000000000000000000102001080000000000000000000000000000 s (State.narrowRx s n) := by
  unfold State.narrowRx
  try dsimp only
  repeat' first
    | with_reducible exact Same.refl
    | with_reducible assumption
    | with_reducible apply Same.ite
    | ((with_reducible apply Same.via State.portDown_frame); decide)
    | ((with_reducible apply Same.via State.modPort_frame); decide)
    | ((with_reducible apply Same.via State.queueMsg_frame); decide)
    | with_reducible apply Same.foldl
    | with_reducible apply Same.foldl1
    | intro _ _ _
    | intro _ _
    | (fail_if_no_progress ((with_reducible apply Same.upd) <;> first | (intro hb; first | with_reducible rfl | (exfalso; revert hb; decide)) | skip))
    | dsimp only
    | split

theorem State.loseLane_frame {s : State} {n l : Nat} : Same 0x82020000000000000000000000000000000001c000000000000000000000000000000000142407f80000000000000000000000000000 s (State.loseLane s n l) := by
  unfold State.loseLane
  try dsimp only
  repeat' first
    | with_reducible exact Same.refl
    | with_reducible assumption
    | with_reducible apply Same.ite
    | ((with_reducible apply State.tethInc_frame); (decide); decide)
    | ((with_reducible apply State.tethEvent_frame); (decide); decide)
    | ((with_reducible apply Same.via State.setDir_frame); decide)
    | ((with_reducible apply Same.via State.narrowRx_frame); decide)
    | ((with_reducible apply Same.via State.queueMsg_frame); decide)
    | with_reducible apply Same.foldl
    | with_reducible apply Same.foldl1
    | intro _ _ _
    | intro _ _
    | (fail_if_no_progress ((with_reducible apply Same.upd) <;> first | (intro hb; first | with_reducible rfl | (exfalso; revert hb; decide)) | skip))
    | dsimp only
    | split

theorem execLaneLost_frame {n : Fin 64} {l : Fin 17} {signal : Bool} {s : State} {t : State} (e : execLaneLost n l signal s = .next t) :
    Same 0x82020000000000000000000000000000000001c000000000000000000000000000000000142407f80000000000000000000000000000 s t := by
  cases e
  try dsimp only
  repeat' first
    | with_reducible exact Same.refl
    | with_reducible assumption
    | with_reducible apply Same.ite
    | ((with_reducible apply Same.via State.loseLane_frame); decide)
    | with_reducible apply Same.foldl
    | with_reducible apply Same.foldl1
    | intro _ _ _
    | intro _ _
    | (fail_if_no_progress ((with_reducible apply Same.upd) <;> first | (intro hb; first | with_reducible rfl | (exfalso; revert hb; decide)) | skip))
    | dsimp only
    | split

theorem State.answerLaneFail_frame {s : State} {n : Nat} {m : Msg} : Same 0x200000000000000000000000000000000000000000000000000000000000000000000000006f00000000000000000000000000000 s (State.answerLaneFail s n m) := by
  unfold State.answerLaneFail
  try dsimp only
  repeat' first
    | with_reducible exact Same.refl
    | with_reducible assumption
    | with_reducible apply Same.ite
    | ((with_reducible apply Same.via State.setDir_frame); decide)
    | ((with_reducible apply Same.via State.queueMsg_frame); decide)
    | with_reducible apply Same.foldl
    | with_reducible apply Same.foldl1
    | intro _ _ _
    | intro _ _
    | (fail_if_no_progress ((with_reducible apply Same.upd) <;> first | (intro hb; first | with_reducible rfl | (exfalso; revert hb; decide)) | skip))
    | dsimp only
    | split

theorem execLaneFail_frame {n : Fin 64} {m : Msg} {s : State} {t : State} (e : execLaneFail n m s = .next t) :
    Same 0x200000000000000000000000000000000000000000000000000000000000000000000000006f00000000000000000000000000000 s t := by
  cases e
  try dsimp only
  repeat' first
    | with_reducible exact Same.refl
    | with_reducible assumption
    | with_reducible apply Same.ite
    | ((with_reducible apply State.onMsg_frame); decide)
    | ((with_reducible apply Same.via State.answerLaneFail_frame); decide)
    | with_reducible apply Same.foldl
    | with_reducible apply Same.foldl1
    | intro _ _ _
    | intro _ _
    | (fail_if_no_progress ((with_reducible apply Same.upd) <;> first | (intro hb; first | with_reducible rfl | (exfalso; revert hb; decide)) | skip))
    | dsimp only
    | split

theorem execLaneSwitch_frame {n : Fin 64} {m : Msg} {s : State} {t : State} (e : execLaneSwitch n m s = .next t) :
    Same 0x200000000000000000000000000000000000000000000000000000000000000000000000000000000000000000000000000000000 s t := by
  cases e
  try dsimp only
  repeat' first
    | with_reducible exact Same.refl
    | with_reducible assumption
    | with_reducible apply Same.ite
    | ((with_reducible apply State.onMsg_frame); decide)
    | ((with_reducible apply Same.via State.modPort_frame); decide)
    | with_reducible apply Same.foldl
    | with_reducible apply Same.foldl1
    | intro _ _ _
    | intro _ _
    | (fail_if_no_progress ((with_reducible apply Same.upd) <;> first | (intro hb; first | with_reducible rfl | (exfalso; revert hb; decide)) | skip))
    | dsimp only
    | split

theorem State.substitute_frame {s : State} {n : Nat} {d : Dir} : Same 0x82020000000000000000000000000000000001c000000000000000000000000000000000020206f00000000000000000000000000000 s (State.substitute s n d) := by
  unfold State.substitute
  try dsimp only
  repeat' first
    | with_reducible exact Same.refl
    | with_reducible assumption
    | with_reducible apply Same.ite
    | ((with_reducible apply Same.via State.setDir_frame); decide)
    | ((with_reducible apply State.tethInc_frame); (decide); decide)
    | ((with_reducible apply State.tethEvent_frame); (decide); decide)
    | with_reducible apply Same.foldl
    | with_reducible apply Same.foldl1
    | intro _ _ _
    | intro _ _
    | (fail_if_no_progress ((with_reducible apply Same.upd) <;> first | (intro hb; first | with_reducible rfl | (exfalso; revert hb; decide)) | skip))
    | dsimp only
    | split

theorem execSubstitution_frame {n : Fin 64} {d : Dir} {s : State} {t : State} (e : execSubstitution n d s = .next t) :
    Same 0x82020000000000000000000000000000000001c000000000000000000000000000000000020206f00000000000000000000000000000 s t := by
  cases e
  try dsimp only
  repeat' first
    | with_reducible exact Same.refl
    | with_reducible assumption
    | with_reducible apply Same.ite
    | ((with_reducible apply Same.via State.substitute_frame); decide)
    | with_reducible apply Same.foldl
    | with_reducible apply Same.foldl1
    | intro _ _ _
    | intro _ _
    | (fail_if_no_progress ((with_reducible apply Same.upd) <;> first | (intro hb; first | with_reducible rfl | (exfalso; revert hb; decide)) | skip))
    | dsimp only
    | split

theorem execNarrow_frame {n : Fin 64} {m : Msg} {s : State} {t : State} (e : execNarrow n m s = .next t) :
    Same 0x200000000000000000000000000000000000000000000000000000000000000000000000000000000000000000000000000000000 s t := by
  cases e
  try dsimp only
  repeat' first
    | with_reducible exact Same.refl
    | with_reducible assumption
    | with_reducible apply Same.ite
    | ((with_reducible apply State.onMsg_frame); decide)
    | ((with_reducible apply Same.via State.modPort_frame); decide)
    | with_reducible apply Same.foldl
    | with_reducible apply Same.foldl1
    | intro _ _ _
    | intro _ _
    | (fail_if_no_progress ((with_reducible apply Same.upd) <;> first | (intro hb; first | with_reducible rfl | (exfalso; revert hb; decide)) | skip))
    | dsimp only
    | split

theorem State.sendOn_frame {s : State} {n : Nat} {w : WslFrame} : Same 0x400000000000000000000000000000000000000000000000000000000000000000000000000000000000000000000000000000000000 s (State.sendOn s n w) := by
  unfold State.sendOn
  try dsimp only
  repeat' first
    | with_reducible exact Same.refl
    | with_reducible assumption
    | with_reducible apply Same.ite
    | ((with_reducible apply Same.via State.send_frame); decide)
    | with_reducible apply Same.foldl
    | with_reducible apply Same.foldl1
    | intro _ _ _
    | intro _ _
    | (fail_if_no_progress ((with_reducible apply Same.upd) <;> first | (intro hb; first | with_reducible rfl | (exfalso; revert hb; decide)) | skip))
    | dsimp only
    | split

theorem State.resendFrom_frame {s : State} {n q : Nat} : Same 0x400000000000000000000000000000000000000000000000000000000000000000000000000000000000000000000000000000000000 s (State.resendFrom s n q) := by
  unfold State.resendFrom
  try dsimp only
  repeat' first
    | with_reducible exact Same.refl
    | with_reducible assumption
    | with_reducible apply Same.ite
    | ((with_reducible apply Same.via State.sendOn_frame); decide)
    | with_reducible apply Same.foldl
    | with_reducible apply Same.foldl1
    | intro _ _ _
    | intro _ _
    | (fail_if_no_progress ((with_reducible apply Same.upd) <;> first | (intro hb; first | with_reducible rfl | (exfalso; revert hb; decide)) | skip))
    | dsimp only
    | split

theorem State.narrowSwitch_frame {s : State} {n : Nat} {d : Dir} : Same 0xc2020000000000000000000000000000000001c000000000000000000000000000000000010106f00000000000000000000000000000 s (State.narrowSwitch s n d) := by
  unfold State.narrowSwitch
  try dsimp only
  repeat' first
    | with_reducible exact Same.refl
    | with_reducible assumption
    | with_reducible apply Same.ite
    | ((with_reducible apply Same.via State.setDir_frame); decide)
    | ((with_reducible apply State.tethInc_frame); (decide); decide)
    | ((with_reducible apply State.tethEvent_frame); (decide); decide)
    | ((with_reducible apply Same.via State.resendFrom_frame); decide)
    | with_reducible apply Same.foldl
    | with_reducible apply Same.foldl1
    | intro _ _ _
    | intro _ _
    | (fail_if_no_progress ((with_reducible apply Same.upd) <;> first | (intro hb; first | with_reducible rfl | (exfalso; revert hb; decide)) | skip))
    | dsimp only
    | split

theorem execNarrowSwitch_frame {n : Fin 64} {d : Dir} {s : State} {t : State} (e : execNarrowSwitch n d s = .next t) :
    Same 0xc2020000000000000000000000000000000001c000000000000000000000000000000000010106f00000000000000000000000000000 s t := by
  cases e
  try dsimp only
  repeat' first
    | with_reducible exact Same.refl
    | with_reducible assumption
    | with_reducible apply Same.ite
    | ((with_reducible apply Same.via State.narrowSwitch_frame); decide)
    | with_reducible apply Same.foldl
    | with_reducible apply Same.foldl1
    | intro _ _ _
    | intro _ _
    | (fail_if_no_progress ((with_reducible apply Same.upd) <;> first | (intro hb; first | with_reducible rfl | (exfalso; revert hb; decide)) | skip))
    | dsimp only
    | split

theorem State.sendFrame_frame {s : State} {n cls type : Nat} {payload : Bytes} : Same 0x400200000000000000000000000000000000000000000000000000000000000000000000000000000000000000000000000000000000 s (State.sendFrame s n cls type payload) := by
  unfold State.sendFrame
  try dsimp only
  repeat' first
    | with_reducible exact Same.refl
    | with_reducible assumption
    | with_reducible apply Same.ite
    | ((with_reducible apply Same.via State.modPort_frame); decide)
    | ((with_reducible apply Same.via State.sendOn_frame); decide)
    | with_reducible apply Same.foldl
    | with_reducible apply Same.foldl1
    | intro _ _ _
    | intro _ _
    | (fail_if_no_progress ((with_reducible apply Same.upd) <;> first | (intro hb; first | with_reducible rfl | (exfalso; revert hb; decide)) | skip))
    | dsimp only
    | split

theorem State.sendWords_frame {s : State} {n cls type : Nat} {bytes : Bytes} : Same 0x400200000000000000000000000000000000000000000000000000000000000000000000000000000000000000000000000000000000 s (State.sendWords s n cls type bytes) := by
  unfold State.sendWords
  try dsimp only
  repeat' first
    | with_reducible exact Same.refl
    | with_reducible assumption
    | with_reducible apply Same.ite
    | ((with_reducible apply Same.via State.sendFrame_frame); decide)
    | with_reducible apply Same.foldl
    | with_reducible apply Same.foldl1
    | intro _ _ _
    | intro _ _
    | (fail_if_no_progress ((with_reducible apply Same.upd) <;> first | (intro hb; first | with_reducible rfl | (exfalso; revert hb; decide)) | skip))
    | dsimp only
    | split

theorem execUncorrLimit_frame {n : Fin 64} {s : State} {t : State} (e : execUncorrLimit n s = .next t) :
    Same 0x82020000000000000000000000000000000001c000000000000000000000000000000000108001000000000000000000000000000000 s t := by
  cases e
  try dsimp only
  repeat' first
    | with_reducible exact Same.refl
    | with_reducible assumption
    | with_reducible apply Same.ite
    | ((with_reducible apply Same.via State.setPortState_frame); decide)
    | ((with_reducible apply State.tethEvent_frame); (decide); decide)
    | ((with_reducible apply Same.via State.queueMsg_frame); decide)
    | ((with_reducible apply Same.via State.modPort_frame); decide)
    | with_reducible apply Same.foldl
    | with_reducible apply Same.foldl1
    | intro _ _ _
    | intro _ _
    | (fail_if_no_progress ((with_reducible apply Same.upd) <;> first | (intro hb; first | with_reducible rfl | (exfalso; revert hb; decide)) | skip))
    | dsimp only
    | split

theorem execRetrainReq_frame {n : Fin 64} {m : Msg} {s : State} {t : State} (e : execRetrainReq n m s = .next t) :
    Same 0x2020000000000000000000000000000000001c000000000000000000000000000000000100081000000000000000000000000000000 s t := by
  cases e
  try dsimp only
  repeat' first
    | with_reducible exact Same.refl
    | with_reducible assumption
    | with_reducible apply Same.ite
    | ((with_reducible apply State.onMsg_frame); decide)
    | ((with_reducible apply Same.via State.startTraining_frame); decide)
    | with_reducible apply Same.foldl
    | with_reducible apply Same.foldl1
    | intro _ _ _
    | intro _ _
    | (fail_if_no_progress ((with_reducible apply Same.upd) <;> first | (intro hb; first | with_reducible rfl | (exfalso; revert hb; decide)) | skip))
    | dsimp only
    | split

theorem State.retrainDue_frame {s : State} {n : Nat} : Same 0x2020000000000000000000000000000000001c000000000000000000000000000000000100081000000000000000000000000000000 s (State.retrainDue s n) := by
  unfold State.retrainDue
  try dsimp only
  repeat' first
    | with_reducible exact Same.refl
    | with_reducible assumption
    | with_reducible apply Same.ite
    | ((with_reducible apply Same.via State.startTraining_frame); decide)
    | with_reducible apply Same.foldl
    | with_reducible apply Same.foldl1
    | intro _ _ _
    | intro _ _
    | (fail_if_no_progress ((with_reducible apply Same.upd) <;> first | (intro hb; first | with_reducible rfl | (exfalso; revert hb; decide)) | skip))
    | dsimp only
    | split

theorem State.trainLanes_frame {s : State} {n rx tx : Nat} : Same 0x82020000000000000000000000000000000001c000000000000000000000000000000000102007f80000000000000000000000000000 s (State.trainLanes s n rx tx) := by
  unfold State.trainLanes
  try dsimp only
  repeat' first
    | with_reducible exact Same.refl
    | with_reducible assumption
    | with_reducible apply Same.ite
    | ((with_reducible apply Same.via State.setDir_frame); decide)
    | ((with_reducible apply Same.via State.portDown_frame); decide)
    | ((with_reducible apply Same.via State.modPort_frame); decide)
    | ((with_reducible apply Same.via State.queueMsg_frame); decide)
    | with_reducible apply Same.foldl
    | with_reducible apply Same.foldl1
    | intro _ _ _
    | intro _ _
    | (fail_if_no_progress ((with_reducible apply Same.upd) <;> first | (intro hb; first | with_reducible rfl | (exfalso; revert hb; decide)) | skip))
    | dsimp only
    | split

theorem execTraining_frame {n : Fin 64} {rx tx : BitVec 17} {s : State} {t : State} (e : execTraining n rx tx s = .next t) :
    Same 0x82020000000000000000000000000000000001c000000000000000000000000000000000102087f80000000000000000000000000000 s t := by
  cases e
  try dsimp only
  repeat' first
    | with_reducible exact Same.refl
    | with_reducible assumption
    | with_reducible apply Same.ite
    | ((with_reducible apply Same.via State.retrainDue_frame); decide)
    | ((with_reducible apply Same.via State.trainLanes_frame); decide)
    | with_reducible apply Same.foldl
    | with_reducible apply Same.foldl1
    | intro _ _ _
    | intro _ _
    | (fail_if_no_progress ((with_reducible apply Same.upd) <;> first | (intro hb; first | with_reducible rfl | (exfalso; revert hb; decide)) | skip))
    | dsimp only
    | split

theorem execTrainingDone_frame {n : Fin 64} {m : Msg} {arrival : Nat} {s : State} {t : State} (e : execTrainingDone n m arrival s = .next t) :
    Same 0x82020000000000000000000000000000000001c000000000000000000000000000000000304041000000000000000000000000000000 s t := by
  cases e
  try dsimp only
  repeat' first
    | with_reducible exact Same.refl
    | with_reducible assumption
    | with_reducible apply Same.ite
    | ((with_reducible apply State.onMsg_frame); decide)
    | ((with_reducible apply Same.via State.setPortState_frame); decide)
    | ((with_reducible apply State.put_frame); decide)
    | ((with_reducible apply State.tethEvent_frame); (decide); decide)
    | with_reducible apply Same.foldl
    | with_reducible apply Same.foldl1
    | intro _ _ _
    | intro _ _
    | (fail_if_no_progress ((with_reducible apply Same.upd) <;> first | (intro hb; first | with_reducible rfl | (exfalso; revert hb; decide)) | skip))
    | dsimp only
    | split

theorem execTrainingTimeout_frame {n : Fin 64} {s : State} {t : State} (e : execTrainingTimeout n s = .next t) :
    Same 0x82020000000000000000000000000000000001c000000000000000000000000000000000102001080000000000000000000000000000 s t := by
  cases e
  try dsimp only
  repeat' first
    | with_reducible exact Same.refl
    | with_reducible assumption
    | with_reducible apply Same.ite
    | ((with_reducible apply Same.via State.portDown_frame); decide)
    | ((with_reducible apply Same.via State.modPort_frame); decide)
    | with_reducible apply Same.foldl
    | with_reducible apply Same.foldl1
    | intro _ _ _
    | intro _ _
    | (fail_if_no_progress ((with_reducible apply Same.upd) <;> first | (intro hb; first | with_reducible rfl | (exfalso; revert hb; decide)) | skip))
    | dsimp only
    | split

theorem State.portAction_frame {s : State} {n a : Nat} {allowed : Bool} : Same 0x2020000000000000000000000000000000001c000000000000000000000000000000000000000000000000000000000000000000000 s (State.portAction s n a allowed) := by
  unfold State.portAction
  try dsimp only
  repeat' first
    | with_reducible exact Same.refl
    | with_reducible assumption
    | with_reducible apply Same.ite
    | ((with_reducible apply Same.via State.modPort_frame); decide)
    | ((with_reducible apply Same.via State.ignored_frame); decide)
    | with_reducible apply Same.foldl
    | with_reducible apply Same.foldl1
    | intro _ _ _
    | intro _ _
    | (fail_if_no_progress ((with_reducible apply Same.upd) <;> first | (intro hb; first | with_reducible rfl | (exfalso; revert hb; decide)) | skip))
    | dsimp only
    | split

theorem execOnline_frame {n : Fin 64} {s : State} {t : State} (e : execOnline n s = .next t) :
    Same 0x2020000000000000000000000000000000001c000000000000000000000000000000000000000000000000000000000000000000000 s t := by
  cases e
  try dsimp only
  repeat' first
    | with_reducible exact Same.refl
    | with_reducible assumption
    | with_reducible apply Same.ite
    | with_reducible apply State.whenBooted_frame
    | ((with_reducible apply Same.via State.portAction_frame); decide)
    | with_reducible apply Same.foldl
    | with_reducible apply Same.foldl1
    | intro _ _ _
    | intro _ _
    | (fail_if_no_progress ((with_reducible apply Same.upd) <;> first | (intro hb; first | with_reducible rfl | (exfalso; revert hb; decide)) | skip))
    | dsimp only
    | split

theorem execLoopback_frame {n : Fin 64} {s : State} {t : State} (e : execLoopback n s = .next t) :
    Same 0x2020000000000000000000000000000000001c000000000000000000000000000000000000000000000000000000000000000000000 s t := by
  cases e
  try dsimp only
  repeat' first
    | with_reducible exact Same.refl
    | with_reducible assumption
    | with_reducible apply Same.ite
    | with_reducible apply State.whenBooted_frame
    | ((with_reducible apply Same.via State.portAction_frame); decide)
    | with_reducible apply Same.foldl
    | with_reducible apply Same.foldl1
    | intro _ _ _
    | intro _ _
    | (fail_if_no_progress ((with_reducible apply Same.upd) <;> first | (intro hb; first | with_reducible rfl | (exfalso; revert hb; decide)) | skip))
    | dsimp only
    | split

theorem execOffline_frame {n : Fin 64} {s : State} {t : State} (e : execOffline n s = .next t) :
    Same 0x2020000000000000000000000000000000001c000000000000000000000000000000000000000000000000000000000000000000000 s t := by
  cases e
  try dsimp only
  repeat' first
    | with_reducible exact Same.refl
    | with_reducible assumption
    | with_reducible apply Same.ite
    | with_reducible apply State.whenBooted_frame
    | ((with_reducible apply Same.via State.portAction_frame); decide)
    | with_reducible apply Same.foldl
    | with_reducible apply Same.foldl1
    | intro _ _ _
    | intro _ _
    | (fail_if_no_progress ((with_reducible apply Same.upd) <;> first | (intro hb; first | with_reducible rfl | (exfalso; revert hb; decide)) | skip))
    | dsimp only
    | split

theorem execRetrain_frame {n : Fin 64} {s : State} {t : State} (e : execRetrain n s = .next t) :
    Same 0x2020000000000000000000000000000000001c000000000000000000000000000000000000000000000000000000000000000000000 s t := by
  cases e
  try dsimp only
  repeat' first
    | with_reducible exact Same.refl
    | with_reducible assumption
    | with_reducible apply Same.ite
    | with_reducible apply State.whenBooted_frame
    | ((with_reducible apply Same.via State.portAction_frame); decide)
    | with_reducible apply Same.foldl
    | with_reducible apply Same.foldl1
    | intro _ _ _
    | intro _ _
    | (fail_if_no_progress ((with_reducible apply Same.upd) <;> first | (intro hb; first | with_reducible rfl | (exfalso; revert hb; decide)) | skip))
    | dsimp only
    | split

theorem State.hostRetrain_frame {s : State} {n : Nat} : Same 0x200000000000000000000000000000000000000000000000000000000000000000000000000000000000000000000000000000000 s (State.hostRetrain s n) := by
  unfold State.hostRetrain
  try dsimp only
  repeat' first
    | with_reducible exact Same.refl
    | with_reducible assumption
    | with_reducible apply Same.ite
    | ((with_reducible apply Same.via State.queueMsg_frame); decide)
    | ((with_reducible apply Same.via State.modPort_frame); decide)
    | with_reducible apply Same.foldl
    | with_reducible apply Same.foldl1
    | intro _ _ _
    | intro _ _
    | (fail_if_no_progress ((with_reducible apply Same.upd) <;> first | (intro hb; first | with_reducible rfl | (exfalso; revert hb; decide)) | skip))
    | dsimp only
    | split

theorem State.doAction_frame {s : State} {n a : Nat} : Same 0x2020000000000000000000000000000000001c000000000000000000000000000000000100081000000000000000000000000000000 s (State.doAction s n a) := by
  unfold State.doAction
  try dsimp only
  repeat' first
    | with_reducible exact Same.refl
    | with_reducible assumption
    | with_reducible apply Same.ite
    | ((with_reducible apply Same.via State.startTraining_frame); decide)
    | ((with_reducible apply Same.via State.setPortState_frame); decide)
    | ((with_reducible apply Same.via State.hostRetrain_frame); decide)
    | with_reducible apply Same.foldl
    | with_reducible apply Same.foldl1
    | intro _ _ _
    | intro _ _
    | (fail_if_no_progress ((with_reducible apply Same.upd) <;> first | (intro hb; first | with_reducible rfl | (exfalso; revert hb; decide)) | skip))
    | dsimp only
    | split

theorem State.portActions_frame {s : State} : Same 0x2020000000000000000000000000000000001c000000000000000000000000000000000100081000000000000000000000000000000 s (State.portActions s) := by
  unfold State.portActions
  try dsimp only
  repeat' first
    | with_reducible exact Same.refl
    | with_reducible assumption
    | with_reducible apply Same.ite
    | ((with_reducible apply Same.via State.doAction_frame); decide)
    | ((with_reducible apply Same.via State.modPort_frame); decide)
    | with_reducible apply Same.foldl
    | with_reducible apply Same.foldl1
    | intro _ _ _
    | intro _ _
    | (fail_if_no_progress ((with_reducible apply Same.upd) <;> first | (intro hb; first | with_reducible rfl | (exfalso; revert hb; decide)) | skip))
    | dsimp only
    | split

theorem execPortEnable_frame {n : Fin 64} {s : State} {t : State} (e : execPortEnable n s = .next t) :
    Same 0x2020000000000000000000000000000000001c000000000000000000000000000000000100081004000000000000000000000000000 s t := by
  cases e
  try dsimp only
  repeat' first
    | with_reducible exact Same.refl
    | with_reducible assumption
    | with_reducible apply Same.ite
    | with_reducible apply State.whenBooted_frame
    | ((with_reducible apply State.put_frame); decide)
    | ((with_reducible apply Same.via State.tryTrain_frame); decide)
    | with_reducible apply Same.foldl
    | with_reducible apply Same.foldl1
    | intro _ _ _
    | intro _ _
    | (fail_if_no_progress ((with_reducible apply Same.upd) <;> first | (intro hb; first | with_reducible rfl | (exfalso; revert hb; decide)) | skip))
    | dsimp only
    | split

theorem State.echo_frame {s : State} : Same 0x40000000000000000000000000000000000000000000000000000000000000000000000000000000000000000000000000000 s (State.echo s).2 := by
  unfold State.echo
  try dsimp only
  repeat' first
    | with_reducible exact Same.refl
    | with_reducible assumption
    | with_reducible apply Same.ite
    | ((with_reducible apply Same.via State.draw_frame); decide)
    | with_reducible apply Same.foldl
    | with_reducible apply Same.foldl1
    | intro _ _ _
    | intro _ _
    | (fail_if_no_progress ((with_reducible apply Same.upd) <;> first | (intro hb; first | with_reducible rfl | (exfalso; revert hb; decide)) | skip))
    | dsimp only
    | split

theorem State.slotMessages_frame {s : State} {n : Nat} : Same 0x200000000000000000000000000000000000000000000000000000000000000000000000000000000000000000000000000000000 s (State.slotMessages s n).2 := by
  unfold State.slotMessages
  try dsimp only
  repeat' first
    | with_reducible exact Same.refl
    | with_reducible assumption
    | with_reducible apply Same.ite
    | ((with_reducible apply Same.via State.setPort_frame); decide)
    | with_reducible apply Same.foldl
    | with_reducible apply Same.foldl1
    | intro _ _ _
    | intro _ _
    | (fail_if_no_progress ((with_reducible apply Same.upd) <;> first | (intro hb; first | with_reducible rfl | (exfalso; revert hb; decide)) | skip))
    | dsimp only
    | split

theorem State.edgeSlot_frame {s : State} {n : Nat} : Same 0x42020004000000000000000000000000000001c000000000000000000000000000000000100081000000000000000000000000000000 s (State.edgeSlot s n) := by
  unfold State.edgeSlot
  try dsimp only
  repeat' first
    | with_reducible exact Same.refl
    | with_reducible assumption
    | with_reducible apply Same.ite
    | ((with_reducible apply Same.via State.echo_frame); decide)
    | ((with_reducible apply Same.via State.slotMessages_frame); decide)
    | ((with_reducible apply Same.via State.sendOn_frame); decide)
    | ((with_reducible apply Same.via State.retrainDue_frame); decide)
    | with_reducible apply Same.foldl
    | with_reducible apply Same.foldl1
    | intro _ _ _
    | intro _ _
    | (fail_if_no_progress ((with_reducible apply Same.upd) <;> first | (intro hb; first | with_reducible rfl | (exfalso; revert hb; decide)) | skip))
    | dsimp only
    | split

theorem State.mirrorFlush_frame {s : State} {p : Nat} : Same 0x400224800000000000000000000000000000000000000000000046000000000000000000000000000000000000000000000000000000 s (State.mirrorFlush s p) := by
  unfold State.mirrorFlush
  try dsimp only
  repeat' first
    | with_reducible exact Same.refl
    | with_reducible assumption
    | with_reducible apply Same.ite
    | ((with_reducible apply Same.via State.journal_frame); decide)
    | ((with_reducible apply Same.via State.sendWords_frame); decide)
    | ((with_reducible apply Same.via State.modPart_frame); decide)
    | with_reducible apply Same.foldl
    | with_reducible apply Same.foldl1
    | intro _ _ _
    | intro _ _
    | (fail_if_no_progress ((with_reducible apply Same.upd) <;> first | (intro hb; first | with_reducible rfl | (exfalso; revert hb; decide)) | skip))
    | dsimp only
    | split

theorem State.portHist_frame {s : State} : Same 0x2020000000000000000000000000000000001c000000000000000000000000000000000000000000000000000000000000000000000 s (State.portHist s) := by
  unfold State.portHist
  try dsimp only
  repeat' first
    | with_reducible exact Same.refl
    | with_reducible assumption
    | with_reducible apply Same.ite
    | ((with_reducible apply Same.via State.sample_frame); decide)
    | ((with_reducible apply Same.via State.modPort_frame); decide)
    | with_reducible apply Same.foldl
    | with_reducible apply Same.foldl1
    | intro _ _ _
    | intro _ _
    | (fail_if_no_progress ((with_reducible apply Same.upd) <;> first | (intro hb; first | with_reducible rfl | (exfalso; revert hb; decide)) | skip))
    | dsimp only
    | split

theorem State.fruCopy_frame {mm : Nat} {rr : State} {s : State} {a : Nat} {bs : Bytes} {f : Field} {bitNo : Nat} {valid : Bool} (hf0 : mm.testBit f.code = true) (hm0 : 0x1000000000010000000000000000000000000000000000000000000000000000000000000000000000000000000000000000000 ||| mm = mm)
    (hv : Same mm rr s) : Same mm rr (State.fruCopy s a bs f bitNo valid) := by
  unfold State.fruCopy
  try dsimp only
  repeat' first
    | with_reducible exact Same.refl
    | with_reducible assumption
    | with_reducible apply Same.ite
    | ((with_reducible apply State.put_frame); (first | decide | with_reducible assumption | exact or_sub (by decide) hm0 | exact bit_of_or hm0 (by decide)))
    | with_reducible apply Same.foldl
    | with_reducible apply Same.foldl1
    | intro _ _ _
    | intro _ _
    | (fail_if_no_progress ((with_reducible apply Same.upd) <;> first | (intro hb; first | with_reducible rfl | (exfalso; revert hb; decide) | exact absurd (testBit_of_or hm0 hb) (by decide)) | skip))
    | dsimp only
    | split

theorem State.checkLaser_frame {s : State} {e : Nat} : Same 0x82000100000000001100000000000000000001c000001000000000000000000000000001000800000000000000000000000000000000 s (State.checkLaser s e) := by
  unfold State.checkLaser
  try dsimp only
  repeat' first
    | with_reducible exact Same.refl
    | with_reducible assumption
    | with_reducible apply Same.ite
    | ((with_reducible apply State.fruCopy_frame); (decide); decide)
    | ((with_reducible apply Same.via State.setLaserState_frame); decide)
    | ((with_reducible apply State.put_frame); decide)
    | with_reducible apply Same.foldl
    | with_reducible apply Same.foldl1
    | intro _ _ _
    | intro _ _
    | (fail_if_no_progress ((with_reducible apply Same.upd) <;> first | (intro hb; first | with_reducible rfl | (exfalso; revert hb; decide)) | skip))
    | dsimp only
    | split

theorem State.recheckLaser_frame {s : State} {e : Nat} : Same 0x82000100000000001100000000000000000001c000001000000000000000000000000001000800000000000000000000000000000000 s (State.recheckLaser s e) := by
  unfold State.recheckLaser
  try dsimp only
  repeat' first
    | with_reducible exact Same.refl
    | with_reducible assumption
    | with_reducible apply Same.ite
    | ((with_reducible apply Same.via State.checkLaser_frame); decide)
    | with_reducible apply Same.foldl
    | with_reducible apply Same.foldl1
    | intro _ _ _
    | intro _ _
    | (fail_if_no_progress ((with_reducible apply Same.upd) <;> first | (intro hb; first | with_reducible rfl | (exfalso; revert hb; decide)) | skip))
    | dsimp only
    | split

theorem State.insertLaser_frame {s : State} {e : Nat} {lower page : Bytes} {typeOk : Bool} {part : Bytes} {watts : Nat} : Same 0x82040100000000001100000000000000000001c000001000000000000000000000000001400800000000000000000000000000000000 s (State.insertLaser s e lower page typeOk part watts) := by
  unfold State.insertLaser
  try dsimp only
  repeat' first
    | with_reducible exact Same.refl
    | with_reducible assumption
    | with_reducible apply Same.ite
    | ((with_reducible apply State.tethInc_frame); (decide); decide)
    | ((with_reducible apply Same.via State.setLaser_frame); decide)
    | ((with_reducible apply Same.via State.checkLaser_frame); decide)
    | with_reducible apply Same.foldl
    | with_reducible apply Same.foldl1
    | intro _ _ _
    | intro _ _
    | (fail_if_no_progress ((with_reducible apply Same.upd) <;> first | (intro hb; first | with_reducible rfl | (exfalso; revert hb; decide)) | skip))
    | dsimp only
    | split

theorem execLaserInsert_frame {e : Fin 16} {lower page : Bytes} {typeOk : Bool} {part : Bytes} {watts : Nat} {s : State} {t : State} (e : execLaserInsert e lower page typeOk part watts s = .next t) :
    Same 0x82040100000000001100000000000000000001c000001000000000000000000000000001400800000000000000000000000000000000 s t := by
  cases e
  try dsimp only
  repeat' first
    | with_reducible exact Same.refl
    | with_reducible assumption
    | with_reducible apply Same.ite
    | ((with_reducible apply Same.via State.insertLaser_frame); decide)
    | with_reducible apply Same.foldl
    | with_reducible apply Same.foldl1
    | intro _ _ _
    | intro _ _
    | (fail_if_no_progress ((with_reducible apply Same.upd) <;> first | (intro hb; first | with_reducible rfl | (exfalso; revert hb; decide)) | skip))
    | dsimp only
    | split

theorem execLaserReady_frame {e : Fin 16} {s : State} {t : State} (e : execLaserReady e s = .next t) :
    Same 0x82020000000000000000000000000000000001c000001000000000000000000000000001100881000000000000000000000000000000 s t := by
  cases e
  try dsimp only
  repeat' first
    | with_reducible exact Same.refl
    | with_reducible assumption
    | with_reducible apply Same.ite
    | ((with_reducible apply Same.via State.tryTrain_frame); decide)
    | ((with_reducible apply Same.via State.setLaserState_frame); decide)
    | ((with_reducible apply State.put_frame); decide)
    | with_reducible apply Same.foldl
    | with_reducible apply Same.foldl1
    | intro _ _ _
    | intro _ _
    | (fail_if_no_progress ((with_reducible apply Same.upd) <;> first | (intro hb; first | with_reducible rfl | (exfalso; revert hb; decide)) | skip))
    | dsimp only
    | split

theorem execSwap_frame {e : Fin 16} {s : State} {t : State} (e : execSwap e s = .next t) :
    Same 0x600000000000000000000000000000000000000000000000000000000000000000000000000000000000000000000000000000000 s t := by
  cases e
  try dsimp only
  repeat' first
    | with_reducible exact Same.refl
    | with_reducible assumption
    | with_reducible apply Same.ite
    | with_reducible apply State.whenBooted_frame
    | ((with_reducible apply Same.via State.modPort_frame); decide)
    | ((with_reducible apply Same.via State.setLaser_frame); decide)
    | with_reducible apply Same.foldl
    | with_reducible apply Same.foldl1
    | intro _ _ _
    | intro _ _
    | (fail_if_no_progress ((with_reducible apply Same.upd) <;> first | (intro hb; first | with_reducible rfl | (exfalso; revert hb; decide)) | skip))
    | dsimp only
    | split

theorem execLaserAlarm_frame {e : Fin 16} {s : State} {t : State} (e : execLaserAlarm e s = .next t) :
    Same 0x82020000000000000000000000000000000001c000000000000000000000000000000001102801080000000000000000000000000000 s t := by
  cases e
  try dsimp only
  repeat' first
    | with_reducible exact Same.refl
    | with_reducible assumption
    | with_reducible apply Same.ite
    | ((with_reducible apply Same.via State.portDown_frame); decide)
    | ((with_reducible apply Same.via State.setLaserState_frame); decide)
    | with_reducible apply Same.foldl
    | with_reducible apply Same.foldl1
    | intro _ _ _
    | intro _ _
    | (fail_if_no_progress ((with_reducible apply Same.upd) <;> first | (intro hb; first | with_reducible rfl | (exfalso; revert hb; decide)) | skip))
    | dsimp only
    | split

theorem execLaserRemove_frame {e : Fin 16} {s : State} {t : State} (e : execLaserRemove e s = .next t) :
    Same 0x82060100000000001100000000000000000001c000000000000000000000000000000001100801000000000000000000000000000000 s t := by
  cases e
  try dsimp only
  repeat' first
    | with_reducible exact Same.refl
    | with_reducible assumption
    | with_reducible apply Same.ite
    | ((with_reducible apply Same.via State.setPortState_frame); decide)
    | ((with_reducible apply Same.via State.setLaser_frame); decide)
    | ((with_reducible apply State.fruCopy_frame); (decide); decide)
    | ((with_reducible apply Same.via State.setLaserState_frame); decide)
    | with_reducible apply Same.foldl
    | with_reducible apply Same.foldl1
    | intro _ _ _
    | intro _ _
    | (fail_if_no_progress ((with_reducible apply Same.upd) <;> first | (intro hb; first | with_reducible rfl | (exfalso; revert hb; decide)) | skip))
    | dsimp only
    | split

theorem execReelBeaconErrClear_frame {n : Fin 64} {value : BitVec 32} {s : State} {t : State} (e : execReelBeaconErrClear n value s = .next t) :
    Same 0x10000000 s t := by
  cases e
  try dsimp only
  repeat' first
    | with_reducible exact Same.refl
    | with_reducible assumption
    | with_reducible apply Same.ite
    | with_reducible apply State.whenBooted_frame
    | ((with_reducible apply State.put_frame); decide)
    | with_reducible apply Same.foldl
    | with_reducible apply Same.foldl1
    | intro _ _ _
    | intro _ _
    | (fail_if_no_progress ((with_reducible apply Same.upd) <;> first | (intro hb; first | with_reducible rfl | (exfalso; revert hb; decide)) | skip))
    | dsimp only
    | split

end Sys2Proof.Machine
end

