-- ==== Sys2Proof/Laws/FrameFaults.lean ====
section
/-! SUPPORT. Frames of the functions of Machine/Faults.lean (Laws/Frame.lean). -/

namespace Sys2Proof.Machine

set_option linter.unreachableTactic false
set_option linter.unusedTactic false
set_option linter.unusedVariables false

theorem State.clearCore_frame {s : State} {n cause : Nat} : Same 0x40000000000000000000000000000000000000000000000000000000000000000000000000000004000000000003060200000000 s (State.clearCore s n cause) := by
  unfold State.clearCore
  try dsimp only
  repeat' first
    | with_reducible exact Same.refl
    | with_reducible assumption
    | with_reducible apply Same.ite
    | ((with_reducible apply Same.via State.modCore_frame); decide)
    | ((with_reducible apply State.put_frame); decide)
    | with_reducible apply Same.foldl
    | with_reducible apply Same.foldl1
    | intro _ _ _
    | intro _ _
    | (fail_if_no_progress ((with_reducible apply Same.upd) <;> first | (intro hb; first | with_reducible rfl | (exfalso; revert hb; decide)) | skip))
    | dsimp only
    | split

theorem State.endClear_frame {s : State} {n : Nat} : Same 0x40000000000000000000000000000000000000000000000000000000000000000000000000000000000000000005000000000000 s (State.endClear s n) := by
  unfold State.endClear
  try dsimp only
  repeat' first
    | with_reducible exact Same.refl
    | with_reducible assumption
    | with_reducible apply Same.ite
    | ((with_reducible apply Same.via State.modCore_frame); decide)
    | ((with_reducible apply State.put_frame); decide)
    | with_reducible apply Same.foldl
    | with_reducible apply Same.foldl1
    | intro _ _ _
    | intro _ _
    | (fail_if_no_progress ((with_reducible apply Same.upd) <;> first | (intro hb; first | with_reducible rfl | (exfalso; revert hb; decide)) | skip))
    | dsimp only
    | split

theorem State.deflate_frame {s : State} {d : Nat} : Same 0x800000000000000000000000000000000000000001000000000000000000000000000000000000000000000000000000000000000 s (State.deflate s d) := by
  unfold State.deflate
  try dsimp only
  repeat' first
    | with_reducible exact Same.refl
    | with_reducible assumption
    | with_reducible apply Same.ite
    | ((with_reducible apply State.put_frame); decide)
    | ((with_reducible apply Same.via State.setDomain_frame); decide)
    | with_reducible apply Same.foldl
    | with_reducible apply Same.foldl1
    | intro _ _ _
    | intro _ _
    | (fail_if_no_progress ((with_reducible apply Same.upd) <;> first | (intro hb; first | with_reducible rfl | (exfalso; revert hb; decide)) | skip))
    | dsimp only
    | split

theorem State.countFailed_frame {s : State} : Same 0x80000000000000000000000000000000000000000000000000000000000 s (State.countFailed s) := by
  unfold State.countFailed
  try dsimp only
  repeat' first
    | with_reducible exact Same.refl
    | with_reducible assumption
    | with_reducible apply Same.ite
    | ((with_reducible apply State.put_frame); decide)
    | with_reducible apply Same.foldl
    | with_reducible apply Same.foldl1
    | intro _ _ _
    | intro _ _
    | (fail_if_no_progress ((with_reducible apply Same.upd) <;> first | (intro hb; first | with_reducible rfl | (exfalso; revert hb; decide)) | skip))
    | dsimp only
    | split

theorem State.failDomain_frame {s : State} {d cause : Nat} : Same 0x2080000000000000000000000000000000001c000001800000000000000000000000000000000000000000000000000000000000000 s (State.failDomain s d cause) := by
  unfold State.failDomain
  try dsimp only
  repeat' first
    | with_reducible exact Same.refl
    | with_reducible assumption
    | with_reducible apply Same.ite
    | ((with_reducible apply Same.via State.domainCause_frame); decide)
    | ((with_reducible apply Same.via State.deflate_frame); decide)
    | ((with_reducible apply Same.via State.setDomain_frame); decide)
    | with_reducible apply Same.foldl
    | with_reducible apply Same.foldl1
    | intro _ _ _
    | intro _ _
    | (fail_if_no_progress ((with_reducible apply Same.upd) <;> first | (intro hb; first | with_reducible rfl | (exfalso; revert hb; decide)) | skip))
    | dsimp only
    | split

theorem State.positionFault_frame {s : State} {n : Nat} : Same 0x20a6680000000000000000000000000000001c0001010000000c6000005000000008000000000000000000000000000000000000000 s (State.positionFault s n) := by
  unfold State.positionFault
  try dsimp only
  repeat' first
    | with_reducible exact Same.refl
    | with_reducible assumption
    | with_reducible apply Same.ite
    | ((with_reducible apply Same.via State.event_frame); decide)
    | ((with_reducible apply Same.via State.chargeFault_frame); decide)
    | ((with_reducible apply State.put_frame); decide)
    | ((with_reducible apply Same.via State.modBind_frame); decide)
    | ((with_reducible apply Same.via State.deflate_frame); decide)
    | with_reducible apply Same.foldl
    | with_reducible apply Same.foldl1
    | intro _ _ _
    | intro _ _
    | (fail_if_no_progress ((with_reducible apply Same.upd) <;> first | (intro hb; first | with_reducible rfl | (exfalso; revert hb; decide)) | skip))
    | dsimp only
    | split

theorem State.endBist_frame {s : State} {n result : Nat} : Same 0x104000000000000000000000000000000000000024000000000000000000000000000000000000000000000000000000000000000000 s (State.endBist s n result) := by
  unfold State.endBist
  try dsimp only
  repeat' first
    | with_reducible exact Same.refl
    | with_reducible assumption
    | with_reducible apply Same.ite
    | ((with_reducible apply State.put_frame); decide)
    | ((with_reducible apply Same.via State.atNextEdge_frame); decide)
    | with_reducible apply Same.foldl
    | with_reducible apply Same.foldl1
    | intro _ _ _
    | intro _ _
    | (fail_if_no_progress ((with_reducible apply Same.upd) <;> first | (intro hb; first | with_reducible rfl | (exfalso; revert hb; decide)) | skip))
    | dsimp only
    | split

theorem State.bistFault_frame {s : State} {n : Nat} : Same 0x304002040000000000000000000000000000000024000000000000000000000000000000000000000000000000000000000000000000 s (State.bistFault s n) := by
  unfold State.bistFault
  try dsimp only
  repeat' first
    | with_reducible exact Same.refl
    | with_reducible assumption
    | with_reducible apply Same.ite
    | ((with_reducible apply Same.via State.done_frame); decide)
    | ((with_reducible apply Same.via State.draw_frame); decide)
    | ((with_reducible apply Same.via State.endBist_frame); decide)
    | with_reducible apply Same.foldl
    | with_reducible apply Same.foldl1
    | intro _ _ _
    | intro _ _
    | (fail_if_no_progress ((with_reducible apply Same.upd) <;> first | (intro hb; first | with_reducible rfl | (exfalso; revert hb; decide)) | skip))
    | dsimp only
    | split

theorem State.coreFault_frame {s : State} {n : Nat} : Same 0x324a6684000000000000000000000000000001c0241010000000c6000005000000008000000000000000000000000000000000000000 s (State.coreFault s n) := by
  unfold State.coreFault
  try dsimp only
  repeat' first
    | with_reducible exact Same.refl
    | with_reducible assumption
    | with_reducible apply Same.ite
    | ((with_reducible apply Same.via State.bistFault_frame); decide)
    | ((with_reducible apply Same.via State.positionFault_frame); decide)
    | with_reducible apply Same.foldl
    | with_reducible apply Same.foldl1
    | intro _ _ _
    | intro _ _
    | (fail_if_no_progress ((with_reducible apply Same.upd) <;> first | (intro hb; first | with_reducible rfl | (exfalso; revert hb; decide)) | skip))
    | dsimp only
    | split

theorem execPositionFault_frame {n : Fin 96} {s : State} {t : State} (e : execPositionFault n s = .next t) :
    Same 0x324a6684000000000000000000000000000001c0241010000000c6000005000000008000000000000000000000000000000000000000 s t := by
  cases e
  try dsimp only
  repeat' first
    | with_reducible exact Same.refl
    | with_reducible assumption
    | with_reducible apply Same.ite
    | ((with_reducible apply Same.via State.coreFault_frame); decide)
    | with_reducible apply Same.foldl
    | with_reducible apply Same.foldl1
    | intro _ _ _
    | intro _ _
    | (fail_if_no_progress ((with_reducible apply Same.upd) <;> first | (intro hb; first | with_reducible rfl | (exfalso; revert hb; decide)) | skip))
    | dsimp only
    | split

theorem State.failStack_frame {s : State} {m : Nat} : Same 0x2000000000000000000000000000000000001c000000000000000000000000000000000000000000000000000002000000000000000 s (State.failStack s m) := by
  unfold State.failStack
  try dsimp only
  repeat' first
    | with_reducible exact Same.refl
    | with_reducible assumption
    | with_reducible apply Same.ite
    | ((with_reducible apply Same.via State.stackState_frame); decide)
    | with_reducible apply Same.foldl
    | with_reducible apply Same.foldl1
    | intro _ _ _
    | intro _ _
    | (fail_if_no_progress ((with_reducible apply Same.upd) <;> first | (intro hb; first | with_reducible rfl | (exfalso; revert hb; decide)) | skip))
    | dsimp only
    | split

theorem State.abortStackUsers_frame {s : State} {m : Nat} : Same 0x2026680000000000000000000000000000001c0001000000000c6000000000000008000000000000000000000000000000000000000 s (State.abortStackUsers s m) := by
  unfold State.abortStackUsers
  try dsimp only
  repeat' first
    | with_reducible exact Same.refl
    | with_reducible assumption
    | with_reducible apply Same.ite
    | ((with_reducible apply Same.via State.chargeFault_frame); decide)
    | with_reducible apply Same.foldl
    | with_reducible apply Same.foldl1
    | intro _ _ _
    | intro _ _
    | (fail_if_no_progress ((with_reducible apply Same.upd) <;> first | (intro hb; first | with_reducible rfl | (exfalso; revert hb; decide)) | skip))
    | dsimp only
    | split

theorem execHbmStackFail_frame {m : Fin 48} {s : State} {t : State} (e : execHbmStackFail m s = .next t) :
    Same 0x2000000000000000000000000000000000001c000000000000000000000000000000000000000000000000000002000000000000000 s t := by
  cases e
  try dsimp only
  repeat' first
    | with_reducible exact Same.refl
    | with_reducible assumption
    | with_reducible apply Same.ite
    | ((with_reducible apply Same.via State.failStack_frame); decide)
    | with_reducible apply Same.foldl
    | with_reducible apply Same.foldl1
    | intro _ _ _
    | intro _ _
    | (fail_if_no_progress ((with_reducible apply Same.upd) <;> first | (intro hb; first | with_reducible rfl | (exfalso; revert hb; decide)) | skip))
    | dsimp only
    | split

theorem execHbmOvertemp_frame {m : Fin 48} {s : State} {t : State} (e : execHbmOvertemp m s = .next t) :
    Same 0x2000000000000000000000000000000000001c000000000000000000000000000000000000000000000000000002000000000000000 s t := by
  cases e
  try dsimp only
  repeat' first
    | with_reducible exact Same.refl
    | with_reducible assumption
    | with_reducible apply Same.ite
    | ((with_reducible apply Same.via State.failStack_frame); decide)
    | with_reducible apply Same.foldl
    | with_reducible apply Same.foldl1
    | intro _ _ _
    | intro _ _
    | (fail_if_no_progress ((with_reducible apply Same.upd) <;> first | (intro hb; first | with_reducible rfl | (exfalso; revert hb; decide)) | skip))
    | dsimp only
    | split

theorem State.deflateNext_frame {s : State} : Same 0x800000000000000000000000000000000000000001000000000000000000000000000000000000000000000000000000000000000 s (State.deflateNext s) := by
  unfold State.deflateNext
  try dsimp only
  repeat' first
    | with_reducible exact Same.refl
    | with_reducible assumption
    | with_reducible apply Same.ite
    | ((with_reducible apply Same.via State.deflate_frame); decide)
    | with_reducible apply Same.foldl
    | with_reducible apply Same.foldl1
    | intro _ _ _
    | intro _ _
    | (fail_if_no_progress ((with_reducible apply Same.upd) <;> first | (intro hb; first | with_reducible rfl | (exfalso; revert hb; decide)) | skip))
    | dsimp only
    | split

theorem State.abortAll_frame {s : State} {records : Bool} : Same 0x2026680000000000000000000000000000001c0001000000000c6000000000000008000000000000000000000000000000000000000 s (State.abortAll s records) := by
  unfold State.abortAll
  try dsimp only
  repeat' first
    | with_reducible exact Same.refl
    | with_reducible assumption
    | with_reducible apply Same.ite
    | ((with_reducible apply Same.via State.abortTask_frame); decide)
    | ((with_reducible apply Same.via State.dropNext_frame); decide)
    | with_reducible apply Same.foldl
    | with_reducible apply Same.foldl1
    | intro _ _ _
    | intro _ _
    | (fail_if_no_progress ((with_reducible apply Same.upd) <;> first | (intro hb; first | with_reducible rfl | (exfalso; revert hb; decide)) | skip))
    | dsimp only
    | split

theorem State.stopModule_frame {s : State} : Same 0x20a6680000000000001000000000000000001c0001010000000c6000000000000008000000000000000000000000000000000000000 s (State.stopModule s) := by
  unfold State.stopModule
  try dsimp only
  repeat' first
    | with_reducible exact Same.refl
    | with_reducible assumption
    | with_reducible apply Same.ite
    | ((with_reducible apply Same.via State.abortAll_frame); decide)
    | ((with_reducible apply State.put_frame); decide)
    | ((with_reducible apply Same.via State.deflateNext_frame); decide)
    | with_reducible apply Same.foldl
    | with_reducible apply Same.foldl1
    | intro _ _ _
    | intro _ _
    | (fail_if_no_progress ((with_reducible apply Same.upd) <;> first | (intro hb; first | with_reducible rfl | (exfalso; revert hb; decide)) | skip))
    | dsimp only
    | split

theorem State.deflateDie_frame {s : State} {d : Nat} : Same 0x800000000000000000000000000000000000000001000000000000000000000000000000000000000000000000000000000000000 s (State.deflateDie s d) := by
  unfold State.deflateDie
  try dsimp only
  repeat' first
    | with_reducible exact Same.refl
    | with_reducible assumption
    | with_reducible apply Same.ite
    | ((with_reducible apply Same.via State.setDomain_frame); decide)
    | ((with_reducible apply Same.via State.deflate_frame); decide)
    | with_reducible apply Same.foldl
    | with_reducible apply Same.foldl1
    | intro _ _ _
    | intro _ _
    | (fail_if_no_progress ((with_reducible apply Same.upd) <;> first | (intro hb; first | with_reducible rfl | (exfalso; revert hb; decide)) | skip))
    | dsimp only
    | split

theorem State.uncoreTrip_frame {s : State} {d cause : Nat} : Same 0x20a6680000000000001000000000000000001c000101c000000c6000000000000008000000000000000000000000000000000000000 s (State.uncoreTrip s d cause) := by
  unfold State.uncoreTrip
  try dsimp only
  repeat' first
    | with_reducible exact Same.refl
    | with_reducible assumption
    | with_reducible apply Same.ite
    | ((with_reducible apply Same.via State.domainCause_frame); decide)
    | ((with_reducible apply State.put_frame); decide)
    | ((with_reducible apply Same.via State.setDomain_frame); decide)
    | ((with_reducible apply Same.via State.deflateDie_frame); decide)
    | ((with_reducible apply Same.via State.stopModule_frame); decide)
    | with_reducible apply Same.foldl
    | with_reducible apply Same.foldl1
    | intro _ _ _
    | intro _ _
    | (fail_if_no_progress ((with_reducible apply Same.upd) <;> first | (intro hb; first | with_reducible rfl | (exfalso; revert hb; decide)) | skip))
    | dsimp only
    | split

theorem State.setHalf_frame {s : State} {g v : Nat} : Same 0xc00000000000000000000000000000000000000000000000000000000000000000000000000 s (State.setHalf s g v) := by
  unfold State.setHalf
  try dsimp only
  repeat' first
    | with_reducible exact Same.refl
    | with_reducible assumption
    | with_reducible apply Same.ite
    | ((with_reducible apply State.put_frame); decide)
    | with_reducible apply Same.foldl
    | with_reducible apply Same.foldl1
    | intro _ _ _
    | intro _ _
    | (fail_if_no_progress ((with_reducible apply Same.upd) <;> first | (intro hb; first | with_reducible rfl | (exfalso; revert hb; decide)) | skip))
    | dsimp only
    | split

theorem State.halfStop_frame {s : State} {g : Nat} : Same 0x28a66800000000000010000000000000c0001c0001010000000c6000000000000008000000000000000000000000000000000000000 s (State.halfStop s g) := by
  unfold State.halfStop
  try dsimp only
  repeat' first
    | with_reducible exact Same.refl
    | with_reducible assumption
    | with_reducible apply Same.ite
    | ((with_reducible apply Same.via State.setHalf_frame); decide)
    | ((with_reducible apply Same.via State.event_frame); decide)
    | ((with_reducible apply Same.via State.stopModule_frame); decide)
    | with_reducible apply Same.foldl
    | with_reducible apply Same.foldl1
    | intro _ _ _
    | intro _ _
    | (fail_if_no_progress ((with_reducible apply Same.upd) <;> first | (intro hb; first | with_reducible rfl | (exfalso; revert hb; decide)) | skip))
    | dsimp only
    | split

theorem execGondolaHalfStop_frame {g : Fin 2} {s : State} {t : State} (e : execGondolaHalfStop g s = .next t) :
    Same 0x28a66800000000000010000000000000c0001c0001010000000c6000000000000008000000000000000000000000000000000000000 s t := by
  cases e
  try dsimp only
  repeat' first
    | with_reducible exact Same.refl
    | with_reducible assumption
    | with_reducible apply Same.ite
    | ((with_reducible apply Same.via State.halfStop_frame); decide)
    | with_reducible apply Same.foldl
    | with_reducible apply Same.foldl1
    | intro _ _ _
    | intro _ _
    | (fail_if_no_progress ((with_reducible apply Same.upd) <;> first | (intro hb; first | with_reducible rfl | (exfalso; revert hb; decide)) | skip))
    | dsimp only
    | split

theorem State.takeOver_frame {s : State} {g : Nat} : Same 0x8002000000000000000000000000000c00000000000000000000000000000000000000000000000000000000000000000000000000 s (State.takeOver s g) := by
  unfold State.takeOver
  try dsimp only
  repeat' first
    | with_reducible exact Same.refl
    | with_reducible assumption
    | with_reducible apply Same.ite
    | ((with_reducible apply Same.via State.setHalf_frame); decide)
    | with_reducible apply Same.foldl
    | with_reducible apply Same.foldl1
    | intro _ _ _
    | intro _ _
    | (fail_if_no_progress ((with_reducible apply Same.upd) <;> first | (intro hb; first | with_reducible rfl | (exfalso; revert hb; decide)) | skip))
    | dsimp only
    | split

theorem execFirmwareTakeover_frame {s : State} {t : State} (e : execFirmwareTakeover s = .next t) :
    Same 0x8002000000000000000000000000000c00000000000000000000000000000000000000000000000000000000000000000000000000 s t := by
  cases e
  try dsimp only
  repeat' first
    | with_reducible exact Same.refl
    | with_reducible assumption
    | with_reducible apply Same.ite
    | ((with_reducible apply Same.via State.takeOver_frame); decide)
    | with_reducible apply Same.foldl
    | with_reducible apply Same.foldl1
    | intro _ _ _
    | intro _ _
    | (fail_if_no_progress ((with_reducible apply Same.upd) <;> first | (intro hb; first | with_reducible rfl | (exfalso; revert hb; decide)) | skip))
    | dsimp only
    | split

theorem State.trip_frame {s : State} {d cause : Nat} : Same 0xb2ca66840000000000010000000000000c0001c024101c000000c6000005000000008000102001080000000000002000000000000000 s (State.trip s d cause) := by
  unfold State.trip
  try dsimp only
  repeat' first
    | with_reducible exact Same.refl
    | with_reducible assumption
    | with_reducible apply Same.ite
    | ((with_reducible apply Same.via State.failDomain_frame); decide)
    | ((with_reducible apply Same.via State.coreFault_frame); decide)
    | ((with_reducible apply Same.via State.uncoreTrip_frame); decide)
    | ((with_reducible apply Same.via State.failStack_frame); decide)
    | ((with_reducible apply Same.via State.abortStackUsers_frame); decide)
    | ((with_reducible apply Same.via State.portDown_frame); decide)
    | ((with_reducible apply Same.via State.halfStop_frame); decide)
    | with_reducible apply Same.foldl
    | with_reducible apply Same.foldl1
    | intro _ _ _
    | intro _ _
    | (fail_if_no_progress ((with_reducible apply Same.upd) <;> first | (intro hb; first | with_reducible rfl | (exfalso; revert hb; decide)) | skip))
    | dsimp only
    | split

theorem execHardLimitTrip_frame {d : Fin 250} {s : State} {t : State} (e : execHardLimitTrip d s = .next t) :
    Same 0xb2ca66840000000000010000000000000c0001c024101c000000c6000005000000008000102001080000000000002000000000000000 s t := by
  cases e
  try dsimp only
  repeat' first
    | with_reducible exact Same.refl
    | with_reducible assumption
    | with_reducible apply Same.ite
    | ((with_reducible apply Same.via State.trip_frame); decide)
    | with_reducible apply Same.foldl
    | with_reducible apply Same.foldl1
    | intro _ _ _
    | intro _ _
    | (fail_if_no_progress ((with_reducible apply Same.upd) <;> first | (intro hb; first | with_reducible rfl | (exfalso; revert hb; decide)) | skip))
    | dsimp only
    | split

end Sys2Proof.Machine
end

