-- ==== Sys2Proof/Laws/FramePower.lean ====
section
/-! SUPPORT. Frames of the functions of Machine/Power.lean (Laws/Frame.lean). -/

namespace Sys2Proof.Machine

set_option linter.unreachableTactic false
set_option linter.unusedTactic false
set_option linter.unusedVariables false

theorem execInflate_frame {d : Fin 250} {s : State} {t : State} (e : execInflate d s = .next t) :
    Same 0x12000000000000000000000000000000000001c000000000000000000000000000000000000000000000000000000000000000000000 s t := by
  cases e
  try dsimp only
  repeat' first
    | with_reducible exact Same.refl
    | with_reducible assumption
    | with_reducible apply Same.ite
    | with_reducible apply State.whenBooted_frame
    | ((with_reducible apply Same.via State.atNextEdge_frame); decide)
    | ((with_reducible apply Same.via State.ignored_frame); decide)
    | with_reducible apply Same.foldl
    | with_reducible apply Same.foldl1
    | intro _ _ _
    | intro _ _
    | (fail_if_no_progress ((with_reducible apply Same.upd) <;> first | (intro hb; first | with_reducible rfl | (exfalso; revert hb; decide)) | skip))
    | dsimp only
    | split

theorem execDeflate_frame {d : Fin 250} {s : State} {t : State} (e : execDeflate d s = .next t) :
    Same 0x12000000000000000000000000000000000001c000000000000000000000000000000000000000000000000000000000000000000000 s t := by
  cases e
  try dsimp only
  repeat' first
    | with_reducible exact Same.refl
    | with_reducible assumption
    | with_reducible apply Same.ite
    | with_reducible apply State.whenBooted_frame
    | ((with_reducible apply Same.via State.atNextEdge_frame); decide)
    | ((with_reducible apply Same.via State.ignored_frame); decide)
    | with_reducible apply Same.foldl
    | with_reducible apply Same.foldl1
    | intro _ _ _
    | intro _ _
    | (fail_if_no_progress ((with_reducible apply Same.upd) <;> first | (intro hb; first | with_reducible rfl | (exfalso; revert hb; decide)) | skip))
    | dsimp only
    | split

theorem execVminRearm_frame {d : Fin 250} {s : State} {t : State} (e : execVminRearm d s = .next t) :
    Same 0x2000000000000000000000000000000000001c00001e000000000000000000000000000000000000000000000000000000000000000 s t := by
  cases e
  try dsimp only
  repeat' first
    | with_reducible exact Same.refl
    | with_reducible assumption
    | with_reducible apply Same.ite
    | with_reducible apply State.whenBooted_frame
    | ((with_reducible apply State.putA_frame); decide)
    | ((with_reducible apply Same.via State.ignored_frame); decide)
    | with_reducible apply Same.foldl
    | with_reducible apply Same.foldl1
    | intro _ _ _
    | intro _ _
    | (fail_if_no_progress ((with_reducible apply Same.upd) <;> first | (intro hb; first | with_reducible rfl | (exfalso; revert hb; decide)) | skip))
    | dsimp only
    | split

theorem State.requestInflate_frame {s : State} {d : Nat} : Same 0x800000000000000000000000000000000000000000000000000000000000000000000000000000000000000000000000000000000 s (State.requestInflate s d) := by
  unfold State.requestInflate
  try dsimp only
  repeat' first
    | with_reducible exact Same.refl
    | with_reducible assumption
    | with_reducible apply Same.ite
    | ((with_reducible apply Same.via State.setDomain_frame); decide)
    | with_reducible apply Same.foldl
    | with_reducible apply Same.foldl1
    | intro _ _ _
    | intro _ _
    | (fail_if_no_progress ((with_reducible apply Same.upd) <;> first | (intro hb; first | with_reducible rfl | (exfalso; revert hb; decide)) | skip))
    | dsimp only
    | split

theorem State.requestDeflate_frame {s : State} {d : Nat} : Same 0x800000000000000000000000000000000000000001000000000000000000000000000000000000000000000000000000000000000 s (State.requestDeflate s d) := by
  unfold State.requestDeflate
  try dsimp only
  repeat' first
    | with_reducible exact Same.refl
    | with_reducible assumption
    | with_reducible apply Same.ite
    | ((with_reducible apply Same.via State.deflate_frame); decide)
    | with_reducible apply Same.foldl
    | with_reducible apply Same.foldl1
    | intro _ _ _
    | intro _ _
    | (fail_if_no_progress ((with_reducible apply Same.upd) <;> first | (intro hb; first | with_reducible rfl | (exfalso; revert hb; decide)) | skip))
    | dsimp only
    | split

theorem State.startInflation_frame {s : State} : Same 0x800000000000000000000000000000000000000001000080000000000000000000000000000000000000000000000000000000000 s (State.startInflation s) := by
  unfold State.startInflation
  try dsimp only
  repeat' first
    | with_reducible exact Same.refl
    | with_reducible assumption
    | with_reducible apply Same.ite
    | ((with_reducible apply Same.via State.setDomain_frame); decide)
    | ((with_reducible apply State.put_frame); decide)
    | ((with_reducible apply Same.via State.countFailed_frame); decide)
    | with_reducible apply Same.foldl
    | with_reducible apply Same.foldl1
    | intro _ _ _
    | intro _ _
    | (fail_if_no_progress ((with_reducible apply Same.upd) <;> first | (intro hb; first | with_reducible rfl | (exfalso; revert hb; decide)) | skip))
    | dsimp only
    | split

theorem execInflationStart_frame {s : State} {t : State} (e : execInflationStart s = .next t) :
    Same 0x800000000000000000000000000000000000000001000080000000000000000000000000000000000000000000000000000000000 s t := by
  cases e
  try dsimp only
  repeat' first
    | with_reducible exact Same.refl
    | with_reducible assumption
    | with_reducible apply Same.ite
    | ((with_reducible apply Same.via State.startInflation_frame); decide)
    | with_reducible apply Same.foldl
    | with_reducible apply Same.foldl1
    | intro _ _ _
    | intro _ _
    | (fail_if_no_progress ((with_reducible apply Same.upd) <;> first | (intro hb; first | with_reducible rfl | (exfalso; revert hb; decide)) | skip))
    | dsimp only
    | split

theorem State.domainOn_frame {s : State} {d : Nat} : Same 0x12020000000000000000000000000000000001c000001000000000000000000000000000100081000000000000002000000000000000 s (State.domainOn s d) := by
  unfold State.domainOn
  try dsimp only
  repeat' first
    | with_reducible exact Same.refl
    | with_reducible assumption
    | with_reducible apply Same.ite
    | ((with_reducible apply State.put_frame); decide)
    | ((with_reducible apply Same.via State.atNextEdge_frame); decide)
    | ((with_reducible apply Same.via State.setPortState_frame); decide)
    | ((with_reducible apply Same.via State.tryTrain_frame); decide)
    | with_reducible apply Same.foldl
    | with_reducible apply Same.foldl1
    | intro _ _ _
    | intro _ _
    | (fail_if_no_progress ((with_reducible apply Same.upd) <;> first | (intro hb; first | with_reducible rfl | (exfalso; revert hb; decide)) | skip))
    | dsimp only
    | split

theorem State.endStage_frame {s : State} {d current : Nat} : Same 0x120a0000000000000000000000000000000001c000001900080000000000000000000000100081000000000000002000000000000000 s (State.endStage s d current) := by
  unfold State.endStage
  try dsimp only
  repeat' first
    | with_reducible exact Same.refl
    | with_reducible assumption
    | with_reducible apply Same.ite
    | ((with_reducible apply State.inc_frame); (decide); decide)
    | ((with_reducible apply Same.via State.domainCause_frame); decide)
    | ((with_reducible apply State.put_frame); decide)
    | ((with_reducible apply Same.via State.setDomain_frame); decide)
    | ((with_reducible apply Same.via State.countFailed_frame); decide)
    | ((with_reducible apply Same.via State.domainOn_frame); decide)
    | with_reducible apply Same.foldl
    | with_reducible apply Same.foldl1
    | intro _ _ _
    | intro _ _
    | (fail_if_no_progress ((with_reducible apply Same.upd) <;> first | (intro hb; first | with_reducible rfl | (exfalso; revert hb; decide)) | skip))
    | dsimp only
    | split

theorem execInflationStage_frame {d : Fin 250} {current : Nat} {s : State} {t : State} (e : execInflationStage d current s = .next t) :
    Same 0x120a0000000000000000000000000000000001c000001900080000000000000000000000100081000000000000002000000000000000 s t := by
  cases e
  try dsimp only
  repeat' first
    | with_reducible exact Same.refl
    | with_reducible assumption
    | with_reducible apply Same.ite
    | ((with_reducible apply Same.via State.endStage_frame); decide)
    | with_reducible apply Same.foldl
    | with_reducible apply Same.foldl1
    | intro _ _ _
    | intro _ _
    | (fail_if_no_progress ((with_reducible apply Same.upd) <;> first | (intro hb; first | with_reducible rfl | (exfalso; revert hb; decide)) | skip))
    | dsimp only
    | split

theorem State.endDeflation_frame {s : State} {d : Nat} : Same 0x820a00000000000000000000000000000c0001c000001000080000000000000000000001100801000000000000002000000000000000 s (State.endDeflation s d) := by
  unfold State.endDeflation
  try dsimp only
  repeat' first
    | with_reducible exact Same.refl
    | with_reducible assumption
    | with_reducible apply Same.ite
    | ((with_reducible apply State.put_frame); decide)
    | ((with_reducible apply Same.via State.countFailed_frame); decide)
    | ((with_reducible apply Same.via State.setPortState_frame); decide)
    | ((with_reducible apply Same.via State.setLaserState_frame); decide)
    | ((with_reducible apply Same.via State.setHalf_frame); decide)
    | ((with_reducible apply Same.via State.deflateNext_frame); decide)
    | with_reducible apply Same.foldl
    | with_reducible apply Same.foldl1
    | intro _ _ _
    | intro _ _
    | (fail_if_no_progress ((with_reducible apply Same.upd) <;> first | (intro hb; first | with_reducible rfl | (exfalso; revert hb; decide)) | skip))
    | dsimp only
    | split

theorem execDeflationDone_frame {d : Fin 250} {s : State} {t : State} (e : execDeflationDone d s = .next t) :
    Same 0x820a00000000000000000000000000000c0001c000001000080000000000000000000001100801000000000000002000000000000000 s t := by
  cases e
  try dsimp only
  repeat' first
    | with_reducible exact Same.refl
    | with_reducible assumption
    | with_reducible apply Same.ite
    | ((with_reducible apply Same.via State.endDeflation_frame); decide)
    | with_reducible apply Same.foldl
    | with_reducible apply Same.foldl1
    | intro _ _ _
    | intro _ _
    | (fail_if_no_progress ((with_reducible apply Same.upd) <;> first | (intro hb; first | with_reducible rfl | (exfalso; revert hb; decide)) | skip))
    | dsimp only
    | split

theorem State.droop_frame {s : State} {d quotient : Nat} : Same 0x92080000000000000000000000000000000001c0000c1000020000000000000000000000000000000000000000000000000000000000 s (State.droop s d quotient) := by
  unfold State.droop
  try dsimp only
  repeat' first
    | with_reducible exact Same.refl
    | with_reducible assumption
    | with_reducible apply Same.ite
    | ((with_reducible apply Same.via State.setDomain_frame); decide)
    | ((with_reducible apply State.inc_frame); (decide); decide)
    | ((with_reducible apply State.put_frame); decide)
    | ((with_reducible apply State.setEvent_frame); (decide); decide)
    | ((with_reducible apply Same.via State.event_frame); decide)
    | ((with_reducible apply Same.via State.atNextEdge_frame); decide)
    | with_reducible apply Same.foldl
    | with_reducible apply Same.foldl1
    | intro _ _ _
    | intro _ _
    | (fail_if_no_progress ((with_reducible apply Same.upd) <;> first | (intro hb; first | with_reducible rfl | (exfalso; revert hb; decide)) | skip))
    | dsimp only
    | split

theorem execDroopStep_frame {d : Fin 250} {rise quotient : Nat} {s : State} {t : State} (e : execDroopStep d rise quotient s = .next t) :
    Same 0x92080000000000000000000000000000000001c0000c1000020000000000000000000000000000000000000000000000000000000000 s t := by
  cases e
  try dsimp only
  repeat' first
    | with_reducible exact Same.refl
    | with_reducible assumption
    | with_reducible apply Same.ite
    | ((with_reducible apply Same.via State.droop_frame); decide)
    | with_reducible apply Same.foldl
    | with_reducible apply Same.foldl1
    | intro _ _ _
    | intro _ _
    | (fail_if_no_progress ((with_reducible apply Same.upd) <;> first | (intro hb; first | with_reducible rfl | (exfalso; revert hb; decide)) | skip))
    | dsimp only
    | split

theorem State.markVoid_frame {s : State} {p : Nat} : Same 0x20000000000000000000000000000000000000000000000000000000000000000000000000000000000000000000000000000000 s (State.markVoid s p) := by
  unfold State.markVoid
  try dsimp only
  repeat' first
    | with_reducible exact Same.refl
    | with_reducible assumption
    | with_reducible apply Same.ite
    | ((with_reducible apply Same.via State.modRun_frame); decide)
    | with_reducible apply Same.foldl
    | with_reducible apply Same.foldl1
    | intro _ _ _
    | intro _ _
    | (fail_if_no_progress ((with_reducible apply Same.upd) <;> first | (intro hb; first | with_reducible rfl | (exfalso; revert hb; decide)) | skip))
    | dsimp only
    | split

theorem State.clockStep_frame {s : State} {cause : Nat} : Same 0x820020000000000000000000000000000000000000000710000000000000000000000000000000000000000000000000000000000 s (State.clockStep s cause) := by
  unfold State.clockStep
  try dsimp only
  repeat' first
    | with_reducible exact Same.refl
    | with_reducible assumption
    | with_reducible apply Same.ite
    | ((with_reducible apply State.put_frame); decide)
    | ((with_reducible apply State.inc_frame); (decide); decide)
    | ((with_reducible apply Same.via State.markVoid_frame); decide)
    | with_reducible apply Same.foldl
    | with_reducible apply Same.foldl1
    | intro _ _ _
    | intro _ _
    | (fail_if_no_progress ((with_reducible apply Same.upd) <;> first | (intro hb; first | with_reducible rfl | (exfalso; revert hb; decide)) | skip))
    | dsimp only
    | split

theorem execEmergencyClockStep_frame {cause : Nat} {s : State} {t : State} (e : execEmergencyClockStep cause s = .next t) :
    Same 0x820020000000000000000000000000000000000000000710000000000000000000000000000000000000000000000000000000000 s t := by
  cases e
  try dsimp only
  repeat' first
    | with_reducible exact Same.refl
    | with_reducible assumption
    | with_reducible apply Same.ite
    | ((with_reducible apply Same.via State.clockStep_frame); decide)
    | with_reducible apply Same.foldl
    | with_reducible apply Same.foldl1
    | intro _ _ _
    | intro _ _
    | (fail_if_no_progress ((with_reducible apply Same.upd) <;> first | (intro hb; first | with_reducible rfl | (exfalso; revert hb; decide)) | skip))
    | dsimp only
    | split

theorem State.edgeStep_frame {s : State} {lacked : Nat} : Same 0x820020000000000000000000000000000000000000000000000000000000000000000000000000000000000000000000000000000 s (State.edgeStep s lacked) := by
  unfold State.edgeStep
  try dsimp only
  repeat' first
    | with_reducible exact Same.refl
    | with_reducible assumption
    | with_reducible apply Same.ite
    | ((with_reducible apply Same.via State.modRun_frame); decide)
    | ((with_reducible apply Same.via State.markVoid_frame); decide)
    | with_reducible apply Same.foldl
    | with_reducible apply Same.foldl1
    | intro _ _ _
    | intro _ _
    | (fail_if_no_progress ((with_reducible apply Same.upd) <;> first | (intro hb; first | with_reducible rfl | (exfalso; revert hb; decide)) | skip))
    | dsimp only
    | split

theorem State.writeVoid_frame {s : State} {p : Nat} {x : ClockStep} : Same 0x24800000000000000000000000000000000000000000000046000000000000000000000000000000000000000000000000000000 s (State.writeVoid s p x) := by
  unfold State.writeVoid
  try dsimp only
  repeat' first
    | with_reducible exact Same.refl
    | with_reducible assumption
    | with_reducible apply Same.ite
    | ((with_reducible apply Same.via State.journalVoid_frame); decide)
    | with_reducible apply Same.foldl
    | with_reducible apply Same.foldl1
    | intro _ _ _
    | intro _ _
    | (fail_if_no_progress ((with_reducible apply Same.upd) <;> first | (intro hb; first | with_reducible rfl | (exfalso; revert hb; decide)) | skip))
    | dsimp only
    | split

theorem State.endClockStep_frame {s : State} {x : ClockStep} : Same 0x2082480000000000000000000000000000001c000000000010046000000000000000000000000000000000000000000000000000000 s (State.endClockStep s x) := by
  unfold State.endClockStep
  try dsimp only
  repeat' first
    | with_reducible exact Same.refl
    | with_reducible assumption
    | with_reducible apply Same.ite
    | ((with_reducible apply State.put_frame); decide)
    | ((with_reducible apply Same.via State.event_frame); decide)
    | ((with_reducible apply Same.via State.writeVoid_frame); decide)
    | with_reducible apply Same.foldl
    | with_reducible apply Same.foldl1
    | intro _ _ _
    | intro _ _
    | (fail_if_no_progress ((with_reducible apply Same.upd) <;> first | (intro hb; first | with_reducible rfl | (exfalso; revert hb; decide)) | skip))
    | dsimp only
    | split

theorem execClockStepEnd_frame {s : State} {t : State} (e : execClockStepEnd s = .next t) :
    Same 0x2082480000000000000000000000000000001c000000000010046000000000000000000000000000000000000000000000000000000 s t := by
  cases e
  try dsimp only
  repeat' first
    | with_reducible exact Same.refl
    | with_reducible assumption
    | with_reducible apply Same.ite
    | ((with_reducible apply Same.via State.endClockStep_frame); decide)
    | with_reducible apply Same.foldl
    | with_reducible apply Same.foldl1
    | intro _ _ _
    | intro _ _
    | (fail_if_no_progress ((with_reducible apply Same.upd) <;> first | (intro hb; first | with_reducible rfl | (exfalso; revert hb; decide)) | skip))
    | dsimp only
    | split

theorem State.shutdown_frame {s : State} : Same 0x20a6680000000000000000000000000000001c0001010000080c6000000000000008000000000000000000000000000000000000000 s (State.shutdown s) := by
  unfold State.shutdown
  try dsimp only
  repeat' first
    | with_reducible exact Same.refl
    | with_reducible assumption
    | with_reducible apply Same.ite
    | ((with_reducible apply Same.via State.abortAll_frame); decide)
    | ((with_reducible apply State.put_frame); decide)
    | ((with_reducible apply Same.via State.storeOrderly_frame); decide)
    | ((with_reducible apply Same.via State.deflateNext_frame); decide)
    | with_reducible apply Same.foldl
    | with_reducible apply Same.foldl1
    | intro _ _ _
    | intro _ _
    | (fail_if_no_progress ((with_reducible apply Same.upd) <;> first | (intro hb; first | with_reducible rfl | (exfalso; revert hb; decide)) | skip))
    | dsimp only
    | split

theorem execOrderlyShutdown_frame {s : State} {t : State} (e : execOrderlyShutdown s = .next t) :
    Same 0x20a6680000000000000000000000000000001c0001010000080c6000000000000008000000000000000000000000000000000000000 s t := by
  cases e
  try dsimp only
  repeat' first
    | with_reducible exact Same.refl
    | with_reducible assumption
    | with_reducible apply Same.ite
    | ((with_reducible apply Same.via State.shutdown_frame); decide)
    | with_reducible apply Same.foldl
    | with_reducible apply Same.foldl1
    | intro _ _ _
    | intro _ _
    | (fail_if_no_progress ((with_reducible apply Same.upd) <;> first | (intro hb; first | with_reducible rfl | (exfalso; revert hb; decide)) | skip))
    | dsimp only
    | split

theorem State.countBricks_frame {s : State} : Same 0x40000000000000000000000000000000000000000000000000000000000 s (State.countBricks s) := by
  unfold State.countBricks
  try dsimp only
  repeat' first
    | with_reducible exact Same.refl
    | with_reducible assumption
    | with_reducible apply Same.ite
    | ((with_reducible apply State.put_frame); decide)
    | with_reducible apply Same.foldl
    | with_reducible apply Same.foldl1
    | intro _ _ _
    | intro _ _
    | (fail_if_no_progress ((with_reducible apply Same.upd) <;> first | (intro hb; first | with_reducible rfl | (exfalso; revert hb; decide)) | skip))
    | dsimp only
    | split

theorem execBrickFail_frame {b : Fin 18} {s : State} {t : State} (e : execBrickFail b s = .next t) :
    Same 0x2000000000000000000000000000000000001c000000010040000000000000000000000000000000000000000000000000000000000 s t := by
  cases e
  try dsimp only
  repeat' first
    | with_reducible exact Same.refl
    | with_reducible assumption
    | with_reducible apply Same.ite
    | ((with_reducible apply State.put_frame); decide)
    | ((with_reducible apply Same.via State.event_frame); decide)
    | ((with_reducible apply Same.via State.countBricks_frame); decide)
    | with_reducible apply Same.foldl
    | with_reducible apply Same.foldl1
    | intro _ _ _
    | intro _ _
    | (fail_if_no_progress ((with_reducible apply Same.upd) <;> first | (intro hb; first | with_reducible rfl | (exfalso; revert hb; decide)) | skip))
    | dsimp only
    | split

theorem State.insertBrick_frame {s : State} {b : Nat} {ident : Bytes} {ok : Bool} {watts temp : Nat} : Same 0x2000100000000001200000000000000000001c00000001c040000000000000000000000000000000000000000000000000000000000 s (State.insertBrick s b ident ok watts temp) := by
  unfold State.insertBrick
  try dsimp only
  repeat' first
    | with_reducible exact Same.refl
    | with_reducible assumption
    | with_reducible apply Same.ite
    | ((with_reducible apply State.fruCopy_frame); (decide); decide)
    | ((with_reducible apply State.putA_frame); decide)
    | ((with_reducible apply State.put_frame); decide)
    | ((with_reducible apply Same.via State.event_frame); decide)
    | ((with_reducible apply Same.via State.countBricks_frame); decide)
    | with_reducible apply Same.foldl
    | with_reducible apply Same.foldl1
    | intro _ _ _
    | intro _ _
    | (fail_if_no_progress ((with_reducible apply Same.upd) <;> first | (intro hb; first | with_reducible rfl | (exfalso; revert hb; decide)) | skip))
    | dsimp only
    | split

theorem execBrickInsert_frame {b : Fin 18} {ident : Bytes} {ok : Bool} {watts temp : Nat} {s : State} {t : State} (e : execBrickInsert b ident ok watts temp s = .next t) :
    Same 0x2000100000000001200000000000000000001c00000001c040000000000000000000000000000000000000000000000000000000000 s t := by
  cases e
  try dsimp only
  repeat' first
    | with_reducible exact Same.refl
    | with_reducible assumption
    | with_reducible apply Same.ite
    | ((with_reducible apply Same.via State.insertBrick_frame); decide)
    | with_reducible apply Same.foldl
    | with_reducible apply Same.foldl1
    | intro _ _ _
    | intro _ _
    | (fail_if_no_progress ((with_reducible apply Same.upd) <;> first | (intro hb; first | with_reducible rfl | (exfalso; revert hb; decide)) | skip))
    | dsimp only
    | split

theorem execBrickRemove_frame {b : Fin 18} {s : State} {t : State} (e : execBrickRemove b s = .next t) :
    Same 0x1000000000012000000000000000000000000000014040000000000000000000000000000000000000000000000000000000000 s t := by
  cases e
  try dsimp only
  repeat' first
    | with_reducible exact Same.refl
    | with_reducible assumption
    | with_reducible apply Same.ite
    | ((with_reducible apply State.put_frame); decide)
    | ((with_reducible apply State.putA_frame); decide)
    | ((with_reducible apply State.fruCopy_frame); (decide); decide)
    | ((with_reducible apply Same.via State.countBricks_frame); decide)
    | with_reducible apply Same.foldl
    | with_reducible apply Same.foldl1
    | intro _ _ _
    | intro _ _
    | (fail_if_no_progress ((with_reducible apply Same.upd) <;> first | (intro hb; first | with_reducible rfl | (exfalso; revert hb; decide)) | skip))
    | dsimp only
    | split

theorem execThermalWarning_frame {inlet flow : Nat} {s : State} {t : State} (e : execThermalWarning inlet flow s = .next t) :
    Same 0x400800000000000000000000000000000000000000000000000000000000000000000000000000000000000000000000000000000000 s t := by
  cases e
  try dsimp only
  repeat' first
    | with_reducible exact Same.refl
    | with_reducible assumption
    | with_reducible apply Same.ite
    | ((with_reducible apply Same.via State.send_frame); decide)
    | with_reducible apply Same.foldl
    | with_reducible apply Same.foldl1
    | intro _ _ _
    | intro _ _
    | (fail_if_no_progress ((with_reducible apply Same.upd) <;> first | (intro hb; first | with_reducible rfl | (exfalso; revert hb; decide)) | skip))
    | dsimp only
    | split

end Sys2Proof.Machine
end

