-- ==== Sys2Proof/Laws/FrameTmem.lean ====
section
/-! SUPPORT. Frames of the functions of Machine/Tmem.lean (Laws/Frame.lean). -/

namespace Sys2Proof.Machine

set_option linter.unreachableTactic false
set_option linter.unusedTactic false
set_option linter.unusedVariables false

theorem State.modLcore_frame {s : State} {p lc : Nat} {f : Core → Core} : Same 0x40000000000000000000000000000000000000000000000000000000000000000000000000000000000000000000000000000000 s (State.modLcore s p lc f) := by
  unfold State.modLcore
  try dsimp only
  repeat' first
    | with_reducible exact Same.refl
    | with_reducible assumption
    | with_reducible apply Same.ite
    | ((with_reducible apply Same.via State.modCore_frame); decide)
    | with_reducible apply Same.foldl
    | with_reducible apply Same.foldl1
    | intro _ _ _
    | intro _ _
    | (fail_if_no_progress ((with_reducible apply Same.upd) <;> first | (intro hb; first | with_reducible rfl | (exfalso; revert hb; decide)) | skip))
    | dsimp only
    | split

theorem State.countEcc_frame {s : State} {p lc x r : Nat} : Same 0x400000000000 s (State.countEcc s p lc x r) := by
  unfold State.countEcc
  try dsimp only
  repeat' first
    | with_reducible exact Same.refl
    | with_reducible assumption
    | with_reducible apply Same.ite
    | ((with_reducible apply State.inc_frame); (decide); decide)
    | with_reducible apply Same.foldl
    | with_reducible apply Same.foldl1
    | intro _ _ _
    | intro _ _
    | (fail_if_no_progress ((with_reducible apply Same.upd) <;> first | (intro hb; first | with_reducible rfl | (exfalso; revert hb; decide)) | skip))
    | dsimp only
    | split

theorem State.noteEcc_frame {s : State} {p lc : Nat} : Same 0x220a6680000000000000000000000000000001c0001010000000c6000005000000008000000000000000000000000000800000000000 s (State.noteEcc s p lc) := by
  unfold State.noteEcc
  try dsimp only
  repeat' first
    | with_reducible exact Same.refl
    | with_reducible assumption
    | with_reducible apply Same.ite
    | ((with_reducible apply Same.via State.mark_frame); decide)
    | ((with_reducible apply State.inc_frame); (decide); decide)
    | ((with_reducible apply Same.via State.event_frame); decide)
    | ((with_reducible apply Same.via State.modCore_frame); decide)
    | ((with_reducible apply Same.via State.positionFault_frame); decide)
    | with_reducible apply Same.foldl
    | with_reducible apply Same.foldl1
    | intro _ _ _
    | intro _ _
    | (fail_if_no_progress ((with_reducible apply Same.upd) <;> first | (intro hb; first | with_reducible rfl | (exfalso; revert hb; decide)) | skip))
    | dsimp only
    | split

theorem State.chargeAt_frame {s : State} {p x status detail : Nat} : Same 0x22026682000000000000000000000000000001c0001000000000c6000000000000008000000000000000000000000000000000000000 s (State.chargeAt s p x status detail) := by
  unfold State.chargeAt
  try dsimp only
  repeat' first
    | with_reducible exact Same.refl
    | with_reducible assumption
    | with_reducible apply Same.ite
    | ((with_reducible apply Same.via State.advance_frame); decide)
    | ((with_reducible apply Same.via State.chargeFault_frame); decide)
    | ((with_reducible apply Same.via State.setCmd_frame); decide)
    | ((with_reducible apply Same.via State.event_frame); decide)
    | ((with_reducible apply Same.via State.mark_frame); decide)
    | with_reducible apply Same.foldl
    | with_reducible apply Same.foldl1
    | intro _ _ _
    | intro _ _
    | (fail_if_no_progress ((with_reducible apply Same.upd) <;> first | (intro hb; first | with_reducible rfl | (exfalso; revert hb; decide)) | skip))
    | dsimp only
    | split

theorem State.addUses_frame {s : State} {p : Nat} {us : List SlotUse} : Same 0x20000000000000000000000000000000000000000000000000000000000000000000000000000000000000000000000000000000 s (State.addUses s p us) := by
  unfold State.addUses
  try dsimp only
  repeat' first
    | with_reducible exact Same.refl
    | with_reducible assumption
    | with_reducible apply Same.ite
    | ((with_reducible apply Same.via State.modRun_frame); decide)
    | with_reducible apply Same.foldl
    | with_reducible apply Same.foldl1
    | intro _ _ _
    | intro _ _
    | (fail_if_no_progress ((with_reducible apply Same.upd) <;> first | (intro hb; first | with_reducible rfl | (exfalso; revert hb; decide)) | skip))
    | dsimp only
    | split

theorem State.hazards_frame {s : State} {p : Nat} {u : SlotUse} : Same 0x22026682000000000000000000000000000001c0001000000000c6000000000000008000000000000000000000000000070000000000 s (State.hazards s p u) := by
  unfold State.hazards
  try dsimp only
  repeat' first
    | with_reducible exact Same.refl
    | with_reducible assumption
    | with_reducible apply Same.ite
    | ((with_reducible apply State.inc_frame); (decide); decide)
    | ((with_reducible apply Same.via State.chargeAt_frame); decide)
    | with_reducible apply Same.foldl
    | with_reducible apply Same.foldl1
    | intro _ _ _
    | intro _ _
    | (fail_if_no_progress ((with_reducible apply Same.upd) <;> first | (intro hb; first | with_reducible rfl | (exfalso; revert hb; decide)) | skip))
    | dsimp only
    | split

theorem State.setFlag_frame {s : State} {p lc g x : Nat} : Same 0x40000000000000000000000000000000000000000000000000000000000000000000000000000100000000000000000000000000 s (State.setFlag s p lc g x) := by
  unfold State.setFlag
  try dsimp only
  repeat' first
    | with_reducible exact Same.refl
    | with_reducible assumption
    | with_reducible apply Same.ite
    | ((with_reducible apply Same.via State.modCore_frame); decide)
    | ((with_reducible apply State.inc_frame); (decide); decide)
    | with_reducible apply Same.foldl
    | with_reducible apply Same.foldl1
    | intro _ _ _
    | intro _ _
    | (fail_if_no_progress ((with_reducible apply Same.upd) <;> first | (intro hb; first | with_reducible rfl | (exfalso; revert hb; decide)) | skip))
    | dsimp only
    | split

theorem State.writeS_frame {s : State} {p lc row wc0 : Nat} {bs : Bytes} {x : Nat} : Same 0x22026682000000000000000000000000000001c0001000000000c6000000000000008000000000000000000000000000070000000000 s (State.writeS s p lc row wc0 bs x) := by
  unfold State.writeS
  try dsimp only
  repeat' first
    | with_reducible exact Same.refl
    | with_reducible assumption
    | with_reducible apply Same.ite
    | ((with_reducible apply Same.via State.modCore_frame); decide)
    | ((with_reducible apply Same.via State.addUses_frame); decide)
    | ((with_reducible apply Same.via State.hazards_frame); decide)
    | with_reducible apply Same.foldl
    | with_reducible apply Same.foldl1
    | intro _ _ _
    | intro _ _
    | (fail_if_no_progress ((with_reducible apply Same.upd) <;> first | (intro hb; first | with_reducible rfl | (exfalso; revert hb; decide)) | skip))
    | dsimp only
    | split

theorem State.remoteWrite_frame {s : State} {p lc row wc0 : Nat} {bs : Bytes} {kind sender x : Nat} : Same 0x22026682000000000000000000000000000001c0001000000000c6000000000000008000000000000000000000000000170000000000 s (State.remoteWrite s p lc row wc0 bs kind sender x) := by
  unfold State.remoteWrite
  try dsimp only
  repeat' first
    | with_reducible exact Same.refl
    | with_reducible assumption
    | with_reducible apply Same.ite
    | ((with_reducible apply Same.via State.writeS_frame); decide)
    | ((with_reducible apply State.inc_frame); (decide); decide)
    | ((with_reducible apply Same.via State.chargeAt_frame); decide)
    | with_reducible apply Same.foldl
    | with_reducible apply Same.foldl1
    | intro _ _ _
    | intro _ _
    | (fail_if_no_progress ((with_reducible apply Same.upd) <;> first | (intro hb; first | with_reducible rfl | (exfalso; revert hb; decide)) | skip))
    | dsimp only
    | split

theorem State.changeWindows_frame {s : State} {c : Cmd} {p t : Nat} : Same 0x40000000000000000000000000000000000000000000000000000000000000000000000000000000000000000000000000000000 s (State.changeWindows s c p t) := by
  unfold State.changeWindows
  try dsimp only
  repeat' first
    | with_reducible exact Same.refl
    | with_reducible assumption
    | with_reducible apply Same.ite
    | ((with_reducible apply Same.via State.modLcore_frame); decide)
    | with_reducible apply Same.foldl
    | with_reducible apply Same.foldl1
    | intro _ _ _
    | intro _ _
    | (fail_if_no_progress ((with_reducible apply Same.upd) <;> first | (intro hb; first | with_reducible rfl | (exfalso; revert hb; decide)) | skip))
    | dsimp only
    | split

theorem execWindowOpen_frame {c : CmdId} {s : State} {t : State} (e : execWindowOpen c s = .next t) :
    Same 0x200002000000000000000000000000000000000000000000000000000000000000000000000000000000000000000000000000000000 s t := by
  cases e
  try dsimp only
  repeat' first
    | with_reducible exact Same.refl
    | with_reducible assumption
    | with_reducible apply Same.ite
    | ((with_reducible apply Same.via State.done_frame); decide)
    | with_reducible apply Same.foldl
    | with_reducible apply Same.foldl1
    | intro _ _ _
    | intro _ _
    | (fail_if_no_progress ((with_reducible apply Same.upd) <;> first | (intro hb; first | with_reducible rfl | (exfalso; revert hb; decide)) | skip))
    | dsimp only
    | split

theorem execWindowClose_frame {c : CmdId} {s : State} {t : State} (e : execWindowClose c s = .next t) :
    Same 0x200002000000000000000000000000000000000000000000000000000000000000000000000000000000000000000000000000000000 s t := by
  cases e
  try dsimp only
  repeat' first
    | with_reducible exact Same.refl
    | with_reducible assumption
    | with_reducible apply Same.ite
    | ((with_reducible apply Same.via State.done_frame); decide)
    | with_reducible apply Same.foldl
    | with_reducible apply Same.foldl1
    | intro _ _ _
    | intro _ _
    | (fail_if_no_progress ((with_reducible apply Same.upd) <;> first | (intro hb; first | with_reducible rfl | (exfalso; revert hb; decide)) | skip))
    | dsimp only
    | split

end Sys2Proof.Machine
end

