-- ==== Sys2Proof/Laws/FrameWide.lean ====
section
/-! SUPPORT. Frames of the functions of Machine/Wide.lean (Laws/Frame.lean). -/

namespace Sys2Proof.Machine

set_option linter.unreachableTactic false
set_option linter.unusedTactic false
set_option linter.unusedVariables false

theorem State.addDrops_frame {s : State} {n k : Nat} : Same 0x300000000 s (State.addDrops s n k) := by
  unfold State.addDrops
  try dsimp only
  repeat' first
    | with_reducible exact Same.refl
    | with_reducible assumption
    | with_reducible apply Same.ite
    | ((with_reducible apply State.inc_frame); (decide); decide)
    | with_reducible apply Same.foldl
    | with_reducible apply Same.foldl1
    | intro _ _ _
    | intro _ _
    | (fail_if_no_progress ((with_reducible apply Same.upd) <;> first | (intro hb; first | with_reducible rfl | (exfalso; revert hb; decide)) | skip))
    | dsimp only
    | split

theorem State.countHazards_frame {s : State} {p : Nat} {us : List SlotUse} : Same 0x70000000000 s (State.countHazards s p us) := by
  unfold State.countHazards
  try dsimp only
  repeat' first
    | with_reducible exact Same.refl
    | with_reducible assumption
    | with_reducible apply Same.ite
    | ((with_reducible apply State.inc_frame); (decide); decide)
    | with_reducible apply Same.foldl
    | with_reducible apply Same.foldl1
    | intro _ _ _
    | intro _ _
    | (fail_if_no_progress ((with_reducible apply Same.upd) <;> first | (intro hb; first | with_reducible rfl | (exfalso; revert hb; decide)) | skip))
    | dsimp only
    | split

theorem State.perform_frame {s : State} {p : Nat} {us : List SlotUse} : Same 0x20000000000000000000000000000000000000000000000000000000000000000000000000000000000000000000470000000000 s (State.perform s p us) := by
  unfold State.perform
  try dsimp only
  repeat' first
    | with_reducible exact Same.refl
    | with_reducible assumption
    | with_reducible apply Same.ite
    | ((with_reducible apply Same.via State.countHazards_frame); decide)
    | ((with_reducible apply Same.via State.countEcc_frame); decide)
    | ((with_reducible apply Same.via State.addUses_frame); decide)
    | with_reducible apply Same.foldl
    | with_reducible apply Same.foldl1
    | intro _ _ _
    | intro _ _
    | (fail_if_no_progress ((with_reducible apply Same.upd) <;> first | (intro hb; first | with_reducible rfl | (exfalso; revert hb; decide)) | skip))
    | dsimp only
    | split

theorem State.applyRuns_frame {s : State} {p : Nat} {rs : List CoreRun} {spec : Option Nat} : Same 0x60000000000000000000000000000000000000000000000000000000000000000000000000000000000000000000470300000000 s (State.applyRuns s p rs spec) := by
  unfold State.applyRuns
  try dsimp only
  repeat' first
    | with_reducible exact Same.refl
    | with_reducible assumption
    | with_reducible apply Same.ite
    | ((with_reducible apply Same.via State.setCore_frame); decide)
    | ((with_reducible apply Same.via State.setPred_frame); decide)
    | ((with_reducible apply Same.via State.addDrops_frame); decide)
    | ((with_reducible apply Same.via State.perform_frame); decide)
    | with_reducible apply Same.foldl
    | with_reducible apply Same.foldl1
    | intro _ _ _
    | intro _ _
    | (fail_if_no_progress ((with_reducible apply Same.upd) <;> first | (intro hb; first | with_reducible rfl | (exfalso; revert hb; decide)) | skip))
    | dsimp only
    | split

theorem State.countFault_frame {s : State} {p : Nat} {f : Flt} : Same 0x220a6680000000000000000000000000000001c0001010000000c6000005000000008000000000000040008000000000800000000000 s (State.countFault s p f) := by
  unfold State.countFault
  try dsimp only
  repeat' first
    | with_reducible exact Same.refl
    | with_reducible assumption
    | with_reducible apply Same.ite
    | ((with_reducible apply Same.via State.noteEcc_frame); decide)
    | ((with_reducible apply State.inc_frame); (decide); decide)
    | with_reducible apply Same.foldl
    | with_reducible apply Same.foldl1
    | intro _ _ _
    | intro _ _
    | (fail_if_no_progress ((with_reducible apply Same.upd) <;> first | (intro hb; first | with_reducible rfl | (exfalso; revert hb; decide)) | skip))
    | dsimp only
    | split

theorem State.countFaults_frame {s : State} {p : Nat} {f : Flt} {all : List Flt} : Same 0x220a6680000000000000000000000000000001c0001010000000c6000005000000008000000000000040008000000000800000000000 s (State.countFaults s p f all) := by
  unfold State.countFaults
  try dsimp only
  repeat' first
    | with_reducible exact Same.refl
    | with_reducible assumption
    | with_reducible apply Same.ite
    | ((with_reducible apply Same.via State.countFault_frame); decide)
    | with_reducible apply Same.foldl
    | with_reducible apply Same.foldl1
    | intro _ _ _
    | intro _ _
    | (fail_if_no_progress ((with_reducible apply Same.upd) <;> first | (intro hb; first | with_reducible rfl | (exfalso; revert hb; decide)) | skip))
    | dsimp only
    | split

theorem State.wideFault_frame {s : State} {c : Cmd} {p : Nat} {f : Flt} {all : List Flt} {spec full : Option Nat} : Same 0x220a6e84000000000000000000000000000001c0001010000000c600000500000000800000000000004054a000000000800000000000 s (State.wideFault s c p f all spec full) := by
  unfold State.wideFault
  try dsimp only
  repeat' first
    | with_reducible exact Same.refl
    | with_reducible assumption
    | with_reducible apply Same.ite
    | ((with_reducible apply Same.via State.countFaults_frame); decide)
    | ((with_reducible apply Same.via State.setPred_frame); decide)
    | ((with_reducible apply Same.via State.fault_frame); decide)
    | ((with_reducible apply Same.via State.done_frame); decide)
    | ((with_reducible apply Same.via State.draw_frame); decide)
    | with_reducible apply Same.foldl
    | with_reducible apply Same.foldl1
    | intro _ _ _
    | intro _ _
    | (fail_if_no_progress ((with_reducible apply Same.upd) <;> first | (intro hb; first | with_reducible rfl | (exfalso; revert hb; decide)) | skip))
    | dsimp only
    | split

theorem State.wideDone_frame {s : State} {c : Cmd} {drops : List (Nat × Nat)} {cycles : Nat} : Same 0x200002000000000000000000000000000000000000000000000000000000000000000000000000000000000000000000000000000000 s (State.wideDone s c drops cycles) := by
  unfold State.wideDone
  try dsimp only
  repeat' first
    | with_reducible exact Same.refl
    | with_reducible assumption
    | with_reducible apply Same.ite
    | ((with_reducible apply Same.via State.done_frame); decide)
    | with_reducible apply Same.foldl
    | with_reducible apply Same.foldl1
    | intro _ _ _
    | intro _ _
    | (fail_if_no_progress ((with_reducible apply Same.upd) <;> first | (intro hb; first | with_reducible rfl | (exfalso; revert hb; decide)) | skip))
    | dsimp only
    | split

theorem State.setWide_frame {s : State} {c : Cmd} {p : Nat} {ws : List Walk} {upto : Nat} : Same 0x20000000000000000000000000000000000000000000000000000000000000000000000000000000000000000000000000000000 s (State.setWide s c p ws upto) := by
  unfold State.setWide
  try dsimp only
  repeat' first
    | with_reducible exact Same.refl
    | with_reducible assumption
    | with_reducible apply Same.ite
    | ((with_reducible apply Same.via State.modRun_frame); decide)
    | with_reducible apply Same.foldl
    | with_reducible apply Same.foldl1
    | intro _ _ _
    | intro _ _
    | (fail_if_no_progress ((with_reducible apply Same.upd) <;> first | (intro hb; first | with_reducible rfl | (exfalso; revert hb; decide)) | skip))
    | dsimp only
    | split

theorem State.consume_frame {s : State} {p : Nat} {g : Option RingGeo} {ws : List Walk} {due : Option Nat} : Same 0x20000000000000000000000000000000000000000000000000000000000000000000000000000000000000000000000000000000 s (State.consume s p g ws due) := by
  unfold State.consume
  try dsimp only
  repeat' first
    | with_reducible exact Same.refl
    | with_reducible assumption
    | with_reducible apply Same.ite
    | ((with_reducible apply Same.via State.modStrm_frame); decide)
    | with_reducible apply Same.foldl
    | with_reducible apply Same.foldl1
    | intro _ _ _
    | intro _ _
    | (fail_if_no_progress ((with_reducible apply Same.upd) <;> first | (intro hb; first | with_reducible rfl | (exfalso; revert hb; decide)) | skip))
    | dsimp only
    | split

theorem State.runMatrix_frame {s : State} {c : Cmd} {p : Nat} {o : MatOp} {spec : Option Nat} {start : List Walk} {fill : Fill} : Same 0x220a6e84000000000000000000000000000001c0001010000000c600000500000000800000000000004054a000000000c70300000000 s (State.runMatrix s c p o spec start fill) := by
  unfold State.runMatrix
  try dsimp only
  repeat' first
    | with_reducible exact Same.refl
    | with_reducible assumption
    | with_reducible apply Same.ite
    | ((with_reducible apply Same.via State.perform_frame); decide)
    | ((with_reducible apply Same.via State.applyRuns_frame); decide)
    | ((with_reducible apply Same.via State.setWide_frame); decide)
    | ((with_reducible apply Same.via State.wideFault_frame); decide)
    | ((with_reducible apply Same.via State.consume_frame); decide)
    | ((with_reducible apply Same.via State.wideDone_frame); decide)
    | with_reducible apply Same.foldl
    | with_reducible apply Same.foldl1
    | intro _ _ _
    | intro _ _
    | (fail_if_no_progress ((with_reducible apply Same.upd) <;> first | (intro hb; first | with_reducible rfl | (exfalso; revert hb; decide)) | skip))
    | dsimp only
    | split

theorem State.wmatmul_frame {s : State} {c : Cmd} {p lim : Nat} : Same 0x220a6e84000000000000000000000000000001c0001010000000c600000500000000800000000000004054a000000000c70300000000 s (State.wmatmul s c p lim) := by
  unfold State.wmatmul
  try dsimp only
  repeat' first
    | with_reducible exact Same.refl
    | with_reducible assumption
    | with_reducible apply Same.ite
    | ((with_reducible apply Same.via State.runMatrix_frame); decide)
    | with_reducible apply Same.foldl
    | with_reducible apply Same.foldl1
    | intro _ _ _
    | intro _ _
    | (fail_if_no_progress ((with_reducible apply Same.upd) <;> first | (intro hb; first | with_reducible rfl | (exfalso; revert hb; decide)) | skip))
    | dsimp only
    | split

theorem State.wmatmulSpec_frame {s : State} {c : Cmd} {p lim : Nat} : Same 0x220a6e84000000000000000000000000000001c0001010000000c600000500000000800000000000004054a000000000c70300000000 s (State.wmatmulSpec s c p lim) := by
  unfold State.wmatmulSpec
  try dsimp only
  repeat' first
    | with_reducible exact Same.refl
    | with_reducible assumption
    | with_reducible apply Same.ite
    | ((with_reducible apply Same.via State.setPred_frame); decide)
    | ((with_reducible apply Same.via State.runMatrix_frame); decide)
    | with_reducible apply Same.foldl
    | with_reducible apply Same.foldl1
    | intro _ _ _
    | intro _ _
    | (fail_if_no_progress ((with_reducible apply Same.upd) <;> first | (intro hb; first | with_reducible rfl | (exfalso; revert hb; decide)) | skip))
    | dsimp only
    | split

theorem State.specStop_frame {s : State} {c : Cmd} {p status detail : Nat} : Same 0x220a6e84000000000000000000000000000001c0001010000000c600000500000000800000000000004054a000000000800000000000 s (State.specStop s c p status detail) := by
  unfold State.specStop
  try dsimp only
  repeat' first
    | with_reducible exact Same.refl
    | with_reducible assumption
    | with_reducible apply Same.ite
    | ((with_reducible apply Same.via State.wideFault_frame); decide)
    | with_reducible apply Same.foldl
    | with_reducible apply Same.foldl1
    | intro _ _ _
    | intro _ _
    | (fail_if_no_progress ((with_reducible apply Same.upd) <;> first | (intro hb; first | with_reducible rfl | (exfalso; revert hb; decide)) | skip))
    | dsimp only
    | split

theorem State.ownWide_frame {s : State} {c : Cmd} {p : Nat} : Same 0x20000000000000000000000000000000000000000000000000000000000000000000000000000000000000000000000000000000 s (State.ownWide s c p) := by
  unfold State.ownWide
  try dsimp only
  repeat' first
    | with_reducible exact Same.refl
    | with_reducible assumption
    | with_reducible apply Same.ite
    | ((with_reducible apply Same.via State.modRun_frame); decide)
    | with_reducible apply Same.foldl
    | with_reducible apply Same.foldl1
    | intro _ _ _
    | intro _ _
    | (fail_if_no_progress ((with_reducible apply Same.upd) <;> first | (intro hb; first | with_reducible rfl | (exfalso; revert hb; decide)) | skip))
    | dsimp only
    | split

theorem execWmatmul_frame {c : CmdId} {s : State} {t : State} (e : execWmatmul c s = .next t) :
    Same 0x220a6e84000000000000000000000000000001c0001010000000c600000500000000800000000000004054a000000000c70300000000 s t := by
  cases e
  try dsimp only
  repeat' first
    | with_reducible exact Same.refl
    | with_reducible assumption
    | with_reducible apply Same.ite
    | ((with_reducible apply Same.via State.ownWide_frame); decide)
    | ((with_reducible apply Same.via State.wmatmul_frame); decide)
    | with_reducible apply Same.foldl
    | with_reducible apply Same.foldl1
    | intro _ _ _
    | intro _ _
    | (fail_if_no_progress ((with_reducible apply Same.upd) <;> first | (intro hb; first | with_reducible rfl | (exfalso; revert hb; decide)) | skip))
    | dsimp only
    | split

theorem execWmatmulSpec_frame {c : CmdId} {s : State} {t : State} (e : execWmatmulSpec c s = .next t) :
    Same 0x220a6e84000000000000000000000000000001c0001010000000c600000500000000800000000000004054a000000000c70300000000 s t := by
  cases e
  try dsimp only
  repeat' first
    | with_reducible exact Same.refl
    | with_reducible assumption
    | with_reducible apply Same.ite
    | ((with_reducible apply Same.via State.ownWide_frame); decide)
    | ((with_reducible apply Same.via State.wmatmulSpec_frame); decide)
    | with_reducible apply Same.foldl
    | with_reducible apply Same.foldl1
    | intro _ _ _
    | intro _ _
    | (fail_if_no_progress ((with_reducible apply Same.upd) <;> first | (intro hb; first | with_reducible rfl | (exfalso; revert hb; decide)) | skip))
    | dsimp only
    | split

end Sys2Proof.Machine
end

