-- ==== Sys2Proof/Laws/FrameVector.lean ====
section
/-! SUPPORT. Frames of the functions of Machine/Vector.lean (Laws/Frame.lean). -/

namespace Sys2Proof.Machine

set_option linter.unreachableTactic false
set_option linter.unusedTactic false
set_option linter.unusedVariables false

theorem State.runVector_frame {s : State} {c : Cmd} {p lim : Nat} {xs : List VecShare} : Same 0x220a6e84000000000000000000000000000001c0001010000000c600000500000000800000000000004054a000000000c70300000000 s (State.runVector s c p lim xs) := by
  unfold State.runVector
  try dsimp only
  repeat' first
    | with_reducible exact Same.refl
    | with_reducible assumption
    | with_reducible apply Same.ite
    | ((with_reducible apply Same.via State.applyRuns_frame); decide)
    | ((with_reducible apply Same.via State.setWide_frame); decide)
    | ((with_reducible apply Same.via State.wideFault_frame); decide)
    | ((with_reducible apply Same.via State.wideDone_frame); decide)
    | with_reducible apply Same.foldl
    | with_reducible apply Same.foldl1
    | intro _ _ _
    | intro _ _
    | (fail_if_no_progress ((with_reducible apply Same.upd) <;> first | (intro hb; first | with_reducible rfl | (exfalso; revert hb; decide)) | skip))
    | dsimp only
    | split

theorem State.wvector_frame {s : State} {c : Cmd} {p lim : Nat} : Same 0x220a6e84000000000000000000000000000001c0001010000000c600000500000000800000000000004054a000000000c70300000000 s (State.wvector s c p lim) := by
  unfold State.wvector
  try dsimp only
  repeat' first
    | with_reducible exact Same.refl
    | with_reducible assumption
    | with_reducible apply Same.ite
    | ((with_reducible apply Same.via State.runVector_frame); decide)
    | with_reducible apply Same.foldl
    | with_reducible apply Same.foldl1
    | intro _ _ _
    | intro _ _
    | (fail_if_no_progress ((with_reducible apply Same.upd) <;> first | (intro hb; first | with_reducible rfl | (exfalso; revert hb; decide)) | skip))
    | dsimp only
    | split

theorem execWvector_frame {c : CmdId} {s : State} {t : State} (e : execWvector c s = .next t) :
    Same 0x220a6e84000000000000000000000000000001c0001010000000c600000500000000800000000000004054a000000000c70300000000 s t := by
  cases e
  try dsimp only
  repeat' first
    | with_reducible exact Same.refl
    | with_reducible assumption
    | with_reducible apply Same.ite
    | ((with_reducible apply Same.via State.ownWide_frame); decide)
    | ((with_reducible apply Same.via State.wvector_frame); decide)
    | with_reducible apply Same.foldl
    | with_reducible apply Same.foldl1
    | intro _ _ _
    | intro _ _
    | (fail_if_no_progress ((with_reducible apply Same.upd) <;> first | (intro hb; first | with_reducible rfl | (exfalso; revert hb; decide)) | skip))
    | dsimp only
    | split

theorem State.wsample_frame {s : State} {c : Cmd} {p lim : Nat} : Same 0x220a6e84000000000000000000000000000001c0001010000000c600000500000000800000000000004054a000000000c70300000000 s (State.wsample s c p lim) := by
  unfold State.wsample
  try dsimp only
  repeat' first
    | with_reducible exact Same.refl
    | with_reducible assumption
    | with_reducible apply Same.ite
    | ((with_reducible apply Same.via State.runVector_frame); decide)
    | with_reducible apply Same.foldl
    | with_reducible apply Same.foldl1
    | intro _ _ _
    | intro _ _
    | (fail_if_no_progress ((with_reducible apply Same.upd) <;> first | (intro hb; first | with_reducible rfl | (exfalso; revert hb; decide)) | skip))
    | dsimp only
    | split

theorem execWsample_frame {c : CmdId} {s : State} {t : State} (e : execWsample c s = .next t) :
    Same 0x220a6e84000000000000000000000000000001c0001010000000c600000500000000800000000000004054a000000000c70300000000 s t := by
  cases e
  try dsimp only
  repeat' first
    | with_reducible exact Same.refl
    | with_reducible assumption
    | with_reducible apply Same.ite
    | ((with_reducible apply Same.via State.ownWide_frame); decide)
    | ((with_reducible apply Same.via State.wsample_frame); decide)
    | with_reducible apply Same.foldl
    | with_reducible apply Same.foldl1
    | intro _ _ _
    | intro _ _
    | (fail_if_no_progress ((with_reducible apply Same.upd) <;> first | (intro hb; first | with_reducible rfl | (exfalso; revert hb; decide)) | skip))
    | dsimp only
    | split

theorem State.wconv_frame {s : State} {c : Cmd} {p lim : Nat} : Same 0x220a6e84000000000000000000000000000001c0001010000000c600000500000000800000000000004054a000000000c70300000000 s (State.wconv s c p lim) := by
  unfold State.wconv
  try dsimp only
  repeat' first
    | with_reducible exact Same.refl
    | with_reducible assumption
    | with_reducible apply Same.ite
    | ((with_reducible apply Same.via State.runVector_frame); decide)
    | ((with_reducible apply Same.via State.runMatrix_frame); decide)
    | with_reducible apply Same.foldl
    | with_reducible apply Same.foldl1
    | intro _ _ _
    | intro _ _
    | (fail_if_no_progress ((with_reducible apply Same.upd) <;> first | (intro hb; first | with_reducible rfl | (exfalso; revert hb; decide)) | skip))
    | dsimp only
    | split

theorem execWconv_frame {c : CmdId} {s : State} {t : State} (e : execWconv c s = .next t) :
    Same 0x220a6e84000000000000000000000000000001c0001010000000c600000500000000800000000000004054a000000000c70300000000 s t := by
  cases e
  try dsimp only
  repeat' first
    | with_reducible exact Same.refl
    | with_reducible assumption
    | with_reducible apply Same.ite
    | ((with_reducible apply Same.via State.ownWide_frame); decide)
    | ((with_reducible apply Same.via State.wconv_frame); decide)
    | with_reducible apply Same.foldl
    | with_reducible apply Same.foldl1
    | intro _ _ _
    | intro _ _
    | (fail_if_no_progress ((with_reducible apply Same.upd) <;> first | (intro hb; first | with_reducible rfl | (exfalso; revert hb; decide)) | skip))
    | dsimp only
    | split

end Sys2Proof.Machine
end

