-- ==== Sys2Proof/Laws/FrameBind.lean ====
section
/-! SUPPORT. Frames of the functions of Machine/Bind.lean (Laws/Frame.lean). -/

namespace Sys2Proof.Machine

set_option linter.unreachableTactic false
set_option linter.unusedTactic false
set_option linter.unusedVariables false

theorem State.setSlot_frame {s : State} {p h : Nat} {v : Slot} : Same 0x20000000000000000000000000000000000000000000000000000000000000000000000000000000000000000000000000000000 s (State.setSlot s p h v) := by
  unfold State.setSlot
  try dsimp only
  repeat' first
    | with_reducible exact Same.refl
    | with_reducible assumption
    | with_reducible apply Same.ite
    | ((with_reducible apply Same.via State.modPart_frame); decide)
    | with_reducible apply Same.foldl
    | with_reducible apply Same.foldl1
    | intro _ _ _
    | intro _ _
    | (fail_if_no_progress ((with_reducible apply Same.upd) <;> first | (intro hb; first | with_reducible rfl | (exfalso; revert hb; decide)) | skip))
    | dsimp only
    | split

theorem State.bindSlot_frame {s : State} {p h : Nat} : Same 0x20000000000000000000000000000000000000000000000000000000800000000000000000000000000000000000000000000000 s (State.bindSlot s p h) := by
  unfold State.bindSlot
  try dsimp only
  repeat' first
    | with_reducible exact Same.refl
    | with_reducible assumption
    | with_reducible apply Same.ite
    | ((with_reducible apply Same.via State.setSlot_frame); decide)
    | ((with_reducible apply State.put_frame); decide)
    | with_reducible apply Same.foldl
    | with_reducible apply Same.foldl1
    | intro _ _ _
    | intro _ _
    | (fail_if_no_progress ((with_reducible apply Same.upd) <;> first | (intro hb; first | with_reducible rfl | (exfalso; revert hb; decide)) | skip))
    | dsimp only
    | split

theorem State.endLoad_frame {s : State} {p h : Nat} : Same 0x82002000000000000000000000000000000001c000000000000000000400100000000000000000000000000000000000000000000000 s (State.endLoad s p h) := by
  unfold State.endLoad
  try dsimp only
  repeat' first
    | with_reducible exact Same.refl
    | with_reducible assumption
    | with_reducible apply Same.ite
    | ((with_reducible apply State.put_frame); decide)
    | ((with_reducible apply State.partEvent_frame); (decide); decide)
    | with_reducible apply Same.foldl
    | with_reducible apply Same.foldl1
    | intro _ _ _
    | intro _ _
    | (fail_if_no_progress ((with_reducible apply Same.upd) <;> first | (intro hb; first | with_reducible rfl | (exfalso; revert hb; decide)) | skip))
    | dsimp only
    | split

theorem State.loadImage_frame {s : State} {p h : Nat} : Same 0x82002000000000000000000000000000000001c000000000000000000400f00000000000000000000000000000000000000000000000 s (State.loadImage s p h) := by
  unfold State.loadImage
  try dsimp only
  repeat' first
    | with_reducible exact Same.refl
    | with_reducible assumption
    | with_reducible apply Same.ite
    | ((with_reducible apply Same.via State.setSlot_frame); decide)
    | ((with_reducible apply State.put_frame); decide)
    | ((with_reducible apply Same.via State.endLoad_frame); decide)
    | with_reducible apply Same.foldl
    | with_reducible apply Same.foldl1
    | intro _ _ _
    | intro _ _
    | (fail_if_no_progress ((with_reducible apply Same.upd) <;> first | (intro hb; first | with_reducible rfl | (exfalso; revert hb; decide)) | skip))
    | dsimp only
    | split

theorem State.clearSlot_frame {s : State} {p h : Nat} : Same 0x20000000000000000000000000000000000000000000000000000000e00000000000000000000000000000000000000000000000 s (State.clearSlot s p h) := by
  unfold State.clearSlot
  try dsimp only
  repeat' first
    | with_reducible exact Same.refl
    | with_reducible assumption
    | with_reducible apply Same.ite
    | ((with_reducible apply Same.via State.setSlot_frame); decide)
    | ((with_reducible apply State.put_frame); decide)
    | with_reducible apply Same.foldl
    | with_reducible apply Same.foldl1
    | intro _ _ _
    | intro _ _
    | (fail_if_no_progress ((with_reducible apply Same.upd) <;> first | (intro hb; first | with_reducible rfl | (exfalso; revert hb; decide)) | skip))
    | dsimp only
    | split

theorem execProgLoad_frame {p : Fin 16} {h : Fin 32} {mem : List (Nat × Byte)} {s : State} {t : State} (e : execProgLoad p h mem s = .next t) :
    Same 0x12000080000000000000000000000000000001c000000000000000000000800000000000000000000000000000000000000000000000 s t := by
  cases e
  try dsimp only
  repeat' first
    | with_reducible exact Same.refl
    | with_reducible assumption
    | with_reducible apply Same.ite
    | with_reducible apply State.whenBooted_frame
    | ((with_reducible apply Same.via State.ignored_frame); decide)
    | ((with_reducible apply State.put_frame); decide)
    | ((with_reducible apply Same.via State.atNextEdge_frame); decide)
    | with_reducible apply Same.foldl
    | with_reducible apply Same.foldl1
    | intro _ _ _
    | intro _ _
    | (fail_if_no_progress ((with_reducible apply Same.upd) <;> first | (intro hb; first | with_reducible rfl | (exfalso; revert hb; decide)) | skip))
    | dsimp only
    | split

theorem execProgClear_frame {p : Fin 16} {h : Fin 32} {s : State} {t : State} (e : execProgClear p h s = .next t) :
    Same 0x12000000000000000000000000000000000001c000000000000000000000000000000000000000000000000000000000000000000000 s t := by
  cases e
  try dsimp only
  repeat' first
    | with_reducible exact Same.refl
    | with_reducible assumption
    | with_reducible apply Same.ite
    | with_reducible apply State.whenBooted_frame
    | ((with_reducible apply Same.via State.ignored_frame); decide)
    | ((with_reducible apply Same.via State.atNextEdge_frame); decide)
    | with_reducible apply Same.foldl
    | with_reducible apply Same.foldl1
    | intro _ _ _
    | intro _ _
    | (fail_if_no_progress ((with_reducible apply Same.upd) <;> first | (intro hb; first | with_reducible rfl | (exfalso; revert hb; decide)) | skip))
    | dsimp only
    | split

theorem State.bindStep_frame {s : State} {p h : Nat} : Same 0x82002000000000000000000000000000000001c000000000000000000400900000000000000000000000000000000000000000000000 s (State.bindStep s p h) := by
  unfold State.bindStep
  try dsimp only
  repeat' first
    | with_reducible exact Same.refl
    | with_reducible assumption
    | with_reducible apply Same.ite
    | ((with_reducible apply Same.via State.setSlot_frame); decide)
    | ((with_reducible apply Same.via State.bindSlot_frame); decide)
    | ((with_reducible apply Same.via State.endLoad_frame); decide)
    | ((with_reducible apply Same.via State.modBind_frame); decide)
    | ((with_reducible apply State.partEvent_frame); (decide); decide)
    | with_reducible apply Same.foldl
    | with_reducible apply Same.foldl1
    | intro _ _ _
    | intro _ _
    | (fail_if_no_progress ((with_reducible apply Same.upd) <;> first | (intro hb; first | with_reducible rfl | (exfalso; revert hb; decide)) | skip))
    | dsimp only
    | split

theorem execBind_frame {p : Fin 16} {h : Fin 32} {s : State} {t : State} (e : execBind p h s = .next t) :
    Same 0x82002000000000000000000000000000000001c000000000000000000400900000000000000000000000000000000000000000000000 s t := by
  cases e
  try dsimp only
  repeat' first
    | with_reducible exact Same.refl
    | with_reducible assumption
    | with_reducible apply Same.ite
    | ((with_reducible apply Same.via State.bindStep_frame); decide)
    | with_reducible apply Same.foldl
    | with_reducible apply Same.foldl1
    | intro _ _ _
    | intro _ _
    | (fail_if_no_progress ((with_reducible apply Same.upd) <;> first | (intro hb; first | with_reducible rfl | (exfalso; revert hb; decide)) | skip))
    | dsimp only
    | split

end Sys2Proof.Machine
end

