-- ==== Sys2Proof/Laws/FrameTransfer.lean ====
section
/-! SUPPORT. Frames of the functions of Machine/Transfer.lean (Laws/Frame.lean). -/

namespace Sys2Proof.Machine

set_option linter.unreachableTactic false
set_option linter.unusedTactic false
set_option linter.unusedVariables false

theorem State.doneLinks_frame {s : State} {c : Cmd} {t : Nat} {l : List (Nat × Nat × Nat)} : Same 0x200002000000000000000000000000000000000000000000000000000000000000000000000000000000000000000000000000000000 s (State.doneLinks s c t l) := by
  unfold State.doneLinks
  try dsimp only
  repeat' first
    | with_reducible exact Same.refl
    | with_reducible assumption
    | with_reducible apply Same.ite
    | ((with_reducible apply Same.via State.done_frame); decide)
    | with_reducible apply Same.foldl
    | with_reducible apply Same.foldl1
    | intro _ _ _
    | intro _ _
    | (fail_if_no_progress ((with_reducible apply Same.upd) <;> first | (intro hb; first | with_reducible rfl | (exfalso; revert hb; decide)) | skip))
    | dsimp only
    | split

theorem State.transferFault_frame {s : State} {c : Cmd} {p x status detail : Nat} : Same 0x22026e82000000000000000000000000000001c0001000000000c6000000000000008000000000000000542000000000000000000000 s (State.transferFault s c p x status detail) := by
  unfold State.transferFault
  try dsimp only
  repeat' first
    | with_reducible exact Same.refl
    | with_reducible assumption
    | with_reducible apply Same.ite
    | ((with_reducible apply Same.via State.advance_frame); decide)
    | ((with_reducible apply Same.via State.fault_frame); decide)
    | ((with_reducible apply Same.via State.mark_frame); decide)
    | ((with_reducible apply Same.via State.chargeAt_frame); decide)
    | with_reducible apply Same.foldl
    | with_reducible apply Same.foldl1
    | intro _ _ _
    | intro _ _
    | (fail_if_no_progress ((with_reducible apply Same.upd) <;> first | (intro hb; first | with_reducible rfl | (exfalso; revert hb; decide)) | skip))
    | dsimp only
    | split

theorem State.leaveBursts_frame {s : State} {c : Cmd} {p x period a n : Nat} {counts : Bool} : Same 0x22026e82000000000000000000000000000001c0001000000000c600000000000000800000000000000054200000c000000000000000 s (State.leaveBursts s c p x period a n counts) := by
  unfold State.leaveBursts
  try dsimp only
  repeat' first
    | with_reducible exact Same.refl
    | with_reducible assumption
    | with_reducible apply Same.ite
    | ((with_reducible apply Same.via State.transferFault_frame); decide)
    | ((with_reducible apply State.inc_frame); (decide); decide)
    | ((with_reducible apply Same.via State.mark_frame); decide)
    | with_reducible apply Same.foldl
    | with_reducible apply Same.foldl1
    | intro _ _ _
    | intro _ _
    | (fail_if_no_progress ((with_reducible apply Same.upd) <;> first | (intro hb; first | with_reducible rfl | (exfalso; revert hb; decide)) | skip))
    | dsimp only
    | split

theorem State.enterBurst_frame {s : State} {c : Cmd} {p i r x a : Nat} {bs : Bytes} : Same 0x2202ee82000000000000000000000000000001c0001000000000c6000000000000008000000000000000542000001000000000000000 s (State.enterBurst s c p i r x a bs) := by
  unfold State.enterBurst
  try dsimp only
  repeat' first
    | with_reducible exact Same.refl
    | with_reducible assumption
    | with_reducible apply Same.ite
    | ((with_reducible apply Same.via State.transferFault_frame); decide)
    | ((with_reducible apply State.inc_frame); (decide); decide)
    | with_reducible apply Same.foldl
    | with_reducible apply Same.foldl1
    | intro _ _ _
    | intro _ _
    | (fail_if_no_progress ((with_reducible apply Same.upd) <;> first | (intro hb; first | with_reducible rfl | (exfalso; revert hb; decide)) | skip))
    | dsimp only
    | split

theorem State.enterBursts_frame {s : State} {c : Cmd} {p i r x a : Nat} {bs : Bytes} : Same 0x2202ee82000000000000000000000000000001c0001000000000c6000000000000008000000000000000542000001000000000000000 s (State.enterBursts s c p i r x a bs) := by
  unfold State.enterBursts
  try dsimp only
  repeat' first
    | with_reducible exact Same.refl
    | with_reducible assumption
    | with_reducible apply Same.ite
    | ((with_reducible apply Same.via State.enterBurst_frame); decide)
    | with_reducible apply Same.foldl
    | with_reducible apply Same.foldl1
    | intro _ _ _
    | intro _ _
    | (fail_if_no_progress ((with_reducible apply Same.upd) <;> first | (intro hb; first | with_reducible rfl | (exfalso; revert hb; decide)) | skip))
    | dsimp only
    | split

theorem State.linkWord_frame {s : State} {n lane : Nat} {flips : List Nat} {x : Nat} : Same 0x22036e82000000000000000000000000000001c0001000000000c6000000000000008000000000000000540000000c00000000000000 s (State.linkWord s n lane flips x) := by
  unfold State.linkWord
  try dsimp only
  repeat' first
    | with_reducible exact Same.refl
    | with_reducible assumption
    | with_reducible apply Same.ite
    | ((with_reducible apply State.inc_frame); (decide); decide)
    | ((with_reducible apply Same.via State.setLink_frame); decide)
    | ((with_reducible apply Same.via State.retire_frame); decide)
    | ((with_reducible apply Same.via State.chargeAt_frame); decide)
    | ((with_reducible apply Same.via State.event_frame); decide)
    | with_reducible apply Same.foldl
    | with_reducible apply Same.foldl1
    | intro _ _ _
    | intro _ _
    | (fail_if_no_progress ((with_reducible apply Same.upd) <;> first | (intro hb; first | with_reducible rfl | (exfalso; revert hb; decide)) | skip))
    | dsimp only
    | split

theorem State.crossInjected_frame {s : State} {n lane x : Nat} : Same 0x22036e86000000000000000000000000000001c0001000000000c6000000000000008000000000000000540000000c00000000000000 s (State.crossInjected s n lane x) := by
  unfold State.crossInjected
  try dsimp only
  repeat' first
    | with_reducible exact Same.refl
    | with_reducible assumption
    | with_reducible apply Same.ite
    | ((with_reducible apply Same.via State.draw_frame); decide)
    | ((with_reducible apply Same.via State.setLink_frame); decide)
    | ((with_reducible apply Same.via State.mark_frame); decide)
    | ((with_reducible apply Same.via State.linkWord_frame); decide)
    | with_reducible apply Same.foldl
    | with_reducible apply Same.foldl1
    | intro _ _ _
    | intro _ _
    | (fail_if_no_progress ((with_reducible apply Same.upd) <;> first | (intro hb; first | with_reducible rfl | (exfalso; revert hb; decide)) | skip))
    | dsimp only
    | split

theorem State.placeRow_frame {s : State} {p lc row wc0 : Nat} {bs : Bytes} {src : Option Nat} {kind x : Nat} : Same 0x22026682000000000000000000000000000001c0001000000000c6000000000000008000000000000000000000000000170000000000 s (State.placeRow s p lc row wc0 bs src kind x) := by
  unfold State.placeRow
  try dsimp only
  repeat' first
    | with_reducible exact Same.refl
    | with_reducible assumption
    | with_reducible apply Same.ite
    | ((with_reducible apply Same.via State.writeS_frame); decide)
    | ((with_reducible apply Same.via State.remoteWrite_frame); decide)
    | with_reducible apply Same.foldl
    | with_reducible apply Same.foldl1
    | intro _ _ _
    | intro _ _
    | (fail_if_no_progress ((with_reducible apply Same.upd) <;> first | (intro hb; first | with_reducible rfl | (exfalso; revert hb; decide)) | skip))
    | dsimp only
    | split

theorem State.readRow_frame {s : State} {c : Cmd} {p x lc row : Nat} : Same 0x220a6e82000000000000000000000000000001c0001010000000c6000005000000008000000000000000542000000000c00000000000 s (State.readRow s c p x lc row) := by
  unfold State.readRow
  try dsimp only
  repeat' first
    | with_reducible exact Same.refl
    | with_reducible assumption
    | with_reducible apply Same.ite
    | ((with_reducible apply Same.via State.noteEcc_frame); decide)
    | ((with_reducible apply Same.via State.transferFault_frame); decide)
    | ((with_reducible apply Same.via State.countEcc_frame); decide)
    | ((with_reducible apply Same.via State.addUses_frame); decide)
    | with_reducible apply Same.foldl
    | with_reducible apply Same.foldl1
    | intro _ _ _
    | intro _ _
    | (fail_if_no_progress ((with_reducible apply Same.upd) <;> first | (intro hb; first | with_reducible rfl | (exfalso; revert hb; decide)) | skip))
    | dsimp only
    | split

theorem State.placeEvent_frame {s : State} {c : Cmd} {p : Nat} {u : Event} {e : PlanEntry} {b : Bound} {j : Nat} : Same 0x22026682000000000000000000000000000001c0001000000000c6000000000000008000000000000100000000000000170000000000 s (State.placeEvent s c p u e b j) := by
  unfold State.placeEvent
  try dsimp only
  repeat' first
    | with_reducible exact Same.refl
    | with_reducible assumption
    | with_reducible apply Same.ite
    | ((with_reducible apply Same.via State.placeRow_frame); decide)
    | ((with_reducible apply Same.via State.setFlag_frame); decide)
    | with_reducible apply Same.foldl
    | with_reducible apply Same.foldl1
    | intro _ _ _
    | intro _ _
    | (fail_if_no_progress ((with_reducible apply Same.upd) <;> first | (intro hb; first | with_reducible rfl | (exfalso; revert hb; decide)) | skip))
    | dsimp only
    | split

theorem State.frameEvent_frame {s : State} {c : Cmd} {p i : Nat} {e : PlanEntry} {b : Bound} {f : Nat} : Same 0x400200000000000000000000000000000000000000000000000000000000000000000000000000000000000000000000000000000000 s (State.frameEvent s c p i e b f) := by
  unfold State.frameEvent
  try dsimp only
  repeat' first
    | with_reducible exact Same.refl
    | with_reducible assumption
    | with_reducible apply Same.ite
    | ((with_reducible apply Same.via State.sendFrame_frame); decide)
    | with_reducible apply Same.foldl
    | with_reducible apply Same.foldl1
    | intro _ _ _
    | intro _ _
    | (fail_if_no_progress ((with_reducible apply Same.upd) <;> first | (intro hb; first | with_reducible rfl | (exfalso; revert hb; decide)) | skip))
    | dsimp only
    | split

theorem State.happen_frame {s : State} {c : Cmd} {p : Nat} {u : Event} : Same 0x620bee86000000000000000000000000000001c0001010000000c600000500000000800000000000010054200000dc00d70000000000 s (State.happen s c p u) := by
  unfold State.happen
  try dsimp only
  repeat' first
    | with_reducible exact Same.refl
    | with_reducible assumption
    | with_reducible apply Same.ite
    | ((with_reducible apply Same.via State.readRow_frame); decide)
    | ((with_reducible apply Same.via State.leaveBursts_frame); decide)
    | ((with_reducible apply Same.via State.placeEvent_frame); decide)
    | ((with_reducible apply Same.via State.enterBursts_frame); decide)
    | ((with_reducible apply Same.via State.frameEvent_frame); decide)
    | ((with_reducible apply Same.via State.crossInjected_frame); decide)
    | with_reducible apply Same.foldl
    | with_reducible apply Same.foldl1
    | intro _ _ _
    | intro _ _
    | (fail_if_no_progress ((with_reducible apply Same.upd) <;> first | (intro hb; first | with_reducible rfl | (exfalso; revert hb; decide)) | skip))
    | dsimp only
    | split

theorem State.happenAll_frame {s : State} {c : Cmd} {p : Nat} {us : List Event} : Same 0x620bee86000000000000000000000000000001c0001010000000c600000500000000800000000000010054200000dc00d70000000000 s (State.happenAll s c p us) := by
  unfold State.happenAll
  try dsimp only
  repeat' first
    | with_reducible exact Same.refl
    | with_reducible assumption
    | with_reducible apply Same.ite
    | ((with_reducible apply Same.via State.happen_frame); decide)
    | with_reducible apply Same.foldl
    | with_reducible apply Same.foldl1
    | intro _ _ _
    | intro _ _
    | (fail_if_no_progress ((with_reducible apply Same.upd) <;> first | (intro hb; first | with_reducible rfl | (exfalso; revert hb; decide)) | skip))
    | dsimp only
    | split

theorem State.setUpto_frame {s : State} {c : Cmd} {x : Nat} : Same 0x2000000000000000000000000000000000000000000000000000000000000000000000000000000000000000000000000000000 s (State.setUpto s c x) := by
  unfold State.setUpto
  try dsimp only
  repeat' first
    | with_reducible exact Same.refl
    | with_reducible assumption
    | with_reducible apply Same.ite
    | ((with_reducible apply Same.via State.setCmd_frame); decide)
    | with_reducible apply Same.foldl
    | with_reducible apply Same.foldl1
    | intro _ _ _
    | intro _ _
    | (fail_if_no_progress ((with_reducible apply Same.upd) <;> first | (intro hb; first | with_reducible rfl | (exfalso; revert hb; decide)) | skip))
    | dsimp only
    | split

theorem State.runPlan_frame {s : State} {c : Cmd} {p first n lim : Nat} : Same 0x620bee86000000000000000000000000000001c0001010000000c600000500000000800000000000010054200000dc00d70000000000 s (State.runPlan s c p first n lim).1 := by
  unfold State.runPlan
  try dsimp only
  repeat' first
    | with_reducible exact Same.refl
    | with_reducible assumption
    | with_reducible apply Same.ite
    | ((with_reducible apply Same.via State.happenAll_frame); decide)
    | ((with_reducible apply Same.via State.setUpto_frame); decide)
    | with_reducible apply Same.foldl
    | with_reducible apply Same.foldl1
    | intro _ _ _
    | intro _ _
    | (fail_if_no_progress ((with_reducible apply Same.upd) <;> first | (intro hb; first | with_reducible rfl | (exfalso; revert hb; decide)) | skip))
    | dsimp only
    | split

end Sys2Proof.Machine
end

