-- ==== Sys2Proof/Laws/FrameStream.lean ====
section
/-! SUPPORT. Frames of the functions of Machine/Stream.lean (Laws/Frame.lean). -/

namespace Sys2Proof.Machine

set_option linter.unreachableTactic false
set_option linter.unusedTactic false
set_option linter.unusedVariables false

theorem State.setStream_frame {s : State} {p : Nat} {st : Stream} : Same 0x20000000000000000000000000000000000000000000000000000000000000000000000000000000000000000000000000000000 s (State.setStream s p st) := by
  unfold State.setStream
  try dsimp only
  repeat' first
    | with_reducible exact Same.refl
    | with_reducible assumption
    | with_reducible apply Same.ite
    | ((with_reducible apply Same.via State.modStrm_frame); decide)
    | with_reducible apply Same.foldl
    | with_reducible apply Same.foldl1
    | intro _ _ _
    | intro _ _
    | (fail_if_no_progress ((with_reducible apply Same.upd) <;> first | (intro hb; first | with_reducible rfl | (exfalso; revert hb; decide)) | skip))
    | dsimp only
    | split

theorem State.addStream_frame {s : State} {p : Nat} {st : Stream} : Same 0x20000000000000000000000000000000000000000000000000000000000000000000000000000000000000000000000000000000 s (State.addStream s p st) := by
  unfold State.addStream
  try dsimp only
  repeat' first
    | with_reducible exact Same.refl
    | with_reducible assumption
    | with_reducible apply Same.ite
    | ((with_reducible apply Same.via State.modStrm_frame); decide)
    | with_reducible apply Same.foldl
    | with_reducible apply Same.foldl1
    | intro _ _ _
    | intro _ _
    | (fail_if_no_progress ((with_reducible apply Same.upd) <;> first | (intro hb; first | with_reducible rfl | (exfalso; revert hb; decide)) | skip))
    | dsimp only
    | split

theorem State.sendRequests_frame {s : State} {p : Nat} {st : Stream} : Same 0x400200000000000000000000000000000000000000000000000000000000000000000000000000000000000000000000000000000000 s (State.sendRequests s p st) := by
  unfold State.sendRequests
  try dsimp only
  repeat' first
    | with_reducible exact Same.refl
    | with_reducible assumption
    | with_reducible apply Same.ite
    | ((with_reducible apply Same.via State.sendWords_frame); decide)
    | with_reducible apply Same.foldl
    | with_reducible apply Same.foldl1
    | intro _ _ _
    | intro _ _
    | (fail_if_no_progress ((with_reducible apply Same.upd) <;> first | (intro hb; first | with_reducible rfl | (exfalso; revert hb; decide)) | skip))
    | dsimp only
    | split

theorem State.digestFail_frame {s : State} {c : Cmd} {_p id cause : Nat} : Same 0x2026e80000000000000000000000000000001c0001000000000c6000000000000008000000000000000542000000000000000000000 s (State.digestFail s c _p id cause) := by
  unfold State.digestFail
  try dsimp only
  repeat' first
    | with_reducible exact Same.refl
    | with_reducible assumption
    | with_reducible apply Same.ite
    | ((with_reducible apply Same.via State.fault_frame); decide)
    | with_reducible apply Same.foldl
    | with_reducible apply Same.foldl1
    | intro _ _ _
    | intro _ _
    | (fail_if_no_progress ((with_reducible apply Same.upd) <;> first | (intro hb; first | with_reducible rfl | (exfalso; revert hb; decide)) | skip))
    | dsimp only
    | split

theorem State.settleRing_frame {s : State} {p : Nat} {c : Cmd} {x : Nat} : Same 0x20000000000000000000000000000000000000000000000000000000000000000000000000000000000000000000000000000000 s (State.settleRing s p c x) := by
  unfold State.settleRing
  try dsimp only
  repeat' first
    | with_reducible exact Same.refl
    | with_reducible assumption
    | with_reducible apply Same.ite
    | ((with_reducible apply Same.via State.modStrm_frame); decide)
    | with_reducible apply Same.foldl
    | with_reducible apply Same.foldl1
    | intro _ _ _
    | intro _ _
    | (fail_if_no_progress ((with_reducible apply Same.upd) <;> first | (intro hb; first | with_reducible rfl | (exfalso; revert hb; decide)) | skip))
    | dsimp only
    | split

theorem State.countPrune_frame {s : State} {p lc : Nat} {h : Shard} {q : Piece} : Same 0xc000000000 s (State.countPrune s p lc h q) := by
  unfold State.countPrune
  try dsimp only
  repeat' first
    | with_reducible exact Same.refl
    | with_reducible assumption
    | with_reducible apply Same.ite
    | ((with_reducible apply State.inc_frame); (decide); decide)
    | with_reducible apply Same.foldl
    | with_reducible apply Same.foldl1
    | intro _ _ _
    | intro _ _
    | (fail_if_no_progress ((with_reducible apply Same.upd) <;> first | (intro hb; first | with_reducible rfl | (exfalso; revert hb; decide)) | skip))
    | dsimp only
    | split

theorem State.writePiece_frame {s : State} {c : Cmd} {p lc : Nat} {h : Shard} {q : Piece} {x : Nat} : Same 0x22026e82000000000000000000000000000001c0001000000000c600000000000000800000000000000054600000000017c000000000 s (State.writePiece s c p lc h q x) := by
  unfold State.writePiece
  try dsimp only
  repeat' first
    | with_reducible exact Same.refl
    | with_reducible assumption
    | with_reducible apply Same.ite
    | ((with_reducible apply State.inc_frame); (decide); decide)
    | ((with_reducible apply Same.via State.advance_frame); decide)
    | ((with_reducible apply Same.via State.fault_frame); decide)
    | ((with_reducible apply Same.via State.remoteWrite_frame); decide)
    | ((with_reducible apply Same.via State.countPrune_frame); decide)
    | with_reducible apply Same.foldl
    | with_reducible apply Same.foldl1
    | intro _ _ _
    | intro _ _
    | (fail_if_no_progress ((with_reducible apply Same.upd) <;> first | (intro hb; first | with_reducible rfl | (exfalso; revert hb; decide)) | skip))
    | dsimp only
    | split

theorem State.pieceCycle_frame {s : State} {c : Cmd} {p stop x : Nat} {ws : List (Nat × Nat × Shard × Piece)} : Same 0x22026e82000000000000000000000000000001c0001000000000c600000000000000800000000000000054600000000017c000000000 s (State.pieceCycle s c p stop x ws).1 := by
  unfold State.pieceCycle
  try dsimp only
  repeat' first
    | with_reducible exact Same.refl
    | with_reducible assumption
    | with_reducible apply Same.ite
    | ((with_reducible apply Same.via State.writePiece_frame); decide)
    | ((with_reducible apply Same.via State.settleRing_frame); decide)
    | with_reducible apply Same.foldl
    | with_reducible apply Same.foldl1
    | intro _ _ _
    | intro _ _
    | (fail_if_no_progress ((with_reducible apply Same.upd) <;> first | (intro hb; first | with_reducible rfl | (exfalso; revert hb; decide)) | skip))
    | dsimp only
    | split

theorem State.runPieces_frame {s : State} {c : Cmd} {p lim : Nat} : Same 0x22026e82000000000000000000000000000001c0001000000000c600000000000000800000000000000054600000000017c000000000 s (State.runPieces s c p lim) := by
  unfold State.runPieces
  try dsimp only
  repeat' first
    | with_reducible exact Same.refl
    | with_reducible assumption
    | with_reducible apply Same.ite
    | ((with_reducible apply Same.via State.pieceCycle_frame); decide)
    | ((with_reducible apply Same.via State.setUpto_frame); decide)
    | with_reducible apply Same.foldl
    | with_reducible apply Same.foldl1
    | intro _ _ _
    | intro _ _
    | (fail_if_no_progress ((with_reducible apply Same.upd) <;> first | (intro hb; first | with_reducible rfl | (exfalso; revert hb; decide)) | skip))
    | dsimp only
    | split

theorem State.putShard_frame {s : State} {c : Cmd} {p k : Nat} {h : Shard} : Same 0x20000000000000000000000000000000000000000000000000000000000000000000000000000000000000000000000000000000 s (State.putShard s c p k h) := by
  unfold State.putShard
  try dsimp only
  repeat' first
    | with_reducible exact Same.refl
    | with_reducible assumption
    | with_reducible apply Same.ite
    | ((with_reducible apply Same.via State.setStream_frame); decide)
    | with_reducible apply Same.foldl
    | with_reducible apply Same.foldl1
    | intro _ _ _
    | intro _ _
    | (fail_if_no_progress ((with_reducible apply Same.upd) <;> first | (intro hb; first | with_reducible rfl | (exfalso; revert hb; decide)) | skip))
    | dsimp only
    | split

theorem State.addBytes_frame {s : State} {c : Cmd} {p n : Nat} : Same 0x20000000000000000000000000000000000000000000000000000000000000000000000000000000000000000000000000000000 s (State.addBytes s c p n) := by
  unfold State.addBytes
  try dsimp only
  repeat' first
    | with_reducible exact Same.refl
    | with_reducible assumption
    | with_reducible apply Same.ite
    | ((with_reducible apply Same.via State.setPred_frame); decide)
    | with_reducible apply Same.foldl
    | with_reducible apply Same.foldl1
    | intro _ _ _
    | intro _ _
    | (fail_if_no_progress ((with_reducible apply Same.upd) <;> first | (intro hb; first | with_reducible rfl | (exfalso; revert hb; decide)) | skip))
    | dsimp only
    | split

theorem State.readRound_frame {s : State} {c : Cmd} {p lim k q : Nat} : Same 0x22026e82000000000000000000000000000001c0001000000000c600000000000000800000000000000054200000c000000000000000 s (State.readRound s c p lim k q) := by
  unfold State.readRound
  try dsimp only
  repeat' first
    | with_reducible exact Same.refl
    | with_reducible assumption
    | with_reducible apply Same.ite
    | ((with_reducible apply Same.via State.leaveBursts_frame); decide)
    | ((with_reducible apply Same.via State.putShard_frame); decide)
    | ((with_reducible apply Same.via State.addBytes_frame); decide)
    | with_reducible apply Same.foldl
    | with_reducible apply Same.foldl1
    | intro _ _ _
    | intro _ _
    | (fail_if_no_progress ((with_reducible apply Same.upd) <;> first | (intro hb; first | with_reducible rfl | (exfalso; revert hb; decide)) | skip))
    | dsimp only
    | split

theorem State.readStacks_frame {s : State} {c : Cmd} {p lim : Nat} : Same 0x22026e82000000000000000000000000000001c0001000000000c600000000000000800000000000000054200000c000000000000000 s (State.readStacks s c p lim) := by
  unfold State.readStacks
  try dsimp only
  repeat' first
    | with_reducible exact Same.refl
    | with_reducible assumption
    | with_reducible apply Same.ite
    | ((with_reducible apply Same.via State.readRound_frame); decide)
    | with_reducible apply Same.foldl
    | with_reducible apply Same.foldl1
    | intro _ _ _
    | intro _ _
    | (fail_if_no_progress ((with_reducible apply Same.upd) <;> first | (intro hb; first | with_reducible rfl | (exfalso; revert hb; decide)) | skip))
    | dsimp only
    | split

theorem State.headFault_frame {s : State} {c : Cmd} {p : Nat} {h : Shard} {t : State} (e : State.headFault s c p h = some t) :
    Same 0x2026e80000000000000000000000000000001c0001000000000c6000000000000008000000000000000542000000000000000000000 s t := by
  unfold State.headFault at e
  repeat' split at e
  all_goals cases e
  all_goals
  repeat' first
    | with_reducible exact Same.refl
    | with_reducible assumption
    | with_reducible apply Same.ite
    | ((with_reducible apply Same.via State.digestFail_frame); decide)
    | ((with_reducible apply Same.via State.fault_frame); decide)
    | with_reducible apply Same.foldl
    | with_reducible apply Same.foldl1
    | intro _ _ _
    | intro _ _
    | (fail_if_no_progress ((with_reducible apply Same.upd) <;> first | (intro hb; first | with_reducible rfl | (exfalso; revert hb; decide)) | skip))
    | dsimp only
    | split

theorem State.settleShard_frame {s : State} {c : Cmd} {p k : Nat} : Same 0x2026e80000000000000000000000000000001c0001000000000c6000000000000008000000000000000542000000000000000000000 s (State.settleShard s c p k) := by
  unfold State.settleShard
  try dsimp only
  repeat' first
    | with_reducible exact Same.refl
    | with_reducible assumption
    | with_reducible apply Same.ite
    | (apply Same.via (State.headFault_frame (by assumption)); decide)
    | ((with_reducible apply Same.via State.setStream_frame); decide)
    | with_reducible apply Same.foldl
    | with_reducible apply Same.foldl1
    | intro _ _ _
    | intro _ _
    | (fail_if_no_progress ((with_reducible apply Same.upd) <;> first | (intro hb; first | with_reducible rfl | (exfalso; revert hb; decide)) | skip))
    | dsimp only
    | split
    | (rename_i e; replace e := (Option.ite_none_right_eq_some.1 e).2)

theorem State.runEnters_frame {s : State} {c : Cmd} {p lim : Nat} : Same 0x2202ee82000000000000000000000000000001c0001000000000c6000000000000008000000000000000542000001000000000000000 s (State.runEnters s c p lim) := by
  unfold State.runEnters
  try dsimp only
  repeat' first
    | with_reducible exact Same.refl
    | with_reducible assumption
    | with_reducible apply Same.ite
    | ((with_reducible apply Same.via State.enterBursts_frame); decide)
    | ((with_reducible apply Same.via State.setUpto_frame); decide)
    | with_reducible apply Same.foldl
    | with_reducible apply Same.foldl1
    | intro _ _ _
    | intro _ _
    | (fail_if_no_progress ((with_reducible apply Same.upd) <;> first | (intro hb; first | with_reducible rfl | (exfalso; revert hb; decide)) | skip))
    | dsimp only
    | split

theorem State.markDelivered_frame {s : State} {c : Cmd} {p : Nat} : Same 0x20000000000000000000000000000000000000000000000000000000000000000000000000000000000000000000000000000000 s (State.markDelivered s c p) := by
  unfold State.markDelivered
  try dsimp only
  repeat' first
    | with_reducible exact Same.refl
    | with_reducible assumption
    | with_reducible apply Same.ite
    | ((with_reducible apply Same.via State.setStream_frame); decide)
    | ((with_reducible apply Same.via State.modStrm_frame); decide)
    | with_reducible apply Same.foldl
    | with_reducible apply Same.foldl1
    | intro _ _ _
    | intro _ _
    | (fail_if_no_progress ((with_reducible apply Same.upd) <;> first | (intro hb; first | with_reducible rfl | (exfalso; revert hb; decide)) | skip))
    | dsimp only
    | split

theorem State.writeShadow_frame {s : State} {p e v : Nat} : Same 0x2008000000000000000000000000000000001c000000000000000000000000000000000000000000000000000000000000000000000 s (State.writeShadow s p e v) := by
  unfold State.writeShadow
  try dsimp only
  repeat' first
    | with_reducible exact Same.refl
    | with_reducible assumption
    | with_reducible apply Same.ite
    | ((with_reducible apply Same.via State.event_frame); decide)
    | with_reducible apply Same.foldl
    | with_reducible apply Same.foldl1
    | intro _ _ _
    | intro _ _
    | (fail_if_no_progress ((with_reducible apply Same.upd) <;> first | (intro hb; first | with_reducible rfl | (exfalso; revert hb; decide)) | skip))
    | dsimp only
    | split

theorem State.writeResidents_frame {s : State} {p : Nat} {q : ResideP} {st : Stream} : Same 0x2008000000000000000000000000000000001c000000000000000000000000000000000000000000000000000000000000000000000 s (State.writeResidents s p q st) := by
  unfold State.writeResidents
  try dsimp only
  repeat' first
    | with_reducible exact Same.refl
    | with_reducible assumption
    | with_reducible apply Same.ite
    | ((with_reducible apply Same.via State.writeShadow_frame); decide)
    | with_reducible apply Same.foldl
    | with_reducible apply Same.foldl1
    | intro _ _ _
    | intro _ _
    | (fail_if_no_progress ((with_reducible apply Same.upd) <;> first | (intro hb; first | with_reducible rfl | (exfalso; revert hb; decide)) | skip))
    | dsimp only
    | split

theorem State.streamDone_frame {s : State} {c : Cmd} {p : Nat} : Same 0x2200a200000000000000000000000000000001c000000000000000000000000000000000000000000000000000000000000000000000 s (State.streamDone s c p) := by
  unfold State.streamDone
  try dsimp only
  repeat' first
    | with_reducible exact Same.refl
    | with_reducible assumption
    | with_reducible apply Same.ite
    | ((with_reducible apply Same.via State.writeResidents_frame); decide)
    | ((with_reducible apply Same.via State.modStrm_frame); decide)
    | ((with_reducible apply Same.via State.doneLinks_frame); decide)
    | with_reducible apply Same.foldl
    | with_reducible apply Same.foldl1
    | intro _ _ _
    | intro _ _
    | (fail_if_no_progress ((with_reducible apply Same.upd) <;> first | (intro hb; first | with_reducible rfl | (exfalso; revert hb; decide)) | skip))
    | dsimp only
    | split

theorem State.recheck_frame {s : State} {c : Cmd} {p : Nat} : Same 0x2026e80000000000000000000000000000001c0001000000000c6000000000000008000000000000000542000000000000000000000 s (State.recheck s c p) := by
  unfold State.recheck
  try dsimp only
  repeat' first
    | with_reducible exact Same.refl
    | with_reducible assumption
    | with_reducible apply Same.ite
    | ((with_reducible apply Same.via State.digestFail_frame); decide)
    | with_reducible apply Same.foldl
    | with_reducible apply Same.foldl1
    | intro _ _ _
    | intro _ _
    | (fail_if_no_progress ((with_reducible apply Same.upd) <;> first | (intro hb; first | with_reducible rfl | (exfalso; revert hb; decide)) | skip))
    | dsimp only
    | split

theorem State.pumpTo_frame {s : State} {c : Cmd} {p lim : Nat} : Same 0x2202ee82000000000000000000000000000001c0001000000000c600000000000000800000000000000054600000d00017c000000000 s (State.pumpTo s c p lim) := by
  unfold State.pumpTo
  try dsimp only
  repeat' first
    | with_reducible exact Same.refl
    | with_reducible assumption
    | with_reducible apply Same.ite
    | ((with_reducible apply Same.via State.readStacks_frame); decide)
    | ((with_reducible apply Same.via State.recheck_frame); decide)
    | ((with_reducible apply Same.via State.settleShard_frame); decide)
    | ((with_reducible apply Same.via State.runEnters_frame); decide)
    | ((with_reducible apply Same.via State.runPieces_frame); decide)
    | ((with_reducible apply Same.via State.markDelivered_frame); decide)
    | ((with_reducible apply Same.via State.streamDone_frame); decide)
    | with_reducible apply Same.foldl
    | with_reducible apply Same.foldl1
    | intro _ _ _
    | intro _ _
    | (fail_if_no_progress ((with_reducible apply Same.upd) <;> first | (intro hb; first | with_reducible rfl | (exfalso; revert hb; decide)) | skip))
    | dsimp only
    | split

theorem State.pump_frame {s : State} {c : Cmd} {p : Nat} : Same 0x2202ee82000000000000000000000000000001c0001000000000c600000000000000800000000000000054600000d00017c000000000 s (State.pump s c p) := by
  unfold State.pump
  try dsimp only
  repeat' first
    | with_reducible exact Same.refl
    | with_reducible assumption
    | with_reducible apply Same.ite
    | ((with_reducible apply Same.via State.pumpTo_frame); decide)
    | with_reducible apply Same.foldl
    | with_reducible apply Same.foldl1
    | intro _ _ _
    | intro _ _
    | (fail_if_no_progress ((with_reducible apply Same.upd) <;> first | (intro hb; first | with_reducible rfl | (exfalso; revert hb; decide)) | skip))
    | dsimp only
    | split

theorem State.streamStep_frame {s : State} {c : Cmd} {p lim : Nat} : Same 0x6202ee82000000000000000000000000000001c0001000000000c600000000000000800000000000000054600000d00017c000000000 s (State.streamStep s c p lim) := by
  unfold State.streamStep
  try dsimp only
  repeat' first
    | with_reducible exact Same.refl
    | with_reducible assumption
    | with_reducible apply Same.ite
    | ((with_reducible apply Same.via State.sendRequests_frame); decide)
    | ((with_reducible apply Same.via State.setStream_frame); decide)
    | ((with_reducible apply Same.via State.pumpTo_frame); decide)
    | with_reducible apply Same.foldl
    | with_reducible apply Same.foldl1
    | intro _ _ _
    | intro _ _
    | (fail_if_no_progress ((with_reducible apply Same.upd) <;> first | (intro hb; first | with_reducible rfl | (exfalso; revert hb; decide)) | skip))
    | dsimp only
    | split

theorem execStreamLoad_frame {c : CmdId} {s : State} {t : State} (e : execStreamLoad c s = .next t) :
    Same 0x6202ee82000000000000000000000000000001c0001000000000c600000000000000800000000000000054600000d00017c000000000 s t := by
  cases e
  try dsimp only
  repeat' first
    | with_reducible exact Same.refl
    | with_reducible assumption
    | with_reducible apply Same.ite
    | ((with_reducible apply Same.via State.streamStep_frame); decide)
    | with_reducible apply Same.foldl
    | with_reducible apply Same.foldl1
    | intro _ _ _
    | intro _ _
    | (fail_if_no_progress ((with_reducible apply Same.upd) <;> first | (intro hb; first | with_reducible rfl | (exfalso; revert hb; decide)) | skip))
    | dsimp only
    | split

theorem execStreamSpec_frame {c : CmdId} {s : State} {t : State} (e : execStreamSpec c s = .next t) :
    Same 0x6202ee82000000000000000000000000000001c0001000000000c600000000000000800000000000000054600000d00017c000000000 s t := by
  cases e
  try dsimp only
  repeat' first
    | with_reducible exact Same.refl
    | with_reducible assumption
    | with_reducible apply Same.ite
    | ((with_reducible apply Same.via State.streamStep_frame); decide)
    | with_reducible apply Same.foldl
    | with_reducible apply Same.foldl1
    | intro _ _ _
    | intro _ _
    | (fail_if_no_progress ((with_reducible apply Same.upd) <;> first | (intro hb; first | with_reducible rfl | (exfalso; revert hb; decide)) | skip))
    | dsimp only
    | split

theorem execPruneLoad_frame {c : CmdId} {s : State} {t : State} (e : execPruneLoad c s = .next t) :
    Same 0x6202ee82000000000000000000000000000001c0001000000000c600000000000000800000000000000054600000d00017c000000000 s t := by
  cases e
  try dsimp only
  repeat' first
    | with_reducible exact Same.refl
    | with_reducible assumption
    | with_reducible apply Same.ite
    | ((with_reducible apply Same.via State.streamStep_frame); decide)
    | with_reducible apply Same.foldl
    | with_reducible apply Same.foldl1
    | intro _ _ _
    | intro _ _
    | (fail_if_no_progress ((with_reducible apply Same.upd) <;> first | (intro hb; first | with_reducible rfl | (exfalso; revert hb; decide)) | skip))
    | dsimp only
    | split

theorem State.resideStep_frame {s : State} {d : Cmd} {p lim : Nat} : Same 0x6202ee82000000000000000000000000000001c0001000000000c600000000000000800000000000000054600000d00017c000000000 s (State.resideStep s d p lim) := by
  unfold State.resideStep
  try dsimp only
  repeat' first
    | with_reducible exact Same.refl
    | with_reducible assumption
    | with_reducible apply Same.ite
    | ((with_reducible apply Same.via State.modStrm_frame); decide)
    | ((with_reducible apply Same.via State.done_frame); decide)
    | ((with_reducible apply Same.via State.sendRequests_frame); decide)
    | ((with_reducible apply Same.via State.setStream_frame); decide)
    | ((with_reducible apply Same.via State.pumpTo_frame); decide)
    | with_reducible apply Same.foldl
    | with_reducible apply Same.foldl1
    | intro _ _ _
    | intro _ _
    | (fail_if_no_progress ((with_reducible apply Same.upd) <;> first | (intro hb; first | with_reducible rfl | (exfalso; revert hb; decide)) | skip))
    | dsimp only
    | split

theorem execReside_frame {c : CmdId} {s : State} {t : State} (e : execReside c s = .next t) :
    Same 0x6202ee82000000000000000000000000000001c0001000000000c600000000000000800000000000000054600000d00017c000000000 s t := by
  cases e
  try dsimp only
  repeat' first
    | with_reducible exact Same.refl
    | with_reducible assumption
    | with_reducible apply Same.ite
    | ((with_reducible apply Same.via State.resideStep_frame); decide)
    | with_reducible apply Same.foldl
    | with_reducible apply Same.foldl1
    | intro _ _ _
    | intro _ _
    | (fail_if_no_progress ((with_reducible apply Same.upd) <;> first | (intro hb; first | with_reducible rfl | (exfalso; revert hb; decide)) | skip))
    | dsimp only
    | split

theorem State.absentRow_frame {s : State} {c : Cmd} {id j : Nat} : Same 0x2026e80000000000000000000000000000001c0001000000000c6000000000000008000000000000000542000000000000000000000 s (State.absentRow s c id j) := by
  unfold State.absentRow
  try dsimp only
  repeat' first
    | with_reducible exact Same.refl
    | with_reducible assumption
    | with_reducible apply Same.ite
    | ((with_reducible apply Same.via State.fault_frame); decide)
    | with_reducible apply Same.foldl
    | with_reducible apply Same.foldl1
    | intro _ _ _
    | intro _ _
    | (fail_if_no_progress ((with_reducible apply Same.upd) <;> first | (intro hb; first | with_reducible rfl | (exfalso; revert hb; decide)) | skip))
    | dsimp only
    | split

theorem State.shardWord_frame {s : State} {n p : Nat} {w : Bytes} : Same 0x2026e80000000000000000000000000000001c0001000000000c6000000000000008000000000000000542000000000000000000000 s (State.shardWord s n p w) := by
  unfold State.shardWord
  try dsimp only
  repeat' first
    | with_reducible exact Same.refl
    | with_reducible assumption
    | with_reducible apply Same.ite
    | ((with_reducible apply Same.via State.modStrm_frame); decide)
    | ((with_reducible apply Same.via State.setStream_frame); decide)
    | ((with_reducible apply Same.via State.addBytes_frame); decide)
    | (apply Same.via (State.headFault_frame (by assumption)); decide)
    | ((with_reducible apply Same.via State.absentRow_frame); decide)
    | ((with_reducible apply Same.via State.digestFail_frame); decide)
    | ((with_reducible apply Same.via State.fault_frame); decide)
    | with_reducible apply Same.foldl
    | with_reducible apply Same.foldl1
    | intro _ _ _
    | intro _ _
    | (fail_if_no_progress ((with_reducible apply Same.upd) <;> first | (intro hb; first | with_reducible rfl | (exfalso; revert hb; decide)) | skip))
    | dsimp only
    | split
    | (rename_i e; replace e := (Option.ite_none_right_eq_some.1 e).2)

theorem execShardData_frame {n : Fin 64} {w : WslFrame} {s : State} {t : State} (e : execShardData n w s = .next t) :
    Same 0x2202ee82000000000000000000000000000001c0001000000000c600000000000000800000007800000054600000d00017c000000000 s t := by
  cases e
  try dsimp only
  repeat' first
    | with_reducible exact Same.refl
    | with_reducible assumption
    | with_reducible apply Same.ite
    | ((with_reducible apply Same.via State.linkCheck_frame); decide)
    | ((with_reducible apply Same.via State.shardWord_frame); decide)
    | ((with_reducible apply Same.via State.pump_frame); decide)
    | with_reducible apply Same.foldl
    | with_reducible apply Same.foldl1
    | intro _ _ _
    | intro _ _
    | (fail_if_no_progress ((with_reducible apply Same.upd) <;> first | (intro hb; first | with_reducible rfl | (exfalso; revert hb; decide)) | skip))
    | dsimp only
    | split

theorem State.verdict_frame {s : State} {c : Cmd} {p k : Nat} : Same 0x2202ee82000000000000000000000000000001c0001000000000c600000000000000800000000000000054600000d00017c000000000 s (State.verdict s c p k) := by
  unfold State.verdict
  try dsimp only
  repeat' first
    | with_reducible exact Same.refl
    | with_reducible assumption
    | with_reducible apply Same.ite
    | ((with_reducible apply Same.via State.pump_frame); decide)
    | ((with_reducible apply Same.via State.digestFail_frame); decide)
    | ((with_reducible apply Same.via State.journalInput_frame); decide)
    | ((with_reducible apply Same.via State.setStream_frame); decide)
    | ((with_reducible apply Same.via State.settleRing_frame); decide)
    | with_reducible apply Same.foldl
    | with_reducible apply Same.foldl1
    | intro _ _ _
    | intro _ _
    | (fail_if_no_progress ((with_reducible apply Same.upd) <;> first | (intro hb; first | with_reducible rfl | (exfalso; revert hb; decide)) | skip))
    | dsimp only
    | split

theorem execVerdict_frame {c : CmdId} {k : Nat} {s : State} {t : State} (e : execVerdict c k s = .next t) :
    Same 0x2202ee82000000000000000000000000000001c0001000000000c600000000000000800000000000000054600000d00017c000000000 s t := by
  cases e
  try dsimp only
  repeat' first
    | with_reducible exact Same.refl
    | with_reducible assumption
    | with_reducible apply Same.ite
    | ((with_reducible apply Same.via State.verdict_frame); decide)
    | with_reducible apply Same.foldl
    | with_reducible apply Same.foldl1
    | intro _ _ _
    | intro _ _
    | (fail_if_no_progress ((with_reducible apply Same.upd) <;> first | (intro hb; first | with_reducible rfl | (exfalso; revert hb; decide)) | skip))
    | dsimp only
    | split

end Sys2Proof.Machine
end

