-- ==== Sys2Proof/Laws/FrameResident.lean ====
section
/-! SUPPORT. Frames of the functions of Machine/Resident.lean (Laws/Frame.lean). -/

namespace Sys2Proof.Machine

set_option linter.unreachableTactic false
set_option linter.unusedTactic false
set_option linter.unusedVariables false

theorem State.evict_frame {s : State} {c : Cmd} {p : Nat} : Same 0x2200a200000000000000000000000000000001c000000000000000000000000000000000000000000000000000000000000000000000 s (State.evict s c p) := by
  unfold State.evict
  try dsimp only
  repeat' first
    | with_reducible exact Same.refl
    | with_reducible assumption
    | with_reducible apply Same.ite
    | ((with_reducible apply Same.via State.writeShadow_frame); decide)
    | ((with_reducible apply Same.via State.modStrm_frame); decide)
    | ((with_reducible apply Same.via State.done_frame); decide)
    | with_reducible apply Same.foldl
    | with_reducible apply Same.foldl1
    | intro _ _ _
    | intro _ _
    | (fail_if_no_progress ((with_reducible apply Same.upd) <;> first | (intro hb; first | with_reducible rfl | (exfalso; revert hb; decide)) | skip))
    | dsimp only
    | split

theorem execEvict_frame {c : CmdId} {s : State} {t : State} (e : execEvict c s = .next t) :
    Same 0x2200a200000000000000000000000000000001c000000000000000000000000000000000000000000000000000000000000000000000 s t := by
  cases e
  try dsimp only
  repeat' first
    | with_reducible exact Same.refl
    | with_reducible assumption
    | with_reducible apply Same.ite
    | ((with_reducible apply Same.via State.evict_frame); decide)
    | with_reducible apply Same.foldl
    | with_reducible apply Same.foldl1
    | intro _ _ _
    | intro _ _
    | (fail_if_no_progress ((with_reducible apply Same.upd) <;> first | (intro hb; first | with_reducible rfl | (exfalso; revert hb; decide)) | skip))
    | dsimp only
    | split

theorem execSlotFree_frame {p : Fin 16} {s : State} {t : State} (e : execSlotFree p s = .next t) :
    Same 0x20000000000000000000000000000000000000000000000000000000000000000000000000000000000000000000000000000000 s t := by
  cases e
  try dsimp only
  repeat' first
    | with_reducible exact Same.refl
    | with_reducible assumption
    | with_reducible apply Same.ite
    | ((with_reducible apply Same.via State.modStrm_frame); decide)
    | with_reducible apply Same.foldl
    | with_reducible apply Same.foldl1
    | intro _ _ _
    | intro _ _
    | (fail_if_no_progress ((with_reducible apply Same.upd) <;> first | (intro hb; first | with_reducible rfl | (exfalso; revert hb; decide)) | skip))
    | dsimp only
    | split

theorem State.exchangeErt_frame {s : State} {p queue seq : Nat} : Same 0xa4800000000000000000000000000000000000000000000046000000000000000000000000000000000000a00000000000000000 s (State.exchangeErt s p queue seq) := by
  unfold State.exchangeErt
  try dsimp only
  repeat' first
    | with_reducible exact Same.refl
    | with_reducible assumption
    | with_reducible apply Same.ite
    | ((with_reducible apply State.put_frame); decide)
    | ((with_reducible apply Same.via State.modStrm_frame); decide)
    | ((with_reducible apply Same.via State.journalSwitch_frame); decide)
    | with_reducible apply Same.foldl
    | with_reducible apply Same.foldl1
    | intro _ _ _
    | intro _ _
    | (fail_if_no_progress ((with_reducible apply Same.upd) <;> first | (intro hb; first | with_reducible rfl | (exfalso; revert hb; decide)) | skip))
    | dsimp only
    | split

theorem execSwapModel_frame {c : CmdId} {s : State} {t : State} (e : execSwapModel c s = .next t) :
    Same 0x200022000000000000000000000000000000000000000000000000000000000000000000000000000000000080000000000000000000 s t := by
  cases e
  try dsimp only
  repeat' first
    | with_reducible exact Same.refl
    | with_reducible assumption
    | with_reducible apply Same.ite
    | ((with_reducible apply Same.via State.modStrm_frame); decide)
    | ((with_reducible apply State.put_frame); decide)
    | ((with_reducible apply Same.via State.done_frame); decide)
    | with_reducible apply Same.foldl
    | with_reducible apply Same.foldl1
    | intro _ _ _
    | intro _ _
    | (fail_if_no_progress ((with_reducible apply Same.upd) <;> first | (intro hb; first | with_reducible rfl | (exfalso; revert hb; decide)) | skip))
    | dsimp only
    | split

theorem State.modelSwitch_frame {s : State} {p : Nat} : Same 0x8200a480000000000000000000000000000001c0000000000000460c00000000000000000000000000000000e0a00000000000000000 s (State.modelSwitch s p) := by
  unfold State.modelSwitch
  try dsimp only
  repeat' first
    | with_reducible exact Same.refl
    | with_reducible assumption
    | with_reducible apply Same.ite
    | ((with_reducible apply Same.via State.modStrm_frame); decide)
    | ((with_reducible apply State.put_frame); decide)
    | ((with_reducible apply Same.via State.journalSwitch_frame); decide)
    | ((with_reducible apply Same.via State.exchangeErt_frame); decide)
    | ((with_reducible apply State.setEvent_frame); (decide); decide)
    | ((with_reducible apply State.partEvent_frame); (decide); decide)
    | with_reducible apply Same.foldl
    | with_reducible apply Same.foldl1
    | intro _ _ _
    | intro _ _
    | (fail_if_no_progress ((with_reducible apply Same.upd) <;> first | (intro hb; first | with_reducible rfl | (exfalso; revert hb; decide)) | skip))
    | dsimp only
    | split

theorem execModelSwitch_frame {p : Fin 16} {s : State} {t : State} (e : execModelSwitch p s = .next t) :
    Same 0x8200a480000000000000000000000000000001c0000000000000460c00000000000000000000000000000000e0a00000000000000000 s t := by
  cases e
  try dsimp only
  repeat' first
    | with_reducible exact Same.refl
    | with_reducible assumption
    | with_reducible apply Same.ite
    | ((with_reducible apply Same.via State.modelSwitch_frame); decide)
    | with_reducible apply Same.foldl
    | with_reducible apply Same.foldl1
    | intro _ _ _
    | intro _ _
    | (fail_if_no_progress ((with_reducible apply Same.upd) <;> first | (intro hb; first | with_reducible rfl | (exfalso; revert hb; decide)) | skip))
    | dsimp only
    | split

theorem State.sendWriteback_frame {s : State} {c : Cmd} {p : Nat} {e : PlanEntry} : Same 0x600222000000000000000000000000000000000000000000000000000000000000000000000000000000000000000000000000000000 s (State.sendWriteback s c p e) := by
  unfold State.sendWriteback
  try dsimp only
  repeat' first
    | with_reducible exact Same.refl
    | with_reducible assumption
    | with_reducible apply Same.ite
    | ((with_reducible apply Same.via State.modPart_frame); decide)
    | ((with_reducible apply Same.via State.sendWords_frame); decide)
    | ((with_reducible apply Same.via State.doneLinks_frame); decide)
    | with_reducible apply Same.foldl
    | with_reducible apply Same.foldl1
    | intro _ _ _
    | intro _ _
    | (fail_if_no_progress ((with_reducible apply Same.upd) <;> first | (intro hb; first | with_reducible rfl | (exfalso; revert hb; decide)) | skip))
    | dsimp only
    | split

theorem State.writeback_frame {s : State} {c : Cmd} {p lim : Nat} : Same 0x620a6e82000000000000000000000000000001c0001010000000c6000005000000008000000000000000542000000000c00000000000 s (State.writeback s c p lim) := by
  unfold State.writeback
  try dsimp only
  repeat' first
    | with_reducible exact Same.refl
    | with_reducible assumption
    | with_reducible apply Same.ite
    | ((with_reducible apply Same.via State.readRow_frame); decide)
    | ((with_reducible apply Same.via State.setUpto_frame); decide)
    | ((with_reducible apply Same.via State.sendWriteback_frame); decide)
    | with_reducible apply Same.foldl
    | with_reducible apply Same.foldl1
    | intro _ _ _
    | intro _ _
    | (fail_if_no_progress ((with_reducible apply Same.upd) <;> first | (intro hb; first | with_reducible rfl | (exfalso; revert hb; decide)) | skip))
    | dsimp only
    | split

theorem execWriteback_frame {c : CmdId} {s : State} {t : State} (e : execWriteback c s = .next t) :
    Same 0x620a6e82000000000000000000000000000001c0001010000000c6000005000000008000000000000000542000000000c00000000000 s t := by
  cases e
  try dsimp only
  repeat' first
    | with_reducible exact Same.refl
    | with_reducible assumption
    | with_reducible apply Same.ite
    | ((with_reducible apply Same.via State.writeback_frame); decide)
    | with_reducible apply Same.foldl
    | with_reducible apply Same.foldl1
    | intro _ _ _
    | intro _ _
    | (fail_if_no_progress ((with_reducible apply Same.upd) <;> first | (intro hb; first | with_reducible rfl | (exfalso; revert hb; decide)) | skip))
    | dsimp only
    | split

end Sys2Proof.Machine
end

