-- ==== Sys2Proof/Laws/FrameSpec.lean ====
section
/-! SUPPORT. Frames of the functions of Machine/Spec.lean (Laws/Frame.lean). -/

namespace Sys2Proof.Machine

set_option linter.unreachableTactic false
set_option linter.unusedTactic false
set_option linter.unusedVariables false

theorem State.renameGroups_frame {s : State} {p : Nat} {pairs : List (Nat × Nat)} : Same 0x4000000000000000000000000 s (State.renameGroups s p pairs) := by
  unfold State.renameGroups
  try dsimp only
  repeat' first
    | with_reducible exact Same.refl
    | with_reducible assumption
    | with_reducible apply Same.ite
    | ((with_reducible apply State.put_frame); decide)
    | with_reducible apply Same.foldl
    | with_reducible apply Same.foldl1
    | intro _ _ _
    | intro _ _
    | (fail_if_no_progress ((with_reducible apply Same.upd) <;> first | (intro hb; first | with_reducible rfl | (exfalso; revert hb; decide)) | skip))
    | dsimp only
    | split

theorem State.confirmSlot_frame {s : State} {p k : Nat} : Same 0x20000000000000000000000000000000000000000000000000000000000000000000000000000004080000000000000300000000 s (State.confirmSlot s p k) := by
  unfold State.confirmSlot
  try dsimp only
  repeat' first
    | with_reducible exact Same.refl
    | with_reducible assumption
    | with_reducible apply Same.ite
    | ((with_reducible apply Same.via State.renameGroups_frame); decide)
    | ((with_reducible apply Same.via State.addDrops_frame); decide)
    | ((with_reducible apply Same.via State.modStrm_frame); decide)
    | ((with_reducible apply State.inc_frame); (decide); decide)
    | ((with_reducible apply Same.via State.setPred_frame); decide)
    | with_reducible apply Same.foldl
    | with_reducible apply Same.foldl1
    | intro _ _ _
    | intro _ _
    | (fail_if_no_progress ((with_reducible apply Same.upd) <;> first | (intro hb; first | with_reducible rfl | (exfalso; revert hb; decide)) | skip))
    | dsimp only
    | split

theorem State.applyMask_frame {s : State} {p confirm resolve : Nat} : Same 0x2026e00000000000000000000000000000001c0000000000000000000000000000000000000000000047c0000000000000300000000 s (State.applyMask s p confirm resolve).1 := by
  unfold State.applyMask
  try dsimp only
  repeat' first
    | with_reducible exact Same.refl
    | with_reducible assumption
    | with_reducible apply Same.ite
    | ((with_reducible apply State.inc_frame); (decide); decide)
    | ((with_reducible apply Same.via State.sample_frame); decide)
    | ((with_reducible apply Same.via State.settleSlots_frame); decide)
    | ((with_reducible apply Same.via State.confirmSlot_frame); decide)
    | with_reducible apply Same.foldl
    | with_reducible apply Same.foldl1
    | intro _ _ _
    | intro _ _
    | (fail_if_no_progress ((with_reducible apply Same.upd) <;> first | (intro hb; first | with_reducible rfl | (exfalso; revert hb; decide)) | skip))
    | dsimp only
    | split

theorem State.reportHeld_frame {s : State} {p : Nat} {f : Nat × Cmd × Nat × Nat} : Same 0x2026680000000000000000000000000000001c0001000000000c6000000000000008000000000000000002000000000000000000000 s (State.reportHeld s p f) := by
  unfold State.reportHeld
  try dsimp only
  repeat' first
    | with_reducible exact Same.refl
    | with_reducible assumption
    | with_reducible apply Same.ite
    | ((with_reducible apply State.inc_frame); (decide); decide)
    | ((with_reducible apply Same.via State.abort_frame); decide)
    | with_reducible apply Same.foldl
    | with_reducible apply Same.foldl1
    | intro _ _ _
    | intro _ _
    | (fail_if_no_progress ((with_reducible apply Same.upd) <;> first | (intro hb; first | with_reducible rfl | (exfalso; revert hb; decide)) | skip))
    | dsimp only
    | split

theorem State.fltAt_frame {s : State} {c : Cmd} {p : Nat} {f : Flt} {all : List Flt} : Same 0x220a6e82000000000000000000000000000001c0001010000000c600000500000000800000000000004054a000000000800000000000 s (State.fltAt s c p f all) := by
  unfold State.fltAt
  try dsimp only
  repeat' first
    | with_reducible exact Same.refl
    | with_reducible assumption
    | with_reducible apply Same.ite
    | ((with_reducible apply Same.via State.countFaults_frame); decide)
    | ((with_reducible apply Same.via State.advance_frame); decide)
    | ((with_reducible apply Same.via State.fault_frame); decide)
    | ((with_reducible apply Same.via State.chargeAt_frame); decide)
    | with_reducible apply Same.foldl
    | with_reducible apply Same.foldl1
    | intro _ _ _
    | intro _ _
    | (fail_if_no_progress ((with_reducible apply Same.upd) <;> first | (intro hb; first | with_reducible rfl | (exfalso; revert hb; decide)) | skip))
    | dsimp only
    | split

theorem State.maskEcc_frame {s : State} {p : Nat} {q : RouteP} {x : Nat} : Same 0x400000000000 s (State.maskEcc s p q x) := by
  unfold State.maskEcc
  try dsimp only
  repeat' first
    | with_reducible exact Same.refl
    | with_reducible assumption
    | with_reducible apply Same.ite
    | ((with_reducible apply State.inc_frame); (decide); decide)
    | with_reducible apply Same.foldl
    | with_reducible apply Same.foldl1
    | intro _ _ _
    | intro _ _
    | (fail_if_no_progress ((with_reducible apply Same.upd) <;> first | (intro hb; first | with_reducible rfl | (exfalso; revert hb; decide)) | skip))
    | dsimp only
    | split

theorem State.readMask_frame {s : State} {c : Cmd} {p : Nat} : Same 0x220a6e82000000000000000000000000000001c0001010000000c600000500000000800000000000004054a000000000c70000000000 s (State.readMask s c p) := by
  unfold State.readMask
  try dsimp only
  repeat' first
    | with_reducible exact Same.refl
    | with_reducible assumption
    | with_reducible apply Same.ite
    | ((with_reducible apply Same.via State.fltAt_frame); decide)
    | ((with_reducible apply Same.via State.countHazards_frame); decide)
    | ((with_reducible apply Same.via State.maskEcc_frame); decide)
    | ((with_reducible apply Same.via State.addUses_frame); decide)
    | with_reducible apply Same.foldl
    | with_reducible apply Same.foldl1
    | intro _ _ _
    | intro _ _
    | (fail_if_no_progress ((with_reducible apply Same.upd) <;> first | (intro hb; first | with_reducible rfl | (exfalso; revert hb; decide)) | skip))
    | dsimp only
    | split

theorem State.commitNow_frame {s : State} {c : Cmd} {p : Nat} : Same 0x620aee82000000000000000000000000000001c0001010000000c60000050000000080000000000000447ce00000d000d7c300000000 s (State.commitNow s c p) := by
  unfold State.commitNow
  try dsimp only
  repeat' first
    | with_reducible exact Same.refl
    | with_reducible assumption
    | with_reducible apply Same.ite
    | ((with_reducible apply Same.via State.streamStep_frame); decide)
    | ((with_reducible apply Same.via State.setNow_frame); decide)
    | ((with_reducible apply Same.via State.applyMask_frame); decide)
    | ((with_reducible apply Same.via State.setUpto_frame); decide)
    | ((with_reducible apply Same.via State.journalRoute_frame); decide)
    | ((with_reducible apply Same.via State.reportHeld_frame); decide)
    | ((with_reducible apply Same.via State.done_frame); decide)
    | ((with_reducible apply Same.via State.fltAt_frame); decide)
    | ((with_reducible apply Same.via State.countEcc_frame); decide)
    | with_reducible apply Same.foldl
    | with_reducible apply Same.foldl1
    | intro _ _ _
    | intro _ _
    | (fail_if_no_progress ((with_reducible apply Same.upd) <;> first | (intro hb; first | with_reducible rfl | (exfalso; revert hb; decide)) | skip))
    | dsimp only
    | split

theorem State.dispatchNow_frame {s : State} {c : Cmd} {p : Nat} {b : Bound} : Same 0x22002680000000000000000000000000000001c000000000000046000000000000000000000000000003800000000000000300000000 s (State.dispatchNow s c p b) := by
  unfold State.dispatchNow
  try dsimp only
  repeat' first
    | with_reducible exact Same.refl
    | with_reducible assumption
    | with_reducible apply Same.ite
    | ((with_reducible apply Same.via State.setUpto_frame); decide)
    | ((with_reducible apply Same.via State.journalRoute_frame); decide)
    | ((with_reducible apply Same.via State.done_frame); decide)
    | ((with_reducible apply Same.via State.addDrops_frame); decide)
    | ((with_reducible apply State.put_frame); decide)
    | ((with_reducible apply Same.via State.sample_frame); decide)
    | ((with_reducible apply State.inc_frame); (decide); decide)
    | ((with_reducible apply Same.via State.modRun_frame); decide)
    | with_reducible apply Same.foldl
    | with_reducible apply Same.foldl1
    | intro _ _ _
    | intro _ _
    | (fail_if_no_progress ((with_reducible apply Same.upd) <;> first | (intro hb; first | with_reducible rfl | (exfalso; revert hb; decide)) | skip))
    | dsimp only
    | split

theorem State.resultEvent_frame {s : State} {c : Cmd} {p : Nat} {u : Event} : Same 0x620bee86000000000000000000000000000001c0001010000000c600000500000000800000000000010054200000dc00d70000000000 s (State.resultEvent s c p u) := by
  unfold State.resultEvent
  try dsimp only
  repeat' first
    | with_reducible exact Same.refl
    | with_reducible assumption
    | with_reducible apply Same.ite
    | ((with_reducible apply Same.via State.placeRow_frame); decide)
    | ((with_reducible apply Same.via State.happen_frame); decide)
    | with_reducible apply Same.foldl
    | with_reducible apply Same.foldl1
    | intro _ _ _
    | intro _ _
    | (fail_if_no_progress ((with_reducible apply Same.upd) <;> first | (intro hb; first | with_reducible rfl | (exfalso; revert hb; decide)) | skip))
    | dsimp only
    | split

theorem State.results_frame {s : State} {c : Cmd} {p : Nat} {e : PlanEntry} {b : Bound} {lim : Nat} : Same 0x620bee86000000000000000000000000000001c0001010000000c600000500000000800000000000010054200000dc00d70000000000 s (State.results s c p e b lim) := by
  unfold State.results
  try dsimp only
  repeat' first
    | with_reducible exact Same.refl
    | with_reducible assumption
    | with_reducible apply Same.ite
    | ((with_reducible apply Same.via State.resultEvent_frame); decide)
    | ((with_reducible apply Same.via State.setUpto_frame); decide)
    | ((with_reducible apply Same.via State.done_frame); decide)
    | with_reducible apply Same.foldl
    | with_reducible apply Same.foldl1
    | intro _ _ _
    | intro _ _
    | (fail_if_no_progress ((with_reducible apply Same.upd) <;> first | (intro hb; first | with_reducible rfl | (exfalso; revert hb; decide)) | skip))
    | dsimp only
    | split

theorem State.dispatch_frame {s : State} {c : Cmd} {p lim : Nat} : Same 0x620bee86000000000000000000000000000001c0001010000000c6000005000000008000000000000103d4200000dc00d70300000000 s (State.dispatch s c p lim) := by
  unfold State.dispatch
  try dsimp only
  repeat' first
    | with_reducible exact Same.refl
    | with_reducible assumption
    | with_reducible apply Same.ite
    | ((with_reducible apply Same.via State.setNow_frame); decide)
    | ((with_reducible apply Same.via State.dispatchNow_frame); decide)
    | ((with_reducible apply Same.via State.results_frame); decide)
    | with_reducible apply Same.foldl
    | with_reducible apply Same.foldl1
    | intro _ _ _
    | intro _ _
    | (fail_if_no_progress ((with_reducible apply Same.upd) <;> first | (intro hb; first | with_reducible rfl | (exfalso; revert hb; decide)) | skip))
    | dsimp only
    | split

theorem State.routeCommit_frame {s : State} {c : Cmd} {p lim : Nat} : Same 0x620bee86000000000000000000000000000001c0001010000000c6000005000000008000000000000147fce00000dc00d7c300000000 s (State.routeCommit s c p lim) := by
  unfold State.routeCommit
  try dsimp only
  repeat' first
    | with_reducible exact Same.refl
    | with_reducible assumption
    | with_reducible apply Same.ite
    | ((with_reducible apply Same.via State.readMask_frame); decide)
    | ((with_reducible apply Same.via State.setUpto_frame); decide)
    | ((with_reducible apply Same.via State.commitNow_frame); decide)
    | ((with_reducible apply Same.via State.setNow_frame); decide)
    | ((with_reducible apply Same.via State.dispatch_frame); decide)
    | with_reducible apply Same.foldl
    | with_reducible apply Same.foldl1
    | intro _ _ _
    | intro _ _
    | (fail_if_no_progress ((with_reducible apply Same.upd) <;> first | (intro hb; first | with_reducible rfl | (exfalso; revert hb; decide)) | skip))
    | dsimp only
    | split

theorem execRouteCommit_frame {c : CmdId} {s : State} {t : State} (e : execRouteCommit c s = .next t) :
    Same 0x620bee86000000000000000000000000000001c0001010000000c6000005000000008000000000000147fce00000dc00d7c300000000 s t := by
  cases e
  try dsimp only
  repeat' first
    | with_reducible exact Same.refl
    | with_reducible assumption
    | with_reducible apply Same.ite
    | ((with_reducible apply Same.via State.routeCommit_frame); decide)
    | with_reducible apply Same.foldl
    | with_reducible apply Same.foldl1
    | intro _ _ _
    | intro _ _
    | (fail_if_no_progress ((with_reducible apply Same.upd) <;> first | (intro hb; first | with_reducible rfl | (exfalso; revert hb; decide)) | skip))
    | dsimp only
    | split

end Sys2Proof.Machine
end

