-- ==== Sys2Proof/Laws/FrameCollect.lean ====
section
/-! SUPPORT. Frames of the functions of Machine/Collect.lean (Laws/Frame.lean). -/

namespace Sys2Proof.Machine

set_option linter.unreachableTactic false
set_option linter.unusedTactic false
set_option linter.unusedVariables false

theorem State.awaitRows_frame {s : State} {c : Cmd} {p base first n : Nat} : Same 0x20000000000000000000000000000000000000000000000000000000000000000000000000000000000000000000000000000000 s (State.awaitRows s c p base first n) := by
  unfold State.awaitRows
  try dsimp only
  repeat' first
    | with_reducible exact Same.refl
    | with_reducible assumption
    | with_reducible apply Same.ite
    | ((with_reducible apply Same.via State.addStream_frame); decide)
    | with_reducible apply Same.foldl
    | with_reducible apply Same.foldl1
    | intro _ _ _
    | intro _ _
    | (fail_if_no_progress ((with_reducible apply Same.upd) <;> first | (intro hb; first | with_reducible rfl | (exfalso; revert hb; decide)) | skip))
    | dsimp only
    | split

theorem State.joinWord_frame {s : State} {n p : Nat} {st : Stream} {k : Nat} {h : Shard} {w : Bytes} : Same 0x2026e80000000000000000000000000000001c0001000000000c6000000000000008000000000000000542000000000000000000000 s (State.joinWord s n p st k h w) := by
  unfold State.joinWord
  try dsimp only
  repeat' first
    | with_reducible exact Same.refl
    | with_reducible assumption
    | with_reducible apply Same.ite
    | ((with_reducible apply Same.via State.modStrm_frame); decide)
    | ((with_reducible apply Same.via State.setStream_frame); decide)
    | ((with_reducible apply Same.via State.fault_frame); decide)
    | with_reducible apply Same.foldl
    | with_reducible apply Same.foldl1
    | intro _ _ _
    | intro _ _
    | (fail_if_no_progress ((with_reducible apply Same.upd) <;> first | (intro hb; first | with_reducible rfl | (exfalso; revert hb; decide)) | skip))
    | dsimp only
    | split

theorem State.pieceWord_frame {s : State} {n p : Nat} {w : Bytes} : Same 0x2026e80000000000000000000000000000001c0001000000000c6000000000000008000000000000200542000000000000000000000 s (State.pieceWord s n p w) := by
  unfold State.pieceWord
  try dsimp only
  repeat' first
    | with_reducible exact Same.refl
    | with_reducible assumption
    | with_reducible apply Same.ite
    | ((with_reducible apply Same.via State.joinWord_frame); decide)
    | ((with_reducible apply Same.via State.setStream_frame); decide)
    | ((with_reducible apply State.inc_frame); (decide); decide)
    | ((with_reducible apply Same.via State.addStream_frame); decide)
    | with_reducible apply Same.foldl
    | with_reducible apply Same.foldl1
    | intro _ _ _
    | intro _ _
    | (fail_if_no_progress ((with_reducible apply Same.upd) <;> first | (intro hb; first | with_reducible rfl | (exfalso; revert hb; decide)) | skip))
    | dsimp only
    | split

theorem State.rowWord_frame {s : State} {n p : Nat} {head w : Bytes} : Same 0x2026e80000000000000000000000000000001c0001000000000c6000000000000008000000000000000542000000000000000000000 s (State.rowWord s n p head w) := by
  unfold State.rowWord
  try dsimp only
  repeat' first
    | with_reducible exact Same.refl
    | with_reducible assumption
    | with_reducible apply Same.ite
    | ((with_reducible apply Same.via State.joinWord_frame); decide)
    | with_reducible apply Same.foldl
    | with_reducible apply Same.foldl1
    | intro _ _ _
    | intro _ _
    | (fail_if_no_progress ((with_reducible apply Same.upd) <;> first | (intro hb; first | with_reducible rfl | (exfalso; revert hb; decide)) | skip))
    | dsimp only
    | split

theorem State.settleArrivals_frame {s : State} {c : Cmd} {p : Nat} : Same 0x24800000000000000000000000000000000000000000000046000000000000000000000000000000000000000000000000000000 s (State.settleArrivals s c p) := by
  unfold State.settleArrivals
  try dsimp only
  repeat' first
    | with_reducible exact Same.refl
    | with_reducible assumption
    | with_reducible apply Same.ite
    | ((with_reducible apply Same.via State.putShard_frame); decide)
    | ((with_reducible apply Same.via State.journalInput_frame); decide)
    | with_reducible apply Same.foldl
    | with_reducible apply Same.foldl1
    | intro _ _ _
    | intro _ _
    | (fail_if_no_progress ((with_reducible apply Same.upd) <;> first | (intro hb; first | with_reducible rfl | (exfalso; revert hb; decide)) | skip))
    | dsimp only
    | split

theorem State.closeStream_frame {s : State} {c : Cmd} {p : Nat} : Same 0x20000000000000000000000000000000000000000000000000000000000000000000000000000000000000000000000000000000 s (State.closeStream s c p) := by
  unfold State.closeStream
  try dsimp only
  repeat' first
    | with_reducible exact Same.refl
    | with_reducible assumption
    | with_reducible apply Same.ite
    | ((with_reducible apply Same.via State.modStrm_frame); decide)
    | with_reducible apply Same.foldl
    | with_reducible apply Same.foldl1
    | intro _ _ _
    | intro _ _
    | (fail_if_no_progress ((with_reducible apply Same.upd) <;> first | (intro hb; first | with_reducible rfl | (exfalso; revert hb; decide)) | skip))
    | dsimp only
    | split

theorem State.moveRows_frame {s : State} {c : Cmd} {p first n lim : Nat} : Same 0x620bee86000000000000000000000000000001c0001010000000c600000500000000800000000000010054200000dc00d70000000000 s (State.moveRows s c p first n lim).1 := by
  unfold State.moveRows
  try dsimp only
  repeat' first
    | with_reducible exact Same.refl
    | with_reducible assumption
    | with_reducible apply Same.ite
    | ((with_reducible apply Same.via State.runPlan_frame); decide)
    | ((with_reducible apply Same.via State.settleArrivals_frame); decide)
    | with_reducible apply Same.foldl
    | with_reducible apply Same.foldl1
    | intro _ _ _
    | intro _ _
    | (fail_if_no_progress ((with_reducible apply Same.upd) <;> first | (intro hb; first | with_reducible rfl | (exfalso; revert hb; decide)) | skip))
    | dsimp only
    | split

theorem State.moved_frame {s : State} {c : Cmd} {p first n : Nat} : Same 0x200022000000000000000000000000000000000000000000000000000000000000000000000000000000000000000000000000000000 s (State.moved s c p first n) := by
  unfold State.moved
  try dsimp only
  repeat' first
    | with_reducible exact Same.refl
    | with_reducible assumption
    | with_reducible apply Same.ite
    | ((with_reducible apply Same.via State.closeStream_frame); decide)
    | ((with_reducible apply Same.via State.doneLinks_frame); decide)
    | with_reducible apply Same.foldl
    | with_reducible apply Same.foldl1
    | intro _ _ _
    | intro _ _
    | (fail_if_no_progress ((with_reducible apply Same.upd) <;> first | (intro hb; first | with_reducible rfl | (exfalso; revert hb; decide)) | skip))
    | dsimp only
    | split

theorem State.runMoves_frame {s : State} {c : Cmd} {p first n lim : Nat} : Same 0x620bee86000000000000000000000000000001c0001010000000c600000500000000800000000000010054200000dc00d70000000000 s (State.runMoves s c p first n lim) := by
  unfold State.runMoves
  try dsimp only
  repeat' first
    | with_reducible exact Same.refl
    | with_reducible assumption
    | with_reducible apply Same.ite
    | ((with_reducible apply Same.via State.moveRows_frame); decide)
    | ((with_reducible apply Same.via State.moved_frame); decide)
    | with_reducible apply Same.foldl
    | with_reducible apply Same.foldl1
    | intro _ _ _
    | intro _ _
    | (fail_if_no_progress ((with_reducible apply Same.upd) <;> first | (intro hb; first | with_reducible rfl | (exfalso; revert hb; decide)) | skip))
    | dsimp only
    | split

theorem State.bcast_frame {s : State} {c : Cmd} {p lim : Nat} : Same 0x620bee86000000000000000000000000000001c0001010000000c600000500000000800000000000010054200000dc00d70000000000 s (State.bcast s c p lim) := by
  unfold State.bcast
  try dsimp only
  repeat' first
    | with_reducible exact Same.refl
    | with_reducible assumption
    | with_reducible apply Same.ite
    | ((with_reducible apply Same.via State.runMoves_frame); decide)
    | with_reducible apply Same.foldl
    | with_reducible apply Same.foldl1
    | intro _ _ _
    | intro _ _
    | (fail_if_no_progress ((with_reducible apply Same.upd) <;> first | (intro hb; first | with_reducible rfl | (exfalso; revert hb; decide)) | skip))
    | dsimp only
    | split

theorem execBcast_frame {c : CmdId} {s : State} {t : State} (e : execBcast c s = .next t) :
    Same 0x620bee86000000000000000000000000000001c0001010000000c600000500000000800000000000010054200000dc00d70000000000 s t := by
  cases e
  try dsimp only
  repeat' first
    | with_reducible exact Same.refl
    | with_reducible assumption
    | with_reducible apply Same.ite
    | ((with_reducible apply Same.via State.bcast_frame); decide)
    | with_reducible apply Same.foldl
    | with_reducible apply Same.foldl1
    | intro _ _ _
    | intro _ _
    | (fail_if_no_progress ((with_reducible apply Same.upd) <;> first | (intro hb; first | with_reducible rfl | (exfalso; revert hb; decide)) | skip))
    | dsimp only
    | split

theorem State.reduceRead_frame {s : State} {c : Cmd} {p pos row u x : Nat} : Same 0x220a6e82000000000000000000000000000001c0001010000000c6000005000000008000000000000040542000000000c00000000000 s (State.reduceRead s c p pos row u x) := by
  unfold State.reduceRead
  try dsimp only
  repeat' first
    | with_reducible exact Same.refl
    | with_reducible assumption
    | with_reducible apply Same.ite
    | ((with_reducible apply State.inc_frame); (decide); decide)
    | ((with_reducible apply Same.via State.advance_frame); decide)
    | ((with_reducible apply Same.via State.fault_frame); decide)
    | ((with_reducible apply Same.via State.noteEcc_frame); decide)
    | ((with_reducible apply Same.via State.chargeAt_frame); decide)
    | with_reducible apply Same.foldl
    | with_reducible apply Same.foldl1
    | intro _ _ _
    | intro _ _
    | (fail_if_no_progress ((with_reducible apply Same.upd) <;> first | (intro hb; first | with_reducible rfl | (exfalso; revert hb; decide)) | skip))
    | dsimp only
    | split

theorem State.reduceReads_frame {s : State} {c : Cmd} {p pos x0 lo hi j : Nat} : Same 0x220a6e82000000000000000000000000000001c0001010000000c6000005000000008000000000000040542000000000c00000000000 s (State.reduceReads s c p pos x0 lo hi j) := by
  unfold State.reduceReads
  try dsimp only
  repeat' first
    | with_reducible exact Same.refl
    | with_reducible assumption
    | with_reducible apply Same.ite
    | ((with_reducible apply Same.via State.reduceRead_frame); decide)
    | with_reducible apply Same.foldl
    | with_reducible apply Same.foldl1
    | intro _ _ _
    | intro _ _
    | (fail_if_no_progress ((with_reducible apply Same.upd) <;> first | (intro hb; first | with_reducible rfl | (exfalso; revert hb; decide)) | skip))
    | dsimp only
    | split

theorem State.reduceRow_frame {s : State} {c : Cmd} {p pos x0 j : Nat} : Same 0x22026e82000000000000000000000000000001c0001000000000c6000000000000008000000000000038542000000000070000000000 s (State.reduceRow s c p pos x0 j) := by
  unfold State.reduceRow
  try dsimp only
  repeat' first
    | with_reducible exact Same.refl
    | with_reducible assumption
    | with_reducible apply Same.ite
    | ((with_reducible apply State.inc_frame); (decide); decide)
    | ((with_reducible apply Same.via State.writeS_frame); decide)
    | ((with_reducible apply Same.via State.advance_frame); decide)
    | ((with_reducible apply Same.via State.fault_frame); decide)
    | with_reducible apply Same.foldl
    | with_reducible apply Same.foldl1
    | intro _ _ _
    | intro _ _
    | (fail_if_no_progress ((with_reducible apply Same.upd) <;> first | (intro hb; first | with_reducible rfl | (exfalso; revert hb; decide)) | skip))
    | dsimp only
    | split

theorem State.reduceRows_frame {s : State} {c : Cmd} {p pos x0 lo hi : Nat} : Same 0x220a6e82000000000000000000000000000001c0001010000000c6000005000000008000000000000078542000000000c70000000000 s (State.reduceRows s c p pos x0 lo hi) := by
  unfold State.reduceRows
  try dsimp only
  repeat' first
    | with_reducible exact Same.refl
    | with_reducible assumption
    | with_reducible apply Same.ite
    | ((with_reducible apply Same.via State.reduceReads_frame); decide)
    | ((with_reducible apply Same.via State.reduceRow_frame); decide)
    | with_reducible apply Same.foldl
    | with_reducible apply Same.foldl1
    | intro _ _ _
    | intro _ _
    | (fail_if_no_progress ((with_reducible apply Same.upd) <;> first | (intro hb; first | with_reducible rfl | (exfalso; revert hb; decide)) | skip))
    | dsimp only
    | split

theorem State.reducePhase_frame {s : State} {c : Cmd} {p pos lim : Nat} : Same 0x220a6e82000000000000000000000000000001c0001010000000c6000005000000008000000000000078542000000000c70000000000 s (State.reducePhase s c p pos lim) := by
  unfold State.reducePhase
  try dsimp only
  repeat' first
    | with_reducible exact Same.refl
    | with_reducible assumption
    | with_reducible apply Same.ite
    | ((with_reducible apply Same.via State.reduceRows_frame); decide)
    | ((with_reducible apply Same.via State.modCore_frame); decide)
    | ((with_reducible apply Same.via State.setCmd_frame); decide)
    | with_reducible apply Same.foldl
    | with_reducible apply Same.foldl1
    | intro _ _ _
    | intro _ _
    | (fail_if_no_progress ((with_reducible apply Same.upd) <;> first | (intro hb; first | with_reducible rfl | (exfalso; revert hb; decide)) | skip))
    | dsimp only
    | split

theorem State.reduceDone_frame {s : State} {c : Cmd} {p pos : Nat} : Same 0x200022000000000000000000000000000000000000000000000000000000000000000000000000000000000000000000000000000000 s (State.reduceDone s c p pos) := by
  unfold State.reduceDone
  try dsimp only
  repeat' first
    | with_reducible exact Same.refl
    | with_reducible assumption
    | with_reducible apply Same.ite
    | ((with_reducible apply Same.via State.closeStream_frame); decide)
    | ((with_reducible apply Same.via State.doneLinks_frame); decide)
    | ((with_reducible apply Same.via State.done_frame); decide)
    | with_reducible apply Same.foldl
    | with_reducible apply Same.foldl1
    | intro _ _ _
    | intro _ _
    | (fail_if_no_progress ((with_reducible apply Same.upd) <;> first | (intro hb; first | with_reducible rfl | (exfalso; revert hb; decide)) | skip))
    | dsimp only
    | split

theorem State.reduce1_frame {s : State} {c : Cmd} {p lim : Nat} : Same 0x620bee86000000000000000000000000000001c0001010000000c600000500000000800000000000017854200000dc00d70000000000 s (State.reduce1 s c p lim) := by
  unfold State.reduce1
  try dsimp only
  repeat' first
    | with_reducible exact Same.refl
    | with_reducible assumption
    | with_reducible apply Same.ite
    | ((with_reducible apply Same.via State.runMoves_frame); decide)
    | ((with_reducible apply Same.via State.moveRows_frame); decide)
    | ((with_reducible apply Same.via State.reducePhase_frame); decide)
    | ((with_reducible apply Same.via State.reduceDone_frame); decide)
    | with_reducible apply Same.foldl
    | with_reducible apply Same.foldl1
    | intro _ _ _
    | intro _ _
    | (fail_if_no_progress ((with_reducible apply Same.upd) <;> first | (intro hb; first | with_reducible rfl | (exfalso; revert hb; decide)) | skip))
    | dsimp only
    | split

theorem execReduce1_frame {c : CmdId} {s : State} {t : State} (e : execReduce1 c s = .next t) :
    Same 0x620bee86000000000000000000000000000001c0001010000000c600000500000000800000000000017854200000dc00d70000000000 s t := by
  cases e
  try dsimp only
  repeat' first
    | with_reducible exact Same.refl
    | with_reducible assumption
    | with_reducible apply Same.ite
    | ((with_reducible apply Same.via State.reduce1_frame); decide)
    | with_reducible apply Same.foldl
    | with_reducible apply Same.foldl1
    | intro _ _ _
    | intro _ _
    | (fail_if_no_progress ((with_reducible apply Same.upd) <;> first | (intro hb; first | with_reducible rfl | (exfalso; revert hb; decide)) | skip))
    | dsimp only
    | split

theorem State.advanceRows_frame {s : State} {c : Cmd} {p : Nat} : Same 0x620bee86000000000000000000000000000001c0001010000000c600000500000000800000000000017854200000dc00d70000000000 s (State.advanceRows s c p) := by
  unfold State.advanceRows
  try dsimp only
  repeat' first
    | with_reducible exact Same.refl
    | with_reducible assumption
    | with_reducible apply Same.ite
    | ((with_reducible apply Same.via State.bcast_frame); decide)
    | ((with_reducible apply Same.via State.reduce1_frame); decide)
    | ((with_reducible apply Same.via State.runMoves_frame); decide)
    | with_reducible apply Same.foldl
    | with_reducible apply Same.foldl1
    | intro _ _ _
    | intro _ _
    | (fail_if_no_progress ((with_reducible apply Same.upd) <;> first | (intro hb; first | with_reducible rfl | (exfalso; revert hb; decide)) | skip))
    | dsimp only
    | split

theorem State.resume_frame {s : State} {c : Cmd} {p : Nat} : Same 0x620bee86000000000000000000000000000001c0001010000000c600000500000000800000000000017854200000dc00d70000000000 s (State.resume s c p) := by
  unfold State.resume
  try dsimp only
  repeat' first
    | with_reducible exact Same.refl
    | with_reducible assumption
    | with_reducible apply Same.ite
    | ((with_reducible apply Same.via State.advanceRows_frame); decide)
    | with_reducible apply Same.foldl
    | with_reducible apply Same.foldl1
    | intro _ _ _
    | intro _ _
    | (fail_if_no_progress ((with_reducible apply Same.upd) <;> first | (intro hb; first | with_reducible rfl | (exfalso; revert hb; decide)) | skip))
    | dsimp only
    | split

theorem State.takeRows_frame {mm : Nat} {rr s : State} {n p : Nat} {w : WslFrame} {f : State → Bytes → State}
    (hm0 : 0x620bee86000000000000000000000000000001c0001010000000c600000500000000800000000000017854200000dc00d70000000000 ||| mm = mm) (hf : ∀ s x, Same mm rr s → Same mm rr (f s x)) (h : Same mm rr s) :
    Same mm rr (State.takeRows s n p w f) := by
  unfold State.takeRows
  exact Same.foldl (fun _ _ k => Same.via State.resume_frame (or_sub (by decide) hm0) k) _ (Same.foldl hf _ h)

theorem State.dataFrame_frame {mm : Nat} {rr s : State} {n : Nat} {w : WslFrame} {cls type : Nat} {f : Nat → State → State}
    (hm0 : 0x2020000000000000000000000000000000001c000000000000000000000000000000000000078000000000000000000000000000000 ||| mm = mm) (hf : ∀ p s, Same mm rr s → Same mm rr (f p s)) (h : Same mm rr s) :
    Same mm rr (State.dataFrame s n w cls type f) := by
  have k : Same mm rr (State.linkCheck s n w).2 := Same.via State.linkCheck_frame (or_sub (by decide) hm0) h
  unfold State.dataFrame
  dsimp only
  split
  · exact h
  · split
    · exact k
    · exact hf _ _ k

theorem execCollectivePiece_frame {n : Fin 64} {w : WslFrame} {s : State} {t : State} (e : execCollectivePiece n w s = .next t) :
    Same 0x620bee86000000000000000000000000000001c0001010000000c600000500000000800000007800037854200000dc00d70000000000 s t := by
  cases e
  try dsimp only
  repeat' first
    | with_reducible exact Same.refl
    | with_reducible assumption
    | with_reducible apply Same.ite
    | ((with_reducible apply State.dataFrame_frame); decide)
    | ((with_reducible apply State.takeRows_frame); decide)
    | ((with_reducible apply Same.via State.pieceWord_frame); decide)
    | with_reducible apply Same.foldl
    | with_reducible apply Same.foldl1
    | intro _ _ _
    | intro _ _
    | (fail_if_no_progress ((with_reducible apply Same.upd) <;> first | (intro hb; first | with_reducible rfl | (exfalso; revert hb; decide)) | skip))
    | dsimp only
    | split

theorem execActivationRows_frame {n : Fin 64} {w : WslFrame} {s : State} {t : State} (e : execActivationRows n w s = .next t) :
    Same 0x620bee86000000000000000000000000000001c0001010000000c600000500000000800000007800017854200000dc00d70000000000 s t := by
  cases e
  try dsimp only
  repeat' first
    | with_reducible exact Same.refl
    | with_reducible assumption
    | with_reducible apply Same.ite
    | ((with_reducible apply State.dataFrame_frame); decide)
    | ((with_reducible apply State.takeRows_frame); decide)
    | ((with_reducible apply Same.via State.rowWord_frame); decide)
    | with_reducible apply Same.foldl
    | with_reducible apply Same.foldl1
    | intro _ _ _
    | intro _ _
    | (fail_if_no_progress ((with_reducible apply Same.upd) <;> first | (intro hb; first | with_reducible rfl | (exfalso; revert hb; decide)) | skip))
    | dsimp only
    | split

theorem execBulkRows_frame {n : Fin 64} {w : WslFrame} {s : State} {t : State} (e : execBulkRows n w s = .next t) :
    Same 0x620bee86000000000000000000000000000001c0001010000000c600000500000000800000007800017854200000dc00d70000000000 s t := by
  cases e
  try dsimp only
  repeat' first
    | with_reducible exact Same.refl
    | with_reducible assumption
    | with_reducible apply Same.ite
    | ((with_reducible apply State.dataFrame_frame); decide)
    | ((with_reducible apply State.takeRows_frame); decide)
    | ((with_reducible apply Same.via State.rowWord_frame); decide)
    | with_reducible apply Same.foldl
    | with_reducible apply Same.foldl1
    | intro _ _ _
    | intro _ _
    | (fail_if_no_progress ((with_reducible apply Same.upd) <;> first | (intro hb; first | with_reducible rfl | (exfalso; revert hb; decide)) | skip))
    | dsimp only
    | split

theorem State.copyCycle_frame {s : State} {c : Cmd} {p lc x0 k : Nat} : Same 0x220a6e82000000000000000000000000000001c0001010000000c6000005000000008000000000000000542000000000c70000000000 s (State.copyCycle s c p lc x0 k) := by
  unfold State.copyCycle
  try dsimp only
  repeat' first
    | with_reducible exact Same.refl
    | with_reducible assumption
    | with_reducible apply Same.ite
    | ((with_reducible apply Same.via State.readRow_frame); decide)
    | ((with_reducible apply Same.via State.writeS_frame); decide)
    | with_reducible apply Same.foldl
    | with_reducible apply Same.foldl1
    | intro _ _ _
    | intro _ _
    | (fail_if_no_progress ((with_reducible apply Same.upd) <;> first | (intro hb; first | with_reducible rfl | (exfalso; revert hb; decide)) | skip))
    | dsimp only
    | split

theorem State.moveLocal_frame {s : State} {c : Cmd} {p lim : Nat} : Same 0x220a6e82000000000000000000000000000001c0001010000000c6000005000000008000000000000000542000000000c70000000000 s (State.moveLocal s c p lim) := by
  unfold State.moveLocal
  try dsimp only
  repeat' first
    | with_reducible exact Same.refl
    | with_reducible assumption
    | with_reducible apply Same.ite
    | ((with_reducible apply Same.via State.copyCycle_frame); decide)
    | ((with_reducible apply Same.via State.setUpto_frame); decide)
    | ((with_reducible apply Same.via State.done_frame); decide)
    | with_reducible apply Same.foldl
    | with_reducible apply Same.foldl1
    | intro _ _ _
    | intro _ _
    | (fail_if_no_progress ((with_reducible apply Same.upd) <;> first | (intro hb; first | with_reducible rfl | (exfalso; revert hb; decide)) | skip))
    | dsimp only
    | split

theorem State.move_frame {s : State} {c : Cmd} {p lim : Nat} : Same 0x620bee86000000000000000000000000000001c0001010000000c600000500000000800000000000010054200000dc00d70000000000 s (State.move s c p lim) := by
  unfold State.move
  try dsimp only
  repeat' first
    | with_reducible exact Same.refl
    | with_reducible assumption
    | with_reducible apply Same.ite
    | ((with_reducible apply Same.via State.moveLocal_frame); decide)
    | ((with_reducible apply Same.via State.runMoves_frame); decide)
    | with_reducible apply Same.foldl
    | with_reducible apply Same.foldl1
    | intro _ _ _
    | intro _ _
    | (fail_if_no_progress ((with_reducible apply Same.upd) <;> first | (intro hb; first | with_reducible rfl | (exfalso; revert hb; decide)) | skip))
    | dsimp only
    | split

theorem execMove_frame {c : CmdId} {s : State} {t : State} (e : execMove c s = .next t) :
    Same 0x620bee86000000000000000000000000000001c0001010000000c600000500000000800000000000010054200000dc00d70000000000 s t := by
  cases e
  try dsimp only
  repeat' first
    | with_reducible exact Same.refl
    | with_reducible assumption
    | with_reducible apply Same.ite
    | ((with_reducible apply Same.via State.move_frame); decide)
    | with_reducible apply Same.foldl
    | with_reducible apply Same.foldl1
    | intro _ _ _
    | intro _ _
    | (fail_if_no_progress ((with_reducible apply Same.upd) <;> first | (intro hb; first | with_reducible rfl | (exfalso; revert hb; decide)) | skip))
    | dsimp only
    | split

theorem State.arm_frame {s : State} {p : Nat} {q : CollP} : Same 0x40000000000000000000000000000000000000000000000000000000000000000000000000000000000000000000000000000000 s (State.arm s p q) := by
  unfold State.arm
  try dsimp only
  repeat' first
    | with_reducible exact Same.refl
    | with_reducible assumption
    | with_reducible apply Same.ite
    | ((with_reducible apply Same.via State.modLcore_frame); decide)
    | with_reducible apply Same.foldl
    | with_reducible apply Same.foldl1
    | intro _ _ _
    | intro _ _
    | (fail_if_no_progress ((with_reducible apply Same.upd) <;> first | (intro hb; first | with_reducible rfl | (exfalso; revert hb; decide)) | skip))
    | dsimp only
    | split

theorem State.rowAbsent_frame {s : State} {c : Cmd} {p k row : Nat} : Same 0x22026e80000000000000000000000000000001c0001000000000c6000000000000008000000000000000542000000000000000000000 s (State.rowAbsent s c p k row) := by
  unfold State.rowAbsent
  try dsimp only
  repeat' first
    | with_reducible exact Same.refl
    | with_reducible assumption
    | with_reducible apply Same.ite
    | ((with_reducible apply Same.via State.mark_frame); decide)
    | ((with_reducible apply Same.via State.fault_frame); decide)
    | with_reducible apply Same.foldl
    | with_reducible apply Same.foldl1
    | intro _ _ _
    | intro _ _
    | (fail_if_no_progress ((with_reducible apply Same.upd) <;> first | (intro hb; first | with_reducible rfl | (exfalso; revert hb; decide)) | skip))
    | dsimp only
    | split

theorem execRowAbsent_frame {c : CmdId} {k row : Nat} {s : State} {t : State} (e : execRowAbsent c k row s = .next t) :
    Same 0x22026e80000000000000000000000000000001c0001000000000c6000000000000008000000000000000542000000000000000000000 s t := by
  cases e
  try dsimp only
  repeat' first
    | with_reducible exact Same.refl
    | with_reducible assumption
    | with_reducible apply Same.ite
    | ((with_reducible apply Same.via State.rowAbsent_frame); decide)
    | with_reducible apply Same.foldl
    | with_reducible apply Same.foldl1
    | intro _ _ _
    | intro _ _
    | (fail_if_no_progress ((with_reducible apply Same.upd) <;> first | (intro hb; first | with_reducible rfl | (exfalso; revert hb; decide)) | skip))
    | dsimp only
    | split

end Sys2Proof.Machine
end

