-- ==== Sys2Proof/Laws/FrameJctl.lean ====
section
/-! SUPPORT. Frames of the functions of Machine/Jctl.lean (Laws/Frame.lean). -/

namespace Sys2Proof.Machine

set_option linter.unreachableTactic false
set_option linter.unusedTactic false
set_option linter.unusedVariables false

theorem execJournalEnable_frame {c : CmdId} {s : State} {t : State} (e : execJournalEnable c s = .next t) :
    Same 0x300026800000000000000000000000000000000000000000000046000000000000000000000000000000000000000000000000000000 s t := by
  cases e
  try dsimp only
  repeat' first
    | with_reducible exact Same.refl
    | with_reducible assumption
    | with_reducible apply Same.ite
    | ((with_reducible apply Same.via State.journal_frame); decide)
    | ((with_reducible apply Same.via State.atNextEdge_frame); decide)
    | ((with_reducible apply Same.via State.done_frame); decide)
    | with_reducible apply Same.foldl
    | with_reducible apply Same.foldl1
    | intro _ _ _
    | intro _ _
    | (fail_if_no_progress ((with_reducible apply Same.upd) <;> first | (intro hb; first | with_reducible rfl | (exfalso; revert hb; decide)) | skip))
    | dsimp only
    | split

theorem execJournalDisable_frame {c : CmdId} {s : State} {t : State} (e : execJournalDisable c s = .next t) :
    Same 0x300002000000000000000000000000000000000000000000000000000000000000000000000000000000000000000000000000000000 s t := by
  cases e
  try dsimp only
  repeat' first
    | with_reducible exact Same.refl
    | with_reducible assumption
    | with_reducible apply Same.ite
    | ((with_reducible apply Same.via State.atNextEdge_frame); decide)
    | ((with_reducible apply Same.via State.done_frame); decide)
    | with_reducible apply Same.foldl
    | with_reducible apply Same.foldl1
    | intro _ _ _
    | intro _ _
    | (fail_if_no_progress ((with_reducible apply Same.upd) <;> first | (intro hb; first | with_reducible rfl | (exfalso; revert hb; decide)) | skip))
    | dsimp only
    | split

theorem execMark_frame {c : CmdId} {s : State} {t : State} (e : execMark c s = .next t) :
    Same 0x200002000000000000000000000000000000000000000000000000000000000000000000000000000000000000000000000000000000 s t := by
  cases e
  try dsimp only
  repeat' first
    | with_reducible exact Same.refl
    | with_reducible assumption
    | with_reducible apply Same.ite
    | ((with_reducible apply Same.via State.done_frame); decide)
    | with_reducible apply Same.foldl
    | with_reducible apply Same.foldl1
    | intro _ _ _
    | intro _ _
    | (fail_if_no_progress ((with_reducible apply Same.upd) <;> first | (intro hb; first | with_reducible rfl | (exfalso; revert hb; decide)) | skip))
    | dsimp only
    | split

theorem State.tapCycle_frame {s : State} {c : Cmd} {p x0 i : Nat} : Same 0x220a6e82000000000000000000000000000001c0001010000000c6000005000000008000000000000000542000000000c00000000000 s (State.tapCycle s c p x0 i) := by
  unfold State.tapCycle
  try dsimp only
  repeat' first
    | with_reducible exact Same.refl
    | with_reducible assumption
    | with_reducible apply Same.ite
    | ((with_reducible apply Same.via State.readRow_frame); decide)
    | ((with_reducible apply Same.via State.journal_frame); decide)
    | with_reducible apply Same.foldl
    | with_reducible apply Same.foldl1
    | intro _ _ _
    | intro _ _
    | (fail_if_no_progress ((with_reducible apply Same.upd) <;> first | (intro hb; first | with_reducible rfl | (exfalso; revert hb; decide)) | skip))
    | dsimp only
    | split

theorem State.tap_frame {s : State} {c : Cmd} {p lim : Nat} : Same 0x220a6e82000000000000000000000000000001c0001010000000c6000005000000008000000000000000542000000000c00000000000 s (State.tap s c p lim) := by
  unfold State.tap
  try dsimp only
  repeat' first
    | with_reducible exact Same.refl
    | with_reducible assumption
    | with_reducible apply Same.ite
    | ((with_reducible apply Same.via State.journal_frame); decide)
    | ((with_reducible apply Same.via State.tapCycle_frame); decide)
    | ((with_reducible apply Same.via State.setUpto_frame); decide)
    | ((with_reducible apply Same.via State.modPart_frame); decide)
    | ((with_reducible apply Same.via State.done_frame); decide)
    | with_reducible apply Same.foldl
    | with_reducible apply Same.foldl1
    | intro _ _ _
    | intro _ _
    | (fail_if_no_progress ((with_reducible apply Same.upd) <;> first | (intro hb; first | with_reducible rfl | (exfalso; revert hb; decide)) | skip))
    | dsimp only
    | split

theorem execTap_frame {c : CmdId} {s : State} {t : State} (e : execTap c s = .next t) :
    Same 0x220a6e82000000000000000000000000000001c0001010000000c6000005000000008000000000000000542000000000c00000000000 s t := by
  cases e
  try dsimp only
  repeat' first
    | with_reducible exact Same.refl
    | with_reducible assumption
    | with_reducible apply Same.ite
    | ((with_reducible apply Same.via State.tap_frame); decide)
    | with_reducible apply Same.foldl
    | with_reducible apply Same.foldl1
    | intro _ _ _
    | intro _ _
    | (fail_if_no_progress ((with_reducible apply Same.upd) <;> first | (intro hb; first | with_reducible rfl | (exfalso; revert hb; decide)) | skip))
    | dsimp only
    | split

end Sys2Proof.Machine
end

