-- ==== Sys2Proof/Laws/FrameTasks.lean ====
section
/-! SUPPORT. Frames of the functions of Machine/Tasks.lean (Laws/Frame.lean). -/

namespace Sys2Proof.Machine

set_option linter.unreachableTactic false
set_option linter.unusedTactic false
set_option linter.unusedVariables false

theorem State.fixAnchor_frame {s : State} {p : Nat} {t : Task} : Same 0x20000000000000000000000000000000000000000000000000000000000000008000000000000000000000000000000000000000 s (State.fixAnchor s p t) := by
  unfold State.fixAnchor
  try dsimp only
  repeat' first
    | with_reducible exact Same.refl
    | with_reducible assumption
    | with_reducible apply Same.ite
    | ((with_reducible apply Same.via State.modRun_frame); decide)
    | ((with_reducible apply Same.via State.showTask_frame); decide)
    | with_reducible apply Same.foldl
    | with_reducible apply Same.foldl1
    | intro _ _ _
    | intro _ _
    | (fail_if_no_progress ((with_reducible apply Same.upd) <;> first | (intro hb; first | with_reducible rfl | (exfalso; revert hb; decide)) | skip))
    | dsimp only
    | split

theorem execTaskFetched_frame {p : Fin 16} {s : State} {t : State} (e : execTaskFetched p s = .next t) :
    Same 0x20000000000000000000000000000000000000000000000000000000000000008000000000000000000000000000000000000000 s t := by
  cases e
  try dsimp only
  repeat' first
    | with_reducible exact Same.refl
    | with_reducible assumption
    | with_reducible apply Same.ite
    | ((with_reducible apply Same.via State.fixAnchor_frame); decide)
    | with_reducible apply Same.foldl
    | with_reducible apply Same.foldl1
    | intro _ _ _
    | intro _ _
    | (fail_if_no_progress ((with_reducible apply Same.upd) <;> first | (intro hb; first | with_reducible rfl | (exfalso; revert hb; decide)) | skip))
    | dsimp only
    | split

theorem State.startTask_frame {s : State} {p : Nat} {t : Task} : Same 0x20000000000000000000000000000000000000000000000080000000000000000000000000000000000000000000060200000000 s (State.startTask s p t) := by
  unfold State.startTask
  try dsimp only
  repeat' first
    | with_reducible exact Same.refl
    | with_reducible assumption
    | with_reducible apply Same.ite
    | ((with_reducible apply State.put_frame); decide)
    | ((with_reducible apply Same.via State.modRun_frame); decide)
    | with_reducible apply Same.foldl
    | with_reducible apply Same.foldl1
    | intro _ _ _
    | intro _ _
    | (fail_if_no_progress ((with_reducible apply Same.upd) <;> first | (intro hb; first | with_reducible rfl | (exfalso; revert hb; decide)) | skip))
    | dsimp only
    | split

theorem State.taskHeader_frame {s : State} {p : Nat} {t : Task} {c : Cmd} : Same 0x2026680000000000000000000000000000001c0001000000000c6000000000000008000000000000000000000000000060200000000 s (State.taskHeader s p t c) := by
  unfold State.taskHeader
  try dsimp only
  repeat' first
    | with_reducible exact Same.refl
    | with_reducible assumption
    | with_reducible apply Same.ite
    | ((with_reducible apply Same.via State.journalTaskBegin_frame); decide)
    | ((with_reducible apply Same.via State.refuse_frame); decide)
    | ((with_reducible apply Same.via State.startTask_frame); decide)
    | ((with_reducible apply Same.via State.setCmd_frame); decide)
    | with_reducible apply Same.foldl
    | with_reducible apply Same.foldl1
    | intro _ _ _
    | intro _ _
    | (fail_if_no_progress ((with_reducible apply Same.upd) <;> first | (intro hb; first | with_reducible rfl | (exfalso; revert hb; decide)) | skip))
    | dsimp only
    | split

theorem execTaskHeader_frame {p : Fin 16} {s : State} {t : State} (e : execTaskHeader p s = .next t) :
    Same 0x2026680000000000000000000000000000001c0001000000000c6000000000000008000000000000000000000000000060200000000 s t := by
  cases e
  try dsimp only
  repeat' first
    | with_reducible exact Same.refl
    | with_reducible assumption
    | with_reducible apply Same.ite
    | ((with_reducible apply Same.via State.taskHeader_frame); decide)
    | with_reducible apply Same.foldl
    | with_reducible apply Same.foldl1
    | intro _ _ _
    | intro _ _
    | (fail_if_no_progress ((with_reducible apply Same.upd) <;> first | (intro hb; first | with_reducible rfl | (exfalso; revert hb; decide)) | skip))
    | dsimp only
    | split

theorem State.showPaths_frame {s : State} {c : Cmd} {p : Nat} : Same 0x3c00000000 s (State.showPaths s c p) := by
  unfold State.showPaths
  try dsimp only
  repeat' first
    | with_reducible exact Same.refl
    | with_reducible assumption
    | with_reducible apply Same.ite
    | ((with_reducible apply State.put_frame); decide)
    | with_reducible apply Same.foldl
    | with_reducible apply Same.foldl1
    | intro _ _ _
    | intro _ _
    | (fail_if_no_progress ((with_reducible apply Same.upd) <;> first | (intro hb; first | with_reducible rfl | (exfalso; revert hb; decide)) | skip))
    | dsimp only
    | split

theorem State.noteHeader_frame {s : State} {c : Cmd} : Same 0x20000000000000000000000000000000000000000000000000000000000000000000000000000000000000000000000000000000 s (State.noteHeader s c) := by
  unfold State.noteHeader
  try dsimp only
  repeat' first
    | with_reducible exact Same.refl
    | with_reducible assumption
    | with_reducible apply Same.ite
    | ((with_reducible apply Same.via State.modRun_frame); decide)
    | with_reducible apply Same.foldl
    | with_reducible apply Same.foldl1
    | intro _ _ _
    | intro _ _
    | (fail_if_no_progress ((with_reducible apply Same.upd) <;> first | (intro hb; first | with_reducible rfl | (exfalso; revert hb; decide)) | skip))
    | dsimp only
    | split

theorem State.writeTaps_frame {s : State} {c : Cmd} {p : Nat} : Same 0x24800000000000000000000000000000000000000000000046000000000000000000000000000000000000000000000000000000 s (State.writeTaps s c p) := by
  unfold State.writeTaps
  try dsimp only
  repeat' first
    | with_reducible exact Same.refl
    | with_reducible assumption
    | with_reducible apply Same.ite
    | ((with_reducible apply Same.via State.journal_frame); decide)
    | ((with_reducible apply Same.via State.modPart_frame); decide)
    | ((with_reducible apply Same.via State.journalTap_frame); decide)
    | with_reducible apply Same.foldl
    | with_reducible apply Same.foldl1
    | intro _ _ _
    | intro _ _
    | (fail_if_no_progress ((with_reducible apply Same.upd) <;> first | (intro hb; first | with_reducible rfl | (exfalso; revert hb; decide)) | skip))
    | dsimp only
    | split

theorem State.barrier_frame {s : State} {c : Cmd} {p : Nat} : Same 0x200002000000000000000000000000000000000000000000000000000000000000000000000000000000000000000000000000000000 s (State.barrier s c p) := by
  unfold State.barrier
  try dsimp only
  repeat' first
    | with_reducible exact Same.refl
    | with_reducible assumption
    | with_reducible apply Same.ite
    | ((with_reducible apply Same.via State.done_frame); decide)
    | with_reducible apply Same.foldl
    | with_reducible apply Same.foldl1
    | intro _ _ _
    | intro _ _
    | (fail_if_no_progress ((with_reducible apply Same.upd) <;> first | (intro hb; first | with_reducible rfl | (exfalso; revert hb; decide)) | skip))
    | dsimp only
    | split

theorem State.stepTo_frame {s : State} {c : Cmd} {p lim : Nat} : Same 0x620bee86000000000000000000000000000001c0001010000000c600000500000000800000000000017ffce00000dc00d7c300000000 s (State.stepTo s c p lim) := by
  unfold State.stepTo
  try dsimp only
  repeat' first
    | with_reducible exact Same.refl
    | with_reducible assumption
    | with_reducible apply Same.ite
    | ((with_reducible apply Same.via State.ownWide_frame); decide)
    | ((with_reducible apply Same.via State.wmatmul_frame); decide)
    | ((with_reducible apply Same.via State.wmatmulSpec_frame); decide)
    | ((with_reducible apply Same.via State.wvector_frame); decide)
    | ((with_reducible apply Same.via State.wconv_frame); decide)
    | ((with_reducible apply Same.via State.wsample_frame); decide)
    | ((with_reducible apply Same.via State.streamStep_frame); decide)
    | ((with_reducible apply Same.via State.routeCommit_frame); decide)
    | ((with_reducible apply Same.via State.resideStep_frame); decide)
    | ((with_reducible apply Same.via State.writeback_frame); decide)
    | ((with_reducible apply Same.via State.bcast_frame); decide)
    | ((with_reducible apply Same.via State.reduce1_frame); decide)
    | ((with_reducible apply Same.via State.move_frame); decide)
    | ((with_reducible apply Same.via State.journal_frame); decide)
    | ((with_reducible apply Same.via State.tap_frame); decide)
    | ((with_reducible apply Same.via State.barrier_frame); decide)
    | with_reducible apply Same.foldl
    | with_reducible apply Same.foldl1
    | intro _ _ _
    | intro _ _
    | (fail_if_no_progress ((with_reducible apply Same.upd) <;> first | (intro hb; first | with_reducible rfl | (exfalso; revert hb; decide)) | skip))
    | dsimp only
    | split

theorem State.roundTo_frame {s : State} {p lim : Nat} : Same 0x620bee86000000000000000000000000000001c0001010000000c600000500000000800000000000017ffce00000dc00d7c300000000 s (State.roundTo s p lim) := by
  unfold State.roundTo
  try dsimp only
  repeat' first
    | with_reducible exact Same.refl
    | with_reducible assumption
    | with_reducible apply Same.ite
    | ((with_reducible apply Same.via State.stepTo_frame); decide)
    | with_reducible apply Same.foldl
    | with_reducible apply Same.foldl1
    | intro _ _ _
    | intro _ _
    | (fail_if_no_progress ((with_reducible apply Same.upd) <;> first | (intro hb; first | with_reducible rfl | (exfalso; revert hb; decide)) | skip))
    | dsimp only
    | split

theorem State.runAll_frame {s : State} {p lim : Nat} {vx : Nat} : Same 0x620bee86000000000000000000000000000001c0001010000000c600000500000000800000000000017ffce00000dc00d7c300000000 s (State.runAll s p lim vx) := by
  induction vx generalizing s p lim with
  | zero =>
    unfold State.runAll
    try dsimp only
    repeat' first
      | with_reducible exact Same.refl
      | with_reducible assumption
      | with_reducible apply Same.ite
      | ((with_reducible apply Same.via State.roundTo_frame); decide)
      | with_reducible apply Same.foldl
      | with_reducible apply Same.foldl1
      | intro _ _ _
      | intro _ _
      | (fail_if_no_progress ((with_reducible apply Same.upd) <;> first | (intro hb; first | with_reducible rfl | (exfalso; revert hb; decide)) | skip))
      | dsimp only
      | split
  | succ k2 ih =>
    unfold State.runAll
    try dsimp only
    repeat' first
      | ((with_reducible apply Same.via ih); decide)
      | with_reducible exact Same.refl
      | with_reducible assumption
      | with_reducible apply Same.ite
      | ((with_reducible apply Same.via State.roundTo_frame); decide)
      | with_reducible apply Same.foldl
      | with_reducible apply Same.foldl1
      | intro _ _ _
      | intro _ _
      | (fail_if_no_progress ((with_reducible apply Same.upd) <;> first | (intro hb; first | with_reducible rfl | (exfalso; revert hb; decide)) | skip))
      | dsimp only
      | split

theorem State.meetFault_frame {s : State} {c : Cmd} : Same 0x22026680000000000000000000000000000001c0001000000000c6000000000000008000000000000000000000000000000000000000 s (State.meetFault s c) := by
  unfold State.meetFault
  try dsimp only
  repeat' first
    | with_reducible exact Same.refl
    | with_reducible assumption
    | with_reducible apply Same.ite
    | ((with_reducible apply Same.via State.mark_frame); decide)
    | ((with_reducible apply Same.via State.abort_frame); decide)
    | with_reducible apply Same.foldl
    | with_reducible apply Same.foldl1
    | intro _ _ _
    | intro _ _
    | (fail_if_no_progress ((with_reducible apply Same.upd) <;> first | (intro hb; first | with_reducible rfl | (exfalso; revert hb; decide)) | skip))
    | dsimp only
    | split

theorem State.catchUpN_frame {s : State} {p lim : Nat} {vx : Nat} : Same 0x620bee86000000000000000000000000000001c0001010000000c600000500000000800000000000017ffce00000dc00d7c300000000 s (State.catchUpN s p lim vx) := by
  induction vx generalizing s p lim with
  | zero =>
    unfold State.catchUpN
    try dsimp only
    repeat' first
      | with_reducible exact Same.refl
      | with_reducible assumption
      | with_reducible apply Same.ite
      | ((with_reducible apply Same.via State.runAll_frame); decide)
      | ((with_reducible apply Same.via State.advance_frame); decide)
      | ((with_reducible apply Same.via State.meetFault_frame); decide)
      | with_reducible apply Same.foldl
      | with_reducible apply Same.foldl1
      | intro _ _ _
      | intro _ _
      | (fail_if_no_progress ((with_reducible apply Same.upd) <;> first | (intro hb; first | with_reducible rfl | (exfalso; revert hb; decide)) | skip))
      | dsimp only
      | split
  | succ k2 ih =>
    unfold State.catchUpN
    try dsimp only
    repeat' first
      | ((with_reducible apply Same.via ih); decide)
      | with_reducible exact Same.refl
      | with_reducible assumption
      | with_reducible apply Same.ite
      | ((with_reducible apply Same.via State.runAll_frame); decide)
      | ((with_reducible apply Same.via State.advance_frame); decide)
      | ((with_reducible apply Same.via State.meetFault_frame); decide)
      | with_reducible apply Same.foldl
      | with_reducible apply Same.foldl1
      | intro _ _ _
      | intro _ _
      | (fail_if_no_progress ((with_reducible apply Same.upd) <;> first | (intro hb; first | with_reducible rfl | (exfalso; revert hb; decide)) | skip))
      | dsimp only
      | split

theorem State.catchUp_frame {s : State} {p lim : Nat} : Same 0x620bee86000000000000000000000000000001c0001010000000c600000500000000800000000000017ffce00000dc00d7c300000000 s (State.catchUp s p lim) := by
  unfold State.catchUp
  try dsimp only
  repeat' first
    | with_reducible exact Same.refl
    | with_reducible assumption
    | with_reducible apply Same.ite
    | ((with_reducible apply Same.via State.catchUpN_frame); decide)
    | with_reducible apply Same.foldl
    | with_reducible apply Same.foldl1
    | intro _ _ _
    | intro _ _
    | (fail_if_no_progress ((with_reducible apply Same.upd) <;> first | (intro hb; first | with_reducible rfl | (exfalso; revert hb; decide)) | skip))
    | dsimp only
    | split

theorem State.retireEffect_frame {s : State} {c : Cmd} {p : Nat} : Same 0x64800000000000000000000000000000000000000000000046000000000000000000000000000400000000000000003c00000000 s (State.retireEffect s c p) := by
  unfold State.retireEffect
  try dsimp only
  repeat' first
    | with_reducible exact Same.refl
    | with_reducible assumption
    | with_reducible apply Same.ite
    | ((with_reducible apply Same.via State.showPaths_frame); decide)
    | ((with_reducible apply Same.via State.changeWindows_frame); decide)
    | ((with_reducible apply Same.via State.journal_frame); decide)
    | ((with_reducible apply Same.via State.writeTaps_frame); decide)
    | ((with_reducible apply State.inc_frame); (decide); decide)
    | with_reducible apply Same.foldl
    | with_reducible apply Same.foldl1
    | intro _ _ _
    | intro _ _
    | (fail_if_no_progress ((with_reducible apply Same.upd) <;> first | (intro hb; first | with_reducible rfl | (exfalso; revert hb; decide)) | skip))
    | dsimp only
    | split

theorem State.writeMark_frame {s : State} {c : Cmd} : Same 0x24800000000000000000000000000000000000000000000046000000000000000000000000000000000000000000000000000000 s (State.writeMark s c) := by
  unfold State.writeMark
  try dsimp only
  repeat' first
    | with_reducible exact Same.refl
    | with_reducible assumption
    | with_reducible apply Same.ite
    | ((with_reducible apply Same.via State.journal_frame); decide)
    | ((with_reducible apply Same.via State.journalMark_frame); decide)
    | with_reducible apply Same.foldl
    | with_reducible apply Same.foldl1
    | intro _ _ _
    | intro _ _
    | (fail_if_no_progress ((with_reducible apply Same.upd) <;> first | (intro hb; first | with_reducible rfl | (exfalso; revert hb; decide)) | skip))
    | dsimp only
    | split

theorem State.retireNow_frame {s : State} {c : Cmd} : Same 0x2026e80000000000000000000000000000001c0001000000000c6000000000000008000000000000400540000000000003c00000000 s (State.retireNow s c) := by
  unfold State.retireNow
  try dsimp only
  repeat' first
    | with_reducible exact Same.refl
    | with_reducible assumption
    | with_reducible apply Same.ite
    | ((with_reducible apply Same.via State.retireEffect_frame); decide)
    | ((with_reducible apply Same.via State.writeMark_frame); decide)
    | ((with_reducible apply Same.via State.noteHeader_frame); decide)
    | ((with_reducible apply Same.via State.retire_frame); decide)
    | with_reducible apply Same.foldl
    | with_reducible apply Same.foldl1
    | intro _ _ _
    | intro _ _
    | (fail_if_no_progress ((with_reducible apply Same.upd) <;> first | (intro hb; first | with_reducible rfl | (exfalso; revert hb; decide)) | skip))
    | dsimp only
    | split

theorem State.endAt_frame {s : State} {c : Cmd} {p x : Nat} : Same 0x620bee86000000000000000000000000000001c0001010000000c600000500000000800000000000057ffce00000dc00d7ff00000000 s (State.endAt s c p x) := by
  unfold State.endAt
  try dsimp only
  repeat' first
    | with_reducible exact Same.refl
    | with_reducible assumption
    | with_reducible apply Same.ite
    | ((with_reducible apply Same.via State.catchUp_frame); decide)
    | ((with_reducible apply Same.via State.advance_frame); decide)
    | ((with_reducible apply Same.via State.meetFault_frame); decide)
    | ((with_reducible apply Same.via State.retireNow_frame); decide)
    | with_reducible apply Same.foldl
    | with_reducible apply Same.foldl1
    | intro _ _ _
    | intro _ _
    | (fail_if_no_progress ((with_reducible apply Same.upd) <;> first | (intro hb; first | with_reducible rfl | (exfalso; revert hb; decide)) | skip))
    | dsimp only
    | split

theorem State.partRetire_frame {s : State} {c : Cmd} {p : Nat} : Same 0x620bee86000000000000000000000000000001c0001010000000c600000500000000800000000000057ffce00000dc00d7ff00000000 s (State.partRetire s c p) := by
  unfold State.partRetire
  try dsimp only
  repeat' first
    | with_reducible exact Same.refl
    | with_reducible assumption
    | with_reducible apply Same.ite
    | ((with_reducible apply Same.via State.catchUp_frame); decide)
    | ((with_reducible apply Same.via State.endAt_frame); decide)
    | with_reducible apply Same.foldl
    | with_reducible apply Same.foldl1
    | intro _ _ _
    | intro _ _
    | (fail_if_no_progress ((with_reducible apply Same.upd) <;> first | (intro hb; first | with_reducible rfl | (exfalso; revert hb; decide)) | skip))
    | dsimp only
    | split

theorem State.commandRetire_frame {s : State} {c : Cmd} : Same 0x620bee86000000000000000000000000000001c0001010000000c600000500000000800000000000057ffce00000dc00d7ff00000000 s (State.commandRetire s c) := by
  unfold State.commandRetire
  try dsimp only
  repeat' first
    | with_reducible exact Same.refl
    | with_reducible assumption
    | with_reducible apply Same.ite
    | ((with_reducible apply Same.via State.partRetire_frame); decide)
    | ((with_reducible apply Same.via State.advance_frame); decide)
    | ((with_reducible apply Same.via State.meetFault_frame); decide)
    | ((with_reducible apply Same.via State.retireNow_frame); decide)
    | with_reducible apply Same.foldl
    | with_reducible apply Same.foldl1
    | intro _ _ _
    | intro _ _
    | (fail_if_no_progress ((with_reducible apply Same.upd) <;> first | (intro hb; first | with_reducible rfl | (exfalso; revert hb; decide)) | skip))
    | dsimp only
    | split

theorem execCommandRetire_frame {c : CmdId} {s : State} {t : State} (e : execCommandRetire c s = .next t) :
    Same 0x620bee86000000000000000000000000000001c0001010000000c600000500000000800000000000057ffce00000dc00d7ff00000000 s t := by
  cases e
  try dsimp only
  repeat' first
    | with_reducible exact Same.refl
    | with_reducible assumption
    | with_reducible apply Same.ite
    | ((with_reducible apply Same.via State.commandRetire_frame); decide)
    | with_reducible apply Same.foldl
    | with_reducible apply Same.foldl1
    | intro _ _ _
    | intro _ _
    | (fail_if_no_progress ((with_reducible apply Same.upd) <;> first | (intro hb; first | with_reducible rfl | (exfalso; revert hb; decide)) | skip))
    | dsimp only
    | split

theorem State.deadlineMiss_frame {s : State} {c : Cmd} : Same 0x220a6e84000000000000000000000000000001c0001010000000c600000500000000800000000000004054a000000000800000000000 s (State.deadlineMiss s c) := by
  unfold State.deadlineMiss
  try dsimp only
  repeat' first
    | with_reducible exact Same.refl
    | with_reducible assumption
    | with_reducible apply Same.ite
    | ((with_reducible apply Same.via State.draw_frame); decide)
    | ((with_reducible apply Same.via State.abortTask_frame); decide)
    | ((with_reducible apply Same.via State.specStop_frame); decide)
    | ((with_reducible apply Same.via State.fault_frame); decide)
    | ((with_reducible apply Same.via State.finish_frame); decide)
    | with_reducible apply Same.foldl
    | with_reducible apply Same.foldl1
    | intro _ _ _
    | intro _ _
    | (fail_if_no_progress ((with_reducible apply Same.upd) <;> first | (intro hb; first | with_reducible rfl | (exfalso; revert hb; decide)) | skip))
    | dsimp only
    | split

theorem State.partMiss_frame {s : State} {c : Cmd} {p : Nat} : Same 0x620bee86000000000000000000000000000001c0001010000000c600000500000000800000000000017ffce00000dc00d7c300000000 s (State.partMiss s c p) := by
  unfold State.partMiss
  try dsimp only
  repeat' first
    | with_reducible exact Same.refl
    | with_reducible assumption
    | with_reducible apply Same.ite
    | ((with_reducible apply Same.via State.catchUp_frame); decide)
    | ((with_reducible apply Same.via State.meetFault_frame); decide)
    | ((with_reducible apply Same.via State.deadlineMiss_frame); decide)
    | with_reducible apply Same.foldl
    | with_reducible apply Same.foldl1
    | intro _ _ _
    | intro _ _
    | (fail_if_no_progress ((with_reducible apply Same.upd) <;> first | (intro hb; first | with_reducible rfl | (exfalso; revert hb; decide)) | skip))
    | dsimp only
    | split

theorem execDeadlineMiss_frame {c : CmdId} {s : State} {t : State} (e : execDeadlineMiss c s = .next t) :
    Same 0x620bee86000000000000000000000000000001c0001010000000c600000500000000800000000000017ffce00000dc00d7c300000000 s t := by
  cases e
  try dsimp only
  repeat' first
    | with_reducible exact Same.refl
    | with_reducible assumption
    | with_reducible apply Same.ite
    | ((with_reducible apply Same.via State.partMiss_frame); decide)
    | ((with_reducible apply Same.via State.deadlineMiss_frame); decide)
    | with_reducible apply Same.foldl
    | with_reducible apply Same.foldl1
    | intro _ _ _
    | intro _ _
    | (fail_if_no_progress ((with_reducible apply Same.upd) <;> first | (intro hb; first | with_reducible rfl | (exfalso; revert hb; decide)) | skip))
    | dsimp only
    | split

theorem execNop_frame {c : CmdId} {s : State} {t : State} (e : execNop c s = .next t) :
    Same 0x200002000000000000000000000000000000000000000000000000000000000000000000000000000000000000000000000000000000 s t := by
  cases e
  try dsimp only
  repeat' first
    | with_reducible exact Same.refl
    | with_reducible assumption
    | with_reducible apply Same.ite
    | ((with_reducible apply Same.via State.done_frame); decide)
    | with_reducible apply Same.foldl
    | with_reducible apply Same.foldl1
    | intro _ _ _
    | intro _ _
    | (fail_if_no_progress ((with_reducible apply Same.upd) <;> first | (intro hb; first | with_reducible rfl | (exfalso; revert hb; decide)) | skip))
    | dsimp only
    | split

theorem execFenceWait_frame {c : CmdId} {s : State} {t : State} (e : execFenceWait c s = .next t) :
    Same 0x200002000000000000000000000000000000000000000000000000000000000000000000000000000000000000000000000000000000 s t := by
  cases e
  try dsimp only
  repeat' first
    | with_reducible exact Same.refl
    | with_reducible assumption
    | with_reducible apply Same.ite
    | ((with_reducible apply Same.via State.done_frame); decide)
    | with_reducible apply Same.foldl
    | with_reducible apply Same.foldl1
    | intro _ _ _
    | intro _ _
    | (fail_if_no_progress ((with_reducible apply Same.upd) <;> first | (intro hb; first | with_reducible rfl | (exfalso; revert hb; decide)) | skip))
    | dsimp only
    | split

theorem execFenceSignal_frame {c : CmdId} {s : State} {t : State} (e : execFenceSignal c s = .next t) :
    Same 0x200002000000000000000000000000000000000000000000000000000000000000000000000000000000000000000000000000000000 s t := by
  cases e
  try dsimp only
  repeat' first
    | with_reducible exact Same.refl
    | with_reducible assumption
    | with_reducible apply Same.ite
    | ((with_reducible apply Same.via State.done_frame); decide)
    | with_reducible apply Same.foldl
    | with_reducible apply Same.foldl1
    | intro _ _ _
    | intro _ _
    | (fail_if_no_progress ((with_reducible apply Same.upd) <;> first | (intro hb; first | with_reducible rfl | (exfalso; revert hb; decide)) | skip))
    | dsimp only
    | split

theorem execBarrier_frame {c : CmdId} {s : State} {t : State} (e : execBarrier c s = .next t) :
    Same 0x200002000000000000000000000000000000000000000000000000000000000000000000000000000000000000000000000000000000 s t := by
  cases e
  try dsimp only
  repeat' first
    | with_reducible exact Same.refl
    | with_reducible assumption
    | with_reducible apply Same.ite
    | ((with_reducible apply Same.via State.barrier_frame); decide)
    | ((with_reducible apply Same.via State.done_frame); decide)
    | with_reducible apply Same.foldl
    | with_reducible apply Same.foldl1
    | intro _ _ _
    | intro _ _
    | (fail_if_no_progress ((with_reducible apply Same.upd) <;> first | (intro hb; first | with_reducible rfl | (exfalso; revert hb; decide)) | skip))
    | dsimp only
    | split

theorem State.forecast_frame {s : State} {c : Cmd} {p : Nat} : Same 0x200022000000000000000000000000000000000000000000000000000000000000000000000000000000000000000000000000000000 s (State.forecast s c p) := by
  unfold State.forecast
  try dsimp only
  repeat' first
    | with_reducible exact Same.refl
    | with_reducible assumption
    | with_reducible apply Same.ite
    | ((with_reducible apply Same.via State.modRun_frame); decide)
    | ((with_reducible apply Same.via State.done_frame); decide)
    | with_reducible apply Same.foldl
    | with_reducible apply Same.foldl1
    | intro _ _ _
    | intro _ _
    | (fail_if_no_progress ((with_reducible apply Same.upd) <;> first | (intro hb; first | with_reducible rfl | (exfalso; revert hb; decide)) | skip))
    | dsimp only
    | split

theorem execForecast_frame {c : CmdId} {s : State} {t : State} (e : execForecast c s = .next t) :
    Same 0x200022000000000000000000000000000000000000000000000000000000000000000000000000000000000000000000000000000000 s t := by
  cases e
  try dsimp only
  repeat' first
    | with_reducible exact Same.refl
    | with_reducible assumption
    | with_reducible apply Same.ite
    | ((with_reducible apply Same.via State.forecast_frame); decide)
    | with_reducible apply Same.foldl
    | with_reducible apply Same.foldl1
    | intro _ _ _
    | intro _ _
    | (fail_if_no_progress ((with_reducible apply Same.upd) <;> first | (intro hb; first | with_reducible rfl | (exfalso; revert hb; decide)) | skip))
    | dsimp only
    | split

end Sys2Proof.Machine
end

