-- ==== Sys2Proof/Laws/FrameParts.lean ====
section
/-! SUPPORT. Frames of the functions of Machine/Parts.lean (Laws/Frame.lean). -/

namespace Sys2Proof.Machine

set_option linter.unreachableTactic false
set_option linter.unusedTactic false
set_option linter.unusedVariables false

theorem State.failCheck_frame {s : State} {c : Cmd} {p : Nat} {x : Nat × Nat × Nat} : Same 0x2026680000000000000000000000000000001c0001000000000c6000000000008008000000000000000000000000000000000000000 s (State.failCheck s c p x) := by
  unfold State.failCheck
  try dsimp only
  repeat' first
    | with_reducible exact Same.refl
    | with_reducible assumption
    | with_reducible apply Same.ite
    | ((with_reducible apply State.put_frame); decide)
    | ((with_reducible apply Same.via State.abort_frame); decide)
    | with_reducible apply Same.foldl
    | with_reducible apply Same.foldl1
    | intro _ _ _
    | intro _ _
    | (fail_if_no_progress ((with_reducible apply Same.upd) <;> first | (intro hb; first | with_reducible rfl | (exfalso; revert hb; decide)) | skip))
    | dsimp only
    | split

theorem State.rebase_frame {s : State} : Same 0x18000000000000 s (State.rebase s) := by
  unfold State.rebase
  try dsimp only
  repeat' first
    | with_reducible exact Same.refl
    | with_reducible assumption
    | with_reducible apply Same.ite
    | ((with_reducible apply State.put_frame); decide)
    | with_reducible apply Same.foldl
    | with_reducible apply Same.foldl1
    | intro _ _ _
    | intro _ _
    | (fail_if_no_progress ((with_reducible apply Same.upd) <;> first | (intro hb; first | with_reducible rfl | (exfalso; revert hb; decide)) | skip))
    | dsimp only
    | split

theorem State.bindCores_frame {s : State} {p : Nat} {v : Shape} : Same 0x33000000000000000000000000000000000000000000000000 s (State.bindCores s p v) := by
  unfold State.bindCores
  try dsimp only
  repeat' first
    | with_reducible exact Same.refl
    | with_reducible assumption
    | with_reducible apply Same.ite
    | ((with_reducible apply State.put_frame); decide)
    | with_reducible apply Same.foldl
    | with_reducible apply Same.foldl1
    | intro _ _ _
    | intro _ _
    | (fail_if_no_progress ((with_reducible apply Same.upd) <;> first | (intro hb; first | with_reducible rfl | (exfalso; revert hb; decide)) | skip))
    | dsimp only
    | split

theorem State.freeCore_frame {s : State} {n : Nat} : Same 0x33000000000000000000000000000000000000000000000000 s (State.freeCore s n) := by
  unfold State.freeCore
  try dsimp only
  repeat' first
    | with_reducible exact Same.refl
    | with_reducible assumption
    | with_reducible apply Same.ite
    | ((with_reducible apply State.put_frame); decide)
    | with_reducible apply Same.foldl
    | with_reducible apply Same.foldl1
    | intro _ _ _
    | intro _ _
    | (fail_if_no_progress ((with_reducible apply Same.upd) <;> first | (intro hb; first | with_reducible rfl | (exfalso; revert hb; decide)) | skip))
    | dsimp only
    | split

theorem State.putShape_frame {s : State} {p : Nat} {v : Shape} : Same 0x200000000000000000000000000000000000000000000000000000330000c20000000000000000000000020c0018000000000000 s (State.putShape s p v) := by
  unfold State.putShape
  try dsimp only
  repeat' first
    | with_reducible exact Same.refl
    | with_reducible assumption
    | with_reducible apply Same.ite
    | ((with_reducible apply Same.via State.modBind_frame); decide)
    | ((with_reducible apply Same.via State.bindCores_frame); decide)
    | ((with_reducible apply State.put_frame); decide)
    | ((with_reducible apply Same.via State.rebase_frame); decide)
    | with_reducible apply Same.foldl
    | with_reducible apply Same.foldl1
    | intro _ _ _
    | intro _ _
    | (fail_if_no_progress ((with_reducible apply Same.upd) <;> first | (intro hb; first | with_reducible rfl | (exfalso; revert hb; decide)) | skip))
    | dsimp only
    | split

theorem State.emptySlots_frame {s : State} {p : Nat} : Same 0x20000000000000000000000000000000000000000000000000000000e00000000000000000000000000000000000000000000000 s (State.emptySlots s p) := by
  unfold State.emptySlots
  try dsimp only
  repeat' first
    | with_reducible exact Same.refl
    | with_reducible assumption
    | with_reducible apply Same.ite
    | ((with_reducible apply Same.via State.clearSlot_frame); decide)
    | with_reducible apply Same.foldl
    | with_reducible apply Same.foldl1
    | intro _ _ _
    | intro _ _
    | (fail_if_no_progress ((with_reducible apply Same.upd) <;> first | (intro hb; first | with_reducible rfl | (exfalso; revert hb; decide)) | skip))
    | dsimp only
    | split

theorem State.restoreSlot_frame {s : State} {p h : Nat} {v : Slot} {stat : Nat} : Same 0x20000000000000000000000000000000000000000000000000000000e00000000000000000000000000000000000000000000000 s (State.restoreSlot s p h v stat) := by
  unfold State.restoreSlot
  try dsimp only
  repeat' first
    | with_reducible exact Same.refl
    | with_reducible assumption
    | with_reducible apply Same.ite
    | ((with_reducible apply Same.via State.setSlot_frame); decide)
    | ((with_reducible apply State.put_frame); decide)
    | with_reducible apply Same.foldl
    | with_reducible apply Same.foldl1
    | intro _ _ _
    | intro _ _
    | (fail_if_no_progress ((with_reducible apply Same.upd) <;> first | (intro hb; first | with_reducible rfl | (exfalso; revert hb; decide)) | skip))
    | dsimp only
    | split

theorem State.freshKeys_frame {s : State} {p : Nat} : Same 0x20040000000000000000000001000000000000000000000000000000000000000000000000000000000000000000000000000000 s (State.freshKeys s p) := by
  unfold State.freshKeys
  try dsimp only
  repeat' first
    | with_reducible exact Same.refl
    | with_reducible assumption
    | with_reducible apply Same.ite
    | ((with_reducible apply Same.via State.draw_frame); decide)
    | ((with_reducible apply Same.via State.modPart_frame); decide)
    | ((with_reducible apply State.putA_frame); decide)
    | with_reducible apply Same.foldl
    | with_reducible apply Same.foldl1
    | intro _ _ _
    | intro _ _
    | (fail_if_no_progress ((with_reducible apply Same.upd) <;> first | (intro hb; first | with_reducible rfl | (exfalso; revert hb; decide)) | skip))
    | dsimp only
    | split

theorem State.eraseKeys_frame {s : State} {p : Nat} : Same 0x20000000000000000000000081000000000000000000000000000000000000000000000000000000000000000000000000000000 s (State.eraseKeys s p) := by
  unfold State.eraseKeys
  try dsimp only
  repeat' first
    | with_reducible exact Same.refl
    | with_reducible assumption
    | with_reducible apply Same.ite
    | ((with_reducible apply Same.via State.modPart_frame); decide)
    | ((with_reducible apply State.putA_frame); decide)
    | ((with_reducible apply State.put_frame); decide)
    | with_reducible apply Same.foldl
    | with_reducible apply Same.foldl1
    | intro _ _ _
    | intro _ _
    | (fail_if_no_progress ((with_reducible apply Same.upd) <;> first | (intro hb; first | with_reducible rfl | (exfalso; revert hb; decide)) | skip))
    | dsimp only
    | split

theorem State.create_frame {s : State} {c : Cmd} {p : Nat} {v : Shape} : Same 0x220062040000000000000000000001000001000000000000000000000033e000e60000000000000000040000020c001b060200000000 s (State.create s c p v) := by
  unfold State.create
  try dsimp only
  repeat' first
    | with_reducible exact Same.refl
    | with_reducible assumption
    | with_reducible apply Same.ite
    | ((with_reducible apply State.put_frame); decide)
    | ((with_reducible apply Same.via State.clearCore_frame); decide)
    | ((with_reducible apply Same.via State.putShape_frame); decide)
    | ((with_reducible apply Same.via State.emptySlots_frame); decide)
    | ((with_reducible apply Same.via State.restoreSlot_frame); decide)
    | ((with_reducible apply Same.via State.modBind_frame); decide)
    | ((with_reducible apply State.putA_frame); decide)
    | ((with_reducible apply Same.via State.freshKeys_frame); decide)
    | ((with_reducible apply Same.via State.done_frame); decide)
    | with_reducible apply Same.foldl
    | with_reducible apply Same.foldl1
    | intro _ _ _
    | intro _ _
    | (fail_if_no_progress ((with_reducible apply Same.upd) <;> first | (intro hb; first | with_reducible rfl | (exfalso; revert hb; decide)) | skip))
    | dsimp only
    | split

theorem execPartCreate_frame {c : CmdId} {s : State} {t : State} (e : execPartCreate c s = .next t) :
    Same 0x22026684000000000000000000000100000101c0001000000000c6000033e000ee0080000000000000040000020c001b060200000000 s t := by
  cases e
  try dsimp only
  repeat' first
    | with_reducible exact Same.refl
    | with_reducible assumption
    | with_reducible apply Same.ite
    | ((with_reducible apply Same.via State.failCheck_frame); decide)
    | ((with_reducible apply Same.via State.create_frame); decide)
    | with_reducible apply Same.foldl
    | with_reducible apply Same.foldl1
    | intro _ _ _
    | intro _ _
    | (fail_if_no_progress ((with_reducible apply Same.upd) <;> first | (intro hb; first | with_reducible rfl | (exfalso; revert hb; decide)) | skip))
    | dsimp only
    | split

theorem State.armResize_frame {s : State} {c : Cmd} {p : Nat} {v : Shape} : Same 0x200022000000000000000000000000000000000000000000000000000000000030000000000000000000000000000000000000000000 s (State.armResize s c p v) := by
  unfold State.armResize
  try dsimp only
  repeat' first
    | with_reducible exact Same.refl
    | with_reducible assumption
    | with_reducible apply Same.ite
    | ((with_reducible apply State.put_frame); decide)
    | ((with_reducible apply Same.via State.modBind_frame); decide)
    | ((with_reducible apply Same.via State.done_frame); decide)
    | with_reducible apply Same.foldl
    | with_reducible apply Same.foldl1
    | intro _ _ _
    | intro _ _
    | (fail_if_no_progress ((with_reducible apply Same.upd) <;> first | (intro hb; first | with_reducible rfl | (exfalso; revert hb; decide)) | skip))
    | dsimp only
    | split

theorem execPartResize_frame {c : CmdId} {s : State} {t : State} (e : execPartResize c s = .next t) :
    Same 0x22026680000000000000000000000000000001c0001000000000c6000000000038008000000000000000000000000000000000000000 s t := by
  cases e
  try dsimp only
  repeat' first
    | with_reducible exact Same.refl
    | with_reducible assumption
    | with_reducible apply Same.ite
    | ((with_reducible apply Same.via State.failCheck_frame); decide)
    | ((with_reducible apply Same.via State.armResize_frame); decide)
    | with_reducible apply Same.foldl
    | with_reducible apply Same.foldl1
    | intro _ _ _
    | intro _ _
    | (fail_if_no_progress ((with_reducible apply Same.upd) <;> first | (intro hb; first | with_reducible rfl | (exfalso; revert hb; decide)) | skip))
    | dsimp only
    | split

theorem State.releasePages_frame {s : State} {p : Nat} {old new : List Nat} : Same 0x80000000000000000000000400000000000000000000000000000000000000000000000000000000000000000000000000000000 s (State.releasePages s p old new) := by
  unfold State.releasePages
  try dsimp only
  repeat' first
    | with_reducible exact Same.refl
    | with_reducible assumption
    | with_reducible apply Same.ite
    | ((with_reducible apply Same.via State.queuePage_frame); decide)
    | ((with_reducible apply Same.via State.unmapPage_frame); decide)
    | with_reducible apply Same.foldl
    | with_reducible apply Same.foldl1
    | intro _ _ _
    | intro _ _
    | (fail_if_no_progress ((with_reducible apply Same.upd) <;> first | (intro hb; first | with_reducible rfl | (exfalso; revert hb; decide)) | skip))
    | dsimp only
    | split

theorem State.rebindSlots_frame {s : State} {p : Nat} {first : List Nat} : Same 0x20000000000000000000000000000000000000000000000000000000800000000000000000000000000000000000000000000000 s (State.rebindSlots s p first) := by
  unfold State.rebindSlots
  try dsimp only
  repeat' first
    | with_reducible exact Same.refl
    | with_reducible assumption
    | with_reducible apply Same.ite
    | ((with_reducible apply State.put_frame); decide)
    | ((with_reducible apply Same.via State.modBind_frame); decide)
    | with_reducible apply Same.foldl
    | with_reducible apply Same.foldl1
    | intro _ _ _
    | intro _ _
    | (fail_if_no_progress ((with_reducible apply Same.upd) <;> first | (intro hb; first | with_reducible rfl | (exfalso; revert hb; decide)) | skip))
    | dsimp only
    | split

theorem State.resize_frame {s : State} {p : Nat} {v : Shape} : Same 0xe00000000000000000000004000000000000000000000000000000338000f20000000000000000040000020c001b060200000000 s (State.resize s p v) := by
  unfold State.resize
  try dsimp only
  repeat' first
    | with_reducible exact Same.refl
    | with_reducible assumption
    | with_reducible apply Same.ite
    | ((with_reducible apply Same.via State.clearCore_frame); decide)
    | ((with_reducible apply Same.via State.freeCore_frame); decide)
    | ((with_reducible apply Same.via State.putShape_frame); decide)
    | ((with_reducible apply Same.via State.releasePages_frame); decide)
    | ((with_reducible apply State.put_frame); decide)
    | ((with_reducible apply Same.via State.modBind_frame); decide)
    | ((with_reducible apply Same.via State.rebindSlots_frame); decide)
    | with_reducible apply Same.foldl
    | with_reducible apply Same.foldl1
    | intro _ _ _
    | intro _ _
    | (fail_if_no_progress ((with_reducible apply Same.upd) <;> first | (intro hb; first | with_reducible rfl | (exfalso; revert hb; decide)) | skip))
    | dsimp only
    | split

theorem State.cancelResize_frame {s : State} {p : Nat} : Same 0x82002000000000000000000000000000000001c000000000000000008000000010000000000000000000000000000000000000000000 s (State.cancelResize s p) := by
  unfold State.cancelResize
  try dsimp only
  repeat' first
    | with_reducible exact Same.refl
    | with_reducible assumption
    | with_reducible apply Same.ite
    | ((with_reducible apply State.put_frame); decide)
    | ((with_reducible apply Same.via State.modBind_frame); decide)
    | ((with_reducible apply State.partEvent_frame); (decide); decide)
    | with_reducible apply Same.foldl
    | with_reducible apply Same.foldl1
    | intro _ _ _
    | intro _ _
    | (fail_if_no_progress ((with_reducible apply Same.upd) <;> first | (intro hb; first | with_reducible rfl | (exfalso; revert hb; decide)) | skip))
    | dsimp only
    | split

theorem State.resizeEffect_frame {s : State} {p : Nat} {b : Bytes} : Same 0x8200e000000000000000000000040000000001c0000000000000000080338000fa0000000000000000040000020c001b060200000000 s (State.resizeEffect s p b) := by
  unfold State.resizeEffect
  try dsimp only
  repeat' first
    | with_reducible exact Same.refl
    | with_reducible assumption
    | with_reducible apply Same.ite
    | ((with_reducible apply State.put_frame); decide)
    | ((with_reducible apply Same.via State.cancelResize_frame); decide)
    | ((with_reducible apply Same.via State.resize_frame); decide)
    | with_reducible apply Same.foldl
    | with_reducible apply Same.foldl1
    | intro _ _ _
    | intro _ _
    | (fail_if_no_progress ((with_reducible apply Same.upd) <;> first | (intro hb; first | with_reducible rfl | (exfalso; revert hb; decide)) | skip))
    | dsimp only
    | split

theorem execResizeEffect_frame {p : Fin 16} {s : State} {t : State} (e : execResizeEffect p s = .next t) :
    Same 0x8200e000000000000000000000040000000001c0000000000000000080338000fa0000000000000000040000020c001b060200000000 s t := by
  cases e
  try dsimp only
  repeat' first
    | with_reducible exact Same.refl
    | with_reducible assumption
    | with_reducible apply Same.ite
    | ((with_reducible apply Same.via State.resizeEffect_frame); decide)
    | with_reducible apply Same.foldl
    | with_reducible apply Same.foldl1
    | intro _ _ _
    | intro _ _
    | (fail_if_no_progress ((with_reducible apply Same.upd) <;> first | (intro hb; first | with_reducible rfl | (exfalso; revert hb; decide)) | skip))
    | dsimp only
    | split

theorem State.resetNext_frame {s : State} {p : Nat} {records : Bool} : Same 0x26000000000000000000000000000000000000000000000000000000000000008000000000000000000000000000000000000000 s (State.resetNext s p records) := by
  unfold State.resetNext
  try dsimp only
  repeat' first
    | with_reducible exact Same.refl
    | with_reducible assumption
    | with_reducible apply Same.ite
    | ((with_reducible apply Same.via State.finish_frame); decide)
    | ((with_reducible apply Same.via State.dropCmd_frame); decide)
    | ((with_reducible apply Same.via State.modRun_frame); decide)
    | ((with_reducible apply Same.via State.showTask_frame); decide)
    | with_reducible apply Same.foldl
    | with_reducible apply Same.foldl1
    | intro _ _ _
    | intro _ _
    | (fail_if_no_progress ((with_reducible apply Same.upd) <;> first | (intro hb; first | with_reducible rfl | (exfalso; revert hb; decide)) | skip))
    | dsimp only
    | split

theorem State.resetPart_frame {s : State} {p cause : Nat} {records : Bool} : Same 0x82026680000000000000000000000000000001c0001000000000c6008000002030008000000000000004000000000003060200000000 s (State.resetPart s p cause records) := by
  unfold State.resetPart
  try dsimp only
  repeat' first
    | with_reducible exact Same.refl
    | with_reducible assumption
    | with_reducible apply Same.ite
    | ((with_reducible apply Same.via State.abortTask_frame); decide)
    | ((with_reducible apply Same.via State.resetNext_frame); decide)
    | ((with_reducible apply Same.via State.dropStreams_frame); decide)
    | ((with_reducible apply Same.via State.clearCore_frame); decide)
    | ((with_reducible apply State.put_frame); decide)
    | ((with_reducible apply Same.via State.cancelResize_frame); decide)
    | with_reducible apply Same.foldl
    | with_reducible apply Same.foldl1
    | intro _ _ _
    | intro _ _
    | (fail_if_no_progress ((with_reducible apply Same.upd) <;> first | (intro hb; first | with_reducible rfl | (exfalso; revert hb; decide)) | skip))
    | dsimp only
    | split

theorem State.await_frame {s : State} {c : Cmd} {p ending : Nat} : Same 0x22000000000000000000000000000000000000000000000000000000000000000000000000000000000000000000000000000000 s (State.await s c p ending) := by
  unfold State.await
  try dsimp only
  repeat' first
    | with_reducible exact Same.refl
    | with_reducible assumption
    | with_reducible apply Same.ite
    | ((with_reducible apply Same.via State.setCmd_frame); decide)
    | ((with_reducible apply Same.via State.modBind_frame); decide)
    | with_reducible apply Same.foldl
    | with_reducible apply Same.foldl1
    | intro _ _ _
    | intro _ _
    | (fail_if_no_progress ((with_reducible apply Same.upd) <;> first | (intro hb; first | with_reducible rfl | (exfalso; revert hb; decide)) | skip))
    | dsimp only
    | split

theorem State.doneWaiter_frame {s : State} {p : Nat} : Same 0x200022000000000000000000000000000000000000000000000000000000000000000000000000000000000000000000000000000000 s (State.doneWaiter s p) := by
  unfold State.doneWaiter
  try dsimp only
  repeat' first
    | with_reducible exact Same.refl
    | with_reducible assumption
    | with_reducible apply Same.ite
    | ((with_reducible apply Same.via State.modBind_frame); decide)
    | ((with_reducible apply Same.via State.done_frame); decide)
    | with_reducible apply Same.foldl
    | with_reducible apply Same.foldl1
    | intro _ _ _
    | intro _ _
    | (fail_if_no_progress ((with_reducible apply Same.upd) <;> first | (intro hb; first | with_reducible rfl | (exfalso; revert hb; decide)) | skip))
    | dsimp only
    | split

theorem execPartReset_frame {c : CmdId} {s : State} {t : State} (e : execPartReset c s = .next t) :
    Same 0x82026680000000000000000000000000000001c0001000000000c6008000002038008000000000000004000000000003060200000000 s t := by
  cases e
  try dsimp only
  repeat' first
    | with_reducible exact Same.refl
    | with_reducible assumption
    | with_reducible apply Same.ite
    | ((with_reducible apply Same.via State.resetPart_frame); decide)
    | ((with_reducible apply Same.via State.await_frame); decide)
    | ((with_reducible apply Same.via State.failCheck_frame); decide)
    | with_reducible apply Same.foldl
    | with_reducible apply Same.foldl1
    | intro _ _ _
    | intro _ _
    | (fail_if_no_progress ((with_reducible apply Same.upd) <;> first | (intro hb; first | with_reducible rfl | (exfalso; revert hb; decide)) | skip))
    | dsimp only
    | split

theorem State.destroy_frame {s : State} {c : Cmd} {p : Nat} : Same 0x82026680000000000000000000008100000001c0001000000000f7808000002030008000000000000004000000000003060200000000 s (State.destroy s c p) := by
  unfold State.destroy
  try dsimp only
  repeat' first
    | with_reducible exact Same.refl
    | with_reducible assumption
    | with_reducible apply Same.ite
    | ((with_reducible apply Same.via State.resetPart_frame); decide)
    | ((with_reducible apply Same.via State.eraseKeys_frame); decide)
    | ((with_reducible apply Same.via State.journalSwitchOn_frame); decide)
    | ((with_reducible apply Same.via State.modBind_frame); decide)
    | ((with_reducible apply Same.via State.await_frame); decide)
    | with_reducible apply Same.foldl
    | with_reducible apply Same.foldl1
    | intro _ _ _
    | intro _ _
    | (fail_if_no_progress ((with_reducible apply Same.upd) <;> first | (intro hb; first | with_reducible rfl | (exfalso; revert hb; decide)) | skip))
    | dsimp only
    | split

theorem execPartDestroy_frame {c : CmdId} {s : State} {t : State} (e : execPartDestroy c s = .next t) :
    Same 0x82026680000000000000000000008100000001c0001000000000f7808000002038008000000000000004000000000003060200000000 s t := by
  cases e
  try dsimp only
  repeat' first
    | with_reducible exact Same.refl
    | with_reducible assumption
    | with_reducible apply Same.ite
    | ((with_reducible apply Same.via State.destroy_frame); decide)
    | ((with_reducible apply Same.via State.failCheck_frame); decide)
    | with_reducible apply Same.foldl
    | with_reducible apply Same.foldl1
    | intro _ _ _
    | intro _ _
    | (fail_if_no_progress ((with_reducible apply Same.upd) <;> first | (intro hb; first | with_reducible rfl | (exfalso; revert hb; decide)) | skip))
    | dsimp only
    | split

theorem State.releasePart_frame {s : State} {p : Nat} : Same 0x2000a2000000000000000000000400000000000000000000000000000033e000e40000000000000000000000020c0018000000000000 s (State.releasePart s p) := by
  unfold State.releasePart
  try dsimp only
  repeat' first
    | with_reducible exact Same.refl
    | with_reducible assumption
    | with_reducible apply Same.ite
    | ((with_reducible apply Same.via State.freeCore_frame); decide)
    | ((with_reducible apply State.put_frame); decide)
    | ((with_reducible apply Same.via State.modBind_frame); decide)
    | ((with_reducible apply Same.via State.emptySlots_frame); decide)
    | ((with_reducible apply Same.via State.releasePages_frame); decide)
    | ((with_reducible apply Same.via State.rebase_frame); decide)
    | ((with_reducible apply Same.via State.doneWaiter_frame); decide)
    | with_reducible apply Same.foldl
    | with_reducible apply Same.foldl1
    | intro _ _ _
    | intro _ _
    | (fail_if_no_progress ((with_reducible apply Same.upd) <;> first | (intro hb; first | with_reducible rfl | (exfalso; revert hb; decide)) | skip))
    | dsimp only
    | split

theorem State.restartQueue_frame {s : State} {q : Nat} : Same 0x10000000000000000000000000000000000000000000000000000000000000001e00000000000000000000000000000000000000 s (State.restartQueue s q) := by
  unfold State.restartQueue
  try dsimp only
  repeat' first
    | with_reducible exact Same.refl
    | with_reducible assumption
    | with_reducible apply Same.ite
    | ((with_reducible apply State.put_frame); decide)
    | ((with_reducible apply Same.via State.setQueue_frame); decide)
    | with_reducible apply Same.foldl
    | with_reducible apply Same.foldl1
    | intro _ _ _
    | intro _ _
    | (fail_if_no_progress ((with_reducible apply Same.upd) <;> first | (intro hb; first | with_reducible rfl | (exfalso; revert hb; decide)) | skip))
    | dsimp only
    | split

theorem execFlr_frame {p : Fin 16} {s : State} {t : State} (e : execFlr p s = .next t) :
    Same 0x100000000000000000000000000000000000000000000000000000000000000000000000000000000000000000000000000000000000 s t := by
  cases e
  try dsimp only
  repeat' first
    | with_reducible exact Same.refl
    | with_reducible assumption
    | with_reducible apply Same.ite
    | ((with_reducible apply Same.via State.atNextEdge_frame); decide)
    | with_reducible apply Same.foldl
    | with_reducible apply Same.foldl1
    | intro _ _ _
    | intro _ _
    | (fail_if_no_progress ((with_reducible apply Same.upd) <;> first | (intro hb; first | with_reducible rfl | (exfalso; revert hb; decide)) | skip))
    | dsimp only
    | split

theorem State.flrEdge_frame {s : State} {p : Nat} : Same 0x86027e84000000000000000000008100000001c0001000000000f780800000203000be00000000000004000000000003060200000000 s (State.flrEdge s p) := by
  unfold State.flrEdge
  try dsimp only
  repeat' first
    | with_reducible exact Same.refl
    | with_reducible assumption
    | with_reducible apply Same.ite
    | ((with_reducible apply Same.via State.setMsix_frame); decide)
    | ((with_reducible apply Same.via State.resetPart_frame); decide)
    | ((with_reducible apply State.put_frame); decide)
    | ((with_reducible apply Same.via State.restartQueue_frame); decide)
    | ((with_reducible apply Same.via State.eraseKeys_frame); decide)
    | ((with_reducible apply Same.via State.freshKeys_frame); decide)
    | ((with_reducible apply Same.via State.journalSwitchOn_frame); decide)
    | ((with_reducible apply Same.via State.modBind_frame); decide)
    | with_reducible apply Same.foldl
    | with_reducible apply Same.foldl1
    | intro _ _ _
    | intro _ _
    | (fail_if_no_progress ((with_reducible apply Same.upd) <;> first | (intro hb; first | with_reducible rfl | (exfalso; revert hb; decide)) | skip))
    | dsimp only
    | split

theorem State.bistCleared_frame {s : State} {n : Nat} : Same 0x204002000000000000000000000000000000000002000000000000000000000000000000000000000000000000000000000000000000 s (State.bistCleared s n) := by
  unfold State.bistCleared
  try dsimp only
  repeat' first
    | with_reducible exact Same.refl
    | with_reducible assumption
    | with_reducible apply Same.ite
    | ((with_reducible apply Same.via State.done_frame); decide)
    | ((with_reducible apply State.put_frame); decide)
    | with_reducible apply Same.foldl
    | with_reducible apply Same.foldl1
    | intro _ _ _
    | intro _ _
    | (fail_if_no_progress ((with_reducible apply Same.upd) <;> first | (intro hb; first | with_reducible rfl | (exfalso; revert hb; decide)) | skip))
    | dsimp only
    | split

theorem State.resetCleared_frame {s : State} {n : Nat} : Same 0x200022000000000000000000000000000000000000000000000000000000000000000000000000000000000000000000000000000000 s (State.resetCleared s n) := by
  unfold State.resetCleared
  try dsimp only
  repeat' first
    | with_reducible exact Same.refl
    | with_reducible assumption
    | with_reducible apply Same.ite
    | ((with_reducible apply Same.via State.doneWaiter_frame); decide)
    | with_reducible apply Same.foldl
    | with_reducible apply Same.foldl1
    | intro _ _ _
    | intro _ _
    | (fail_if_no_progress ((with_reducible apply Same.upd) <;> first | (intro hb; first | with_reducible rfl | (exfalso; revert hb; decide)) | skip))
    | dsimp only
    | split

theorem execTmemClearDone_frame {n : Fin 96} {s : State} {t : State} (e : execTmemClearDone n s = .next t) :
    Same 0x204062020000000000000000000000000000000002000000000000000000000000000000000000000000000000000005000000000000 s t := by
  cases e
  try dsimp only
  repeat' first
    | with_reducible exact Same.refl
    | with_reducible assumption
    | with_reducible apply Same.ite
    | ((with_reducible apply Same.via State.advance_frame); decide)
    | ((with_reducible apply Same.via State.endClear_frame); decide)
    | ((with_reducible apply Same.via State.resetCleared_frame); decide)
    | ((with_reducible apply Same.via State.bistCleared_frame); decide)
    | with_reducible apply Same.foldl
    | with_reducible apply Same.foldl1
    | intro _ _ _
    | intro _ _
    | (fail_if_no_progress ((with_reducible apply Same.upd) <;> first | (intro hb; first | with_reducible rfl | (exfalso; revert hb; decide)) | skip))
    | dsimp only
    | split

theorem State.reshape_frame {s : State} {p : Nat} {v : Shape} : Same 0x20000000000000000000000000000000000000000000000000000000000040000000000000000000000000000000000000000000 s (State.reshape s p v) := by
  unfold State.reshape
  try dsimp only
  repeat' first
    | with_reducible exact Same.refl
    | with_reducible assumption
    | with_reducible apply Same.ite
    | ((with_reducible apply Same.via State.modBind_frame); decide)
    | ((with_reducible apply State.put_frame); decide)
    | with_reducible apply Same.foldl
    | with_reducible apply Same.foldl1
    | intro _ _ _
    | intro _ _
    | (fail_if_no_progress ((with_reducible apply Same.upd) <;> first | (intro hb; first | with_reducible rfl | (exfalso; revert hb; decide)) | skip))
    | dsimp only
    | split

theorem State.remapTo_frame {s : State} {p lc n : Nat} {v : Shape} : Same 0x2002480000000000000000000000000000001c000200200000046000027800062000000000000000000000000000000000000000000 s (State.remapTo s p lc n v) := by
  unfold State.remapTo
  try dsimp only
  repeat' first
    | with_reducible exact Same.refl
    | with_reducible assumption
    | with_reducible apply Same.ite
    | ((with_reducible apply State.put_frame); decide)
    | ((with_reducible apply Same.via State.reshape_frame); decide)
    | ((with_reducible apply State.inc_frame); (decide); decide)
    | ((with_reducible apply Same.via State.event_frame); decide)
    | ((with_reducible apply Same.via State.rebindSlots_frame); decide)
    | ((with_reducible apply Same.via State.modBind_frame); decide)
    | ((with_reducible apply Same.via State.journalSwitch_frame); decide)
    | with_reducible apply Same.foldl
    | with_reducible apply Same.foldl1
    | intro _ _ _
    | intro _ _
    | (fail_if_no_progress ((with_reducible apply Same.upd) <;> first | (intro hb; first | with_reducible rfl | (exfalso; revert hb; decide)) | skip))
    | dsimp only
    | split

theorem State.dropRemap_frame {s : State} {p : Nat} : Same 0x2026680000000000000000000000000000001c0001000000000c6000000000000008000000000000000000000000000000000000000 s (State.dropRemap s p) := by
  unfold State.dropRemap
  try dsimp only
  repeat' first
    | with_reducible exact Same.refl
    | with_reducible assumption
    | with_reducible apply Same.ite
    | ((with_reducible apply Same.via State.modBind_frame); decide)
    | ((with_reducible apply Same.via State.abort_frame); decide)
    | with_reducible apply Same.foldl
    | with_reducible apply Same.foldl1
    | intro _ _ _
    | intro _ _
    | (fail_if_no_progress ((with_reducible apply Same.upd) <;> first | (intro hb; first | with_reducible rfl | (exfalso; revert hb; decide)) | skip))
    | dsimp only
    | split

theorem State.remap_frame {s : State} {p : Nat} {x : Nat × Nat × Bool} {r : List (Nat × Nat × Bool)} : Same 0x22026680000000000000000000000000000001c0003002000000c6000027800062008000000000000000000000000000000000000000 s (State.remap s p x r) := by
  unfold State.remap
  try dsimp only
  repeat' first
    | with_reducible exact Same.refl
    | with_reducible assumption
    | with_reducible apply Same.ite
    | ((with_reducible apply Same.via State.modBind_frame); decide)
    | ((with_reducible apply Same.via State.mark_frame); decide)
    | ((with_reducible apply Same.via State.remapTo_frame); decide)
    | ((with_reducible apply Same.via State.dropRemap_frame); decide)
    | with_reducible apply Same.foldl
    | with_reducible apply Same.foldl1
    | intro _ _ _
    | intro _ _
    | (fail_if_no_progress ((with_reducible apply Same.upd) <;> first | (intro hb; first | with_reducible rfl | (exfalso; revert hb; decide)) | skip))
    | dsimp only
    | split

theorem execRemap_frame {p : Fin 16} {s : State} {t : State} (e : execRemap p s = .next t) :
    Same 0x22026680000000000000000000000000000001c0003002000000c6000027800062008000000000000000000000000000000000000000 s t := by
  cases e
  try dsimp only
  repeat' first
    | with_reducible exact Same.refl
    | with_reducible assumption
    | with_reducible apply Same.ite
    | ((with_reducible apply Same.via State.remap_frame); decide)
    | with_reducible apply Same.foldl
    | with_reducible apply Same.foldl1
    | intro _ _ _
    | intro _ _
    | (fail_if_no_progress ((with_reducible apply Same.upd) <;> first | (intro hb; first | with_reducible rfl | (exfalso; revert hb; decide)) | skip))
    | dsimp only
    | split

theorem State.edgePart_frame {s : State} {p : Nat} : Same 0xa202e680000000000000000000040000000001c0003002000000c6030037e000e60080000000000000000000020c0018000000000000 s (State.edgePart s p) := by
  unfold State.edgePart
  try dsimp only
  repeat' first
    | with_reducible exact Same.refl
    | with_reducible assumption
    | with_reducible apply Same.ite
    | ((with_reducible apply Same.via State.releasePart_frame); decide)
    | ((with_reducible apply State.put_frame); decide)
    | ((with_reducible apply Same.via State.modBind_frame); decide)
    | ((with_reducible apply Same.via State.remap_frame); decide)
    | ((with_reducible apply Same.via State.doneWaiter_frame); decide)
    | ((with_reducible apply State.partEvent_frame); (decide); decide)
    | with_reducible apply Same.foldl
    | with_reducible apply Same.foldl1
    | intro _ _ _
    | intro _ _
    | (fail_if_no_progress ((with_reducible apply Same.upd) <;> first | (intro hb; first | with_reducible rfl | (exfalso; revert hb; decide)) | skip))
    | dsimp only
    | split

end Sys2Proof.Machine
end

