-- ==== Sys2Proof/Laws/FrameMode.lean ====
section
/-! SUPPORT. Frames of the functions of Machine/Mode.lean (Laws/Frame.lean). -/

namespace Sys2Proof.Machine

set_option linter.unreachableTactic false
set_option linter.unusedTactic false
set_option linter.unusedVariables false

theorem State.modePrepare_frame {s : State} {c : Cmd} : Same 0x201002000000000000000000000000000000000000000000000000000000003800000000000000000000000000000000000000000000 s (State.modePrepare s c) := by
  unfold State.modePrepare
  try dsimp only
  repeat' first
    | with_reducible exact Same.refl
    | with_reducible assumption
    | with_reducible apply Same.ite
    | ((with_reducible apply State.put_frame); decide)
    | ((with_reducible apply Same.via State.done_frame); decide)
    | with_reducible apply Same.foldl
    | with_reducible apply Same.foldl1
    | intro _ _ _
    | intro _ _
    | (fail_if_no_progress ((with_reducible apply Same.upd) <;> first | (intro hb; first | with_reducible rfl | (exfalso; revert hb; decide)) | skip))
    | dsimp only
    | split

theorem execModePrepare_frame {c : CmdId} {s : State} {t : State} (e : execModePrepare c s = .next t) :
    Same 0x201002000000000000000000000000000000000000000000000000000000003800000000000000000000000000000000000000000000 s t := by
  cases e
  try dsimp only
  repeat' first
    | with_reducible exact Same.refl
    | with_reducible assumption
    | with_reducible apply Same.ite
    | ((with_reducible apply Same.via State.modePrepare_frame); decide)
    | with_reducible apply Same.foldl
    | with_reducible apply Same.foldl1
    | intro _ _ _
    | intro _ _
    | (fail_if_no_progress ((with_reducible apply Same.upd) <;> first | (intro hb; first | with_reducible rfl | (exfalso; revert hb; decide)) | skip))
    | dsimp only
    | split

theorem State.modeAck_frame {s : State} {p : Nat} : Same 0x3020000000000000000000000000000000000000000000 s (State.modeAck s p) := by
  unfold State.modeAck
  try dsimp only
  repeat' first
    | with_reducible exact Same.refl
    | with_reducible assumption
    | with_reducible apply Same.ite
    | ((with_reducible apply State.put_frame); decide)
    | with_reducible apply Same.foldl
    | with_reducible apply Same.foldl1
    | intro _ _ _
    | intro _ _
    | (fail_if_no_progress ((with_reducible apply Same.upd) <;> first | (intro hb; first | with_reducible rfl | (exfalso; revert hb; decide)) | skip))
    | dsimp only
    | split

theorem State.modeHold_frame {s : State} {p : Nat} : Same 0x20000000000000000000000000000000000000000000 s (State.modeHold s p) := by
  unfold State.modeHold
  try dsimp only
  repeat' first
    | with_reducible exact Same.refl
    | with_reducible assumption
    | with_reducible apply Same.ite
    | ((with_reducible apply State.put_frame); decide)
    | with_reducible apply Same.foldl
    | with_reducible apply Same.foldl1
    | intro _ _ _
    | intro _ _
    | (fail_if_no_progress ((with_reducible apply Same.upd) <;> first | (intro hb; first | with_reducible rfl | (exfalso; revert hb; decide)) | skip))
    | dsimp only
    | split

theorem State.endMode_frame {mm : Nat} {rr : State} {s : State} {m : ModeChange} {f : Field} (hf0 : mm.testBit f.code = true) (hm0 : 0x82102000000000000000000000000000000001c000000000000000000000002820000000000000000000000000000000000000000000 ||| mm = mm)
    (hv : Same mm rr s) : Same mm rr (State.endMode s m f) := by
  unfold State.endMode
  try dsimp only
  repeat' first
    | with_reducible exact Same.refl
    | with_reducible assumption
    | with_reducible apply Same.ite
    | ((with_reducible apply State.put_frame); (first | decide | with_reducible assumption | exact or_sub (by decide) hm0 | exact bit_of_or hm0 (by decide)))
    | ((with_reducible apply State.partEvent_frame); (first | decide | with_reducible assumption | exact or_sub (by decide) hm0 | exact bit_of_or hm0 (by decide)); (first | decide | with_reducible assumption | exact or_sub (by decide) hm0 | exact bit_of_or hm0 (by decide)))
    | with_reducible apply Same.foldl
    | with_reducible apply Same.foldl1
    | intro _ _ _
    | intro _ _
    | (fail_if_no_progress ((with_reducible apply Same.upd) <;> first | (intro hb; first | with_reducible rfl | (exfalso; revert hb; decide) | exact absurd (testBit_of_or hm0 hb) (by decide)) | skip))
    | dsimp only
    | split

theorem execModePrepareExpire_frame {s : State} {t : State} (e : execModePrepareExpire s = .next t) :
    Same 0x82102000000000000000000000000000000001c000000000000000001000002820000000000000000000000000000000000000000000 s t := by
  cases e
  try dsimp only
  repeat' first
    | with_reducible exact Same.refl
    | with_reducible assumption
    | with_reducible apply Same.ite
    | ((with_reducible apply State.endMode_frame); (decide); decide)
    | with_reducible apply Same.foldl
    | with_reducible apply Same.foldl1
    | intro _ _ _
    | intro _ _
    | (fail_if_no_progress ((with_reducible apply Same.upd) <;> first | (intro hb; first | with_reducible rfl | (exfalso; revert hb; decide)) | skip))
    | dsimp only
    | split

theorem execModeCommit_frame {c : CmdId} {s : State} {t : State} (e : execModeCommit c s = .next t) :
    Same 0x1002000000000000000000000000000000000000000000000000000000000000000000000000000000000000000000000000000000 s t := by
  cases e
  try dsimp only
  repeat' first
    | with_reducible exact Same.refl
    | with_reducible assumption
    | with_reducible apply Same.ite
    | ((with_reducible apply Same.via State.setCmd_frame); decide)
    | with_reducible apply Same.foldl
    | with_reducible apply Same.foldl1
    | intro _ _ _
    | intro _ _
    | (fail_if_no_progress ((with_reducible apply Same.upd) <;> first | (intro hb; first | with_reducible rfl | (exfalso; revert hb; decide)) | skip))
    | dsimp only
    | split

theorem State.doneMode_frame {s : State} {q n status detail : Nat} : Same 0x200002000000000000000000000000000000000000000000000000000000000000000000000000000000000000000000000000000000 s (State.doneMode s q n status detail) := by
  unfold State.doneMode
  try dsimp only
  repeat' first
    | with_reducible exact Same.refl
    | with_reducible assumption
    | with_reducible apply Same.ite
    | ((with_reducible apply Same.via State.done_frame); decide)
    | with_reducible apply Same.foldl
    | with_reducible apply Same.foldl1
    | intro _ _ _
    | intro _ _
    | (fail_if_no_progress ((with_reducible apply Same.upd) <;> first | (intro hb; first | with_reducible rfl | (exfalso; revert hb; decide)) | skip))
    | dsimp only
    | split

theorem State.decideMode_frame {s : State} {m : ModeChange} {q n : Nat} : Same 0xa2102200000000000000000000000000000001c000000000000000001000002820000000000000000000000000000000000000000000 s (State.decideMode s m q n) := by
  unfold State.decideMode
  try dsimp only
  repeat' first
    | with_reducible exact Same.refl
    | with_reducible assumption
    | with_reducible apply Same.ite
    | ((with_reducible apply State.endMode_frame); (decide); decide)
    | ((with_reducible apply Same.via State.doneMode_frame); decide)
    | with_reducible apply Same.foldl
    | with_reducible apply Same.foldl1
    | intro _ _ _
    | intro _ _
    | (fail_if_no_progress ((with_reducible apply Same.upd) <;> first | (intro hb; first | with_reducible rfl | (exfalso; revert hb; decide)) | skip))
    | dsimp only
    | split

theorem execModeDecision_frame {s : State} {t : State} (e : execModeDecision s = .next t) :
    Same 0xa2102200000000000000000000000000000001c000000000000000001000002820000000000000000000000000000000000000000000 s t := by
  cases e
  try dsimp only
  repeat' first
    | with_reducible exact Same.refl
    | with_reducible assumption
    | with_reducible apply Same.ite
    | ((with_reducible apply Same.via State.decideMode_frame); decide)
    | with_reducible apply Same.foldl
    | with_reducible apply Same.foldl1
    | intro _ _ _
    | intro _ _
    | (fail_if_no_progress ((with_reducible apply Same.upd) <;> first | (intro hb; first | with_reducible rfl | (exfalso; revert hb; decide)) | skip))
    | dsimp only
    | split

theorem State.applyMode_frame {s : State} {m : ModeChange} {p : Nat} : Same 0x202000000000000000000000000000000002000000000000000000000000000 s (State.applyMode s m p) := by
  unfold State.applyMode
  try dsimp only
  repeat' first
    | with_reducible exact Same.refl
    | with_reducible assumption
    | with_reducible apply Same.ite
    | ((with_reducible apply State.put_frame); decide)
    | with_reducible apply Same.foldl
    | with_reducible apply Same.foldl1
    | intro _ _ _
    | intro _ _
    | (fail_if_no_progress ((with_reducible apply Same.upd) <;> first | (intro hb; first | with_reducible rfl | (exfalso; revert hb; decide)) | skip))
    | dsimp only
    | split

theorem execModeSwitch_frame {s : State} {t : State} (e : execModeSwitch s = .next t) :
    Same 0xa2102200000000000000000000000000000001c000000202000000002000002820000000000000002000000000000000000000000000 s t := by
  cases e
  try dsimp only
  repeat' first
    | with_reducible exact Same.refl
    | with_reducible assumption
    | with_reducible apply Same.ite
    | ((with_reducible apply Same.via State.applyMode_frame); decide)
    | ((with_reducible apply State.endMode_frame); (decide); decide)
    | ((with_reducible apply Same.via State.doneMode_frame); decide)
    | with_reducible apply Same.foldl
    | with_reducible apply Same.foldl1
    | intro _ _ _
    | intro _ _
    | (fail_if_no_progress ((with_reducible apply Same.upd) <;> first | (intro hb; first | with_reducible rfl | (exfalso; revert hb; decide)) | skip))
    | dsimp only
    | split

end Sys2Proof.Machine
end

