-- ==== Sys2Proof/Laws/FrameService.lean ====
section
/-! SUPPORT. Frames of the functions of Machine/Service.lean (Laws/Frame.lean). -/

namespace Sys2Proof.Machine

set_option linter.unreachableTactic false
set_option linter.unusedTactic false
set_option linter.unusedVariables false

theorem State.removeSpare_frame {s : State} {p n : Nat} : Same 0x20000000000000000000000000000000000000000000000000000037000040000000000000000000000000000000000000000000 s (State.removeSpare s p n) := by
  unfold State.removeSpare
  try dsimp only
  repeat' first
    | with_reducible exact Same.refl
    | with_reducible assumption
    | with_reducible apply Same.ite
    | ((with_reducible apply Same.via State.freeCore_frame); decide)
    | ((with_reducible apply State.put_frame); decide)
    | ((with_reducible apply Same.via State.reshape_frame); decide)
    | with_reducible apply Same.foldl
    | with_reducible apply Same.foldl1
    | intro _ _ _
    | intro _ _
    | (fail_if_no_progress ((with_reducible apply Same.upd) <;> first | (intro hb; first | with_reducible rfl | (exfalso; revert hb; decide)) | skip))
    | dsimp only
    | split

theorem State.coreFence_frame {s : State} {c : Cmd} : Same 0x22026680000000000000000000000000000001c0003002000000c6000037800062008000000000000000000000000000000000000000 s (State.coreFence s c) := by
  unfold State.coreFence
  try dsimp only
  repeat' first
    | with_reducible exact Same.refl
    | with_reducible assumption
    | with_reducible apply Same.ite
    | ((with_reducible apply State.put_frame); decide)
    | ((with_reducible apply Same.via State.done_frame); decide)
    | ((with_reducible apply Same.via State.removeSpare_frame); decide)
    | ((with_reducible apply Same.via State.setCmd_frame); decide)
    | ((with_reducible apply Same.via State.modBind_frame); decide)
    | ((with_reducible apply Same.via State.remap_frame); decide)
    | with_reducible apply Same.foldl
    | with_reducible apply Same.foldl1
    | intro _ _ _
    | intro _ _
    | (fail_if_no_progress ((with_reducible apply Same.upd) <;> first | (intro hb; first | with_reducible rfl | (exfalso; revert hb; decide)) | skip))
    | dsimp only
    | split

theorem execCoreFence_frame {c : CmdId} {s : State} {t : State} (e : execCoreFence c s = .next t) :
    Same 0x22026680000000000000000000000000000001c0003002000000c6000037800062008000000000000000000000000000000000000000 s t := by
  cases e
  try dsimp only
  repeat' first
    | with_reducible exact Same.refl
    | with_reducible assumption
    | with_reducible apply Same.ite
    | ((with_reducible apply Same.via State.coreFence_frame); decide)
    | with_reducible apply Same.foldl
    | with_reducible apply Same.foldl1
    | intro _ _ _
    | intro _ _
    | (fail_if_no_progress ((with_reducible apply Same.upd) <;> first | (intro hb; first | with_reducible rfl | (exfalso; revert hb; decide)) | skip))
    | dsimp only
    | split

theorem State.coreRemap_frame {s : State} {c : Cmd} : Same 0x2026680000000000000000000000000000001c0003002000000c6000027800062008000000000000000000000000000000000000000 s (State.coreRemap s c) := by
  unfold State.coreRemap
  try dsimp only
  repeat' first
    | with_reducible exact Same.refl
    | with_reducible assumption
    | with_reducible apply Same.ite
    | ((with_reducible apply Same.via State.abortTask_frame); decide)
    | ((with_reducible apply Same.via State.dropNext_frame); decide)
    | ((with_reducible apply Same.via State.setCmd_frame); decide)
    | ((with_reducible apply Same.via State.modBind_frame); decide)
    | ((with_reducible apply Same.via State.remapTo_frame); decide)
    | ((with_reducible apply Same.via State.abort_frame); decide)
    | with_reducible apply Same.foldl
    | with_reducible apply Same.foldl1
    | intro _ _ _
    | intro _ _
    | (fail_if_no_progress ((with_reducible apply Same.upd) <;> first | (intro hb; first | with_reducible rfl | (exfalso; revert hb; decide)) | skip))
    | dsimp only
    | split

theorem execCoreRemap_frame {c : CmdId} {s : State} {t : State} (e : execCoreRemap c s = .next t) :
    Same 0x2026680000000000000000000000000000001c0003002000000c6000027800062008000000000000000000000000000000000000000 s t := by
  cases e
  try dsimp only
  repeat' first
    | with_reducible exact Same.refl
    | with_reducible assumption
    | with_reducible apply Same.ite
    | ((with_reducible apply Same.via State.coreRemap_frame); decide)
    | with_reducible apply Same.foldl
    | with_reducible apply Same.foldl1
    | intro _ _ _
    | intro _ _
    | (fail_if_no_progress ((with_reducible apply Same.upd) <;> first | (intro hb; first | with_reducible rfl | (exfalso; revert hb; decide)) | skip))
    | dsimp only
    | split

theorem execBistRun_frame {c : CmdId} {s : State} {t : State} (e : execBistRun c s = .next t) :
    Same 0x4002000000000000000000000000000000000002000000000000000000000000000000000000000000000000000000000000000000 s t := by
  cases e
  try dsimp only
  repeat' first
    | with_reducible exact Same.refl
    | with_reducible assumption
    | with_reducible apply Same.ite
    | ((with_reducible apply Same.via State.setCmd_frame); decide)
    | ((with_reducible apply State.put_frame); decide)
    | with_reducible apply Same.foldl
    | with_reducible apply Same.foldl1
    | intro _ _ _
    | intro _ _
    | (fail_if_no_progress ((with_reducible apply Same.upd) <;> first | (intro hb; first | with_reducible rfl | (exfalso; revert hb; decide)) | skip))
    | dsimp only
    | split

theorem State.bistDone_frame {s : State} {b : Bist} {result vmin : Nat} : Same 0x10400000000000000000000000000000000000003c000000000000000000000000000000000000000000000000000000000000000000 s (State.bistDone s b result vmin) := by
  unfold State.bistDone
  try dsimp only
  repeat' first
    | with_reducible exact Same.refl
    | with_reducible assumption
    | with_reducible apply Same.ite
    | ((with_reducible apply State.put_frame); decide)
    | ((with_reducible apply Same.via State.endBist_frame); decide)
    | with_reducible apply Same.foldl
    | with_reducible apply Same.foldl1
    | intro _ _ _
    | intro _ _
    | (fail_if_no_progress ((with_reducible apply Same.upd) <;> first | (intro hb; first | with_reducible rfl | (exfalso; revert hb; decide)) | skip))
    | dsimp only
    | split

theorem execBistDone_frame {n : Fin 96} {result vmin : Nat} {s : State} {t : State} (e : execBistDone n result vmin s = .next t) :
    Same 0x30400200000000000000000000000000000000003c000000000000000000000000000000000000000000000000000000000000000000 s t := by
  cases e
  try dsimp only
  repeat' first
    | with_reducible exact Same.refl
    | with_reducible assumption
    | with_reducible apply Same.ite
    | ((with_reducible apply Same.via State.done_frame); decide)
    | ((with_reducible apply Same.via State.bistDone_frame); decide)
    | with_reducible apply Same.foldl
    | with_reducible apply Same.foldl1
    | intro _ _ _
    | intro _ _
    | (fail_if_no_progress ((with_reducible apply Same.upd) <;> first | (intro hb; first | with_reducible rfl | (exfalso; revert hb; decide)) | skip))
    | dsimp only
    | split

theorem execInjectFault_frame {c : CmdId} {s : State} {t : State} (e : execInjectFault c s = .next t) :
    Same 0x2002000000000000000000000000000000000000000000000000000000000000000000000000000000000000000000000000000000 s t := by
  cases e
  try dsimp only
  repeat' first
    | with_reducible exact Same.refl
    | with_reducible assumption
    | with_reducible apply Same.ite
    | ((with_reducible apply Same.via State.setCmd_frame); decide)
    | with_reducible apply Same.foldl
    | with_reducible apply Same.foldl1
    | intro _ _ _
    | intro _ _
    | (fail_if_no_progress ((with_reducible apply Same.upd) <;> first | (intro hb; first | with_reducible rfl | (exfalso; revert hb; decide)) | skip))
    | dsimp only
    | split

theorem State.markPort_frame {s : State} {n : Nat} : Same 0x200000000000000000000000000000000000000000000000000000000000000000000000000000000000000000000000000000000 s (State.markPort s n) := by
  unfold State.markPort
  try dsimp only
  repeat' first
    | with_reducible exact Same.refl
    | with_reducible assumption
    | with_reducible apply Same.ite
    | ((with_reducible apply Same.via State.modPort_frame); decide)
    | with_reducible apply Same.foldl
    | with_reducible apply Same.foldl1
    | intro _ _ _
    | intro _ _
    | (fail_if_no_progress ((with_reducible apply Same.upd) <;> first | (intro hb; first | with_reducible rfl | (exfalso; revert hb; decide)) | skip))
    | dsimp only
    | split

theorem State.flipBits_frame {s : State} {i : Inject} : Same 0x1c0040000000000000000000000000000000000000000000000000000000000000000000000000000000000000000000000000000 s (State.flipBits s i) := by
  unfold State.flipBits
  try dsimp only
  repeat' first
    | with_reducible exact Same.refl
    | with_reducible assumption
    | with_reducible apply Same.ite
    | ((with_reducible apply Same.via State.draw_frame); decide)
    | ((with_reducible apply Same.via State.modCore_frame); decide)
    | ((with_reducible apply Same.via State.setLink_frame); decide)
    | with_reducible apply Same.foldl
    | with_reducible apply Same.foldl1
    | intro _ _ _
    | intro _ _
    | (fail_if_no_progress ((with_reducible apply Same.upd) <;> first | (intro hb; first | with_reducible rfl | (exfalso; revert hb; decide)) | skip))
    | dsimp only
    | split

theorem State.injectMiss_frame {s : State} {p : Nat} : Same 0x2026e80000000000000000000000000000001c0001000000000c6000000000000008000000000000000542000000000000000000000 s (State.injectMiss s p) := by
  unfold State.injectMiss
  try dsimp only
  repeat' first
    | with_reducible exact Same.refl
    | with_reducible assumption
    | with_reducible apply Same.ite
    | ((with_reducible apply Same.via State.fault_frame); decide)
    | ((with_reducible apply Same.via State.abortTask_frame); decide)
    | with_reducible apply Same.foldl
    | with_reducible apply Same.foldl1
    | intro _ _ _
    | intro _ _
    | (fail_if_no_progress ((with_reducible apply Same.upd) <;> first | (intro hb; first | with_reducible rfl | (exfalso; revert hb; decide)) | skip))
    | dsimp only
    | split

theorem State.inject_frame {s : State} {i : Inject} : Same 0xb24beec4000000000000000000000000000001c0241010000000c6000805000000008000142407f80000542000000000000000881950 s (State.inject s i) := by
  unfold State.inject
  try dsimp only
  repeat' first
    | with_reducible exact Same.refl
    | with_reducible assumption
    | with_reducible apply Same.ite
    | ((with_reducible apply Same.via State.markPort_frame); decide)
    | ((with_reducible apply Same.via State.loseLane_frame); decide)
    | ((with_reducible apply Same.via State.portDown_frame); decide)
    | ((with_reducible apply Same.via State.coreFault_frame); decide)
    | ((with_reducible apply Same.via State.flipBits_frame); decide)
    | ((with_reducible apply Same.via State.injectMiss_frame); decide)
    | ((with_reducible apply Same.via State.enterLost_frame); decide)
    | with_reducible apply Same.foldl
    | with_reducible apply Same.foldl1
    | intro _ _ _
    | intro _ _
    | (fail_if_no_progress ((with_reducible apply Same.upd) <;> first | (intro hb; first | with_reducible rfl | (exfalso; revert hb; decide)) | skip))
    | dsimp only
    | split

theorem execInjectedFault_frame {c : CmdId} {s : State} {t : State} (e : execInjectedFault c s = .next t) :
    Same 0xb26beec4000000000000000000000000000001c0241010000000c6000805000000008000142407f80000542000000000000000881950 s t := by
  cases e
  try dsimp only
  repeat' first
    | with_reducible exact Same.refl
    | with_reducible assumption
    | with_reducible apply Same.ite
    | ((with_reducible apply Same.via State.mark_frame); decide)
    | ((with_reducible apply Same.via State.inject_frame); decide)
    | ((with_reducible apply Same.via State.done_frame); decide)
    | with_reducible apply Same.foldl
    | with_reducible apply Same.foldl1
    | intro _ _ _
    | intro _ _
    | (fail_if_no_progress ((with_reducible apply Same.upd) <;> first | (intro hb; first | with_reducible rfl | (exfalso; revert hb; decide)) | skip))
    | dsimp only
    | split

end Sys2Proof.Machine
end

