-- ==== Sys2Proof/Laws/FrameBegin.lean ====
section
/-! SUPPORT. Frames of the functions of Machine/Begin.lean (Laws/Frame.lean). -/

namespace Sys2Proof.Machine

set_option linter.unreachableTactic false
set_option linter.unusedTactic false
set_option linter.unusedVariables false

theorem State.refuseBegin_frame {s : State} {c : Cmd} {p : Nat} {r : Nat × Nat} : Same 0x2026680000000000000000000000000000001c0001000000000c6000000000000008000000000000000002000000000000000000000 s (State.refuseBegin s c p r) := by
  unfold State.refuseBegin
  try dsimp only
  repeat' first
    | with_reducible exact Same.refl
    | with_reducible assumption
    | with_reducible apply Same.ite
    | ((with_reducible apply State.inc_frame); (decide); decide)
    | ((with_reducible apply Same.via State.refuse_frame); decide)
    | with_reducible apply Same.foldl
    | with_reducible apply Same.foldl1
    | intro _ _ _
    | intro _ _
    | (fail_if_no_progress ((with_reducible apply Same.upd) <;> first | (intro hb; first | with_reducible rfl | (exfalso; revert hb; decide)) | skip))
    | dsimp only
    | split

theorem State.takeStep_frame {s : State} {p : Nat} : Same 0x80000000000000000000000000000000000000000000000000000000 s (State.takeStep s p) := by
  unfold State.takeStep
  try dsimp only
  repeat' first
    | with_reducible exact Same.refl
    | with_reducible assumption
    | with_reducible apply Same.ite
    | ((with_reducible apply State.put_frame); decide)
    | with_reducible apply Same.foldl
    | with_reducible apply Same.foldl1
    | intro _ _ _
    | intro _ _
    | (fail_if_no_progress ((with_reducible apply Same.upd) <;> first | (intro hb; first | with_reducible rfl | (exfalso; revert hb; decide)) | skip))
    | dsimp only
    | split

theorem State.skip_frame {s : State} {c : Cmd} {p : Nat} : Same 0x2026e80000000000000000000000000000001c0001000000000c6000000000000008000000000000000540000000000000000000000 s (State.skip s c p) := by
  unfold State.skip
  try dsimp only
  repeat' first
    | with_reducible exact Same.refl
    | with_reducible assumption
    | with_reducible apply Same.ite
    | ((with_reducible apply Same.via State.takeStep_frame); decide)
    | ((with_reducible apply Same.via State.modStrm_frame); decide)
    | ((with_reducible apply Same.via State.setCmd_frame); decide)
    | ((with_reducible apply Same.via State.finish_frame); decide)
    | ((with_reducible apply Same.via State.addUpds_frame); decide)
    | ((with_reducible apply Same.via State.taskDone_frame); decide)
    | with_reducible apply Same.foldl
    | with_reducible apply Same.foldl1
    | intro _ _ _
    | intro _ _
    | (fail_if_no_progress ((with_reducible apply Same.upd) <;> first | (intro hb; first | with_reducible rfl | (exfalso; revert hb; decide)) | skip))
    | dsimp only
    | split

theorem State.clearLanes_frame {s : State} {p lc : Nat} : Same 0x40000000000000000000000000000000000000000000000000000000000000000000000000000000000000000000000000000000 s (State.clearLanes s p lc) := by
  unfold State.clearLanes
  try dsimp only
  repeat' first
    | with_reducible exact Same.refl
    | with_reducible assumption
    | with_reducible apply Same.ite
    | ((with_reducible apply Same.via State.modLcore_frame); decide)
    | with_reducible apply Same.foldl
    | with_reducible apply Same.foldl1
    | intro _ _ _
    | intro _ _
    | (fail_if_no_progress ((with_reducible apply Same.upd) <;> first | (intro hb; first | with_reducible rfl | (exfalso; revert hb; decide)) | skip))
    | dsimp only
    | split

theorem State.beginEffect_frame {s : State} {c : Cmd} {p : Nat} : Same 0x620bee86000000000000000000000000000001c0001010000000c600000500000000800000000000010054200000dc00d70000000000 s (State.beginEffect s c p) := by
  unfold State.beginEffect
  try dsimp only
  repeat' first
    | with_reducible exact Same.refl
    | with_reducible assumption
    | with_reducible apply Same.ite
    | ((with_reducible apply Same.via State.addStream_frame); decide)
    | ((with_reducible apply Same.via State.awaitRows_frame); decide)
    | ((with_reducible apply Same.via State.arm_frame); decide)
    | ((with_reducible apply Same.via State.clearLanes_frame); decide)
    | ((with_reducible apply Same.via State.move_frame); decide)
    | with_reducible apply Same.foldl
    | with_reducible apply Same.foldl1
    | intro _ _ _
    | intro _ _
    | (fail_if_no_progress ((with_reducible apply Same.upd) <;> first | (intro hb; first | with_reducible rfl | (exfalso; revert hb; decide)) | skip))
    | dsimp only
    | split

theorem State.beginNow_frame {s : State} {c : Cmd} {p : Nat} : Same 0x620bee86000000000000000000000000000001c0001010000000c600000500000000800000000000010054200000dc00d70000000000 s (State.beginNow s c p) := by
  unfold State.beginNow
  try dsimp only
  repeat' first
    | with_reducible exact Same.refl
    | with_reducible assumption
    | with_reducible apply Same.ite
    | ((with_reducible apply Same.via State.skip_frame); decide)
    | ((with_reducible apply Same.via State.refuseBegin_frame); decide)
    | ((with_reducible apply Same.via State.setCmd_frame); decide)
    | ((with_reducible apply Same.via State.takeStep_frame); decide)
    | ((with_reducible apply Same.via State.beginEffect_frame); decide)
    | with_reducible apply Same.foldl
    | with_reducible apply Same.foldl1
    | intro _ _ _
    | intro _ _
    | (fail_if_no_progress ((with_reducible apply Same.upd) <;> first | (intro hb; first | with_reducible rfl | (exfalso; revert hb; decide)) | skip))
    | dsimp only
    | split

theorem State.beginPart_frame {s : State} {c : Cmd} {p : Nat} : Same 0x620bee86000000000000000000000000000001c0001010000000c600000500000000800000000000017ffce00000dc00d7c300000000 s (State.beginPart s c p) := by
  unfold State.beginPart
  try dsimp only
  repeat' first
    | with_reducible exact Same.refl
    | with_reducible assumption
    | with_reducible apply Same.ite
    | ((with_reducible apply Same.via State.advance_frame); decide)
    | ((with_reducible apply Same.via State.refuse_frame); decide)
    | ((with_reducible apply Same.via State.catchUp_frame); decide)
    | ((with_reducible apply Same.via State.beginNow_frame); decide)
    | with_reducible apply Same.foldl
    | with_reducible apply Same.foldl1
    | intro _ _ _
    | intro _ _
    | (fail_if_no_progress ((with_reducible apply Same.upd) <;> first | (intro hb; first | with_reducible rfl | (exfalso; revert hb; decide)) | skip))
    | dsimp only
    | split

theorem State.beginPf_frame {s : State} {c : Cmd} : Same 0x2026682000000000000000000000000000001c0001000000000c6000000000000008000000000000000000000000000000000000000 s (State.beginPf s c) := by
  unfold State.beginPf
  try dsimp only
  repeat' first
    | with_reducible exact Same.refl
    | with_reducible assumption
    | with_reducible apply Same.ite
    | ((with_reducible apply Same.via State.advance_frame); decide)
    | ((with_reducible apply Same.via State.refuse_frame); decide)
    | ((with_reducible apply Same.via State.setCmd_frame); decide)
    | with_reducible apply Same.foldl
    | with_reducible apply Same.foldl1
    | intro _ _ _
    | intro _ _
    | (fail_if_no_progress ((with_reducible apply Same.upd) <;> first | (intro hb; first | with_reducible rfl | (exfalso; revert hb; decide)) | skip))
    | dsimp only
    | split

theorem execCommandBegin_frame {c : CmdId} {s : State} {t : State} (e : execCommandBegin c s = .next t) :
    Same 0x620bee86000000000000000000000000000001c0001010000000c600000500000000800000000000017ffce00000dc00d7c300000000 s t := by
  cases e
  try dsimp only
  repeat' first
    | with_reducible exact Same.refl
    | with_reducible assumption
    | with_reducible apply Same.ite
    | ((with_reducible apply Same.via State.beginPart_frame); decide)
    | ((with_reducible apply Same.via State.beginPf_frame); decide)
    | with_reducible apply Same.foldl
    | with_reducible apply Same.foldl1
    | intro _ _ _
    | intro _ _
    | (fail_if_no_progress ((with_reducible apply Same.upd) <;> first | (intro hb; first | with_reducible rfl | (exfalso; revert hb; decide)) | skip))
    | dsimp only
    | split

theorem State.lateBegin_frame {s : State} {c : Cmd} {p : Nat} : Same 0x2026682000000000000000000000000000001c0001000000000c6000000000000008000000000000000000000000000000000000000 s (State.lateBegin s c p) := by
  unfold State.lateBegin
  try dsimp only
  repeat' first
    | with_reducible exact Same.refl
    | with_reducible assumption
    | with_reducible apply Same.ite
    | ((with_reducible apply Same.via State.advance_frame); decide)
    | ((with_reducible apply Same.via State.refuse_frame); decide)
    | with_reducible apply Same.foldl
    | with_reducible apply Same.foldl1
    | intro _ _ _
    | intro _ _
    | (fail_if_no_progress ((with_reducible apply Same.upd) <;> first | (intro hb; first | with_reducible rfl | (exfalso; revert hb; decide)) | skip))
    | dsimp only
    | split

theorem execLateBegin_frame {c : CmdId} {s : State} {t : State} (e : execLateBegin c s = .next t) :
    Same 0x2026682000000000000000000000000000001c0001000000000c6000000000000008000000000000000000000000000000000000000 s t := by
  cases e
  try dsimp only
  repeat' first
    | with_reducible exact Same.refl
    | with_reducible assumption
    | with_reducible apply Same.ite
    | ((with_reducible apply Same.via State.lateBegin_frame); decide)
    | with_reducible apply Same.foldl
    | with_reducible apply Same.foldl1
    | intro _ _ _
    | intro _ _
    | (fail_if_no_progress ((with_reducible apply Same.upd) <;> first | (intro hb; first | with_reducible rfl | (exfalso; revert hb; decide)) | skip))
    | dsimp only
    | split

end Sys2Proof.Machine
end

