-- ==== Sys2Proof/Laws/FrameQueues.lean ====
section
/-! SUPPORT. Frames of the functions of Machine/Queues.lean (Laws/Frame.lean). -/

namespace Sys2Proof.Machine

set_option linter.unreachableTactic false
set_option linter.unusedTactic false
set_option linter.unusedVariables false

theorem execDoorbell_frame {f : Fn} {i : Nat} {tail head : BitVec 32} {mem : List (Nat × Byte)} {s : State} {t : State} (e : execDoorbell f i tail head mem s = .next t) :
    Same 0x10800000000000000000000000000000000000000000000000000000000000000000000000000000000000000000000000000000 s t := by
  cases e
  try dsimp only
  repeat' first
    | with_reducible exact Same.refl
    | with_reducible assumption
    | with_reducible apply Same.ite
    | ((with_reducible apply Same.via State.setQueue_frame); decide)
    | with_reducible apply Same.foldl
    | with_reducible apply Same.foldl1
    | intro _ _ _
    | intro _ _
    | (fail_if_no_progress ((with_reducible apply Same.upd) <;> first | (intro hb; first | with_reducible rfl | (exfalso; revert hb; decide)) | skip))
    | dsimp only
    | split

theorem execQueueFaultClear_frame {q : Fin 16384} {s : State} {t : State} (e : execQueueFaultClear q s = .next t) :
    Same 0xc000000000000000000000000000000000000 s t := by
  cases e
  try dsimp only
  repeat' first
    | with_reducible exact Same.refl
    | with_reducible assumption
    | with_reducible apply Same.ite
    | with_reducible apply State.whenBooted_frame
    | ((with_reducible apply State.put_frame); decide)
    | with_reducible apply Same.foldl
    | with_reducible apply Same.foldl1
    | intro _ _ _
    | intro _ _
    | (fail_if_no_progress ((with_reducible apply Same.upd) <;> first | (intro hb; first | with_reducible rfl | (exfalso; revert hb; decide)) | skip))
    | dsimp only
    | split

theorem State.faultQueue_frame {s : State} {q cause : Nat} : Same 0x80000000000000000000000000000000000000000000000000000000000000000000000c000000000000000000000000000000000000 s (State.faultQueue s q cause) := by
  unfold State.faultQueue
  try dsimp only
  repeat' first
    | with_reducible exact Same.refl
    | with_reducible assumption
    | with_reducible apply Same.ite
    | ((with_reducible apply State.setEvent_frame); (decide); decide)
    | ((with_reducible apply State.put_frame); decide)
    | with_reducible apply Same.foldl
    | with_reducible apply Same.foldl1
    | intro _ _ _
    | intro _ _
    | (fail_if_no_progress ((with_reducible apply Same.upd) <;> first | (intro hb; first | with_reducible rfl | (exfalso; revert hb; decide)) | skip))
    | dsimp only
    | split

theorem execFetchCompletionError_frame {q : Fin 16384} {s : State} {t : State} (e : execFetchCompletionError q s = .next t) :
    Same 0x80000000000000000000000000000000000000000000000000000000000000000000000c000000000000000000000000000000000000 s t := by
  cases e
  try dsimp only
  repeat' first
    | with_reducible exact Same.refl
    | with_reducible assumption
    | with_reducible apply Same.ite
    | ((with_reducible apply Same.via State.faultQueue_frame); decide)
    | with_reducible apply Same.foldl
    | with_reducible apply Same.foldl1
    | intro _ _ _
    | intro _ _
    | (fail_if_no_progress ((with_reducible apply Same.upd) <;> first | (intro hb; first | with_reducible rfl | (exfalso; revert hb; decide)) | skip))
    | dsimp only
    | split

theorem execFenceHostWrite_frame {f : Fn} {i : Nat} {value : BitVec 64} {s : State} {t : State} (e : execFenceHostWrite f i value s = .next t) :
    Same 0x100000000000000000000000000000000000000000000000000000000000000000000000000000000000000000000000000000000000 s t := by
  cases e
  try dsimp only
  repeat' first
    | with_reducible exact Same.refl
    | with_reducible assumption
    | with_reducible apply Same.ite
    | ((with_reducible apply Same.via State.atNextEdge_frame); decide)
    | with_reducible apply Same.foldl
    | with_reducible apply Same.foldl1
    | intro _ _ _
    | intro _ _
    | (fail_if_no_progress ((with_reducible apply Same.upd) <;> first | (intro hb; first | with_reducible rfl | (exfalso; revert hb; decide)) | skip))
    | dsimp only
    | split

theorem execProtectionChange_frame {w : ProtWrite} {s : State} {t : State} (e : execProtectionChange w s = .next t) :
    Same 0x1000000000000000000000000000000000000000000000000000000000000000003c0002000000000000000000000000000000000000 s t := by
  cases e
  try dsimp only
  repeat' first
    | with_reducible exact Same.refl
    | with_reducible assumption
    | with_reducible apply Same.ite
    | with_reducible apply State.whenBooted_frame
    | ((with_reducible apply State.put_frame); decide)
    | ((with_reducible apply Same.via State.atNextEdge_frame); decide)
    | with_reducible apply Same.foldl
    | with_reducible apply Same.foldl1
    | intro _ _ _
    | intro _ _
    | (fail_if_no_progress ((with_reducible apply Same.upd) <;> first | (intro hb; first | with_reducible rfl | (exfalso; revert hb; decide)) | skip))
    | dsimp only
    | split

theorem execResourceWithdraw_frame {w : WithdrawWrite} {s : State} {t : State} (e : execResourceWithdraw w s = .next t) :
    Same 0x100000000000000000000000000000000000000000000000000000000000004100000000000000000000000000000000000000000000 s t := by
  cases e
  try dsimp only
  repeat' first
    | with_reducible exact Same.refl
    | with_reducible assumption
    | with_reducible apply Same.ite
    | with_reducible apply State.whenBooted_frame
    | ((with_reducible apply State.put_frame); decide)
    | ((with_reducible apply Same.via State.atNextEdge_frame); decide)
    | with_reducible apply Same.foldl
    | with_reducible apply Same.foldl1
    | intro _ _ _
    | intro _ _
    | (fail_if_no_progress ((with_reducible apply Same.upd) <;> first | (intro hb; first | with_reducible rfl | (exfalso; revert hb; decide)) | skip))
    | dsimp only
    | split

theorem execVfEnableChange_frame {v : Fin 16} {on : Bool} {s : State} {t : State} (e : execVfEnableChange v on s = .next t) :
    Same 0x100000000000000000000000000000000000000000000000000000000000000000000000000000000000000000000000000000000000 s t := by
  cases e
  try dsimp only
  repeat' first
    | with_reducible exact Same.refl
    | with_reducible assumption
    | with_reducible apply Same.ite
    | ((with_reducible apply Same.via State.atNextEdge_frame); decide)
    | with_reducible apply Same.foldl
    | with_reducible apply Same.foldl1
    | intro _ _ _
    | intro _ _
    | (fail_if_no_progress ((with_reducible apply Same.upd) <;> first | (intro hb; first | with_reducible rfl | (exfalso; revert hb; decide)) | skip))
    | dsimp only
    | split

theorem State.withdraw_frame {s : State} {hit : Cmd → Bool} : Same 0x2026680000000000000000000000000000001c0001000000000c6000000000000008000000000000000000000000000000000000000 s (State.withdraw s hit) := by
  unfold State.withdraw
  try dsimp only
  repeat' first
    | with_reducible exact Same.refl
    | with_reducible assumption
    | with_reducible apply Same.ite
    | ((with_reducible apply Same.via State.abortTask_frame); decide)
    | ((with_reducible apply Same.via State.dropNext_frame); decide)
    | ((with_reducible apply Same.via State.finish_frame); decide)
    | with_reducible apply Same.foldl
    | with_reducible apply Same.foldl1
    | intro _ _ _
    | intro _ _
    | (fail_if_no_progress ((with_reducible apply Same.upd) <;> first | (intro hb; first | with_reducible rfl | (exfalso; revert hb; decide)) | skip))
    | dsimp only
    | split

theorem State.changeQueues_frame {s : State} {p : Nat} {new : Nat × Nat} : Same 0x82026680000000000000000000000000000001c0001000000000c6004000000000008000000000000000000000000000000000000000 s (State.changeQueues s p new) := by
  unfold State.changeQueues
  try dsimp only
  repeat' first
    | with_reducible exact Same.refl
    | with_reducible assumption
    | with_reducible apply Same.ite
    | ((with_reducible apply Same.via State.ignored_frame); decide)
    | ((with_reducible apply Same.via State.withdraw_frame); decide)
    | ((with_reducible apply Same.via State.modBind_frame); decide)
    | ((with_reducible apply State.partEvent_frame); (decide); decide)
    | with_reducible apply Same.foldl
    | with_reducible apply Same.foldl1
    | intro _ _ _
    | intro _ _
    | (fail_if_no_progress ((with_reducible apply Same.upd) <;> first | (intro hb; first | with_reducible rfl | (exfalso; revert hb; decide)) | skip))
    | dsimp only
    | split

theorem State.changeFences_frame {s : State} {p : Nat} {new : Nat × Nat} : Same 0x82026680000000000000000000000000000001c0001000000000c6004000000000008000000000000000000000000000000000000000 s (State.changeFences s p new) := by
  unfold State.changeFences
  try dsimp only
  repeat' first
    | with_reducible exact Same.refl
    | with_reducible assumption
    | with_reducible apply Same.ite
    | ((with_reducible apply Same.via State.ignored_frame); decide)
    | ((with_reducible apply Same.via State.withdraw_frame); decide)
    | ((with_reducible apply Same.via State.modBind_frame); decide)
    | ((with_reducible apply State.partEvent_frame); (decide); decide)
    | with_reducible apply Same.foldl
    | with_reducible apply Same.foldl1
    | intro _ _ _
    | intro _ _
    | (fail_if_no_progress ((with_reducible apply Same.upd) <;> first | (intro hb; first | with_reducible rfl | (exfalso; revert hb; decide)) | skip))
    | dsimp only
    | split

theorem State.changeEnable_frame {s : State} {q : Nat} {on : Bool} : Same 0x82027680000000000000000000000000000001c0001000000000c6004000000000009e00000000000000000000000000000000000000 s (State.changeEnable s q on) := by
  unfold State.changeEnable
  try dsimp only
  repeat' first
    | with_reducible exact Same.refl
    | with_reducible assumption
    | with_reducible apply Same.ite
    | ((with_reducible apply Same.via State.setQueue_frame); decide)
    | ((with_reducible apply Same.via State.restartQueue_frame); decide)
    | ((with_reducible apply Same.via State.withdraw_frame); decide)
    | ((with_reducible apply State.partEvent_frame); (decide); decide)
    | with_reducible apply Same.foldl
    | with_reducible apply Same.foldl1
    | intro _ _ _
    | intro _ _
    | (fail_if_no_progress ((with_reducible apply Same.upd) <;> first | (intro hb; first | with_reducible rfl | (exfalso; revert hb; decide)) | skip))
    | dsimp only
    | split

theorem State.unfitSlots_frame {s : State} {p : Nat} {uses : PlanEntry → Bool} : Same 0x20000000000000000000000000000000000000000000000000000000800000000000000000000000000000000000000000000000 s (State.unfitSlots s p uses) := by
  unfold State.unfitSlots
  try dsimp only
  repeat' first
    | with_reducible exact Same.refl
    | with_reducible assumption
    | with_reducible apply Same.ite
    | ((with_reducible apply Same.via State.setSlot_frame); decide)
    | ((with_reducible apply State.put_frame); decide)
    | with_reducible apply Same.foldl
    | with_reducible apply Same.foldl1
    | intro _ _ _
    | intro _ _
    | (fail_if_no_progress ((with_reducible apply Same.upd) <;> first | (intro hb; first | with_reducible rfl | (exfalso; revert hb; decide)) | skip))
    | dsimp only
    | split

theorem State.changePorts_frame {s : State} {p mask : Nat} : Same 0x82026680000000000000000000000000000001c0001000000000c6004000800000008000000000000000000000000000000000000000 s (State.changePorts s p mask) := by
  unfold State.changePorts
  try dsimp only
  repeat' first
    | with_reducible exact Same.refl
    | with_reducible assumption
    | with_reducible apply Same.ite
    | ((with_reducible apply Same.via State.withdraw_frame); decide)
    | ((with_reducible apply Same.via State.unfitSlots_frame); decide)
    | ((with_reducible apply Same.via State.modBind_frame); decide)
    | ((with_reducible apply State.partEvent_frame); (decide); decide)
    | with_reducible apply Same.foldl
    | with_reducible apply Same.foldl1
    | intro _ _ _
    | intro _ _
    | (fail_if_no_progress ((with_reducible apply Same.upd) <;> first | (intro hb; first | with_reducible rfl | (exfalso; revert hb; decide)) | skip))
    | dsimp only
    | split

theorem State.changePages_frame {s : State} {p k codes : Nat} : Same 0x8202e680000000000000000000040000000001c0001000000000c6004000800000008000000000000000000000000000000000000000 s (State.changePages s p k codes) := by
  unfold State.changePages
  try dsimp only
  repeat' first
    | with_reducible exact Same.refl
    | with_reducible assumption
    | with_reducible apply Same.ite
    | ((with_reducible apply Same.via State.withdraw_frame); decide)
    | ((with_reducible apply Same.via State.unfitSlots_frame); decide)
    | ((with_reducible apply Same.via State.modBind_frame); decide)
    | ((with_reducible apply Same.via State.releasePages_frame); decide)
    | ((with_reducible apply State.partEvent_frame); (decide); decide)
    | with_reducible apply Same.foldl
    | with_reducible apply Same.foldl1
    | intro _ _ _
    | intro _ _
    | (fail_if_no_progress ((with_reducible apply Same.upd) <;> first | (intro hb; first | with_reducible rfl | (exfalso; revert hb; decide)) | skip))
    | dsimp only
    | split

theorem State.writeRecord_frame {s : State} {r : Rec} : Same 0x800000000000000000000000000000000000000000000000000000000000000800000000000000000000000000000000000000 s (State.writeRecord s r) := by
  unfold State.writeRecord
  try dsimp only
  repeat' first
    | with_reducible exact Same.refl
    | with_reducible assumption
    | with_reducible apply Same.ite
    | ((with_reducible apply Same.via State.hostWrite_frame); decide)
    | ((with_reducible apply State.put_frame); decide)
    | with_reducible apply Same.foldl
    | with_reducible apply Same.foldl1
    | intro _ _ _
    | intro _ _
    | (fail_if_no_progress ((with_reducible apply Same.upd) <;> first | (intro hb; first | with_reducible rfl | (exfalso; revert hb; decide)) | skip))
    | dsimp only
    | split

theorem State.noteRecord_frame {s : State} {r : Rec} : Same 0x6000000000000000000000000000000000001c000000000000000000000000000000000000000000000000000000000000000000000 s (State.noteRecord s r) := by
  unfold State.noteRecord
  try dsimp only
  repeat' first
    | with_reducible exact Same.refl
    | with_reducible assumption
    | with_reducible apply Same.ite
    | ((with_reducible apply Same.via State.update_frame); decide)
    | ((with_reducible apply Same.via State.raise_frame); decide)
    | with_reducible apply Same.foldl
    | with_reducible apply Same.foldl1
    | intro _ _ _
    | intro _ _
    | (fail_if_no_progress ((with_reducible apply Same.upd) <;> first | (intro hb; first | with_reducible rfl | (exfalso; revert hb; decide)) | skip))
    | dsimp only
    | split

theorem State.dropProgress_frame {s : State} {q : Nat} : Same 0x4000000000000000000000000000000000000000000000000000000000000004000000000000000000000000000000000000000 s (State.dropProgress s q) := by
  unfold State.dropProgress
  try dsimp only
  repeat' first
    | with_reducible exact Same.refl
    | with_reducible assumption
    | with_reducible apply Same.ite
    | ((with_reducible apply State.inc_frame); (decide); decide)
    | with_reducible apply Same.foldl
    | with_reducible apply Same.foldl1
    | intro _ _ _
    | intro _ _
    | (fail_if_no_progress ((with_reducible apply Same.upd) <;> first | (intro hb; first | with_reducible rfl | (exfalso; revert hb; decide)) | skip))
    | dsimp only
    | split

theorem execCompletionRecord_frame {q : Fin 16384} {s : State} {t : State} (e : execCompletionRecord q s = .next t) :
    Same 0x6000480000000000000000000000000000001c000000000000000000000000000004800000000000000000000000000000000000000 s t := by
  cases e
  try dsimp only
  repeat' first
    | with_reducible exact Same.refl
    | with_reducible assumption
    | with_reducible apply Same.ite
    | ((with_reducible apply Same.via State.writeRecord_frame); decide)
    | ((with_reducible apply Same.via State.noteRecord_frame); decide)
    | ((with_reducible apply Same.via State.dropProgress_frame); decide)
    | with_reducible apply Same.foldl
    | with_reducible apply Same.foldl1
    | intro _ _ _
    | intro _ _
    | (fail_if_no_progress ((with_reducible apply Same.upd) <;> first | (intro hb; first | with_reducible rfl | (exfalso; revert hb; decide)) | skip))
    | dsimp only
    | split

end Sys2Proof.Machine
end

