-- ==== Sys2Proof/Laws/FrameBringUp.lean ====
section
/-! SUPPORT. Frames of the functions of Machine/BringUp.lean (Laws/Frame.lean). -/

namespace Sys2Proof.Machine

set_option linter.unreachableTactic false
set_option linter.unusedTactic false
set_option linter.unusedVariables false

theorem State.bringUpFail_frame {s : State} {d : Nat} : Same 0x2080000000000000000000000000000000001c000001900080000000000000000000000000000000000000000000000000000000000 s (State.bringUpFail s d) := by
  unfold State.bringUpFail
  try dsimp only
  repeat' first
    | with_reducible exact Same.refl
    | with_reducible assumption
    | with_reducible apply Same.ite
    | ((with_reducible apply Same.via State.domainCause_frame); decide)
    | ((with_reducible apply State.put_frame); decide)
    | ((with_reducible apply State.inc_frame); (decide); decide)
    | ((with_reducible apply Same.via State.setDomain_frame); decide)
    | ((with_reducible apply Same.via State.countFailed_frame); decide)
    | with_reducible apply Same.foldl
    | with_reducible apply Same.foldl1
    | intro _ _ _
    | intro _ _
    | (fail_if_no_progress ((with_reducible apply Same.upd) <;> first | (intro hb; first | with_reducible rfl | (exfalso; revert hb; decide)) | skip))
    | dsimp only
    | split

theorem State.bringUpOn_frame {s : State} {d : Nat} {baseline : Bool} : Same 0x800040000000000000000000000000000000000021000000000000000000000000000000000000000000000000000000000000000 s (State.bringUpOn s d baseline) := by
  unfold State.bringUpOn
  try dsimp only
  repeat' first
    | with_reducible exact Same.refl
    | with_reducible assumption
    | with_reducible apply Same.ite
    | ((with_reducible apply State.put_frame); decide)
    | ((with_reducible apply Same.via State.setDomain_frame); decide)
    | ((with_reducible apply Same.via State.draw_frame); decide)
    | ((with_reducible apply State.putA_frame); decide)
    | with_reducible apply Same.foldl
    | with_reducible apply Same.foldl1
    | intro _ _ _
    | intro _ _
    | (fail_if_no_progress ((with_reducible apply Same.upd) <;> first | (intro hb; first | with_reducible rfl | (exfalso; revert hb; decide)) | skip))
    | dsimp only
    | split

theorem State.bringUpUncore_frame {s : State} {d n : Nat} : Same 0x2080004000000000000000000000000000001c000021d00080000000000000000000000000000000000000000000000000000000000 s (State.bringUpUncore s d n) := by
  unfold State.bringUpUncore
  try dsimp only
  repeat' first
    | with_reducible exact Same.refl
    | with_reducible assumption
    | with_reducible apply Same.ite
    | ((with_reducible apply Same.via State.bringUpOn_frame); decide)
    | ((with_reducible apply Same.via State.domainCause_frame); decide)
    | ((with_reducible apply State.put_frame); decide)
    | ((with_reducible apply Same.via State.setDomain_frame); decide)
    | ((with_reducible apply Same.via State.bringUpFail_frame); decide)
    | with_reducible apply Same.foldl
    | with_reducible apply Same.foldl1
    | intro _ _ _
    | intro _ _
    | (fail_if_no_progress ((with_reducible apply Same.upd) <;> first | (intro hb; first | with_reducible rfl | (exfalso; revert hb; decide)) | skip))
    | dsimp only
    | split

theorem State.trainLinks_frame {s : State} {col : Nat} : Same 0x100000000000000 s (State.trainLinks s col) := by
  unfold State.trainLinks
  try dsimp only
  repeat' first
    | with_reducible exact Same.refl
    | with_reducible assumption
    | with_reducible apply Same.ite
    | ((with_reducible apply State.put_frame); decide)
    | with_reducible apply Same.foldl
    | with_reducible apply Same.foldl1
    | intro _ _ _
    | intro _ _
    | (fail_if_no_progress ((with_reducible apply Same.upd) <;> first | (intro hb; first | with_reducible rfl | (exfalso; revert hb; decide)) | skip))
    | dsimp only
    | split

theorem State.bringUpStack_frame {s : State} {m : Nat} {bad : Bool} : Same 0x2080004000000000000000000000000000001c000021900080000000000000000000000000000000000000000002000000000000000 s (State.bringUpStack s m bad) := by
  unfold State.bringUpStack
  try dsimp only
  repeat' first
    | with_reducible exact Same.refl
    | with_reducible assumption
    | with_reducible apply Same.ite
    | ((with_reducible apply Same.via State.bringUpFail_frame); decide)
    | ((with_reducible apply Same.via State.stackState_frame); decide)
    | ((with_reducible apply Same.via State.bringUpOn_frame); decide)
    | ((with_reducible apply State.put_frame); decide)
    | with_reducible apply Same.foldl
    | with_reducible apply Same.foldl1
    | intro _ _ _
    | intro _ _
    | (fail_if_no_progress ((with_reducible apply Same.upd) <;> first | (intro hb; first | with_reducible rfl | (exfalso; revert hb; decide)) | skip))
    | dsimp only
    | split

theorem State.bringUpCore_frame {s : State} {n : Nat} {bad : Bool} : Same 0x12080004000000000000000000000000000001c010021b00080000000004000000000000000000000000000000000000000000000000 s (State.bringUpCore s n bad) := by
  unfold State.bringUpCore
  try dsimp only
  repeat' first
    | with_reducible exact Same.refl
    | with_reducible assumption
    | with_reducible apply Same.ite
    | ((with_reducible apply State.put_frame); decide)
    | ((with_reducible apply Same.via State.bringUpFail_frame); decide)
    | ((with_reducible apply Same.via State.bringUpOn_frame); decide)
    | ((with_reducible apply Same.via State.atNextEdge_frame); decide)
    | with_reducible apply Same.foldl
    | with_reducible apply Same.foldl1
    | intro _ _ _
    | intro _ _
    | (fail_if_no_progress ((with_reducible apply Same.upd) <;> first | (intro hb; first | with_reducible rfl | (exfalso; revert hb; decide)) | skip))
    | dsimp only
    | split

theorem State.stopBringUp_frame {s : State} : Same 0x10000000000000000000000000000008000000000000000000000000000000000000000000000000000000000 s (State.stopBringUp s) := by
  unfold State.stopBringUp
  try dsimp only
  repeat' first
    | with_reducible exact Same.refl
    | with_reducible assumption
    | with_reducible apply Same.ite
    | ((with_reducible apply State.put_frame); decide)
    | with_reducible apply Same.foldl
    | with_reducible apply Same.foldl1
    | intro _ _ _
    | intro _ _
    | (fail_if_no_progress ((with_reducible apply Same.upd) <;> first | (intro hb; first | with_reducible rfl | (exfalso; revert hb; decide)) | skip))
    | dsimp only
    | split

theorem State.columnRing_frame {s : State} {col : Nat} {failed : List Nat} : Same 0x12080004000000000001000000000000000001c010021f00088000000004000000000000000000000000000000002100000000000000 s (State.columnRing s col failed) := by
  unfold State.columnRing
  try dsimp only
  repeat' first
    | with_reducible exact Same.refl
    | with_reducible assumption
    | with_reducible apply Same.ite
    | ((with_reducible apply Same.via State.bringUpUncore_frame); decide)
    | ((with_reducible apply Same.via State.stopBringUp_frame); decide)
    | ((with_reducible apply Same.via State.trainLinks_frame); decide)
    | ((with_reducible apply Same.via State.bringUpStack_frame); decide)
    | ((with_reducible apply Same.via State.bringUpCore_frame); decide)
    | with_reducible apply Same.foldl
    | with_reducible apply Same.foldl1
    | intro _ _ _
    | intro _ _
    | (fail_if_no_progress ((with_reducible apply Same.upd) <;> first | (intro hb; first | with_reducible rfl | (exfalso; revert hb; decide)) | skip))
    | dsimp only
    | split

theorem State.readModules_frame {s : State} : Same 0x104000000001e00000000000000000000000000001c040000000000000000000000000000000000000000000000000000000000 s (State.readModules s) := by
  unfold State.readModules
  try dsimp only
  repeat' first
    | with_reducible exact Same.refl
    | with_reducible assumption
    | with_reducible apply Same.ite
    | ((with_reducible apply Same.via State.draw_frame); decide)
    | ((with_reducible apply State.put_frame); decide)
    | ((with_reducible apply State.putA_frame); decide)
    | ((with_reducible apply State.fruCopy_frame); (decide); decide)
    | ((with_reducible apply Same.via State.countBricks_frame); decide)
    | with_reducible apply Same.foldl
    | with_reducible apply Same.foldl1
    | intro _ _ _
    | intro _ _
    | (fail_if_no_progress ((with_reducible apply Same.upd) <;> first | (intro hb; first | with_reducible rfl | (exfalso; revert hb; decide)) | skip))
    | dsimp only
    | split

theorem State.gondolaRing_frame {s : State} {failed : List Nat} : Same 0x3880104000000001e000000000000000fc441e00002191c0c160000000000000000000000000000780000010000000000000000000e s (State.gondolaRing s failed) := by
  unfold State.gondolaRing
  try dsimp only
  repeat' first
    | with_reducible exact Same.refl
    | with_reducible assumption
    | with_reducible apply Same.ite
    | ((with_reducible apply Same.via State.bringUpFail_frame); decide)
    | ((with_reducible apply Same.via State.bringUpOn_frame); decide)
    | ((with_reducible apply State.put_frame); decide)
    | ((with_reducible apply Same.via State.bootHalves_frame); decide)
    | ((with_reducible apply Same.via State.readModules_frame); decide)
    | ((with_reducible apply Same.via State.applySettings_frame); decide)
    | with_reducible apply Same.foldl
    | with_reducible apply Same.foldl1
    | intro _ _ _
    | intro _ _
    | (fail_if_no_progress ((with_reducible apply Same.upd) <;> first | (intro hb; first | with_reducible rfl | (exfalso; revert hb; decide)) | skip))
    | dsimp only
    | split

theorem State.bringUpLaser_frame {s : State} {e : Nat} {bad : Bool} : Same 0x82080100000000001100000000000000000001c000001900080000000000000000000001000800000000000000000000000000000000 s (State.bringUpLaser s e bad) := by
  unfold State.bringUpLaser
  try dsimp only
  repeat' first
    | with_reducible exact Same.refl
    | with_reducible assumption
    | with_reducible apply Same.ite
    | ((with_reducible apply Same.via State.bringUpFail_frame); decide)
    | ((with_reducible apply Same.via State.checkLaser_frame); decide)
    | with_reducible apply Same.foldl
    | with_reducible apply Same.foldl1
    | intro _ _ _
    | intro _ _
    | (fail_if_no_progress ((with_reducible apply Same.upd) <;> first | (intro hb; first | with_reducible rfl | (exfalso; revert hb; decide)) | skip))
    | dsimp only
    | split

theorem State.opticsRing_frame {s : State} {failed : List Nat} : Same 0x820a0104000000001102000008000000000001d000021900088100000000000000000001100881000000000000000000000000000001 s (State.opticsRing s failed) := by
  unfold State.opticsRing
  try dsimp only
  repeat' first
    | with_reducible exact Same.refl
    | with_reducible assumption
    | with_reducible apply Same.ite
    | ((with_reducible apply Same.via State.bringUpFail_frame); decide)
    | ((with_reducible apply Same.via State.bringUpOn_frame); decide)
    | ((with_reducible apply Same.via State.setPortState_frame); decide)
    | ((with_reducible apply Same.via State.bringUpLaser_frame); decide)
    | ((with_reducible apply State.put_frame); decide)
    | ((with_reducible apply Same.via State.completeBringUp_frame); decide)
    | with_reducible apply Same.foldl
    | with_reducible apply Same.foldl1
    | intro _ _ _
    | intro _ _
    | (fail_if_no_progress ((with_reducible apply Same.upd) <;> first | (intro hb; first | with_reducible rfl | (exfalso; revert hb; decide)) | skip))
    | dsimp only
    | split

theorem execBringUpRing_frame {failed : List Nat} {s : State} {t : State} (e : execBringUpRing failed s = .next t) :
    Same 0x938a0104000000001f030000080000000fc441f010021f1c0cd70000000400000000000110088100780000010000210000000000000f s t := by
  cases e
  try dsimp only
  repeat' first
    | with_reducible exact Same.refl
    | with_reducible assumption
    | with_reducible apply Same.ite
    | ((with_reducible apply State.put_frame); decide)
    | ((with_reducible apply Same.via State.gondolaRing_frame); decide)
    | ((with_reducible apply Same.via State.opticsRing_frame); decide)
    | ((with_reducible apply Same.via State.columnRing_frame); decide)
    | with_reducible apply Same.foldl
    | with_reducible apply Same.foldl1
    | intro _ _ _
    | intro _ _
    | (fail_if_no_progress ((with_reducible apply Same.upd) <;> first | (intro hb; first | with_reducible rfl | (exfalso; revert hb; decide)) | skip))
    | dsimp only
    | split

theorem execRingTimeout_frame {s : State} {t : State} (e : execRingTimeout s = .next t) :
    Same 0x10000000000000000000000000000008000000000000000000000000000000000000000000000000000000000 s t := by
  cases e
  try dsimp only
  repeat' first
    | with_reducible exact Same.refl
    | with_reducible assumption
    | with_reducible apply Same.ite
    | ((with_reducible apply Same.via State.stopBringUp_frame); decide)
    | with_reducible apply Same.foldl
    | with_reducible apply Same.foldl1
    | intro _ _ _
    | intro _ _
    | (fail_if_no_progress ((with_reducible apply Same.upd) <;> first | (intro hb; first | with_reducible rfl | (exfalso; revert hb; decide)) | skip))
    | dsimp only
    | split

theorem State.reloadBook_frame {s : State} : Same 0x20000000000000000000000000000000000e1c000000000000000000000000000000000000000000000000000000000000000000000 s (State.reloadBook s) := by
  unfold State.reloadBook
  try dsimp only
  repeat' first
    | with_reducible exact Same.refl
    | with_reducible assumption
    | with_reducible apply Same.ite
    | ((with_reducible apply State.putA_frame); decide)
    | ((with_reducible apply State.put_frame); decide)
    | with_reducible apply Same.foldl
    | with_reducible apply Same.foldl1
    | intro _ _ _
    | intro _ _
    | (fail_if_no_progress ((with_reducible apply Same.upd) <;> first | (intro hb; first | with_reducible rfl | (exfalso; revert hb; decide)) | skip))
    | dsimp only
    | split

theorem execHostLinkChange_frame {h : Fin 2} {up full : Bool} {s : State} {t : State} (e : execHostLinkChange h up full s = .next t) :
    Same 0x100000000000000000f00000000000000000000000000000000000000000000000000000000000000000000000000000000000000000 s t := by
  cases e
  try dsimp only
  repeat' first
    | with_reducible exact Same.refl
    | with_reducible assumption
    | with_reducible apply Same.ite
    | ((with_reducible apply State.put_frame); decide)
    | ((with_reducible apply Same.via State.atNextEdge_frame); decide)
    | with_reducible apply Same.foldl
    | with_reducible apply Same.foldl1
    | intro _ _ _
    | intro _ _
    | (fail_if_no_progress ((with_reducible apply Same.upd) <;> first | (intro hb; first | with_reducible rfl | (exfalso; revert hb; decide)) | skip))
    | dsimp only
    | split

end Sys2Proof.Machine
end

