-- ==== Sys2Proof/Laws/FrameAttest.lean ====
section
/-! SUPPORT. Frames of the functions of Machine/Attest.lean (Laws/Frame.lean). -/

namespace Sys2Proof.Machine

set_option linter.unreachableTactic false
set_option linter.unusedTactic false
set_option linter.unusedVariables false

theorem State.setAddress_frame {s : State} {addr : Nat} : Same 0x10000000000000000000000000000000000000000000000000000000000000000000000000000000000000000000000000000000000 s (State.setAddress s addr) := by
  unfold State.setAddress
  try dsimp only
  repeat' first
    | with_reducible exact Same.refl
    | with_reducible assumption
    | with_reducible apply Same.ite
    | with_reducible apply Same.foldl
    | with_reducible apply Same.foldl1
    | intro _ _ _
    | intro _ _
    | (fail_if_no_progress ((with_reducible apply Same.upd) <;> first | (intro hb; first | with_reducible rfl | (exfalso; revert hb; decide)) | skip))
    | dsimp only
    | split

theorem execEntdaa_frame {addr : Fin 128} {s : State} {t : State} (e : execEntdaa addr s = .next t) :
    Same 0x110000000000000000000000000000000000000000000000000000000000000000000000000000000000000000000000000000000000 s t := by
  cases e
  try dsimp only
  repeat' first
    | with_reducible exact Same.refl
    | with_reducible assumption
    | with_reducible apply Same.ite
    | with_reducible apply State.whenBooted_frame
    | ((with_reducible apply State.viaFirmware_frame); (decide))
    | ((with_reducible apply Same.via State.setAddress_frame); decide)
    | with_reducible apply Same.foldl
    | with_reducible apply Same.foldl1
    | intro _ _ _
    | intro _ _
    | (fail_if_no_progress ((with_reducible apply Same.upd) <;> first | (intro hb; first | with_reducible rfl | (exfalso; revert hb; decide)) | skip))
    | dsimp only
    | split

theorem State.spdmReply_frame {s : State} {request reply : Bytes} : Same 0x410000000000000000000000000000000000000000000000000000000000000000000000000000000000000000000000000000000000 s (State.spdmReply s request reply) := by
  unfold State.spdmReply
  try dsimp only
  repeat' first
    | with_reducible exact Same.refl
    | with_reducible assumption
    | with_reducible apply Same.ite
    | ((with_reducible apply Same.via State.send_frame); decide)
    | with_reducible apply Same.foldl
    | with_reducible apply Same.foldl1
    | intro _ _ _
    | intro _ _
    | (fail_if_no_progress ((with_reducible apply Same.upd) <;> first | (intro hb; first | with_reducible rfl | (exfalso; revert hb; decide)) | skip))
    | dsimp only
    | split

theorem State.spdmRefuse_frame {s : State} : Same 0x2000000000000000000000000000000000001c000000000000000000000000000000000000000000000000000000000000000000000 s (State.spdmRefuse s) := by
  unfold State.spdmRefuse
  try dsimp only
  repeat' first
    | with_reducible exact Same.refl
    | with_reducible assumption
    | with_reducible apply Same.ite
    | ((with_reducible apply Same.via State.event_frame); decide)
    | with_reducible apply Same.foldl
    | with_reducible apply Same.foldl1
    | intro _ _ _
    | intro _ _
    | (fail_if_no_progress ((with_reducible apply Same.upd) <;> first | (intro hb; first | with_reducible rfl | (exfalso; revert hb; decide)) | skip))
    | dsimp only
    | split

theorem State.replyVersion_frame {s : State} : Same 0x410000000000000000000000000000000000000000000000000000000000000000000000000000000000000000000000000000000000 s (State.replyVersion s) := by
  unfold State.replyVersion
  try dsimp only
  repeat' first
    | with_reducible exact Same.refl
    | with_reducible assumption
    | with_reducible apply Same.ite
    | ((with_reducible apply Same.via State.spdmReply_frame); decide)
    | with_reducible apply Same.foldl
    | with_reducible apply Same.foldl1
    | intro _ _ _
    | intro _ _
    | (fail_if_no_progress ((with_reducible apply Same.upd) <;> first | (intro hb; first | with_reducible rfl | (exfalso; revert hb; decide)) | skip))
    | dsimp only
    | split

theorem execGetVersion_frame {s : State} {t : State} (e : execGetVersion s = .next t) :
    Same 0x510000000000000000000000000000000000000000000000000000000000000000000000000000000000000000000000000000000000 s t := by
  cases e
  try dsimp only
  repeat' first
    | with_reducible exact Same.refl
    | with_reducible assumption
    | with_reducible apply Same.ite
    | with_reducible apply State.whenBooted_frame
    | ((with_reducible apply State.viaFirmware_frame); (decide))
    | ((with_reducible apply Same.via State.replyVersion_frame); decide)
    | with_reducible apply Same.foldl
    | with_reducible apply Same.foldl1
    | intro _ _ _
    | intro _ _
    | (fail_if_no_progress ((with_reducible apply Same.upd) <;> first | (intro hb; first | with_reducible rfl | (exfalso; revert hb; decide)) | skip))
    | dsimp only
    | split

theorem State.replyCapabilities_frame {s : State} : Same 0x410000000000000000000000000000000000000000000000000000000000000000000000000000000000000000000000000000000000 s (State.replyCapabilities s) := by
  unfold State.replyCapabilities
  try dsimp only
  repeat' first
    | with_reducible exact Same.refl
    | with_reducible assumption
    | with_reducible apply Same.ite
    | ((with_reducible apply Same.via State.spdmReply_frame); decide)
    | with_reducible apply Same.foldl
    | with_reducible apply Same.foldl1
    | intro _ _ _
    | intro _ _
    | (fail_if_no_progress ((with_reducible apply Same.upd) <;> first | (intro hb; first | with_reducible rfl | (exfalso; revert hb; decide)) | skip))
    | dsimp only
    | split

theorem execGetCapabilities_frame {s : State} {t : State} (e : execGetCapabilities s = .next t) :
    Same 0x510000000000000000000000000000000000000000000000000000000000000000000000000000000000000000000000000000000000 s t := by
  cases e
  try dsimp only
  repeat' first
    | with_reducible exact Same.refl
    | with_reducible assumption
    | with_reducible apply Same.ite
    | with_reducible apply State.whenBooted_frame
    | ((with_reducible apply State.viaFirmware_frame); (decide))
    | ((with_reducible apply Same.via State.replyCapabilities_frame); decide)
    | with_reducible apply Same.foldl
    | with_reducible apply Same.foldl1
    | intro _ _ _
    | intro _ _
    | (fail_if_no_progress ((with_reducible apply Same.upd) <;> first | (intro hb; first | with_reducible rfl | (exfalso; revert hb; decide)) | skip))
    | dsimp only
    | split

theorem State.negotiate_frame {s : State} {p384 sha384 : Bool} : Same 0x43000000000000000000000000000000000001c000000000000000000000000000000000000000000000000000000000000000000000 s (State.negotiate s p384 sha384) := by
  unfold State.negotiate
  try dsimp only
  repeat' first
    | with_reducible exact Same.refl
    | with_reducible assumption
    | with_reducible apply Same.ite
    | ((with_reducible apply Same.via State.spdmReply_frame); decide)
    | ((with_reducible apply Same.via State.spdmRefuse_frame); decide)
    | with_reducible apply Same.foldl
    | with_reducible apply Same.foldl1
    | intro _ _ _
    | intro _ _
    | (fail_if_no_progress ((with_reducible apply Same.upd) <;> first | (intro hb; first | with_reducible rfl | (exfalso; revert hb; decide)) | skip))
    | dsimp only
    | split

theorem execNegotiateAlgorithms_frame {p384 sha384 : Bool} {s : State} {t : State} (e : execNegotiateAlgorithms p384 sha384 s = .next t) :
    Same 0x53000000000000000000000000000000000001c000000000000000000000000000000000000000000000000000000000000000000000 s t := by
  cases e
  try dsimp only
  repeat' first
    | with_reducible exact Same.refl
    | with_reducible assumption
    | with_reducible apply Same.ite
    | with_reducible apply State.whenBooted_frame
    | ((with_reducible apply State.viaFirmware_frame); (decide))
    | ((with_reducible apply Same.via State.negotiate_frame); decide)
    | with_reducible apply Same.foldl
    | with_reducible apply Same.foldl1
    | intro _ _ _
    | intro _ _
    | (fail_if_no_progress ((with_reducible apply Same.upd) <;> first | (intro hb; first | with_reducible rfl | (exfalso; revert hb; decide)) | skip))
    | dsimp only
    | split

theorem State.replyDigests_frame {s : State} : Same 0x410000000000000000000000000000000000000000000000000000000000000000000000000000000000000000000000000000000000 s (State.replyDigests s) := by
  unfold State.replyDigests
  try dsimp only
  repeat' first
    | with_reducible exact Same.refl
    | with_reducible assumption
    | with_reducible apply Same.ite
    | ((with_reducible apply Same.via State.spdmReply_frame); decide)
    | with_reducible apply Same.foldl
    | with_reducible apply Same.foldl1
    | intro _ _ _
    | intro _ _
    | (fail_if_no_progress ((with_reducible apply Same.upd) <;> first | (intro hb; first | with_reducible rfl | (exfalso; revert hb; decide)) | skip))
    | dsimp only
    | split

theorem execGetDigests_frame {s : State} {t : State} (e : execGetDigests s = .next t) :
    Same 0x510000000000000000000000000000000000000000000000000000000000000000000000000000000000000000000000000000000000 s t := by
  cases e
  try dsimp only
  repeat' first
    | with_reducible exact Same.refl
    | with_reducible assumption
    | with_reducible apply Same.ite
    | with_reducible apply State.whenBooted_frame
    | ((with_reducible apply State.viaFirmware_frame); (decide))
    | ((with_reducible apply Same.via State.replyDigests_frame); decide)
    | with_reducible apply Same.foldl
    | with_reducible apply Same.foldl1
    | intro _ _ _
    | intro _ _
    | (fail_if_no_progress ((with_reducible apply Same.upd) <;> first | (intro hb; first | with_reducible rfl | (exfalso; revert hb; decide)) | skip))
    | dsimp only
    | split

theorem State.replyCertificate_frame {s : State} {slot off len : Nat} : Same 0x43000000000000000000000000000000000001c000000000000000000000000000000000000000000000000000000000000000000000 s (State.replyCertificate s slot off len) := by
  unfold State.replyCertificate
  try dsimp only
  repeat' first
    | with_reducible exact Same.refl
    | with_reducible assumption
    | with_reducible apply Same.ite
    | ((with_reducible apply Same.via State.spdmReply_frame); decide)
    | ((with_reducible apply Same.via State.spdmRefuse_frame); decide)
    | with_reducible apply Same.foldl
    | with_reducible apply Same.foldl1
    | intro _ _ _
    | intro _ _
    | (fail_if_no_progress ((with_reducible apply Same.upd) <;> first | (intro hb; first | with_reducible rfl | (exfalso; revert hb; decide)) | skip))
    | dsimp only
    | split

theorem execGetCertificate_frame {slot off len : Nat} {s : State} {t : State} (e : execGetCertificate slot off len s = .next t) :
    Same 0x53000000000000000000000000000000000001c000000000000000000000000000000000000000000000000000000000000000000000 s t := by
  cases e
  try dsimp only
  repeat' first
    | with_reducible exact Same.refl
    | with_reducible assumption
    | with_reducible apply Same.ite
    | with_reducible apply State.whenBooted_frame
    | ((with_reducible apply State.viaFirmware_frame); (decide))
    | ((with_reducible apply Same.via State.replyCertificate_frame); decide)
    | with_reducible apply Same.foldl
    | with_reducible apply Same.foldl1
    | intro _ _ _
    | intro _ _
    | (fail_if_no_progress ((with_reducible apply Same.upd) <;> first | (intro hb; first | with_reducible rfl | (exfalso; revert hb; decide)) | skip))
    | dsimp only
    | split

theorem State.signedReply_frame {s : State} {request content : Bytes} : Same 0x410000040000000000000000000000000000000000000000000000000000000000000000000000000000000000000000000000000000 s (State.signedReply s request content) := by
  unfold State.signedReply
  try dsimp only
  repeat' first
    | with_reducible exact Same.refl
    | with_reducible assumption
    | with_reducible apply Same.ite
    | ((with_reducible apply Same.via State.draw_frame); decide)
    | ((with_reducible apply Same.via State.spdmReply_frame); decide)
    | with_reducible apply Same.foldl
    | with_reducible apply Same.foldl1
    | intro _ _ _
    | intro _ _
    | (fail_if_no_progress ((with_reducible apply Same.upd) <;> first | (intro hb; first | with_reducible rfl | (exfalso; revert hb; decide)) | skip))
    | dsimp only
    | split

theorem State.replyChallenge_frame {s : State} {slot : Nat} {nonce : Bytes} : Same 0x43000004000000000000000000000000000001c000000000000000000000000000000000000000000000000000000000000000000000 s (State.replyChallenge s slot nonce) := by
  unfold State.replyChallenge
  try dsimp only
  repeat' first
    | with_reducible exact Same.refl
    | with_reducible assumption
    | with_reducible apply Same.ite
    | ((with_reducible apply Same.via State.signedReply_frame); decide)
    | ((with_reducible apply Same.via State.spdmRefuse_frame); decide)
    | with_reducible apply Same.foldl
    | with_reducible apply Same.foldl1
    | intro _ _ _
    | intro _ _
    | (fail_if_no_progress ((with_reducible apply Same.upd) <;> first | (intro hb; first | with_reducible rfl | (exfalso; revert hb; decide)) | skip))
    | dsimp only
    | split

theorem execChallenge_frame {slot : Nat} {nonce : Bytes} {s : State} {t : State} (e : execChallenge slot nonce s = .next t) :
    Same 0x53000004000000000000000000000000000001c000000000000000000000000000000000000000000000000000000000000000000000 s t := by
  cases e
  try dsimp only
  repeat' first
    | with_reducible exact Same.refl
    | with_reducible assumption
    | with_reducible apply Same.ite
    | with_reducible apply State.whenBooted_frame
    | ((with_reducible apply State.viaFirmware_frame); (decide))
    | ((with_reducible apply Same.via State.replyChallenge_frame); decide)
    | with_reducible apply Same.foldl
    | with_reducible apply Same.foldl1
    | intro _ _ _
    | intro _ _
    | (fail_if_no_progress ((with_reducible apply Same.upd) <;> first | (intro hb; first | with_reducible rfl | (exfalso; revert hb; decide)) | skip))
    | dsimp only
    | split

theorem State.replyMeasurement_frame {s : State} {index : Nat} {nonce : Bytes} : Same 0x43000004000000000000000000000000000001c000000000000000000000000000000000000000000000000000000000000000000000 s (State.replyMeasurement s index nonce) := by
  unfold State.replyMeasurement
  try dsimp only
  repeat' first
    | with_reducible exact Same.refl
    | with_reducible assumption
    | with_reducible apply Same.ite
    | ((with_reducible apply Same.via State.signedReply_frame); decide)
    | ((with_reducible apply Same.via State.spdmRefuse_frame); decide)
    | with_reducible apply Same.foldl
    | with_reducible apply Same.foldl1
    | intro _ _ _
    | intro _ _
    | (fail_if_no_progress ((with_reducible apply Same.upd) <;> first | (intro hb; first | with_reducible rfl | (exfalso; revert hb; decide)) | skip))
    | dsimp only
    | split

theorem execGetMeasurements_frame {index : Nat} {nonce : Bytes} {s : State} {t : State} (e : execGetMeasurements index nonce s = .next t) :
    Same 0x53000004000000000000000000000000000001c000000000000000000000000000000000000000000000000000000000000000000000 s t := by
  cases e
  try dsimp only
  repeat' first
    | with_reducible exact Same.refl
    | with_reducible assumption
    | with_reducible apply Same.ite
    | with_reducible apply State.whenBooted_frame
    | ((with_reducible apply State.viaFirmware_frame); (decide))
    | ((with_reducible apply Same.via State.replyMeasurement_frame); decide)
    | with_reducible apply Same.foldl
    | with_reducible apply Same.foldl1
    | intro _ _ _
    | intro _ _
    | (fail_if_no_progress ((with_reducible apply Same.upd) <;> first | (intro hb; first | with_reducible rfl | (exfalso; revert hb; decide)) | skip))
    | dsimp only
    | split

theorem State.installOwner_frame {s : State} {key : Bytes} : Same 0x10000080000000000000000000000000000000000000000000000000000000000000000000000000000000000000000000000000000 s (State.installOwner s key) := by
  unfold State.installOwner
  try dsimp only
  repeat' first
    | with_reducible exact Same.refl
    | with_reducible assumption
    | with_reducible apply Same.ite
    | with_reducible apply Same.foldl
    | with_reducible apply Same.foldl1
    | intro _ _ _
    | intro _ _
    | (fail_if_no_progress ((with_reducible apply Same.upd) <;> first | (intro hb; first | with_reducible rfl | (exfalso; revert hb; decide)) | skip))
    | dsimp only
    | split

theorem execOwnerKeyInstall_frame {key : Bytes} {s : State} {t : State} (e : execOwnerKeyInstall key s = .next t) :
    Same 0x110000080000000000000000000000000000000000000000000000000000000000000000000000000000000000000000000000000000 s t := by
  cases e
  try dsimp only
  repeat' first
    | with_reducible exact Same.refl
    | with_reducible assumption
    | with_reducible apply Same.ite
    | with_reducible apply State.whenBooted_frame
    | ((with_reducible apply State.viaFirmware_frame); (decide))
    | ((with_reducible apply Same.via State.installOwner_frame); decide)
    | with_reducible apply Same.foldl
    | with_reducible apply Same.foldl1
    | intro _ _ _
    | intro _ _
    | (fail_if_no_progress ((with_reducible apply Same.upd) <;> first | (intro hb; first | with_reducible rfl | (exfalso; revert hb; decide)) | skip))
    | dsimp only
    | split

theorem State.sensor_frame {s : State} {n : Nat} : Same 0x40000000000000000000000000000000000000000000000000000000000000000000000000000000000000000000000000000 s (State.sensor s n).2 := by
  unfold State.sensor
  try dsimp only
  repeat' first
    | with_reducible exact Same.refl
    | with_reducible assumption
    | with_reducible apply Same.ite
    | ((with_reducible apply Same.via State.draw_frame); decide)
    | with_reducible apply Same.foldl
    | with_reducible apply Same.foldl1
    | intro _ _ _
    | intro _ _
    | (fail_if_no_progress ((with_reducible apply Same.upd) <;> first | (intro hb; first | with_reducible rfl | (exfalso; revert hb; decide)) | skip))
    | dsimp only
    | split

theorem State.replySensor_frame {s : State} {sensor : Nat} : Same 0x400000040000000000000000000000000000000000000000000000000000000000000000000000000000000000000000000000000000 s (State.replySensor s sensor) := by
  unfold State.replySensor
  try dsimp only
  repeat' first
    | with_reducible exact Same.refl
    | with_reducible assumption
    | with_reducible apply Same.ite
    | ((with_reducible apply Same.via State.sensor_frame); decide)
    | ((with_reducible apply Same.via State.send_frame); decide)
    | with_reducible apply Same.foldl
    | with_reducible apply Same.foldl1
    | intro _ _ _
    | intro _ _
    | (fail_if_no_progress ((with_reducible apply Same.upd) <;> first | (intro hb; first | with_reducible rfl | (exfalso; revert hb; decide)) | skip))
    | dsimp only
    | split

theorem execPldmSensorRead_frame {sensor : Fin 5} {s : State} {t : State} (e : execPldmSensorRead sensor s = .next t) :
    Same 0x500000040000000000000000000000000000000000000000000000000000000000000000000000000000000000000000000000000000 s t := by
  cases e
  try dsimp only
  repeat' first
    | with_reducible exact Same.refl
    | with_reducible assumption
    | with_reducible apply Same.ite
    | with_reducible apply State.whenBooted_frame
    | ((with_reducible apply State.viaFirmware_frame); (decide))
    | ((with_reducible apply Same.via State.replySensor_frame); decide)
    | with_reducible apply Same.foldl
    | with_reducible apply Same.foldl1
    | intro _ _ _
    | intro _ _
    | (fail_if_no_progress ((with_reducible apply Same.upd) <;> first | (intro hb; first | with_reducible rfl | (exfalso; revert hb; decide)) | skip))
    | dsimp only
    | split

theorem State.replyBook_frame {s : State} {off len : Nat} : Same 0x400000000000000000000000000000000000000000000000000000000000000000000000000000000000000000000000000000000000 s (State.replyBook s off len) := by
  unfold State.replyBook
  try dsimp only
  repeat' first
    | with_reducible exact Same.refl
    | with_reducible assumption
    | with_reducible apply Same.ite
    | ((with_reducible apply Same.via State.send_frame); decide)
    | with_reducible apply Same.foldl
    | with_reducible apply Same.foldl1
    | intro _ _ _
    | intro _ _
    | (fail_if_no_progress ((with_reducible apply Same.upd) <;> first | (intro hb; first | with_reducible rfl | (exfalso; revert hb; decide)) | skip))
    | dsimp only
    | split

theorem execPldmLogbookRead_frame {off len : Nat} {s : State} {t : State} (e : execPldmLogbookRead off len s = .next t) :
    Same 0x500000000000000000000000000000000000000000000000000000000000000000000000000000000000000000000000000000000000 s t := by
  cases e
  try dsimp only
  repeat' first
    | with_reducible exact Same.refl
    | with_reducible assumption
    | with_reducible apply Same.ite
    | with_reducible apply State.whenBooted_frame
    | ((with_reducible apply State.viaFirmware_frame); (decide))
    | ((with_reducible apply Same.via State.replyBook_frame); decide)
    | with_reducible apply Same.foldl
    | with_reducible apply Same.foldl1
    | intro _ _ _
    | intro _ _
    | (fail_if_no_progress ((with_reducible apply Same.upd) <;> first | (intro hb; first | with_reducible rfl | (exfalso; revert hb; decide)) | skip))
    | dsimp only
    | split

theorem State.mailed_frame {s : State} {i : Instr} : Same 0xc302010c000000001102000008000000026001f00000120000970000000000000000000110088100780000010000000000000000000f s (State.mailed s i) := by
  unfold State.mailed
  try dsimp only
  repeat' first
    | with_reducible exact Same.refl
    | with_reducible assumption
    | with_reducible apply Same.ite
    | ((with_reducible apply Same.via State.writeSettings_frame); decide)
    | ((with_reducible apply Same.via State.setAddress_frame); decide)
    | ((with_reducible apply Same.via State.replyVersion_frame); decide)
    | ((with_reducible apply Same.via State.replyCapabilities_frame); decide)
    | ((with_reducible apply Same.via State.negotiate_frame); decide)
    | ((with_reducible apply Same.via State.replyDigests_frame); decide)
    | ((with_reducible apply Same.via State.replyCertificate_frame); decide)
    | ((with_reducible apply Same.via State.replyChallenge_frame); decide)
    | ((with_reducible apply Same.via State.replyMeasurement_frame); decide)
    | ((with_reducible apply Same.via State.installOwner_frame); decide)
    | ((with_reducible apply Same.via State.replySensor_frame); decide)
    | ((with_reducible apply Same.via State.replyBook_frame); decide)
    | with_reducible apply Same.foldl
    | with_reducible apply Same.foldl1
    | intro _ _ _
    | intro _ _
    | (fail_if_no_progress ((with_reducible apply Same.upd) <;> first | (intro hb; first | with_reducible rfl | (exfalso; revert hb; decide)) | skip))
    | dsimp only
    | split

theorem State.openMail_frame {s : State} {i : Instr} : Same 0xd302010c000000001102000008000000026001f00000120000970000000000000000000110088100780000010000000000000000000f s (State.openMail s i) := by
  unfold State.openMail
  try dsimp only
  repeat' first
    | with_reducible exact Same.refl
    | with_reducible assumption
    | with_reducible apply Same.ite
    | ((with_reducible apply State.viaFirmware_frame); (decide))
    | ((with_reducible apply Same.via State.mailed_frame); decide)
    | with_reducible apply Same.foldl
    | with_reducible apply Same.foldl1
    | intro _ _ _
    | intro _ _
    | (fail_if_no_progress ((with_reducible apply Same.upd) <;> first | (intro hb; first | with_reducible rfl | (exfalso; revert hb; decide)) | skip))
    | dsimp only
    | split

theorem execLogbookStore_frame {s : State} {t : State} (e : execLogbookStore s = .next t) :
    Same 0x20000000000000000000000000000000000000000000000000000000000000000000000000000000000000000000000000000000000 s t := by
  cases e
  try dsimp only
  repeat' first
    | with_reducible exact Same.refl
    | with_reducible assumption
    | with_reducible apply Same.ite
    | ((with_reducible apply Same.via State.storeBook_frame); decide)
    | with_reducible apply Same.foldl
    | with_reducible apply Same.foldl1
    | intro _ _ _
    | intro _ _
    | (fail_if_no_progress ((with_reducible apply Same.upd) <;> first | (intro hb; first | with_reducible rfl | (exfalso; revert hb; decide)) | skip))
    | dsimp only
    | split

theorem execFreeze_frame {s : State} {t : State} (e : execFreeze s = .next t) :
    Same 0x20000000000000000000000000000000000100000000000000000000000000000000000000000000000000000000000000000000000 s t := by
  cases e
  try dsimp only
  repeat' first
    | with_reducible exact Same.refl
    | with_reducible assumption
    | with_reducible apply Same.ite
    | with_reducible apply State.whenBooted_frame
    | ((with_reducible apply State.put_frame); decide)
    | with_reducible apply Same.foldl
    | with_reducible apply Same.foldl1
    | intro _ _ _
    | intro _ _
    | (fail_if_no_progress ((with_reducible apply Same.upd) <;> first | (intro hb; first | with_reducible rfl | (exfalso; revert hb; decide)) | skip))
    | dsimp only
    | split

theorem execThaw_frame {s : State} {t : State} (e : execThaw s = .next t) :
    Same 0x2000000000000000000000000000000000011c000000000000000000000000000000000000000000000000000000000000000000000 s t := by
  cases e
  try dsimp only
  repeat' first
    | with_reducible exact Same.refl
    | with_reducible assumption
    | with_reducible apply Same.ite
    | with_reducible apply State.whenBooted_frame
    | ((with_reducible apply Same.via State.thaw_frame); decide)
    | with_reducible apply Same.foldl
    | with_reducible apply Same.foldl1
    | intro _ _ _
    | intro _ _
    | (fail_if_no_progress ((with_reducible apply Same.upd) <;> first | (intro hb; first | with_reducible rfl | (exfalso; revert hb; decide)) | skip))
    | dsimp only
    | split

theorem execFreezeTimeout_frame {s : State} {t : State} (e : execFreezeTimeout s = .next t) :
    Same 0x2000000000000000000000000000000000011c000000000000000000000000000000000000000000000000000000000000000000000 s t := by
  cases e
  try dsimp only
  repeat' first
    | with_reducible exact Same.refl
    | with_reducible assumption
    | with_reducible apply Same.ite
    | ((with_reducible apply Same.via State.thaw_frame); decide)
    | with_reducible apply Same.foldl
    | with_reducible apply Same.foldl1
    | intro _ _ _
    | intro _ _
    | (fail_if_no_progress ((with_reducible apply Same.upd) <;> first | (intro hb; first | with_reducible rfl | (exfalso; revert hb; decide)) | skip))
    | dsimp only
    | split

theorem execFreezeQueueFull_frame {s : State} {t : State} (e : execFreezeQueueFull s = .next t) :
    Same 0x2000000000000000000000000000000000011c000000000000000000000000000000000000000000000000000000000000000000000 s t := by
  cases e
  try dsimp only
  repeat' first
    | with_reducible exact Same.refl
    | with_reducible assumption
    | with_reducible apply Same.ite
    | ((with_reducible apply Same.via State.thaw_frame); decide)
    | with_reducible apply Same.foldl
    | with_reducible apply Same.foldl1
    | intro _ _ _
    | intro _ _
    | (fail_if_no_progress ((with_reducible apply Same.upd) <;> first | (intro hb; first | with_reducible rfl | (exfalso; revert hb; decide)) | skip))
    | dsimp only
    | split

end Sys2Proof.Machine
end

