-- ==== Sys2Proof/Laws/FrameRegs.lean ====
section
/-! SUPPORT. Frames of the functions of Machine/Regs.lean (Laws/Frame.lean). -/

namespace Sys2Proof.Machine

set_option linter.unreachableTactic false
set_option linter.unusedTactic false
set_option linter.unusedVariables false

theorem execBadAccess_frame {_f : Fn} {off size : Nat} {read : Bool} {s : State} {t : State} (e : execBadAccess _f off size read s = .next t) :
    Same 0x42000000000000000000000000000000000001c000000000000000000000000000000000000000000000000000000000000000000000 s t := by
  cases e
  try dsimp only
  repeat' first
    | with_reducible exact Same.refl
    | with_reducible assumption
    | with_reducible apply Same.ite
    | ((with_reducible apply Same.via State.ignored_frame); decide)
    | ((with_reducible apply Same.via State.send_frame); decide)
    | with_reducible apply Same.foldl
    | with_reducible apply Same.foldl1
    | intro _ _ _
    | intro _ _
    | (fail_if_no_progress ((with_reducible apply Same.upd) <;> first | (intro hb; first | with_reducible rfl | (exfalso; revert hb; decide)) | skip))
    | dsimp only
    | split

end Sys2Proof.Machine
end

