-- ==== Sys2Proof/Laws/FrameFetch.lean ====
section
/-! SUPPORT. Frames of the functions of Machine/Fetch.lean (Laws/Frame.lean). -/

namespace Sys2Proof.Machine

set_option linter.unreachableTactic false
set_option linter.unusedTactic false
set_option linter.unusedVariables false

theorem State.adopt_frame {s : State} {q tail head : Nat} : Same 0x34800000000000000000000000000000000000000000000046000000000000000600000000000000000000000000000000000000 s (State.adopt s q tail head) := by
  unfold State.adopt
  try dsimp only
  repeat' first
    | with_reducible exact Same.refl
    | with_reducible assumption
    | with_reducible apply Same.ite
    | ((with_reducible apply State.put_frame); decide)
    | ((with_reducible apply Same.via State.setQueue_frame); decide)
    | ((with_reducible apply Same.via State.journalDoorbell_frame); decide)
    | with_reducible apply Same.foldl
    | with_reducible apply Same.foldl1
    | intro _ _ _
    | intro _ _
    | (fail_if_no_progress ((with_reducible apply Same.upd) <;> first | (intro hb; first | with_reducible rfl | (exfalso; revert hb; decide)) | skip))
    | dsimp only
    | split

theorem State.sampleQueue_frame {s : State} {q : Nat} : Same 0x80003480000000000000000000000000000000000000000000004600000000000000060c000000000000000000000000000000000000 s (State.sampleQueue s q) := by
  unfold State.sampleQueue
  try dsimp only
  repeat' first
    | with_reducible exact Same.refl
    | with_reducible assumption
    | with_reducible apply Same.ite
    | ((with_reducible apply Same.via State.setQueue_frame); decide)
    | ((with_reducible apply Same.via State.faultQueue_frame); decide)
    | ((with_reducible apply Same.via State.adopt_frame); decide)
    | with_reducible apply Same.foldl
    | with_reducible apply Same.foldl1
    | intro _ _ _
    | intro _ _
    | (fail_if_no_progress ((with_reducible apply Same.upd) <;> first | (intro hb; first | with_reducible rfl | (exfalso; revert hb; decide)) | skip))
    | dsimp only
    | split

theorem State.sampleDoorbells_frame {s : State} : Same 0x80003480000000000000000000000000000000000000000000004600000000000000060c000000000000000000000000000000000000 s (State.sampleDoorbells s) := by
  unfold State.sampleDoorbells
  try dsimp only
  repeat' first
    | with_reducible exact Same.refl
    | with_reducible assumption
    | with_reducible apply Same.ite
    | ((with_reducible apply Same.via State.sampleQueue_frame); decide)
    | with_reducible apply Same.foldl
    | with_reducible apply Same.foldl1
    | intro _ _ _
    | intro _ _
    | (fail_if_no_progress ((with_reducible apply Same.upd) <;> first | (intro hb; first | with_reducible rfl | (exfalso; revert hb; decide)) | skip))
    | dsimp only
    | split

theorem State.fetch_frame {s : State} {q : Nat} {bs : Bytes} {p : Option Nat} {batch : Nat} : Same 0x10000000000000000000000000000000000000000000000000000000000000001000000000000000000000000000000000000000 s (State.fetch s q bs p batch).2 := by
  unfold State.fetch
  try dsimp only
  repeat' first
    | with_reducible exact Same.refl
    | with_reducible assumption
    | with_reducible apply Same.ite
    | ((with_reducible apply State.put_frame); decide)
    | ((with_reducible apply Same.via State.setQueue_frame); decide)
    | with_reducible apply Same.foldl
    | with_reducible apply Same.foldl1
    | intro _ _ _
    | intro _ _
    | (fail_if_no_progress ((with_reducible apply Same.upd) <;> first | (intro hb; first | with_reducible rfl | (exfalso; revert hb; decide)) | skip))
    | dsimp only
    | split

theorem State.enterTask_frame {s : State} {p : Nat} {c : Cmd} : Same 0x26800000000000000000000000000000000000000000000046000000000000000000000000000000000000000000000000000000 s (State.enterTask s p c) := by
  unfold State.enterTask
  try dsimp only
  repeat' first
    | with_reducible exact Same.refl
    | with_reducible assumption
    | with_reducible apply Same.ite
    | ((with_reducible apply Same.via State.journalCommand_frame); decide)
    | with_reducible apply Same.foldl
    | with_reducible apply Same.foldl1
    | intro _ _ _
    | intro _ _
    | (fail_if_no_progress ((with_reducible apply Same.upd) <;> first | (intro hb; first | with_reducible rfl | (exfalso; revert hb; decide)) | skip))
    | dsimp only
    | split

theorem State.setNext_frame {s : State} {p : Nat} {t : Option Task} : Same 0x20000000000000000000000000000000000000000000000000000000000000008000000000000000000000000000000000000000 s (State.setNext s p t) := by
  unfold State.setNext
  try dsimp only
  repeat' first
    | with_reducible exact Same.refl
    | with_reducible assumption
    | with_reducible apply Same.ite
    | ((with_reducible apply Same.via State.modRun_frame); decide)
    | ((with_reducible apply Same.via State.showTask_frame); decide)
    | with_reducible apply Same.foldl
    | with_reducible apply Same.foldl1
    | intro _ _ _
    | intro _ _
    | (fail_if_no_progress ((with_reducible apply Same.upd) <;> first | (intro hb; first | with_reducible rfl | (exfalso; revert hb; decide)) | skip))
    | dsimp only
    | split

theorem State.searchQueue_frame {s : State} {p q : Nat} : Same 0x36800000000000000000000000000000000000000000000046000000000000009000000000000000000000000000000000000000 s (State.searchQueue s p q) := by
  unfold State.searchQueue
  try dsimp only
  repeat' first
    | with_reducible exact Same.refl
    | with_reducible assumption
    | with_reducible apply Same.ite
    | ((with_reducible apply Same.via State.fetch_frame); decide)
    | ((with_reducible apply Same.via State.enterTask_frame); decide)
    | ((with_reducible apply Same.via State.modRun_frame); decide)
    | ((with_reducible apply Same.via State.setNext_frame); decide)
    | ((with_reducible apply Same.via State.finish_frame); decide)
    | with_reducible apply Same.foldl
    | with_reducible apply Same.foldl1
    | intro _ _ _
    | intro _ _
    | (fail_if_no_progress ((with_reducible apply Same.upd) <;> first | (intro hb; first | with_reducible rfl | (exfalso; revert hb; decide)) | skip))
    | dsimp only
    | split

theorem State.searchHeader_frame {s : State} {p : Nat} : Same 0x36800000000000000000000000000000000000000000000046000000000000009000000000000000000000000000000000000000 s (State.searchHeader s p) := by
  unfold State.searchHeader
  try dsimp only
  repeat' first
    | with_reducible exact Same.refl
    | with_reducible assumption
    | with_reducible apply Same.ite
    | ((with_reducible apply Same.via State.searchQueue_frame); decide)
    | with_reducible apply Same.foldl
    | with_reducible apply Same.foldl1
    | intro _ _ _
    | intro _ _
    | (fail_if_no_progress ((with_reducible apply Same.upd) <;> first | (intro hb; first | with_reducible rfl | (exfalso; revert hb; decide)) | skip))
    | dsimp only
    | split

theorem State.fillQueue_frame {s : State} {p q : Nat} {vx : Nat} : Same 0x36800000000000000000000000000000000000000000000046000000000000009000000000000000000000000000000000000000 s (State.fillQueue s p q vx) := by
  induction vx generalizing s p q with
  | zero =>
    unfold State.fillQueue
    try dsimp only
    repeat' first
      | with_reducible exact Same.refl
      | with_reducible assumption
      | with_reducible apply Same.ite
      | ((with_reducible apply Same.via State.fetch_frame); decide)
      | ((with_reducible apply Same.via State.enterTask_frame); decide)
      | ((with_reducible apply Same.via State.setNext_frame); decide)
      | with_reducible apply Same.foldl
      | with_reducible apply Same.foldl1
      | intro _ _ _
      | intro _ _
      | (fail_if_no_progress ((with_reducible apply Same.upd) <;> first | (intro hb; first | with_reducible rfl | (exfalso; revert hb; decide)) | skip))
      | dsimp only
      | split
  | succ k2 ih =>
    unfold State.fillQueue
    try dsimp only
    repeat' first
      | ((with_reducible apply Same.via ih); decide)
      | with_reducible exact Same.refl
      | with_reducible assumption
      | with_reducible apply Same.ite
      | ((with_reducible apply Same.via State.fetch_frame); decide)
      | ((with_reducible apply Same.via State.enterTask_frame); decide)
      | ((with_reducible apply Same.via State.setNext_frame); decide)
      | with_reducible apply Same.foldl
      | with_reducible apply Same.foldl1
      | intro _ _ _
      | intro _ _
      | (fail_if_no_progress ((with_reducible apply Same.upd) <;> first | (intro hb; first | with_reducible rfl | (exfalso; revert hb; decide)) | skip))
      | dsimp only
      | split

theorem State.settleNext_frame {s : State} {p : Nat} : Same 0x26000000000000000000000000000000000000000000000000000000000000008000000000000000000000000000000000000000 s (State.settleNext s p) := by
  unfold State.settleNext
  try dsimp only
  repeat' first
    | with_reducible exact Same.refl
    | with_reducible assumption
    | with_reducible apply Same.ite
    | ((with_reducible apply Same.via State.finish_frame); decide)
    | ((with_reducible apply Same.via State.setNext_frame); decide)
    | with_reducible apply Same.foldl
    | with_reducible apply Same.foldl1
    | intro _ _ _
    | intro _ _
    | (fail_if_no_progress ((with_reducible apply Same.upd) <;> first | (intro hb; first | with_reducible rfl | (exfalso; revert hb; decide)) | skip))
    | dsimp only
    | split

theorem State.fillTask_frame {s : State} {p : Nat} : Same 0x36800000000000000000000000000000000000000000000046000000000000009000000000000000000000000000000000000000 s (State.fillTask s p) := by
  unfold State.fillTask
  try dsimp only
  repeat' first
    | with_reducible exact Same.refl
    | with_reducible assumption
    | with_reducible apply Same.ite
    | ((with_reducible apply Same.via State.fillQueue_frame); decide)
    | ((with_reducible apply Same.via State.setNext_frame); decide)
    | ((with_reducible apply Same.via State.settleNext_frame); decide)
    | with_reducible apply Same.foldl
    | with_reducible apply Same.foldl1
    | intro _ _ _
    | intro _ _
    | (fail_if_no_progress ((with_reducible apply Same.upd) <;> first | (intro hb; first | with_reducible rfl | (exfalso; revert hb; decide)) | skip))
    | dsimp only
    | split

theorem State.fetchPart_frame {s : State} {p : Nat} : Same 0x36800000000000000000000000000000000000000000000046000000000000009000000000000000000000000000000000000000 s (State.fetchPart s p) := by
  unfold State.fetchPart
  try dsimp only
  repeat' first
    | with_reducible exact Same.refl
    | with_reducible assumption
    | with_reducible apply Same.ite
    | ((with_reducible apply Same.via State.searchHeader_frame); decide)
    | ((with_reducible apply Same.via State.fillTask_frame); decide)
    | with_reducible apply Same.foldl
    | with_reducible apply Same.foldl1
    | intro _ _ _
    | intro _ _
    | (fail_if_no_progress ((with_reducible apply Same.upd) <;> first | (intro hb; first | with_reducible rfl | (exfalso; revert hb; decide)) | skip))
    | dsimp only
    | split

theorem State.fillPf_frame {s : State} {q : Nat} {vx : Nat} : Same 0x12000000000000000000000000000000000000000000000000000000000000001000000000000000000000000000000000000000 s (State.fillPf s q vx) := by
  induction vx generalizing s q with
  | zero =>
    unfold State.fillPf
    try dsimp only
    repeat' first
      | with_reducible exact Same.refl
      | with_reducible assumption
      | with_reducible apply Same.ite
      | ((with_reducible apply Same.via State.fetch_frame); decide)
      | with_reducible apply Same.foldl
      | with_reducible apply Same.foldl1
      | intro _ _ _
      | intro _ _
      | (fail_if_no_progress ((with_reducible apply Same.upd) <;> first | (intro hb; first | with_reducible rfl | (exfalso; revert hb; decide)) | skip))
      | dsimp only
      | split
  | succ k2 ih =>
    unfold State.fillPf
    try dsimp only
    repeat' first
      | ((with_reducible apply Same.via ih); decide)
      | with_reducible exact Same.refl
      | with_reducible assumption
      | with_reducible apply Same.ite
      | ((with_reducible apply Same.via State.fetch_frame); decide)
      | with_reducible apply Same.foldl
      | with_reducible apply Same.foldl1
      | intro _ _ _
      | intro _ _
      | (fail_if_no_progress ((with_reducible apply Same.upd) <;> first | (intro hb; first | with_reducible rfl | (exfalso; revert hb; decide)) | skip))
      | dsimp only
      | split

theorem State.fetchPf_frame {s : State} : Same 0x12000000000000000000000000000000000000000000000000000000000000001000000000000000000000000000000000000000 s (State.fetchPf s) := by
  unfold State.fetchPf
  try dsimp only
  repeat' first
    | with_reducible exact Same.refl
    | with_reducible assumption
    | with_reducible apply Same.ite
    | ((with_reducible apply Same.via State.fillPf_frame); decide)
    | with_reducible apply Same.foldl
    | with_reducible apply Same.foldl1
    | intro _ _ _
    | intro _ _
    | (fail_if_no_progress ((with_reducible apply Same.upd) <;> first | (intro hb; first | with_reducible rfl | (exfalso; revert hb; decide)) | skip))
    | dsimp only
    | split

theorem State.fetchAll_frame {s : State} : Same 0x36800000000000000000000000000000000000000000000046000000000000009000000000000000000000000000000000000000 s (State.fetchAll s) := by
  unfold State.fetchAll
  try dsimp only
  repeat' first
    | with_reducible exact Same.refl
    | with_reducible assumption
    | with_reducible apply Same.ite
    | ((with_reducible apply Same.via State.fetchPart_frame); decide)
    | ((with_reducible apply Same.via State.fetchPf_frame); decide)
    | with_reducible apply Same.foldl
    | with_reducible apply Same.foldl1
    | intro _ _ _
    | intro _ _
    | (fail_if_no_progress ((with_reducible apply Same.upd) <;> first | (intro hb; first | with_reducible rfl | (exfalso; revert hb; decide)) | skip))
    | dsimp only
    | split

end Sys2Proof.Machine
end

