-- ==== Sys2Proof/Laws/FrameEdge.lean ====
section
/-! SUPPORT. Frames of the functions of Machine/Edge.lean (Laws/Frame.lean). -/

namespace Sys2Proof.Machine

set_option linter.unreachableTactic false
set_option linter.unusedTactic false
set_option linter.unusedVariables false

theorem State.slackReport_frame {s : State} {p : Nat} : Same 0x82002000000000000000000000000000000001c00000000000000010000000000000000000000000000000000000000000000c000000 s (State.slackReport s p) := by
  unfold State.slackReport
  try dsimp only
  repeat' first
    | with_reducible exact Same.refl
    | with_reducible assumption
    | with_reducible apply Same.ite
    | ((with_reducible apply State.put_frame); decide)
    | ((with_reducible apply Same.via State.modRun_frame); decide)
    | ((with_reducible apply Same.via State.sample_frame); decide)
    | ((with_reducible apply State.partEvent_frame); (decide); decide)
    | with_reducible apply Same.foldl
    | with_reducible apply Same.foldl1
    | intro _ _ _
    | intro _ _
    | (fail_if_no_progress ((with_reducible apply Same.upd) <;> first | (intro hb; first | with_reducible rfl | (exfalso; revert hb; decide)) | skip))
    | dsimp only
    | split

theorem State.eccHist_frame {s : State} : Same 0x2004000000000000000000000000000000001c000000000000000000000000000000000000000000000000000000000000000000000 s (State.eccHist s) := by
  unfold State.eccHist
  try dsimp only
  repeat' first
    | with_reducible exact Same.refl
    | with_reducible assumption
    | with_reducible apply Same.ite
    | ((with_reducible apply Same.via State.sample_frame); decide)
    | ((with_reducible apply Same.via State.modCore_frame); decide)
    | with_reducible apply Same.foldl
    | with_reducible apply Same.foldl1
    | intro _ _ _
    | intro _ _
    | (fail_if_no_progress ((with_reducible apply Same.upd) <;> first | (intro hb; first | with_reducible rfl | (exfalso; revert hb; decide)) | skip))
    | dsimp only
    | split

theorem State.measurePart_frame {s : State} {p : Nat} : Same 0x2000004000000000000000000000000000001c000000001800000000000000000000000000000000000000000000000000000000000 s (State.measurePart s p) := by
  unfold State.measurePart
  try dsimp only
  repeat' first
    | with_reducible exact Same.refl
    | with_reducible assumption
    | with_reducible apply Same.ite
    | ((with_reducible apply Same.via State.draw_frame); decide)
    | ((with_reducible apply State.putA_frame); decide)
    | ((with_reducible apply Same.via State.sample_frame); decide)
    | ((with_reducible apply State.confine_frame); decide)
    | ((with_reducible apply State.incA_frame); (decide); decide)
    | ((with_reducible apply Same.via State.event_frame); decide)
    | with_reducible apply Same.foldl
    | with_reducible apply Same.foldl1
    | intro _ _ _
    | intro _ _
    | (fail_if_no_progress ((with_reducible apply Same.upd) <;> first | (intro hb; first | with_reducible rfl | (exfalso; revert hb; decide)) | skip))
    | dsimp only
    | split

theorem State.measureDomain_frame {s : State} {d : Nat} : Same 0x2000004000000000000000000000000000001c00001e000000000000000000000000000000000000000000000000000000000000000 s (State.measureDomain s d) := by
  unfold State.measureDomain
  try dsimp only
  repeat' first
    | with_reducible exact Same.refl
    | with_reducible assumption
    | with_reducible apply Same.ite
    | ((with_reducible apply Same.via State.draw_frame); decide)
    | ((with_reducible apply Same.via State.sample_frame); decide)
    | ((with_reducible apply State.confine_frame); decide)
    | ((with_reducible apply State.putA_frame); decide)
    | with_reducible apply Same.foldl
    | with_reducible apply Same.foldl1
    | intro _ _ _
    | intro _ _
    | (fail_if_no_progress ((with_reducible apply Same.upd) <;> first | (intro hb; first | with_reducible rfl | (exfalso; revert hb; decide)) | skip))
    | dsimp only
    | split

theorem State.measureInput_frame {s : State} : Same 0x40000000000000000000000000000000000000000002000000000000000000000000000000000000000000000000000000000 s (State.measureInput s) := by
  unfold State.measureInput
  try dsimp only
  repeat' first
    | with_reducible exact Same.refl
    | with_reducible assumption
    | with_reducible apply Same.ite
    | ((with_reducible apply Same.via State.draw_frame); decide)
    | ((with_reducible apply State.putA_frame); decide)
    | with_reducible apply Same.foldl
    | with_reducible apply Same.foldl1
    | intro _ _ _
    | intro _ _
    | (fail_if_no_progress ((with_reducible apply Same.upd) <;> first | (intro hb; first | with_reducible rfl | (exfalso; revert hb; decide)) | skip))
    | dsimp only
    | split

theorem State.closeFrame_frame {s : State} : Same 0xc6026004000000000000000000000000000001c00001e00180200010000000000000000000000000000000000000000000000c000000 s (State.closeFrame s) := by
  unfold State.closeFrame
  try dsimp only
  repeat' first
    | with_reducible exact Same.refl
    | with_reducible assumption
    | with_reducible apply Same.ite
    | ((with_reducible apply Same.via State.eventVectors_frame); decide)
    | ((with_reducible apply Same.via State.sendMsix_frame); decide)
    | ((with_reducible apply Same.via State.slackReport_frame); decide)
    | ((with_reducible apply Same.via State.eccHist_frame); decide)
    | ((with_reducible apply Same.via State.portHist_frame); decide)
    | ((with_reducible apply Same.via State.measurePart_frame); decide)
    | ((with_reducible apply Same.via State.measureDomain_frame); decide)
    | ((with_reducible apply Same.via State.measureInput_frame); decide)
    | with_reducible apply Same.foldl
    | with_reducible apply Same.foldl1
    | intro _ _ _
    | intro _ _
    | (fail_if_no_progress ((with_reducible apply Same.upd) <;> first | (intro hb; first | with_reducible rfl | (exfalso; revert hb; decide)) | skip))
    | dsimp only
    | split

theorem State.openFrame_frame {s : State} : Same 0x20000000000000000000000000000800000000000000000000000000000000000000000000000000000000000000000000200 s (State.openFrame s) := by
  unfold State.openFrame
  try dsimp only
  repeat' first
    | with_reducible exact Same.refl
    | with_reducible assumption
    | with_reducible apply Same.ite
    | ((with_reducible apply State.put_frame); decide)
    | with_reducible apply Same.foldl
    | with_reducible apply Same.foldl1
    | intro _ _ _
    | intro _ _
    | (fail_if_no_progress ((with_reducible apply Same.upd) <;> first | (intro hb; first | with_reducible rfl | (exfalso; revert hb; decide)) | skip))
    | dsimp only
    | split

theorem State.acquirePeriod_frame {s : State} : Same 0x20000000000000000000000000000000000000000000000000000000000000000000000000000000000000000000000000000 s (State.acquirePeriod s) := by
  unfold State.acquirePeriod
  try dsimp only
  repeat' first
    | with_reducible exact Same.refl
    | with_reducible assumption
    | with_reducible apply Same.ite
    | with_reducible apply Same.foldl
    | with_reducible apply Same.foldl1
    | intro _ _ _
    | intro _ _
    | (fail_if_no_progress ((with_reducible apply Same.upd) <;> first | (intro hb; first | with_reducible rfl | (exfalso; revert hb; decide)) | skip))
    | dsimp only
    | split

theorem State.hostFences_frame {s : State} {l : List EdgeReq} : Same 0x8000000000000000000000000000000000000000000000000000000000000000000000000000000000000000000000000000000 s (State.hostFences s l) := by
  unfold State.hostFences
  try dsimp only
  repeat' first
    | with_reducible exact Same.refl
    | with_reducible assumption
    | with_reducible apply Same.ite
    | ((with_reducible apply Same.via State.addUpds_frame); decide)
    | with_reducible apply Same.foldl
    | with_reducible apply Same.foldl1
    | intro _ _ _
    | intro _ _
    | (fail_if_no_progress ((with_reducible apply Same.upd) <;> first | (intro hb; first | with_reducible rfl | (exfalso; revert hb; decide)) | skip))
    | dsimp only
    | split

theorem State.journalFences_frame {s : State} {l : List EdgeReq} : Same 0x24800000000000000000000000000000000000000000000046000000000000000000000000000000000000000000000000000000 s (State.journalFences s l) := by
  unfold State.journalFences
  try dsimp only
  repeat' first
    | with_reducible exact Same.refl
    | with_reducible assumption
    | with_reducible apply Same.ite
    | ((with_reducible apply Same.via State.journalFence_frame); decide)
    | with_reducible apply Same.foldl
    | with_reducible apply Same.foldl1
    | intro _ _ _
    | intro _ _
    | (fail_if_no_progress ((with_reducible apply Same.upd) <;> first | (intro hb; first | with_reducible rfl | (exfalso; revert hb; decide)) | skip))
    | dsimp only
    | split

theorem State.serve_frame {s : State} {vx : EdgeReq} : Same 0xffcaff8c00000000110700000804c1000e6001f024101e000097f780c405f0203000be0110288108780400010000200306020000000f s (State.serve s vx) := by
  unfold State.serve
  try dsimp only
  repeat' first
    | with_reducible exact Same.refl
    | with_reducible assumption
    | with_reducible apply Same.ite
    | ((with_reducible apply Same.via State.openMail_frame); decide)
    | ((with_reducible apply Same.via State.changeQueues_frame); decide)
    | ((with_reducible apply Same.via State.changeFences_frame); decide)
    | ((with_reducible apply Same.via State.changeEnable_frame); decide)
    | ((with_reducible apply Same.via State.changePorts_frame); decide)
    | ((with_reducible apply Same.via State.changePages_frame); decide)
    | ((with_reducible apply Same.via State.flrEdge_frame); decide)
    | ((with_reducible apply Same.via State.atNextEdge_frame); decide)
    | ((with_reducible apply Same.via State.loadImage_frame); decide)
    | ((with_reducible apply Same.via State.clearSlot_frame); decide)
    | ((with_reducible apply Same.via State.loadKey_frame); decide)
    | ((with_reducible apply Same.via State.eraseKey_frame); decide)
    | ((with_reducible apply Same.via State.eraseAllKeys_frame); decide)
    | ((with_reducible apply Same.via State.journalSwitchOn_frame); decide)
    | ((with_reducible apply Same.via State.requestInflate_frame); decide)
    | ((with_reducible apply Same.via State.requestDeflate_frame); decide)
    | ((with_reducible apply Same.via State.startHandover_frame); decide)
    | ((with_reducible apply State.put_frame); decide)
    | ((with_reducible apply Same.via State.trip_frame); decide)
    | ((with_reducible apply Same.via State.clearCore_frame); decide)
    | with_reducible apply Same.foldl
    | with_reducible apply Same.foldl1
    | intro _ _ _
    | intro _ _
    | (fail_if_no_progress ((with_reducible apply Same.upd) <;> first | (intro hb; first | with_reducible rfl | (exfalso; revert hb; decide)) | skip))
    | dsimp only
    | split

theorem State.serveAll_frame {s : State} {l : List EdgeReq} : Same 0xffcaff8c00000000110700000804c1000e6001f024101e000097f780c405f0203000be0110288108780400010000200306020000000f s (State.serveAll s l) := by
  unfold State.serveAll
  try dsimp only
  repeat' first
    | with_reducible exact Same.refl
    | with_reducible assumption
    | with_reducible apply Same.ite
    | ((with_reducible apply Same.via State.serve_frame); decide)
    | with_reducible apply Same.foldl
    | with_reducible apply Same.foldl1
    | intro _ _ _
    | intro _ _
    | (fail_if_no_progress ((with_reducible apply Same.upd) <;> first | (intro hb; first | with_reducible rfl | (exfalso; revert hb; decide)) | skip))
    | dsimp only
    | split

theorem State.swapLaser_frame {s : State} {e : Nat} : Same 0x82080000000000000000000000000000000001c000001000000000000000000000000001000800000000000000000000000000000000 s (State.swapLaser s e) := by
  unfold State.swapLaser
  try dsimp only
  repeat' first
    | with_reducible exact Same.refl
    | with_reducible assumption
    | with_reducible apply Same.ite
    | ((with_reducible apply Same.via State.setLaserState_frame); decide)
    | ((with_reducible apply Same.via State.deflate_frame); decide)
    | with_reducible apply Same.foldl
    | with_reducible apply Same.foldl1
    | intro _ _ _
    | intro _ _
    | (fail_if_no_progress ((with_reducible apply Same.upd) <;> first | (intro hb; first | with_reducible rfl | (exfalso; revert hb; decide)) | skip))
    | dsimp only
    | split

theorem State.swapOut_frame {s : State} : Same 0x82080000000000000000000000000000000001c000001000000000000000000000000001000800000000000000000000000000000000 s (State.swapOut s) := by
  unfold State.swapOut
  try dsimp only
  repeat' first
    | with_reducible exact Same.refl
    | with_reducible assumption
    | with_reducible apply Same.ite
    | ((with_reducible apply Same.via State.swapLaser_frame); decide)
    | with_reducible apply Same.foldl
    | with_reducible apply Same.foldl1
    | intro _ _ _
    | intro _ _
    | (fail_if_no_progress ((with_reducible apply Same.upd) <;> first | (intro hb; first | with_reducible rfl | (exfalso; revert hb; decide)) | skip))
    | dsimp only
    | split

theorem State.reachAnchor_frame {s : State} {p : Nat} : Same 0x24800000000000000000000000000000000000000000000046000000000020000000000000000000000000000000000000000000 s (State.reachAnchor s p) := by
  unfold State.reachAnchor
  try dsimp only
  repeat' first
    | with_reducible exact Same.refl
    | with_reducible assumption
    | with_reducible apply Same.ite
    | ((with_reducible apply Same.via State.journalTaskBegin_frame); decide)
    | ((with_reducible apply Same.via State.modRun_frame); decide)
    | ((with_reducible apply Same.via State.markVoid_frame); decide)
    | ((with_reducible apply State.put_frame); decide)
    | with_reducible apply Same.foldl
    | with_reducible apply Same.foldl1
    | intro _ _ _
    | intro _ _
    | (fail_if_no_progress ((with_reducible apply Same.upd) <;> first | (intro hb; first | with_reducible rfl | (exfalso; revert hb; decide)) | skip))
    | dsimp only
    | split

theorem State.freeRing_frame {s : State} {p : Nat} {r : Ring} : Same 0x20000000000000000000000000000000000000000000000000000000000000000000000000000000000000000000000000000000 s (State.freeRing s p r) := by
  unfold State.freeRing
  try dsimp only
  repeat' first
    | with_reducible exact Same.refl
    | with_reducible assumption
    | with_reducible apply Same.ite
    | ((with_reducible apply Same.via State.modStrm_frame); decide)
    | with_reducible apply Same.foldl
    | with_reducible apply Same.foldl1
    | intro _ _ _
    | intro _ _
    | (fail_if_no_progress ((with_reducible apply Same.upd) <;> first | (intro hb; first | with_reducible rfl | (exfalso; revert hb; decide)) | skip))
    | dsimp only
    | split

theorem State.releaseRings_frame {s : State} {p : Nat} : Same 0x20000000000000000000000000000000000000000000000000000000000000000000000000000000000000000000000000000000 s (State.releaseRings s p) := by
  unfold State.releaseRings
  try dsimp only
  repeat' first
    | with_reducible exact Same.refl
    | with_reducible assumption
    | with_reducible apply Same.ite
    | ((with_reducible apply Same.via State.freeRing_frame); decide)
    | ((with_reducible apply Same.via State.setPred_frame); decide)
    | with_reducible apply Same.foldl
    | with_reducible apply Same.foldl1
    | intro _ _ _
    | intro _ _
    | (fail_if_no_progress ((with_reducible apply Same.upd) <;> first | (intro hb; first | with_reducible rfl | (exfalso; revert hb; decide)) | skip))
    | dsimp only
    | split

theorem State.grantRing_frame {s : State} {p : Nat} {c : Cmd} {q : StreamP} : Same 0x22000000000000000000000000000000000000000000000000000000000000000000000000000000000000000000000000000000 s (State.grantRing s p c q) := by
  unfold State.grantRing
  try dsimp only
  repeat' first
    | with_reducible exact Same.refl
    | with_reducible assumption
    | with_reducible apply Same.ite
    | ((with_reducible apply Same.via State.modStrm_frame); decide)
    | ((with_reducible apply Same.via State.setCmd_frame); decide)
    | ((with_reducible apply Same.via State.setPred_frame); decide)
    | with_reducible apply Same.foldl
    | with_reducible apply Same.foldl1
    | intro _ _ _
    | intro _ _
    | (fail_if_no_progress ((with_reducible apply Same.upd) <;> first | (intro hb; first | with_reducible rfl | (exfalso; revert hb; decide)) | skip))
    | dsimp only
    | split

theorem State.deferOpen_frame {s : State} {p : Nat} {c : Cmd} {q : StreamP} : Same 0x2026680000000000000000000000000000001c0001000000000c6000000000000008000000000000000001800000000000000000000 s (State.deferOpen s p c q) := by
  unfold State.deferOpen
  try dsimp only
  repeat' first
    | with_reducible exact Same.refl
    | with_reducible assumption
    | with_reducible apply Same.ite
    | ((with_reducible apply State.inc_frame); (decide); decide)
    | ((with_reducible apply Same.via State.refuse_frame); decide)
    | ((with_reducible apply Same.via State.setCmd_frame); decide)
    | with_reducible apply Same.foldl
    | with_reducible apply Same.foldl1
    | intro _ _ _
    | intro _ _
    | (fail_if_no_progress ((with_reducible apply Same.upd) <;> first | (intro hb; first | with_reducible rfl | (exfalso; revert hb; decide)) | skip))
    | dsimp only
    | split

theorem State.deferRing_frame {s : State} {p : Nat} {c : Cmd} {q : StreamP} : Same 0x2026680000000000000000000000000000001c0001000000000c6000000000000008000000000000000001800000000000000000000 s (State.deferRing s p c q) := by
  unfold State.deferRing
  try dsimp only
  repeat' first
    | with_reducible exact Same.refl
    | with_reducible assumption
    | with_reducible apply Same.ite
    | ((with_reducible apply Same.via State.refuse_frame); decide)
    | ((with_reducible apply Same.via State.deferOpen_frame); decide)
    | with_reducible apply Same.foldl
    | with_reducible apply Same.foldl1
    | intro _ _ _
    | intro _ _
    | (fail_if_no_progress ((with_reducible apply Same.upd) <;> first | (intro hb; first | with_reducible rfl | (exfalso; revert hb; decide)) | skip))
    | dsimp only
    | split

theorem State.presentRing_frame {s : State} {p : Nat} {c : Cmd} : Same 0x2026680000000000000000000000000000001c0001000000000c6000000000000008000000000000000003800000000000000000000 s (State.presentRing s p c) := by
  unfold State.presentRing
  try dsimp only
  repeat' first
    | with_reducible exact Same.refl
    | with_reducible assumption
    | with_reducible apply Same.ite
    | ((with_reducible apply Same.via State.refuseBegin_frame); decide)
    | ((with_reducible apply Same.via State.grantRing_frame); decide)
    | ((with_reducible apply Same.via State.deferRing_frame); decide)
    | with_reducible apply Same.foldl
    | with_reducible apply Same.foldl1
    | intro _ _ _
    | intro _ _
    | (fail_if_no_progress ((with_reducible apply Same.upd) <;> first | (intro hb; first | with_reducible rfl | (exfalso; revert hb; decide)) | skip))
    | dsimp only
    | split

theorem State.grantRings_frame {s : State} {p : Nat} : Same 0x2026680000000000000000000000000000001c0001000000000c6000000000000008000000000000000003800000000000000000000 s (State.grantRings s p) := by
  unfold State.grantRings
  try dsimp only
  repeat' first
    | with_reducible exact Same.refl
    | with_reducible assumption
    | with_reducible apply Same.ite
    | ((with_reducible apply Same.via State.presentRing_frame); decide)
    | with_reducible apply Same.foldl
    | with_reducible apply Same.foldl1
    | intro _ _ _
    | intro _ _
    | (fail_if_no_progress ((with_reducible apply Same.upd) <;> first | (intro hb; first | with_reducible rfl | (exfalso; revert hb; decide)) | skip))
    | dsimp only
    | split

theorem State.nextForecast_frame {s : State} {p : Nat} : Same 0x20000000000000000000000000000000000000000000000000000000000000000000000000000000000000000000000000000000 s (State.nextForecast s p) := by
  unfold State.nextForecast
  try dsimp only
  repeat' first
    | with_reducible exact Same.refl
    | with_reducible assumption
    | with_reducible apply Same.ite
    | ((with_reducible apply Same.via State.modRun_frame); decide)
    | with_reducible apply Same.foldl
    | with_reducible apply Same.foldl1
    | intro _ _ _
    | intro _ _
    | (fail_if_no_progress ((with_reducible apply Same.upd) <;> first | (intro hb; first | with_reducible rfl | (exfalso; revert hb; decide)) | skip))
    | dsimp only
    | split

theorem State.applyForecast_frame {s : State} {p : Nat} : Same 0x820000000000000000000000000000000000000000000000000000000000000000000000000000000000000000000000000000000 s (State.applyForecast s p) := by
  unfold State.applyForecast
  try dsimp only
  repeat' first
    | with_reducible exact Same.refl
    | with_reducible assumption
    | with_reducible apply Same.ite
    | ((with_reducible apply Same.via State.nextForecast_frame); decide)
    | ((with_reducible apply Same.via State.setDomain_frame); decide)
    | with_reducible apply Same.foldl
    | with_reducible apply Same.foldl1
    | intro _ _ _
    | intro _ _
    | (fail_if_no_progress ((with_reducible apply Same.upd) <;> first | (intro hb; first | with_reducible rfl | (exfalso; revert hb; decide)) | skip))
    | dsimp only
    | split

theorem State.forgetBefore_frame {s : State} {x : Nat} : Same 0xe0000000000000000000000000000000000000000000000000000000000000000000000000000000000000000000000000000000 s (State.forgetBefore s x) := by
  unfold State.forgetBefore
  try dsimp only
  repeat' first
    | with_reducible exact Same.refl
    | with_reducible assumption
    | with_reducible apply Same.ite
    | ((with_reducible apply Same.via State.modCore_frame); decide)
    | ((with_reducible apply Same.via State.modRun_frame); decide)
    | with_reducible apply Same.foldl
    | with_reducible apply Same.foldl1
    | intro _ _ _
    | intro _ _
    | (fail_if_no_progress ((with_reducible apply Same.upd) <;> first | (intro hb; first | with_reducible rfl | (exfalso; revert hb; decide)) | skip))
    | dsimp only
    | split

theorem State.pruneWrites_frame {s : State} : Same 0xe0000000000000000000000000000000000000000000000000000000000000000000000000000000000000000000000000000000 s (State.pruneWrites s) := by
  unfold State.pruneWrites
  try dsimp only
  repeat' first
    | with_reducible exact Same.refl
    | with_reducible assumption
    | with_reducible apply Same.ite
    | ((with_reducible apply Same.via State.forgetBefore_frame); decide)
    | with_reducible apply Same.foldl
    | with_reducible apply Same.foldl1
    | intro _ _ _
    | intro _ _
    | (fail_if_no_progress ((with_reducible apply Same.upd) <;> first | (intro hb; first | with_reducible rfl | (exfalso; revert hb; decide)) | skip))
    | dsimp only
    | split

theorem State.beginFrame_frame {s : State} {l : List EdgeReq} : Same 0xffcbffce00000000110700000804c1400e6101f024301e000097f783cc37f030f600be0d1028810878045439020c231b060200f819df s (State.beginFrame s l) := by
  unfold State.beginFrame
  try dsimp only
  repeat' first
    | with_reducible exact Same.refl
    | with_reducible assumption
    | with_reducible apply Same.ite
    | ((with_reducible apply Same.via State.settleFences_frame); decide)
    | ((with_reducible apply Same.via State.hostFences_frame); decide)
    | ((with_reducible apply Same.via State.edgeReel_frame); decide)
    | ((with_reducible apply Same.via State.acquirePeriod_frame); decide)
    | ((with_reducible apply Same.via State.serveAll_frame); decide)
    | ((with_reducible apply Same.via State.portActions_frame); decide)
    | ((with_reducible apply Same.via State.swapOut_frame); decide)
    | ((with_reducible apply Same.via State.reachAnchor_frame); decide)
    | ((with_reducible apply Same.via State.edgePart_frame); decide)
    | ((with_reducible apply Same.via State.modeAck_frame); decide)
    | ((with_reducible apply Same.via State.modeHold_frame); decide)
    | ((with_reducible apply Same.via State.releaseRings_frame); decide)
    | ((with_reducible apply Same.via State.sampleDoorbells_frame); decide)
    | ((with_reducible apply Same.via State.fetchAll_frame); decide)
    | ((with_reducible apply Same.via State.journalFences_frame); decide)
    | ((with_reducible apply Same.via State.applyForecast_frame); decide)
    | ((with_reducible apply Same.via State.grantRings_frame); decide)
    | ((with_reducible apply Same.via State.retireLanes_frame); decide)
    | ((with_reducible apply Same.via State.edgeOpen_frame); decide)
    | ((with_reducible apply Same.via State.pruneWrites_frame); decide)
    | ((with_reducible apply Same.via State.edgeSlot_frame); decide)
    | ((with_reducible apply Same.via State.mirrorFlush_frame); decide)
    | ((with_reducible apply Same.via State.applyViews_frame); decide)
    | with_reducible apply Same.foldl
    | with_reducible apply Same.foldl1
    | intro _ _ _
    | intro _ _
    | (fail_if_no_progress ((with_reducible apply Same.upd) <;> first | (intro hb; first | with_reducible rfl | (exfalso; revert hb; decide)) | skip))
    | dsimp only
    | split

theorem State.frameEdge_frame {s : State} : Same 0xffcbffce00000000110700000804c1400e6181f02431fe0180b7f793cc37f030f600be0d1028810878045439020c231b06020cf81bdf s (State.frameEdge s) := by
  unfold State.frameEdge
  try dsimp only
  repeat' first
    | with_reducible exact Same.refl
    | with_reducible assumption
    | with_reducible apply Same.ite
    | ((with_reducible apply Same.via State.closeFrame_frame); decide)
    | ((with_reducible apply Same.via State.openFrame_frame); decide)
    | ((with_reducible apply Same.via State.edgeStep_frame); decide)
    | ((with_reducible apply Same.via State.beginFrame_frame); decide)
    | with_reducible apply Same.foldl
    | with_reducible apply Same.foldl1
    | intro _ _ _
    | intro _ _
    | (fail_if_no_progress ((with_reducible apply Same.upd) <;> first | (intro hb; first | with_reducible rfl | (exfalso; revert hb; decide)) | skip))
    | dsimp only
    | split

theorem execFrameEdge_frame {s t : State} (e : execFrameEdge s = .next t) : Same 0xffcbffce00000000110700000804c1400e6181f02431fe0180b7f793cc37f030f600be0d1028810878045439020c231b06020cf81bdf s t := by
  have k : Same 0xffcbffce00000000110700000804c1400e6181f02431fe0180b7f793cc37f030f600be0d1028810878045439020c231b06020cf81bdf s s.frameEdge := State.frameEdge_frame
  have e2 : (Host.Outcome.next s.frameEdge : Host.Outcome State Fault Refusal) = Host.Outcome.next t := e
  generalize s.frameEdge = g at k e2
  cases e2
  exact k

theorem State.tick_frame {s : State} : Same 0xffcbffce00000000110700000804c1400e6181f02431fe0180b7f793cc37f030f600be0d1028810878045439020c231b06020cf81bdf s (State.tick s) := by
  unfold State.tick
  try dsimp only
  repeat' first
    | with_reducible exact Same.refl
    | with_reducible assumption
    | with_reducible apply Same.ite
    | ((with_reducible apply Same.via State.frameEdge_frame); decide)
    | with_reducible apply Same.foldl
    | with_reducible apply Same.foldl1
    | intro _ _ _
    | intro _ _
    | (fail_if_no_progress ((with_reducible apply Same.upd) <;> first | (intro hb; first | with_reducible rfl | (exfalso; revert hb; decide)) | skip))
    | dsimp only
    | split

end Sys2Proof.Machine
end

