-- ==== Sys2Proof/Laws/Changes.lean ====
section
/-! SUPPORT. From a mask to the lists of a claim: `Same.changes` turns a frame of Laws/Frame*.lean into `Changes`. -/

namespace Sys2Proof.Safety

open Sys2Proof.Machine

/-- The bit of a part in a mask. -/
def Component.bit : Component → Nat
  | .pending => 400 | .clock => 401 | .free => 402 | .fuses => 403 | .reel => 406 | .host => 407 | .fru => 408 | .cmds => 409
  | .recs => 410 | .fences => 411 | .queues => 412 | .parts => 413 | .cores => 414 | .carrier => 415 | .links => 416 | .ports => 417
  | .lasers => 418 | .power => 419 | .mode => 420 | .injects => 421 | .bists => 422 | .gondola => 423 | .sec => 424 | .book => 425
  | .msix => 426 | .vfs => 427 | .edge => 428 | .rehearsal => 429 | .out => 430 | .fresh => 431

def Component.all : List Component :=
  [.pending, .clock, .free, .fuses, .reel, .host, .fru, .cmds, .recs, .fences, .queues, .parts, .cores, .carrier, .links,
   .ports, .lasers, .power, .mode, .injects, .bists, .gondola, .sec, .book, .msix, .vfs, .edge, .rehearsal, .out, .fresh]

/-- The mask lies within the lists. -/
def covers (F : List Field) (C : List Component) (m : Nat) : Bool :=
  (Field.all.all fun f => decide (f.code < 400) && (F.contains f || !m.testBit f.code)) &&
  (Component.all.all fun c => C.contains c || !m.testBit c.bit)

theorem Same.changes {F : List Field} {C : List Component} {m : Nat} {s t : State} (h : Same m s t) (k : covers F C m = true) :
    Changes F C s t := by
  simp only [covers, Bool.and_eq_true, List.all_eq_true, Bool.or_eq_true, decide_eq_true_eq, List.contains_iff_mem,
    Bool.not_eq_true'] at k
  refine ⟨fun f hf hn i => ?_, fun c hc => ?_⟩
  · have k1 := k.1 f hf
    have k2 := k1.2.resolve_left hn
    exact ⟨h.reg f i k1.1 k2, h.ana f i k1.1 k2⟩
  · have k1 := (k.2 c (by cases c <;> decide)).resolve_left hc
    cases c
    case pending => exact h.pending k1
    case clock => exact h.clock k1
    case free => exact h.free k1
    case fuses => exact h.fuses k1
    case reel => exact h.reel k1
    case host => exact h.host k1
    case fru => exact h.fru k1
    case cmds => exact h.cmds k1
    case recs => exact h.recs k1
    case fences => exact h.fences k1
    case queues => exact h.queues k1
    case parts => exact h.parts k1
    case cores => exact h.cores k1
    case carrier => exact h.carrier k1
    case links => exact h.links k1
    case ports => exact h.ports k1
    case lasers => exact h.lasers k1
    case power => exact h.power k1
    case mode => exact h.mode k1
    case injects => exact h.injects k1
    case bists => exact h.bists k1
    case gondola => exact h.gondola k1
    case sec => exact h.sec k1
    case book => exact h.book k1
    case msix => exact h.msix k1
    case vfs => exact h.vfs k1
    case edge => exact h.edge k1
    case rehearsal => exact h.rehearsal k1
    case out => exact h.out k1
    case fresh => exact h.fresh k1

end Sys2Proof.Safety
end

