-- ==== Sys2Proof/Laws/Vital.lean ====
section
/-! SUPPORT. What every operation leaves as it should be: the waiting commands, what is fused, the place in the frame, and the
canonical form of the memories and of the registers' table. `Still` says that the time stands; `Keeps` that it stays within its frame. -/

namespace Sys2Proof.Machine

/-- The part of the state that the two relations are about. -/
structure Vital where
  pending : List Instr
  fused : Nat × Nat × Nat × Nat × Nat
  clock : Clock
  host : Mem
  carrier : Mem
  fru : Mem
  regs : Tab Nat

/-- Grade, enabled cores, disabled positions, identity and serial number of the fuses (R436). -/
def State.fused (s : State) : Nat × Nat × Nat × Nat × Nat :=
  (s.fuses.grade, s.fuses.enabled, s.fuses.disabled, s.fuses.identity, s.fuses.serial)

def State.vital (s : State) : Vital := ⟨s.pending, s.fused, s.clock, s.host, s.carrier.mem, s.fru, s.regs⟩

/-- The present cycle lies in the present frame. -/
def Clock.Ok (c : Clock) : Prop := c.frameStart ≤ c.now ∧ c.now < c.frameStart + c.frameLen

/-- The memories are canonical and the registers' table is in rising order. -/
def Vital.MemOk (v : Vital) : Prop :=
  Mem.wf v.host = true ∧ Mem.wf v.carrier = true ∧ Mem.wf v.fru = true ∧ Tab.Rising v.regs

/-- Nothing of the vital part changes but memories and registers, which keep their form. -/
structure Still (a b : Vital) : Prop where
  pending : b.pending = a.pending
  fused : b.fused = a.fused
  clock : b.clock = a.clock
  mem : a.MemOk → b.MemOk

/-- As `Still`, but time may move, within a frame. -/
structure Keeps (a b : Vital) : Prop where
  pending : b.pending = a.pending
  fused : b.fused = a.fused
  clock : a.clock.Ok → b.clock.Ok
  mem : a.MemOk → b.MemOk

theorem Still.refl (a : Vital) : Still a a := ⟨rfl, rfl, rfl, id⟩

theorem Still.trans {a b c : Vital} (h : Still a b) (k : Still b c) : Still a c :=
  ⟨k.pending.trans h.pending, k.fused.trans h.fused, k.clock.trans h.clock, fun m => k.mem (h.mem m)⟩

theorem Keeps.refl (a : Vital) : Keeps a a := ⟨rfl, rfl, id, id⟩

theorem Still.keeps {a b : Vital} (h : Still a b) : Keeps a b := ⟨h.pending, h.fused, fun k => h.clock ▸ k, h.mem⟩

theorem Keeps.trans {a b c : Vital} (h : Keeps a b) (k : Keeps b c) : Keeps a c :=
  ⟨k.pending.trans h.pending, k.fused.trans h.fused, fun m => k.clock (h.clock m), fun m => k.mem (h.mem m)⟩

theorem Keeps.step {a b c : Vital} (h : Keeps a b) (k : Still b c) : Keeps a c := h.trans k.keeps

theorem Keeps.via {a b c : Vital} (k : Still b c) (h : Keeps a b) : Keeps a c := h.trans k.keeps

theorem Still.ite {a : Vital} {c : Prop} [Decidable c] {x y : State} (h : Still a x.vital) (k : Still a y.vital) :
    Still a (if c then x else y).vital := by split <;> assumption

theorem Keeps.ite {a : Vital} {c : Prop} [Decidable c] {x y : State} (h : Keeps a x.vital) (k : Keeps a y.vital) :
    Keeps a (if c then x else y).vital := by split <;> assumption

theorem Still.foldl {a : Vital} {α : Type} {f : State → α → State} (h : ∀ s x, Still a s.vital → Still a (f s x).vital) :
    ∀ (l : List α) {s : State}, Still a s.vital → Still a (l.foldl f s).vital
  | [], _, k => k
  | x :: r, s, k => Still.foldl h r (h s x k)

theorem Keeps.foldl {a : Vital} {α : Type} {f : State → α → State} (h : ∀ s x, Keeps a s.vital → Keeps a (f s x).vital) :
    ∀ (l : List α) {s : State}, Keeps a s.vital → Keeps a (l.foldl f s).vital
  | [], _, k => k
  | x :: r, s, k => Keeps.foldl h r (h s x k)

/-- A fold that carries other results beside the state. -/
theorem Still.foldl1 {a : Vital} {α β : Type} {f : State × β → α → State × β}
    (h : ∀ s x, Still a s.1.vital → Still a (f s x).1.vital) :
    ∀ (l : List α) {s : State × β}, Still a s.1.vital → Still a (l.foldl f s).1.vital
  | [], _, k => k
  | x :: r, s, k => Still.foldl1 h r (h s x k)

theorem Keeps.foldl1 {a : Vital} {α β : Type} {f : State × β → α → State × β}
    (h : ∀ s x, Keeps a s.1.vital → Keeps a (f s x).1.vital) :
    ∀ (l : List α) {s : State × β}, Keeps a s.1.vital → Keeps a (l.foldl f s).1.vital
  | [], _, k => k
  | x :: r, s, k => Keeps.foldl1 h r (h s x k)

/-- A change of fields outside the vital part. -/
theorem Still.upd {a : Vital} {s : State} {v_free : Nat} {v_fuses : Fuses} {v_analog : Tab Nat} {v_reel : ReelSt} {v_cmds :
    List Cmd} {v_recs : List Rec} {v_fences : List FenceUpd} {v_queues : Tab QueueSt} {v_parts : Tab Part} {v_cores : Tab
    Core} {v_carrier : Carrier} {v_links : Tab Link} {v_ports : Tab Port} {v_lasers : Tab Laser} {v_power : Power} {v_mode :
    Option ModeChange} {v_injects : List Inject} {v_bists : List Bist} {v_gondola : Gondola} {v_sec : Security} {v_book :
    Book} {v_msix : Tab Msix} {v_vfs : List Nat} {v_edge : List EdgeReq} {v_rehearsal : Bool} {v_out : List Out} {v_fresh : Nat × List Nat}
    (h : Still a s.vital) (hc : v_carrier.mem = s.carrier.mem)
    (hf : (v_fuses.grade, v_fuses.enabled, v_fuses.disabled, v_fuses.identity, v_fuses.serial) =
        (s.fuses.grade, s.fuses.enabled, s.fuses.disabled, s.fuses.identity, s.fuses.serial)) :
    Still a (State.mk s.pending s.clock v_free v_fuses s.regs v_analog v_reel s.host s.fru v_cmds v_recs v_fences v_queues
    v_parts v_cores v_carrier v_links v_ports v_lasers v_power v_mode v_injects v_bists v_gondola v_sec v_book v_msix v_vfs
    v_edge v_rehearsal v_out v_fresh).vital :=
  ⟨h.pending, hf.trans h.fused, h.clock, fun m => ⟨(h.mem m).1, (congrArg (fun x => Mem.wf x) hc).trans (h.mem m).2.1, (h.mem m).2.2⟩⟩

/-- The same for `Keeps`. -/
theorem Keeps.upd {a : Vital} {s : State} {v_free : Nat} {v_fuses : Fuses} {v_analog : Tab Nat} {v_reel : ReelSt} {v_cmds :
    List Cmd} {v_recs : List Rec} {v_fences : List FenceUpd} {v_queues : Tab QueueSt} {v_parts : Tab Part} {v_cores : Tab
    Core} {v_carrier : Carrier} {v_links : Tab Link} {v_ports : Tab Port} {v_lasers : Tab Laser} {v_power : Power} {v_mode :
    Option ModeChange} {v_injects : List Inject} {v_bists : List Bist} {v_gondola : Gondola} {v_sec : Security} {v_book :
    Book} {v_msix : Tab Msix} {v_vfs : List Nat} {v_edge : List EdgeReq} {v_rehearsal : Bool} {v_out : List Out} {v_fresh : Nat × List Nat}
    (h : Keeps a s.vital) (hc : v_carrier.mem = s.carrier.mem)
    (hf : (v_fuses.grade, v_fuses.enabled, v_fuses.disabled, v_fuses.identity, v_fuses.serial) =
        (s.fuses.grade, s.fuses.enabled, s.fuses.disabled, s.fuses.identity, s.fuses.serial)) :
    Keeps a (State.mk s.pending s.clock v_free v_fuses s.regs v_analog v_reel s.host s.fru v_cmds v_recs v_fences v_queues
    v_parts v_cores v_carrier v_links v_ports v_lasers v_power v_mode v_injects v_bists v_gondola v_sec v_book v_msix v_vfs
    v_edge v_rehearsal v_out v_fresh).vital :=
  ⟨h.pending, hf.trans h.fused, h.clock, fun m => ⟨(h.mem m).1, (congrArg (fun x => Mem.wf x) hc).trans (h.mem m).2.1, (h.mem m).2.2⟩⟩

/-- Memories change too, and keep their form. -/
theorem Still.mems {a : Vital} {s : State} {v_free : Nat} {v_fuses : Fuses} {v_analog : Tab Nat} {v_reel : ReelSt} {v_cmds :
    List Cmd} {v_recs : List Rec} {v_fences : List FenceUpd} {v_queues : Tab QueueSt} {v_parts : Tab Part} {v_cores : Tab
    Core} {v_carrier : Carrier} {v_links : Tab Link} {v_ports : Tab Port} {v_lasers : Tab Laser} {v_power : Power} {v_mode :
    Option ModeChange} {v_injects : List Inject} {v_bists : List Bist} {v_gondola : Gondola} {v_sec : Security} {v_book :
    Book} {v_msix : Tab Msix} {v_vfs : List Nat} {v_edge : List EdgeReq} {v_rehearsal : Bool} {v_out : List Out} {v_fresh : Nat × List Nat}
    {v_host v_fru : Mem} (h : Still a s.vital) (hh : Mem.wf s.host = true → Mem.wf v_host = true)
    (hc : Mem.wf s.carrier.mem = true → Mem.wf v_carrier.mem = true) (hr : Mem.wf s.fru = true → Mem.wf v_fru = true)
    (hf : (v_fuses.grade, v_fuses.enabled, v_fuses.disabled, v_fuses.identity, v_fuses.serial) =
        (s.fuses.grade, s.fuses.enabled, s.fuses.disabled, s.fuses.identity, s.fuses.serial)) :
    Still a (State.mk s.pending s.clock v_free v_fuses s.regs v_analog v_reel v_host v_fru v_cmds v_recs v_fences v_queues
    v_parts v_cores v_carrier v_links v_ports v_lasers v_power v_mode v_injects v_bists v_gondola v_sec v_book v_msix v_vfs
    v_edge v_rehearsal v_out v_fresh).vital :=
  ⟨h.pending, hf.trans h.fused, h.clock, fun m => ⟨hh (h.mem m).1, hc (h.mem m).2.1, hr (h.mem m).2.2.1, (h.mem m).2.2.2⟩⟩

/-- Memories change too, and keep their form. -/
theorem Keeps.mems {a : Vital} {s : State} {v_free : Nat} {v_fuses : Fuses} {v_analog : Tab Nat} {v_reel : ReelSt} {v_cmds :
    List Cmd} {v_recs : List Rec} {v_fences : List FenceUpd} {v_queues : Tab QueueSt} {v_parts : Tab Part} {v_cores : Tab
    Core} {v_carrier : Carrier} {v_links : Tab Link} {v_ports : Tab Port} {v_lasers : Tab Laser} {v_power : Power} {v_mode :
    Option ModeChange} {v_injects : List Inject} {v_bists : List Bist} {v_gondola : Gondola} {v_sec : Security} {v_book :
    Book} {v_msix : Tab Msix} {v_vfs : List Nat} {v_edge : List EdgeReq} {v_rehearsal : Bool} {v_out : List Out} {v_fresh : Nat × List Nat}
    {v_host v_fru : Mem} (h : Keeps a s.vital) (hh : Mem.wf s.host = true → Mem.wf v_host = true)
    (hc : Mem.wf s.carrier.mem = true → Mem.wf v_carrier.mem = true) (hr : Mem.wf s.fru = true → Mem.wf v_fru = true)
    (hf : (v_fuses.grade, v_fuses.enabled, v_fuses.disabled, v_fuses.identity, v_fuses.serial) =
        (s.fuses.grade, s.fuses.enabled, s.fuses.disabled, s.fuses.identity, s.fuses.serial)) :
    Keeps a (State.mk s.pending s.clock v_free v_fuses s.regs v_analog v_reel v_host v_fru v_cmds v_recs v_fences v_queues
    v_parts v_cores v_carrier v_links v_ports v_lasers v_power v_mode v_injects v_bists v_gondola v_sec v_book v_msix v_vfs
    v_edge v_rehearsal v_out v_fresh).vital :=
  ⟨h.pending, hf.trans h.fused, h.clock, fun m => ⟨hh (h.mem m).1, hc (h.mem m).2.1, hr (h.mem m).2.2.1, (h.mem m).2.2.2⟩⟩


theorem State.put_still {a : Vital} {s : State} {f : Field} {i v : Nat} (h : Still a s.vital) : Still a (s.put f i v).vital :=
  h.trans ⟨rfl, rfl, rfl, fun m => ⟨m.1, m.2.1, m.2.2.1, Tab.rising_put _ _ _ m.2.2.2⟩⟩

theorem State.hostWrite_still {a : Vital} {s : State} {i : Nat} {bs : Bytes} (h : Still a s.vital) :
    Still a (s.hostWrite i bs).vital :=
  h.trans ⟨rfl, rfl, rfl, fun m => ⟨Mem.wf_write _ _ m.1, m.2⟩⟩

/-- A write in a cycle of its own keeps the canonical form. -/
theorem timedWrite_wf {m : Mem} {past : List Replaced} {x slot a : Nat} {bs : Bytes} {hit : List (Nat × Nat)}
    (h : Mem.wf m = true) : Mem.wf (timedWrite m past x slot a bs hit).1 = true := by
  unfold timedWrite
  dsimp only
  split
  · exact Mem.wf_write _ _ h
  · exact Mem.wf_writeCells _ h

theorem State.advance_keeps {a : Vital} {s : State} {t : Nat} (h : Keeps a s.vital) : Keeps a (s.advance t).vital := by
  unfold State.advance
  split
  · rename_i c
    refine h.trans ⟨rfl, rfl, fun k => ?_, id⟩
    have k1 : s.clock.frameStart ≤ s.clock.now := k.1
    exact ⟨Nat.le_trans k1 c.1, c.2⟩
  · exact h

theorem State.setNow_keeps {a : Vital} {s : State} {t : Nat} (h : Keeps a s.vital) : Keeps a (s.setNow t).vital := by
  unfold State.setNow
  split
  · rename_i c
    exact h.trans ⟨rfl, rfl, fun _ => c, id⟩
  · exact h

end Sys2Proof.Machine
end

