-- ==== Sys2Proof/Laws/KeepOps.lean ====
section
/-! SUPPORT. What the functions of Machine/Ops.lean leave as it should be (Laws/Vital.lean). -/

namespace Sys2Proof.Machine

set_option linter.unreachableTactic false
set_option linter.unusedTactic false
set_option linter.unusedVariables false

theorem State.inc_still {vt : Vital} {s : State} {f : Field} {i n : Nat} (hv : Still vt s.vital) : Still vt (State.inc s f i n).vital := by
  unfold State.inc
  try dsimp only
  repeat' first
    | with_reducible assumption
    | with_reducible apply Still.ite
    | with_reducible apply State.put_still
    | with_reducible apply Still.foldl
    | with_reducible apply Still.foldl1
    | intro _ _ _
    | intro _ _
    | (fail_if_no_progress (with_reducible refine Still.upd ?_ rfl rfl))
    | dsimp only
    | split

theorem State.setEvent_still {vt : Vital} {s : State} {f : Field} {i : Nat} (hv : Still vt s.vital) : Still vt (State.setEvent s f i).vital := by
  unfold State.setEvent
  try dsimp only
  repeat' first
    | with_reducible assumption
    | with_reducible apply Still.ite
    | with_reducible apply State.put_still
    | with_reducible apply Still.foldl
    | with_reducible apply Still.foldl1
    | intro _ _ _
    | intro _ _
    | (fail_if_no_progress (with_reducible refine Still.upd ?_ rfl rfl))
    | dsimp only
    | split

theorem State.putA_still {vt : Vital} {s : State} {f : Field} {i v : Nat} (hv : Still vt s.vital) : Still vt (State.putA s f i v).vital := by
  unfold State.putA
  try dsimp only
  repeat' first
    | with_reducible assumption
    | with_reducible apply Still.ite
    | with_reducible apply Still.foldl
    | with_reducible apply Still.foldl1
    | intro _ _ _
    | intro _ _
    | (fail_if_no_progress (with_reducible refine Still.upd ?_ rfl rfl))
    | dsimp only
    | split

theorem State.incA_still {vt : Vital} {s : State} {f : Field} {i n : Nat} (hv : Still vt s.vital) : Still vt (State.incA s f i n).vital := by
  unfold State.incA
  try dsimp only
  repeat' first
    | with_reducible assumption
    | with_reducible apply Still.ite
    | with_reducible apply State.putA_still
    | with_reducible apply Still.foldl
    | with_reducible apply Still.foldl1
    | intro _ _ _
    | intro _ _
    | (fail_if_no_progress (with_reducible refine Still.upd ?_ rfl rfl))
    | dsimp only
    | split

theorem State.confine_still {vt : Vital} {s t : State} (h : Still vt s.vital) : Still vt (State.confine s t).vital := h

theorem State.setPart_still {vt : Vital} {s : State} {p : Nat} {x : Part} (hv : Still vt s.vital) : Still vt (State.setPart s p x).vital := by
  unfold State.setPart
  try dsimp only
  repeat' first
    | with_reducible assumption
    | with_reducible apply Still.ite
    | with_reducible apply Still.foldl
    | with_reducible apply Still.foldl1
    | intro _ _ _
    | intro _ _
    | (fail_if_no_progress (with_reducible refine Still.upd ?_ rfl rfl))
    | dsimp only
    | split

theorem State.modPart_still {vt : Vital} {s : State} {p : Nat} {f : Part → Part} (hv : Still vt s.vital) : Still vt (State.modPart s p f).vital := by
  unfold State.modPart
  try dsimp only
  repeat' first
    | with_reducible assumption
    | with_reducible apply Still.ite
    | with_reducible apply State.setPart_still
    | with_reducible apply Still.foldl
    | with_reducible apply Still.foldl1
    | intro _ _ _
    | intro _ _
    | (fail_if_no_progress (with_reducible refine Still.upd ?_ rfl rfl))
    | dsimp only
    | split

theorem State.modBind_still {vt : Vital} {s : State} {p : Nat} {f : PartBind → PartBind} (hv : Still vt s.vital) : Still vt (State.modBind s p f).vital := by
  unfold State.modBind
  try dsimp only
  repeat' first
    | with_reducible assumption
    | with_reducible apply Still.ite
    | with_reducible apply State.modPart_still
    | with_reducible apply Still.foldl
    | with_reducible apply Still.foldl1
    | intro _ _ _
    | intro _ _
    | (fail_if_no_progress (with_reducible refine Still.upd ?_ rfl rfl))
    | dsimp only
    | split

theorem State.modRun_still {vt : Vital} {s : State} {p : Nat} {f : PartRun → PartRun} (hv : Still vt s.vital) : Still vt (State.modRun s p f).vital := by
  unfold State.modRun
  try dsimp only
  repeat' first
    | with_reducible assumption
    | with_reducible apply Still.ite
    | with_reducible apply State.modPart_still
    | with_reducible apply Still.foldl
    | with_reducible apply Still.foldl1
    | intro _ _ _
    | intro _ _
    | (fail_if_no_progress (with_reducible refine Still.upd ?_ rfl rfl))
    | dsimp only
    | split

theorem State.modStrm_still {vt : Vital} {s : State} {p : Nat} {f : PartStream → PartStream} (hv : Still vt s.vital) : Still vt (State.modStrm s p f).vital := by
  unfold State.modStrm
  try dsimp only
  repeat' first
    | with_reducible assumption
    | with_reducible apply Still.ite
    | with_reducible apply State.modPart_still
    | with_reducible apply Still.foldl
    | with_reducible apply Still.foldl1
    | intro _ _ _
    | intro _ _
    | (fail_if_no_progress (with_reducible refine Still.upd ?_ rfl rfl))
    | dsimp only
    | split

theorem State.setCore_still {vt : Vital} {s : State} {n : Nat} {x : Core} (hv : Still vt s.vital) : Still vt (State.setCore s n x).vital := by
  unfold State.setCore
  try dsimp only
  repeat' first
    | with_reducible assumption
    | with_reducible apply Still.ite
    | with_reducible apply Still.foldl
    | with_reducible apply Still.foldl1
    | intro _ _ _
    | intro _ _
    | (fail_if_no_progress (with_reducible refine Still.upd ?_ rfl rfl))
    | dsimp only
    | split

theorem State.modCore_still {vt : Vital} {s : State} {n : Nat} {f : Core → Core} (hv : Still vt s.vital) : Still vt (State.modCore s n f).vital := by
  unfold State.modCore
  try dsimp only
  repeat' first
    | with_reducible assumption
    | with_reducible apply Still.ite
    | with_reducible apply State.setCore_still
    | with_reducible apply Still.foldl
    | with_reducible apply Still.foldl1
    | intro _ _ _
    | intro _ _
    | (fail_if_no_progress (with_reducible refine Still.upd ?_ rfl rfl))
    | dsimp only
    | split

theorem State.setPort_still {vt : Vital} {s : State} {n : Nat} {x : Port} (hv : Still vt s.vital) : Still vt (State.setPort s n x).vital := by
  unfold State.setPort
  try dsimp only
  repeat' first
    | with_reducible assumption
    | with_reducible apply Still.ite
    | with_reducible apply Still.foldl
    | with_reducible apply Still.foldl1
    | intro _ _ _
    | intro _ _
    | (fail_if_no_progress (with_reducible refine Still.upd ?_ rfl rfl))
    | dsimp only
    | split

theorem State.modPort_still {vt : Vital} {s : State} {n : Nat} {f : Port → Port} (hv : Still vt s.vital) : Still vt (State.modPort s n f).vital := by
  unfold State.modPort
  try dsimp only
  repeat' first
    | with_reducible assumption
    | with_reducible apply Still.ite
    | with_reducible apply State.setPort_still
    | with_reducible apply Still.foldl
    | with_reducible apply Still.foldl1
    | intro _ _ _
    | intro _ _
    | (fail_if_no_progress (with_reducible refine Still.upd ?_ rfl rfl))
    | dsimp only
    | split

theorem State.setLaser_still {vt : Vital} {s : State} {e : Nat} {x : Laser} (hv : Still vt s.vital) : Still vt (State.setLaser s e x).vital := by
  unfold State.setLaser
  try dsimp only
  repeat' first
    | with_reducible assumption
    | with_reducible apply Still.ite
    | with_reducible apply Still.foldl
    | with_reducible apply Still.foldl1
    | intro _ _ _
    | intro _ _
    | (fail_if_no_progress (with_reducible refine Still.upd ?_ rfl rfl))
    | dsimp only
    | split

theorem State.setDomain_still {vt : Vital} {s : State} {d : Nat} {x : Domain} (hv : Still vt s.vital) : Still vt (State.setDomain s d x).vital := by
  unfold State.setDomain
  try dsimp only
  repeat' first
    | with_reducible assumption
    | with_reducible apply Still.ite
    | with_reducible apply Still.foldl
    | with_reducible apply Still.foldl1
    | intro _ _ _
    | intro _ _
    | (fail_if_no_progress (with_reducible refine Still.upd ?_ rfl rfl))
    | dsimp only
    | split

theorem State.setQueue_still {vt : Vital} {s : State} {q : Nat} {x : QueueSt} (hv : Still vt s.vital) : Still vt (State.setQueue s q x).vital := by
  unfold State.setQueue
  try dsimp only
  repeat' first
    | with_reducible assumption
    | with_reducible apply Still.ite
    | with_reducible apply Still.foldl
    | with_reducible apply Still.foldl1
    | intro _ _ _
    | intro _ _
    | (fail_if_no_progress (with_reducible refine Still.upd ?_ rfl rfl))
    | dsimp only
    | split

theorem State.setTracker_still {vt : Vital} {s : State} {n : Nat} {x : Tracker} (hv : Still vt s.vital) : Still vt (State.setTracker s n x).vital := by
  unfold State.setTracker
  try dsimp only
  repeat' first
    | with_reducible assumption
    | with_reducible apply Still.ite
    | with_reducible apply Still.foldl
    | with_reducible apply Still.foldl1
    | intro _ _ _
    | intro _ _
    | (fail_if_no_progress (with_reducible refine Still.upd ?_ rfl rfl))
    | dsimp only
    | split

theorem State.setLink_still {vt : Vital} {s : State} {n : Nat} {x : Link} (hv : Still vt s.vital) : Still vt (State.setLink s n x).vital := by
  unfold State.setLink
  try dsimp only
  repeat' first
    | with_reducible assumption
    | with_reducible apply Still.ite
    | with_reducible apply Still.foldl
    | with_reducible apply Still.foldl1
    | intro _ _ _
    | intro _ _
    | (fail_if_no_progress (with_reducible refine Still.upd ?_ rfl rfl))
    | dsimp only
    | split

theorem State.setMsix_still {vt : Vital} {s : State} {fn : Nat} {x : Msix} (hv : Still vt s.vital) : Still vt (State.setMsix s fn x).vital := by
  unfold State.setMsix
  try dsimp only
  repeat' first
    | with_reducible assumption
    | with_reducible apply Still.ite
    | with_reducible apply Still.foldl
    | with_reducible apply Still.foldl1
    | intro _ _ _
    | intro _ _
    | (fail_if_no_progress (with_reducible refine Still.upd ?_ rfl rfl))
    | dsimp only
    | split

theorem State.draw_still {vt : Vital} {s : State} (hv : Still vt s.vital) : Still vt (State.draw s).2.vital := by
  unfold State.draw
  try dsimp only
  repeat' first
    | with_reducible assumption
    | with_reducible apply Still.ite
    | with_reducible apply Still.foldl
    | with_reducible apply Still.foldl1
    | intro _ _ _
    | intro _ _
    | (fail_if_no_progress (with_reducible refine Still.upd ?_ rfl rfl))
    | dsimp only
    | split

theorem State.send_still {vt : Vital} {s : State} {o : Out} (hv : Still vt s.vital) : Still vt (State.send s o).vital := by
  unfold State.send
  try dsimp only
  repeat' first
    | with_reducible assumption
    | with_reducible apply Still.ite
    | with_reducible apply Still.foldl
    | with_reducible apply Still.foldl1
    | intro _ _ _
    | intro _ _
    | (fail_if_no_progress (with_reducible refine Still.upd ?_ rfl rfl))
    | dsimp only
    | split

theorem State.queueMsg_still {vt : Vital} {s : State} {n type : Nat} {body : Bytes} (hv : Still vt s.vital) : Still vt (State.queueMsg s n type body).vital := by
  unfold State.queueMsg
  try dsimp only
  repeat' first
    | with_reducible assumption
    | with_reducible apply Still.ite
    | with_reducible apply State.modPort_still
    | with_reducible apply Still.foldl
    | with_reducible apply Still.foldl1
    | intro _ _ _
    | intro _ _
    | (fail_if_no_progress (with_reducible refine Still.upd ?_ rfl rfl))
    | dsimp only
    | split

theorem State.atNextEdge_still {vt : Vital} {s : State} {r : EdgeReq} (hv : Still vt s.vital) : Still vt (State.atNextEdge s r).vital := by
  unfold State.atNextEdge
  try dsimp only
  repeat' first
    | with_reducible assumption
    | with_reducible apply Still.ite
    | with_reducible apply Still.foldl
    | with_reducible apply Still.foldl1
    | intro _ _ _
    | intro _ _
    | (fail_if_no_progress (with_reducible refine Still.upd ?_ rfl rfl))
    | dsimp only
    | split

theorem State.whenBooted_still {vt : Vital} {s t : State} (h : Still vt s.vital) (k : Still vt t.vital) :
    Still vt (State.whenBooted s t).vital := by
  unfold State.whenBooted
  split <;> assumption

theorem State.whenBooted_keeps {vt : Vital} {s t : State} (h : Keeps vt s.vital) (k : Keeps vt t.vital) :
    Keeps vt (State.whenBooted s t).vital := by
  unfold State.whenBooted
  split <;> assumption

theorem State.viaFirmware_still {vt : Vital} {s t : State} {i : Instr} (h : Still vt s.vital) (k : Still vt t.vital) :
    Still vt (State.viaFirmware s i t).vital := by
  unfold State.viaFirmware
  split
  · exact State.atNextEdge_still h
  · exact k

theorem State.viaFirmware_keeps {vt : Vital} {s t : State} {i : Instr} (h : Keeps vt s.vital) (k : Keeps vt t.vital) :
    Keeps vt (State.viaFirmware s i t).vital := by
  unfold State.viaFirmware
  split
  · exact Keeps.via (State.atNextEdge_still (Still.refl _)) h
  · exact k

end Sys2Proof.Machine
end

