-- ==== Sys2Proof/Laws/KeepLogbook.lean ====
section
/-! SUPPORT. What the functions of Machine/Logbook.lean leave as it should be (Laws/Vital.lean). -/

namespace Sys2Proof.Machine

set_option linter.unreachableTactic false
set_option linter.unusedTactic false
set_option linter.unusedVariables false

theorem State.createTally_still {vt : Vital} {s : State} {t : Tally} (hv : Still vt s.vital) : Still vt (State.createTally s t).vital := by
  unfold State.createTally
  try dsimp only
  repeat' first
    | with_reducible assumption
    | with_reducible apply Still.ite
    | with_reducible apply State.incA_still
    | with_reducible apply Still.foldl
    | with_reducible apply Still.foldl1
    | intro _ _ _
    | intro _ _
    | (fail_if_no_progress (with_reducible refine Still.upd ?_ rfl rfl))
    | dsimp only
    | split

theorem State.applyEvent_still {vt : Vital} {s : State} {st code subject arg : Nat} {reh : Bool} (hv : Still vt s.vital) : Still vt (State.applyEvent s st code subject arg reh).vital := by
  unfold State.applyEvent
  try dsimp only
  repeat' first
    | with_reducible assumption
    | with_reducible apply Still.ite
    | with_reducible apply State.putA_still
    | with_reducible apply State.createTally_still
    | with_reducible apply Still.foldl
    | with_reducible apply Still.foldl1
    | intro _ _ _
    | intro _ _
    | (fail_if_no_progress (with_reducible refine Still.upd ?_ rfl rfl))
    | dsimp only
    | split

theorem State.applySample_still {vt : Vital} {s : State} {st hcode subject : Nat} {x : Int} (hv : Still vt s.vital) : Still vt (State.applySample s st hcode subject x).vital := by
  unfold State.applySample
  try dsimp only
  repeat' first
    | with_reducible assumption
    | with_reducible apply Still.ite
    | with_reducible apply State.putA_still
    | with_reducible apply Still.foldl
    | with_reducible apply Still.foldl1
    | intro _ _ _
    | intro _ _
    | (fail_if_no_progress (with_reducible refine Still.upd ?_ rfl rfl))
    | dsimp only
    | split

theorem State.applyUpdate_still {vt : Vital} {s : State} {st : Nat} {vx : Update} (hv : Still vt s.vital) : Still vt (State.applyUpdate s st vx).vital := by
  unfold State.applyUpdate
  try dsimp only
  repeat' first
    | with_reducible assumption
    | with_reducible apply Still.ite
    | with_reducible apply State.applyEvent_still
    | with_reducible apply State.applySample_still
    | with_reducible apply Still.foldl
    | with_reducible apply Still.foldl1
    | intro _ _ _
    | intro _ _
    | (fail_if_no_progress (with_reducible refine Still.upd ?_ rfl rfl))
    | dsimp only
    | split

theorem State.update_still {vt : Vital} {s : State} {u : Update} (hv : Still vt s.vital) : Still vt (State.update s u).vital := by
  unfold State.update
  try dsimp only
  repeat' first
    | with_reducible assumption
    | with_reducible apply Still.ite
    | with_reducible apply State.applyUpdate_still
    | with_reducible apply Still.foldl
    | with_reducible apply Still.foldl1
    | intro _ _ _
    | intro _ _
    | (fail_if_no_progress (with_reducible refine Still.upd ?_ rfl rfl))
    | dsimp only
    | split

theorem State.event_still {vt : Vital} {s : State} {code subject arg : Nat} (hv : Still vt s.vital) : Still vt (State.event s code subject arg).vital := by
  unfold State.event
  try dsimp only
  repeat' first
    | with_reducible assumption
    | with_reducible apply Still.ite
    | with_reducible apply State.update_still
    | with_reducible apply Still.foldl
    | with_reducible apply Still.foldl1
    | intro _ _ _
    | intro _ _
    | (fail_if_no_progress (with_reducible refine Still.upd ?_ rfl rfl))
    | dsimp only
    | split

theorem State.sample_still {vt : Vital} {s : State} {hcode subject : Nat} {x : Int} (hv : Still vt s.vital) : Still vt (State.sample s hcode subject x).vital := by
  unfold State.sample
  try dsimp only
  repeat' first
    | with_reducible assumption
    | with_reducible apply Still.ite
    | with_reducible apply State.update_still
    | with_reducible apply Still.foldl
    | with_reducible apply Still.foldl1
    | intro _ _ _
    | intro _ _
    | (fail_if_no_progress (with_reducible refine Still.upd ?_ rfl rfl))
    | dsimp only
    | split

theorem State.applyViews_still {vt : Vital} {s : State} (hv : Still vt s.vital) : Still vt (State.applyViews s).vital := by
  unfold State.applyViews
  try dsimp only
  repeat' first
    | with_reducible assumption
    | with_reducible apply Still.ite
    | with_reducible apply State.putA_still
    | with_reducible apply Still.foldl
    | with_reducible apply Still.foldl1
    | intro _ _ _
    | intro _ _
    | (fail_if_no_progress (with_reducible refine Still.upd ?_ rfl rfl))
    | dsimp only
    | split

theorem State.storeBook_still {vt : Vital} {s : State} {orderly : Bool} (hv : Still vt s.vital) : Still vt (State.storeBook s orderly).vital := by
  unfold State.storeBook
  try dsimp only
  repeat' first
    | with_reducible assumption
    | with_reducible apply Still.ite
    | with_reducible apply Still.foldl
    | with_reducible apply Still.foldl1
    | intro _ _ _
    | intro _ _
    | (fail_if_no_progress (with_reducible refine Still.upd ?_ rfl rfl))
    | dsimp only
    | split

theorem State.applyQueued_still {vt : Vital} {s : State} {x : Nat × Nat × Update} (hv : Still vt s.vital) : Still vt (State.applyQueued s x).vital := by
  unfold State.applyQueued
  try dsimp only
  repeat' first
    | with_reducible assumption
    | with_reducible apply Still.ite
    | with_reducible apply State.applyUpdate_still
    | with_reducible apply Still.foldl
    | with_reducible apply Still.foldl1
    | intro _ _ _
    | intro _ _
    | (fail_if_no_progress (with_reducible refine Still.upd ?_ rfl rfl))
    | dsimp only
    | split

theorem State.thaw_still {vt : Vital} {s : State} (hv : Still vt s.vital) : Still vt (State.thaw s).vital := by
  unfold State.thaw
  try dsimp only
  repeat' first
    | with_reducible assumption
    | with_reducible apply Still.ite
    | with_reducible apply State.applyQueued_still
    | with_reducible apply State.put_still
    | with_reducible apply State.storeBook_still
    | with_reducible apply Still.foldl
    | with_reducible apply Still.foldl1
    | intro _ _ _
    | intro _ _
    | (fail_if_no_progress (with_reducible refine Still.upd ?_ rfl rfl))
    | dsimp only
    | split

theorem State.storeOrderly_still {vt : Vital} {s : State} (hv : Still vt s.vital) : Still vt (State.storeOrderly s).vital := by
  unfold State.storeOrderly
  try dsimp only
  repeat' first
    | with_reducible assumption
    | with_reducible apply Still.ite
    | with_reducible apply State.storeBook_still
    | with_reducible apply Still.foldl
    | with_reducible apply Still.foldl1
    | intro _ _ _
    | intro _ _
    | (fail_if_no_progress (with_reducible refine Still.upd ?_ rfl rfl))
    | dsimp only
    | split

end Sys2Proof.Machine
end

