-- ==== Sys2Proof/Laws/KeepFlags.lean ====
section
/-! SUPPORT. What the functions of Machine/Flags.lean leave as it should be (Laws/Vital.lean). -/

namespace Sys2Proof.Machine

set_option linter.unreachableTactic false
set_option linter.unusedTactic false
set_option linter.unusedVariables false

theorem State.reelEvent_still {vt : Vital} {s : State} {f : Field} (hv : Still vt s.vital) : Still vt (State.reelEvent s f).vital := by
  unfold State.reelEvent
  try dsimp only
  repeat' first
    | with_reducible assumption
    | with_reducible apply Still.ite
    | with_reducible apply State.setEvent_still
    | with_reducible apply State.event_still
    | with_reducible apply Still.foldl
    | with_reducible apply Still.foldl1
    | intro _ _ _
    | intro _ _
    | (fail_if_no_progress (with_reducible refine Still.upd ?_ rfl rfl))
    | dsimp only
    | split

theorem State.partEvent_still {vt : Vital} {s : State} {f : Field} {p : Nat} (hv : Still vt s.vital) : Still vt (State.partEvent s f p).vital := by
  unfold State.partEvent
  try dsimp only
  repeat' first
    | with_reducible assumption
    | with_reducible apply Still.ite
    | with_reducible apply State.setEvent_still
    | with_reducible apply State.modRun_still
    | with_reducible apply State.event_still
    | with_reducible apply Still.foldl
    | with_reducible apply Still.foldl1
    | intro _ _ _
    | intro _ _
    | (fail_if_no_progress (with_reducible refine Still.upd ?_ rfl rfl))
    | dsimp only
    | split

theorem State.tethEvent_still {vt : Vital} {s : State} {f : Field} {n : Nat} (hv : Still vt s.vital) : Still vt (State.tethEvent s f n).vital := by
  unfold State.tethEvent
  try dsimp only
  repeat' first
    | with_reducible assumption
    | with_reducible apply Still.ite
    | with_reducible apply State.setEvent_still
    | with_reducible apply State.update_still
    | with_reducible apply Still.foldl
    | with_reducible apply Still.foldl1
    | intro _ _ _
    | intro _ _
    | (fail_if_no_progress (with_reducible refine Still.upd ?_ rfl rfl))
    | dsimp only
    | split

theorem State.tethInc_still {vt : Vital} {s : State} {f : Field} {n k : Nat} (hv : Still vt s.vital) : Still vt (State.tethInc s f n k).vital := by
  unfold State.tethInc
  try dsimp only
  repeat' first
    | with_reducible assumption
    | with_reducible apply Still.ite
    | with_reducible apply State.inc_still
    | with_reducible apply State.event_still
    | with_reducible apply Still.foldl
    | with_reducible apply Still.foldl1
    | intro _ _ _
    | intro _ _
    | (fail_if_no_progress (with_reducible refine Still.upd ?_ rfl rfl))
    | dsimp only
    | split

theorem State.ignored_still {vt : Vital} {s : State} {off : Nat} (hv : Still vt s.vital) : Still vt (State.ignored s off).vital := by
  unfold State.ignored
  try dsimp only
  repeat' first
    | with_reducible assumption
    | with_reducible apply Still.ite
    | with_reducible apply State.event_still
    | with_reducible apply Still.foldl
    | with_reducible apply Still.foldl1
    | intro _ _ _
    | intro _ _
    | (fail_if_no_progress (with_reducible refine Still.upd ?_ rfl rfl))
    | dsimp only
    | split

theorem State.stackState_still {vt : Vital} {s : State} {m v : Nat} (hv : Still vt s.vital) : Still vt (State.stackState s m v).vital := by
  unfold State.stackState
  try dsimp only
  repeat' first
    | with_reducible assumption
    | with_reducible apply Still.ite
    | with_reducible apply State.put_still
    | with_reducible apply State.event_still
    | with_reducible apply Still.foldl
    | with_reducible apply Still.foldl1
    | intro _ _ _
    | intro _ _
    | (fail_if_no_progress (with_reducible refine Still.upd ?_ rfl rfl))
    | dsimp only
    | split

theorem State.domainCause_still {vt : Vital} {s : State} {d c : Nat} (hv : Still vt s.vital) : Still vt (State.domainCause s d c).vital := by
  unfold State.domainCause
  try dsimp only
  repeat' first
    | with_reducible assumption
    | with_reducible apply Still.ite
    | with_reducible apply State.put_still
    | with_reducible apply State.event_still
    | with_reducible apply Still.foldl
    | with_reducible apply Still.foldl1
    | intro _ _ _
    | intro _ _
    | (fail_if_no_progress (with_reducible refine Still.upd ?_ rfl rfl))
    | dsimp only
    | split

theorem State.raise_still {vt : Vital} {s : State} {fn v : Nat} (hv : Still vt s.vital) : Still vt (State.raise s fn v).vital := by
  unfold State.raise
  try dsimp only
  repeat' first
    | with_reducible assumption
    | with_reducible apply Still.ite
    | with_reducible apply State.setMsix_still
    | with_reducible apply Still.foldl
    | with_reducible apply Still.foldl1
    | intro _ _ _
    | intro _ _
    | (fail_if_no_progress (with_reducible refine Still.upd ?_ rfl rfl))
    | dsimp only
    | split

theorem State.sendVector_still {vt : Vital} {s : State} {fn v : Nat} (hv : Still vt s.vital) : Still vt (State.sendVector s fn v).vital := by
  unfold State.sendVector
  try dsimp only
  repeat' first
    | with_reducible assumption
    | with_reducible apply Still.ite
    | with_reducible apply State.setMsix_still
    | with_reducible apply State.send_still
    | with_reducible apply Still.foldl
    | with_reducible apply Still.foldl1
    | intro _ _ _
    | intro _ _
    | (fail_if_no_progress (with_reducible refine Still.upd ?_ rfl rfl))
    | dsimp only
    | split

theorem State.sendMsix_still {vt : Vital} {s : State} (hv : Still vt s.vital) : Still vt (State.sendMsix s).vital := by
  unfold State.sendMsix
  try dsimp only
  repeat' first
    | with_reducible assumption
    | with_reducible apply Still.ite
    | with_reducible apply State.setMsix_still
    | with_reducible apply State.sendVector_still
    | with_reducible apply Still.foldl
    | with_reducible apply Still.foldl1
    | intro _ _ _
    | intro _ _
    | (fail_if_no_progress (with_reducible refine Still.upd ?_ rfl rfl))
    | dsimp only
    | split

theorem State.eventVectors_still {vt : Vital} {s : State} (hv : Still vt s.vital) : Still vt (State.eventVectors s).vital := by
  unfold State.eventVectors
  try dsimp only
  repeat' first
    | with_reducible assumption
    | with_reducible apply Still.ite
    | with_reducible apply State.modRun_still
    | with_reducible apply State.raise_still
    | with_reducible apply Still.foldl
    | with_reducible apply Still.foldl1
    | intro _ _ _
    | intro _ _
    | (fail_if_no_progress (with_reducible refine Still.upd ?_ rfl rfl))
    | dsimp only
    | split

end Sys2Proof.Machine
end

