-- ==== Sys2Proof/Laws/KeepJournal.lean ====
section
/-! SUPPORT. What the functions of Machine/Journal.lean leave as it should be (Laws/Vital.lean). -/

namespace Sys2Proof.Machine

set_option linter.unreachableTactic false
set_option linter.unusedTactic false
set_option linter.unusedVariables false

theorem State.journalRaw_still {vt : Vital} {s : State} {p type len : Nat} {body : Bytes} (hv : Still vt s.vital) : Still vt (State.journalRaw s p type len body).vital := by
  unfold State.journalRaw
  try dsimp only
  repeat' first
    | with_reducible assumption
    | with_reducible apply Still.ite
    | with_reducible apply State.hostWrite_still
    | with_reducible apply State.put_still
    | with_reducible apply State.modPart_still
    | with_reducible apply State.inc_still
    | with_reducible apply Still.foldl
    | with_reducible apply Still.foldl1
    | intro _ _ _
    | intro _ _
    | (fail_if_no_progress (with_reducible refine Still.upd ?_ rfl rfl))
    | dsimp only
    | split

theorem State.journalPut_still {vt : Vital} {s : State} {p : Nat} {r : JournalRec} (hv : Still vt s.vital) : Still vt (State.journalPut s p r).vital := by
  unfold State.journalPut
  try dsimp only
  repeat' first
    | with_reducible assumption
    | with_reducible apply Still.ite
    | with_reducible apply State.journalRaw_still
    | with_reducible apply Still.foldl
    | with_reducible apply Still.foldl1
    | intro _ _ _
    | intro _ _
    | (fail_if_no_progress (with_reducible refine Still.upd ?_ rfl rfl))
    | dsimp only
    | split

theorem State.journalBack_still {vt : Vital} {s : State} {p : Nat} {g : JournalGroup} (hv : Still vt s.vital) : Still vt (State.journalBack s p g).vital := by
  unfold State.journalBack
  try dsimp only
  repeat' first
    | with_reducible assumption
    | with_reducible apply Still.ite
    | with_reducible apply State.put_still
    | with_reducible apply State.modPart_still
    | with_reducible apply Still.foldl
    | with_reducible apply Still.foldl1
    | intro _ _ _
    | intro _ _
    | (fail_if_no_progress (with_reducible refine Still.upd ?_ rfl rfl))
    | dsimp only
    | split

theorem State.journal_still {vt : Vital} {s : State} {p type queue seq : Nat} {body : Bytes} (hv : Still vt s.vital) : Still vt (State.journal s p type queue seq body).vital := by
  unfold State.journal
  try dsimp only
  repeat' first
    | with_reducible assumption
    | with_reducible apply Still.ite
    | with_reducible apply State.journalPut_still
    | with_reducible apply State.journalBack_still
    | with_reducible apply Still.foldl
    | with_reducible apply Still.foldl1
    | intro _ _ _
    | intro _ _
    | (fail_if_no_progress (with_reducible refine Still.upd ?_ rfl rfl))
    | dsimp only
    | split

theorem State.journalTaskBegin_still {vt : Vital} {s : State} {p : Nat} {t : Task} (hv : Still vt s.vital) : Still vt (State.journalTaskBegin s p t).vital := by
  unfold State.journalTaskBegin
  try dsimp only
  repeat' first
    | with_reducible assumption
    | with_reducible apply Still.ite
    | with_reducible apply State.journal_still
    | with_reducible apply Still.foldl
    | with_reducible apply Still.foldl1
    | intro _ _ _
    | intro _ _
    | (fail_if_no_progress (with_reducible refine Still.upd ?_ rfl rfl))
    | dsimp only
    | split

theorem State.journalDoorbell_still {vt : Vital} {s : State} {p q tail head : Nat} (hv : Still vt s.vital) : Still vt (State.journalDoorbell s p q tail head).vital := by
  unfold State.journalDoorbell
  try dsimp only
  repeat' first
    | with_reducible assumption
    | with_reducible apply Still.ite
    | with_reducible apply State.journal_still
    | with_reducible apply Still.foldl
    | with_reducible apply Still.foldl1
    | intro _ _ _
    | intro _ _
    | (fail_if_no_progress (with_reducible refine Still.upd ?_ rfl rfl))
    | dsimp only
    | split

theorem State.journalCommand_still {vt : Vital} {s : State} {p : Nat} {c : Cmd} (hv : Still vt s.vital) : Still vt (State.journalCommand s p c).vital := by
  unfold State.journalCommand
  try dsimp only
  repeat' first
    | with_reducible assumption
    | with_reducible apply Still.ite
    | with_reducible apply State.journal_still
    | with_reducible apply Still.foldl
    | with_reducible apply Still.foldl1
    | intro _ _ _
    | intro _ _
    | (fail_if_no_progress (with_reducible refine Still.upd ?_ rfl rfl))
    | dsimp only
    | split

theorem State.journalFence_still {vt : Vital} {s : State} {p rel value : Nat} (hv : Still vt s.vital) : Still vt (State.journalFence s p rel value).vital := by
  unfold State.journalFence
  try dsimp only
  repeat' first
    | with_reducible assumption
    | with_reducible apply Still.ite
    | with_reducible apply State.journal_still
    | with_reducible apply Still.foldl
    | with_reducible apply Still.foldl1
    | intro _ _ _
    | intro _ _
    | (fail_if_no_progress (with_reducible refine Still.upd ?_ rfl rfl))
    | dsimp only
    | split

theorem State.journalInput_still {vt : Vital} {s : State} {c : Cmd} {p kind port entry rows : Nat} {ref digest : Bytes} (hv : Still vt s.vital) : Still vt (State.journalInput s c p kind port entry rows ref digest).vital := by
  unfold State.journalInput
  try dsimp only
  repeat' first
    | with_reducible assumption
    | with_reducible apply Still.ite
    | with_reducible apply State.journal_still
    | with_reducible apply Still.foldl
    | with_reducible apply Still.foldl1
    | intro _ _ _
    | intro _ _
    | (fail_if_no_progress (with_reducible refine Still.upd ?_ rfl rfl))
    | dsimp only
    | split

theorem State.journalRoute_still {vt : Vital} {s : State} {c : Cmd} {p confirm resolve spilled maxN : Nat} {dispatch runs : Bool} {digest : Bytes} (hv : Still vt s.vital) : Still vt (State.journalRoute s c p confirm resolve spilled maxN dispatch runs digest).vital := by
  unfold State.journalRoute
  try dsimp only
  repeat' first
    | with_reducible assumption
    | with_reducible apply Still.ite
    | with_reducible apply State.journal_still
    | with_reducible apply Still.foldl
    | with_reducible apply Still.foldl1
    | intro _ _ _
    | intro _ _
    | (fail_if_no_progress (with_reducible refine Still.upd ?_ rfl rfl))
    | dsimp only
    | split

theorem State.journalSwitch_still {vt : Vital} {s : State} {p queue seq kind gen : Nat} {digest : Bytes} (hv : Still vt s.vital) : Still vt (State.journalSwitch s p queue seq kind gen digest).vital := by
  unfold State.journalSwitch
  try dsimp only
  repeat' first
    | with_reducible assumption
    | with_reducible apply Still.ite
    | with_reducible apply State.journal_still
    | with_reducible apply Still.foldl
    | with_reducible apply Still.foldl1
    | intro _ _ _
    | intro _ _
    | (fail_if_no_progress (with_reducible refine Still.upd ?_ rfl rfl))
    | dsimp only
    | split

theorem State.journalTap_still {vt : Vital} {s : State} {c : Cmd} {p core row rows : Nat} {digest : Bytes} (hv : Still vt s.vital) : Still vt (State.journalTap s c p core row rows digest).vital := by
  unfold State.journalTap
  try dsimp only
  repeat' first
    | with_reducible assumption
    | with_reducible apply Still.ite
    | with_reducible apply State.journal_still
    | with_reducible apply Still.foldl
    | with_reducible apply Still.foldl1
    | intro _ _ _
    | intro _ _
    | (fail_if_no_progress (with_reducible refine Still.upd ?_ rfl rfl))
    | dsimp only
    | split

theorem State.journalFault_still {vt : Vital} {s : State} {p : Nat} {c : Cmd} {status detail : Nat} (hv : Still vt s.vital) : Still vt (State.journalFault s p c status detail).vital := by
  unfold State.journalFault
  try dsimp only
  repeat' first
    | with_reducible assumption
    | with_reducible apply Still.ite
    | with_reducible apply State.journal_still
    | with_reducible apply Still.foldl
    | with_reducible apply Still.foldl1
    | intro _ _ _
    | intro _ _
    | (fail_if_no_progress (with_reducible refine Still.upd ?_ rfl rfl))
    | dsimp only
    | split

theorem State.journalVoid_still {vt : Vital} {s : State} {p lost frames : Nat} (hv : Still vt s.vital) : Still vt (State.journalVoid s p lost frames).vital := by
  unfold State.journalVoid
  try dsimp only
  repeat' first
    | with_reducible assumption
    | with_reducible apply Still.ite
    | with_reducible apply State.journal_still
    | with_reducible apply Still.foldl
    | with_reducible apply Still.foldl1
    | intro _ _ _
    | intro _ _
    | (fail_if_no_progress (with_reducible refine Still.upd ?_ rfl rfl))
    | dsimp only
    | split

theorem State.journalMark_still {vt : Vital} {s : State} {c : Cmd} {p value : Nat} (hv : Still vt s.vital) : Still vt (State.journalMark s c p value).vital := by
  unfold State.journalMark
  try dsimp only
  repeat' first
    | with_reducible assumption
    | with_reducible apply Still.ite
    | with_reducible apply State.journal_still
    | with_reducible apply Still.foldl
    | with_reducible apply Still.foldl1
    | intro _ _ _
    | intro _ _
    | (fail_if_no_progress (with_reducible refine Still.upd ?_ rfl rfl))
    | dsimp only
    | split

theorem State.journalTaskEnd_still {vt : Vital} {s : State} {p status : Nat} {void aborted complete : Bool} {cycles : Nat} (hv : Still vt s.vital) : Still vt (State.journalTaskEnd s p status void aborted complete cycles).vital := by
  unfold State.journalTaskEnd
  try dsimp only
  repeat' first
    | with_reducible assumption
    | with_reducible apply Still.ite
    | with_reducible apply State.journal_still
    | with_reducible apply Still.foldl
    | with_reducible apply Still.foldl1
    | intro _ _ _
    | intro _ _
    | (fail_if_no_progress (with_reducible refine Still.upd ?_ rfl rfl))
    | dsimp only
    | split

theorem State.journalSwitchOn_still {vt : Vital} {s : State} {p : Nat} {on : Bool} {log2 base : Nat} {mirror : Option Nat} (hv : Still vt s.vital) : Still vt (State.journalSwitchOn s p on log2 base mirror).vital := by
  unfold State.journalSwitchOn
  try dsimp only
  repeat' first
    | with_reducible assumption
    | with_reducible apply Still.ite
    | with_reducible apply State.modPart_still
    | with_reducible apply State.journal_still
    | with_reducible apply State.put_still
    | with_reducible apply State.modRun_still
    | with_reducible apply Still.foldl
    | with_reducible apply Still.foldl1
    | intro _ _ _
    | intro _ _
    | (fail_if_no_progress (with_reducible refine Still.upd ?_ rfl rfl))
    | dsimp only
    | split

end Sys2Proof.Machine
end

