-- ==== Sys2Proof/Laws/KeepCmds.lean ====
section
/-! SUPPORT. What the functions of Machine/Cmds.lean leave as it should be (Laws/Vital.lean). -/

namespace Sys2Proof.Machine

set_option linter.unreachableTactic false
set_option linter.unusedTactic false
set_option linter.unusedVariables false

theorem State.setCmd_still {vt : Vital} {s : State} {c : Cmd} (hv : Still vt s.vital) : Still vt (State.setCmd s c).vital := by
  unfold State.setCmd
  try dsimp only
  repeat' first
    | with_reducible assumption
    | with_reducible apply Still.ite
    | with_reducible apply Still.foldl
    | with_reducible apply Still.foldl1
    | intro _ _ _
    | intro _ _
    | (fail_if_no_progress (with_reducible refine Still.upd ?_ rfl rfl))
    | dsimp only
    | split

theorem State.dropCmd_still {vt : Vital} {s : State} {c : Cmd} (hv : Still vt s.vital) : Still vt (State.dropCmd s c).vital := by
  unfold State.dropCmd
  try dsimp only
  repeat' first
    | with_reducible assumption
    | with_reducible apply Still.ite
    | with_reducible apply Still.foldl
    | with_reducible apply Still.foldl1
    | intro _ _ _
    | intro _ _
    | (fail_if_no_progress (with_reducible refine Still.upd ?_ rfl rfl))
    | dsimp only
    | split

theorem State.settleFences_still {vt : Vital} {s : State} (hv : Still vt s.vital) : Still vt (State.settleFences s).vital := by
  unfold State.settleFences
  try dsimp only
  repeat' first
    | with_reducible assumption
    | with_reducible apply Still.ite
    | with_reducible apply State.put_still
    | with_reducible apply Still.foldl
    | with_reducible apply Still.foldl1
    | intro _ _ _
    | intro _ _
    | (fail_if_no_progress (with_reducible refine Still.upd ?_ rfl rfl))
    | dsimp only
    | split

theorem State.addUpds_still {vt : Vital} {s : State} {us : List FenceUpd} (hv : Still vt s.vital) : Still vt (State.addUpds s us).vital := by
  unfold State.addUpds
  try dsimp only
  repeat' first
    | with_reducible assumption
    | with_reducible apply Still.ite
    | with_reducible apply Still.foldl
    | with_reducible apply Still.foldl1
    | intro _ _ _
    | intro _ _
    | (fail_if_no_progress (with_reducible refine Still.upd ?_ rfl rfl))
    | dsimp only
    | split

theorem State.noteSlack_still {vt : Vital} {s : State} {p : Option Nat} {slack : Int} (hv : Still vt s.vital) : Still vt (State.noteSlack s p slack).vital := by
  unfold State.noteSlack
  try dsimp only
  repeat' first
    | with_reducible assumption
    | with_reducible apply Still.ite
    | with_reducible apply State.modRun_still
    | with_reducible apply Still.foldl
    | with_reducible apply Still.foldl1
    | intro _ _ _
    | intro _ _
    | (fail_if_no_progress (with_reducible refine Still.upd ?_ rfl rfl))
    | dsimp only
    | split

theorem State.finish_still {vt : Vital} {s : State} {c : Cmd} {status detail : Nat} {slack : Int} (hv : Still vt s.vital) : Still vt (State.finish s c status detail slack).vital := by
  unfold State.finish
  try dsimp only
  repeat' first
    | with_reducible assumption
    | with_reducible apply Still.ite
    | with_reducible apply State.dropCmd_still
    | with_reducible apply State.noteSlack_still
    | with_reducible apply Still.foldl
    | with_reducible apply Still.foldl1
    | intro _ _ _
    | intro _ _
    | (fail_if_no_progress (with_reducible refine Still.upd ?_ rfl rfl))
    | dsimp only
    | split

theorem State.showTask_still {vt : Vital} {s : State} {p : Nat} (hv : Still vt s.vital) : Still vt (State.showTask s p).vital := by
  unfold State.showTask
  try dsimp only
  repeat' first
    | with_reducible assumption
    | with_reducible apply Still.ite
    | with_reducible apply State.put_still
    | with_reducible apply Still.foldl
    | with_reducible apply Still.foldl1
    | intro _ _ _
    | intro _ _
    | (fail_if_no_progress (with_reducible refine Still.upd ?_ rfl rfl))
    | dsimp only
    | split

theorem State.setPred_still {vt : Vital} {s : State} {p k : Nat} {v : Pred} (hv : Still vt s.vital) : Still vt (State.setPred s p k v).vital := by
  unfold State.setPred
  try dsimp only
  repeat' first
    | with_reducible assumption
    | with_reducible apply Still.ite
    | with_reducible apply State.modStrm_still
    | with_reducible apply Still.foldl
    | with_reducible apply Still.foldl1
    | intro _ _ _
    | intro _ _
    | (fail_if_no_progress (with_reducible refine Still.upd ?_ rfl rfl))
    | dsimp only
    | split

theorem State.cancelStream_still {vt : Vital} {s : State} {st : Stream} (hv : Still vt s.vital) : Still vt (State.cancelStream s st).vital := by
  unfold State.cancelStream
  try dsimp only
  repeat' first
    | with_reducible assumption
    | with_reducible apply Still.ite
    | with_reducible apply State.queueMsg_still
    | with_reducible apply Still.foldl
    | with_reducible apply Still.foldl1
    | intro _ _ _
    | intro _ _
    | (fail_if_no_progress (with_reducible refine Still.upd ?_ rfl rfl))
    | dsimp only
    | split

theorem State.endStreams_still {vt : Vital} {s : State} {p : Nat} {keep : Stream → Bool} (hv : Still vt s.vital) : Still vt (State.endStreams s p keep).vital := by
  unfold State.endStreams
  try dsimp only
  repeat' first
    | with_reducible assumption
    | with_reducible apply Still.ite
    | with_reducible apply State.cancelStream_still
    | with_reducible apply State.modStrm_still
    | with_reducible apply Still.foldl
    | with_reducible apply Still.foldl1
    | intro _ _ _
    | intro _ _
    | (fail_if_no_progress (with_reducible refine Still.upd ?_ rfl rfl))
    | dsimp only
    | split

theorem State.voidRows_still {vt : Vital} {s : State} {p r n : Nat} (hv : Still vt s.vital) : Still vt (State.voidRows s p r n).vital := by
  unfold State.voidRows
  try dsimp only
  repeat' first
    | with_reducible assumption
    | with_reducible apply Still.ite
    | with_reducible apply State.modCore_still
    | with_reducible apply Still.foldl
    | with_reducible apply Still.foldl1
    | intro _ _ _
    | intro _ _
    | (fail_if_no_progress (with_reducible refine Still.upd ?_ rfl rfl))
    | dsimp only
    | split

theorem State.voidGroup_still {vt : Vital} {s : State} {p g : Nat} (hv : Still vt s.vital) : Still vt (State.voidGroup s p g).vital := by
  unfold State.voidGroup
  try dsimp only
  repeat' first
    | with_reducible assumption
    | with_reducible apply Still.ite
    | with_reducible apply State.modCore_still
    | with_reducible apply Still.foldl
    | with_reducible apply Still.foldl1
    | intro _ _ _
    | intro _ _
    | (fail_if_no_progress (with_reducible refine Still.upd ?_ rfl rfl))
    | dsimp only
    | split

theorem State.voidSlot_still {vt : Vital} {s : State} {p : Nat} {d : Pred} (hv : Still vt s.vital) : Still vt (State.voidSlot s p d).vital := by
  unfold State.voidSlot
  try dsimp only
  repeat' first
    | with_reducible assumption
    | with_reducible apply Still.ite
    | with_reducible apply State.voidRows_still
    | with_reducible apply State.voidGroup_still
    | with_reducible apply Still.foldl
    | with_reducible apply Still.foldl1
    | intro _ _ _
    | intro _ _
    | (fail_if_no_progress (with_reducible refine Still.upd ?_ rfl rfl))
    | dsimp only
    | split

theorem State.releaseOne_still {vt : Vital} {s : State} {p : Nat} {yes : List Nat} {x : Nat × Cmd × Option Rec} (hv : Still vt s.vital) : Still vt (State.releaseOne s p yes x).vital := by
  unfold State.releaseOne
  try dsimp only
  repeat' first
    | with_reducible assumption
    | with_reducible apply Still.ite
    | with_reducible apply State.addUpds_still
    | with_reducible apply State.endStreams_still
    | with_reducible apply State.finish_still
    | with_reducible apply Still.foldl
    | with_reducible apply Still.foldl1
    | intro _ _ _
    | intro _ _
    | (fail_if_no_progress (with_reducible refine Still.upd ?_ rfl rfl))
    | dsimp only
    | split

theorem State.voidOut_still {vt : Vital} {s : State} {p k : Nat} (hv : Still vt s.vital) : Still vt (State.voidOut s p k).vital := by
  unfold State.voidOut
  try dsimp only
  repeat' first
    | with_reducible assumption
    | with_reducible apply Still.ite
    | with_reducible apply State.voidSlot_still
    | with_reducible apply State.inc_still
    | with_reducible apply State.setPred_still
    | with_reducible apply Still.foldl
    | with_reducible apply Still.foldl1
    | intro _ _ _
    | intro _ _
    | (fail_if_no_progress (with_reducible refine Still.upd ?_ rfl rfl))
    | dsimp only
    | split

theorem State.settleSlots_still {vt : Vital} {s : State} {p : Nat} {yes no : List Nat} (hv : Still vt s.vital) : Still vt (State.settleSlots s p yes no).vital := by
  unfold State.settleSlots
  try dsimp only
  repeat' first
    | with_reducible assumption
    | with_reducible apply Still.ite
    | with_reducible apply State.voidOut_still
    | with_reducible apply State.releaseOne_still
    | with_reducible apply State.setPred_still
    | with_reducible apply Still.foldl
    | with_reducible apply Still.foldl1
    | intro _ _ _
    | intro _ _
    | (fail_if_no_progress (with_reducible refine Still.upd ?_ rfl rfl))
    | dsimp only
    | split

theorem State.disarm_still {vt : Vital} {s : State} {p : Nat} (hv : Still vt s.vital) : Still vt (State.disarm s p).vital := by
  unfold State.disarm
  try dsimp only
  repeat' first
    | with_reducible assumption
    | with_reducible apply Still.ite
    | with_reducible apply State.modCore_still
    | with_reducible apply Still.foldl
    | with_reducible apply Still.foldl1
    | intro _ _ _
    | intro _ _
    | (fail_if_no_progress (with_reducible refine Still.upd ?_ rfl rfl))
    | dsimp only
    | split

theorem State.endTask_still {vt : Vital} {s : State} {p status : Nat} {aborted : Bool} (hv : Still vt s.vital) : Still vt (State.endTask s p status aborted).vital := by
  unfold State.endTask
  try dsimp only
  repeat' first
    | with_reducible assumption
    | with_reducible apply Still.ite
    | with_reducible apply State.journalTaskEnd_still
    | with_reducible apply State.put_still
    | with_reducible apply State.sample_still
    | with_reducible apply State.disarm_still
    | with_reducible apply State.modRun_still
    | with_reducible apply State.showTask_still
    | with_reducible apply Still.foldl
    | with_reducible apply Still.foldl1
    | intro _ _ _
    | intro _ _
    | (fail_if_no_progress (with_reducible refine Still.upd ?_ rfl rfl))
    | dsimp only
    | split

theorem State.taskDone_still {vt : Vital} {s : State} {p : Nat} (hv : Still vt s.vital) : Still vt (State.taskDone s p).vital := by
  unfold State.taskDone
  try dsimp only
  repeat' first
    | with_reducible assumption
    | with_reducible apply Still.ite
    | with_reducible apply State.settleSlots_still
    | with_reducible apply State.endTask_still
    | with_reducible apply Still.foldl
    | with_reducible apply Still.foldl1
    | intro _ _ _
    | intro _ _
    | (fail_if_no_progress (with_reducible refine Still.upd ?_ rfl rfl))
    | dsimp only
    | split

theorem State.freeWide_still {vt : Vital} {s : State} {c : Cmd} (hv : Still vt s.vital) : Still vt (State.freeWide s c).vital := by
  unfold State.freeWide
  try dsimp only
  repeat' first
    | with_reducible assumption
    | with_reducible apply Still.ite
    | with_reducible apply State.modRun_still
    | with_reducible apply Still.foldl
    | with_reducible apply Still.foldl1
    | intro _ _ _
    | intro _ _
    | (fail_if_no_progress (with_reducible refine Still.upd ?_ rfl rfl))
    | dsimp only
    | split

theorem State.retire_still {vt : Vital} {s : State} {c : Cmd} (hv : Still vt s.vital) : Still vt (State.retire s c).vital := by
  unfold State.retire
  try dsimp only
  repeat' first
    | with_reducible assumption
    | with_reducible apply Still.ite
    | with_reducible apply State.dropCmd_still
    | with_reducible apply State.setPred_still
    | with_reducible apply State.noteSlack_still
    | with_reducible apply State.finish_still
    | with_reducible apply State.addUpds_still
    | with_reducible apply State.freeWide_still
    | with_reducible apply State.taskDone_still
    | with_reducible apply Still.foldl
    | with_reducible apply Still.foldl1
    | intro _ _ _
    | intro _ _
    | (fail_if_no_progress (with_reducible refine Still.upd ?_ rfl rfl))
    | dsimp only
    | split

theorem State.dropStreams_still {vt : Vital} {s : State} {p : Nat} (hv : Still vt s.vital) : Still vt (State.dropStreams s p).vital := by
  unfold State.dropStreams
  try dsimp only
  repeat' first
    | with_reducible assumption
    | with_reducible apply Still.ite
    | with_reducible apply State.voidSlot_still
    | with_reducible apply State.endStreams_still
    | with_reducible apply State.modStrm_still
    | with_reducible apply Still.foldl
    | with_reducible apply Still.foldl1
    | intro _ _ _
    | intro _ _
    | (fail_if_no_progress (with_reducible refine Still.upd ?_ rfl rfl))
    | dsimp only
    | split

theorem State.sendFault_still {vt : Vital} {s : State} {p status : Nat} (hv : Still vt s.vital) : Still vt (State.sendFault s p status).vital := by
  unfold State.sendFault
  try dsimp only
  repeat' first
    | with_reducible assumption
    | with_reducible apply Still.ite
    | with_reducible apply State.queueMsg_still
    | with_reducible apply Still.foldl
    | with_reducible apply Still.foldl1
    | intro _ _ _
    | intro _ _
    | (fail_if_no_progress (with_reducible refine Still.upd ?_ rfl rfl))
    | dsimp only
    | split

theorem State.abortTask_still {vt : Vital} {s : State} {p : Nat} {first : Option Cmd} {statusOf : Cmd → Nat × Nat} {slack : Option Int} {taskStatus : Nat} {records : Bool} (hv : Still vt s.vital) : Still vt (State.abortTask s p first statusOf slack taskStatus records).vital := by
  unfold State.abortTask
  try dsimp only
  repeat' first
    | with_reducible assumption
    | with_reducible apply Still.ite
    | with_reducible apply State.journalFault_still
    | with_reducible apply State.finish_still
    | with_reducible apply State.dropCmd_still
    | with_reducible apply State.dropStreams_still
    | with_reducible apply State.sendFault_still
    | with_reducible apply State.modRun_still
    | with_reducible apply State.endTask_still
    | with_reducible apply Still.foldl
    | with_reducible apply Still.foldl1
    | intro _ _ _
    | intro _ _
    | (fail_if_no_progress (with_reducible refine Still.upd ?_ rfl rfl))
    | dsimp only
    | split

theorem State.dropNext_still {vt : Vital} {s : State} {p : Nat} {statusOf : Cmd → Nat × Nat} {records : Bool} (hv : Still vt s.vital) : Still vt (State.dropNext s p statusOf records).vital := by
  unfold State.dropNext
  try dsimp only
  repeat' first
    | with_reducible assumption
    | with_reducible apply Still.ite
    | with_reducible apply State.finish_still
    | with_reducible apply State.dropCmd_still
    | with_reducible apply State.modRun_still
    | with_reducible apply State.showTask_still
    | with_reducible apply Still.foldl
    | with_reducible apply Still.foldl1
    | intro _ _ _
    | intro _ _
    | (fail_if_no_progress (with_reducible refine Still.upd ?_ rfl rfl))
    | dsimp only
    | split

theorem State.abort_still {vt : Vital} {s : State} {c : Cmd} {status detail : Nat} (hv : Still vt s.vital) : Still vt (State.abort s c status detail).vital := by
  unfold State.abort
  try dsimp only
  repeat' first
    | with_reducible assumption
    | with_reducible apply Still.ite
    | with_reducible apply State.abortTask_still
    | with_reducible apply State.finish_still
    | with_reducible apply Still.foldl
    | with_reducible apply Still.foldl1
    | intro _ _ _
    | intro _ _
    | (fail_if_no_progress (with_reducible refine Still.upd ?_ rfl rfl))
    | dsimp only
    | split

theorem State.fault_still {vt : Vital} {s : State} {c : Cmd} {status detail : Nat} (hv : Still vt s.vital) : Still vt (State.fault s c status detail).vital := by
  unfold State.fault
  try dsimp only
  repeat' first
    | with_reducible assumption
    | with_reducible apply Still.ite
    | with_reducible apply State.dropCmd_still
    | with_reducible apply State.endStreams_still
    | with_reducible apply State.setPred_still
    | with_reducible apply State.taskDone_still
    | with_reducible apply State.setCmd_still
    | with_reducible apply State.inc_still
    | with_reducible apply State.abort_still
    | with_reducible apply Still.foldl
    | with_reducible apply Still.foldl1
    | intro _ _ _
    | intro _ _
    | (fail_if_no_progress (with_reducible refine Still.upd ?_ rfl rfl))
    | dsimp only
    | split

theorem State.refuse_still {vt : Vital} {s : State} {c : Cmd} {r : Nat × Nat} (hv : Still vt s.vital) : Still vt (State.refuse s c r).vital := by
  unfold State.refuse
  try dsimp only
  repeat' first
    | with_reducible assumption
    | with_reducible apply Still.ite
    | with_reducible apply State.setCmd_still
    | with_reducible apply State.abort_still
    | with_reducible apply Still.foldl
    | with_reducible apply Still.foldl1
    | intro _ _ _
    | intro _ _
    | (fail_if_no_progress (with_reducible refine Still.upd ?_ rfl rfl))
    | dsimp only
    | split

theorem State.chargeFault_still {vt : Vital} {s : State} {p status detail : Nat} (hv : Still vt s.vital) : Still vt (State.chargeFault s p status detail).vital := by
  unfold State.chargeFault
  try dsimp only
  repeat' first
    | with_reducible assumption
    | with_reducible apply Still.ite
    | with_reducible apply State.abort_still
    | with_reducible apply State.event_still
    | with_reducible apply Still.foldl
    | with_reducible apply Still.foldl1
    | intro _ _ _
    | intro _ _
    | (fail_if_no_progress (with_reducible refine Still.upd ?_ rfl rfl))
    | dsimp only
    | split

theorem State.mark_still {vt : Vital} {s : State} {on : Bool} (hv : Still vt s.vital) : Still vt (State.mark s on).vital := by
  unfold State.mark
  try dsimp only
  repeat' first
    | with_reducible assumption
    | with_reducible apply Still.ite
    | with_reducible apply Still.foldl
    | with_reducible apply Still.foldl1
    | intro _ _ _
    | intro _ _
    | (fail_if_no_progress (with_reducible refine Still.upd ?_ rfl rfl))
    | dsimp only
    | split

theorem State.done_still {vt : Vital} {s : State} {c : Cmd} {t status detail : Nat} (hv : Still vt s.vital) : Still vt (State.done s c t status detail).vital := by
  unfold State.done
  try dsimp only
  repeat' first
    | with_reducible assumption
    | with_reducible apply Still.ite
    | with_reducible apply State.setCmd_still
    | with_reducible apply State.mark_still
    | with_reducible apply Still.foldl
    | with_reducible apply Still.foldl1
    | intro _ _ _
    | intro _ _
    | (fail_if_no_progress (with_reducible refine Still.upd ?_ rfl rfl))
    | dsimp only
    | split

end Sys2Proof.Machine
end

