-- ==== Sys2Proof/Laws/KeepReel.lean ====
section
/-! SUPPORT. What the functions of Machine/Reel.lean leave as it should be (Laws/Vital.lean). -/

namespace Sys2Proof.Machine

set_option linter.unreachableTactic false
set_option linter.unusedTactic false
set_option linter.unusedVariables false

theorem State.takeChange_still {vt : Vital} {s : State} {code frame : Nat} (hv : Still vt s.vital) : Still vt (State.takeChange s code frame).vital := by
  unfold State.takeChange
  try dsimp only
  repeat' first
    | with_reducible assumption
    | with_reducible apply Still.ite
    | with_reducible apply State.put_still
    | with_reducible apply Still.foldl
    | with_reducible apply Still.foldl1
    | intro _ _ _
    | intro _ _
    | (fail_if_no_progress (with_reducible refine Still.upd ?_ rfl rfl))
    | dsimp only
    | split

theorem State.takeBeacon_still {vt : Vital} {s : State} {n : Nat} {w : Bytes} {arrival : Int} (hv : Still vt s.vital) : Still vt (State.takeBeacon s n w arrival).vital := by
  unfold State.takeBeacon
  try dsimp only
  repeat' first
    | with_reducible assumption
    | with_reducible apply Still.ite
    | with_reducible apply State.setTracker_still
    | with_reducible apply State.put_still
    | with_reducible apply State.takeChange_still
    | with_reducible apply Still.foldl
    | with_reducible apply Still.foldl1
    | intro _ _ _
    | intro _ _
    | (fail_if_no_progress (with_reducible refine Still.upd ?_ rfl rfl))
    | dsimp only
    | split

theorem execReelBeacon_still {vt : Vital} {n : Fin 64} {linkOk : Bool} {word : Bytes} {arrival : Int} {s : State} (hv : Still vt s.vital) {t : State}
    (e : execReelBeacon n linkOk word arrival s = .next t) : Still vt t.vital := by
  cases e
  try dsimp only
  repeat' first
    | with_reducible assumption
    | with_reducible apply Still.ite
    | with_reducible apply State.takeBeacon_still
    | with_reducible apply State.inc_still
    | with_reducible apply State.reelEvent_still
    | with_reducible apply Still.foldl
    | with_reducible apply Still.foldl1
    | intro _ _ _
    | intro _ _
    | (fail_if_no_progress (with_reducible refine Still.upd ?_ rfl rfl))
    | dsimp only
    | split

theorem State.selectRef_still {vt : Vital} {s : State} (hv : Still vt s.vital) : Still vt (State.selectRef s).vital := by
  unfold State.selectRef
  try dsimp only
  repeat' first
    | with_reducible assumption
    | with_reducible apply Still.ite
    | with_reducible apply State.put_still
    | with_reducible apply State.reelEvent_still
    | with_reducible apply Still.foldl
    | with_reducible apply Still.foldl1
    | intro _ _ _
    | intro _ _
    | (fail_if_no_progress (with_reducible refine Still.upd ?_ rfl rfl))
    | dsimp only
    | split

theorem State.endHoldover_still {vt : Vital} {s : State} (hv : Still vt s.vital) : Still vt (State.endHoldover s).vital := by
  unfold State.endHoldover
  try dsimp only
  repeat' first
    | with_reducible assumption
    | with_reducible apply Still.ite
    | with_reducible apply State.put_still
    | with_reducible apply Still.foldl
    | with_reducible apply Still.foldl1
    | intro _ _ _
    | intro _ _
    | (fail_if_no_progress (with_reducible refine Still.upd ?_ rfl rfl))
    | dsimp only
    | split

theorem State.reelAbort_still {vt : Vital} {s : State} {p : Nat} (hv : Still vt s.vital) : Still vt (State.reelAbort s p).vital := by
  unfold State.reelAbort
  try dsimp only
  repeat' first
    | with_reducible assumption
    | with_reducible apply Still.ite
    | with_reducible apply State.abortTask_still
    | with_reducible apply State.dropNext_still
    | with_reducible apply State.partEvent_still
    | with_reducible apply Still.foldl
    | with_reducible apply Still.foldl1
    | intro _ _ _
    | intro _ _
    | (fail_if_no_progress (with_reducible refine Still.upd ?_ rfl rfl))
    | dsimp only
    | split

theorem State.enterLost_still {vt : Vital} {s : State} {cause : Nat} (hv : Still vt s.vital) : Still vt (State.enterLost s cause).vital := by
  unfold State.enterLost
  try dsimp only
  repeat' first
    | with_reducible assumption
    | with_reducible apply Still.ite
    | with_reducible apply State.endHoldover_still
    | with_reducible apply State.put_still
    | with_reducible apply State.reelEvent_still
    | with_reducible apply State.reelAbort_still
    | with_reducible apply Still.foldl
    | with_reducible apply Still.foldl1
    | intro _ _ _
    | intro _ _
    | (fail_if_no_progress (with_reducible refine Still.upd ?_ rfl rfl))
    | dsimp only
    | split

theorem State.exitHoldover_still {vt : Vital} {s : State} (hv : Still vt s.vital) : Still vt (State.exitHoldover s).vital := by
  unfold State.exitHoldover
  try dsimp only
  repeat' first
    | with_reducible assumption
    | with_reducible apply Still.ite
    | with_reducible apply State.endHoldover_still
    | with_reducible apply State.put_still
    | with_reducible apply State.selectRef_still
    | with_reducible apply State.reelEvent_still
    | with_reducible apply Still.foldl
    | with_reducible apply Still.foldl1
    | intro _ _ _
    | intro _ _
    | (fail_if_no_progress (with_reducible refine Still.upd ?_ rfl rfl))
    | dsimp only
    | split

theorem State.enterHoldover_still {vt : Vital} {s : State} (hv : Still vt s.vital) : Still vt (State.enterHoldover s).vital := by
  unfold State.enterHoldover
  try dsimp only
  repeat' first
    | with_reducible assumption
    | with_reducible apply Still.ite
    | with_reducible apply State.put_still
    | with_reducible apply State.reelEvent_still
    | with_reducible apply Still.foldl
    | with_reducible apply Still.foldl1
    | intro _ _ _
    | intro _ _
    | (fail_if_no_progress (with_reducible refine Still.upd ?_ rfl rfl))
    | dsimp only
    | split

theorem State.edgeLocked_still {vt : Vital} {s : State} (hv : Still vt s.vital) : Still vt (State.edgeLocked s).vital := by
  unfold State.edgeLocked
  try dsimp only
  repeat' first
    | with_reducible assumption
    | with_reducible apply Still.ite
    | with_reducible apply State.enterHoldover_still
    | with_reducible apply State.put_still
    | with_reducible apply State.selectRef_still
    | with_reducible apply Still.foldl
    | with_reducible apply Still.foldl1
    | intro _ _ _
    | intro _ _
    | (fail_if_no_progress (with_reducible refine Still.upd ?_ rfl rfl))
    | dsimp only
    | split

theorem State.countHoldover_still {vt : Vital} {s : State} (hv : Still vt s.vital) : Still vt (State.countHoldover s).vital := by
  unfold State.countHoldover
  try dsimp only
  repeat' first
    | with_reducible assumption
    | with_reducible apply Still.ite
    | with_reducible apply State.put_still
    | with_reducible apply Still.foldl
    | with_reducible apply Still.foldl1
    | intro _ _ _
    | intro _ _
    | (fail_if_no_progress (with_reducible refine Still.upd ?_ rfl rfl))
    | dsimp only
    | split

theorem State.edgeHoldover_still {vt : Vital} {s : State} {before : List Nat} (hv : Still vt s.vital) : Still vt (State.edgeHoldover s before).vital := by
  unfold State.edgeHoldover
  try dsimp only
  repeat' first
    | with_reducible assumption
    | with_reducible apply Still.ite
    | with_reducible apply State.countHoldover_still
    | with_reducible apply Still.foldl
    | with_reducible apply Still.foldl1
    | intro _ _ _
    | intro _ _
    | (fail_if_no_progress (with_reducible refine Still.upd ?_ rfl rfl))
    | dsimp only
    | split

theorem State.edgeReel_still {vt : Vital} {s : State} (hv : Still vt s.vital) : Still vt (State.edgeReel s).vital := by
  unfold State.edgeReel
  try dsimp only
  repeat' first
    | with_reducible assumption
    | with_reducible apply Still.ite
    | with_reducible apply State.setTracker_still
    | with_reducible apply State.enterLost_still
    | with_reducible apply State.countHoldover_still
    | with_reducible apply State.exitHoldover_still
    | with_reducible apply State.edgeLocked_still
    | with_reducible apply State.edgeHoldover_still
    | with_reducible apply State.put_still
    | with_reducible apply Still.foldl
    | with_reducible apply Still.foldl1
    | intro _ _ _
    | intro _ _
    | (fail_if_no_progress (with_reducible refine Still.upd ?_ rfl rfl))
    | dsimp only
    | split

/-- Frames are never empty. -/
theorem State.lenOf_pos (s : State) (code : Nat) : 0 < s.lenOf code := by
  have h : 800 ≤ cyclesOf code := by
    unfold cyclesOf
    have := Nat.one_le_two_pow (n := code)
    omega
  unfold State.lenOf
  split
  · split <;> omega
  · omega

theorem State.atEdge_eq {s : State} (h : s.atEdge = true) : s.clock.now = s.clock.frameStart := by simpa [State.atEdge] using h

/-- At a frame's first cycle its length may change. -/
theorem Keeps.newLen {vt : Vital} {s t : State} {k : Nat} (h : Keeps vt s.vital) (hs : s.clock.now = s.clock.frameStart)
    (hk : 0 < k) (e : t.vital = { s.vital with clock := { s.clock with frameLen := k } }) : Keeps vt t.vital := by
  rw [e]
  refine h.trans ⟨rfl, rfl, fun m => ⟨m.1, ?_⟩, id⟩
  show s.clock.now < s.clock.frameStart + k
  omega

theorem State.lockOn_keeps {vt : Vital} {s : State} {n : Nat} (hs : s.clock.now = s.clock.frameStart) (h : Keeps vt s.vital) :
    Keeps vt (State.lockOn s n).vital := by
  have k1 : ∀ t : State, Still s.vital t.vital → ∀ c x, Keeps vt { t with clock := { t.clock with frameLen := t.lenOf c }, reel := x }.vital := by
    intro t ht c x
    have hc : t.clock = s.clock := ht.clock
    exact Keeps.newLen (s := t) (k := t.lenOf c) (h.step ht) (by rw [hc]; exact hs) (t.lenOf_pos c) rfl
  have k2 : ∀ t : State, t = (match (s.tracker n).last with
      | some c => s.put .REEL_COUNT_COUNT 0 c
      | none => s) → Still s.vital t.vital := by
    intro t e
    split at e <;> subst e
    · exact State.put_still (Still.refl _)
    · exact Still.refl _
  have k3 := fun x => k1 _ (State.put_still (f := .REEL_STAT_REF_VALID) (i := 0) (v := 1) (State.put_still (f := .REEL_STAT_REF_PORT) (i := 0) (v := n)
    (State.put_still (f := .REEL_STAT_PERIOD) (i := 0) (v := (s.tracker n).period)
      (State.put_still (f := .REEL_STAT_STATE) (i := 0) (v := 2) (k2 _ rfl))))) (s.tracker n).period x
  have ev : ∀ {t : State} {f : Field}, Keeps vt t.vital → Keeps vt (t.reelEvent f).vital :=
    fun k => k.step (State.reelEvent_still (Still.refl _))
  unfold State.lockOn
  dsimp only
  exact Keeps.ite (ev (Keeps.ite (ev (k3 _)) (k3 _))) (Keeps.ite (ev (k3 _)) (k3 _))

theorem execLock_keeps {vt : Vital} {s : State} (h : Keeps vt s.vital) {t : State}
    (e : execLock s = .next t) : Keeps vt t.vital := by
  cases e
  split
  · rename_i n hn
    refine State.lockOn_keeps (State.atEdge_eq ?_) h
    unfold State.lockPort at hn
    split at hn
    · simp_all
    · cases hn
  · exact h

theorem execHoldoverLimit_still {vt : Vital} {s : State} (hv : Still vt s.vital) {t : State}
    (e : execHoldoverLimit s = .next t) : Still vt t.vital := by
  cases e
  try dsimp only
  repeat' first
    | with_reducible assumption
    | with_reducible apply Still.ite
    | with_reducible apply State.enterLost_still
    | with_reducible apply Still.foldl
    | with_reducible apply Still.foldl1
    | intro _ _ _
    | intro _ _
    | (fail_if_no_progress (with_reducible refine Still.upd ?_ rfl rfl))
    | dsimp only
    | split

theorem State.periodAbort_still {vt : Vital} {s : State} {p : Nat} (hv : Still vt s.vital) : Still vt (State.periodAbort s p).vital := by
  unfold State.periodAbort
  try dsimp only
  repeat' first
    | with_reducible assumption
    | with_reducible apply Still.ite
    | with_reducible apply State.abortTask_still
    | with_reducible apply Still.foldl
    | with_reducible apply Still.foldl1
    | intro _ _ _
    | intro _ _
    | (fail_if_no_progress (with_reducible refine Still.upd ?_ rfl rfl))
    | dsimp only
    | split

theorem State.switchPeriod_keeps {vt : Vital} {s : State} (hs : s.clock.now = s.clock.frameStart) (h : Keeps vt s.vital) :
    Keeps vt (State.switchPeriod s).vital := by
  unfold State.switchPeriod
  dsimp only
  apply Keeps.foldl
  · intro t p k
    exact k.step (State.periodAbort_still (Still.refl _))
  refine Keeps.step ?_ (State.reelEvent_still (Still.refl _))
  exact Keeps.newLen (s := (s.put .REEL_STAT_PERIOD 0 _).put .REEL_PERIOD_NEXT_VALID 0 0)
    (h.step (State.put_still (State.put_still (Still.refl _)))) hs (State.lenOf_pos _ _) rfl

theorem execPeriodChange_keeps {vt : Vital} {s : State} (h : Keeps vt s.vital) {t : State}
    (e : execPeriodChange s = .next t) : Keeps vt t.vital := by
  cases e
  split
  · rename_i c
    split
    · exact h.step (State.enterLost_still (Still.refl _))
    · split
      · exact State.switchPeriod_keeps (State.atEdge_eq c.1) h
      · exact h
  · exact h

theorem execResume_still {vt : Vital} {s : State} (hv : Still vt s.vital) {t : State}
    (e : execResume s = .next t) : Still vt t.vital := by
  cases e
  try dsimp only
  repeat' first
    | with_reducible assumption
    | with_reducible apply Still.ite
    | with_reducible apply State.whenBooted_still
    | with_reducible apply Still.foldl
    | with_reducible apply Still.foldl1
    | intro _ _ _
    | intro _ _
    | (fail_if_no_progress (with_reducible refine Still.upd ?_ rfl rfl))
    | dsimp only
    | split

theorem execReselect_still {vt : Vital} {s : State} (hv : Still vt s.vital) {t : State}
    (e : execReselect s = .next t) : Still vt t.vital := by
  cases e
  try dsimp only
  repeat' first
    | with_reducible assumption
    | with_reducible apply Still.ite
    | with_reducible apply State.whenBooted_still
    | with_reducible apply Still.foldl
    | with_reducible apply Still.foldl1
    | intro _ _ _
    | intro _ _
    | (fail_if_no_progress (with_reducible refine Still.upd ?_ rfl rfl))
    | dsimp only
    | split

end Sys2Proof.Machine
end

