-- ==== Sys2Proof/Laws/KeepTether.lean ====
section
/-! SUPPORT. What the functions of Machine/Tether.lean leave as it should be (Laws/Vital.lean). -/

namespace Sys2Proof.Machine

set_option linter.unreachableTactic false
set_option linter.unusedTactic false
set_option linter.unusedVariables false

theorem State.setDir_still {vt : Vital} {s : State} {n : Nat} {d : Dir} {v : PortDir} {width8 : Bool} {subst : Nat} (hv : Still vt s.vital) : Still vt (State.setDir s n d v width8 subst).vital := by
  unfold State.setDir
  try dsimp only
  repeat' first
    | with_reducible assumption
    | with_reducible apply Still.ite
    | with_reducible apply State.modPort_still
    | with_reducible apply State.put_still
    | with_reducible apply Still.foldl
    | with_reducible apply Still.foldl1
    | intro _ _ _
    | intro _ _
    | (fail_if_no_progress (with_reducible refine Still.upd ?_ rfl rfl))
    | dsimp only
    | split

theorem State.forgetNode_still {vt : Vital} {s : State} (hv : Still vt s.vital) : Still vt (State.forgetNode s).vital := by
  unfold State.forgetNode
  try dsimp only
  repeat' first
    | with_reducible assumption
    | with_reducible apply Still.ite
    | with_reducible apply State.put_still
    | with_reducible apply State.modPort_still
    | with_reducible apply Still.foldl
    | with_reducible apply Still.foldl1
    | intro _ _ _
    | intro _ _
    | (fail_if_no_progress (with_reducible refine Still.upd ?_ rfl rfl))
    | dsimp only
    | split

theorem State.setPortState_still {vt : Vital} {s : State} {n v : Nat} (hv : Still vt s.vital) : Still vt (State.setPortState s n v).vital := by
  unfold State.setPortState
  try dsimp only
  repeat' first
    | with_reducible assumption
    | with_reducible apply Still.ite
    | with_reducible apply State.put_still
    | with_reducible apply State.forgetNode_still
    | with_reducible apply Still.foldl
    | with_reducible apply Still.foldl1
    | intro _ _ _
    | intro _ _
    | (fail_if_no_progress (with_reducible refine Still.upd ?_ rfl rfl))
    | dsimp only
    | split

theorem State.portDown_still {vt : Vital} {s : State} {n cause : Nat} (hv : Still vt s.vital) : Still vt (State.portDown s n cause).vital := by
  unfold State.portDown
  try dsimp only
  repeat' first
    | with_reducible assumption
    | with_reducible apply Still.ite
    | with_reducible apply State.setPortState_still
    | with_reducible apply State.put_still
    | with_reducible apply State.tethEvent_still
    | with_reducible apply Still.foldl
    | with_reducible apply Still.foldl1
    | intro _ _ _
    | intro _ _
    | (fail_if_no_progress (with_reducible refine Still.upd ?_ rfl rfl))
    | dsimp only
    | split

theorem State.startTraining_still {vt : Vital} {s : State} {n : Nat} (hv : Still vt s.vital) : Still vt (State.startTraining s n).vital := by
  unfold State.startTraining
  try dsimp only
  repeat' first
    | with_reducible assumption
    | with_reducible apply Still.ite
    | with_reducible apply State.tethInc_still
    | with_reducible apply State.setPortState_still
    | with_reducible apply State.modPort_still
    | with_reducible apply Still.foldl
    | with_reducible apply Still.foldl1
    | intro _ _ _
    | intro _ _
    | (fail_if_no_progress (with_reducible refine Still.upd ?_ rfl rfl))
    | dsimp only
    | split

theorem State.tryTrain_still {vt : Vital} {s : State} {n : Nat} (hv : Still vt s.vital) : Still vt (State.tryTrain s n).vital := by
  unfold State.tryTrain
  try dsimp only
  repeat' first
    | with_reducible assumption
    | with_reducible apply Still.ite
    | with_reducible apply State.startTraining_still
    | with_reducible apply Still.foldl
    | with_reducible apply Still.foldl1
    | intro _ _ _
    | intro _ _
    | (fail_if_no_progress (with_reducible refine Still.upd ?_ rfl rfl))
    | dsimp only
    | split

theorem State.setLaserState_still {vt : Vital} {s : State} {e v : Nat} (hv : Still vt s.vital) : Still vt (State.setLaserState s e v).vital := by
  unfold State.setLaserState
  try dsimp only
  repeat' first
    | with_reducible assumption
    | with_reducible apply Still.ite
    | with_reducible apply State.tethEvent_still
    | with_reducible apply State.put_still
    | with_reducible apply Still.foldl
    | with_reducible apply Still.foldl1
    | intro _ _ _
    | intro _ _
    | (fail_if_no_progress (with_reducible refine Still.upd ?_ rfl rfl))
    | dsimp only
    | split

theorem State.countCorrected_still {vt : Vital} {s : State} {n : Nat} {wrong : List (List Nat)} (hv : Still vt s.vital) : Still vt (State.countCorrected s n wrong).vital := by
  unfold State.countCorrected
  try dsimp only
  repeat' first
    | with_reducible assumption
    | with_reducible apply Still.ite
    | with_reducible apply State.tethInc_still
    | with_reducible apply State.modPort_still
    | with_reducible apply Still.foldl
    | with_reducible apply Still.foldl1
    | intro _ _ _
    | intro _ _
    | (fail_if_no_progress (with_reducible refine Still.upd ?_ rfl rfl))
    | dsimp only
    | split

theorem State.countUncorr_still {vt : Vital} {s : State} {n : Nat} {wrong : List (List Nat)} {since : Bool} (hv : Still vt s.vital) : Still vt (State.countUncorr s n wrong since).vital := by
  unfold State.countUncorr
  try dsimp only
  repeat' first
    | with_reducible assumption
    | with_reducible apply Still.ite
    | with_reducible apply State.tethInc_still
    | with_reducible apply Still.foldl
    | with_reducible apply Still.foldl1
    | intro _ _ _
    | intro _ _
    | (fail_if_no_progress (with_reducible refine Still.upd ?_ rfl rfl))
    | dsimp only
    | split

theorem State.linkCheck_still {vt : Vital} {s : State} {n : Nat} {w : WslFrame} (hv : Still vt s.vital) : Still vt (State.linkCheck s n w).2.vital := by
  unfold State.linkCheck
  try dsimp only
  repeat' first
    | with_reducible assumption
    | with_reducible apply Still.ite
    | with_reducible apply State.countCorrected_still
    | with_reducible apply State.countUncorr_still
    | with_reducible apply State.tethInc_still
    | with_reducible apply State.modPort_still
    | with_reducible apply Still.foldl
    | with_reducible apply Still.foldl1
    | intro _ _ _
    | intro _ _
    | (fail_if_no_progress (with_reducible refine Still.upd ?_ rfl rfl))
    | dsimp only
    | split

theorem execWslFrame_still {vt : Vital} {n : Fin 64} {w : WslFrame} {s : State} (hv : Still vt s.vital) {t : State}
    (e : execWslFrame n w s = .next t) : Still vt t.vital := by
  cases e
  try dsimp only
  repeat' first
    | with_reducible assumption
    | with_reducible apply Still.ite
    | with_reducible apply State.linkCheck_still
    | with_reducible apply State.countCorrected_still
    | with_reducible apply State.countUncorr_still
    | with_reducible apply Still.foldl
    | with_reducible apply Still.foldl1
    | intro _ _ _
    | intro _ _
    | (fail_if_no_progress (with_reducible refine Still.upd ?_ rfl rfl))
    | dsimp only
    | split

theorem State.acceptMsg_still {vt : Vital} {s : State} {n : Nat} {m : Msg} (hv : Still vt s.vital) : Still vt (State.acceptMsg s n m).2.vital := by
  unfold State.acceptMsg
  try dsimp only
  repeat' first
    | with_reducible assumption
    | with_reducible apply Still.ite
    | with_reducible apply State.modPort_still
    | with_reducible apply Still.foldl
    | with_reducible apply Still.foldl1
    | intro _ _ _
    | intro _ _
    | (fail_if_no_progress (with_reducible refine Still.upd ?_ rfl rfl))
    | dsimp only
    | split

theorem State.onMsg_still {vt : Vital} {s : State} {n : Nat} {m : Msg} {type : Nat} {f : State → State}
    (hf : ∀ s, Still vt s.vital → Still vt (f s).vital) (h : Still vt s.vital) : Still vt (State.onMsg s n m type f).vital := by
  have k : Still vt (State.acceptMsg s n m).2.vital := h.trans (State.acceptMsg_still (Still.refl _))
  unfold State.onMsg
  dsimp only
  split
  · split
    · exact hf _ k
    · exact k
  · exact h

theorem State.onMsg_keeps {vt : Vital} {s : State} {n : Nat} {m : Msg} {type : Nat} {f : State → State}
    (hf : ∀ s, Keeps vt s.vital → Keeps vt (f s).vital) (h : Keeps vt s.vital) : Keeps vt (State.onMsg s n m type f).vital := by
  have k : Keeps vt (State.acceptMsg s n m).2.vital := h.trans (State.acceptMsg_still (Still.refl _)).keeps
  unfold State.onMsg
  dsimp only
  split
  · split
    · exact hf _ k
    · exact k
  · exact h

theorem State.assignNode_still {vt : Vital} {s : State} {n : Nat} {m : Msg} (hv : Still vt s.vital) : Still vt (State.assignNode s n m).vital := by
  unfold State.assignNode
  try dsimp only
  repeat' first
    | with_reducible assumption
    | with_reducible apply Still.ite
    | with_reducible apply State.put_still
    | with_reducible apply State.modPort_still
    | with_reducible apply State.portDown_still
    | with_reducible apply State.tethEvent_still
    | with_reducible apply Still.foldl
    | with_reducible apply Still.foldl1
    | intro _ _ _
    | intro _ _
    | (fail_if_no_progress (with_reducible refine Still.upd ?_ rfl rfl))
    | dsimp only
    | split

theorem execAssign_still {vt : Vital} {n : Fin 64} {m : Msg} {s : State} (hv : Still vt s.vital) {t : State}
    (e : execAssign n m s = .next t) : Still vt t.vital := by
  cases e
  try dsimp only
  repeat' first
    | with_reducible assumption
    | with_reducible apply Still.ite
    | with_reducible apply State.onMsg_still
    | with_reducible apply State.assignNode_still
    | with_reducible apply Still.foldl
    | with_reducible apply Still.foldl1
    | intro _ _ _
    | intro _ _
    | (fail_if_no_progress (with_reducible refine Still.upd ?_ rfl rfl))
    | dsimp only
    | split

theorem execAck_still {vt : Vital} {n : Fin 64} {m : Msg} {s : State} (hv : Still vt s.vital) {t : State}
    (e : execAck n m s = .next t) : Still vt t.vital := by
  cases e
  try dsimp only
  repeat' first
    | with_reducible assumption
    | with_reducible apply Still.ite
    | with_reducible apply State.onMsg_still
    | with_reducible apply State.modPort_still
    | with_reducible apply Still.foldl
    | with_reducible apply Still.foldl1
    | intro _ _ _
    | intro _ _
    | (fail_if_no_progress (with_reducible refine Still.upd ?_ rfl rfl))
    | dsimp only
    | split

theorem execMessageResend_still {vt : Vital} {n : Fin 64} {s : State} (hv : Still vt s.vital) {t : State}
    (e : execMessageResend n s = .next t) : Still vt t.vital := by
  cases e
  try dsimp only
  repeat' first
    | with_reducible assumption
    | with_reducible apply Still.ite
    | with_reducible apply State.startTraining_still
    | with_reducible apply State.modPort_still
    | with_reducible apply Still.foldl
    | with_reducible apply Still.foldl1
    | intro _ _ _
    | intro _ _
    | (fail_if_no_progress (with_reducible refine Still.upd ?_ rfl rfl))
    | dsimp only
    | split

theorem State.narrowRx_still {vt : Vital} {s : State} {n : Nat} (hv : Still vt s.vital) : Still vt (State.narrowRx s n).vital := by
  unfold State.narrowRx
  try dsimp only
  repeat' first
    | with_reducible assumption
    | with_reducible apply Still.ite
    | with_reducible apply State.portDown_still
    | with_reducible apply State.modPort_still
    | with_reducible apply State.queueMsg_still
    | with_reducible apply Still.foldl
    | with_reducible apply Still.foldl1
    | intro _ _ _
    | intro _ _
    | (fail_if_no_progress (with_reducible refine Still.upd ?_ rfl rfl))
    | dsimp only
    | split

theorem State.loseLane_still {vt : Vital} {s : State} {n l : Nat} (hv : Still vt s.vital) : Still vt (State.loseLane s n l).vital := by
  unfold State.loseLane
  try dsimp only
  repeat' first
    | with_reducible assumption
    | with_reducible apply Still.ite
    | with_reducible apply State.tethInc_still
    | with_reducible apply State.tethEvent_still
    | with_reducible apply State.setDir_still
    | with_reducible apply State.narrowRx_still
    | with_reducible apply State.queueMsg_still
    | with_reducible apply Still.foldl
    | with_reducible apply Still.foldl1
    | intro _ _ _
    | intro _ _
    | (fail_if_no_progress (with_reducible refine Still.upd ?_ rfl rfl))
    | dsimp only
    | split

theorem execLaneLost_still {vt : Vital} {n : Fin 64} {l : Fin 17} {signal : Bool} {s : State} (hv : Still vt s.vital) {t : State}
    (e : execLaneLost n l signal s = .next t) : Still vt t.vital := by
  cases e
  try dsimp only
  repeat' first
    | with_reducible assumption
    | with_reducible apply Still.ite
    | with_reducible apply State.loseLane_still
    | with_reducible apply Still.foldl
    | with_reducible apply Still.foldl1
    | intro _ _ _
    | intro _ _
    | (fail_if_no_progress (with_reducible refine Still.upd ?_ rfl rfl))
    | dsimp only
    | split

theorem State.answerLaneFail_still {vt : Vital} {s : State} {n : Nat} {m : Msg} (hv : Still vt s.vital) : Still vt (State.answerLaneFail s n m).vital := by
  unfold State.answerLaneFail
  try dsimp only
  repeat' first
    | with_reducible assumption
    | with_reducible apply Still.ite
    | with_reducible apply State.setDir_still
    | with_reducible apply State.queueMsg_still
    | with_reducible apply Still.foldl
    | with_reducible apply Still.foldl1
    | intro _ _ _
    | intro _ _
    | (fail_if_no_progress (with_reducible refine Still.upd ?_ rfl rfl))
    | dsimp only
    | split

theorem execLaneFail_still {vt : Vital} {n : Fin 64} {m : Msg} {s : State} (hv : Still vt s.vital) {t : State}
    (e : execLaneFail n m s = .next t) : Still vt t.vital := by
  cases e
  try dsimp only
  repeat' first
    | with_reducible assumption
    | with_reducible apply Still.ite
    | with_reducible apply State.onMsg_still
    | with_reducible apply State.answerLaneFail_still
    | with_reducible apply Still.foldl
    | with_reducible apply Still.foldl1
    | intro _ _ _
    | intro _ _
    | (fail_if_no_progress (with_reducible refine Still.upd ?_ rfl rfl))
    | dsimp only
    | split

theorem execLaneSwitch_still {vt : Vital} {n : Fin 64} {m : Msg} {s : State} (hv : Still vt s.vital) {t : State}
    (e : execLaneSwitch n m s = .next t) : Still vt t.vital := by
  cases e
  try dsimp only
  repeat' first
    | with_reducible assumption
    | with_reducible apply Still.ite
    | with_reducible apply State.onMsg_still
    | with_reducible apply State.modPort_still
    | with_reducible apply Still.foldl
    | with_reducible apply Still.foldl1
    | intro _ _ _
    | intro _ _
    | (fail_if_no_progress (with_reducible refine Still.upd ?_ rfl rfl))
    | dsimp only
    | split

theorem State.substitute_still {vt : Vital} {s : State} {n : Nat} {d : Dir} (hv : Still vt s.vital) : Still vt (State.substitute s n d).vital := by
  unfold State.substitute
  try dsimp only
  repeat' first
    | with_reducible assumption
    | with_reducible apply Still.ite
    | with_reducible apply State.setDir_still
    | with_reducible apply State.tethInc_still
    | with_reducible apply State.tethEvent_still
    | with_reducible apply Still.foldl
    | with_reducible apply Still.foldl1
    | intro _ _ _
    | intro _ _
    | (fail_if_no_progress (with_reducible refine Still.upd ?_ rfl rfl))
    | dsimp only
    | split

theorem execSubstitution_still {vt : Vital} {n : Fin 64} {d : Dir} {s : State} (hv : Still vt s.vital) {t : State}
    (e : execSubstitution n d s = .next t) : Still vt t.vital := by
  cases e
  try dsimp only
  repeat' first
    | with_reducible assumption
    | with_reducible apply Still.ite
    | with_reducible apply State.substitute_still
    | with_reducible apply Still.foldl
    | with_reducible apply Still.foldl1
    | intro _ _ _
    | intro _ _
    | (fail_if_no_progress (with_reducible refine Still.upd ?_ rfl rfl))
    | dsimp only
    | split

theorem execNarrow_still {vt : Vital} {n : Fin 64} {m : Msg} {s : State} (hv : Still vt s.vital) {t : State}
    (e : execNarrow n m s = .next t) : Still vt t.vital := by
  cases e
  try dsimp only
  repeat' first
    | with_reducible assumption
    | with_reducible apply Still.ite
    | with_reducible apply State.onMsg_still
    | with_reducible apply State.modPort_still
    | with_reducible apply Still.foldl
    | with_reducible apply Still.foldl1
    | intro _ _ _
    | intro _ _
    | (fail_if_no_progress (with_reducible refine Still.upd ?_ rfl rfl))
    | dsimp only
    | split

theorem State.sendOn_still {vt : Vital} {s : State} {n : Nat} {w : WslFrame} (hv : Still vt s.vital) : Still vt (State.sendOn s n w).vital := by
  unfold State.sendOn
  try dsimp only
  repeat' first
    | with_reducible assumption
    | with_reducible apply Still.ite
    | with_reducible apply State.send_still
    | with_reducible apply Still.foldl
    | with_reducible apply Still.foldl1
    | intro _ _ _
    | intro _ _
    | (fail_if_no_progress (with_reducible refine Still.upd ?_ rfl rfl))
    | dsimp only
    | split

theorem State.resendFrom_still {vt : Vital} {s : State} {n q : Nat} (hv : Still vt s.vital) : Still vt (State.resendFrom s n q).vital := by
  unfold State.resendFrom
  try dsimp only
  repeat' first
    | with_reducible assumption
    | with_reducible apply Still.ite
    | with_reducible apply State.sendOn_still
    | with_reducible apply Still.foldl
    | with_reducible apply Still.foldl1
    | intro _ _ _
    | intro _ _
    | (fail_if_no_progress (with_reducible refine Still.upd ?_ rfl rfl))
    | dsimp only
    | split

theorem State.narrowSwitch_still {vt : Vital} {s : State} {n : Nat} {d : Dir} (hv : Still vt s.vital) : Still vt (State.narrowSwitch s n d).vital := by
  unfold State.narrowSwitch
  try dsimp only
  repeat' first
    | with_reducible assumption
    | with_reducible apply Still.ite
    | with_reducible apply State.setDir_still
    | with_reducible apply State.tethInc_still
    | with_reducible apply State.tethEvent_still
    | with_reducible apply State.resendFrom_still
    | with_reducible apply Still.foldl
    | with_reducible apply Still.foldl1
    | intro _ _ _
    | intro _ _
    | (fail_if_no_progress (with_reducible refine Still.upd ?_ rfl rfl))
    | dsimp only
    | split

theorem execNarrowSwitch_still {vt : Vital} {n : Fin 64} {d : Dir} {s : State} (hv : Still vt s.vital) {t : State}
    (e : execNarrowSwitch n d s = .next t) : Still vt t.vital := by
  cases e
  try dsimp only
  repeat' first
    | with_reducible assumption
    | with_reducible apply Still.ite
    | with_reducible apply State.narrowSwitch_still
    | with_reducible apply Still.foldl
    | with_reducible apply Still.foldl1
    | intro _ _ _
    | intro _ _
    | (fail_if_no_progress (with_reducible refine Still.upd ?_ rfl rfl))
    | dsimp only
    | split

theorem State.sendFrame_still {vt : Vital} {s : State} {n cls type : Nat} {payload : Bytes} (hv : Still vt s.vital) : Still vt (State.sendFrame s n cls type payload).vital := by
  unfold State.sendFrame
  try dsimp only
  repeat' first
    | with_reducible assumption
    | with_reducible apply Still.ite
    | with_reducible apply State.modPort_still
    | with_reducible apply State.sendOn_still
    | with_reducible apply Still.foldl
    | with_reducible apply Still.foldl1
    | intro _ _ _
    | intro _ _
    | (fail_if_no_progress (with_reducible refine Still.upd ?_ rfl rfl))
    | dsimp only
    | split

theorem State.sendWords_still {vt : Vital} {s : State} {n cls type : Nat} {bytes : Bytes} (hv : Still vt s.vital) : Still vt (State.sendWords s n cls type bytes).vital := by
  unfold State.sendWords
  try dsimp only
  repeat' first
    | with_reducible assumption
    | with_reducible apply Still.ite
    | with_reducible apply State.sendFrame_still
    | with_reducible apply Still.foldl
    | with_reducible apply Still.foldl1
    | intro _ _ _
    | intro _ _
    | (fail_if_no_progress (with_reducible refine Still.upd ?_ rfl rfl))
    | dsimp only
    | split

theorem execUncorrLimit_still {vt : Vital} {n : Fin 64} {s : State} (hv : Still vt s.vital) {t : State}
    (e : execUncorrLimit n s = .next t) : Still vt t.vital := by
  cases e
  try dsimp only
  repeat' first
    | with_reducible assumption
    | with_reducible apply Still.ite
    | with_reducible apply State.setPortState_still
    | with_reducible apply State.tethEvent_still
    | with_reducible apply State.queueMsg_still
    | with_reducible apply State.modPort_still
    | with_reducible apply Still.foldl
    | with_reducible apply Still.foldl1
    | intro _ _ _
    | intro _ _
    | (fail_if_no_progress (with_reducible refine Still.upd ?_ rfl rfl))
    | dsimp only
    | split

theorem execRetrainReq_still {vt : Vital} {n : Fin 64} {m : Msg} {s : State} (hv : Still vt s.vital) {t : State}
    (e : execRetrainReq n m s = .next t) : Still vt t.vital := by
  cases e
  try dsimp only
  repeat' first
    | with_reducible assumption
    | with_reducible apply Still.ite
    | with_reducible apply State.onMsg_still
    | with_reducible apply State.startTraining_still
    | with_reducible apply Still.foldl
    | with_reducible apply Still.foldl1
    | intro _ _ _
    | intro _ _
    | (fail_if_no_progress (with_reducible refine Still.upd ?_ rfl rfl))
    | dsimp only
    | split

theorem State.retrainDue_still {vt : Vital} {s : State} {n : Nat} (hv : Still vt s.vital) : Still vt (State.retrainDue s n).vital := by
  unfold State.retrainDue
  try dsimp only
  repeat' first
    | with_reducible assumption
    | with_reducible apply Still.ite
    | with_reducible apply State.startTraining_still
    | with_reducible apply Still.foldl
    | with_reducible apply Still.foldl1
    | intro _ _ _
    | intro _ _
    | (fail_if_no_progress (with_reducible refine Still.upd ?_ rfl rfl))
    | dsimp only
    | split

theorem State.trainLanes_still {vt : Vital} {s : State} {n rx tx : Nat} (hv : Still vt s.vital) : Still vt (State.trainLanes s n rx tx).vital := by
  unfold State.trainLanes
  try dsimp only
  repeat' first
    | with_reducible assumption
    | with_reducible apply Still.ite
    | with_reducible apply State.setDir_still
    | with_reducible apply State.portDown_still
    | with_reducible apply State.modPort_still
    | with_reducible apply State.queueMsg_still
    | with_reducible apply Still.foldl
    | with_reducible apply Still.foldl1
    | intro _ _ _
    | intro _ _
    | (fail_if_no_progress (with_reducible refine Still.upd ?_ rfl rfl))
    | dsimp only
    | split

theorem execTraining_still {vt : Vital} {n : Fin 64} {rx tx : BitVec 17} {s : State} (hv : Still vt s.vital) {t : State}
    (e : execTraining n rx tx s = .next t) : Still vt t.vital := by
  cases e
  try dsimp only
  repeat' first
    | with_reducible assumption
    | with_reducible apply Still.ite
    | with_reducible apply State.retrainDue_still
    | with_reducible apply State.trainLanes_still
    | with_reducible apply Still.foldl
    | with_reducible apply Still.foldl1
    | intro _ _ _
    | intro _ _
    | (fail_if_no_progress (with_reducible refine Still.upd ?_ rfl rfl))
    | dsimp only
    | split

theorem execTrainingDone_still {vt : Vital} {n : Fin 64} {m : Msg} {arrival : Nat} {s : State} (hv : Still vt s.vital) {t : State}
    (e : execTrainingDone n m arrival s = .next t) : Still vt t.vital := by
  cases e
  try dsimp only
  repeat' first
    | with_reducible assumption
    | with_reducible apply Still.ite
    | with_reducible apply State.onMsg_still
    | with_reducible apply State.setPortState_still
    | with_reducible apply State.put_still
    | with_reducible apply State.tethEvent_still
    | with_reducible apply Still.foldl
    | with_reducible apply Still.foldl1
    | intro _ _ _
    | intro _ _
    | (fail_if_no_progress (with_reducible refine Still.upd ?_ rfl rfl))
    | dsimp only
    | split

theorem execTrainingTimeout_still {vt : Vital} {n : Fin 64} {s : State} (hv : Still vt s.vital) {t : State}
    (e : execTrainingTimeout n s = .next t) : Still vt t.vital := by
  cases e
  try dsimp only
  repeat' first
    | with_reducible assumption
    | with_reducible apply Still.ite
    | with_reducible apply State.portDown_still
    | with_reducible apply State.modPort_still
    | with_reducible apply Still.foldl
    | with_reducible apply Still.foldl1
    | intro _ _ _
    | intro _ _
    | (fail_if_no_progress (with_reducible refine Still.upd ?_ rfl rfl))
    | dsimp only
    | split

theorem State.portAction_still {vt : Vital} {s : State} {n a : Nat} {allowed : Bool} (hv : Still vt s.vital) : Still vt (State.portAction s n a allowed).vital := by
  unfold State.portAction
  try dsimp only
  repeat' first
    | with_reducible assumption
    | with_reducible apply Still.ite
    | with_reducible apply State.modPort_still
    | with_reducible apply State.ignored_still
    | with_reducible apply Still.foldl
    | with_reducible apply Still.foldl1
    | intro _ _ _
    | intro _ _
    | (fail_if_no_progress (with_reducible refine Still.upd ?_ rfl rfl))
    | dsimp only
    | split

theorem execOnline_still {vt : Vital} {n : Fin 64} {s : State} (hv : Still vt s.vital) {t : State}
    (e : execOnline n s = .next t) : Still vt t.vital := by
  cases e
  try dsimp only
  repeat' first
    | with_reducible assumption
    | with_reducible apply Still.ite
    | with_reducible apply State.whenBooted_still
    | with_reducible apply State.portAction_still
    | with_reducible apply Still.foldl
    | with_reducible apply Still.foldl1
    | intro _ _ _
    | intro _ _
    | (fail_if_no_progress (with_reducible refine Still.upd ?_ rfl rfl))
    | dsimp only
    | split

theorem execLoopback_still {vt : Vital} {n : Fin 64} {s : State} (hv : Still vt s.vital) {t : State}
    (e : execLoopback n s = .next t) : Still vt t.vital := by
  cases e
  try dsimp only
  repeat' first
    | with_reducible assumption
    | with_reducible apply Still.ite
    | with_reducible apply State.whenBooted_still
    | with_reducible apply State.portAction_still
    | with_reducible apply Still.foldl
    | with_reducible apply Still.foldl1
    | intro _ _ _
    | intro _ _
    | (fail_if_no_progress (with_reducible refine Still.upd ?_ rfl rfl))
    | dsimp only
    | split

theorem execOffline_still {vt : Vital} {n : Fin 64} {s : State} (hv : Still vt s.vital) {t : State}
    (e : execOffline n s = .next t) : Still vt t.vital := by
  cases e
  try dsimp only
  repeat' first
    | with_reducible assumption
    | with_reducible apply Still.ite
    | with_reducible apply State.whenBooted_still
    | with_reducible apply State.portAction_still
    | with_reducible apply Still.foldl
    | with_reducible apply Still.foldl1
    | intro _ _ _
    | intro _ _
    | (fail_if_no_progress (with_reducible refine Still.upd ?_ rfl rfl))
    | dsimp only
    | split

theorem execRetrain_still {vt : Vital} {n : Fin 64} {s : State} (hv : Still vt s.vital) {t : State}
    (e : execRetrain n s = .next t) : Still vt t.vital := by
  cases e
  try dsimp only
  repeat' first
    | with_reducible assumption
    | with_reducible apply Still.ite
    | with_reducible apply State.whenBooted_still
    | with_reducible apply State.portAction_still
    | with_reducible apply Still.foldl
    | with_reducible apply Still.foldl1
    | intro _ _ _
    | intro _ _
    | (fail_if_no_progress (with_reducible refine Still.upd ?_ rfl rfl))
    | dsimp only
    | split

theorem State.hostRetrain_still {vt : Vital} {s : State} {n : Nat} (hv : Still vt s.vital) : Still vt (State.hostRetrain s n).vital := by
  unfold State.hostRetrain
  try dsimp only
  repeat' first
    | with_reducible assumption
    | with_reducible apply Still.ite
    | with_reducible apply State.queueMsg_still
    | with_reducible apply State.modPort_still
    | with_reducible apply Still.foldl
    | with_reducible apply Still.foldl1
    | intro _ _ _
    | intro _ _
    | (fail_if_no_progress (with_reducible refine Still.upd ?_ rfl rfl))
    | dsimp only
    | split

theorem State.doAction_still {vt : Vital} {s : State} {n a : Nat} (hv : Still vt s.vital) : Still vt (State.doAction s n a).vital := by
  unfold State.doAction
  try dsimp only
  repeat' first
    | with_reducible assumption
    | with_reducible apply Still.ite
    | with_reducible apply State.startTraining_still
    | with_reducible apply State.setPortState_still
    | with_reducible apply State.hostRetrain_still
    | with_reducible apply Still.foldl
    | with_reducible apply Still.foldl1
    | intro _ _ _
    | intro _ _
    | (fail_if_no_progress (with_reducible refine Still.upd ?_ rfl rfl))
    | dsimp only
    | split

theorem State.portActions_still {vt : Vital} {s : State} (hv : Still vt s.vital) : Still vt (State.portActions s).vital := by
  unfold State.portActions
  try dsimp only
  repeat' first
    | with_reducible assumption
    | with_reducible apply Still.ite
    | with_reducible apply State.doAction_still
    | with_reducible apply State.modPort_still
    | with_reducible apply Still.foldl
    | with_reducible apply Still.foldl1
    | intro _ _ _
    | intro _ _
    | (fail_if_no_progress (with_reducible refine Still.upd ?_ rfl rfl))
    | dsimp only
    | split

theorem execPortEnable_still {vt : Vital} {n : Fin 64} {s : State} (hv : Still vt s.vital) {t : State}
    (e : execPortEnable n s = .next t) : Still vt t.vital := by
  cases e
  try dsimp only
  repeat' first
    | with_reducible assumption
    | with_reducible apply Still.ite
    | with_reducible apply State.whenBooted_still
    | with_reducible apply State.put_still
    | with_reducible apply State.tryTrain_still
    | with_reducible apply Still.foldl
    | with_reducible apply Still.foldl1
    | intro _ _ _
    | intro _ _
    | (fail_if_no_progress (with_reducible refine Still.upd ?_ rfl rfl))
    | dsimp only
    | split

theorem State.echo_still {vt : Vital} {s : State} (hv : Still vt s.vital) : Still vt (State.echo s).2.vital := by
  unfold State.echo
  try dsimp only
  repeat' first
    | with_reducible assumption
    | with_reducible apply Still.ite
    | with_reducible apply State.draw_still
    | with_reducible apply Still.foldl
    | with_reducible apply Still.foldl1
    | intro _ _ _
    | intro _ _
    | (fail_if_no_progress (with_reducible refine Still.upd ?_ rfl rfl))
    | dsimp only
    | split

theorem State.slotMessages_still {vt : Vital} {s : State} {n : Nat} (hv : Still vt s.vital) : Still vt (State.slotMessages s n).2.vital := by
  unfold State.slotMessages
  try dsimp only
  repeat' first
    | with_reducible assumption
    | with_reducible apply Still.ite
    | with_reducible apply State.setPort_still
    | with_reducible apply Still.foldl
    | with_reducible apply Still.foldl1
    | intro _ _ _
    | intro _ _
    | (fail_if_no_progress (with_reducible refine Still.upd ?_ rfl rfl))
    | dsimp only
    | split

theorem State.edgeSlot_still {vt : Vital} {s : State} {n : Nat} (hv : Still vt s.vital) : Still vt (State.edgeSlot s n).vital := by
  unfold State.edgeSlot
  try dsimp only
  repeat' first
    | with_reducible assumption
    | with_reducible apply Still.ite
    | with_reducible apply State.echo_still
    | with_reducible apply State.slotMessages_still
    | with_reducible apply State.sendOn_still
    | with_reducible apply State.retrainDue_still
    | with_reducible apply Still.foldl
    | with_reducible apply Still.foldl1
    | intro _ _ _
    | intro _ _
    | (fail_if_no_progress (with_reducible refine Still.upd ?_ rfl rfl))
    | dsimp only
    | split

theorem State.mirrorFlush_still {vt : Vital} {s : State} {p : Nat} (hv : Still vt s.vital) : Still vt (State.mirrorFlush s p).vital := by
  unfold State.mirrorFlush
  try dsimp only
  repeat' first
    | with_reducible assumption
    | with_reducible apply Still.ite
    | with_reducible apply State.journal_still
    | with_reducible apply State.sendWords_still
    | with_reducible apply State.modPart_still
    | with_reducible apply Still.foldl
    | with_reducible apply Still.foldl1
    | intro _ _ _
    | intro _ _
    | (fail_if_no_progress (with_reducible refine Still.upd ?_ rfl rfl))
    | dsimp only
    | split

theorem State.portHist_still {vt : Vital} {s : State} (hv : Still vt s.vital) : Still vt (State.portHist s).vital := by
  unfold State.portHist
  try dsimp only
  repeat' first
    | with_reducible assumption
    | with_reducible apply Still.ite
    | with_reducible apply State.sample_still
    | with_reducible apply State.modPort_still
    | with_reducible apply Still.foldl
    | with_reducible apply Still.foldl1
    | intro _ _ _
    | intro _ _
    | (fail_if_no_progress (with_reducible refine Still.upd ?_ rfl rfl))
    | dsimp only
    | split

theorem State.fruCopy_still {vt : Vital} {s : State} {a : Nat} {bs : Bytes} {f : Field} {bitNo : Nat} {valid : Bool} (hv : Still vt s.vital) : Still vt (State.fruCopy s a bs f bitNo valid).vital := by
  unfold State.fruCopy
  try dsimp only
  repeat' first
    | with_reducible assumption
    | with_reducible apply Still.ite
    | with_reducible apply State.put_still
    | with_reducible apply Still.foldl
    | with_reducible apply Still.foldl1
    | intro _ _ _
    | intro _ _
    | (fail_if_no_progress (with_reducible refine Still.upd ?_ rfl rfl))
    | (fail_if_no_progress (with_reducible refine Still.mems ?_ id id (Mem.wf_write _ _) rfl))
    | dsimp only
    | split

theorem State.checkLaser_still {vt : Vital} {s : State} {e : Nat} (hv : Still vt s.vital) : Still vt (State.checkLaser s e).vital := by
  unfold State.checkLaser
  try dsimp only
  repeat' first
    | with_reducible assumption
    | with_reducible apply Still.ite
    | with_reducible apply State.fruCopy_still
    | with_reducible apply State.setLaserState_still
    | with_reducible apply State.put_still
    | with_reducible apply Still.foldl
    | with_reducible apply Still.foldl1
    | intro _ _ _
    | intro _ _
    | (fail_if_no_progress (with_reducible refine Still.upd ?_ rfl rfl))
    | dsimp only
    | split

theorem State.recheckLaser_still {vt : Vital} {s : State} {e : Nat} (hv : Still vt s.vital) : Still vt (State.recheckLaser s e).vital := by
  unfold State.recheckLaser
  try dsimp only
  repeat' first
    | with_reducible assumption
    | with_reducible apply Still.ite
    | with_reducible apply State.checkLaser_still
    | with_reducible apply Still.foldl
    | with_reducible apply Still.foldl1
    | intro _ _ _
    | intro _ _
    | (fail_if_no_progress (with_reducible refine Still.upd ?_ rfl rfl))
    | dsimp only
    | split

theorem State.insertLaser_still {vt : Vital} {s : State} {e : Nat} {lower page : Bytes} {typeOk : Bool} {part : Bytes} {watts : Nat} (hv : Still vt s.vital) : Still vt (State.insertLaser s e lower page typeOk part watts).vital := by
  unfold State.insertLaser
  try dsimp only
  repeat' first
    | with_reducible assumption
    | with_reducible apply Still.ite
    | with_reducible apply State.tethInc_still
    | with_reducible apply State.setLaser_still
    | with_reducible apply State.checkLaser_still
    | with_reducible apply Still.foldl
    | with_reducible apply Still.foldl1
    | intro _ _ _
    | intro _ _
    | (fail_if_no_progress (with_reducible refine Still.upd ?_ rfl rfl))
    | dsimp only
    | split

theorem execLaserInsert_still {vt : Vital} {e : Fin 16} {lower page : Bytes} {typeOk : Bool} {part : Bytes} {watts : Nat} {s : State} (hv : Still vt s.vital) {t : State}
    (e : execLaserInsert e lower page typeOk part watts s = .next t) : Still vt t.vital := by
  cases e
  try dsimp only
  repeat' first
    | with_reducible assumption
    | with_reducible apply Still.ite
    | with_reducible apply State.insertLaser_still
    | with_reducible apply Still.foldl
    | with_reducible apply Still.foldl1
    | intro _ _ _
    | intro _ _
    | (fail_if_no_progress (with_reducible refine Still.upd ?_ rfl rfl))
    | dsimp only
    | split

theorem execLaserReady_still {vt : Vital} {e : Fin 16} {s : State} (hv : Still vt s.vital) {t : State}
    (e : execLaserReady e s = .next t) : Still vt t.vital := by
  cases e
  try dsimp only
  repeat' first
    | with_reducible assumption
    | with_reducible apply Still.ite
    | with_reducible apply State.tryTrain_still
    | with_reducible apply State.setLaserState_still
    | with_reducible apply State.put_still
    | with_reducible apply Still.foldl
    | with_reducible apply Still.foldl1
    | intro _ _ _
    | intro _ _
    | (fail_if_no_progress (with_reducible refine Still.upd ?_ rfl rfl))
    | dsimp only
    | split

theorem execSwap_still {vt : Vital} {e : Fin 16} {s : State} (hv : Still vt s.vital) {t : State}
    (e : execSwap e s = .next t) : Still vt t.vital := by
  cases e
  try dsimp only
  repeat' first
    | with_reducible assumption
    | with_reducible apply Still.ite
    | with_reducible apply State.whenBooted_still
    | with_reducible apply State.modPort_still
    | with_reducible apply State.setLaser_still
    | with_reducible apply Still.foldl
    | with_reducible apply Still.foldl1
    | intro _ _ _
    | intro _ _
    | (fail_if_no_progress (with_reducible refine Still.upd ?_ rfl rfl))
    | dsimp only
    | split

theorem execLaserAlarm_still {vt : Vital} {e : Fin 16} {s : State} (hv : Still vt s.vital) {t : State}
    (e : execLaserAlarm e s = .next t) : Still vt t.vital := by
  cases e
  try dsimp only
  repeat' first
    | with_reducible assumption
    | with_reducible apply Still.ite
    | with_reducible apply State.portDown_still
    | with_reducible apply State.setLaserState_still
    | with_reducible apply Still.foldl
    | with_reducible apply Still.foldl1
    | intro _ _ _
    | intro _ _
    | (fail_if_no_progress (with_reducible refine Still.upd ?_ rfl rfl))
    | dsimp only
    | split

theorem execLaserRemove_still {vt : Vital} {e : Fin 16} {s : State} (hv : Still vt s.vital) {t : State}
    (e : execLaserRemove e s = .next t) : Still vt t.vital := by
  cases e
  try dsimp only
  repeat' first
    | with_reducible assumption
    | with_reducible apply Still.ite
    | with_reducible apply State.setPortState_still
    | with_reducible apply State.setLaser_still
    | with_reducible apply State.fruCopy_still
    | with_reducible apply State.setLaserState_still
    | with_reducible apply Still.foldl
    | with_reducible apply Still.foldl1
    | intro _ _ _
    | intro _ _
    | (fail_if_no_progress (with_reducible refine Still.upd ?_ rfl rfl))
    | dsimp only
    | split

theorem execReelBeaconErrClear_still {vt : Vital} {n : Fin 64} {value : BitVec 32} {s : State} (hv : Still vt s.vital) {t : State}
    (e : execReelBeaconErrClear n value s = .next t) : Still vt t.vital := by
  cases e
  try dsimp only
  repeat' first
    | with_reducible assumption
    | with_reducible apply Still.ite
    | with_reducible apply State.whenBooted_still
    | with_reducible apply State.put_still
    | with_reducible apply Still.foldl
    | with_reducible apply Still.foldl1
    | intro _ _ _
    | intro _ _
    | (fail_if_no_progress (with_reducible refine Still.upd ?_ rfl rfl))
    | dsimp only
    | split

end Sys2Proof.Machine
end

