-- ==== Sys2Proof/Laws/KeepFaults.lean ====
section
/-! SUPPORT. What the functions of Machine/Faults.lean leave as it should be (Laws/Vital.lean). -/

namespace Sys2Proof.Machine

set_option linter.unreachableTactic false
set_option linter.unusedTactic false
set_option linter.unusedVariables false

theorem State.clearCore_still {vt : Vital} {s : State} {n cause : Nat} (hv : Still vt s.vital) : Still vt (State.clearCore s n cause).vital := by
  unfold State.clearCore
  try dsimp only
  repeat' first
    | with_reducible assumption
    | with_reducible apply Still.ite
    | with_reducible apply State.modCore_still
    | with_reducible apply State.put_still
    | with_reducible apply Still.foldl
    | with_reducible apply Still.foldl1
    | intro _ _ _
    | intro _ _
    | (fail_if_no_progress (with_reducible refine Still.upd ?_ rfl rfl))
    | dsimp only
    | split

theorem State.endClear_still {vt : Vital} {s : State} {n : Nat} (hv : Still vt s.vital) : Still vt (State.endClear s n).vital := by
  unfold State.endClear
  try dsimp only
  repeat' first
    | with_reducible assumption
    | with_reducible apply Still.ite
    | with_reducible apply State.modCore_still
    | with_reducible apply State.put_still
    | with_reducible apply Still.foldl
    | with_reducible apply Still.foldl1
    | intro _ _ _
    | intro _ _
    | (fail_if_no_progress (with_reducible refine Still.upd ?_ rfl rfl))
    | dsimp only
    | split

theorem State.deflate_still {vt : Vital} {s : State} {d : Nat} (hv : Still vt s.vital) : Still vt (State.deflate s d).vital := by
  unfold State.deflate
  try dsimp only
  repeat' first
    | with_reducible assumption
    | with_reducible apply Still.ite
    | with_reducible apply State.put_still
    | with_reducible apply State.setDomain_still
    | with_reducible apply Still.foldl
    | with_reducible apply Still.foldl1
    | intro _ _ _
    | intro _ _
    | (fail_if_no_progress (with_reducible refine Still.upd ?_ rfl rfl))
    | dsimp only
    | split

theorem State.countFailed_still {vt : Vital} {s : State} (hv : Still vt s.vital) : Still vt (State.countFailed s).vital := by
  unfold State.countFailed
  try dsimp only
  repeat' first
    | with_reducible assumption
    | with_reducible apply Still.ite
    | with_reducible apply State.put_still
    | with_reducible apply Still.foldl
    | with_reducible apply Still.foldl1
    | intro _ _ _
    | intro _ _
    | (fail_if_no_progress (with_reducible refine Still.upd ?_ rfl rfl))
    | dsimp only
    | split

theorem State.failDomain_still {vt : Vital} {s : State} {d cause : Nat} (hv : Still vt s.vital) : Still vt (State.failDomain s d cause).vital := by
  unfold State.failDomain
  try dsimp only
  repeat' first
    | with_reducible assumption
    | with_reducible apply Still.ite
    | with_reducible apply State.domainCause_still
    | with_reducible apply State.deflate_still
    | with_reducible apply State.setDomain_still
    | with_reducible apply Still.foldl
    | with_reducible apply Still.foldl1
    | intro _ _ _
    | intro _ _
    | (fail_if_no_progress (with_reducible refine Still.upd ?_ rfl rfl))
    | dsimp only
    | split

theorem State.positionFault_still {vt : Vital} {s : State} {n : Nat} (hv : Still vt s.vital) : Still vt (State.positionFault s n).vital := by
  unfold State.positionFault
  try dsimp only
  repeat' first
    | with_reducible assumption
    | with_reducible apply Still.ite
    | with_reducible apply State.event_still
    | with_reducible apply State.chargeFault_still
    | with_reducible apply State.put_still
    | with_reducible apply State.modBind_still
    | with_reducible apply State.deflate_still
    | with_reducible apply Still.foldl
    | with_reducible apply Still.foldl1
    | intro _ _ _
    | intro _ _
    | (fail_if_no_progress (with_reducible refine Still.upd ?_ rfl rfl))
    | dsimp only
    | split

theorem State.endBist_still {vt : Vital} {s : State} {n result : Nat} (hv : Still vt s.vital) : Still vt (State.endBist s n result).vital := by
  unfold State.endBist
  try dsimp only
  repeat' first
    | with_reducible assumption
    | with_reducible apply Still.ite
    | with_reducible apply State.put_still
    | with_reducible apply State.atNextEdge_still
    | with_reducible apply Still.foldl
    | with_reducible apply Still.foldl1
    | intro _ _ _
    | intro _ _
    | (fail_if_no_progress (with_reducible refine Still.upd ?_ rfl rfl))
    | dsimp only
    | split

theorem State.bistFault_still {vt : Vital} {s : State} {n : Nat} (hv : Still vt s.vital) : Still vt (State.bistFault s n).vital := by
  unfold State.bistFault
  try dsimp only
  repeat' first
    | with_reducible assumption
    | with_reducible apply Still.ite
    | with_reducible apply State.done_still
    | with_reducible apply State.draw_still
    | with_reducible apply State.endBist_still
    | with_reducible apply Still.foldl
    | with_reducible apply Still.foldl1
    | intro _ _ _
    | intro _ _
    | (fail_if_no_progress (with_reducible refine Still.upd ?_ rfl rfl))
    | dsimp only
    | split

theorem State.coreFault_still {vt : Vital} {s : State} {n : Nat} (hv : Still vt s.vital) : Still vt (State.coreFault s n).vital := by
  unfold State.coreFault
  try dsimp only
  repeat' first
    | with_reducible assumption
    | with_reducible apply Still.ite
    | with_reducible apply State.bistFault_still
    | with_reducible apply State.positionFault_still
    | with_reducible apply Still.foldl
    | with_reducible apply Still.foldl1
    | intro _ _ _
    | intro _ _
    | (fail_if_no_progress (with_reducible refine Still.upd ?_ rfl rfl))
    | dsimp only
    | split

theorem execPositionFault_still {vt : Vital} {n : Fin 96} {s : State} (hv : Still vt s.vital) {t : State}
    (e : execPositionFault n s = .next t) : Still vt t.vital := by
  cases e
  try dsimp only
  repeat' first
    | with_reducible assumption
    | with_reducible apply Still.ite
    | with_reducible apply State.coreFault_still
    | with_reducible apply Still.foldl
    | with_reducible apply Still.foldl1
    | intro _ _ _
    | intro _ _
    | (fail_if_no_progress (with_reducible refine Still.upd ?_ rfl rfl))
    | dsimp only
    | split

theorem State.failStack_still {vt : Vital} {s : State} {m : Nat} (hv : Still vt s.vital) : Still vt (State.failStack s m).vital := by
  unfold State.failStack
  try dsimp only
  repeat' first
    | with_reducible assumption
    | with_reducible apply Still.ite
    | with_reducible apply State.stackState_still
    | with_reducible apply Still.foldl
    | with_reducible apply Still.foldl1
    | intro _ _ _
    | intro _ _
    | (fail_if_no_progress (with_reducible refine Still.upd ?_ rfl rfl))
    | dsimp only
    | split

theorem State.abortStackUsers_still {vt : Vital} {s : State} {m : Nat} (hv : Still vt s.vital) : Still vt (State.abortStackUsers s m).vital := by
  unfold State.abortStackUsers
  try dsimp only
  repeat' first
    | with_reducible assumption
    | with_reducible apply Still.ite
    | with_reducible apply State.chargeFault_still
    | with_reducible apply Still.foldl
    | with_reducible apply Still.foldl1
    | intro _ _ _
    | intro _ _
    | (fail_if_no_progress (with_reducible refine Still.upd ?_ rfl rfl))
    | dsimp only
    | split

theorem execHbmStackFail_still {vt : Vital} {m : Fin 48} {s : State} (hv : Still vt s.vital) {t : State}
    (e : execHbmStackFail m s = .next t) : Still vt t.vital := by
  cases e
  try dsimp only
  repeat' first
    | with_reducible assumption
    | with_reducible apply Still.ite
    | with_reducible apply State.failStack_still
    | with_reducible apply Still.foldl
    | with_reducible apply Still.foldl1
    | intro _ _ _
    | intro _ _
    | (fail_if_no_progress (with_reducible refine Still.upd ?_ rfl rfl))
    | dsimp only
    | split

theorem execHbmOvertemp_still {vt : Vital} {m : Fin 48} {s : State} (hv : Still vt s.vital) {t : State}
    (e : execHbmOvertemp m s = .next t) : Still vt t.vital := by
  cases e
  try dsimp only
  repeat' first
    | with_reducible assumption
    | with_reducible apply Still.ite
    | with_reducible apply State.failStack_still
    | with_reducible apply Still.foldl
    | with_reducible apply Still.foldl1
    | intro _ _ _
    | intro _ _
    | (fail_if_no_progress (with_reducible refine Still.upd ?_ rfl rfl))
    | dsimp only
    | split

theorem State.deflateNext_still {vt : Vital} {s : State} (hv : Still vt s.vital) : Still vt (State.deflateNext s).vital := by
  unfold State.deflateNext
  try dsimp only
  repeat' first
    | with_reducible assumption
    | with_reducible apply Still.ite
    | with_reducible apply State.deflate_still
    | with_reducible apply Still.foldl
    | with_reducible apply Still.foldl1
    | intro _ _ _
    | intro _ _
    | (fail_if_no_progress (with_reducible refine Still.upd ?_ rfl rfl))
    | dsimp only
    | split

theorem State.abortAll_still {vt : Vital} {s : State} {records : Bool} (hv : Still vt s.vital) : Still vt (State.abortAll s records).vital := by
  unfold State.abortAll
  try dsimp only
  repeat' first
    | with_reducible assumption
    | with_reducible apply Still.ite
    | with_reducible apply State.abortTask_still
    | with_reducible apply State.dropNext_still
    | with_reducible apply Still.foldl
    | with_reducible apply Still.foldl1
    | intro _ _ _
    | intro _ _
    | (fail_if_no_progress (with_reducible refine Still.upd ?_ rfl rfl))
    | dsimp only
    | split

theorem State.stopModule_still {vt : Vital} {s : State} (hv : Still vt s.vital) : Still vt (State.stopModule s).vital := by
  unfold State.stopModule
  try dsimp only
  repeat' first
    | with_reducible assumption
    | with_reducible apply Still.ite
    | with_reducible apply State.abortAll_still
    | with_reducible apply State.put_still
    | with_reducible apply State.deflateNext_still
    | with_reducible apply Still.foldl
    | with_reducible apply Still.foldl1
    | intro _ _ _
    | intro _ _
    | (fail_if_no_progress (with_reducible refine Still.upd ?_ rfl rfl))
    | dsimp only
    | split

theorem State.deflateDie_still {vt : Vital} {s : State} {d : Nat} (hv : Still vt s.vital) : Still vt (State.deflateDie s d).vital := by
  unfold State.deflateDie
  try dsimp only
  repeat' first
    | with_reducible assumption
    | with_reducible apply Still.ite
    | with_reducible apply State.setDomain_still
    | with_reducible apply State.deflate_still
    | with_reducible apply Still.foldl
    | with_reducible apply Still.foldl1
    | intro _ _ _
    | intro _ _
    | (fail_if_no_progress (with_reducible refine Still.upd ?_ rfl rfl))
    | dsimp only
    | split

theorem State.uncoreTrip_still {vt : Vital} {s : State} {d cause : Nat} (hv : Still vt s.vital) : Still vt (State.uncoreTrip s d cause).vital := by
  unfold State.uncoreTrip
  try dsimp only
  repeat' first
    | with_reducible assumption
    | with_reducible apply Still.ite
    | with_reducible apply State.domainCause_still
    | with_reducible apply State.put_still
    | with_reducible apply State.setDomain_still
    | with_reducible apply State.deflateDie_still
    | with_reducible apply State.stopModule_still
    | with_reducible apply Still.foldl
    | with_reducible apply Still.foldl1
    | intro _ _ _
    | intro _ _
    | (fail_if_no_progress (with_reducible refine Still.upd ?_ rfl rfl))
    | dsimp only
    | split

theorem State.setHalf_still {vt : Vital} {s : State} {g v : Nat} (hv : Still vt s.vital) : Still vt (State.setHalf s g v).vital := by
  unfold State.setHalf
  try dsimp only
  repeat' first
    | with_reducible assumption
    | with_reducible apply Still.ite
    | with_reducible apply State.put_still
    | with_reducible apply Still.foldl
    | with_reducible apply Still.foldl1
    | intro _ _ _
    | intro _ _
    | (fail_if_no_progress (with_reducible refine Still.upd ?_ rfl rfl))
    | dsimp only
    | split

theorem State.halfStop_still {vt : Vital} {s : State} {g : Nat} (hv : Still vt s.vital) : Still vt (State.halfStop s g).vital := by
  unfold State.halfStop
  try dsimp only
  repeat' first
    | with_reducible assumption
    | with_reducible apply Still.ite
    | with_reducible apply State.setHalf_still
    | with_reducible apply State.event_still
    | with_reducible apply State.stopModule_still
    | with_reducible apply Still.foldl
    | with_reducible apply Still.foldl1
    | intro _ _ _
    | intro _ _
    | (fail_if_no_progress (with_reducible refine Still.upd ?_ rfl rfl))
    | dsimp only
    | split

theorem execGondolaHalfStop_still {vt : Vital} {g : Fin 2} {s : State} (hv : Still vt s.vital) {t : State}
    (e : execGondolaHalfStop g s = .next t) : Still vt t.vital := by
  cases e
  try dsimp only
  repeat' first
    | with_reducible assumption
    | with_reducible apply Still.ite
    | with_reducible apply State.halfStop_still
    | with_reducible apply Still.foldl
    | with_reducible apply Still.foldl1
    | intro _ _ _
    | intro _ _
    | (fail_if_no_progress (with_reducible refine Still.upd ?_ rfl rfl))
    | dsimp only
    | split

theorem State.takeOver_still {vt : Vital} {s : State} {g : Nat} (hv : Still vt s.vital) : Still vt (State.takeOver s g).vital := by
  unfold State.takeOver
  try dsimp only
  repeat' first
    | with_reducible assumption
    | with_reducible apply Still.ite
    | with_reducible apply State.setHalf_still
    | with_reducible apply Still.foldl
    | with_reducible apply Still.foldl1
    | intro _ _ _
    | intro _ _
    | (fail_if_no_progress (with_reducible refine Still.upd ?_ rfl rfl))
    | dsimp only
    | split

theorem execFirmwareTakeover_still {vt : Vital} {s : State} (hv : Still vt s.vital) {t : State}
    (e : execFirmwareTakeover s = .next t) : Still vt t.vital := by
  cases e
  try dsimp only
  repeat' first
    | with_reducible assumption
    | with_reducible apply Still.ite
    | with_reducible apply State.takeOver_still
    | with_reducible apply Still.foldl
    | with_reducible apply Still.foldl1
    | intro _ _ _
    | intro _ _
    | (fail_if_no_progress (with_reducible refine Still.upd ?_ rfl rfl))
    | dsimp only
    | split

theorem State.trip_still {vt : Vital} {s : State} {d cause : Nat} (hv : Still vt s.vital) : Still vt (State.trip s d cause).vital := by
  unfold State.trip
  try dsimp only
  repeat' first
    | with_reducible assumption
    | with_reducible apply Still.ite
    | with_reducible apply State.failDomain_still
    | with_reducible apply State.coreFault_still
    | with_reducible apply State.uncoreTrip_still
    | with_reducible apply State.failStack_still
    | with_reducible apply State.abortStackUsers_still
    | with_reducible apply State.portDown_still
    | with_reducible apply State.halfStop_still
    | with_reducible apply Still.foldl
    | with_reducible apply Still.foldl1
    | intro _ _ _
    | intro _ _
    | (fail_if_no_progress (with_reducible refine Still.upd ?_ rfl rfl))
    | dsimp only
    | split

theorem execHardLimitTrip_still {vt : Vital} {d : Fin 250} {s : State} (hv : Still vt s.vital) {t : State}
    (e : execHardLimitTrip d s = .next t) : Still vt t.vital := by
  cases e
  try dsimp only
  repeat' first
    | with_reducible assumption
    | with_reducible apply Still.ite
    | with_reducible apply State.trip_still
    | with_reducible apply Still.foldl
    | with_reducible apply Still.foldl1
    | intro _ _ _
    | intro _ _
    | (fail_if_no_progress (with_reducible refine Still.upd ?_ rfl rfl))
    | dsimp only
    | split

end Sys2Proof.Machine
end

