-- ==== Sys2Proof/Laws/KeepPower.lean ====
section
/-! SUPPORT. What the functions of Machine/Power.lean leave as it should be (Laws/Vital.lean). -/

namespace Sys2Proof.Machine

set_option linter.unreachableTactic false
set_option linter.unusedTactic false
set_option linter.unusedVariables false

theorem execInflate_still {vt : Vital} {d : Fin 250} {s : State} (hv : Still vt s.vital) {t : State}
    (e : execInflate d s = .next t) : Still vt t.vital := by
  cases e
  try dsimp only
  repeat' first
    | with_reducible assumption
    | with_reducible apply Still.ite
    | with_reducible apply State.whenBooted_still
    | with_reducible apply State.atNextEdge_still
    | with_reducible apply State.ignored_still
    | with_reducible apply Still.foldl
    | with_reducible apply Still.foldl1
    | intro _ _ _
    | intro _ _
    | (fail_if_no_progress (with_reducible refine Still.upd ?_ rfl rfl))
    | dsimp only
    | split

theorem execDeflate_still {vt : Vital} {d : Fin 250} {s : State} (hv : Still vt s.vital) {t : State}
    (e : execDeflate d s = .next t) : Still vt t.vital := by
  cases e
  try dsimp only
  repeat' first
    | with_reducible assumption
    | with_reducible apply Still.ite
    | with_reducible apply State.whenBooted_still
    | with_reducible apply State.atNextEdge_still
    | with_reducible apply State.ignored_still
    | with_reducible apply Still.foldl
    | with_reducible apply Still.foldl1
    | intro _ _ _
    | intro _ _
    | (fail_if_no_progress (with_reducible refine Still.upd ?_ rfl rfl))
    | dsimp only
    | split

theorem execVminRearm_still {vt : Vital} {d : Fin 250} {s : State} (hv : Still vt s.vital) {t : State}
    (e : execVminRearm d s = .next t) : Still vt t.vital := by
  cases e
  try dsimp only
  repeat' first
    | with_reducible assumption
    | with_reducible apply Still.ite
    | with_reducible apply State.whenBooted_still
    | with_reducible apply State.putA_still
    | with_reducible apply State.ignored_still
    | with_reducible apply Still.foldl
    | with_reducible apply Still.foldl1
    | intro _ _ _
    | intro _ _
    | (fail_if_no_progress (with_reducible refine Still.upd ?_ rfl rfl))
    | dsimp only
    | split

theorem State.requestInflate_still {vt : Vital} {s : State} {d : Nat} (hv : Still vt s.vital) : Still vt (State.requestInflate s d).vital := by
  unfold State.requestInflate
  try dsimp only
  repeat' first
    | with_reducible assumption
    | with_reducible apply Still.ite
    | with_reducible apply State.setDomain_still
    | with_reducible apply Still.foldl
    | with_reducible apply Still.foldl1
    | intro _ _ _
    | intro _ _
    | (fail_if_no_progress (with_reducible refine Still.upd ?_ rfl rfl))
    | dsimp only
    | split

theorem State.requestDeflate_still {vt : Vital} {s : State} {d : Nat} (hv : Still vt s.vital) : Still vt (State.requestDeflate s d).vital := by
  unfold State.requestDeflate
  try dsimp only
  repeat' first
    | with_reducible assumption
    | with_reducible apply Still.ite
    | with_reducible apply State.deflate_still
    | with_reducible apply Still.foldl
    | with_reducible apply Still.foldl1
    | intro _ _ _
    | intro _ _
    | (fail_if_no_progress (with_reducible refine Still.upd ?_ rfl rfl))
    | dsimp only
    | split

theorem State.startInflation_still {vt : Vital} {s : State} (hv : Still vt s.vital) : Still vt (State.startInflation s).vital := by
  unfold State.startInflation
  try dsimp only
  repeat' first
    | with_reducible assumption
    | with_reducible apply Still.ite
    | with_reducible apply State.setDomain_still
    | with_reducible apply State.put_still
    | with_reducible apply State.countFailed_still
    | with_reducible apply Still.foldl
    | with_reducible apply Still.foldl1
    | intro _ _ _
    | intro _ _
    | (fail_if_no_progress (with_reducible refine Still.upd ?_ rfl rfl))
    | dsimp only
    | split

theorem execInflationStart_still {vt : Vital} {s : State} (hv : Still vt s.vital) {t : State}
    (e : execInflationStart s = .next t) : Still vt t.vital := by
  cases e
  try dsimp only
  repeat' first
    | with_reducible assumption
    | with_reducible apply Still.ite
    | with_reducible apply State.startInflation_still
    | with_reducible apply Still.foldl
    | with_reducible apply Still.foldl1
    | intro _ _ _
    | intro _ _
    | (fail_if_no_progress (with_reducible refine Still.upd ?_ rfl rfl))
    | dsimp only
    | split

theorem State.domainOn_still {vt : Vital} {s : State} {d : Nat} (hv : Still vt s.vital) : Still vt (State.domainOn s d).vital := by
  unfold State.domainOn
  try dsimp only
  repeat' first
    | with_reducible assumption
    | with_reducible apply Still.ite
    | with_reducible apply State.put_still
    | with_reducible apply State.atNextEdge_still
    | with_reducible apply State.setPortState_still
    | with_reducible apply State.tryTrain_still
    | with_reducible apply Still.foldl
    | with_reducible apply Still.foldl1
    | intro _ _ _
    | intro _ _
    | (fail_if_no_progress (with_reducible refine Still.upd ?_ rfl rfl))
    | dsimp only
    | split

theorem State.endStage_still {vt : Vital} {s : State} {d current : Nat} (hv : Still vt s.vital) : Still vt (State.endStage s d current).vital := by
  unfold State.endStage
  try dsimp only
  repeat' first
    | with_reducible assumption
    | with_reducible apply Still.ite
    | with_reducible apply State.inc_still
    | with_reducible apply State.domainCause_still
    | with_reducible apply State.put_still
    | with_reducible apply State.setDomain_still
    | with_reducible apply State.countFailed_still
    | with_reducible apply State.domainOn_still
    | with_reducible apply Still.foldl
    | with_reducible apply Still.foldl1
    | intro _ _ _
    | intro _ _
    | (fail_if_no_progress (with_reducible refine Still.upd ?_ rfl rfl))
    | dsimp only
    | split

theorem execInflationStage_still {vt : Vital} {d : Fin 250} {current : Nat} {s : State} (hv : Still vt s.vital) {t : State}
    (e : execInflationStage d current s = .next t) : Still vt t.vital := by
  cases e
  try dsimp only
  repeat' first
    | with_reducible assumption
    | with_reducible apply Still.ite
    | with_reducible apply State.endStage_still
    | with_reducible apply Still.foldl
    | with_reducible apply Still.foldl1
    | intro _ _ _
    | intro _ _
    | (fail_if_no_progress (with_reducible refine Still.upd ?_ rfl rfl))
    | dsimp only
    | split

theorem State.endDeflation_still {vt : Vital} {s : State} {d : Nat} (hv : Still vt s.vital) : Still vt (State.endDeflation s d).vital := by
  unfold State.endDeflation
  try dsimp only
  repeat' first
    | with_reducible assumption
    | with_reducible apply Still.ite
    | with_reducible apply State.put_still
    | with_reducible apply State.countFailed_still
    | with_reducible apply State.setPortState_still
    | with_reducible apply State.setLaserState_still
    | with_reducible apply State.setHalf_still
    | with_reducible apply State.deflateNext_still
    | with_reducible apply Still.foldl
    | with_reducible apply Still.foldl1
    | intro _ _ _
    | intro _ _
    | (fail_if_no_progress (with_reducible refine Still.upd ?_ rfl rfl))
    | dsimp only
    | split

theorem execDeflationDone_still {vt : Vital} {d : Fin 250} {s : State} (hv : Still vt s.vital) {t : State}
    (e : execDeflationDone d s = .next t) : Still vt t.vital := by
  cases e
  try dsimp only
  repeat' first
    | with_reducible assumption
    | with_reducible apply Still.ite
    | with_reducible apply State.endDeflation_still
    | with_reducible apply Still.foldl
    | with_reducible apply Still.foldl1
    | intro _ _ _
    | intro _ _
    | (fail_if_no_progress (with_reducible refine Still.upd ?_ rfl rfl))
    | dsimp only
    | split

theorem State.droop_still {vt : Vital} {s : State} {d quotient : Nat} (hv : Still vt s.vital) : Still vt (State.droop s d quotient).vital := by
  unfold State.droop
  try dsimp only
  repeat' first
    | with_reducible assumption
    | with_reducible apply Still.ite
    | with_reducible apply State.setDomain_still
    | with_reducible apply State.inc_still
    | with_reducible apply State.put_still
    | with_reducible apply State.setEvent_still
    | with_reducible apply State.event_still
    | with_reducible apply State.atNextEdge_still
    | with_reducible apply Still.foldl
    | with_reducible apply Still.foldl1
    | intro _ _ _
    | intro _ _
    | (fail_if_no_progress (with_reducible refine Still.upd ?_ rfl rfl))
    | dsimp only
    | split

theorem execDroopStep_still {vt : Vital} {d : Fin 250} {rise quotient : Nat} {s : State} (hv : Still vt s.vital) {t : State}
    (e : execDroopStep d rise quotient s = .next t) : Still vt t.vital := by
  cases e
  try dsimp only
  repeat' first
    | with_reducible assumption
    | with_reducible apply Still.ite
    | with_reducible apply State.droop_still
    | with_reducible apply Still.foldl
    | with_reducible apply Still.foldl1
    | intro _ _ _
    | intro _ _
    | (fail_if_no_progress (with_reducible refine Still.upd ?_ rfl rfl))
    | dsimp only
    | split

theorem State.markVoid_still {vt : Vital} {s : State} {p : Nat} (hv : Still vt s.vital) : Still vt (State.markVoid s p).vital := by
  unfold State.markVoid
  try dsimp only
  repeat' first
    | with_reducible assumption
    | with_reducible apply Still.ite
    | with_reducible apply State.modRun_still
    | with_reducible apply Still.foldl
    | with_reducible apply Still.foldl1
    | intro _ _ _
    | intro _ _
    | (fail_if_no_progress (with_reducible refine Still.upd ?_ rfl rfl))
    | dsimp only
    | split

theorem State.clockStep_keeps {vt : Vital} {s : State} {cause : Nat} (h : Keeps vt s.vital) :
    Keeps vt (State.clockStep s cause).vital := by
  have k0 : ∀ {t : State}, Still s.vital t.vital → ∀ x, Keeps vt { t with
      clock := { t.clock with frameLen := max (t.cycle + 1) (t.cycle + (t.clock.frameLen - t.cycle) * 3 / 4) }, power := x }.vital := by
    intro t ht x
    refine (h.step ht).trans ⟨rfl, rfl, fun m => ⟨m.1, ?_⟩, id⟩
    have m1 : t.clock.frameStart ≤ t.clock.now := m.1
    show t.clock.now < t.clock.frameStart + max (t.clock.now - t.clock.frameStart + 1) _
    omega
  unfold State.clockStep
  dsimp only
  split
  · exact Keeps.upd (h.step (State.put_still (Still.refl _))) rfl rfl
  · apply Keeps.foldl
    · intro t p k
      exact k.step (State.markVoid_still (Still.refl _))
    · exact k0 (State.put_still (State.put_still (State.put_still (State.put_still (Still.refl _))))) _

theorem execEmergencyClockStep_keeps {vt : Vital} {cause : Nat} {s : State} (hv : Keeps vt s.vital) {t : State}
    (e : execEmergencyClockStep cause s = .next t) : Keeps vt t.vital := by
  cases e
  try dsimp only
  repeat' first
    | with_reducible assumption
    | with_reducible apply Keeps.ite
    | with_reducible apply State.clockStep_keeps
    | with_reducible apply Keeps.foldl
    | with_reducible apply Keeps.foldl1
    | intro _ _ _
    | intro _ _
    | (fail_if_no_progress (with_reducible refine Keeps.upd ?_ rfl rfl))
    | dsimp only
    | split

/-- The clock of the new frame, cut or not, still stands at its first cycle. -/
theorem State.edgeStep_keeps {vt : Vital} {s : State} {n : Nat} (hs : s.clock.now = s.clock.frameStart) (hl : 2 ≤ s.clock.frameLen)
    (h : Keeps vt s.vital) : Keeps vt (State.edgeStep s n).vital ∧
      (State.edgeStep s n).clock.now = (State.edgeStep s n).clock.frameStart := by
  have fold1 : ∀ l : List Nat, Still s.vital (l.foldl (fun (s : State) p =>
      if (s.part p).run.sum.voidFrom.isSome then
        s.modRun p fun r => { r with sum := { r.sum with voidLost := r.sum.voidLost + n } }
      else s) s).vital := fun l => Still.foldl (fun t p k => Still.ite (State.modRun_still k) k) l (Still.refl _)
  have fold2 : ∀ (l : List Nat) (t : State), Still t.vital (l.foldl (fun s p => s.markVoid p) t).vital :=
    fun l t => Still.foldl (fun t p k => State.markVoid_still k) l (Still.refl _)
  unfold State.edgeStep
  generalize List.range 16 = l
  split
  · rename_i x _
    dsimp only
    generalize (if x.trigger = true then 0 else x.quiet + 1) = q
    generalize hg : l.foldl _ s = g
    have hk : Still s.vital g.vital := hg ▸ fold1 _
    have hc : g.clock = s.clock := hk.clock
    split
    · exact ⟨h.step hk, by rw [hc]; exact hs⟩
    · split
      · exact ⟨Keeps.upd (h.step hk) rfl rfl, by show g.clock.now = g.clock.frameStart; rw [hc]; exact hs⟩
      · constructor
        · refine Keeps.step ?_ (fold2 _ _)
          exact Keeps.newLen (s := g) (k := g.clock.frameLen * 3 / 4) (h.step hk) (by rw [hc]; exact hs) (by rw [hc]; omega) rfl
        · rw [show ∀ t : State, (l.foldl (fun s p => s.markVoid p) t).clock = t.clock from fun t => (fold2 l t).clock]
          show g.clock.now = g.clock.frameStart
          rw [hc]; exact hs
  · exact ⟨h, hs⟩

theorem State.writeVoid_still {vt : Vital} {s : State} {p : Nat} {x : ClockStep} (hv : Still vt s.vital) : Still vt (State.writeVoid s p x).vital := by
  unfold State.writeVoid
  try dsimp only
  repeat' first
    | with_reducible assumption
    | with_reducible apply Still.ite
    | with_reducible apply State.journalVoid_still
    | with_reducible apply Still.foldl
    | with_reducible apply Still.foldl1
    | intro _ _ _
    | intro _ _
    | (fail_if_no_progress (with_reducible refine Still.upd ?_ rfl rfl))
    | dsimp only
    | split

theorem State.endClockStep_still {vt : Vital} {s : State} {x : ClockStep} (hv : Still vt s.vital) : Still vt (State.endClockStep s x).vital := by
  unfold State.endClockStep
  try dsimp only
  repeat' first
    | with_reducible assumption
    | with_reducible apply Still.ite
    | with_reducible apply State.put_still
    | with_reducible apply State.event_still
    | with_reducible apply State.writeVoid_still
    | with_reducible apply Still.foldl
    | with_reducible apply Still.foldl1
    | intro _ _ _
    | intro _ _
    | (fail_if_no_progress (with_reducible refine Still.upd ?_ rfl rfl))
    | dsimp only
    | split

theorem execClockStepEnd_still {vt : Vital} {s : State} (hv : Still vt s.vital) {t : State}
    (e : execClockStepEnd s = .next t) : Still vt t.vital := by
  cases e
  try dsimp only
  repeat' first
    | with_reducible assumption
    | with_reducible apply Still.ite
    | with_reducible apply State.endClockStep_still
    | with_reducible apply Still.foldl
    | with_reducible apply Still.foldl1
    | intro _ _ _
    | intro _ _
    | (fail_if_no_progress (with_reducible refine Still.upd ?_ rfl rfl))
    | dsimp only
    | split

theorem State.shutdown_still {vt : Vital} {s : State} (hv : Still vt s.vital) : Still vt (State.shutdown s).vital := by
  unfold State.shutdown
  try dsimp only
  repeat' first
    | with_reducible assumption
    | with_reducible apply Still.ite
    | with_reducible apply State.abortAll_still
    | with_reducible apply State.put_still
    | with_reducible apply State.storeOrderly_still
    | with_reducible apply State.deflateNext_still
    | with_reducible apply Still.foldl
    | with_reducible apply Still.foldl1
    | intro _ _ _
    | intro _ _
    | (fail_if_no_progress (with_reducible refine Still.upd ?_ rfl rfl))
    | dsimp only
    | split

theorem execOrderlyShutdown_still {vt : Vital} {s : State} (hv : Still vt s.vital) {t : State}
    (e : execOrderlyShutdown s = .next t) : Still vt t.vital := by
  cases e
  try dsimp only
  repeat' first
    | with_reducible assumption
    | with_reducible apply Still.ite
    | with_reducible apply State.shutdown_still
    | with_reducible apply Still.foldl
    | with_reducible apply Still.foldl1
    | intro _ _ _
    | intro _ _
    | (fail_if_no_progress (with_reducible refine Still.upd ?_ rfl rfl))
    | dsimp only
    | split

theorem State.countBricks_still {vt : Vital} {s : State} (hv : Still vt s.vital) : Still vt (State.countBricks s).vital := by
  unfold State.countBricks
  try dsimp only
  repeat' first
    | with_reducible assumption
    | with_reducible apply Still.ite
    | with_reducible apply State.put_still
    | with_reducible apply Still.foldl
    | with_reducible apply Still.foldl1
    | intro _ _ _
    | intro _ _
    | (fail_if_no_progress (with_reducible refine Still.upd ?_ rfl rfl))
    | dsimp only
    | split

theorem execBrickFail_still {vt : Vital} {b : Fin 18} {s : State} (hv : Still vt s.vital) {t : State}
    (e : execBrickFail b s = .next t) : Still vt t.vital := by
  cases e
  try dsimp only
  repeat' first
    | with_reducible assumption
    | with_reducible apply Still.ite
    | with_reducible apply State.put_still
    | with_reducible apply State.event_still
    | with_reducible apply State.countBricks_still
    | with_reducible apply Still.foldl
    | with_reducible apply Still.foldl1
    | intro _ _ _
    | intro _ _
    | (fail_if_no_progress (with_reducible refine Still.upd ?_ rfl rfl))
    | dsimp only
    | split

theorem State.insertBrick_still {vt : Vital} {s : State} {b : Nat} {ident : Bytes} {ok : Bool} {watts temp : Nat} (hv : Still vt s.vital) : Still vt (State.insertBrick s b ident ok watts temp).vital := by
  unfold State.insertBrick
  try dsimp only
  repeat' first
    | with_reducible assumption
    | with_reducible apply Still.ite
    | with_reducible apply State.fruCopy_still
    | with_reducible apply State.putA_still
    | with_reducible apply State.put_still
    | with_reducible apply State.event_still
    | with_reducible apply State.countBricks_still
    | with_reducible apply Still.foldl
    | with_reducible apply Still.foldl1
    | intro _ _ _
    | intro _ _
    | (fail_if_no_progress (with_reducible refine Still.upd ?_ rfl rfl))
    | dsimp only
    | split

theorem execBrickInsert_still {vt : Vital} {b : Fin 18} {ident : Bytes} {ok : Bool} {watts temp : Nat} {s : State} (hv : Still vt s.vital) {t : State}
    (e : execBrickInsert b ident ok watts temp s = .next t) : Still vt t.vital := by
  cases e
  try dsimp only
  repeat' first
    | with_reducible assumption
    | with_reducible apply Still.ite
    | with_reducible apply State.insertBrick_still
    | with_reducible apply Still.foldl
    | with_reducible apply Still.foldl1
    | intro _ _ _
    | intro _ _
    | (fail_if_no_progress (with_reducible refine Still.upd ?_ rfl rfl))
    | dsimp only
    | split

theorem execBrickRemove_still {vt : Vital} {b : Fin 18} {s : State} (hv : Still vt s.vital) {t : State}
    (e : execBrickRemove b s = .next t) : Still vt t.vital := by
  cases e
  try dsimp only
  repeat' first
    | with_reducible assumption
    | with_reducible apply Still.ite
    | with_reducible apply State.put_still
    | with_reducible apply State.putA_still
    | with_reducible apply State.fruCopy_still
    | with_reducible apply State.countBricks_still
    | with_reducible apply Still.foldl
    | with_reducible apply Still.foldl1
    | intro _ _ _
    | intro _ _
    | (fail_if_no_progress (with_reducible refine Still.upd ?_ rfl rfl))
    | dsimp only
    | split

theorem execThermalWarning_still {vt : Vital} {inlet flow : Nat} {s : State} (hv : Still vt s.vital) {t : State}
    (e : execThermalWarning inlet flow s = .next t) : Still vt t.vital := by
  cases e
  try dsimp only
  repeat' first
    | with_reducible assumption
    | with_reducible apply Still.ite
    | with_reducible apply State.send_still
    | with_reducible apply Still.foldl
    | with_reducible apply Still.foldl1
    | intro _ _ _
    | intro _ _
    | (fail_if_no_progress (with_reducible refine Still.upd ?_ rfl rfl))
    | dsimp only
    | split

end Sys2Proof.Machine
end

