-- ==== Sys2Proof/Laws/KeepTmem.lean ====
section
/-! SUPPORT. What the functions of Machine/Tmem.lean leave as it should be (Laws/Vital.lean). -/

namespace Sys2Proof.Machine

set_option linter.unreachableTactic false
set_option linter.unusedTactic false
set_option linter.unusedVariables false

theorem State.modLcore_still {vt : Vital} {s : State} {p lc : Nat} {f : Core → Core} (hv : Still vt s.vital) : Still vt (State.modLcore s p lc f).vital := by
  unfold State.modLcore
  try dsimp only
  repeat' first
    | with_reducible assumption
    | with_reducible apply Still.ite
    | with_reducible apply State.modCore_still
    | with_reducible apply Still.foldl
    | with_reducible apply Still.foldl1
    | intro _ _ _
    | intro _ _
    | (fail_if_no_progress (with_reducible refine Still.upd ?_ rfl rfl))
    | dsimp only
    | split

theorem State.countEcc_still {vt : Vital} {s : State} {p lc x r : Nat} (hv : Still vt s.vital) : Still vt (State.countEcc s p lc x r).vital := by
  unfold State.countEcc
  try dsimp only
  repeat' first
    | with_reducible assumption
    | with_reducible apply Still.ite
    | with_reducible apply State.inc_still
    | with_reducible apply Still.foldl
    | with_reducible apply Still.foldl1
    | intro _ _ _
    | intro _ _
    | (fail_if_no_progress (with_reducible refine Still.upd ?_ rfl rfl))
    | dsimp only
    | split

theorem State.noteEcc_still {vt : Vital} {s : State} {p lc : Nat} (hv : Still vt s.vital) : Still vt (State.noteEcc s p lc).vital := by
  unfold State.noteEcc
  try dsimp only
  repeat' first
    | with_reducible assumption
    | with_reducible apply Still.ite
    | with_reducible apply State.mark_still
    | with_reducible apply State.inc_still
    | with_reducible apply State.event_still
    | with_reducible apply State.modCore_still
    | with_reducible apply State.positionFault_still
    | with_reducible apply Still.foldl
    | with_reducible apply Still.foldl1
    | intro _ _ _
    | intro _ _
    | (fail_if_no_progress (with_reducible refine Still.upd ?_ rfl rfl))
    | dsimp only
    | split

theorem State.chargeAt_keeps {vt : Vital} {s : State} {p x status detail : Nat} (hv : Keeps vt s.vital) : Keeps vt (State.chargeAt s p x status detail).vital := by
  unfold State.chargeAt
  try dsimp only
  repeat' first
    | with_reducible assumption
    | with_reducible apply Keeps.ite
    | with_reducible apply State.advance_keeps
    | with_reducible apply Keeps.via (State.chargeFault_still (Still.refl _))
    | with_reducible apply Keeps.via (State.setCmd_still (Still.refl _))
    | with_reducible apply Keeps.via (State.event_still (Still.refl _))
    | with_reducible apply Keeps.via (State.mark_still (Still.refl _))
    | with_reducible apply Keeps.foldl
    | with_reducible apply Keeps.foldl1
    | intro _ _ _
    | intro _ _
    | (fail_if_no_progress (with_reducible refine Keeps.upd ?_ rfl rfl))
    | dsimp only
    | split

theorem State.addUses_still {vt : Vital} {s : State} {p : Nat} {us : List SlotUse} (hv : Still vt s.vital) : Still vt (State.addUses s p us).vital := by
  unfold State.addUses
  try dsimp only
  repeat' first
    | with_reducible assumption
    | with_reducible apply Still.ite
    | with_reducible apply State.modRun_still
    | with_reducible apply Still.foldl
    | with_reducible apply Still.foldl1
    | intro _ _ _
    | intro _ _
    | (fail_if_no_progress (with_reducible refine Still.upd ?_ rfl rfl))
    | dsimp only
    | split

theorem State.hazards_keeps {vt : Vital} {s : State} {p : Nat} {u : SlotUse} (hv : Keeps vt s.vital) : Keeps vt (State.hazards s p u).vital := by
  unfold State.hazards
  try dsimp only
  repeat' first
    | with_reducible assumption
    | with_reducible apply Keeps.ite
    | with_reducible apply Keeps.via (State.inc_still (Still.refl _))
    | with_reducible apply State.chargeAt_keeps
    | with_reducible apply Keeps.foldl
    | with_reducible apply Keeps.foldl1
    | intro _ _ _
    | intro _ _
    | (fail_if_no_progress (with_reducible refine Keeps.upd ?_ rfl rfl))
    | dsimp only
    | split

theorem State.setFlag_still {vt : Vital} {s : State} {p lc g x : Nat} (hv : Still vt s.vital) : Still vt (State.setFlag s p lc g x).vital := by
  unfold State.setFlag
  try dsimp only
  repeat' first
    | with_reducible assumption
    | with_reducible apply Still.ite
    | with_reducible apply State.modCore_still
    | with_reducible apply State.inc_still
    | with_reducible apply Still.foldl
    | with_reducible apply Still.foldl1
    | intro _ _ _
    | intro _ _
    | (fail_if_no_progress (with_reducible refine Still.upd ?_ rfl rfl))
    | dsimp only
    | split

theorem State.writeS_keeps {vt : Vital} {s : State} {p lc row wc0 : Nat} {bs : Bytes} {x : Nat} (hv : Keeps vt s.vital) : Keeps vt (State.writeS s p lc row wc0 bs x).vital := by
  unfold State.writeS
  try dsimp only
  repeat' first
    | with_reducible assumption
    | with_reducible apply Keeps.ite
    | with_reducible apply Keeps.via (State.modCore_still (Still.refl _))
    | with_reducible apply Keeps.via (State.addUses_still (Still.refl _))
    | with_reducible apply State.hazards_keeps
    | with_reducible apply Keeps.foldl
    | with_reducible apply Keeps.foldl1
    | intro _ _ _
    | intro _ _
    | (fail_if_no_progress (with_reducible refine Keeps.upd ?_ rfl rfl))
    | dsimp only
    | split

theorem State.remoteWrite_keeps {vt : Vital} {s : State} {p lc row wc0 : Nat} {bs : Bytes} {kind sender x : Nat} (hv : Keeps vt s.vital) : Keeps vt (State.remoteWrite s p lc row wc0 bs kind sender x).vital := by
  unfold State.remoteWrite
  try dsimp only
  repeat' first
    | with_reducible assumption
    | with_reducible apply Keeps.ite
    | with_reducible apply State.writeS_keeps
    | with_reducible apply Keeps.via (State.inc_still (Still.refl _))
    | with_reducible apply State.chargeAt_keeps
    | with_reducible apply Keeps.foldl
    | with_reducible apply Keeps.foldl1
    | intro _ _ _
    | intro _ _
    | (fail_if_no_progress (with_reducible refine Keeps.upd ?_ rfl rfl))
    | dsimp only
    | split

theorem State.changeWindows_still {vt : Vital} {s : State} {c : Cmd} {p t : Nat} (hv : Still vt s.vital) : Still vt (State.changeWindows s c p t).vital := by
  unfold State.changeWindows
  try dsimp only
  repeat' first
    | with_reducible assumption
    | with_reducible apply Still.ite
    | with_reducible apply State.modLcore_still
    | with_reducible apply Still.foldl
    | with_reducible apply Still.foldl1
    | intro _ _ _
    | intro _ _
    | (fail_if_no_progress (with_reducible refine Still.upd ?_ rfl rfl))
    | dsimp only
    | split

theorem execWindowOpen_still {vt : Vital} {c : CmdId} {s : State} (hv : Still vt s.vital) {t : State}
    (e : execWindowOpen c s = .next t) : Still vt t.vital := by
  cases e
  try dsimp only
  repeat' first
    | with_reducible assumption
    | with_reducible apply Still.ite
    | with_reducible apply State.done_still
    | with_reducible apply Still.foldl
    | with_reducible apply Still.foldl1
    | intro _ _ _
    | intro _ _
    | (fail_if_no_progress (with_reducible refine Still.upd ?_ rfl rfl))
    | dsimp only
    | split

theorem execWindowClose_still {vt : Vital} {c : CmdId} {s : State} (hv : Still vt s.vital) {t : State}
    (e : execWindowClose c s = .next t) : Still vt t.vital := by
  cases e
  try dsimp only
  repeat' first
    | with_reducible assumption
    | with_reducible apply Still.ite
    | with_reducible apply State.done_still
    | with_reducible apply Still.foldl
    | with_reducible apply Still.foldl1
    | intro _ _ _
    | intro _ _
    | (fail_if_no_progress (with_reducible refine Still.upd ?_ rfl rfl))
    | dsimp only
    | split

end Sys2Proof.Machine
end

