-- ==== Sys2Proof/Laws/KeepWide.lean ====
section
/-! SUPPORT. What the functions of Machine/Wide.lean leave as it should be (Laws/Vital.lean). -/

namespace Sys2Proof.Machine

set_option linter.unreachableTactic false
set_option linter.unusedTactic false
set_option linter.unusedVariables false

theorem State.addDrops_still {vt : Vital} {s : State} {n k : Nat} (hv : Still vt s.vital) : Still vt (State.addDrops s n k).vital := by
  unfold State.addDrops
  try dsimp only
  repeat' first
    | with_reducible assumption
    | with_reducible apply Still.ite
    | with_reducible apply State.inc_still
    | with_reducible apply Still.foldl
    | with_reducible apply Still.foldl1
    | intro _ _ _
    | intro _ _
    | (fail_if_no_progress (with_reducible refine Still.upd ?_ rfl rfl))
    | dsimp only
    | split

theorem State.countHazards_still {vt : Vital} {s : State} {p : Nat} {us : List SlotUse} (hv : Still vt s.vital) : Still vt (State.countHazards s p us).vital := by
  unfold State.countHazards
  try dsimp only
  repeat' first
    | with_reducible assumption
    | with_reducible apply Still.ite
    | with_reducible apply State.inc_still
    | with_reducible apply Still.foldl
    | with_reducible apply Still.foldl1
    | intro _ _ _
    | intro _ _
    | (fail_if_no_progress (with_reducible refine Still.upd ?_ rfl rfl))
    | dsimp only
    | split

theorem State.perform_still {vt : Vital} {s : State} {p : Nat} {us : List SlotUse} (hv : Still vt s.vital) : Still vt (State.perform s p us).vital := by
  unfold State.perform
  try dsimp only
  repeat' first
    | with_reducible assumption
    | with_reducible apply Still.ite
    | with_reducible apply State.countHazards_still
    | with_reducible apply State.countEcc_still
    | with_reducible apply State.addUses_still
    | with_reducible apply Still.foldl
    | with_reducible apply Still.foldl1
    | intro _ _ _
    | intro _ _
    | (fail_if_no_progress (with_reducible refine Still.upd ?_ rfl rfl))
    | dsimp only
    | split

theorem State.applyRuns_still {vt : Vital} {s : State} {p : Nat} {rs : List CoreRun} {spec : Option Nat} (hv : Still vt s.vital) : Still vt (State.applyRuns s p rs spec).vital := by
  unfold State.applyRuns
  try dsimp only
  repeat' first
    | with_reducible assumption
    | with_reducible apply Still.ite
    | with_reducible apply State.setCore_still
    | with_reducible apply State.setPred_still
    | with_reducible apply State.addDrops_still
    | with_reducible apply State.perform_still
    | with_reducible apply Still.foldl
    | with_reducible apply Still.foldl1
    | intro _ _ _
    | intro _ _
    | (fail_if_no_progress (with_reducible refine Still.upd ?_ rfl rfl))
    | dsimp only
    | split

theorem State.countFault_still {vt : Vital} {s : State} {p : Nat} {f : Flt} (hv : Still vt s.vital) : Still vt (State.countFault s p f).vital := by
  unfold State.countFault
  try dsimp only
  repeat' first
    | with_reducible assumption
    | with_reducible apply Still.ite
    | with_reducible apply State.noteEcc_still
    | with_reducible apply State.inc_still
    | with_reducible apply Still.foldl
    | with_reducible apply Still.foldl1
    | intro _ _ _
    | intro _ _
    | (fail_if_no_progress (with_reducible refine Still.upd ?_ rfl rfl))
    | dsimp only
    | split

theorem State.countFaults_still {vt : Vital} {s : State} {p : Nat} {f : Flt} {all : List Flt} (hv : Still vt s.vital) : Still vt (State.countFaults s p f all).vital := by
  unfold State.countFaults
  try dsimp only
  repeat' first
    | with_reducible assumption
    | with_reducible apply Still.ite
    | with_reducible apply State.countFault_still
    | with_reducible apply Still.foldl
    | with_reducible apply Still.foldl1
    | intro _ _ _
    | intro _ _
    | (fail_if_no_progress (with_reducible refine Still.upd ?_ rfl rfl))
    | dsimp only
    | split

theorem State.wideFault_still {vt : Vital} {s : State} {c : Cmd} {p : Nat} {f : Flt} {all : List Flt} {spec full : Option Nat} (hv : Still vt s.vital) : Still vt (State.wideFault s c p f all spec full).vital := by
  unfold State.wideFault
  try dsimp only
  repeat' first
    | with_reducible assumption
    | with_reducible apply Still.ite
    | with_reducible apply State.countFaults_still
    | with_reducible apply State.setPred_still
    | with_reducible apply State.fault_still
    | with_reducible apply State.done_still
    | with_reducible apply State.draw_still
    | with_reducible apply Still.foldl
    | with_reducible apply Still.foldl1
    | intro _ _ _
    | intro _ _
    | (fail_if_no_progress (with_reducible refine Still.upd ?_ rfl rfl))
    | dsimp only
    | split

theorem State.wideDone_still {vt : Vital} {s : State} {c : Cmd} {drops : List (Nat × Nat)} {cycles : Nat} (hv : Still vt s.vital) : Still vt (State.wideDone s c drops cycles).vital := by
  unfold State.wideDone
  try dsimp only
  repeat' first
    | with_reducible assumption
    | with_reducible apply Still.ite
    | with_reducible apply State.done_still
    | with_reducible apply Still.foldl
    | with_reducible apply Still.foldl1
    | intro _ _ _
    | intro _ _
    | (fail_if_no_progress (with_reducible refine Still.upd ?_ rfl rfl))
    | dsimp only
    | split

theorem State.setWide_still {vt : Vital} {s : State} {c : Cmd} {p : Nat} {ws : List Walk} {upto : Nat} (hv : Still vt s.vital) : Still vt (State.setWide s c p ws upto).vital := by
  unfold State.setWide
  try dsimp only
  repeat' first
    | with_reducible assumption
    | with_reducible apply Still.ite
    | with_reducible apply State.modRun_still
    | with_reducible apply Still.foldl
    | with_reducible apply Still.foldl1
    | intro _ _ _
    | intro _ _
    | (fail_if_no_progress (with_reducible refine Still.upd ?_ rfl rfl))
    | dsimp only
    | split

theorem State.consume_still {vt : Vital} {s : State} {p : Nat} {g : Option RingGeo} {ws : List Walk} {due : Option Nat} (hv : Still vt s.vital) : Still vt (State.consume s p g ws due).vital := by
  unfold State.consume
  try dsimp only
  repeat' first
    | with_reducible assumption
    | with_reducible apply Still.ite
    | with_reducible apply State.modStrm_still
    | with_reducible apply Still.foldl
    | with_reducible apply Still.foldl1
    | intro _ _ _
    | intro _ _
    | (fail_if_no_progress (with_reducible refine Still.upd ?_ rfl rfl))
    | dsimp only
    | split

theorem State.runMatrix_still {vt : Vital} {s : State} {c : Cmd} {p : Nat} {o : MatOp} {spec : Option Nat} {start : List Walk} {fill : Fill} (hv : Still vt s.vital) : Still vt (State.runMatrix s c p o spec start fill).vital := by
  unfold State.runMatrix
  try dsimp only
  repeat' first
    | with_reducible assumption
    | with_reducible apply Still.ite
    | with_reducible apply State.perform_still
    | with_reducible apply State.applyRuns_still
    | with_reducible apply State.setWide_still
    | with_reducible apply State.wideFault_still
    | with_reducible apply State.consume_still
    | with_reducible apply State.wideDone_still
    | with_reducible apply Still.foldl
    | with_reducible apply Still.foldl1
    | intro _ _ _
    | intro _ _
    | (fail_if_no_progress (with_reducible refine Still.upd ?_ rfl rfl))
    | dsimp only
    | split

theorem State.wmatmul_still {vt : Vital} {s : State} {c : Cmd} {p lim : Nat} (hv : Still vt s.vital) : Still vt (State.wmatmul s c p lim).vital := by
  unfold State.wmatmul
  try dsimp only
  repeat' first
    | with_reducible assumption
    | with_reducible apply Still.ite
    | with_reducible apply State.runMatrix_still
    | with_reducible apply Still.foldl
    | with_reducible apply Still.foldl1
    | intro _ _ _
    | intro _ _
    | (fail_if_no_progress (with_reducible refine Still.upd ?_ rfl rfl))
    | dsimp only
    | split

theorem State.wmatmulSpec_still {vt : Vital} {s : State} {c : Cmd} {p lim : Nat} (hv : Still vt s.vital) : Still vt (State.wmatmulSpec s c p lim).vital := by
  unfold State.wmatmulSpec
  try dsimp only
  repeat' first
    | with_reducible assumption
    | with_reducible apply Still.ite
    | with_reducible apply State.setPred_still
    | with_reducible apply State.runMatrix_still
    | with_reducible apply Still.foldl
    | with_reducible apply Still.foldl1
    | intro _ _ _
    | intro _ _
    | (fail_if_no_progress (with_reducible refine Still.upd ?_ rfl rfl))
    | dsimp only
    | split

theorem State.specStop_still {vt : Vital} {s : State} {c : Cmd} {p status detail : Nat} (hv : Still vt s.vital) : Still vt (State.specStop s c p status detail).vital := by
  unfold State.specStop
  try dsimp only
  repeat' first
    | with_reducible assumption
    | with_reducible apply Still.ite
    | with_reducible apply State.wideFault_still
    | with_reducible apply Still.foldl
    | with_reducible apply Still.foldl1
    | intro _ _ _
    | intro _ _
    | (fail_if_no_progress (with_reducible refine Still.upd ?_ rfl rfl))
    | dsimp only
    | split

theorem State.ownWide_still {vt : Vital} {s : State} {c : Cmd} {p : Nat} (hv : Still vt s.vital) : Still vt (State.ownWide s c p).vital := by
  unfold State.ownWide
  try dsimp only
  repeat' first
    | with_reducible assumption
    | with_reducible apply Still.ite
    | with_reducible apply State.modRun_still
    | with_reducible apply Still.foldl
    | with_reducible apply Still.foldl1
    | intro _ _ _
    | intro _ _
    | (fail_if_no_progress (with_reducible refine Still.upd ?_ rfl rfl))
    | dsimp only
    | split

theorem execWmatmul_still {vt : Vital} {c : CmdId} {s : State} (hv : Still vt s.vital) {t : State}
    (e : execWmatmul c s = .next t) : Still vt t.vital := by
  cases e
  try dsimp only
  repeat' first
    | with_reducible assumption
    | with_reducible apply Still.ite
    | with_reducible apply State.ownWide_still
    | with_reducible apply State.wmatmul_still
    | with_reducible apply Still.foldl
    | with_reducible apply Still.foldl1
    | intro _ _ _
    | intro _ _
    | (fail_if_no_progress (with_reducible refine Still.upd ?_ rfl rfl))
    | dsimp only
    | split

theorem execWmatmulSpec_still {vt : Vital} {c : CmdId} {s : State} (hv : Still vt s.vital) {t : State}
    (e : execWmatmulSpec c s = .next t) : Still vt t.vital := by
  cases e
  try dsimp only
  repeat' first
    | with_reducible assumption
    | with_reducible apply Still.ite
    | with_reducible apply State.ownWide_still
    | with_reducible apply State.wmatmulSpec_still
    | with_reducible apply Still.foldl
    | with_reducible apply Still.foldl1
    | intro _ _ _
    | intro _ _
    | (fail_if_no_progress (with_reducible refine Still.upd ?_ rfl rfl))
    | dsimp only
    | split

end Sys2Proof.Machine
end

