-- ==== Sys2Proof/Laws/KeepVector.lean ====
section
/-! SUPPORT. What the functions of Machine/Vector.lean leave as it should be (Laws/Vital.lean). -/

namespace Sys2Proof.Machine

set_option linter.unreachableTactic false
set_option linter.unusedTactic false
set_option linter.unusedVariables false

theorem State.runVector_still {vt : Vital} {s : State} {c : Cmd} {p lim : Nat} {xs : List VecShare} (hv : Still vt s.vital) : Still vt (State.runVector s c p lim xs).vital := by
  unfold State.runVector
  try dsimp only
  repeat' first
    | with_reducible assumption
    | with_reducible apply Still.ite
    | with_reducible apply State.applyRuns_still
    | with_reducible apply State.setWide_still
    | with_reducible apply State.wideFault_still
    | with_reducible apply State.wideDone_still
    | with_reducible apply Still.foldl
    | with_reducible apply Still.foldl1
    | intro _ _ _
    | intro _ _
    | (fail_if_no_progress (with_reducible refine Still.upd ?_ rfl rfl))
    | dsimp only
    | split

theorem State.wvector_still {vt : Vital} {s : State} {c : Cmd} {p lim : Nat} (hv : Still vt s.vital) : Still vt (State.wvector s c p lim).vital := by
  unfold State.wvector
  try dsimp only
  repeat' first
    | with_reducible assumption
    | with_reducible apply Still.ite
    | with_reducible apply State.runVector_still
    | with_reducible apply Still.foldl
    | with_reducible apply Still.foldl1
    | intro _ _ _
    | intro _ _
    | (fail_if_no_progress (with_reducible refine Still.upd ?_ rfl rfl))
    | dsimp only
    | split

theorem execWvector_still {vt : Vital} {c : CmdId} {s : State} (hv : Still vt s.vital) {t : State}
    (e : execWvector c s = .next t) : Still vt t.vital := by
  cases e
  try dsimp only
  repeat' first
    | with_reducible assumption
    | with_reducible apply Still.ite
    | with_reducible apply State.ownWide_still
    | with_reducible apply State.wvector_still
    | with_reducible apply Still.foldl
    | with_reducible apply Still.foldl1
    | intro _ _ _
    | intro _ _
    | (fail_if_no_progress (with_reducible refine Still.upd ?_ rfl rfl))
    | dsimp only
    | split

theorem State.wsample_still {vt : Vital} {s : State} {c : Cmd} {p lim : Nat} (hv : Still vt s.vital) : Still vt (State.wsample s c p lim).vital := by
  unfold State.wsample
  try dsimp only
  repeat' first
    | with_reducible assumption
    | with_reducible apply Still.ite
    | with_reducible apply State.runVector_still
    | with_reducible apply Still.foldl
    | with_reducible apply Still.foldl1
    | intro _ _ _
    | intro _ _
    | (fail_if_no_progress (with_reducible refine Still.upd ?_ rfl rfl))
    | dsimp only
    | split

theorem execWsample_still {vt : Vital} {c : CmdId} {s : State} (hv : Still vt s.vital) {t : State}
    (e : execWsample c s = .next t) : Still vt t.vital := by
  cases e
  try dsimp only
  repeat' first
    | with_reducible assumption
    | with_reducible apply Still.ite
    | with_reducible apply State.ownWide_still
    | with_reducible apply State.wsample_still
    | with_reducible apply Still.foldl
    | with_reducible apply Still.foldl1
    | intro _ _ _
    | intro _ _
    | (fail_if_no_progress (with_reducible refine Still.upd ?_ rfl rfl))
    | dsimp only
    | split

theorem State.wconv_still {vt : Vital} {s : State} {c : Cmd} {p lim : Nat} (hv : Still vt s.vital) : Still vt (State.wconv s c p lim).vital := by
  unfold State.wconv
  try dsimp only
  repeat' first
    | with_reducible assumption
    | with_reducible apply Still.ite
    | with_reducible apply State.runVector_still
    | with_reducible apply State.runMatrix_still
    | with_reducible apply Still.foldl
    | with_reducible apply Still.foldl1
    | intro _ _ _
    | intro _ _
    | (fail_if_no_progress (with_reducible refine Still.upd ?_ rfl rfl))
    | dsimp only
    | split

theorem execWconv_still {vt : Vital} {c : CmdId} {s : State} (hv : Still vt s.vital) {t : State}
    (e : execWconv c s = .next t) : Still vt t.vital := by
  cases e
  try dsimp only
  repeat' first
    | with_reducible assumption
    | with_reducible apply Still.ite
    | with_reducible apply State.ownWide_still
    | with_reducible apply State.wconv_still
    | with_reducible apply Still.foldl
    | with_reducible apply Still.foldl1
    | intro _ _ _
    | intro _ _
    | (fail_if_no_progress (with_reducible refine Still.upd ?_ rfl rfl))
    | dsimp only
    | split

end Sys2Proof.Machine
end

