-- ==== Sys2Proof/Laws/KeepBind.lean ====
section
/-! SUPPORT. What the functions of Machine/Bind.lean leave as it should be (Laws/Vital.lean). -/

namespace Sys2Proof.Machine

set_option linter.unreachableTactic false
set_option linter.unusedTactic false
set_option linter.unusedVariables false

theorem State.setSlot_still {vt : Vital} {s : State} {p h : Nat} {v : Slot} (hv : Still vt s.vital) : Still vt (State.setSlot s p h v).vital := by
  unfold State.setSlot
  try dsimp only
  repeat' first
    | with_reducible assumption
    | with_reducible apply Still.ite
    | with_reducible apply State.modPart_still
    | with_reducible apply Still.foldl
    | with_reducible apply Still.foldl1
    | intro _ _ _
    | intro _ _
    | (fail_if_no_progress (with_reducible refine Still.upd ?_ rfl rfl))
    | dsimp only
    | split

theorem State.bindSlot_still {vt : Vital} {s : State} {p h : Nat} (hv : Still vt s.vital) : Still vt (State.bindSlot s p h).vital := by
  unfold State.bindSlot
  try dsimp only
  repeat' first
    | with_reducible assumption
    | with_reducible apply Still.ite
    | with_reducible apply State.setSlot_still
    | with_reducible apply State.put_still
    | with_reducible apply Still.foldl
    | with_reducible apply Still.foldl1
    | intro _ _ _
    | intro _ _
    | (fail_if_no_progress (with_reducible refine Still.upd ?_ rfl rfl))
    | dsimp only
    | split

theorem State.endLoad_still {vt : Vital} {s : State} {p h : Nat} (hv : Still vt s.vital) : Still vt (State.endLoad s p h).vital := by
  unfold State.endLoad
  try dsimp only
  repeat' first
    | with_reducible assumption
    | with_reducible apply Still.ite
    | with_reducible apply State.put_still
    | with_reducible apply State.partEvent_still
    | with_reducible apply Still.foldl
    | with_reducible apply Still.foldl1
    | intro _ _ _
    | intro _ _
    | (fail_if_no_progress (with_reducible refine Still.upd ?_ rfl rfl))
    | dsimp only
    | split

theorem State.loadImage_still {vt : Vital} {s : State} {p h : Nat} (hv : Still vt s.vital) : Still vt (State.loadImage s p h).vital := by
  unfold State.loadImage
  try dsimp only
  repeat' first
    | with_reducible assumption
    | with_reducible apply Still.ite
    | with_reducible apply State.setSlot_still
    | with_reducible apply State.put_still
    | with_reducible apply State.endLoad_still
    | with_reducible apply Still.foldl
    | with_reducible apply Still.foldl1
    | intro _ _ _
    | intro _ _
    | (fail_if_no_progress (with_reducible refine Still.upd ?_ rfl rfl))
    | dsimp only
    | split

theorem State.clearSlot_still {vt : Vital} {s : State} {p h : Nat} (hv : Still vt s.vital) : Still vt (State.clearSlot s p h).vital := by
  unfold State.clearSlot
  try dsimp only
  repeat' first
    | with_reducible assumption
    | with_reducible apply Still.ite
    | with_reducible apply State.setSlot_still
    | with_reducible apply State.put_still
    | with_reducible apply Still.foldl
    | with_reducible apply Still.foldl1
    | intro _ _ _
    | intro _ _
    | (fail_if_no_progress (with_reducible refine Still.upd ?_ rfl rfl))
    | dsimp only
    | split

theorem execProgLoad_still {vt : Vital} {p : Fin 16} {h : Fin 32} {mem : List (Nat × Byte)} {s : State} (hv : Still vt s.vital) {t : State}
    (e : execProgLoad p h mem s = .next t) : Still vt t.vital := by
  cases e
  try dsimp only
  repeat' first
    | with_reducible assumption
    | with_reducible apply Still.ite
    | with_reducible apply State.whenBooted_still
    | with_reducible apply State.ignored_still
    | with_reducible apply State.put_still
    | with_reducible apply State.atNextEdge_still
    | with_reducible apply Still.foldl
    | with_reducible apply Still.foldl1
    | intro _ _ _
    | intro _ _
    | (fail_if_no_progress (with_reducible refine Still.upd ?_ rfl rfl))
    | (fail_if_no_progress (with_reducible refine Still.mems ?_ (Mem.wf_writeCells _) id id rfl))
    | dsimp only
    | split

theorem execProgClear_still {vt : Vital} {p : Fin 16} {h : Fin 32} {s : State} (hv : Still vt s.vital) {t : State}
    (e : execProgClear p h s = .next t) : Still vt t.vital := by
  cases e
  try dsimp only
  repeat' first
    | with_reducible assumption
    | with_reducible apply Still.ite
    | with_reducible apply State.whenBooted_still
    | with_reducible apply State.ignored_still
    | with_reducible apply State.atNextEdge_still
    | with_reducible apply Still.foldl
    | with_reducible apply Still.foldl1
    | intro _ _ _
    | intro _ _
    | (fail_if_no_progress (with_reducible refine Still.upd ?_ rfl rfl))
    | dsimp only
    | split

theorem State.bindStep_still {vt : Vital} {s : State} {p h : Nat} (hv : Still vt s.vital) : Still vt (State.bindStep s p h).vital := by
  unfold State.bindStep
  try dsimp only
  repeat' first
    | with_reducible assumption
    | with_reducible apply Still.ite
    | with_reducible apply State.setSlot_still
    | with_reducible apply State.bindSlot_still
    | with_reducible apply State.endLoad_still
    | with_reducible apply State.modBind_still
    | with_reducible apply State.partEvent_still
    | with_reducible apply Still.foldl
    | with_reducible apply Still.foldl1
    | intro _ _ _
    | intro _ _
    | (fail_if_no_progress (with_reducible refine Still.upd ?_ rfl rfl))
    | dsimp only
    | split

theorem execBind_still {vt : Vital} {p : Fin 16} {h : Fin 32} {s : State} (hv : Still vt s.vital) {t : State}
    (e : execBind p h s = .next t) : Still vt t.vital := by
  cases e
  try dsimp only
  repeat' first
    | with_reducible assumption
    | with_reducible apply Still.ite
    | with_reducible apply State.bindStep_still
    | with_reducible apply Still.foldl
    | with_reducible apply Still.foldl1
    | intro _ _ _
    | intro _ _
    | (fail_if_no_progress (with_reducible refine Still.upd ?_ rfl rfl))
    | dsimp only
    | split

end Sys2Proof.Machine
end

