-- ==== Sys2Proof/Laws/KeepTransfer.lean ====
section
/-! SUPPORT. What the functions of Machine/Transfer.lean leave as it should be (Laws/Vital.lean). -/

namespace Sys2Proof.Machine

set_option linter.unreachableTactic false
set_option linter.unusedTactic false
set_option linter.unusedVariables false

theorem State.doneLinks_still {vt : Vital} {s : State} {c : Cmd} {t : Nat} {l : List (Nat × Nat × Nat)} (hv : Still vt s.vital) : Still vt (State.doneLinks s c t l).vital := by
  unfold State.doneLinks
  try dsimp only
  repeat' first
    | with_reducible assumption
    | with_reducible apply Still.ite
    | with_reducible apply State.done_still
    | with_reducible apply Still.foldl
    | with_reducible apply Still.foldl1
    | intro _ _ _
    | intro _ _
    | (fail_if_no_progress (with_reducible refine Still.upd ?_ rfl rfl))
    | dsimp only
    | split

theorem State.transferFault_keeps {vt : Vital} {s : State} {c : Cmd} {p x status detail : Nat} (hv : Keeps vt s.vital) : Keeps vt (State.transferFault s c p x status detail).vital := by
  unfold State.transferFault
  try dsimp only
  repeat' first
    | with_reducible assumption
    | with_reducible apply Keeps.ite
    | with_reducible apply State.advance_keeps
    | with_reducible apply Keeps.via (State.fault_still (Still.refl _))
    | with_reducible apply Keeps.via (State.mark_still (Still.refl _))
    | with_reducible apply State.chargeAt_keeps
    | with_reducible apply Keeps.foldl
    | with_reducible apply Keeps.foldl1
    | intro _ _ _
    | intro _ _
    | (fail_if_no_progress (with_reducible refine Keeps.upd ?_ rfl rfl))
    | dsimp only
    | split

theorem State.leaveBursts_keeps {vt : Vital} {s : State} {c : Cmd} {p x period a n : Nat} {counts : Bool} (hv : Keeps vt s.vital) : Keeps vt (State.leaveBursts s c p x period a n counts).vital := by
  unfold State.leaveBursts
  try dsimp only
  repeat' first
    | with_reducible assumption
    | with_reducible apply Keeps.ite
    | with_reducible apply State.transferFault_keeps
    | with_reducible apply Keeps.via (State.inc_still (Still.refl _))
    | with_reducible apply Keeps.via (State.mark_still (Still.refl _))
    | with_reducible apply Keeps.foldl
    | with_reducible apply Keeps.foldl1
    | intro _ _ _
    | intro _ _
    | (fail_if_no_progress (with_reducible refine Keeps.upd ?_ rfl rfl))
    | dsimp only
    | split

theorem State.enterBurst_keeps {vt : Vital} {s : State} {c : Cmd} {p i r x a : Nat} {bs : Bytes} (hv : Keeps vt s.vital) : Keeps vt (State.enterBurst s c p i r x a bs).vital := by
  unfold State.enterBurst
  try dsimp only
  repeat' first
    | with_reducible assumption
    | with_reducible apply Keeps.ite
    | with_reducible apply State.transferFault_keeps
    | with_reducible apply Keeps.via (State.inc_still (Still.refl _))
    | with_reducible apply Keeps.foldl
    | with_reducible apply Keeps.foldl1
    | intro _ _ _
    | intro _ _
    | (fail_if_no_progress (with_reducible refine Keeps.upd ?_ rfl rfl))
    | (fail_if_no_progress (with_reducible refine Keeps.mems ?_ id (fun h => timedWrite_wf h) id rfl))
    | dsimp only
    | split

theorem State.enterBursts_keeps {vt : Vital} {s : State} {c : Cmd} {p i r x a : Nat} {bs : Bytes} (hv : Keeps vt s.vital) : Keeps vt (State.enterBursts s c p i r x a bs).vital := by
  unfold State.enterBursts
  try dsimp only
  repeat' first
    | with_reducible assumption
    | with_reducible apply Keeps.ite
    | with_reducible apply State.enterBurst_keeps
    | with_reducible apply Keeps.foldl
    | with_reducible apply Keeps.foldl1
    | intro _ _ _
    | intro _ _
    | (fail_if_no_progress (with_reducible refine Keeps.upd ?_ rfl rfl))
    | dsimp only
    | split

theorem State.linkWord_keeps {vt : Vital} {s : State} {n lane : Nat} {flips : List Nat} {x : Nat} (hv : Keeps vt s.vital) : Keeps vt (State.linkWord s n lane flips x).vital := by
  unfold State.linkWord
  try dsimp only
  repeat' first
    | with_reducible assumption
    | with_reducible apply Keeps.ite
    | with_reducible apply Keeps.via (State.inc_still (Still.refl _))
    | with_reducible apply Keeps.via (State.setLink_still (Still.refl _))
    | with_reducible apply Keeps.via (State.retire_still (Still.refl _))
    | with_reducible apply State.chargeAt_keeps
    | with_reducible apply Keeps.via (State.event_still (Still.refl _))
    | with_reducible apply Keeps.foldl
    | with_reducible apply Keeps.foldl1
    | intro _ _ _
    | intro _ _
    | (fail_if_no_progress (with_reducible refine Keeps.upd ?_ rfl rfl))
    | dsimp only
    | split

theorem State.crossInjected_keeps {vt : Vital} {s : State} {n lane x : Nat} (hv : Keeps vt s.vital) : Keeps vt (State.crossInjected s n lane x).vital := by
  unfold State.crossInjected
  try dsimp only
  repeat' first
    | with_reducible assumption
    | with_reducible apply Keeps.ite
    | with_reducible apply Keeps.via (State.draw_still (Still.refl _))
    | with_reducible apply Keeps.via (State.setLink_still (Still.refl _))
    | with_reducible apply Keeps.via (State.mark_still (Still.refl _))
    | with_reducible apply State.linkWord_keeps
    | with_reducible apply Keeps.foldl
    | with_reducible apply Keeps.foldl1
    | intro _ _ _
    | intro _ _
    | (fail_if_no_progress (with_reducible refine Keeps.upd ?_ rfl rfl))
    | dsimp only
    | split

theorem State.placeRow_keeps {vt : Vital} {s : State} {p lc row wc0 : Nat} {bs : Bytes} {src : Option Nat} {kind x : Nat} (hv : Keeps vt s.vital) : Keeps vt (State.placeRow s p lc row wc0 bs src kind x).vital := by
  unfold State.placeRow
  try dsimp only
  repeat' first
    | with_reducible assumption
    | with_reducible apply Keeps.ite
    | with_reducible apply State.writeS_keeps
    | with_reducible apply State.remoteWrite_keeps
    | with_reducible apply Keeps.foldl
    | with_reducible apply Keeps.foldl1
    | intro _ _ _
    | intro _ _
    | (fail_if_no_progress (with_reducible refine Keeps.upd ?_ rfl rfl))
    | dsimp only
    | split

theorem State.readRow_keeps {vt : Vital} {s : State} {c : Cmd} {p x lc row : Nat} (hv : Keeps vt s.vital) : Keeps vt (State.readRow s c p x lc row).vital := by
  unfold State.readRow
  try dsimp only
  repeat' first
    | with_reducible assumption
    | with_reducible apply Keeps.ite
    | with_reducible apply Keeps.via (State.noteEcc_still (Still.refl _))
    | with_reducible apply State.transferFault_keeps
    | with_reducible apply Keeps.via (State.countEcc_still (Still.refl _))
    | with_reducible apply Keeps.via (State.addUses_still (Still.refl _))
    | with_reducible apply Keeps.foldl
    | with_reducible apply Keeps.foldl1
    | intro _ _ _
    | intro _ _
    | (fail_if_no_progress (with_reducible refine Keeps.upd ?_ rfl rfl))
    | dsimp only
    | split

theorem State.placeEvent_keeps {vt : Vital} {s : State} {c : Cmd} {p : Nat} {u : Event} {e : PlanEntry} {b : Bound} {j : Nat} (hv : Keeps vt s.vital) : Keeps vt (State.placeEvent s c p u e b j).vital := by
  unfold State.placeEvent
  try dsimp only
  repeat' first
    | with_reducible assumption
    | with_reducible apply Keeps.ite
    | with_reducible apply State.placeRow_keeps
    | with_reducible apply Keeps.via (State.setFlag_still (Still.refl _))
    | with_reducible apply Keeps.foldl
    | with_reducible apply Keeps.foldl1
    | intro _ _ _
    | intro _ _
    | (fail_if_no_progress (with_reducible refine Keeps.upd ?_ rfl rfl))
    | dsimp only
    | split

theorem State.frameEvent_still {vt : Vital} {s : State} {c : Cmd} {p i : Nat} {e : PlanEntry} {b : Bound} {f : Nat} (hv : Still vt s.vital) : Still vt (State.frameEvent s c p i e b f).vital := by
  unfold State.frameEvent
  try dsimp only
  repeat' first
    | with_reducible assumption
    | with_reducible apply Still.ite
    | with_reducible apply State.sendFrame_still
    | with_reducible apply Still.foldl
    | with_reducible apply Still.foldl1
    | intro _ _ _
    | intro _ _
    | (fail_if_no_progress (with_reducible refine Still.upd ?_ rfl rfl))
    | dsimp only
    | split

theorem State.happen_keeps {vt : Vital} {s : State} {c : Cmd} {p : Nat} {u : Event} (hv : Keeps vt s.vital) : Keeps vt (State.happen s c p u).vital := by
  unfold State.happen
  try dsimp only
  repeat' first
    | with_reducible assumption
    | with_reducible apply Keeps.ite
    | with_reducible apply State.readRow_keeps
    | with_reducible apply State.leaveBursts_keeps
    | with_reducible apply State.placeEvent_keeps
    | with_reducible apply State.enterBursts_keeps
    | with_reducible apply Keeps.via (State.frameEvent_still (Still.refl _))
    | with_reducible apply State.crossInjected_keeps
    | with_reducible apply Keeps.foldl
    | with_reducible apply Keeps.foldl1
    | intro _ _ _
    | intro _ _
    | (fail_if_no_progress (with_reducible refine Keeps.upd ?_ rfl rfl))
    | dsimp only
    | split

theorem State.happenAll_keeps {vt : Vital} {s : State} {c : Cmd} {p : Nat} {us : List Event} (hv : Keeps vt s.vital) : Keeps vt (State.happenAll s c p us).vital := by
  unfold State.happenAll
  try dsimp only
  repeat' first
    | with_reducible assumption
    | with_reducible apply Keeps.ite
    | with_reducible apply State.happen_keeps
    | with_reducible apply Keeps.foldl
    | with_reducible apply Keeps.foldl1
    | intro _ _ _
    | intro _ _
    | (fail_if_no_progress (with_reducible refine Keeps.upd ?_ rfl rfl))
    | dsimp only
    | split

theorem State.setUpto_still {vt : Vital} {s : State} {c : Cmd} {x : Nat} (hv : Still vt s.vital) : Still vt (State.setUpto s c x).vital := by
  unfold State.setUpto
  try dsimp only
  repeat' first
    | with_reducible assumption
    | with_reducible apply Still.ite
    | with_reducible apply State.setCmd_still
    | with_reducible apply Still.foldl
    | with_reducible apply Still.foldl1
    | intro _ _ _
    | intro _ _
    | (fail_if_no_progress (with_reducible refine Still.upd ?_ rfl rfl))
    | dsimp only
    | split

theorem State.runPlan_keeps {vt : Vital} {s : State} {c : Cmd} {p first n lim : Nat} (hv : Keeps vt s.vital) : Keeps vt (State.runPlan s c p first n lim).1.vital := by
  unfold State.runPlan
  try dsimp only
  repeat' first
    | with_reducible assumption
    | with_reducible apply Keeps.ite
    | with_reducible apply State.happenAll_keeps
    | with_reducible apply Keeps.via (State.setUpto_still (Still.refl _))
    | with_reducible apply Keeps.foldl
    | with_reducible apply Keeps.foldl1
    | intro _ _ _
    | intro _ _
    | (fail_if_no_progress (with_reducible refine Keeps.upd ?_ rfl rfl))
    | dsimp only
    | split

end Sys2Proof.Machine
end

