-- ==== Sys2Proof/Laws/KeepStream.lean ====
section
/-! SUPPORT. What the functions of Machine/Stream.lean leave as it should be (Laws/Vital.lean). -/

namespace Sys2Proof.Machine

set_option linter.unreachableTactic false
set_option linter.unusedTactic false
set_option linter.unusedVariables false

theorem State.setStream_still {vt : Vital} {s : State} {p : Nat} {st : Stream} (hv : Still vt s.vital) : Still vt (State.setStream s p st).vital := by
  unfold State.setStream
  try dsimp only
  repeat' first
    | with_reducible assumption
    | with_reducible apply Still.ite
    | with_reducible apply State.modStrm_still
    | with_reducible apply Still.foldl
    | with_reducible apply Still.foldl1
    | intro _ _ _
    | intro _ _
    | (fail_if_no_progress (with_reducible refine Still.upd ?_ rfl rfl))
    | dsimp only
    | split

theorem State.addStream_still {vt : Vital} {s : State} {p : Nat} {st : Stream} (hv : Still vt s.vital) : Still vt (State.addStream s p st).vital := by
  unfold State.addStream
  try dsimp only
  repeat' first
    | with_reducible assumption
    | with_reducible apply Still.ite
    | with_reducible apply State.modStrm_still
    | with_reducible apply Still.foldl
    | with_reducible apply Still.foldl1
    | intro _ _ _
    | intro _ _
    | (fail_if_no_progress (with_reducible refine Still.upd ?_ rfl rfl))
    | dsimp only
    | split

theorem State.sendRequests_still {vt : Vital} {s : State} {p : Nat} {st : Stream} (hv : Still vt s.vital) : Still vt (State.sendRequests s p st).vital := by
  unfold State.sendRequests
  try dsimp only
  repeat' first
    | with_reducible assumption
    | with_reducible apply Still.ite
    | with_reducible apply State.sendWords_still
    | with_reducible apply Still.foldl
    | with_reducible apply Still.foldl1
    | intro _ _ _
    | intro _ _
    | (fail_if_no_progress (with_reducible refine Still.upd ?_ rfl rfl))
    | dsimp only
    | split

theorem State.digestFail_still {vt : Vital} {s : State} {c : Cmd} {_p id cause : Nat} (hv : Still vt s.vital) : Still vt (State.digestFail s c _p id cause).vital := by
  unfold State.digestFail
  try dsimp only
  repeat' first
    | with_reducible assumption
    | with_reducible apply Still.ite
    | with_reducible apply State.fault_still
    | with_reducible apply Still.foldl
    | with_reducible apply Still.foldl1
    | intro _ _ _
    | intro _ _
    | (fail_if_no_progress (with_reducible refine Still.upd ?_ rfl rfl))
    | dsimp only
    | split

theorem State.settleRing_still {vt : Vital} {s : State} {p : Nat} {c : Cmd} {x : Nat} (hv : Still vt s.vital) : Still vt (State.settleRing s p c x).vital := by
  unfold State.settleRing
  try dsimp only
  repeat' first
    | with_reducible assumption
    | with_reducible apply Still.ite
    | with_reducible apply State.modStrm_still
    | with_reducible apply Still.foldl
    | with_reducible apply Still.foldl1
    | intro _ _ _
    | intro _ _
    | (fail_if_no_progress (with_reducible refine Still.upd ?_ rfl rfl))
    | dsimp only
    | split

theorem State.countPrune_still {vt : Vital} {s : State} {p lc : Nat} {h : Shard} {q : Piece} (hv : Still vt s.vital) : Still vt (State.countPrune s p lc h q).vital := by
  unfold State.countPrune
  try dsimp only
  repeat' first
    | with_reducible assumption
    | with_reducible apply Still.ite
    | with_reducible apply State.inc_still
    | with_reducible apply Still.foldl
    | with_reducible apply Still.foldl1
    | intro _ _ _
    | intro _ _
    | (fail_if_no_progress (with_reducible refine Still.upd ?_ rfl rfl))
    | dsimp only
    | split

theorem State.writePiece_keeps {vt : Vital} {s : State} {c : Cmd} {p lc : Nat} {h : Shard} {q : Piece} {x : Nat} (hv : Keeps vt s.vital) : Keeps vt (State.writePiece s c p lc h q x).vital := by
  unfold State.writePiece
  try dsimp only
  repeat' first
    | with_reducible assumption
    | with_reducible apply Keeps.ite
    | with_reducible apply Keeps.via (State.inc_still (Still.refl _))
    | with_reducible apply State.advance_keeps
    | with_reducible apply Keeps.via (State.fault_still (Still.refl _))
    | with_reducible apply State.remoteWrite_keeps
    | with_reducible apply Keeps.via (State.countPrune_still (Still.refl _))
    | with_reducible apply Keeps.foldl
    | with_reducible apply Keeps.foldl1
    | intro _ _ _
    | intro _ _
    | (fail_if_no_progress (with_reducible refine Keeps.upd ?_ rfl rfl))
    | dsimp only
    | split

theorem State.pieceCycle_keeps {vt : Vital} {s : State} {c : Cmd} {p stop x : Nat} {ws : List (Nat × Nat × Shard × Piece)} (hv : Keeps vt s.vital) : Keeps vt (State.pieceCycle s c p stop x ws).1.vital := by
  unfold State.pieceCycle
  try dsimp only
  repeat' first
    | with_reducible assumption
    | with_reducible apply Keeps.ite
    | with_reducible apply State.writePiece_keeps
    | with_reducible apply Keeps.via (State.settleRing_still (Still.refl _))
    | with_reducible apply Keeps.foldl
    | with_reducible apply Keeps.foldl1
    | intro _ _ _
    | intro _ _
    | (fail_if_no_progress (with_reducible refine Keeps.upd ?_ rfl rfl))
    | dsimp only
    | split

theorem State.runPieces_keeps {vt : Vital} {s : State} {c : Cmd} {p lim : Nat} (hv : Keeps vt s.vital) : Keeps vt (State.runPieces s c p lim).vital := by
  unfold State.runPieces
  try dsimp only
  repeat' first
    | with_reducible assumption
    | with_reducible apply Keeps.ite
    | with_reducible apply State.pieceCycle_keeps
    | with_reducible apply Keeps.via (State.setUpto_still (Still.refl _))
    | with_reducible apply Keeps.foldl
    | with_reducible apply Keeps.foldl1
    | intro _ _ _
    | intro _ _
    | (fail_if_no_progress (with_reducible refine Keeps.upd ?_ rfl rfl))
    | dsimp only
    | split

theorem State.putShard_still {vt : Vital} {s : State} {c : Cmd} {p k : Nat} {h : Shard} (hv : Still vt s.vital) : Still vt (State.putShard s c p k h).vital := by
  unfold State.putShard
  try dsimp only
  repeat' first
    | with_reducible assumption
    | with_reducible apply Still.ite
    | with_reducible apply State.setStream_still
    | with_reducible apply Still.foldl
    | with_reducible apply Still.foldl1
    | intro _ _ _
    | intro _ _
    | (fail_if_no_progress (with_reducible refine Still.upd ?_ rfl rfl))
    | dsimp only
    | split

theorem State.addBytes_still {vt : Vital} {s : State} {c : Cmd} {p n : Nat} (hv : Still vt s.vital) : Still vt (State.addBytes s c p n).vital := by
  unfold State.addBytes
  try dsimp only
  repeat' first
    | with_reducible assumption
    | with_reducible apply Still.ite
    | with_reducible apply State.setPred_still
    | with_reducible apply Still.foldl
    | with_reducible apply Still.foldl1
    | intro _ _ _
    | intro _ _
    | (fail_if_no_progress (with_reducible refine Still.upd ?_ rfl rfl))
    | dsimp only
    | split

theorem State.readRound_keeps {vt : Vital} {s : State} {c : Cmd} {p lim k q : Nat} (hv : Keeps vt s.vital) : Keeps vt (State.readRound s c p lim k q).vital := by
  unfold State.readRound
  try dsimp only
  repeat' first
    | with_reducible assumption
    | with_reducible apply Keeps.ite
    | with_reducible apply State.leaveBursts_keeps
    | with_reducible apply Keeps.via (State.putShard_still (Still.refl _))
    | with_reducible apply Keeps.via (State.addBytes_still (Still.refl _))
    | with_reducible apply Keeps.foldl
    | with_reducible apply Keeps.foldl1
    | intro _ _ _
    | intro _ _
    | (fail_if_no_progress (with_reducible refine Keeps.upd ?_ rfl rfl))
    | dsimp only
    | split

theorem State.readStacks_keeps {vt : Vital} {s : State} {c : Cmd} {p lim : Nat} (hv : Keeps vt s.vital) : Keeps vt (State.readStacks s c p lim).vital := by
  unfold State.readStacks
  try dsimp only
  repeat' first
    | with_reducible assumption
    | with_reducible apply Keeps.ite
    | with_reducible apply State.readRound_keeps
    | with_reducible apply Keeps.foldl
    | with_reducible apply Keeps.foldl1
    | intro _ _ _
    | intro _ _
    | (fail_if_no_progress (with_reducible refine Keeps.upd ?_ rfl rfl))
    | dsimp only
    | split

theorem State.headFault_still {vt : Vital} {s : State} {c : Cmd} {p : Nat} {h : Shard} {t : State} (e : State.headFault s c p h = some t)
    (hv : Still vt s.vital) : Still vt t.vital := by
  unfold State.headFault at e
  repeat' split at e
  all_goals cases e
  all_goals
  repeat' first
    | with_reducible assumption
    | with_reducible apply Still.ite
    | with_reducible apply State.digestFail_still
    | with_reducible apply State.fault_still
    | with_reducible apply Still.foldl
    | with_reducible apply Still.foldl1
    | intro _ _ _
    | intro _ _
    | (fail_if_no_progress (with_reducible refine Still.upd ?_ rfl rfl))
    | dsimp only
    | split

theorem State.settleShard_still {vt : Vital} {s : State} {c : Cmd} {p k : Nat} (hv : Still vt s.vital) : Still vt (State.settleShard s c p k).vital := by
  unfold State.settleShard
  try dsimp only
  repeat' first
    | with_reducible assumption
    | with_reducible apply Still.ite
    | with_reducible apply State.headFault_still (by assumption)
    | with_reducible apply State.setStream_still
    | with_reducible apply Still.foldl
    | with_reducible apply Still.foldl1
    | intro _ _ _
    | intro _ _
    | (fail_if_no_progress (with_reducible refine Still.upd ?_ rfl rfl))
    | dsimp only
    | split
    | (rename_i e; replace e := (Option.ite_none_right_eq_some.1 e).2)

theorem State.runEnters_keeps {vt : Vital} {s : State} {c : Cmd} {p lim : Nat} (hv : Keeps vt s.vital) : Keeps vt (State.runEnters s c p lim).vital := by
  unfold State.runEnters
  try dsimp only
  repeat' first
    | with_reducible assumption
    | with_reducible apply Keeps.ite
    | with_reducible apply State.enterBursts_keeps
    | with_reducible apply Keeps.via (State.setUpto_still (Still.refl _))
    | with_reducible apply Keeps.foldl
    | with_reducible apply Keeps.foldl1
    | intro _ _ _
    | intro _ _
    | (fail_if_no_progress (with_reducible refine Keeps.upd ?_ rfl rfl))
    | dsimp only
    | split

theorem State.markDelivered_still {vt : Vital} {s : State} {c : Cmd} {p : Nat} (hv : Still vt s.vital) : Still vt (State.markDelivered s c p).vital := by
  unfold State.markDelivered
  try dsimp only
  repeat' first
    | with_reducible assumption
    | with_reducible apply Still.ite
    | with_reducible apply State.setStream_still
    | with_reducible apply State.modStrm_still
    | with_reducible apply Still.foldl
    | with_reducible apply Still.foldl1
    | intro _ _ _
    | intro _ _
    | (fail_if_no_progress (with_reducible refine Still.upd ?_ rfl rfl))
    | dsimp only
    | split

theorem State.writeShadow_still {vt : Vital} {s : State} {p e v : Nat} (hv : Still vt s.vital) : Still vt (State.writeShadow s p e v).vital := by
  unfold State.writeShadow
  try dsimp only
  repeat' first
    | with_reducible assumption
    | with_reducible apply Still.ite
    | with_reducible apply State.event_still
    | with_reducible apply Still.foldl
    | with_reducible apply Still.foldl1
    | intro _ _ _
    | intro _ _
    | (fail_if_no_progress (with_reducible refine Still.upd ?_ rfl rfl))
    | dsimp only
    | split

theorem State.writeResidents_still {vt : Vital} {s : State} {p : Nat} {q : ResideP} {st : Stream} (hv : Still vt s.vital) : Still vt (State.writeResidents s p q st).vital := by
  unfold State.writeResidents
  try dsimp only
  repeat' first
    | with_reducible assumption
    | with_reducible apply Still.ite
    | with_reducible apply State.writeShadow_still
    | with_reducible apply Still.foldl
    | with_reducible apply Still.foldl1
    | intro _ _ _
    | intro _ _
    | (fail_if_no_progress (with_reducible refine Still.upd ?_ rfl rfl))
    | (fail_if_no_progress (with_reducible refine Still.mems ?_ id (Mem.wf_write _ _) id rfl))
    | dsimp only
    | split

theorem State.streamDone_still {vt : Vital} {s : State} {c : Cmd} {p : Nat} (hv : Still vt s.vital) : Still vt (State.streamDone s c p).vital := by
  unfold State.streamDone
  try dsimp only
  repeat' first
    | with_reducible assumption
    | with_reducible apply Still.ite
    | with_reducible apply State.writeResidents_still
    | with_reducible apply State.modStrm_still
    | with_reducible apply State.doneLinks_still
    | with_reducible apply Still.foldl
    | with_reducible apply Still.foldl1
    | intro _ _ _
    | intro _ _
    | (fail_if_no_progress (with_reducible refine Still.upd ?_ rfl rfl))
    | dsimp only
    | split

theorem State.recheck_still {vt : Vital} {s : State} {c : Cmd} {p : Nat} (hv : Still vt s.vital) : Still vt (State.recheck s c p).vital := by
  unfold State.recheck
  try dsimp only
  repeat' first
    | with_reducible assumption
    | with_reducible apply Still.ite
    | with_reducible apply State.digestFail_still
    | with_reducible apply Still.foldl
    | with_reducible apply Still.foldl1
    | intro _ _ _
    | intro _ _
    | (fail_if_no_progress (with_reducible refine Still.upd ?_ rfl rfl))
    | dsimp only
    | split

theorem State.pumpTo_keeps {vt : Vital} {s : State} {c : Cmd} {p lim : Nat} (hv : Keeps vt s.vital) : Keeps vt (State.pumpTo s c p lim).vital := by
  unfold State.pumpTo
  try dsimp only
  repeat' first
    | with_reducible assumption
    | with_reducible apply Keeps.ite
    | with_reducible apply State.readStacks_keeps
    | with_reducible apply Keeps.via (State.recheck_still (Still.refl _))
    | with_reducible apply Keeps.via (State.settleShard_still (Still.refl _))
    | with_reducible apply State.runEnters_keeps
    | with_reducible apply State.runPieces_keeps
    | with_reducible apply Keeps.via (State.markDelivered_still (Still.refl _))
    | with_reducible apply Keeps.via (State.streamDone_still (Still.refl _))
    | with_reducible apply Keeps.foldl
    | with_reducible apply Keeps.foldl1
    | intro _ _ _
    | intro _ _
    | (fail_if_no_progress (with_reducible refine Keeps.upd ?_ rfl rfl))
    | dsimp only
    | split

theorem State.pump_keeps {vt : Vital} {s : State} {c : Cmd} {p : Nat} (hv : Keeps vt s.vital) : Keeps vt (State.pump s c p).vital := by
  unfold State.pump
  try dsimp only
  repeat' first
    | with_reducible assumption
    | with_reducible apply Keeps.ite
    | with_reducible apply State.pumpTo_keeps
    | with_reducible apply Keeps.foldl
    | with_reducible apply Keeps.foldl1
    | intro _ _ _
    | intro _ _
    | (fail_if_no_progress (with_reducible refine Keeps.upd ?_ rfl rfl))
    | dsimp only
    | split

theorem State.streamStep_keeps {vt : Vital} {s : State} {c : Cmd} {p lim : Nat} (hv : Keeps vt s.vital) : Keeps vt (State.streamStep s c p lim).vital := by
  unfold State.streamStep
  try dsimp only
  repeat' first
    | with_reducible assumption
    | with_reducible apply Keeps.ite
    | with_reducible apply Keeps.via (State.sendRequests_still (Still.refl _))
    | with_reducible apply Keeps.via (State.setStream_still (Still.refl _))
    | with_reducible apply State.pumpTo_keeps
    | with_reducible apply Keeps.foldl
    | with_reducible apply Keeps.foldl1
    | intro _ _ _
    | intro _ _
    | (fail_if_no_progress (with_reducible refine Keeps.upd ?_ rfl rfl))
    | dsimp only
    | split

theorem execStreamLoad_keeps {vt : Vital} {c : CmdId} {s : State} (hv : Keeps vt s.vital) {t : State}
    (e : execStreamLoad c s = .next t) : Keeps vt t.vital := by
  cases e
  try dsimp only
  repeat' first
    | with_reducible assumption
    | with_reducible apply Keeps.ite
    | with_reducible apply State.streamStep_keeps
    | with_reducible apply Keeps.foldl
    | with_reducible apply Keeps.foldl1
    | intro _ _ _
    | intro _ _
    | (fail_if_no_progress (with_reducible refine Keeps.upd ?_ rfl rfl))
    | dsimp only
    | split

theorem execStreamSpec_keeps {vt : Vital} {c : CmdId} {s : State} (hv : Keeps vt s.vital) {t : State}
    (e : execStreamSpec c s = .next t) : Keeps vt t.vital := by
  cases e
  try dsimp only
  repeat' first
    | with_reducible assumption
    | with_reducible apply Keeps.ite
    | with_reducible apply State.streamStep_keeps
    | with_reducible apply Keeps.foldl
    | with_reducible apply Keeps.foldl1
    | intro _ _ _
    | intro _ _
    | (fail_if_no_progress (with_reducible refine Keeps.upd ?_ rfl rfl))
    | dsimp only
    | split

theorem execPruneLoad_keeps {vt : Vital} {c : CmdId} {s : State} (hv : Keeps vt s.vital) {t : State}
    (e : execPruneLoad c s = .next t) : Keeps vt t.vital := by
  cases e
  try dsimp only
  repeat' first
    | with_reducible assumption
    | with_reducible apply Keeps.ite
    | with_reducible apply State.streamStep_keeps
    | with_reducible apply Keeps.foldl
    | with_reducible apply Keeps.foldl1
    | intro _ _ _
    | intro _ _
    | (fail_if_no_progress (with_reducible refine Keeps.upd ?_ rfl rfl))
    | dsimp only
    | split

theorem State.resideStep_keeps {vt : Vital} {s : State} {d : Cmd} {p lim : Nat} (hv : Keeps vt s.vital) : Keeps vt (State.resideStep s d p lim).vital := by
  unfold State.resideStep
  try dsimp only
  repeat' first
    | with_reducible assumption
    | with_reducible apply Keeps.ite
    | with_reducible apply Keeps.via (State.modStrm_still (Still.refl _))
    | with_reducible apply Keeps.via (State.done_still (Still.refl _))
    | with_reducible apply Keeps.via (State.sendRequests_still (Still.refl _))
    | with_reducible apply Keeps.via (State.setStream_still (Still.refl _))
    | with_reducible apply State.pumpTo_keeps
    | with_reducible apply Keeps.foldl
    | with_reducible apply Keeps.foldl1
    | intro _ _ _
    | intro _ _
    | (fail_if_no_progress (with_reducible refine Keeps.upd ?_ rfl rfl))
    | dsimp only
    | split

theorem execReside_keeps {vt : Vital} {c : CmdId} {s : State} (hv : Keeps vt s.vital) {t : State}
    (e : execReside c s = .next t) : Keeps vt t.vital := by
  cases e
  try dsimp only
  repeat' first
    | with_reducible assumption
    | with_reducible apply Keeps.ite
    | with_reducible apply State.resideStep_keeps
    | with_reducible apply Keeps.foldl
    | with_reducible apply Keeps.foldl1
    | intro _ _ _
    | intro _ _
    | (fail_if_no_progress (with_reducible refine Keeps.upd ?_ rfl rfl))
    | dsimp only
    | split

theorem State.absentRow_still {vt : Vital} {s : State} {c : Cmd} {id j : Nat} (hv : Still vt s.vital) : Still vt (State.absentRow s c id j).vital := by
  unfold State.absentRow
  try dsimp only
  repeat' first
    | with_reducible assumption
    | with_reducible apply Still.ite
    | with_reducible apply State.fault_still
    | with_reducible apply Still.foldl
    | with_reducible apply Still.foldl1
    | intro _ _ _
    | intro _ _
    | (fail_if_no_progress (with_reducible refine Still.upd ?_ rfl rfl))
    | dsimp only
    | split

theorem State.shardWord_still {vt : Vital} {s : State} {n p : Nat} {w : Bytes} (hv : Still vt s.vital) : Still vt (State.shardWord s n p w).vital := by
  unfold State.shardWord
  try dsimp only
  repeat' first
    | with_reducible assumption
    | with_reducible apply Still.ite
    | with_reducible apply State.modStrm_still
    | with_reducible apply State.setStream_still
    | with_reducible apply State.addBytes_still
    | with_reducible apply State.headFault_still (by assumption)
    | with_reducible apply State.absentRow_still
    | with_reducible apply State.digestFail_still
    | with_reducible apply State.fault_still
    | with_reducible apply Still.foldl
    | with_reducible apply Still.foldl1
    | intro _ _ _
    | intro _ _
    | (fail_if_no_progress (with_reducible refine Still.upd ?_ rfl rfl))
    | dsimp only
    | split
    | (rename_i e; replace e := (Option.ite_none_right_eq_some.1 e).2)

theorem execShardData_keeps {vt : Vital} {n : Fin 64} {w : WslFrame} {s : State} (hv : Keeps vt s.vital) {t : State}
    (e : execShardData n w s = .next t) : Keeps vt t.vital := by
  cases e
  try dsimp only
  repeat' first
    | with_reducible assumption
    | with_reducible apply Keeps.ite
    | with_reducible apply Keeps.via (State.linkCheck_still (Still.refl _))
    | with_reducible apply Keeps.via (State.shardWord_still (Still.refl _))
    | with_reducible apply State.pump_keeps
    | with_reducible apply Keeps.foldl
    | with_reducible apply Keeps.foldl1
    | intro _ _ _
    | intro _ _
    | (fail_if_no_progress (with_reducible refine Keeps.upd ?_ rfl rfl))
    | dsimp only
    | split

theorem State.verdict_keeps {vt : Vital} {s : State} {c : Cmd} {p k : Nat} (hv : Keeps vt s.vital) : Keeps vt (State.verdict s c p k).vital := by
  unfold State.verdict
  try dsimp only
  repeat' first
    | with_reducible assumption
    | with_reducible apply Keeps.ite
    | with_reducible apply State.pump_keeps
    | with_reducible apply Keeps.via (State.digestFail_still (Still.refl _))
    | with_reducible apply Keeps.via (State.journalInput_still (Still.refl _))
    | with_reducible apply Keeps.via (State.setStream_still (Still.refl _))
    | with_reducible apply Keeps.via (State.settleRing_still (Still.refl _))
    | with_reducible apply Keeps.foldl
    | with_reducible apply Keeps.foldl1
    | intro _ _ _
    | intro _ _
    | (fail_if_no_progress (with_reducible refine Keeps.upd ?_ rfl rfl))
    | dsimp only
    | split

theorem execVerdict_keeps {vt : Vital} {c : CmdId} {k : Nat} {s : State} (hv : Keeps vt s.vital) {t : State}
    (e : execVerdict c k s = .next t) : Keeps vt t.vital := by
  cases e
  try dsimp only
  repeat' first
    | with_reducible assumption
    | with_reducible apply Keeps.ite
    | with_reducible apply State.verdict_keeps
    | with_reducible apply Keeps.foldl
    | with_reducible apply Keeps.foldl1
    | intro _ _ _
    | intro _ _
    | (fail_if_no_progress (with_reducible refine Keeps.upd ?_ rfl rfl))
    | dsimp only
    | split

end Sys2Proof.Machine
end

