-- ==== Sys2Proof/Laws/KeepResident.lean ====
section
/-! SUPPORT. What the functions of Machine/Resident.lean leave as it should be (Laws/Vital.lean). -/

namespace Sys2Proof.Machine

set_option linter.unreachableTactic false
set_option linter.unusedTactic false
set_option linter.unusedVariables false

theorem State.evict_still {vt : Vital} {s : State} {c : Cmd} {p : Nat} (hv : Still vt s.vital) : Still vt (State.evict s c p).vital := by
  unfold State.evict
  try dsimp only
  repeat' first
    | with_reducible assumption
    | with_reducible apply Still.ite
    | with_reducible apply State.writeShadow_still
    | with_reducible apply State.modStrm_still
    | with_reducible apply State.done_still
    | with_reducible apply Still.foldl
    | with_reducible apply Still.foldl1
    | intro _ _ _
    | intro _ _
    | (fail_if_no_progress (with_reducible refine Still.upd ?_ rfl rfl))
    | dsimp only
    | split

theorem execEvict_still {vt : Vital} {c : CmdId} {s : State} (hv : Still vt s.vital) {t : State}
    (e : execEvict c s = .next t) : Still vt t.vital := by
  cases e
  try dsimp only
  repeat' first
    | with_reducible assumption
    | with_reducible apply Still.ite
    | with_reducible apply State.evict_still
    | with_reducible apply Still.foldl
    | with_reducible apply Still.foldl1
    | intro _ _ _
    | intro _ _
    | (fail_if_no_progress (with_reducible refine Still.upd ?_ rfl rfl))
    | dsimp only
    | split

theorem execSlotFree_still {vt : Vital} {p : Fin 16} {s : State} (hv : Still vt s.vital) {t : State}
    (e : execSlotFree p s = .next t) : Still vt t.vital := by
  cases e
  try dsimp only
  repeat' first
    | with_reducible assumption
    | with_reducible apply Still.ite
    | with_reducible apply State.modStrm_still
    | with_reducible apply Still.foldl
    | with_reducible apply Still.foldl1
    | intro _ _ _
    | intro _ _
    | (fail_if_no_progress (with_reducible refine Still.upd ?_ rfl rfl))
    | dsimp only
    | split

theorem State.exchangeErt_still {vt : Vital} {s : State} {p queue seq : Nat} (hv : Still vt s.vital) : Still vt (State.exchangeErt s p queue seq).vital := by
  unfold State.exchangeErt
  try dsimp only
  repeat' first
    | with_reducible assumption
    | with_reducible apply Still.ite
    | with_reducible apply State.put_still
    | with_reducible apply State.modStrm_still
    | with_reducible apply State.journalSwitch_still
    | with_reducible apply Still.foldl
    | with_reducible apply Still.foldl1
    | intro _ _ _
    | intro _ _
    | (fail_if_no_progress (with_reducible refine Still.upd ?_ rfl rfl))
    | dsimp only
    | split

theorem execSwapModel_still {vt : Vital} {c : CmdId} {s : State} (hv : Still vt s.vital) {t : State}
    (e : execSwapModel c s = .next t) : Still vt t.vital := by
  cases e
  try dsimp only
  repeat' first
    | with_reducible assumption
    | with_reducible apply Still.ite
    | with_reducible apply State.modStrm_still
    | with_reducible apply State.put_still
    | with_reducible apply State.done_still
    | with_reducible apply Still.foldl
    | with_reducible apply Still.foldl1
    | intro _ _ _
    | intro _ _
    | (fail_if_no_progress (with_reducible refine Still.upd ?_ rfl rfl))
    | dsimp only
    | split

theorem State.modelSwitch_still {vt : Vital} {s : State} {p : Nat} (hv : Still vt s.vital) : Still vt (State.modelSwitch s p).vital := by
  unfold State.modelSwitch
  try dsimp only
  repeat' first
    | with_reducible assumption
    | with_reducible apply Still.ite
    | with_reducible apply State.modStrm_still
    | with_reducible apply State.put_still
    | with_reducible apply State.journalSwitch_still
    | with_reducible apply State.exchangeErt_still
    | with_reducible apply State.setEvent_still
    | with_reducible apply State.partEvent_still
    | with_reducible apply Still.foldl
    | with_reducible apply Still.foldl1
    | intro _ _ _
    | intro _ _
    | (fail_if_no_progress (with_reducible refine Still.upd ?_ rfl rfl))
    | dsimp only
    | split

theorem execModelSwitch_still {vt : Vital} {p : Fin 16} {s : State} (hv : Still vt s.vital) {t : State}
    (e : execModelSwitch p s = .next t) : Still vt t.vital := by
  cases e
  try dsimp only
  repeat' first
    | with_reducible assumption
    | with_reducible apply Still.ite
    | with_reducible apply State.modelSwitch_still
    | with_reducible apply Still.foldl
    | with_reducible apply Still.foldl1
    | intro _ _ _
    | intro _ _
    | (fail_if_no_progress (with_reducible refine Still.upd ?_ rfl rfl))
    | dsimp only
    | split

theorem State.sendWriteback_still {vt : Vital} {s : State} {c : Cmd} {p : Nat} {e : PlanEntry} (hv : Still vt s.vital) : Still vt (State.sendWriteback s c p e).vital := by
  unfold State.sendWriteback
  try dsimp only
  repeat' first
    | with_reducible assumption
    | with_reducible apply Still.ite
    | with_reducible apply State.modPart_still
    | with_reducible apply State.sendWords_still
    | with_reducible apply State.doneLinks_still
    | with_reducible apply Still.foldl
    | with_reducible apply Still.foldl1
    | intro _ _ _
    | intro _ _
    | (fail_if_no_progress (with_reducible refine Still.upd ?_ rfl rfl))
    | dsimp only
    | split

theorem State.writeback_keeps {vt : Vital} {s : State} {c : Cmd} {p lim : Nat} (hv : Keeps vt s.vital) : Keeps vt (State.writeback s c p lim).vital := by
  unfold State.writeback
  try dsimp only
  repeat' first
    | with_reducible assumption
    | with_reducible apply Keeps.ite
    | with_reducible apply State.readRow_keeps
    | with_reducible apply Keeps.via (State.setUpto_still (Still.refl _))
    | with_reducible apply Keeps.via (State.sendWriteback_still (Still.refl _))
    | with_reducible apply Keeps.foldl
    | with_reducible apply Keeps.foldl1
    | intro _ _ _
    | intro _ _
    | (fail_if_no_progress (with_reducible refine Keeps.upd ?_ rfl rfl))
    | dsimp only
    | split

theorem execWriteback_keeps {vt : Vital} {c : CmdId} {s : State} (hv : Keeps vt s.vital) {t : State}
    (e : execWriteback c s = .next t) : Keeps vt t.vital := by
  cases e
  try dsimp only
  repeat' first
    | with_reducible assumption
    | with_reducible apply Keeps.ite
    | with_reducible apply State.writeback_keeps
    | with_reducible apply Keeps.foldl
    | with_reducible apply Keeps.foldl1
    | intro _ _ _
    | intro _ _
    | (fail_if_no_progress (with_reducible refine Keeps.upd ?_ rfl rfl))
    | dsimp only
    | split

end Sys2Proof.Machine
end

