-- ==== Sys2Proof/Laws/KeepErt.lean ====
section
/-! SUPPORT. What the functions of Machine/Ert.lean leave as it should be (Laws/Vital.lean). -/

namespace Sys2Proof.Machine

set_option linter.unreachableTactic false
set_option linter.unusedTactic false
set_option linter.unusedVariables false

theorem State.windowWrite_still {vt : Vital} {s : State} {e half v : Nat} (hv : Still vt s.vital) : Still vt (State.windowWrite s e half v).vital := by
  unfold State.windowWrite
  try dsimp only
  repeat' first
    | with_reducible assumption
    | with_reducible apply Still.ite
    | with_reducible apply State.event_still
    | with_reducible apply Still.foldl
    | with_reducible apply Still.foldl1
    | intro _ _ _
    | intro _ _
    | (fail_if_no_progress (with_reducible refine Still.upd ?_ rfl rfl))
    | dsimp only
    | split

theorem execErtWindowWrite_still {vt : Vital} {e : Fin 262144} {half : Fin 2} {value : BitVec 64} {s : State} (hv : Still vt s.vital) {t : State}
    (e : execErtWindowWrite e half value s = .next t) : Still vt t.vital := by
  cases e
  try dsimp only
  repeat' first
    | with_reducible assumption
    | with_reducible apply Still.ite
    | with_reducible apply State.whenBooted_still
    | with_reducible apply State.windowWrite_still
    | with_reducible apply Still.foldl
    | with_reducible apply Still.foldl1
    | intro _ _ _
    | intro _ _
    | (fail_if_no_progress (with_reducible refine Still.upd ?_ rfl rfl))
    | dsimp only
    | split

theorem execErtSwitch_still {vt : Vital} {p : Fin 16} {s : State} (hv : Still vt s.vital) {t : State}
    (e : execErtSwitch p s = .next t) : Still vt t.vital := by
  cases e
  try dsimp only
  repeat' first
    | with_reducible assumption
    | with_reducible apply Still.ite
    | with_reducible apply State.whenBooted_still
    | with_reducible apply State.modStrm_still
    | with_reducible apply Still.foldl
    | with_reducible apply Still.foldl1
    | intro _ _ _
    | intro _ _
    | (fail_if_no_progress (with_reducible refine Still.upd ?_ rfl rfl))
    | dsimp only
    | split

theorem State.ertBankSwitch_still {vt : Vital} {s : State} {p : Nat} (hv : Still vt s.vital) : Still vt (State.ertBankSwitch s p).vital := by
  unfold State.ertBankSwitch
  try dsimp only
  repeat' first
    | with_reducible assumption
    | with_reducible apply Still.ite
    | with_reducible apply State.modStrm_still
    | with_reducible apply State.exchangeErt_still
    | with_reducible apply State.setEvent_still
    | with_reducible apply Still.foldl
    | with_reducible apply Still.foldl1
    | intro _ _ _
    | intro _ _
    | (fail_if_no_progress (with_reducible refine Still.upd ?_ rfl rfl))
    | dsimp only
    | split

theorem execErtBankSwitch_still {vt : Vital} {p : Fin 16} {s : State} (hv : Still vt s.vital) {t : State}
    (e : execErtBankSwitch p s = .next t) : Still vt t.vital := by
  cases e
  try dsimp only
  repeat' first
    | with_reducible assumption
    | with_reducible apply Still.ite
    | with_reducible apply State.ertBankSwitch_still
    | with_reducible apply Still.foldl
    | with_reducible apply Still.foldl1
    | intro _ _ _
    | intro _ _
    | (fail_if_no_progress (with_reducible refine Still.upd ?_ rfl rfl))
    | dsimp only
    | split

theorem State.shadowSync_still {vt : Vital} {s : State} {p : Nat} (hv : Still vt s.vital) : Still vt (State.shadowSync s p).vital := by
  unfold State.shadowSync
  try dsimp only
  repeat' first
    | with_reducible assumption
    | with_reducible apply Still.ite
    | with_reducible apply State.modStrm_still
    | with_reducible apply State.put_still
    | with_reducible apply Still.foldl
    | with_reducible apply Still.foldl1
    | intro _ _ _
    | intro _ _
    | (fail_if_no_progress (with_reducible refine Still.upd ?_ rfl rfl))
    | dsimp only
    | split

theorem execShadowSyncDone_still {vt : Vital} {p : Fin 16} {s : State} (hv : Still vt s.vital) {t : State}
    (e : execShadowSyncDone p s = .next t) : Still vt t.vital := by
  cases e
  try dsimp only
  repeat' first
    | with_reducible assumption
    | with_reducible apply Still.ite
    | with_reducible apply State.shadowSync_still
    | with_reducible apply Still.foldl
    | with_reducible apply Still.foldl1
    | intro _ _ _
    | intro _ _
    | (fail_if_no_progress (with_reducible refine Still.upd ?_ rfl rfl))
    | dsimp only
    | split

theorem State.beginPass_still {vt : Vital} {s : State} {m : Nat} (hv : Still vt s.vital) : Still vt (State.beginPass s m).vital := by
  unfold State.beginPass
  try dsimp only
  repeat' first
    | with_reducible assumption
    | with_reducible apply Still.ite
    | with_reducible apply Still.foldl
    | with_reducible apply Still.foldl1
    | intro _ _ _
    | intro _ _
    | (fail_if_no_progress (with_reducible refine Still.upd ?_ rfl rfl))
    | dsimp only
    | split

theorem State.patrolGroup_still {vt : Vital} {s : State} {m : Nat} (hv : Still vt s.vital) : Still vt (State.patrolGroup s m).vital := by
  unfold State.patrolGroup
  try dsimp only
  repeat' first
    | with_reducible assumption
    | with_reducible apply Still.ite
    | with_reducible apply State.inc_still
    | with_reducible apply State.event_still
    | with_reducible apply State.put_still
    | with_reducible apply State.beginPass_still
    | with_reducible apply Still.foldl
    | with_reducible apply Still.foldl1
    | intro _ _ _
    | intro _ _
    | (fail_if_no_progress (with_reducible refine Still.upd ?_ rfl rfl))
    | dsimp only
    | split

theorem execPatrolScrub_still {vt : Vital} {m : Fin 48} {s : State} (hv : Still vt s.vital) {t : State}
    (e : execPatrolScrub m s = .next t) : Still vt t.vital := by
  cases e
  try dsimp only
  repeat' first
    | with_reducible assumption
    | with_reducible apply Still.ite
    | with_reducible apply State.patrolGroup_still
    | with_reducible apply Still.foldl
    | with_reducible apply Still.foldl1
    | intro _ _ _
    | intro _ _
    | (fail_if_no_progress (with_reducible refine Still.upd ?_ rfl rfl))
    | dsimp only
    | split

theorem State.digestCheck_still {vt : Vital} {s : State} {x k : Nat} (hv : Still vt s.vital) : Still vt (State.digestCheck s x k).vital := by
  unfold State.digestCheck
  try dsimp only
  repeat' first
    | with_reducible assumption
    | with_reducible apply Still.ite
    | with_reducible apply State.inc_still
    | with_reducible apply State.event_still
    | with_reducible apply Still.foldl
    | with_reducible apply Still.foldl1
    | intro _ _ _
    | intro _ _
    | (fail_if_no_progress (with_reducible refine Still.upd ?_ rfl rfl))
    | dsimp only
    | split

theorem execResidentDigestCheck_still {vt : Vital} {e : Fin 262144} {k : Nat} {s : State} (hv : Still vt s.vital) {t : State}
    (e : execResidentDigestCheck e k s = .next t) : Still vt t.vital := by
  cases e
  try dsimp only
  repeat' first
    | with_reducible assumption
    | with_reducible apply Still.ite
    | with_reducible apply State.digestCheck_still
    | with_reducible apply Still.foldl
    | with_reducible apply Still.foldl1
    | intro _ _ _
    | intro _ _
    | (fail_if_no_progress (with_reducible refine Still.upd ?_ rfl rfl))
    | dsimp only
    | split

theorem execDrain_still {vt : Vital} {m : Fin 48} {s : State} (hv : Still vt s.vital) {t : State}
    (e : execDrain m s = .next t) : Still vt t.vital := by
  cases e
  try dsimp only
  repeat' first
    | with_reducible assumption
    | with_reducible apply Still.ite
    | with_reducible apply State.whenBooted_still
    | with_reducible apply State.stackState_still
    | with_reducible apply State.put_still
    | with_reducible apply State.ignored_still
    | with_reducible apply Still.foldl
    | with_reducible apply Still.foldl1
    | intro _ _ _
    | intro _ _
    | (fail_if_no_progress (with_reducible refine Still.upd ?_ rfl rfl))
    | dsimp only
    | split

theorem execDrained_still {vt : Vital} {m : Fin 48} {s : State} (hv : Still vt s.vital) {t : State}
    (e : execDrained m s = .next t) : Still vt t.vital := by
  cases e
  try dsimp only
  repeat' first
    | with_reducible assumption
    | with_reducible apply Still.ite
    | with_reducible apply State.put_still
    | with_reducible apply Still.foldl
    | with_reducible apply Still.foldl1
    | intro _ _ _
    | intro _ _
    | (fail_if_no_progress (with_reducible refine Still.upd ?_ rfl rfl))
    | dsimp only
    | split

theorem execScrub_still {vt : Vital} {m : Fin 48} {s : State} (hv : Still vt s.vital) {t : State}
    (e : execScrub m s = .next t) : Still vt t.vital := by
  cases e
  try dsimp only
  repeat' first
    | with_reducible assumption
    | with_reducible apply Still.ite
    | with_reducible apply State.whenBooted_still
    | with_reducible apply State.stackState_still
    | with_reducible apply State.put_still
    | with_reducible apply State.ignored_still
    | with_reducible apply Still.foldl
    | with_reducible apply Still.foldl1
    | intro _ _ _
    | intro _ _
    | (fail_if_no_progress (with_reducible refine Still.upd ?_ rfl rfl))
    | dsimp only
    | split

theorem State.zeroCarrier_still {vt : Vital} {s : State} {a n : Nat} (hv : Still vt s.vital) : Still vt (State.zeroCarrier s a n).vital := by
  unfold State.zeroCarrier
  try dsimp only
  repeat' first
    | with_reducible assumption
    | with_reducible apply Still.ite
    | with_reducible apply Still.foldl
    | with_reducible apply Still.foldl1
    | intro _ _ _
    | intro _ _
    | (fail_if_no_progress (with_reducible refine Still.upd ?_ rfl rfl))
    | (fail_if_no_progress (with_reducible refine Still.mems ?_ id (Mem.wf_clear _ _) id rfl))
    | dsimp only
    | split

theorem State.scrubDone_still {vt : Vital} {s : State} {m uncorr : Nat} (hv : Still vt s.vital) : Still vt (State.scrubDone s m uncorr).vital := by
  unfold State.scrubDone
  try dsimp only
  repeat' first
    | with_reducible assumption
    | with_reducible apply Still.ite
    | with_reducible apply State.zeroCarrier_still
    | with_reducible apply State.put_still
    | with_reducible apply State.stackState_still
    | with_reducible apply Still.foldl
    | with_reducible apply Still.foldl1
    | intro _ _ _
    | intro _ _
    | (fail_if_no_progress (with_reducible refine Still.upd ?_ rfl rfl))
    | dsimp only
    | split

theorem execScrubDone_still {vt : Vital} {m : Fin 48} {uncorr : Nat} {s : State} (hv : Still vt s.vital) {t : State}
    (e : execScrubDone m uncorr s = .next t) : Still vt t.vital := by
  cases e
  try dsimp only
  repeat' first
    | with_reducible assumption
    | with_reducible apply Still.ite
    | with_reducible apply State.scrubDone_still
    | with_reducible apply Still.foldl
    | with_reducible apply Still.foldl1
    | intro _ _ _
    | intro _ _
    | (fail_if_no_progress (with_reducible refine Still.upd ?_ rfl rfl))
    | dsimp only
    | split

theorem execReturnStack_still {vt : Vital} {m : Fin 48} {s : State} (hv : Still vt s.vital) {t : State}
    (e : execReturnStack m s = .next t) : Still vt t.vital := by
  cases e
  try dsimp only
  repeat' first
    | with_reducible assumption
    | with_reducible apply Still.ite
    | with_reducible apply State.whenBooted_still
    | with_reducible apply State.stackState_still
    | with_reducible apply State.put_still
    | with_reducible apply State.ignored_still
    | with_reducible apply Still.foldl
    | with_reducible apply Still.foldl1
    | intro _ _ _
    | intro _ _
    | (fail_if_no_progress (with_reducible refine Still.upd ?_ rfl rfl))
    | dsimp only
    | split

theorem State.showClear_still {vt : Vital} {s : State} {m : Nat} (hv : Still vt s.vital) : Still vt (State.showClear s m).vital := by
  unfold State.showClear
  try dsimp only
  repeat' first
    | with_reducible assumption
    | with_reducible apply Still.ite
    | with_reducible apply State.put_still
    | with_reducible apply Still.foldl
    | with_reducible apply Still.foldl1
    | intro _ _ _
    | intro _ _
    | (fail_if_no_progress (with_reducible refine Still.upd ?_ rfl rfl))
    | dsimp only
    | split

theorem State.queuePage_still {vt : Vital} {s : State} {g : Nat} (hv : Still vt s.vital) : Still vt (State.queuePage s g).vital := by
  unfold State.queuePage
  try dsimp only
  repeat' first
    | with_reducible assumption
    | with_reducible apply Still.ite
    | with_reducible apply State.showClear_still
    | with_reducible apply Still.foldl
    | with_reducible apply Still.foldl1
    | intro _ _ _
    | intro _ _
    | (fail_if_no_progress (with_reducible refine Still.upd ?_ rfl rfl))
    | dsimp only
    | split

theorem State.unmapPage_still {vt : Vital} {s : State} {g : Nat} (hv : Still vt s.vital) : Still vt (State.unmapPage s g).vital := by
  unfold State.unmapPage
  try dsimp only
  repeat' first
    | with_reducible assumption
    | with_reducible apply Still.ite
    | with_reducible apply State.queuePage_still
    | with_reducible apply Still.foldl
    | with_reducible apply Still.foldl1
    | intro _ _ _
    | intro _ _
    | (fail_if_no_progress (with_reducible refine Still.upd ?_ rfl rfl))
    | dsimp only
    | split

theorem State.pageClear_still {vt : Vital} {s : State} {m : Nat} (hv : Still vt s.vital) : Still vt (State.pageClear s m).vital := by
  unfold State.pageClear
  try dsimp only
  repeat' first
    | with_reducible assumption
    | with_reducible apply Still.ite
    | with_reducible apply State.showClear_still
    | with_reducible apply State.put_still
    | with_reducible apply Still.foldl
    | with_reducible apply Still.foldl1
    | intro _ _ _
    | intro _ _
    | (fail_if_no_progress (with_reducible refine Still.upd ?_ rfl rfl))
    | dsimp only
    | split

theorem execPageClear_still {vt : Vital} {m : Fin 48} {s : State} (hv : Still vt s.vital) {t : State}
    (e : execPageClear m s = .next t) : Still vt t.vital := by
  cases e
  try dsimp only
  repeat' first
    | with_reducible assumption
    | with_reducible apply Still.ite
    | with_reducible apply State.pageClear_still
    | with_reducible apply Still.foldl
    | with_reducible apply Still.foldl1
    | intro _ _ _
    | intro _ _
    | (fail_if_no_progress (with_reducible refine Still.upd ?_ rfl rfl))
    | dsimp only
    | split

theorem execPageClearDone_still {vt : Vital} {m : Fin 48} {s : State} (hv : Still vt s.vital) {t : State}
    (e : execPageClearDone m s = .next t) : Still vt t.vital := by
  cases e
  try dsimp only
  repeat' first
    | with_reducible assumption
    | with_reducible apply Still.ite
    | with_reducible apply State.zeroCarrier_still
    | with_reducible apply State.put_still
    | with_reducible apply Still.foldl
    | with_reducible apply Still.foldl1
    | intro _ _ _
    | intro _ _
    | (fail_if_no_progress (with_reducible refine Still.upd ?_ rfl rfl))
    | dsimp only
    | split

theorem execBridleUncorrectable_keeps {vt : Vital} {n : Fin 96} {lane : Fin 375} {flips : List Nat} {s : State} (hv : Keeps vt s.vital) {t : State}
    (e : execBridleUncorrectable n lane flips s = .next t) : Keeps vt t.vital := by
  cases e
  try dsimp only
  repeat' first
    | with_reducible assumption
    | with_reducible apply Keeps.ite
    | with_reducible apply State.linkWord_keeps
    | with_reducible apply Keeps.foldl
    | with_reducible apply Keeps.foldl1
    | intro _ _ _
    | intro _ _
    | (fail_if_no_progress (with_reducible refine Keeps.upd ?_ rfl rfl))
    | dsimp only
    | split

theorem State.failLink_still {vt : Vital} {s : State} {n : Nat} (hv : Still vt s.vital) : Still vt (State.failLink s n).vital := by
  unfold State.failLink
  try dsimp only
  repeat' first
    | with_reducible assumption
    | with_reducible apply Still.ite
    | with_reducible apply State.put_still
    | with_reducible apply State.chargeFault_still
    | with_reducible apply State.setSlot_still
    | with_reducible apply Still.foldl
    | with_reducible apply Still.foldl1
    | intro _ _ _
    | intro _ _
    | (fail_if_no_progress (with_reducible refine Still.upd ?_ rfl rfl))
    | dsimp only
    | split

theorem State.retireLane_still {vt : Vital} {s : State} {n lane : Nat} (hv : Still vt s.vital) : Still vt (State.retireLane s n lane).vital := by
  unfold State.retireLane
  try dsimp only
  repeat' first
    | with_reducible assumption
    | with_reducible apply Still.ite
    | with_reducible apply State.failLink_still
    | with_reducible apply State.setLink_still
    | with_reducible apply State.put_still
    | with_reducible apply State.event_still
    | with_reducible apply Still.foldl
    | with_reducible apply Still.foldl1
    | intro _ _ _
    | intro _ _
    | (fail_if_no_progress (with_reducible refine Still.upd ?_ rfl rfl))
    | dsimp only
    | split

theorem State.retireLanes_still {vt : Vital} {s : State} (hv : Still vt s.vital) : Still vt (State.retireLanes s).vital := by
  unfold State.retireLanes
  try dsimp only
  repeat' first
    | with_reducible assumption
    | with_reducible apply Still.ite
    | with_reducible apply State.retire_still
    | with_reducible apply State.setLink_still
    | with_reducible apply State.retireLane_still
    | with_reducible apply Still.foldl
    | with_reducible apply Still.foldl1
    | intro _ _ _
    | intro _ _
    | (fail_if_no_progress (with_reducible refine Still.upd ?_ rfl rfl))
    | dsimp only
    | split

end Sys2Proof.Machine
end

