-- ==== Sys2Proof/Laws/KeepSpec.lean ====
section
/-! SUPPORT. What the functions of Machine/Spec.lean leave as it should be (Laws/Vital.lean). -/

namespace Sys2Proof.Machine

set_option linter.unreachableTactic false
set_option linter.unusedTactic false
set_option linter.unusedVariables false

theorem State.renameGroups_still {vt : Vital} {s : State} {p : Nat} {pairs : List (Nat × Nat)} (hv : Still vt s.vital) : Still vt (State.renameGroups s p pairs).vital := by
  unfold State.renameGroups
  try dsimp only
  repeat' first
    | with_reducible assumption
    | with_reducible apply Still.ite
    | with_reducible apply State.put_still
    | with_reducible apply Still.foldl
    | with_reducible apply Still.foldl1
    | intro _ _ _
    | intro _ _
    | (fail_if_no_progress (with_reducible refine Still.upd ?_ rfl rfl))
    | dsimp only
    | split

theorem State.confirmSlot_still {vt : Vital} {s : State} {p k : Nat} (hv : Still vt s.vital) : Still vt (State.confirmSlot s p k).vital := by
  unfold State.confirmSlot
  try dsimp only
  repeat' first
    | with_reducible assumption
    | with_reducible apply Still.ite
    | with_reducible apply State.renameGroups_still
    | with_reducible apply State.addDrops_still
    | with_reducible apply State.modStrm_still
    | with_reducible apply State.inc_still
    | with_reducible apply State.setPred_still
    | with_reducible apply Still.foldl
    | with_reducible apply Still.foldl1
    | intro _ _ _
    | intro _ _
    | (fail_if_no_progress (with_reducible refine Still.upd ?_ rfl rfl))
    | dsimp only
    | split

theorem State.applyMask_still {vt : Vital} {s : State} {p confirm resolve : Nat} (hv : Still vt s.vital) : Still vt (State.applyMask s p confirm resolve).1.vital := by
  unfold State.applyMask
  try dsimp only
  repeat' first
    | with_reducible assumption
    | with_reducible apply Still.ite
    | with_reducible apply State.inc_still
    | with_reducible apply State.sample_still
    | with_reducible apply State.settleSlots_still
    | with_reducible apply State.confirmSlot_still
    | with_reducible apply Still.foldl
    | with_reducible apply Still.foldl1
    | intro _ _ _
    | intro _ _
    | (fail_if_no_progress (with_reducible refine Still.upd ?_ rfl rfl))
    | dsimp only
    | split

theorem State.reportHeld_still {vt : Vital} {s : State} {p : Nat} {f : Nat × Cmd × Nat × Nat} (hv : Still vt s.vital) : Still vt (State.reportHeld s p f).vital := by
  unfold State.reportHeld
  try dsimp only
  repeat' first
    | with_reducible assumption
    | with_reducible apply Still.ite
    | with_reducible apply State.inc_still
    | with_reducible apply State.abort_still
    | with_reducible apply Still.foldl
    | with_reducible apply Still.foldl1
    | intro _ _ _
    | intro _ _
    | (fail_if_no_progress (with_reducible refine Still.upd ?_ rfl rfl))
    | dsimp only
    | split

theorem State.fltAt_keeps {vt : Vital} {s : State} {c : Cmd} {p : Nat} {f : Flt} {all : List Flt} (hv : Keeps vt s.vital) : Keeps vt (State.fltAt s c p f all).vital := by
  unfold State.fltAt
  try dsimp only
  repeat' first
    | with_reducible assumption
    | with_reducible apply Keeps.ite
    | with_reducible apply Keeps.via (State.countFaults_still (Still.refl _))
    | with_reducible apply State.advance_keeps
    | with_reducible apply Keeps.via (State.fault_still (Still.refl _))
    | with_reducible apply State.chargeAt_keeps
    | with_reducible apply Keeps.foldl
    | with_reducible apply Keeps.foldl1
    | intro _ _ _
    | intro _ _
    | (fail_if_no_progress (with_reducible refine Keeps.upd ?_ rfl rfl))
    | dsimp only
    | split

theorem State.maskEcc_still {vt : Vital} {s : State} {p : Nat} {q : RouteP} {x : Nat} (hv : Still vt s.vital) : Still vt (State.maskEcc s p q x).vital := by
  unfold State.maskEcc
  try dsimp only
  repeat' first
    | with_reducible assumption
    | with_reducible apply Still.ite
    | with_reducible apply State.inc_still
    | with_reducible apply Still.foldl
    | with_reducible apply Still.foldl1
    | intro _ _ _
    | intro _ _
    | (fail_if_no_progress (with_reducible refine Still.upd ?_ rfl rfl))
    | dsimp only
    | split

theorem State.readMask_keeps {vt : Vital} {s : State} {c : Cmd} {p : Nat} (hv : Keeps vt s.vital) : Keeps vt (State.readMask s c p).vital := by
  unfold State.readMask
  try dsimp only
  repeat' first
    | with_reducible assumption
    | with_reducible apply Keeps.ite
    | with_reducible apply State.fltAt_keeps
    | with_reducible apply Keeps.via (State.countHazards_still (Still.refl _))
    | with_reducible apply Keeps.via (State.maskEcc_still (Still.refl _))
    | with_reducible apply Keeps.via (State.addUses_still (Still.refl _))
    | with_reducible apply Keeps.foldl
    | with_reducible apply Keeps.foldl1
    | intro _ _ _
    | intro _ _
    | (fail_if_no_progress (with_reducible refine Keeps.upd ?_ rfl rfl))
    | dsimp only
    | split

theorem State.commitNow_keeps {vt : Vital} {s : State} {c : Cmd} {p : Nat} (hv : Keeps vt s.vital) : Keeps vt (State.commitNow s c p).vital := by
  unfold State.commitNow
  try dsimp only
  repeat' first
    | with_reducible assumption
    | with_reducible apply Keeps.ite
    | with_reducible apply State.streamStep_keeps
    | with_reducible apply State.setNow_keeps
    | with_reducible apply Keeps.via (State.applyMask_still (Still.refl _))
    | with_reducible apply Keeps.via (State.setUpto_still (Still.refl _))
    | with_reducible apply Keeps.via (State.journalRoute_still (Still.refl _))
    | with_reducible apply Keeps.via (State.reportHeld_still (Still.refl _))
    | with_reducible apply Keeps.via (State.done_still (Still.refl _))
    | with_reducible apply State.fltAt_keeps
    | with_reducible apply Keeps.via (State.countEcc_still (Still.refl _))
    | with_reducible apply Keeps.foldl
    | with_reducible apply Keeps.foldl1
    | intro _ _ _
    | intro _ _
    | (fail_if_no_progress (with_reducible refine Keeps.upd ?_ rfl rfl))
    | dsimp only
    | split

theorem State.dispatchNow_still {vt : Vital} {s : State} {c : Cmd} {p : Nat} {b : Bound} (hv : Still vt s.vital) : Still vt (State.dispatchNow s c p b).vital := by
  unfold State.dispatchNow
  try dsimp only
  repeat' first
    | with_reducible assumption
    | with_reducible apply Still.ite
    | with_reducible apply State.setUpto_still
    | with_reducible apply State.journalRoute_still
    | with_reducible apply State.done_still
    | with_reducible apply State.addDrops_still
    | with_reducible apply State.put_still
    | with_reducible apply State.sample_still
    | with_reducible apply State.inc_still
    | with_reducible apply State.modRun_still
    | with_reducible apply Still.foldl
    | with_reducible apply Still.foldl1
    | intro _ _ _
    | intro _ _
    | (fail_if_no_progress (with_reducible refine Still.upd ?_ rfl rfl))
    | dsimp only
    | split

theorem State.resultEvent_keeps {vt : Vital} {s : State} {c : Cmd} {p : Nat} {u : Event} (hv : Keeps vt s.vital) : Keeps vt (State.resultEvent s c p u).vital := by
  unfold State.resultEvent
  try dsimp only
  repeat' first
    | with_reducible assumption
    | with_reducible apply Keeps.ite
    | with_reducible apply State.placeRow_keeps
    | with_reducible apply State.happen_keeps
    | with_reducible apply Keeps.foldl
    | with_reducible apply Keeps.foldl1
    | intro _ _ _
    | intro _ _
    | (fail_if_no_progress (with_reducible refine Keeps.upd ?_ rfl rfl))
    | dsimp only
    | split

theorem State.results_keeps {vt : Vital} {s : State} {c : Cmd} {p : Nat} {e : PlanEntry} {b : Bound} {lim : Nat} (hv : Keeps vt s.vital) : Keeps vt (State.results s c p e b lim).vital := by
  unfold State.results
  try dsimp only
  repeat' first
    | with_reducible assumption
    | with_reducible apply Keeps.ite
    | with_reducible apply State.resultEvent_keeps
    | with_reducible apply Keeps.via (State.setUpto_still (Still.refl _))
    | with_reducible apply Keeps.via (State.done_still (Still.refl _))
    | with_reducible apply Keeps.foldl
    | with_reducible apply Keeps.foldl1
    | intro _ _ _
    | intro _ _
    | (fail_if_no_progress (with_reducible refine Keeps.upd ?_ rfl rfl))
    | dsimp only
    | split

theorem State.dispatch_keeps {vt : Vital} {s : State} {c : Cmd} {p lim : Nat} (hv : Keeps vt s.vital) : Keeps vt (State.dispatch s c p lim).vital := by
  unfold State.dispatch
  try dsimp only
  repeat' first
    | with_reducible assumption
    | with_reducible apply Keeps.ite
    | with_reducible apply State.setNow_keeps
    | with_reducible apply Keeps.via (State.dispatchNow_still (Still.refl _))
    | with_reducible apply State.results_keeps
    | with_reducible apply Keeps.foldl
    | with_reducible apply Keeps.foldl1
    | intro _ _ _
    | intro _ _
    | (fail_if_no_progress (with_reducible refine Keeps.upd ?_ rfl rfl))
    | dsimp only
    | split

theorem State.routeCommit_keeps {vt : Vital} {s : State} {c : Cmd} {p lim : Nat} (hv : Keeps vt s.vital) : Keeps vt (State.routeCommit s c p lim).vital := by
  unfold State.routeCommit
  try dsimp only
  repeat' first
    | with_reducible assumption
    | with_reducible apply Keeps.ite
    | with_reducible apply State.readMask_keeps
    | with_reducible apply Keeps.via (State.setUpto_still (Still.refl _))
    | with_reducible apply State.commitNow_keeps
    | with_reducible apply State.setNow_keeps
    | with_reducible apply State.dispatch_keeps
    | with_reducible apply Keeps.foldl
    | with_reducible apply Keeps.foldl1
    | intro _ _ _
    | intro _ _
    | (fail_if_no_progress (with_reducible refine Keeps.upd ?_ rfl rfl))
    | dsimp only
    | split

theorem execRouteCommit_keeps {vt : Vital} {c : CmdId} {s : State} (hv : Keeps vt s.vital) {t : State}
    (e : execRouteCommit c s = .next t) : Keeps vt t.vital := by
  cases e
  try dsimp only
  repeat' first
    | with_reducible assumption
    | with_reducible apply Keeps.ite
    | with_reducible apply State.routeCommit_keeps
    | with_reducible apply Keeps.foldl
    | with_reducible apply Keeps.foldl1
    | intro _ _ _
    | intro _ _
    | (fail_if_no_progress (with_reducible refine Keeps.upd ?_ rfl rfl))
    | dsimp only
    | split

end Sys2Proof.Machine
end

