-- ==== Sys2Proof/Laws/KeepCollect.lean ====
section
/-! SUPPORT. What the functions of Machine/Collect.lean leave as it should be (Laws/Vital.lean). -/

namespace Sys2Proof.Machine

set_option linter.unreachableTactic false
set_option linter.unusedTactic false
set_option linter.unusedVariables false

theorem State.awaitRows_still {vt : Vital} {s : State} {c : Cmd} {p base first n : Nat} (hv : Still vt s.vital) : Still vt (State.awaitRows s c p base first n).vital := by
  unfold State.awaitRows
  try dsimp only
  repeat' first
    | with_reducible assumption
    | with_reducible apply Still.ite
    | with_reducible apply State.addStream_still
    | with_reducible apply Still.foldl
    | with_reducible apply Still.foldl1
    | intro _ _ _
    | intro _ _
    | (fail_if_no_progress (with_reducible refine Still.upd ?_ rfl rfl))
    | dsimp only
    | split

theorem State.joinWord_still {vt : Vital} {s : State} {n p : Nat} {st : Stream} {k : Nat} {h : Shard} {w : Bytes} (hv : Still vt s.vital) : Still vt (State.joinWord s n p st k h w).vital := by
  unfold State.joinWord
  try dsimp only
  repeat' first
    | with_reducible assumption
    | with_reducible apply Still.ite
    | with_reducible apply State.modStrm_still
    | with_reducible apply State.setStream_still
    | with_reducible apply State.fault_still
    | with_reducible apply Still.foldl
    | with_reducible apply Still.foldl1
    | intro _ _ _
    | intro _ _
    | (fail_if_no_progress (with_reducible refine Still.upd ?_ rfl rfl))
    | dsimp only
    | split

theorem State.pieceWord_still {vt : Vital} {s : State} {n p : Nat} {w : Bytes} (hv : Still vt s.vital) : Still vt (State.pieceWord s n p w).vital := by
  unfold State.pieceWord
  try dsimp only
  repeat' first
    | with_reducible assumption
    | with_reducible apply Still.ite
    | with_reducible apply State.joinWord_still
    | with_reducible apply State.setStream_still
    | with_reducible apply State.inc_still
    | with_reducible apply State.addStream_still
    | with_reducible apply Still.foldl
    | with_reducible apply Still.foldl1
    | intro _ _ _
    | intro _ _
    | (fail_if_no_progress (with_reducible refine Still.upd ?_ rfl rfl))
    | dsimp only
    | split

theorem State.rowWord_still {vt : Vital} {s : State} {n p : Nat} {head w : Bytes} (hv : Still vt s.vital) : Still vt (State.rowWord s n p head w).vital := by
  unfold State.rowWord
  try dsimp only
  repeat' first
    | with_reducible assumption
    | with_reducible apply Still.ite
    | with_reducible apply State.joinWord_still
    | with_reducible apply Still.foldl
    | with_reducible apply Still.foldl1
    | intro _ _ _
    | intro _ _
    | (fail_if_no_progress (with_reducible refine Still.upd ?_ rfl rfl))
    | dsimp only
    | split

theorem State.settleArrivals_still {vt : Vital} {s : State} {c : Cmd} {p : Nat} (hv : Still vt s.vital) : Still vt (State.settleArrivals s c p).vital := by
  unfold State.settleArrivals
  try dsimp only
  repeat' first
    | with_reducible assumption
    | with_reducible apply Still.ite
    | with_reducible apply State.putShard_still
    | with_reducible apply State.journalInput_still
    | with_reducible apply Still.foldl
    | with_reducible apply Still.foldl1
    | intro _ _ _
    | intro _ _
    | (fail_if_no_progress (with_reducible refine Still.upd ?_ rfl rfl))
    | dsimp only
    | split

theorem State.closeStream_still {vt : Vital} {s : State} {c : Cmd} {p : Nat} (hv : Still vt s.vital) : Still vt (State.closeStream s c p).vital := by
  unfold State.closeStream
  try dsimp only
  repeat' first
    | with_reducible assumption
    | with_reducible apply Still.ite
    | with_reducible apply State.modStrm_still
    | with_reducible apply Still.foldl
    | with_reducible apply Still.foldl1
    | intro _ _ _
    | intro _ _
    | (fail_if_no_progress (with_reducible refine Still.upd ?_ rfl rfl))
    | dsimp only
    | split

theorem State.moveRows_keeps {vt : Vital} {s : State} {c : Cmd} {p first n lim : Nat} (hv : Keeps vt s.vital) : Keeps vt (State.moveRows s c p first n lim).1.vital := by
  unfold State.moveRows
  try dsimp only
  repeat' first
    | with_reducible assumption
    | with_reducible apply Keeps.ite
    | with_reducible apply State.runPlan_keeps
    | with_reducible apply Keeps.via (State.settleArrivals_still (Still.refl _))
    | with_reducible apply Keeps.foldl
    | with_reducible apply Keeps.foldl1
    | intro _ _ _
    | intro _ _
    | (fail_if_no_progress (with_reducible refine Keeps.upd ?_ rfl rfl))
    | dsimp only
    | split

theorem State.moved_still {vt : Vital} {s : State} {c : Cmd} {p first n : Nat} (hv : Still vt s.vital) : Still vt (State.moved s c p first n).vital := by
  unfold State.moved
  try dsimp only
  repeat' first
    | with_reducible assumption
    | with_reducible apply Still.ite
    | with_reducible apply State.closeStream_still
    | with_reducible apply State.doneLinks_still
    | with_reducible apply Still.foldl
    | with_reducible apply Still.foldl1
    | intro _ _ _
    | intro _ _
    | (fail_if_no_progress (with_reducible refine Still.upd ?_ rfl rfl))
    | dsimp only
    | split

theorem State.runMoves_keeps {vt : Vital} {s : State} {c : Cmd} {p first n lim : Nat} (hv : Keeps vt s.vital) : Keeps vt (State.runMoves s c p first n lim).vital := by
  unfold State.runMoves
  try dsimp only
  repeat' first
    | with_reducible assumption
    | with_reducible apply Keeps.ite
    | with_reducible apply State.moveRows_keeps
    | with_reducible apply Keeps.via (State.moved_still (Still.refl _))
    | with_reducible apply Keeps.foldl
    | with_reducible apply Keeps.foldl1
    | intro _ _ _
    | intro _ _
    | (fail_if_no_progress (with_reducible refine Keeps.upd ?_ rfl rfl))
    | dsimp only
    | split

theorem State.bcast_keeps {vt : Vital} {s : State} {c : Cmd} {p lim : Nat} (hv : Keeps vt s.vital) : Keeps vt (State.bcast s c p lim).vital := by
  unfold State.bcast
  try dsimp only
  repeat' first
    | with_reducible assumption
    | with_reducible apply Keeps.ite
    | with_reducible apply State.runMoves_keeps
    | with_reducible apply Keeps.foldl
    | with_reducible apply Keeps.foldl1
    | intro _ _ _
    | intro _ _
    | (fail_if_no_progress (with_reducible refine Keeps.upd ?_ rfl rfl))
    | dsimp only
    | split

theorem execBcast_keeps {vt : Vital} {c : CmdId} {s : State} (hv : Keeps vt s.vital) {t : State}
    (e : execBcast c s = .next t) : Keeps vt t.vital := by
  cases e
  try dsimp only
  repeat' first
    | with_reducible assumption
    | with_reducible apply Keeps.ite
    | with_reducible apply State.bcast_keeps
    | with_reducible apply Keeps.foldl
    | with_reducible apply Keeps.foldl1
    | intro _ _ _
    | intro _ _
    | (fail_if_no_progress (with_reducible refine Keeps.upd ?_ rfl rfl))
    | dsimp only
    | split

theorem State.reduceRead_keeps {vt : Vital} {s : State} {c : Cmd} {p pos row u x : Nat} (hv : Keeps vt s.vital) : Keeps vt (State.reduceRead s c p pos row u x).vital := by
  unfold State.reduceRead
  try dsimp only
  repeat' first
    | with_reducible assumption
    | with_reducible apply Keeps.ite
    | with_reducible apply Keeps.via (State.inc_still (Still.refl _))
    | with_reducible apply State.advance_keeps
    | with_reducible apply Keeps.via (State.fault_still (Still.refl _))
    | with_reducible apply Keeps.via (State.noteEcc_still (Still.refl _))
    | with_reducible apply State.chargeAt_keeps
    | with_reducible apply Keeps.foldl
    | with_reducible apply Keeps.foldl1
    | intro _ _ _
    | intro _ _
    | (fail_if_no_progress (with_reducible refine Keeps.upd ?_ rfl rfl))
    | dsimp only
    | split

theorem State.reduceReads_keeps {vt : Vital} {s : State} {c : Cmd} {p pos x0 lo hi j : Nat} (hv : Keeps vt s.vital) : Keeps vt (State.reduceReads s c p pos x0 lo hi j).vital := by
  unfold State.reduceReads
  try dsimp only
  repeat' first
    | with_reducible assumption
    | with_reducible apply Keeps.ite
    | with_reducible apply State.reduceRead_keeps
    | with_reducible apply Keeps.foldl
    | with_reducible apply Keeps.foldl1
    | intro _ _ _
    | intro _ _
    | (fail_if_no_progress (with_reducible refine Keeps.upd ?_ rfl rfl))
    | dsimp only
    | split

theorem State.reduceRow_keeps {vt : Vital} {s : State} {c : Cmd} {p pos x0 j : Nat} (hv : Keeps vt s.vital) : Keeps vt (State.reduceRow s c p pos x0 j).vital := by
  unfold State.reduceRow
  try dsimp only
  repeat' first
    | with_reducible assumption
    | with_reducible apply Keeps.ite
    | with_reducible apply Keeps.via (State.inc_still (Still.refl _))
    | with_reducible apply State.writeS_keeps
    | with_reducible apply State.advance_keeps
    | with_reducible apply Keeps.via (State.fault_still (Still.refl _))
    | with_reducible apply Keeps.foldl
    | with_reducible apply Keeps.foldl1
    | intro _ _ _
    | intro _ _
    | (fail_if_no_progress (with_reducible refine Keeps.upd ?_ rfl rfl))
    | dsimp only
    | split

theorem State.reduceRows_keeps {vt : Vital} {s : State} {c : Cmd} {p pos x0 lo hi : Nat} (hv : Keeps vt s.vital) : Keeps vt (State.reduceRows s c p pos x0 lo hi).vital := by
  unfold State.reduceRows
  try dsimp only
  repeat' first
    | with_reducible assumption
    | with_reducible apply Keeps.ite
    | with_reducible apply State.reduceReads_keeps
    | with_reducible apply State.reduceRow_keeps
    | with_reducible apply Keeps.foldl
    | with_reducible apply Keeps.foldl1
    | intro _ _ _
    | intro _ _
    | (fail_if_no_progress (with_reducible refine Keeps.upd ?_ rfl rfl))
    | dsimp only
    | split

theorem State.reducePhase_keeps {vt : Vital} {s : State} {c : Cmd} {p pos lim : Nat} (hv : Keeps vt s.vital) : Keeps vt (State.reducePhase s c p pos lim).vital := by
  unfold State.reducePhase
  try dsimp only
  repeat' first
    | with_reducible assumption
    | with_reducible apply Keeps.ite
    | with_reducible apply State.reduceRows_keeps
    | with_reducible apply Keeps.via (State.modCore_still (Still.refl _))
    | with_reducible apply Keeps.via (State.setCmd_still (Still.refl _))
    | with_reducible apply Keeps.foldl
    | with_reducible apply Keeps.foldl1
    | intro _ _ _
    | intro _ _
    | (fail_if_no_progress (with_reducible refine Keeps.upd ?_ rfl rfl))
    | dsimp only
    | split

theorem State.reduceDone_still {vt : Vital} {s : State} {c : Cmd} {p pos : Nat} (hv : Still vt s.vital) : Still vt (State.reduceDone s c p pos).vital := by
  unfold State.reduceDone
  try dsimp only
  repeat' first
    | with_reducible assumption
    | with_reducible apply Still.ite
    | with_reducible apply State.closeStream_still
    | with_reducible apply State.doneLinks_still
    | with_reducible apply State.done_still
    | with_reducible apply Still.foldl
    | with_reducible apply Still.foldl1
    | intro _ _ _
    | intro _ _
    | (fail_if_no_progress (with_reducible refine Still.upd ?_ rfl rfl))
    | dsimp only
    | split

theorem State.reduce1_keeps {vt : Vital} {s : State} {c : Cmd} {p lim : Nat} (hv : Keeps vt s.vital) : Keeps vt (State.reduce1 s c p lim).vital := by
  unfold State.reduce1
  try dsimp only
  repeat' first
    | with_reducible assumption
    | with_reducible apply Keeps.ite
    | with_reducible apply State.runMoves_keeps
    | with_reducible apply State.moveRows_keeps
    | with_reducible apply State.reducePhase_keeps
    | with_reducible apply Keeps.via (State.reduceDone_still (Still.refl _))
    | with_reducible apply Keeps.foldl
    | with_reducible apply Keeps.foldl1
    | intro _ _ _
    | intro _ _
    | (fail_if_no_progress (with_reducible refine Keeps.upd ?_ rfl rfl))
    | dsimp only
    | split

theorem execReduce1_keeps {vt : Vital} {c : CmdId} {s : State} (hv : Keeps vt s.vital) {t : State}
    (e : execReduce1 c s = .next t) : Keeps vt t.vital := by
  cases e
  try dsimp only
  repeat' first
    | with_reducible assumption
    | with_reducible apply Keeps.ite
    | with_reducible apply State.reduce1_keeps
    | with_reducible apply Keeps.foldl
    | with_reducible apply Keeps.foldl1
    | intro _ _ _
    | intro _ _
    | (fail_if_no_progress (with_reducible refine Keeps.upd ?_ rfl rfl))
    | dsimp only
    | split

theorem State.advanceRows_keeps {vt : Vital} {s : State} {c : Cmd} {p : Nat} (hv : Keeps vt s.vital) : Keeps vt (State.advanceRows s c p).vital := by
  unfold State.advanceRows
  try dsimp only
  repeat' first
    | with_reducible assumption
    | with_reducible apply Keeps.ite
    | with_reducible apply State.bcast_keeps
    | with_reducible apply State.reduce1_keeps
    | with_reducible apply State.runMoves_keeps
    | with_reducible apply Keeps.foldl
    | with_reducible apply Keeps.foldl1
    | intro _ _ _
    | intro _ _
    | (fail_if_no_progress (with_reducible refine Keeps.upd ?_ rfl rfl))
    | dsimp only
    | split

theorem State.resume_keeps {vt : Vital} {s : State} {c : Cmd} {p : Nat} (hv : Keeps vt s.vital) : Keeps vt (State.resume s c p).vital := by
  unfold State.resume
  try dsimp only
  repeat' first
    | with_reducible assumption
    | with_reducible apply Keeps.ite
    | with_reducible apply State.advanceRows_keeps
    | with_reducible apply Keeps.foldl
    | with_reducible apply Keeps.foldl1
    | intro _ _ _
    | intro _ _
    | (fail_if_no_progress (with_reducible refine Keeps.upd ?_ rfl rfl))
    | dsimp only
    | split

theorem State.takeRows_keeps {vt : Vital} {s : State} {n p : Nat} {w : WslFrame} {f : State → Bytes → State}
    (hf : ∀ s x, Keeps vt s.vital → Keeps vt (f s x).vital) (h : Keeps vt s.vital) :
    Keeps vt (State.takeRows s n p w f).vital := by
  unfold State.takeRows
  exact Keeps.foldl (fun _ _ k => State.resume_keeps k) _ (Keeps.foldl hf _ h)

theorem State.dataFrame_still {vt : Vital} {s : State} {n : Nat} {w : WslFrame} {cls type : Nat} {f : Nat → State → State}
    (hf : ∀ p s, Still vt s.vital → Still vt (f p s).vital) (h : Still vt s.vital) :
    Still vt (State.dataFrame s n w cls type f).vital := by
  have k : Still vt (State.linkCheck s n w).2.vital := h.trans (State.linkCheck_still (Still.refl _))
  unfold State.dataFrame
  dsimp only
  split
  · exact h
  · split
    · exact k
    · exact hf _ _ k

theorem State.dataFrame_keeps {vt : Vital} {s : State} {n : Nat} {w : WslFrame} {cls type : Nat} {f : Nat → State → State}
    (hf : ∀ p s, Keeps vt s.vital → Keeps vt (f p s).vital) (h : Keeps vt s.vital) :
    Keeps vt (State.dataFrame s n w cls type f).vital := by
  have k : Keeps vt (State.linkCheck s n w).2.vital := h.trans (State.linkCheck_still (Still.refl _)).keeps
  unfold State.dataFrame
  dsimp only
  split
  · exact h
  · split
    · exact k
    · exact hf _ _ k

theorem execCollectivePiece_keeps {vt : Vital} {n : Fin 64} {w : WslFrame} {s : State} (hv : Keeps vt s.vital) {t : State}
    (e : execCollectivePiece n w s = .next t) : Keeps vt t.vital := by
  cases e
  try dsimp only
  repeat' first
    | with_reducible assumption
    | with_reducible apply Keeps.ite
    | with_reducible apply State.dataFrame_keeps
    | with_reducible apply State.takeRows_keeps
    | with_reducible apply Keeps.via (State.pieceWord_still (Still.refl _))
    | with_reducible apply Keeps.foldl
    | with_reducible apply Keeps.foldl1
    | intro _ _ _
    | intro _ _
    | (fail_if_no_progress (with_reducible refine Keeps.upd ?_ rfl rfl))
    | dsimp only
    | split

theorem execActivationRows_keeps {vt : Vital} {n : Fin 64} {w : WslFrame} {s : State} (hv : Keeps vt s.vital) {t : State}
    (e : execActivationRows n w s = .next t) : Keeps vt t.vital := by
  cases e
  try dsimp only
  repeat' first
    | with_reducible assumption
    | with_reducible apply Keeps.ite
    | with_reducible apply State.dataFrame_keeps
    | with_reducible apply State.takeRows_keeps
    | with_reducible apply Keeps.via (State.rowWord_still (Still.refl _))
    | with_reducible apply Keeps.foldl
    | with_reducible apply Keeps.foldl1
    | intro _ _ _
    | intro _ _
    | (fail_if_no_progress (with_reducible refine Keeps.upd ?_ rfl rfl))
    | dsimp only
    | split

theorem execBulkRows_keeps {vt : Vital} {n : Fin 64} {w : WslFrame} {s : State} (hv : Keeps vt s.vital) {t : State}
    (e : execBulkRows n w s = .next t) : Keeps vt t.vital := by
  cases e
  try dsimp only
  repeat' first
    | with_reducible assumption
    | with_reducible apply Keeps.ite
    | with_reducible apply State.dataFrame_keeps
    | with_reducible apply State.takeRows_keeps
    | with_reducible apply Keeps.via (State.rowWord_still (Still.refl _))
    | with_reducible apply Keeps.foldl
    | with_reducible apply Keeps.foldl1
    | intro _ _ _
    | intro _ _
    | (fail_if_no_progress (with_reducible refine Keeps.upd ?_ rfl rfl))
    | dsimp only
    | split

theorem State.copyCycle_keeps {vt : Vital} {s : State} {c : Cmd} {p lc x0 k : Nat} (hv : Keeps vt s.vital) : Keeps vt (State.copyCycle s c p lc x0 k).vital := by
  unfold State.copyCycle
  try dsimp only
  repeat' first
    | with_reducible assumption
    | with_reducible apply Keeps.ite
    | with_reducible apply State.readRow_keeps
    | with_reducible apply State.writeS_keeps
    | with_reducible apply Keeps.foldl
    | with_reducible apply Keeps.foldl1
    | intro _ _ _
    | intro _ _
    | (fail_if_no_progress (with_reducible refine Keeps.upd ?_ rfl rfl))
    | dsimp only
    | split

theorem State.moveLocal_keeps {vt : Vital} {s : State} {c : Cmd} {p lim : Nat} (hv : Keeps vt s.vital) : Keeps vt (State.moveLocal s c p lim).vital := by
  unfold State.moveLocal
  try dsimp only
  repeat' first
    | with_reducible assumption
    | with_reducible apply Keeps.ite
    | with_reducible apply State.copyCycle_keeps
    | with_reducible apply Keeps.via (State.setUpto_still (Still.refl _))
    | with_reducible apply Keeps.via (State.done_still (Still.refl _))
    | with_reducible apply Keeps.foldl
    | with_reducible apply Keeps.foldl1
    | intro _ _ _
    | intro _ _
    | (fail_if_no_progress (with_reducible refine Keeps.upd ?_ rfl rfl))
    | dsimp only
    | split

theorem State.move_keeps {vt : Vital} {s : State} {c : Cmd} {p lim : Nat} (hv : Keeps vt s.vital) : Keeps vt (State.move s c p lim).vital := by
  unfold State.move
  try dsimp only
  repeat' first
    | with_reducible assumption
    | with_reducible apply Keeps.ite
    | with_reducible apply State.moveLocal_keeps
    | with_reducible apply State.runMoves_keeps
    | with_reducible apply Keeps.foldl
    | with_reducible apply Keeps.foldl1
    | intro _ _ _
    | intro _ _
    | (fail_if_no_progress (with_reducible refine Keeps.upd ?_ rfl rfl))
    | dsimp only
    | split

theorem execMove_keeps {vt : Vital} {c : CmdId} {s : State} (hv : Keeps vt s.vital) {t : State}
    (e : execMove c s = .next t) : Keeps vt t.vital := by
  cases e
  try dsimp only
  repeat' first
    | with_reducible assumption
    | with_reducible apply Keeps.ite
    | with_reducible apply State.move_keeps
    | with_reducible apply Keeps.foldl
    | with_reducible apply Keeps.foldl1
    | intro _ _ _
    | intro _ _
    | (fail_if_no_progress (with_reducible refine Keeps.upd ?_ rfl rfl))
    | dsimp only
    | split

theorem State.arm_still {vt : Vital} {s : State} {p : Nat} {q : CollP} (hv : Still vt s.vital) : Still vt (State.arm s p q).vital := by
  unfold State.arm
  try dsimp only
  repeat' first
    | with_reducible assumption
    | with_reducible apply Still.ite
    | with_reducible apply State.modLcore_still
    | with_reducible apply Still.foldl
    | with_reducible apply Still.foldl1
    | intro _ _ _
    | intro _ _
    | (fail_if_no_progress (with_reducible refine Still.upd ?_ rfl rfl))
    | dsimp only
    | split

theorem State.rowAbsent_still {vt : Vital} {s : State} {c : Cmd} {p k row : Nat} (hv : Still vt s.vital) : Still vt (State.rowAbsent s c p k row).vital := by
  unfold State.rowAbsent
  try dsimp only
  repeat' first
    | with_reducible assumption
    | with_reducible apply Still.ite
    | with_reducible apply State.mark_still
    | with_reducible apply State.fault_still
    | with_reducible apply Still.foldl
    | with_reducible apply Still.foldl1
    | intro _ _ _
    | intro _ _
    | (fail_if_no_progress (with_reducible refine Still.upd ?_ rfl rfl))
    | dsimp only
    | split

theorem execRowAbsent_still {vt : Vital} {c : CmdId} {k row : Nat} {s : State} (hv : Still vt s.vital) {t : State}
    (e : execRowAbsent c k row s = .next t) : Still vt t.vital := by
  cases e
  try dsimp only
  repeat' first
    | with_reducible assumption
    | with_reducible apply Still.ite
    | with_reducible apply State.rowAbsent_still
    | with_reducible apply Still.foldl
    | with_reducible apply Still.foldl1
    | intro _ _ _
    | intro _ _
    | (fail_if_no_progress (with_reducible refine Still.upd ?_ rfl rfl))
    | dsimp only
    | split

end Sys2Proof.Machine
end

