-- ==== Sys2Proof/Laws/KeepJctl.lean ====
section
/-! SUPPORT. What the functions of Machine/Jctl.lean leave as it should be (Laws/Vital.lean). -/

namespace Sys2Proof.Machine

set_option linter.unreachableTactic false
set_option linter.unusedTactic false
set_option linter.unusedVariables false

theorem execJournalEnable_still {vt : Vital} {c : CmdId} {s : State} (hv : Still vt s.vital) {t : State}
    (e : execJournalEnable c s = .next t) : Still vt t.vital := by
  cases e
  try dsimp only
  repeat' first
    | with_reducible assumption
    | with_reducible apply Still.ite
    | with_reducible apply State.journal_still
    | with_reducible apply State.atNextEdge_still
    | with_reducible apply State.done_still
    | with_reducible apply Still.foldl
    | with_reducible apply Still.foldl1
    | intro _ _ _
    | intro _ _
    | (fail_if_no_progress (with_reducible refine Still.upd ?_ rfl rfl))
    | dsimp only
    | split

theorem execJournalDisable_still {vt : Vital} {c : CmdId} {s : State} (hv : Still vt s.vital) {t : State}
    (e : execJournalDisable c s = .next t) : Still vt t.vital := by
  cases e
  try dsimp only
  repeat' first
    | with_reducible assumption
    | with_reducible apply Still.ite
    | with_reducible apply State.atNextEdge_still
    | with_reducible apply State.done_still
    | with_reducible apply Still.foldl
    | with_reducible apply Still.foldl1
    | intro _ _ _
    | intro _ _
    | (fail_if_no_progress (with_reducible refine Still.upd ?_ rfl rfl))
    | dsimp only
    | split

theorem execMark_still {vt : Vital} {c : CmdId} {s : State} (hv : Still vt s.vital) {t : State}
    (e : execMark c s = .next t) : Still vt t.vital := by
  cases e
  try dsimp only
  repeat' first
    | with_reducible assumption
    | with_reducible apply Still.ite
    | with_reducible apply State.done_still
    | with_reducible apply Still.foldl
    | with_reducible apply Still.foldl1
    | intro _ _ _
    | intro _ _
    | (fail_if_no_progress (with_reducible refine Still.upd ?_ rfl rfl))
    | dsimp only
    | split

theorem State.tapCycle_keeps {vt : Vital} {s : State} {c : Cmd} {p x0 i : Nat} (hv : Keeps vt s.vital) : Keeps vt (State.tapCycle s c p x0 i).vital := by
  unfold State.tapCycle
  try dsimp only
  repeat' first
    | with_reducible assumption
    | with_reducible apply Keeps.ite
    | with_reducible apply State.readRow_keeps
    | with_reducible apply Keeps.via (State.journal_still (Still.refl _))
    | with_reducible apply Keeps.foldl
    | with_reducible apply Keeps.foldl1
    | intro _ _ _
    | intro _ _
    | (fail_if_no_progress (with_reducible refine Keeps.upd ?_ rfl rfl))
    | dsimp only
    | split

theorem State.tap_keeps {vt : Vital} {s : State} {c : Cmd} {p lim : Nat} (hv : Keeps vt s.vital) : Keeps vt (State.tap s c p lim).vital := by
  unfold State.tap
  try dsimp only
  repeat' first
    | with_reducible assumption
    | with_reducible apply Keeps.ite
    | with_reducible apply Keeps.via (State.journal_still (Still.refl _))
    | with_reducible apply State.tapCycle_keeps
    | with_reducible apply Keeps.via (State.setUpto_still (Still.refl _))
    | with_reducible apply Keeps.via (State.modPart_still (Still.refl _))
    | with_reducible apply Keeps.via (State.done_still (Still.refl _))
    | with_reducible apply Keeps.foldl
    | with_reducible apply Keeps.foldl1
    | intro _ _ _
    | intro _ _
    | (fail_if_no_progress (with_reducible refine Keeps.upd ?_ rfl rfl))
    | dsimp only
    | split

theorem execTap_keeps {vt : Vital} {c : CmdId} {s : State} (hv : Keeps vt s.vital) {t : State}
    (e : execTap c s = .next t) : Keeps vt t.vital := by
  cases e
  try dsimp only
  repeat' first
    | with_reducible assumption
    | with_reducible apply Keeps.ite
    | with_reducible apply State.tap_keeps
    | with_reducible apply Keeps.foldl
    | with_reducible apply Keeps.foldl1
    | intro _ _ _
    | intro _ _
    | (fail_if_no_progress (with_reducible refine Keeps.upd ?_ rfl rfl))
    | dsimp only
    | split

end Sys2Proof.Machine
end

