-- ==== Sys2Proof/Laws/KeepTasks.lean ====
section
/-! SUPPORT. What the functions of Machine/Tasks.lean leave as it should be (Laws/Vital.lean). -/

namespace Sys2Proof.Machine

set_option linter.unreachableTactic false
set_option linter.unusedTactic false
set_option linter.unusedVariables false

theorem State.fixAnchor_still {vt : Vital} {s : State} {p : Nat} {t : Task} (hv : Still vt s.vital) : Still vt (State.fixAnchor s p t).vital := by
  unfold State.fixAnchor
  try dsimp only
  repeat' first
    | with_reducible assumption
    | with_reducible apply Still.ite
    | with_reducible apply State.modRun_still
    | with_reducible apply State.showTask_still
    | with_reducible apply Still.foldl
    | with_reducible apply Still.foldl1
    | intro _ _ _
    | intro _ _
    | (fail_if_no_progress (with_reducible refine Still.upd ?_ rfl rfl))
    | dsimp only
    | split

theorem execTaskFetched_still {vt : Vital} {p : Fin 16} {s : State} (hv : Still vt s.vital) {t : State}
    (e : execTaskFetched p s = .next t) : Still vt t.vital := by
  cases e
  try dsimp only
  repeat' first
    | with_reducible assumption
    | with_reducible apply Still.ite
    | with_reducible apply State.fixAnchor_still
    | with_reducible apply Still.foldl
    | with_reducible apply Still.foldl1
    | intro _ _ _
    | intro _ _
    | (fail_if_no_progress (with_reducible refine Still.upd ?_ rfl rfl))
    | dsimp only
    | split

theorem State.startTask_still {vt : Vital} {s : State} {p : Nat} {t : Task} (hv : Still vt s.vital) : Still vt (State.startTask s p t).vital := by
  unfold State.startTask
  try dsimp only
  repeat' first
    | with_reducible assumption
    | with_reducible apply Still.ite
    | with_reducible apply State.put_still
    | with_reducible apply State.modRun_still
    | with_reducible apply Still.foldl
    | with_reducible apply Still.foldl1
    | intro _ _ _
    | intro _ _
    | (fail_if_no_progress (with_reducible refine Still.upd ?_ rfl rfl))
    | dsimp only
    | split

theorem State.taskHeader_still {vt : Vital} {s : State} {p : Nat} {t : Task} {c : Cmd} (hv : Still vt s.vital) : Still vt (State.taskHeader s p t c).vital := by
  unfold State.taskHeader
  try dsimp only
  repeat' first
    | with_reducible assumption
    | with_reducible apply Still.ite
    | with_reducible apply State.journalTaskBegin_still
    | with_reducible apply State.refuse_still
    | with_reducible apply State.startTask_still
    | with_reducible apply State.setCmd_still
    | with_reducible apply Still.foldl
    | with_reducible apply Still.foldl1
    | intro _ _ _
    | intro _ _
    | (fail_if_no_progress (with_reducible refine Still.upd ?_ rfl rfl))
    | dsimp only
    | split

theorem execTaskHeader_still {vt : Vital} {p : Fin 16} {s : State} (hv : Still vt s.vital) {t : State}
    (e : execTaskHeader p s = .next t) : Still vt t.vital := by
  cases e
  try dsimp only
  repeat' first
    | with_reducible assumption
    | with_reducible apply Still.ite
    | with_reducible apply State.taskHeader_still
    | with_reducible apply Still.foldl
    | with_reducible apply Still.foldl1
    | intro _ _ _
    | intro _ _
    | (fail_if_no_progress (with_reducible refine Still.upd ?_ rfl rfl))
    | dsimp only
    | split

theorem State.showPaths_still {vt : Vital} {s : State} {c : Cmd} {p : Nat} (hv : Still vt s.vital) : Still vt (State.showPaths s c p).vital := by
  unfold State.showPaths
  try dsimp only
  repeat' first
    | with_reducible assumption
    | with_reducible apply Still.ite
    | with_reducible apply State.put_still
    | with_reducible apply Still.foldl
    | with_reducible apply Still.foldl1
    | intro _ _ _
    | intro _ _
    | (fail_if_no_progress (with_reducible refine Still.upd ?_ rfl rfl))
    | dsimp only
    | split

theorem State.noteHeader_still {vt : Vital} {s : State} {c : Cmd} (hv : Still vt s.vital) : Still vt (State.noteHeader s c).vital := by
  unfold State.noteHeader
  try dsimp only
  repeat' first
    | with_reducible assumption
    | with_reducible apply Still.ite
    | with_reducible apply State.modRun_still
    | with_reducible apply Still.foldl
    | with_reducible apply Still.foldl1
    | intro _ _ _
    | intro _ _
    | (fail_if_no_progress (with_reducible refine Still.upd ?_ rfl rfl))
    | dsimp only
    | split

theorem State.writeTaps_still {vt : Vital} {s : State} {c : Cmd} {p : Nat} (hv : Still vt s.vital) : Still vt (State.writeTaps s c p).vital := by
  unfold State.writeTaps
  try dsimp only
  repeat' first
    | with_reducible assumption
    | with_reducible apply Still.ite
    | with_reducible apply State.journal_still
    | with_reducible apply State.modPart_still
    | with_reducible apply State.journalTap_still
    | with_reducible apply Still.foldl
    | with_reducible apply Still.foldl1
    | intro _ _ _
    | intro _ _
    | (fail_if_no_progress (with_reducible refine Still.upd ?_ rfl rfl))
    | dsimp only
    | split

theorem State.barrier_still {vt : Vital} {s : State} {c : Cmd} {p : Nat} (hv : Still vt s.vital) : Still vt (State.barrier s c p).vital := by
  unfold State.barrier
  try dsimp only
  repeat' first
    | with_reducible assumption
    | with_reducible apply Still.ite
    | with_reducible apply State.done_still
    | with_reducible apply Still.foldl
    | with_reducible apply Still.foldl1
    | intro _ _ _
    | intro _ _
    | (fail_if_no_progress (with_reducible refine Still.upd ?_ rfl rfl))
    | dsimp only
    | split

theorem State.stepTo_keeps {vt : Vital} {s : State} {c : Cmd} {p lim : Nat} (hv : Keeps vt s.vital) : Keeps vt (State.stepTo s c p lim).vital := by
  unfold State.stepTo
  try dsimp only
  repeat' first
    | with_reducible assumption
    | with_reducible apply Keeps.ite
    | with_reducible apply Keeps.via (State.ownWide_still (Still.refl _))
    | with_reducible apply Keeps.via (State.wmatmul_still (Still.refl _))
    | with_reducible apply Keeps.via (State.wmatmulSpec_still (Still.refl _))
    | with_reducible apply Keeps.via (State.wvector_still (Still.refl _))
    | with_reducible apply Keeps.via (State.wconv_still (Still.refl _))
    | with_reducible apply Keeps.via (State.wsample_still (Still.refl _))
    | with_reducible apply State.streamStep_keeps
    | with_reducible apply State.routeCommit_keeps
    | with_reducible apply State.resideStep_keeps
    | with_reducible apply State.writeback_keeps
    | with_reducible apply State.bcast_keeps
    | with_reducible apply State.reduce1_keeps
    | with_reducible apply State.move_keeps
    | with_reducible apply Keeps.via (State.journal_still (Still.refl _))
    | with_reducible apply State.tap_keeps
    | with_reducible apply Keeps.via (State.barrier_still (Still.refl _))
    | with_reducible apply Keeps.foldl
    | with_reducible apply Keeps.foldl1
    | intro _ _ _
    | intro _ _
    | (fail_if_no_progress (with_reducible refine Keeps.upd ?_ rfl rfl))
    | dsimp only
    | split

theorem State.roundTo_keeps {vt : Vital} {s : State} {p lim : Nat} (hv : Keeps vt s.vital) : Keeps vt (State.roundTo s p lim).vital := by
  unfold State.roundTo
  try dsimp only
  repeat' first
    | with_reducible assumption
    | with_reducible apply Keeps.ite
    | with_reducible apply State.stepTo_keeps
    | with_reducible apply Keeps.foldl
    | with_reducible apply Keeps.foldl1
    | intro _ _ _
    | intro _ _
    | (fail_if_no_progress (with_reducible refine Keeps.upd ?_ rfl rfl))
    | dsimp only
    | split

theorem State.runAll_keeps {vt : Vital} {s : State} {p lim : Nat} {vx : Nat} (hv : Keeps vt s.vital) : Keeps vt (State.runAll s p lim vx).vital := by
  induction vx generalizing s p lim with
  | zero =>
    unfold State.runAll
    try dsimp only
    repeat' first
      | with_reducible assumption
      | with_reducible apply Keeps.ite
      | with_reducible apply State.roundTo_keeps
      | with_reducible apply Keeps.foldl
      | with_reducible apply Keeps.foldl1
      | intro _ _ _
      | intro _ _
      | (fail_if_no_progress (with_reducible refine Keeps.upd ?_ rfl rfl))
      | dsimp only
      | split
  | succ k2 ih =>
    unfold State.runAll
    try dsimp only
    repeat' first
      | with_reducible apply ih
      | with_reducible assumption
      | with_reducible apply Keeps.ite
      | with_reducible apply State.roundTo_keeps
      | with_reducible apply Keeps.foldl
      | with_reducible apply Keeps.foldl1
      | intro _ _ _
      | intro _ _
      | (fail_if_no_progress (with_reducible refine Keeps.upd ?_ rfl rfl))
      | dsimp only
      | split

theorem State.meetFault_still {vt : Vital} {s : State} {c : Cmd} (hv : Still vt s.vital) : Still vt (State.meetFault s c).vital := by
  unfold State.meetFault
  try dsimp only
  repeat' first
    | with_reducible assumption
    | with_reducible apply Still.ite
    | with_reducible apply State.mark_still
    | with_reducible apply State.abort_still
    | with_reducible apply Still.foldl
    | with_reducible apply Still.foldl1
    | intro _ _ _
    | intro _ _
    | (fail_if_no_progress (with_reducible refine Still.upd ?_ rfl rfl))
    | dsimp only
    | split

theorem State.catchUpN_keeps {vt : Vital} {s : State} {p lim : Nat} {vx : Nat} (hv : Keeps vt s.vital) : Keeps vt (State.catchUpN s p lim vx).vital := by
  induction vx generalizing s p lim with
  | zero =>
    unfold State.catchUpN
    try dsimp only
    repeat' first
      | with_reducible assumption
      | with_reducible apply Keeps.ite
      | with_reducible apply State.runAll_keeps
      | with_reducible apply State.advance_keeps
      | with_reducible apply Keeps.via (State.meetFault_still (Still.refl _))
      | with_reducible apply Keeps.foldl
      | with_reducible apply Keeps.foldl1
      | intro _ _ _
      | intro _ _
      | (fail_if_no_progress (with_reducible refine Keeps.upd ?_ rfl rfl))
      | dsimp only
      | split
  | succ k2 ih =>
    unfold State.catchUpN
    try dsimp only
    repeat' first
      | with_reducible apply ih
      | with_reducible assumption
      | with_reducible apply Keeps.ite
      | with_reducible apply State.runAll_keeps
      | with_reducible apply State.advance_keeps
      | with_reducible apply Keeps.via (State.meetFault_still (Still.refl _))
      | with_reducible apply Keeps.foldl
      | with_reducible apply Keeps.foldl1
      | intro _ _ _
      | intro _ _
      | (fail_if_no_progress (with_reducible refine Keeps.upd ?_ rfl rfl))
      | dsimp only
      | split

theorem State.catchUp_keeps {vt : Vital} {s : State} {p lim : Nat} (hv : Keeps vt s.vital) : Keeps vt (State.catchUp s p lim).vital := by
  unfold State.catchUp
  try dsimp only
  repeat' first
    | with_reducible assumption
    | with_reducible apply Keeps.ite
    | with_reducible apply State.catchUpN_keeps
    | with_reducible apply Keeps.foldl
    | with_reducible apply Keeps.foldl1
    | intro _ _ _
    | intro _ _
    | (fail_if_no_progress (with_reducible refine Keeps.upd ?_ rfl rfl))
    | dsimp only
    | split

theorem State.retireEffect_still {vt : Vital} {s : State} {c : Cmd} {p : Nat} (hv : Still vt s.vital) : Still vt (State.retireEffect s c p).vital := by
  unfold State.retireEffect
  try dsimp only
  repeat' first
    | with_reducible assumption
    | with_reducible apply Still.ite
    | with_reducible apply State.showPaths_still
    | with_reducible apply State.changeWindows_still
    | with_reducible apply State.journal_still
    | with_reducible apply State.writeTaps_still
    | with_reducible apply State.inc_still
    | with_reducible apply Still.foldl
    | with_reducible apply Still.foldl1
    | intro _ _ _
    | intro _ _
    | (fail_if_no_progress (with_reducible refine Still.upd ?_ rfl rfl))
    | dsimp only
    | split

theorem State.writeMark_still {vt : Vital} {s : State} {c : Cmd} (hv : Still vt s.vital) : Still vt (State.writeMark s c).vital := by
  unfold State.writeMark
  try dsimp only
  repeat' first
    | with_reducible assumption
    | with_reducible apply Still.ite
    | with_reducible apply State.journal_still
    | with_reducible apply State.journalMark_still
    | with_reducible apply Still.foldl
    | with_reducible apply Still.foldl1
    | intro _ _ _
    | intro _ _
    | (fail_if_no_progress (with_reducible refine Still.upd ?_ rfl rfl))
    | dsimp only
    | split

theorem State.retireNow_still {vt : Vital} {s : State} {c : Cmd} (hv : Still vt s.vital) : Still vt (State.retireNow s c).vital := by
  unfold State.retireNow
  try dsimp only
  repeat' first
    | with_reducible assumption
    | with_reducible apply Still.ite
    | with_reducible apply State.retireEffect_still
    | with_reducible apply State.writeMark_still
    | with_reducible apply State.noteHeader_still
    | with_reducible apply State.retire_still
    | with_reducible apply Still.foldl
    | with_reducible apply Still.foldl1
    | intro _ _ _
    | intro _ _
    | (fail_if_no_progress (with_reducible refine Still.upd ?_ rfl rfl))
    | dsimp only
    | split

theorem State.endAt_keeps {vt : Vital} {s : State} {c : Cmd} {p x : Nat} (hv : Keeps vt s.vital) : Keeps vt (State.endAt s c p x).vital := by
  unfold State.endAt
  try dsimp only
  repeat' first
    | with_reducible assumption
    | with_reducible apply Keeps.ite
    | with_reducible apply State.catchUp_keeps
    | with_reducible apply State.advance_keeps
    | with_reducible apply Keeps.via (State.meetFault_still (Still.refl _))
    | with_reducible apply Keeps.via (State.retireNow_still (Still.refl _))
    | with_reducible apply Keeps.foldl
    | with_reducible apply Keeps.foldl1
    | intro _ _ _
    | intro _ _
    | (fail_if_no_progress (with_reducible refine Keeps.upd ?_ rfl rfl))
    | dsimp only
    | split

theorem State.partRetire_keeps {vt : Vital} {s : State} {c : Cmd} {p : Nat} (hv : Keeps vt s.vital) : Keeps vt (State.partRetire s c p).vital := by
  unfold State.partRetire
  try dsimp only
  repeat' first
    | with_reducible assumption
    | with_reducible apply Keeps.ite
    | with_reducible apply State.catchUp_keeps
    | with_reducible apply State.endAt_keeps
    | with_reducible apply Keeps.foldl
    | with_reducible apply Keeps.foldl1
    | intro _ _ _
    | intro _ _
    | (fail_if_no_progress (with_reducible refine Keeps.upd ?_ rfl rfl))
    | dsimp only
    | split

theorem State.commandRetire_keeps {vt : Vital} {s : State} {c : Cmd} (hv : Keeps vt s.vital) : Keeps vt (State.commandRetire s c).vital := by
  unfold State.commandRetire
  try dsimp only
  repeat' first
    | with_reducible assumption
    | with_reducible apply Keeps.ite
    | with_reducible apply State.partRetire_keeps
    | with_reducible apply State.advance_keeps
    | with_reducible apply Keeps.via (State.meetFault_still (Still.refl _))
    | with_reducible apply Keeps.via (State.retireNow_still (Still.refl _))
    | with_reducible apply Keeps.foldl
    | with_reducible apply Keeps.foldl1
    | intro _ _ _
    | intro _ _
    | (fail_if_no_progress (with_reducible refine Keeps.upd ?_ rfl rfl))
    | dsimp only
    | split

theorem execCommandRetire_keeps {vt : Vital} {c : CmdId} {s : State} (hv : Keeps vt s.vital) {t : State}
    (e : execCommandRetire c s = .next t) : Keeps vt t.vital := by
  cases e
  try dsimp only
  repeat' first
    | with_reducible assumption
    | with_reducible apply Keeps.ite
    | with_reducible apply State.commandRetire_keeps
    | with_reducible apply Keeps.foldl
    | with_reducible apply Keeps.foldl1
    | intro _ _ _
    | intro _ _
    | (fail_if_no_progress (with_reducible refine Keeps.upd ?_ rfl rfl))
    | dsimp only
    | split

theorem State.deadlineMiss_still {vt : Vital} {s : State} {c : Cmd} (hv : Still vt s.vital) : Still vt (State.deadlineMiss s c).vital := by
  unfold State.deadlineMiss
  try dsimp only
  repeat' first
    | with_reducible assumption
    | with_reducible apply Still.ite
    | with_reducible apply State.draw_still
    | with_reducible apply State.abortTask_still
    | with_reducible apply State.specStop_still
    | with_reducible apply State.fault_still
    | with_reducible apply State.finish_still
    | with_reducible apply Still.foldl
    | with_reducible apply Still.foldl1
    | intro _ _ _
    | intro _ _
    | (fail_if_no_progress (with_reducible refine Still.upd ?_ rfl rfl))
    | dsimp only
    | split

theorem State.partMiss_keeps {vt : Vital} {s : State} {c : Cmd} {p : Nat} (hv : Keeps vt s.vital) : Keeps vt (State.partMiss s c p).vital := by
  unfold State.partMiss
  try dsimp only
  repeat' first
    | with_reducible assumption
    | with_reducible apply Keeps.ite
    | with_reducible apply State.catchUp_keeps
    | with_reducible apply Keeps.via (State.meetFault_still (Still.refl _))
    | with_reducible apply Keeps.via (State.deadlineMiss_still (Still.refl _))
    | with_reducible apply Keeps.foldl
    | with_reducible apply Keeps.foldl1
    | intro _ _ _
    | intro _ _
    | (fail_if_no_progress (with_reducible refine Keeps.upd ?_ rfl rfl))
    | dsimp only
    | split

theorem execDeadlineMiss_keeps {vt : Vital} {c : CmdId} {s : State} (hv : Keeps vt s.vital) {t : State}
    (e : execDeadlineMiss c s = .next t) : Keeps vt t.vital := by
  cases e
  try dsimp only
  repeat' first
    | with_reducible assumption
    | with_reducible apply Keeps.ite
    | with_reducible apply State.partMiss_keeps
    | with_reducible apply Keeps.via (State.deadlineMiss_still (Still.refl _))
    | with_reducible apply Keeps.foldl
    | with_reducible apply Keeps.foldl1
    | intro _ _ _
    | intro _ _
    | (fail_if_no_progress (with_reducible refine Keeps.upd ?_ rfl rfl))
    | dsimp only
    | split

theorem execNop_still {vt : Vital} {c : CmdId} {s : State} (hv : Still vt s.vital) {t : State}
    (e : execNop c s = .next t) : Still vt t.vital := by
  cases e
  try dsimp only
  repeat' first
    | with_reducible assumption
    | with_reducible apply Still.ite
    | with_reducible apply State.done_still
    | with_reducible apply Still.foldl
    | with_reducible apply Still.foldl1
    | intro _ _ _
    | intro _ _
    | (fail_if_no_progress (with_reducible refine Still.upd ?_ rfl rfl))
    | dsimp only
    | split

theorem execFenceWait_still {vt : Vital} {c : CmdId} {s : State} (hv : Still vt s.vital) {t : State}
    (e : execFenceWait c s = .next t) : Still vt t.vital := by
  cases e
  try dsimp only
  repeat' first
    | with_reducible assumption
    | with_reducible apply Still.ite
    | with_reducible apply State.done_still
    | with_reducible apply Still.foldl
    | with_reducible apply Still.foldl1
    | intro _ _ _
    | intro _ _
    | (fail_if_no_progress (with_reducible refine Still.upd ?_ rfl rfl))
    | dsimp only
    | split

theorem execFenceSignal_still {vt : Vital} {c : CmdId} {s : State} (hv : Still vt s.vital) {t : State}
    (e : execFenceSignal c s = .next t) : Still vt t.vital := by
  cases e
  try dsimp only
  repeat' first
    | with_reducible assumption
    | with_reducible apply Still.ite
    | with_reducible apply State.done_still
    | with_reducible apply Still.foldl
    | with_reducible apply Still.foldl1
    | intro _ _ _
    | intro _ _
    | (fail_if_no_progress (with_reducible refine Still.upd ?_ rfl rfl))
    | dsimp only
    | split

theorem execBarrier_still {vt : Vital} {c : CmdId} {s : State} (hv : Still vt s.vital) {t : State}
    (e : execBarrier c s = .next t) : Still vt t.vital := by
  cases e
  try dsimp only
  repeat' first
    | with_reducible assumption
    | with_reducible apply Still.ite
    | with_reducible apply State.barrier_still
    | with_reducible apply State.done_still
    | with_reducible apply Still.foldl
    | with_reducible apply Still.foldl1
    | intro _ _ _
    | intro _ _
    | (fail_if_no_progress (with_reducible refine Still.upd ?_ rfl rfl))
    | dsimp only
    | split

theorem State.forecast_still {vt : Vital} {s : State} {c : Cmd} {p : Nat} (hv : Still vt s.vital) : Still vt (State.forecast s c p).vital := by
  unfold State.forecast
  try dsimp only
  repeat' first
    | with_reducible assumption
    | with_reducible apply Still.ite
    | with_reducible apply State.modRun_still
    | with_reducible apply State.done_still
    | with_reducible apply Still.foldl
    | with_reducible apply Still.foldl1
    | intro _ _ _
    | intro _ _
    | (fail_if_no_progress (with_reducible refine Still.upd ?_ rfl rfl))
    | dsimp only
    | split

theorem execForecast_still {vt : Vital} {c : CmdId} {s : State} (hv : Still vt s.vital) {t : State}
    (e : execForecast c s = .next t) : Still vt t.vital := by
  cases e
  try dsimp only
  repeat' first
    | with_reducible assumption
    | with_reducible apply Still.ite
    | with_reducible apply State.forecast_still
    | with_reducible apply Still.foldl
    | with_reducible apply Still.foldl1
    | intro _ _ _
    | intro _ _
    | (fail_if_no_progress (with_reducible refine Still.upd ?_ rfl rfl))
    | dsimp only
    | split

end Sys2Proof.Machine
end

