-- ==== Sys2Proof/Laws/KeepParts.lean ====
section
/-! SUPPORT. What the functions of Machine/Parts.lean leave as it should be (Laws/Vital.lean). -/

namespace Sys2Proof.Machine

set_option linter.unreachableTactic false
set_option linter.unusedTactic false
set_option linter.unusedVariables false

theorem State.failCheck_still {vt : Vital} {s : State} {c : Cmd} {p : Nat} {x : Nat × Nat × Nat} (hv : Still vt s.vital) : Still vt (State.failCheck s c p x).vital := by
  unfold State.failCheck
  try dsimp only
  repeat' first
    | with_reducible assumption
    | with_reducible apply Still.ite
    | with_reducible apply State.put_still
    | with_reducible apply State.abort_still
    | with_reducible apply Still.foldl
    | with_reducible apply Still.foldl1
    | intro _ _ _
    | intro _ _
    | (fail_if_no_progress (with_reducible refine Still.upd ?_ rfl rfl))
    | dsimp only
    | split

theorem State.rebase_still {vt : Vital} {s : State} (hv : Still vt s.vital) : Still vt (State.rebase s).vital := by
  unfold State.rebase
  try dsimp only
  repeat' first
    | with_reducible assumption
    | with_reducible apply Still.ite
    | with_reducible apply State.put_still
    | with_reducible apply Still.foldl
    | with_reducible apply Still.foldl1
    | intro _ _ _
    | intro _ _
    | (fail_if_no_progress (with_reducible refine Still.upd ?_ rfl rfl))
    | dsimp only
    | split

theorem State.bindCores_still {vt : Vital} {s : State} {p : Nat} {v : Shape} (hv : Still vt s.vital) : Still vt (State.bindCores s p v).vital := by
  unfold State.bindCores
  try dsimp only
  repeat' first
    | with_reducible assumption
    | with_reducible apply Still.ite
    | with_reducible apply State.put_still
    | with_reducible apply Still.foldl
    | with_reducible apply Still.foldl1
    | intro _ _ _
    | intro _ _
    | (fail_if_no_progress (with_reducible refine Still.upd ?_ rfl rfl))
    | dsimp only
    | split

theorem State.freeCore_still {vt : Vital} {s : State} {n : Nat} (hv : Still vt s.vital) : Still vt (State.freeCore s n).vital := by
  unfold State.freeCore
  try dsimp only
  repeat' first
    | with_reducible assumption
    | with_reducible apply Still.ite
    | with_reducible apply State.put_still
    | with_reducible apply Still.foldl
    | with_reducible apply Still.foldl1
    | intro _ _ _
    | intro _ _
    | (fail_if_no_progress (with_reducible refine Still.upd ?_ rfl rfl))
    | dsimp only
    | split

theorem State.putShape_still {vt : Vital} {s : State} {p : Nat} {v : Shape} (hv : Still vt s.vital) : Still vt (State.putShape s p v).vital := by
  unfold State.putShape
  try dsimp only
  repeat' first
    | with_reducible assumption
    | with_reducible apply Still.ite
    | with_reducible apply State.modBind_still
    | with_reducible apply State.bindCores_still
    | with_reducible apply State.put_still
    | with_reducible apply State.rebase_still
    | with_reducible apply Still.foldl
    | with_reducible apply Still.foldl1
    | intro _ _ _
    | intro _ _
    | (fail_if_no_progress (with_reducible refine Still.upd ?_ rfl rfl))
    | dsimp only
    | split

theorem State.emptySlots_still {vt : Vital} {s : State} {p : Nat} (hv : Still vt s.vital) : Still vt (State.emptySlots s p).vital := by
  unfold State.emptySlots
  try dsimp only
  repeat' first
    | with_reducible assumption
    | with_reducible apply Still.ite
    | with_reducible apply State.clearSlot_still
    | with_reducible apply Still.foldl
    | with_reducible apply Still.foldl1
    | intro _ _ _
    | intro _ _
    | (fail_if_no_progress (with_reducible refine Still.upd ?_ rfl rfl))
    | dsimp only
    | split

theorem State.restoreSlot_still {vt : Vital} {s : State} {p h : Nat} {v : Slot} {stat : Nat} (hv : Still vt s.vital) : Still vt (State.restoreSlot s p h v stat).vital := by
  unfold State.restoreSlot
  try dsimp only
  repeat' first
    | with_reducible assumption
    | with_reducible apply Still.ite
    | with_reducible apply State.setSlot_still
    | with_reducible apply State.put_still
    | with_reducible apply Still.foldl
    | with_reducible apply Still.foldl1
    | intro _ _ _
    | intro _ _
    | (fail_if_no_progress (with_reducible refine Still.upd ?_ rfl rfl))
    | dsimp only
    | split

theorem State.freshKeys_still {vt : Vital} {s : State} {p : Nat} (hv : Still vt s.vital) : Still vt (State.freshKeys s p).vital := by
  unfold State.freshKeys
  try dsimp only
  repeat' first
    | with_reducible assumption
    | with_reducible apply Still.ite
    | with_reducible apply State.draw_still
    | with_reducible apply State.modPart_still
    | with_reducible apply State.putA_still
    | with_reducible apply Still.foldl
    | with_reducible apply Still.foldl1
    | intro _ _ _
    | intro _ _
    | (fail_if_no_progress (with_reducible refine Still.upd ?_ rfl rfl))
    | dsimp only
    | split

theorem State.eraseKeys_still {vt : Vital} {s : State} {p : Nat} (hv : Still vt s.vital) : Still vt (State.eraseKeys s p).vital := by
  unfold State.eraseKeys
  try dsimp only
  repeat' first
    | with_reducible assumption
    | with_reducible apply Still.ite
    | with_reducible apply State.modPart_still
    | with_reducible apply State.putA_still
    | with_reducible apply State.put_still
    | with_reducible apply Still.foldl
    | with_reducible apply Still.foldl1
    | intro _ _ _
    | intro _ _
    | (fail_if_no_progress (with_reducible refine Still.upd ?_ rfl rfl))
    | dsimp only
    | split

theorem State.create_still {vt : Vital} {s : State} {c : Cmd} {p : Nat} {v : Shape} (hv : Still vt s.vital) : Still vt (State.create s c p v).vital := by
  unfold State.create
  try dsimp only
  repeat' first
    | with_reducible assumption
    | with_reducible apply Still.ite
    | with_reducible apply State.put_still
    | with_reducible apply State.clearCore_still
    | with_reducible apply State.putShape_still
    | with_reducible apply State.emptySlots_still
    | with_reducible apply State.restoreSlot_still
    | with_reducible apply State.modBind_still
    | with_reducible apply State.putA_still
    | with_reducible apply State.freshKeys_still
    | with_reducible apply State.done_still
    | with_reducible apply Still.foldl
    | with_reducible apply Still.foldl1
    | intro _ _ _
    | intro _ _
    | (fail_if_no_progress (with_reducible refine Still.upd ?_ rfl rfl))
    | dsimp only
    | split

theorem execPartCreate_still {vt : Vital} {c : CmdId} {s : State} (hv : Still vt s.vital) {t : State}
    (e : execPartCreate c s = .next t) : Still vt t.vital := by
  cases e
  try dsimp only
  repeat' first
    | with_reducible assumption
    | with_reducible apply Still.ite
    | with_reducible apply State.failCheck_still
    | with_reducible apply State.create_still
    | with_reducible apply Still.foldl
    | with_reducible apply Still.foldl1
    | intro _ _ _
    | intro _ _
    | (fail_if_no_progress (with_reducible refine Still.upd ?_ rfl rfl))
    | dsimp only
    | split

theorem State.armResize_still {vt : Vital} {s : State} {c : Cmd} {p : Nat} {v : Shape} (hv : Still vt s.vital) : Still vt (State.armResize s c p v).vital := by
  unfold State.armResize
  try dsimp only
  repeat' first
    | with_reducible assumption
    | with_reducible apply Still.ite
    | with_reducible apply State.put_still
    | with_reducible apply State.modBind_still
    | with_reducible apply State.done_still
    | with_reducible apply Still.foldl
    | with_reducible apply Still.foldl1
    | intro _ _ _
    | intro _ _
    | (fail_if_no_progress (with_reducible refine Still.upd ?_ rfl rfl))
    | dsimp only
    | split

theorem execPartResize_still {vt : Vital} {c : CmdId} {s : State} (hv : Still vt s.vital) {t : State}
    (e : execPartResize c s = .next t) : Still vt t.vital := by
  cases e
  try dsimp only
  repeat' first
    | with_reducible assumption
    | with_reducible apply Still.ite
    | with_reducible apply State.failCheck_still
    | with_reducible apply State.armResize_still
    | with_reducible apply Still.foldl
    | with_reducible apply Still.foldl1
    | intro _ _ _
    | intro _ _
    | (fail_if_no_progress (with_reducible refine Still.upd ?_ rfl rfl))
    | dsimp only
    | split

theorem State.releasePages_still {vt : Vital} {s : State} {p : Nat} {old new : List Nat} (hv : Still vt s.vital) : Still vt (State.releasePages s p old new).vital := by
  unfold State.releasePages
  try dsimp only
  repeat' first
    | with_reducible assumption
    | with_reducible apply Still.ite
    | with_reducible apply State.queuePage_still
    | with_reducible apply State.unmapPage_still
    | with_reducible apply Still.foldl
    | with_reducible apply Still.foldl1
    | intro _ _ _
    | intro _ _
    | (fail_if_no_progress (with_reducible refine Still.upd ?_ rfl rfl))
    | dsimp only
    | split

theorem State.rebindSlots_still {vt : Vital} {s : State} {p : Nat} {first : List Nat} (hv : Still vt s.vital) : Still vt (State.rebindSlots s p first).vital := by
  unfold State.rebindSlots
  try dsimp only
  repeat' first
    | with_reducible assumption
    | with_reducible apply Still.ite
    | with_reducible apply State.put_still
    | with_reducible apply State.modBind_still
    | with_reducible apply Still.foldl
    | with_reducible apply Still.foldl1
    | intro _ _ _
    | intro _ _
    | (fail_if_no_progress (with_reducible refine Still.upd ?_ rfl rfl))
    | dsimp only
    | split

theorem State.resize_still {vt : Vital} {s : State} {p : Nat} {v : Shape} (hv : Still vt s.vital) : Still vt (State.resize s p v).vital := by
  unfold State.resize
  try dsimp only
  repeat' first
    | with_reducible assumption
    | with_reducible apply Still.ite
    | with_reducible apply State.clearCore_still
    | with_reducible apply State.freeCore_still
    | with_reducible apply State.putShape_still
    | with_reducible apply State.releasePages_still
    | with_reducible apply State.put_still
    | with_reducible apply State.modBind_still
    | with_reducible apply State.rebindSlots_still
    | with_reducible apply Still.foldl
    | with_reducible apply Still.foldl1
    | intro _ _ _
    | intro _ _
    | (fail_if_no_progress (with_reducible refine Still.upd ?_ rfl rfl))
    | dsimp only
    | split

theorem State.cancelResize_still {vt : Vital} {s : State} {p : Nat} (hv : Still vt s.vital) : Still vt (State.cancelResize s p).vital := by
  unfold State.cancelResize
  try dsimp only
  repeat' first
    | with_reducible assumption
    | with_reducible apply Still.ite
    | with_reducible apply State.put_still
    | with_reducible apply State.modBind_still
    | with_reducible apply State.partEvent_still
    | with_reducible apply Still.foldl
    | with_reducible apply Still.foldl1
    | intro _ _ _
    | intro _ _
    | (fail_if_no_progress (with_reducible refine Still.upd ?_ rfl rfl))
    | dsimp only
    | split

theorem State.resizeEffect_still {vt : Vital} {s : State} {p : Nat} {b : Bytes} (hv : Still vt s.vital) : Still vt (State.resizeEffect s p b).vital := by
  unfold State.resizeEffect
  try dsimp only
  repeat' first
    | with_reducible assumption
    | with_reducible apply Still.ite
    | with_reducible apply State.put_still
    | with_reducible apply State.cancelResize_still
    | with_reducible apply State.resize_still
    | with_reducible apply Still.foldl
    | with_reducible apply Still.foldl1
    | intro _ _ _
    | intro _ _
    | (fail_if_no_progress (with_reducible refine Still.upd ?_ rfl rfl))
    | dsimp only
    | split

theorem execResizeEffect_still {vt : Vital} {p : Fin 16} {s : State} (hv : Still vt s.vital) {t : State}
    (e : execResizeEffect p s = .next t) : Still vt t.vital := by
  cases e
  try dsimp only
  repeat' first
    | with_reducible assumption
    | with_reducible apply Still.ite
    | with_reducible apply State.resizeEffect_still
    | with_reducible apply Still.foldl
    | with_reducible apply Still.foldl1
    | intro _ _ _
    | intro _ _
    | (fail_if_no_progress (with_reducible refine Still.upd ?_ rfl rfl))
    | dsimp only
    | split

theorem State.resetNext_still {vt : Vital} {s : State} {p : Nat} {records : Bool} (hv : Still vt s.vital) : Still vt (State.resetNext s p records).vital := by
  unfold State.resetNext
  try dsimp only
  repeat' first
    | with_reducible assumption
    | with_reducible apply Still.ite
    | with_reducible apply State.finish_still
    | with_reducible apply State.dropCmd_still
    | with_reducible apply State.modRun_still
    | with_reducible apply State.showTask_still
    | with_reducible apply Still.foldl
    | with_reducible apply Still.foldl1
    | intro _ _ _
    | intro _ _
    | (fail_if_no_progress (with_reducible refine Still.upd ?_ rfl rfl))
    | dsimp only
    | split

theorem State.resetPart_still {vt : Vital} {s : State} {p cause : Nat} {records : Bool} (hv : Still vt s.vital) : Still vt (State.resetPart s p cause records).vital := by
  unfold State.resetPart
  try dsimp only
  repeat' first
    | with_reducible assumption
    | with_reducible apply Still.ite
    | with_reducible apply State.abortTask_still
    | with_reducible apply State.resetNext_still
    | with_reducible apply State.dropStreams_still
    | with_reducible apply State.clearCore_still
    | with_reducible apply State.put_still
    | with_reducible apply State.cancelResize_still
    | with_reducible apply Still.foldl
    | with_reducible apply Still.foldl1
    | intro _ _ _
    | intro _ _
    | (fail_if_no_progress (with_reducible refine Still.upd ?_ rfl rfl))
    | dsimp only
    | split

theorem State.await_still {vt : Vital} {s : State} {c : Cmd} {p ending : Nat} (hv : Still vt s.vital) : Still vt (State.await s c p ending).vital := by
  unfold State.await
  try dsimp only
  repeat' first
    | with_reducible assumption
    | with_reducible apply Still.ite
    | with_reducible apply State.setCmd_still
    | with_reducible apply State.modBind_still
    | with_reducible apply Still.foldl
    | with_reducible apply Still.foldl1
    | intro _ _ _
    | intro _ _
    | (fail_if_no_progress (with_reducible refine Still.upd ?_ rfl rfl))
    | dsimp only
    | split

theorem State.doneWaiter_still {vt : Vital} {s : State} {p : Nat} (hv : Still vt s.vital) : Still vt (State.doneWaiter s p).vital := by
  unfold State.doneWaiter
  try dsimp only
  repeat' first
    | with_reducible assumption
    | with_reducible apply Still.ite
    | with_reducible apply State.modBind_still
    | with_reducible apply State.done_still
    | with_reducible apply Still.foldl
    | with_reducible apply Still.foldl1
    | intro _ _ _
    | intro _ _
    | (fail_if_no_progress (with_reducible refine Still.upd ?_ rfl rfl))
    | dsimp only
    | split

theorem execPartReset_still {vt : Vital} {c : CmdId} {s : State} (hv : Still vt s.vital) {t : State}
    (e : execPartReset c s = .next t) : Still vt t.vital := by
  cases e
  try dsimp only
  repeat' first
    | with_reducible assumption
    | with_reducible apply Still.ite
    | with_reducible apply State.resetPart_still
    | with_reducible apply State.await_still
    | with_reducible apply State.failCheck_still
    | with_reducible apply Still.foldl
    | with_reducible apply Still.foldl1
    | intro _ _ _
    | intro _ _
    | (fail_if_no_progress (with_reducible refine Still.upd ?_ rfl rfl))
    | dsimp only
    | split

theorem State.destroy_still {vt : Vital} {s : State} {c : Cmd} {p : Nat} (hv : Still vt s.vital) : Still vt (State.destroy s c p).vital := by
  unfold State.destroy
  try dsimp only
  repeat' first
    | with_reducible assumption
    | with_reducible apply Still.ite
    | with_reducible apply State.resetPart_still
    | with_reducible apply State.eraseKeys_still
    | with_reducible apply State.journalSwitchOn_still
    | with_reducible apply State.modBind_still
    | with_reducible apply State.await_still
    | with_reducible apply Still.foldl
    | with_reducible apply Still.foldl1
    | intro _ _ _
    | intro _ _
    | (fail_if_no_progress (with_reducible refine Still.upd ?_ rfl rfl))
    | dsimp only
    | split

theorem execPartDestroy_still {vt : Vital} {c : CmdId} {s : State} (hv : Still vt s.vital) {t : State}
    (e : execPartDestroy c s = .next t) : Still vt t.vital := by
  cases e
  try dsimp only
  repeat' first
    | with_reducible assumption
    | with_reducible apply Still.ite
    | with_reducible apply State.destroy_still
    | with_reducible apply State.failCheck_still
    | with_reducible apply Still.foldl
    | with_reducible apply Still.foldl1
    | intro _ _ _
    | intro _ _
    | (fail_if_no_progress (with_reducible refine Still.upd ?_ rfl rfl))
    | dsimp only
    | split

theorem State.releasePart_still {vt : Vital} {s : State} {p : Nat} (hv : Still vt s.vital) : Still vt (State.releasePart s p).vital := by
  unfold State.releasePart
  try dsimp only
  repeat' first
    | with_reducible assumption
    | with_reducible apply Still.ite
    | with_reducible apply State.freeCore_still
    | with_reducible apply State.put_still
    | with_reducible apply State.modBind_still
    | with_reducible apply State.emptySlots_still
    | with_reducible apply State.releasePages_still
    | with_reducible apply State.rebase_still
    | with_reducible apply State.doneWaiter_still
    | with_reducible apply Still.foldl
    | with_reducible apply Still.foldl1
    | intro _ _ _
    | intro _ _
    | (fail_if_no_progress (with_reducible refine Still.upd ?_ rfl rfl))
    | dsimp only
    | split

theorem State.restartQueue_still {vt : Vital} {s : State} {q : Nat} (hv : Still vt s.vital) : Still vt (State.restartQueue s q).vital := by
  unfold State.restartQueue
  try dsimp only
  repeat' first
    | with_reducible assumption
    | with_reducible apply Still.ite
    | with_reducible apply State.put_still
    | with_reducible apply State.setQueue_still
    | with_reducible apply Still.foldl
    | with_reducible apply Still.foldl1
    | intro _ _ _
    | intro _ _
    | (fail_if_no_progress (with_reducible refine Still.upd ?_ rfl rfl))
    | dsimp only
    | split

theorem execFlr_still {vt : Vital} {p : Fin 16} {s : State} (hv : Still vt s.vital) {t : State}
    (e : execFlr p s = .next t) : Still vt t.vital := by
  cases e
  try dsimp only
  repeat' first
    | with_reducible assumption
    | with_reducible apply Still.ite
    | with_reducible apply State.atNextEdge_still
    | with_reducible apply Still.foldl
    | with_reducible apply Still.foldl1
    | intro _ _ _
    | intro _ _
    | (fail_if_no_progress (with_reducible refine Still.upd ?_ rfl rfl))
    | dsimp only
    | split

theorem State.flrEdge_still {vt : Vital} {s : State} {p : Nat} (hv : Still vt s.vital) : Still vt (State.flrEdge s p).vital := by
  unfold State.flrEdge
  try dsimp only
  repeat' first
    | with_reducible assumption
    | with_reducible apply Still.ite
    | with_reducible apply State.setMsix_still
    | with_reducible apply State.resetPart_still
    | with_reducible apply State.put_still
    | with_reducible apply State.restartQueue_still
    | with_reducible apply State.eraseKeys_still
    | with_reducible apply State.freshKeys_still
    | with_reducible apply State.journalSwitchOn_still
    | with_reducible apply State.modBind_still
    | with_reducible apply Still.foldl
    | with_reducible apply Still.foldl1
    | intro _ _ _
    | intro _ _
    | (fail_if_no_progress (with_reducible refine Still.upd ?_ rfl rfl))
    | dsimp only
    | split

theorem State.bistCleared_still {vt : Vital} {s : State} {n : Nat} (hv : Still vt s.vital) : Still vt (State.bistCleared s n).vital := by
  unfold State.bistCleared
  try dsimp only
  repeat' first
    | with_reducible assumption
    | with_reducible apply Still.ite
    | with_reducible apply State.done_still
    | with_reducible apply State.put_still
    | with_reducible apply Still.foldl
    | with_reducible apply Still.foldl1
    | intro _ _ _
    | intro _ _
    | (fail_if_no_progress (with_reducible refine Still.upd ?_ rfl rfl))
    | dsimp only
    | split

theorem State.resetCleared_still {vt : Vital} {s : State} {n : Nat} (hv : Still vt s.vital) : Still vt (State.resetCleared s n).vital := by
  unfold State.resetCleared
  try dsimp only
  repeat' first
    | with_reducible assumption
    | with_reducible apply Still.ite
    | with_reducible apply State.doneWaiter_still
    | with_reducible apply Still.foldl
    | with_reducible apply Still.foldl1
    | intro _ _ _
    | intro _ _
    | (fail_if_no_progress (with_reducible refine Still.upd ?_ rfl rfl))
    | dsimp only
    | split

theorem execTmemClearDone_keeps {vt : Vital} {n : Fin 96} {s : State} (hv : Keeps vt s.vital) {t : State}
    (e : execTmemClearDone n s = .next t) : Keeps vt t.vital := by
  cases e
  try dsimp only
  repeat' first
    | with_reducible assumption
    | with_reducible apply Keeps.ite
    | with_reducible apply State.advance_keeps
    | with_reducible apply Keeps.via (State.endClear_still (Still.refl _))
    | with_reducible apply Keeps.via (State.resetCleared_still (Still.refl _))
    | with_reducible apply Keeps.via (State.bistCleared_still (Still.refl _))
    | with_reducible apply Keeps.foldl
    | with_reducible apply Keeps.foldl1
    | intro _ _ _
    | intro _ _
    | (fail_if_no_progress (with_reducible refine Keeps.upd ?_ rfl rfl))
    | dsimp only
    | split

theorem State.reshape_still {vt : Vital} {s : State} {p : Nat} {v : Shape} (hv : Still vt s.vital) : Still vt (State.reshape s p v).vital := by
  unfold State.reshape
  try dsimp only
  repeat' first
    | with_reducible assumption
    | with_reducible apply Still.ite
    | with_reducible apply State.modBind_still
    | with_reducible apply State.put_still
    | with_reducible apply Still.foldl
    | with_reducible apply Still.foldl1
    | intro _ _ _
    | intro _ _
    | (fail_if_no_progress (with_reducible refine Still.upd ?_ rfl rfl))
    | dsimp only
    | split

theorem State.remapTo_still {vt : Vital} {s : State} {p lc n : Nat} {v : Shape} (hv : Still vt s.vital) : Still vt (State.remapTo s p lc n v).vital := by
  unfold State.remapTo
  try dsimp only
  repeat' first
    | with_reducible assumption
    | with_reducible apply Still.ite
    | with_reducible apply State.put_still
    | with_reducible apply State.reshape_still
    | with_reducible apply State.inc_still
    | with_reducible apply State.event_still
    | with_reducible apply State.rebindSlots_still
    | with_reducible apply State.modBind_still
    | with_reducible apply State.journalSwitch_still
    | with_reducible apply Still.foldl
    | with_reducible apply Still.foldl1
    | intro _ _ _
    | intro _ _
    | (fail_if_no_progress (with_reducible refine Still.upd ?_ rfl rfl))
    | dsimp only
    | split

theorem State.dropRemap_still {vt : Vital} {s : State} {p : Nat} (hv : Still vt s.vital) : Still vt (State.dropRemap s p).vital := by
  unfold State.dropRemap
  try dsimp only
  repeat' first
    | with_reducible assumption
    | with_reducible apply Still.ite
    | with_reducible apply State.modBind_still
    | with_reducible apply State.abort_still
    | with_reducible apply Still.foldl
    | with_reducible apply Still.foldl1
    | intro _ _ _
    | intro _ _
    | (fail_if_no_progress (with_reducible refine Still.upd ?_ rfl rfl))
    | dsimp only
    | split

theorem State.remap_still {vt : Vital} {s : State} {p : Nat} {x : Nat × Nat × Bool} {r : List (Nat × Nat × Bool)} (hv : Still vt s.vital) : Still vt (State.remap s p x r).vital := by
  unfold State.remap
  try dsimp only
  repeat' first
    | with_reducible assumption
    | with_reducible apply Still.ite
    | with_reducible apply State.modBind_still
    | with_reducible apply State.mark_still
    | with_reducible apply State.remapTo_still
    | with_reducible apply State.dropRemap_still
    | with_reducible apply Still.foldl
    | with_reducible apply Still.foldl1
    | intro _ _ _
    | intro _ _
    | (fail_if_no_progress (with_reducible refine Still.upd ?_ rfl rfl))
    | dsimp only
    | split

theorem execRemap_still {vt : Vital} {p : Fin 16} {s : State} (hv : Still vt s.vital) {t : State}
    (e : execRemap p s = .next t) : Still vt t.vital := by
  cases e
  try dsimp only
  repeat' first
    | with_reducible assumption
    | with_reducible apply Still.ite
    | with_reducible apply State.remap_still
    | with_reducible apply Still.foldl
    | with_reducible apply Still.foldl1
    | intro _ _ _
    | intro _ _
    | (fail_if_no_progress (with_reducible refine Still.upd ?_ rfl rfl))
    | dsimp only
    | split

theorem State.edgePart_still {vt : Vital} {s : State} {p : Nat} (hv : Still vt s.vital) : Still vt (State.edgePart s p).vital := by
  unfold State.edgePart
  try dsimp only
  repeat' first
    | with_reducible assumption
    | with_reducible apply Still.ite
    | with_reducible apply State.releasePart_still
    | with_reducible apply State.put_still
    | with_reducible apply State.modBind_still
    | with_reducible apply State.remap_still
    | with_reducible apply State.doneWaiter_still
    | with_reducible apply State.partEvent_still
    | with_reducible apply Still.foldl
    | with_reducible apply Still.foldl1
    | intro _ _ _
    | intro _ _
    | (fail_if_no_progress (with_reducible refine Still.upd ?_ rfl rfl))
    | dsimp only
    | split

end Sys2Proof.Machine
end

