-- ==== Sys2Proof/Laws/KeepBegin.lean ====
section
/-! SUPPORT. What the functions of Machine/Begin.lean leave as it should be (Laws/Vital.lean). -/

namespace Sys2Proof.Machine

set_option linter.unreachableTactic false
set_option linter.unusedTactic false
set_option linter.unusedVariables false

theorem State.refuseBegin_still {vt : Vital} {s : State} {c : Cmd} {p : Nat} {r : Nat × Nat} (hv : Still vt s.vital) : Still vt (State.refuseBegin s c p r).vital := by
  unfold State.refuseBegin
  try dsimp only
  repeat' first
    | with_reducible assumption
    | with_reducible apply Still.ite
    | with_reducible apply State.inc_still
    | with_reducible apply State.refuse_still
    | with_reducible apply Still.foldl
    | with_reducible apply Still.foldl1
    | intro _ _ _
    | intro _ _
    | (fail_if_no_progress (with_reducible refine Still.upd ?_ rfl rfl))
    | dsimp only
    | split

theorem State.takeStep_still {vt : Vital} {s : State} {p : Nat} (hv : Still vt s.vital) : Still vt (State.takeStep s p).vital := by
  unfold State.takeStep
  try dsimp only
  repeat' first
    | with_reducible assumption
    | with_reducible apply Still.ite
    | with_reducible apply State.put_still
    | with_reducible apply Still.foldl
    | with_reducible apply Still.foldl1
    | intro _ _ _
    | intro _ _
    | (fail_if_no_progress (with_reducible refine Still.upd ?_ rfl rfl))
    | dsimp only
    | split

theorem State.skip_still {vt : Vital} {s : State} {c : Cmd} {p : Nat} (hv : Still vt s.vital) : Still vt (State.skip s c p).vital := by
  unfold State.skip
  try dsimp only
  repeat' first
    | with_reducible assumption
    | with_reducible apply Still.ite
    | with_reducible apply State.takeStep_still
    | with_reducible apply State.modStrm_still
    | with_reducible apply State.setCmd_still
    | with_reducible apply State.finish_still
    | with_reducible apply State.addUpds_still
    | with_reducible apply State.taskDone_still
    | with_reducible apply Still.foldl
    | with_reducible apply Still.foldl1
    | intro _ _ _
    | intro _ _
    | (fail_if_no_progress (with_reducible refine Still.upd ?_ rfl rfl))
    | dsimp only
    | split

theorem State.clearLanes_still {vt : Vital} {s : State} {p lc : Nat} (hv : Still vt s.vital) : Still vt (State.clearLanes s p lc).vital := by
  unfold State.clearLanes
  try dsimp only
  repeat' first
    | with_reducible assumption
    | with_reducible apply Still.ite
    | with_reducible apply State.modLcore_still
    | with_reducible apply Still.foldl
    | with_reducible apply Still.foldl1
    | intro _ _ _
    | intro _ _
    | (fail_if_no_progress (with_reducible refine Still.upd ?_ rfl rfl))
    | dsimp only
    | split

theorem State.beginEffect_keeps {vt : Vital} {s : State} {c : Cmd} {p : Nat} (hv : Keeps vt s.vital) : Keeps vt (State.beginEffect s c p).vital := by
  unfold State.beginEffect
  try dsimp only
  repeat' first
    | with_reducible assumption
    | with_reducible apply Keeps.ite
    | with_reducible apply Keeps.via (State.addStream_still (Still.refl _))
    | with_reducible apply Keeps.via (State.awaitRows_still (Still.refl _))
    | with_reducible apply Keeps.via (State.arm_still (Still.refl _))
    | with_reducible apply Keeps.via (State.clearLanes_still (Still.refl _))
    | with_reducible apply State.move_keeps
    | with_reducible apply Keeps.foldl
    | with_reducible apply Keeps.foldl1
    | intro _ _ _
    | intro _ _
    | (fail_if_no_progress (with_reducible refine Keeps.upd ?_ rfl rfl))
    | dsimp only
    | split

theorem State.beginNow_keeps {vt : Vital} {s : State} {c : Cmd} {p : Nat} (hv : Keeps vt s.vital) : Keeps vt (State.beginNow s c p).vital := by
  unfold State.beginNow
  try dsimp only
  repeat' first
    | with_reducible assumption
    | with_reducible apply Keeps.ite
    | with_reducible apply Keeps.via (State.skip_still (Still.refl _))
    | with_reducible apply Keeps.via (State.refuseBegin_still (Still.refl _))
    | with_reducible apply Keeps.via (State.setCmd_still (Still.refl _))
    | with_reducible apply Keeps.via (State.takeStep_still (Still.refl _))
    | with_reducible apply State.beginEffect_keeps
    | with_reducible apply Keeps.foldl
    | with_reducible apply Keeps.foldl1
    | intro _ _ _
    | intro _ _
    | (fail_if_no_progress (with_reducible refine Keeps.upd ?_ rfl rfl))
    | dsimp only
    | split

theorem State.beginPart_keeps {vt : Vital} {s : State} {c : Cmd} {p : Nat} (hv : Keeps vt s.vital) : Keeps vt (State.beginPart s c p).vital := by
  unfold State.beginPart
  try dsimp only
  repeat' first
    | with_reducible assumption
    | with_reducible apply Keeps.ite
    | with_reducible apply State.advance_keeps
    | with_reducible apply Keeps.via (State.refuse_still (Still.refl _))
    | with_reducible apply State.catchUp_keeps
    | with_reducible apply State.beginNow_keeps
    | with_reducible apply Keeps.foldl
    | with_reducible apply Keeps.foldl1
    | intro _ _ _
    | intro _ _
    | (fail_if_no_progress (with_reducible refine Keeps.upd ?_ rfl rfl))
    | dsimp only
    | split

theorem State.beginPf_keeps {vt : Vital} {s : State} {c : Cmd} (hv : Keeps vt s.vital) : Keeps vt (State.beginPf s c).vital := by
  unfold State.beginPf
  try dsimp only
  repeat' first
    | with_reducible assumption
    | with_reducible apply Keeps.ite
    | with_reducible apply State.advance_keeps
    | with_reducible apply Keeps.via (State.refuse_still (Still.refl _))
    | with_reducible apply Keeps.via (State.setCmd_still (Still.refl _))
    | with_reducible apply Keeps.foldl
    | with_reducible apply Keeps.foldl1
    | intro _ _ _
    | intro _ _
    | (fail_if_no_progress (with_reducible refine Keeps.upd ?_ rfl rfl))
    | dsimp only
    | split

theorem execCommandBegin_keeps {vt : Vital} {c : CmdId} {s : State} (hv : Keeps vt s.vital) {t : State}
    (e : execCommandBegin c s = .next t) : Keeps vt t.vital := by
  cases e
  try dsimp only
  repeat' first
    | with_reducible assumption
    | with_reducible apply Keeps.ite
    | with_reducible apply State.beginPart_keeps
    | with_reducible apply State.beginPf_keeps
    | with_reducible apply Keeps.foldl
    | with_reducible apply Keeps.foldl1
    | intro _ _ _
    | intro _ _
    | (fail_if_no_progress (with_reducible refine Keeps.upd ?_ rfl rfl))
    | dsimp only
    | split

theorem State.lateBegin_keeps {vt : Vital} {s : State} {c : Cmd} {p : Nat} (hv : Keeps vt s.vital) : Keeps vt (State.lateBegin s c p).vital := by
  unfold State.lateBegin
  try dsimp only
  repeat' first
    | with_reducible assumption
    | with_reducible apply Keeps.ite
    | with_reducible apply State.advance_keeps
    | with_reducible apply Keeps.via (State.refuse_still (Still.refl _))
    | with_reducible apply Keeps.foldl
    | with_reducible apply Keeps.foldl1
    | intro _ _ _
    | intro _ _
    | (fail_if_no_progress (with_reducible refine Keeps.upd ?_ rfl rfl))
    | dsimp only
    | split

theorem execLateBegin_keeps {vt : Vital} {c : CmdId} {s : State} (hv : Keeps vt s.vital) {t : State}
    (e : execLateBegin c s = .next t) : Keeps vt t.vital := by
  cases e
  try dsimp only
  repeat' first
    | with_reducible assumption
    | with_reducible apply Keeps.ite
    | with_reducible apply State.lateBegin_keeps
    | with_reducible apply Keeps.foldl
    | with_reducible apply Keeps.foldl1
    | intro _ _ _
    | intro _ _
    | (fail_if_no_progress (with_reducible refine Keeps.upd ?_ rfl rfl))
    | dsimp only
    | split

end Sys2Proof.Machine
end

