-- ==== Sys2Proof/Laws/KeepQueues.lean ====
section
/-! SUPPORT. What the functions of Machine/Queues.lean leave as it should be (Laws/Vital.lean). -/

namespace Sys2Proof.Machine

set_option linter.unreachableTactic false
set_option linter.unusedTactic false
set_option linter.unusedVariables false

theorem execDoorbell_still {vt : Vital} {f : Fn} {i : Nat} {tail head : BitVec 32} {mem : List (Nat × Byte)} {s : State} (hv : Still vt s.vital) {t : State}
    (e : execDoorbell f i tail head mem s = .next t) : Still vt t.vital := by
  cases e
  try dsimp only
  repeat' first
    | with_reducible assumption
    | with_reducible apply Still.ite
    | with_reducible apply State.setQueue_still
    | with_reducible apply Still.foldl
    | with_reducible apply Still.foldl1
    | intro _ _ _
    | intro _ _
    | (fail_if_no_progress (with_reducible refine Still.upd ?_ rfl rfl))
    | (fail_if_no_progress (with_reducible refine Still.mems ?_ (Mem.wf_writeCells _) id id rfl))
    | dsimp only
    | split

theorem execQueueFaultClear_still {vt : Vital} {q : Fin 16384} {s : State} (hv : Still vt s.vital) {t : State}
    (e : execQueueFaultClear q s = .next t) : Still vt t.vital := by
  cases e
  try dsimp only
  repeat' first
    | with_reducible assumption
    | with_reducible apply Still.ite
    | with_reducible apply State.whenBooted_still
    | with_reducible apply State.put_still
    | with_reducible apply Still.foldl
    | with_reducible apply Still.foldl1
    | intro _ _ _
    | intro _ _
    | (fail_if_no_progress (with_reducible refine Still.upd ?_ rfl rfl))
    | dsimp only
    | split

theorem State.faultQueue_still {vt : Vital} {s : State} {q cause : Nat} (hv : Still vt s.vital) : Still vt (State.faultQueue s q cause).vital := by
  unfold State.faultQueue
  try dsimp only
  repeat' first
    | with_reducible assumption
    | with_reducible apply Still.ite
    | with_reducible apply State.setEvent_still
    | with_reducible apply State.put_still
    | with_reducible apply Still.foldl
    | with_reducible apply Still.foldl1
    | intro _ _ _
    | intro _ _
    | (fail_if_no_progress (with_reducible refine Still.upd ?_ rfl rfl))
    | dsimp only
    | split

theorem execFetchCompletionError_still {vt : Vital} {q : Fin 16384} {s : State} (hv : Still vt s.vital) {t : State}
    (e : execFetchCompletionError q s = .next t) : Still vt t.vital := by
  cases e
  try dsimp only
  repeat' first
    | with_reducible assumption
    | with_reducible apply Still.ite
    | with_reducible apply State.faultQueue_still
    | with_reducible apply Still.foldl
    | with_reducible apply Still.foldl1
    | intro _ _ _
    | intro _ _
    | (fail_if_no_progress (with_reducible refine Still.upd ?_ rfl rfl))
    | dsimp only
    | split

theorem execFenceHostWrite_still {vt : Vital} {f : Fn} {i : Nat} {value : BitVec 64} {s : State} (hv : Still vt s.vital) {t : State}
    (e : execFenceHostWrite f i value s = .next t) : Still vt t.vital := by
  cases e
  try dsimp only
  repeat' first
    | with_reducible assumption
    | with_reducible apply Still.ite
    | with_reducible apply State.atNextEdge_still
    | with_reducible apply Still.foldl
    | with_reducible apply Still.foldl1
    | intro _ _ _
    | intro _ _
    | (fail_if_no_progress (with_reducible refine Still.upd ?_ rfl rfl))
    | dsimp only
    | split

theorem execProtectionChange_still {vt : Vital} {w : ProtWrite} {s : State} (hv : Still vt s.vital) {t : State}
    (e : execProtectionChange w s = .next t) : Still vt t.vital := by
  cases e
  try dsimp only
  repeat' first
    | with_reducible assumption
    | with_reducible apply Still.ite
    | with_reducible apply State.whenBooted_still
    | with_reducible apply State.put_still
    | with_reducible apply State.atNextEdge_still
    | with_reducible apply Still.foldl
    | with_reducible apply Still.foldl1
    | intro _ _ _
    | intro _ _
    | (fail_if_no_progress (with_reducible refine Still.upd ?_ rfl rfl))
    | dsimp only
    | split

theorem execResourceWithdraw_still {vt : Vital} {w : WithdrawWrite} {s : State} (hv : Still vt s.vital) {t : State}
    (e : execResourceWithdraw w s = .next t) : Still vt t.vital := by
  cases e
  try dsimp only
  repeat' first
    | with_reducible assumption
    | with_reducible apply Still.ite
    | with_reducible apply State.whenBooted_still
    | with_reducible apply State.put_still
    | with_reducible apply State.atNextEdge_still
    | with_reducible apply Still.foldl
    | with_reducible apply Still.foldl1
    | intro _ _ _
    | intro _ _
    | (fail_if_no_progress (with_reducible refine Still.upd ?_ rfl rfl))
    | dsimp only
    | split

theorem execVfEnableChange_still {vt : Vital} {v : Fin 16} {on : Bool} {s : State} (hv : Still vt s.vital) {t : State}
    (e : execVfEnableChange v on s = .next t) : Still vt t.vital := by
  cases e
  try dsimp only
  repeat' first
    | with_reducible assumption
    | with_reducible apply Still.ite
    | with_reducible apply State.atNextEdge_still
    | with_reducible apply Still.foldl
    | with_reducible apply Still.foldl1
    | intro _ _ _
    | intro _ _
    | (fail_if_no_progress (with_reducible refine Still.upd ?_ rfl rfl))
    | dsimp only
    | split

theorem State.withdraw_still {vt : Vital} {s : State} {hit : Cmd → Bool} (hv : Still vt s.vital) : Still vt (State.withdraw s hit).vital := by
  unfold State.withdraw
  try dsimp only
  repeat' first
    | with_reducible assumption
    | with_reducible apply Still.ite
    | with_reducible apply State.abortTask_still
    | with_reducible apply State.dropNext_still
    | with_reducible apply State.finish_still
    | with_reducible apply Still.foldl
    | with_reducible apply Still.foldl1
    | intro _ _ _
    | intro _ _
    | (fail_if_no_progress (with_reducible refine Still.upd ?_ rfl rfl))
    | dsimp only
    | split

theorem State.changeQueues_still {vt : Vital} {s : State} {p : Nat} {new : Nat × Nat} (hv : Still vt s.vital) : Still vt (State.changeQueues s p new).vital := by
  unfold State.changeQueues
  try dsimp only
  repeat' first
    | with_reducible assumption
    | with_reducible apply Still.ite
    | with_reducible apply State.ignored_still
    | with_reducible apply State.withdraw_still
    | with_reducible apply State.modBind_still
    | with_reducible apply State.partEvent_still
    | with_reducible apply Still.foldl
    | with_reducible apply Still.foldl1
    | intro _ _ _
    | intro _ _
    | (fail_if_no_progress (with_reducible refine Still.upd ?_ rfl rfl))
    | dsimp only
    | split

theorem State.changeFences_still {vt : Vital} {s : State} {p : Nat} {new : Nat × Nat} (hv : Still vt s.vital) : Still vt (State.changeFences s p new).vital := by
  unfold State.changeFences
  try dsimp only
  repeat' first
    | with_reducible assumption
    | with_reducible apply Still.ite
    | with_reducible apply State.ignored_still
    | with_reducible apply State.withdraw_still
    | with_reducible apply State.modBind_still
    | with_reducible apply State.partEvent_still
    | with_reducible apply Still.foldl
    | with_reducible apply Still.foldl1
    | intro _ _ _
    | intro _ _
    | (fail_if_no_progress (with_reducible refine Still.upd ?_ rfl rfl))
    | dsimp only
    | split

theorem State.changeEnable_still {vt : Vital} {s : State} {q : Nat} {on : Bool} (hv : Still vt s.vital) : Still vt (State.changeEnable s q on).vital := by
  unfold State.changeEnable
  try dsimp only
  repeat' first
    | with_reducible assumption
    | with_reducible apply Still.ite
    | with_reducible apply State.setQueue_still
    | with_reducible apply State.restartQueue_still
    | with_reducible apply State.withdraw_still
    | with_reducible apply State.partEvent_still
    | with_reducible apply Still.foldl
    | with_reducible apply Still.foldl1
    | intro _ _ _
    | intro _ _
    | (fail_if_no_progress (with_reducible refine Still.upd ?_ rfl rfl))
    | dsimp only
    | split

theorem State.unfitSlots_still {vt : Vital} {s : State} {p : Nat} {uses : PlanEntry → Bool} (hv : Still vt s.vital) : Still vt (State.unfitSlots s p uses).vital := by
  unfold State.unfitSlots
  try dsimp only
  repeat' first
    | with_reducible assumption
    | with_reducible apply Still.ite
    | with_reducible apply State.setSlot_still
    | with_reducible apply State.put_still
    | with_reducible apply Still.foldl
    | with_reducible apply Still.foldl1
    | intro _ _ _
    | intro _ _
    | (fail_if_no_progress (with_reducible refine Still.upd ?_ rfl rfl))
    | dsimp only
    | split

theorem State.changePorts_still {vt : Vital} {s : State} {p mask : Nat} (hv : Still vt s.vital) : Still vt (State.changePorts s p mask).vital := by
  unfold State.changePorts
  try dsimp only
  repeat' first
    | with_reducible assumption
    | with_reducible apply Still.ite
    | with_reducible apply State.withdraw_still
    | with_reducible apply State.unfitSlots_still
    | with_reducible apply State.modBind_still
    | with_reducible apply State.partEvent_still
    | with_reducible apply Still.foldl
    | with_reducible apply Still.foldl1
    | intro _ _ _
    | intro _ _
    | (fail_if_no_progress (with_reducible refine Still.upd ?_ rfl rfl))
    | dsimp only
    | split

theorem State.changePages_still {vt : Vital} {s : State} {p k codes : Nat} (hv : Still vt s.vital) : Still vt (State.changePages s p k codes).vital := by
  unfold State.changePages
  try dsimp only
  repeat' first
    | with_reducible assumption
    | with_reducible apply Still.ite
    | with_reducible apply State.withdraw_still
    | with_reducible apply State.unfitSlots_still
    | with_reducible apply State.modBind_still
    | with_reducible apply State.releasePages_still
    | with_reducible apply State.partEvent_still
    | with_reducible apply Still.foldl
    | with_reducible apply Still.foldl1
    | intro _ _ _
    | intro _ _
    | (fail_if_no_progress (with_reducible refine Still.upd ?_ rfl rfl))
    | dsimp only
    | split

theorem State.writeRecord_still {vt : Vital} {s : State} {r : Rec} (hv : Still vt s.vital) : Still vt (State.writeRecord s r).vital := by
  unfold State.writeRecord
  try dsimp only
  repeat' first
    | with_reducible assumption
    | with_reducible apply Still.ite
    | with_reducible apply State.hostWrite_still
    | with_reducible apply State.put_still
    | with_reducible apply Still.foldl
    | with_reducible apply Still.foldl1
    | intro _ _ _
    | intro _ _
    | (fail_if_no_progress (with_reducible refine Still.upd ?_ rfl rfl))
    | dsimp only
    | split

theorem State.noteRecord_still {vt : Vital} {s : State} {r : Rec} (hv : Still vt s.vital) : Still vt (State.noteRecord s r).vital := by
  unfold State.noteRecord
  try dsimp only
  repeat' first
    | with_reducible assumption
    | with_reducible apply Still.ite
    | with_reducible apply State.update_still
    | with_reducible apply State.raise_still
    | with_reducible apply Still.foldl
    | with_reducible apply Still.foldl1
    | intro _ _ _
    | intro _ _
    | (fail_if_no_progress (with_reducible refine Still.upd ?_ rfl rfl))
    | dsimp only
    | split

theorem State.dropProgress_still {vt : Vital} {s : State} {q : Nat} (hv : Still vt s.vital) : Still vt (State.dropProgress s q).vital := by
  unfold State.dropProgress
  try dsimp only
  repeat' first
    | with_reducible assumption
    | with_reducible apply Still.ite
    | with_reducible apply State.inc_still
    | with_reducible apply Still.foldl
    | with_reducible apply Still.foldl1
    | intro _ _ _
    | intro _ _
    | (fail_if_no_progress (with_reducible refine Still.upd ?_ rfl rfl))
    | dsimp only
    | split

theorem execCompletionRecord_still {vt : Vital} {q : Fin 16384} {s : State} (hv : Still vt s.vital) {t : State}
    (e : execCompletionRecord q s = .next t) : Still vt t.vital := by
  cases e
  try dsimp only
  repeat' first
    | with_reducible assumption
    | with_reducible apply Still.ite
    | with_reducible apply State.writeRecord_still
    | with_reducible apply State.noteRecord_still
    | with_reducible apply State.dropProgress_still
    | with_reducible apply Still.foldl
    | with_reducible apply Still.foldl1
    | intro _ _ _
    | intro _ _
    | (fail_if_no_progress (with_reducible refine Still.upd ?_ rfl rfl))
    | dsimp only
    | split

end Sys2Proof.Machine
end

