-- ==== Sys2Proof/Laws/KeepFirmware.lean ====
section
/-! SUPPORT. What the functions of Machine/Firmware.lean leave as it should be (Laws/Vital.lean). -/

namespace Sys2Proof.Machine

set_option linter.unreachableTactic false
set_option linter.unusedTactic false
set_option linter.unusedVariables false

theorem State.logBadRecords_still {vt : Vital} {s : State} {max : Nat} (hv : Still vt s.vital) : Still vt (State.logBadRecords s max).vital := by
  unfold State.logBadRecords
  try dsimp only
  repeat' first
    | with_reducible assumption
    | with_reducible apply Still.ite
    | with_reducible apply State.event_still
    | with_reducible apply Still.foldl
    | with_reducible apply Still.foldl1
    | intro _ _ _
    | intro _ _
    | (fail_if_no_progress (with_reducible refine Still.upd ?_ rfl rfl))
    | dsimp only
    | split

theorem State.storeRecord_still {vt : Vital} {s : State} {r : Settings} (hv : Still vt s.vital) : Still vt (State.storeRecord s r).vital := by
  unfold State.storeRecord
  try dsimp only
  repeat' first
    | with_reducible assumption
    | with_reducible apply Still.ite
    | with_reducible apply Still.foldl
    | with_reducible apply Still.foldl1
    | intro _ _ _
    | intro _ _
    | (fail_if_no_progress (with_reducible refine Still.upd ?_ rfl rfl))
    | dsimp only
    | split

theorem State.translate_still {vt : Vital} {s : State} {own : Nat} {r : Settings} (hv : Still vt s.vital) : Still vt (State.translate s own r).vital := by
  unfold State.translate
  try dsimp only
  repeat' first
    | with_reducible assumption
    | with_reducible apply Still.ite
    | with_reducible apply State.storeRecord_still
    | with_reducible apply Still.foldl
    | with_reducible apply Still.foldl1
    | intro _ _ _
    | intro _ _
    | (fail_if_no_progress (with_reducible refine Still.upd ?_ rfl rfl))
    | dsimp only
    | split

theorem State.selectSettings_still {vt : Vital} {s : State} {own : Nat} (hv : Still vt s.vital) : Still vt (State.selectSettings s own).vital := by
  unfold State.selectSettings
  try dsimp only
  repeat' first
    | with_reducible assumption
    | with_reducible apply Still.ite
    | with_reducible apply State.logBadRecords_still
    | with_reducible apply State.translate_still
    | with_reducible apply State.put_still
    | with_reducible apply State.event_still
    | with_reducible apply Still.foldl
    | with_reducible apply Still.foldl1
    | intro _ _ _
    | intro _ _
    | (fail_if_no_progress (with_reducible refine Still.upd ?_ rfl rfl))
    | dsimp only
    | split

theorem State.applySettings_still {vt : Vital} {s : State} (hv : Still vt s.vital) : Still vt (State.applySettings s).vital := by
  unfold State.applySettings
  try dsimp only
  repeat' first
    | with_reducible assumption
    | with_reducible apply Still.ite
    | with_reducible apply State.put_still
    | with_reducible apply Still.foldl
    | with_reducible apply Still.foldl1
    | intro _ _ _
    | intro _ _
    | (fail_if_no_progress (with_reducible refine Still.upd ?_ rfl rfl))
    | dsimp only
    | split

theorem State.lockSettings_still {vt : Vital} {s : State} (hv : Still vt s.vital) : Still vt (State.lockSettings s).vital := by
  unfold State.lockSettings
  try dsimp only
  repeat' first
    | with_reducible assumption
    | with_reducible apply Still.ite
    | with_reducible apply State.put_still
    | with_reducible apply Still.foldl
    | with_reducible apply Still.foldl1
    | intro _ _ _
    | intro _ _
    | (fail_if_no_progress (with_reducible refine Still.upd ?_ rfl rfl))
    | dsimp only
    | split

theorem State.completeBringUp_still {vt : Vital} {s : State} (hv : Still vt s.vital) : Still vt (State.completeBringUp s).vital := by
  unfold State.completeBringUp
  try dsimp only
  repeat' first
    | with_reducible assumption
    | with_reducible apply Still.ite
    | with_reducible apply State.lockSettings_still
    | with_reducible apply State.put_still
    | with_reducible apply State.tryTrain_still
    | with_reducible apply Still.foldl
    | with_reducible apply Still.foldl1
    | intro _ _ _
    | intro _ _
    | (fail_if_no_progress (with_reducible refine Still.upd ?_ rfl rfl))
    | dsimp only
    | split

theorem State.runImage_still {vt : Vital} {s : State} {i : Image} (hv : Still vt s.vital) : Still vt (State.runImage s i).vital := by
  unfold State.runImage
  try dsimp only
  repeat' first
    | with_reducible assumption
    | with_reducible apply Still.ite
    | with_reducible apply State.put_still
    | with_reducible apply State.selectSettings_still
    | with_reducible apply Still.foldl
    | with_reducible apply Still.foldl1
    | intro _ _ _
    | intro _ _
    | (fail_if_no_progress (with_reducible refine Still.upd ?_ rfl rfl))
    | dsimp only
    | split

theorem State.swapSlots_still {vt : Vital} {s : State} (hv : Still vt s.vital) : Still vt (State.swapSlots s).vital := by
  unfold State.swapSlots
  try dsimp only
  repeat' first
    | with_reducible assumption
    | with_reducible apply Still.ite
    | with_reducible apply State.put_still
    | with_reducible apply Still.foldl
    | with_reducible apply Still.foldl1
    | intro _ _ _
    | intro _ _
    | (fail_if_no_progress (with_reducible refine Still.upd ?_ rfl rfl))
    | dsimp only
    | split

theorem State.halfBoots_still {vt : Vital} {s : State} {g v : Nat} {i : Image} (hv : Still vt s.vital) : Still vt (State.halfBoots s g v i).vital := by
  unfold State.halfBoots
  try dsimp only
  repeat' first
    | with_reducible assumption
    | with_reducible apply Still.ite
    | with_reducible apply State.setHalf_still
    | with_reducible apply State.event_still
    | with_reducible apply Still.foldl
    | with_reducible apply Still.foldl1
    | intro _ _ _
    | intro _ _
    | (fail_if_no_progress (with_reducible refine Still.upd ?_ rfl rfl))
    | dsimp only
    | split

theorem State.bootHalves_still {vt : Vital} {s : State} {failed : List Nat} (hv : Still vt s.vital) : Still vt (State.bootHalves s failed).vital := by
  unfold State.bootHalves
  try dsimp only
  repeat' first
    | with_reducible assumption
    | with_reducible apply Still.ite
    | with_reducible apply State.event_still
    | with_reducible apply State.swapSlots_still
    | with_reducible apply State.setHalf_still
    | with_reducible apply State.halfBoots_still
    | with_reducible apply State.put_still
    | with_reducible apply State.runImage_still
    | with_reducible apply Still.foldl
    | with_reducible apply Still.foldl1
    | intro _ _ _
    | intro _ _
    | (fail_if_no_progress (with_reducible refine Still.upd ?_ rfl rfl))
    | dsimp only
    | split

theorem State.stage_still {vt : Vital} {s : State} (hv : Still vt s.vital) : Still vt (State.stage s).vital := by
  unfold State.stage
  try dsimp only
  repeat' first
    | with_reducible assumption
    | with_reducible apply Still.ite
    | with_reducible apply State.put_still
    | with_reducible apply State.event_still
    | with_reducible apply Still.foldl
    | with_reducible apply Still.foldl1
    | intro _ _ _
    | intro _ _
    | (fail_if_no_progress (with_reducible refine Still.upd ?_ rfl rfl))
    | dsimp only
    | split

theorem execStage_still {vt : Vital} {mem : List (Nat × Byte)} {s : State} (hv : Still vt s.vital) {t : State}
    (e : execStage mem s = .next t) : Still vt t.vital := by
  cases e
  try dsimp only
  repeat' first
    | with_reducible assumption
    | with_reducible apply Still.ite
    | with_reducible apply State.whenBooted_still
    | with_reducible apply State.ignored_still
    | with_reducible apply State.stage_still
    | with_reducible apply Still.foldl
    | with_reducible apply Still.foldl1
    | intro _ _ _
    | intro _ _
    | (fail_if_no_progress (with_reducible refine Still.upd ?_ rfl rfl))
    | (fail_if_no_progress (with_reducible refine Still.mems ?_ (Mem.wf_writeCells _) id id rfl))
    | dsimp only
    | split

theorem execHandover_still {vt : Vital} {s : State} (hv : Still vt s.vital) {t : State}
    (e : execHandover s = .next t) : Still vt t.vital := by
  cases e
  try dsimp only
  repeat' first
    | with_reducible assumption
    | with_reducible apply Still.ite
    | with_reducible apply State.whenBooted_still
    | with_reducible apply State.atNextEdge_still
    | with_reducible apply Still.foldl
    | with_reducible apply Still.foldl1
    | intro _ _ _
    | intro _ _
    | (fail_if_no_progress (with_reducible refine Still.upd ?_ rfl rfl))
    | dsimp only
    | split

theorem State.startHandover_still {vt : Vital} {s : State} (hv : Still vt s.vital) : Still vt (State.startHandover s).vital := by
  unfold State.startHandover
  try dsimp only
  repeat' first
    | with_reducible assumption
    | with_reducible apply Still.ite
    | with_reducible apply State.setHalf_still
    | with_reducible apply Still.foldl
    | with_reducible apply Still.foldl1
    | intro _ _ _
    | intro _ _
    | (fail_if_no_progress (with_reducible refine Still.upd ?_ rfl rfl))
    | dsimp only
    | split

theorem State.handOver_still {vt : Vital} {s : State} {new : Image} (hv : Still vt s.vital) : Still vt (State.handOver s new).vital := by
  unfold State.handOver
  try dsimp only
  repeat' first
    | with_reducible assumption
    | with_reducible apply Still.ite
    | with_reducible apply State.setHalf_still
    | with_reducible apply State.takeOver_still
    | with_reducible apply State.swapSlots_still
    | with_reducible apply State.put_still
    | with_reducible apply State.event_still
    | with_reducible apply State.runImage_still
    | with_reducible apply Still.foldl
    | with_reducible apply Still.foldl1
    | intro _ _ _
    | intro _ _
    | (fail_if_no_progress (with_reducible refine Still.upd ?_ rfl rfl))
    | dsimp only
    | split

theorem State.handoverFails_still {vt : Vital} {s : State} (hv : Still vt s.vital) : Still vt (State.handoverFails s).vital := by
  unfold State.handoverFails
  try dsimp only
  repeat' first
    | with_reducible assumption
    | with_reducible apply Still.ite
    | with_reducible apply State.put_still
    | with_reducible apply State.event_still
    | with_reducible apply Still.foldl
    | with_reducible apply Still.foldl1
    | intro _ _ _
    | intro _ _
    | (fail_if_no_progress (with_reducible refine Still.upd ?_ rfl rfl))
    | dsimp only
    | split

theorem execHandoverTakeover_still {vt : Vital} {s : State} (hv : Still vt s.vital) {t : State}
    (e : execHandoverTakeover s = .next t) : Still vt t.vital := by
  cases e
  try dsimp only
  repeat' first
    | with_reducible assumption
    | with_reducible apply Still.ite
    | with_reducible apply State.handOver_still
    | with_reducible apply State.handoverFails_still
    | with_reducible apply Still.foldl
    | with_reducible apply Still.foldl1
    | intro _ _ _
    | intro _ _
    | (fail_if_no_progress (with_reducible refine Still.upd ?_ rfl rfl))
    | dsimp only
    | split

theorem execStandbyRebootDone_still {vt : Vital} {s : State} (hv : Still vt s.vital) {t : State}
    (e : execStandbyRebootDone s = .next t) : Still vt t.vital := by
  cases e
  try dsimp only
  repeat' first
    | with_reducible assumption
    | with_reducible apply Still.ite
    | with_reducible apply State.setHalf_still
    | with_reducible apply State.event_still
    | with_reducible apply Still.foldl
    | with_reducible apply Still.foldl1
    | intro _ _ _
    | intro _ _
    | (fail_if_no_progress (with_reducible refine Still.upd ?_ rfl rfl))
    | dsimp only
    | split

theorem State.confirm_still {vt : Vital} {s : State} (hv : Still vt s.vital) : Still vt (State.confirm s).vital := by
  unfold State.confirm
  try dsimp only
  repeat' first
    | with_reducible assumption
    | with_reducible apply Still.ite
    | with_reducible apply State.put_still
    | with_reducible apply State.event_still
    | with_reducible apply Still.foldl
    | with_reducible apply Still.foldl1
    | intro _ _ _
    | intro _ _
    | (fail_if_no_progress (with_reducible refine Still.upd ?_ rfl rfl))
    | dsimp only
    | split

theorem execConfirm_still {vt : Vital} {s : State} (hv : Still vt s.vital) {t : State}
    (e : execConfirm s = .next t) : Still vt t.vital := by
  cases e
  try dsimp only
  repeat' first
    | with_reducible assumption
    | with_reducible apply Still.ite
    | with_reducible apply State.whenBooted_still
    | with_reducible apply State.confirm_still
    | with_reducible apply Still.foldl
    | with_reducible apply Still.foldl1
    | intro _ _ _
    | intro _ _
    | (fail_if_no_progress (with_reducible refine Still.upd ?_ rfl rfl))
    | dsimp only
    | split

theorem execFallback_still {vt : Vital} {s : State} (hv : Still vt s.vital) {t : State}
    (e : execFallback s = .next t) : Still vt t.vital := by
  cases e
  try dsimp only
  repeat' first
    | with_reducible assumption
    | with_reducible apply Still.ite
    | with_reducible apply State.whenBooted_still
    | with_reducible apply State.ignored_still
    | with_reducible apply State.event_still
    | with_reducible apply Still.foldl
    | with_reducible apply Still.foldl1
    | intro _ _ _
    | intro _ _
    | (fail_if_no_progress (with_reducible refine Still.upd ?_ rfl rfl))
    | dsimp only
    | split

theorem State.readableAgain_still {vt : Vital} {s : State} (hv : Still vt s.vital) : Still vt (State.readableAgain s).vital := by
  unfold State.readableAgain
  try dsimp only
  repeat' first
    | with_reducible assumption
    | with_reducible apply Still.ite
    | with_reducible apply State.selectSettings_still
    | with_reducible apply State.applySettings_still
    | with_reducible apply State.put_still
    | with_reducible apply State.recheckLaser_still
    | with_reducible apply State.completeBringUp_still
    | with_reducible apply Still.foldl
    | with_reducible apply Still.foldl1
    | intro _ _ _
    | intro _ _
    | (fail_if_no_progress (with_reducible refine Still.upd ?_ rfl rfl))
    | dsimp only
    | split

theorem State.writeSettings_still {vt : Vital} {s : State} (hv : Still vt s.vital) : Still vt (State.writeSettings s).vital := by
  unfold State.writeSettings
  try dsimp only
  repeat' first
    | with_reducible assumption
    | with_reducible apply Still.ite
    | with_reducible apply State.put_still
    | with_reducible apply State.storeRecord_still
    | with_reducible apply State.readableAgain_still
    | with_reducible apply Still.foldl
    | with_reducible apply Still.foldl1
    | intro _ _ _
    | intro _ _
    | (fail_if_no_progress (with_reducible refine Still.upd ?_ rfl rfl))
    | dsimp only
    | split

theorem execSettingsWrite_still {vt : Vital} {mem : List (Nat × Byte)} {s : State} (hv : Still vt s.vital) {t : State}
    (e : execSettingsWrite mem s = .next t) : Still vt t.vital := by
  cases e
  try dsimp only
  repeat' first
    | with_reducible assumption
    | with_reducible apply Still.ite
    | with_reducible apply State.whenBooted_still
    | with_reducible apply State.viaFirmware_still
    | with_reducible apply State.writeSettings_still
    | with_reducible apply Still.foldl
    | with_reducible apply Still.foldl1
    | intro _ _ _
    | intro _ _
    | (fail_if_no_progress (with_reducible refine Still.upd ?_ rfl rfl))
    | (fail_if_no_progress (with_reducible refine Still.mems ?_ (Mem.wf_writeCells _) id id rfl))
    | dsimp only
    | split

theorem State.newChallenge_still {vt : Vital} {s : State} (hv : Still vt s.vital) : Still vt (State.newChallenge s).vital := by
  unfold State.newChallenge
  try dsimp only
  repeat' first
    | with_reducible assumption
    | with_reducible apply Still.ite
    | with_reducible apply State.draw_still
    | with_reducible apply State.putA_still
    | with_reducible apply Still.foldl
    | with_reducible apply Still.foldl1
    | intro _ _ _
    | intro _ _
    | (fail_if_no_progress (with_reducible refine Still.upd ?_ rfl rfl))
    | dsimp only
    | split

theorem State.openDebug_still {vt : Vital} {s : State} {who : Nat} (hv : Still vt s.vital) : Still vt (State.openDebug s who).vital := by
  unfold State.openDebug
  try dsimp only
  repeat' first
    | with_reducible assumption
    | with_reducible apply Still.ite
    | with_reducible apply State.eraseKeys_still
    | with_reducible apply State.atNextEdge_still
    | with_reducible apply State.queuePage_still
    | with_reducible apply State.event_still
    | with_reducible apply Still.foldl
    | with_reducible apply Still.foldl1
    | intro _ _ _
    | intro _ _
    | (fail_if_no_progress (with_reducible refine Still.upd ?_ rfl rfl))
    | dsimp only
    | split

theorem execOpenDebug_still {vt : Vital} {mem : List (Nat × Byte)} {s : State} (hv : Still vt s.vital) {t : State}
    (e : execOpenDebug mem s = .next t) : Still vt t.vital := by
  cases e
  try dsimp only
  repeat' first
    | with_reducible assumption
    | with_reducible apply Still.ite
    | with_reducible apply State.whenBooted_still
    | with_reducible apply State.openDebug_still
    | with_reducible apply State.newChallenge_still
    | with_reducible apply Still.foldl
    | with_reducible apply Still.foldl1
    | intro _ _ _
    | intro _ _
    | (fail_if_no_progress (with_reducible refine Still.upd ?_ rfl rfl))
    | (fail_if_no_progress (with_reducible refine Still.mems ?_ (Mem.wf_writeCells _) id id rfl))
    | dsimp only
    | split

theorem State.edgeOpen_still {vt : Vital} {s : State} (hv : Still vt s.vital) : Still vt (State.edgeOpen s).vital := by
  unfold State.edgeOpen
  try dsimp only
  repeat' first
    | with_reducible assumption
    | with_reducible apply Still.ite
    | with_reducible apply State.put_still
    | with_reducible apply Still.foldl
    | with_reducible apply Still.foldl1
    | intro _ _ _
    | intro _ _
    | (fail_if_no_progress (with_reducible refine Still.upd ?_ rfl rfl))
    | dsimp only
    | split

theorem execKeyLoad_still {vt : Vital} {p slot : Fin 16} {s : State} (hv : Still vt s.vital) {t : State}
    (e : execKeyLoad p slot s = .next t) : Still vt t.vital := by
  cases e
  try dsimp only
  repeat' first
    | with_reducible assumption
    | with_reducible apply Still.ite
    | with_reducible apply State.whenBooted_still
    | with_reducible apply State.atNextEdge_still
    | with_reducible apply Still.foldl
    | with_reducible apply Still.foldl1
    | intro _ _ _
    | intro _ _
    | (fail_if_no_progress (with_reducible refine Still.upd ?_ rfl rfl))
    | dsimp only
    | split

theorem execKeyErase_still {vt : Vital} {p slot : Fin 16} {s : State} (hv : Still vt s.vital) {t : State}
    (e : execKeyErase p slot s = .next t) : Still vt t.vital := by
  cases e
  try dsimp only
  repeat' first
    | with_reducible assumption
    | with_reducible apply Still.ite
    | with_reducible apply State.whenBooted_still
    | with_reducible apply State.atNextEdge_still
    | with_reducible apply Still.foldl
    | with_reducible apply Still.foldl1
    | intro _ _ _
    | intro _ _
    | (fail_if_no_progress (with_reducible refine Still.upd ?_ rfl rfl))
    | dsimp only
    | split

theorem execKeyEraseAll_still {vt : Vital} {p : Fin 16} {s : State} (hv : Still vt s.vital) {t : State}
    (e : execKeyEraseAll p s = .next t) : Still vt t.vital := by
  cases e
  try dsimp only
  repeat' first
    | with_reducible assumption
    | with_reducible apply Still.ite
    | with_reducible apply State.whenBooted_still
    | with_reducible apply State.atNextEdge_still
    | with_reducible apply Still.foldl
    | with_reducible apply Still.foldl1
    | intro _ _ _
    | intro _ _
    | (fail_if_no_progress (with_reducible refine Still.upd ?_ rfl rfl))
    | dsimp only
    | split

theorem State.loadKey_still {vt : Vital} {s : State} {p k : Nat} (hv : Still vt s.vital) : Still vt (State.loadKey s p k).vital := by
  unfold State.loadKey
  try dsimp only
  repeat' first
    | with_reducible assumption
    | with_reducible apply Still.ite
    | with_reducible apply State.modPart_still
    | with_reducible apply State.put_still
    | with_reducible apply State.inc_still
    | with_reducible apply State.event_still
    | with_reducible apply Still.foldl
    | with_reducible apply Still.foldl1
    | intro _ _ _
    | intro _ _
    | (fail_if_no_progress (with_reducible refine Still.upd ?_ rfl rfl))
    | dsimp only
    | split

theorem State.eraseKey_still {vt : Vital} {s : State} {p k : Nat} (hv : Still vt s.vital) : Still vt (State.eraseKey s p k).vital := by
  unfold State.eraseKey
  try dsimp only
  repeat' first
    | with_reducible assumption
    | with_reducible apply Still.ite
    | with_reducible apply State.modPart_still
    | with_reducible apply State.put_still
    | with_reducible apply Still.foldl
    | with_reducible apply Still.foldl1
    | intro _ _ _
    | intro _ _
    | (fail_if_no_progress (with_reducible refine Still.upd ?_ rfl rfl))
    | dsimp only
    | split

theorem State.eraseAllKeys_still {vt : Vital} {s : State} {p : Nat} (hv : Still vt s.vital) : Still vt (State.eraseAllKeys s p).vital := by
  unfold State.eraseAllKeys
  try dsimp only
  repeat' first
    | with_reducible assumption
    | with_reducible apply Still.ite
    | with_reducible apply State.modPart_still
    | with_reducible apply State.put_still
    | with_reducible apply Still.foldl
    | with_reducible apply Still.foldl1
    | intro _ _ _
    | intro _ _
    | (fail_if_no_progress (with_reducible refine Still.upd ?_ rfl rfl))
    | dsimp only
    | split

end Sys2Proof.Machine
end

