-- ==== Sys2Proof/Laws/KeepBringUp.lean ====
section
/-! SUPPORT. What the functions of Machine/BringUp.lean leave as it should be (Laws/Vital.lean). -/

namespace Sys2Proof.Machine

set_option linter.unreachableTactic false
set_option linter.unusedTactic false
set_option linter.unusedVariables false

theorem State.bringUpFail_still {vt : Vital} {s : State} {d : Nat} (hv : Still vt s.vital) : Still vt (State.bringUpFail s d).vital := by
  unfold State.bringUpFail
  try dsimp only
  repeat' first
    | with_reducible assumption
    | with_reducible apply Still.ite
    | with_reducible apply State.domainCause_still
    | with_reducible apply State.put_still
    | with_reducible apply State.inc_still
    | with_reducible apply State.setDomain_still
    | with_reducible apply State.countFailed_still
    | with_reducible apply Still.foldl
    | with_reducible apply Still.foldl1
    | intro _ _ _
    | intro _ _
    | (fail_if_no_progress (with_reducible refine Still.upd ?_ rfl rfl))
    | dsimp only
    | split

theorem State.bringUpOn_still {vt : Vital} {s : State} {d : Nat} {baseline : Bool} (hv : Still vt s.vital) : Still vt (State.bringUpOn s d baseline).vital := by
  unfold State.bringUpOn
  try dsimp only
  repeat' first
    | with_reducible assumption
    | with_reducible apply Still.ite
    | with_reducible apply State.put_still
    | with_reducible apply State.setDomain_still
    | with_reducible apply State.draw_still
    | with_reducible apply State.putA_still
    | with_reducible apply Still.foldl
    | with_reducible apply Still.foldl1
    | intro _ _ _
    | intro _ _
    | (fail_if_no_progress (with_reducible refine Still.upd ?_ rfl rfl))
    | dsimp only
    | split

theorem State.bringUpUncore_still {vt : Vital} {s : State} {d n : Nat} (hv : Still vt s.vital) : Still vt (State.bringUpUncore s d n).vital := by
  unfold State.bringUpUncore
  try dsimp only
  repeat' first
    | with_reducible assumption
    | with_reducible apply Still.ite
    | with_reducible apply State.bringUpOn_still
    | with_reducible apply State.domainCause_still
    | with_reducible apply State.put_still
    | with_reducible apply State.setDomain_still
    | with_reducible apply State.bringUpFail_still
    | with_reducible apply Still.foldl
    | with_reducible apply Still.foldl1
    | intro _ _ _
    | intro _ _
    | (fail_if_no_progress (with_reducible refine Still.upd ?_ rfl rfl))
    | dsimp only
    | split

theorem State.trainLinks_still {vt : Vital} {s : State} {col : Nat} (hv : Still vt s.vital) : Still vt (State.trainLinks s col).vital := by
  unfold State.trainLinks
  try dsimp only
  repeat' first
    | with_reducible assumption
    | with_reducible apply Still.ite
    | with_reducible apply State.put_still
    | with_reducible apply Still.foldl
    | with_reducible apply Still.foldl1
    | intro _ _ _
    | intro _ _
    | (fail_if_no_progress (with_reducible refine Still.upd ?_ rfl rfl))
    | dsimp only
    | split

theorem State.bringUpStack_still {vt : Vital} {s : State} {m : Nat} {bad : Bool} (hv : Still vt s.vital) : Still vt (State.bringUpStack s m bad).vital := by
  unfold State.bringUpStack
  try dsimp only
  repeat' first
    | with_reducible assumption
    | with_reducible apply Still.ite
    | with_reducible apply State.bringUpFail_still
    | with_reducible apply State.stackState_still
    | with_reducible apply State.bringUpOn_still
    | with_reducible apply State.put_still
    | with_reducible apply Still.foldl
    | with_reducible apply Still.foldl1
    | intro _ _ _
    | intro _ _
    | (fail_if_no_progress (with_reducible refine Still.upd ?_ rfl rfl))
    | dsimp only
    | split

theorem State.bringUpCore_still {vt : Vital} {s : State} {n : Nat} {bad : Bool} (hv : Still vt s.vital) : Still vt (State.bringUpCore s n bad).vital := by
  unfold State.bringUpCore
  try dsimp only
  repeat' first
    | with_reducible assumption
    | with_reducible apply Still.ite
    | with_reducible apply State.put_still
    | with_reducible apply State.bringUpFail_still
    | with_reducible apply State.bringUpOn_still
    | with_reducible apply State.atNextEdge_still
    | with_reducible apply Still.foldl
    | with_reducible apply Still.foldl1
    | intro _ _ _
    | intro _ _
    | (fail_if_no_progress (with_reducible refine Still.upd ?_ rfl rfl))
    | dsimp only
    | split

theorem State.stopBringUp_still {vt : Vital} {s : State} (hv : Still vt s.vital) : Still vt (State.stopBringUp s).vital := by
  unfold State.stopBringUp
  try dsimp only
  repeat' first
    | with_reducible assumption
    | with_reducible apply Still.ite
    | with_reducible apply State.put_still
    | with_reducible apply Still.foldl
    | with_reducible apply Still.foldl1
    | intro _ _ _
    | intro _ _
    | (fail_if_no_progress (with_reducible refine Still.upd ?_ rfl rfl))
    | dsimp only
    | split

theorem State.columnRing_still {vt : Vital} {s : State} {col : Nat} {failed : List Nat} (hv : Still vt s.vital) : Still vt (State.columnRing s col failed).vital := by
  unfold State.columnRing
  try dsimp only
  repeat' first
    | with_reducible assumption
    | with_reducible apply Still.ite
    | with_reducible apply State.bringUpUncore_still
    | with_reducible apply State.stopBringUp_still
    | with_reducible apply State.trainLinks_still
    | with_reducible apply State.bringUpStack_still
    | with_reducible apply State.bringUpCore_still
    | with_reducible apply Still.foldl
    | with_reducible apply Still.foldl1
    | intro _ _ _
    | intro _ _
    | (fail_if_no_progress (with_reducible refine Still.upd ?_ rfl rfl))
    | dsimp only
    | split

theorem State.readModules_still {vt : Vital} {s : State} (hv : Still vt s.vital) : Still vt (State.readModules s).vital := by
  unfold State.readModules
  try dsimp only
  repeat' first
    | with_reducible assumption
    | with_reducible apply Still.ite
    | with_reducible apply State.draw_still
    | with_reducible apply State.put_still
    | with_reducible apply State.putA_still
    | with_reducible apply State.fruCopy_still
    | with_reducible apply State.countBricks_still
    | with_reducible apply Still.foldl
    | with_reducible apply Still.foldl1
    | intro _ _ _
    | intro _ _
    | (fail_if_no_progress (with_reducible refine Still.upd ?_ rfl rfl))
    | dsimp only
    | split

theorem State.gondolaRing_still {vt : Vital} {s : State} {failed : List Nat} (hv : Still vt s.vital) : Still vt (State.gondolaRing s failed).vital := by
  unfold State.gondolaRing
  try dsimp only
  repeat' first
    | with_reducible assumption
    | with_reducible apply Still.ite
    | with_reducible apply State.bringUpFail_still
    | with_reducible apply State.bringUpOn_still
    | with_reducible apply State.put_still
    | with_reducible apply State.bootHalves_still
    | with_reducible apply State.readModules_still
    | with_reducible apply State.applySettings_still
    | with_reducible apply Still.foldl
    | with_reducible apply Still.foldl1
    | intro _ _ _
    | intro _ _
    | (fail_if_no_progress (with_reducible refine Still.upd ?_ rfl rfl))
    | dsimp only
    | split

theorem State.bringUpLaser_still {vt : Vital} {s : State} {e : Nat} {bad : Bool} (hv : Still vt s.vital) : Still vt (State.bringUpLaser s e bad).vital := by
  unfold State.bringUpLaser
  try dsimp only
  repeat' first
    | with_reducible assumption
    | with_reducible apply Still.ite
    | with_reducible apply State.bringUpFail_still
    | with_reducible apply State.checkLaser_still
    | with_reducible apply Still.foldl
    | with_reducible apply Still.foldl1
    | intro _ _ _
    | intro _ _
    | (fail_if_no_progress (with_reducible refine Still.upd ?_ rfl rfl))
    | dsimp only
    | split

theorem State.opticsRing_still {vt : Vital} {s : State} {failed : List Nat} (hv : Still vt s.vital) : Still vt (State.opticsRing s failed).vital := by
  unfold State.opticsRing
  try dsimp only
  repeat' first
    | with_reducible assumption
    | with_reducible apply Still.ite
    | with_reducible apply State.bringUpFail_still
    | with_reducible apply State.bringUpOn_still
    | with_reducible apply State.setPortState_still
    | with_reducible apply State.bringUpLaser_still
    | with_reducible apply State.put_still
    | with_reducible apply State.completeBringUp_still
    | with_reducible apply Still.foldl
    | with_reducible apply Still.foldl1
    | intro _ _ _
    | intro _ _
    | (fail_if_no_progress (with_reducible refine Still.upd ?_ rfl rfl))
    | dsimp only
    | split

theorem execBringUpRing_still {vt : Vital} {failed : List Nat} {s : State} (hv : Still vt s.vital) {t : State}
    (e : execBringUpRing failed s = .next t) : Still vt t.vital := by
  cases e
  try dsimp only
  repeat' first
    | with_reducible assumption
    | with_reducible apply Still.ite
    | with_reducible apply State.put_still
    | with_reducible apply State.gondolaRing_still
    | with_reducible apply State.opticsRing_still
    | with_reducible apply State.columnRing_still
    | with_reducible apply Still.foldl
    | with_reducible apply Still.foldl1
    | intro _ _ _
    | intro _ _
    | (fail_if_no_progress (with_reducible refine Still.upd ?_ rfl rfl))
    | dsimp only
    | split

theorem execRingTimeout_still {vt : Vital} {s : State} (hv : Still vt s.vital) {t : State}
    (e : execRingTimeout s = .next t) : Still vt t.vital := by
  cases e
  try dsimp only
  repeat' first
    | with_reducible assumption
    | with_reducible apply Still.ite
    | with_reducible apply State.stopBringUp_still
    | with_reducible apply Still.foldl
    | with_reducible apply Still.foldl1
    | intro _ _ _
    | intro _ _
    | (fail_if_no_progress (with_reducible refine Still.upd ?_ rfl rfl))
    | dsimp only
    | split

theorem State.reloadBook_still {vt : Vital} {s : State} (hv : Still vt s.vital) : Still vt (State.reloadBook s).vital := by
  unfold State.reloadBook
  try dsimp only
  repeat' first
    | with_reducible assumption
    | with_reducible apply Still.ite
    | with_reducible apply State.putA_still
    | with_reducible apply State.put_still
    | with_reducible apply Still.foldl
    | with_reducible apply Still.foldl1
    | intro _ _ _
    | intro _ _
    | (fail_if_no_progress (with_reducible refine Still.upd ?_ rfl rfl))
    | dsimp only
    | split

theorem resetRegs_rising (f : Fuses) : Tab.Rising (resetRegs f) := by
  unfold resetRegs
  generalize fuseRegs f = l
  have key : ∀ (l : List (Field × Nat × Nat)) (t : Tab Nat), Tab.Rising t →
      Tab.Rising (l.foldl (fun t x => Tab.put x.1.reset t (x.1.key x.2.1) (x.2.2 % 2 ^ x.1.width)) t) := by
    intro l
    induction l with
    | nil => exact fun _ h => h
    | cons x r ih => exact fun t h => ih _ (Tab.rising_put _ _ _ h)
  exact key l [] (by simp [Tab.Rising])

/-- A machine that has just been reset, with the waiting commands, the host's memory and the fuses' identity as they were. -/
theorem Keeps.anew {vt : Vital} {s t : State} (h : Keeps vt s.vital) (hp : t.pending = s.pending) (hf : t.fused = s.fused)
    (hc : t.clock = ⟨0, 0, 0, 3200⟩) (hh : t.host = s.host) (hm : t.carrier.mem = []) (hr : t.fru = []) {f : Fuses}
    (hg : t.regs = resetRegs f) : Keeps vt t.vital := by
  refine h.trans ⟨hp, hf, fun _ => ?_, fun m => ⟨?_, ?_, ?_, ?_⟩⟩
  · show t.clock.Ok
    rw [hc]; exact ⟨Nat.le_refl _, by show 0 < 0 + 3200; omega⟩
  · show Mem.wf t.host = true
    rw [hh]; exact m.1
  · show Mem.wf t.carrier.mem = true
    rw [hm]; exact Tab.wf_nil _
  · show Mem.wf t.fru = true
    rw [hr]; exact Tab.wf_nil _
  · show Tab.Rising t.regs
    rw [hg]; exact resetRegs_rising f

theorem State.resetTo_keeps {vt : Vital} {s : State} {cause : Nat} (hv : Keeps vt s.vital) : Keeps vt (State.resetTo s cause).vital := by
  unfold State.resetTo
  try dsimp only
  repeat' first
    | with_reducible assumption
    | with_reducible apply Keeps.ite
    | with_reducible apply Keeps.via (State.put_still (Still.refl _))
    | with_reducible apply Keeps.via (State.putA_still (Still.refl _))
    | with_reducible apply Keeps.via (State.swapSlots_still (Still.refl _))
    | with_reducible apply Keeps.via (State.reloadBook_still (Still.refl _))
    | with_reducible apply Keeps.foldl
    | with_reducible apply Keeps.foldl1
    | intro _ _ _
    | intro _ _
    | (fail_if_no_progress (with_reducible refine Keeps.upd ?_ rfl rfl))
    | dsimp only
    | split
    | exact Keeps.anew hv rfl rfl rfl rfl rfl rfl rfl

theorem execModuleReset_keeps {vt : Vital} {cause : Fin 3} {s : State} (hv : Keeps vt s.vital) {t : State}
    (e : execModuleReset cause s = .next t) : Keeps vt t.vital := by
  cases e
  try dsimp only
  repeat' first
    | with_reducible assumption
    | with_reducible apply Keeps.ite
    | with_reducible apply State.resetTo_keeps
    | with_reducible apply Keeps.via (State.abortAll_still (Still.refl _))
    | with_reducible apply Keeps.via (State.thaw_still (Still.refl _))
    | with_reducible apply Keeps.via (State.storeBook_still (Still.refl _))
    | with_reducible apply Keeps.foldl
    | with_reducible apply Keeps.foldl1
    | intro _ _ _
    | intro _ _
    | (fail_if_no_progress (with_reducible refine Keeps.upd ?_ rfl rfl))
    | dsimp only
    | split

theorem execHostLinkChange_still {vt : Vital} {h : Fin 2} {up full : Bool} {s : State} (hv : Still vt s.vital) {t : State}
    (e : execHostLinkChange h up full s = .next t) : Still vt t.vital := by
  cases e
  try dsimp only
  repeat' first
    | with_reducible assumption
    | with_reducible apply Still.ite
    | with_reducible apply State.put_still
    | with_reducible apply State.atNextEdge_still
    | with_reducible apply Still.foldl
    | with_reducible apply Still.foldl1
    | intro _ _ _
    | intro _ _
    | (fail_if_no_progress (with_reducible refine Still.upd ?_ rfl rfl))
    | dsimp only
    | split

end Sys2Proof.Machine
end

