-- ==== Sys2Proof/Laws/KeepAttest.lean ====
section
/-! SUPPORT. What the functions of Machine/Attest.lean leave as it should be (Laws/Vital.lean). -/

namespace Sys2Proof.Machine

set_option linter.unreachableTactic false
set_option linter.unusedTactic false
set_option linter.unusedVariables false

theorem State.setAddress_still {vt : Vital} {s : State} {addr : Nat} (hv : Still vt s.vital) : Still vt (State.setAddress s addr).vital := by
  unfold State.setAddress
  try dsimp only
  repeat' first
    | with_reducible assumption
    | with_reducible apply Still.ite
    | with_reducible apply Still.foldl
    | with_reducible apply Still.foldl1
    | intro _ _ _
    | intro _ _
    | (fail_if_no_progress (with_reducible refine Still.upd ?_ rfl rfl))
    | dsimp only
    | split

theorem execEntdaa_still {vt : Vital} {addr : Fin 128} {s : State} (hv : Still vt s.vital) {t : State}
    (e : execEntdaa addr s = .next t) : Still vt t.vital := by
  cases e
  try dsimp only
  repeat' first
    | with_reducible assumption
    | with_reducible apply Still.ite
    | with_reducible apply State.whenBooted_still
    | with_reducible apply State.viaFirmware_still
    | with_reducible apply State.setAddress_still
    | with_reducible apply Still.foldl
    | with_reducible apply Still.foldl1
    | intro _ _ _
    | intro _ _
    | (fail_if_no_progress (with_reducible refine Still.upd ?_ rfl rfl))
    | dsimp only
    | split

theorem State.spdmReply_still {vt : Vital} {s : State} {request reply : Bytes} (hv : Still vt s.vital) : Still vt (State.spdmReply s request reply).vital := by
  unfold State.spdmReply
  try dsimp only
  repeat' first
    | with_reducible assumption
    | with_reducible apply Still.ite
    | with_reducible apply State.send_still
    | with_reducible apply Still.foldl
    | with_reducible apply Still.foldl1
    | intro _ _ _
    | intro _ _
    | (fail_if_no_progress (with_reducible refine Still.upd ?_ rfl rfl))
    | dsimp only
    | split

theorem State.spdmRefuse_still {vt : Vital} {s : State} (hv : Still vt s.vital) : Still vt (State.spdmRefuse s).vital := by
  unfold State.spdmRefuse
  try dsimp only
  repeat' first
    | with_reducible assumption
    | with_reducible apply Still.ite
    | with_reducible apply State.event_still
    | with_reducible apply Still.foldl
    | with_reducible apply Still.foldl1
    | intro _ _ _
    | intro _ _
    | (fail_if_no_progress (with_reducible refine Still.upd ?_ rfl rfl))
    | dsimp only
    | split

theorem State.replyVersion_still {vt : Vital} {s : State} (hv : Still vt s.vital) : Still vt (State.replyVersion s).vital := by
  unfold State.replyVersion
  try dsimp only
  repeat' first
    | with_reducible assumption
    | with_reducible apply Still.ite
    | with_reducible apply State.spdmReply_still
    | with_reducible apply Still.foldl
    | with_reducible apply Still.foldl1
    | intro _ _ _
    | intro _ _
    | (fail_if_no_progress (with_reducible refine Still.upd ?_ rfl rfl))
    | dsimp only
    | split

theorem execGetVersion_still {vt : Vital} {s : State} (hv : Still vt s.vital) {t : State}
    (e : execGetVersion s = .next t) : Still vt t.vital := by
  cases e
  try dsimp only
  repeat' first
    | with_reducible assumption
    | with_reducible apply Still.ite
    | with_reducible apply State.whenBooted_still
    | with_reducible apply State.viaFirmware_still
    | with_reducible apply State.replyVersion_still
    | with_reducible apply Still.foldl
    | with_reducible apply Still.foldl1
    | intro _ _ _
    | intro _ _
    | (fail_if_no_progress (with_reducible refine Still.upd ?_ rfl rfl))
    | dsimp only
    | split

theorem State.replyCapabilities_still {vt : Vital} {s : State} (hv : Still vt s.vital) : Still vt (State.replyCapabilities s).vital := by
  unfold State.replyCapabilities
  try dsimp only
  repeat' first
    | with_reducible assumption
    | with_reducible apply Still.ite
    | with_reducible apply State.spdmReply_still
    | with_reducible apply Still.foldl
    | with_reducible apply Still.foldl1
    | intro _ _ _
    | intro _ _
    | (fail_if_no_progress (with_reducible refine Still.upd ?_ rfl rfl))
    | dsimp only
    | split

theorem execGetCapabilities_still {vt : Vital} {s : State} (hv : Still vt s.vital) {t : State}
    (e : execGetCapabilities s = .next t) : Still vt t.vital := by
  cases e
  try dsimp only
  repeat' first
    | with_reducible assumption
    | with_reducible apply Still.ite
    | with_reducible apply State.whenBooted_still
    | with_reducible apply State.viaFirmware_still
    | with_reducible apply State.replyCapabilities_still
    | with_reducible apply Still.foldl
    | with_reducible apply Still.foldl1
    | intro _ _ _
    | intro _ _
    | (fail_if_no_progress (with_reducible refine Still.upd ?_ rfl rfl))
    | dsimp only
    | split

theorem State.negotiate_still {vt : Vital} {s : State} {p384 sha384 : Bool} (hv : Still vt s.vital) : Still vt (State.negotiate s p384 sha384).vital := by
  unfold State.negotiate
  try dsimp only
  repeat' first
    | with_reducible assumption
    | with_reducible apply Still.ite
    | with_reducible apply State.spdmReply_still
    | with_reducible apply State.spdmRefuse_still
    | with_reducible apply Still.foldl
    | with_reducible apply Still.foldl1
    | intro _ _ _
    | intro _ _
    | (fail_if_no_progress (with_reducible refine Still.upd ?_ rfl rfl))
    | dsimp only
    | split

theorem execNegotiateAlgorithms_still {vt : Vital} {p384 sha384 : Bool} {s : State} (hv : Still vt s.vital) {t : State}
    (e : execNegotiateAlgorithms p384 sha384 s = .next t) : Still vt t.vital := by
  cases e
  try dsimp only
  repeat' first
    | with_reducible assumption
    | with_reducible apply Still.ite
    | with_reducible apply State.whenBooted_still
    | with_reducible apply State.viaFirmware_still
    | with_reducible apply State.negotiate_still
    | with_reducible apply Still.foldl
    | with_reducible apply Still.foldl1
    | intro _ _ _
    | intro _ _
    | (fail_if_no_progress (with_reducible refine Still.upd ?_ rfl rfl))
    | dsimp only
    | split

theorem State.replyDigests_still {vt : Vital} {s : State} (hv : Still vt s.vital) : Still vt (State.replyDigests s).vital := by
  unfold State.replyDigests
  try dsimp only
  repeat' first
    | with_reducible assumption
    | with_reducible apply Still.ite
    | with_reducible apply State.spdmReply_still
    | with_reducible apply Still.foldl
    | with_reducible apply Still.foldl1
    | intro _ _ _
    | intro _ _
    | (fail_if_no_progress (with_reducible refine Still.upd ?_ rfl rfl))
    | dsimp only
    | split

theorem execGetDigests_still {vt : Vital} {s : State} (hv : Still vt s.vital) {t : State}
    (e : execGetDigests s = .next t) : Still vt t.vital := by
  cases e
  try dsimp only
  repeat' first
    | with_reducible assumption
    | with_reducible apply Still.ite
    | with_reducible apply State.whenBooted_still
    | with_reducible apply State.viaFirmware_still
    | with_reducible apply State.replyDigests_still
    | with_reducible apply Still.foldl
    | with_reducible apply Still.foldl1
    | intro _ _ _
    | intro _ _
    | (fail_if_no_progress (with_reducible refine Still.upd ?_ rfl rfl))
    | dsimp only
    | split

theorem State.replyCertificate_still {vt : Vital} {s : State} {slot off len : Nat} (hv : Still vt s.vital) : Still vt (State.replyCertificate s slot off len).vital := by
  unfold State.replyCertificate
  try dsimp only
  repeat' first
    | with_reducible assumption
    | with_reducible apply Still.ite
    | with_reducible apply State.spdmReply_still
    | with_reducible apply State.spdmRefuse_still
    | with_reducible apply Still.foldl
    | with_reducible apply Still.foldl1
    | intro _ _ _
    | intro _ _
    | (fail_if_no_progress (with_reducible refine Still.upd ?_ rfl rfl))
    | dsimp only
    | split

theorem execGetCertificate_still {vt : Vital} {slot off len : Nat} {s : State} (hv : Still vt s.vital) {t : State}
    (e : execGetCertificate slot off len s = .next t) : Still vt t.vital := by
  cases e
  try dsimp only
  repeat' first
    | with_reducible assumption
    | with_reducible apply Still.ite
    | with_reducible apply State.whenBooted_still
    | with_reducible apply State.viaFirmware_still
    | with_reducible apply State.replyCertificate_still
    | with_reducible apply Still.foldl
    | with_reducible apply Still.foldl1
    | intro _ _ _
    | intro _ _
    | (fail_if_no_progress (with_reducible refine Still.upd ?_ rfl rfl))
    | dsimp only
    | split

theorem State.signedReply_still {vt : Vital} {s : State} {request content : Bytes} (hv : Still vt s.vital) : Still vt (State.signedReply s request content).vital := by
  unfold State.signedReply
  try dsimp only
  repeat' first
    | with_reducible assumption
    | with_reducible apply Still.ite
    | with_reducible apply State.draw_still
    | with_reducible apply State.spdmReply_still
    | with_reducible apply Still.foldl
    | with_reducible apply Still.foldl1
    | intro _ _ _
    | intro _ _
    | (fail_if_no_progress (with_reducible refine Still.upd ?_ rfl rfl))
    | dsimp only
    | split

theorem State.replyChallenge_still {vt : Vital} {s : State} {slot : Nat} {nonce : Bytes} (hv : Still vt s.vital) : Still vt (State.replyChallenge s slot nonce).vital := by
  unfold State.replyChallenge
  try dsimp only
  repeat' first
    | with_reducible assumption
    | with_reducible apply Still.ite
    | with_reducible apply State.signedReply_still
    | with_reducible apply State.spdmRefuse_still
    | with_reducible apply Still.foldl
    | with_reducible apply Still.foldl1
    | intro _ _ _
    | intro _ _
    | (fail_if_no_progress (with_reducible refine Still.upd ?_ rfl rfl))
    | dsimp only
    | split

theorem execChallenge_still {vt : Vital} {slot : Nat} {nonce : Bytes} {s : State} (hv : Still vt s.vital) {t : State}
    (e : execChallenge slot nonce s = .next t) : Still vt t.vital := by
  cases e
  try dsimp only
  repeat' first
    | with_reducible assumption
    | with_reducible apply Still.ite
    | with_reducible apply State.whenBooted_still
    | with_reducible apply State.viaFirmware_still
    | with_reducible apply State.replyChallenge_still
    | with_reducible apply Still.foldl
    | with_reducible apply Still.foldl1
    | intro _ _ _
    | intro _ _
    | (fail_if_no_progress (with_reducible refine Still.upd ?_ rfl rfl))
    | dsimp only
    | split

theorem State.replyMeasurement_still {vt : Vital} {s : State} {index : Nat} {nonce : Bytes} (hv : Still vt s.vital) : Still vt (State.replyMeasurement s index nonce).vital := by
  unfold State.replyMeasurement
  try dsimp only
  repeat' first
    | with_reducible assumption
    | with_reducible apply Still.ite
    | with_reducible apply State.signedReply_still
    | with_reducible apply State.spdmRefuse_still
    | with_reducible apply Still.foldl
    | with_reducible apply Still.foldl1
    | intro _ _ _
    | intro _ _
    | (fail_if_no_progress (with_reducible refine Still.upd ?_ rfl rfl))
    | dsimp only
    | split

theorem execGetMeasurements_still {vt : Vital} {index : Nat} {nonce : Bytes} {s : State} (hv : Still vt s.vital) {t : State}
    (e : execGetMeasurements index nonce s = .next t) : Still vt t.vital := by
  cases e
  try dsimp only
  repeat' first
    | with_reducible assumption
    | with_reducible apply Still.ite
    | with_reducible apply State.whenBooted_still
    | with_reducible apply State.viaFirmware_still
    | with_reducible apply State.replyMeasurement_still
    | with_reducible apply Still.foldl
    | with_reducible apply Still.foldl1
    | intro _ _ _
    | intro _ _
    | (fail_if_no_progress (with_reducible refine Still.upd ?_ rfl rfl))
    | dsimp only
    | split

theorem State.installOwner_still {vt : Vital} {s : State} {key : Bytes} (hv : Still vt s.vital) : Still vt (State.installOwner s key).vital := by
  unfold State.installOwner
  try dsimp only
  repeat' first
    | with_reducible assumption
    | with_reducible apply Still.ite
    | with_reducible apply Still.foldl
    | with_reducible apply Still.foldl1
    | intro _ _ _
    | intro _ _
    | (fail_if_no_progress (with_reducible refine Still.upd ?_ rfl rfl))
    | dsimp only
    | split

theorem execOwnerKeyInstall_still {vt : Vital} {key : Bytes} {s : State} (hv : Still vt s.vital) {t : State}
    (e : execOwnerKeyInstall key s = .next t) : Still vt t.vital := by
  cases e
  try dsimp only
  repeat' first
    | with_reducible assumption
    | with_reducible apply Still.ite
    | with_reducible apply State.whenBooted_still
    | with_reducible apply State.viaFirmware_still
    | with_reducible apply State.installOwner_still
    | with_reducible apply Still.foldl
    | with_reducible apply Still.foldl1
    | intro _ _ _
    | intro _ _
    | (fail_if_no_progress (with_reducible refine Still.upd ?_ rfl rfl))
    | dsimp only
    | split

theorem State.sensor_still {vt : Vital} {s : State} {n : Nat} (hv : Still vt s.vital) : Still vt (State.sensor s n).2.vital := by
  unfold State.sensor
  try dsimp only
  repeat' first
    | with_reducible assumption
    | with_reducible apply Still.ite
    | with_reducible apply State.draw_still
    | with_reducible apply Still.foldl
    | with_reducible apply Still.foldl1
    | intro _ _ _
    | intro _ _
    | (fail_if_no_progress (with_reducible refine Still.upd ?_ rfl rfl))
    | dsimp only
    | split

theorem State.replySensor_still {vt : Vital} {s : State} {sensor : Nat} (hv : Still vt s.vital) : Still vt (State.replySensor s sensor).vital := by
  unfold State.replySensor
  try dsimp only
  repeat' first
    | with_reducible assumption
    | with_reducible apply Still.ite
    | with_reducible apply State.sensor_still
    | with_reducible apply State.send_still
    | with_reducible apply Still.foldl
    | with_reducible apply Still.foldl1
    | intro _ _ _
    | intro _ _
    | (fail_if_no_progress (with_reducible refine Still.upd ?_ rfl rfl))
    | dsimp only
    | split

theorem execPldmSensorRead_still {vt : Vital} {sensor : Fin 5} {s : State} (hv : Still vt s.vital) {t : State}
    (e : execPldmSensorRead sensor s = .next t) : Still vt t.vital := by
  cases e
  try dsimp only
  repeat' first
    | with_reducible assumption
    | with_reducible apply Still.ite
    | with_reducible apply State.whenBooted_still
    | with_reducible apply State.viaFirmware_still
    | with_reducible apply State.replySensor_still
    | with_reducible apply Still.foldl
    | with_reducible apply Still.foldl1
    | intro _ _ _
    | intro _ _
    | (fail_if_no_progress (with_reducible refine Still.upd ?_ rfl rfl))
    | dsimp only
    | split

theorem State.replyBook_still {vt : Vital} {s : State} {off len : Nat} (hv : Still vt s.vital) : Still vt (State.replyBook s off len).vital := by
  unfold State.replyBook
  try dsimp only
  repeat' first
    | with_reducible assumption
    | with_reducible apply Still.ite
    | with_reducible apply State.send_still
    | with_reducible apply Still.foldl
    | with_reducible apply Still.foldl1
    | intro _ _ _
    | intro _ _
    | (fail_if_no_progress (with_reducible refine Still.upd ?_ rfl rfl))
    | dsimp only
    | split

theorem execPldmLogbookRead_still {vt : Vital} {off len : Nat} {s : State} (hv : Still vt s.vital) {t : State}
    (e : execPldmLogbookRead off len s = .next t) : Still vt t.vital := by
  cases e
  try dsimp only
  repeat' first
    | with_reducible assumption
    | with_reducible apply Still.ite
    | with_reducible apply State.whenBooted_still
    | with_reducible apply State.viaFirmware_still
    | with_reducible apply State.replyBook_still
    | with_reducible apply Still.foldl
    | with_reducible apply Still.foldl1
    | intro _ _ _
    | intro _ _
    | (fail_if_no_progress (with_reducible refine Still.upd ?_ rfl rfl))
    | dsimp only
    | split

theorem State.mailed_still {vt : Vital} {s : State} {i : Instr} (hv : Still vt s.vital) : Still vt (State.mailed s i).vital := by
  unfold State.mailed
  try dsimp only
  repeat' first
    | with_reducible assumption
    | with_reducible apply Still.ite
    | with_reducible apply State.writeSettings_still
    | with_reducible apply State.setAddress_still
    | with_reducible apply State.replyVersion_still
    | with_reducible apply State.replyCapabilities_still
    | with_reducible apply State.negotiate_still
    | with_reducible apply State.replyDigests_still
    | with_reducible apply State.replyCertificate_still
    | with_reducible apply State.replyChallenge_still
    | with_reducible apply State.replyMeasurement_still
    | with_reducible apply State.installOwner_still
    | with_reducible apply State.replySensor_still
    | with_reducible apply State.replyBook_still
    | with_reducible apply Still.foldl
    | with_reducible apply Still.foldl1
    | intro _ _ _
    | intro _ _
    | (fail_if_no_progress (with_reducible refine Still.upd ?_ rfl rfl))
    | dsimp only
    | split

theorem State.openMail_still {vt : Vital} {s : State} {i : Instr} (hv : Still vt s.vital) : Still vt (State.openMail s i).vital := by
  unfold State.openMail
  try dsimp only
  repeat' first
    | with_reducible assumption
    | with_reducible apply Still.ite
    | with_reducible apply State.viaFirmware_still
    | with_reducible apply State.mailed_still
    | with_reducible apply Still.foldl
    | with_reducible apply Still.foldl1
    | intro _ _ _
    | intro _ _
    | (fail_if_no_progress (with_reducible refine Still.upd ?_ rfl rfl))
    | dsimp only
    | split

theorem execLogbookStore_still {vt : Vital} {s : State} (hv : Still vt s.vital) {t : State}
    (e : execLogbookStore s = .next t) : Still vt t.vital := by
  cases e
  try dsimp only
  repeat' first
    | with_reducible assumption
    | with_reducible apply Still.ite
    | with_reducible apply State.storeBook_still
    | with_reducible apply Still.foldl
    | with_reducible apply Still.foldl1
    | intro _ _ _
    | intro _ _
    | (fail_if_no_progress (with_reducible refine Still.upd ?_ rfl rfl))
    | dsimp only
    | split

theorem execFreeze_still {vt : Vital} {s : State} (hv : Still vt s.vital) {t : State}
    (e : execFreeze s = .next t) : Still vt t.vital := by
  cases e
  try dsimp only
  repeat' first
    | with_reducible assumption
    | with_reducible apply Still.ite
    | with_reducible apply State.whenBooted_still
    | with_reducible apply State.put_still
    | with_reducible apply Still.foldl
    | with_reducible apply Still.foldl1
    | intro _ _ _
    | intro _ _
    | (fail_if_no_progress (with_reducible refine Still.upd ?_ rfl rfl))
    | dsimp only
    | split

theorem execThaw_still {vt : Vital} {s : State} (hv : Still vt s.vital) {t : State}
    (e : execThaw s = .next t) : Still vt t.vital := by
  cases e
  try dsimp only
  repeat' first
    | with_reducible assumption
    | with_reducible apply Still.ite
    | with_reducible apply State.whenBooted_still
    | with_reducible apply State.thaw_still
    | with_reducible apply Still.foldl
    | with_reducible apply Still.foldl1
    | intro _ _ _
    | intro _ _
    | (fail_if_no_progress (with_reducible refine Still.upd ?_ rfl rfl))
    | dsimp only
    | split

theorem execFreezeTimeout_still {vt : Vital} {s : State} (hv : Still vt s.vital) {t : State}
    (e : execFreezeTimeout s = .next t) : Still vt t.vital := by
  cases e
  try dsimp only
  repeat' first
    | with_reducible assumption
    | with_reducible apply Still.ite
    | with_reducible apply State.thaw_still
    | with_reducible apply Still.foldl
    | with_reducible apply Still.foldl1
    | intro _ _ _
    | intro _ _
    | (fail_if_no_progress (with_reducible refine Still.upd ?_ rfl rfl))
    | dsimp only
    | split

theorem execFreezeQueueFull_still {vt : Vital} {s : State} (hv : Still vt s.vital) {t : State}
    (e : execFreezeQueueFull s = .next t) : Still vt t.vital := by
  cases e
  try dsimp only
  repeat' first
    | with_reducible assumption
    | with_reducible apply Still.ite
    | with_reducible apply State.thaw_still
    | with_reducible apply Still.foldl
    | with_reducible apply Still.foldl1
    | intro _ _ _
    | intro _ _
    | (fail_if_no_progress (with_reducible refine Still.upd ?_ rfl rfl))
    | dsimp only
    | split

end Sys2Proof.Machine
end

