-- ==== Sys2Proof/Laws/KeepRegs.lean ====
section
/-! SUPPORT. What the functions of Machine/Regs.lean leave as it should be (Laws/Vital.lean). -/

namespace Sys2Proof.Machine

set_option linter.unreachableTactic false
set_option linter.unusedTactic false
set_option linter.unusedVariables false

theorem State.after_still {vt : Vital} {s : State} {o : Host.Outcome State Fault Refusal} (h : Still vt s.vital)
    (ho : ∀ t, o = .next t → Still vt t.vital) : Still vt (State.after s o).vital := by
  unfold State.after
  split
  · exact ho _ rfl
  · exact h
  · exact h

theorem State.after_keeps {vt : Vital} {s : State} {o : Host.Outcome State Fault Refusal} (h : Keeps vt s.vital)
    (ho : ∀ t, o = .next t → Keeps vt t.vital) : Keeps vt (State.after s o).vital := by
  unfold State.after
  split
  · exact ho _ rfl
  · exact h
  · exact h

theorem State.writeField_still {vt : Vital} {s : State} {f : Field} {i mask v : Nat} (hv : Still vt s.vital) : Still vt (State.writeField s f i mask v).vital := by
  unfold State.writeField
  try dsimp only
  repeat' first
    | with_reducible assumption
    | with_reducible apply Still.ite
    | with_reducible apply State.put_still
    | with_reducible apply Still.foldl
    | with_reducible apply Still.foldl1
    | intro _ _ _
    | intro _ _
    | (fail_if_no_progress (with_reducible refine Still.upd ?_ rfl rfl))
    | dsimp only
    | split

theorem State.writeFields_still {vt : Vital} {s : State} {r : Reg} {i mask v : Nat} (hv : Still vt s.vital) : Still vt (State.writeFields s r i mask v).vital := by
  unfold State.writeFields
  try dsimp only
  repeat' first
    | with_reducible assumption
    | with_reducible apply Still.ite
    | with_reducible apply State.writeField_still
    | with_reducible apply Still.foldl
    | with_reducible apply Still.foldl1
    | intro _ _ _
    | intro _ _
    | (fail_if_no_progress (with_reducible refine Still.upd ?_ rfl rfl))
    | dsimp only
    | split

theorem State.lockedWrite_still {vt : Vital} {s : State} {r : Reg} {mask v off : Nat} (hv : Still vt s.vital) : Still vt (State.lockedWrite s r mask v off).vital := by
  unfold State.lockedWrite
  try dsimp only
  repeat' first
    | with_reducible assumption
    | with_reducible apply Still.ite
    | with_reducible apply State.ignored_still
    | with_reducible apply State.writeFields_still
    | with_reducible apply Still.foldl
    | with_reducible apply Still.foldl1
    | intro _ _ _
    | intro _ _
    | (fail_if_no_progress (with_reducible refine Still.upd ?_ rfl rfl))
    | dsimp only
    | split

theorem execReelCfgLock_still {vt : Vital} {value : BitVec 32} {s : State} (hv : Still vt s.vital) {t : State}
    (e : execReelCfgLock value s = .next t) : Still vt t.vital := by
  cases e
  try dsimp only
  repeat' first
    | with_reducible assumption
    | with_reducible apply Still.ite
    | with_reducible apply State.whenBooted_still
    | with_reducible apply State.lockedWrite_still
    | with_reducible apply Still.foldl
    | with_reducible apply Still.foldl1
    | intro _ _ _
    | intro _ _
    | (fail_if_no_progress (with_reducible refine Still.upd ?_ rfl rfl))
    | dsimp only
    | split

theorem execPwrCfgLock_still {vt : Vital} {value : BitVec 64} {s : State} (hv : Still vt s.vital) {t : State}
    (e : execPwrCfgLock value s = .next t) : Still vt t.vital := by
  cases e
  try dsimp only
  repeat' first
    | with_reducible assumption
    | with_reducible apply Still.ite
    | with_reducible apply State.whenBooted_still
    | with_reducible apply State.lockedWrite_still
    | with_reducible apply Still.foldl
    | with_reducible apply Still.foldl1
    | intro _ _ _
    | intro _ _
    | (fail_if_no_progress (with_reducible refine Still.upd ?_ rfl rfl))
    | dsimp only
    | split

theorem execLogbCfgLock_still {vt : Vital} {value : BitVec 32} {s : State} (hv : Still vt s.vital) {t : State}
    (e : execLogbCfgLock value s = .next t) : Still vt t.vital := by
  cases e
  try dsimp only
  repeat' first
    | with_reducible assumption
    | with_reducible apply Still.ite
    | with_reducible apply State.whenBooted_still
    | with_reducible apply State.lockedWrite_still
    | with_reducible apply Still.foldl
    | with_reducible apply Still.foldl1
    | intro _ _ _
    | intro _ _
    | (fail_if_no_progress (with_reducible refine Still.upd ?_ rfl rfl))
    | dsimp only
    | split

theorem State.actIf_still {vt : Vital} {s : State} {b : Bool} {f : State → Host.Outcome State Fault Refusal} (h : Still vt s.vital)
    (hf : ∀ t, f s = .next t → Still vt t.vital) : Still vt (State.actIf s b f).vital := by
  unfold State.actIf
  split
  · exact State.after_still h hf
  · exact h

theorem State.actIf_keeps {vt : Vital} {s : State} {b : Bool} {f : State → Host.Outcome State Fault Refusal} (h : Keeps vt s.vital)
    (hf : ∀ t, f s = .next t → Keeps vt t.vital) : Keeps vt (State.actIf s b f).vital := by
  unfold State.actIf
  split
  · exact State.after_keeps h hf
  · exact h

theorem State.writeQueueCmd_still {vt : Vital} {s : State} {q mask v off : Nat} (hv : Still vt s.vital) : Still vt (State.writeQueueCmd s q mask v off).vital := by
  unfold State.writeQueueCmd
  try dsimp only
  repeat' first
    | with_reducible assumption
    | with_reducible apply Still.ite
    | with_reducible apply State.actIf_still
    | with_reducible apply execQueueFaultClear_still ?_ (by assumption)
    | with_reducible apply State.ignored_still
    | with_reducible apply State.put_still
    | with_reducible apply execProtectionChange_still ?_ (by assumption)
    | with_reducible apply Still.foldl
    | with_reducible apply Still.foldl1
    | intro _ _ _
    | intro _ _
    | (fail_if_no_progress (with_reducible refine Still.upd ?_ rfl rfl))
    | dsimp only
    | split

theorem State.writeQueueCpl_still {vt : Vital} {s : State} {q mask v off : Nat} (hv : Still vt s.vital) : Still vt (State.writeQueueCpl s q mask v off).vital := by
  unfold State.writeQueueCpl
  try dsimp only
  repeat' first
    | with_reducible assumption
    | with_reducible apply Still.ite
    | with_reducible apply State.put_still
    | with_reducible apply State.ignored_still
    | with_reducible apply Still.foldl
    | with_reducible apply Still.foldl1
    | intro _ _ _
    | intro _ _
    | (fail_if_no_progress (with_reducible refine Still.upd ?_ rfl rfl))
    | dsimp only
    | split

theorem State.writeQuota_still {vt : Vital} {s : State} {p mask v off : Nat} (hv : Still vt s.vital) : Still vt (State.writeQuota s p mask v off).vital := by
  unfold State.writeQuota
  try dsimp only
  repeat' first
    | with_reducible assumption
    | with_reducible apply Still.ite
    | with_reducible apply State.ignored_still
    | with_reducible apply State.put_still
    | with_reducible apply Still.foldl
    | with_reducible apply Still.foldl1
    | intro _ _ _
    | intro _ _
    | (fail_if_no_progress (with_reducible refine Still.upd ?_ rfl rfl))
    | dsimp only
    | split

theorem State.writeProgCtl_still {vt : Vital} {s : State} {i mask v off : Nat} (hv : Still vt s.vital) : Still vt (State.writeProgCtl s i mask v off).vital := by
  unfold State.writeProgCtl
  try dsimp only
  repeat' first
    | with_reducible assumption
    | with_reducible apply Still.ite
    | with_reducible apply State.ignored_still
    | with_reducible apply State.put_still
    | with_reducible apply State.actIf_still
    | with_reducible apply execProgLoad_still ?_ (by assumption)
    | with_reducible apply execProgClear_still ?_ (by assumption)
    | with_reducible apply Still.foldl
    | with_reducible apply Still.foldl1
    | intro _ _ _
    | intro _ _
    | (fail_if_no_progress (with_reducible refine Still.upd ?_ rfl rfl))
    | dsimp only
    | split

theorem State.writeKeyCtl_still {vt : Vital} {s : State} {p mask v off : Nat} (hv : Still vt s.vital) : Still vt (State.writeKeyCtl s p mask v off).vital := by
  unfold State.writeKeyCtl
  try dsimp only
  repeat' first
    | with_reducible assumption
    | with_reducible apply Still.ite
    | with_reducible apply State.ignored_still
    | with_reducible apply State.actIf_still
    | with_reducible apply execKeyLoad_still ?_ (by assumption)
    | with_reducible apply execKeyErase_still ?_ (by assumption)
    | with_reducible apply execKeyEraseAll_still ?_ (by assumption)
    | with_reducible apply Still.foldl
    | with_reducible apply Still.foldl1
    | intro _ _ _
    | intro _ _
    | (fail_if_no_progress (with_reducible refine Still.upd ?_ rfl rfl))
    | dsimp only
    | split

theorem State.writeKeyIn_still {vt : Vital} {s : State} {i mask v : Nat} (hv : Still vt s.vital) : Still vt (State.writeKeyIn s i mask v).vital := by
  unfold State.writeKeyIn
  try dsimp only
  repeat' first
    | with_reducible assumption
    | with_reducible apply Still.ite
    | with_reducible apply State.modPart_still
    | with_reducible apply Still.foldl
    | with_reducible apply Still.foldl1
    | intro _ _ _
    | intro _ _
    | (fail_if_no_progress (with_reducible refine Still.upd ?_ rfl rfl))
    | dsimp only
    | split

theorem State.writeReset_keeps {vt : Vital} {s : State} {mask v off : Nat} (hv : Keeps vt s.vital) : Keeps vt (State.writeReset s mask v off).vital := by
  unfold State.writeReset
  try dsimp only
  repeat' first
    | with_reducible assumption
    | with_reducible apply Keeps.ite
    | with_reducible apply State.actIf_keeps
    | with_reducible apply execModuleReset_keeps ?_ (by assumption)
    | with_reducible apply Keeps.via (State.ignored_still (Still.refl _))
    | with_reducible apply Keeps.foldl
    | with_reducible apply Keeps.foldl1
    | intro _ _ _
    | intro _ _
    | (fail_if_no_progress (with_reducible refine Keeps.upd ?_ rfl rfl))
    | dsimp only
    | split

theorem State.writeHost_still {vt : Vital} {s : State} {mask v : Nat} (hv : Still vt s.vital) : Still vt (State.writeHost s mask v).vital := by
  unfold State.writeHost
  try dsimp only
  repeat' first
    | with_reducible assumption
    | with_reducible apply Still.ite
    | with_reducible apply State.put_still
    | with_reducible apply State.atNextEdge_still
    | with_reducible apply Still.foldl
    | with_reducible apply Still.foldl1
    | intro _ _ _
    | intro _ _
    | (fail_if_no_progress (with_reducible refine Still.upd ?_ rfl rfl))
    | dsimp only
    | split

theorem State.writePf_keeps {vt : Vital} {s : State} {r : Reg} {i mask v off : Nat} (hv : Keeps vt s.vital) : Keeps vt (State.writePf s r i mask v off).vital := by
  unfold State.writePf
  try dsimp only
  repeat' first
    | with_reducible assumption
    | with_reducible apply Keeps.ite
    | with_reducible apply Keeps.via (State.lockedWrite_still (Still.refl _))
    | with_reducible apply State.actIf_keeps
    | with_reducible apply Keeps.via (execReselect_still (Still.refl _) (by assumption))
    | with_reducible apply Keeps.via (execResume_still (Still.refl _) (by assumption))
    | with_reducible apply State.after_keeps
    | with_reducible apply Keeps.via (execReelBeaconErrClear_still (Still.refl _) (by assumption))
    | with_reducible apply Keeps.via (State.writeFields_still (Still.refl _))
    | with_reducible apply Keeps.via (execErtSwitch_still (Still.refl _) (by assumption))
    | with_reducible apply Keeps.via (execPortEnable_still (Still.refl _) (by assumption))
    | with_reducible apply Keeps.via (execRetrain_still (Still.refl _) (by assumption))
    | with_reducible apply Keeps.via (execOffline_still (Still.refl _) (by assumption))
    | with_reducible apply Keeps.via (execLoopback_still (Still.refl _) (by assumption))
    | with_reducible apply Keeps.via (execOnline_still (Still.refl _) (by assumption))
    | with_reducible apply Keeps.via (execSwap_still (Still.refl _) (by assumption))
    | with_reducible apply Keeps.via (State.writeQueueCmd_still (Still.refl _))
    | with_reducible apply Keeps.via (State.writeQueueCpl_still (Still.refl _))
    | with_reducible apply Keeps.via (execDoorbell_still (Still.refl _) (by assumption))
    | with_reducible apply Keeps.via (State.ignored_still (Still.refl _))
    | with_reducible apply Keeps.via (execFenceHostWrite_still (Still.refl _) (by assumption))
    | with_reducible apply Keeps.via (State.writeQuota_still (Still.refl _))
    | with_reducible apply Keeps.via (execProtectionChange_still (Still.refl _) (by assumption))
    | with_reducible apply Keeps.via (execResourceWithdraw_still (Still.refl _) (by assumption))
    | with_reducible apply Keeps.via (State.writeField_still (Still.refl _))
    | with_reducible apply Keeps.via (State.writeProgCtl_still (Still.refl _))
    | with_reducible apply Keeps.via (execInflate_still (Still.refl _) (by assumption))
    | with_reducible apply Keeps.via (execDeflate_still (Still.refl _) (by assumption))
    | with_reducible apply Keeps.via (execVminRearm_still (Still.refl _) (by assumption))
    | with_reducible apply Keeps.via (execDrain_still (Still.refl _) (by assumption))
    | with_reducible apply Keeps.via (execScrub_still (Still.refl _) (by assumption))
    | with_reducible apply Keeps.via (execReturnStack_still (Still.refl _) (by assumption))
    | with_reducible apply Keeps.via (execFreeze_still (Still.refl _) (by assumption))
    | with_reducible apply Keeps.via (execThaw_still (Still.refl _) (by assumption))
    | with_reducible apply State.writeReset_keeps
    | with_reducible apply Keeps.via (State.writeHost_still (Still.refl _))
    | with_reducible apply Keeps.via (execStage_still (Still.refl _) (by assumption))
    | with_reducible apply Keeps.via (execHandover_still (Still.refl _) (by assumption))
    | with_reducible apply Keeps.via (execConfirm_still (Still.refl _) (by assumption))
    | with_reducible apply Keeps.via (execFallback_still (Still.refl _) (by assumption))
    | with_reducible apply Keeps.via (execSettingsWrite_still (Still.refl _) (by assumption))
    | with_reducible apply Keeps.via (execOpenDebug_still (Still.refl _) (by assumption))
    | with_reducible apply Keeps.via (State.writeKeyIn_still (Still.refl _))
    | with_reducible apply Keeps.via (State.writeKeyCtl_still (Still.refl _))
    | with_reducible apply Keeps.foldl
    | with_reducible apply Keeps.foldl1
    | intro _ _ _
    | intro _ _
    | (fail_if_no_progress (with_reducible refine Keeps.upd ?_ rfl rfl))
    | dsimp only
    | split

theorem State.writeVf_still {vt : Vital} {s : State} {p : Fin 16} {r : Reg} {i mask v off : Nat} (hv : Still vt s.vital) : Still vt (State.writeVf s p r i mask v off).vital := by
  unfold State.writeVf
  try dsimp only
  repeat' first
    | with_reducible assumption
    | with_reducible apply Still.ite
    | with_reducible apply State.after_still
    | with_reducible apply execDoorbell_still ?_ (by assumption)
    | with_reducible apply State.ignored_still
    | with_reducible apply execFenceHostWrite_still ?_ (by assumption)
    | with_reducible apply State.writeFields_still
    | with_reducible apply Still.foldl
    | with_reducible apply Still.foldl1
    | intro _ _ _
    | intro _ _
    | (fail_if_no_progress (with_reducible refine Still.upd ?_ rfl rfl))
    | dsimp only
    | split

theorem State.writeModel_still {vt : Vital} {s : State} {off v : Nat} (hv : Still vt s.vital) : Still vt (State.writeModel s off v).vital := by
  unfold State.writeModel
  try dsimp only
  repeat' first
    | with_reducible assumption
    | with_reducible apply Still.ite
    | with_reducible apply State.modStrm_still
    | with_reducible apply Still.foldl
    | with_reducible apply Still.foldl1
    | intro _ _ _
    | intro _ _
    | (fail_if_no_progress (with_reducible refine Still.upd ?_ rfl rfl))
    | dsimp only
    | split

theorem State.pfWord_keeps {vt : Vital} {s : State} {off v : Nat} (hv : Keeps vt s.vital) : Keeps vt (State.pfWord s off v).vital := by
  unfold State.pfWord
  try dsimp only
  repeat' first
    | with_reducible assumption
    | with_reducible apply Keeps.ite
    | with_reducible apply State.writePf_keeps
    | with_reducible apply Keeps.via (State.writeModel_still (Still.refl _))
    | with_reducible apply Keeps.via (State.ignored_still (Still.refl _))
    | with_reducible apply Keeps.foldl
    | with_reducible apply Keeps.foldl1
    | intro _ _ _
    | intro _ _
    | (fail_if_no_progress (with_reducible refine Keeps.upd ?_ rfl rfl))
    | dsimp only
    | split

theorem State.vfWord_still {vt : Vital} {s : State} {p : Fin 16} {off v : Nat} (hv : Still vt s.vital) : Still vt (State.vfWord s p off v).vital := by
  unfold State.vfWord
  try dsimp only
  repeat' first
    | with_reducible assumption
    | with_reducible apply Still.ite
    | with_reducible apply State.writeVf_still
    | with_reducible apply State.ignored_still
    | with_reducible apply Still.foldl
    | with_reducible apply Still.foldl1
    | intro _ _ _
    | intro _ _
    | (fail_if_no_progress (with_reducible refine Still.upd ?_ rfl rfl))
    | dsimp only
    | split

theorem State.writeMsix_still {vt : Vital} {s : State} {fn a size v : Nat} (hv : Still vt s.vital) : Still vt (State.writeMsix s fn a size v).vital := by
  unfold State.writeMsix
  try dsimp only
  repeat' first
    | with_reducible assumption
    | with_reducible apply Still.ite
    | with_reducible apply State.setMsix_still
    | with_reducible apply State.sendVector_still
    | with_reducible apply Still.foldl
    | with_reducible apply Still.foldl1
    | intro _ _ _
    | intro _ _
    | (fail_if_no_progress (with_reducible refine Still.upd ?_ rfl rfl))
    | dsimp only
    | split

theorem State.busWrite_keeps {vt : Vital} {s : State} {f : Fn} {off size v : Nat} (hv : Keeps vt s.vital) : Keeps vt (State.busWrite s f off size v).vital := by
  unfold State.busWrite
  try dsimp only
  repeat' first
    | with_reducible assumption
    | with_reducible apply Keeps.ite
    | with_reducible apply Keeps.via (State.writeMsix_still (Still.refl _))
    | with_reducible apply Keeps.via (State.ignored_still (Still.refl _))
    | with_reducible apply State.after_keeps
    | with_reducible apply Keeps.via (execErtWindowWrite_still (Still.refl _) (by assumption))
    | with_reducible apply State.writePf_keeps
    | with_reducible apply State.pfWord_keeps
    | with_reducible apply Keeps.via (State.writeVf_still (Still.refl _))
    | with_reducible apply Keeps.via (State.vfWord_still (Still.refl _))
    | with_reducible apply Keeps.foldl
    | with_reducible apply Keeps.foldl1
    | intro _ _ _
    | intro _ _
    | (fail_if_no_progress (with_reducible refine Keeps.upd ?_ rfl rfl))
    | dsimp only
    | split

theorem execRegisterWrite_keeps {vt : Vital} {f : Fn} {off size value : Nat} {s : State} (hv : Keeps vt s.vital) {t : State}
    (e : execRegisterWrite f off size value s = .next t) : Keeps vt t.vital := by
  cases e
  try dsimp only
  repeat' first
    | with_reducible assumption
    | with_reducible apply Keeps.ite
    | with_reducible apply State.whenBooted_keeps
    | with_reducible apply State.busWrite_keeps
    | with_reducible apply Keeps.via (State.ignored_still (Still.refl _))
    | with_reducible apply Keeps.foldl
    | with_reducible apply Keeps.foldl1
    | intro _ _ _
    | intro _ _
    | (fail_if_no_progress (with_reducible refine Keeps.upd ?_ rfl rfl))
    | dsimp only
    | split

theorem execBadAccess_still {vt : Vital} {_f : Fn} {off size : Nat} {read : Bool} {s : State} (hv : Still vt s.vital) {t : State}
    (e : execBadAccess _f off size read s = .next t) : Still vt t.vital := by
  cases e
  try dsimp only
  repeat' first
    | with_reducible assumption
    | with_reducible apply Still.ite
    | with_reducible apply State.ignored_still
    | with_reducible apply State.send_still
    | with_reducible apply Still.foldl
    | with_reducible apply Still.foldl1
    | intro _ _ _
    | intro _ _
    | (fail_if_no_progress (with_reducible refine Still.upd ?_ rfl rfl))
    | dsimp only
    | split

end Sys2Proof.Machine
end

