-- ==== Sys2Proof/Laws/KeepFetch.lean ====
section
/-! SUPPORT. What the functions of Machine/Fetch.lean leave as it should be (Laws/Vital.lean). -/

namespace Sys2Proof.Machine

set_option linter.unreachableTactic false
set_option linter.unusedTactic false
set_option linter.unusedVariables false

theorem State.adopt_still {vt : Vital} {s : State} {q tail head : Nat} (hv : Still vt s.vital) : Still vt (State.adopt s q tail head).vital := by
  unfold State.adopt
  try dsimp only
  repeat' first
    | with_reducible assumption
    | with_reducible apply Still.ite
    | with_reducible apply State.put_still
    | with_reducible apply State.setQueue_still
    | with_reducible apply State.journalDoorbell_still
    | with_reducible apply Still.foldl
    | with_reducible apply Still.foldl1
    | intro _ _ _
    | intro _ _
    | (fail_if_no_progress (with_reducible refine Still.upd ?_ rfl rfl))
    | dsimp only
    | split

theorem State.sampleQueue_still {vt : Vital} {s : State} {q : Nat} (hv : Still vt s.vital) : Still vt (State.sampleQueue s q).vital := by
  unfold State.sampleQueue
  try dsimp only
  repeat' first
    | with_reducible assumption
    | with_reducible apply Still.ite
    | with_reducible apply State.setQueue_still
    | with_reducible apply State.faultQueue_still
    | with_reducible apply State.adopt_still
    | with_reducible apply Still.foldl
    | with_reducible apply Still.foldl1
    | intro _ _ _
    | intro _ _
    | (fail_if_no_progress (with_reducible refine Still.upd ?_ rfl rfl))
    | dsimp only
    | split

theorem State.sampleDoorbells_still {vt : Vital} {s : State} (hv : Still vt s.vital) : Still vt (State.sampleDoorbells s).vital := by
  unfold State.sampleDoorbells
  try dsimp only
  repeat' first
    | with_reducible assumption
    | with_reducible apply Still.ite
    | with_reducible apply State.sampleQueue_still
    | with_reducible apply Still.foldl
    | with_reducible apply Still.foldl1
    | intro _ _ _
    | intro _ _
    | (fail_if_no_progress (with_reducible refine Still.upd ?_ rfl rfl))
    | dsimp only
    | split

theorem State.fetch_still {vt : Vital} {s : State} {q : Nat} {bs : Bytes} {p : Option Nat} {batch : Nat} (hv : Still vt s.vital) : Still vt (State.fetch s q bs p batch).2.vital := by
  unfold State.fetch
  try dsimp only
  repeat' first
    | with_reducible assumption
    | with_reducible apply Still.ite
    | with_reducible apply State.put_still
    | with_reducible apply State.setQueue_still
    | with_reducible apply Still.foldl
    | with_reducible apply Still.foldl1
    | intro _ _ _
    | intro _ _
    | (fail_if_no_progress (with_reducible refine Still.upd ?_ rfl rfl))
    | dsimp only
    | split

theorem State.enterTask_still {vt : Vital} {s : State} {p : Nat} {c : Cmd} (hv : Still vt s.vital) : Still vt (State.enterTask s p c).vital := by
  unfold State.enterTask
  try dsimp only
  repeat' first
    | with_reducible assumption
    | with_reducible apply Still.ite
    | with_reducible apply State.journalCommand_still
    | with_reducible apply Still.foldl
    | with_reducible apply Still.foldl1
    | intro _ _ _
    | intro _ _
    | (fail_if_no_progress (with_reducible refine Still.upd ?_ rfl rfl))
    | dsimp only
    | split

theorem State.setNext_still {vt : Vital} {s : State} {p : Nat} {t : Option Task} (hv : Still vt s.vital) : Still vt (State.setNext s p t).vital := by
  unfold State.setNext
  try dsimp only
  repeat' first
    | with_reducible assumption
    | with_reducible apply Still.ite
    | with_reducible apply State.modRun_still
    | with_reducible apply State.showTask_still
    | with_reducible apply Still.foldl
    | with_reducible apply Still.foldl1
    | intro _ _ _
    | intro _ _
    | (fail_if_no_progress (with_reducible refine Still.upd ?_ rfl rfl))
    | dsimp only
    | split

theorem State.searchQueue_still {vt : Vital} {s : State} {p q : Nat} (hv : Still vt s.vital) : Still vt (State.searchQueue s p q).vital := by
  unfold State.searchQueue
  try dsimp only
  repeat' first
    | with_reducible assumption
    | with_reducible apply Still.ite
    | with_reducible apply State.fetch_still
    | with_reducible apply State.enterTask_still
    | with_reducible apply State.modRun_still
    | with_reducible apply State.setNext_still
    | with_reducible apply State.finish_still
    | with_reducible apply Still.foldl
    | with_reducible apply Still.foldl1
    | intro _ _ _
    | intro _ _
    | (fail_if_no_progress (with_reducible refine Still.upd ?_ rfl rfl))
    | dsimp only
    | split

theorem State.searchHeader_still {vt : Vital} {s : State} {p : Nat} (hv : Still vt s.vital) : Still vt (State.searchHeader s p).vital := by
  unfold State.searchHeader
  try dsimp only
  repeat' first
    | with_reducible assumption
    | with_reducible apply Still.ite
    | with_reducible apply State.searchQueue_still
    | with_reducible apply Still.foldl
    | with_reducible apply Still.foldl1
    | intro _ _ _
    | intro _ _
    | (fail_if_no_progress (with_reducible refine Still.upd ?_ rfl rfl))
    | dsimp only
    | split

theorem State.fillQueue_still {vt : Vital} {s : State} {p q : Nat} {vx : Nat} (hv : Still vt s.vital) : Still vt (State.fillQueue s p q vx).vital := by
  induction vx generalizing s p q with
  | zero =>
    unfold State.fillQueue
    try dsimp only
    repeat' first
      | with_reducible assumption
      | with_reducible apply Still.ite
      | with_reducible apply State.fetch_still
      | with_reducible apply State.enterTask_still
      | with_reducible apply State.setNext_still
      | with_reducible apply Still.foldl
      | with_reducible apply Still.foldl1
      | intro _ _ _
      | intro _ _
      | (fail_if_no_progress (with_reducible refine Still.upd ?_ rfl rfl))
      | dsimp only
      | split
  | succ k2 ih =>
    unfold State.fillQueue
    try dsimp only
    repeat' first
      | with_reducible apply ih
      | with_reducible assumption
      | with_reducible apply Still.ite
      | with_reducible apply State.fetch_still
      | with_reducible apply State.enterTask_still
      | with_reducible apply State.setNext_still
      | with_reducible apply Still.foldl
      | with_reducible apply Still.foldl1
      | intro _ _ _
      | intro _ _
      | (fail_if_no_progress (with_reducible refine Still.upd ?_ rfl rfl))
      | dsimp only
      | split

theorem State.settleNext_still {vt : Vital} {s : State} {p : Nat} (hv : Still vt s.vital) : Still vt (State.settleNext s p).vital := by
  unfold State.settleNext
  try dsimp only
  repeat' first
    | with_reducible assumption
    | with_reducible apply Still.ite
    | with_reducible apply State.finish_still
    | with_reducible apply State.setNext_still
    | with_reducible apply Still.foldl
    | with_reducible apply Still.foldl1
    | intro _ _ _
    | intro _ _
    | (fail_if_no_progress (with_reducible refine Still.upd ?_ rfl rfl))
    | dsimp only
    | split

theorem State.fillTask_still {vt : Vital} {s : State} {p : Nat} (hv : Still vt s.vital) : Still vt (State.fillTask s p).vital := by
  unfold State.fillTask
  try dsimp only
  repeat' first
    | with_reducible assumption
    | with_reducible apply Still.ite
    | with_reducible apply State.fillQueue_still
    | with_reducible apply State.setNext_still
    | with_reducible apply State.settleNext_still
    | with_reducible apply Still.foldl
    | with_reducible apply Still.foldl1
    | intro _ _ _
    | intro _ _
    | (fail_if_no_progress (with_reducible refine Still.upd ?_ rfl rfl))
    | dsimp only
    | split

theorem State.fetchPart_still {vt : Vital} {s : State} {p : Nat} (hv : Still vt s.vital) : Still vt (State.fetchPart s p).vital := by
  unfold State.fetchPart
  try dsimp only
  repeat' first
    | with_reducible assumption
    | with_reducible apply Still.ite
    | with_reducible apply State.searchHeader_still
    | with_reducible apply State.fillTask_still
    | with_reducible apply Still.foldl
    | with_reducible apply Still.foldl1
    | intro _ _ _
    | intro _ _
    | (fail_if_no_progress (with_reducible refine Still.upd ?_ rfl rfl))
    | dsimp only
    | split

theorem State.fillPf_still {vt : Vital} {s : State} {q : Nat} {vx : Nat} (hv : Still vt s.vital) : Still vt (State.fillPf s q vx).vital := by
  induction vx generalizing s q with
  | zero =>
    unfold State.fillPf
    try dsimp only
    repeat' first
      | with_reducible assumption
      | with_reducible apply Still.ite
      | with_reducible apply State.fetch_still
      | with_reducible apply Still.foldl
      | with_reducible apply Still.foldl1
      | intro _ _ _
      | intro _ _
      | (fail_if_no_progress (with_reducible refine Still.upd ?_ rfl rfl))
      | dsimp only
      | split
  | succ k2 ih =>
    unfold State.fillPf
    try dsimp only
    repeat' first
      | with_reducible apply ih
      | with_reducible assumption
      | with_reducible apply Still.ite
      | with_reducible apply State.fetch_still
      | with_reducible apply Still.foldl
      | with_reducible apply Still.foldl1
      | intro _ _ _
      | intro _ _
      | (fail_if_no_progress (with_reducible refine Still.upd ?_ rfl rfl))
      | dsimp only
      | split

theorem State.fetchPf_still {vt : Vital} {s : State} (hv : Still vt s.vital) : Still vt (State.fetchPf s).vital := by
  unfold State.fetchPf
  try dsimp only
  repeat' first
    | with_reducible assumption
    | with_reducible apply Still.ite
    | with_reducible apply State.fillPf_still
    | with_reducible apply Still.foldl
    | with_reducible apply Still.foldl1
    | intro _ _ _
    | intro _ _
    | (fail_if_no_progress (with_reducible refine Still.upd ?_ rfl rfl))
    | dsimp only
    | split

theorem State.fetchAll_still {vt : Vital} {s : State} (hv : Still vt s.vital) : Still vt (State.fetchAll s).vital := by
  unfold State.fetchAll
  try dsimp only
  repeat' first
    | with_reducible assumption
    | with_reducible apply Still.ite
    | with_reducible apply State.fetchPart_still
    | with_reducible apply State.fetchPf_still
    | with_reducible apply Still.foldl
    | with_reducible apply Still.foldl1
    | intro _ _ _
    | intro _ _
    | (fail_if_no_progress (with_reducible refine Still.upd ?_ rfl rfl))
    | dsimp only
    | split

end Sys2Proof.Machine
end

