-- ==== Sys2Proof/Laws/KeepEdge.lean ====
section
/-! SUPPORT. What the functions of Machine/Edge.lean leave as it should be (Laws/Vital.lean). -/

namespace Sys2Proof.Machine

set_option linter.unreachableTactic false
set_option linter.unusedTactic false
set_option linter.unusedVariables false

theorem State.slackReport_still {vt : Vital} {s : State} {p : Nat} (hv : Still vt s.vital) : Still vt (State.slackReport s p).vital := by
  unfold State.slackReport
  try dsimp only
  repeat' first
    | with_reducible assumption
    | with_reducible apply Still.ite
    | with_reducible apply State.put_still
    | with_reducible apply State.modRun_still
    | with_reducible apply State.sample_still
    | with_reducible apply State.partEvent_still
    | with_reducible apply Still.foldl
    | with_reducible apply Still.foldl1
    | intro _ _ _
    | intro _ _
    | (fail_if_no_progress (with_reducible refine Still.upd ?_ rfl rfl))
    | dsimp only
    | split

theorem State.eccHist_still {vt : Vital} {s : State} (hv : Still vt s.vital) : Still vt (State.eccHist s).vital := by
  unfold State.eccHist
  try dsimp only
  repeat' first
    | with_reducible assumption
    | with_reducible apply Still.ite
    | with_reducible apply State.sample_still
    | with_reducible apply State.modCore_still
    | with_reducible apply Still.foldl
    | with_reducible apply Still.foldl1
    | intro _ _ _
    | intro _ _
    | (fail_if_no_progress (with_reducible refine Still.upd ?_ rfl rfl))
    | dsimp only
    | split

theorem State.measurePart_still {vt : Vital} {s : State} {p : Nat} (hv : Still vt s.vital) : Still vt (State.measurePart s p).vital := by
  unfold State.measurePart
  try dsimp only
  repeat' first
    | with_reducible assumption
    | with_reducible apply Still.ite
    | with_reducible apply State.draw_still
    | with_reducible apply State.putA_still
    | with_reducible apply State.sample_still
    | with_reducible apply State.confine_still
    | with_reducible apply State.incA_still
    | with_reducible apply State.event_still
    | with_reducible apply Still.foldl
    | with_reducible apply Still.foldl1
    | intro _ _ _
    | intro _ _
    | (fail_if_no_progress (with_reducible refine Still.upd ?_ rfl rfl))
    | dsimp only
    | split

theorem State.measureDomain_still {vt : Vital} {s : State} {d : Nat} (hv : Still vt s.vital) : Still vt (State.measureDomain s d).vital := by
  unfold State.measureDomain
  try dsimp only
  repeat' first
    | with_reducible assumption
    | with_reducible apply Still.ite
    | with_reducible apply State.draw_still
    | with_reducible apply State.sample_still
    | with_reducible apply State.confine_still
    | with_reducible apply State.putA_still
    | with_reducible apply Still.foldl
    | with_reducible apply Still.foldl1
    | intro _ _ _
    | intro _ _
    | (fail_if_no_progress (with_reducible refine Still.upd ?_ rfl rfl))
    | dsimp only
    | split

theorem State.measureInput_still {vt : Vital} {s : State} (hv : Still vt s.vital) : Still vt (State.measureInput s).vital := by
  unfold State.measureInput
  try dsimp only
  repeat' first
    | with_reducible assumption
    | with_reducible apply Still.ite
    | with_reducible apply State.draw_still
    | with_reducible apply State.putA_still
    | with_reducible apply Still.foldl
    | with_reducible apply Still.foldl1
    | intro _ _ _
    | intro _ _
    | (fail_if_no_progress (with_reducible refine Still.upd ?_ rfl rfl))
    | dsimp only
    | split

theorem State.closeFrame_still {vt : Vital} {s : State} (hv : Still vt s.vital) : Still vt (State.closeFrame s).vital := by
  unfold State.closeFrame
  try dsimp only
  repeat' first
    | with_reducible assumption
    | with_reducible apply Still.ite
    | with_reducible apply State.eventVectors_still
    | with_reducible apply State.sendMsix_still
    | with_reducible apply State.slackReport_still
    | with_reducible apply State.eccHist_still
    | with_reducible apply State.portHist_still
    | with_reducible apply State.measurePart_still
    | with_reducible apply State.measureDomain_still
    | with_reducible apply State.measureInput_still
    | with_reducible apply Still.foldl
    | with_reducible apply Still.foldl1
    | intro _ _ _
    | intro _ _
    | (fail_if_no_progress (with_reducible refine Still.upd ?_ rfl rfl))
    | dsimp only
    | split

theorem cyclesOf_ge (c : Nat) : 800 ≤ cyclesOf c := by
  unfold cyclesOf
  have := Nat.one_le_two_pow (n := c)
  omega

/-- The new frame's clock: at its first cycle, with the cycles of the period in force (R32, R35). -/
theorem State.openFrame_clock (s : State) :
    s.openFrame.clock = ⟨s.nextEdge, s.nextEdge, s.clock.frameNo + 1, cyclesOf s.periodInForce⟩ := by
  unfold State.openFrame
  dsimp only
  split <;> rfl

theorem State.openFrame_keeps {vt : Vital} {s : State} (hv : Keeps vt s.vital) : Keeps vt (State.openFrame s).vital := by
  have k : ∀ {t : State}, t.vital = { s.vital with clock := ⟨s.nextEdge, s.nextEdge, s.clock.frameNo + 1, cyclesOf s.periodInForce⟩ } →
      Keeps vt t.vital := by
    intro t e
    rw [e]
    refine hv.trans ⟨rfl, rfl, fun _ => ⟨Nat.le_refl _, ?_⟩, id⟩
    have := cyclesOf_ge s.periodInForce
    show s.nextEdge < s.nextEdge + cyclesOf s.periodInForce
    omega
  unfold State.openFrame
  dsimp only
  apply Keeps.ite
  · apply Keeps.via (State.put_still (Still.refl _))
    apply Keeps.via (State.put_still (Still.refl _))
    exact k rfl
  · apply Keeps.via (State.put_still (Still.refl _))
    exact k rfl

theorem State.acquirePeriod_keeps {vt : Vital} {s : State} (hs : s.clock.now = s.clock.frameStart) (hv : Keeps vt s.vital) :
    Keeps vt (State.acquirePeriod s).vital := by
  unfold State.acquirePeriod
  split
  · exact Keeps.newLen (s := s) (k := s.lenOf s.periodInForce) hv hs (State.lenOf_pos _ _) rfl
  · exact hv

theorem State.hostFences_still {vt : Vital} {s : State} {l : List EdgeReq} (hv : Still vt s.vital) : Still vt (State.hostFences s l).vital := by
  unfold State.hostFences
  try dsimp only
  repeat' first
    | with_reducible assumption
    | with_reducible apply Still.ite
    | with_reducible apply State.addUpds_still
    | with_reducible apply Still.foldl
    | with_reducible apply Still.foldl1
    | intro _ _ _
    | intro _ _
    | (fail_if_no_progress (with_reducible refine Still.upd ?_ rfl rfl))
    | dsimp only
    | split

theorem State.journalFences_still {vt : Vital} {s : State} {l : List EdgeReq} (hv : Still vt s.vital) : Still vt (State.journalFences s l).vital := by
  unfold State.journalFences
  try dsimp only
  repeat' first
    | with_reducible assumption
    | with_reducible apply Still.ite
    | with_reducible apply State.journalFence_still
    | with_reducible apply Still.foldl
    | with_reducible apply Still.foldl1
    | intro _ _ _
    | intro _ _
    | (fail_if_no_progress (with_reducible refine Still.upd ?_ rfl rfl))
    | dsimp only
    | split

theorem State.serve_still {vt : Vital} {s : State} {vx : EdgeReq} (hv : Still vt s.vital) : Still vt (State.serve s vx).vital := by
  unfold State.serve
  try dsimp only
  repeat' first
    | with_reducible assumption
    | with_reducible apply Still.ite
    | with_reducible apply State.openMail_still
    | with_reducible apply State.changeQueues_still
    | with_reducible apply State.changeFences_still
    | with_reducible apply State.changeEnable_still
    | with_reducible apply State.changePorts_still
    | with_reducible apply State.changePages_still
    | with_reducible apply State.flrEdge_still
    | with_reducible apply State.atNextEdge_still
    | with_reducible apply State.loadImage_still
    | with_reducible apply State.clearSlot_still
    | with_reducible apply State.loadKey_still
    | with_reducible apply State.eraseKey_still
    | with_reducible apply State.eraseAllKeys_still
    | with_reducible apply State.journalSwitchOn_still
    | with_reducible apply State.requestInflate_still
    | with_reducible apply State.requestDeflate_still
    | with_reducible apply State.startHandover_still
    | with_reducible apply State.put_still
    | with_reducible apply State.trip_still
    | with_reducible apply State.clearCore_still
    | with_reducible apply Still.foldl
    | with_reducible apply Still.foldl1
    | intro _ _ _
    | intro _ _
    | (fail_if_no_progress (with_reducible refine Still.upd ?_ rfl rfl))
    | dsimp only
    | split

theorem State.serveAll_still {vt : Vital} {s : State} {l : List EdgeReq} (hv : Still vt s.vital) : Still vt (State.serveAll s l).vital := by
  unfold State.serveAll
  try dsimp only
  repeat' first
    | with_reducible assumption
    | with_reducible apply Still.ite
    | with_reducible apply State.serve_still
    | with_reducible apply Still.foldl
    | with_reducible apply Still.foldl1
    | intro _ _ _
    | intro _ _
    | (fail_if_no_progress (with_reducible refine Still.upd ?_ rfl rfl))
    | dsimp only
    | split

theorem State.swapLaser_still {vt : Vital} {s : State} {e : Nat} (hv : Still vt s.vital) : Still vt (State.swapLaser s e).vital := by
  unfold State.swapLaser
  try dsimp only
  repeat' first
    | with_reducible assumption
    | with_reducible apply Still.ite
    | with_reducible apply State.setLaserState_still
    | with_reducible apply State.deflate_still
    | with_reducible apply Still.foldl
    | with_reducible apply Still.foldl1
    | intro _ _ _
    | intro _ _
    | (fail_if_no_progress (with_reducible refine Still.upd ?_ rfl rfl))
    | dsimp only
    | split

theorem State.swapOut_still {vt : Vital} {s : State} (hv : Still vt s.vital) : Still vt (State.swapOut s).vital := by
  unfold State.swapOut
  try dsimp only
  repeat' first
    | with_reducible assumption
    | with_reducible apply Still.ite
    | with_reducible apply State.swapLaser_still
    | with_reducible apply Still.foldl
    | with_reducible apply Still.foldl1
    | intro _ _ _
    | intro _ _
    | (fail_if_no_progress (with_reducible refine Still.upd ?_ rfl rfl))
    | dsimp only
    | split

theorem State.reachAnchor_still {vt : Vital} {s : State} {p : Nat} (hv : Still vt s.vital) : Still vt (State.reachAnchor s p).vital := by
  unfold State.reachAnchor
  try dsimp only
  repeat' first
    | with_reducible assumption
    | with_reducible apply Still.ite
    | with_reducible apply State.journalTaskBegin_still
    | with_reducible apply State.modRun_still
    | with_reducible apply State.markVoid_still
    | with_reducible apply State.put_still
    | with_reducible apply Still.foldl
    | with_reducible apply Still.foldl1
    | intro _ _ _
    | intro _ _
    | (fail_if_no_progress (with_reducible refine Still.upd ?_ rfl rfl))
    | dsimp only
    | split

theorem State.freeRing_still {vt : Vital} {s : State} {p : Nat} {r : Ring} (hv : Still vt s.vital) : Still vt (State.freeRing s p r).vital := by
  unfold State.freeRing
  try dsimp only
  repeat' first
    | with_reducible assumption
    | with_reducible apply Still.ite
    | with_reducible apply State.modStrm_still
    | with_reducible apply Still.foldl
    | with_reducible apply Still.foldl1
    | intro _ _ _
    | intro _ _
    | (fail_if_no_progress (with_reducible refine Still.upd ?_ rfl rfl))
    | dsimp only
    | split

theorem State.releaseRings_still {vt : Vital} {s : State} {p : Nat} (hv : Still vt s.vital) : Still vt (State.releaseRings s p).vital := by
  unfold State.releaseRings
  try dsimp only
  repeat' first
    | with_reducible assumption
    | with_reducible apply Still.ite
    | with_reducible apply State.freeRing_still
    | with_reducible apply State.setPred_still
    | with_reducible apply Still.foldl
    | with_reducible apply Still.foldl1
    | intro _ _ _
    | intro _ _
    | (fail_if_no_progress (with_reducible refine Still.upd ?_ rfl rfl))
    | dsimp only
    | split

theorem State.grantRing_still {vt : Vital} {s : State} {p : Nat} {c : Cmd} {q : StreamP} (hv : Still vt s.vital) : Still vt (State.grantRing s p c q).vital := by
  unfold State.grantRing
  try dsimp only
  repeat' first
    | with_reducible assumption
    | with_reducible apply Still.ite
    | with_reducible apply State.modStrm_still
    | with_reducible apply State.setCmd_still
    | with_reducible apply State.setPred_still
    | with_reducible apply Still.foldl
    | with_reducible apply Still.foldl1
    | intro _ _ _
    | intro _ _
    | (fail_if_no_progress (with_reducible refine Still.upd ?_ rfl rfl))
    | dsimp only
    | split

theorem State.deferOpen_still {vt : Vital} {s : State} {p : Nat} {c : Cmd} {q : StreamP} (hv : Still vt s.vital) : Still vt (State.deferOpen s p c q).vital := by
  unfold State.deferOpen
  try dsimp only
  repeat' first
    | with_reducible assumption
    | with_reducible apply Still.ite
    | with_reducible apply State.inc_still
    | with_reducible apply State.refuse_still
    | with_reducible apply State.setCmd_still
    | with_reducible apply Still.foldl
    | with_reducible apply Still.foldl1
    | intro _ _ _
    | intro _ _
    | (fail_if_no_progress (with_reducible refine Still.upd ?_ rfl rfl))
    | dsimp only
    | split

theorem State.deferRing_still {vt : Vital} {s : State} {p : Nat} {c : Cmd} {q : StreamP} (hv : Still vt s.vital) : Still vt (State.deferRing s p c q).vital := by
  unfold State.deferRing
  try dsimp only
  repeat' first
    | with_reducible assumption
    | with_reducible apply Still.ite
    | with_reducible apply State.refuse_still
    | with_reducible apply State.deferOpen_still
    | with_reducible apply Still.foldl
    | with_reducible apply Still.foldl1
    | intro _ _ _
    | intro _ _
    | (fail_if_no_progress (with_reducible refine Still.upd ?_ rfl rfl))
    | dsimp only
    | split

theorem State.presentRing_still {vt : Vital} {s : State} {p : Nat} {c : Cmd} (hv : Still vt s.vital) : Still vt (State.presentRing s p c).vital := by
  unfold State.presentRing
  try dsimp only
  repeat' first
    | with_reducible assumption
    | with_reducible apply Still.ite
    | with_reducible apply State.refuseBegin_still
    | with_reducible apply State.grantRing_still
    | with_reducible apply State.deferRing_still
    | with_reducible apply Still.foldl
    | with_reducible apply Still.foldl1
    | intro _ _ _
    | intro _ _
    | (fail_if_no_progress (with_reducible refine Still.upd ?_ rfl rfl))
    | dsimp only
    | split

theorem State.grantRings_still {vt : Vital} {s : State} {p : Nat} (hv : Still vt s.vital) : Still vt (State.grantRings s p).vital := by
  unfold State.grantRings
  try dsimp only
  repeat' first
    | with_reducible assumption
    | with_reducible apply Still.ite
    | with_reducible apply State.presentRing_still
    | with_reducible apply Still.foldl
    | with_reducible apply Still.foldl1
    | intro _ _ _
    | intro _ _
    | (fail_if_no_progress (with_reducible refine Still.upd ?_ rfl rfl))
    | dsimp only
    | split

theorem State.nextForecast_still {vt : Vital} {s : State} {p : Nat} (hv : Still vt s.vital) : Still vt (State.nextForecast s p).vital := by
  unfold State.nextForecast
  try dsimp only
  repeat' first
    | with_reducible assumption
    | with_reducible apply Still.ite
    | with_reducible apply State.modRun_still
    | with_reducible apply Still.foldl
    | with_reducible apply Still.foldl1
    | intro _ _ _
    | intro _ _
    | (fail_if_no_progress (with_reducible refine Still.upd ?_ rfl rfl))
    | dsimp only
    | split

theorem State.applyForecast_still {vt : Vital} {s : State} {p : Nat} (hv : Still vt s.vital) : Still vt (State.applyForecast s p).vital := by
  unfold State.applyForecast
  try dsimp only
  repeat' first
    | with_reducible assumption
    | with_reducible apply Still.ite
    | with_reducible apply State.nextForecast_still
    | with_reducible apply State.setDomain_still
    | with_reducible apply Still.foldl
    | with_reducible apply Still.foldl1
    | intro _ _ _
    | intro _ _
    | (fail_if_no_progress (with_reducible refine Still.upd ?_ rfl rfl))
    | dsimp only
    | split

theorem State.forgetBefore_still {vt : Vital} {s : State} {x : Nat} (hv : Still vt s.vital) : Still vt (State.forgetBefore s x).vital := by
  unfold State.forgetBefore
  try dsimp only
  repeat' first
    | with_reducible assumption
    | with_reducible apply Still.ite
    | with_reducible apply State.modCore_still
    | with_reducible apply State.modRun_still
    | with_reducible apply Still.foldl
    | with_reducible apply Still.foldl1
    | intro _ _ _
    | intro _ _
    | (fail_if_no_progress (with_reducible refine Still.upd ?_ rfl rfl))
    | dsimp only
    | split

theorem State.pruneWrites_still {vt : Vital} {s : State} (hv : Still vt s.vital) : Still vt (State.pruneWrites s).vital := by
  unfold State.pruneWrites
  try dsimp only
  repeat' first
    | with_reducible assumption
    | with_reducible apply Still.ite
    | with_reducible apply State.forgetBefore_still
    | with_reducible apply Still.foldl
    | with_reducible apply Still.foldl1
    | intro _ _ _
    | intro _ _
    | (fail_if_no_progress (with_reducible refine Still.upd ?_ rfl rfl))
    | dsimp only
    | split

theorem State.beginFrame_keeps {vt : Vital} {s : State} {l : List EdgeReq} (hs : s.clock.now = s.clock.frameStart) (hv : Keeps vt s.vital) : Keeps vt (State.beginFrame s l).vital := by
  have hq : ((s.settleFences.hostFences l).edgeReel).clock.now = ((s.settleFences.hostFences l).edgeReel).clock.frameStart := by
    rw [show ((s.settleFences.hostFences l).edgeReel).clock = s.clock from
      (State.edgeReel_still (State.hostFences_still (State.settleFences_still (Still.refl _)))).clock]
    exact hs
  unfold State.beginFrame
  try dsimp only
  repeat' first
    | with_reducible assumption
    | with_reducible apply Keeps.ite
    | with_reducible apply Keeps.via (State.applyViews_still (Still.refl _))
    | with_reducible apply Keeps.via (State.settleFences_still (Still.refl _))
    | with_reducible apply Keeps.via (State.edgeReel_still (Still.refl _))
    | with_reducible apply Keeps.via (State.portActions_still (Still.refl _))
    | with_reducible apply Keeps.via (State.edgeSlot_still (Still.refl _))
    | with_reducible apply Keeps.via (State.mirrorFlush_still (Still.refl _))
    | with_reducible apply Keeps.via (State.retireLanes_still (Still.refl _))
    | with_reducible apply Keeps.via (State.edgePart_still (Still.refl _))
    | with_reducible apply Keeps.via (State.modeAck_still (Still.refl _))
    | with_reducible apply Keeps.via (State.modeHold_still (Still.refl _))
    | with_reducible apply Keeps.via (State.edgeOpen_still (Still.refl _))
    | with_reducible apply Keeps.via (State.sampleDoorbells_still (Still.refl _))
    | with_reducible apply Keeps.via (State.fetchAll_still (Still.refl _))
    | with_reducible refine State.acquirePeriod_keeps hq ?_
    | with_reducible apply Keeps.via (State.hostFences_still (Still.refl _))
    | with_reducible apply Keeps.via (State.journalFences_still (Still.refl _))
    | with_reducible apply Keeps.via (State.serveAll_still (Still.refl _))
    | with_reducible apply Keeps.via (State.swapOut_still (Still.refl _))
    | with_reducible apply Keeps.via (State.reachAnchor_still (Still.refl _))
    | with_reducible apply Keeps.via (State.releaseRings_still (Still.refl _))
    | with_reducible apply Keeps.via (State.grantRings_still (Still.refl _))
    | with_reducible apply Keeps.via (State.applyForecast_still (Still.refl _))
    | with_reducible apply Keeps.via (State.pruneWrites_still (Still.refl _))
    | with_reducible apply Keeps.foldl
    | with_reducible apply Keeps.foldl1
    | intro _ _ _

theorem State.frameEdge_keeps {vt : Vital} {s : State} (hv : Keeps vt s.vital) : Keeps vt (State.frameEdge s).vital := by
  have k1 : Keeps vt s.closeFrame.openFrame.vital := State.openFrame_keeps (hv.step (State.closeFrame_still (Still.refl _)))
  have hc := State.openFrame_clock s.closeFrame
  have k2 := State.edgeStep_keeps (n := s.lackedIn) (by rw [hc]) (by rw [hc]; exact Nat.le_trans (by omega) (cyclesOf_ge _)) k1
  unfold State.frameEdge
  dsimp only
  generalize s.closeFrame.openFrame.edgeStep s.lackedIn = g at k2
  exact State.beginFrame_keeps (s := { g with edge := [] }) k2.2 k2.1

theorem execFrameEdge_keeps {vt : Vital} {s : State} (hv : Keeps vt s.vital) {t : State}
    (e : execFrameEdge s = .next t) : Keeps vt t.vital := by
  have k := State.frameEdge_keeps hv
  have e2 : Host.Outcome.next s.frameEdge = (Host.Outcome.next t : Host.Outcome State Fault Refusal) := e
  generalize s.frameEdge = g at k e2
  cases e2
  exact k

theorem State.tick_keeps {vt : Vital} {s : State} (hv : Keeps vt s.vital) : Keeps vt (State.tick s).vital := by
  unfold State.tick
  split
  · rename_i c
    refine hv.trans ⟨rfl, rfl, fun k => ?_, id⟩
    have k1 : s.clock.frameStart ≤ s.clock.now := k.1
    exact ⟨Nat.le_succ_of_le k1, c⟩
  · exact State.frameEdge_keeps hv

end Sys2Proof.Machine
end

