-- ==== Sys2Proof/Laws/EdgePlace.lean ====
section
/-! SUPPORT. Where a frame edge leaves time and the Reel Count. -/

namespace Sys2Proof.Machine

/-- The same cycle of the same frame; the frame's length may differ. -/
def Place (a : Clock) (s : State) : Prop := s.clock.now = a.now ∧ s.clock.frameStart = a.frameStart ∧ s.clock.frameNo = a.frameNo

theorem Place.refl {s : State} : Place s.clock s := ⟨rfl, rfl, rfl⟩

theorem Place.via {a : Clock} {s t : State} (h : Still s.vital t.vital) (k : Place a s) : Place a t := by
  have e : t.clock = s.clock := h.clock
  unfold Place
  rw [e]
  exact k

theorem Place.foldl {a : Clock} {α : Type} {f : State → α → State} (h : ∀ s x, Place a s → Place a (f s x)) :
    ∀ (l : List α) {s : State}, Place a s → Place a (l.foldl f s)
  | [], _, k => k
  | x :: r, s, k => Place.foldl h r (h s x k)

theorem Place.acquire {a : Clock} {s : State} (k : Place a s) : Place a s.acquirePeriod := by
  unfold State.acquirePeriod
  split
  · exact k
  · exact k

theorem Place.edgeStep {a : Clock} {s : State} {n : Nat} (k : Place a s) : Place a (s.edgeStep n) := by
  have f1 : ∀ (l : List Nat) {s : State}, Place a s → Place a (l.foldl (fun (s : State) p =>
      if (s.part p).run.sum.voidFrom.isSome then
        s.modRun p fun r => { r with sum := { r.sum with voidLost := r.sum.voidLost + n } }
      else s) s) := Place.foldl fun t p k => by
    split
    · exact k
    · exact k
  have f2 : ∀ (l : List Nat) {s : State}, Place a s → Place a (l.foldl (fun s p => s.markVoid p) s) :=
    Place.foldl fun t p k => Place.via (State.markVoid_still (Still.refl _)) k
  unfold State.edgeStep
  generalize List.range 16 = l
  split
  · rename_i x _
    dsimp only
    generalize (if x.trigger = true then 0 else x.quiet + 1) = q
    split
    · exact f1 l k
    · split
      · exact f1 l k
      · exact f2 l (f1 l k)
  · exact k

theorem Place.beginFrame {a : Clock} {s : State} {l : List EdgeReq} (hv : Place a s) : Place a (s.beginFrame l) := by
  unfold State.beginFrame
  try dsimp only
  repeat' first
    | with_reducible assumption
    | with_reducible apply Place.ite
    | with_reducible apply Place.via (State.applyViews_still (Still.refl _))
    | with_reducible apply Place.via (State.settleFences_still (Still.refl _))
    | with_reducible apply Place.via (State.edgeReel_still (Still.refl _))
    | with_reducible apply Place.via (State.portActions_still (Still.refl _))
    | with_reducible apply Place.via (State.edgeSlot_still (Still.refl _))
    | with_reducible apply Place.via (State.mirrorFlush_still (Still.refl _))
    | with_reducible apply Place.via (State.retireLanes_still (Still.refl _))
    | with_reducible apply Place.via (State.edgePart_still (Still.refl _))
    | with_reducible apply Place.via (State.modeAck_still (Still.refl _))
    | with_reducible apply Place.via (State.modeHold_still (Still.refl _))
    | with_reducible apply Place.via (State.edgeOpen_still (Still.refl _))
    | with_reducible apply Place.via (State.sampleDoorbells_still (Still.refl _))
    | with_reducible apply Place.via (State.fetchAll_still (Still.refl _))
    | with_reducible apply Place.acquire
    | with_reducible apply Place.via (State.hostFences_still (Still.refl _))
    | with_reducible apply Place.via (State.journalFences_still (Still.refl _))
    | with_reducible apply Place.via (State.serveAll_still (Still.refl _))
    | with_reducible apply Place.via (State.swapOut_still (Still.refl _))
    | with_reducible apply Place.via (State.reachAnchor_still (Still.refl _))
    | with_reducible apply Place.via (State.releaseRings_still (Still.refl _))
    | with_reducible apply Place.via (State.grantRings_still (Still.refl _))
    | with_reducible apply Place.via (State.applyForecast_still (Still.refl _))
    | with_reducible apply Place.via (State.pruneWrites_still (Still.refl _))
    | with_reducible apply Place.foldl
    | with_reducible apply Place.foldl1
    | intro _ _ _


/-- FRAME_EDGE's place in time (R32). -/
theorem State.frameEdge_place (s : State) : Place ⟨s.nextEdge, s.nextEdge, s.clock.frameNo + 1, 0⟩ s.frameEdge := by
  have hc : ∀ t : State, Still s.vital t.vital → t.clock = s.clock := fun t h => h.clock
  have hs : Still s.vital s.closeFrame.vital := by
    apply State.closeFrame_still
    exact Still.refl _
  have hn := hc _ hs
  have k1 : Place ⟨s.nextEdge, s.nextEdge, s.clock.frameNo + 1, 0⟩ s.closeFrame.openFrame := by
    unfold Place
    rw [State.openFrame_clock, State.nextEdge, hn]
    exact ⟨rfl, rfl, rfl⟩
  unfold State.frameEdge
  dsimp only
  have k2 := Place.edgeStep (n := s.lackedIn) k1
  generalize s.closeFrame.openFrame.edgeStep s.lackedIn = g at k2
  exact Place.beginFrame (s := { g with edge := [] }) k2

/-- FRAME_EDGE's count (R444). -/
theorem State.frameEdge_count (s : State) : s.frameEdge.reelCount = (s.reelCount + 1) % 2 ^ 64 := by
  have r0 : s.closeFrame.get .REEL_COUNT_COUNT 0 = s.get .REEL_COUNT_COUNT 0 :=
    (State.closeFrame_frame).reg .REEL_COUNT_COUNT 0 (by decide) (by decide)
  have r1 : ∀ c : State, c.get .REEL_COUNT_COUNT 0 = s.get .REEL_COUNT_COUNT 0 →
      c.openFrame.get .REEL_COUNT_COUNT 0 = (s.get .REEL_COUNT_COUNT 0 + 1) % 2 ^ 64 := by
    intro c h
    have k : (c.get .REEL_COUNT_COUNT 0 + 1) % 2 ^ 64 = (s.get .REEL_COUNT_COUNT 0 + 1) % 2 ^ 64 := by rw [h]
    unfold State.openFrame
    dsimp only
    split
    · rw [State.get_put_code _ (by decide)]
      exact (Tab.get_put_same _ _ _ _).trans k
    · exact (Tab.get_put_same _ _ _ _).trans k
  replace r1 := r1 _ r0
  have r2 := (State.edgeStep_frame (s := s.closeFrame.openFrame) (lacked := s.lackedIn)).reg .REEL_COUNT_COUNT 0 (by decide) (by decide)
  unfold State.frameEdge State.reelCount
  dsimp only
  generalize s.closeFrame.openFrame.edgeStep s.lackedIn = g at r2
  refine ((State.beginFrame_frame (s := { g with edge := [] })).reg .REEL_COUNT_COUNT 0 (by decide) (by decide)).trans ?_
  exact r2.trans r1

end Sys2Proof.Machine
end

