-- ==== Sys2Proof/Laws/KeepStep.lean ====
section
/-! SUPPORT. What every command leaves as it should be (Laws/Vital.lean). -/

namespace Sys2Proof.Machine

set_option linter.unreachableTactic false
set_option linter.unusedTactic false
set_option linter.unusedVariables false

/-- The time stays within its frame, the memories and the registers' table keep their form, and the queue and the fused identity stand,
whatever the command. -/
theorem exec_keeps (c : Instr) (s t : State) (e : exec c s = .next t) : Keeps s.vital t.vital := by
  cases c with
  | frameEdge => exact execFrameEdge_keeps (Keeps.refl _) e
  | reelBeacon _ _ _ _ => exact (execReelBeacon_still (Still.refl _) e).keeps
  | lock => exact execLock_keeps (Keeps.refl _) e
  | holdoverLimit => exact (execHoldoverLimit_still (Still.refl _) e).keeps
  | periodChange => exact execPeriodChange_keeps (Keeps.refl _) e
  | resume => exact (execResume_still (Still.refl _) e).keeps
  | reselect => exact (execReselect_still (Still.refl _) e).keeps
  | reelCfgLock _ => exact (execReelCfgLock_still (Still.refl _) e).keeps
  | pwrCfgLock _ => exact (execPwrCfgLock_still (Still.refl _) e).keeps
  | logbCfgLock _ => exact (execLogbCfgLock_still (Still.refl _) e).keeps
  | registerWrite _ _ _ _ => exact execRegisterWrite_keeps (Keeps.refl _) e
  | badAccess f _ _ _ => exact (execBadAccess_still (_f := f) (Still.refl _) e).keeps
  | doorbell _ _ _ _ _ => exact (execDoorbell_still (Still.refl _) e).keeps
  | queueFaultClear _ => exact (execQueueFaultClear_still (Still.refl _) e).keeps
  | fenceHostWrite _ _ _ => exact (execFenceHostWrite_still (Still.refl _) e).keeps
  | protectionChange _ => exact (execProtectionChange_still (Still.refl _) e).keeps
  | resourceWithdraw _ => exact (execResourceWithdraw_still (Still.refl _) e).keeps
  | taskFetched _ => exact (execTaskFetched_still (Still.refl _) e).keeps
  | taskHeader _ => exact (execTaskHeader_still (Still.refl _) e).keeps
  | commandBegin _ => exact execCommandBegin_keeps (Keeps.refl _) e
  | lateBegin _ => exact execLateBegin_keeps (Keeps.refl _) e
  | commandRetire _ => exact execCommandRetire_keeps (Keeps.refl _) e
  | completionRecord _ => exact (execCompletionRecord_still (Still.refl _) e).keeps
  | deadlineMiss _ => exact execDeadlineMiss_keeps (Keeps.refl _) e
  | nop _ => exact (execNop_still (Still.refl _) e).keeps
  | fenceWait _ => exact (execFenceWait_still (Still.refl _) e).keeps
  | fenceSignal _ => exact (execFenceSignal_still (Still.refl _) e).keeps
  | barrier _ => exact (execBarrier_still (Still.refl _) e).keeps
  | wmatmul _ => exact (execWmatmul_still (Still.refl _) e).keeps
  | wmatmulSpec _ => exact (execWmatmulSpec_still (Still.refl _) e).keeps
  | wvector _ => exact (execWvector_still (Still.refl _) e).keeps
  | wconv _ => exact (execWconv_still (Still.refl _) e).keeps
  | wsample _ => exact (execWsample_still (Still.refl _) e).keeps
  | streamLoad _ => exact execStreamLoad_keeps (Keeps.refl _) e
  | shardData _ _ => exact execShardData_keeps (Keeps.refl _) e
  | verdict _ _ => exact execVerdict_keeps (Keeps.refl _) e
  | rowAbsent _ _ _ => exact (execRowAbsent_still (Still.refl _) e).keeps
  | streamSpec _ => exact execStreamSpec_keeps (Keeps.refl _) e
  | routeCommit _ => exact execRouteCommit_keeps (Keeps.refl _) e
  | reside _ => exact execReside_keeps (Keeps.refl _) e
  | evict _ => exact (execEvict_still (Still.refl _) e).keeps
  | slotFree _ => exact (execSlotFree_still (Still.refl _) e).keeps
  | swapModel _ => exact (execSwapModel_still (Still.refl _) e).keeps
  | modelSwitch _ => exact (execModelSwitch_still (Still.refl _) e).keeps
  | pruneLoad _ => exact execPruneLoad_keeps (Keeps.refl _) e
  | writeback _ => exact execWriteback_keeps (Keeps.refl _) e
  | bcast _ => exact execBcast_keeps (Keeps.refl _) e
  | reduce1 _ => exact execReduce1_keeps (Keeps.refl _) e
  | collectivePiece _ _ => exact execCollectivePiece_keeps (Keeps.refl _) e
  | activationRows _ _ => exact execActivationRows_keeps (Keeps.refl _) e
  | bulkRows _ _ => exact execBulkRows_keeps (Keeps.refl _) e
  | move _ => exact execMove_keeps (Keeps.refl _) e
  | windowOpen _ => exact (execWindowOpen_still (Still.refl _) e).keeps
  | windowClose _ => exact (execWindowClose_still (Still.refl _) e).keeps
  | forecast _ => exact (execForecast_still (Still.refl _) e).keeps
  | partCreate _ => exact (execPartCreate_still (Still.refl _) e).keeps
  | partResize _ => exact (execPartResize_still (Still.refl _) e).keeps
  | resizeEffect _ => exact (execResizeEffect_still (Still.refl _) e).keeps
  | partDestroy _ => exact (execPartDestroy_still (Still.refl _) e).keeps
  | partReset _ => exact (execPartReset_still (Still.refl _) e).keeps
  | flr _ => exact (execFlr_still (Still.refl _) e).keeps
  | modePrepare _ => exact (execModePrepare_still (Still.refl _) e).keeps
  | modePrepareExpire => exact (execModePrepareExpire_still (Still.refl _) e).keeps
  | modeCommit _ => exact (execModeCommit_still (Still.refl _) e).keeps
  | modeDecision => exact (execModeDecision_still (Still.refl _) e).keeps
  | modeSwitch => exact (execModeSwitch_still (Still.refl _) e).keeps
  | coreFence _ => exact (execCoreFence_still (Still.refl _) e).keeps
  | coreRemap _ => exact (execCoreRemap_still (Still.refl _) e).keeps
  | bistRun _ => exact (execBistRun_still (Still.refl _) e).keeps
  | injectFault _ => exact (execInjectFault_still (Still.refl _) e).keeps
  | injectedFault _ => exact (execInjectedFault_still (Still.refl _) e).keeps
  | journalEnable _ => exact (execJournalEnable_still (Still.refl _) e).keeps
  | journalDisable _ => exact (execJournalDisable_still (Still.refl _) e).keeps
  | mark _ => exact (execMark_still (Still.refl _) e).keeps
  | tap _ => exact execTap_keeps (Keeps.refl _) e
  | progLoad _ _ _ => exact (execProgLoad_still (Still.refl _) e).keeps
  | progClear _ _ => exact (execProgClear_still (Still.refl _) e).keeps
  | bind _ _ => exact (execBind_still (Still.refl _) e).keeps
  | tmemClearDone _ => exact execTmemClearDone_keeps (Keeps.refl _) e
  | ertWindowWrite _ _ _ => exact (execErtWindowWrite_still (Still.refl _) e).keeps
  | ertSwitch _ => exact (execErtSwitch_still (Still.refl _) e).keeps
  | ertBankSwitch _ => exact (execErtBankSwitch_still (Still.refl _) e).keeps
  | shadowSyncDone _ => exact (execShadowSyncDone_still (Still.refl _) e).keeps
  | patrolScrub _ => exact (execPatrolScrub_still (Still.refl _) e).keeps
  | residentDigestCheck _ _ => exact (execResidentDigestCheck_still (Still.refl _) e).keeps
  | hbmStackFail _ => exact (execHbmStackFail_still (Still.refl _) e).keeps
  | drain _ => exact (execDrain_still (Still.refl _) e).keeps
  | drained _ => exact (execDrained_still (Still.refl _) e).keeps
  | scrub _ => exact (execScrub_still (Still.refl _) e).keeps
  | scrubDone _ _ => exact (execScrubDone_still (Still.refl _) e).keeps
  | returnStack _ => exact (execReturnStack_still (Still.refl _) e).keeps
  | pageClear _ => exact (execPageClear_still (Still.refl _) e).keeps
  | pageClearDone _ => exact (execPageClearDone_still (Still.refl _) e).keeps
  | bridleUncorrectable _ _ _ => exact execBridleUncorrectable_keeps (Keeps.refl _) e
  | wslFrame _ _ => exact (execWslFrame_still (Still.refl _) e).keeps
  | assign _ _ => exact (execAssign_still (Still.refl _) e).keeps
  | ack _ _ => exact (execAck_still (Still.refl _) e).keeps
  | messageResend _ => exact (execMessageResend_still (Still.refl _) e).keeps
  | laneLost _ _ _ => exact (execLaneLost_still (Still.refl _) e).keeps
  | laneFail _ _ => exact (execLaneFail_still (Still.refl _) e).keeps
  | laneSwitch _ _ => exact (execLaneSwitch_still (Still.refl _) e).keeps
  | substitution _ _ => exact (execSubstitution_still (Still.refl _) e).keeps
  | narrow _ _ => exact (execNarrow_still (Still.refl _) e).keeps
  | narrowSwitch _ _ => exact (execNarrowSwitch_still (Still.refl _) e).keeps
  | uncorrLimit _ => exact (execUncorrLimit_still (Still.refl _) e).keeps
  | retrainReq _ _ => exact (execRetrainReq_still (Still.refl _) e).keeps
  | training _ _ _ => exact (execTraining_still (Still.refl _) e).keeps
  | trainingDone _ _ _ => exact (execTrainingDone_still (Still.refl _) e).keeps
  | trainingTimeout _ => exact (execTrainingTimeout_still (Still.refl _) e).keeps
  | online _ => exact (execOnline_still (Still.refl _) e).keeps
  | loopback _ => exact (execLoopback_still (Still.refl _) e).keeps
  | offline _ => exact (execOffline_still (Still.refl _) e).keeps
  | retrain _ => exact (execRetrain_still (Still.refl _) e).keeps
  | laserInsert _ _ _ _ _ _ => exact (execLaserInsert_still (Still.refl _) e).keeps
  | laserReady _ => exact (execLaserReady_still (Still.refl _) e).keeps
  | swap _ => exact (execSwap_still (Still.refl _) e).keeps
  | laserAlarm _ => exact (execLaserAlarm_still (Still.refl _) e).keeps
  | inflate _ => exact (execInflate_still (Still.refl _) e).keeps
  | deflate _ => exact (execDeflate_still (Still.refl _) e).keeps
  | vminRearm _ => exact (execVminRearm_still (Still.refl _) e).keeps
  | inflationStart => exact (execInflationStart_still (Still.refl _) e).keeps
  | inflationStage _ _ => exact (execInflationStage_still (Still.refl _) e).keeps
  | deflationDone _ => exact (execDeflationDone_still (Still.refl _) e).keeps
  | hardLimitTrip _ => exact (execHardLimitTrip_still (Still.refl _) e).keeps
  | droopStep _ _ _ => exact (execDroopStep_still (Still.refl _) e).keeps
  | emergencyClockStep _ => exact execEmergencyClockStep_keeps (Keeps.refl _) e
  | clockStepEnd => exact (execClockStepEnd_still (Still.refl _) e).keeps
  | orderlyShutdown => exact (execOrderlyShutdown_still (Still.refl _) e).keeps
  | brickFail _ => exact (execBrickFail_still (Still.refl _) e).keeps
  | brickInsert _ _ _ _ _ => exact (execBrickInsert_still (Still.refl _) e).keeps
  | thermalWarning _ _ => exact (execThermalWarning_still (Still.refl _) e).keeps
  | hbmOvertemp _ => exact (execHbmOvertemp_still (Still.refl _) e).keeps
  | positionFault _ => exact (execPositionFault_still (Still.refl _) e).keeps
  | remap _ => exact (execRemap_still (Still.refl _) e).keeps
  | gondolaHalfStop _ => exact (execGondolaHalfStop_still (Still.refl _) e).keeps
  | firmwareTakeover => exact (execFirmwareTakeover_still (Still.refl _) e).keeps
  | moduleReset _ => exact execModuleReset_keeps (Keeps.refl _) e
  | bringUpRing _ => exact (execBringUpRing_still (Still.refl _) e).keeps
  | ringTimeout => exact (execRingTimeout_still (Still.refl _) e).keeps
  | hostLinkChange _ _ _ => exact (execHostLinkChange_still (Still.refl _) e).keeps
  | stage _ => exact (execStage_still (Still.refl _) e).keeps
  | handover => exact (execHandover_still (Still.refl _) e).keeps
  | handoverTakeover => exact (execHandoverTakeover_still (Still.refl _) e).keeps
  | confirm => exact (execConfirm_still (Still.refl _) e).keeps
  | fallback => exact (execFallback_still (Still.refl _) e).keeps
  | settingsWrite _ => exact (execSettingsWrite_still (Still.refl _) e).keeps
  | openDebug _ => exact (execOpenDebug_still (Still.refl _) e).keeps
  | keyLoad _ _ => exact (execKeyLoad_still (Still.refl _) e).keeps
  | keyErase _ _ => exact (execKeyErase_still (Still.refl _) e).keeps
  | keyEraseAll _ => exact (execKeyEraseAll_still (Still.refl _) e).keeps
  | entdaa _ => exact (execEntdaa_still (Still.refl _) e).keeps
  | getVersion => exact (execGetVersion_still (Still.refl _) e).keeps
  | getCapabilities => exact (execGetCapabilities_still (Still.refl _) e).keeps
  | negotiateAlgorithms _ _ => exact (execNegotiateAlgorithms_still (Still.refl _) e).keeps
  | getDigests => exact (execGetDigests_still (Still.refl _) e).keeps
  | getCertificate _ _ _ => exact (execGetCertificate_still (Still.refl _) e).keeps
  | challenge _ _ => exact (execChallenge_still (Still.refl _) e).keeps
  | getMeasurements _ _ => exact (execGetMeasurements_still (Still.refl _) e).keeps
  | ownerKeyInstall _ => exact (execOwnerKeyInstall_still (Still.refl _) e).keeps
  | pldmSensorRead _ => exact (execPldmSensorRead_still (Still.refl _) e).keeps
  | pldmLogbookRead _ _ => exact (execPldmLogbookRead_still (Still.refl _) e).keeps
  | logbookStore => exact (execLogbookStore_still (Still.refl _) e).keeps
  | freeze => exact (execFreeze_still (Still.refl _) e).keeps
  | thaw => exact (execThaw_still (Still.refl _) e).keeps
  | freezeTimeout => exact (execFreezeTimeout_still (Still.refl _) e).keeps
  | freezeQueueFull => exact (execFreezeQueueFull_still (Still.refl _) e).keeps
  | reelBeaconErrClear _ _ => exact (execReelBeaconErrClear_still (Still.refl _) e).keeps
  | laserRemove _ => exact (execLaserRemove_still (Still.refl _) e).keeps
  | brickRemove _ => exact (execBrickRemove_still (Still.refl _) e).keeps
  | vfEnableChange _ _ => exact (execVfEnableChange_still (Still.refl _) e).keeps
  | fetchCompletionError _ => exact (execFetchCompletionError_still (Still.refl _) e).keeps
  | bistDone _ _ _ => exact (execBistDone_still (Still.refl _) e).keeps
  | standbyRebootDone => exact (execStandbyRebootDone_still (Still.refl _) e).keeps
  | portEnable _ => exact (execPortEnable_still (Still.refl _) e).keeps

end Sys2Proof.Machine
end

