-- ==== Sys2Proof/Laws/PerInstr.lean ====
section
/-! SUPPORT. Statements made of every command as syntax: the rows of Table 13-1 name a fetched command and have a length. -/

namespace Sys2Proof.Laws.Opcode

/-- A row with an opcode names a command that has been fetched, and its packet has a length (R273, R274). -/
def Statement (i : Sys2Proof.Instr) : Prop :=
  ∀ op, i.opcode = some op → i.cmdId.isSome = true ∧ (Sys2Proof.Machine.opLength op).isSome = true

theorem frameEdge : Statement (.frameEdge) := fun _ h => nomatch h
theorem reelBeacon (x0 : Fin 64) (x1 : Bool) (x2 : Bytes) (x3 : Int) : Statement (.reelBeacon x0 x1 x2 x3) := fun _ h => nomatch h
theorem lock : Statement (.lock) := fun _ h => nomatch h
theorem holdoverLimit : Statement (.holdoverLimit) := fun _ h => nomatch h
theorem periodChange : Statement (.periodChange) := fun _ h => nomatch h
theorem resume : Statement (.resume) := fun _ h => nomatch h
theorem reselect : Statement (.reselect) := fun _ h => nomatch h
theorem reelCfgLock (x0 : BitVec 32) : Statement (.reelCfgLock x0) := fun _ h => nomatch h
theorem pwrCfgLock (x0 : BitVec 64) : Statement (.pwrCfgLock x0) := fun _ h => nomatch h
theorem logbCfgLock (x0 : BitVec 32) : Statement (.logbCfgLock x0) := fun _ h => nomatch h
theorem registerWrite (x0 : Fn) (x1 : Nat) (x2 : Nat) (x3 : Nat) : Statement (.registerWrite x0 x1 x2 x3) := fun _ h => nomatch h
theorem badAccess (x0 : Fn) (x1 : Nat) (x2 : Nat) (x3 : Bool) : Statement (.badAccess x0 x1 x2 x3) := fun _ h => nomatch h
theorem doorbell (x0 : Fn) (x1 : Nat) (x2 : BitVec 32) (x3 : BitVec 32) (x4 : List (Nat × Byte)) : Statement (.doorbell x0 x1 x2 x3 x4) := fun _ h => nomatch h
theorem queueFaultClear (x0 : Fin 16384) : Statement (.queueFaultClear x0) := fun _ h => nomatch h
theorem fenceHostWrite (x0 : Fn) (x1 : Nat) (x2 : BitVec 64) : Statement (.fenceHostWrite x0 x1 x2) := fun _ h => nomatch h
theorem protectionChange (x0 : ProtWrite) : Statement (.protectionChange x0) := fun _ h => nomatch h
theorem resourceWithdraw (x0 : WithdrawWrite) : Statement (.resourceWithdraw x0) := fun _ h => nomatch h
theorem taskFetched (x0 : Fin 16) : Statement (.taskFetched x0) := fun _ h => nomatch h
theorem taskHeader (x0 : Fin 16) : Statement (.taskHeader x0) := fun _ h => nomatch h
theorem commandBegin (x0 : CmdId) : Statement (.commandBegin x0) := fun _ h => nomatch h
theorem lateBegin (x0 : CmdId) : Statement (.lateBegin x0) := fun _ h => nomatch h
theorem commandRetire (x0 : CmdId) : Statement (.commandRetire x0) := fun _ h => nomatch h
theorem completionRecord (x0 : Fin 16384) : Statement (.completionRecord x0) := fun _ h => nomatch h
theorem deadlineMiss (x0 : CmdId) : Statement (.deadlineMiss x0) := fun _ h => nomatch h
theorem nop (x0 : CmdId) : Statement (.nop x0) := fun _ h => by cases h; exact ⟨rfl, rfl⟩
theorem fenceWait (x0 : CmdId) : Statement (.fenceWait x0) := fun _ h => by cases h; exact ⟨rfl, rfl⟩
theorem fenceSignal (x0 : CmdId) : Statement (.fenceSignal x0) := fun _ h => by cases h; exact ⟨rfl, rfl⟩
theorem barrier (x0 : CmdId) : Statement (.barrier x0) := fun _ h => by cases h; exact ⟨rfl, rfl⟩
theorem wmatmul (x0 : CmdId) : Statement (.wmatmul x0) := fun _ h => by cases h; exact ⟨rfl, rfl⟩
theorem wmatmulSpec (x0 : CmdId) : Statement (.wmatmulSpec x0) := fun _ h => by cases h; exact ⟨rfl, rfl⟩
theorem wvector (x0 : CmdId) : Statement (.wvector x0) := fun _ h => by cases h; exact ⟨rfl, rfl⟩
theorem wconv (x0 : CmdId) : Statement (.wconv x0) := fun _ h => by cases h; exact ⟨rfl, rfl⟩
theorem wsample (x0 : CmdId) : Statement (.wsample x0) := fun _ h => by cases h; exact ⟨rfl, rfl⟩
theorem streamLoad (x0 : CmdId) : Statement (.streamLoad x0) := fun _ h => by cases h; exact ⟨rfl, rfl⟩
theorem shardData (x0 : Fin 64) (x1 : WslFrame) : Statement (.shardData x0 x1) := fun _ h => nomatch h
theorem verdict (x0 : CmdId) (x1 : Nat) : Statement (.verdict x0 x1) := fun _ h => nomatch h
theorem rowAbsent (x0 : CmdId) (x1 : Nat) (x2 : Nat) : Statement (.rowAbsent x0 x1 x2) := fun _ h => nomatch h
theorem streamSpec (x0 : CmdId) : Statement (.streamSpec x0) := fun _ h => by cases h; exact ⟨rfl, rfl⟩
theorem routeCommit (x0 : CmdId) : Statement (.routeCommit x0) := fun _ h => by cases h; exact ⟨rfl, rfl⟩
theorem reside (x0 : CmdId) : Statement (.reside x0) := fun _ h => by cases h; exact ⟨rfl, rfl⟩
theorem evict (x0 : CmdId) : Statement (.evict x0) := fun _ h => by cases h; exact ⟨rfl, rfl⟩
theorem slotFree (x0 : Fin 16) : Statement (.slotFree x0) := fun _ h => nomatch h
theorem swapModel (x0 : CmdId) : Statement (.swapModel x0) := fun _ h => by cases h; exact ⟨rfl, rfl⟩
theorem modelSwitch (x0 : Fin 16) : Statement (.modelSwitch x0) := fun _ h => nomatch h
theorem pruneLoad (x0 : CmdId) : Statement (.pruneLoad x0) := fun _ h => by cases h; exact ⟨rfl, rfl⟩
theorem writeback (x0 : CmdId) : Statement (.writeback x0) := fun _ h => by cases h; exact ⟨rfl, rfl⟩
theorem bcast (x0 : CmdId) : Statement (.bcast x0) := fun _ h => by cases h; exact ⟨rfl, rfl⟩
theorem reduce1 (x0 : CmdId) : Statement (.reduce1 x0) := fun _ h => by cases h; exact ⟨rfl, rfl⟩
theorem collectivePiece (x0 : Fin 64) (x1 : WslFrame) : Statement (.collectivePiece x0 x1) := fun _ h => nomatch h
theorem activationRows (x0 : Fin 64) (x1 : WslFrame) : Statement (.activationRows x0 x1) := fun _ h => nomatch h
theorem bulkRows (x0 : Fin 64) (x1 : WslFrame) : Statement (.bulkRows x0 x1) := fun _ h => nomatch h
theorem move (x0 : CmdId) : Statement (.move x0) := fun _ h => by cases h; exact ⟨rfl, rfl⟩
theorem windowOpen (x0 : CmdId) : Statement (.windowOpen x0) := fun _ h => by cases h; exact ⟨rfl, rfl⟩
theorem windowClose (x0 : CmdId) : Statement (.windowClose x0) := fun _ h => by cases h; exact ⟨rfl, rfl⟩
theorem forecast (x0 : CmdId) : Statement (.forecast x0) := fun _ h => by cases h; exact ⟨rfl, rfl⟩
theorem partCreate (x0 : CmdId) : Statement (.partCreate x0) := fun _ h => by cases h; exact ⟨rfl, rfl⟩
theorem partResize (x0 : CmdId) : Statement (.partResize x0) := fun _ h => by cases h; exact ⟨rfl, rfl⟩
theorem resizeEffect (x0 : Fin 16) : Statement (.resizeEffect x0) := fun _ h => nomatch h
theorem partDestroy (x0 : CmdId) : Statement (.partDestroy x0) := fun _ h => by cases h; exact ⟨rfl, rfl⟩
theorem partReset (x0 : CmdId) : Statement (.partReset x0) := fun _ h => by cases h; exact ⟨rfl, rfl⟩
theorem flr (x0 : Fin 16) : Statement (.flr x0) := fun _ h => nomatch h
theorem modePrepare (x0 : CmdId) : Statement (.modePrepare x0) := fun _ h => by cases h; exact ⟨rfl, rfl⟩
theorem modePrepareExpire : Statement (.modePrepareExpire) := fun _ h => nomatch h
theorem modeCommit (x0 : CmdId) : Statement (.modeCommit x0) := fun _ h => by cases h; exact ⟨rfl, rfl⟩
theorem modeDecision : Statement (.modeDecision) := fun _ h => nomatch h
theorem modeSwitch : Statement (.modeSwitch) := fun _ h => nomatch h
theorem coreFence (x0 : CmdId) : Statement (.coreFence x0) := fun _ h => by cases h; exact ⟨rfl, rfl⟩
theorem coreRemap (x0 : CmdId) : Statement (.coreRemap x0) := fun _ h => by cases h; exact ⟨rfl, rfl⟩
theorem bistRun (x0 : CmdId) : Statement (.bistRun x0) := fun _ h => by cases h; exact ⟨rfl, rfl⟩
theorem injectFault (x0 : CmdId) : Statement (.injectFault x0) := fun _ h => by cases h; exact ⟨rfl, rfl⟩
theorem injectedFault (x0 : CmdId) : Statement (.injectedFault x0) := fun _ h => nomatch h
theorem journalEnable (x0 : CmdId) : Statement (.journalEnable x0) := fun _ h => by cases h; exact ⟨rfl, rfl⟩
theorem journalDisable (x0 : CmdId) : Statement (.journalDisable x0) := fun _ h => by cases h; exact ⟨rfl, rfl⟩
theorem mark (x0 : CmdId) : Statement (.mark x0) := fun _ h => by cases h; exact ⟨rfl, rfl⟩
theorem tap (x0 : CmdId) : Statement (.tap x0) := fun _ h => by cases h; exact ⟨rfl, rfl⟩
theorem progLoad (x0 : Fin 16) (x1 : Fin 32) (x2 : List (Nat × Byte)) : Statement (.progLoad x0 x1 x2) := fun _ h => nomatch h
theorem progClear (x0 : Fin 16) (x1 : Fin 32) : Statement (.progClear x0 x1) := fun _ h => nomatch h
theorem bind (x0 : Fin 16) (x1 : Fin 32) : Statement (.bind x0 x1) := fun _ h => nomatch h
theorem tmemClearDone (x0 : Fin 96) : Statement (.tmemClearDone x0) := fun _ h => nomatch h
theorem ertWindowWrite (x0 : Fin 262144) (x1 : Fin 2) (x2 : BitVec 64) : Statement (.ertWindowWrite x0 x1 x2) := fun _ h => nomatch h
theorem ertSwitch (x0 : Fin 16) : Statement (.ertSwitch x0) := fun _ h => nomatch h
theorem ertBankSwitch (x0 : Fin 16) : Statement (.ertBankSwitch x0) := fun _ h => nomatch h
theorem shadowSyncDone (x0 : Fin 16) : Statement (.shadowSyncDone x0) := fun _ h => nomatch h
theorem patrolScrub (x0 : Fin 48) : Statement (.patrolScrub x0) := fun _ h => nomatch h
theorem residentDigestCheck (x0 : Fin 262144) (x1 : Nat) : Statement (.residentDigestCheck x0 x1) := fun _ h => nomatch h
theorem hbmStackFail (x0 : Fin 48) : Statement (.hbmStackFail x0) := fun _ h => nomatch h
theorem drain (x0 : Fin 48) : Statement (.drain x0) := fun _ h => nomatch h
theorem drained (x0 : Fin 48) : Statement (.drained x0) := fun _ h => nomatch h
theorem scrub (x0 : Fin 48) : Statement (.scrub x0) := fun _ h => nomatch h
theorem scrubDone (x0 : Fin 48) (x1 : Nat) : Statement (.scrubDone x0 x1) := fun _ h => nomatch h
theorem returnStack (x0 : Fin 48) : Statement (.returnStack x0) := fun _ h => nomatch h
theorem pageClear (x0 : Fin 48) : Statement (.pageClear x0) := fun _ h => nomatch h
theorem pageClearDone (x0 : Fin 48) : Statement (.pageClearDone x0) := fun _ h => nomatch h
theorem bridleUncorrectable (x0 : Fin 96) (x1 : Fin 375) (x2 : List Nat) : Statement (.bridleUncorrectable x0 x1 x2) := fun _ h => nomatch h
theorem wslFrame (x0 : Fin 64) (x1 : WslFrame) : Statement (.wslFrame x0 x1) := fun _ h => nomatch h
theorem assign (x0 : Fin 64) (x1 : Msg) : Statement (.assign x0 x1) := fun _ h => nomatch h
theorem ack (x0 : Fin 64) (x1 : Msg) : Statement (.ack x0 x1) := fun _ h => nomatch h
theorem messageResend (x0 : Fin 64) : Statement (.messageResend x0) := fun _ h => nomatch h
theorem laneLost (x0 : Fin 64) (x1 : Fin 17) (x2 : Bool) : Statement (.laneLost x0 x1 x2) := fun _ h => nomatch h
theorem laneFail (x0 : Fin 64) (x1 : Msg) : Statement (.laneFail x0 x1) := fun _ h => nomatch h
theorem laneSwitch (x0 : Fin 64) (x1 : Msg) : Statement (.laneSwitch x0 x1) := fun _ h => nomatch h
theorem substitution (x0 : Fin 64) (x1 : Dir) : Statement (.substitution x0 x1) := fun _ h => nomatch h
theorem narrow (x0 : Fin 64) (x1 : Msg) : Statement (.narrow x0 x1) := fun _ h => nomatch h
theorem narrowSwitch (x0 : Fin 64) (x1 : Dir) : Statement (.narrowSwitch x0 x1) := fun _ h => nomatch h
theorem uncorrLimit (x0 : Fin 64) : Statement (.uncorrLimit x0) := fun _ h => nomatch h
theorem retrainReq (x0 : Fin 64) (x1 : Msg) : Statement (.retrainReq x0 x1) := fun _ h => nomatch h
theorem training (x0 : Fin 64) (x1 : BitVec 17) (x2 : BitVec 17) : Statement (.training x0 x1 x2) := fun _ h => nomatch h
theorem trainingDone (x0 : Fin 64) (x1 : Msg) (x2 : Nat) : Statement (.trainingDone x0 x1 x2) := fun _ h => nomatch h
theorem trainingTimeout (x0 : Fin 64) : Statement (.trainingTimeout x0) := fun _ h => nomatch h
theorem online (x0 : Fin 64) : Statement (.online x0) := fun _ h => nomatch h
theorem loopback (x0 : Fin 64) : Statement (.loopback x0) := fun _ h => nomatch h
theorem offline (x0 : Fin 64) : Statement (.offline x0) := fun _ h => nomatch h
theorem retrain (x0 : Fin 64) : Statement (.retrain x0) := fun _ h => nomatch h
theorem laserInsert (x0 : Fin 16) (x1 : Bytes) (x2 : Bytes) (x3 : Bool) (x4 : Bytes) (x5 : Nat) : Statement (.laserInsert x0 x1 x2 x3 x4 x5) := fun _ h => nomatch h
theorem laserReady (x0 : Fin 16) : Statement (.laserReady x0) := fun _ h => nomatch h
theorem swap (x0 : Fin 16) : Statement (.swap x0) := fun _ h => nomatch h
theorem laserAlarm (x0 : Fin 16) : Statement (.laserAlarm x0) := fun _ h => nomatch h
theorem inflate (x0 : Fin 250) : Statement (.inflate x0) := fun _ h => nomatch h
theorem deflate (x0 : Fin 250) : Statement (.deflate x0) := fun _ h => nomatch h
theorem vminRearm (x0 : Fin 250) : Statement (.vminRearm x0) := fun _ h => nomatch h
theorem inflationStart : Statement (.inflationStart) := fun _ h => nomatch h
theorem inflationStage (x0 : Fin 250) (x1 : Nat) : Statement (.inflationStage x0 x1) := fun _ h => nomatch h
theorem deflationDone (x0 : Fin 250) : Statement (.deflationDone x0) := fun _ h => nomatch h
theorem hardLimitTrip (x0 : Fin 250) : Statement (.hardLimitTrip x0) := fun _ h => nomatch h
theorem droopStep (x0 : Fin 250) (x1 : Nat) (x2 : Nat) : Statement (.droopStep x0 x1 x2) := fun _ h => nomatch h
theorem emergencyClockStep (x0 : Nat) : Statement (.emergencyClockStep x0) := fun _ h => nomatch h
theorem clockStepEnd : Statement (.clockStepEnd) := fun _ h => nomatch h
theorem orderlyShutdown : Statement (.orderlyShutdown) := fun _ h => nomatch h
theorem brickFail (x0 : Fin 18) : Statement (.brickFail x0) := fun _ h => nomatch h
theorem brickInsert (x0 : Fin 18) (x1 : Bytes) (x2 : Bool) (x3 : Nat) (x4 : Nat) : Statement (.brickInsert x0 x1 x2 x3 x4) := fun _ h => nomatch h
theorem thermalWarning (x0 : Nat) (x1 : Nat) : Statement (.thermalWarning x0 x1) := fun _ h => nomatch h
theorem hbmOvertemp (x0 : Fin 48) : Statement (.hbmOvertemp x0) := fun _ h => nomatch h
theorem positionFault (x0 : Fin 96) : Statement (.positionFault x0) := fun _ h => nomatch h
theorem remap (x0 : Fin 16) : Statement (.remap x0) := fun _ h => nomatch h
theorem gondolaHalfStop (x0 : Fin 2) : Statement (.gondolaHalfStop x0) := fun _ h => nomatch h
theorem firmwareTakeover : Statement (.firmwareTakeover) := fun _ h => nomatch h
theorem moduleReset (x0 : Fin 3) : Statement (.moduleReset x0) := fun _ h => nomatch h
theorem bringUpRing (x0 : List Nat) : Statement (.bringUpRing x0) := fun _ h => nomatch h
theorem ringTimeout : Statement (.ringTimeout) := fun _ h => nomatch h
theorem hostLinkChange (x0 : Fin 2) (x1 : Bool) (x2 : Bool) : Statement (.hostLinkChange x0 x1 x2) := fun _ h => nomatch h
theorem stage (x0 : List (Nat × Byte)) : Statement (.stage x0) := fun _ h => nomatch h
theorem handover : Statement (.handover) := fun _ h => nomatch h
theorem handoverTakeover : Statement (.handoverTakeover) := fun _ h => nomatch h
theorem confirm : Statement (.confirm) := fun _ h => nomatch h
theorem fallback : Statement (.fallback) := fun _ h => nomatch h
theorem settingsWrite (x0 : List (Nat × Byte)) : Statement (.settingsWrite x0) := fun _ h => nomatch h
theorem openDebug (x0 : List (Nat × Byte)) : Statement (.openDebug x0) := fun _ h => nomatch h
theorem keyLoad (x0 : Fin 16) (x1 : Fin 16) : Statement (.keyLoad x0 x1) := fun _ h => nomatch h
theorem keyErase (x0 : Fin 16) (x1 : Fin 16) : Statement (.keyErase x0 x1) := fun _ h => nomatch h
theorem keyEraseAll (x0 : Fin 16) : Statement (.keyEraseAll x0) := fun _ h => nomatch h
theorem entdaa (x0 : Fin 128) : Statement (.entdaa x0) := fun _ h => nomatch h
theorem getVersion : Statement (.getVersion) := fun _ h => nomatch h
theorem getCapabilities : Statement (.getCapabilities) := fun _ h => nomatch h
theorem negotiateAlgorithms (x0 : Bool) (x1 : Bool) : Statement (.negotiateAlgorithms x0 x1) := fun _ h => nomatch h
theorem getDigests : Statement (.getDigests) := fun _ h => nomatch h
theorem getCertificate (x0 : Nat) (x1 : Nat) (x2 : Nat) : Statement (.getCertificate x0 x1 x2) := fun _ h => nomatch h
theorem challenge (x0 : Nat) (x1 : Bytes) : Statement (.challenge x0 x1) := fun _ h => nomatch h
theorem getMeasurements (x0 : Nat) (x1 : Bytes) : Statement (.getMeasurements x0 x1) := fun _ h => nomatch h
theorem ownerKeyInstall (x0 : Bytes) : Statement (.ownerKeyInstall x0) := fun _ h => nomatch h
theorem pldmSensorRead (x0 : Fin 5) : Statement (.pldmSensorRead x0) := fun _ h => nomatch h
theorem pldmLogbookRead (x0 : Nat) (x1 : Nat) : Statement (.pldmLogbookRead x0 x1) := fun _ h => nomatch h
theorem logbookStore : Statement (.logbookStore) := fun _ h => nomatch h
theorem freeze : Statement (.freeze) := fun _ h => nomatch h
theorem thaw : Statement (.thaw) := fun _ h => nomatch h
theorem freezeTimeout : Statement (.freezeTimeout) := fun _ h => nomatch h
theorem freezeQueueFull : Statement (.freezeQueueFull) := fun _ h => nomatch h
theorem reelBeaconErrClear (x0 : Fin 64) (x1 : BitVec 32) : Statement (.reelBeaconErrClear x0 x1) := fun _ h => nomatch h
theorem laserRemove (x0 : Fin 16) : Statement (.laserRemove x0) := fun _ h => nomatch h
theorem brickRemove (x0 : Fin 18) : Statement (.brickRemove x0) := fun _ h => nomatch h
theorem vfEnableChange (x0 : Fin 16) (x1 : Bool) : Statement (.vfEnableChange x0 x1) := fun _ h => nomatch h
theorem fetchCompletionError (x0 : Fin 16384) : Statement (.fetchCompletionError x0) := fun _ h => nomatch h
theorem bistDone (x0 : Fin 96) (x1 : Nat) (x2 : Nat) : Statement (.bistDone x0 x1 x2) := fun _ h => nomatch h
theorem standbyRebootDone : Statement (.standbyRebootDone) := fun _ h => nomatch h
theorem portEnable (x0 : Fin 64) : Statement (.portEnable x0) := fun _ h => nomatch h

end Sys2Proof.Laws.Opcode
end

