-- ==== Sys2Proof/Laws/State.lean ====
section
/-! SUPPORT. What each update of the state leaves alone, field by field, and what a read gives after a write of the same place. -/

namespace Sys2Proof.Machine

/-! `State.put` -/
@[simp] theorem State.put_pending (s : State) (f : Field) (i v : Nat) : (s.put f i v).pending = s.pending := rfl
@[simp] theorem State.put_clock (s : State) (f : Field) (i v : Nat) : (s.put f i v).clock = s.clock := rfl
@[simp] theorem State.put_free (s : State) (f : Field) (i v : Nat) : (s.put f i v).free = s.free := rfl
@[simp] theorem State.put_fuses (s : State) (f : Field) (i v : Nat) : (s.put f i v).fuses = s.fuses := rfl
@[simp] theorem State.put_analog (s : State) (f : Field) (i v : Nat) : (s.put f i v).analog = s.analog := rfl
@[simp] theorem State.put_reel (s : State) (f : Field) (i v : Nat) : (s.put f i v).reel = s.reel := rfl
@[simp] theorem State.put_host (s : State) (f : Field) (i v : Nat) : (s.put f i v).host = s.host := rfl
@[simp] theorem State.put_fru (s : State) (f : Field) (i v : Nat) : (s.put f i v).fru = s.fru := rfl
@[simp] theorem State.put_cmds (s : State) (f : Field) (i v : Nat) : (s.put f i v).cmds = s.cmds := rfl
@[simp] theorem State.put_recs (s : State) (f : Field) (i v : Nat) : (s.put f i v).recs = s.recs := rfl
@[simp] theorem State.put_fences (s : State) (f : Field) (i v : Nat) : (s.put f i v).fences = s.fences := rfl
@[simp] theorem State.put_queues (s : State) (f : Field) (i v : Nat) : (s.put f i v).queues = s.queues := rfl
@[simp] theorem State.put_parts (s : State) (f : Field) (i v : Nat) : (s.put f i v).parts = s.parts := rfl
@[simp] theorem State.put_cores (s : State) (f : Field) (i v : Nat) : (s.put f i v).cores = s.cores := rfl
@[simp] theorem State.put_carrier (s : State) (f : Field) (i v : Nat) : (s.put f i v).carrier = s.carrier := rfl
@[simp] theorem State.put_links (s : State) (f : Field) (i v : Nat) : (s.put f i v).links = s.links := rfl
@[simp] theorem State.put_ports (s : State) (f : Field) (i v : Nat) : (s.put f i v).ports = s.ports := rfl
@[simp] theorem State.put_lasers (s : State) (f : Field) (i v : Nat) : (s.put f i v).lasers = s.lasers := rfl
@[simp] theorem State.put_power (s : State) (f : Field) (i v : Nat) : (s.put f i v).power = s.power := rfl
@[simp] theorem State.put_mode (s : State) (f : Field) (i v : Nat) : (s.put f i v).mode = s.mode := rfl
@[simp] theorem State.put_injects (s : State) (f : Field) (i v : Nat) : (s.put f i v).injects = s.injects := rfl
@[simp] theorem State.put_bists (s : State) (f : Field) (i v : Nat) : (s.put f i v).bists = s.bists := rfl
@[simp] theorem State.put_gondola (s : State) (f : Field) (i v : Nat) : (s.put f i v).gondola = s.gondola := rfl
@[simp] theorem State.put_sec (s : State) (f : Field) (i v : Nat) : (s.put f i v).sec = s.sec := rfl
@[simp] theorem State.put_book (s : State) (f : Field) (i v : Nat) : (s.put f i v).book = s.book := rfl
@[simp] theorem State.put_msix (s : State) (f : Field) (i v : Nat) : (s.put f i v).msix = s.msix := rfl
@[simp] theorem State.put_vfs (s : State) (f : Field) (i v : Nat) : (s.put f i v).vfs = s.vfs := rfl
@[simp] theorem State.put_edge (s : State) (f : Field) (i v : Nat) : (s.put f i v).edge = s.edge := rfl
@[simp] theorem State.put_rehearsal (s : State) (f : Field) (i v : Nat) : (s.put f i v).rehearsal = s.rehearsal := rfl
@[simp] theorem State.put_fresh (s : State) (f : Field) (i v : Nat) : (s.put f i v).fresh = s.fresh := rfl
@[simp] theorem State.put_out (s : State) (f : Field) (i v : Nat) : (s.put f i v).out = s.out := rfl
@[simp] theorem State.put_getA (s : State) (f : Field) (i v : Nat) (y : Field) (j : Nat) : (s.put f i v).getA y j = s.getA y j := rfl
@[simp] theorem State.put_part (s : State) (f : Field) (i v : Nat) (j : Nat) : (s.put f i v).part j = s.part j := rfl
@[simp] theorem State.put_core (s : State) (f : Field) (i v : Nat) (j : Nat) : (s.put f i v).core j = s.core j := rfl
@[simp] theorem State.put_port (s : State) (f : Field) (i v : Nat) (j : Nat) : (s.put f i v).port j = s.port j := rfl
@[simp] theorem State.put_laser (s : State) (f : Field) (i v : Nat) (j : Nat) : (s.put f i v).laser j = s.laser j := rfl
@[simp] theorem State.put_domain (s : State) (f : Field) (i v : Nat) (j : Nat) : (s.put f i v).domain j = s.domain j := rfl
@[simp] theorem State.put_queueSt (s : State) (f : Field) (i v : Nat) (j : Nat) : (s.put f i v).queueSt j = s.queueSt j := rfl
@[simp] theorem State.put_tracker (s : State) (f : Field) (i v : Nat) (j : Nat) : (s.put f i v).tracker j = s.tracker j := rfl
@[simp] theorem State.put_link (s : State) (f : Field) (i v : Nat) (j : Nat) : (s.put f i v).link j = s.link j := rfl
@[simp] theorem State.put_msixOf (s : State) (f : Field) (i v : Nat) (j : Nat) : (s.put f i v).msixOf j = s.msixOf j := rfl

/-! `State.inc` -/
@[simp] theorem State.inc_pending (s : State) (f : Field) (i n : Nat) : (s.inc f i n).pending = s.pending := rfl
@[simp] theorem State.inc_clock (s : State) (f : Field) (i n : Nat) : (s.inc f i n).clock = s.clock := rfl
@[simp] theorem State.inc_free (s : State) (f : Field) (i n : Nat) : (s.inc f i n).free = s.free := rfl
@[simp] theorem State.inc_fuses (s : State) (f : Field) (i n : Nat) : (s.inc f i n).fuses = s.fuses := rfl
@[simp] theorem State.inc_analog (s : State) (f : Field) (i n : Nat) : (s.inc f i n).analog = s.analog := rfl
@[simp] theorem State.inc_reel (s : State) (f : Field) (i n : Nat) : (s.inc f i n).reel = s.reel := rfl
@[simp] theorem State.inc_host (s : State) (f : Field) (i n : Nat) : (s.inc f i n).host = s.host := rfl
@[simp] theorem State.inc_fru (s : State) (f : Field) (i n : Nat) : (s.inc f i n).fru = s.fru := rfl
@[simp] theorem State.inc_cmds (s : State) (f : Field) (i n : Nat) : (s.inc f i n).cmds = s.cmds := rfl
@[simp] theorem State.inc_recs (s : State) (f : Field) (i n : Nat) : (s.inc f i n).recs = s.recs := rfl
@[simp] theorem State.inc_fences (s : State) (f : Field) (i n : Nat) : (s.inc f i n).fences = s.fences := rfl
@[simp] theorem State.inc_queues (s : State) (f : Field) (i n : Nat) : (s.inc f i n).queues = s.queues := rfl
@[simp] theorem State.inc_parts (s : State) (f : Field) (i n : Nat) : (s.inc f i n).parts = s.parts := rfl
@[simp] theorem State.inc_cores (s : State) (f : Field) (i n : Nat) : (s.inc f i n).cores = s.cores := rfl
@[simp] theorem State.inc_carrier (s : State) (f : Field) (i n : Nat) : (s.inc f i n).carrier = s.carrier := rfl
@[simp] theorem State.inc_links (s : State) (f : Field) (i n : Nat) : (s.inc f i n).links = s.links := rfl
@[simp] theorem State.inc_ports (s : State) (f : Field) (i n : Nat) : (s.inc f i n).ports = s.ports := rfl
@[simp] theorem State.inc_lasers (s : State) (f : Field) (i n : Nat) : (s.inc f i n).lasers = s.lasers := rfl
@[simp] theorem State.inc_power (s : State) (f : Field) (i n : Nat) : (s.inc f i n).power = s.power := rfl
@[simp] theorem State.inc_mode (s : State) (f : Field) (i n : Nat) : (s.inc f i n).mode = s.mode := rfl
@[simp] theorem State.inc_injects (s : State) (f : Field) (i n : Nat) : (s.inc f i n).injects = s.injects := rfl
@[simp] theorem State.inc_bists (s : State) (f : Field) (i n : Nat) : (s.inc f i n).bists = s.bists := rfl
@[simp] theorem State.inc_gondola (s : State) (f : Field) (i n : Nat) : (s.inc f i n).gondola = s.gondola := rfl
@[simp] theorem State.inc_sec (s : State) (f : Field) (i n : Nat) : (s.inc f i n).sec = s.sec := rfl
@[simp] theorem State.inc_book (s : State) (f : Field) (i n : Nat) : (s.inc f i n).book = s.book := rfl
@[simp] theorem State.inc_msix (s : State) (f : Field) (i n : Nat) : (s.inc f i n).msix = s.msix := rfl
@[simp] theorem State.inc_vfs (s : State) (f : Field) (i n : Nat) : (s.inc f i n).vfs = s.vfs := rfl
@[simp] theorem State.inc_edge (s : State) (f : Field) (i n : Nat) : (s.inc f i n).edge = s.edge := rfl
@[simp] theorem State.inc_rehearsal (s : State) (f : Field) (i n : Nat) : (s.inc f i n).rehearsal = s.rehearsal := rfl
@[simp] theorem State.inc_fresh (s : State) (f : Field) (i n : Nat) : (s.inc f i n).fresh = s.fresh := rfl
@[simp] theorem State.inc_out (s : State) (f : Field) (i n : Nat) : (s.inc f i n).out = s.out := rfl
@[simp] theorem State.inc_getA (s : State) (f : Field) (i n : Nat) (y : Field) (j : Nat) : (s.inc f i n).getA y j = s.getA y j := rfl
@[simp] theorem State.inc_part (s : State) (f : Field) (i n : Nat) (j : Nat) : (s.inc f i n).part j = s.part j := rfl
@[simp] theorem State.inc_core (s : State) (f : Field) (i n : Nat) (j : Nat) : (s.inc f i n).core j = s.core j := rfl
@[simp] theorem State.inc_port (s : State) (f : Field) (i n : Nat) (j : Nat) : (s.inc f i n).port j = s.port j := rfl
@[simp] theorem State.inc_laser (s : State) (f : Field) (i n : Nat) (j : Nat) : (s.inc f i n).laser j = s.laser j := rfl
@[simp] theorem State.inc_domain (s : State) (f : Field) (i n : Nat) (j : Nat) : (s.inc f i n).domain j = s.domain j := rfl
@[simp] theorem State.inc_queueSt (s : State) (f : Field) (i n : Nat) (j : Nat) : (s.inc f i n).queueSt j = s.queueSt j := rfl
@[simp] theorem State.inc_tracker (s : State) (f : Field) (i n : Nat) (j : Nat) : (s.inc f i n).tracker j = s.tracker j := rfl
@[simp] theorem State.inc_link (s : State) (f : Field) (i n : Nat) (j : Nat) : (s.inc f i n).link j = s.link j := rfl
@[simp] theorem State.inc_msixOf (s : State) (f : Field) (i n : Nat) (j : Nat) : (s.inc f i n).msixOf j = s.msixOf j := rfl

/-! `State.putA` -/
@[simp] theorem State.putA_pending (s : State) (f : Field) (i v : Nat) : (s.putA f i v).pending = s.pending := rfl
@[simp] theorem State.putA_clock (s : State) (f : Field) (i v : Nat) : (s.putA f i v).clock = s.clock := rfl
@[simp] theorem State.putA_free (s : State) (f : Field) (i v : Nat) : (s.putA f i v).free = s.free := rfl
@[simp] theorem State.putA_fuses (s : State) (f : Field) (i v : Nat) : (s.putA f i v).fuses = s.fuses := rfl
@[simp] theorem State.putA_regs (s : State) (f : Field) (i v : Nat) : (s.putA f i v).regs = s.regs := rfl
@[simp] theorem State.putA_reel (s : State) (f : Field) (i v : Nat) : (s.putA f i v).reel = s.reel := rfl
@[simp] theorem State.putA_host (s : State) (f : Field) (i v : Nat) : (s.putA f i v).host = s.host := rfl
@[simp] theorem State.putA_fru (s : State) (f : Field) (i v : Nat) : (s.putA f i v).fru = s.fru := rfl
@[simp] theorem State.putA_cmds (s : State) (f : Field) (i v : Nat) : (s.putA f i v).cmds = s.cmds := rfl
@[simp] theorem State.putA_recs (s : State) (f : Field) (i v : Nat) : (s.putA f i v).recs = s.recs := rfl
@[simp] theorem State.putA_fences (s : State) (f : Field) (i v : Nat) : (s.putA f i v).fences = s.fences := rfl
@[simp] theorem State.putA_queues (s : State) (f : Field) (i v : Nat) : (s.putA f i v).queues = s.queues := rfl
@[simp] theorem State.putA_parts (s : State) (f : Field) (i v : Nat) : (s.putA f i v).parts = s.parts := rfl
@[simp] theorem State.putA_cores (s : State) (f : Field) (i v : Nat) : (s.putA f i v).cores = s.cores := rfl
@[simp] theorem State.putA_carrier (s : State) (f : Field) (i v : Nat) : (s.putA f i v).carrier = s.carrier := rfl
@[simp] theorem State.putA_links (s : State) (f : Field) (i v : Nat) : (s.putA f i v).links = s.links := rfl
@[simp] theorem State.putA_ports (s : State) (f : Field) (i v : Nat) : (s.putA f i v).ports = s.ports := rfl
@[simp] theorem State.putA_lasers (s : State) (f : Field) (i v : Nat) : (s.putA f i v).lasers = s.lasers := rfl
@[simp] theorem State.putA_power (s : State) (f : Field) (i v : Nat) : (s.putA f i v).power = s.power := rfl
@[simp] theorem State.putA_mode (s : State) (f : Field) (i v : Nat) : (s.putA f i v).mode = s.mode := rfl
@[simp] theorem State.putA_injects (s : State) (f : Field) (i v : Nat) : (s.putA f i v).injects = s.injects := rfl
@[simp] theorem State.putA_bists (s : State) (f : Field) (i v : Nat) : (s.putA f i v).bists = s.bists := rfl
@[simp] theorem State.putA_gondola (s : State) (f : Field) (i v : Nat) : (s.putA f i v).gondola = s.gondola := rfl
@[simp] theorem State.putA_sec (s : State) (f : Field) (i v : Nat) : (s.putA f i v).sec = s.sec := rfl
@[simp] theorem State.putA_book (s : State) (f : Field) (i v : Nat) : (s.putA f i v).book = s.book := rfl
@[simp] theorem State.putA_msix (s : State) (f : Field) (i v : Nat) : (s.putA f i v).msix = s.msix := rfl
@[simp] theorem State.putA_vfs (s : State) (f : Field) (i v : Nat) : (s.putA f i v).vfs = s.vfs := rfl
@[simp] theorem State.putA_edge (s : State) (f : Field) (i v : Nat) : (s.putA f i v).edge = s.edge := rfl
@[simp] theorem State.putA_rehearsal (s : State) (f : Field) (i v : Nat) : (s.putA f i v).rehearsal = s.rehearsal := rfl
@[simp] theorem State.putA_fresh (s : State) (f : Field) (i v : Nat) : (s.putA f i v).fresh = s.fresh := rfl
@[simp] theorem State.putA_out (s : State) (f : Field) (i v : Nat) : (s.putA f i v).out = s.out := rfl
@[simp] theorem State.putA_get (s : State) (f : Field) (i v : Nat) (y : Field) (j : Nat) : (s.putA f i v).get y j = s.get y j := rfl
@[simp] theorem State.putA_part (s : State) (f : Field) (i v : Nat) (j : Nat) : (s.putA f i v).part j = s.part j := rfl
@[simp] theorem State.putA_core (s : State) (f : Field) (i v : Nat) (j : Nat) : (s.putA f i v).core j = s.core j := rfl
@[simp] theorem State.putA_port (s : State) (f : Field) (i v : Nat) (j : Nat) : (s.putA f i v).port j = s.port j := rfl
@[simp] theorem State.putA_laser (s : State) (f : Field) (i v : Nat) (j : Nat) : (s.putA f i v).laser j = s.laser j := rfl
@[simp] theorem State.putA_domain (s : State) (f : Field) (i v : Nat) (j : Nat) : (s.putA f i v).domain j = s.domain j := rfl
@[simp] theorem State.putA_queueSt (s : State) (f : Field) (i v : Nat) (j : Nat) : (s.putA f i v).queueSt j = s.queueSt j := rfl
@[simp] theorem State.putA_tracker (s : State) (f : Field) (i v : Nat) (j : Nat) : (s.putA f i v).tracker j = s.tracker j := rfl
@[simp] theorem State.putA_link (s : State) (f : Field) (i v : Nat) (j : Nat) : (s.putA f i v).link j = s.link j := rfl
@[simp] theorem State.putA_msixOf (s : State) (f : Field) (i v : Nat) (j : Nat) : (s.putA f i v).msixOf j = s.msixOf j := rfl

/-! `State.incA` -/
@[simp] theorem State.incA_pending (s : State) (f : Field) (i n : Nat) : (s.incA f i n).pending = s.pending := rfl
@[simp] theorem State.incA_clock (s : State) (f : Field) (i n : Nat) : (s.incA f i n).clock = s.clock := rfl
@[simp] theorem State.incA_free (s : State) (f : Field) (i n : Nat) : (s.incA f i n).free = s.free := rfl
@[simp] theorem State.incA_fuses (s : State) (f : Field) (i n : Nat) : (s.incA f i n).fuses = s.fuses := rfl
@[simp] theorem State.incA_regs (s : State) (f : Field) (i n : Nat) : (s.incA f i n).regs = s.regs := rfl
@[simp] theorem State.incA_reel (s : State) (f : Field) (i n : Nat) : (s.incA f i n).reel = s.reel := rfl
@[simp] theorem State.incA_host (s : State) (f : Field) (i n : Nat) : (s.incA f i n).host = s.host := rfl
@[simp] theorem State.incA_fru (s : State) (f : Field) (i n : Nat) : (s.incA f i n).fru = s.fru := rfl
@[simp] theorem State.incA_cmds (s : State) (f : Field) (i n : Nat) : (s.incA f i n).cmds = s.cmds := rfl
@[simp] theorem State.incA_recs (s : State) (f : Field) (i n : Nat) : (s.incA f i n).recs = s.recs := rfl
@[simp] theorem State.incA_fences (s : State) (f : Field) (i n : Nat) : (s.incA f i n).fences = s.fences := rfl
@[simp] theorem State.incA_queues (s : State) (f : Field) (i n : Nat) : (s.incA f i n).queues = s.queues := rfl
@[simp] theorem State.incA_parts (s : State) (f : Field) (i n : Nat) : (s.incA f i n).parts = s.parts := rfl
@[simp] theorem State.incA_cores (s : State) (f : Field) (i n : Nat) : (s.incA f i n).cores = s.cores := rfl
@[simp] theorem State.incA_carrier (s : State) (f : Field) (i n : Nat) : (s.incA f i n).carrier = s.carrier := rfl
@[simp] theorem State.incA_links (s : State) (f : Field) (i n : Nat) : (s.incA f i n).links = s.links := rfl
@[simp] theorem State.incA_ports (s : State) (f : Field) (i n : Nat) : (s.incA f i n).ports = s.ports := rfl
@[simp] theorem State.incA_lasers (s : State) (f : Field) (i n : Nat) : (s.incA f i n).lasers = s.lasers := rfl
@[simp] theorem State.incA_power (s : State) (f : Field) (i n : Nat) : (s.incA f i n).power = s.power := rfl
@[simp] theorem State.incA_mode (s : State) (f : Field) (i n : Nat) : (s.incA f i n).mode = s.mode := rfl
@[simp] theorem State.incA_injects (s : State) (f : Field) (i n : Nat) : (s.incA f i n).injects = s.injects := rfl
@[simp] theorem State.incA_bists (s : State) (f : Field) (i n : Nat) : (s.incA f i n).bists = s.bists := rfl
@[simp] theorem State.incA_gondola (s : State) (f : Field) (i n : Nat) : (s.incA f i n).gondola = s.gondola := rfl
@[simp] theorem State.incA_sec (s : State) (f : Field) (i n : Nat) : (s.incA f i n).sec = s.sec := rfl
@[simp] theorem State.incA_book (s : State) (f : Field) (i n : Nat) : (s.incA f i n).book = s.book := rfl
@[simp] theorem State.incA_msix (s : State) (f : Field) (i n : Nat) : (s.incA f i n).msix = s.msix := rfl
@[simp] theorem State.incA_vfs (s : State) (f : Field) (i n : Nat) : (s.incA f i n).vfs = s.vfs := rfl
@[simp] theorem State.incA_edge (s : State) (f : Field) (i n : Nat) : (s.incA f i n).edge = s.edge := rfl
@[simp] theorem State.incA_rehearsal (s : State) (f : Field) (i n : Nat) : (s.incA f i n).rehearsal = s.rehearsal := rfl
@[simp] theorem State.incA_fresh (s : State) (f : Field) (i n : Nat) : (s.incA f i n).fresh = s.fresh := rfl
@[simp] theorem State.incA_out (s : State) (f : Field) (i n : Nat) : (s.incA f i n).out = s.out := rfl
@[simp] theorem State.incA_get (s : State) (f : Field) (i n : Nat) (y : Field) (j : Nat) : (s.incA f i n).get y j = s.get y j := rfl
@[simp] theorem State.incA_part (s : State) (f : Field) (i n : Nat) (j : Nat) : (s.incA f i n).part j = s.part j := rfl
@[simp] theorem State.incA_core (s : State) (f : Field) (i n : Nat) (j : Nat) : (s.incA f i n).core j = s.core j := rfl
@[simp] theorem State.incA_port (s : State) (f : Field) (i n : Nat) (j : Nat) : (s.incA f i n).port j = s.port j := rfl
@[simp] theorem State.incA_laser (s : State) (f : Field) (i n : Nat) (j : Nat) : (s.incA f i n).laser j = s.laser j := rfl
@[simp] theorem State.incA_domain (s : State) (f : Field) (i n : Nat) (j : Nat) : (s.incA f i n).domain j = s.domain j := rfl
@[simp] theorem State.incA_queueSt (s : State) (f : Field) (i n : Nat) (j : Nat) : (s.incA f i n).queueSt j = s.queueSt j := rfl
@[simp] theorem State.incA_tracker (s : State) (f : Field) (i n : Nat) (j : Nat) : (s.incA f i n).tracker j = s.tracker j := rfl
@[simp] theorem State.incA_link (s : State) (f : Field) (i n : Nat) (j : Nat) : (s.incA f i n).link j = s.link j := rfl
@[simp] theorem State.incA_msixOf (s : State) (f : Field) (i n : Nat) (j : Nat) : (s.incA f i n).msixOf j = s.msixOf j := rfl

/-! `State.setPart` -/
@[simp] theorem State.setPart_pending (s : State) (p : Nat) (x : Part) : (s.setPart p x).pending = s.pending := rfl
@[simp] theorem State.setPart_clock (s : State) (p : Nat) (x : Part) : (s.setPart p x).clock = s.clock := rfl
@[simp] theorem State.setPart_free (s : State) (p : Nat) (x : Part) : (s.setPart p x).free = s.free := rfl
@[simp] theorem State.setPart_fuses (s : State) (p : Nat) (x : Part) : (s.setPart p x).fuses = s.fuses := rfl
@[simp] theorem State.setPart_regs (s : State) (p : Nat) (x : Part) : (s.setPart p x).regs = s.regs := rfl
@[simp] theorem State.setPart_analog (s : State) (p : Nat) (x : Part) : (s.setPart p x).analog = s.analog := rfl
@[simp] theorem State.setPart_reel (s : State) (p : Nat) (x : Part) : (s.setPart p x).reel = s.reel := rfl
@[simp] theorem State.setPart_host (s : State) (p : Nat) (x : Part) : (s.setPart p x).host = s.host := rfl
@[simp] theorem State.setPart_fru (s : State) (p : Nat) (x : Part) : (s.setPart p x).fru = s.fru := rfl
@[simp] theorem State.setPart_cmds (s : State) (p : Nat) (x : Part) : (s.setPart p x).cmds = s.cmds := rfl
@[simp] theorem State.setPart_recs (s : State) (p : Nat) (x : Part) : (s.setPart p x).recs = s.recs := rfl
@[simp] theorem State.setPart_fences (s : State) (p : Nat) (x : Part) : (s.setPart p x).fences = s.fences := rfl
@[simp] theorem State.setPart_queues (s : State) (p : Nat) (x : Part) : (s.setPart p x).queues = s.queues := rfl
@[simp] theorem State.setPart_cores (s : State) (p : Nat) (x : Part) : (s.setPart p x).cores = s.cores := rfl
@[simp] theorem State.setPart_carrier (s : State) (p : Nat) (x : Part) : (s.setPart p x).carrier = s.carrier := rfl
@[simp] theorem State.setPart_links (s : State) (p : Nat) (x : Part) : (s.setPart p x).links = s.links := rfl
@[simp] theorem State.setPart_ports (s : State) (p : Nat) (x : Part) : (s.setPart p x).ports = s.ports := rfl
@[simp] theorem State.setPart_lasers (s : State) (p : Nat) (x : Part) : (s.setPart p x).lasers = s.lasers := rfl
@[simp] theorem State.setPart_power (s : State) (p : Nat) (x : Part) : (s.setPart p x).power = s.power := rfl
@[simp] theorem State.setPart_mode (s : State) (p : Nat) (x : Part) : (s.setPart p x).mode = s.mode := rfl
@[simp] theorem State.setPart_injects (s : State) (p : Nat) (x : Part) : (s.setPart p x).injects = s.injects := rfl
@[simp] theorem State.setPart_bists (s : State) (p : Nat) (x : Part) : (s.setPart p x).bists = s.bists := rfl
@[simp] theorem State.setPart_gondola (s : State) (p : Nat) (x : Part) : (s.setPart p x).gondola = s.gondola := rfl
@[simp] theorem State.setPart_sec (s : State) (p : Nat) (x : Part) : (s.setPart p x).sec = s.sec := rfl
@[simp] theorem State.setPart_book (s : State) (p : Nat) (x : Part) : (s.setPart p x).book = s.book := rfl
@[simp] theorem State.setPart_msix (s : State) (p : Nat) (x : Part) : (s.setPart p x).msix = s.msix := rfl
@[simp] theorem State.setPart_vfs (s : State) (p : Nat) (x : Part) : (s.setPart p x).vfs = s.vfs := rfl
@[simp] theorem State.setPart_edge (s : State) (p : Nat) (x : Part) : (s.setPart p x).edge = s.edge := rfl
@[simp] theorem State.setPart_rehearsal (s : State) (p : Nat) (x : Part) : (s.setPart p x).rehearsal = s.rehearsal := rfl
@[simp] theorem State.setPart_fresh (s : State) (p : Nat) (x : Part) : (s.setPart p x).fresh = s.fresh := rfl
@[simp] theorem State.setPart_out (s : State) (p : Nat) (x : Part) : (s.setPart p x).out = s.out := rfl
@[simp] theorem State.setPart_get (s : State) (p : Nat) (x : Part) (y : Field) (j : Nat) : (s.setPart p x).get y j = s.get y j := rfl
@[simp] theorem State.setPart_getA (s : State) (p : Nat) (x : Part) (y : Field) (j : Nat) : (s.setPart p x).getA y j = s.getA y j := rfl
@[simp] theorem State.setPart_core (s : State) (p : Nat) (x : Part) (j : Nat) : (s.setPart p x).core j = s.core j := rfl
@[simp] theorem State.setPart_port (s : State) (p : Nat) (x : Part) (j : Nat) : (s.setPart p x).port j = s.port j := rfl
@[simp] theorem State.setPart_laser (s : State) (p : Nat) (x : Part) (j : Nat) : (s.setPart p x).laser j = s.laser j := rfl
@[simp] theorem State.setPart_domain (s : State) (p : Nat) (x : Part) (j : Nat) : (s.setPart p x).domain j = s.domain j := rfl
@[simp] theorem State.setPart_queueSt (s : State) (p : Nat) (x : Part) (j : Nat) : (s.setPart p x).queueSt j = s.queueSt j := rfl
@[simp] theorem State.setPart_tracker (s : State) (p : Nat) (x : Part) (j : Nat) : (s.setPart p x).tracker j = s.tracker j := rfl
@[simp] theorem State.setPart_link (s : State) (p : Nat) (x : Part) (j : Nat) : (s.setPart p x).link j = s.link j := rfl
@[simp] theorem State.setPart_msixOf (s : State) (p : Nat) (x : Part) (j : Nat) : (s.setPart p x).msixOf j = s.msixOf j := rfl

/-! `State.modPart` -/
@[simp] theorem State.modPart_pending (s : State) (p : Nat) (g : Part → Part) : (s.modPart p g).pending = s.pending := rfl
@[simp] theorem State.modPart_clock (s : State) (p : Nat) (g : Part → Part) : (s.modPart p g).clock = s.clock := rfl
@[simp] theorem State.modPart_free (s : State) (p : Nat) (g : Part → Part) : (s.modPart p g).free = s.free := rfl
@[simp] theorem State.modPart_fuses (s : State) (p : Nat) (g : Part → Part) : (s.modPart p g).fuses = s.fuses := rfl
@[simp] theorem State.modPart_regs (s : State) (p : Nat) (g : Part → Part) : (s.modPart p g).regs = s.regs := rfl
@[simp] theorem State.modPart_analog (s : State) (p : Nat) (g : Part → Part) : (s.modPart p g).analog = s.analog := rfl
@[simp] theorem State.modPart_reel (s : State) (p : Nat) (g : Part → Part) : (s.modPart p g).reel = s.reel := rfl
@[simp] theorem State.modPart_host (s : State) (p : Nat) (g : Part → Part) : (s.modPart p g).host = s.host := rfl
@[simp] theorem State.modPart_fru (s : State) (p : Nat) (g : Part → Part) : (s.modPart p g).fru = s.fru := rfl
@[simp] theorem State.modPart_cmds (s : State) (p : Nat) (g : Part → Part) : (s.modPart p g).cmds = s.cmds := rfl
@[simp] theorem State.modPart_recs (s : State) (p : Nat) (g : Part → Part) : (s.modPart p g).recs = s.recs := rfl
@[simp] theorem State.modPart_fences (s : State) (p : Nat) (g : Part → Part) : (s.modPart p g).fences = s.fences := rfl
@[simp] theorem State.modPart_queues (s : State) (p : Nat) (g : Part → Part) : (s.modPart p g).queues = s.queues := rfl
@[simp] theorem State.modPart_cores (s : State) (p : Nat) (g : Part → Part) : (s.modPart p g).cores = s.cores := rfl
@[simp] theorem State.modPart_carrier (s : State) (p : Nat) (g : Part → Part) : (s.modPart p g).carrier = s.carrier := rfl
@[simp] theorem State.modPart_links (s : State) (p : Nat) (g : Part → Part) : (s.modPart p g).links = s.links := rfl
@[simp] theorem State.modPart_ports (s : State) (p : Nat) (g : Part → Part) : (s.modPart p g).ports = s.ports := rfl
@[simp] theorem State.modPart_lasers (s : State) (p : Nat) (g : Part → Part) : (s.modPart p g).lasers = s.lasers := rfl
@[simp] theorem State.modPart_power (s : State) (p : Nat) (g : Part → Part) : (s.modPart p g).power = s.power := rfl
@[simp] theorem State.modPart_mode (s : State) (p : Nat) (g : Part → Part) : (s.modPart p g).mode = s.mode := rfl
@[simp] theorem State.modPart_injects (s : State) (p : Nat) (g : Part → Part) : (s.modPart p g).injects = s.injects := rfl
@[simp] theorem State.modPart_bists (s : State) (p : Nat) (g : Part → Part) : (s.modPart p g).bists = s.bists := rfl
@[simp] theorem State.modPart_gondola (s : State) (p : Nat) (g : Part → Part) : (s.modPart p g).gondola = s.gondola := rfl
@[simp] theorem State.modPart_sec (s : State) (p : Nat) (g : Part → Part) : (s.modPart p g).sec = s.sec := rfl
@[simp] theorem State.modPart_book (s : State) (p : Nat) (g : Part → Part) : (s.modPart p g).book = s.book := rfl
@[simp] theorem State.modPart_msix (s : State) (p : Nat) (g : Part → Part) : (s.modPart p g).msix = s.msix := rfl
@[simp] theorem State.modPart_vfs (s : State) (p : Nat) (g : Part → Part) : (s.modPart p g).vfs = s.vfs := rfl
@[simp] theorem State.modPart_edge (s : State) (p : Nat) (g : Part → Part) : (s.modPart p g).edge = s.edge := rfl
@[simp] theorem State.modPart_rehearsal (s : State) (p : Nat) (g : Part → Part) : (s.modPart p g).rehearsal = s.rehearsal := rfl
@[simp] theorem State.modPart_fresh (s : State) (p : Nat) (g : Part → Part) : (s.modPart p g).fresh = s.fresh := rfl
@[simp] theorem State.modPart_out (s : State) (p : Nat) (g : Part → Part) : (s.modPart p g).out = s.out := rfl
@[simp] theorem State.modPart_get (s : State) (p : Nat) (g : Part → Part) (y : Field) (j : Nat) : (s.modPart p g).get y j = s.get y j := rfl
@[simp] theorem State.modPart_getA (s : State) (p : Nat) (g : Part → Part) (y : Field) (j : Nat) : (s.modPart p g).getA y j = s.getA y j := rfl
@[simp] theorem State.modPart_core (s : State) (p : Nat) (g : Part → Part) (j : Nat) : (s.modPart p g).core j = s.core j := rfl
@[simp] theorem State.modPart_port (s : State) (p : Nat) (g : Part → Part) (j : Nat) : (s.modPart p g).port j = s.port j := rfl
@[simp] theorem State.modPart_laser (s : State) (p : Nat) (g : Part → Part) (j : Nat) : (s.modPart p g).laser j = s.laser j := rfl
@[simp] theorem State.modPart_domain (s : State) (p : Nat) (g : Part → Part) (j : Nat) : (s.modPart p g).domain j = s.domain j := rfl
@[simp] theorem State.modPart_queueSt (s : State) (p : Nat) (g : Part → Part) (j : Nat) : (s.modPart p g).queueSt j = s.queueSt j := rfl
@[simp] theorem State.modPart_tracker (s : State) (p : Nat) (g : Part → Part) (j : Nat) : (s.modPart p g).tracker j = s.tracker j := rfl
@[simp] theorem State.modPart_link (s : State) (p : Nat) (g : Part → Part) (j : Nat) : (s.modPart p g).link j = s.link j := rfl
@[simp] theorem State.modPart_msixOf (s : State) (p : Nat) (g : Part → Part) (j : Nat) : (s.modPart p g).msixOf j = s.msixOf j := rfl

/-! `State.modBind` -/
@[simp] theorem State.modBind_pending (s : State) (p : Nat) (g : PartBind → PartBind) : (s.modBind p g).pending = s.pending := rfl
@[simp] theorem State.modBind_clock (s : State) (p : Nat) (g : PartBind → PartBind) : (s.modBind p g).clock = s.clock := rfl
@[simp] theorem State.modBind_free (s : State) (p : Nat) (g : PartBind → PartBind) : (s.modBind p g).free = s.free := rfl
@[simp] theorem State.modBind_fuses (s : State) (p : Nat) (g : PartBind → PartBind) : (s.modBind p g).fuses = s.fuses := rfl
@[simp] theorem State.modBind_regs (s : State) (p : Nat) (g : PartBind → PartBind) : (s.modBind p g).regs = s.regs := rfl
@[simp] theorem State.modBind_analog (s : State) (p : Nat) (g : PartBind → PartBind) : (s.modBind p g).analog = s.analog := rfl
@[simp] theorem State.modBind_reel (s : State) (p : Nat) (g : PartBind → PartBind) : (s.modBind p g).reel = s.reel := rfl
@[simp] theorem State.modBind_host (s : State) (p : Nat) (g : PartBind → PartBind) : (s.modBind p g).host = s.host := rfl
@[simp] theorem State.modBind_fru (s : State) (p : Nat) (g : PartBind → PartBind) : (s.modBind p g).fru = s.fru := rfl
@[simp] theorem State.modBind_cmds (s : State) (p : Nat) (g : PartBind → PartBind) : (s.modBind p g).cmds = s.cmds := rfl
@[simp] theorem State.modBind_recs (s : State) (p : Nat) (g : PartBind → PartBind) : (s.modBind p g).recs = s.recs := rfl
@[simp] theorem State.modBind_fences (s : State) (p : Nat) (g : PartBind → PartBind) : (s.modBind p g).fences = s.fences := rfl
@[simp] theorem State.modBind_queues (s : State) (p : Nat) (g : PartBind → PartBind) : (s.modBind p g).queues = s.queues := rfl
@[simp] theorem State.modBind_cores (s : State) (p : Nat) (g : PartBind → PartBind) : (s.modBind p g).cores = s.cores := rfl
@[simp] theorem State.modBind_carrier (s : State) (p : Nat) (g : PartBind → PartBind) : (s.modBind p g).carrier = s.carrier := rfl
@[simp] theorem State.modBind_links (s : State) (p : Nat) (g : PartBind → PartBind) : (s.modBind p g).links = s.links := rfl
@[simp] theorem State.modBind_ports (s : State) (p : Nat) (g : PartBind → PartBind) : (s.modBind p g).ports = s.ports := rfl
@[simp] theorem State.modBind_lasers (s : State) (p : Nat) (g : PartBind → PartBind) : (s.modBind p g).lasers = s.lasers := rfl
@[simp] theorem State.modBind_power (s : State) (p : Nat) (g : PartBind → PartBind) : (s.modBind p g).power = s.power := rfl
@[simp] theorem State.modBind_mode (s : State) (p : Nat) (g : PartBind → PartBind) : (s.modBind p g).mode = s.mode := rfl
@[simp] theorem State.modBind_injects (s : State) (p : Nat) (g : PartBind → PartBind) : (s.modBind p g).injects = s.injects := rfl
@[simp] theorem State.modBind_bists (s : State) (p : Nat) (g : PartBind → PartBind) : (s.modBind p g).bists = s.bists := rfl
@[simp] theorem State.modBind_gondola (s : State) (p : Nat) (g : PartBind → PartBind) : (s.modBind p g).gondola = s.gondola := rfl
@[simp] theorem State.modBind_sec (s : State) (p : Nat) (g : PartBind → PartBind) : (s.modBind p g).sec = s.sec := rfl
@[simp] theorem State.modBind_book (s : State) (p : Nat) (g : PartBind → PartBind) : (s.modBind p g).book = s.book := rfl
@[simp] theorem State.modBind_msix (s : State) (p : Nat) (g : PartBind → PartBind) : (s.modBind p g).msix = s.msix := rfl
@[simp] theorem State.modBind_vfs (s : State) (p : Nat) (g : PartBind → PartBind) : (s.modBind p g).vfs = s.vfs := rfl
@[simp] theorem State.modBind_edge (s : State) (p : Nat) (g : PartBind → PartBind) : (s.modBind p g).edge = s.edge := rfl
@[simp] theorem State.modBind_rehearsal (s : State) (p : Nat) (g : PartBind → PartBind) : (s.modBind p g).rehearsal = s.rehearsal := rfl
@[simp] theorem State.modBind_fresh (s : State) (p : Nat) (g : PartBind → PartBind) : (s.modBind p g).fresh = s.fresh := rfl
@[simp] theorem State.modBind_out (s : State) (p : Nat) (g : PartBind → PartBind) : (s.modBind p g).out = s.out := rfl
@[simp] theorem State.modBind_get (s : State) (p : Nat) (g : PartBind → PartBind) (y : Field) (j : Nat) : (s.modBind p g).get y j = s.get y j := rfl
@[simp] theorem State.modBind_getA (s : State) (p : Nat) (g : PartBind → PartBind) (y : Field) (j : Nat) : (s.modBind p g).getA y j = s.getA y j := rfl
@[simp] theorem State.modBind_core (s : State) (p : Nat) (g : PartBind → PartBind) (j : Nat) : (s.modBind p g).core j = s.core j := rfl
@[simp] theorem State.modBind_port (s : State) (p : Nat) (g : PartBind → PartBind) (j : Nat) : (s.modBind p g).port j = s.port j := rfl
@[simp] theorem State.modBind_laser (s : State) (p : Nat) (g : PartBind → PartBind) (j : Nat) : (s.modBind p g).laser j = s.laser j := rfl
@[simp] theorem State.modBind_domain (s : State) (p : Nat) (g : PartBind → PartBind) (j : Nat) : (s.modBind p g).domain j = s.domain j := rfl
@[simp] theorem State.modBind_queueSt (s : State) (p : Nat) (g : PartBind → PartBind) (j : Nat) : (s.modBind p g).queueSt j = s.queueSt j := rfl
@[simp] theorem State.modBind_tracker (s : State) (p : Nat) (g : PartBind → PartBind) (j : Nat) : (s.modBind p g).tracker j = s.tracker j := rfl
@[simp] theorem State.modBind_link (s : State) (p : Nat) (g : PartBind → PartBind) (j : Nat) : (s.modBind p g).link j = s.link j := rfl
@[simp] theorem State.modBind_msixOf (s : State) (p : Nat) (g : PartBind → PartBind) (j : Nat) : (s.modBind p g).msixOf j = s.msixOf j := rfl

/-! `State.modRun` -/
@[simp] theorem State.modRun_pending (s : State) (p : Nat) (g : PartRun → PartRun) : (s.modRun p g).pending = s.pending := rfl
@[simp] theorem State.modRun_clock (s : State) (p : Nat) (g : PartRun → PartRun) : (s.modRun p g).clock = s.clock := rfl
@[simp] theorem State.modRun_free (s : State) (p : Nat) (g : PartRun → PartRun) : (s.modRun p g).free = s.free := rfl
@[simp] theorem State.modRun_fuses (s : State) (p : Nat) (g : PartRun → PartRun) : (s.modRun p g).fuses = s.fuses := rfl
@[simp] theorem State.modRun_regs (s : State) (p : Nat) (g : PartRun → PartRun) : (s.modRun p g).regs = s.regs := rfl
@[simp] theorem State.modRun_analog (s : State) (p : Nat) (g : PartRun → PartRun) : (s.modRun p g).analog = s.analog := rfl
@[simp] theorem State.modRun_reel (s : State) (p : Nat) (g : PartRun → PartRun) : (s.modRun p g).reel = s.reel := rfl
@[simp] theorem State.modRun_host (s : State) (p : Nat) (g : PartRun → PartRun) : (s.modRun p g).host = s.host := rfl
@[simp] theorem State.modRun_fru (s : State) (p : Nat) (g : PartRun → PartRun) : (s.modRun p g).fru = s.fru := rfl
@[simp] theorem State.modRun_cmds (s : State) (p : Nat) (g : PartRun → PartRun) : (s.modRun p g).cmds = s.cmds := rfl
@[simp] theorem State.modRun_recs (s : State) (p : Nat) (g : PartRun → PartRun) : (s.modRun p g).recs = s.recs := rfl
@[simp] theorem State.modRun_fences (s : State) (p : Nat) (g : PartRun → PartRun) : (s.modRun p g).fences = s.fences := rfl
@[simp] theorem State.modRun_queues (s : State) (p : Nat) (g : PartRun → PartRun) : (s.modRun p g).queues = s.queues := rfl
@[simp] theorem State.modRun_cores (s : State) (p : Nat) (g : PartRun → PartRun) : (s.modRun p g).cores = s.cores := rfl
@[simp] theorem State.modRun_carrier (s : State) (p : Nat) (g : PartRun → PartRun) : (s.modRun p g).carrier = s.carrier := rfl
@[simp] theorem State.modRun_links (s : State) (p : Nat) (g : PartRun → PartRun) : (s.modRun p g).links = s.links := rfl
@[simp] theorem State.modRun_ports (s : State) (p : Nat) (g : PartRun → PartRun) : (s.modRun p g).ports = s.ports := rfl
@[simp] theorem State.modRun_lasers (s : State) (p : Nat) (g : PartRun → PartRun) : (s.modRun p g).lasers = s.lasers := rfl
@[simp] theorem State.modRun_power (s : State) (p : Nat) (g : PartRun → PartRun) : (s.modRun p g).power = s.power := rfl
@[simp] theorem State.modRun_mode (s : State) (p : Nat) (g : PartRun → PartRun) : (s.modRun p g).mode = s.mode := rfl
@[simp] theorem State.modRun_injects (s : State) (p : Nat) (g : PartRun → PartRun) : (s.modRun p g).injects = s.injects := rfl
@[simp] theorem State.modRun_bists (s : State) (p : Nat) (g : PartRun → PartRun) : (s.modRun p g).bists = s.bists := rfl
@[simp] theorem State.modRun_gondola (s : State) (p : Nat) (g : PartRun → PartRun) : (s.modRun p g).gondola = s.gondola := rfl
@[simp] theorem State.modRun_sec (s : State) (p : Nat) (g : PartRun → PartRun) : (s.modRun p g).sec = s.sec := rfl
@[simp] theorem State.modRun_book (s : State) (p : Nat) (g : PartRun → PartRun) : (s.modRun p g).book = s.book := rfl
@[simp] theorem State.modRun_msix (s : State) (p : Nat) (g : PartRun → PartRun) : (s.modRun p g).msix = s.msix := rfl
@[simp] theorem State.modRun_vfs (s : State) (p : Nat) (g : PartRun → PartRun) : (s.modRun p g).vfs = s.vfs := rfl
@[simp] theorem State.modRun_edge (s : State) (p : Nat) (g : PartRun → PartRun) : (s.modRun p g).edge = s.edge := rfl
@[simp] theorem State.modRun_rehearsal (s : State) (p : Nat) (g : PartRun → PartRun) : (s.modRun p g).rehearsal = s.rehearsal := rfl
@[simp] theorem State.modRun_fresh (s : State) (p : Nat) (g : PartRun → PartRun) : (s.modRun p g).fresh = s.fresh := rfl
@[simp] theorem State.modRun_out (s : State) (p : Nat) (g : PartRun → PartRun) : (s.modRun p g).out = s.out := rfl
@[simp] theorem State.modRun_get (s : State) (p : Nat) (g : PartRun → PartRun) (y : Field) (j : Nat) : (s.modRun p g).get y j = s.get y j := rfl
@[simp] theorem State.modRun_getA (s : State) (p : Nat) (g : PartRun → PartRun) (y : Field) (j : Nat) : (s.modRun p g).getA y j = s.getA y j := rfl
@[simp] theorem State.modRun_core (s : State) (p : Nat) (g : PartRun → PartRun) (j : Nat) : (s.modRun p g).core j = s.core j := rfl
@[simp] theorem State.modRun_port (s : State) (p : Nat) (g : PartRun → PartRun) (j : Nat) : (s.modRun p g).port j = s.port j := rfl
@[simp] theorem State.modRun_laser (s : State) (p : Nat) (g : PartRun → PartRun) (j : Nat) : (s.modRun p g).laser j = s.laser j := rfl
@[simp] theorem State.modRun_domain (s : State) (p : Nat) (g : PartRun → PartRun) (j : Nat) : (s.modRun p g).domain j = s.domain j := rfl
@[simp] theorem State.modRun_queueSt (s : State) (p : Nat) (g : PartRun → PartRun) (j : Nat) : (s.modRun p g).queueSt j = s.queueSt j := rfl
@[simp] theorem State.modRun_tracker (s : State) (p : Nat) (g : PartRun → PartRun) (j : Nat) : (s.modRun p g).tracker j = s.tracker j := rfl
@[simp] theorem State.modRun_link (s : State) (p : Nat) (g : PartRun → PartRun) (j : Nat) : (s.modRun p g).link j = s.link j := rfl
@[simp] theorem State.modRun_msixOf (s : State) (p : Nat) (g : PartRun → PartRun) (j : Nat) : (s.modRun p g).msixOf j = s.msixOf j := rfl

/-! `State.modStrm` -/
@[simp] theorem State.modStrm_pending (s : State) (p : Nat) (g : PartStream → PartStream) : (s.modStrm p g).pending = s.pending := rfl
@[simp] theorem State.modStrm_clock (s : State) (p : Nat) (g : PartStream → PartStream) : (s.modStrm p g).clock = s.clock := rfl
@[simp] theorem State.modStrm_free (s : State) (p : Nat) (g : PartStream → PartStream) : (s.modStrm p g).free = s.free := rfl
@[simp] theorem State.modStrm_fuses (s : State) (p : Nat) (g : PartStream → PartStream) : (s.modStrm p g).fuses = s.fuses := rfl
@[simp] theorem State.modStrm_regs (s : State) (p : Nat) (g : PartStream → PartStream) : (s.modStrm p g).regs = s.regs := rfl
@[simp] theorem State.modStrm_analog (s : State) (p : Nat) (g : PartStream → PartStream) : (s.modStrm p g).analog = s.analog := rfl
@[simp] theorem State.modStrm_reel (s : State) (p : Nat) (g : PartStream → PartStream) : (s.modStrm p g).reel = s.reel := rfl
@[simp] theorem State.modStrm_host (s : State) (p : Nat) (g : PartStream → PartStream) : (s.modStrm p g).host = s.host := rfl
@[simp] theorem State.modStrm_fru (s : State) (p : Nat) (g : PartStream → PartStream) : (s.modStrm p g).fru = s.fru := rfl
@[simp] theorem State.modStrm_cmds (s : State) (p : Nat) (g : PartStream → PartStream) : (s.modStrm p g).cmds = s.cmds := rfl
@[simp] theorem State.modStrm_recs (s : State) (p : Nat) (g : PartStream → PartStream) : (s.modStrm p g).recs = s.recs := rfl
@[simp] theorem State.modStrm_fences (s : State) (p : Nat) (g : PartStream → PartStream) : (s.modStrm p g).fences = s.fences := rfl
@[simp] theorem State.modStrm_queues (s : State) (p : Nat) (g : PartStream → PartStream) : (s.modStrm p g).queues = s.queues := rfl
@[simp] theorem State.modStrm_cores (s : State) (p : Nat) (g : PartStream → PartStream) : (s.modStrm p g).cores = s.cores := rfl
@[simp] theorem State.modStrm_carrier (s : State) (p : Nat) (g : PartStream → PartStream) : (s.modStrm p g).carrier = s.carrier := rfl
@[simp] theorem State.modStrm_links (s : State) (p : Nat) (g : PartStream → PartStream) : (s.modStrm p g).links = s.links := rfl
@[simp] theorem State.modStrm_ports (s : State) (p : Nat) (g : PartStream → PartStream) : (s.modStrm p g).ports = s.ports := rfl
@[simp] theorem State.modStrm_lasers (s : State) (p : Nat) (g : PartStream → PartStream) : (s.modStrm p g).lasers = s.lasers := rfl
@[simp] theorem State.modStrm_power (s : State) (p : Nat) (g : PartStream → PartStream) : (s.modStrm p g).power = s.power := rfl
@[simp] theorem State.modStrm_mode (s : State) (p : Nat) (g : PartStream → PartStream) : (s.modStrm p g).mode = s.mode := rfl
@[simp] theorem State.modStrm_injects (s : State) (p : Nat) (g : PartStream → PartStream) : (s.modStrm p g).injects = s.injects := rfl
@[simp] theorem State.modStrm_bists (s : State) (p : Nat) (g : PartStream → PartStream) : (s.modStrm p g).bists = s.bists := rfl
@[simp] theorem State.modStrm_gondola (s : State) (p : Nat) (g : PartStream → PartStream) : (s.modStrm p g).gondola = s.gondola := rfl
@[simp] theorem State.modStrm_sec (s : State) (p : Nat) (g : PartStream → PartStream) : (s.modStrm p g).sec = s.sec := rfl
@[simp] theorem State.modStrm_book (s : State) (p : Nat) (g : PartStream → PartStream) : (s.modStrm p g).book = s.book := rfl
@[simp] theorem State.modStrm_msix (s : State) (p : Nat) (g : PartStream → PartStream) : (s.modStrm p g).msix = s.msix := rfl
@[simp] theorem State.modStrm_vfs (s : State) (p : Nat) (g : PartStream → PartStream) : (s.modStrm p g).vfs = s.vfs := rfl
@[simp] theorem State.modStrm_edge (s : State) (p : Nat) (g : PartStream → PartStream) : (s.modStrm p g).edge = s.edge := rfl
@[simp] theorem State.modStrm_rehearsal (s : State) (p : Nat) (g : PartStream → PartStream) : (s.modStrm p g).rehearsal = s.rehearsal := rfl
@[simp] theorem State.modStrm_fresh (s : State) (p : Nat) (g : PartStream → PartStream) : (s.modStrm p g).fresh = s.fresh := rfl
@[simp] theorem State.modStrm_out (s : State) (p : Nat) (g : PartStream → PartStream) : (s.modStrm p g).out = s.out := rfl
@[simp] theorem State.modStrm_get (s : State) (p : Nat) (g : PartStream → PartStream) (y : Field) (j : Nat) : (s.modStrm p g).get y j = s.get y j := rfl
@[simp] theorem State.modStrm_getA (s : State) (p : Nat) (g : PartStream → PartStream) (y : Field) (j : Nat) : (s.modStrm p g).getA y j = s.getA y j := rfl
@[simp] theorem State.modStrm_core (s : State) (p : Nat) (g : PartStream → PartStream) (j : Nat) : (s.modStrm p g).core j = s.core j := rfl
@[simp] theorem State.modStrm_port (s : State) (p : Nat) (g : PartStream → PartStream) (j : Nat) : (s.modStrm p g).port j = s.port j := rfl
@[simp] theorem State.modStrm_laser (s : State) (p : Nat) (g : PartStream → PartStream) (j : Nat) : (s.modStrm p g).laser j = s.laser j := rfl
@[simp] theorem State.modStrm_domain (s : State) (p : Nat) (g : PartStream → PartStream) (j : Nat) : (s.modStrm p g).domain j = s.domain j := rfl
@[simp] theorem State.modStrm_queueSt (s : State) (p : Nat) (g : PartStream → PartStream) (j : Nat) : (s.modStrm p g).queueSt j = s.queueSt j := rfl
@[simp] theorem State.modStrm_tracker (s : State) (p : Nat) (g : PartStream → PartStream) (j : Nat) : (s.modStrm p g).tracker j = s.tracker j := rfl
@[simp] theorem State.modStrm_link (s : State) (p : Nat) (g : PartStream → PartStream) (j : Nat) : (s.modStrm p g).link j = s.link j := rfl
@[simp] theorem State.modStrm_msixOf (s : State) (p : Nat) (g : PartStream → PartStream) (j : Nat) : (s.modStrm p g).msixOf j = s.msixOf j := rfl

/-! `State.setCore` -/
@[simp] theorem State.setCore_pending (s : State) (n : Nat) (x : Core) : (s.setCore n x).pending = s.pending := rfl
@[simp] theorem State.setCore_clock (s : State) (n : Nat) (x : Core) : (s.setCore n x).clock = s.clock := rfl
@[simp] theorem State.setCore_free (s : State) (n : Nat) (x : Core) : (s.setCore n x).free = s.free := rfl
@[simp] theorem State.setCore_fuses (s : State) (n : Nat) (x : Core) : (s.setCore n x).fuses = s.fuses := rfl
@[simp] theorem State.setCore_regs (s : State) (n : Nat) (x : Core) : (s.setCore n x).regs = s.regs := rfl
@[simp] theorem State.setCore_analog (s : State) (n : Nat) (x : Core) : (s.setCore n x).analog = s.analog := rfl
@[simp] theorem State.setCore_reel (s : State) (n : Nat) (x : Core) : (s.setCore n x).reel = s.reel := rfl
@[simp] theorem State.setCore_host (s : State) (n : Nat) (x : Core) : (s.setCore n x).host = s.host := rfl
@[simp] theorem State.setCore_fru (s : State) (n : Nat) (x : Core) : (s.setCore n x).fru = s.fru := rfl
@[simp] theorem State.setCore_cmds (s : State) (n : Nat) (x : Core) : (s.setCore n x).cmds = s.cmds := rfl
@[simp] theorem State.setCore_recs (s : State) (n : Nat) (x : Core) : (s.setCore n x).recs = s.recs := rfl
@[simp] theorem State.setCore_fences (s : State) (n : Nat) (x : Core) : (s.setCore n x).fences = s.fences := rfl
@[simp] theorem State.setCore_queues (s : State) (n : Nat) (x : Core) : (s.setCore n x).queues = s.queues := rfl
@[simp] theorem State.setCore_parts (s : State) (n : Nat) (x : Core) : (s.setCore n x).parts = s.parts := rfl
@[simp] theorem State.setCore_carrier (s : State) (n : Nat) (x : Core) : (s.setCore n x).carrier = s.carrier := rfl
@[simp] theorem State.setCore_links (s : State) (n : Nat) (x : Core) : (s.setCore n x).links = s.links := rfl
@[simp] theorem State.setCore_ports (s : State) (n : Nat) (x : Core) : (s.setCore n x).ports = s.ports := rfl
@[simp] theorem State.setCore_lasers (s : State) (n : Nat) (x : Core) : (s.setCore n x).lasers = s.lasers := rfl
@[simp] theorem State.setCore_power (s : State) (n : Nat) (x : Core) : (s.setCore n x).power = s.power := rfl
@[simp] theorem State.setCore_mode (s : State) (n : Nat) (x : Core) : (s.setCore n x).mode = s.mode := rfl
@[simp] theorem State.setCore_injects (s : State) (n : Nat) (x : Core) : (s.setCore n x).injects = s.injects := rfl
@[simp] theorem State.setCore_bists (s : State) (n : Nat) (x : Core) : (s.setCore n x).bists = s.bists := rfl
@[simp] theorem State.setCore_gondola (s : State) (n : Nat) (x : Core) : (s.setCore n x).gondola = s.gondola := rfl
@[simp] theorem State.setCore_sec (s : State) (n : Nat) (x : Core) : (s.setCore n x).sec = s.sec := rfl
@[simp] theorem State.setCore_book (s : State) (n : Nat) (x : Core) : (s.setCore n x).book = s.book := rfl
@[simp] theorem State.setCore_msix (s : State) (n : Nat) (x : Core) : (s.setCore n x).msix = s.msix := rfl
@[simp] theorem State.setCore_vfs (s : State) (n : Nat) (x : Core) : (s.setCore n x).vfs = s.vfs := rfl
@[simp] theorem State.setCore_edge (s : State) (n : Nat) (x : Core) : (s.setCore n x).edge = s.edge := rfl
@[simp] theorem State.setCore_rehearsal (s : State) (n : Nat) (x : Core) : (s.setCore n x).rehearsal = s.rehearsal := rfl
@[simp] theorem State.setCore_fresh (s : State) (n : Nat) (x : Core) : (s.setCore n x).fresh = s.fresh := rfl
@[simp] theorem State.setCore_out (s : State) (n : Nat) (x : Core) : (s.setCore n x).out = s.out := rfl
@[simp] theorem State.setCore_get (s : State) (n : Nat) (x : Core) (y : Field) (j : Nat) : (s.setCore n x).get y j = s.get y j := rfl
@[simp] theorem State.setCore_getA (s : State) (n : Nat) (x : Core) (y : Field) (j : Nat) : (s.setCore n x).getA y j = s.getA y j := rfl
@[simp] theorem State.setCore_part (s : State) (n : Nat) (x : Core) (j : Nat) : (s.setCore n x).part j = s.part j := rfl
@[simp] theorem State.setCore_port (s : State) (n : Nat) (x : Core) (j : Nat) : (s.setCore n x).port j = s.port j := rfl
@[simp] theorem State.setCore_laser (s : State) (n : Nat) (x : Core) (j : Nat) : (s.setCore n x).laser j = s.laser j := rfl
@[simp] theorem State.setCore_domain (s : State) (n : Nat) (x : Core) (j : Nat) : (s.setCore n x).domain j = s.domain j := rfl
@[simp] theorem State.setCore_queueSt (s : State) (n : Nat) (x : Core) (j : Nat) : (s.setCore n x).queueSt j = s.queueSt j := rfl
@[simp] theorem State.setCore_tracker (s : State) (n : Nat) (x : Core) (j : Nat) : (s.setCore n x).tracker j = s.tracker j := rfl
@[simp] theorem State.setCore_link (s : State) (n : Nat) (x : Core) (j : Nat) : (s.setCore n x).link j = s.link j := rfl
@[simp] theorem State.setCore_msixOf (s : State) (n : Nat) (x : Core) (j : Nat) : (s.setCore n x).msixOf j = s.msixOf j := rfl

/-! `State.modCore` -/
@[simp] theorem State.modCore_pending (s : State) (n : Nat) (g : Core → Core) : (s.modCore n g).pending = s.pending := rfl
@[simp] theorem State.modCore_clock (s : State) (n : Nat) (g : Core → Core) : (s.modCore n g).clock = s.clock := rfl
@[simp] theorem State.modCore_free (s : State) (n : Nat) (g : Core → Core) : (s.modCore n g).free = s.free := rfl
@[simp] theorem State.modCore_fuses (s : State) (n : Nat) (g : Core → Core) : (s.modCore n g).fuses = s.fuses := rfl
@[simp] theorem State.modCore_regs (s : State) (n : Nat) (g : Core → Core) : (s.modCore n g).regs = s.regs := rfl
@[simp] theorem State.modCore_analog (s : State) (n : Nat) (g : Core → Core) : (s.modCore n g).analog = s.analog := rfl
@[simp] theorem State.modCore_reel (s : State) (n : Nat) (g : Core → Core) : (s.modCore n g).reel = s.reel := rfl
@[simp] theorem State.modCore_host (s : State) (n : Nat) (g : Core → Core) : (s.modCore n g).host = s.host := rfl
@[simp] theorem State.modCore_fru (s : State) (n : Nat) (g : Core → Core) : (s.modCore n g).fru = s.fru := rfl
@[simp] theorem State.modCore_cmds (s : State) (n : Nat) (g : Core → Core) : (s.modCore n g).cmds = s.cmds := rfl
@[simp] theorem State.modCore_recs (s : State) (n : Nat) (g : Core → Core) : (s.modCore n g).recs = s.recs := rfl
@[simp] theorem State.modCore_fences (s : State) (n : Nat) (g : Core → Core) : (s.modCore n g).fences = s.fences := rfl
@[simp] theorem State.modCore_queues (s : State) (n : Nat) (g : Core → Core) : (s.modCore n g).queues = s.queues := rfl
@[simp] theorem State.modCore_parts (s : State) (n : Nat) (g : Core → Core) : (s.modCore n g).parts = s.parts := rfl
@[simp] theorem State.modCore_carrier (s : State) (n : Nat) (g : Core → Core) : (s.modCore n g).carrier = s.carrier := rfl
@[simp] theorem State.modCore_links (s : State) (n : Nat) (g : Core → Core) : (s.modCore n g).links = s.links := rfl
@[simp] theorem State.modCore_ports (s : State) (n : Nat) (g : Core → Core) : (s.modCore n g).ports = s.ports := rfl
@[simp] theorem State.modCore_lasers (s : State) (n : Nat) (g : Core → Core) : (s.modCore n g).lasers = s.lasers := rfl
@[simp] theorem State.modCore_power (s : State) (n : Nat) (g : Core → Core) : (s.modCore n g).power = s.power := rfl
@[simp] theorem State.modCore_mode (s : State) (n : Nat) (g : Core → Core) : (s.modCore n g).mode = s.mode := rfl
@[simp] theorem State.modCore_injects (s : State) (n : Nat) (g : Core → Core) : (s.modCore n g).injects = s.injects := rfl
@[simp] theorem State.modCore_bists (s : State) (n : Nat) (g : Core → Core) : (s.modCore n g).bists = s.bists := rfl
@[simp] theorem State.modCore_gondola (s : State) (n : Nat) (g : Core → Core) : (s.modCore n g).gondola = s.gondola := rfl
@[simp] theorem State.modCore_sec (s : State) (n : Nat) (g : Core → Core) : (s.modCore n g).sec = s.sec := rfl
@[simp] theorem State.modCore_book (s : State) (n : Nat) (g : Core → Core) : (s.modCore n g).book = s.book := rfl
@[simp] theorem State.modCore_msix (s : State) (n : Nat) (g : Core → Core) : (s.modCore n g).msix = s.msix := rfl
@[simp] theorem State.modCore_vfs (s : State) (n : Nat) (g : Core → Core) : (s.modCore n g).vfs = s.vfs := rfl
@[simp] theorem State.modCore_edge (s : State) (n : Nat) (g : Core → Core) : (s.modCore n g).edge = s.edge := rfl
@[simp] theorem State.modCore_rehearsal (s : State) (n : Nat) (g : Core → Core) : (s.modCore n g).rehearsal = s.rehearsal := rfl
@[simp] theorem State.modCore_fresh (s : State) (n : Nat) (g : Core → Core) : (s.modCore n g).fresh = s.fresh := rfl
@[simp] theorem State.modCore_out (s : State) (n : Nat) (g : Core → Core) : (s.modCore n g).out = s.out := rfl
@[simp] theorem State.modCore_get (s : State) (n : Nat) (g : Core → Core) (y : Field) (j : Nat) : (s.modCore n g).get y j = s.get y j := rfl
@[simp] theorem State.modCore_getA (s : State) (n : Nat) (g : Core → Core) (y : Field) (j : Nat) : (s.modCore n g).getA y j = s.getA y j := rfl
@[simp] theorem State.modCore_part (s : State) (n : Nat) (g : Core → Core) (j : Nat) : (s.modCore n g).part j = s.part j := rfl
@[simp] theorem State.modCore_port (s : State) (n : Nat) (g : Core → Core) (j : Nat) : (s.modCore n g).port j = s.port j := rfl
@[simp] theorem State.modCore_laser (s : State) (n : Nat) (g : Core → Core) (j : Nat) : (s.modCore n g).laser j = s.laser j := rfl
@[simp] theorem State.modCore_domain (s : State) (n : Nat) (g : Core → Core) (j : Nat) : (s.modCore n g).domain j = s.domain j := rfl
@[simp] theorem State.modCore_queueSt (s : State) (n : Nat) (g : Core → Core) (j : Nat) : (s.modCore n g).queueSt j = s.queueSt j := rfl
@[simp] theorem State.modCore_tracker (s : State) (n : Nat) (g : Core → Core) (j : Nat) : (s.modCore n g).tracker j = s.tracker j := rfl
@[simp] theorem State.modCore_link (s : State) (n : Nat) (g : Core → Core) (j : Nat) : (s.modCore n g).link j = s.link j := rfl
@[simp] theorem State.modCore_msixOf (s : State) (n : Nat) (g : Core → Core) (j : Nat) : (s.modCore n g).msixOf j = s.msixOf j := rfl

/-! `State.setPort` -/
@[simp] theorem State.setPort_pending (s : State) (n : Nat) (x : Port) : (s.setPort n x).pending = s.pending := rfl
@[simp] theorem State.setPort_clock (s : State) (n : Nat) (x : Port) : (s.setPort n x).clock = s.clock := rfl
@[simp] theorem State.setPort_free (s : State) (n : Nat) (x : Port) : (s.setPort n x).free = s.free := rfl
@[simp] theorem State.setPort_fuses (s : State) (n : Nat) (x : Port) : (s.setPort n x).fuses = s.fuses := rfl
@[simp] theorem State.setPort_regs (s : State) (n : Nat) (x : Port) : (s.setPort n x).regs = s.regs := rfl
@[simp] theorem State.setPort_analog (s : State) (n : Nat) (x : Port) : (s.setPort n x).analog = s.analog := rfl
@[simp] theorem State.setPort_reel (s : State) (n : Nat) (x : Port) : (s.setPort n x).reel = s.reel := rfl
@[simp] theorem State.setPort_host (s : State) (n : Nat) (x : Port) : (s.setPort n x).host = s.host := rfl
@[simp] theorem State.setPort_fru (s : State) (n : Nat) (x : Port) : (s.setPort n x).fru = s.fru := rfl
@[simp] theorem State.setPort_cmds (s : State) (n : Nat) (x : Port) : (s.setPort n x).cmds = s.cmds := rfl
@[simp] theorem State.setPort_recs (s : State) (n : Nat) (x : Port) : (s.setPort n x).recs = s.recs := rfl
@[simp] theorem State.setPort_fences (s : State) (n : Nat) (x : Port) : (s.setPort n x).fences = s.fences := rfl
@[simp] theorem State.setPort_queues (s : State) (n : Nat) (x : Port) : (s.setPort n x).queues = s.queues := rfl
@[simp] theorem State.setPort_parts (s : State) (n : Nat) (x : Port) : (s.setPort n x).parts = s.parts := rfl
@[simp] theorem State.setPort_cores (s : State) (n : Nat) (x : Port) : (s.setPort n x).cores = s.cores := rfl
@[simp] theorem State.setPort_carrier (s : State) (n : Nat) (x : Port) : (s.setPort n x).carrier = s.carrier := rfl
@[simp] theorem State.setPort_links (s : State) (n : Nat) (x : Port) : (s.setPort n x).links = s.links := rfl
@[simp] theorem State.setPort_lasers (s : State) (n : Nat) (x : Port) : (s.setPort n x).lasers = s.lasers := rfl
@[simp] theorem State.setPort_power (s : State) (n : Nat) (x : Port) : (s.setPort n x).power = s.power := rfl
@[simp] theorem State.setPort_mode (s : State) (n : Nat) (x : Port) : (s.setPort n x).mode = s.mode := rfl
@[simp] theorem State.setPort_injects (s : State) (n : Nat) (x : Port) : (s.setPort n x).injects = s.injects := rfl
@[simp] theorem State.setPort_bists (s : State) (n : Nat) (x : Port) : (s.setPort n x).bists = s.bists := rfl
@[simp] theorem State.setPort_gondola (s : State) (n : Nat) (x : Port) : (s.setPort n x).gondola = s.gondola := rfl
@[simp] theorem State.setPort_sec (s : State) (n : Nat) (x : Port) : (s.setPort n x).sec = s.sec := rfl
@[simp] theorem State.setPort_book (s : State) (n : Nat) (x : Port) : (s.setPort n x).book = s.book := rfl
@[simp] theorem State.setPort_msix (s : State) (n : Nat) (x : Port) : (s.setPort n x).msix = s.msix := rfl
@[simp] theorem State.setPort_vfs (s : State) (n : Nat) (x : Port) : (s.setPort n x).vfs = s.vfs := rfl
@[simp] theorem State.setPort_edge (s : State) (n : Nat) (x : Port) : (s.setPort n x).edge = s.edge := rfl
@[simp] theorem State.setPort_rehearsal (s : State) (n : Nat) (x : Port) : (s.setPort n x).rehearsal = s.rehearsal := rfl
@[simp] theorem State.setPort_fresh (s : State) (n : Nat) (x : Port) : (s.setPort n x).fresh = s.fresh := rfl
@[simp] theorem State.setPort_out (s : State) (n : Nat) (x : Port) : (s.setPort n x).out = s.out := rfl
@[simp] theorem State.setPort_get (s : State) (n : Nat) (x : Port) (y : Field) (j : Nat) : (s.setPort n x).get y j = s.get y j := rfl
@[simp] theorem State.setPort_getA (s : State) (n : Nat) (x : Port) (y : Field) (j : Nat) : (s.setPort n x).getA y j = s.getA y j := rfl
@[simp] theorem State.setPort_part (s : State) (n : Nat) (x : Port) (j : Nat) : (s.setPort n x).part j = s.part j := rfl
@[simp] theorem State.setPort_core (s : State) (n : Nat) (x : Port) (j : Nat) : (s.setPort n x).core j = s.core j := rfl
@[simp] theorem State.setPort_laser (s : State) (n : Nat) (x : Port) (j : Nat) : (s.setPort n x).laser j = s.laser j := rfl
@[simp] theorem State.setPort_domain (s : State) (n : Nat) (x : Port) (j : Nat) : (s.setPort n x).domain j = s.domain j := rfl
@[simp] theorem State.setPort_queueSt (s : State) (n : Nat) (x : Port) (j : Nat) : (s.setPort n x).queueSt j = s.queueSt j := rfl
@[simp] theorem State.setPort_tracker (s : State) (n : Nat) (x : Port) (j : Nat) : (s.setPort n x).tracker j = s.tracker j := rfl
@[simp] theorem State.setPort_link (s : State) (n : Nat) (x : Port) (j : Nat) : (s.setPort n x).link j = s.link j := rfl
@[simp] theorem State.setPort_msixOf (s : State) (n : Nat) (x : Port) (j : Nat) : (s.setPort n x).msixOf j = s.msixOf j := rfl

/-! `State.modPort` -/
@[simp] theorem State.modPort_pending (s : State) (n : Nat) (g : Port → Port) : (s.modPort n g).pending = s.pending := rfl
@[simp] theorem State.modPort_clock (s : State) (n : Nat) (g : Port → Port) : (s.modPort n g).clock = s.clock := rfl
@[simp] theorem State.modPort_free (s : State) (n : Nat) (g : Port → Port) : (s.modPort n g).free = s.free := rfl
@[simp] theorem State.modPort_fuses (s : State) (n : Nat) (g : Port → Port) : (s.modPort n g).fuses = s.fuses := rfl
@[simp] theorem State.modPort_regs (s : State) (n : Nat) (g : Port → Port) : (s.modPort n g).regs = s.regs := rfl
@[simp] theorem State.modPort_analog (s : State) (n : Nat) (g : Port → Port) : (s.modPort n g).analog = s.analog := rfl
@[simp] theorem State.modPort_reel (s : State) (n : Nat) (g : Port → Port) : (s.modPort n g).reel = s.reel := rfl
@[simp] theorem State.modPort_host (s : State) (n : Nat) (g : Port → Port) : (s.modPort n g).host = s.host := rfl
@[simp] theorem State.modPort_fru (s : State) (n : Nat) (g : Port → Port) : (s.modPort n g).fru = s.fru := rfl
@[simp] theorem State.modPort_cmds (s : State) (n : Nat) (g : Port → Port) : (s.modPort n g).cmds = s.cmds := rfl
@[simp] theorem State.modPort_recs (s : State) (n : Nat) (g : Port → Port) : (s.modPort n g).recs = s.recs := rfl
@[simp] theorem State.modPort_fences (s : State) (n : Nat) (g : Port → Port) : (s.modPort n g).fences = s.fences := rfl
@[simp] theorem State.modPort_queues (s : State) (n : Nat) (g : Port → Port) : (s.modPort n g).queues = s.queues := rfl
@[simp] theorem State.modPort_parts (s : State) (n : Nat) (g : Port → Port) : (s.modPort n g).parts = s.parts := rfl
@[simp] theorem State.modPort_cores (s : State) (n : Nat) (g : Port → Port) : (s.modPort n g).cores = s.cores := rfl
@[simp] theorem State.modPort_carrier (s : State) (n : Nat) (g : Port → Port) : (s.modPort n g).carrier = s.carrier := rfl
@[simp] theorem State.modPort_links (s : State) (n : Nat) (g : Port → Port) : (s.modPort n g).links = s.links := rfl
@[simp] theorem State.modPort_lasers (s : State) (n : Nat) (g : Port → Port) : (s.modPort n g).lasers = s.lasers := rfl
@[simp] theorem State.modPort_power (s : State) (n : Nat) (g : Port → Port) : (s.modPort n g).power = s.power := rfl
@[simp] theorem State.modPort_mode (s : State) (n : Nat) (g : Port → Port) : (s.modPort n g).mode = s.mode := rfl
@[simp] theorem State.modPort_injects (s : State) (n : Nat) (g : Port → Port) : (s.modPort n g).injects = s.injects := rfl
@[simp] theorem State.modPort_bists (s : State) (n : Nat) (g : Port → Port) : (s.modPort n g).bists = s.bists := rfl
@[simp] theorem State.modPort_gondola (s : State) (n : Nat) (g : Port → Port) : (s.modPort n g).gondola = s.gondola := rfl
@[simp] theorem State.modPort_sec (s : State) (n : Nat) (g : Port → Port) : (s.modPort n g).sec = s.sec := rfl
@[simp] theorem State.modPort_book (s : State) (n : Nat) (g : Port → Port) : (s.modPort n g).book = s.book := rfl
@[simp] theorem State.modPort_msix (s : State) (n : Nat) (g : Port → Port) : (s.modPort n g).msix = s.msix := rfl
@[simp] theorem State.modPort_vfs (s : State) (n : Nat) (g : Port → Port) : (s.modPort n g).vfs = s.vfs := rfl
@[simp] theorem State.modPort_edge (s : State) (n : Nat) (g : Port → Port) : (s.modPort n g).edge = s.edge := rfl
@[simp] theorem State.modPort_rehearsal (s : State) (n : Nat) (g : Port → Port) : (s.modPort n g).rehearsal = s.rehearsal := rfl
@[simp] theorem State.modPort_fresh (s : State) (n : Nat) (g : Port → Port) : (s.modPort n g).fresh = s.fresh := rfl
@[simp] theorem State.modPort_out (s : State) (n : Nat) (g : Port → Port) : (s.modPort n g).out = s.out := rfl
@[simp] theorem State.modPort_get (s : State) (n : Nat) (g : Port → Port) (y : Field) (j : Nat) : (s.modPort n g).get y j = s.get y j := rfl
@[simp] theorem State.modPort_getA (s : State) (n : Nat) (g : Port → Port) (y : Field) (j : Nat) : (s.modPort n g).getA y j = s.getA y j := rfl
@[simp] theorem State.modPort_part (s : State) (n : Nat) (g : Port → Port) (j : Nat) : (s.modPort n g).part j = s.part j := rfl
@[simp] theorem State.modPort_core (s : State) (n : Nat) (g : Port → Port) (j : Nat) : (s.modPort n g).core j = s.core j := rfl
@[simp] theorem State.modPort_laser (s : State) (n : Nat) (g : Port → Port) (j : Nat) : (s.modPort n g).laser j = s.laser j := rfl
@[simp] theorem State.modPort_domain (s : State) (n : Nat) (g : Port → Port) (j : Nat) : (s.modPort n g).domain j = s.domain j := rfl
@[simp] theorem State.modPort_queueSt (s : State) (n : Nat) (g : Port → Port) (j : Nat) : (s.modPort n g).queueSt j = s.queueSt j := rfl
@[simp] theorem State.modPort_tracker (s : State) (n : Nat) (g : Port → Port) (j : Nat) : (s.modPort n g).tracker j = s.tracker j := rfl
@[simp] theorem State.modPort_link (s : State) (n : Nat) (g : Port → Port) (j : Nat) : (s.modPort n g).link j = s.link j := rfl
@[simp] theorem State.modPort_msixOf (s : State) (n : Nat) (g : Port → Port) (j : Nat) : (s.modPort n g).msixOf j = s.msixOf j := rfl

/-! `State.setLaser` -/
@[simp] theorem State.setLaser_pending (s : State) (e : Nat) (x : Laser) : (s.setLaser e x).pending = s.pending := rfl
@[simp] theorem State.setLaser_clock (s : State) (e : Nat) (x : Laser) : (s.setLaser e x).clock = s.clock := rfl
@[simp] theorem State.setLaser_free (s : State) (e : Nat) (x : Laser) : (s.setLaser e x).free = s.free := rfl
@[simp] theorem State.setLaser_fuses (s : State) (e : Nat) (x : Laser) : (s.setLaser e x).fuses = s.fuses := rfl
@[simp] theorem State.setLaser_regs (s : State) (e : Nat) (x : Laser) : (s.setLaser e x).regs = s.regs := rfl
@[simp] theorem State.setLaser_analog (s : State) (e : Nat) (x : Laser) : (s.setLaser e x).analog = s.analog := rfl
@[simp] theorem State.setLaser_reel (s : State) (e : Nat) (x : Laser) : (s.setLaser e x).reel = s.reel := rfl
@[simp] theorem State.setLaser_host (s : State) (e : Nat) (x : Laser) : (s.setLaser e x).host = s.host := rfl
@[simp] theorem State.setLaser_fru (s : State) (e : Nat) (x : Laser) : (s.setLaser e x).fru = s.fru := rfl
@[simp] theorem State.setLaser_cmds (s : State) (e : Nat) (x : Laser) : (s.setLaser e x).cmds = s.cmds := rfl
@[simp] theorem State.setLaser_recs (s : State) (e : Nat) (x : Laser) : (s.setLaser e x).recs = s.recs := rfl
@[simp] theorem State.setLaser_fences (s : State) (e : Nat) (x : Laser) : (s.setLaser e x).fences = s.fences := rfl
@[simp] theorem State.setLaser_queues (s : State) (e : Nat) (x : Laser) : (s.setLaser e x).queues = s.queues := rfl
@[simp] theorem State.setLaser_parts (s : State) (e : Nat) (x : Laser) : (s.setLaser e x).parts = s.parts := rfl
@[simp] theorem State.setLaser_cores (s : State) (e : Nat) (x : Laser) : (s.setLaser e x).cores = s.cores := rfl
@[simp] theorem State.setLaser_carrier (s : State) (e : Nat) (x : Laser) : (s.setLaser e x).carrier = s.carrier := rfl
@[simp] theorem State.setLaser_links (s : State) (e : Nat) (x : Laser) : (s.setLaser e x).links = s.links := rfl
@[simp] theorem State.setLaser_ports (s : State) (e : Nat) (x : Laser) : (s.setLaser e x).ports = s.ports := rfl
@[simp] theorem State.setLaser_power (s : State) (e : Nat) (x : Laser) : (s.setLaser e x).power = s.power := rfl
@[simp] theorem State.setLaser_mode (s : State) (e : Nat) (x : Laser) : (s.setLaser e x).mode = s.mode := rfl
@[simp] theorem State.setLaser_injects (s : State) (e : Nat) (x : Laser) : (s.setLaser e x).injects = s.injects := rfl
@[simp] theorem State.setLaser_bists (s : State) (e : Nat) (x : Laser) : (s.setLaser e x).bists = s.bists := rfl
@[simp] theorem State.setLaser_gondola (s : State) (e : Nat) (x : Laser) : (s.setLaser e x).gondola = s.gondola := rfl
@[simp] theorem State.setLaser_sec (s : State) (e : Nat) (x : Laser) : (s.setLaser e x).sec = s.sec := rfl
@[simp] theorem State.setLaser_book (s : State) (e : Nat) (x : Laser) : (s.setLaser e x).book = s.book := rfl
@[simp] theorem State.setLaser_msix (s : State) (e : Nat) (x : Laser) : (s.setLaser e x).msix = s.msix := rfl
@[simp] theorem State.setLaser_vfs (s : State) (e : Nat) (x : Laser) : (s.setLaser e x).vfs = s.vfs := rfl
@[simp] theorem State.setLaser_edge (s : State) (e : Nat) (x : Laser) : (s.setLaser e x).edge = s.edge := rfl
@[simp] theorem State.setLaser_rehearsal (s : State) (e : Nat) (x : Laser) : (s.setLaser e x).rehearsal = s.rehearsal := rfl
@[simp] theorem State.setLaser_fresh (s : State) (e : Nat) (x : Laser) : (s.setLaser e x).fresh = s.fresh := rfl
@[simp] theorem State.setLaser_out (s : State) (e : Nat) (x : Laser) : (s.setLaser e x).out = s.out := rfl
@[simp] theorem State.setLaser_get (s : State) (e : Nat) (x : Laser) (y : Field) (j : Nat) : (s.setLaser e x).get y j = s.get y j := rfl
@[simp] theorem State.setLaser_getA (s : State) (e : Nat) (x : Laser) (y : Field) (j : Nat) : (s.setLaser e x).getA y j = s.getA y j := rfl
@[simp] theorem State.setLaser_part (s : State) (e : Nat) (x : Laser) (j : Nat) : (s.setLaser e x).part j = s.part j := rfl
@[simp] theorem State.setLaser_core (s : State) (e : Nat) (x : Laser) (j : Nat) : (s.setLaser e x).core j = s.core j := rfl
@[simp] theorem State.setLaser_port (s : State) (e : Nat) (x : Laser) (j : Nat) : (s.setLaser e x).port j = s.port j := rfl
@[simp] theorem State.setLaser_domain (s : State) (e : Nat) (x : Laser) (j : Nat) : (s.setLaser e x).domain j = s.domain j := rfl
@[simp] theorem State.setLaser_queueSt (s : State) (e : Nat) (x : Laser) (j : Nat) : (s.setLaser e x).queueSt j = s.queueSt j := rfl
@[simp] theorem State.setLaser_tracker (s : State) (e : Nat) (x : Laser) (j : Nat) : (s.setLaser e x).tracker j = s.tracker j := rfl
@[simp] theorem State.setLaser_link (s : State) (e : Nat) (x : Laser) (j : Nat) : (s.setLaser e x).link j = s.link j := rfl
@[simp] theorem State.setLaser_msixOf (s : State) (e : Nat) (x : Laser) (j : Nat) : (s.setLaser e x).msixOf j = s.msixOf j := rfl

/-! `State.setDomain` -/
@[simp] theorem State.setDomain_pending (s : State) (d : Nat) (x : Domain) : (s.setDomain d x).pending = s.pending := rfl
@[simp] theorem State.setDomain_clock (s : State) (d : Nat) (x : Domain) : (s.setDomain d x).clock = s.clock := rfl
@[simp] theorem State.setDomain_free (s : State) (d : Nat) (x : Domain) : (s.setDomain d x).free = s.free := rfl
@[simp] theorem State.setDomain_fuses (s : State) (d : Nat) (x : Domain) : (s.setDomain d x).fuses = s.fuses := rfl
@[simp] theorem State.setDomain_regs (s : State) (d : Nat) (x : Domain) : (s.setDomain d x).regs = s.regs := rfl
@[simp] theorem State.setDomain_analog (s : State) (d : Nat) (x : Domain) : (s.setDomain d x).analog = s.analog := rfl
@[simp] theorem State.setDomain_reel (s : State) (d : Nat) (x : Domain) : (s.setDomain d x).reel = s.reel := rfl
@[simp] theorem State.setDomain_host (s : State) (d : Nat) (x : Domain) : (s.setDomain d x).host = s.host := rfl
@[simp] theorem State.setDomain_fru (s : State) (d : Nat) (x : Domain) : (s.setDomain d x).fru = s.fru := rfl
@[simp] theorem State.setDomain_cmds (s : State) (d : Nat) (x : Domain) : (s.setDomain d x).cmds = s.cmds := rfl
@[simp] theorem State.setDomain_recs (s : State) (d : Nat) (x : Domain) : (s.setDomain d x).recs = s.recs := rfl
@[simp] theorem State.setDomain_fences (s : State) (d : Nat) (x : Domain) : (s.setDomain d x).fences = s.fences := rfl
@[simp] theorem State.setDomain_queues (s : State) (d : Nat) (x : Domain) : (s.setDomain d x).queues = s.queues := rfl
@[simp] theorem State.setDomain_parts (s : State) (d : Nat) (x : Domain) : (s.setDomain d x).parts = s.parts := rfl
@[simp] theorem State.setDomain_cores (s : State) (d : Nat) (x : Domain) : (s.setDomain d x).cores = s.cores := rfl
@[simp] theorem State.setDomain_carrier (s : State) (d : Nat) (x : Domain) : (s.setDomain d x).carrier = s.carrier := rfl
@[simp] theorem State.setDomain_links (s : State) (d : Nat) (x : Domain) : (s.setDomain d x).links = s.links := rfl
@[simp] theorem State.setDomain_ports (s : State) (d : Nat) (x : Domain) : (s.setDomain d x).ports = s.ports := rfl
@[simp] theorem State.setDomain_lasers (s : State) (d : Nat) (x : Domain) : (s.setDomain d x).lasers = s.lasers := rfl
@[simp] theorem State.setDomain_mode (s : State) (d : Nat) (x : Domain) : (s.setDomain d x).mode = s.mode := rfl
@[simp] theorem State.setDomain_injects (s : State) (d : Nat) (x : Domain) : (s.setDomain d x).injects = s.injects := rfl
@[simp] theorem State.setDomain_bists (s : State) (d : Nat) (x : Domain) : (s.setDomain d x).bists = s.bists := rfl
@[simp] theorem State.setDomain_gondola (s : State) (d : Nat) (x : Domain) : (s.setDomain d x).gondola = s.gondola := rfl
@[simp] theorem State.setDomain_sec (s : State) (d : Nat) (x : Domain) : (s.setDomain d x).sec = s.sec := rfl
@[simp] theorem State.setDomain_book (s : State) (d : Nat) (x : Domain) : (s.setDomain d x).book = s.book := rfl
@[simp] theorem State.setDomain_msix (s : State) (d : Nat) (x : Domain) : (s.setDomain d x).msix = s.msix := rfl
@[simp] theorem State.setDomain_vfs (s : State) (d : Nat) (x : Domain) : (s.setDomain d x).vfs = s.vfs := rfl
@[simp] theorem State.setDomain_edge (s : State) (d : Nat) (x : Domain) : (s.setDomain d x).edge = s.edge := rfl
@[simp] theorem State.setDomain_rehearsal (s : State) (d : Nat) (x : Domain) : (s.setDomain d x).rehearsal = s.rehearsal := rfl
@[simp] theorem State.setDomain_fresh (s : State) (d : Nat) (x : Domain) : (s.setDomain d x).fresh = s.fresh := rfl
@[simp] theorem State.setDomain_out (s : State) (d : Nat) (x : Domain) : (s.setDomain d x).out = s.out := rfl
@[simp] theorem State.setDomain_get (s : State) (d : Nat) (x : Domain) (y : Field) (j : Nat) : (s.setDomain d x).get y j = s.get y j := rfl
@[simp] theorem State.setDomain_getA (s : State) (d : Nat) (x : Domain) (y : Field) (j : Nat) : (s.setDomain d x).getA y j = s.getA y j := rfl
@[simp] theorem State.setDomain_part (s : State) (d : Nat) (x : Domain) (j : Nat) : (s.setDomain d x).part j = s.part j := rfl
@[simp] theorem State.setDomain_core (s : State) (d : Nat) (x : Domain) (j : Nat) : (s.setDomain d x).core j = s.core j := rfl
@[simp] theorem State.setDomain_port (s : State) (d : Nat) (x : Domain) (j : Nat) : (s.setDomain d x).port j = s.port j := rfl
@[simp] theorem State.setDomain_laser (s : State) (d : Nat) (x : Domain) (j : Nat) : (s.setDomain d x).laser j = s.laser j := rfl
@[simp] theorem State.setDomain_queueSt (s : State) (d : Nat) (x : Domain) (j : Nat) : (s.setDomain d x).queueSt j = s.queueSt j := rfl
@[simp] theorem State.setDomain_tracker (s : State) (d : Nat) (x : Domain) (j : Nat) : (s.setDomain d x).tracker j = s.tracker j := rfl
@[simp] theorem State.setDomain_link (s : State) (d : Nat) (x : Domain) (j : Nat) : (s.setDomain d x).link j = s.link j := rfl
@[simp] theorem State.setDomain_msixOf (s : State) (d : Nat) (x : Domain) (j : Nat) : (s.setDomain d x).msixOf j = s.msixOf j := rfl

/-! `State.setQueue` -/
@[simp] theorem State.setQueue_pending (s : State) (q : Nat) (x : QueueSt) : (s.setQueue q x).pending = s.pending := rfl
@[simp] theorem State.setQueue_clock (s : State) (q : Nat) (x : QueueSt) : (s.setQueue q x).clock = s.clock := rfl
@[simp] theorem State.setQueue_free (s : State) (q : Nat) (x : QueueSt) : (s.setQueue q x).free = s.free := rfl
@[simp] theorem State.setQueue_fuses (s : State) (q : Nat) (x : QueueSt) : (s.setQueue q x).fuses = s.fuses := rfl
@[simp] theorem State.setQueue_regs (s : State) (q : Nat) (x : QueueSt) : (s.setQueue q x).regs = s.regs := rfl
@[simp] theorem State.setQueue_analog (s : State) (q : Nat) (x : QueueSt) : (s.setQueue q x).analog = s.analog := rfl
@[simp] theorem State.setQueue_reel (s : State) (q : Nat) (x : QueueSt) : (s.setQueue q x).reel = s.reel := rfl
@[simp] theorem State.setQueue_host (s : State) (q : Nat) (x : QueueSt) : (s.setQueue q x).host = s.host := rfl
@[simp] theorem State.setQueue_fru (s : State) (q : Nat) (x : QueueSt) : (s.setQueue q x).fru = s.fru := rfl
@[simp] theorem State.setQueue_cmds (s : State) (q : Nat) (x : QueueSt) : (s.setQueue q x).cmds = s.cmds := rfl
@[simp] theorem State.setQueue_recs (s : State) (q : Nat) (x : QueueSt) : (s.setQueue q x).recs = s.recs := rfl
@[simp] theorem State.setQueue_fences (s : State) (q : Nat) (x : QueueSt) : (s.setQueue q x).fences = s.fences := rfl
@[simp] theorem State.setQueue_parts (s : State) (q : Nat) (x : QueueSt) : (s.setQueue q x).parts = s.parts := rfl
@[simp] theorem State.setQueue_cores (s : State) (q : Nat) (x : QueueSt) : (s.setQueue q x).cores = s.cores := rfl
@[simp] theorem State.setQueue_carrier (s : State) (q : Nat) (x : QueueSt) : (s.setQueue q x).carrier = s.carrier := rfl
@[simp] theorem State.setQueue_links (s : State) (q : Nat) (x : QueueSt) : (s.setQueue q x).links = s.links := rfl
@[simp] theorem State.setQueue_ports (s : State) (q : Nat) (x : QueueSt) : (s.setQueue q x).ports = s.ports := rfl
@[simp] theorem State.setQueue_lasers (s : State) (q : Nat) (x : QueueSt) : (s.setQueue q x).lasers = s.lasers := rfl
@[simp] theorem State.setQueue_power (s : State) (q : Nat) (x : QueueSt) : (s.setQueue q x).power = s.power := rfl
@[simp] theorem State.setQueue_mode (s : State) (q : Nat) (x : QueueSt) : (s.setQueue q x).mode = s.mode := rfl
@[simp] theorem State.setQueue_injects (s : State) (q : Nat) (x : QueueSt) : (s.setQueue q x).injects = s.injects := rfl
@[simp] theorem State.setQueue_bists (s : State) (q : Nat) (x : QueueSt) : (s.setQueue q x).bists = s.bists := rfl
@[simp] theorem State.setQueue_gondola (s : State) (q : Nat) (x : QueueSt) : (s.setQueue q x).gondola = s.gondola := rfl
@[simp] theorem State.setQueue_sec (s : State) (q : Nat) (x : QueueSt) : (s.setQueue q x).sec = s.sec := rfl
@[simp] theorem State.setQueue_book (s : State) (q : Nat) (x : QueueSt) : (s.setQueue q x).book = s.book := rfl
@[simp] theorem State.setQueue_msix (s : State) (q : Nat) (x : QueueSt) : (s.setQueue q x).msix = s.msix := rfl
@[simp] theorem State.setQueue_vfs (s : State) (q : Nat) (x : QueueSt) : (s.setQueue q x).vfs = s.vfs := rfl
@[simp] theorem State.setQueue_edge (s : State) (q : Nat) (x : QueueSt) : (s.setQueue q x).edge = s.edge := rfl
@[simp] theorem State.setQueue_rehearsal (s : State) (q : Nat) (x : QueueSt) : (s.setQueue q x).rehearsal = s.rehearsal := rfl
@[simp] theorem State.setQueue_fresh (s : State) (q : Nat) (x : QueueSt) : (s.setQueue q x).fresh = s.fresh := rfl
@[simp] theorem State.setQueue_out (s : State) (q : Nat) (x : QueueSt) : (s.setQueue q x).out = s.out := rfl
@[simp] theorem State.setQueue_get (s : State) (q : Nat) (x : QueueSt) (y : Field) (j : Nat) : (s.setQueue q x).get y j = s.get y j := rfl
@[simp] theorem State.setQueue_getA (s : State) (q : Nat) (x : QueueSt) (y : Field) (j : Nat) : (s.setQueue q x).getA y j = s.getA y j := rfl
@[simp] theorem State.setQueue_part (s : State) (q : Nat) (x : QueueSt) (j : Nat) : (s.setQueue q x).part j = s.part j := rfl
@[simp] theorem State.setQueue_core (s : State) (q : Nat) (x : QueueSt) (j : Nat) : (s.setQueue q x).core j = s.core j := rfl
@[simp] theorem State.setQueue_port (s : State) (q : Nat) (x : QueueSt) (j : Nat) : (s.setQueue q x).port j = s.port j := rfl
@[simp] theorem State.setQueue_laser (s : State) (q : Nat) (x : QueueSt) (j : Nat) : (s.setQueue q x).laser j = s.laser j := rfl
@[simp] theorem State.setQueue_domain (s : State) (q : Nat) (x : QueueSt) (j : Nat) : (s.setQueue q x).domain j = s.domain j := rfl
@[simp] theorem State.setQueue_tracker (s : State) (q : Nat) (x : QueueSt) (j : Nat) : (s.setQueue q x).tracker j = s.tracker j := rfl
@[simp] theorem State.setQueue_link (s : State) (q : Nat) (x : QueueSt) (j : Nat) : (s.setQueue q x).link j = s.link j := rfl
@[simp] theorem State.setQueue_msixOf (s : State) (q : Nat) (x : QueueSt) (j : Nat) : (s.setQueue q x).msixOf j = s.msixOf j := rfl

/-! `State.setTracker` -/
@[simp] theorem State.setTracker_pending (s : State) (n : Nat) (x : Tracker) : (s.setTracker n x).pending = s.pending := rfl
@[simp] theorem State.setTracker_clock (s : State) (n : Nat) (x : Tracker) : (s.setTracker n x).clock = s.clock := rfl
@[simp] theorem State.setTracker_free (s : State) (n : Nat) (x : Tracker) : (s.setTracker n x).free = s.free := rfl
@[simp] theorem State.setTracker_fuses (s : State) (n : Nat) (x : Tracker) : (s.setTracker n x).fuses = s.fuses := rfl
@[simp] theorem State.setTracker_regs (s : State) (n : Nat) (x : Tracker) : (s.setTracker n x).regs = s.regs := rfl
@[simp] theorem State.setTracker_analog (s : State) (n : Nat) (x : Tracker) : (s.setTracker n x).analog = s.analog := rfl
@[simp] theorem State.setTracker_host (s : State) (n : Nat) (x : Tracker) : (s.setTracker n x).host = s.host := rfl
@[simp] theorem State.setTracker_fru (s : State) (n : Nat) (x : Tracker) : (s.setTracker n x).fru = s.fru := rfl
@[simp] theorem State.setTracker_cmds (s : State) (n : Nat) (x : Tracker) : (s.setTracker n x).cmds = s.cmds := rfl
@[simp] theorem State.setTracker_recs (s : State) (n : Nat) (x : Tracker) : (s.setTracker n x).recs = s.recs := rfl
@[simp] theorem State.setTracker_fences (s : State) (n : Nat) (x : Tracker) : (s.setTracker n x).fences = s.fences := rfl
@[simp] theorem State.setTracker_queues (s : State) (n : Nat) (x : Tracker) : (s.setTracker n x).queues = s.queues := rfl
@[simp] theorem State.setTracker_parts (s : State) (n : Nat) (x : Tracker) : (s.setTracker n x).parts = s.parts := rfl
@[simp] theorem State.setTracker_cores (s : State) (n : Nat) (x : Tracker) : (s.setTracker n x).cores = s.cores := rfl
@[simp] theorem State.setTracker_carrier (s : State) (n : Nat) (x : Tracker) : (s.setTracker n x).carrier = s.carrier := rfl
@[simp] theorem State.setTracker_links (s : State) (n : Nat) (x : Tracker) : (s.setTracker n x).links = s.links := rfl
@[simp] theorem State.setTracker_ports (s : State) (n : Nat) (x : Tracker) : (s.setTracker n x).ports = s.ports := rfl
@[simp] theorem State.setTracker_lasers (s : State) (n : Nat) (x : Tracker) : (s.setTracker n x).lasers = s.lasers := rfl
@[simp] theorem State.setTracker_power (s : State) (n : Nat) (x : Tracker) : (s.setTracker n x).power = s.power := rfl
@[simp] theorem State.setTracker_mode (s : State) (n : Nat) (x : Tracker) : (s.setTracker n x).mode = s.mode := rfl
@[simp] theorem State.setTracker_injects (s : State) (n : Nat) (x : Tracker) : (s.setTracker n x).injects = s.injects := rfl
@[simp] theorem State.setTracker_bists (s : State) (n : Nat) (x : Tracker) : (s.setTracker n x).bists = s.bists := rfl
@[simp] theorem State.setTracker_gondola (s : State) (n : Nat) (x : Tracker) : (s.setTracker n x).gondola = s.gondola := rfl
@[simp] theorem State.setTracker_sec (s : State) (n : Nat) (x : Tracker) : (s.setTracker n x).sec = s.sec := rfl
@[simp] theorem State.setTracker_book (s : State) (n : Nat) (x : Tracker) : (s.setTracker n x).book = s.book := rfl
@[simp] theorem State.setTracker_msix (s : State) (n : Nat) (x : Tracker) : (s.setTracker n x).msix = s.msix := rfl
@[simp] theorem State.setTracker_vfs (s : State) (n : Nat) (x : Tracker) : (s.setTracker n x).vfs = s.vfs := rfl
@[simp] theorem State.setTracker_edge (s : State) (n : Nat) (x : Tracker) : (s.setTracker n x).edge = s.edge := rfl
@[simp] theorem State.setTracker_rehearsal (s : State) (n : Nat) (x : Tracker) : (s.setTracker n x).rehearsal = s.rehearsal := rfl
@[simp] theorem State.setTracker_fresh (s : State) (n : Nat) (x : Tracker) : (s.setTracker n x).fresh = s.fresh := rfl
@[simp] theorem State.setTracker_out (s : State) (n : Nat) (x : Tracker) : (s.setTracker n x).out = s.out := rfl
@[simp] theorem State.setTracker_get (s : State) (n : Nat) (x : Tracker) (y : Field) (j : Nat) : (s.setTracker n x).get y j = s.get y j := rfl
@[simp] theorem State.setTracker_getA (s : State) (n : Nat) (x : Tracker) (y : Field) (j : Nat) : (s.setTracker n x).getA y j = s.getA y j := rfl
@[simp] theorem State.setTracker_part (s : State) (n : Nat) (x : Tracker) (j : Nat) : (s.setTracker n x).part j = s.part j := rfl
@[simp] theorem State.setTracker_core (s : State) (n : Nat) (x : Tracker) (j : Nat) : (s.setTracker n x).core j = s.core j := rfl
@[simp] theorem State.setTracker_port (s : State) (n : Nat) (x : Tracker) (j : Nat) : (s.setTracker n x).port j = s.port j := rfl
@[simp] theorem State.setTracker_laser (s : State) (n : Nat) (x : Tracker) (j : Nat) : (s.setTracker n x).laser j = s.laser j := rfl
@[simp] theorem State.setTracker_domain (s : State) (n : Nat) (x : Tracker) (j : Nat) : (s.setTracker n x).domain j = s.domain j := rfl
@[simp] theorem State.setTracker_queueSt (s : State) (n : Nat) (x : Tracker) (j : Nat) : (s.setTracker n x).queueSt j = s.queueSt j := rfl
@[simp] theorem State.setTracker_link (s : State) (n : Nat) (x : Tracker) (j : Nat) : (s.setTracker n x).link j = s.link j := rfl
@[simp] theorem State.setTracker_msixOf (s : State) (n : Nat) (x : Tracker) (j : Nat) : (s.setTracker n x).msixOf j = s.msixOf j := rfl

/-! `State.setLink` -/
@[simp] theorem State.setLink_pending (s : State) (n : Nat) (x : Link) : (s.setLink n x).pending = s.pending := rfl
@[simp] theorem State.setLink_clock (s : State) (n : Nat) (x : Link) : (s.setLink n x).clock = s.clock := rfl
@[simp] theorem State.setLink_free (s : State) (n : Nat) (x : Link) : (s.setLink n x).free = s.free := rfl
@[simp] theorem State.setLink_fuses (s : State) (n : Nat) (x : Link) : (s.setLink n x).fuses = s.fuses := rfl
@[simp] theorem State.setLink_regs (s : State) (n : Nat) (x : Link) : (s.setLink n x).regs = s.regs := rfl
@[simp] theorem State.setLink_analog (s : State) (n : Nat) (x : Link) : (s.setLink n x).analog = s.analog := rfl
@[simp] theorem State.setLink_reel (s : State) (n : Nat) (x : Link) : (s.setLink n x).reel = s.reel := rfl
@[simp] theorem State.setLink_host (s : State) (n : Nat) (x : Link) : (s.setLink n x).host = s.host := rfl
@[simp] theorem State.setLink_fru (s : State) (n : Nat) (x : Link) : (s.setLink n x).fru = s.fru := rfl
@[simp] theorem State.setLink_cmds (s : State) (n : Nat) (x : Link) : (s.setLink n x).cmds = s.cmds := rfl
@[simp] theorem State.setLink_recs (s : State) (n : Nat) (x : Link) : (s.setLink n x).recs = s.recs := rfl
@[simp] theorem State.setLink_fences (s : State) (n : Nat) (x : Link) : (s.setLink n x).fences = s.fences := rfl
@[simp] theorem State.setLink_queues (s : State) (n : Nat) (x : Link) : (s.setLink n x).queues = s.queues := rfl
@[simp] theorem State.setLink_parts (s : State) (n : Nat) (x : Link) : (s.setLink n x).parts = s.parts := rfl
@[simp] theorem State.setLink_cores (s : State) (n : Nat) (x : Link) : (s.setLink n x).cores = s.cores := rfl
@[simp] theorem State.setLink_carrier (s : State) (n : Nat) (x : Link) : (s.setLink n x).carrier = s.carrier := rfl
@[simp] theorem State.setLink_ports (s : State) (n : Nat) (x : Link) : (s.setLink n x).ports = s.ports := rfl
@[simp] theorem State.setLink_lasers (s : State) (n : Nat) (x : Link) : (s.setLink n x).lasers = s.lasers := rfl
@[simp] theorem State.setLink_power (s : State) (n : Nat) (x : Link) : (s.setLink n x).power = s.power := rfl
@[simp] theorem State.setLink_mode (s : State) (n : Nat) (x : Link) : (s.setLink n x).mode = s.mode := rfl
@[simp] theorem State.setLink_injects (s : State) (n : Nat) (x : Link) : (s.setLink n x).injects = s.injects := rfl
@[simp] theorem State.setLink_bists (s : State) (n : Nat) (x : Link) : (s.setLink n x).bists = s.bists := rfl
@[simp] theorem State.setLink_gondola (s : State) (n : Nat) (x : Link) : (s.setLink n x).gondola = s.gondola := rfl
@[simp] theorem State.setLink_sec (s : State) (n : Nat) (x : Link) : (s.setLink n x).sec = s.sec := rfl
@[simp] theorem State.setLink_book (s : State) (n : Nat) (x : Link) : (s.setLink n x).book = s.book := rfl
@[simp] theorem State.setLink_msix (s : State) (n : Nat) (x : Link) : (s.setLink n x).msix = s.msix := rfl
@[simp] theorem State.setLink_vfs (s : State) (n : Nat) (x : Link) : (s.setLink n x).vfs = s.vfs := rfl
@[simp] theorem State.setLink_edge (s : State) (n : Nat) (x : Link) : (s.setLink n x).edge = s.edge := rfl
@[simp] theorem State.setLink_rehearsal (s : State) (n : Nat) (x : Link) : (s.setLink n x).rehearsal = s.rehearsal := rfl
@[simp] theorem State.setLink_fresh (s : State) (n : Nat) (x : Link) : (s.setLink n x).fresh = s.fresh := rfl
@[simp] theorem State.setLink_out (s : State) (n : Nat) (x : Link) : (s.setLink n x).out = s.out := rfl
@[simp] theorem State.setLink_get (s : State) (n : Nat) (x : Link) (y : Field) (j : Nat) : (s.setLink n x).get y j = s.get y j := rfl
@[simp] theorem State.setLink_getA (s : State) (n : Nat) (x : Link) (y : Field) (j : Nat) : (s.setLink n x).getA y j = s.getA y j := rfl
@[simp] theorem State.setLink_part (s : State) (n : Nat) (x : Link) (j : Nat) : (s.setLink n x).part j = s.part j := rfl
@[simp] theorem State.setLink_core (s : State) (n : Nat) (x : Link) (j : Nat) : (s.setLink n x).core j = s.core j := rfl
@[simp] theorem State.setLink_port (s : State) (n : Nat) (x : Link) (j : Nat) : (s.setLink n x).port j = s.port j := rfl
@[simp] theorem State.setLink_laser (s : State) (n : Nat) (x : Link) (j : Nat) : (s.setLink n x).laser j = s.laser j := rfl
@[simp] theorem State.setLink_domain (s : State) (n : Nat) (x : Link) (j : Nat) : (s.setLink n x).domain j = s.domain j := rfl
@[simp] theorem State.setLink_queueSt (s : State) (n : Nat) (x : Link) (j : Nat) : (s.setLink n x).queueSt j = s.queueSt j := rfl
@[simp] theorem State.setLink_tracker (s : State) (n : Nat) (x : Link) (j : Nat) : (s.setLink n x).tracker j = s.tracker j := rfl
@[simp] theorem State.setLink_msixOf (s : State) (n : Nat) (x : Link) (j : Nat) : (s.setLink n x).msixOf j = s.msixOf j := rfl

/-! `State.setMsix` -/
@[simp] theorem State.setMsix_pending (s : State) (n : Nat) (x : Msix) : (s.setMsix n x).pending = s.pending := rfl
@[simp] theorem State.setMsix_clock (s : State) (n : Nat) (x : Msix) : (s.setMsix n x).clock = s.clock := rfl
@[simp] theorem State.setMsix_free (s : State) (n : Nat) (x : Msix) : (s.setMsix n x).free = s.free := rfl
@[simp] theorem State.setMsix_fuses (s : State) (n : Nat) (x : Msix) : (s.setMsix n x).fuses = s.fuses := rfl
@[simp] theorem State.setMsix_regs (s : State) (n : Nat) (x : Msix) : (s.setMsix n x).regs = s.regs := rfl
@[simp] theorem State.setMsix_analog (s : State) (n : Nat) (x : Msix) : (s.setMsix n x).analog = s.analog := rfl
@[simp] theorem State.setMsix_reel (s : State) (n : Nat) (x : Msix) : (s.setMsix n x).reel = s.reel := rfl
@[simp] theorem State.setMsix_host (s : State) (n : Nat) (x : Msix) : (s.setMsix n x).host = s.host := rfl
@[simp] theorem State.setMsix_fru (s : State) (n : Nat) (x : Msix) : (s.setMsix n x).fru = s.fru := rfl
@[simp] theorem State.setMsix_cmds (s : State) (n : Nat) (x : Msix) : (s.setMsix n x).cmds = s.cmds := rfl
@[simp] theorem State.setMsix_recs (s : State) (n : Nat) (x : Msix) : (s.setMsix n x).recs = s.recs := rfl
@[simp] theorem State.setMsix_fences (s : State) (n : Nat) (x : Msix) : (s.setMsix n x).fences = s.fences := rfl
@[simp] theorem State.setMsix_queues (s : State) (n : Nat) (x : Msix) : (s.setMsix n x).queues = s.queues := rfl
@[simp] theorem State.setMsix_parts (s : State) (n : Nat) (x : Msix) : (s.setMsix n x).parts = s.parts := rfl
@[simp] theorem State.setMsix_cores (s : State) (n : Nat) (x : Msix) : (s.setMsix n x).cores = s.cores := rfl
@[simp] theorem State.setMsix_carrier (s : State) (n : Nat) (x : Msix) : (s.setMsix n x).carrier = s.carrier := rfl
@[simp] theorem State.setMsix_links (s : State) (n : Nat) (x : Msix) : (s.setMsix n x).links = s.links := rfl
@[simp] theorem State.setMsix_ports (s : State) (n : Nat) (x : Msix) : (s.setMsix n x).ports = s.ports := rfl
@[simp] theorem State.setMsix_lasers (s : State) (n : Nat) (x : Msix) : (s.setMsix n x).lasers = s.lasers := rfl
@[simp] theorem State.setMsix_power (s : State) (n : Nat) (x : Msix) : (s.setMsix n x).power = s.power := rfl
@[simp] theorem State.setMsix_mode (s : State) (n : Nat) (x : Msix) : (s.setMsix n x).mode = s.mode := rfl
@[simp] theorem State.setMsix_injects (s : State) (n : Nat) (x : Msix) : (s.setMsix n x).injects = s.injects := rfl
@[simp] theorem State.setMsix_bists (s : State) (n : Nat) (x : Msix) : (s.setMsix n x).bists = s.bists := rfl
@[simp] theorem State.setMsix_gondola (s : State) (n : Nat) (x : Msix) : (s.setMsix n x).gondola = s.gondola := rfl
@[simp] theorem State.setMsix_sec (s : State) (n : Nat) (x : Msix) : (s.setMsix n x).sec = s.sec := rfl
@[simp] theorem State.setMsix_book (s : State) (n : Nat) (x : Msix) : (s.setMsix n x).book = s.book := rfl
@[simp] theorem State.setMsix_vfs (s : State) (n : Nat) (x : Msix) : (s.setMsix n x).vfs = s.vfs := rfl
@[simp] theorem State.setMsix_edge (s : State) (n : Nat) (x : Msix) : (s.setMsix n x).edge = s.edge := rfl
@[simp] theorem State.setMsix_rehearsal (s : State) (n : Nat) (x : Msix) : (s.setMsix n x).rehearsal = s.rehearsal := rfl
@[simp] theorem State.setMsix_fresh (s : State) (n : Nat) (x : Msix) : (s.setMsix n x).fresh = s.fresh := rfl
@[simp] theorem State.setMsix_out (s : State) (n : Nat) (x : Msix) : (s.setMsix n x).out = s.out := rfl
@[simp] theorem State.setMsix_get (s : State) (n : Nat) (x : Msix) (y : Field) (j : Nat) : (s.setMsix n x).get y j = s.get y j := rfl
@[simp] theorem State.setMsix_getA (s : State) (n : Nat) (x : Msix) (y : Field) (j : Nat) : (s.setMsix n x).getA y j = s.getA y j := rfl
@[simp] theorem State.setMsix_part (s : State) (n : Nat) (x : Msix) (j : Nat) : (s.setMsix n x).part j = s.part j := rfl
@[simp] theorem State.setMsix_core (s : State) (n : Nat) (x : Msix) (j : Nat) : (s.setMsix n x).core j = s.core j := rfl
@[simp] theorem State.setMsix_port (s : State) (n : Nat) (x : Msix) (j : Nat) : (s.setMsix n x).port j = s.port j := rfl
@[simp] theorem State.setMsix_laser (s : State) (n : Nat) (x : Msix) (j : Nat) : (s.setMsix n x).laser j = s.laser j := rfl
@[simp] theorem State.setMsix_domain (s : State) (n : Nat) (x : Msix) (j : Nat) : (s.setMsix n x).domain j = s.domain j := rfl
@[simp] theorem State.setMsix_queueSt (s : State) (n : Nat) (x : Msix) (j : Nat) : (s.setMsix n x).queueSt j = s.queueSt j := rfl
@[simp] theorem State.setMsix_tracker (s : State) (n : Nat) (x : Msix) (j : Nat) : (s.setMsix n x).tracker j = s.tracker j := rfl
@[simp] theorem State.setMsix_link (s : State) (n : Nat) (x : Msix) (j : Nat) : (s.setMsix n x).link j = s.link j := rfl

/-! `State.setCmd` -/
@[simp] theorem State.setCmd_pending (s : State) (c : Cmd) : (s.setCmd c).pending = s.pending := rfl
@[simp] theorem State.setCmd_clock (s : State) (c : Cmd) : (s.setCmd c).clock = s.clock := rfl
@[simp] theorem State.setCmd_free (s : State) (c : Cmd) : (s.setCmd c).free = s.free := rfl
@[simp] theorem State.setCmd_fuses (s : State) (c : Cmd) : (s.setCmd c).fuses = s.fuses := rfl
@[simp] theorem State.setCmd_regs (s : State) (c : Cmd) : (s.setCmd c).regs = s.regs := rfl
@[simp] theorem State.setCmd_analog (s : State) (c : Cmd) : (s.setCmd c).analog = s.analog := rfl
@[simp] theorem State.setCmd_reel (s : State) (c : Cmd) : (s.setCmd c).reel = s.reel := rfl
@[simp] theorem State.setCmd_host (s : State) (c : Cmd) : (s.setCmd c).host = s.host := rfl
@[simp] theorem State.setCmd_fru (s : State) (c : Cmd) : (s.setCmd c).fru = s.fru := rfl
@[simp] theorem State.setCmd_recs (s : State) (c : Cmd) : (s.setCmd c).recs = s.recs := rfl
@[simp] theorem State.setCmd_fences (s : State) (c : Cmd) : (s.setCmd c).fences = s.fences := rfl
@[simp] theorem State.setCmd_queues (s : State) (c : Cmd) : (s.setCmd c).queues = s.queues := rfl
@[simp] theorem State.setCmd_parts (s : State) (c : Cmd) : (s.setCmd c).parts = s.parts := rfl
@[simp] theorem State.setCmd_cores (s : State) (c : Cmd) : (s.setCmd c).cores = s.cores := rfl
@[simp] theorem State.setCmd_carrier (s : State) (c : Cmd) : (s.setCmd c).carrier = s.carrier := rfl
@[simp] theorem State.setCmd_links (s : State) (c : Cmd) : (s.setCmd c).links = s.links := rfl
@[simp] theorem State.setCmd_ports (s : State) (c : Cmd) : (s.setCmd c).ports = s.ports := rfl
@[simp] theorem State.setCmd_lasers (s : State) (c : Cmd) : (s.setCmd c).lasers = s.lasers := rfl
@[simp] theorem State.setCmd_power (s : State) (c : Cmd) : (s.setCmd c).power = s.power := rfl
@[simp] theorem State.setCmd_mode (s : State) (c : Cmd) : (s.setCmd c).mode = s.mode := rfl
@[simp] theorem State.setCmd_injects (s : State) (c : Cmd) : (s.setCmd c).injects = s.injects := rfl
@[simp] theorem State.setCmd_bists (s : State) (c : Cmd) : (s.setCmd c).bists = s.bists := rfl
@[simp] theorem State.setCmd_gondola (s : State) (c : Cmd) : (s.setCmd c).gondola = s.gondola := rfl
@[simp] theorem State.setCmd_sec (s : State) (c : Cmd) : (s.setCmd c).sec = s.sec := rfl
@[simp] theorem State.setCmd_book (s : State) (c : Cmd) : (s.setCmd c).book = s.book := rfl
@[simp] theorem State.setCmd_msix (s : State) (c : Cmd) : (s.setCmd c).msix = s.msix := rfl
@[simp] theorem State.setCmd_vfs (s : State) (c : Cmd) : (s.setCmd c).vfs = s.vfs := rfl
@[simp] theorem State.setCmd_edge (s : State) (c : Cmd) : (s.setCmd c).edge = s.edge := rfl
@[simp] theorem State.setCmd_rehearsal (s : State) (c : Cmd) : (s.setCmd c).rehearsal = s.rehearsal := rfl
@[simp] theorem State.setCmd_fresh (s : State) (c : Cmd) : (s.setCmd c).fresh = s.fresh := rfl
@[simp] theorem State.setCmd_out (s : State) (c : Cmd) : (s.setCmd c).out = s.out := rfl
@[simp] theorem State.setCmd_get (s : State) (c : Cmd) (y : Field) (j : Nat) : (s.setCmd c).get y j = s.get y j := rfl
@[simp] theorem State.setCmd_getA (s : State) (c : Cmd) (y : Field) (j : Nat) : (s.setCmd c).getA y j = s.getA y j := rfl
@[simp] theorem State.setCmd_part (s : State) (c : Cmd) (j : Nat) : (s.setCmd c).part j = s.part j := rfl
@[simp] theorem State.setCmd_core (s : State) (c : Cmd) (j : Nat) : (s.setCmd c).core j = s.core j := rfl
@[simp] theorem State.setCmd_port (s : State) (c : Cmd) (j : Nat) : (s.setCmd c).port j = s.port j := rfl
@[simp] theorem State.setCmd_laser (s : State) (c : Cmd) (j : Nat) : (s.setCmd c).laser j = s.laser j := rfl
@[simp] theorem State.setCmd_domain (s : State) (c : Cmd) (j : Nat) : (s.setCmd c).domain j = s.domain j := rfl
@[simp] theorem State.setCmd_queueSt (s : State) (c : Cmd) (j : Nat) : (s.setCmd c).queueSt j = s.queueSt j := rfl
@[simp] theorem State.setCmd_tracker (s : State) (c : Cmd) (j : Nat) : (s.setCmd c).tracker j = s.tracker j := rfl
@[simp] theorem State.setCmd_link (s : State) (c : Cmd) (j : Nat) : (s.setCmd c).link j = s.link j := rfl
@[simp] theorem State.setCmd_msixOf (s : State) (c : Cmd) (j : Nat) : (s.setCmd c).msixOf j = s.msixOf j := rfl

/-! `State.dropCmd` -/
@[simp] theorem State.dropCmd_pending (s : State) (c : Cmd) : (s.dropCmd c).pending = s.pending := rfl
@[simp] theorem State.dropCmd_clock (s : State) (c : Cmd) : (s.dropCmd c).clock = s.clock := rfl
@[simp] theorem State.dropCmd_free (s : State) (c : Cmd) : (s.dropCmd c).free = s.free := rfl
@[simp] theorem State.dropCmd_fuses (s : State) (c : Cmd) : (s.dropCmd c).fuses = s.fuses := rfl
@[simp] theorem State.dropCmd_regs (s : State) (c : Cmd) : (s.dropCmd c).regs = s.regs := rfl
@[simp] theorem State.dropCmd_analog (s : State) (c : Cmd) : (s.dropCmd c).analog = s.analog := rfl
@[simp] theorem State.dropCmd_reel (s : State) (c : Cmd) : (s.dropCmd c).reel = s.reel := rfl
@[simp] theorem State.dropCmd_host (s : State) (c : Cmd) : (s.dropCmd c).host = s.host := rfl
@[simp] theorem State.dropCmd_fru (s : State) (c : Cmd) : (s.dropCmd c).fru = s.fru := rfl
@[simp] theorem State.dropCmd_recs (s : State) (c : Cmd) : (s.dropCmd c).recs = s.recs := rfl
@[simp] theorem State.dropCmd_fences (s : State) (c : Cmd) : (s.dropCmd c).fences = s.fences := rfl
@[simp] theorem State.dropCmd_queues (s : State) (c : Cmd) : (s.dropCmd c).queues = s.queues := rfl
@[simp] theorem State.dropCmd_parts (s : State) (c : Cmd) : (s.dropCmd c).parts = s.parts := rfl
@[simp] theorem State.dropCmd_cores (s : State) (c : Cmd) : (s.dropCmd c).cores = s.cores := rfl
@[simp] theorem State.dropCmd_carrier (s : State) (c : Cmd) : (s.dropCmd c).carrier = s.carrier := rfl
@[simp] theorem State.dropCmd_links (s : State) (c : Cmd) : (s.dropCmd c).links = s.links := rfl
@[simp] theorem State.dropCmd_ports (s : State) (c : Cmd) : (s.dropCmd c).ports = s.ports := rfl
@[simp] theorem State.dropCmd_lasers (s : State) (c : Cmd) : (s.dropCmd c).lasers = s.lasers := rfl
@[simp] theorem State.dropCmd_power (s : State) (c : Cmd) : (s.dropCmd c).power = s.power := rfl
@[simp] theorem State.dropCmd_mode (s : State) (c : Cmd) : (s.dropCmd c).mode = s.mode := rfl
@[simp] theorem State.dropCmd_injects (s : State) (c : Cmd) : (s.dropCmd c).injects = s.injects := rfl
@[simp] theorem State.dropCmd_bists (s : State) (c : Cmd) : (s.dropCmd c).bists = s.bists := rfl
@[simp] theorem State.dropCmd_gondola (s : State) (c : Cmd) : (s.dropCmd c).gondola = s.gondola := rfl
@[simp] theorem State.dropCmd_sec (s : State) (c : Cmd) : (s.dropCmd c).sec = s.sec := rfl
@[simp] theorem State.dropCmd_book (s : State) (c : Cmd) : (s.dropCmd c).book = s.book := rfl
@[simp] theorem State.dropCmd_msix (s : State) (c : Cmd) : (s.dropCmd c).msix = s.msix := rfl
@[simp] theorem State.dropCmd_vfs (s : State) (c : Cmd) : (s.dropCmd c).vfs = s.vfs := rfl
@[simp] theorem State.dropCmd_edge (s : State) (c : Cmd) : (s.dropCmd c).edge = s.edge := rfl
@[simp] theorem State.dropCmd_rehearsal (s : State) (c : Cmd) : (s.dropCmd c).rehearsal = s.rehearsal := rfl
@[simp] theorem State.dropCmd_fresh (s : State) (c : Cmd) : (s.dropCmd c).fresh = s.fresh := rfl
@[simp] theorem State.dropCmd_out (s : State) (c : Cmd) : (s.dropCmd c).out = s.out := rfl
@[simp] theorem State.dropCmd_get (s : State) (c : Cmd) (y : Field) (j : Nat) : (s.dropCmd c).get y j = s.get y j := rfl
@[simp] theorem State.dropCmd_getA (s : State) (c : Cmd) (y : Field) (j : Nat) : (s.dropCmd c).getA y j = s.getA y j := rfl
@[simp] theorem State.dropCmd_part (s : State) (c : Cmd) (j : Nat) : (s.dropCmd c).part j = s.part j := rfl
@[simp] theorem State.dropCmd_core (s : State) (c : Cmd) (j : Nat) : (s.dropCmd c).core j = s.core j := rfl
@[simp] theorem State.dropCmd_port (s : State) (c : Cmd) (j : Nat) : (s.dropCmd c).port j = s.port j := rfl
@[simp] theorem State.dropCmd_laser (s : State) (c : Cmd) (j : Nat) : (s.dropCmd c).laser j = s.laser j := rfl
@[simp] theorem State.dropCmd_domain (s : State) (c : Cmd) (j : Nat) : (s.dropCmd c).domain j = s.domain j := rfl
@[simp] theorem State.dropCmd_queueSt (s : State) (c : Cmd) (j : Nat) : (s.dropCmd c).queueSt j = s.queueSt j := rfl
@[simp] theorem State.dropCmd_tracker (s : State) (c : Cmd) (j : Nat) : (s.dropCmd c).tracker j = s.tracker j := rfl
@[simp] theorem State.dropCmd_link (s : State) (c : Cmd) (j : Nat) : (s.dropCmd c).link j = s.link j := rfl
@[simp] theorem State.dropCmd_msixOf (s : State) (c : Cmd) (j : Nat) : (s.dropCmd c).msixOf j = s.msixOf j := rfl

/-! `State.mark` -/
@[simp] theorem State.mark_pending (s : State) (b : Bool) : (s.mark b).pending = s.pending := rfl
@[simp] theorem State.mark_clock (s : State) (b : Bool) : (s.mark b).clock = s.clock := rfl
@[simp] theorem State.mark_free (s : State) (b : Bool) : (s.mark b).free = s.free := rfl
@[simp] theorem State.mark_fuses (s : State) (b : Bool) : (s.mark b).fuses = s.fuses := rfl
@[simp] theorem State.mark_regs (s : State) (b : Bool) : (s.mark b).regs = s.regs := rfl
@[simp] theorem State.mark_analog (s : State) (b : Bool) : (s.mark b).analog = s.analog := rfl
@[simp] theorem State.mark_reel (s : State) (b : Bool) : (s.mark b).reel = s.reel := rfl
@[simp] theorem State.mark_host (s : State) (b : Bool) : (s.mark b).host = s.host := rfl
@[simp] theorem State.mark_fru (s : State) (b : Bool) : (s.mark b).fru = s.fru := rfl
@[simp] theorem State.mark_cmds (s : State) (b : Bool) : (s.mark b).cmds = s.cmds := rfl
@[simp] theorem State.mark_recs (s : State) (b : Bool) : (s.mark b).recs = s.recs := rfl
@[simp] theorem State.mark_fences (s : State) (b : Bool) : (s.mark b).fences = s.fences := rfl
@[simp] theorem State.mark_queues (s : State) (b : Bool) : (s.mark b).queues = s.queues := rfl
@[simp] theorem State.mark_parts (s : State) (b : Bool) : (s.mark b).parts = s.parts := rfl
@[simp] theorem State.mark_cores (s : State) (b : Bool) : (s.mark b).cores = s.cores := rfl
@[simp] theorem State.mark_carrier (s : State) (b : Bool) : (s.mark b).carrier = s.carrier := rfl
@[simp] theorem State.mark_links (s : State) (b : Bool) : (s.mark b).links = s.links := rfl
@[simp] theorem State.mark_ports (s : State) (b : Bool) : (s.mark b).ports = s.ports := rfl
@[simp] theorem State.mark_lasers (s : State) (b : Bool) : (s.mark b).lasers = s.lasers := rfl
@[simp] theorem State.mark_power (s : State) (b : Bool) : (s.mark b).power = s.power := rfl
@[simp] theorem State.mark_mode (s : State) (b : Bool) : (s.mark b).mode = s.mode := rfl
@[simp] theorem State.mark_injects (s : State) (b : Bool) : (s.mark b).injects = s.injects := rfl
@[simp] theorem State.mark_bists (s : State) (b : Bool) : (s.mark b).bists = s.bists := rfl
@[simp] theorem State.mark_gondola (s : State) (b : Bool) : (s.mark b).gondola = s.gondola := rfl
@[simp] theorem State.mark_sec (s : State) (b : Bool) : (s.mark b).sec = s.sec := rfl
@[simp] theorem State.mark_book (s : State) (b : Bool) : (s.mark b).book = s.book := rfl
@[simp] theorem State.mark_msix (s : State) (b : Bool) : (s.mark b).msix = s.msix := rfl
@[simp] theorem State.mark_vfs (s : State) (b : Bool) : (s.mark b).vfs = s.vfs := rfl
@[simp] theorem State.mark_edge (s : State) (b : Bool) : (s.mark b).edge = s.edge := rfl
@[simp] theorem State.mark_out (s : State) (b : Bool) : (s.mark b).out = s.out := rfl
@[simp] theorem State.mark_get (s : State) (b : Bool) (y : Field) (j : Nat) : (s.mark b).get y j = s.get y j := rfl
@[simp] theorem State.mark_getA (s : State) (b : Bool) (y : Field) (j : Nat) : (s.mark b).getA y j = s.getA y j := rfl
@[simp] theorem State.mark_part (s : State) (b : Bool) (j : Nat) : (s.mark b).part j = s.part j := rfl
@[simp] theorem State.mark_core (s : State) (b : Bool) (j : Nat) : (s.mark b).core j = s.core j := rfl
@[simp] theorem State.mark_port (s : State) (b : Bool) (j : Nat) : (s.mark b).port j = s.port j := rfl
@[simp] theorem State.mark_laser (s : State) (b : Bool) (j : Nat) : (s.mark b).laser j = s.laser j := rfl
@[simp] theorem State.mark_domain (s : State) (b : Bool) (j : Nat) : (s.mark b).domain j = s.domain j := rfl
@[simp] theorem State.mark_queueSt (s : State) (b : Bool) (j : Nat) : (s.mark b).queueSt j = s.queueSt j := rfl
@[simp] theorem State.mark_tracker (s : State) (b : Bool) (j : Nat) : (s.mark b).tracker j = s.tracker j := rfl
@[simp] theorem State.mark_link (s : State) (b : Bool) (j : Nat) : (s.mark b).link j = s.link j := rfl
@[simp] theorem State.mark_msixOf (s : State) (b : Bool) (j : Nat) : (s.mark b).msixOf j = s.msixOf j := rfl

/-! `State.done` -/
@[simp] theorem State.done_pending (s : State) (c : Cmd) (t st d : Nat) : (s.done c t st d).pending = s.pending := rfl
@[simp] theorem State.done_clock (s : State) (c : Cmd) (t st d : Nat) : (s.done c t st d).clock = s.clock := rfl
@[simp] theorem State.done_free (s : State) (c : Cmd) (t st d : Nat) : (s.done c t st d).free = s.free := rfl
@[simp] theorem State.done_fuses (s : State) (c : Cmd) (t st d : Nat) : (s.done c t st d).fuses = s.fuses := rfl
@[simp] theorem State.done_regs (s : State) (c : Cmd) (t st d : Nat) : (s.done c t st d).regs = s.regs := rfl
@[simp] theorem State.done_analog (s : State) (c : Cmd) (t st d : Nat) : (s.done c t st d).analog = s.analog := rfl
@[simp] theorem State.done_reel (s : State) (c : Cmd) (t st d : Nat) : (s.done c t st d).reel = s.reel := rfl
@[simp] theorem State.done_host (s : State) (c : Cmd) (t st d : Nat) : (s.done c t st d).host = s.host := rfl
@[simp] theorem State.done_fru (s : State) (c : Cmd) (t st d : Nat) : (s.done c t st d).fru = s.fru := rfl
@[simp] theorem State.done_recs (s : State) (c : Cmd) (t st d : Nat) : (s.done c t st d).recs = s.recs := rfl
@[simp] theorem State.done_fences (s : State) (c : Cmd) (t st d : Nat) : (s.done c t st d).fences = s.fences := rfl
@[simp] theorem State.done_queues (s : State) (c : Cmd) (t st d : Nat) : (s.done c t st d).queues = s.queues := rfl
@[simp] theorem State.done_parts (s : State) (c : Cmd) (t st d : Nat) : (s.done c t st d).parts = s.parts := rfl
@[simp] theorem State.done_cores (s : State) (c : Cmd) (t st d : Nat) : (s.done c t st d).cores = s.cores := rfl
@[simp] theorem State.done_carrier (s : State) (c : Cmd) (t st d : Nat) : (s.done c t st d).carrier = s.carrier := rfl
@[simp] theorem State.done_links (s : State) (c : Cmd) (t st d : Nat) : (s.done c t st d).links = s.links := rfl
@[simp] theorem State.done_ports (s : State) (c : Cmd) (t st d : Nat) : (s.done c t st d).ports = s.ports := rfl
@[simp] theorem State.done_lasers (s : State) (c : Cmd) (t st d : Nat) : (s.done c t st d).lasers = s.lasers := rfl
@[simp] theorem State.done_power (s : State) (c : Cmd) (t st d : Nat) : (s.done c t st d).power = s.power := rfl
@[simp] theorem State.done_mode (s : State) (c : Cmd) (t st d : Nat) : (s.done c t st d).mode = s.mode := rfl
@[simp] theorem State.done_injects (s : State) (c : Cmd) (t st d : Nat) : (s.done c t st d).injects = s.injects := rfl
@[simp] theorem State.done_bists (s : State) (c : Cmd) (t st d : Nat) : (s.done c t st d).bists = s.bists := rfl
@[simp] theorem State.done_gondola (s : State) (c : Cmd) (t st d : Nat) : (s.done c t st d).gondola = s.gondola := rfl
@[simp] theorem State.done_sec (s : State) (c : Cmd) (t st d : Nat) : (s.done c t st d).sec = s.sec := rfl
@[simp] theorem State.done_book (s : State) (c : Cmd) (t st d : Nat) : (s.done c t st d).book = s.book := rfl
@[simp] theorem State.done_msix (s : State) (c : Cmd) (t st d : Nat) : (s.done c t st d).msix = s.msix := rfl
@[simp] theorem State.done_vfs (s : State) (c : Cmd) (t st d : Nat) : (s.done c t st d).vfs = s.vfs := rfl
@[simp] theorem State.done_edge (s : State) (c : Cmd) (t st d : Nat) : (s.done c t st d).edge = s.edge := rfl
@[simp] theorem State.done_out (s : State) (c : Cmd) (t st d : Nat) : (s.done c t st d).out = s.out := rfl
@[simp] theorem State.done_get (s : State) (c : Cmd) (t st d : Nat) (y : Field) (j : Nat) : (s.done c t st d).get y j = s.get y j := rfl
@[simp] theorem State.done_getA (s : State) (c : Cmd) (t st d : Nat) (y : Field) (j : Nat) : (s.done c t st d).getA y j = s.getA y j := rfl
@[simp] theorem State.done_part (s : State) (c : Cmd) (t st d : Nat) (j : Nat) : (s.done c t st d).part j = s.part j := rfl
@[simp] theorem State.done_core (s : State) (c : Cmd) (t st d : Nat) (j : Nat) : (s.done c t st d).core j = s.core j := rfl
@[simp] theorem State.done_port (s : State) (c : Cmd) (t st d : Nat) (j : Nat) : (s.done c t st d).port j = s.port j := rfl
@[simp] theorem State.done_laser (s : State) (c : Cmd) (t st d : Nat) (j : Nat) : (s.done c t st d).laser j = s.laser j := rfl
@[simp] theorem State.done_domain (s : State) (c : Cmd) (t st d : Nat) (j : Nat) : (s.done c t st d).domain j = s.domain j := rfl
@[simp] theorem State.done_queueSt (s : State) (c : Cmd) (t st d : Nat) (j : Nat) : (s.done c t st d).queueSt j = s.queueSt j := rfl
@[simp] theorem State.done_tracker (s : State) (c : Cmd) (t st d : Nat) (j : Nat) : (s.done c t st d).tracker j = s.tracker j := rfl
@[simp] theorem State.done_link (s : State) (c : Cmd) (t st d : Nat) (j : Nat) : (s.done c t st d).link j = s.link j := rfl
@[simp] theorem State.done_msixOf (s : State) (c : Cmd) (t st d : Nat) (j : Nat) : (s.done c t st d).msixOf j = s.msixOf j := rfl

/-! `State.send` -/
@[simp] theorem State.send_pending (s : State) (o : Out) : (s.send o).pending = s.pending := rfl
@[simp] theorem State.send_clock (s : State) (o : Out) : (s.send o).clock = s.clock := rfl
@[simp] theorem State.send_free (s : State) (o : Out) : (s.send o).free = s.free := rfl
@[simp] theorem State.send_fuses (s : State) (o : Out) : (s.send o).fuses = s.fuses := rfl
@[simp] theorem State.send_regs (s : State) (o : Out) : (s.send o).regs = s.regs := rfl
@[simp] theorem State.send_analog (s : State) (o : Out) : (s.send o).analog = s.analog := rfl
@[simp] theorem State.send_reel (s : State) (o : Out) : (s.send o).reel = s.reel := rfl
@[simp] theorem State.send_host (s : State) (o : Out) : (s.send o).host = s.host := rfl
@[simp] theorem State.send_fru (s : State) (o : Out) : (s.send o).fru = s.fru := rfl
@[simp] theorem State.send_cmds (s : State) (o : Out) : (s.send o).cmds = s.cmds := rfl
@[simp] theorem State.send_recs (s : State) (o : Out) : (s.send o).recs = s.recs := rfl
@[simp] theorem State.send_fences (s : State) (o : Out) : (s.send o).fences = s.fences := rfl
@[simp] theorem State.send_queues (s : State) (o : Out) : (s.send o).queues = s.queues := rfl
@[simp] theorem State.send_parts (s : State) (o : Out) : (s.send o).parts = s.parts := rfl
@[simp] theorem State.send_cores (s : State) (o : Out) : (s.send o).cores = s.cores := rfl
@[simp] theorem State.send_carrier (s : State) (o : Out) : (s.send o).carrier = s.carrier := rfl
@[simp] theorem State.send_links (s : State) (o : Out) : (s.send o).links = s.links := rfl
@[simp] theorem State.send_ports (s : State) (o : Out) : (s.send o).ports = s.ports := rfl
@[simp] theorem State.send_lasers (s : State) (o : Out) : (s.send o).lasers = s.lasers := rfl
@[simp] theorem State.send_power (s : State) (o : Out) : (s.send o).power = s.power := rfl
@[simp] theorem State.send_mode (s : State) (o : Out) : (s.send o).mode = s.mode := rfl
@[simp] theorem State.send_injects (s : State) (o : Out) : (s.send o).injects = s.injects := rfl
@[simp] theorem State.send_bists (s : State) (o : Out) : (s.send o).bists = s.bists := rfl
@[simp] theorem State.send_gondola (s : State) (o : Out) : (s.send o).gondola = s.gondola := rfl
@[simp] theorem State.send_sec (s : State) (o : Out) : (s.send o).sec = s.sec := rfl
@[simp] theorem State.send_book (s : State) (o : Out) : (s.send o).book = s.book := rfl
@[simp] theorem State.send_msix (s : State) (o : Out) : (s.send o).msix = s.msix := rfl
@[simp] theorem State.send_vfs (s : State) (o : Out) : (s.send o).vfs = s.vfs := rfl
@[simp] theorem State.send_edge (s : State) (o : Out) : (s.send o).edge = s.edge := rfl
@[simp] theorem State.send_rehearsal (s : State) (o : Out) : (s.send o).rehearsal = s.rehearsal := rfl
@[simp] theorem State.send_fresh (s : State) (o : Out) : (s.send o).fresh = s.fresh := rfl
@[simp] theorem State.send_get (s : State) (o : Out) (y : Field) (j : Nat) : (s.send o).get y j = s.get y j := rfl
@[simp] theorem State.send_getA (s : State) (o : Out) (y : Field) (j : Nat) : (s.send o).getA y j = s.getA y j := rfl
@[simp] theorem State.send_part (s : State) (o : Out) (j : Nat) : (s.send o).part j = s.part j := rfl
@[simp] theorem State.send_core (s : State) (o : Out) (j : Nat) : (s.send o).core j = s.core j := rfl
@[simp] theorem State.send_port (s : State) (o : Out) (j : Nat) : (s.send o).port j = s.port j := rfl
@[simp] theorem State.send_laser (s : State) (o : Out) (j : Nat) : (s.send o).laser j = s.laser j := rfl
@[simp] theorem State.send_domain (s : State) (o : Out) (j : Nat) : (s.send o).domain j = s.domain j := rfl
@[simp] theorem State.send_queueSt (s : State) (o : Out) (j : Nat) : (s.send o).queueSt j = s.queueSt j := rfl
@[simp] theorem State.send_tracker (s : State) (o : Out) (j : Nat) : (s.send o).tracker j = s.tracker j := rfl
@[simp] theorem State.send_link (s : State) (o : Out) (j : Nat) : (s.send o).link j = s.link j := rfl
@[simp] theorem State.send_msixOf (s : State) (o : Out) (j : Nat) : (s.send o).msixOf j = s.msixOf j := rfl

/-! `State.atNextEdge` -/
@[simp] theorem State.atNextEdge_pending (s : State) (r : EdgeReq) : (s.atNextEdge r).pending = s.pending := rfl
@[simp] theorem State.atNextEdge_clock (s : State) (r : EdgeReq) : (s.atNextEdge r).clock = s.clock := rfl
@[simp] theorem State.atNextEdge_free (s : State) (r : EdgeReq) : (s.atNextEdge r).free = s.free := rfl
@[simp] theorem State.atNextEdge_fuses (s : State) (r : EdgeReq) : (s.atNextEdge r).fuses = s.fuses := rfl
@[simp] theorem State.atNextEdge_regs (s : State) (r : EdgeReq) : (s.atNextEdge r).regs = s.regs := rfl
@[simp] theorem State.atNextEdge_analog (s : State) (r : EdgeReq) : (s.atNextEdge r).analog = s.analog := rfl
@[simp] theorem State.atNextEdge_reel (s : State) (r : EdgeReq) : (s.atNextEdge r).reel = s.reel := rfl
@[simp] theorem State.atNextEdge_host (s : State) (r : EdgeReq) : (s.atNextEdge r).host = s.host := rfl
@[simp] theorem State.atNextEdge_fru (s : State) (r : EdgeReq) : (s.atNextEdge r).fru = s.fru := rfl
@[simp] theorem State.atNextEdge_cmds (s : State) (r : EdgeReq) : (s.atNextEdge r).cmds = s.cmds := rfl
@[simp] theorem State.atNextEdge_recs (s : State) (r : EdgeReq) : (s.atNextEdge r).recs = s.recs := rfl
@[simp] theorem State.atNextEdge_fences (s : State) (r : EdgeReq) : (s.atNextEdge r).fences = s.fences := rfl
@[simp] theorem State.atNextEdge_queues (s : State) (r : EdgeReq) : (s.atNextEdge r).queues = s.queues := rfl
@[simp] theorem State.atNextEdge_parts (s : State) (r : EdgeReq) : (s.atNextEdge r).parts = s.parts := rfl
@[simp] theorem State.atNextEdge_cores (s : State) (r : EdgeReq) : (s.atNextEdge r).cores = s.cores := rfl
@[simp] theorem State.atNextEdge_carrier (s : State) (r : EdgeReq) : (s.atNextEdge r).carrier = s.carrier := rfl
@[simp] theorem State.atNextEdge_links (s : State) (r : EdgeReq) : (s.atNextEdge r).links = s.links := rfl
@[simp] theorem State.atNextEdge_ports (s : State) (r : EdgeReq) : (s.atNextEdge r).ports = s.ports := rfl
@[simp] theorem State.atNextEdge_lasers (s : State) (r : EdgeReq) : (s.atNextEdge r).lasers = s.lasers := rfl
@[simp] theorem State.atNextEdge_power (s : State) (r : EdgeReq) : (s.atNextEdge r).power = s.power := rfl
@[simp] theorem State.atNextEdge_mode (s : State) (r : EdgeReq) : (s.atNextEdge r).mode = s.mode := rfl
@[simp] theorem State.atNextEdge_injects (s : State) (r : EdgeReq) : (s.atNextEdge r).injects = s.injects := rfl
@[simp] theorem State.atNextEdge_bists (s : State) (r : EdgeReq) : (s.atNextEdge r).bists = s.bists := rfl
@[simp] theorem State.atNextEdge_gondola (s : State) (r : EdgeReq) : (s.atNextEdge r).gondola = s.gondola := rfl
@[simp] theorem State.atNextEdge_sec (s : State) (r : EdgeReq) : (s.atNextEdge r).sec = s.sec := rfl
@[simp] theorem State.atNextEdge_book (s : State) (r : EdgeReq) : (s.atNextEdge r).book = s.book := rfl
@[simp] theorem State.atNextEdge_msix (s : State) (r : EdgeReq) : (s.atNextEdge r).msix = s.msix := rfl
@[simp] theorem State.atNextEdge_vfs (s : State) (r : EdgeReq) : (s.atNextEdge r).vfs = s.vfs := rfl
@[simp] theorem State.atNextEdge_rehearsal (s : State) (r : EdgeReq) : (s.atNextEdge r).rehearsal = s.rehearsal := rfl
@[simp] theorem State.atNextEdge_fresh (s : State) (r : EdgeReq) : (s.atNextEdge r).fresh = s.fresh := rfl
@[simp] theorem State.atNextEdge_out (s : State) (r : EdgeReq) : (s.atNextEdge r).out = s.out := rfl
@[simp] theorem State.atNextEdge_get (s : State) (r : EdgeReq) (y : Field) (j : Nat) : (s.atNextEdge r).get y j = s.get y j := rfl
@[simp] theorem State.atNextEdge_getA (s : State) (r : EdgeReq) (y : Field) (j : Nat) : (s.atNextEdge r).getA y j = s.getA y j := rfl
@[simp] theorem State.atNextEdge_part (s : State) (r : EdgeReq) (j : Nat) : (s.atNextEdge r).part j = s.part j := rfl
@[simp] theorem State.atNextEdge_core (s : State) (r : EdgeReq) (j : Nat) : (s.atNextEdge r).core j = s.core j := rfl
@[simp] theorem State.atNextEdge_port (s : State) (r : EdgeReq) (j : Nat) : (s.atNextEdge r).port j = s.port j := rfl
@[simp] theorem State.atNextEdge_laser (s : State) (r : EdgeReq) (j : Nat) : (s.atNextEdge r).laser j = s.laser j := rfl
@[simp] theorem State.atNextEdge_domain (s : State) (r : EdgeReq) (j : Nat) : (s.atNextEdge r).domain j = s.domain j := rfl
@[simp] theorem State.atNextEdge_queueSt (s : State) (r : EdgeReq) (j : Nat) : (s.atNextEdge r).queueSt j = s.queueSt j := rfl
@[simp] theorem State.atNextEdge_tracker (s : State) (r : EdgeReq) (j : Nat) : (s.atNextEdge r).tracker j = s.tracker j := rfl
@[simp] theorem State.atNextEdge_link (s : State) (r : EdgeReq) (j : Nat) : (s.atNextEdge r).link j = s.link j := rfl
@[simp] theorem State.atNextEdge_msixOf (s : State) (r : EdgeReq) (j : Nat) : (s.atNextEdge r).msixOf j = s.msixOf j := rfl

/-! `State.hostWrite` -/
@[simp] theorem State.hostWrite_pending (s : State) (a : Nat) (bs : Bytes) : (s.hostWrite a bs).pending = s.pending := rfl
@[simp] theorem State.hostWrite_clock (s : State) (a : Nat) (bs : Bytes) : (s.hostWrite a bs).clock = s.clock := rfl
@[simp] theorem State.hostWrite_free (s : State) (a : Nat) (bs : Bytes) : (s.hostWrite a bs).free = s.free := rfl
@[simp] theorem State.hostWrite_fuses (s : State) (a : Nat) (bs : Bytes) : (s.hostWrite a bs).fuses = s.fuses := rfl
@[simp] theorem State.hostWrite_regs (s : State) (a : Nat) (bs : Bytes) : (s.hostWrite a bs).regs = s.regs := rfl
@[simp] theorem State.hostWrite_analog (s : State) (a : Nat) (bs : Bytes) : (s.hostWrite a bs).analog = s.analog := rfl
@[simp] theorem State.hostWrite_reel (s : State) (a : Nat) (bs : Bytes) : (s.hostWrite a bs).reel = s.reel := rfl
@[simp] theorem State.hostWrite_fru (s : State) (a : Nat) (bs : Bytes) : (s.hostWrite a bs).fru = s.fru := rfl
@[simp] theorem State.hostWrite_cmds (s : State) (a : Nat) (bs : Bytes) : (s.hostWrite a bs).cmds = s.cmds := rfl
@[simp] theorem State.hostWrite_recs (s : State) (a : Nat) (bs : Bytes) : (s.hostWrite a bs).recs = s.recs := rfl
@[simp] theorem State.hostWrite_fences (s : State) (a : Nat) (bs : Bytes) : (s.hostWrite a bs).fences = s.fences := rfl
@[simp] theorem State.hostWrite_queues (s : State) (a : Nat) (bs : Bytes) : (s.hostWrite a bs).queues = s.queues := rfl
@[simp] theorem State.hostWrite_parts (s : State) (a : Nat) (bs : Bytes) : (s.hostWrite a bs).parts = s.parts := rfl
@[simp] theorem State.hostWrite_cores (s : State) (a : Nat) (bs : Bytes) : (s.hostWrite a bs).cores = s.cores := rfl
@[simp] theorem State.hostWrite_carrier (s : State) (a : Nat) (bs : Bytes) : (s.hostWrite a bs).carrier = s.carrier := rfl
@[simp] theorem State.hostWrite_links (s : State) (a : Nat) (bs : Bytes) : (s.hostWrite a bs).links = s.links := rfl
@[simp] theorem State.hostWrite_ports (s : State) (a : Nat) (bs : Bytes) : (s.hostWrite a bs).ports = s.ports := rfl
@[simp] theorem State.hostWrite_lasers (s : State) (a : Nat) (bs : Bytes) : (s.hostWrite a bs).lasers = s.lasers := rfl
@[simp] theorem State.hostWrite_power (s : State) (a : Nat) (bs : Bytes) : (s.hostWrite a bs).power = s.power := rfl
@[simp] theorem State.hostWrite_mode (s : State) (a : Nat) (bs : Bytes) : (s.hostWrite a bs).mode = s.mode := rfl
@[simp] theorem State.hostWrite_injects (s : State) (a : Nat) (bs : Bytes) : (s.hostWrite a bs).injects = s.injects := rfl
@[simp] theorem State.hostWrite_bists (s : State) (a : Nat) (bs : Bytes) : (s.hostWrite a bs).bists = s.bists := rfl
@[simp] theorem State.hostWrite_gondola (s : State) (a : Nat) (bs : Bytes) : (s.hostWrite a bs).gondola = s.gondola := rfl
@[simp] theorem State.hostWrite_sec (s : State) (a : Nat) (bs : Bytes) : (s.hostWrite a bs).sec = s.sec := rfl
@[simp] theorem State.hostWrite_book (s : State) (a : Nat) (bs : Bytes) : (s.hostWrite a bs).book = s.book := rfl
@[simp] theorem State.hostWrite_msix (s : State) (a : Nat) (bs : Bytes) : (s.hostWrite a bs).msix = s.msix := rfl
@[simp] theorem State.hostWrite_vfs (s : State) (a : Nat) (bs : Bytes) : (s.hostWrite a bs).vfs = s.vfs := rfl
@[simp] theorem State.hostWrite_edge (s : State) (a : Nat) (bs : Bytes) : (s.hostWrite a bs).edge = s.edge := rfl
@[simp] theorem State.hostWrite_rehearsal (s : State) (a : Nat) (bs : Bytes) : (s.hostWrite a bs).rehearsal = s.rehearsal := rfl
@[simp] theorem State.hostWrite_fresh (s : State) (a : Nat) (bs : Bytes) : (s.hostWrite a bs).fresh = s.fresh := rfl
@[simp] theorem State.hostWrite_out (s : State) (a : Nat) (bs : Bytes) : (s.hostWrite a bs).out = s.out := rfl
@[simp] theorem State.hostWrite_get (s : State) (a : Nat) (bs : Bytes) (y : Field) (j : Nat) : (s.hostWrite a bs).get y j = s.get y j := rfl
@[simp] theorem State.hostWrite_getA (s : State) (a : Nat) (bs : Bytes) (y : Field) (j : Nat) : (s.hostWrite a bs).getA y j = s.getA y j := rfl
@[simp] theorem State.hostWrite_part (s : State) (a : Nat) (bs : Bytes) (j : Nat) : (s.hostWrite a bs).part j = s.part j := rfl
@[simp] theorem State.hostWrite_core (s : State) (a : Nat) (bs : Bytes) (j : Nat) : (s.hostWrite a bs).core j = s.core j := rfl
@[simp] theorem State.hostWrite_port (s : State) (a : Nat) (bs : Bytes) (j : Nat) : (s.hostWrite a bs).port j = s.port j := rfl
@[simp] theorem State.hostWrite_laser (s : State) (a : Nat) (bs : Bytes) (j : Nat) : (s.hostWrite a bs).laser j = s.laser j := rfl
@[simp] theorem State.hostWrite_domain (s : State) (a : Nat) (bs : Bytes) (j : Nat) : (s.hostWrite a bs).domain j = s.domain j := rfl
@[simp] theorem State.hostWrite_queueSt (s : State) (a : Nat) (bs : Bytes) (j : Nat) : (s.hostWrite a bs).queueSt j = s.queueSt j := rfl
@[simp] theorem State.hostWrite_tracker (s : State) (a : Nat) (bs : Bytes) (j : Nat) : (s.hostWrite a bs).tracker j = s.tracker j := rfl
@[simp] theorem State.hostWrite_link (s : State) (a : Nat) (bs : Bytes) (j : Nat) : (s.hostWrite a bs).link j = s.link j := rfl
@[simp] theorem State.hostWrite_msixOf (s : State) (a : Nat) (bs : Bytes) (j : Nat) : (s.hostWrite a bs).msixOf j = s.msixOf j := rfl

/-! `State.addUpds` -/
@[simp] theorem State.addUpds_pending (s : State) (us : List FenceUpd) : (s.addUpds us).pending = s.pending := rfl
@[simp] theorem State.addUpds_clock (s : State) (us : List FenceUpd) : (s.addUpds us).clock = s.clock := rfl
@[simp] theorem State.addUpds_free (s : State) (us : List FenceUpd) : (s.addUpds us).free = s.free := rfl
@[simp] theorem State.addUpds_fuses (s : State) (us : List FenceUpd) : (s.addUpds us).fuses = s.fuses := rfl
@[simp] theorem State.addUpds_regs (s : State) (us : List FenceUpd) : (s.addUpds us).regs = s.regs := rfl
@[simp] theorem State.addUpds_analog (s : State) (us : List FenceUpd) : (s.addUpds us).analog = s.analog := rfl
@[simp] theorem State.addUpds_reel (s : State) (us : List FenceUpd) : (s.addUpds us).reel = s.reel := rfl
@[simp] theorem State.addUpds_host (s : State) (us : List FenceUpd) : (s.addUpds us).host = s.host := rfl
@[simp] theorem State.addUpds_fru (s : State) (us : List FenceUpd) : (s.addUpds us).fru = s.fru := rfl
@[simp] theorem State.addUpds_cmds (s : State) (us : List FenceUpd) : (s.addUpds us).cmds = s.cmds := rfl
@[simp] theorem State.addUpds_recs (s : State) (us : List FenceUpd) : (s.addUpds us).recs = s.recs := rfl
@[simp] theorem State.addUpds_queues (s : State) (us : List FenceUpd) : (s.addUpds us).queues = s.queues := rfl
@[simp] theorem State.addUpds_parts (s : State) (us : List FenceUpd) : (s.addUpds us).parts = s.parts := rfl
@[simp] theorem State.addUpds_cores (s : State) (us : List FenceUpd) : (s.addUpds us).cores = s.cores := rfl
@[simp] theorem State.addUpds_carrier (s : State) (us : List FenceUpd) : (s.addUpds us).carrier = s.carrier := rfl
@[simp] theorem State.addUpds_links (s : State) (us : List FenceUpd) : (s.addUpds us).links = s.links := rfl
@[simp] theorem State.addUpds_ports (s : State) (us : List FenceUpd) : (s.addUpds us).ports = s.ports := rfl
@[simp] theorem State.addUpds_lasers (s : State) (us : List FenceUpd) : (s.addUpds us).lasers = s.lasers := rfl
@[simp] theorem State.addUpds_power (s : State) (us : List FenceUpd) : (s.addUpds us).power = s.power := rfl
@[simp] theorem State.addUpds_mode (s : State) (us : List FenceUpd) : (s.addUpds us).mode = s.mode := rfl
@[simp] theorem State.addUpds_injects (s : State) (us : List FenceUpd) : (s.addUpds us).injects = s.injects := rfl
@[simp] theorem State.addUpds_bists (s : State) (us : List FenceUpd) : (s.addUpds us).bists = s.bists := rfl
@[simp] theorem State.addUpds_gondola (s : State) (us : List FenceUpd) : (s.addUpds us).gondola = s.gondola := rfl
@[simp] theorem State.addUpds_sec (s : State) (us : List FenceUpd) : (s.addUpds us).sec = s.sec := rfl
@[simp] theorem State.addUpds_book (s : State) (us : List FenceUpd) : (s.addUpds us).book = s.book := rfl
@[simp] theorem State.addUpds_msix (s : State) (us : List FenceUpd) : (s.addUpds us).msix = s.msix := rfl
@[simp] theorem State.addUpds_vfs (s : State) (us : List FenceUpd) : (s.addUpds us).vfs = s.vfs := rfl
@[simp] theorem State.addUpds_edge (s : State) (us : List FenceUpd) : (s.addUpds us).edge = s.edge := rfl
@[simp] theorem State.addUpds_rehearsal (s : State) (us : List FenceUpd) : (s.addUpds us).rehearsal = s.rehearsal := rfl
@[simp] theorem State.addUpds_fresh (s : State) (us : List FenceUpd) : (s.addUpds us).fresh = s.fresh := rfl
@[simp] theorem State.addUpds_out (s : State) (us : List FenceUpd) : (s.addUpds us).out = s.out := rfl
@[simp] theorem State.addUpds_get (s : State) (us : List FenceUpd) (y : Field) (j : Nat) : (s.addUpds us).get y j = s.get y j := rfl
@[simp] theorem State.addUpds_getA (s : State) (us : List FenceUpd) (y : Field) (j : Nat) : (s.addUpds us).getA y j = s.getA y j := rfl
@[simp] theorem State.addUpds_part (s : State) (us : List FenceUpd) (j : Nat) : (s.addUpds us).part j = s.part j := rfl
@[simp] theorem State.addUpds_core (s : State) (us : List FenceUpd) (j : Nat) : (s.addUpds us).core j = s.core j := rfl
@[simp] theorem State.addUpds_port (s : State) (us : List FenceUpd) (j : Nat) : (s.addUpds us).port j = s.port j := rfl
@[simp] theorem State.addUpds_laser (s : State) (us : List FenceUpd) (j : Nat) : (s.addUpds us).laser j = s.laser j := rfl
@[simp] theorem State.addUpds_domain (s : State) (us : List FenceUpd) (j : Nat) : (s.addUpds us).domain j = s.domain j := rfl
@[simp] theorem State.addUpds_queueSt (s : State) (us : List FenceUpd) (j : Nat) : (s.addUpds us).queueSt j = s.queueSt j := rfl
@[simp] theorem State.addUpds_tracker (s : State) (us : List FenceUpd) (j : Nat) : (s.addUpds us).tracker j = s.tracker j := rfl
@[simp] theorem State.addUpds_link (s : State) (us : List FenceUpd) (j : Nat) : (s.addUpds us).link j = s.link j := rfl
@[simp] theorem State.addUpds_msixOf (s : State) (us : List FenceUpd) (j : Nat) : (s.addUpds us).msixOf j = s.msixOf j := rfl

/-! Reads after writes. -/

@[simp] theorem State.get_put (s : State) (f : Field) (i v : Nat) : (s.put f i v).get f i = v % 2 ^ f.width :=
  Tab.get_put_same _ _ _ _

/-- Writing a field leaves every other field alone. -/
theorem State.get_put_field (s : State) {f g : Field} (h : f.code ≠ g.code) (i j v : Nat) : (s.put g j v).get f i = s.get f i :=
  State.get_put_code s h i j v

/-- Writing one instance leaves the others alone. -/
theorem State.get_put_instance (s : State) (f : Field) {i j : Nat} (h : i % 65536 ≠ j % 65536) (v : Nat) :
    (s.put f j v).get f i = s.get f i := by
  refine Tab.get_put_other _ _ _ ?_
  unfold Field.key; omega

@[simp] theorem State.part_setPart (s : State) (p : Nat) (x : Part) : (s.setPart p x).part p = x := Tab.get_put_same _ _ _ _
@[simp] theorem State.part_modPart (s : State) (p : Nat) (g : Part → Part) : (s.modPart p g).part p = g (s.part p) := Tab.get_put_same _ _ _ _
@[simp] theorem State.part_modBind (s : State) (p : Nat) (g : PartBind → PartBind) :
    (s.modBind p g).part p = { s.part p with bind := g (s.part p).bind } := Tab.get_put_same _ _ _ _
@[simp] theorem State.part_modRun (s : State) (p : Nat) (g : PartRun → PartRun) :
    (s.modRun p g).part p = { s.part p with run := g (s.part p).run } := Tab.get_put_same _ _ _ _
@[simp] theorem State.part_modStrm (s : State) (p : Nat) (g : PartStream → PartStream) :
    (s.modStrm p g).part p = { s.part p with strm := g (s.part p).strm } := Tab.get_put_same _ _ _ _
theorem State.part_setPart_other (s : State) {p q : Nat} (x : Part) (h : q ≠ p) : (s.setPart p x).part q = s.part q :=
  Tab.get_put_other _ _ _ h
@[simp] theorem State.core_setCore (s : State) (n : Nat) (x : Core) : (s.setCore n x).core n = x := Tab.get_put_same _ _ _ _
@[simp] theorem State.core_modCore (s : State) (n : Nat) (g : Core → Core) : (s.modCore n g).core n = g (s.core n) := Tab.get_put_same _ _ _ _
theorem State.core_setCore_other (s : State) {p q : Nat} (x : Core) (h : q ≠ p) : (s.setCore p x).core q = s.core q :=
  Tab.get_put_other _ _ _ h
@[simp] theorem State.port_setPort (s : State) (n : Nat) (x : Port) : (s.setPort n x).port n = x := Tab.get_put_same _ _ _ _
@[simp] theorem State.port_modPort (s : State) (n : Nat) (g : Port → Port) : (s.modPort n g).port n = g (s.port n) := Tab.get_put_same _ _ _ _
theorem State.port_setPort_other (s : State) {p q : Nat} (x : Port) (h : q ≠ p) : (s.setPort p x).port q = s.port q :=
  Tab.get_put_other _ _ _ h
@[simp] theorem State.laser_setLaser (s : State) (n : Nat) (x : Laser) : (s.setLaser n x).laser n = x := Tab.get_put_same _ _ _ _
@[simp] theorem State.domain_setDomain (s : State) (n : Nat) (x : Domain) : (s.setDomain n x).domain n = x := Tab.get_put_same _ _ _ _
@[simp] theorem State.queueSt_setQueue (s : State) (n : Nat) (x : QueueSt) : (s.setQueue n x).queueSt n = x := Tab.get_put_same _ _ _ _
@[simp] theorem State.tracker_setTracker (s : State) (n : Nat) (x : Tracker) : (s.setTracker n x).tracker n = x := Tab.get_put_same _ _ _ _
@[simp] theorem State.link_setLink (s : State) (n : Nat) (x : Link) : (s.setLink n x).link n = x := Tab.get_put_same _ _ _ _
@[simp] theorem State.msixOf_setMsix (s : State) (n : Nat) (x : Msix) : (s.setMsix n x).msixOf n = x := Tab.get_put_same _ _ _ _

end Sys2Proof.Machine
end

