-- ==== Sys2Proof/Laws/Quiet.lean ====
section
/-! SUPPORT. What an event or an ignored access leaves alone: every part but the book, and every field but the three that count
what the book holds. -/

namespace Sys2Proof.Machine

@[simp] theorem State.event_pending (s : State) (c sub a : Nat) : (s.event c sub a).pending = s.pending := (State.event_frame).pending (by decide)
@[simp] theorem State.event_clock (s : State) (c sub a : Nat) : (s.event c sub a).clock = s.clock := (State.event_frame).clock (by decide)
@[simp] theorem State.event_free (s : State) (c sub a : Nat) : (s.event c sub a).free = s.free := (State.event_frame).free (by decide)
@[simp] theorem State.event_fuses (s : State) (c sub a : Nat) : (s.event c sub a).fuses = s.fuses := (State.event_frame).fuses (by decide)
@[simp] theorem State.event_reel (s : State) (c sub a : Nat) : (s.event c sub a).reel = s.reel := (State.event_frame).reel (by decide)
@[simp] theorem State.event_host (s : State) (c sub a : Nat) : (s.event c sub a).host = s.host := (State.event_frame).host (by decide)
@[simp] theorem State.event_fru (s : State) (c sub a : Nat) : (s.event c sub a).fru = s.fru := (State.event_frame).fru (by decide)
@[simp] theorem State.event_cmds (s : State) (c sub a : Nat) : (s.event c sub a).cmds = s.cmds := (State.event_frame).cmds (by decide)
@[simp] theorem State.event_recs (s : State) (c sub a : Nat) : (s.event c sub a).recs = s.recs := (State.event_frame).recs (by decide)
@[simp] theorem State.event_fences (s : State) (c sub a : Nat) : (s.event c sub a).fences = s.fences := (State.event_frame).fences (by decide)
@[simp] theorem State.event_queues (s : State) (c sub a : Nat) : (s.event c sub a).queues = s.queues := (State.event_frame).queues (by decide)
@[simp] theorem State.event_parts (s : State) (c sub a : Nat) : (s.event c sub a).parts = s.parts := (State.event_frame).parts (by decide)
@[simp] theorem State.event_cores (s : State) (c sub a : Nat) : (s.event c sub a).cores = s.cores := (State.event_frame).cores (by decide)
@[simp] theorem State.event_carrier (s : State) (c sub a : Nat) : (s.event c sub a).carrier = s.carrier := (State.event_frame).carrier (by decide)
@[simp] theorem State.event_links (s : State) (c sub a : Nat) : (s.event c sub a).links = s.links := (State.event_frame).links (by decide)
@[simp] theorem State.event_ports (s : State) (c sub a : Nat) : (s.event c sub a).ports = s.ports := (State.event_frame).ports (by decide)
@[simp] theorem State.event_lasers (s : State) (c sub a : Nat) : (s.event c sub a).lasers = s.lasers := (State.event_frame).lasers (by decide)
@[simp] theorem State.event_power (s : State) (c sub a : Nat) : (s.event c sub a).power = s.power := (State.event_frame).power (by decide)
@[simp] theorem State.event_mode (s : State) (c sub a : Nat) : (s.event c sub a).mode = s.mode := (State.event_frame).mode (by decide)
@[simp] theorem State.event_injects (s : State) (c sub a : Nat) : (s.event c sub a).injects = s.injects := (State.event_frame).injects (by decide)
@[simp] theorem State.event_bists (s : State) (c sub a : Nat) : (s.event c sub a).bists = s.bists := (State.event_frame).bists (by decide)
@[simp] theorem State.event_gondola (s : State) (c sub a : Nat) : (s.event c sub a).gondola = s.gondola := (State.event_frame).gondola (by decide)
@[simp] theorem State.event_sec (s : State) (c sub a : Nat) : (s.event c sub a).sec = s.sec := (State.event_frame).sec (by decide)
@[simp] theorem State.event_msix (s : State) (c sub a : Nat) : (s.event c sub a).msix = s.msix := (State.event_frame).msix (by decide)
@[simp] theorem State.event_vfs (s : State) (c sub a : Nat) : (s.event c sub a).vfs = s.vfs := (State.event_frame).vfs (by decide)
@[simp] theorem State.event_edge (s : State) (c sub a : Nat) : (s.event c sub a).edge = s.edge := (State.event_frame).edge (by decide)
@[simp] theorem State.event_rehearsal (s : State) (c sub a : Nat) : (s.event c sub a).rehearsal = s.rehearsal := (State.event_frame).rehearsal (by decide)
@[simp] theorem State.event_fresh (s : State) (c sub a : Nat) : (s.event c sub a).fresh = s.fresh := (State.event_frame).fresh (by decide)
@[simp] theorem State.event_out (s : State) (c sub a : Nat) : (s.event c sub a).out = s.out := (State.event_frame).out (by decide)

/-- A field that does not count what the book holds. -/
theorem State.get_event (s : State) (c sub a : Nat) {f : Field} (i : Nat) (h : f.code < 400)
    (k : Nat.testBit
      0x2000000000000000000000000000000000001c000000000000000000000000000000000000000000000000000000000000000000000 f.code = false) : (s.event c sub a).get f i = s.get f i :=
  (State.event_frame).reg f i h k

@[simp] theorem State.ignored_pending (s : State) (off : Nat) : (s.ignored off).pending = s.pending := State.event_pending _ _ _ _
@[simp] theorem State.ignored_clock (s : State) (off : Nat) : (s.ignored off).clock = s.clock := State.event_clock _ _ _ _
@[simp] theorem State.ignored_free (s : State) (off : Nat) : (s.ignored off).free = s.free := State.event_free _ _ _ _
@[simp] theorem State.ignored_fuses (s : State) (off : Nat) : (s.ignored off).fuses = s.fuses := State.event_fuses _ _ _ _
@[simp] theorem State.ignored_reel (s : State) (off : Nat) : (s.ignored off).reel = s.reel := State.event_reel _ _ _ _
@[simp] theorem State.ignored_host (s : State) (off : Nat) : (s.ignored off).host = s.host := State.event_host _ _ _ _
@[simp] theorem State.ignored_fru (s : State) (off : Nat) : (s.ignored off).fru = s.fru := State.event_fru _ _ _ _
@[simp] theorem State.ignored_cmds (s : State) (off : Nat) : (s.ignored off).cmds = s.cmds := State.event_cmds _ _ _ _
@[simp] theorem State.ignored_recs (s : State) (off : Nat) : (s.ignored off).recs = s.recs := State.event_recs _ _ _ _
@[simp] theorem State.ignored_fences (s : State) (off : Nat) : (s.ignored off).fences = s.fences := State.event_fences _ _ _ _
@[simp] theorem State.ignored_queues (s : State) (off : Nat) : (s.ignored off).queues = s.queues := State.event_queues _ _ _ _
@[simp] theorem State.ignored_parts (s : State) (off : Nat) : (s.ignored off).parts = s.parts := State.event_parts _ _ _ _
@[simp] theorem State.ignored_cores (s : State) (off : Nat) : (s.ignored off).cores = s.cores := State.event_cores _ _ _ _
@[simp] theorem State.ignored_carrier (s : State) (off : Nat) : (s.ignored off).carrier = s.carrier := State.event_carrier _ _ _ _
@[simp] theorem State.ignored_links (s : State) (off : Nat) : (s.ignored off).links = s.links := State.event_links _ _ _ _
@[simp] theorem State.ignored_ports (s : State) (off : Nat) : (s.ignored off).ports = s.ports := State.event_ports _ _ _ _
@[simp] theorem State.ignored_lasers (s : State) (off : Nat) : (s.ignored off).lasers = s.lasers := State.event_lasers _ _ _ _
@[simp] theorem State.ignored_power (s : State) (off : Nat) : (s.ignored off).power = s.power := State.event_power _ _ _ _
@[simp] theorem State.ignored_mode (s : State) (off : Nat) : (s.ignored off).mode = s.mode := State.event_mode _ _ _ _
@[simp] theorem State.ignored_injects (s : State) (off : Nat) : (s.ignored off).injects = s.injects := State.event_injects _ _ _ _
@[simp] theorem State.ignored_bists (s : State) (off : Nat) : (s.ignored off).bists = s.bists := State.event_bists _ _ _ _
@[simp] theorem State.ignored_gondola (s : State) (off : Nat) : (s.ignored off).gondola = s.gondola := State.event_gondola _ _ _ _
@[simp] theorem State.ignored_sec (s : State) (off : Nat) : (s.ignored off).sec = s.sec := State.event_sec _ _ _ _
@[simp] theorem State.ignored_msix (s : State) (off : Nat) : (s.ignored off).msix = s.msix := State.event_msix _ _ _ _
@[simp] theorem State.ignored_vfs (s : State) (off : Nat) : (s.ignored off).vfs = s.vfs := State.event_vfs _ _ _ _
@[simp] theorem State.ignored_edge (s : State) (off : Nat) : (s.ignored off).edge = s.edge := State.event_edge _ _ _ _
@[simp] theorem State.ignored_rehearsal (s : State) (off : Nat) : (s.ignored off).rehearsal = s.rehearsal := State.event_rehearsal _ _ _ _
@[simp] theorem State.ignored_fresh (s : State) (off : Nat) : (s.ignored off).fresh = s.fresh := State.event_fresh _ _ _ _
@[simp] theorem State.ignored_out (s : State) (off : Nat) : (s.ignored off).out = s.out := State.event_out _ _ _ _

end Sys2Proof.Machine
end

