-- ==== Sys2Proof/Tests/Slice0.lean ====
section
/-! SUPPORT. The model's own tests: each check of WellFormed refuses an ill-formed term; a few values worked out from the spec; and for
every statement with hypotheses a state and operands that meet them, clause by clause. -/

namespace Sys2Proof.Tests

set_option Elab.async false

open Sys2Proof Sys2Proof.Machine Sys2Proof.Safety

/-- A frame of one word, a short one: its check sum is soon computed. -/
def frame1 (cls type : Nat) : WslFrame := sealFrame ⟨[], 0, cls, true, 1, type, 0, 0, 0, List.replicate 64 0⟩

/-- A class 0 message. -/
def msg1 (type : Nat) : Msg := ⟨type, false, 0, 7, List.replicate 56 0⟩

/-! ### Well-formed commands -/

theorem test_wf_frame : Instr.wf (.wslFrame 0 (frame1 2 1)) = true ∧
    Instr.wf (.wslFrame 0 { frame1 2 1 with errors := [⟨8, 0, 0, 1⟩] }) = false ∧
    Instr.wf (.wslFrame 0 { frame1 2 1 with errors := [⟨0, 0, 17, 1⟩] }) = false ∧
    Instr.wf (.wslFrame 0 { frame1 2 1 with errors := [⟨0, 0, 0, 1024⟩] }) = false ∧
    Instr.wf (.wslFrame 0 { frame1 2 1 with crc := 2 ^ 32 }) = false ∧
    Instr.wf (.shardData 0 { frame1 2 1 with cls := 8 }) = false ∧
    Instr.wf (.collectivePiece 0 { frame1 3 0 with version := 16 }) = false ∧
    Instr.wf (.activationRows 0 { frame1 3 1 with type := 256 }) = false ∧
    Instr.wf (.bulkRows 0 { frame1 4 0 with dst := 2 ^ 32 }) = false ∧
    Instr.wf (.wslFrame 0 { frame1 2 1 with src := 2 ^ 32 }) = false ∧
    Instr.wf (.wslFrame 0 { frame1 2 1 with seq := 2 ^ 32 }) = false ∧
    Instr.wf (.wslFrame 0 { frame1 2 1 with payload := List.replicate 63 0 }) = false := by decide +kernel

theorem test_wf_frame_length : WslFrame.wf { frame1 2 1 with short := false, payload := List.replicate 5184 0 } = false ∧
    WslFrame.wf { frame1 2 1 with payload := List.replicate 576 0 } = false ∧
    WslFrame.wf { frame1 2 1 with short := false, payload := List.replicate 576 0 } = true := by decide +kernel

theorem test_wf_message : Instr.wf (.assign 0 (msg1 2)) = true ∧ Instr.wf (.assign 0 (msg1 256)) = false ∧
    Instr.wf (.ack 0 { msg1 3 with port := 64 }) = false ∧ Instr.wf (.laneFail 0 { msg1 4 with seq := 2 ^ 32 }) = false ∧
    Instr.wf (.laneSwitch 0 { msg1 5 with body := [] }) = false ∧ Instr.wf (.narrow 0 (msg1 6)) = true ∧
    Instr.wf (.retrainReq 0 { msg1 7 with body := [] }) = false := by decide

theorem test_wf_access : Instr.wf (.registerWrite .pf 8 8 (2 ^ 64 - 1)) = true ∧ Instr.wf (.registerWrite .pf 4 8 0) = false ∧
    Instr.wf (.registerWrite .pf 4 4 (2 ^ 32)) = false ∧ Instr.wf (.registerWrite .pf 0 2 0) = false ∧
    Instr.wf (.badAccess .pf 0 4 true) = false ∧ Instr.wf (.badAccess .pf 2 4 true) = true := by decide

theorem test_wf_host : Instr.wf (.doorbell .pf 16384 0 0 []) = false ∧ Instr.wf (.doorbell .pfMsix 0 0 0 []) = false ∧
    Instr.wf (.doorbell .pf 0 0 0 [(2 ^ 64, 0)]) = false ∧ Instr.wf (.fenceHostWrite .pf 32768 0) = false ∧
    Instr.wf (.fenceHostWrite .pfMsix 0 0) = false ∧ Instr.wf (.protectionChange (.queues 0 (2 ^ 14) 0)) = false ∧
    Instr.wf (.protectionChange (.queues 0 0 (2 ^ 13))) = false ∧ Instr.wf (.protectionChange (.fences 0 (2 ^ 15) 0)) = false ∧
    Instr.wf (.protectionChange (.fences 0 0 (2 ^ 15))) = false ∧ Instr.wf (.resourceWithdraw (.ports 0 (2 ^ 64))) = false ∧
    Instr.wf (.resourceWithdraw (.pages 0 0 (2 ^ 64))) = false ∧ Instr.wf (.progLoad 0 0 [(2 ^ 64, 0)]) = false ∧
    Instr.wf (.stage [(2 ^ 64, 0)]) = false ∧ Instr.wf (.settingsWrite [(2 ^ 64, 0)]) = false ∧
    Instr.wf (.openDebug [(2 ^ 64, 0)]) = false := by decide

theorem test_wf_rest : Instr.wf (.reelBeacon 0 true [] 0) = false ∧ Instr.wf (.laserInsert 0 (List.replicate 128 0) [] true [] 0) = false ∧
    Instr.wf (.inflationStage 0 65536) = false ∧ Instr.wf (.emergencyClockStep 0) = false ∧ Instr.wf (.emergencyClockStep 4) = false ∧
    Instr.wf (.brickInsert 0 [] true 0 0) = false ∧ Instr.wf (.bringUpRing [250]) = false ∧
    Instr.wf (.hostLinkChange 0 false true) = false ∧ Instr.wf (.challenge 0 []) = false ∧
    Instr.wf (.getMeasurements 256 (List.replicate 32 0)) = false ∧ Instr.wf (.getMeasurements 1 []) = false ∧
    Instr.wf (.ownerKeyInstall []) = false ∧ Instr.wf (.bistDone 0 8 0) = false ∧ Instr.wf (.bistDone 0 0 256) = false := by decide +kernel

/-! ### Values that the spec works out -/

/-- The example of R79: the accumulator holds -2^20, the products are 2^20 and 2^-30; the window of 48 bits drops the small one. -/
theorem test_r79_example : accumulate 0xC9800000 [.fin false 1 20, .fin false 1 (-30)] = 0 := by decide

/-- SHA-256 of nothing (FIPS 180-4). -/
theorem test_sha256_empty : (sha256 []).take 4 = [0xe3, 0xb0, 0xc4, 0x42] := by decide +kernel

/-- The example of R119: the banks of a column segment of word-column 5 in rows 64 to 127, lane by lane. -/
theorem test_r119_example : ((TmemAccess.column 5 1).words.map fun w => bankOf w.1 w.2) = (List.range 59).map (· + 5) ++ List.range 5 := by decide

/-- The check value of the CRC-32 of IEEE 802.3: that of the nine digits 1 to 9. -/
theorem test_crc32_digits : crc32 ((List.range 9).map fun i => BitVec.ofNat 8 (49 + i)) = 0xCBF43926 := by decide +kernel

/-! ### Witnesses: states and operands that meet the hypotheses of the statements -/

/-- After reset, with no field written. -/
def bare : State := { State.reset with regs := [] }

/-- A command of queue 0 that has begun in cycle 0. -/
def cmd1 (op : Nat) (part : Option Nat) (params : Bytes) : Cmd :=
  ⟨0, 0, part, 1, 0, natLE 2 op ++ [0, 8] ++ List.replicate 16 0 ++ natLE 4 0 ++ natLE 4 0xFFFFFFFF ++ params, 0, some 0, false, none,
    0, 0, 0, 0, 0, 0, false⟩

/-- A command with these bytes in its packet. -/
def cmdP (op : Nat) (part : Option Nat) (l : List (Nat × Byte)) : Cmd :=
  { cmd1 op part [] with bytes := l.foldl (fun b x => b.set x.1 x.2) (cmd1 op part (List.replicate 36 0)).bytes }

/-- A task of that queue, its anchor being frame 0. -/
def task1 : Task := ⟨1, 0, 0, 1, 2, 0, 1, 0, 0, false, [0], 2, some 0, 0, some 0, true, true⟩

/-- The state with only that command, fetched. -/
def with1 (c : Cmd) : State := { bare with cmds := [c] }

/-- Partition 0 runs the task; its header retired in cycle 0. -/
def running (s : State) : State := s.modRun 0 fun r => { r with task := some task1, sum := { r.sum with headerAt := some 0 } }

/-- The identity of that command. -/
def id1 : CmdId := ⟨0, 0⟩

/-- The Gondola runs. -/
def up (s : State) : State := s.put .GCTL_FW_STAT_GW_STATE 0 2

/-- Port 0 is UP. -/
def port0 (s : State) : State := s.put .TETH_STAT_STATE 0 3

theorem witness_StepTakesFront : bare.pending = [] ∧ bare.now + 1 < bare.nextEdge ∧
    ({ bare with clock := ⟨3199, 0, 0, 3200⟩ } : State).nextEdge ≤ 3199 + 1 := by decide

theorem witness_StepKeepsInvariant : Inv bare ∧ ∃ t, step bare = .next t :=
  ⟨⟨by decide, by unfold ClockOk; decide, by unfold MemoriesOk; decide⟩, _, rfl⟩

theorem witness_CommandsKeepQueueAndIdentity : (∃ t, exec .frameEdge bare = .next t) ∧ ClockOk bare ∧ MemoriesOk bare :=
  ⟨⟨_, rfl⟩, by unfold ClockOk; decide, by unfold MemoriesOk; decide⟩

theorem witness_RegistersAndMemoryReadBack : Field.REEL_CFG_LOCK ∈ Field.all ∧ Field.FENCE_VALUE_VALUE ∈ Field.all ∧
    Field.REEL_CFG_LOCK ≠ Field.FENCE_VALUE_VALUE ∧ (65535 : Nat) < 65536 := by decide +kernel

theorem witness_ResetLeavesTheResetColumn : Field.FENCE_VALUE_VALUE ∈ Field.all ∧
    Field.FENCE_VALUE_VALUE ∉ (fuseRegs Fuses.init).map Prod.fst ∧ (Field.PWR_CFG_LIMIT, 0, Fuses.init.limit) ∈ fuseRegs Fuses.init := by
  decide +kernel

/-- A beacon word that announces a change to period 1 at frame `f`. -/
def beacon (f : Nat) : Bytes := natLE 8 1 ++ [0x18] ++ List.replicate 7 0 ++ natLE 8 f ++ List.replicate 40 0

theorem witness_ReelBeaconIsKeptOrCounted : (port0 bare).portTalks 0 = true ∧ beaconValid true (beacon 1025) = true ∧
    beaconValid false (beacon 1025) = false ∧ (bare.put .REEL_STAT_REF_VALID 0 1).get .REEL_STAT_REF_VALID 0 = 1 ∧
    bare.get .REEL_STAT_REF_PORT 0 = (0 : Fin 64).val := by decide +kernel

theorem witness_PeriodAnnouncementIsTaken :
    let s := ((port0 bare).put .REEL_STAT_REF_VALID 0 1).put .REEL_STAT_STATE 0 2
    let t := ((s.put .REEL_PERIOD_NEXT_VALID 0 1).put .REEL_PERIOD_NEXT_CODE 0 1).put .REEL_PERIOD_NEXT_FRAME 0 1024
    s.portTalks 0 = true ∧ beaconValid true (beacon 1025) = true ∧ beaconChange (beacon 1025) = true ∧
    s.get .REEL_STAT_REF_VALID 0 = 1 ∧ s.get .REEL_STAT_REF_PORT 0 = 0 ∧ s.ownCount = true ∧ s.get .REEL_PERIOD_NEXT_VALID 0 = 0 ∧
    s.reel.late = none ∧ s.reelCount + 1 + 1024 ≤ u64 (beacon 1025) 16 ∧
    beaconValid true (beacon 1024) = true ∧ beaconChange (beacon 1024) = true ∧
    s.reelCount + 1 < u64 (beacon 1024) 16 ∧ u64 (beacon 1024) 16 < s.reelCount + 1 + 1024 ∧
    t.portTalks 0 = true ∧ t.get .REEL_STAT_REF_VALID 0 = 1 ∧ t.ownCount = true ∧ t.get .REEL_PERIOD_NEXT_VALID 0 = 1 ∧
    t.get .REEL_PERIOD_NEXT_CODE 0 = beaconNew (beacon 1024) ∧
    t.get .REEL_PERIOD_NEXT_FRAME 0 = u64 (beacon 1024) 16 % 2 ^ 56 := by decide +kernel

/-- Port 0 has given 64 beacons in a row. -/
def acquiring : State :=
  let s := ((port0 bare).put .REEL_STAT_STATE 0 1).put .REEL_REFSET_PORTS 0 1
  { s with reel := { s.reel with track := [(0, { Tracker.init with run := 64, periodRun := 64, phaseRun := 16, last := some 9, healthy := true })] } }

theorem witness_LockAdoptsCountAndPeriod : acquiring.lockPort = some 0 ∧ (acquiring.tracker 0).last = some 9 ∧
    (acquiring.put .REEL_STAT_PERIOD 0 1).get .REEL_STAT_PERIOD 0 ≠ (acquiring.tracker 0).period ∧ acquiring.power.step = none := by
  decide +kernel

theorem witness_LossOfTheReel :
    let s := (bare.put .REEL_STAT_STATE 0 3).put .REEL_HOLD_CURRENT 0 1024
    let u := { s with reel := { s.reel with late := some 0 } }
    let v := (s.put .REEL_PERIOD_NEXT_VALID 0 1).put .REEL_PERIOD_NEXT_FRAME 0 0
    bare.atEdge = true ∧ s.atEdge = true ∧ s.get .REEL_STAT_STATE 0 = 3 ∧ 1024 ≤ s.get .REEL_HOLD_CURRENT 0 ∧
    u.atEdge = true ∧ u.ownCount = true ∧ u.lateDue = true ∧ v.ownCount = true ∧ v.lateDue = false ∧
    v.get .REEL_PERIOD_NEXT_VALID 0 = 1 ∧ v.get .REEL_PERIOD_NEXT_FRAME 0 = v.reelCount % 2 ^ 56 ∧ v.power.step = none := by decide +kernel

theorem witness_ReelControls : (up bare).booted = true ∧ (up bare).get .REEL_STAT_STATE 0 ≠ 2 ∧
    ((up bare).put .REEL_STAT_STATE 0 2).get .REEL_STAT_STATE 0 = 2 ∧ ((up bare).put .REEL_STAT_STATE 0 2).booted = true ∧
    (1 : BitVec 32) ≠ 0 := by decide +kernel

theorem witness_LocksHold :
    let s := (((up bare).put .REEL_CFG_LOCK 0 1).put .PWR_CFG_LOCK 0 1).put .LOGB_CFG_LOCK 0 1
    (up bare).booted = true ∧ (up bare).get .REEL_CFG_LOCK 0 ≠ 1 ∧ (up bare).get .PWR_CFG_LOCK 0 ≠ 1 ∧
    (up bare).get .LOGB_CFG_LOCK 0 ≠ 1 ∧ s.booted = true ∧ s.get .REEL_CFG_LOCK 0 = 1 ∧ s.get .PWR_CFG_LOCK 0 = 1 ∧
    s.get .LOGB_CFG_LOCK 0 = 1 := by decide +kernel

theorem witness_RegisterWritesFollowAccessCodes :
    let r := Reg.REEL_EVT
    let o := Reg.VFEVT_STAT
    let s := { bare with vfs := [0] }
    goodAccess r.base 4 = true ∧ r.bits = 8 * 4 ∧ (3 : Nat) < 2 ^ r.bits ∧ (up bare).booted = true ∧ Reg.find false r.base = some (r, 0) ∧
    r ∉ ownRegs ∧ ertBytes r.base = false ∧ goodAccess o.base 4 = true ∧ o.bits = 8 * 4 ∧ s.vfs.contains (0 : Fin 16).val = true ∧
    Reg.find true o.base = some (o, 0) ∧ o ≠ Reg.VFDB_RING ∧ o ≠ Reg.VFFENCE_VALUE ∧ (o.base < 0x40000 ∨ 0x42000 < o.base + 4) := by
  decide +kernel

theorem witness_BadAccessesAreCounted : goodAccess 4 8 = false ∧ goodAccess 4 4 = true ∧ bare.vfs.contains (0 : Fin 16).val = false := by
  decide

/-- A program of one plan entry: 1 row from stack 0 to core 0. -/
def part1 : State → State := fun s => s.modBind 0 fun b => { b with shape := some ⟨1, 0, [0], 1, [], 0, 1, 0, 0, 0, 0, 1, 0, [], []⟩, queues := (0, 1), fences := (0, 1) }

theorem witness_HostWritesWaitForTheEdge :
    let s := part1 { up bare with vfs := [0] }
    let u := s.put .QTAB_CMD_FAULT 0 1
    s.booted = true ∧ (16383 : Nat) < 16384 ∧ s.vfs.contains (0 : Fin 16).val = true ∧ 0 < (s.part 0).bind.queues.2 ∧
    ¬1 < (s.part 0).bind.queues.2 ∧ u.booted = true ∧ u.get .QTAB_CMD_FAULT 0 = 1 ∧ (32767 : Nat) < 32768 ∧
    0 < (s.part 0).bind.fences.2 ∧ ¬1 < (s.part 0).bind.fences.2 := by decide +kernel

theorem witness_FencesOnlyRise : bare.get .FENCE_VALUE_VALUE 32767 < 2 ^ 64 ∧ (2 ^ 64 - 1 : Nat) < 2 ^ 64 ∧
    (⟨0, 0, true, 1⟩ : FenceUpd).add = true ∧ (⟨0, 0, false, 1⟩ : FenceUpd).add = false := by decide +kernel

/-- A record of queue 0. -/
def rec1 (status : Nat) (progress : Bool) : Rec := ⟨0, 0, some 0, 0, status, 0, 0, 0, 0, true, progress, false⟩

theorem witness_CompletionRecordIsWritten :
    let s := fun b => ({ bare with recs := [rec1 0x2000 b] } : State)
    let full := fun b => (s b).put .QTAB_PTR_CPL_TAIL 0 (2 ^ bare.get .QTAB_CPL_LOG2 0)
    takeRec 0 (s false).recs = some (rec1 0x2000 false, []) ∧ (s false).ringRoom 0 = true ∧ (rec1 0x2000 false).interrupt = true ∧
    takeRec 0 (full false).recs = some (rec1 0x2000 false, []) ∧ (full false).ringRoom 0 = false ∧ (rec1 0x2000 false).progress = false ∧
    takeRec 0 (full true).recs = some (rec1 0x2000 true, []) ∧ (full true).ringRoom 0 = false ∧ (rec1 0x2000 true).progress = true ∧
    (rec1 0x2000 true).part = some 0 ∧ 0 < 16 := by decide +kernel

/-- The header of the task, not yet begun. -/
def header : Cmd := { cmd1 0 (some 0) [] with began := none }

theorem witness_TaskFetchedFixesTheAnchor :
    let s := ((with1 header).modRun 0 fun r => { r with next := some task1 }).put .PART_STATE_STATE 0 2
    s.nextReady 0 = some task1 ∧ s.findCmd task1.queue task1.seq = some header := by decide +kernel

/-- The header's task has reached its anchor. -/
def atAnchor : State := (with1 header).modRun 0 fun r => { r with task := some task1 }

theorem witness_TaskHeaderBeginsOrRefuses :
    let c : Cmd := { header with bytes := natLE 2 0 ++ [3, 8] ++ List.replicate 20 0 ++ natLE 4 0xFFFFFFFF ++ [1, 0, 1, 0, 0, 0, 0, 0, 1, 0, 0, 0] ++ List.replicate 32 0 }
    let s := part1 (((((with1 c).put .REEL_STAT_PERIOD 0 0).modRun 0 fun r => { r with task := some task1 }).put .PART_PROG_STAT_STATE 0 2).put .PART_PROG_STAT_LCORES 0 1)
    (s.part 0).run.task = some task1 ∧ s.findCmd task1.queue task1.seq = some c ∧ s.atEdge = true ∧ task1.anchorAt.isSome = true ∧
    c.began = none ∧ (s.part 0).strm.swap.isNone = true ∧ task1.opened = true ∧ s.headerBad 0 task1 c = none ∧
    (atAnchor.part 0).run.task = some task1 ∧ atAnchor.findCmd task1.queue task1.seq = some header ∧ atAnchor.atEdge = true ∧
    (atAnchor.part 0).strm.swap.isNone = true ∧ atAnchor.headerBad 0 task1 header = some (0x3000, 0) := by decide +kernel

theorem witness_AbortEndsTheTask : (atAnchor.part 0).run.task = some task1 ∧ header ∈ atAnchor.cmds ∧ header.part = some 0 ∧
    header.batch = task1.batch ∧ HeldApart atAnchor 0 := by unfold HeldApart; decide +kernel

/-- A NOP of the running task, not yet begun, of sequence number 1. -/
def nop1 : Cmd := { cmd1 0 (some 0) (List.replicate 36 0) with began := none, seq := 1, ord := 1 }

/-- A FORECAST for the frame in which it would begin: it is refused as it begins. -/
def refused1 : Cmd := { cmdP 0x500 (some 0) [] with began := none, seq := 1, ord := 1 }

theorem witness_CommandBeginsWhenItsConditionsHold :
    let s := running (with1 nop1)
    let x := (s.catchUp 0 0).advance 0
    let r := (running (with1 refused1)).modPart 0 fun x => { x with slots := [(0, { Slot.init with segments := [(0, 1)] })] }
    let y := (r.catchUp 0 0).advance 0
    s.findCmd 0 1 = some nop1 ∧ nop1.part = some 0 ∧ s.turn nop1 0 = some 0 ∧ s.staticBad nop1 0 = false ∧ s.spillSkips nop1 0 = false ∧
    s.beginTime nop1 0 = some 0 ∧ 0 < s.nextEdge ∧ s.rival nop1 0 0 = false ∧ x.now = 0 ∧ x.findCmd 0 1 = some nop1 ∧
    x.spillSkips nop1 0 = false ∧ x.beginRefused nop1 0 = none ∧
    r.findCmd 0 1 = some refused1 ∧ r.turn refused1 0 = some 0 ∧ r.staticBad refused1 0 = false ∧ r.spillSkips refused1 0 = false ∧
    r.beginTime refused1 0 = some 0 ∧ r.rival refused1 0 0 = false ∧ y.now = 0 ∧ y.findCmd 0 1 = some refused1 ∧
    y.spillSkips refused1 0 = false ∧ (y.beginRefused refused1 0).isSome = true := by decide +kernel

theorem witness_CommandBeginsWhenItsConditionsHold_rest :
    let bad : Cmd := { nop1 with bytes := nop1.bytes.set 20 1 |>.set 19 0x80 |>.set 16 1 }
    let u := running (with1 bad)
    let pf : Cmd := { nop1 with part := none }
    let v := with1 pf
    let w : Cmd := { pf with bytes := pf.bytes.set 3 7 }
    let x := with1 w
    u.findCmd 0 1 = some bad ∧ u.turn bad 0 = some 0 ∧ u.staticBad bad 0 = true ∧ u.spillSkips bad 0 = false ∧ max u.now 0 < u.nextEdge ∧
    v.nextPf = some pf ∧ v.waitTime pf 0 = some 0 ∧ v.get .GCTL_FW_STAT_UNREADABLE 0 ≠ 1 ∧ (v.advance 0).pfRefused pf = false ∧
    x.nextPf = some w ∧ x.waitTime w 0 = some 0 ∧ (x.advance 0).pfRefused w = true ∧
    (v.put .GCTL_FW_STAT_UNREADABLE 0 1).get .GCTL_FW_STAT_UNREADABLE 0 = 1 := by decide +kernel

theorem witness_CommandRetires :
    let d : Cmd := { cmd1 2 (some 0) (List.replicate 36 0) with due := some 3199, ran := true, bytes := (cmd1 2 (some 0) (List.replicate 36 0)).bytes.set 19 0x80 }
    let s := with1 d
    let u := caughtUp s d 3199
    let e : Cmd := { d with part := none }
    s.findCmd 0 0 = some d ∧ d.due = some 3199 ∧ d.began = some 0 ∧ 3199 < s.nextEdge ∧ u.now ≤ 3199 ∧ 3199 < u.nextEdge ∧
    u.findCmd 0 0 = some d ∧ u.pendingSlot d = none ∧ d.status < 0x3000 ∧ d.sigEn = true ∧ d.op = 2 ∧
    u.firstFault 0 (s.nextEdge - 1) = none ∧ (u.part 0).run.sum.voidFrom = none ∧
    (caughtUp (with1 e) e 3199).findCmd 0 0 = some e ∧ (caughtUp (with1 e) e 3199).now ≤ 3199 := by decide +kernel

theorem witness_CommandRetires_settled : Settled (with1 { cmd1 2 (some 0) [] with due := some 5 }) 0 := by
  intro x hx _ _ y hy
  simp only [with1, List.mem_singleton] at hx
  subst hx
  have h : y = { cmd1 2 (some 0) [] with due := some 5 } := by
    have : (with1 { cmd1 2 (some 0) [] with due := some 5 }).findCmd 0 0 = some { cmd1 2 (some 0) [] with due := some 5 } := by decide +kernel
    exact Option.some.inj (hy.symm.trans this)
  rw [h]; rfl

/-- A command with a deadline at the present edge. -/
def late1 (part : Option Nat) : Cmd := { cmd1 0 part [] with bytes := natLE 2 0 ++ [0, 8] ++ List.replicate 56 0, began := none }

theorem witness_LateCommandsAreDeadlineMisses :
    let d := late1 (some 0)
    let t := { running (with1 d) with clock := ⟨3200, 3200, 1, 3200⟩ }
    let w := caughtUp t d t.now
    let u : State := { with1 (late1 none) with clock := ⟨6400, 6400, 2, 3200⟩ }
    t.findCmd 0 0 = some d ∧ t.missed d = true ∧ w.remaining d = some 1 ∧ w.findCmd 0 0 = some d ∧ w.missed d = true ∧
    w.oldestMiss 0 d = d ∧ w.firstFault 0 w.now = none ∧ w.pendingSlot d = none ∧
    (w.part 0).run.task = some task1 ∧ d.batch = task1.batch ∧ d ∈ w.cmds ∧ HeldApart w 0 ∧
    u.findCmd 0 0 = some (late1 none) ∧ u.missed (late1 none) = true ∧ (caughtUp u (late1 none) u.now).remaining (late1 none) = some 1 := by
  unfold HeldApart; decide +kernel

theorem witness_LateBegin :
    let d : Cmd := { cmd1 0x400 (some 0) (List.replicate 36 0) with began := none, bytes := (cmd1 0x400 (some 0) ([1, 0, 0, 0] ++ List.replicate 32 0)).bytes }
    let s := running (with1 d)
    s.findCmd 0 0 = some d ∧ s.taskOf d = some task1 ∧ d.began = none ∧ task1.anchorAt.isSome = true ∧
    (s.part 0).run.sum.headerAt.isSome = true ∧
    s.spillSkips d 0 = false ∧ (match s.beginBy d 0 with
      | some x => decide (s.now ≤ x.1 + 1 ∧ x.1 + 1 < s.nextEdge)
      | none => false) = true ∧ HeldApart s 0 := by unfold HeldApart; decide +kernel

theorem witness_FenceUnitCommandsAndForecastRetire :
    let c := fun op => cmd1 op (some 0) (List.replicate 36 0)
    (with1 (c 0)).ready id1 0 = some (c 0) ∧ (with1 (c 1)).ready id1 1 = some (c 1) ∧ (with1 (c 2)).ready id1 2 = some (c 2) ∧
    (with1 (cmd1 3 none [])).ready id1 3 = some (cmd1 3 none []) ∧ Running (with1 (c 3)) id1 3 (c 3) 0 ∧
    (with1 (c 3)).othersOpen (c 3) 0 = false ∧ Running (running (with1 (c 0x500))) id1 0x500 (c 0x500) 0 ∧
    (running (with1 (c 0x500))).taskOf (c 0x500) = some task1 ∧ task1.anchor = some 0 := by unfold Running; decide +kernel

theorem witness_NansAreCanonical : (0x7F800000 : Nat) < 0x7F800001 % 2 ^ 31 ∧ (0x7F80 : Nat) < 0xFFFF % 2 ^ 15 ∧
    (0x7C00 : Nat) < 0x7C01 % 2 ^ 15 ∧ (0xFF : Nat) % 2 ^ 7 = 0x7F ∧ (0x7C : Nat) < 0x7D % 2 ^ 7 := by decide

theorem witness_KtileSumIgnoresOrderAndZeros : ([.fin false 1 0, .nan] : List Val).Perm [.nan, .fin false 1 0] := .swap _ _ _

/-- Partition 0, of core 0 and port 0, runs the command. -/
def on0 (c : Cmd) : State := part1 (running (with1 c))

/-- A vector operation of one row of one element. -/
def vec1 (op : Nat) : Cmd := cmdP op (some 0) [(32, 1), (36, 1)]

/-- Its row 0 has an uncorrectable quarter. -/
def badRow (s : State) : State := s.modCore 0 fun k => { k with ecc := [(0, 2)] }

/-- Its row 0 awaits the row of a gather. -/
def awaited (s : State) : State := s.modCore 0 fun k => { k with gather := [(0, some ⟨0, 1, 0, none⟩)] }

/-- The same state, late in its frame. -/
def later (s : State) : State := { s with clock := { s.clock with now := 3199 } }

/-- Of the shares of a vector operation: the first fault up to the present cycle, the kinds of all, and whether every core has come to
its last cycle. -/
def vecNow (s : State) (d : Cmd) (xs : List VecShare) : Option Flt × List Nat × Bool :=
  let seen := s.wideFrom d 0
  let us := xs.flatMap fun y => y.v.uses.filter fun u => decide (seen ≤ u.cycle) && decide (u.cycle ≤ s.now)
  let drops := xs.flatMap fun y => dropFaults (s.dropLimit 0) y.v.lc y.dropped0 y.v.drops
  let flts := (drops ++ s.useFaults 0 us).filter fun f => decide (seen ≤ f.cycle) && decide (f.cycle ≤ s.now)
  (firstFlt flts, flts.map Flt.kind, xs.all fun y => decide (y.last ≤ s.now))
def vecShares (s : State) (d : Cmd) : List VecShare := [⟨d.vec.run (s.lcore 0 0) 0 1 d.t0 d.step, d.vec.cycles (dealt d.vec.rows 1 0).length, 0⟩]
def sampShares (s : State) (d : Cmd) : List VecShare := [⟨d.samp.run (s.lcore 0 0) 0 1 d.t0 d.step, d.samp.cycles (dealt d.samp.rows 1 0).length, 0⟩]
def convShares (s : State) (d : Cmd) : List VecShare :=
  [⟨d.conv.run (s.lcore 0 0) 0 1 d.t0 d.step, d.conv.cycles (dealt (d.conv.ho * d.conv.wo) 1 0).length, 0⟩]

theorem witness_VectorCommandsComplete :
    let v := on0 (vec1 0x102)
    let w := on0 (vec1 0x104)
    Running v id1 0x102 (vec1 0x102) 0 ∧ v.ownWide (vec1 0x102) 0 = v ∧ (v.part 0).lcores = 1 ∧ v.dropTask 0 0 = 0 ∧
    (v.part 0).positions.Nodup ∧ (v.part 0).position 0 = some 0 ∧
    vecNow v (vec1 0x102) (vecShares v (vec1 0x102)) = (none, [], false) ∧
    vecNow (later v) (vec1 0x102) (vecShares v (vec1 0x102)) = (none, [], true) ∧
    vecNow (later (awaited v)) (vec1 0x102) (vecShares (awaited v) (vec1 0x102)) = (some ⟨0, 0, 0x3001, 0, 2⟩, [2], true) ∧
    Running w id1 0x104 (vec1 0x104) 0 ∧ vecNow w (vec1 0x104) (sampShares w (vec1 0x104)) = (none, [], false) ∧
    vecNow (later w) (vec1 0x104) (sampShares w (vec1 0x104)) = (none, [], true) ∧
    vecNow (later (awaited w)) (vec1 0x104) (sampShares (awaited w) (vec1 0x104)) = (some ⟨0, 0, 0x3001, 0, 2⟩, [2], true) := by
  unfold Running; decide +kernel

/-- A matrix operation of no group. -/
def mat1 (op : Nat) : Cmd := cmdP op (some 0) []

/-- Its walk stands before an item whose tile is in a lap of the ring that has not come. -/
def waiting (s : State) : State :=
  let it : Item := ⟨0, 0, 1, true, true, 0, 0, 0, 0, 0, 0⟩
  (s.modStrm 0 fun x => { x with rings := [⟨0, 5, 0, 1, 0, 0, 0, none, none, none⟩] }).modRun 0 fun r =>
    { r with wide := some ⟨0, 0, [{ Walk.start 0 0 1 [it, it] with c := 100, index := 1 }], 0⟩ }

/-- Of a matrix operation's walks: the first fault up to the present cycle, the cores, and whether every core has come to its end. -/
def matNow (x : State) (d : Cmd) (o : MatOp) (start : List Walk) (fill : Fill) : Option Flt × List Nat × Bool :=
  let seen := x.wideFrom d 0
  let table := fill.uses.filter fun u => decide (seen ≤ u.cycle) && decide (u.cycle ≤ x.now)
  let runs := x.matRuns 0 o (x.walksNow 0 start)
  let walks := runs.map MatRun.w
  (firstFlt (((fill.flts.filter fun f => decide (seen ≤ f.cycle)) ++ runs.flatMap MatRun.flts ++
    x.useFaults 0 (table ++ runs.flatMap fun r => r.uses ++ r.ahead)).filter fun f => decide (f.cycle ≤ x.now)),
   walks.map Walk.core, walks.all fun w => w.finished.isSome)

theorem witness_MatrixCommandsComplete :
    let d := mat1 0x100
    let s := later (on0 d)
    let o := s.matOp 0 d d.mat.accBase (s.matStart 0 d.mat d.t0) s.now
    let w := waiting (on0 d)
    let ow := w.matOp 0 d d.mat.accBase (w.matStart 0 d.mat d.t0) w.now
    Running s id1 0x100 d 0 ∧ s.ownWide d 0 = s ∧ (s.part 0).positions.Nodup ∧
    matNow s d o (s.matStart 0 d.mat d.t0) (s.matFill 0 d.mat o (s.matStart 0 d.mat d.t0)) = (none, [0], true) ∧
    Running w id1 0x100 d 0 ∧ w.ownWide d 0 = w ∧
    matNow w d ow (w.matStart 0 d.mat d.t0) (w.matFill 0 d.mat ow (w.matStart 0 d.mat d.t0)) = (none, [0], false) := by
  unfold Running; decide +kernel

theorem witness_SpeculativeMatrixCompletes :
    let d := mat1 0x101
    let s := later (on0 d)
    let o := s.matOp 0 d d.mat.shadowBase (s.matStart 0 d.mat d.t0) s.now
    let w := waiting (on0 d)
    let ow := w.matOp 0 d d.mat.shadowBase (w.matStart 0 d.mat d.t0) w.now
    Running s id1 0x101 d 0 ∧ shadowPairs d.mat (s.matStart 0 d.mat d.t0) = [] ∧
    matNow s d o (s.matStart 0 d.mat d.t0) (s.matFill 0 d.mat o (s.matStart 0 d.mat d.t0)) = (none, [0], true) ∧
    Running w id1 0x101 d 0 ∧
    matNow w d ow (w.matStart 0 d.mat d.t0) (w.matFill 0 d.mat ow (w.matStart 0 d.mat d.t0)) = (none, [0], false) := by
  unfold Running; decide +kernel

/-- A convolution without output, depthwise or not. -/
def conv1 (b : Byte) : Cmd := { cmdP 0x103 (some 0) [(39, b)] with bytes := (cmdP 0x103 (some 0) [(39, b)]).bytes ++ List.replicate 64 0 }

theorem witness_ConvolutionCompletes :
    let d := conv1 0
    let s := later (on0 d)
    let ws := s.convStart 0 d.conv d.t0
    let w := waiting (on0 d)
    let e := conv1 0x10
    let x := later (on0 e)
    Running s id1 0x103 d 0 ∧ d.conv.depthwise = false ∧ s.ownWide d 0 = s ∧ (s.part 0).positions.Nodup ∧
    matNow s d (s.convOp 0 d ws s.now) ws ⟨[], []⟩ = (none, [0], true) ∧
    Running w id1 0x103 d 0 ∧ matNow w d (w.convOp 0 d ws w.now) ws ⟨[], []⟩ = (none, [0], false) ∧
    Running x id1 0x103 e 0 ∧ e.conv.depthwise = true ∧ vecNow x e (convShares x e) = (none, [], true) := by
  unfold Running; decide +kernel

theorem witness_BeforeBootWritesAreIgnored : bare.booted = false ∧ goodAccess 0xFFFFFFF8 8 = true := by decide

theorem witness_WindowsOpenAndClose :
    let o := cmdP 0x401 (some 0) [(39, 63), (40, 4)]
    let c := cmdP 0x402 (some 0) [(28, 2)]
    let e : Cmd := { o with due := some 4, ran := true }
    let f : Cmd := { c with due := some 4, ran := true }
    let u := (on0 e).catchUp 0 4
    let v := (on0 f).catchUp 0 4
    (on0 o).ready id1 0x401 = some o ∧ (on0 c).ready id1 0x402 = some c ∧
    (on0 e).findCmd 0 0 = some e ∧ e.op = 0x401 ∧ e.began.isSome = true ∧ 4 < (on0 e).nextEdge ∧ u.now ≤ 4 ∧ 4 < u.nextEdge ∧
    u.findCmd 0 0 = some e ∧ e.status < 0x3000 ∧ u.firstFault 0 ((on0 e).nextEdge - 1) = none ∧
    v.findCmd 0 0 = some f ∧ f.op = 0x402 ∧ v.firstFault 0 ((on0 f).nextEdge - 1) = none ∧
    ((on0 o).part 0).positions.Nodup ∧ o.window.first ≤ 0 ∧ 0 ≤ o.window.last ∧
    ((on0 o).part 0).position 0 = some 0 ∧ o.window.stable = false ∧ o.window.tether = true ∧ 4 + 2 ≤ 6 ∧ o.window.rowFirst ≤ 0 ∧
    0 ≤ o.window.rowLast ∧ o.window.wcolFirst ≤ 0 ∧ 63 ≤ o.window.wcolLast ∧
    c.window.first ≤ 0 ∧ 0 ≤ c.window.last ∧ c.window.stable = false ∧ c.closeAll = true ∧ ((on0 c).core 0).windows = [] := by decide +kernel

/-- A shard of number 1 that comes over port 0. -/
def shard1 : Shard := ⟨1, 0, 0, [], 0, [], 0, none, none, false, false, [], []⟩

/-- The stream of that command. -/
def stream1 (asked : Bool) (l : List Shard) : Stream := ⟨0, 0, l, [], asked⟩

/-- The command's stream, on partition 0. -/
def streaming (c : Cmd) (st : Stream) : State := (on0 c).modStrm 0 fun x => { x with streams := [st] }

/-- A plan of one entry from port 0 to core 0, of one row. -/
def entry1 : PlanEntry := ⟨0, false, false, 2, 0, 0, 0, 0, 1, 1, 0, 0, 0, 0, 0, 0⟩
def planned (s : State) : State := s.modPart 0 fun x => { x with slots := [(0, { Slot.init with plan := [entry1], bound := [⟨0, [], []⟩] })] }

/-- A header of an empty shard: the digest of nothing. -/
def emptyHeader : Bytes := [1, 1, 1] ++ List.replicate 29 0 ++ sha256 []

/-- The shard has all come. -/
def shardIn : Shard := { shard1 with header := emptyHeader, delivered := true, verdict := some (0, 0), place := [(0, 0, 0)] }

/-- One shard over a tether is in place. -/
theorem inPlace_one (s : State) (d : Cmd) (st : Stream) (h : Shard) (e : st.shards = [h]) (t : h.delivered = true ∧ h.port < 64 ∧
    (s.headFault d 0 h).isNone = true ∧ (d.op = 0x203 ∨ h.place ≠ []) ∧
    (d.op = 0x203 → (∀ w ∈ s.enterRounds 0 h, w.1 < s.uptoOf d) ∧ (h.port = 64 → h.full = true → sha256 h.plain = shDigest h.header)) ∧
    (d.op ≠ 0x203 → ∀ w ∈ s.pieces 0 d h, w.1 < s.uptoOf d)) : InPlace s 0 d st := by
  intro g hg
  rw [e, List.mem_singleton] at hg
  subst hg
  exact ⟨t.1, Or.inl t.2.1, t.2.2.1, t.2.2.2.1, t.2.2.2.2.1, t.2.2.2.2.2⟩

/-- The same command, whose stream has been brought as far as cycle 1,000. -/
def moved1 (op : Nat) : Cmd := { mat1 op with upto := 1000 }

theorem witness_StreamingCommandsAskAndRetire :
    (∀ op ∈ [0x200, 0x201, 0x206], Running (streaming (mat1 op) (stream1 false [shard1])) id1 op (mat1 op) 0 ∧
      ((streaming (mat1 op) (stream1 false [shard1])).part 0).stream (mat1 op) = some (stream1 false [shard1])) ∧
    shard1.port < 64 ∧ shard1.header = [] ∧ shard1.place = [] ∧ shard1.delivered = false ∧
    (∀ op ∈ [0x200, 0x201, 0x206], Running (planned (streaming (moved1 op) (stream1 true [shardIn]))) id1 op (moved1 op) 0) ∧
    shardIn.verdict.isSome = true := by unfold Running; decide +kernel

theorem witness_StreamingCommandsAskAndRetire_place : ∀ op ∈ [0x200, 0x201, 0x206],
    InPlace (planned (streaming (moved1 op) (stream1 true [shardIn]))) 0 (moved1 op) (stream1 true [shardIn]) := by
  intro op h
  apply inPlace_one _ _ _ _ rfl
  revert op
  decide +kernel

/-- A shard of 64 bytes without tiles, for one row of carrier memory. -/
def shardKept : Shard := { shardIn with header := [1, 1, 1, 0, 0, 0, 0, 0, 64] ++ List.replicate 55 0, data := List.replicate 64 0 }

theorem witness_ResideStoresExperts :
    let c := cmdP 0x203 (some 0) [(32, 1)]
    let s := streaming c (stream1 false [shard1])
    let d := mat1 0x203
    let f := streaming d (stream1 false [shard1])
    let e := moved1 0x203
    let t := planned (streaming e (stream1 true [shardKept]))
    Running s id1 0x203 c 0 ∧ (s.part 0).stream c = some (stream1 false [shard1]) ∧
    ((s.neededSlots 0 c.reside).filter fun a => s.slotTaken 0 a).length ≠ 0 ∧
    Running f id1 0x203 d 0 ∧ ((f.neededSlots 0 d.reside).filter fun a => f.slotTaken 0 a).length = 0 ∧
    Running t id1 0x203 e 0 ∧ ((t.part 0).bind.shape).isSome = true ∧ t.get .PART_ERT_CTL_SYNC_BUSY 0 ≠ 1 ∧
    shardKept.verdict.isSome = true := by unfold Running; decide +kernel

theorem witness_ResideStoresExperts_place :
    InPlace (planned (streaming (moved1 0x203) (stream1 true [shardKept]))) 0 (moved1 0x203) (stream1 true [shardKept]) := by
  apply inPlace_one _ _ _ _ rfl
  decide +kernel

/-- The command of a fixed or ring load with one tile in its shard; frames of its words. -/
def header1 : Bytes := [1, 0, 1] ++ List.replicate 5 0 ++ [0, 0x10, 0, 0, 4] ++ List.replicate 51 0
def dataFrame : WslFrame := sealFrame { frame1 2 1 with payload := header1 }

/-- The port is UP, and its stream waits for one shard. -/
def arriving (op : Nat) (h : Shard) : State := port0 (streaming (mat1 op) (stream1 true [h]))

theorem witness_ShardWordsJoinTheirShard :
    let s := arriving 0x200 shard1
    let h := { shard1 with header := header1, data := List.replicate 64 0 }
    let t := arriving 0x200 h
    OneWord s 0 dataFrame 2 1 0 (stream1 true [shard1]) shard1 ∧ s.streamCmd (stream1 true [shard1]) = some (mat1 0x200) ∧
    shard1.id < 2 ^ 48 ∧ shard1.place = [] ∧ (mat1 0x200).op = 0x200 ∧ shOk dataFrame.payload shard1.id = true ∧
    shKind dataFrame.payload = 0 ∧ 0 < shTiles dataFrame.payload ∧ 64 * shTiles dataFrame.payload ≤ shLen dataFrame.payload ∧
    OneWord t 0 dataFrame 2 1 0 (stream1 true [h]) h ∧ h.header ≠ [] ∧ h.full = false ∧ shKind h.header = 0 ∧
    h.data.length + 64 < 64 * shTiles h.header ∧ 64 * shTiles h.header ≤ shLen h.header ∧ h.data ≠ [] ∧
    (s.linkCheck 0 { dataFrame with crc := 0 }).1 = false ∧ s.portTalks 0 = true := by unfold OneWord; decide +kernel

theorem witness_ShardWordsJoinTheirShard_ahead : ∀ h, (h = shard1 ∨ h = { shard1 with header := header1, data := List.replicate 64 0 }) →
    Ahead (arriving 0x200 h) 0 h := by
  intro h hh e b hb
  have : ((arriving 0x200 h).part 0).entry h.entry = none := by rcases hh with rfl | rfl <;> decide +kernel
  rw [this] at hb
  exact absurd hb (by simp)

theorem witness_VerdictEndsTheShard :
    let c := moved1 0x200
    let h := { shardIn with verdict := none }
    let b := { h with header := [1, 1, 1] ++ List.replicate 61 0 }
    let s := planned (streaming c (stream1 true [b]))
    let t := planned (streaming c (stream1 true [h]))
    s.findCmd 0 0 = some c ∧ c.part = some 0 ∧ (s.pump c 0).alive c = true ∧ ((s.pump c 0).part 0).stream c = some (stream1 true [b]) ∧
    (stream1 true [b]).shards[0]? = some b ∧ b.verdict = none ∧ b.full = true ∧ b.lost = 0 ∧ b.cause = some 0 ∧
    t.findCmd 0 0 = some c ∧ (t.pump c 0).alive c = true ∧ ((t.pump c 0).part 0).stream c = some (stream1 true [h]) ∧
    h.full = true ∧ h.cause = none ∧ (t.pump c 0).findCmd 0 0 = some c ∧
    c.began.isSome = true ∧ c.due = none ∧ c.op = 0x200 := by decide +kernel

theorem witness_VerdictEndsTheShard_place :
    let h := { shardIn with verdict := none }
    InPlace ((planned (streaming (moved1 0x200) (stream1 true [h]))).pump (moved1 0x200) 0) 0 (moved1 0x200) (stream1 true [h]) := by
  apply inPlace_one _ _ _ _ rfl
  decide +kernel

theorem witness_AbsentRowIsADeadlineMiss :
    let c := mat1 0x200
    let s : State := { planned (streaming c (stream1 true [shard1])) with clock := ⟨3200, 3200, 1, 3200⟩ }
    s.findCmd 0 0 = some c ∧ c.part = some 0 ∧ (s.part 0).stream c = some (stream1 true [shard1]) ∧
    (stream1 true [shard1]).transfer 0 = some shard1 ∧ (s.part 0).entry shard1.entry = some (entry1, ⟨0, [], []⟩) ∧
    rowNeed c shard1 entry1 0 = some 1 ∧ shard1.data.length < 1 ∧ s.roundCycle 0 (entry1.rowLast 0 0) ≤ s.now ∧ c.op = 0x200 := by
  decide +kernel

theorem witness_RouteCommitResolvesAndDispatches :
    let c := cmdP 0x202 (some 0) [(28, 1)]
    let s := on0 c
    let q : Cmd := { cmdP 0x202 (some 0) [(28, 2), (38, 1)] with upto := 41 }
    let late : Bound := ⟨0, [], []⟩
    let soon : Bound := ⟨200, [], []⟩
    let t := fun b => later ((on0 q).modPart 0 fun x => { x with slots := [(0, { Slot.init with plan := [entry1], bound := [b] })] })
    Running s id1 0x202 c 0 ∧ c.commitAt < s.nextEdge ∧ (∀ x ∈ s.cmds, x.queue = c.queue → x.seq = c.seq → x = c) ∧ c.upto ≤ c.t0 ∧
    s.now ≤ c.commitAt ∧ c.route.commit = true ∧ c.route.dispatch = false ∧ s.maskFaults 0 c.route c.t0 = [] ∧
    (∀ x ∈ s.cmds, x.part = some 0 → x.op = 0x201 → x.began = none) ∧ ((s.part 0).pred 15).fault = none ∧
    (∀ b ∈ [late, soon], Running (t b) id1 0x202 q 0 ∧ ((t b).part 0).entry q.route.dispEntry = some (entry1, b) ∧
      ∀ x ∈ (t b).cmds, x.queue = q.queue → x.seq = q.seq → x = q) ∧
    q.route.commit = false ∧ q.route.dispatch = true ∧ q.commitAt < q.upto ∧ q.upto ≤ q.dispatchAt ∧ q.dispatchAt ≤ (t soon).now ∧
    (t late).roundCycle 0 0 < q.dispatchAt ∧ q.dispatchAt ≤ (t soon).roundCycle 0 200 ∧ (t soon).dropLimit 0 = none ∧
    (t soon).rowEnd 0 entry1 soon (q.route.resultRows - 1) ≤ (t soon).now := by unfold Running; decide +kernel

theorem witness_EvictHoldsSlotsUntilFree :
    let e := cmdP 0x204 (some 0) [(28, 1), (34, 1)]
    let w := mat1 0x205
    Running (on0 e) id1 0x204 e 0 ∧ e.evict.unmap = true ∧ (on0 e).get .PART_ERT_CTL_SYNC_BUSY 0 ≠ 1 ∧ bare.atEdge = true ∧
    Running (on0 w) id1 0x205 w 0 := by unfold Running; decide +kernel

theorem witness_ModelSwitchIsWholeOrRejected :
    let s := (part1 bare).modStrm 0 fun x => { x with swap := some 1 }
    let ok := (s.put .PART_ERT_GEN_SHADOW 0 1).modStrm 0 fun x => { x with modelShadow := List.replicate 4 0 ++ [1, 0, 0, 0] ++ List.replicate 8 0 ++ [1] ++ List.replicate 47 0 }
    s.atEdge = true ∧ s.swapDue 0 = true ∧ (s.part 0).bind.shape.isSome = true ∧ s.swapOk 0 = false ∧
    ok.atEdge = true ∧ ok.swapDue 0 = true ∧ (ok.part 0).bind.shape.isSome = true ∧ ok.swapOk 0 = true := by decide +kernel

theorem witness_WritebackLeavesWithItsKeyCount :
    let c := mat1 0x207
    let s := planned (on0 c)
    Running s id1 0x207 c 0 ∧ (s.part 0).entry c.writeback.entry = some (entry1, ⟨0, [], []⟩) ∧ (s.lcore 0 entry1.src).ecc = [] := by
  unfold Running; decide +kernel

theorem witness_TransfersRetireAfterTheirLastRow :
    let b := mat1 0x300
    let r := (on0 b).moveRows b 0 0 0 0
    let g := cmdP 0x301 (some 0) [(28, 1)]
    let u := (on0 g).moveRows g 0 0 0 0
    let m := mat1 0x400
    let v := (on0 m).moveRows m 0 0 0 0
    let l := cmdP 0x400 (some 0) [(28, 1), (38, 1), (36, 1)]
    let w := later (on0 l)
    Running (on0 b) id1 0x300 b 0 ∧ b.coll.first = 0 ∧ b.coll.entries = 0 ∧ (on0 b).now = 0 ∧ r.2 = true ∧ (r.1.findCmd 0 0).map Cmd.status = some 0 ∧
    Running (on0 g) id1 0x301 g 0 ∧ g.coll.scope = 1 ∧ g.coll.first = 0 ∧ g.coll.entries = 0 ∧
    u.2 = true ∧ (u.1.findCmd 0 0).map Cmd.status = some 0 ∧
    Running (on0 m) id1 0x400 m 0 ∧ m.move.isLocal = false ∧ m.move.first = 0 ∧ m.move.entries = 0 ∧ v.2 = true ∧
    (v.1.findCmd 0 0).map Cmd.status = some 0 ∧
    Running w id1 0x400 l 0 ∧ l.move.isLocal = true ∧ l.upto ≤ w.boundCycle 0 l.move.phase ∧
    w.boundCycle 0 l.move.phase + 2 * l.move.rows ≤ w.now + 1 ∧
    (w.part 0).positions.Nodup ∧ l.move.coreFirst = 0 ∧ l.move.coreLast = 0 ∧ (w.lcore 0 0).ecc = [] ∧
    (w.lcore 0 0).stable = [] ∧ (w.lcore 0 0).past = [] ∧ l.move.src + l.move.rows ≤ l.move.dst ∧ 0 < l.move.rows := by
  unfold Running; decide +kernel

theorem witness_ReducePhaseWritesTheSums :
    let c := cmdP 0x301 (some 0) []
    let s := later (on0 c)
    let r := s.moveRows c 0 0 0 3199
    let q := c.coll
    let x0 := r.1.boundCycle 0 q.phase
    Running s id1 0x301 c 0 ∧ q.first = 0 ∧ q.entries = 0 ∧ s.now = 3199 ∧ q.scope ≠ 1 ∧ q.flag = false ∧ r.2 = true ∧
    (r.1.findCmd 0 0).map Cmd.status = some 0 ∧ (r.1.part 0).position q.root = some 0 ∧ r.1.phaseOf c ≤ x0 ∧
    x0 + q.rows * (4 * q.contrib + 1) ≤ s.now + 1 ∧ (r.1.core 0).ecc = [] ∧ (r.1.core 0).past = [] ∧ (r.1.core 0).stable = [] ∧
    (r.1.core 0).gather = [] ∧ q.outRow + q.rows ≤ q.inRow ∧ q.rows = 0 := by unfold Running; decide +kernel

/-- A piece and a row that come over port 0. -/
def piece1 : Shard := { shard1 with id := pieceBase }
def row1 : Shard := { shard1 with id := rowBase }

/-- The piece's header names collective 0, piece 0, and four rows. -/
def pieceFrame : WslFrame := frame1 3 0
def strayFrame : WslFrame := sealFrame { frame1 3 0 with payload := 1 :: List.replicate 63 0 }

theorem witness_RowsJoinTheirTransfer_header :
    let a := planned (arriving 0x300 piece1)
    OneWord a 0 pieceFrame 3 0 0 (stream1 true [piece1]) piece1 ∧ a.streamCmd (stream1 true [piece1]) = some (mat1 0x300) ∧
    (a.part 0).entry piece1.entry = some (entry1, ⟨0, [], []⟩) ∧ 0 < entry1.rows ∧ pieceBase ≤ piece1.id ∧ piece1.id < rowBase ∧
    piece1.header = [] ∧ piece1.data = [] ∧ a.expects (stream1 true [piece1]) piece1 pieceFrame.payload = true := by
  unfold OneWord; decide +kernel

theorem witness_RowsJoinTheirTransfer_stray :
    let a := planned (arriving 0x300 piece1)
    OneWord a 0 strayFrame 3 0 0 (stream1 true [piece1]) piece1 ∧ a.streamCmd (stream1 true [piece1]) = some (mat1 0x300) ∧
    a.expects (stream1 true [piece1]) piece1 strayFrame.payload = false ∧ u16 strayFrame.payload 8 = 0 := by
  unfold OneWord; decide +kernel

theorem witness_RowsJoinTheirTransfer_words :
    let h := { piece1 with header := [0, 0, 0, 0, 0, 0, 0, 0, 1] ++ List.replicate 55 0 }
    let f := { h with data := List.replicate 4032 0 }
    let b := planned (arriving 0x300 h)
    let g := planned (arriving 0x300 f)
    let c := planned (arriving 0x400 row1)
    OneWord b 0 pieceFrame 3 0 0 (stream1 true [h]) h ∧ h.header ≠ [] ∧ h.data.length < 4096 * h.takes ∧
    (h.data.length + 64) % 4096 ≠ 0 ∧
    OneWord g 0 pieceFrame 3 0 0 (stream1 true [f]) f ∧ (f.data.length + 64) % 4096 = 0 ∧ f.data.length < 4096 * f.takes ∧
    g.now ≤ g.roundCycle 0 (entry1.rowLast 0 (f.data.length / 4096)) ∧
    OneWord c 0 (frame1 3 1) 3 1 0 (stream1 true [row1]) row1 ∧ c.streamCmd (stream1 true [row1]) = some (mat1 0x400) ∧
    (c.part 0).entry row1.entry = some (entry1, ⟨0, [], []⟩) ∧
    rowBase ≤ row1.id ∧ row1.id < 2 ^ 50 ∧ row1.header = [] ∧ (row1.data.length + 64) % 4096 ≠ 0 := by
  unfold OneWord; decide +kernel

theorem witness_RowsJoinTheirTransfer_bulk :
    let c := planned (arriving 0x400 row1)
    OneWord c 0 (frame1 4 0) 4 0 0 (stream1 true [row1]) row1 := by
  unfold OneWord; decide +kernel

/-- The bytes of a PART_CREATE of partition 0, one logical core on position 0, with the digest of its binding record. -/
def partBytes (op : Nat) : Bytes :=
  let b := natLE 2 op ++ [0, 32] ++ List.replicate 20 0 ++ natLE 4 0xFFFFFFFF ++ [0, 0, 1, 0, 1] ++ List.replicate 223 0
  b.take 64 ++ sha256 (bindingRecord (bare.newShape 0 b) (0, 0) (0, 0)) ++ b.drop 96

/-- A partition command that has begun in cycle 0, at the edge of cycle 3,200. -/
def atEdge1 (s : State) (c : Cmd) : State := { s with cmds := [c], clock := ⟨3200, 3200, 1, 3200⟩ }
def create1 (op : Nat) : Cmd := { cmd1 op none [] with bytes := partBytes op }

/-- Partition 0 has a shape. -/
def created1 : State := (part1 bare).put .PART_STATE_STATE 0 2

theorem witness_CreateActs :
    let s := atEdge1 bare (create1 0x600)
    s.atItsEdge id1 0x600 = some (create1 0x600) ∧ (create1 0x600).partP.part = 0 ∧
    s.checkBind 0 (s.newShape 0 (create1 0x600).bytes) false false = none ∧ (s.newShape 0 (create1 0x600).bytes).positions = [0] := by
  decide +kernel

theorem witness_ResizeActs :
    let s := atEdge1 ((bare.modBind 0 fun b => { b with shape := some (bare.newShape 0 (partBytes 0x601)) }).put .PART_STATE_STATE 0 2)
      (create1 0x601)
    s.atItsEdge id1 0x601 = some (create1 0x601) ∧ s.checkBind 0 (s.newShape 0 (create1 0x601).bytes) true false = none ∧
    s.get .PART_STATE_STATE 0 ≠ 1 := by decide +kernel

theorem witness_PartitionCommandsActAtTheirEdge :
    let e := atEdge1 created1 (create1 0x600)
    let f := atEdge1 bare (create1 0x601)
    let r := cmdP 0x603 none []
    let x := cmdP 0x602 none []
    e.atItsEdge id1 0x600 = some (create1 0x600) ∧ e.checkBind 0 (e.newShape 0 (create1 0x600).bytes) false false = some (1, 0, 0) ∧
    f.atItsEdge id1 0x601 = some (create1 0x601) ∧ f.checkBind 0 (f.newShape 0 (create1 0x601).bytes) true false = some (1, 0, 0) ∧
    (atEdge1 bare r).atItsEdge id1 0x603 = some r ∧ (atEdge1 bare r).created r.partArg = false ∧
    (atEdge1 created1 r).atItsEdge id1 0x603 = some r ∧ (atEdge1 created1 r).created r.partArg = true ∧
    (atEdge1 bare x).atItsEdge id1 0x602 = some x ∧ (atEdge1 bare x).created x.partArg = false ∧
    (atEdge1 created1 x).atItsEdge id1 0x602 = some x ∧ (atEdge1 created1 x).created x.partArg = true ∧
    ({ bare with vfs := [15] } : State).vfs.contains (15 : Fin 16).val = true := by decide +kernel

/-- Partition 0 has core 0 and the spare core 4. -/
def spared : State :=
  let s := bare.modBind 0 fun b => { b with shape := some ⟨1, 1, [0, 4], 1, [], 0, 1, 0, 0, 0, 0, 1, 0, [], []⟩ }
  ((((s.put .CORE_BIND_BOUND 0 1).put .CORE_BIND_BOUND 4 1).put .CORE_BIND_SPARE 4 1).put .CORE_BIND_SLOT 4 1).put .PART_STATE_STATE 0 2

theorem witness_PositionsChangeAtAnEdge :
    let v := (bare.newShape 0 (partBytes 0x601))
    let a := ((bare.modBind 0 fun b => { b with shape := some v, armed := some v }).put .PART_STATE_STATE 0 4)
    let z := ((bare.modBind 0 fun b => { b with armed := some v }).put .PART_STATE_STATE 0 4).put .PART_STATE_GEN 0 7
    let m := spared.modBind 0 fun b => { b with remap := [(0, 0xFF, false)] }
    let k := bare.modCore 0 fun k => { k with clearing := some 3199 }
    (a.part 0).bind.armed = some v ∧ a.partDue 0 = true ∧ a.get .PART_STATE_STATE 0 = 4 ∧ (a.part 0).run.task = none ∧
    (a.part 0).run.next = none ∧ a.checkBind 0 (a.newShape 0 v.params) true true = none ∧
    (z.part 0).bind.armed = some v ∧ z.partDue 0 = true ∧ z.get .PART_STATE_STATE 0 = 4 ∧
    z.checkBind 0 (z.newShape 0 v.params) true true = some (2, 0, 0) ∧
    (m.part 0).bind.remap = [(0, 0xFF, false)] ∧ m.partDue 0 = true ∧ (m.part 0).bind.shape.isSome = true ∧ 0 < (m.part 0).lcores ∧ m.pickSpare 0 0xFF = some 4 ∧
    (k.core 0).clearing = some 3199 ∧ k.now ≤ 3199 ∧ 3199 < k.nextEdge := by decide +kernel

theorem witness_CoreFenceAndRemap :
    let u := cmdP 0x606 none [(29, 1)]
    let f := cmdP 0x606 none [(28, 0)]
    let g := cmdP 0x606 none [(28, 4)]
    let r := cmdP 0x607 none [(30, 255)]
    (atEdge1 bare u).atItsEdge id1 0x606 = some u ∧ u.fenceP.2 = true ∧
    (atEdge1 bare f).atItsEdge id1 0x606 = some f ∧ f.fenceP.2 = false ∧ (atEdge1 bare f).boundTo f.fenceP.1 = none ∧
    (atEdge1 spared f).boundTo f.fenceP.1 = some 0 ∧ (atEdge1 spared f).get .CORE_BIND_SPARE f.fenceP.1 ≠ 1 ∧
    (atEdge1 spared g).atItsEdge id1 0x606 = some g ∧ (atEdge1 spared g).boundTo g.fenceP.1 = some 0 ∧
    (atEdge1 spared g).get .CORE_BIND_SPARE g.fenceP.1 = 1 ∧ ((atEdge1 spared g).part 0).bind.shape.isSome = true ∧
    (atEdge1 spared r).atItsEdge id1 0x607 = some r ∧ (atEdge1 spared r).pickSpare r.remapP.1 r.remapP.2.2 = some 4 := by decide +kernel

theorem witness_RequestsWaitForTheNextEdge :
    let s := up bare
    let t := running s
    let j := fun (o : Byte) => cmdP 0x702 none [(28, o)]
    s.booted = true ∧ (s.part 0).names 0 = false ∧ t.booted = true ∧ (t.part 0).names 0 = true ∧ (247 : Nat) < 248 ∧
    s.fusedOff 247 = false ∧ (248 : Nat) ≤ 248 ∧ s.mayDeflate 96 = true ∧ s.mayDeflate 248 = false ∧
    (with1 (j 0)).journalReady id1 0 = some (j 0) ∧ (with1 (j 1)).journalReady id1 1 = some (j 1) := by decide +kernel

theorem witness_BindMakesSlotsReadyOrUnfit :
    let s := bare.modPart 0 fun x => { x with slots := [(31, { Slot.init with pending := true })] }
    let t := bare.modBind 0 fun b => { b with rebinds := [31, 0] }
    ((s.part 0).slot 31).pending = true ∧ ((t.part 0).slot 31).pending = false ∧ (t.part 0).bind.rebinds = [31, 0] ∧
    (bare.part 0).bind.rebinds = [] ∧ ((bare.part 0).slot 31).pending = false := by decide +kernel

/-- The start of frame 1,024, with a mode change of partition 0 from frame 0. -/
def change1 (mode : Nat) (commit : Option (Nat × Nat × Nat)) (decided : Bool) (ack : Nat) : State :=
  let s : State := { part1 (with1 (cmdP 0x605 none [])) with clock := ⟨3276800, 3276800, 1024, 3200⟩ }
  { (s.put .PART_MODE_ACK 0 ack) with mode := some ⟨mode, 1, 0, 800, 0, commit, decided⟩ }

theorem witness_ModeChangesRunToTheirEnd_command :
    let p := cmdP 0x604 none [(28, 1), (30, 1)]
    let m := cmdP 0x605 none []
    (with1 p).ready id1 0x604 = some p ∧ p.modeP.2.1.testBit 0 = true ∧
    (change1 1 none false 1).ready id1 0x605 = some m ∧ (change1 1 none false 1).mode.isSome = true := by decide +kernel

theorem witness_ModeChangesRunToTheirEnd_expire :
    let s := (change1 1 none false 3).put .PART_STATE_STATE 0 5
    s.atEdge = true ∧ s.mode = some ⟨1, 1, 0, 800, 0, none, false⟩ ∧ 0 + 1024 ≤ s.clock.frameNo ∧ (1 : Nat).testBit 0 = true ∧
    s.get .PART_STATE_STATE 0 = 5 := by decide +kernel

theorem witness_ModeChangesRunToTheirEnd_decision :
    let c := some (0, 0, 2)
    let m : ModeChange := ⟨1, 1, 0, 800, 0, c, false⟩
    let s := change1 1 c false 1
    let r := change1 1 c false 2
    let o := change1 1 c false 3
    s.mode = some m ∧ s.atEdge = true ∧ 2 ≤ s.reelCount + 2 ∧ s.ackMask m (· == 2) = 0 ∧
    s.ackMask m (fun a => a != 1 && a != 2) = 0 ∧ r.ackMask m (· == 2) = 1 ∧ o.ackMask m (fun a => a != 1 && a != 2) = 1 ∧
    r.findCmd 0 0 = some (cmdP 0x605 none []) ∧ (cmdP 0x605 none []).due = none := by decide +kernel

theorem witness_ModeChangesRunToTheirEnd_switch :
    let s := change1 1 (some (0, 0, 0)) true 1
    let t := change1 2 (some (0, 0, 0)) true 1
    s.mode = some ⟨1, 1, 0, 800, 0, some (0, 0, 0), true⟩ ∧ t.mode = some ⟨2, 1, 0, 800, 0, some (0, 0, 0), true⟩ ∧ s.atEdge = true ∧
    0 ≤ s.reelCount ∧ s.findCmd 0 0 = some (cmdP 0x605 none []) ∧ (s.part 0).positions = [0] := by decide +kernel

theorem witness_ServiceCommandsComplete_bist :
    let b := cmdP 0x700 none [(28, 95), (29, 8)]
    let s : State := { bare with bists := [⟨0, 0, 95, 8, false⟩] }
    let u : State := { bare with bists := [⟨0, 0, 95, 0, false⟩] }
    (with1 b).ready id1 0x700 = some b ∧ (s.bists.find? fun b => b.position == (95 : Fin 96).val && !b.done) = some ⟨0, 0, 95, 8, false⟩ ∧
    (8 : Nat).testBit 3 = true ∧ (0 : Nat) ≠ 5 ∧
    (u.bists.find? fun b => b.position == (95 : Fin 96).val && !b.done) = some ⟨0, 0, 95, 0, false⟩ ∧ (0 : Nat).testBit 3 = false := by
  decide +kernel

/-- An injected fault that falls due at this edge. -/
def injected1 (kind : Nat) : State := { (port0 (with1 (cmdP 0x701 none []))) with injects := [⟨0, 0, kind, 0, 0, 0, 0, 0⟩] }

theorem witness_ServiceCommandsComplete_fault :
    let d := cmdP 0x701 none []
    (with1 d).ready id1 0x701 = some d ∧ (injected1 1).portTalks 0 = true ∧ (injected1 1).atEdge = true ∧
    (∀ k ∈ [1, 2, 5], ((injected1 k).injects.find? fun i => i.queue == id1.queue.val && i.seq == id1.seq) = some ⟨0, 0, k, 0, 0, 0, 0, 0⟩) ∧
    0 ≤ (injected1 1).reelCount ∧ (injected1 1).findCmd 0 0 = some d ∧ d.due = none ∧ d.part = none ∧
    ∀ x ∈ (injected1 1).cmds, x.queue = d.queue → x.seq = d.seq → x = d := by decide +kernel

theorem witness_ServiceCommandsComplete_journal :
    let m := cmdP 0x702 (some 0) [(28, 2)]
    let a := cmdP 0x702 (some 0) [(28, 3), (30, 1)]
    let x := later (on0 a)
    (on0 m).journalReady id1 2 = some m ∧ x.journalReady id1 3 = some a ∧ a.part = some 0 ∧
    x.boundCycle 0 a.journal.phase + a.journal.rows ≤ x.now + 1 ∧ x.lcore 0 0 = Core.init ∧ Core.init.ecc = [] ∧
    Core.init.past = [] ∧ (x.part 0).lcores = 1 := by decide +kernel

/-- Partition 0 owns entry 0 of the Expert Residency Table. -/
def ert0 : State := (up bare).modBind 0 fun b => { b with shape := some ⟨1, 0, [0], 1, [], 0, 1, 0, 0, 0, 0, 1, 0, [], []⟩ }

theorem witness_ResidencyTableSwitchesAtAnEdge :
    let b := ert0.put .PART_ERT_CTL_SYNC_BUSY 0 1
    let d : State := { (ert0.modStrm 0 fun x => { x with ertSwitch := some 0 }) with clock := ⟨3200, 3200, 1, 3200⟩ }
    let g := d.put .PART_ERT_GEN_SHADOW 0 1
    let y : State := { (b.modStrm 0 fun x => { x with ertSync := some 0 }) with clock := ⟨6400, 6400, 2, 3200⟩ }
    ert0.booted = true ∧ ert0.ertOwner 0 = some 0 ∧ ert0.get .PART_ERT_CTL_SYNC_BUSY 0 ≠ 1 ∧
    (ert0.part 0).strm.ertSwitch = none ∧ ert0.ertOwner 262143 = none ∧ b.get .PART_ERT_CTL_SYNC_BUSY 0 = 1 ∧
    d.atEdge = true ∧ d.ertDue 0 = true ∧ (d.part 0).bind.shape.isSome = true ∧
    d.get .PART_ERT_GEN_SHADOW 0 ≠ (d.get .PART_ERT_GEN_COMMITTED 0 + 1) % 2 ^ 32 ∧
    g.atEdge = true ∧ g.ertDue 0 = true ∧ g.get .PART_ERT_GEN_SHADOW 0 = (g.get .PART_ERT_GEN_COMMITTED 0 + 1) % 2 ^ 32 ∧
    g.get .PART_ERT_CTL_SYNC_BUSY 0 = 0 ∧ (y.part 0).strm.ertSync = some 0 ∧ y.atEdge = true ∧ 0 + 2 ≤ y.clock.frameNo := by decide +kernel

theorem witness_ResidencyTable_patrol :
    let s := ({ bare with clock := ⟨231, 0, 0, 3200⟩ } : State).put .HBM_STAT_STATE 47 1
    let e := s.put .HBM_SCRUB_POSITION 47 805306368
    let l := e.put .HBM_STAT_STATE 47 2
    let r : State := { bare with carrier := { bare.carrier with ertCommitted := [(0, 2 + 256)] } }
    let q : State := { (r.put .HBM_SCRUB_POSITION 0 375) with carrier := { r.carrier with passes := [(0, (138240000000000, 0))] } }
    s.get .HBM_STAT_STATE (47 : Fin 48).val = 1 ∧ (s.carrier.patrol.all fun c => !inStack 47 c.1) = true ∧
    s.get .HBM_SCRUB_POSITION 47 = 0 ∧ e.get .HBM_SCRUB_POSITION 47 = 805306368 ∧ l.get .HBM_STAT_STATE 47 = 2 ∧
    s.patrolTime = true ∧ e.patrolTime = true ∧ Tab.get 0 s.carrier.patrolled 47 ≠ s.periodNow / 1000 + 1 ∧
    ertState (Tab.get 0 r.carrier.ertCommitted 0) = 2 ∧ 0 < ertShards (2 + 256) ∧
    Tab.get 0 r.carrier.checked (r.residentShard (2 + 256) 0) = 0 ∧ r.carrier.bad.contains (r.residentShard (2 + 256) 0) = false ∧
    sha256 (Mem.read r.carrier.mem 0 0) ≠ shDigest (List.replicate 64 0) ∧
    q.patrolRead (q.residentShard (2 + 256) 0) 0 (0 + q.checkInterval) = true := by decide +kernel

theorem witness_StacksAreServicedInOrder :
    let o := (up bare).put .HBM_STAT_STATE 0 1
    let d := (up bare).put .HBM_STAT_STATE 0 2
    let r := d.put .HBM_SVC_DRAINED 0 1
    let g : State := { d with carrier := { d.carrier with draining := [(0, 0)] }, clock := ⟨3200, 3200, 1, 3200⟩ }
    o.booted = true ∧ o.get .HBM_STAT_STATE (0 : Fin 48).val = 1 ∧ o.stackCoded 0 = false ∧ o.stackPointed 0 = false ∧
    d.get .HBM_STAT_STATE 0 ≠ 1 ∧ r.get .HBM_STAT_STATE 0 = 2 ∧ r.get .HBM_SVC_DRAINED 0 = 1 ∧ d.get .HBM_SVC_DRAINED 0 ≠ 1 ∧
    (g.carrier.draining.find? fun d => d.1 == 0) = some (0, 0) ∧ g.atEdge = true ∧ 0 < g.now ∧
    (List.range 16).all (fun p => !g.olderRuns p 0) = true := by decide +kernel

theorem witness_StacksAreServicedInOrder_pages :
    let s := (up bare).put .HBM_STAT_STATE 47 3
    let c : State := { bare with carrier := { bare.carrier with clearing := [47 * 48 + 47] } }
    let a : State := { bare with carrier := { bare.carrier with active := [(47, some 47)] } }
    s.get .HBM_STAT_STATE (47 : Fin 48).val = 3 ∧ Tab.get none c.carrier.active 47 = none ∧ c.heldBursts < 125 ∧
    ((List.range 48).find? fun i => c.carrier.clearing.contains (47 * 48 + i) && c.pageFree (47 * 48 + i)) = some 47 ∧
    Tab.get none a.carrier.active 47 = some 47 := by decide +kernel

theorem witness_StacksAreServicedInOrder_links :
    let l := ((on0 (cmdP 0 (some 0) [])).modBind 0 fun b =>
      { b with shape := some ⟨1, 0, [0], 1, [], 0, 1, 0, 0, 2, 0, 0, 1, [], []⟩ }).put .CORE_BRIDLE_LINK_STATE 0 1
    (bare.put .CORE_BRIDLE_LINK_STATE 95 1).linkUp (95 : Fin 96).val = true ∧ bare.laneOwner (374 : Fin 375).val = none ∧
    2 ≤ [1, 2][1] ∧ (∀ f ∈ [1, 0], f < 2) ∧ 1 ∈ [1, 0] ∧
    l.linkUp 0 = true ∧ l.laneOwner 0 = some (0, 0) ∧ l.now < l.nextEdge ∧ (l.charge 0 l.now).isSome = true := by decide +kernel

/-- A task of partition 0 runs on core 0, whose domain is on. -/
def working : State := ((((on0 (cmdP 0 (some 0) [])).put .CORE_BIND_BOUND 0 1).put .PWR_DOM_STAT_STATE 0 2))

theorem witness_FailedPartsStop :
    let f := bare.put .CORE_BIND_FENCED 95 1
    let r := spared.put .PART_RECOVER_AUTO_REMAP 0 1
    f.get .CORE_BIND_FENCED (95 : Fin 96).val = 1 ∧ (f.bists.all fun b => b.position != 95 || b.done) = true ∧
    bare.get .CORE_BIND_FENCED 95 ≠ 1 ∧ bare.boundTo 95 = none ∧
    working.active 0 = true ∧ working.boundTo 0 = some 0 ∧ (working.charge 0 working.now).isSome = true ∧ r.boundTo 0 = some 0 ∧
    r.get .CORE_BIND_SPARE 0 = 0 ∧ r.get .PART_RECOVER_AUTO_REMAP 0 = 1 ∧ r.freeSpares 0 ≠ [] ∧ bare.get .HBM_STAT_STATE 47 ≠ 4 := by
  decide +kernel

theorem witness_FailedPartsStop_halves :
    let one := up bare
    let two := one.put .GCTL_FW_STAT_GE_STATE 0 3
    let t : State := { (bare.put .GCTL_FW_STAT_GE_STATE 0 3) with gondola := ⟨true, false, 0, true, 0⟩ }
    two.drives (0 : Fin 2).val = true ∧ two.drives (1 - 0) = true ∧ one.drives 0 = true ∧ one.drives (1 - 0) = false ∧
    t.gondola.takeover = true ∧ t.drives (1 - t.gondola.firmware) = true := by decide +kernel

theorem witness_FailedPartsStop_limits :
    let on := fun d => bare.put .PWR_DOM_STAT_STATE d 2
    let lost := (on 96).setDomain 96 { Domain.init with groupsLost := 1 }
    let port := (on (168 + 63)).put .TETH_STAT_STATE 63 3
    let half := (up (on 248))
    (∀ d ∈ [0, 95, 96, 119, 120, 167, 168, 231, 248, 249], (on d).active d = true ∧ (on d).get .PWR_DOM_STAT_STATE d ≠ 3) ∧
    ((on 96).domain 96).groupsLost = 0 ∧ lost.active 96 = true ∧ 1 ≤ (lost.domain 96).groupsLost ∧ port.active 231 = true ∧
    port.get .TETH_STAT_STATE 63 ≠ 0 ∧ half.active 248 = true ∧ half.drives 0 = true := by decide +kernel

/-- Domain 0 is at a stage of its inflation. -/
def staged (n : Nat) : State := bare.setDomain 0 { Domain.init with stage := n }

theorem witness_PowerRunsByItsStates_domains :
    let w := bare.setDomain 249 { Domain.init with waiting := true }
    let f := fun d => bare.put .PWR_DOM_STAT_STATE d 3
    (up bare).booted = true ∧ ((List.range 250).filter fun d => (w.domain d).stage != 0).length < 8 ∧
    ((List.range 250).find? fun d => (w.domain d).waiting) = some 249 ∧
    (∀ n ∈ [1, 2, 3, 4], ((staged n).domain 0).stage = n) ∧ stageLimit 1 = 100 ∧ stageLimit 4 = 3000 ∧
    (f 0).get .PWR_DOM_STAT_STATE (0 : Fin 250).val = 3 ∧ (f 167).get .PWR_DOM_STAT_STATE 167 = 3 ∧
    (f 231).get .PWR_DOM_STAT_STATE 231 = 3 := by decide +kernel

theorem witness_PowerRunsByItsStates_droop :
    let s := bare.put .PWR_DOM_STAT_STATE 249 2
    let u := bare.put .PWR_DOM_STAT_STATE 249 4
    hasRegulator (249 : Fin 250).val = true ∧ hasRegulator 231 = true ∧ hasRegulator 232 = false ∧ (500 : Nat) < 501 ∧
    s.get .PWR_DOM_STAT_STATE 249 = 2 ∧ u.get .PWR_DOM_STAT_STATE 249 = 4 ∧
    s.getA .PWR_DOM_DROOP_BASELINE 249 * s.get .PWR_CFG_DROOP_WARN 0 < 100 * min (median [1]) 0xFFFF ∧
    s.getA .PWR_DOM_DROOP_BASELINE 249 * s.get .PWR_CFG_DROOP_FAIL 0 < 100 * min (median [1]) 0xFFFF := by decide +kernel

theorem witness_PowerRunsByItsStates_module :
    let x : ClockStep := ⟨4, false, 4, 0, 0⟩
    let s : State := { bare with power := { bare.power with step := some x } }
    bare.get .GCTL_STAT_STOPPED 0 = 0 ∧ bare.power.step = none ∧ s.power.step = some x ∧ x.quiet = 4 ∧ s.atEdge = true ∧
    (∀ p, p < 16 → s.get .PART_JRNL_STAT_ENABLED p ≠ 1) ∧ bare.power.shutdown = false ∧
    (bare.put .PWR_BRICK_STATE 17 1).get .PWR_BRICK_STATE (17 : Fin 18).val = 1 ∧
    (bare.put .PWR_BRICK_STATE 17 0).get .PWR_BRICK_STATE 17 = 0 := by decide +kernel

theorem witness_TetherPortsKeepTheirLanes_messages :
    let s := port0 bare
    let h := s.modPort 0 fun x => { x with seen := [7] }
    let n := s.put .TETH_NODE_NODE 0 5
    (∀ t ∈ [2, 3, 4, 5, 6, 7], Heard s (0 : Fin 64).val (msg1 t) t) ∧ h.portHears 0 = true ∧ (h.port 0).seen.contains (msg1 2).seq = true ∧
    s.portTalks 0 = true ∧
    Heard n 0 (msg1 2) 2 ∧ s.get .TETH_NODE_NODE 0 = 0 ∧ n.get .TETH_NODE_NODE 0 ≠ 0 ∧ n.get .TETH_NODE_NODE 0 ≠ u32 (msg1 2).body 0 ∧
    u8 (msg1 4).body 0 < 16 := by unfold Heard; decide +kernel

/-- A long frame of which one symbol is wrong, and one of which a whole symbol time is. -/
def fixedFrame : WslFrame := { sealFrame { frame1 2 1 with short := false } with errors := [⟨0, 0, 15, 1⟩] }
def wrongFrame : WslFrame := { sealFrame { frame1 2 1 with short := false } with errors := (List.range 16).map fun l => ⟨7, 33, l, 1023⟩ }

theorem witness_TetherPortsKeepTheirLanes_frames :
    let s := port0 bare
    let l := s.modPort 0 fun x => { x with rx := { x.rx with lossy := true } }
    let b := bare.put .TETH_STAT_STATE 0 5
    s.slotOpen (0 : Fin 64).val = true ∧ b.get .TETH_STAT_STATE 0 = 5 ∧
    ((s.wrongAt 0 fixedFrame).filter fun y => !y.isEmpty && decodes y).length = 1 ∧ s.linkOk 0 fixedFrame = true ∧
    ((s.wrongAt 0 wrongFrame).filter fun y => !decodes y).length = 1 ∧ s.linkOk 0 wrongFrame = false ∧
    (s.port 0).rx.lossy = false ∧ (l.port 0).rx.lossy = true ∧ fixedFrame.short = false ∧ 2 ≤ fixedFrame.cls ∧ fixedFrame.cls ≤ 4 := by
  decide +kernel

theorem witness_TetherPortsKeepTheirLanes_resends :
    let u : Sent := ⟨msg1 2, 0, 0⟩
    let v : Sent := ⟨msg1 2, 0, 3⟩
    let s := fun (x : Sent) => ({ ((port0 bare).modPort 0 fun y => { y with sent := [x] }) with clock := ⟨6400, 6400, 2, 3200⟩ } : State)
    ((s u).port 0).overdue 2 = some u ∧ ((s v).port 0).overdue 2 = some v ∧ (s u).slotOpen 0 = true ∧ (s u).clock.frameNo = 2 ∧
    u.resends < 3 ∧ 3 ≤ v.resends := by decide +kernel

theorem witness_TetherPortsKeepTheirLanes_lanes :
    let a := (port0 bare).modPort 0 fun x => { x with rx := { x.rx with lanes := List.replicate 16 1 ++ [2] } }
    let b := (port0 bare).modPort 0 fun x => { x with rx := { x.rx with lanes := List.replicate 16 1 ++ [3] } }
    let g := a.modPort 0 fun x => { x with laneErrs := [(15, 5000)], tx := { x.tx with lanes := List.replicate 16 1 ++ [2] } }
    let d := (port0 bare).modPort 0 fun x => { x with rx := { x.rx with substitute := some (15, 0) } }
    let e := (port0 bare).modPort 0 fun x => { x with tx := { x.tx with narrow := some (255, 0, 0) } }
    let f := (port0 bare).modPort 0 fun x => { x with rx := { x.rx with narrow := some (255, 0, 0) } }
    let c := ((port0 bare).put .TETH_CFG_UNCORR_LIMIT 0 1).put .TETH_UNCORR_SINCE_TRAIN 0 1
    let h := (e.put .REEL_STAT_STATE 0 4)
    (a.port 0).rx.lanes.getD (15 : Fin 17).val 4 = 1 ∧ (a.port 0).rx.lanes.getD 16 4 = 2 ∧ (a.port 0).rx.lanes.contains 3 = false ∧
    a.width8 0 .rx = false ∧ (b.port 0).rx.lanes.getD 16 4 = 3 ∧ a.portTalks 0 = true ∧
    Tab.get 0 (a.port 0).laneErrs 15 ≤ 16 * a.get .TETH_CFG_LANE_ERR_LIMIT 0 ∧
    16 * g.get .TETH_CFG_LANE_ERR_LIMIT 0 < Tab.get 0 (g.port 0).laneErrs 15 ∧ (g.port 0).tx.lanes.getD 16 4 = 2 ∧
    ((d.port 0).dir .rx).substitute = some (15, 0) ∧ 0 ≤ d.reelCount ∧ d.portTalks 0 = true ∧
    ((e.port 0).dir .tx).narrow = some (255, 0, 0) ∧ ((f.port 0).dir .rx).narrow = some (255, 0, 0) ∧ c.portUp 0 = true ∧
    e.dataFlows 0 = true ∧ h.dataFlows 0 = false ∧ e.portTalks 0 = true ∧
    c.get .TETH_CFG_UNCORR_LIMIT 0 = 1 ∧ c.get .TETH_UNCORR_SINCE_TRAIN 0 = 1 := by decide +kernel

theorem witness_TetherPortsKeepTheirLanes_training :
    let t := bare.put .TETH_STAT_STATE 63 2
    let h := (bare.put .TETH_STAT_STATE 63 4).modPort 63 fun x => { x with retrain := some (0, []) }
    let r := t.modPort 63 fun x => { x with trained := true, assigned := true }
    let o := t.modPort 63 fun x => { x with attempts := 2 }
    t.get .TETH_STAT_STATE (63 : Fin 64).val = 2 ∧ 8 ≤ ((List.range 17).filter (0xFF : BitVec 17).toNat.testBit).length ∧
    ((List.range 17).filter (0x7F : BitVec 17).toNat.testBit).length < 8 ∧ h.get .TETH_STAT_STATE 63 = 4 ∧
    (h.retrainDue 63).get .TETH_STAT_STATE 63 = 2 ∧ r.atEdge = true ∧ r.get .TETH_STAT_STATE 63 = 2 ∧ (r.port 63).trained = true ∧
    (r.port 63).assigned = true ∧ Heard r 63 (msg1 0x0B) 0x0B ∧ (t.port 63).attempts + 1 < 3 ∧ 3 ≤ (o.port 63).attempts + 1 := by
  unfold Heard; decide +kernel

theorem witness_PortsFollowControlsAndLasers :
    let st := fun n => (up bare).put .TETH_STAT_STATE 63 n
    let l := fun (n : Nat) => ((up bare).put .TETH_LASER_STATE 60 n)
    let p := (up bare).setLaser 15 { Laser.init with present := true }
    (st 1).booted = true ∧ (∀ n ∈ [0, 1, 2, 3, 4, 5, 6], (st n).get .TETH_STAT_STATE (63 : Fin 64).val = n) ∧
    (bare.laser (15 : Fin 16).val).present = false ∧ (p.laser 15).present = true ∧ p.booted = true ∧ (l 3).laserState 15 = 3 ∧
    (l 4).laserState 15 = 4 ∧ laserPorts 15 = [60, 61, 62, 63] := by decide +kernel

theorem witness_ResetAndBringUp :
    let u := bare.put .GCTL_STAT_UP 0 1
    let r := fun n => ({ up bare with power := { bare.power with ring := n } } : State)
    bare.get .GCTL_STAT_UP 0 ≠ 1 ∧ u.get .GCTL_STAT_UP 0 = 1 ∧ bare.mayRing = true ∧ bare.power.ring = 0 ∧
    (∀ n ∈ [1, 6, 7], (r n).mayRing = true) ∧ 2 ≤ timesIn [96, 96] (96 + 0) ∧ (0 : Nat) / 4 + 1 = 1 ∧
    (∀ d, d < 24 → d / 4 + 1 = 6 → timesIn [96, 0, 120] (96 + d) < 2) ∧ (r 1).get .CORE_BIND_DISABLED 95 ≠ 1 ∧
    (95 : Nat) / 16 + 1 = 6 ∧ bare.get .PWR_STAT_PHASE 0 = 0 ∧ bare.get .GCTL_STAT_STOPPED 0 = 0 ∧
    (∃ f ∈ Field.all, f ∉ keptFields ∧ f ≠ .GCTL_STAT_RESET_CAUSE ∧ f ∉ (fuseRegs bare.fuses).map Prod.fst) := by
  refine ⟨by decide +kernel, by decide +kernel, by decide +kernel, by decide +kernel, by decide +kernel, by decide +kernel, by decide,
    by decide +kernel, by decide +kernel, by decide, by decide +kernel, by decide +kernel, .FENCE_VALUE_VALUE, by decide +kernel,
    by decide +kernel, by decide, by decide +kernel⟩

/-- A firmware image that key 0 signs. -/
def image1 (signer : Option Nat) : Image := ⟨[], signer, 0, 1, 1, 1, 1⟩

/-- Both slots hold an image; the Gondola runs from slot A. -/
def slots1 (new : Image) (handover : Nat) : State :=
  let s := up bare
  { s with sec := { s.sec with slotA := some (image1 (some 0)), slotB := some new }, gondola := ⟨false, false, 0, false, handover⟩ }

theorem witness_FirmwareChecksBeforeItChanges :
    let a := slots1 (image1 (some 0)) 2
    let b := slots1 (image1 none) 2
    let c := ({ a with gondola := ⟨false, false, 0, false, 3⟩ } : State).put .GCTL_FW_STAT_GE_STATE 0 1
    let n := { a with sec := { a.sec with slotB := none } }
    let k := { a with gondola := { a.gondola with takeover := true } }
    a.booted = true ∧ a.sec.bootedOnce = false ∧ ({ a.sec with bootedOnce := true } : Security).bootedOnce = true ∧
    a.gondola.handover = 2 ∧ a.atEdge = true ∧ a.bootImage = some (image1 (some 0)) ∧ a.slotImage a.prevSlot = some (image1 (some 0)) ∧
    b.slotImage b.prevSlot = some (image1 none) ∧ b.handoverPasses (image1 (some 0)) (image1 none) = false ∧
    c.gondola.handover = 3 ∧ c.halfState (1 - c.gondola.firmware) = 1 ∧ a.fallbackRefused = false ∧ n.fallbackRefused = true ∧
    a.gondola.takeover = false ∧ k.gondola.takeover = true ∧ k.booted = true := by
  decide +kernel

/-- A public key, and in the host's memory its signature of the challenge of 32 zero bytes; the fuses revoke every key of the ROM. -/
def signed1 : State :=
  let s := up bare
  let key := natBE 48 0x5af17d31109327de96ed8d1f08a7bab67ff079b31e17bf2935f2ceadc96b7fdae577f0c05507b70be6c3aa664e8e4954 ++
    natBE 48 0xc8f81c4e5d350eb431b2909750bc9f7bb6f661ebb37a152cd7daa2909cd73bf8ef351b0116343370e7ff3c0a150c465e
  let sig := natBE 48 0xeaaffde2e74441ae05d69ba40930b059b182f7d5fd1f9bbd0cf7873563a4d4941894da624be73ea4bb0937c1e259b54d ++
    natBE 48 0xa38fff4ba26c15e4ac9cde8c03103ac89080fd47545fde9446c8f192729eab7bd03a4d5c3187f75fe2a71b0ee50a4a40
  { s with sec := { s.sec with ownerKey := key }, fuses := { s.fuses with revoked := 15 }, host := Mem.write [] 0 sig }

theorem witness_FirmwareChecksBeforeItChanges_token :
    signed1.booted = true ∧ (∀ p, p < 16 → signed1.created p = false) ∧ signed1.tokenSigner = some 1 ∧
    signed1.get .CORE_BIND_DISABLED 95 ≠ 1 ∧ ({ signed1 with host := [] } : State).tokenSigner = none ∧
    (signed1.put .PART_STATE_STATE 15 2).created 15 = true := by decide +kernel

theorem witness_ManagementAndLogbookAnswer :
    let s := up bare
    let n : State := { s with sec := { s.sec with negotiated := true } }
    let k : State := { s with sec := { s.sec with ownerKey := [1] } }
    let c : State := { s with power := { s.power with climate := some (300, 400) } }
    let t := s.put .LOGB_TIME_OP_SEC 0 60
    let nonce : Bytes := List.replicate 32 0
    let h : State := { s with gondola := { s.gondola with takeover := true } }
    s.booted = true ∧ s.gondola.takeover = false ∧ h.gondola.takeover = true ∧ h.booted = true ∧ nonce.length = 32 ∧ n.sec.negotiated = true ∧ (n.measurement 5).isSome = true ∧ s.sec.negotiated = false ∧
    n.measurement 0 = none ∧ n.measurement 15 = none ∧ n.measurement 32 = none ∧ (List.replicate 96 (0 : Byte)).length = 96 ∧
    s.sec.ownerKey = [] ∧ k.sec.ownerKey ≠ [] ∧ k.sec.rootOpened = false ∧ c.power.climate = some (300, 400) ∧
    s.power.climate = none ∧ t.get .LOGB_FRZ_FROZEN 0 = 0 ∧ t.book.storeTime % 2 ^ 32 + 60 ≤ t.get .LOGB_TIME_OP_SEC 0 := by decide +kernel

theorem witness_ManagementAndLogbookAnswer_book :
    let f := (up bare).put .LOGB_FRZ_FROZEN 0 1
    let o : State := { f with clock := ⟨1600000000, 1600000000, 500000, 3200⟩ }
    let y : Tally := ⟨0x9004, 2, false, false, 5, 1, 0, 0, 0⟩
    let t : State := { bare with book := { bare.book with tallies := [(3, some y)] } }
    f.get .LOGB_FRZ_FROZEN 0 = 1 ∧ f.booted = true ∧ bare.get .LOGB_FRZ_FROZEN 0 ≠ 1 ∧ o.book.frozenAt + 1600000000 ≤ o.now ∧
    t.book.findKey 0x9004 5 t.rehearsal false = some (3, y) := by decide +kernel

end Sys2Proof.Tests
end

section
/-! One step of the block, what every step keeps, and the commands that never stop it (R9, R13, R32; log entry 1). -/

namespace Sys2Proof.Machine
open Sys2Proof.Safety

theorem step_nil {s : State} (h : s.pending = []) : step s = .next s.tick := by
  unfold step
  rw [h]

theorem step_cons {s : State} {c : Instr} {r : List Instr} (h : s.pending = c :: r) :
    step s = exec c { s with pending := r } := by
  unfold step
  rw [h]

theorem State.tick_of_lt {s : State} (h : s.now + 1 < s.nextEdge) :
    s.tick = { s with clock := { s.clock with now := s.now + 1 } } := if_pos h

theorem State.tick_of_le {s : State} (h : s.nextEdge ≤ s.now + 1) : s.tick = s.frameEdge := if_neg (Nat.not_lt.2 h)

/-- Every arm of `exec` answers a next state: no meaning stops the block or is refused. -/
theorem exec_next (c : Instr) (s : State) : ∃ t, exec c s = .next t := by
  cases c <;> exact ⟨_, rfl⟩

theorem stepSafe (s : State) : StepSafe s := by
  cases h : s.pending with
  | nil => exact ⟨_, step_nil h⟩
  | cons c r => exact (exec_next c { s with pending := r }).imp fun _ e => (step_cons h).trans e

/-- The invariant says of the vital part what `Keeps` is about, and of the queue that it is well-formed. -/
theorem inv_iff {s : State} : Inv s ↔ QueueWf s = true ∧ s.vital.clock.Ok ∧ s.vital.MemOk := Iff.rfl

theorem Inv.of_keeps {s t : State} (h : Inv s) (k : Keeps s.vital t.vital) : Inv t := by
  obtain ⟨hq, hc, hm⟩ := inv_iff.1 h
  have hp : t.pending = s.pending := k.pending
  exact inv_iff.2 ⟨by rw [QueueWf, hp]; exact hq, k.clock hc, k.mem hm⟩

theorem Inv.pop {s : State} {c : Instr} {r : List Instr} (h : Inv s) (e : s.pending = c :: r) : Inv { s with pending := r } := by
  obtain ⟨hq, hc, hm⟩ := h
  rw [QueueWf, e, List.all_cons, Bool.and_eq_true] at hq
  exact ⟨hq.2, hc, hm⟩

/-- After reset the queue is empty, the clock stands at the first of 3,200 cycles, and the memories list nothing. -/
theorem State.reset_inv : Inv State.reset :=
  ⟨rfl, ⟨Nat.le_refl 0, by show 0 < 0 + 3200; omega⟩, Tab.wf_nil _, Tab.wf_nil _, Tab.wf_nil _, resetRegs_rising _⟩

/-- Settles O1: the two lemmas on `step` and the two on `tick`. -/
theorem stepTakesFront : Obligations.StepTakesFront := by
  refine ⟨fun s c r => rfl, fun s h hn => ?_, fun s h hn => ?_⟩
  · rw [step_nil h, State.tick_of_lt hn]
  · rw [step_nil h, State.tick_of_le hn]
    rfl

/-- Settles O2: the front command leaves the queue without it, and what it or the passing cycle does keeps the vital part. -/
theorem stepKeepsInvariant : Obligations.StepKeepsInvariant := by
  intro s t h e
  cases hp : s.pending with
  | nil =>
    rw [step_nil hp] at e
    cases e
    exact Inv.of_keeps h (State.tick_keeps (Keeps.refl _))
  | cons c r =>
    rw [step_cons hp] at e
    exact Inv.of_keeps (Inv.pop h hp) (exec_keeps c _ t e)

/-- Settles O3, by what stands in the reset state. -/
theorem resetHasInvariant : Obligations.ResetHasInvariant := State.reset_inv

/-- Settles O4: every meaning is a next state, and a step runs one or lets a cycle pass. -/
theorem noCommandStops : Obligations.NoCommandStops := ⟨exec_next, stepSafe⟩

/-- Settles O5: what `exec_keeps` says of the vital part, part by part. -/
theorem commandsKeepQueueAndIdentity : Obligations.CommandsKeepQueueAndIdentity := by
  intro c s t e
  obtain ⟨hp, hf, hc, hm⟩ := exec_keeps c s t e
  have hf : t.fused = s.fused := hf
  simp only [State.fused, Prod.mk.injEq] at hf
  obtain ⟨hg, he, hd, hi, hs⟩ := hf
  exact ⟨hp, hg, he, hd, hi, hs, hc, hm⟩

end Sys2Proof.Machine
end

section
/-! Accesses of a wrong size or alignment (R14, R424). -/

namespace Sys2Proof.Machine
open Sys2Proof.Safety

theorem execRegisterWrite_bad {f : Fn} {off size v : Nat} {s : State} (h : goodAccess off size = false) :
    execRegisterWrite f off size v s = .next (s.ignored off) := by
  simp only [execRegisterWrite, h, Bool.false_eq_true, if_false]

theorem execRegisterWrite_pf {off size v : Nat} {s : State} (h : goodAccess off size = true) (hb : s.booted = true) :
    execRegisterWrite .pf off size v s = .next (s.busWrite .pf off size (v % 2 ^ (8 * size))) := by
  simp only [execRegisterWrite, h, if_true, State.whenBooted, hb]

theorem execRegisterWrite_vf {p : Fin 16} {off size v : Nat} {s : State} (h : goodAccess off size = true) :
    execRegisterWrite (.vf p) off size v s = .next (s.busWrite (.vf p) off size (v % 2 ^ (8 * size))) := by
  simp only [execRegisterWrite, h, if_true]

theorem State.busWrite_vf_disabled {s : State} {p : Fin 16} {off size v : Nat} (h : s.vfs.contains p.val = false) :
    s.busWrite (.vf p) off size v = s := by
  simp only [State.busWrite, h, if_true]

theorem execBadAccess_good (f : Fn) {off size : Nat} {b : Bool} {s : State} (h : goodAccess off size = true) :
    execBadAccess f off size b s = .next s := by
  simp only [execBadAccess, h, if_true]

theorem execBadAccess_bad (f : Fn) {off size : Nat} {b : Bool} {s : State} (h : goodAccess off size = false) :
    execBadAccess f off size b s = .next (if b then (s.ignored off).send (.read (ones (8 * size))) else s.ignored off) := by
  simp only [execBadAccess, h, Bool.false_eq_true, if_false]

/-- Settles O16, by the two cases of `goodAccess` and the test of the function's enable bit. -/
theorem badAccessesAreCounted : Obligations.BadAccessesAreCounted := by
  refine fun s f off size v => ⟨fun h => ⟨execRegisterWrite_bad h, execBadAccess_bad f h, execBadAccess_bad f h⟩,
    fun h b => execBadAccess_good f h, fun p h hv => ?_⟩
  exact (execRegisterWrite_vf h).trans (congrArg _ (State.busWrite_vf_disabled hv))

end Sys2Proof.Machine
end

section
/-! Registers and memories: reads after writes, for every field of the register tables (R11, R12, R260). -/

namespace Sys2Proof.Machine
open Sys2Proof.Safety

/-- The fields' numbers count up from 0. -/
theorem Field.codes_eq_range : Field.all.map Field.code = List.range Field.all.length := by decide +kernel

theorem Field.codes_nodup : (Field.all.map Field.code).Nodup := Field.codes_eq_range ▸ List.nodup_range

theorem Field.code_inj {f g : Field} (hf : f ∈ Field.all) (hg : g ∈ Field.all) (h : f.code = g.code) : f = g :=
  List.inj_on_of_nodup_map Field.codes_nodup hf hg h

theorem Field.code_notMem_map {f : Field} {l : List Field} (hf : f ∈ Field.all) (hl : ∀ g ∈ l, g ∈ Field.all) (h : f ∉ l) :
    f.code ∉ l.map Field.code := by
  intro hm
  obtain ⟨g, hg, e⟩ := List.mem_map.1 hm
  exact h (Field.code_inj hf (hl g hg) e.symm ▸ hg)

theorem satW_lt (w x : Nat) : satW w x < 2 ^ w := by
  have := Nat.two_pow_pos w
  unfold satW
  omega

@[simp] theorem State.get_inc (s : State) (f : Field) (i n : Nat) : (s.inc f i n).get f i = satW f.width (s.get f i + n) :=
  (State.get_put _ _ _ _).trans (Nat.mod_eq_of_lt (satW_lt _ _))

@[simp] theorem State.getA_putA (s : State) (f : Field) (i v : Nat) : (s.putA f i v).getA f i = v % 2 ^ f.width := by
  have h : ∀ c ∈ s.analog.filter (fun c => decide (c.1 < f.key i)), c.1 ≠ f.key i := fun c hc =>
    Nat.ne_of_lt (of_decide_eq_true (List.mem_filter.1 hc).2)
  show Tab.get f.reset (_ ++ _) _ = _
  rw [Tab.get_append _ _ _ _ h, Tab.get, if_pos rfl]

/-- Two places of the register tables are one only if the fields and their indices are. -/
theorem Field.key_ne_of {f g : Field} (hf : f ∈ Field.all) (hg : g ∈ Field.all) {i j : Nat} (hi : i < 65536) (hj : j < 65536)
    (h : f ≠ g ∨ i ≠ j) : g.key j ≠ f.key i := by
  intro e
  unfold Field.key at e
  rcases h with h | h
  · exact h (Field.code_inj hf hg (by omega))
  · omega

/-- A cleared memory, byte by byte. -/
theorem Mem.byte_clear (m : Mem) (a n j : Nat) :
    Mem.byte (Mem.clear m a n) j = if a ≤ j ∧ j < a + n then 0 else Mem.byte m j := by
  split
  · next h => exact Mem.byte_clear_same m a n j h
  · next h => exact Mem.byte_clear_other m a n j (by omega)

/-- Settles O6: the laws of tables, of the fields' numbers and of memories. -/
theorem registersAndMemoryReadBack : Obligations.RegistersAndMemoryReadBack := by
  refine ⟨fun s f g hf hg i j v => ⟨State.get_put s f i v, fun h hi hj => ?_, State.get_inc s f i v, State.getA_putA s f i v⟩,
    fun m a bs => ⟨Mem.byte_write_same m a bs, Mem.byte_write_other m a bs, Mem.byte_clear m a⟩⟩
  by_cases e : f = g
  · subst e
    exact Tab.get_put_other _ _ _ (Field.key_ne_of hf hf hi hj h)
  · exact State.get_put_code s (fun c => e (Field.code_inj hf hg c.symm)) j i v

end Sys2Proof.Machine
end

section
/-! A write to a register under the access codes of its fields (R11, R12, R14), and the three locks (R52, R364, R400). -/

namespace Sys2Proof.Machine
open Sys2Proof.Safety

/-! ### Bits of a value -/

theorem testBit_ones (w k : Nat) : (ones w).testBit k = decide (k < w) := Nat.testBit_two_pow_sub_one w k

theorem Field.testBit_part (f : Field) (v k : Nat) : (f.part v).testBit k = (decide (k < f.width) && v.testBit (f.lo + k)) := by
  unfold Field.part bits Field.width
  rw [Nat.testBit_mod_two_pow, Nat.testBit_shiftRight]

theorem Field.part_lt (f : Field) (v : Nat) : f.part v < 2 ^ f.width := Nat.mod_lt _ (Nat.two_pow_pos _)

/-- The field lies within a register of `n` bits. -/
def Field.Within (f : Field) (n : Nat) : Prop := f.lo ≤ f.hi ∧ f.hi < n

/-- A write of the whole register is one of all the field's bits. -/
theorem Field.part_ones {f : Field} {n : Nat} (h : f.Within n) : f.part (ones n) = ones f.width := by
  obtain ⟨hl, hh⟩ := h
  refine Nat.eq_of_testBit_eq fun k => ?_
  rw [Field.testBit_part, testBit_ones, testBit_ones, ← Bool.decide_and]
  unfold Field.width
  exact decide_eq_decide.2 (by omega)

theorem Field.ones_width_ne {f : Field} {n : Nat} (h : f.Within n) : ones f.width ≠ 0 := by
  obtain ⟨hl, -⟩ := h
  have : 2 ^ 1 ≤ 2 ^ f.width := Nat.pow_le_pow_right (by omega) (by unfold Field.width; omega)
  unfold ones
  omega

theorem mergeBits_ones {w x : Nat} (old : Nat) (h : x < 2 ^ w) : mergeBits w old (ones w) x = x := by
  unfold mergeBits
  rw [Nat.and_self, Nat.xor_self, Nat.and_zero, Nat.zero_or]
  exact (Nat.and_two_pow_sub_one_eq_mod x w).trans (Nat.mod_eq_of_lt h)

/-- Setting a bit outside a field leaves the field's bits. -/
theorem Field.part_or_outside {f : Field} {b : Nat} (v : Nat) (h : f.hi < b ∧ f.lo ≤ f.hi) : f.part (v ||| 2 ^ b) = f.part v := by
  refine Nat.eq_of_testBit_eq fun k => ?_
  simp only [Field.testBit_part, Nat.testBit_or, Nat.testBit_two_pow]
  by_cases hk : k < f.width
  · have : b ≠ f.lo + k := by unfold Field.width at hk; omega
    simp [this]
  · simp [hk]

/-- Setting the bit of a field of one bit makes the field 1. -/
theorem Field.part_or_same {f : Field} (v : Nat) (h : f.hi = f.lo) : f.part (v ||| 2 ^ f.lo) = 1 := by
  have hb : (v ||| 2 ^ f.lo).testBit f.lo = true := by
    rw [Nat.testBit_or, Nat.testBit_two_pow_self, Bool.or_true]
  have hw : f.hi + 1 - f.lo = 1 := by omega
  rw [Field.part, bits, hw, Nat.shiftRight_eq_div_pow, pow_one, ← Nat.toNat_testBit, hb]
  rfl

/-! ### One field, every field -/

/-- A write of a register changes a field at most by `put`, and no field that is read-only or write-only. -/
theorem State.writeField_cases (s : State) (f : Field) (i mask v : Nat) :
    s.writeField f i mask v = s ∨ (f.acc ≠ .ro ∧ f.acc ≠ .wo ∧ ∃ x, s.writeField f i mask v = s.put f i x) := by
  unfold State.writeField
  dsimp only
  split
  · exact .inl rfl
  · cases h : f.acc with
    | ro => exact .inl rfl
    | wo => exact .inl rfl
    | w1c =>
      dsimp only
      split
      · exact .inl rfl
      · exact .inr ⟨nofun, nofun, _, rfl⟩
    | rw => exact .inr ⟨nofun, nofun, _, rfl⟩
    | rws => exact .inr ⟨nofun, nofun, _, rfl⟩
    | rwl => exact .inr ⟨nofun, nofun, _, rfl⟩

theorem State.writeField_ro (s : State) {f : Field} (h : f.acc = .ro ∨ f.acc = .wo) (i mask v : Nat) :
    s.writeField f i mask v = s :=
  (s.writeField_cases f i mask v).resolve_right fun ⟨hr, hw, _⟩ => h.elim hr hw

/-- `t` is `s` but for the registers' table. -/
def OnlyRegs (s t : State) : Prop := ∃ g, t = { s with regs := g }

theorem OnlyRegs.trans {r s t : State} (h : OnlyRegs r s) (k : OnlyRegs s t) : OnlyRegs r t := by
  obtain ⟨g, rfl⟩ := h
  obtain ⟨g', rfl⟩ := k
  exact ⟨g', rfl⟩

theorem OnlyRegs.component {s t : State} (h : OnlyRegs s t) (c : Component) : c.same s t := by
  obtain ⟨g, rfl⟩ := h
  cases c <;> rfl

theorem OnlyRegs.getA {s t : State} (h : OnlyRegs s t) (f : Field) (i : Nat) : t.getA f i = s.getA f i := by
  obtain ⟨g, rfl⟩ := h
  rfl

theorem OnlyRegs.isFresh {s t : State} (h : OnlyRegs s t) (f : Field) (i : Nat) : t.isFresh f i = s.isFresh f i := by
  obtain ⟨g, rfl⟩ := h
  rfl

theorem State.writeField_onlyRegs (s : State) (f : Field) (i mask v : Nat) : OnlyRegs s (s.writeField f i mask v) := by
  rcases s.writeField_cases f i mask v with e | ⟨-, -, x, e⟩ <;> rw [e]
  · exact ⟨s.regs, rfl⟩
  · exact ⟨_, rfl⟩

/-- A write of one place of the registers' table leaves every other place alone. -/
theorem State.get_put_key (s : State) {f g : Field} {i j : Nat} (h : g.key j ≠ f.key i) (v : Nat) :
    (s.put f i v).get g j = s.get g j :=
  Tab.get_splice g.reset s.regs _ (f.key i) 1 (g.key j) (Tab.mem_one f.reset (f.key i) (v % 2 ^ f.width)) (by omega)

theorem State.get_writeField_key (s : State) {f g : Field} {i j : Nat} (h : g.key j ≠ f.key i) (mask v : Nat) :
    (s.writeField f i mask v).get g j = s.get g j := by
  rcases s.writeField_cases f i mask v with e | ⟨-, -, x, e⟩ <;> rw [e]
  exact s.get_put_key h x

/-- What a field takes by a write of its whole register (R11). -/
def State.taken (s : State) (f : Field) (i v : Nat) : Nat := match f.acc with
  | .ro | .wo => s.get f i
  | .w1c => if s.isFresh f i then s.get f i else s.get f i &&& (ones f.width ^^^ f.part v)
  | .rw | .rws | .rwl => f.part v

theorem State.get_writeField_whole (s : State) {f : Field} {n : Nat} (hf : f.Within n) (i v : Nat) :
    (s.writeField f i (ones n) v).get f i = s.taken f i v := by
  have plain : (s.put f i (mergeBits f.width (s.get f i) (ones f.width) (f.part v))).get f i = f.part v := by
    rw [State.get_put, mergeBits_ones _ (f.part_lt v), Nat.mod_eq_of_lt (f.part_lt v)]
  have masked : f.part v &&& ones f.width = f.part v :=
    (Nat.and_two_pow_sub_one_eq_mod _ _).trans (Nat.mod_eq_of_lt (f.part_lt v))
  have small : s.get f i &&& (ones f.width ^^^ f.part v) < 2 ^ f.width :=
    Nat.and_lt_two_pow _ (Nat.xor_lt_two_pow (by have := Nat.two_pow_pos f.width; unfold ones; omega) (f.part_lt v))
  unfold State.writeField State.taken
  rw [Field.part_ones hf]
  dsimp only
  rw [if_neg (Field.ones_width_ne hf)]
  cases f.acc with
  | ro => rfl
  | wo => rfl
  | w1c =>
    dsimp only
    split
    · rfl
    · rw [masked, State.get_put, Nat.mod_eq_of_lt small]
  | rw => exact plain
  | rws => exact plain
  | rwl => exact plain


theorem State.taken_congr {s t : State} (h : OnlyRegs s t) {f : Field} {i : Nat} (e : t.get f i = s.get f i) (v : Nat) :
    t.taken f i v = s.taken f i v := by
  unfold State.taken
  rw [e, h.isFresh]

/-- Fields of one index are written, in the order of the list. -/
def State.writeList (s : State) (l : List Field) (i mask v : Nat) : State := l.foldl (fun s f => s.writeField f i mask v) s

theorem State.writeFields_eq (s : State) (r : Reg) (i mask v : Nat) : s.writeFields r i mask v = s.writeList r.fields i mask v := rfl

theorem State.writeList_cons (s : State) (f : Field) (l : List Field) (i mask v : Nat) :
    s.writeList (f :: l) i mask v = (s.writeField f i mask v).writeList l i mask v := rfl

theorem State.writeList_onlyRegs (l : List Field) (s : State) (i mask v : Nat) : OnlyRegs s (s.writeList l i mask v) := by
  induction l generalizing s with
  | nil => exact ⟨s.regs, rfl⟩
  | cons f l ih => exact (s.writeField_onlyRegs f i mask v).trans (ih _)

/-- Places other than those of the fields that a write can change are left alone. -/
theorem State.get_writeList_other {l : List Field} {g : Field} {i j : Nat}
    (h : ∀ f ∈ l, g.key j = f.key i → f.acc = .ro ∨ f.acc = .wo) (s : State) (mask v : Nat) :
    (s.writeList l i mask v).get g j = s.get g j := by
  induction l generalizing s with
  | nil => rfl
  | cons f l ih =>
    rw [State.writeList_cons, ih fun f hf => h f (List.mem_cons_of_mem _ hf)]
    by_cases c : g.key j = f.key i
    · rw [s.writeField_ro (h f List.mem_cons_self c)]
    · exact s.get_writeField_key c mask v

/-- A listed field takes what the value written gives it, whatever stands before it in the list. -/
theorem State.get_writeList_mem {l : List Field} {n : Nat} (hl : ∀ f ∈ l, f.Within n) (hn : (l.map Field.code).Nodup)
    {f : Field} (hf : f ∈ l) (s : State) (i v : Nat) : (s.writeList l i (ones n) v).get f i = s.taken f i v := by
  induction l generalizing s with
  | nil => cases hf
  | cons g l ih =>
    rw [List.map_cons, List.nodup_cons] at hn
    obtain ⟨hg, hn⟩ := hn
    have apart : ∀ x ∈ l, x.code ≠ g.code := fun x hx e => hg (e ▸ List.mem_map_of_mem hx)
    rw [State.writeList_cons]
    rcases List.mem_cons.1 hf with rfl | hf
    · rw [State.get_writeList_other fun x hx e => absurd e.symm (Field.key_ne (apart x hx) i i)]
      exact s.get_writeField_whole (hl f List.mem_cons_self) i v
    · rw [ih (fun x hx => hl x (List.mem_cons_of_mem _ hx)) hn hf]
      exact State.taken_congr (s.writeField_onlyRegs ..) (s.get_writeField_key (Field.key_ne (apart f hf) i i) ..) v

/-! ### A whole register -/

theorem Reg.mem_all_of_find {vf : Bool} {off i : Nat} {r : Reg} (h : Reg.find vf off = some (r, i)) : r ∈ Reg.all := by
  obtain ⟨x, hx, e⟩ := List.exists_of_findSome?_eq_some h
  split at e
  · obtain ⟨j, -, e⟩ := Option.map_eq_some_iff.1 e
    exact (Prod.mk.inj e).1 ▸ hx
  · cases e

theorem Reg.mem_fields {r : Reg} {f : Field} : f ∈ r.fields ↔ f ∈ Field.all ∧ f.reg = r.code := by
  unfold Reg.fields
  rw [List.mem_filter, beq_iff_eq]

theorem Reg.fields_nodup (r : Reg) : (r.fields.map Field.code).Nodup :=
  (List.filter_sublist.map _).nodup Field.codes_nodup

/-- Every field of the tables lies within its register. -/
theorem Reg.fields_within {r : Reg} (hr : r ∈ Reg.all) {f : Field} (hf : f ∈ r.fields) : f.Within r.bits := by
  have table : (Reg.all.all fun r => r.fields.all fun f => decide (f.lo ≤ f.hi) && decide (f.hi < r.bits)) = true := by decide +kernel
  have h := List.all_eq_true.1 (List.all_eq_true.1 table r hr) f hf
  rw [Bool.and_eq_true, decide_eq_true_eq, decide_eq_true_eq] at h
  exact h

/-- The fields of a register that a write can change. -/
def Reg.writable (r : Reg) : List Field := r.fields.filter fun f => f.acc != .ro && f.acc != .wo

theorem Reg.notMem_writable {r : Reg} {f : Field} (h : f ∉ r.writable) (hf : f ∈ r.fields) : f.acc = .ro ∨ f.acc = .wo := by
  by_contra k
  rw [not_or] at k
  exact h (List.mem_filter.2 ⟨hf, by simp [k]⟩)

theorem State.get_writeFields {r : Reg} (hr : r ∈ Reg.all) {f : Field} (hf : f ∈ r.fields) (s : State) (i v : Nat) :
    (s.writeFields r i (ones r.bits) v).get f i = s.taken f i v := by
  rw [State.writeFields_eq]
  exact State.get_writeList_mem (fun _ h => Reg.fields_within hr h) r.fields_nodup hf s i v

theorem State.get_writeFields_instance (s : State) (r : Reg) (f : Field) {i j : Nat} (h : j % 65536 ≠ i % 65536) (mask v : Nat) :
    (s.writeFields r i mask v).get f j = s.get f j := by
  rw [State.writeFields_eq]
  exact State.get_writeList_other (fun g _ e => by unfold Field.key at e; omega) s mask v

theorem State.writeFields_changes (s : State) (r : Reg) (i mask v : Nat) : Changes r.writable [] s (s.writeFields r i mask v) := by
  rw [State.writeFields_eq]
  have only := s.writeList_onlyRegs r.fields i mask v
  refine ⟨fun g hg hn j => ⟨State.get_writeList_other (fun f hf e => ?_) s mask v, only.getA g j⟩, fun c _ => only.component c⟩
  have code : g.code = f.code := by
    by_contra c
    exact Field.key_ne c j i e
  obtain rfl := Field.code_inj hg (Reg.mem_fields.1 hf).1 code
  exact Reg.notMem_writable hn hf

theorem State.writeFields_written {r : Reg} (hr : r ∈ Reg.all) (s : State) (i v : Nat) :
    Written s (s.writeFields r i (ones r.bits) v) r i v := by
  intro f hf
  have taken := s.get_writeFields hr hf i v
  refine ⟨fun h => ?_, fun h => ?_, fun j hj => s.get_writeFields_instance r f hj _ v⟩
  · rcases h with h | h | h <;> simpa only [State.taken, h] using taken
  · simpa only [State.taken, h] using taken

/-! ### Where an access goes -/

theorem wordOf_of_find {vf : Bool} {off i : Nat} {r : Reg} (h : Reg.find vf off = some (r, i)) : wordOf vf off = some (r, i, 0) := by
  unfold wordOf
  rw [h]

theorem wholeReg_of_find {vf : Bool} {off i : Nat} {r : Reg} (h : Reg.find vf off = some (r, i)) (hb : r.bits = 64) :
    wholeReg vf off = some (r, i) := by
  unfold wholeReg
  rw [h]
  exact if_pos hb

/-- A register without behaviour of its own follows its access codes alone. -/
theorem State.writePf_plain (s : State) {r : Reg} (h : r ∉ ownRegs) (i mask v off : Nat) :
    s.writePf r i mask v off = s.writeFields r i mask v := by
  simp only [ownRegs, List.mem_cons, List.not_mem_nil, or_false, not_or] at h
  simp only [State.writePf, lockOf, h, or_self, if_false, Option.isSome_none, Bool.false_eq_true]

theorem State.writeVf_plain (s : State) {r : Reg} (hd : r ≠ Reg.VFDB_RING) (hf : r ≠ Reg.VFFENCE_VALUE) (p : Fin 16) (i mask v off : Nat) :
    s.writeVf p r i mask v off = s.writeFields r p.val mask v := by
  simp only [State.writeVf, hd, hf, if_false]

theorem goodAccess_size {off size : Nat} (h : goodAccess off size = true) : size = 4 ∨ size = 8 := by
  simp only [goodAccess, Bool.and_eq_true, Bool.or_eq_true, beq_iff_eq] at h
  exact h.1

/-- A PF access of a register's own width writes that register whole. -/
theorem State.busWrite_pf_whole (s : State) {off size v i : Nat} {r : Reg} (hg : goodAccess off size = true) (hb : r.bits = 8 * size)
    (hr : Reg.find false off = some (r, i)) (he : ertBytes off = false) :
    s.busWrite .pf off size v = s.writePf r i (ones r.bits) v off := by
  rcases goodAccess_size hg with rfl | rfl
  · have word : s.pfWord off v = s.writePf r i (ones 32) v off := by
      simp only [State.pfWord, wordOf_of_find hr, Nat.mul_zero, pow_zero, Nat.mul_one]
    rw [hb]
    exact word
  · simp only [State.busWrite, if_true, he, Bool.false_eq_true, if_false, wholeReg_of_find hr hb, hb]

/-- A VF access of a register's own width, outside the MSI-X table, writes that register whole. -/
theorem State.busWrite_vf_whole (s : State) {off size v i : Nat} {r : Reg} {p : Fin 16} (hg : goodAccess off size = true)
    (hb : r.bits = 8 * size) (hr : Reg.find true off = some (r, i)) (hp : s.vfs.contains p.val = true)
    (ho : off < 0x40000 ∨ 0x42000 < off + size) : s.busWrite (.vf p) off size v = s.writeVf p r i (ones r.bits) v off := by
  have outside : ¬(0x40000 ≤ off ∧ off + size ≤ 0x42000) := by omega
  have word : s.vfWord p off v = s.writeVf p r i (ones 32) v off := by
    simp only [State.vfWord, wordOf_of_find hr, Nat.mul_zero, pow_zero, Nat.mul_one]
  unfold State.busWrite
  dsimp only
  rw [hp, if_neg (by decide), if_neg outside]
  rcases goodAccess_size hg with rfl | rfl
  · rw [if_neg (by decide), hb]
    exact word
  · rw [if_pos rfl, wholeReg_of_find hr hb, hb]

/-- Settles O15: the access reaches `writeFields` of the register, whose laws are `writeFields_written` and `writeFields_changes`. -/
theorem registerWritesFollowAccessCodes : Obligations.RegisterWritesFollowAccessCodes := by
  intro s r off size v hg hb hv
  have cut : v % 2 ^ (8 * size) = v := Nat.mod_eq_of_lt (hb ▸ hv)
  refine ⟨fun i hs hr ho he => ⟨s.writeFields r i (ones r.bits) v, ?_, s.writeFields_written (Reg.mem_all_of_find hr) i v,
      s.writeFields_changes r i _ v⟩,
    fun p i hp hr hd hf ho => ⟨s.writeFields r p.val (ones r.bits) v, ?_, s.writeFields_written (Reg.mem_all_of_find hr) p.val v,
      s.writeFields_changes r p.val _ v⟩⟩
  · refine (execRegisterWrite_pf hg hs).trans (congrArg _ ?_)
    rw [cut, s.busWrite_pf_whole hg hb hr he, s.writePf_plain ho]
  · refine (execRegisterWrite_vf hg).trans (congrArg _ ?_)
    rw [cut, s.busWrite_vf_whole hg hb hr hp ho, s.writeVf_plain hd hf]

/-! ### The locks -/

theorem State.lockedWrite_locked {s : State} {r : Reg} (h : s.locked r = true) (mask v off : Nat) : s.lockedWrite r mask v off = s.ignored off :=
  if_pos h

theorem State.lockedWrite_unlocked {s : State} {r : Reg} (h : s.locked r = false) (mask v off : Nat) :
    s.lockedWrite r mask v off = s.writeFields r 0 mask v := if_neg (Bool.eq_false_iff.1 h)

theorem State.locked_eq (s : State) {r : Reg} {f : Field} (h : lockOf r = some f) : s.locked r = (s.get f 0 == 1) := by
  unfold State.locked
  rw [h]

theorem Changes.mono {F G : List Field} {C : List Component} {s t : State} (h : Changes F C s t) (k : F ⊆ G) : Changes G C s t :=
  ⟨fun f hf hn => h.1 f hf fun m => hn (k m), h.2⟩

/-- A register that its topmost bit, the field `lock`, locks, and whose other fields are held by that lock. -/
structure LockReg (r : Reg) (lock : Field) : Prop where
  listed : r ∈ Reg.all
  lockOf : lockOf r = some lock
  held : lock ∈ r.fields
  oneBit : lock.hi = lock.lo
  below : ∀ f ∈ r.fields, f ≠ lock → f.hi < lock.lo
  locks : ∀ f ∈ r.fields, f.acc = .rwl

theorem Reg.fields_REEL_CFG : Reg.REEL_CFG.fields = [Field.REEL_CFG_LOCK, Field.REEL_CFG_SLACK_WARN, Field.REEL_CFG_LOCK_FRAMES] := by
  decide +kernel

theorem Reg.fields_PWR_CFG : Reg.PWR_CFG.fields =
    [Field.PWR_CFG_LOCK, Field.PWR_CFG_DROOP_FAIL, Field.PWR_CFG_DROOP_WARN, Field.PWR_CFG_CORE_BUDGET, Field.PWR_CFG_LIMIT] := by
  decide +kernel

theorem Reg.fields_LOGB_CFG : Reg.LOGB_CFG.fields = [Field.LOGB_CFG_LOCK, Field.LOGB_CFG_RATE_NEW] := by decide +kernel

theorem LockReg.reelCfg : LockReg Reg.REEL_CFG Field.REEL_CFG_LOCK where
  listed := by decide +kernel
  lockOf := rfl
  held := by rw [Reg.fields_REEL_CFG]; decide
  oneBit := rfl
  below := by rw [Reg.fields_REEL_CFG]; decide
  locks := by rw [Reg.fields_REEL_CFG]; decide

theorem LockReg.pwrCfg : LockReg Reg.PWR_CFG Field.PWR_CFG_LOCK where
  listed := by decide +kernel
  lockOf := rfl
  held := by rw [Reg.fields_PWR_CFG]; decide
  oneBit := rfl
  below := by rw [Reg.fields_PWR_CFG]; decide
  locks := by rw [Reg.fields_PWR_CFG]; decide

theorem LockReg.logbCfg : LockReg Reg.LOGB_CFG Field.LOGB_CFG_LOCK where
  listed := by decide +kernel
  lockOf := rfl
  held := by rw [Reg.fields_LOGB_CFG]; decide
  oneBit := rfl
  below := by rw [Reg.fields_LOGB_CFG]; decide
  locks := by rw [Reg.fields_LOGB_CFG]; decide

section
variable {r : Reg} {lock : Field} (h : LockReg r lock) {s : State}
include h

theorem LockReg.write_locked (hs : s.get lock 0 = 1) (mask v off : Nat) : s.lockedWrite r mask v off = s.ignored off :=
  State.lockedWrite_locked (by rw [s.locked_eq h.lockOf, hs, beq_self_eq_true]) mask v off

theorem LockReg.write_unlocked (hs : s.get lock 0 ≠ 1) (mask v off : Nat) : s.lockedWrite r mask v off = s.writeFields r 0 mask v :=
  State.lockedWrite_unlocked (by rw [s.locked_eq h.lockOf]; exact beq_eq_false_iff_ne.2 hs) mask v off

/-- A whole write with the lock bit set gives every field of a lock register its bits. -/
theorem LockReg.get_writeFields {f : Field} (hf : f ∈ r.fields) (v : Nat) :
    (s.writeFields r 0 (ones r.bits) v).get f 0 = f.part v := by
  rw [s.get_writeFields h.listed hf, State.taken, h.locks f hf]

theorem LockReg.get_lock (v : Nat) : (s.writeFields r 0 (ones r.bits) (v ||| 2 ^ lock.lo)).get lock 0 = 1 := by
  rw [h.get_writeFields h.held, Field.part_or_same v h.oneBit]

theorem LockReg.get_below {f : Field} (hf : f ∈ r.fields) (hl : f ≠ lock) (v : Nat) :
    (s.writeFields r 0 (ones r.bits) (v ||| 2 ^ lock.lo)).get f 0 = bits v f.hi f.lo := by
  rw [h.get_writeFields hf, Field.part_or_outside v ⟨h.below f hf hl, (Reg.fields_within h.listed hf).1⟩]
  rfl

end

theorem execReelCfgLock_booted {s : State} (hb : s.booted = true) (v : BitVec 32) :
    execReelCfgLock v s = .next (s.lockedWrite Reg.REEL_CFG (ones 32) (v.toNat ||| 2 ^ 31) 0x2000) := by
  simp only [execReelCfgLock, State.whenBooted, hb, if_true]

theorem execPwrCfgLock_booted {s : State} (hb : s.booted = true) (v : BitVec 64) :
    execPwrCfgLock v s = .next (s.lockedWrite Reg.PWR_CFG (ones 64) (v.toNat ||| 2 ^ 63) 0x4000) := by
  simp only [execPwrCfgLock, State.whenBooted, hb, if_true]

theorem execLogbCfgLock_booted {s : State} (hb : s.booted = true) (v : BitVec 32) :
    execLogbCfgLock v s = .next (s.lockedWrite Reg.LOGB_CFG (ones 32) (v.toNat ||| 2 ^ 31) 0x8000) := by
  simp only [execLogbCfgLock, State.whenBooted, hb, if_true]

/-- Settles O14: each of the three registers is a `LockReg`, whose lock decides between `ignored` and a whole write. -/
theorem locksHold : Obligations.LocksHold := by
  intro s hb
  refine ⟨fun v => ⟨fun hs => ?_, fun hs => ?_⟩, fun v => ⟨fun hs => ?_, fun hs => ?_⟩, fun v => ⟨fun hs => ?_, fun hs => ?_⟩⟩
  · have reg := LockReg.reelCfg
    have below {f : Field} (hf : f ∈ Reg.REEL_CFG.fields) (hl : f ≠ Field.REEL_CFG_LOCK) := reg.get_below (s := s) hf hl v.toNat
    rw [Reg.fields_REEL_CFG] at below
    exact ⟨_, (execReelCfgLock_booted hb v).trans (congrArg _ (reg.write_unlocked hs ..)), reg.get_lock v.toNat,
      below (by decide) (by decide), below (by decide) (by decide), 
      Changes.mono (s.writeFields_changes ..) (by rw [Reg.writable, Reg.fields_REEL_CFG]; decide)⟩
  · exact (execReelCfgLock_booted hb v).trans (congrArg _ (LockReg.reelCfg.write_locked hs ..))
  · have reg := LockReg.pwrCfg
    have below {f : Field} (hf : f ∈ Reg.PWR_CFG.fields) (hl : f ≠ Field.PWR_CFG_LOCK) := reg.get_below (s := s) hf hl v.toNat
    rw [Reg.fields_PWR_CFG] at below
    exact ⟨_, (execPwrCfgLock_booted hb v).trans (congrArg _ (reg.write_unlocked hs ..)), reg.get_lock v.toNat,
      below (by decide) (by decide), below (by decide) (by decide), below (by decide) (by decide), below (by decide) (by decide), 
      Changes.mono (s.writeFields_changes ..) (by rw [Reg.writable, Reg.fields_PWR_CFG]; decide)⟩
  · exact (execPwrCfgLock_booted hb v).trans (congrArg _ (LockReg.pwrCfg.write_locked hs ..))
  · have reg := LockReg.logbCfg
    have below {f : Field} (hf : f ∈ Reg.LOGB_CFG.fields) (hl : f ≠ Field.LOGB_CFG_LOCK) := reg.get_below (s := s) hf hl v.toNat
    rw [Reg.fields_LOGB_CFG] at below
    exact ⟨_, (execLogbCfgLock_booted hb v).trans (congrArg _ (reg.write_unlocked hs ..)), reg.get_lock v.toNat,
      below (by decide) (by decide), 
      Changes.mono (s.writeFields_changes ..) (by rw [Reg.writable, Reg.fields_LOGB_CFG]; decide)⟩
  · exact (execLogbCfgLock_booted hb v).trans (congrArg _ (LockReg.logbCfg.write_locked hs ..))

end Sys2Proof.Machine
end

section
/-! The registers after module reset (R13). -/

namespace Sys2Proof.Machine
open Sys2Proof.Safety

/-- Values put into fields one after another: field, index, value. -/
def State.puts (s : State) (l : List (Field × Nat × Nat)) : State := l.foldl (fun s x => s.put x.1 x.2.1 x.2.2) s

theorem State.puts_cons (s : State) (x : Field × Nat × Nat) (l : List (Field × Nat × Nat)) :
    s.puts (x :: l) = (s.put x.1 x.2.1 x.2.2).puts l := rfl

theorem State.get_puts_other {l : List (Field × Nat × Nat)} {g : Field} {j : Nat} (h : ∀ x ∈ l, g.key j ≠ x.1.key x.2.1) (s : State) :
    (s.puts l).get g j = s.get g j := by
  induction l generalizing s with
  | nil => rfl
  | cons x l ih =>
    rw [State.puts_cons, ih fun y hy => h y (List.mem_cons_of_mem _ hy)]
    exact s.get_put_key (h x List.mem_cons_self) _

theorem State.get_puts_mem {l : List (Field × Nat × Nat)} (hn : (l.map fun x => x.1.key x.2.1).Nodup) {x : Field × Nat × Nat}
    (hx : x ∈ l) (s : State) : (s.puts l).get x.1 x.2.1 = x.2.2 % 2 ^ x.1.width := by
  induction l generalizing s with
  | nil => cases hx
  | cons y l ih =>
    rw [List.map_cons, List.nodup_cons] at hn
    obtain ⟨hy, hn⟩ := hn
    rw [State.puts_cons]
    rcases List.mem_cons.1 hx with rfl | hx
    · rw [State.get_puts_other fun z hz e => hy (List.mem_map.2 ⟨z, hz, e.symm⟩), State.get_put]
    · exact ih hn hx (s.put y.1 y.2.1 y.2.2)

/-- The registers after reset are those of a state without any value listed, with the fuses' values put in. -/
theorem resetRegs_eq (f : Fuses) (s : State) : resetRegs f = (State.puts { s with regs := [] } (fuseRegs f)).regs := by
  have step (l : List (Field × Nat × Nat)) (t : State) :
      l.foldl (fun t x => Tab.put x.1.reset t (x.1.key x.2.1) (x.2.2 % 2 ^ x.1.width)) t.regs = (t.puts l).regs := by
    induction l generalizing t with
    | nil => rfl
    | cons x l ih => exact ih (t.put x.1 x.2.1 x.2.2)
  exact step (fuseRegs f) { s with regs := [] }

/-- Where fuse values go does not depend on what the fuses hold. -/
theorem fuseRegs_places (f : Fuses) : (fuseRegs f).map (fun x => (x.1, x.2.1)) = (fuseRegs Fuses.init).map fun x => (x.1, x.2.1) := by
  simp only [fuseRegs, List.map_append, List.map_map]
  rfl

theorem fuseRegs_listed (f : Fuses) : ∀ x ∈ fuseRegs f, x.1 ∈ Field.all := by
  have table : ∀ y ∈ (fuseRegs Fuses.init).map (fun x => (x.1, x.2.1)), y.1 ∈ Field.all := by decide +kernel
  intro x hx
  refine table (x.1, x.2.1) ?_
  rw [← fuseRegs_places f]
  exact List.mem_map_of_mem (f := fun x => (x.1, x.2.1)) hx

theorem fuseRegs_keys_nodup (f : Fuses) : ((fuseRegs f).map fun x => x.1.key x.2.1).Nodup := by
  have table : (((fuseRegs Fuses.init).map fun x => (x.1, x.2.1)).map fun y => y.1.key y.2).Nodup := by decide +kernel
  rw [← fuseRegs_places f, List.map_map] at table
  exact table

/-- A field that no fuse gives reads its Reset column. -/
theorem State.get_resetRegs {s : State} {f : Fuses} (h : s.regs = resetRegs f) {g : Field} (hg : g ∈ Field.all)
    (hn : g ∉ (fuseRegs f).map Prod.fst) (i : Nat) : s.get g i = g.reset := by
  have other : ∀ x ∈ fuseRegs f, g.key i ≠ x.1.key x.2.1 := fun x hx => Field.key_ne (fun e =>
    hn (Field.code_inj hg (fuseRegs_listed f x hx) e ▸ List.mem_map_of_mem hx)) i x.2.1
  have unlisted := State.get_puts_other other { s with regs := [] }
  unfold State.get at unlisted ⊢
  rw [h, resetRegs_eq f s, unlisted, Tab.get_nil]

theorem State.get_resetRegs_fuse {s : State} {f : Fuses} (h : s.regs = resetRegs f) {x : Field × Nat × Nat} (hx : x ∈ fuseRegs f) :
    s.get x.1 x.2.1 = x.2.2 % 2 ^ x.1.width := by
  have listed := State.get_puts_mem (fuseRegs_keys_nodup f) hx { s with regs := [] }
  unfold State.get at listed ⊢
  rw [h, resetRegs_eq f s, listed]

/-- Which fields the fuses give values does not depend on what they hold. -/
theorem notMem_fuseFields {g : Field} {f f' : Fuses} (h : g ∉ (fuseRegs f).map Prod.fst) : g ∉ (fuseRegs f').map Prod.fst := by
  have places := congrArg (List.map Prod.fst) ((fuseRegs_places f).trans (fuseRegs_places f').symm)
  rw [List.map_map, List.map_map] at places
  exact fun m => h (places ▸ m)

theorem State.fenceNow_of_nil {s : State} (h : s.fences = []) (f : Nat) : s.fenceNow f = s.get .FENCE_VALUE_VALUE f := by
  unfold State.fenceNow State.fenceAt
  rw [h]
  rfl

theorem reset_regs : State.reset.regs = resetRegs Fuses.init := by
  unfold State.reset
  rfl

/-- Settles O7: the registers' table after reset holds the fuses' values, and nothing else is listed. -/
theorem resetLeavesTheResetColumn : Obligations.ResetLeavesTheResetColumn := by
  have zero {g : Field} (hg : g ∈ Field.all) (hn : g ∉ (fuseRegs Fuses.init).map Prod.fst) (i : Nat) : State.reset.get g i = g.reset :=
    State.get_resetRegs reset_regs hg hn i
  refine ⟨fun g hg hn i => zero hg hn i, fun x hx => State.get_resetRegs_fuse reset_regs hx, fun f => ?_, fun p => ?_, rfl, rfl, ?_, rfl⟩
  · rw [State.fenceNow_of_nil rfl]
    exact zero (g := .FENCE_VALUE_VALUE) (by decide +kernel) (by decide +kernel) f
  · exact congrArg (· != 0) (zero (g := .PART_STATE_STATE) (by decide +kernel) (by decide +kernel) p)
  · exact zero (g := .REEL_COUNT_COUNT) (by decide +kernel) (by decide +kernel) 0

end Sys2Proof.Machine
end

section
/-! Module reset (R13, R389, R430). -/

namespace Sys2Proof.Machine
open Sys2Proof.Safety

/-- Fields put back, measurements put back: what `resetTo` does once the reset values stand. -/
theorem State.get_foldl_put {l : List Field} {g : Field} (h : g.code ∉ l.map Field.code) (v : Field → Nat) (k : Nat) (t : State) :
    (l.foldl (fun (t : State) f => t.put f 0 (v f)) t).get g k = t.get g k := by
  induction l generalizing t with
  | nil => rfl
  | cons f l ih =>
    rw [List.map_cons, List.mem_cons, not_or] at h
    obtain ⟨hf, hl⟩ := h
    rw [List.foldl_cons, ih hl]
    exact t.get_put_code hf k 0 (v f)

theorem State.get_foldl_putA (l : List Field) (g : Field) (v : Field → Nat) (k : Nat) (t : State) :
    (l.foldl (fun (t : State) f => t.putA f 0 (v f)) t).get g k = t.get g k := by
  induction l generalizing t with
  | nil => rfl
  | cons f l ih => exact ih (t.putA f 0 (v f))

theorem keptFields_listed : ∀ f ∈ keptFields, f ∈ Field.all := by decide +kernel

theorem State.get_swapSlots {g : Field} (h : g.code ∉ keptFields.map Field.code) (k : Nat) (t : State) :
    t.swapSlots.get g k = t.get g k :=
  t.get_put_code (fun e => h (List.mem_map.2 ⟨.GCTL_FW_STAT_BOOT_SLOT, by decide, e.symm⟩)) k 0 t.prevSlot

theorem State.get_reloadBook {g : Field} (h : g.code ∉ keptFields.map Field.code) (k : Nat) (t : State) :
    t.reloadBook.get g k = t.get g k := by
  have kept {f : Field} (hf : f ∈ keptFields) : g.code ≠ f.code := fun e => h (List.mem_map.2 ⟨f, hf, e.symm⟩)
  unfold State.reloadBook
  dsimp only
  rw [State.get_put_code _ (kept (by decide)), State.get_put_code _ (kept (by decide)), State.get_put_code _ (kept (by decide))]
  rfl

/-- What a module reset keeps of the parts and what it takes back (R13, R430). -/
structure Reset (s t : State) : Prop where
  pending : t.pending = s.pending
  host : t.host = s.host
  vfs : t.vfs = s.vfs
  clock : t.clock = State.reset.clock
  cmds : t.cmds = []
  recs : t.recs = []
  carrier : t.carrier = State.reset.carrier
  settings : t.sec.settings = s.sec.settings
  slotA : t.sec.slotA = s.sec.slotA
  slotB : t.sec.slotB = s.sec.slotB

/-- What `resetTo` begins from: the registers of a reset, and the book as it was. -/
structure Anew (s b : State) : Prop extends Reset s b where
  tallies : b.book.tallies = s.book.tallies
  stored : b.book.stored = s.book.stored
  regs : ∃ f : Fuses, b.regs = resetRegs f

/-- The fields that `resetTo` puts back, in `regs` or in `analog`. -/
def restoredMask : Nat :=
  (keptFields ++ [Field.LOGB_STAT_OVERWRITTEN, Field.LOGB_STAT_LOST, Field.LOGB_SEQ_SEQ]).foldl (fun m f => m ||| 2 ^ f.code) 0

theorem State.foldl_put_frame {l : List Field} {v : Field → Nat} {m : Nat} (h : ∀ f ∈ l, m.testBit f.code = true) (t : State) :
    Same m t (l.foldl (fun (t : State) f => t.put f 0 (v f)) t) := by
  induction l generalizing t with
  | nil => exact Same.refl
  | cons f l ih =>
    exact (State.put_frame (h f List.mem_cons_self) Same.refl).trans (ih (fun g hg => h g (List.mem_cons_of_mem _ hg)) (t.put f 0 (v f)))

theorem State.foldl_putA_frame {l : List Field} {v : Field → Nat} {m : Nat} (h : ∀ f ∈ l, m.testBit f.code = true) (t : State) :
    Same m t (l.foldl (fun (t : State) f => t.putA f 0 (v f)) t) := by
  induction l generalizing t with
  | nil => exact Same.refl
  | cons f l ih =>
    exact (State.putA_frame (h f List.mem_cons_self) Same.refl).trans (ih (fun g hg => h g (List.mem_cons_of_mem _ hg)) (t.putA f 0 (v f)))

theorem restoredMask_kept : ∀ f ∈ keptFields, restoredMask.testBit f.code = true := by decide +kernel
theorem restoredMask_counts :
    ∀ f ∈ [Field.LOGB_STAT_OVERWRITTEN, Field.LOGB_STAT_LOST, Field.LOGB_SEQ_SEQ], restoredMask.testBit f.code = true := by decide +kernel

/-- `resetTo` by its stages: reset values, the kept fields put back, the stored book at a power-on, the cause. -/
theorem State.resetTo_stages (s : State) (cause : Nat) : ∃ b t : State,
    s.resetTo cause = (if cause = 0 then t.reloadBook else t).put .GCTL_STAT_RESET_CAUSE 0 cause ∧ Same restoredMask b t ∧
    (∀ g : Field, g.code ∉ keptFields.map Field.code → ∀ k, t.get g k = b.get g k) ∧ Anew s b := by
  have swap (t : State) : Same restoredMask t t.swapSlots := State.swapSlots_frame.mono (by decide +kernel)
  refine ⟨_, _, rfl, ((State.foldl_put_frame restoredMask_kept _).trans (State.foldl_putA_frame restoredMask_counts _)).trans
    (Same.ite (swap _) Same.refl), fun g kept k => ?_, ?_⟩
  · rw [apply_ite (fun t : State => t.get g k), State.get_swapSlots kept, ite_self, State.get_foldl_putA, State.get_foldl_put kept]
  · exact ⟨⟨rfl, rfl, rfl, rfl, rfl, rfl, rfl, rfl, rfl, rfl⟩, rfl, rfl, _, rfl⟩

/-- A reset of the registers leaves alone neither the kept fields nor the cause; every other field takes its Reset column. -/
theorem State.get_resetTo {g : Field} (hg : g ∈ Field.all) (hk : g ∉ keptFields) (hc : g ≠ .GCTL_STAT_RESET_CAUSE)
    (hf : g ∉ (fuseRegs Fuses.init).map Prod.fst) (s : State) (cause k : Nat) : (s.resetTo cause).get g k = g.reset := by
  have kept : g.code ∉ keptFields.map Field.code := Field.code_notMem_map hg keptFields_listed hk
  have noCause : g.code ≠ Field.GCTL_STAT_RESET_CAUSE.code := fun e => hc (Field.code_inj hg (by decide +kernel) e)
  obtain ⟨b, t, e, -, ht, anew⟩ := s.resetTo_stages cause
  obtain ⟨f, hb⟩ := anew.regs
  rw [e, State.get_put_code _ noCause, apply_ite (fun t : State => t.get g k), State.get_reloadBook kept, ite_self, ht g kept k]
  exact State.get_resetRegs hb hg (notMem_fuseFields hf) k

theorem State.get_resetTo_cause (s : State) {cause : Nat} (h : cause < 3) : (s.resetTo cause).get .GCTL_STAT_RESET_CAUSE 0 = cause := by
  obtain ⟨b, t, e, -⟩ := s.resetTo_stages cause
  rw [e, State.get_put]
  exact Nat.mod_eq_of_lt (Nat.lt_of_lt_of_le h (by decide))

theorem State.resetTo_reset (s : State) (cause : Nat) : Reset s (s.resetTo cause) := by
  obtain ⟨b, t, e, frame, -, anew⟩ := s.resetTo_stages cause
  have frame : Same (restoredMask ||| 2 ^ 425 ||| 2 ^ Field.GCTL_STAT_RESET_CAUSE.code) b (s.resetTo cause) := by
    rw [e]
    refine State.put_frame (by decide +kernel) ((frame.mono (by decide +kernel)).trans (Same.ite ?_ Same.refl))
    exact State.reloadBook_frame.mono (by decide +kernel)
  have sec := frame.sec (by decide +kernel)
  exact {
    pending := (frame.pending (by decide +kernel)).trans anew.pending
    host := (frame.host (by decide +kernel)).trans anew.host
    vfs := (frame.vfs (by decide +kernel)).trans anew.vfs
    clock := (frame.clock (by decide +kernel)).trans anew.clock
    cmds := (frame.cmds (by decide +kernel)).trans anew.cmds
    recs := (frame.recs (by decide +kernel)).trans anew.recs
    carrier := (frame.carrier (by decide +kernel)).trans anew.carrier
    settings := (congrArg Security.settings sec).trans anew.settings
    slotA := (congrArg Security.slotA sec).trans anew.slotA
    slotB := (congrArg Security.slotB sec).trans anew.slotB }

/-- A power-on finds the book as its store holds it (R389). -/
theorem State.resetTo_book_powerOn (s : State) : (s.resetTo 0).book.tallies = s.book.stored := by
  obtain ⟨b, t, e, frame, -, anew⟩ := s.resetTo_stages 0
  rw [e, if_pos rfl, State.put_book]
  exact (congrArg Book.stored (frame.book (by decide +kernel))).trans anew.stored

theorem State.resetTo_book (s : State) {cause : Nat} (h : cause ≠ 0) :
    (s.resetTo cause).book.tallies = s.book.tallies ∧ (s.resetTo cause).book.stored = s.book.stored := by
  obtain ⟨b, t, e, frame, -, anew⟩ := s.resetTo_stages cause
  have book := frame.book (by decide +kernel)
  rw [e, if_neg h, State.put_book, book]
  exact ⟨anew.tallies, anew.stored⟩

/-- Everything may change but the fields and parts of these numbers (a part's number is that of `Same`). -/
def maskBut (l : List Nat) : Nat := (2 ^ 432 - 1) ^^^ l.foldl (fun m b => m ||| 2 ^ b) 0

/-- What a requested reset does before it resets: the tasks end without records, and the book is thawed and stored (R430). -/
def State.wound (s : State) : State := ((s.abortAll false).thaw).storeBook false

theorem execModuleReset_powerOn (s : State) : execModuleReset 0 s = .next (s.resetTo 0) := rfl

theorem execModuleReset_down {c : Fin 3} {s : State} (hc : c.val ≠ 0) (h : s.get .GCTL_STAT_UP 0 ≠ 1) : execModuleReset c s = .next s := by
  unfold execModuleReset
  rw [if_neg hc, if_neg h]

theorem execModuleReset_up {c : Fin 3} {s : State} (hc : c.val ≠ 0) (h : s.get .GCTL_STAT_UP 0 = 1) :
    execModuleReset c s = .next (s.wound.resetTo c.val) := by
  unfold execModuleReset
  rw [if_neg hc, if_pos h]
  rfl

/-- Tasks that end and a book that is stored touch neither the queue of commands nor the virtual functions nor the stores. -/
theorem State.wound_frame (s : State) : Same (maskBut [400, 424, 427]) s s.wound :=
  ((State.abortAll_frame.mono (by decide +kernel)).trans (State.thaw_frame.mono (by decide +kernel))).trans
    (State.storeBook_frame.mono (by decide +kernel))

theorem State.wound_book (s : State) : s.wound.book.stored = s.wound.book.tallies := rfl

/-- What a module reset of cause `c` that takes place makes of `s` (R13, R389, R430). -/
def ResetBy (c : Fin 3) (s t : State) : Prop :=
  t.pending = s.pending ∧ (c.val = 0 → t.host = s.host) ∧ t.vfs = s.vfs ∧ t.clock = State.reset.clock ∧ t.reelCount = 0 ∧ t.cmds = [] ∧
  t.recs = [] ∧ t.carrier = State.reset.carrier ∧ t.sec.settings = s.sec.settings ∧ t.sec.slotA = s.sec.slotA ∧
  t.sec.slotB = s.sec.slotB ∧ (∀ p, t.created p = false) ∧ t.get .GCTL_STAT_RESET_CAUSE 0 = c.val ∧
  (c.val = 0 → t.book.tallies = s.book.stored) ∧ (c.val ≠ 0 → t.book.stored = t.book.tallies) ∧
  ∀ f ∈ Field.all, f ∉ keptFields → f ≠ .GCTL_STAT_RESET_CAUSE → f ∉ (fuseRegs s.fuses).map Prod.fst → ∀ k, t.get f k = f.reset

/-- `u` is `s` itself at a power-on, else `s` with its tasks ended and its book stored. -/
theorem State.resetTo_resetBy {s u : State} {c : Fin 3} (hp : u.pending = s.pending) (hv : u.vfs = s.vfs) (hs : u.sec = s.sec)
    (h0 : c.val = 0 → u = s) (hb : c.val ≠ 0 → u.book.stored = u.book.tallies) : ResetBy c s (u.resetTo c.val) := by
  have r := u.resetTo_reset c.val
  have zero {g : Field} (hg : g ∈ Field.all) (hk : g ∉ keptFields) (hc : g ≠ .GCTL_STAT_RESET_CAUSE)
      (hf : g ∉ (fuseRegs Fuses.init).map Prod.fst) (k : Nat) : (u.resetTo c.val).get g k = g.reset := State.get_resetTo hg hk hc hf u _ k
  refine ⟨r.pending.trans hp, fun h => r.host.trans (congrArg State.host (h0 h)), r.vfs.trans hv, r.clock, ?_, r.cmds, r.recs, r.carrier,
    r.settings.trans (congrArg Security.settings hs), r.slotA.trans (congrArg Security.slotA hs),
    r.slotB.trans (congrArg Security.slotB hs), fun p => ?_, u.get_resetTo_cause c.isLt, fun h => ?_, fun h => ?_,
    fun f hf hk hc hn k => zero hf hk hc (notMem_fuseFields hn) k⟩
  · exact zero (g := .REEL_COUNT_COUNT) (by decide +kernel) (by decide +kernel) (by decide +kernel) (by decide +kernel) 0
  · exact congrArg (· != 0) (zero (g := .PART_STATE_STATE) (by decide +kernel) (by decide +kernel) (by decide +kernel) (by decide +kernel) p)
  · rw [h, h0 h]
    exact s.resetTo_book_powerOn
  · obtain ⟨tallies, stored⟩ := u.resetTo_book h
    rw [stored, tallies, hb h]

theorem execModuleReset_resetBy {s : State} {c : Fin 3} (h : c.val = 0 ∨ s.get .GCTL_STAT_UP 0 = 1) :
    ∃ t, execModuleReset c s = .next t ∧ ResetBy c s t := by
  by_cases hc : c.val = 0
  · obtain rfl : c = 0 := Fin.ext hc
    exact ⟨_, execModuleReset_powerOn s, State.resetTo_resetBy rfl rfl rfl (fun _ => rfl) (absurd rfl)⟩
  · have frame := s.wound_frame
    exact ⟨_, execModuleReset_up hc (h.resolve_left hc), State.resetTo_resetBy (frame.pending (by decide +kernel))
      (frame.vfs (by decide +kernel)) (frame.sec (by decide +kernel)) (fun h => absurd h hc) fun _ => s.wound_book⟩

end Sys2Proof.Machine
end

section
/-! Bring-up ring by ring (R350, R351, R402). -/

namespace Sys2Proof.Machine
open Sys2Proof.Safety

/-! ### Folds -/

/-- What no step of a fold changes is as it was. -/
theorem foldl_kept {α β γ : Type} {f : β → α → β} (g : β → γ) (h : ∀ s x, g (f s x) = g s) (l : List α) (s : β) :
    g (l.foldl f s) = g s := by
  induction l generalizing s with
  | nil => rfl
  | cons x l ih => exact (ih (f s x)).trans (h s x)

/-- What the step of one element brings about, under an invariant, and no other element's step undoes, holds after the fold. -/
theorem foldl_reaches {α β : Type} {f : β → α → β} {I P : β → Prop} {x : α} {l : List α} (hm : x ∈ l) (hI : ∀ s y, I s → I (f s y))
    (hx : ∀ s, I s → P (f s x)) (hy : ∀ s, ∀ y ∈ l, y ≠ x → P s → P (f s y)) {s : β} (h : I s) : P (l.foldl f s) := by
  have stays (r : List α) : r ⊆ l → ∀ s, I s → P s → P (r.foldl f s) := by
    induction r with
    | nil => exact fun _ _ _ p => p
    | cons y r ih =>
      intro hr s i p
      refine ih (fun z hz => hr (List.mem_cons_of_mem y hz)) _ (hI s y i) ?_
      by_cases e : y = x
      · exact e ▸ hx s i
      · exact hy s y (hr List.mem_cons_self) e p
  have comes (r : List α) : r ⊆ l → x ∈ r → ∀ s, I s → P (r.foldl f s) := by
    induction r with
    | nil => exact fun _ m => absurd m List.not_mem_nil
    | cons y r ih =>
      intro hr m s i
      have hr' : r ⊆ l := fun z hz => hr (List.mem_cons_of_mem y hz)
      rcases List.mem_cons.1 m with rfl | m
      · exact stays r hr' _ (hI s x i) (hx s i)
      · exact ih hr' m _ (hI s y i)
  exact comes l (List.Subset.refl l) hm s h

/-! ### The ring's number -/

theorem State.setDomain_ring (s : State) (d : Nat) (x : Domain) : (s.setDomain d x).power.ring = s.power.ring := rfl

theorem State.domainCause_power (s : State) (d c : Nat) : (s.domainCause d c).power = s.power := State.domainCause_frame.power (by decide)

theorem State.countFailed_power (s : State) : s.countFailed.power = s.power := State.countFailed_frame.power (by decide)

theorem State.bringUpFail_ring (s : State) (d : Nat) : (s.bringUpFail d).power.ring = s.power.ring := by
  simp only [State.bringUpFail, State.countFailed_power, State.setDomain_ring, State.inc_power, State.put_power, State.domainCause_power]

theorem State.bringUpOn_ring (s : State) (d : Nat) (b : Bool) : (s.bringUpOn d b).power.ring = s.power.ring := by
  have drawn (t : State) : t.draw.2.power = t.power := rfl
  cases b <;> simp only [State.bringUpOn, Bool.false_eq_true, if_false, if_true, State.putA_power, drawn, State.setDomain_ring, State.put_power]

theorem State.bringUpUncore_ring (s : State) (d n : Nat) : (s.bringUpUncore d n).power.ring = s.power.ring := by
  simp only [State.bringUpUncore, apply_ite State.power, apply_ite Power.ring, State.bringUpOn_ring, State.bringUpFail_ring,
    State.setDomain_ring, State.put_power, State.domainCause_power, ite_self]

theorem State.bringUpStack_ring (s : State) (m : Nat) (bad : Bool) : (s.bringUpStack m bad).power.ring = s.power.ring := by
  have state (t : State) : (t.stackState m 4).power = t.power := State.stackState_frame.power (by decide)
  simp only [State.bringUpStack, apply_ite State.power, apply_ite Power.ring, state, State.put_power, State.bringUpOn_ring,
    State.bringUpFail_ring, ite_self]

theorem State.bringUpCore_ring (s : State) (n : Nat) (bad : Bool) : (s.bringUpCore n bad).power.ring = s.power.ring := by
  simp only [State.bringUpCore, apply_ite State.power, apply_ite Power.ring, State.atNextEdge_power, State.put_power,
    State.bringUpOn_ring, State.bringUpFail_ring, ite_self]

theorem State.bringUpLaser_ring (s : State) (e : Nat) (bad : Bool) : (s.bringUpLaser e bad).power.ring = s.power.ring := by
  have checked : (s.checkLaser e).power = s.power := State.checkLaser_frame.power (by decide)
  simp only [State.bringUpLaser, apply_ite State.power, apply_ite Power.ring, State.bringUpFail_ring, checked, ite_self]

theorem State.columnRing_ring (s : State) (col : Nat) (failed : List Nat) : (s.columnRing col failed).power.ring = s.power.ring := by
  unfold State.columnRing
  dsimp only
  split
  · exact foldl_kept (fun s : State => s.power.ring) (fun s d => s.bringUpUncore_ring _ _) _ s
  · rw [foldl_kept (fun s : State => s.power.ring) fun s i => s.bringUpCore_ring _ _,
      foldl_kept (fun s : State => s.power.ring) fun s i => s.bringUpStack_ring _ _,
      congrArg Power.ring (State.trainLinks_frame.power (by decide)),
      foldl_kept (fun s : State => s.power.ring) fun s d => s.bringUpUncore_ring _ _]

theorem State.gondolaRing_ring (s : State) (failed : List Nat) : (s.gondolaRing failed).power.ring = s.power.ring := by
  have halves : ([248, 249].foldl (fun (s : State) d => if failed.contains d then s.bringUpFail d else s.bringUpOn d true) s).power.ring =
      s.power.ring := by
    refine foldl_kept (fun s : State => s.power.ring) (fun s d => ?_) _ s
    split
    · exact s.bringUpFail_ring d
    · exact s.bringUpOn_ring d true
  have boot (t : State) : (t.bootHalves failed).power = t.power := State.bootHalves_frame.power (by decide)
  unfold State.gondolaRing
  dsimp only
  rw [apply_ite State.power, State.applySettings_frame.power (by decide), State.readModules_frame.power (by decide), ite_self, boot]
  exact halves

theorem State.opticsRing_ring (s : State) (failed : List Nat) : (s.opticsRing failed).power.ring = s.power.ring := by
  have engine (t : State) (n : Nat) : (if failed.contains (168 + n) then t.bringUpFail (168 + n)
      else (t.bringUpOn (168 + n) true).setPortState n 1).power.ring = t.power.ring := by
    split
    · exact t.bringUpFail_ring _
    · exact (congrArg Power.ring (State.setPortState_frame.power (by decide))).trans (t.bringUpOn_ring _ true)
  unfold State.opticsRing
  dsimp only
  rw [apply_ite State.power, State.completeBringUp_frame.power (by decide), State.put_power, State.put_power, ite_self,
    foldl_kept (fun s : State => s.power.ring) fun s e => s.bringUpLaser_ring _ _, foldl_kept (fun s : State => s.power.ring) engine]

/-! ### One domain of a ring -/

/-- A write at one index leaves every field at other indices alone. -/
theorem State.get_put_index (s : State) {f g : Field} {i k : Nat} (h : k % 65536 ≠ i % 65536) (v : Nat) :
    (s.put f i v).get g k = s.get g k :=
  s.get_put_key (fun e => by unfold Field.key at e; omega) v

theorem State.get_inc_code (s : State) {f g : Field} (h : f.code ≠ g.code) (i j n : Nat) : (s.inc g j n).get f i = s.get f i :=
  s.get_put_code h i j _

/-- The fields that show how a core came up. -/
def coreFields : List Field := [Field.PWR_DOM_STAT_STATE, Field.CORE_BIND_FENCED, Field.CORE_BIST_MICROCODE]

/-- The failure of a domain shows at its own index only. -/
theorem State.get_bringUpFail_index {g : Field} (hg : g ∈ coreFields) {d k : Nat} (h : k % 65536 ≠ d % 65536) (s : State) :
    (s.bringUpFail d).get g k = s.get g k := by
  have steady : ∀ g ∈ coreFields, g.code < 400 ∧ g.code ≠ Field.PWR_STAT_FAILED_DOMAINS.code ∧
      Nat.testBit 0x2000000000000000000000000000000000001c000000000000000000000000000000000000000000000000000000000000000000000 g.code = false := by
    decide
  obtain ⟨listed, notCount, notBook⟩ := steady g hg
  unfold State.bringUpFail State.countFailed State.domainCause State.inc
  rw [State.get_put_code _ notCount, State.setDomain_get, State.get_put_index _ h, State.get_put_index _ h,
    State.get_event _ _ _ _ k listed notBook, State.get_put_index _ h]

theorem State.get_bringUpFail_state (s : State) (d : Nat) : (s.bringUpFail d).get .PWR_DOM_STAT_STATE d = 5 := by
  unfold State.bringUpFail State.countFailed
  rw [State.get_put_code _ (by decide), State.setDomain_get, State.get_inc_code _ (by decide), State.get_put]
  rfl

theorem State.get_bringUpOn (s : State) (d k : Nat) (b : Bool) (g : Field) :
    (s.bringUpOn d b).get g k = (s.put .PWR_DOM_STAT_STATE d 2).get g k := by
  cases b <;> rfl

theorem State.get_bringUpOn_state (s : State) (d : Nat) (b : Bool) : (s.bringUpOn d b).get .PWR_DOM_STAT_STATE d = 2 := by
  rw [State.get_bringUpOn, State.get_put]
  rfl

/-! ### The stacks of a die column -/

theorem State.get_stackState {v : Nat} (s : State) (m k : Nat) :
    (s.stackState m v).get .HBM_STAT_STATE k = (s.put .HBM_STAT_STATE m v).get .HBM_STAT_STATE k := by
  unfold State.stackState
  dsimp only
  rw [apply_ite (fun t : State => t.get .HBM_STAT_STATE k), State.get_event _ _ _ _ k (by decide) (by decide), ite_self]

theorem State.bringUpStack_bad (s : State) (m : Nat) : s.bringUpStack m true = (s.bringUpFail (120 + m)).stackState m 4 := rfl
theorem State.bringUpStack_on (s : State) (m : Nat) : s.bringUpStack m false = (s.bringUpOn (120 + m) true).put .HBM_STAT_STATE m 1 := rfl

theorem State.get_bringUpStack (s : State) (m : Nat) (bad : Bool) : (s.bringUpStack m bad).get .HBM_STAT_STATE m = if bad then 4 else 1 := by
  cases bad with
  | true =>
    rw [State.bringUpStack_bad, State.get_stackState, State.get_put]
    rfl
  | false =>
    rw [State.bringUpStack_on, State.get_put]
    rfl

theorem State.get_bringUpStack_index {m k : Nat} (h : k % 65536 ≠ m % 65536) (s : State) (bad : Bool) :
    (s.bringUpStack m bad).get .HBM_STAT_STATE k = s.get .HBM_STAT_STATE k := by
  cases bad with
  | true =>
    rw [State.bringUpStack_bad, State.get_stackState, State.get_put_index _ h]
    exact State.bringUpFail_frame.reg _ k (by decide) (by decide)
  | false =>
    rw [State.bringUpStack_on, State.get_put_index _ h]
    exact State.bringUpOn_frame.reg _ k (by decide) (by decide)

/-! ### The cores of a die column -/

/-- Core `n` has come up with this microcode level and awaits its clearing, or its domain has failed and it is fenced (R350, R351). -/
structure CoreUp (n micro : Nat) (bad : Bool) (t : State) : Prop where
  failed : bad = true → t.get .PWR_DOM_STAT_STATE n = 5 ∧ t.get .CORE_BIND_FENCED n = 1
  on : bad = false → t.get .PWR_DOM_STAT_STATE n = 2 ∧ EdgeReq.core n 3 ∈ t.edge ∧
    t.get .CORE_BIST_MICROCODE n = micro % 2 ^ Field.CORE_BIST_MICROCODE.width

theorem CoreUp.congr {n micro : Nat} {bad : Bool} {s t : State} (h : CoreUp n micro bad s)
    (hg : ∀ g ∈ coreFields, t.get g n = s.get g n) (he : s.edge ⊆ t.edge) : CoreUp n micro bad t := by
  have state := hg .PWR_DOM_STAT_STATE (by decide)
  have fenced := hg .CORE_BIND_FENCED (by decide)
  have level := hg .CORE_BIST_MICROCODE (by decide)
  refine ⟨fun b => ?_, fun b => ?_⟩
  · rw [state, fenced]
    exact h.failed b
  · rw [state, level]
    obtain ⟨h1, h2, h3⟩ := h.on b
    exact ⟨h1, he h2, h3⟩

theorem State.bringUpFail_edge (s : State) (d : Nat) : (s.bringUpFail d).edge = s.edge := State.bringUpFail_frame.edge (by decide)
theorem State.bringUpOn_edge (s : State) (d : Nat) (b : Bool) : (s.bringUpOn d b).edge = s.edge := State.bringUpOn_frame.edge (by decide)

/-- The core's set-point as bring-up gives it (R352). -/
def State.pointed (s : State) (n : Nat) : State := s.put .PWR_DOM_STAT_SETPOINT n (max s.settingsPoint (s.get .CORE_BIST_VMIN n + 5))

theorem State.bringUpCore_disabled {s : State} {n : Nat} (h : s.get .CORE_BIND_DISABLED n = 1) (bad : Bool) : s.bringUpCore n bad = s := if_pos h

theorem State.bringUpCore_bad {s : State} {n : Nat} (h : s.get .CORE_BIND_DISABLED n ≠ 1) :
    s.bringUpCore n true = ((s.pointed n).bringUpFail n).put .CORE_BIND_FENCED n 1 := if_neg h

theorem State.bringUpCore_on {s : State} {n : Nat} (h : s.get .CORE_BIND_DISABLED n ≠ 1) :
    s.bringUpCore n false =
      (((s.pointed n).put .CORE_BIST_MICROCODE n (s.pointed n).bootMicrocode).bringUpOn n true).atNextEdge (.core n 3) := if_neg h

theorem State.bootMicrocode_pointed (s : State) (n : Nat) : (s.pointed n).bootMicrocode = s.bootMicrocode := by
  unfold State.bootMicrocode State.bootImage State.pointed
  rw [State.get_put_code _ (by decide)]
  rfl

/-- What `bringUpCore` does to a core that is not disabled. -/
theorem State.bringUpCore_up {s : State} {n : Nat} (h : s.get .CORE_BIND_DISABLED n ≠ 1) (bad : Bool) :
    CoreUp n s.bootMicrocode bad (s.bringUpCore n bad) := by
  cases bad with
  | true =>
    rw [State.bringUpCore_bad h]
    refine ⟨fun _ => ⟨?_, State.get_put _ _ _ _⟩, nofun⟩
    rw [State.get_put_code _ (by decide), State.get_bringUpFail_state]
  | false =>
    rw [State.bringUpCore_on h, State.bootMicrocode_pointed]
    refine ⟨nofun, fun _ => ⟨?_, List.mem_append_right _ List.mem_cons_self, ?_⟩⟩
    · rw [State.atNextEdge_get, State.get_bringUpOn_state]
    · rw [State.atNextEdge_get, State.get_bringUpOn, State.get_put_code _ (by decide), State.get_put]

/-- Another core's coming up shows at that core's index only. -/
theorem State.get_bringUpCore_index {g : Field} (hg : g ∈ coreFields) {n k : Nat} (h : k % 65536 ≠ n % 65536) (s : State) (bad : Bool) :
    (s.bringUpCore n bad).get g k = s.get g k := by
  by_cases hd : s.get .CORE_BIND_DISABLED n = 1
  · rw [State.bringUpCore_disabled hd]
  · cases bad with
    | true => rw [State.bringUpCore_bad hd, State.get_put_index _ h, State.get_bringUpFail_index hg h, State.pointed, State.get_put_index _ h]
    | false =>
      rw [State.bringUpCore_on hd, State.atNextEdge_get, State.get_bringUpOn, State.get_put_index _ h, State.get_put_index _ h, State.pointed,
        State.get_put_index _ h]

theorem State.bringUpCore_edge (s : State) (n : Nat) (bad : Bool) : s.edge ⊆ (s.bringUpCore n bad).edge := by
  by_cases hd : s.get .CORE_BIND_DISABLED n = 1
  · rw [State.bringUpCore_disabled hd]
    exact List.Subset.refl _
  · cases bad with
    | true =>
      rw [State.bringUpCore_bad hd, State.put_edge, State.bringUpFail_edge]
      exact List.Subset.refl _
    | false =>
      have appended (t : State) (r : EdgeReq) : (t.atNextEdge r).edge = t.edge ++ [r] := rfl
      rw [State.bringUpCore_on hd, appended, State.bringUpOn_edge]
      exact List.subset_append_left _ _

/-! ### A die column's ring -/

/-- What the steps of a column's ring leave to the cores' own steps: which cores are disabled, and the image that they load. -/
structure SameModule (s t : State) : Prop where
  disabled : ∀ n, t.get .CORE_BIND_DISABLED n = s.get .CORE_BIND_DISABLED n
  slot : t.get .GCTL_FW_STAT_BOOT_SLOT 0 = s.get .GCTL_FW_STAT_BOOT_SLOT 0
  sec : t.sec = s.sec

theorem SameModule.refl (s : State) : SameModule s s := ⟨fun _ => rfl, rfl, rfl⟩

theorem SameModule.trans {r s t : State} (h : SameModule r s) (k : SameModule s t) : SameModule r t :=
  ⟨fun n => (k.disabled n).trans (h.disabled n), k.slot.trans h.slot, k.sec.trans h.sec⟩

theorem SameModule.of_frame {m : Nat} {s t : State} (h : Same m s t) (hd : m.testBit Field.CORE_BIND_DISABLED.code = false)
    (hb : m.testBit Field.GCTL_FW_STAT_BOOT_SLOT.code = false) (hs : m.testBit 424 = false) : SameModule s t :=
  ⟨fun n => h.reg _ n (by decide) hd, h.reg _ 0 (by decide) hb, h.sec hs⟩

theorem SameModule.bootImage {s t : State} (h : SameModule s t) : t.bootImage = s.bootImage := by
  unfold State.bootImage
  rw [h.slot, h.sec]

theorem SameModule.bootMicrocode {s t : State} (h : SameModule s t) : t.bootMicrocode = s.bootMicrocode := by
  unfold State.bootMicrocode
  rw [h.bootImage]

theorem SameModule.foldl {α : Type} {f : State → α → State} (h : ∀ s x, SameModule s (f s x)) (l : List α) (s : State) :
    SameModule s (l.foldl f s) := by
  induction l generalizing s with
  | nil => exact SameModule.refl s
  | cons x l ih => exact (h s x).trans (ih (f s x))

theorem State.bringUpUncore_sameModule (s : State) (d n : Nat) : SameModule s (s.bringUpUncore d n) :=
  .of_frame State.bringUpUncore_frame (by decide) (by decide) (by decide)
theorem State.trainLinks_sameModule (s : State) (col : Nat) : SameModule s (s.trainLinks col) :=
  .of_frame State.trainLinks_frame (by decide) (by decide) (by decide)
theorem State.bringUpStack_sameModule (s : State) (m : Nat) (bad : Bool) : SameModule s (s.bringUpStack m bad) :=
  .of_frame State.bringUpStack_frame (by decide) (by decide) (by decide)
theorem State.bringUpCore_sameModule (s : State) (n : Nat) (bad : Bool) : SameModule s (s.bringUpCore n bad) :=
  .of_frame State.bringUpCore_frame (by decide) (by decide) (by decide)

/-- The dies of a column, its stacks, its cores: the three stages of its ring (R350). -/
def State.columnDies (s : State) (col : Nat) (failed : List Nat) : State :=
  ((List.range 4).map fun r => 4 * col + r).foldl (fun s d => s.bringUpUncore (96 + d) (timesIn failed (96 + d))) s
def State.columnStacks (s : State) (col : Nat) (failed : List Nat) : State :=
  (List.range 8).foldl (fun s i => s.bringUpStack (8 * col + i) (failed.contains (120 + 8 * col + i))) s
def State.columnCores (s : State) (col : Nat) (failed : List Nat) : State :=
  (List.range 16).foldl (fun s i => s.bringUpCore (16 * col + i) (failed.contains (16 * col + i))) s

theorem mem_columnDies {col d : Nat} : d ∈ (List.range 4).map (fun r => 4 * col + r) ↔ d / 4 = col := by
  simp only [List.mem_map, List.mem_range]
  exact ⟨fun ⟨r, hr, e⟩ => by omega, fun h => ⟨d % 4, by omega, by omega⟩⟩

theorem State.columnRing_stopped (s : State) {d : Nat} {failed : List Nat} (h : 2 ≤ timesIn failed (96 + d)) :
    s.columnRing (d / 4) failed = (s.columnDies (d / 4) failed).stopBringUp :=
  if_pos (List.any_eq_true.2 ⟨d, mem_columnDies.2 rfl, decide_eq_true h⟩)

theorem State.columnRing_on (s : State) {col : Nat} {failed : List Nat} (h : ∀ d, d / 4 = col → timesIn failed (96 + d) < 2) :
    s.columnRing col failed = (((s.columnDies col failed).trainLinks col).columnStacks col failed).columnCores col failed := by
  refine if_neg fun e => ?_
  obtain ⟨d, hd, k⟩ := List.any_eq_true.1 e
  exact absurd (of_decide_eq_true k) (Nat.not_le.2 (h d (mem_columnDies.1 hd)))

theorem State.get_columnStacks (s : State) {m : Nat} (_hm : m < 48) (failed : List Nat) :
    (s.columnStacks (m / 8) failed).get .HBM_STAT_STATE m = if failed.contains (120 + m) then 4 else 1 := by
  have place : 8 * (m / 8) + m % 8 = m := Nat.div_add_mod m 8
  refine foldl_reaches (I := fun _ => True) (x := m % 8)
    (P := fun t : State => t.get .HBM_STAT_STATE m = if failed.contains (120 + m) then 4 else 1)
    (List.mem_range.2 (Nat.mod_lt m (by decide))) (fun _ _ _ => trivial) (fun t _ => ?_) (fun t i hi hne ht => ?_) trivial
  · rw [Nat.add_assoc, place]
    exact t.get_bringUpStack m _
  · have := List.mem_range.1 hi
    rw [State.get_bringUpStack_index (by omega)]
    exact ht

theorem State.columnCores_up (s : State) {n : Nat} (_hn : n < 96) (hd : s.get .CORE_BIND_DISABLED n ≠ 1) (failed : List Nat) :
    CoreUp n s.bootMicrocode (failed.contains n) (s.columnCores (n / 16) failed) := by
  have place : 16 * (n / 16) + n % 16 = n := Nat.div_add_mod n 16
  refine foldl_reaches (I := SameModule s) (P := CoreUp n s.bootMicrocode (failed.contains n)) (x := n % 16)
    (List.mem_range.2 (Nat.mod_lt n (by decide))) (fun t i h => h.trans (t.bringUpCore_sameModule _ _)) (fun t h => ?_)
    (fun t i hi hne ht => ?_) (SameModule.refl s)
  · rw [place, ← h.bootMicrocode]
    exact State.bringUpCore_up (by rw [h.disabled]; exact hd) _
  · have := List.mem_range.1 hi
    exact ht.congr (fun g hg => State.get_bringUpCore_index hg (by omega) t _) (t.bringUpCore_edge _ _)

end Sys2Proof.Machine
end

section
/-! Ring 0, Ring 7, and the commands of bring-up (R350, R351, R402, R409, R431). -/

namespace Sys2Proof.Machine
open Sys2Proof.Safety

/-! ### Ring 0: the halves boot -/

/-- The domains of the halves, and the count of power cycles: what Ring 0 does before the firmware boots. -/
def State.halvesOn (s : State) (failed : List Nat) : State :=
  let t := [248, 249].foldl (fun (s : State) d => if failed.contains d then s.bringUpFail d else s.bringUpOn d true) s
  t.put .LOGB_TIME_POWER_CYCLES 0 (satW 16 (t.get .LOGB_TIME_POWER_CYCLES 0 + 1))

theorem State.gondolaRing_eq (s : State) (failed : List Nat) : s.gondolaRing failed =
    if ((s.halvesOn failed).bootHalves failed).booted then ((s.halvesOn failed).bootHalves failed).readModules.applySettings
    else (s.halvesOn failed).bootHalves failed := rfl

/-- What the boot reads is untouched by then: the fuses, the images, the boot slot. -/
theorem State.halvesOn_frame (s : State) (failed : List Nat) :
    Same (maskBut [Field.CORE_BIND_DISABLED.code, Field.GCTL_FW_STAT_BOOT_SLOT.code, 403, 424]) s (s.halvesOn failed) := by
  refine State.put_frame (by decide +kernel) (Same.foldl (fun t d h => ?_) _ Same.refl)
  split
  · exact h.trans (State.bringUpFail_frame.mono (by decide +kernel))
  · exact h.trans (State.bringUpOn_frame.mono (by decide +kernel))

theorem State.halvesOn_bootImage (s : State) (failed : List Nat) : (s.halvesOn failed).bootImage = s.bootImage :=
  (SameModule.of_frame (s.halvesOn_frame failed) (by decide +kernel) (by decide +kernel) (by decide +kernel)).bootImage

theorem State.halvesOn_imageFail (s : State) (failed : List Nat) (i : Option Image) : (s.halvesOn failed).imageFail i = s.imageFail i := by
  unfold State.imageFail
  rw [(s.halvesOn_frame failed).fuses (by decide +kernel)]

/-- GW runs, GE stands by, and GW has the firmware (R402, R421). -/
structure BothRun (t : State) : Prop where
  west : t.get .GCTL_FW_STAT_GW_STATE 0 = 2
  east : t.get .GCTL_FW_STAT_GE_STATE 0 = 3
  firmware : t.gondola.firmware = 0

theorem BothRun.of_frame {m : Nat} {s t : State} (h : BothRun s) (k : Same m s t) (hw : m.testBit Field.GCTL_FW_STAT_GW_STATE.code = false)
    (he : m.testBit Field.GCTL_FW_STAT_GE_STATE.code = false) (hg : m.testBit 423 = false) : BothRun t :=
  ⟨(k.reg _ 0 (by decide) hw).trans h.west, (k.reg _ 0 (by decide) he).trans h.east,
    (congrArg Gondola.firmware (k.gondola hg)).trans h.firmware⟩

theorem BothRun.of_states {t : State} (gw : t.get .GCTL_FW_STAT_GW_STATE 0 = 2) (ge : t.get .GCTL_FW_STAT_GE_STATE 0 = 3) (g : Gondola)
    (hg : g.firmware = 0) : BothRun { t with gondola := g } := ⟨gw, ge, hg⟩

/-- A half that boots shows its state; the other half's is as it was. -/
theorem State.get_halfBoots_west (s : State) (i : Image) : (s.halfBoots 0 2 i).get .GCTL_FW_STAT_GW_STATE 0 = 2 := by
  rw [State.halfBoots, State.get_event _ _ _ _ 0 (by decide) (by decide)]
  exact State.get_put _ _ _ _

theorem State.get_halfBoots_east (s : State) (i : Image) : (s.halfBoots 1 3 i).get .GCTL_FW_STAT_GE_STATE 0 = 3 ∧
    (s.halfBoots 1 3 i).get .GCTL_FW_STAT_GW_STATE 0 = s.get .GCTL_FW_STAT_GW_STATE 0 := by
  unfold State.halfBoots
  rw [State.get_event _ _ _ _ 0 (by decide) (by decide), State.get_event _ _ _ _ 0 (by decide) (by decide)]
  exact ⟨State.get_put _ _ _ _, State.get_put_code _ (by decide) 0 0 3⟩

theorem State.bootHalves_both {s : State} {failed : List Nat} (h : s.imageFail s.bootImage = 0) (hw : 248 ∉ failed) (he : 249 ∉ failed) :
    BothRun (s.bootHalves failed) := by
  have west : failed.contains 248 = false := by simpa using hw
  have east : failed.contains 249 = false := by simpa using he
  cases hi : s.bootImage with
  | none =>
    rw [hi] at h
    cases h
  | some i =>
    rw [hi] at h
    obtain ⟨ge, gw⟩ := (s.halfBoots 0 2 i).get_halfBoots_east i
    have halves := BothRun.of_states (gw.trans (s.get_halfBoots_west i)) ge
    have confirmed (t : State) (v : Nat) (b : BothRun t) : BothRun ((t.put .GCTL_FW_STAT_CONFIRMED 0 v).runImage i) := by
      refine BothRun.of_frame (s := t.put .GCTL_FW_STAT_CONFIRMED 0 v) ?_ State.runImage_frame (by decide) (by decide) (by decide)
      exact ⟨(t.get_put_code (by decide) 0 0 v).trans b.west, (t.get_put_code (by decide) 0 0 v).trans b.east, b.firmware⟩
    unfold State.bootHalves
    simp only [hi, h, west, east, if_true, Bool.not_false, Bool.or_self, ne_eq, not_true_eq_false, false_and, if_false]
    exact confirmed _ _ (halves _ rfl)

theorem State.gondolaRing_both {s : State} {failed : List Nat} (h : s.imageFail s.bootImage = 0) (hw : 248 ∉ failed) (he : 249 ∉ failed) :
    BothRun (s.gondolaRing failed) := by
  have boot : BothRun ((s.halvesOn failed).bootHalves failed) :=
    State.bootHalves_both (by rw [s.halvesOn_bootImage, s.halvesOn_imageFail, h]) hw he
  rw [State.gondolaRing_eq]
  split
  · refine BothRun.of_frame ?_ State.applySettings_frame (by decide) (by decide) (by decide)
    exact boot.of_frame State.readModules_frame (by decide) (by decide) (by decide)
  · exact boot

/-! ### Ring 7: bring-up is complete -/

/-- The optical engines and the laser modules of Ring 7. -/
def State.opticsOn (s : State) (failed : List Nat) : State :=
  let t := (List.range 64).foldl (fun (s : State) n =>
    if failed.contains (168 + n) then s.bringUpFail (168 + n) else (s.bringUpOn (168 + n) true).setPortState n 1) s
  (List.range 16).foldl (fun s e => s.bringUpLaser e (failed.contains (232 + e))) t

theorem State.opticsRing_eq (s : State) (failed : List Nat) : s.opticsRing failed =
    if (s.opticsOn failed).get .GCTL_FW_STAT_UNREADABLE 0 = 1 then
      ((s.opticsOn failed).put .GCTL_STAT_UP 0 1).put .ID_SIGNATURE_SIG 0 ((s.opticsOn failed).signatureOf (s.opticsOn failed).bootMicrocode)
    else (s.opticsOn failed).completeBringUp := rfl

theorem State.opticsOn_frame (s : State) (failed : List Nat) :
    Same (maskBut [Field.GCTL_FW_STAT_UNREADABLE.code, Field.PWR_STAT_PHASE.code]) s (s.opticsOn failed) := by
  refine Same.foldl (fun t e h => h.trans (State.bringUpLaser_frame.mono (by decide +kernel))) _ (Same.foldl (fun t n h => ?_) _ Same.refl)
  split
  · exact h.trans (State.bringUpFail_frame.mono (by decide +kernel))
  · exact (h.trans (State.bringUpOn_frame.mono (by decide +kernel))).trans (State.setPortState_frame.mono (by decide +kernel))

theorem State.completeBringUp_up (s : State) :
    s.completeBringUp.get .GCTL_STAT_UP 0 = 1 ∧ s.completeBringUp.get .PWR_STAT_PHASE 0 = 1 := by
  have trained (t : State) : Same (maskBut [Field.GCTL_STAT_UP.code, Field.PWR_STAT_PHASE.code]) t
      ((List.range 64).foldl (fun (s : State) n => s.tryTrain n) t) :=
    Same.foldl (fun _ _ h => h.trans (State.tryTrain_frame.mono (by decide +kernel))) _ Same.refl
  unfold State.completeBringUp
  dsimp only
  refine ⟨((trained _).reg _ 0 (by decide) (by decide +kernel)).trans ?_, ((trained _).reg _ 0 (by decide) (by decide +kernel)).trans ?_⟩
  · rw [State.get_put_code _ (by decide), State.get_put_code _ (by decide), State.get_put]
    rfl
  · rw [State.get_put_code _ (by decide), State.get_put]
    rfl

theorem State.opticsRing_up (s : State) (failed : List Nat) (h : s.get .PWR_STAT_PHASE 0 = 0) :
    (s.opticsRing failed).get .GCTL_STAT_UP 0 = 1 ∧
    (s.opticsRing failed).get .PWR_STAT_PHASE 0 = if s.get .GCTL_FW_STAT_UNREADABLE 0 = 1 then 0 else 1 := by
  have frame := s.opticsOn_frame failed
  have phase : (s.opticsOn failed).get .PWR_STAT_PHASE 0 = 0 := (frame.reg _ 0 (by decide) (by decide +kernel)).trans h
  rw [State.opticsRing_eq, frame.reg .GCTL_FW_STAT_UNREADABLE 0 (by decide) (by decide +kernel)]
  split
  · refine ⟨?_, ?_⟩
    · rw [State.get_put_code _ (by decide), State.get_put]
      rfl
    · rw [State.get_put_code _ (by decide), State.get_put_code _ (by decide), phase]
  · exact (s.opticsOn failed).completeBringUp_up

/-! ### BRING_UP_RING -/

/-- The ring's number is shown, and the next ring's is noted. -/
def State.rung (s : State) : State := { s.put .PWR_STAT_RING 0 s.power.ring with power := { s.power with ring := s.power.ring + 1 } }

/-- What the ring under way does (R350). -/
def State.ringOf (s : State) (r : Nat) (failed : List Nat) : State :=
  if r = 0 then s.gondolaRing failed else if r = 7 then s.opticsRing failed else s.columnRing (r - 1) failed

theorem execBringUpRing_next {s : State} (h : s.mayRing = true) (failed : List Nat) :
    execBringUpRing failed s = .next (s.rung.ringOf s.power.ring failed) := by
  unfold execBringUpRing
  rw [if_pos h]
  rfl

theorem State.get_rung {g : Field} (h : g.code ≠ Field.PWR_STAT_RING.code) (s : State) (k : Nat) : s.rung.get g k = s.get g k :=
  s.get_put_code h k 0 _

theorem State.rung_sameModule (s : State) : SameModule s s.rung :=
  ⟨fun n => State.get_rung (by decide) s n, State.get_rung (by decide) s 0, rfl⟩

theorem State.mayRing_spec {s : State} (h : s.mayRing = true) : s.get .PWR_STAT_PHASE 0 = 0 ∧ s.power.ring ≤ 7 := by
  simp only [State.mayRing, Bool.and_eq_true, beq_iff_eq, decide_eq_true_eq] at h
  exact ⟨h.1.1.1, h.1.2⟩

theorem State.ringOf_ring (s : State) (r : Nat) (failed : List Nat) : (s.ringOf r failed).power.ring = s.power.ring := by
  unfold State.ringOf
  split
  · exact s.gondolaRing_ring failed
  · split
    · exact s.opticsRing_ring failed
    · exact s.columnRing_ring (r - 1) failed

/-- No ring changes the number that the register shows. -/
theorem State.get_ringOf_ring (s : State) (r : Nat) (failed : List Nat) :
    (s.ringOf r failed).get .PWR_STAT_RING 0 = s.get .PWR_STAT_RING 0 := by
  unfold State.ringOf
  split
  · exact State.gondolaRing_frame.reg _ 0 (by decide) (by decide)
  · split
    · exact State.opticsRing_frame.reg _ 0 (by decide) (by decide)
    · exact State.columnRing_frame.reg _ 0 (by decide) (by decide)

theorem State.get_rung_ring {s : State} (h : s.power.ring ≤ 7) : s.rung.get .PWR_STAT_RING 0 = s.power.ring := by
  refine (s.get_put .PWR_STAT_RING 0 s.power.ring).trans (Nat.mod_eq_of_lt (Nat.lt_of_le_of_lt h (by decide)))

theorem State.get_stopBringUp (s : State) : s.stopBringUp.get .GCTL_STAT_STOPPED 0 = 1 ∧ s.stopBringUp.get .PWR_STAT_PHASE 0 = 2 := by
  refine ⟨State.get_put _ _ _ _, ?_⟩
  exact (State.get_put_code _ (by decide) 0 0 1).trans (State.get_put _ _ _ _)

/-- The dies and links of a column leave the cores' settings and images alone. -/
theorem State.columnStacks_sameModule (s : State) (col : Nat) (failed : List Nat) :
    SameModule s (((s.columnDies col failed).trainLinks col).columnStacks col failed) :=
  ((SameModule.foldl (fun t _ => t.bringUpUncore_sameModule _ _) _ s).trans (State.trainLinks_sameModule _ col)).trans
    (SameModule.foldl (fun t _ => t.bringUpStack_sameModule _ _) _ _)

theorem State.get_columnRing_stack {s : State} {m : Nat} (hm : m < 48) {failed : List Nat}
    (h : ∀ d, d / 4 = m / 8 → timesIn failed (96 + d) < 2) :
    (s.columnRing (m / 8) failed).get .HBM_STAT_STATE m = if failed.contains (120 + m) then 4 else 1 := by
  have cores (t : State) : (t.columnCores (m / 8) failed).get .HBM_STAT_STATE m = t.get .HBM_STAT_STATE m :=
    foldl_kept (fun t : State => t.get .HBM_STAT_STATE m) (fun t i => State.bringUpCore_frame.reg _ m (by decide) (by decide)) _ t
  rw [s.columnRing_on h, cores]
  exact State.get_columnStacks _ hm failed

theorem State.columnRing_core {s : State} {n : Nat} (hn : n < 96) {failed : List Nat}
    (h : ∀ d, d / 4 = n / 16 → timesIn failed (96 + d) < 2) (hd : s.get .CORE_BIND_DISABLED n ≠ 1) :
    CoreUp n s.bootMicrocode (failed.contains n) (s.columnRing (n / 16) failed) := by
  have same := s.columnStacks_sameModule (n / 16) failed
  rw [s.columnRing_on h, ← same.bootMicrocode]
  exact State.columnCores_up _ hn (by rw [same.disabled]; exact hd) failed

/-- RING_TIMEOUT stops a bring-up that is under way (R351). -/
theorem execRingTimeout_stops {s : State} (hp : s.get .PWR_STAT_PHASE 0 = 0) (hr : s.power.ring ≤ 8)
    (hs : s.get .GCTL_STAT_STOPPED 0 = 0) (hu : s.get .GCTL_STAT_UP 0 = 0) : execRingTimeout s = .next s.stopBringUp := by
  unfold execRingTimeout
  rw [if_pos ⟨hp, hr, hs, hu⟩]

/-! ### HOST_LINK_CHANGE -/

theorem execHostLinkChange_first (s : State) (up full : Bool) : execHostLinkChange 0 up full s =
    .next (((s.put .GCTL_HOST_UP0 0 (nat01 up)).put .GCTL_HOST_FULL0 0 (nat01 (up && full))).atNextEdge (.host 0)) := rfl

theorem execHostLinkChange_second (s : State) (up full : Bool) : execHostLinkChange 1 up full s =
    .next (((s.put .GCTL_HOST_UP1 0 (nat01 up)).put .GCTL_HOST_FULL1 0 (nat01 (up && full))).atNextEdge (.host 1)) := rfl

/-- Two one-bit fields take truth values, and the edge is asked for something. -/
theorem State.linkPut {u f : Field} (h : u.code ≠ f.code) (hu : u.width = 1) (hf : f.width = 1) (s : State) (a b : Bool) (r : EdgeReq) :
    (((s.put u 0 (nat01 a)).put f 0 (nat01 b)).atNextEdge r).get u 0 = nat01 a ∧
    (((s.put u 0 (nat01 a)).put f 0 (nat01 b)).atNextEdge r).get f 0 = nat01 b ∧
    (((s.put u 0 (nat01 a)).put f 0 (nat01 b)).atNextEdge r).edge = s.edge ++ [r] := by
  have cut (c : Bool) : nat01 c % 2 ^ 1 = nat01 c := by cases c <;> rfl
  refine ⟨?_, ?_, rfl⟩
  · rw [State.atNextEdge_get, State.get_put_code _ h, State.get_put, hu, cut]
  · rw [State.atNextEdge_get, State.get_put, hf, cut]

/-! ### The ring's column and what O58 says of it -/

/-- Two lost regulator groups of a die stop the ring of its column. -/
theorem State.ringOf_stopped {s : State} {r d : Nat} (hr : r < 7) (hd : d / 4 + 1 = r) {failed : List Nat}
    (h : 2 ≤ timesIn failed (96 + d)) :
    (s.ringOf r failed).get .GCTL_STAT_STOPPED 0 = 1 ∧ (s.ringOf r failed).get .PWR_STAT_PHASE 0 = 2 := by
  subst hd
  rw [State.ringOf, if_neg (Nat.succ_ne_zero _), if_neg (Nat.ne_of_lt hr), Nat.add_sub_cancel, s.columnRing_stopped h]
  exact State.get_stopBringUp _

theorem State.ringOf_column {s : State} {r col : Nat} (hr : r < 7) (hc : col + 1 = r) (failed : List Nat) :
    s.ringOf r failed = s.columnRing col failed := by
  subst hc
  rw [State.ringOf, if_neg (Nat.succ_ne_zero _), if_neg (Nat.ne_of_lt hr), Nat.add_sub_cancel]

/-- Fewer than two groups of every die of the column are lost: the same, of the dies by their column. -/
theorem diesHold {r col : Nat} (hr : r < 7) (hc : col + 1 = r) {failed : List Nat}
    (h : ∀ d, d < 24 → d / 4 + 1 = r → timesIn failed (96 + d) < 2) (d : Nat) (hd : d / 4 = col) : timesIn failed (96 + d) < 2 :=
  h d (by omega) (by omega)

/-- Settles O58: `resetTo` by its stages, the three kinds of ring, and the puts of RING_TIMEOUT and HOST_LINK_CHANGE. -/
theorem resetAndBringUp : Obligations.ResetAndBringUp := by
  intro s
  refine ⟨fun c => ⟨fun hc h => execModuleReset_down hc h, fun h => execModuleReset_resetBy h⟩, fun failed h => ?_,
    fun hp hr hs hu => execRingTimeout_stops hp hr hs hu, fun up full => ⟨?_, ?_⟩⟩
  · obtain ⟨phase, ring⟩ := State.mayRing_spec h
    have e := execBringUpRing_next h failed
    have same := s.rung_sameModule
    refine ⟨_, e, Same.changes (execBringUpRing_frame e) (by decide +kernel), State.ringOf_ring _ _ _,
      (State.get_ringOf_ring _ _ _).trans (State.get_rung_ring ring), fun h0 hi hw he => ?_, fun h7 => ?_,
      fun _ h7 => ⟨?_, fun hd => ⟨?_, ?_⟩⟩⟩
    · have both := State.gondolaRing_both (s := s.rung) (failed := failed) (by rw [same.bootImage]; exact hi) hw he
      rw [State.ringOf, if_pos h0]
      exact ⟨both.west, both.east, both.firmware⟩
    · rw [State.ringOf, if_neg (by omega), if_pos h7, ← State.get_rung (g := .GCTL_FW_STAT_UNREADABLE) (by decide) s 0]
      exact s.rung.opticsRing_up failed ((State.get_rung (by decide) s 0).trans phase)
    · rintro ⟨d, -, hd, lost⟩
      exact State.ringOf_stopped h7 hd lost
    · intro m hm hc
      rw [State.ringOf_column h7 hc]
      exact State.get_columnRing_stack hm (diesHold h7 hc hd)
    · intro n hn hc on
      have core := State.columnRing_core hn (diesHold h7 hc hd) (s := s.rung) (by rw [same.disabled]; exact on)
      rw [State.ringOf_column h7 hc]
      rw [same.bootMicrocode] at core
      exact ⟨core.failed, core.on⟩
  · have e := execHostLinkChange_first s up full
    exact ⟨_, e, Same.changes (execHostLinkChange_frame e) (by decide +kernel),
      State.linkPut (by decide) rfl rfl s up (up && full) (.host 0)⟩
  · have e := execHostLinkChange_second s up full
    exact ⟨_, e, Same.changes (execHostLinkChange_frame e) (by decide +kernel),
      State.linkPut (by decide) rfl rfl s up (up && full) (.host 1)⟩

end Sys2Proof.Machine
end

section
/-! Commands by queue and sequence number, fetch order, the journal's place in a partition, and counters written back to 0. -/

namespace Sys2Proof.Machine
open Sys2Proof.Safety

/-! ### Commands in the Gondola -/

theorem State.findCmd_name {s : State} {q n : Nat} {c : Cmd} (h : s.findCmd q n = some c) : c.queue = q ∧ c.seq = n := by
  simpa using List.find?_some h

/-- A command that takes a new content under its own name is found with it. -/
theorem State.findCmd_setCmd {s : State} {q n : Nat} {c d : Cmd} (h : s.findCmd q n = some c) (hq : d.queue = q) (hn : d.seq = n) :
    (s.setCmd d).findCmd q n = some d := by
  subst hq hn
  have named : (fun x : Cmd => x.queue == d.queue && x.seq == d.seq) ∘ (fun x => if x.queue = d.queue ∧ x.seq = d.seq then d else x) =
      fun x => x.queue == d.queue && x.seq == d.seq := by
    funext x
    by_cases e : x.queue = d.queue ∧ x.seq = d.seq <;> simp [e]
  have found : s.cmds.find? (fun x => x.queue == d.queue && x.seq == d.seq) = some c := h
  rw [State.findCmd, State.setCmd, List.find?_map, named, found, Option.map_some, if_pos (State.findCmd_name h)]

theorem State.mem_dropCmd {s : State} {c d : Cmd} : d ∈ (s.dropCmd c).cmds ↔ d ∈ s.cmds ∧ ¬(d.queue = c.queue ∧ d.seq = c.seq) := by
  simp only [State.dropCmd, List.mem_filter, Bool.not_eq_true', Bool.and_eq_false_iff, beq_eq_false_iff_ne, not_and_or, ne_eq]

@[simp] theorem State.noteSlack_cmds (s : State) (p : Option Nat) (x : Int) : (s.noteSlack p x).cmds = s.cmds := by
  cases p <;> rfl

@[simp] theorem State.noteSlack_recs (s : State) (p : Option Nat) (x : Int) : (s.noteSlack p x).recs = s.recs := by
  cases p <;> rfl

@[simp] theorem State.finish_cmds (s : State) (c : Cmd) (status detail : Nat) (x : Int) :
    (s.finish c status detail x).cmds = (s.dropCmd c).cmds := State.noteSlack_cmds _ _ _

@[simp] theorem State.finish_recs (s : State) (c : Cmd) (status detail : Nat) (x : Int) :
    (s.finish c status detail x).recs = s.recs ++ [s.recordOf c status detail x] := State.noteSlack_recs _ _ _

/-! ### Fetch order -/

theorem mem_insertCmd {c d : Cmd} {l : List Cmd} : d ∈ insertCmd c l ↔ d = c ∨ d ∈ l := by
  induction l with
  | nil => simp [insertCmd]
  | cons x l ih =>
    unfold insertCmd
    split
    · exact List.mem_cons
    · rw [List.mem_cons, ih, List.mem_cons]
      exact or_left_comm

/-- Sorting neither adds a command nor loses one. -/
theorem mem_sortCmds {d : Cmd} {l : List Cmd} : d ∈ sortCmds l ↔ d ∈ l := by
  have joined (acc : List Cmd) : d ∈ l.foldl (fun acc c => insertCmd c acc) acc ↔ d ∈ l ∨ d ∈ acc := by
    induction l generalizing acc with
    | nil => simp
    | cons x l ih =>
      rw [List.foldl_cons, ih, mem_insertCmd, List.mem_cons]
      exact or_left_comm.trans or_assoc.symm
  exact (joined []).trans (or_iff_left List.not_mem_nil)

theorem State.mem_taskCmds {s : State} {p b : Nat} {d : Cmd} (h : d ∈ s.cmds) (hp : d.part = some p) (hb : d.batch = b) :
    d ∈ s.taskCmds p b :=
  mem_sortCmds.2 (List.mem_append_left _ (List.mem_filter.2 ⟨h, by simp [hp, hb]⟩))

/-! ### A partition without its journal -/

/-- A partition with its journal taken out: what no journal record changes. -/
def Part.sansJournal (x : Part) : Part := { x with journal := Part.init.journal }

theorem State.modJournal_sansJournal (s : State) (p k : Nat) (g : Part → PartJournal) :
    ((s.modPart p fun x => { x with journal := g x }).part k).sansJournal = (s.part k).sansJournal := by
  by_cases h : k = p
  · subst h
    rw [State.part_modPart]
    rfl
  · rw [State.modPart, State.part_setPart_other _ _ h]

theorem State.journalRaw_sansJournal (s : State) (p type len : Nat) (body : Bytes) (k : Nat) :
    ((s.journalRaw p type len body).part k).sansJournal = (s.part k).sansJournal := by
  unfold State.journalRaw
  dsimp only
  split
  · split
    · exact State.modJournal_sansJournal _ _ _ _
    · rfl
  · rfl

theorem State.journalPut_sansJournal (s : State) (p : Nat) (r : JournalRec) (k : Nat) :
    ((s.journalPut p r).part k).sansJournal = (s.part k).sansJournal := by
  unfold State.journalPut
  dsimp only
  rw [State.journalRaw_sansJournal]
  split
  · exact State.journalRaw_sansJournal _ _ _ _ _ _
  · rfl

theorem State.journal_sansJournal (s : State) (p type queue seq : Nat) (body : Bytes) (k : Nat) :
    ((s.journal p type queue seq body).part k).sansJournal = (s.part k).sansJournal := by
  unfold State.journal
  split
  · exact (foldl_kept (fun t : State => (t.part k).sansJournal) (fun t r => t.journalPut_sansJournal p r k) _ _).trans
      (State.modJournal_sansJournal _ _ _ _)
  · rfl

/-- A record of the journal is no completion record. -/
theorem State.journal_recs (s : State) (p type queue seq : Nat) (body : Bytes) : (s.journal p type queue seq body).recs = s.recs := by
  unfold State.journal
  split
  · exact (foldl_kept State.recs (fun t r => (State.journalPut_frame (s := t) (p := p) (r := r)).recs (by decide)) _ _).trans
      (State.journalBack_frame.recs (by decide))
  · rfl

/-! ### Counters -/

/-- Writing 0 anywhere in a field undoes no 0 in it. -/
theorem State.get_put_zero {s : State} {f : Field} {i : Nat} (j : Nat) (h : s.get f i = 0) : (s.put f j 0).get f i = 0 := by
  by_cases e : f.key i = f.key j
  · unfold State.get
    rw [e]
    exact (State.get_put s f j 0).trans (Nat.zero_mod _)
  · exact (Tab.get_put_other _ _ _ e).trans h

end Sys2Proof.Machine
end

section
/-! The begin of a task's header (R26, R100, R112, R138, R280). -/

namespace Sys2Proof.Machine
open Sys2Proof.Safety

/-- The counters of one core that a task starts from 0 (R112, R138). -/
def State.clearCounts (s : State) (n : Nat) : State :=
  ((s.put .CORE_TMEM_HAZ_TASK n 0).put .CORE_TMEM_HAZ_WW n 0).put .CORE_DROP_TASK n 0

/-- The counters of core `n` that a task starts from 0 stand at 0. -/
def CountsClear (n : Nat) (s : State) : Prop :=
  s.get .CORE_TMEM_HAZ_TASK n = 0 ∧ s.get .CORE_TMEM_HAZ_WW n = 0 ∧ s.get .CORE_DROP_TASK n = 0

theorem State.get_clearCounts {g : Field} (h1 : g.code ≠ Field.CORE_TMEM_HAZ_TASK.code) (h2 : g.code ≠ Field.CORE_TMEM_HAZ_WW.code)
    (h3 : g.code ≠ Field.CORE_DROP_TASK.code) (s : State) (n k : Nat) : (s.clearCounts n).get g k = s.get g k := by
  rw [State.clearCounts, State.get_put_code _ h3, State.get_put_code _ h2, State.get_put_code _ h1]

theorem State.clearCounts_clear (s : State) (n : Nat) : CountsClear n (s.clearCounts n) := by
  unfold State.clearCounts
  refine ⟨?_, ?_, (State.get_put _ _ _ _).trans (Nat.zero_mod _)⟩
  · rw [State.get_put_code _ (by decide), State.get_put_code _ (by decide), State.get_put, Nat.zero_mod]
  · rw [State.get_put_code _ (by decide), State.get_put, Nat.zero_mod]

theorem CountsClear.clearCounts {n : Nat} {s : State} (h : CountsClear n s) (m : Nat) : CountsClear n (s.clearCounts m) := by
  obtain ⟨task, ww, drop⟩ := h
  unfold State.clearCounts
  refine ⟨?_, ?_, State.get_put_zero m ?_⟩
  · rw [State.get_put_code _ (by decide), State.get_put_code _ (by decide), State.get_put_zero m task]
  · rw [State.get_put_code _ (by decide), State.get_put_zero m (by rw [State.get_put_code _ (by decide), ww])]
  · rw [State.get_put_code _ (by decide), State.get_put_code _ (by decide), drop]

/-- The run that a task starts with, its MERGE_MAX_ROWS being the register's (R100, R332, R356). -/
def PartRun.start (r : PartRun) (anchor mergeMax : Nat) : PartRun :=
  { r with uses := [], sum := { r.sum with mergeMax := mergeMax, segment := (0, anchor), nextSegment := [] } }

/-- A task's start by its stages: the cores' counters, the run, the step number. -/
theorem State.startTask_stages (s : State) (p : Nat) (t : Task) : ∃ a,
    s.startTask p t = (((s.part p).cores.foldl State.clearCounts s).modRun p fun r =>
      r.start a (((s.part p).cores.foldl State.clearCounts s).get .PART_SPARSE_MERGE_MAX_ROWS p)).put .PART_STEP_STEP p 0 :=
  ⟨_, rfl⟩

theorem State.startTask_run (s : State) (p : Nat) (t : Task) : ∃ a,
    ((s.startTask p t).part p).run = (s.part p).run.start a (s.get .PART_SPARSE_MERGE_MAX_ROWS p) := by
  obtain ⟨a, e⟩ := s.startTask_stages p t
  have part := foldl_kept (f := State.clearCounts) (fun u : State => u.part p) (fun _ _ => rfl) (s.part p).cores s
  have merge := foldl_kept (f := State.clearCounts) (fun u : State => u.get .PART_SPARSE_MERGE_MAX_ROWS p)
    (fun u n => u.get_clearCounts (by decide) (by decide) (by decide) n p) (s.part p).cores s
  exact ⟨a, by rw [e, State.put_part, State.part_modRun, part, merge]⟩

theorem State.startTask_step (s : State) (p : Nat) (t : Task) : (s.startTask p t).get .PART_STEP_STEP p = 0 := by
  obtain ⟨a, e⟩ := s.startTask_stages p t
  rw [e, State.get_put, Nat.zero_mod]

theorem State.startTask_counts {s : State} {p n : Nat} (h : n ∈ (s.part p).cores) (t : Task) : CountsClear n (s.startTask p t) := by
  obtain ⟨a, e⟩ := s.startTask_stages p t
  have clear : CountsClear n ((s.part p).cores.foldl State.clearCounts s) :=
    foldl_reaches (I := fun _ => True) h (fun _ _ _ => trivial) (fun u _ => u.clearCounts_clear n)
      (fun _ m _ _ k => k.clearCounts m) trivial
  obtain ⟨task, ww, drop⟩ := clear
  rw [e]
  unfold CountsClear
  rw [State.get_put_code _ (by decide), State.get_put_code _ (by decide), State.get_put_code _ (by decide)]
  exact ⟨task, ww, drop⟩

/-- The state in which a header is checked: its TASK_BEGIN record has been written (R337). -/
def State.headerOpened (s : State) (p : Nat) (t : Task) : State := if t.opened then s else s.journalTaskBegin p t

theorem State.headerOpened_frame (s : State) (p : Nat) (t : Task) :
    Same 0x24800000000000000000000000000000000000000000000046000000000000000000000000000000000000000000000000000000 s (s.headerOpened p t) :=
  Same.ite Same.refl State.journalTaskBegin_frame

theorem State.headerOpened_sansJournal (s : State) (p : Nat) (t : Task) :
    ((s.headerOpened p t).part p).sansJournal = (s.part p).sansJournal := by
  unfold State.headerOpened
  split
  · rfl
  · exact State.journal_sansJournal _ _ _ _ _ _ _

theorem State.headerOpened_run (s : State) (p : Nat) (t : Task) : ((s.headerOpened p t).part p).run = (s.part p).run := by
  have run := congrArg Part.run (s.headerOpened_sansJournal p t)
  exact run

theorem State.headerOpened_cores (s : State) (p : Nat) (t : Task) : ((s.headerOpened p t).part p).cores = (s.part p).cores := by
  have cores := congrArg Part.cores (s.headerOpened_sansJournal p t)
  exact cores

theorem State.headerOpened_cmds (s : State) (p : Nat) (t : Task) : (s.headerOpened p t).cmds = s.cmds :=
  (s.headerOpened_frame p t).cmds (by decide)

theorem State.headerOpened_now (s : State) (p : Nat) (t : Task) : (s.headerOpened p t).now = s.now :=
  congrArg Clock.now ((s.headerOpened_frame p t).clock (by decide))

/-- A header that has begun in cycle `x`: it retires in the next one. -/
def Cmd.headerBegun (c : Cmd) (x : Nat) : Cmd := { c with began := some x, ran := true, due := some (x + 1), status := 0, detail := 0 }

theorem execTaskHeader_at {s : State} {p : Fin 16} {t : Task} {c : Cmd} (ht : (s.part p.val).run.task = some t)
    (hc : s.findCmd t.queue t.seq = some c) (edge : s.atEdge = true) (anchor : t.anchorAt.isSome = true) (fresh : c.began = none)
    (swap : (s.part p.val).strm.swap.isNone = true) : execTaskHeader p s = .next (s.taskHeader p.val t c) := by
  simp only [execTaskHeader, ht, hc]
  rw [if_pos ⟨edge, anchor, fresh, swap⟩]

theorem State.taskHeader_good {s : State} {p : Nat} {t : Task} {c : Cmd} (h : (s.headerOpened p t).headerBad p t c = none) :
    s.taskHeader p t c = ((s.headerOpened p t).startTask p t).setCmd (c.headerBegun (s.headerOpened p t).now) := by
  unfold State.headerOpened at h
  simp only [State.taskHeader, h]
  rfl

theorem State.taskHeader_bad {s : State} {p : Nat} {t : Task} {c : Cmd} {r : Nat × Nat}
    (h : (s.headerOpened p t).headerBad p t c = some r) : s.taskHeader p t c = (s.headerOpened p t).refuse c r := by
  unfold State.headerOpened at h
  simp only [State.taskHeader, h]
  rfl

/-- What a header that passes its checks makes of the state (R280). -/
structure HeaderBegun (s : State) (p : Nat) (t : Task) (c : Cmd) (u : State) : Prop where
  cmd : u.findCmd t.queue t.seq = some (c.headerBegun s.now)
  step : u.get .PART_STEP_STEP p = 0
  task : (u.part p).run.task = (s.part p).run.task
  merge : (u.part p).run.sum.mergeMax = s.get .PART_SPARSE_MERGE_MAX_ROWS p
  counts : ∀ n ∈ (s.part p).cores, CountsClear n u

theorem State.taskHeader_begins {s : State} {p : Nat} {t : Task} {c : Cmd} (hc : s.findCmd t.queue t.seq = some c)
    (h : (s.headerOpened p t).headerBad p t c = none) : HeaderBegun s p t c (s.taskHeader p t c) := by
  have frame := State.startTask_frame (s := s.headerOpened p t) (p := p) (t := t)
  have cmds := (frame.cmds (by decide)).trans (s.headerOpened_cmds p t)
  obtain ⟨a, run⟩ := (s.headerOpened p t).startTask_run p t
  rw [State.headerOpened_run, (s.headerOpened_frame p t).reg _ p (by decide) (by decide)] at run
  obtain ⟨hq, hn⟩ := State.findCmd_name hc
  rw [State.taskHeader_good h, State.headerOpened_now]
  refine ⟨State.findCmd_setCmd (c := c) ?_ hq hn, State.startTask_step _ _ _, ?_, ?_, fun n hn => ?_⟩
  · rw [State.findCmd, cmds]
    exact hc
  · rw [State.setCmd_part, run]
    rfl
  · rw [State.setCmd_part, run]
    rfl
  · exact State.startTask_counts (by rw [State.headerOpened_cores]; exact hn) t

/-- Settles O21: TASK_HEADER is `taskHeader` under the hypotheses; its two ends are a begin and a refusal. -/
theorem taskHeaderBeginsOrRefuses : Obligations.TaskHeaderBeginsOrRefuses := by
  intro s p t c ht hc edge anchor fresh swap
  have e := execTaskHeader_at ht hc edge anchor fresh swap
  refine ⟨fun good => ?_, fun r bad => ?_⟩
  · have begun := State.taskHeader_begins hc good
    exact ⟨_, e, Same.changes (execTaskHeader_frame e) (by decide +kernel), begun.cmd, begun.step, begun.task.trans ht, begun.merge,
      fun n hn _ => begun.counts n hn⟩
  · exact e.trans (congrArg Host.Outcome.next (State.taskHeader_bad bad))

end Sys2Proof.Machine
end

section
/-! The abort of a running task (R21, R295). -/

namespace Sys2Proof.Machine
open Sys2Proof.Safety

/-- The slack that a command's record carries at an abort, `slack` overriding that of the first one. -/
def State.abortSlack (f : Cmd) (slack : Option Int) (s : State) (c : Cmd) : Int :=
  match slack with
  | some x => if f.queue = c.queue ∧ f.seq = c.seq then x else s.slackAt c s.now
  | none => s.slackAt c s.now

/-- The held command of this command's name, with its record. -/
def heldRec (held : List (Cmd × Rec)) (c : Cmd) : Option (Cmd × Rec) :=
  held.find? fun h => h.1.queue == c.queue && h.1.seq == c.seq

/-- One command of an aborted task ends: a held one's record is released, any other's is written. -/
def State.abortCmd (held : List (Cmd × Rec)) (st : Cmd → Nat × Nat) (f : Cmd) (slack : Option Int) (s : State) (c : Cmd) : State :=
  match heldRec held c with
  | some h => { s with recs := s.recs ++ [{ h.2 with status := (st c).1, detail := (st c).2 }] }
  | none => s.finish c (st c).1 (st c).2 (s.abortSlack f slack c)

/-- The records of the commands that a partition's prediction slots hold. -/
def State.heldRecs (s : State) (p : Nat) : List (Cmd × Rec) := (s.part p).strm.preds.flatMap fun x => x.2.held

/-- An aborted task's commands in the order of their records: the faulting one first. -/
def State.abortOrder (s : State) (p b : Nat) (f : Cmd) : List Cmd :=
  (s.taskCmds p b).filter (fun c => c.queue == f.queue && c.seq == f.seq) ++
    (s.taskCmds p b).filter fun c => !(c.queue == f.queue && c.seq == f.seq)

/-- An abort once its commands have ended: streams, FAULT messages, and the end of the task. -/
def State.abortRest (s : State) (p ts : Nat) (wide : Bool) : State :=
  let s := (s.dropStreams p).sendFault p ts
  (if wide then s.modRun p fun r => { r with wideFree := max r.wideFree (s.now + 1) } else s).endTask p ts true

/-- An abort by its stages: the journal's FAULT record, the commands one by one, the rest. -/
theorem State.abortTask_stages {s : State} {p : Nat} {t : Task} (ht : (s.part p).run.task = some t) (f : Cmd) (st : Cmd → Nat × Nat)
    (slack : Option Int) (ts : Nat) : ∃ wide, s.abortTask p (some f) st slack ts true =
      ((s.abortOrder p t.batch f).foldl (State.abortCmd (s.heldRecs p) st f slack)
        (s.journalFault p f (st f).1 (st f).2)).abortRest p ts wide := by
  refine ⟨(s.taskCmds p t.batch).any fun c => opWide c.op && c.began.isSome, ?_⟩
  unfold State.abortTask
  rw [ht]
  cases slack <;> rfl

theorem State.mem_abortOrder {s : State} {p b : Nat} {f d : Cmd} : d ∈ s.abortOrder p b f ↔ d ∈ s.taskCmds p b := by
  rw [State.abortOrder, List.mem_append, List.mem_filter, List.mem_filter, ← and_or_left, Bool.not_eq_true']
  exact and_iff_left (Bool.eq_false_or_eq_true _)

/-- A fetched command that is apart from the held ones is none of them. -/
theorem State.heldRecs_none {s : State} {p : Nat} (h : HeldApart s p) {d : Cmd} (hd : d ∈ s.cmds) :
    heldRec (s.heldRecs p) d = none := by
  refine List.find?_eq_none.2 fun r hr e => ?_
  obtain ⟨x, hx, hr⟩ := List.mem_flatMap.1 hr
  simp only [Bool.and_eq_true, beq_iff_eq] at e
  exact h x hx r hr d hd ⟨e.1.symm, e.2.symm⟩

/-- Command `d` has left, and its record waits with its status and Detail. -/
def EndedWith (st : Cmd → Nat × Nat) (d : Cmd) (u : State) : Prop :=
  d ∉ u.cmds ∧ ∃ r ∈ u.recs, r.queue = d.queue ∧ r.seq = d.seq ∧ r.status = (st d).1 ∧ r.detail = (st d).2

/-- An end of a command brings none back and takes no record away. -/
theorem State.abortCmd_mono (held : List (Cmd × Rec)) (st : Cmd → Nat × Nat) (f : Cmd) (slack : Option Int) (s : State) (c : Cmd) :
    (s.abortCmd held st f slack c).cmds ⊆ s.cmds ∧ s.recs ⊆ (s.abortCmd held st f slack c).recs := by
  unfold State.abortCmd
  split
  · exact ⟨List.Subset.refl _, List.subset_append_left _ _⟩
  · rw [State.finish_cmds, State.finish_recs]
    exact ⟨fun _ h => (State.mem_dropCmd.1 h).1, List.subset_append_left _ _⟩

theorem State.abortCmd_ends {held : List (Cmd × Rec)} {d : Cmd} (h : heldRec held d = none) (st : Cmd → Nat × Nat) (f : Cmd)
    (slack : Option Int) (s : State) : EndedWith st d (s.abortCmd held st f slack d) := by
  unfold State.abortCmd
  rw [h]
  refine ⟨fun m => ?_, s.recordOf d (st d).1 (st d).2 (s.abortSlack f slack d), ?_, rfl, rfl, rfl, rfl⟩
  · rw [State.finish_cmds] at m
    exact (State.mem_dropCmd.1 m).2 ⟨rfl, rfl⟩
  · rw [State.finish_recs]
    exact List.mem_append_right _ List.mem_cons_self

theorem EndedWith.abortCmd {st : Cmd → Nat × Nat} {d : Cmd} {s : State} (h : EndedWith st d s) (held : List (Cmd × Rec)) (f : Cmd)
    (slack : Option Int) (c : Cmd) : EndedWith st d (s.abortCmd held st f slack c) := by
  obtain ⟨gone, r, hr, name⟩ := h
  obtain ⟨cmds, recs⟩ := s.abortCmd_mono held st f slack c
  exact ⟨fun m => gone (cmds m), r, recs hr, name⟩

/-- Every command of the list that no slot holds has ended once the list is through, and no command has come. -/
theorem State.abortCmds_end (held : List (Cmd × Rec)) (st : Cmd → Nat × Nat) (f : Cmd) (slack : Option Int) (l : List Cmd) (s : State) :
    (l.foldl (State.abortCmd held st f slack) s).cmds ⊆ s.cmds ∧
    ∀ d ∈ l, heldRec held d = none → EndedWith st d (l.foldl (State.abortCmd held st f slack) s) := by
  refine ⟨?_, fun d hd apart => ?_⟩
  · exact List.foldlRecOn l _ (motive := fun u : State => u.cmds ⊆ s.cmds) (List.Subset.refl _) fun u h c _ =>
      List.Subset.trans (u.abortCmd_mono held st f slack c).1 h
  · exact foldl_reaches (I := fun _ => True) hd (fun _ _ _ => trivial) (fun u _ => u.abortCmd_ends apart st f slack)
      (fun _ c _ _ k => k.abortCmd held f slack c) trivial

/-- After a task's end the partition runs none. -/
theorem State.endTask_task (s : State) (p status : Nat) (aborted : Bool) : ((s.endTask p status aborted).part p).run.task = none := by
  unfold State.endTask
  dsimp only
  split
  · assumption
  · rw [State.showTask, State.put_part, State.part_modRun]

/-- A task's end writes no completion record. -/
theorem State.endTask_recs (s : State) (p status : Nat) (aborted : Bool) : (s.endTask p status aborted).recs = s.recs := by
  unfold State.endTask
  dsimp only
  split
  · rfl
  · rw [State.showTask, State.put_recs, State.modRun_recs, State.disarm_frame.recs (by decide),
      foldl_kept State.recs fun _ _ => State.sample_frame.recs (by decide)]
    exact State.journal_recs _ _ _ _ _ _

theorem State.abortRest_cmds (s : State) (p ts : Nat) (wide : Bool) : (s.abortRest p ts wide).cmds = s.cmds := by
  rw [State.abortRest, State.endTask_frame.cmds (by decide), apply_ite State.cmds, State.modRun_cmds, ite_self,
    State.sendFault_frame.cmds (by decide), State.dropStreams_frame.cmds (by decide)]

theorem State.abortRest_recs (s : State) (p ts : Nat) (wide : Bool) : (s.abortRest p ts wide).recs = s.recs := by
  rw [State.abortRest, State.endTask_recs, apply_ite State.recs, State.modRun_recs, ite_self,
    State.sendFault_frame.recs (by decide), State.dropStreams_frame.recs (by decide)]

/-- Settles O22: the abort by its stages, of which the commands' own empties the list and writes the records. -/
theorem abortEndsTheTask : Obligations.AbortEndsTheTask := by
  intro s p t f st slack ts ht _ _ _ apart
  obtain ⟨wide, e⟩ := State.abortTask_stages ht f st slack ts
  have fault : (s.journalFault p f (st f).1 (st f).2).cmds = s.cmds := State.journalFault_frame.cmds (by decide)
  obtain ⟨sub, ends⟩ := State.abortCmds_end (s.heldRecs p) st f slack (s.abortOrder p t.batch f) (s.journalFault p f (st f).1 (st f).2)
  rw [fault] at sub
  have ended (d : Cmd) (hd : d ∈ s.cmds) (hp : d.part = some p) (hb : d.batch = t.batch) :=
    ends d (State.mem_abortOrder.2 (State.mem_taskCmds hd hp hb)) (State.heldRecs_none apart hd)
  dsimp only
  rw [e, State.abortRest_cmds, State.abortRest_recs]
  exact ⟨State.endTask_task _ _ _ _, fun d hd ⟨hp, hb⟩ => (ended d (sub hd) hp hb).1 hd, fun d hd hp hb => (ended d hd hp hb).2⟩

end Sys2Proof.Machine
end

section
/-! The Reel: its events, its controls and its beacons (R28 to R30, R33, R37, R43, R44, R52). -/

namespace Sys2Proof.Machine
open Sys2Proof.Safety

/-! ### Events of the Reel -/

/-- The bit of an event stands at 1 once the event has been noted. -/
theorem State.get_reelEvent (s : State) {f : Field} (h : f.code < 400)
    (k : Nat.testBit
      0x2000000000000000000000000000000000001c000000000000000000000000000000000000000000000000000000000000000000000 f.code = false)
    (w : 1 % 2 ^ f.width = 1) : (s.reelEvent f).get f 0 = 1 := by
  rw [State.reelEvent, State.get_event _ _ _ _ _ h k]
  exact (State.get_put s f 0 1).trans w

/-- A field that is neither the event's bit nor a count of the book. -/
theorem State.get_reelEvent_other (s : State) {f g : Field} (i : Nat) (h : f.code < 400)
    (k : Nat.testBit
      0x2000000000000000000000000000000000001c000000000000000000000000000000000000000000000000000000000000000000000 f.code = false)
    (ne : f.code ≠ g.code) : (s.reelEvent g).get f i = s.get f i := by
  rw [State.reelEvent, State.get_event _ _ _ _ _ h k]
  exact State.get_put_code s ne i 0 1

@[simp] theorem State.reelEvent_reel (s : State) (f : Field) : (s.reelEvent f).reel = s.reel := State.event_reel _ _ _ _
@[simp] theorem State.reelEvent_clock (s : State) (f : Field) : (s.reelEvent f).clock = s.clock := State.event_clock _ _ _ _

/-! ### FRAME_EDGE and the controls -/

/-- Settles O8: where the edge leaves time is `frameEdge_place`, what it makes of the Reel Count is `frameEdge_count`. -/
theorem frameEdgeBeginsTheNextFrame : Obligations.FrameEdgeBeginsTheNextFrame := by
  intro s
  obtain ⟨now, start, number⟩ := s.frameEdge_place
  exact ⟨_, rfl, Same.changes (execFrameEdge_frame rfl) (by decide +kernel), now, start, number, s.frameEdge_count⟩

theorem State.whenBooted_booted {s : State} (h : s.booted = true) (t : State) : s.whenBooted t = t := if_pos h

/-- Settles O13: a booted Gondola takes each control, and the control's own test decides. -/
theorem reelControls : Obligations.ReelControls := by
  intro s booted
  have run (t : State) : Host.Outcome.next (φ := Fault) (ρ := Refusal) (s.whenBooted t) = .next t :=
    congrArg _ (State.whenBooted_booted booted t)
  exact ⟨fun locked => (run _).trans (congrArg _ (if_pos locked)), fun other => (run _).trans (congrArg _ (if_neg other)), run _,
    fun n => (run _).trans (congrArg _ (if_pos rfl)), fun n v hv => (run _).trans (congrArg _ (if_neg hv))⟩

/-! ### Beacons -/

theorem execReelBeacon_valid {n : Fin 64} {ok : Bool} {w : Bytes} {s : State} (talks : s.portTalks n.val = true)
    (valid : beaconValid ok w = true) (a : Int) : execReelBeacon n ok w a s = .next (s.takeBeacon n.val w a) := by
  rw [execReelBeacon, if_pos talks, if_pos valid]

theorem execReelBeacon_invalid {n : Fin 64} {ok : Bool} {w : Bytes} {s : State} (talks : s.portTalks n.val = true)
    (invalid : beaconValid ok w = false) (a : Int) :
    execReelBeacon n ok w a s = .next ((s.inc .REEL_BEACON_ERR_COUNT n.val 1).reelEvent .REEL_EVT_BEACON_DISCARD) := by
  rw [execReelBeacon, if_pos talks, invalid, if_neg Bool.false_ne_true]

/-- The beacon's phase against the module's own edge (R33). -/
def State.beaconPhase (s : State) (n : Nat) (w : Bytes) (a : Int) : Int := a - (u32 w 24 : Nat) - (s.get .TETH_DELAY_DELAY n : Nat)

/-- Port `n`'s tracker keeps the beacon for the edge that it marks (R29). -/
def State.keptBeacon (s : State) (n : Nat) (w : Bytes) (a : Int) : State :=
  s.setTracker n { s.tracker n with got := some (u64 w 0), gotPeriod := beaconPeriod w, gotPhase := s.beaconPhase n w a }

/-- The reference's beacon is kept, and its phase is reported (R33). -/
def State.phasedBeacon (s : State) (n : Nat) (w : Bytes) (a : Int) : State :=
  (s.keptBeacon n w a).put .REEL_PHASE_ERROR 0 (ofSigned 32 (s.beaconPhase n w a))

/-- Port `n` gives the reference (R30). -/
def State.isRef (s : State) (n : Nat) : Prop := s.get .REEL_STAT_REF_VALID 0 = 1 ∧ s.get .REEL_STAT_REF_PORT 0 = n

theorem State.takeBeacon_other {s : State} {n : Nat} (h : ¬s.isRef n) (w : Bytes) (a : Int) :
    s.takeBeacon n w a = s.keptBeacon n w a := if_neg h

theorem State.get_phasedBeacon (s : State) (n : Nat) (w : Bytes) (a : Int) {f : Field} (i : Nat)
    (h : f.code ≠ Field.REEL_PHASE_ERROR.code) : (s.phasedBeacon n w a).get f i = s.get f i := State.get_put_code _ h _ _ _

/-- Besides keeping it, the reference's beacon at most announces a change. -/
theorem State.takeBeacon_ref {s : State} {n : Nat} (h : s.isRef n) (w : Bytes) (a : Int) :
    s.takeBeacon n w a = if beaconChange w = true ∧ s.ownCount = true ∧ s.reel.late = none then
      (s.phasedBeacon n w a).takeChange (beaconNew w) (u64 w 16) else s.phasedBeacon n w a := by
  have own : (s.phasedBeacon n w a).ownCount = s.ownCount := by
    simp only [State.ownCount, s.get_phasedBeacon n w a 0 (f := .REEL_STAT_STATE) (by decide)]
  rw [← own]
  exact if_pos h

/-- An announcement touches no tracker. -/
theorem State.takeChange_tracker (s : State) (code frame k : Nat) : (s.takeChange code frame).tracker k = s.tracker k := by
  unfold State.takeChange
  split
  · rfl
  · split
    · rfl
    · split <;> rfl

theorem State.takeBeacon_tracker (s : State) (n : Nat) (w : Bytes) (a : Int) (k : Nat) :
    (s.takeBeacon n w a).tracker k = (s.keptBeacon n w a).tracker k := by
  by_cases h : s.isRef n
  · rw [State.takeBeacon_ref h]
    split
    · exact State.takeChange_tracker _ _ _ _
    · rfl
  · rw [State.takeBeacon_other h]

theorem State.get_takeBeacon_phase {s : State} {n : Nat} (h : s.isRef n) (w : Bytes) (a : Int) :
    (s.takeBeacon n w a).get .REEL_PHASE_ERROR 0 = ofSigned 32 (s.beaconPhase n w a) % 2 ^ 32 := by
  have reported : (s.phasedBeacon n w a).get .REEL_PHASE_ERROR 0 = ofSigned 32 (s.beaconPhase n w a) % 2 ^ 32 := State.get_put _ _ _ _
  rw [State.takeBeacon_ref h]
  split
  · exact (State.takeChange_frame.reg .REEL_PHASE_ERROR 0 (by decide) (by decide)).trans reported
  · exact reported

/-- Settles O9: `takeBeacon` keeps a valid beacon in its port's tracker alone, and reports the phase of the reference's. -/
theorem reelBeaconIsKeptOrCounted : Obligations.ReelBeaconIsKeptOrCounted := by
  intro s n ok w a talks
  refine ⟨fun valid => ?_, execReelBeacon_invalid talks (a := a)⟩
  have e := execReelBeacon_valid talks valid a
  have kept : (s.keptBeacon n.val w a).tracker n.val = _ := State.tracker_setTracker _ _ _
  have held := (s.takeBeacon_tracker n.val w a n.val).trans kept
  refine ⟨_, e, Same.changes (execReelBeacon_frame e) (by decide +kernel), congrArg Tracker.got held,
    congrArg Tracker.gotPeriod held, fun k hk => ?_, fun valid port => State.get_takeBeacon_phase ⟨valid, port⟩ w a⟩
  exact (s.takeBeacon_tracker n.val w a k).trans (Tab.get_put_other _ _ _ hk)

/-! ### Announcements of a period change -/

/-- The announcement stands in REEL_PERIOD_NEXT (R44). -/
def State.announced (s : State) (code frame : Nat) : Prop :=
  s.get .REEL_PERIOD_NEXT_VALID 0 = 1 ∧ s.get .REEL_PERIOD_NEXT_CODE 0 = code ∧ s.get .REEL_PERIOD_NEXT_FRAME 0 = frame % 2 ^ 56

theorem State.takeChange_announced {s : State} {code frame : Nat} (h : s.announced code frame) : s.takeChange code frame = s := if_pos h

/-- An announcement in time stands in REEL_PERIOD_NEXT and is not late. -/
theorem State.takeChange_ahead {s : State} {code frame : Nat} (h : ¬s.announced code frame) (ahead : s.reelCount + 1 + 1024 ≤ frame)
    (small : code < 8) : (s.takeChange code frame).announced code frame ∧ (s.takeChange code frame).reel = s.reel := by
  have e : s.takeChange code frame =
      ((s.put .REEL_PERIOD_NEXT_VALID 0 1).put .REEL_PERIOD_NEXT_CODE 0 code).put .REEL_PERIOD_NEXT_FRAME 0 frame :=
    (if_neg h).trans (if_pos ahead)
  rw [e]
  refine ⟨⟨?_, ?_, State.get_put _ _ _ _⟩, rfl⟩
  · simp (disch := decide) only [State.get_put_code, State.get_put]
    rfl
  · simp (disch := decide) only [State.get_put_code, State.get_put]
    exact Nat.mod_eq_of_lt small

theorem State.takeChange_late {s : State} {code frame : Nat} (h : ¬s.announced code frame) (future : s.reelCount + 1 < frame)
    (near : frame < s.reelCount + 1 + 1024) :
    s.takeChange code frame = { s with reel := { s.reel with late := some (s.clock.frameNo + 2) } } :=
  (if_neg h).trans ((if_neg (Nat.not_le.2 near)).trans (if_neg fun past => Nat.not_le.2 future past.1))

theorem beaconNew_lt (w : Bytes) : beaconNew w < 8 := Nat.mod_lt _ (by decide)

/-- Settles O10: the three cases of `takeChange`, in the state that the reference's beacon has been kept in. -/
theorem periodAnnouncementIsTaken : Obligations.PeriodAnnouncementIsTaken := by
  intro s n w a talks valid change refValid refPort own late
  have fields {f : Field} (h : f.code ≠ Field.REEL_PHASE_ERROR.code) := s.get_phasedBeacon n.val w a 0 h
  have count : (s.phasedBeacon n.val w a).reelCount = s.reelCount := fields (by decide)
  have told : (s.phasedBeacon n.val w a).announced (beaconNew w) (u64 w 16) ↔ s.announced (beaconNew w) (u64 w 16) := by
    simp only [State.announced, fields (f := .REEL_PERIOD_NEXT_VALID) (by decide), fields (f := .REEL_PERIOD_NEXT_CODE) (by decide),
      fields (f := .REEL_PERIOD_NEXT_FRAME) (by decide)]
  have e : execReelBeacon n true w a s = .next ((s.phasedBeacon n.val w a).takeChange (beaconNew w) (u64 w 16)) := by
    rw [execReelBeacon_valid talks valid, State.takeBeacon_ref ⟨refValid, refPort⟩, if_pos ⟨change, own, late⟩]
  refine ⟨_, e, fun h => ?_, fun h ahead => ?_, fun h future near => ?_⟩
  · rw [State.takeChange_announced (told.2 h)]
    obtain ⟨v, c, f⟩ := told.2 h
    exact ⟨v, c, f, late⟩
  · obtain ⟨⟨v, c, f⟩, reel⟩ := State.takeChange_ahead (mt told.1 h) (count.symm ▸ ahead) (beaconNew_lt w)
    exact ⟨v, c, f, (congrArg ReelSt.late reel).trans late⟩
  · rw [State.takeChange_late (mt told.1 h) (count.symm ▸ future) (count.symm ▸ near)]
    exact ⟨fields (by decide), rfl⟩

end Sys2Proof.Machine
end

section
/-! Lock, the loss of the Reel, and the change of the frame period (R35, R40, R42 to R44). -/

namespace Sys2Proof.Machine
open Sys2Proof.Safety

/-- A field is read from the registers' table alone. -/
theorem State.get_of_regs {s t : State} (h : t.regs = s.regs) (f : Field) (i : Nat) : t.get f i = s.get f i := by
  rw [State.get, State.get, h]

/-! ### Lock -/

theorem State.lenOf_plain {s : State} (h : s.power.step = none) (code : Nat) : s.lenOf code = cyclesOf code := by
  rw [State.lenOf, h]

/-- The beacons' count and period are adopted, and port `n` is the reference; no event has been noted yet. -/
def State.adopted (s : State) (n c : Nat) : State :=
  let t := s.tracker n
  { ((((s.put .REEL_COUNT_COUNT 0 c).put .REEL_STAT_STATE 0 2).put .REEL_STAT_PERIOD 0 t.period).put .REEL_STAT_REF_PORT 0 n).put
      .REEL_STAT_REF_VALID 0 1 with
    clock := { s.clock with frameLen := s.lenOf t.period }, reel := { s.reel with log := [], reselect := 0 } }

/-- A lock by its stages: what is adopted, the note of a changed period, the note of a lock after a loss. -/
theorem State.lockOn_stages {s : State} {n c : Nat} (h : (s.tracker n).last = some c) : s.lockOn n =
    let u := if (s.put .REEL_COUNT_COUNT 0 c).get .REEL_STAT_PERIOD 0 ≠ (s.tracker n).period then
      (s.adopted n c).reelEvent .REEL_EVT_PERIOD_CHANGE else s.adopted n c
    if s.reel.wasLost && !s.reel.resumed then u.reelEvent .REEL_EVT_RELOCK else u := by
  simp only [State.lockOn, h]
  rfl

/-- The notes of a lock change their two bits, the book, and nothing that has been adopted. -/
theorem State.lockOn_adopted {s : State} {n c : Nat} (h : (s.tracker n).last = some c) :
    Same 0x82000000000000000000000000000000000001c000000000000000000000000000000000000000000000000000000000000000050000
      (s.adopted n c) (s.lockOn n) := by
  rw [State.lockOn_stages h]
  refine Same.ite (State.reelEvent_frame (by decide) (by decide) ?_) ?_
  all_goals exact Same.ite (State.reelEvent_frame (by decide) (by decide) Same.refl) Same.refl

theorem State.lockOn_notes_change {s : State} {n c : Nat} (h : (s.tracker n).last = some c)
    (changed : s.get .REEL_STAT_PERIOD 0 ≠ (s.tracker n).period) : (s.lockOn n).get .REEL_EVT_PERIOD_CHANGE 0 = 1 := by
  have noted : ((s.adopted n c).reelEvent .REEL_EVT_PERIOD_CHANGE).get .REEL_EVT_PERIOD_CHANGE 0 = 1 :=
    State.get_reelEvent _ (by decide) (by decide) (by decide)
  have period : (s.put .REEL_COUNT_COUNT 0 c).get .REEL_STAT_PERIOD 0 = s.get .REEL_STAT_PERIOD 0 :=
    State.get_put_code _ (by decide) _ _ _
  rw [State.lockOn_stages h, period, if_pos changed]
  dsimp only
  split
  · rw [State.get_reelEvent_other _ _ (by decide) (by decide) (by decide), noted]
  · exact noted

/-- What a lock's registers hold once count, state, period and reference have been adopted (R35, R444). -/
theorem State.get_adopted (s : State) (n c : Nat) :
    (s.adopted n c).get .REEL_STAT_STATE 0 = 2 ∧ (s.adopted n c).get .REEL_COUNT_COUNT 0 = c % 2 ^ 64 ∧
    (s.adopted n c).get .REEL_STAT_PERIOD 0 = (s.tracker n).period % 8 ∧ (s.adopted n c).get .REEL_STAT_REF_VALID 0 = 1 ∧
    (s.adopted n c).get .REEL_STAT_REF_PORT 0 = n % 64 := by
  have value (f : Field) : (s.adopted n c).get f 0 = (((((s.put .REEL_COUNT_COUNT 0 c).put .REEL_STAT_STATE 0 2).put
    .REEL_STAT_PERIOD 0 (s.tracker n).period).put .REEL_STAT_REF_PORT 0 n).put .REEL_STAT_REF_VALID 0 1).get f 0 :=
    State.get_of_regs (by simp only [State.adopted]) f 0
  refine ⟨?_, ?_, ?_, ?_, ?_⟩
  all_goals
    simp (disch := decide) only [value, State.get_put_code, State.get_put]
    rfl

/-- Settles O11: LOCK is `lockOn`, whose notes leave what has been adopted. -/
theorem lockAdoptsCountAndPeriod : Obligations.LockAdoptsCountAndPeriod := by
  intro s n c port last
  have e : execLock s = .next (s.lockOn n) := by rw [execLock, port]
  have kept := State.lockOn_adopted last
  obtain ⟨state, count, period, valid, ref⟩ := s.get_adopted n c
  refine ⟨_, e, Same.changes (execLock_frame e) (by decide +kernel), ?_, ?_, ?_, ?_, ?_, ?_,
    State.lockOn_notes_change last, fun plain => ?_⟩
  · exact (kept.reg _ 0 (by decide) (by decide)).trans state
  · exact (kept.reg _ 0 (by decide) (by decide)).trans count
  · exact (kept.reg _ 0 (by decide) (by decide)).trans period
  · exact (kept.reg _ 0 (by decide) (by decide)).trans valid
  · exact (kept.reg _ 0 (by decide) (by decide)).trans ref
  · rw [kept.reel (by decide)]
    rfl
  · rw [kept.clock (by decide), State.adopted, State.lenOf_plain plain]

/-! ### The loss of the Reel -/

/-- The registers of the state LOST, a holdover having been closed (R42, R52). -/
def State.lostShown (s : State) (cause : Nat) : State :=
  (((s.endHoldover.put .REEL_STAT_STATE 0 4).put .REEL_STAT_REF_VALID 0 0).put .REEL_STAT_CAUSE 0 cause).put .REEL_PERIOD_NEXT_VALID 0 0

/-- What the Reel unit keeps once the Reel is lost (R43). -/
def ReelSt.lost (r : ReelSt) : ReelSt :=
  { r with resumed := false, wasLost := true, late := none, reselect := 0, verdict := 0, log := [] }

/-- The loss has been shown and noted; the tasks have not been aborted yet. -/
def State.lostNoted (s : State) (cause : Nat) : State :=
  { s.lostShown cause with reel := s.reel.lost }.reelEvent .REEL_EVT_LOST

theorem State.endHoldover_reel (s : State) : s.endHoldover.reel = s.reel := State.endHoldover_frame.reel (by decide)

theorem State.enterLost_stages (s : State) (cause : Nat) :
    s.enterLost cause = (List.range 16).foldl (fun t p => t.reelAbort p) (s.lostNoted cause) := by
  rw [State.lostNoted, ← s.endHoldover_reel]
  rfl

/-- The aborts change nothing of the Reel. -/
theorem State.enterLost_noted (s : State) (cause : Nat) :
    Same 0x82026680000000000000000000000000000001c0001000000000c6000800000000008000000000000000000000000000000000000000
      (s.lostNoted cause) (s.enterLost cause) := by
  rw [State.enterLost_stages]
  exact Same.foldl (fun _ _ k => k.trans State.reelAbort_frame) _ Same.refl

/-- A field of the Reel that is neither the event's bit nor one that an abort changes is as the loss shows it. -/
theorem State.get_enterLost (s : State) (cause : Nat) {f : Field} (h : f.code < 400)
    (k : Nat.testBit
      0x82026680000000000000000000000000000001c0001000000000c6000800000000008000000000000000000000000000000000000000 f.code = false)
    (ne : f.code ≠ Field.REEL_EVT_LOST.code) : (s.enterLost cause).get f 0 = (s.lostShown cause).get f 0 := by
  rw [(s.enterLost_noted cause).reg f 0 h k, State.lostNoted, State.get_reelEvent_other _ 0 h (testBit_of_or (by decide) k) ne]
  exact State.get_of_regs (by dsimp only) f 0

/-- The state is LOST with its cause, no reference is selected, the event is noted, and no data is fetched (R40, R42, R43). -/
theorem State.enterLost_lost (s : State) {cause : Nat} (h : cause < 16) :
    (s.enterLost cause).get .REEL_STAT_STATE 0 = 4 ∧ (s.enterLost cause).get .REEL_STAT_CAUSE 0 = cause ∧
    (s.enterLost cause).get .REEL_STAT_REF_VALID 0 = 0 ∧ (s.enterLost cause).get .REEL_EVT_LOST 0 = 1 ∧
    (s.enterLost cause).reel.resumed = false := by
  have noted := s.enterLost_noted cause
  refine ⟨?_, ?_, ?_, ?_, ?_⟩
  · rw [State.get_enterLost s cause (by decide) (by decide) (by decide), State.lostShown]
    simp (disch := decide) only [State.get_put_code, State.get_put]
    rfl
  · rw [State.get_enterLost s cause (by decide) (by decide) (by decide), State.lostShown]
    simp (disch := decide) only [State.get_put_code, State.get_put]
    exact Nat.mod_eq_of_lt h
  · rw [State.get_enterLost s cause (by decide) (by decide) (by decide), State.lostShown]
    simp (disch := decide) only [State.get_put_code, State.get_put]
    rfl
  · exact (noted.reg _ 0 (by decide) (by decide)).trans (State.get_reelEvent _ (by decide) (by decide) (by decide))
  · rw [noted.reel (by decide), State.lostNoted, State.reelEvent_reel]
    rfl

/-- A holdover that ends in a loss has its length kept (R52). -/
theorem State.enterLost_holdover {s : State} (h : s.get .REEL_STAT_STATE 0 = 3) (cause : Nat) :
    (s.enterLost cause).get .REEL_HOLD_LAST 0 = min 1024 (s.get .REEL_HOLD_CURRENT 0) ∧
    (s.enterLost cause).get .REEL_HOLD_CURRENT 0 = 0 := by
  have ended : s.endHoldover =
      (s.put .REEL_HOLD_LAST 0 (min 1024 (s.get .REEL_HOLD_CURRENT 0))).put .REEL_HOLD_CURRENT 0 0 := if_pos h
  constructor
  · rw [State.get_enterLost s cause (by decide) (by decide) (by decide), State.lostShown, ended]
    simp (disch := decide) only [State.get_put_code, State.get_put]
    exact Nat.mod_eq_of_lt (Nat.lt_of_le_of_lt (Nat.min_le_left _ _) (by decide))
  · rw [State.get_enterLost s cause (by decide) (by decide) (by decide), State.lostShown, ended]
    simp (disch := decide) only [State.get_put_code, State.get_put]
    rfl

/-! ### The change of the period -/

/-- The new period is in force, and no change stands announced (R44). -/
def State.periodTaken (s : State) : State :=
  let code := s.get .REEL_PERIOD_NEXT_CODE 0
  { (s.put .REEL_STAT_PERIOD 0 code).put .REEL_PERIOD_NEXT_VALID 0 0 with clock := { s.clock with frameLen := s.lenOf code } }

theorem State.switchPeriod_stages (s : State) :
    s.switchPeriod = (List.range 16).foldl (fun t p => t.periodAbort p) (s.periodTaken.reelEvent .REEL_EVT_PERIOD_CHANGE) := rfl

/-- The aborts change nothing of the Reel. -/
theorem State.switchPeriod_noted (s : State) :
    Same 0x2026680000000000000000000000000000001c0001000000000c6000000000000008000000000000000000000000000000000000000
      (s.periodTaken.reelEvent .REEL_EVT_PERIOD_CHANGE) s.switchPeriod :=
  Same.foldl (fun _ _ k => k.trans State.periodAbort_frame) _ Same.refl

/-- What a change of period leaves: the new code, no announcement, the event, the Reel unit and the frame's length (R44). -/
theorem State.switchPeriod_switched (s : State) :
    s.switchPeriod.get .REEL_STAT_PERIOD 0 = s.get .REEL_PERIOD_NEXT_CODE 0 % 8 ∧ s.switchPeriod.get .REEL_PERIOD_NEXT_VALID 0 = 0 ∧
    s.switchPeriod.get .REEL_EVT_PERIOD_CHANGE 0 = 1 ∧ s.switchPeriod.reel = s.reel ∧
    s.switchPeriod.clock = { s.clock with frameLen := s.lenOf (s.get .REEL_PERIOD_NEXT_CODE 0) } := by
  have noted := s.switchPeriod_noted
  have taken (f : Field) : s.periodTaken.get f 0 =
    ((s.put .REEL_STAT_PERIOD 0 (s.get .REEL_PERIOD_NEXT_CODE 0)).put .REEL_PERIOD_NEXT_VALID 0 0).get f 0 := State.get_of_regs rfl f 0
  refine ⟨?_, ?_, ?_, ?_, ?_⟩
  · rw [noted.reg _ 0 (by decide) (by decide), State.get_reelEvent_other _ _ (by decide) (by decide) (by decide), taken]
    simp (disch := decide) only [State.get_put_code, State.get_put]
    rfl
  · rw [noted.reg _ 0 (by decide) (by decide), State.get_reelEvent_other _ _ (by decide) (by decide) (by decide), taken, State.get_put]
    rfl
  · exact (noted.reg _ 0 (by decide) (by decide)).trans (State.get_reelEvent _ (by decide) (by decide) (by decide))
  · exact (noted.reel (by decide)).trans (State.reelEvent_reel _ _)
  · exact (noted.clock (by decide)).trans (State.reelEvent_clock _ _)

theorem execHoldoverLimit_reached {s : State} (edge : s.atEdge = true) (hold : s.get .REEL_STAT_STATE 0 = 3)
    (limit : 1024 ≤ s.get .REEL_HOLD_CURRENT 0) : execHoldoverLimit s = .next (s.enterLost 1) := by
  rw [execHoldoverLimit, if_pos ⟨edge, hold, limit⟩]

theorem execPeriodChange_late {s : State} (edge : s.atEdge = true) (own : s.ownCount = true) (late : s.lateDue = true) :
    execPeriodChange s = .next (s.enterLost 4) := by
  rw [execPeriodChange, if_pos ⟨edge, own⟩, if_pos late]

theorem execPeriodChange_announced {s : State} (edge : s.atEdge = true) (own : s.ownCount = true) (timely : s.lateDue = false)
    (valid : s.get .REEL_PERIOD_NEXT_VALID 0 = 1) (frame : s.get .REEL_PERIOD_NEXT_FRAME 0 = s.reelCount % 2 ^ 56) :
    execPeriodChange s = .next s.switchPeriod := by
  rw [execPeriodChange, if_pos ⟨edge, own⟩, timely, if_neg Bool.false_ne_true, if_pos ⟨valid, frame⟩]

/-- Settles O12: HOLDOVER_LIMIT and a late announcement are `enterLost`, an announced change in time is `switchPeriod`. -/
theorem lossOfTheReel : Obligations.LossOfTheReel := by
  intro s edge
  refine ⟨fun hold limit => ?_, fun own late => ?_, fun own timely valid frame => ?_⟩
  · have e : execHoldoverLimit s = .next (s.enterLost 1) := execHoldoverLimit_reached edge hold limit
    obtain ⟨state, cause, ref, event, fetch⟩ := s.enterLost_lost (cause := 1) (by decide)
    obtain ⟨last, current⟩ := State.enterLost_holdover hold 1
    exact ⟨_, e, Same.changes (execHoldoverLimit_frame e) (by decide +kernel), state, cause, ref,
      last.trans (Nat.min_eq_left limit), current, event, fetch⟩
  · have e : execPeriodChange s = .next (s.enterLost 4) := execPeriodChange_late edge own late
    obtain ⟨state, cause, -, event, fetch⟩ := s.enterLost_lost (cause := 4) (by decide)
    exact ⟨_, e, Same.changes (execPeriodChange_frame e) (by decide +kernel), state, cause, event, fetch⟩
  · have e : execPeriodChange s = .next s.switchPeriod := execPeriodChange_announced edge own timely valid frame
    obtain ⟨period, next, event, reel, clock⟩ := s.switchPeriod_switched
    exact ⟨_, e, Same.changes (execPeriodChange_frame e) (by decide +kernel), period, next, event, reel,
      fun plain => by rw [clock, State.lenOf_plain plain]⟩

end Sys2Proof.Machine
end

section
/-! A fetched task takes its anchor, and an absent row ends its command (R45, R48, R181, R232, R280). -/

namespace Sys2Proof.Machine
open Sys2Proof.Safety

theorem State.part_modRun_other (s : State) {p k : Nat} (g : PartRun → PartRun) (h : k ≠ p) : (s.modRun p g).part k = s.part k :=
  State.part_setPart_other _ _ h

/-- A partition that runs a task shows it (R300). -/
theorem State.get_showTask_running {s : State} {p : Nat} (h : ((s.part p).run.task).isSome = true) :
    (s.showTask p).get .PART_CMD_TASK p = 2 := by
  rw [State.showTask, if_pos h, State.get_put]
  rfl

/-- A task whose anchor is the first edge after the present cycle and `start` frames more (R45). -/
def Task.anchoredIn (t : Task) (s : State) (start : Nat) : Task :=
  { t with anchor := some (s.clock.frameNo + 1 + start), anchorReel := (s.reelCount + 1 + start) % 2 ^ 64, anchorAt := none }

/-- A run that takes up a task. -/
def PartRun.take (r : PartRun) (t : Task) : PartRun := { r with task := some t, next := none, sum := TaskSum.init }

theorem execTaskFetched_ready {s : State} {p : Fin 16} {t : Task} {c : Cmd} (ready : s.nextReady p.val = some t)
    (found : s.findCmd t.queue t.seq = some c) : execTaskFetched p s =
      .next ((s.modRun p.val fun r => r.take (t.anchoredIn s c.start)).showTask p.val) := by
  simp only [execTaskFetched, ready, State.fixAnchor, found]
  rfl

/-- Settles O20: the partition's run takes the anchored task, and no other partition is touched. -/
theorem taskFetchedFixesTheAnchor : Obligations.TaskFetchedFixesTheAnchor := by
  intro s p t c ready found
  have e := execTaskFetched_ready ready found
  have run : (((s.modRun p.val fun r => r.take (t.anchoredIn s c.start)).showTask p.val).part p.val).run =
      (s.part p.val).run.take (t.anchoredIn s c.start) := by rw [State.showTask, State.put_part, State.part_modRun]
  refine ⟨_, e, Same.changes (execTaskFetched_frame e) (by decide +kernel), ?_, ?_, ?_, State.get_showTask_running ?_, fun k hk => ?_⟩
  · rw [run]
    rfl
  · rw [run]
    rfl
  · rw [run]
    rfl
  · rw [State.part_modRun]
    rfl
  · rw [State.showTask, State.put_part, State.part_modRun_other _ _ hk]

/-- A shard's row is named by the shard and the row (R181). -/
theorem absentDetail_stream {c : Cmd} (h : c.op = 0x200) (x : Shard) (j : Nat) :
    absentDetail c x j = x.id % 2 ^ 48 + j % 2 ^ 16 * 2 ^ 48 := by
  rw [absentDetail, if_neg (by omega), if_neg (by omega)]

/-- Settles O38: the transfer, its entry and the bytes that the row needs are found, and the row's round is over. -/
theorem absentRowIsADeadlineMiss : Obligations.AbsentRowIsADeadlineMiss := by
  intro s c d p k row m st h e b found part stream transfer entry need short passed
  refine ⟨?_, fun op => absentDetail_stream op h row⟩
  have step : s.rowAbsent d p k row =
      ((s.mark (s.port h.port).rehearsal).fault d 0x3001 (absentDetail d h row)).mark false := by
    simp only [State.rowAbsent, stream, transfer, entry, need]
    exact if_pos ⟨short, passed⟩
  rw [← step]
  show execRowAbsent c k row s = _
  simp only [execRowAbsent, found, part]

end Sys2Proof.Machine
end

section
/-! Late commands: the record of the command that ends its task, LATE_BEGIN and DEADLINE_MISS (R48, R295, R450). -/

namespace Sys2Proof.Machine
open Sys2Proof.Safety

/-! ### The record of the command for which a task is aborted -/

/-- The statuses of an abort: the named command's own, and ABORTED_TASK for every other (R295). -/
def Cmd.alone (c : Cmd) (status detail : Nat) (d : Cmd) : Nat × Nat :=
  if d.queue = c.queue ∧ d.seq = c.seq then (status, detail) else (0x4000, 0)

theorem Cmd.alone_self (c : Cmd) (status detail : Nat) : c.alone status detail c = (status, detail) := if_pos ⟨rfl, rfl⟩

/-- The slack of the command for which the abort comes is the one given. -/
theorem State.abortSlack_given (f : Cmd) (x : Int) (s : State) : s.abortSlack f (some x) f = x := if_pos ⟨rfl, rfl⟩

/-- A record of command `d`, made with the abort's status, Detail and slack at some point of it, waits. -/
def Recorded (st : Cmd → Nat × Nat) (f : Cmd) (slack : Option Int) (d : Cmd) (u : State) : Prop :=
  ∃ v : State, v.recordOf d (st d).1 (st d).2 (v.abortSlack f slack d) ∈ u.recs

theorem State.abortCmd_records {held : List (Cmd × Rec)} {d : Cmd} (h : heldRec held d = none) (st : Cmd → Nat × Nat) (f : Cmd)
    (slack : Option Int) (s : State) : Recorded st f slack d (s.abortCmd held st f slack d) := by
  refine ⟨s, ?_⟩
  rw [State.abortCmd, h, State.finish_recs]
  exact List.mem_append_right _ List.mem_cons_self

/-- Every command of the list that no slot holds has its record once the list is through. -/
theorem State.abortCmds_record {held : List (Cmd × Rec)} {d : Cmd} {l : List Cmd} (hd : d ∈ l) (h : heldRec held d = none)
    (st : Cmd → Nat × Nat) (f : Cmd) (slack : Option Int) (s : State) :
    Recorded st f slack d (l.foldl (State.abortCmd held st f slack) s) :=
  foldl_reaches (I := fun _ => True) hd (fun _ _ _ => trivial) (fun u _ => u.abortCmd_records h st f slack)
    (fun u c _ _ ⟨v, hv⟩ => ⟨v, (u.abortCmd_mono held st f slack c).2 hv⟩) trivial

/-- The abort of a running task for one of its commands, which no slot holds: no task runs, and the command has its record. -/
theorem State.abortTask_records {s : State} {p : Nat} {t : Task} {c : Cmd} (task : (s.part p).run.task = some t) (mem : c ∈ s.cmds)
    (part : c.part = some p) (batch : c.batch = t.batch) (free : heldRec (s.heldRecs p) c = none) (st : Cmd → Nat × Nat)
    (slack : Option Int) (ts : Nat) : ((s.abortTask p (some c) st slack ts true).part p).run.task = none ∧
      Recorded st c slack c (s.abortTask p (some c) st slack ts true) := by
  obtain ⟨wide, e⟩ := State.abortTask_stages task c st slack ts
  have listed : c ∈ s.abortOrder p t.batch c := State.mem_abortOrder.2 (State.mem_taskCmds mem part batch)
  rw [e]
  refine ⟨State.endTask_task _ _ _ _, ?_⟩
  rw [Recorded, State.abortRest_recs]
  exact State.abortCmds_record listed free st c slack _

/-! ### LATE_BEGIN -/

theorem State.advance_of {s : State} {x : Nat} (past : s.now ≤ x) (frame : x < s.nextEdge) :
    s.advance x = { s with clock := { s.clock with now := x } } := if_pos ⟨past, frame⟩

theorem Cmd.unbegun {c : Cmd} (h : c.began = none) : { c with began := none } = c := by rw [← h]

/-- A command that has never begun is refused by the abort of its task, where it has one (R275, R448). -/
theorem State.refuse_part {s : State} {c : Cmd} {p : Nat} (fresh : c.began = none) (part : c.part = some p) (r : Nat × Nat) :
    s.refuse c r = (s.setCmd c).abortTask p (some c) (c.alone r.1 r.2) none r.1 true := by
  rw [State.refuse, Cmd.unbegun fresh]
  simp only [State.abort, part]
  rfl

theorem State.taskOf_running {s : State} {c : Cmd} {p : Nat} {t : Task} (part : c.part = some p) (task : s.taskOf c = some t) :
    (s.part p).run.task = some t ∧ c.batch = t.batch := by
  simp only [State.taskOf, part] at task
  cases running : (s.part p).run.task with
  | none =>
    rw [running] at task
    cases task
  | some k =>
    simp only [running, Option.ite_none_right_eq_some, Option.some.injEq] at task
    obtain ⟨batch, rfl⟩ := task
    exact ⟨rfl, batch.symm⟩

/-- The refusal of a command of the running task: no task runs, and the command's record names the status, the Detail and no cycle. -/
theorem State.refuse_records {s : State} {c : Cmd} {p : Nat} {t : Task} (found : s.findCmd c.queue c.seq = some c)
    (fresh : c.began = none) (part : c.part = some p) (task : s.taskOf c = some t) (apart : HeldApart s p) (r : Nat × Nat) :
    ((s.refuse c r).part p).run.task = none ∧
    ∃ x ∈ (s.refuse c r).recs, x.queue = c.queue ∧ x.seq = c.seq ∧ x.status = r.1 ∧ x.detail = r.2 ∧ x.cycles = 0 := by
  obtain ⟨running, batch⟩ := State.taskOf_running part task
  have free : heldRec ((s.setCmd c).heldRecs p) c = none := State.heldRecs_none apart (List.mem_of_find?_eq_some found)
  have mem : c ∈ (s.setCmd c).cmds := List.mem_of_find?_eq_some (State.findCmd_setCmd found rfl rfl)
  obtain ⟨idle, v, hv⟩ := State.abortTask_records (s := s.setCmd c) running mem part batch free (c.alone r.1 r.2) none r.1
  rw [State.refuse_part fresh part]
  refine ⟨idle, _, hv, rfl, rfl, congrArg Prod.fst (c.alone_self _ _), congrArg Prod.snd (c.alone_self _ _), ?_⟩
  simp only [State.recordOf, fresh]

theorem execLateBegin_late {s : State} {c : CmdId} {d : Cmd} {p x low : Nat} {t : Task} (found : s.findCmd c.queue.val c.seq = some d)
    (part : d.part = some p) (task : s.taskOf d = some t) (fresh : d.began = none) (anchor : t.anchorAt.isSome = true)
    (header : (s.part p).run.sum.headerAt.isSome = true) (skips : s.spillSkips d p = false) (due : s.beginBy d p = some (x, low))
    (frame : x + 1 < s.nextEdge) : execLateBegin c s = .next ((s.advance (x + 1)).refuse d (0x3001, low + 2 ^ 32)) := by
  simp only [execLateBegin, found, part, task]
  rw [if_pos ⟨fresh, anchor, header, skips⟩]
  simp only [State.lateBegin, due]
  rw [if_pos frame]

/-! ### DEADLINE_MISS -/

/-- The Detail of a missed deadline: the remaining count, and the Reel Count above it (R48). -/
def State.missDetail (s : State) (n : Nat) : Nat := n + s.reelCount % 2 ^ 32 * 2 ^ 32

theorem State.deadlineMiss_pf {s : State} {d : Cmd} {n : Nat} (left : s.remaining d = some n) (small : n ≤ 0x7FFFFFFF)
    (part : d.part = none) : s.deadlineMiss d = s.finish d 0x3001 (s.missDetail n) (-(n : Int)) := by
  simp only [State.deadlineMiss, left, part, Nat.min_eq_left small, Nat.mod_eq_of_lt (show n < 2 ^ 32 by omega)]
  rfl

theorem State.deadlineMiss_task {s : State} {d : Cmd} {p n : Nat} (left : s.remaining d = some n) (small : n ≤ 0x7FFFFFFF)
    (part : d.part = some p) (slot : s.pendingSlot d = none) : s.deadlineMiss d =
      s.abortTask p (some d) (d.alone 0x3001 (s.missDetail n)) (some (-(n : Int))) 0x3001 true := by
  simp only [State.deadlineMiss, left, part, slot, Nat.min_eq_left small, Nat.mod_eq_of_lt (show n < 2 ^ 32 by omega)]
  rfl

theorem execDeadlineMiss_pf {s : State} {c : CmdId} {d : Cmd} (found : s.findCmd c.queue.val c.seq = some d)
    (missed : s.missed d = true) (part : d.part = none) : execDeadlineMiss c s = .next (s.deadlineMiss d) := by
  simp only [execDeadlineMiss, found, missed, part, if_true]

/-- The command is the oldest one that misses its deadline, and nothing ends its task before (R295). -/
theorem execDeadlineMiss_task {s : State} {c : CmdId} {d : Cmd} {p : Nat} (found : s.findCmd c.queue.val c.seq = some d)
    (missed : s.missed d = true) (part : d.part = some p) (still : (s.catchUp p s.now).findCmd d.queue d.seq = some d)
    (yet : (s.catchUp p s.now).missed d = true) (oldest : (s.catchUp p s.now).oldestMiss p d = d)
    (sound : (s.catchUp p s.now).firstFault p (s.catchUp p s.now).now = none) :
    execDeadlineMiss c s = .next ((s.catchUp p s.now).deadlineMiss d) := by
  simp only [execDeadlineMiss, found, missed, part, if_true, State.partMiss, still, yet, oldest, sound, Bool.true_eq_false, if_false]

/-- Settles O25: LATE_BEGIN is a refusal in cycle X + 1, DEADLINE_MISS the abort of the task or the end of the PF command alone. -/
theorem lateCommandsAreDeadlineMisses : Obligations.LateCommandsAreDeadlineMisses := by
  refine ⟨fun s c => ⟨⟨_, rfl, Same.changes (execLateBegin_frame rfl) (by decide +kernel), trivial⟩,
    ⟨_, rfl, Same.changes (execDeadlineMiss_frame rfl) (by decide +kernel), trivial⟩⟩,
    fun s c d p t x low found part task fresh anchor header skips due past frame apart => ?_, fun s c d n found missed => ?_⟩
  · have e := execLateBegin_late found part task fresh anchor header skips due frame
    have name := State.findCmd_name found
    have moved := State.advance_of past frame
    have here : (s.advance (x + 1)).findCmd d.queue d.seq = some d := by rw [moved, name.1, name.2]; exact found
    obtain ⟨idle, record⟩ := State.refuse_records here fresh part (by rw [moved]; exact task) (by rw [moved]; exact apart)
      (0x3001, low + 2 ^ 32)
    refine ⟨_, e, Same.changes (execLateBegin_frame e) (by decide +kernel), ?_, idle, record⟩
    rw [State.refuse_frame.clock (by decide), moved]
  · intro u left small
    refine ⟨fun part => ?_, fun p t part still yet oldest sound slot task batch mem apart => ?_⟩
    · have same : u = s := by simp only [u, caughtUp, part]
      exact (execDeadlineMiss_pf found missed part).trans (congrArg _ (State.deadlineMiss_pf (same ▸ left) small part))
    · have same : u = s.catchUp p s.now := by simp only [u, caughtUp, part]
      have e : execDeadlineMiss c s = .next (u.deadlineMiss d) := by
        rw [same] at still yet oldest sound ⊢
        exact execDeadlineMiss_task found missed part still yet oldest sound
      obtain ⟨idle, v, hv⟩ := State.abortTask_records task mem part batch (State.heldRecs_none apart mem)
        (d.alone 0x3001 (u.missDetail n)) (some (-(n : Int))) 0x3001
      refine ⟨_, e, Same.changes (execDeadlineMiss_frame e) (by decide +kernel), ?_⟩
      rw [State.deadlineMiss_task left small part slot]
      exact ⟨idle, _, hv, rfl, rfl, congrArg Prod.fst (d.alone_self _ _), congrArg Prod.snd (d.alone_self _ _),
        State.abortSlack_given _ _ _⟩

end Sys2Proof.Machine
end

section
/-! Commands begin in the first cycle in which their conditions hold, or are refused (R46, R275, R283, R284, R332, R409, R448). -/

namespace Sys2Proof.Machine
open Sys2Proof.Safety

/-! ### What a begin leaves alone -/

/-- What a command does in its first cycle concerns its partition's streams and the cores' gather entries and lanes. -/
theorem State.beginEffect_parts (s : State) (c : Cmd) (p : Nat) :
    Same 0x60000000000000000000000000000000000000000000000000000000000000000000000000000000000000000000000000000000 s
      (s.beginEffect c p) := by
  unfold State.beginEffect
  refine Same.ite (Same.via State.addStream_frame (by decide) Same.refl) (Same.ite (Same.via State.addStream_frame (by decide) Same.refl)
    (Same.ite ?_ (Same.ite ?_ (Same.ite (Same.via State.awaitRows_frame (by decide) Same.refl) Same.refl))))
  · refine Same.ite (Same.via State.arm_frame (by decide) ?_) ?_
    all_goals exact Same.ite (Same.via State.awaitRows_frame (by decide) Same.refl) Same.refl
  · exact Same.via State.clearLanes_frame (by decide) (Same.via State.arm_frame (by decide)
      (Same.via State.awaitRows_frame (by decide) Same.refl))

theorem State.findCmd_of_cmds {s t : State} (h : t.cmds = s.cmds) (q n : Nat) : t.findCmd q n = s.findCmd q n := by
  rw [State.findCmd, State.findCmd, h]

/-! ### A command of a task -/

/-- The command as it begins in the present cycle (R283, R332). -/
def Cmd.begunIn (c : Cmd) (s : State) (p : Nat) : Cmd := { c with began := some s.now, step := s.get .PART_STEP_STEP p }

/-- The command has begun, and a wide one has taken its step. -/
def State.stepTaken (s : State) (c : Cmd) (p : Nat) : State :=
  if opWide c.op then (s.setCmd (c.begunIn s p)).takeStep p else s.setCmd (c.begunIn s p)

theorem State.beginNow_good {s : State} {c : Cmd} {p : Nat} (skips : s.spillSkips c p = false) (good : s.beginRefused c p = none) :
    s.beginNow c p = (s.stepTaken c p).beginEffect (c.begunIn s p) p := by
  rw [State.beginNow, skips, if_neg Bool.false_ne_true, good]
  rfl

theorem State.beginNow_bad {s : State} {c : Cmd} {p : Nat} {r : Nat × Nat} (skips : s.spillSkips c p = false)
    (bad : s.beginRefused c p = some r) : s.beginNow c p = s.refuseBegin c p r := by
  rw [State.beginNow, skips, if_neg Bool.false_ne_true, bad]

theorem State.stepTaken_frame (s : State) (c : Cmd) (p : Nat) :
    Same 0x80000000000000000000000000000000000000000000000000000000 (s.setCmd (c.begunIn s p)) (s.stepTaken c p) :=
  Same.ite State.takeStep_frame Same.refl

theorem State.get_stepTaken (s : State) (c : Cmd) (p : Nat) : (s.stepTaken c p).get .PART_STEP_STEP p =
    if opWide c.op then (s.get .PART_STEP_STEP p + 1) % 2 ^ 32 else s.get .PART_STEP_STEP p := by
  unfold State.stepTaken
  split
  · rw [State.takeStep, State.get_put]
    exact Nat.mod_mod _ _
  · rfl

/-- A command that begins: it is in execution since this cycle, time stands, and a wide one has moved the step on (R283, R332). -/
theorem State.beginNow_begins {s : State} {c : Cmd} {p : Nat} (found : s.findCmd c.queue c.seq = some c)
    (skips : s.spillSkips c p = false) (good : s.beginRefused c p = none) :
    (s.beginNow c p).findCmd c.queue c.seq = some (c.begunIn s p) ∧ (s.beginNow c p).clock = s.clock ∧
    (s.beginNow c p).get .PART_STEP_STEP p =
      if opWide c.op then (s.get .PART_STEP_STEP p + 1) % 2 ^ 32 else s.get .PART_STEP_STEP p := by
  have effect := (s.stepTaken c p).beginEffect_parts (c.begunIn s p) p
  have step := s.stepTaken_frame c p
  rw [State.beginNow_good skips good]
  refine ⟨?_, (effect.clock (by decide)).trans (step.clock (by decide)),
    (effect.reg _ p (by decide) (by decide)).trans (s.get_stepTaken c p)⟩
  rw [State.findCmd_of_cmds ((effect.cmds (by decide)).trans (step.cmds (by decide)))]
  exact State.findCmd_setCmd found rfl rfl

theorem execCommandBegin_part {s : State} {c : CmdId} {d : Cmd} {p : Nat} (found : s.findCmd c.queue.val c.seq = some d)
    (part : d.part = some p) : execCommandBegin c s = .next (s.beginPart d p) := by
  simp only [execCommandBegin, found, part]

/-- Its conditions hold first in cycle `x` of the frame, and no rival comes before (R283, R284). -/
theorem State.beginPart_reaches {s : State} {d : Cmd} {p t0 x : Nat} (turn : s.turn d p = some t0) (static : s.staticBad d p = false)
    (time : s.beginTime d p = some x) (frame : x < s.nextEdge) (rival : s.rival d p x = false)
    (still : ((s.catchUp p x).advance x).findCmd d.queue d.seq = some d) :
    s.beginPart d p = ((s.catchUp p x).advance x).beginNow d p := by
  have alive : ((s.catchUp p x).advance x).alive d = true := by rw [State.alive, still]; rfl
  have first : ¬(s.nextEdge ≤ x ∨ s.rival d p x = true) := by simp [rival, frame]
  simp only [State.beginPart, turn]
  rw [static, if_neg fun h => Bool.false_ne_true h.1, time]
  exact (if_neg first).trans (if_pos alive)

/-- A command whose own parameters are bad is refused in its turn (R275, R448). -/
theorem State.beginPart_bad {s : State} {d : Cmd} {p t0 : Nat} (turn : s.turn d p = some t0) (static : s.staticBad d p = true)
    (skips : s.spillSkips d p = false) (frame : max s.now t0 < s.nextEdge) :
    s.beginPart d p = (s.advance (max s.now t0)).refuse d (0x3000, 0) := by
  simp only [State.beginPart, turn]
  rw [if_pos ⟨static, skips⟩, if_pos frame]

/-! ### A PF command -/

/-- The first cycle that a PF command's START leaves it: START 0 is no constraint (R46). -/
def State.pfStart (s : State) (d : Cmd) : Nat :=
  if d.start = 0 then s.now else (max (s.frameCycle (d.fetched + 1 + d.start)) 0).toNat

/-- A PF command that comes next is decided upon in the cycle in which its waits hold (R46, R275, R409). -/
def State.beginPfIn (s : State) (d : Cmd) : State :=
  if s.get .GCTL_FW_STAT_UNREADABLE 0 = 1 then s.refuse d (0x5000, 0)
  else if s.pfRefused d then s.refuse d (0x3000, 0)
  else s.setCmd { d with began := some s.now }

theorem execCommandBegin_pf {s : State} {c : CmdId} {d : Cmd} (found : s.findCmd c.queue.val c.seq = some d) (part : d.part = none) :
    execCommandBegin c s = .next (s.beginPf d) := by
  simp only [execCommandBegin, found, part]

theorem State.beginPf_reaches {s : State} {d : Cmd} {x : Nat} (next : s.nextPf = some d)
    (wait : s.waitTime d (max s.now (s.pfStart d)) = some x) (frame : x < s.nextEdge) : s.beginPf d = (s.advance x).beginPfIn d := by
  unfold State.pfStart at wait
  simp only [State.beginPf, next, wait]
  rw [if_neg (by simp), if_neg (Nat.not_le.2 frame)]
  rfl

theorem State.beginPfIn_unreadable {s : State} (h : s.get .GCTL_FW_STAT_UNREADABLE 0 = 1) (d : Cmd) :
    s.beginPfIn d = s.refuse d (0x5000, 0) := if_pos h

theorem State.beginPfIn_bad {s : State} {d : Cmd} (h : s.get .GCTL_FW_STAT_UNREADABLE 0 ≠ 1) (bad : s.pfRefused d = true) :
    s.beginPfIn d = s.refuse d (0x3000, 0) := (if_neg h).trans (if_pos bad)

theorem State.beginPfIn_good {s : State} {d : Cmd} (h : s.get .GCTL_FW_STAT_UNREADABLE 0 ≠ 1) (good : s.pfRefused d = false) :
    s.beginPfIn d = s.setCmd { d with began := some s.now } := by
  rw [State.beginPfIn, if_neg h, good, if_neg Bool.false_ne_true]

/-- Settles O23: in the cycle that the conditions give, a task's command meets `beginNow`, a PF command `beginPfIn`. -/
theorem commandBeginsWhenItsConditionsHold : Obligations.CommandBeginsWhenItsConditionsHold := by
  intro s c d found
  refine ⟨⟨_, rfl, Same.changes (execCommandBegin_frame rfl) (by decide +kernel), trivial⟩,
    fun p t0 x part turn static _ time frame rival => ?_, fun p t0 part turn static skips frame => ?_,
    fun x part next wait past frame => ?_⟩
  · intro u now still skips
    have e : execCommandBegin c s = .next (u.beginNow d p) :=
      (execCommandBegin_part found part).trans (congrArg _ (State.beginPart_reaches turn static time frame rival still))
    refine ⟨fun good => ?_, fun r bad => e.trans (congrArg _ (State.beginNow_bad skips bad))⟩
    obtain ⟨begun, clock, step⟩ := State.beginNow_begins still skips good
    refine ⟨_, e, Same.changes (execCommandBegin_frame e) (by decide +kernel), ?_, (congrArg Clock.now clock).trans now, step⟩
    rw [begun, Cmd.begunIn, now]
  · exact (execCommandBegin_part found part).trans (congrArg _ (State.beginPart_bad turn static skips frame))
  · have e : execCommandBegin c s = .next ((s.advance x).beginPfIn d) :=
      (execCommandBegin_pf found part).trans (congrArg _ (State.beginPf_reaches next wait frame))
    have readable : (s.advance x).get .GCTL_FW_STAT_UNREADABLE 0 = s.get .GCTL_FW_STAT_UNREADABLE 0 :=
      State.advance_frame.reg _ 0 (by decide) (by decide)
    rw [← readable]
    refine ⟨fun h => e.trans (congrArg _ (State.beginPfIn_unreadable h d)), fun h good => ?_,
      fun h bad => e.trans (congrArg _ (State.beginPfIn_bad h bad))⟩
    obtain ⟨queue, seq⟩ := State.findCmd_name found
    have moved := State.advance_of past frame
    refine ⟨_, e, Same.changes (execCommandBegin_frame e) (by decide +kernel), ?_, ?_⟩
    · rw [State.beginPfIn_good h good, State.findCmd_setCmd (c := d) _ rfl rfl, moved]
      · rfl
      · rw [moved, queue, seq]
        exact found
    · rw [State.beginPfIn_good h good, State.setCmd_clock, moved]

end Sys2Proof.Machine
end

section
/-! NaN in the element formats: canonical when encoded, of any payload when decoded (R56, Table 3-2). -/

namespace Sys2Proof.Machine

/-! ### NaN into a code -/

/-- Neither the rounding mode, nor SAT, nor the draw reaches the code of NaN in a float format. -/
theorem encodeElem_nan {f : Nat} {p : FloatFmt} (float : floatFmt f = some p) (notInt : f ≠ 5) (mode r : Nat) (sat : Bool) :
    encodeElem f mode sat r .nan = (canonicalNan f, false) := by
  simp only [encodeElem, if_neg notInt, float]

/-! ### A code into NaN -/

/-- A code of a float format is read by the parameters of that format. -/
theorem decodeElem_float {f : Nat} {p : FloatFmt} (float : floatFmt f = some p) (notInt : f ≠ 5) (c : Nat) :
    decodeElem f c = decodeFloat p c := by
  simp only [decodeElem, if_neg notInt, float]

/-- The exponent and mantissa fields of a code are those of its magnitude, the code without its sign bit. -/
theorem FloatFmt.fields_of_magnitude {p : FloatFmt} {c e m : Nat} (wide : 0 < p.eb) (small : m < 2 ^ p.mb)
    (magnitude : c % 2 ^ (p.eb + p.mb) = e * 2 ^ p.mb + m) : bits c (p.eb + p.mb - 1) p.mb = e ∧ c % 2 ^ p.mb = m := by
  constructor
  · have width : p.eb + p.mb - 1 + 1 - p.mb = p.eb := by omega
    rw [bits, width, Nat.shiftRight_eq_div_pow, ← Nat.mod_mul_left_div_self, ← pow_add, magnitude, mul_comm,
      Nat.mul_add_div (by positivity), Nat.div_eq_of_lt small, add_zero]
  · rw [← Nat.mod_mod_of_dvd c (pow_dvd_pow 2 (Nat.le_add_left p.mb p.eb)), magnitude, Nat.mul_add_mod_self_right,
      Nat.mod_eq_of_lt small]

/-- A full exponent field and 2^mb values of the mantissa below it make up the magnitudes, which end at the sign bit. -/
theorem FloatFmt.signBit_eq (p : FloatFmt) : 2 ^ (p.eb + p.mb) = (2 ^ p.eb - 1) * 2 ^ p.mb + 2 ^ p.mb := by
  rw [← Nat.succ_mul, Nat.succ_eq_add_one, Nat.sub_add_cancel Nat.one_le_two_pow, pow_add]

/-- In a format with IEEE specials every magnitude above that of infinity is NaN. -/
theorem decodeFloat_above_inf {p : FloatFmt} {c : Nat} (ieee : p.special = 0) (wide : 0 < p.eb)
    (above : infCode p < c % 2 ^ (p.eb + p.mb)) : decodeFloat p c = .nan := by
  obtain ⟨m, magnitude⟩ := Nat.exists_eq_add_of_lt above
  have below : c % 2 ^ (p.eb + p.mb) < 2 ^ (p.eb + p.mb) := Nat.mod_lt _ (by positivity)
  rw [magnitude, p.signBit_eq, infCode] at below
  obtain ⟨exponent, mantissa⟩ := FloatFmt.fields_of_magnitude (m := m + 1) wide (by omega) magnitude
  simp [decodeFloat, ieee, exponent, mantissa]

/-- In a format with one NaN and no infinity the largest magnitude is NaN. -/
theorem decodeFloat_largest {p : FloatFmt} {c : Nat} (oneNan : p.special = 1) (wide : 0 < p.eb)
    (largest : c % 2 ^ (p.eb + p.mb) = 2 ^ (p.eb + p.mb) - 1) : decodeFloat p c = .nan := by
  have fields : c % 2 ^ (p.eb + p.mb) = (2 ^ p.eb - 1) * 2 ^ p.mb + (2 ^ p.mb - 1) := by
    rw [largest, p.signBit_eq, Nat.add_sub_assoc Nat.one_le_two_pow]
  obtain ⟨exponent, mantissa⟩ := FloatFmt.fields_of_magnitude wide (Nat.sub_one_lt (by positivity)) fields
  simp [decodeFloat, oneNan, exponent, mantissa]

/-- Settles O27: the code of NaN is `canonicalNan` of the format; NaN are the codes above infinity, in E4M3 the largest alone. -/
theorem nansAreCanonical : Obligations.NansAreCanonical := by
  refine ⟨fun mode r sat => ⟨?_, ?_, ?_, ?_, ?_⟩, fun c _ above => ?_, fun c _ above => ?_, fun c _ above => ?_,
    fun c _ largest => ?e4m3, fun c _ above => ?_⟩
  iterate 5 exact congrArg Prod.fst (encodeElem_nan rfl (by decide) mode r sat)
  case e4m3 =>
    rw [decodeElem_float rfl (by decide)]
    exact decodeFloat_largest rfl (by decide) largest
  all_goals
    rw [decodeElem_float rfl (by decide)]
    exact decodeFloat_above_inf rfl (by decide) above

end Sys2Proof.Machine
end

section
/-! A K-tile's sum: its special operands, its non-zero terms and their window (R65, R78, R79, R101). -/

namespace Sys2Proof.Machine

/-- What a product brings to the sum: sign, significand and exponent of a non-zero finite value. -/
def Val.term : Val → Option (Bool × Nat × Int)
  | .fin s m e => if m = 0 then none else some (s, m, e)
  | _ => none

/-- The terms in units of the 48-bit window below exponent `e`, added up. -/
def windowSum (e : Int) (terms : List (Bool × Nat × Int)) : Val :=
  let total := terms.foldl (fun (t : Int) p => t + signedAt p.1 p.2.1 p.2.2 (e - 47)) 0
  if total = 0 then .zero else .fin (decide (total < 0)) total.natAbs (e - 47)

/-- The sum of the terms in the window below the largest of their exponents; +0 without any. -/
def termSum (terms : List (Bool × Nat × Int)) : Val := match (terms.map fun p => log2Of p.2.1 p.2.2).max? with
  | none => .zero
  | some e => windowSum e terms

/-- NaN and infinities decide the sum; otherwise it is that of the terms. -/
theorem ktileSum_eq (l : List Val) : ktileSum l =
    if l.any Val.isNan then .nan
    else if l.any (· == .inf false) && l.any (· == .inf true) then .nan
    else if l.any (· == .inf false) then .inf false
    else if l.any (· == .inf true) then .inf true
    else termSum (l.filterMap Val.term) := by
  unfold ktileSum
  dsimp only
  congr 4
  generalize nonzero : List.filterMap _ l = ts
  rw [show l.filterMap Val.term = ts from nonzero]
  cases ts with
  | nil => rfl
  | cons t r =>
    rw [termSum, List.map_cons, List.max?_cons', List.foldl_map]
    rfl

theorem max?_perm {l m : List Int} (h : l.Perm m) : l.max? = m.max? := by
  refine Option.ext fun a => ?_
  simp only [List.max?_eq_some_iff, h.mem_iff]

theorem windowSum_perm {l m : List (Bool × Nat × Int)} (h : l.Perm m) (e : Int) : windowSum e l = windowSum e m := by
  have commutes : RightCommutative fun (t : Int) (p : Bool × Nat × Int) => t + signedAt p.1 p.2.1 p.2.2 (e - 47) :=
    ⟨fun t p q => add_right_comm _ _ _⟩
  rw [windowSum, windowSum, h.foldl_eq]

theorem termSum_perm {l m : List (Bool × Nat × Int)} (h : l.Perm m) : termSum l = termSum m := by
  simp only [termSum, max?_perm (h.map _), windowSum_perm h]

theorem ktileSum_perm {l m : List Val} (h : l.Perm m) : ktileSum l = ktileSum m := by
  simp only [ktileSum_eq, h.any_eq, termSum_perm (h.filterMap _)]

/-- A zero is neither NaN nor an infinity, and brings no term. -/
theorem ktileSum_zero (l : List Val) (g : Bool) (e : Int) : ktileSum (.fin g 0 e :: l) = ktileSum l := by
  have finite (s : Bool) : ((.fin g 0 e : Val) == .inf s) = false := rfl
  have empty : (.fin g 0 e : Val).term = none := rfl
  simp only [ktileSum_eq, List.any_cons, Val.isNan, finite, Bool.false_or, List.filterMap_cons_none empty]

/-- Settles O28: every test and the window's sum see the products as a multiset, and zeros pass every one of them by. -/
theorem ktileSumIgnoresOrderAndZeros : Obligations.KtileSumIgnoresOrderAndZeros :=
  ⟨fun _ _ h => ktileSum_perm h, ktileSum_zero⟩

end Sys2Proof.Machine
end

section
/-! Wide operations on a partition: what their work leaves alone, and what the cores take (R18, R88, R91, R110, R111, R295). -/

namespace Sys2Proof.Machine
open Sys2Proof.Safety

/-! ### Logical cores and their positions -/

theorem Part.position_of_bind {x y : Part} (h : y.bind = x.bind) : y.position = x.position := by
  funext c
  rw [Part.position, Part.position, h]

theorem Part.positions_of_bind {x y : Part} (h : y.bind = x.bind) : y.positions = x.positions := by
  rw [Part.positions, Part.positions, h]

/-- Different logical cores stand on different positions. -/
theorem Part.position_inj {x : Part} (distinct : x.positions.Nodup) {a b n : Nat} (ha : x.position a = some n)
    (hb : x.position b = some n) : a = b := by
  unfold Part.positions at distinct
  unfold Part.position at ha hb
  cases bound : x.bind.shape with
  | none => simp [bound] at ha
  | some sh =>
    simp only [bound, Option.ite_none_right_eq_some] at distinct ha hb
    obtain ⟨listed, -⟩ := List.getElem?_eq_some_iff.1 ha.2
    exact (List.getElem?_inj listed distinct).1 (ha.2.trans hb.2.symm)

/-! ### What the work of a wide operation leaves alone -/

/-- Commands, time, the mark of an injected fault, the binding of partition `p`, and its slots' shadow groups are as they were. -/
structure WideKept (p : Nat) (s t : State) : Prop where
  cmds : t.cmds = s.cmds
  clock : t.clock = s.clock
  rehearsal : t.rehearsal = s.rehearsal
  bind : (t.part p).bind = (s.part p).bind
  shadow : ∀ k, ((t.part p).pred k).shadow = ((s.part p).pred k).shadow

namespace WideKept

variable {p : Nat} {s t : State}

theorem refl : WideKept p s s := ⟨rfl, rfl, rfl, rfl, fun _ => rfl⟩

theorem trans {u : State} (h : WideKept p s t) (k : WideKept p t u) : WideKept p s u :=
  ⟨k.cmds.trans h.cmds, k.clock.trans h.clock, k.rehearsal.trans h.rehearsal, k.bind.trans h.bind,
   fun n => (k.shadow n).trans (h.shadow n)⟩

theorem now (h : WideKept p s t) : t.now = s.now := congrArg Clock.now h.clock

theorem position (h : WideKept p s t) : (t.part p).position = (s.part p).position := Part.position_of_bind h.bind

theorem foldl {α : Type} {f : State → α → State} (h : ∀ s x, WideKept p s (f s x)) (l : List α) (s : State) :
    WideKept p s (l.foldl f s) := by
  induction l generalizing s with
  | nil => exact refl
  | cons x l ih => exact (h s x).trans (ih _)

/-- An operation whose frame holds neither commands, time, partitions nor the mark. -/
theorem of_frame {m : Nat} (h : Same m s t)
    (k : m.testBit 409 = false ∧ m.testBit 401 = false ∧ m.testBit 429 = false ∧ m.testBit 413 = false) : WideKept p s t := by
  obtain ⟨cmds, clock, rehearsal, parts⟩ := k
  have part : t.part p = s.part p := by rw [State.part, State.part, h.parts parts]
  exact ⟨h.cmds cmds, h.clock clock, h.rehearsal rehearsal, by rw [part], fun _ => by rw [part]⟩

theorem of_onlyRegs (h : OnlyRegs s t) : WideKept p s t := by
  obtain ⟨g, rfl⟩ := h
  exact ⟨rfl, rfl, rfl, rfl, fun _ => rfl⟩

theorem modRun (g : PartRun → PartRun) : WideKept p s (s.modRun p g) :=
  ⟨rfl, rfl, rfl, by rw [State.part_modRun], fun _ => by rw [State.part_modRun]; rfl⟩

theorem setCore (n : Nat) (x : Core) : WideKept p s (s.setCore n x) := ⟨rfl, rfl, rfl, rfl, fun _ => rfl⟩

theorem modStrm {g : PartStream → PartStream} (h : (g (s.part p).strm).preds = (s.part p).strm.preds) : WideKept p s (s.modStrm p g) :=
  ⟨rfl, rfl, rfl, by rw [State.part_modStrm], fun _ => by rw [State.part_modStrm, Part.pred, Part.pred, h]⟩

end WideKept

theorem State.pred_setPred (s : State) (p k : Nat) (v : Pred) : ((s.setPred p k v).part p).pred k = v := by
  rw [State.setPred, State.part_modStrm]
  exact Tab.get_put_same _ _ _ _

theorem State.pred_setPred_other (s : State) (p : Nat) {j k : Nat} (v : Pred) (h : j ≠ k) :
    ((s.setPred p k v).part p).pred j = (s.part p).pred j := by
  rw [State.setPred, State.part_modStrm]
  exact Tab.get_put_other _ _ _ h

theorem State.setPred_bind (s : State) (p k : Nat) (v : Pred) : ((s.setPred p k v).part p).bind = (s.part p).bind := by
  rw [State.setPred, State.part_modStrm]

theorem WideKept.setPred {p k : Nat} {s : State} {v : Pred} (h : v.shadow = ((s.part p).pred k).shadow) :
    WideKept p s (s.setPred p k v) := by
  refine ⟨rfl, rfl, rfl, s.setPred_bind p k v, fun j => ?_⟩
  by_cases e : j = k
  · rw [e, State.pred_setPred, h]
  · rw [State.pred_setPred_other _ _ _ e]

theorem State.perform_kept (s : State) (p : Nat) (us : List SlotUse) : WideKept p s (s.perform p us) := by
  unfold State.perform
  exact ((WideKept.of_frame State.countHazards_frame (by decide)).trans
    (WideKept.foldl (fun _ _ => WideKept.of_frame State.countEcc_frame (by decide)) _ _)).trans (WideKept.modRun _)

/-! ### The cores take their shares -/

/-- Entries dropped on a position are counted, or wait in the operation's slot (R109, R112, R216). -/
def State.takeDrops (s : State) (p n k : Nat) (spec : Option Nat) : State :=
  if k = 0 then s
  else match spec with
    | some v => s.setPred p v { (s.part p).pred v with drops := ((s.part p).pred v).drops ++ [(n, k)] }
    | none => s.addDrops n k

/-- A logical core takes what its share of an operation made of it. -/
def State.takeRun (p : Nat) (spec : Option Nat) (s : State) (r : CoreRun) : State := match (s.part p).position r.lc with
  | some n => (s.setCore n r.k).takeDrops p n (sumN (r.drops.map Prod.snd)) spec
  | none => s

theorem State.applyRuns_eq (s : State) (p : Nat) (rs : List CoreRun) (spec : Option Nat) :
    s.applyRuns p rs spec = rs.foldl (State.takeRun p spec) (s.perform p (rs.flatMap CoreRun.uses)) := rfl

theorem State.takeDrops_kept (s : State) (p n k : Nat) (spec : Option Nat) : WideKept p s (s.takeDrops p n k spec) := by
  unfold State.takeDrops
  split
  · exact WideKept.refl
  · cases spec with
    | some v => exact WideKept.setPred rfl
    | none => exact WideKept.of_frame State.addDrops_frame (by decide)

theorem State.takeDrops_core (s : State) (p n k : Nat) (spec : Option Nat) (j : Nat) : (s.takeDrops p n k spec).core j = s.core j := by
  unfold State.takeDrops
  split
  · rfl
  · cases spec <;> rfl

theorem State.takeRun_on {s : State} {p n : Nat} {r : CoreRun} (h : (s.part p).position r.lc = some n) (spec : Option Nat) :
    s.takeRun p spec r = (s.setCore n r.k).takeDrops p n (sumN (r.drops.map Prod.snd)) spec := by
  rw [State.takeRun, h]

theorem State.takeRun_off {s : State} {p : Nat} {r : CoreRun} (h : (s.part p).position r.lc = none) (spec : Option Nat) :
    s.takeRun p spec r = s := by
  rw [State.takeRun, h]

theorem State.takeRun_kept (s : State) (p : Nat) (spec : Option Nat) (r : CoreRun) : WideKept p s (s.takeRun p spec r) := by
  cases h : (s.part p).position r.lc with
  | some n =>
    rw [State.takeRun_on h]
    exact (WideKept.setCore n r.k).trans (State.takeDrops_kept _ _ _ _ _)
  | none =>
    rw [State.takeRun_off h]
    exact WideKept.refl

theorem State.takeRun_core {s : State} {p n : Nat} {r : CoreRun} (h : (s.part p).position r.lc = some n) (spec : Option Nat) :
    (s.takeRun p spec r).core n = r.k := by
  rw [State.takeRun_on h, State.takeDrops_core, State.core_setCore]

theorem State.takeRun_core_other {s : State} {p n : Nat} {r : CoreRun} (h : (s.part p).position r.lc ≠ some n) (spec : Option Nat) :
    (s.takeRun p spec r).core n = s.core n := by
  cases e : (s.part p).position r.lc with
  | some m => rw [State.takeRun_on e, State.takeDrops_core, State.core_setCore_other _ _ fun h' => h (e.trans (congrArg some h'.symm))]
  | none => rw [State.takeRun_off e]

theorem State.applyRuns_kept (s : State) (p : Nat) (rs : List CoreRun) (spec : Option Nat) : WideKept p s (s.applyRuns p rs spec) := by
  rw [State.applyRuns_eq]
  exact (s.perform_kept p _).trans (WideKept.foldl (fun u r => u.takeRun_kept p spec r) _ _)

/-- Each core holds what its share made of it: no share after it stands on the same position. -/
theorem State.applyRuns_core {s : State} {p n : Nat} {rs : List CoreRun} {r : CoreRun} (distinct : (s.part p).positions.Nodup)
    (cores : (rs.map CoreRun.lc).Nodup) (mem : r ∈ rs) (here : (s.part p).position r.lc = some n) (spec : Option Nat) :
    (s.applyRuns p rs spec).core n = r.k := by
  rw [State.applyRuns_eq]
  have step {u : State} (h : WideKept p s u) (y : CoreRun) : WideKept p s (u.takeRun p spec y) := h.trans (u.takeRun_kept p spec y)
  refine (foldl_reaches (I := WideKept p s) (P := fun u => WideKept p s u ∧ u.core n = r.k) mem (fun u y h => step h y)
    (fun u h => ⟨step h r, State.takeRun_core (by rw [h.position, here]) spec⟩) (fun u y hy ne ⟨h, core⟩ => ⟨step h y, ?_⟩)
    (s.perform_kept p _)).2
  refine (State.takeRun_core_other (fun there => ne ?_) spec).trans core
  rw [h.position] at there
  exact List.inj_on_of_nodup_map cores hy mem (Part.position_inj distinct there here)

/-! ### Faults -/

theorem firstFlt_mem {l : List Flt} {f : Flt} (h : firstFlt l = some f) : f ∈ l := by
  have chosen (r : List Flt) (a : Flt) :
      r.foldl (fun a b => if b.cycle < a.cycle ∨ (b.cycle = a.cycle ∧ b.core < a.core) then b else a) a ∈ a :: r := by
    induction r generalizing a with
    | nil => exact List.mem_cons_self
    | cons b r ih =>
      rw [List.foldl_cons]
      split
      · exact List.mem_cons_of_mem a (ih b)
      · exact List.mem_cons.2 ((List.mem_cons.1 (ih a)).imp_right (List.mem_cons_of_mem b))
  cases l with
  | nil => cases h
  | cons a r =>
    cases h
    exact chosen r a

theorem OnlyRegs.refl (s : State) : OnlyRegs s s := ⟨_, rfl⟩

theorem OnlyRegs.core {s t : State} (h : OnlyRegs s t) (n : Nat) : t.core n = s.core n := by
  obtain ⟨g, rfl⟩ := h
  rfl

/-- A fault other than an uncorrectable quarter only counts. -/
theorem State.countFault_onlyRegs (s : State) (p : Nat) {f : Flt} (h : f.kind ≠ 1) : OnlyRegs s (s.countFault p f) := by
  unfold State.countFault
  rw [if_neg h]
  split
  · split
    · exact ⟨_, rfl⟩
    · exact OnlyRegs.refl s
  · split
    · exact ⟨_, rfl⟩
    · exact OnlyRegs.refl s

theorem State.countFaults_onlyRegs (s : State) (p : Nat) {f : Flt} {l : List Flt} (mem : f ∈ l) (h : ∀ g ∈ l, g.kind ≠ 1) :
    OnlyRegs s (s.countFaults p f l) := by
  have counted (r : List Flt) : r ⊆ l → ∀ u : State, OnlyRegs u (r.foldl (fun (s : State) g => s.countFault p g) u) := by
    induction r with
    | nil => exact fun _ u => OnlyRegs.refl u
    | cons g r ih =>
      intro sub u
      exact (u.countFault_onlyRegs p (h g (sub List.mem_cons_self))).trans (ih (fun x hx => sub (List.mem_cons_of_mem g hx)) _)
  unfold State.countFaults
  split
  · exact s.countFault_onlyRegs p (h f mem)
  · exact counted _ (List.filter_subset_self _) s

/-- A fault of an operation that is not speculative ends its command in the fault's cycle, or now. -/
theorem State.wideFault_own (s : State) (d : Cmd) (p : Nat) (f : Flt) (all : List Flt) : s.wideFault d p f all none none =
    (s.countFaults p f all).done d (max f.cycle (s.countFaults p f all).now) f.status f.detail := rfl

/-! ### A running command and the end of its work -/

/-- Command `d` runs in `s`, and its operation works on `x`: the progress of another command may be forgotten in it, and a prediction
slot may hold more shadow groups. -/
structure WorksOn (s x : State) (d : Cmd) (p : Nat) : Prop where
  found : s.findCmd d.queue d.seq = some d
  due : d.due = none
  cmds : x.cmds = s.cmds
  now : x.now = s.now
  rehearsal : x.rehearsal = s.rehearsal
  bind : (x.part p).bind = (s.part p).bind

theorem State.ready_running {s : State} {c : CmdId} {op : Nat} {d : Cmd} (h : s.ready c op = some d) :
    s.findCmd d.queue d.seq = some d ∧ d.due = none := by
  unfold State.ready at h
  cases found : s.findCmd c.queue.val c.seq with
  | none => simp [found] at h
  | some e =>
    simp only [found, Option.ite_none_right_eq_some, Option.some.injEq] at h
    obtain ⟨⟨-, -, -, due⟩, rfl⟩ := h
    obtain ⟨queue, seq⟩ := State.findCmd_name found
    exact ⟨by rw [queue, seq, found], due⟩

theorem State.ownWide_kept (s : State) (d : Cmd) (p : Nat) : WideKept p s (s.ownWide d p) := by
  unfold State.ownWide
  split
  · split
    · exact WideKept.refl
    · exact WideKept.modRun _
  · exact WideKept.refl

theorem worksOn_ownWide {s : State} {c : CmdId} {op p : Nat} {d : Cmd} (run : Running s c op d p) : WorksOn s (s.ownWide d p) d p := by
  obtain ⟨found, due⟩ := State.ready_running run.1
  have kept := s.ownWide_kept d p
  exact ⟨found, due, kept.cmds, kept.now, kept.rehearsal, kept.bind⟩

theorem WorksOn.setPred {s x : State} {d : Cmd} {p : Nat} (h : WorksOn s x d p) (k : Nat) (v : Pred) : WorksOn s (x.setPred p k v) d p :=
  ⟨h.found, h.due, h.cmds, h.now, h.rehearsal, (x.setPred_bind p k v).trans h.bind⟩

theorem WorksOn.of_kept {s x y : State} {d : Cmd} {p : Nat} (h : WorksOn s x d p) (kept : WideKept p x y) : WorksOn s y d p :=
  ⟨h.found, h.due, kept.cmds.trans h.cmds, kept.now.trans h.now, kept.rehearsal.trans h.rehearsal, kept.bind.trans h.bind⟩

/-- The command has met no fault that would end it before: it retires as its work gives (R285). -/
theorem WorksOn.done_retires {s x u : State} {d : Cmd} {p : Nat} (h : WorksOn s x d p) (kept : WideKept p x u)
    (cycle status detail : Nat) : RetiresAt s (u.done d cycle status detail) d cycle status detail := by
  have found : u.findCmd d.queue d.seq = some d := (State.findCmd_of_cmds (kept.cmds.trans h.cmds) _ _).trans h.found
  have whole : d.endsBy cycle = false := by rw [Cmd.endsBy, h.due, Bool.and_false]
  have content : u.doneCmd d cycle status detail =
      { d with ran := true, due := some cycle, status := status, detail := detail, rehearsal := s.rehearsal } := by
    simp only [State.doneCmd, found, Option.filter_some, whole, kept.rehearsal, h.rehearsal, Bool.false_eq_true, if_false]
  rw [RetiresAt, ← content]
  exact State.findCmd_setCmd found (by rw [content]) (by rw [content])

/-- Every core has taken its share of the operation, and the progress is noted. -/
def State.workDone (x : State) (d : Cmd) (p : Nat) (rs : List CoreRun) (spec : Option Nat) (ws : List Walk) (upto : Nat) : State :=
  (x.applyRuns p rs spec).setWide d p ws upto

theorem State.workDone_kept (x : State) (d : Cmd) (p : Nat) (rs : List CoreRun) (spec : Option Nat) (ws : List Walk) (upto : Nat) :
    WideKept p x (x.workDone d p rs spec ws upto) := by
  unfold State.workDone State.setWide
  exact (x.applyRuns_kept p rs spec).trans (WideKept.modRun _)

theorem State.workDone_wide (x : State) (d : Cmd) (p : Nat) (rs : List CoreRun) (spec : Option Nat) (ws : List Walk) (upto : Nat) :
    ((x.workDone d p rs spec ws upto).part p).run.wide = some ⟨d.queue, d.seq, ws, upto⟩ := by
  rw [State.workDone, State.setWide, State.part_modRun]

/-- In a state whose cores are those of the work done, the cores hold what their shares made of them. -/
theorem WorksOn.coresTake {s x t : State} {d : Cmd} {p : Nat} {rs : List CoreRun} {spec : Option Nat} {ws : List Walk} {upto : Nat}
    (h : WorksOn s x d p) (distinct : (x.part p).positions.Nodup) (cores : (rs.map CoreRun.lc).Nodup)
    (same : ∀ n, t.core n = (x.workDone d p rs spec ws upto).core n) : CoresTake s t p rs := by
  intro r mem n here
  rw [← Part.position_of_bind h.bind] at here
  exact (same n).trans (State.applyRuns_core distinct cores mem here spec)

end Sys2Proof.Machine
end

section
/-! Vector and matrix operations on a partition: they wait, end, or meet a fault (R18, R82 to R96, R111, R190, R213; log entries 20
and 21). -/

namespace Sys2Proof.Machine
open Sys2Proof.Safety

/-! ### Vector operations -/

/-- The faults that a vector operation meets up to cycle `lim`: of its drops and of its reads. -/
def State.vecFaults (x : State) (d : Cmd) (p lim : Nat) (xs : List VecShare) : List Flt :=
  let seen := x.wideFrom d p
  let us := xs.flatMap fun y => y.v.uses.filter fun u => decide (seen ≤ u.cycle) && decide (u.cycle ≤ lim)
  let drops := xs.flatMap fun y => dropFaults (x.dropLimit p) y.v.lc y.dropped0 y.v.drops
  (drops ++ x.useFaults p us).filter fun f => decide (seen ≤ f.cycle) && decide (f.cycle ≤ lim)

/-- The cores' shares from the first cycle not yet performed to `hi`, writes before `cut` only. -/
def State.vecParts (x : State) (d : Cmd) (p hi cut : Nat) (xs : List VecShare) : List CoreRun :=
  xs.map fun y => y.part (x.wideFrom d p) hi cut

/-- A vector operation without a fault has been performed up to cycle `lim`. -/
def State.vecDone (x : State) (d : Cmd) (p lim : Nat) (xs : List VecShare) : State :=
  x.workDone d p (x.vecParts d p lim (lim + 1) xs) none [] (lim + 1)

theorem State.runVector_clear {x : State} {d : Cmd} {p lim : Nat} {xs : List VecShare} (clear : firstFlt (x.vecFaults d p lim xs) = none) :
    x.runVector d p lim xs =
      if xs.all fun y => decide (y.last ≤ lim) then
        (x.vecDone d p lim xs).wideDone d (xs.map fun y => (y.v.lc, sumN (y.v.drops.map Prod.snd))) ((xs.map VecShare.cycles).foldl max 0)
      else x.vecDone d p lim xs := by
  unfold State.vecFaults at clear
  simp only [State.runVector, clear]
  rfl

theorem State.runVector_ends {x : State} {d : Cmd} {p lim : Nat} {xs : List VecShare} (clear : firstFlt (x.vecFaults d p lim xs) = none)
    (ended : ∀ y ∈ xs, y.last ≤ lim) : x.runVector d p lim xs =
      (x.vecDone d p lim xs).wideDone d (xs.map fun y => (y.v.lc, sumN (y.v.drops.map Prod.snd)))
        ((xs.map VecShare.cycles).foldl max 0) := by
  rw [State.runVector_clear clear, if_pos (by simpa using ended)]

theorem State.runVector_waits {x : State} {d : Cmd} {p lim : Nat} {xs : List VecShare} (clear : firstFlt (x.vecFaults d p lim xs) = none)
    (late : ∃ y ∈ xs, lim < y.last) : x.runVector d p lim xs = x.vecDone d p lim xs := by
  rw [State.runVector_clear clear, if_neg (by simpa using late)]

/-- The first fault ends the operation: nothing is written in its cycle or later. -/
theorem State.runVector_faults {x : State} {d : Cmd} {p lim : Nat} {xs : List VecShare} {f : Flt}
    (first : firstFlt (x.vecFaults d p lim xs) = some f) : x.runVector d p lim xs =
      (x.workDone d p (x.vecParts d p f.cycle f.cycle xs) none [] (f.cycle + 1)).wideFault d p f (x.vecFaults d p lim xs) none none := by
  have found := first
  unfold State.vecFaults at found
  simp only [State.runVector, found]
  rfl

/-- What a vector operation says of its command, of whichever instruction that runs it. -/
theorem vectorOp_of_exec {i : Instr} {s x : State} {d : Cmd} {p : Nat} {xs : List VecShare} {F : List Field} {C : List Component}
    (works : WorksOn s x d p) (e : exec i s = .next (x.runVector d p s.now xs)) (changes : Changes F C s (x.runVector d p s.now xs)) :
    VectorOp i s x d p xs F C := by
  refine ⟨⟨_, e, changes, trivial⟩, fun distinct cores => ?_⟩
  have own (hi cut : Nat) : ((x.vecParts d p hi cut xs).map CoreRun.lc).Nodup := by
    rw [State.vecParts, List.map_map]
    exact cores
  have kept := x.workDone_kept d p
  refine ⟨fun clear ended => ⟨_, e, changes, ?_⟩, fun clear late => ⟨_, e, changes, ?_⟩,
    fun f first kinds => ⟨_, e, changes, ?_⟩⟩
  · rw [State.runVector_ends clear ended]
    exact ⟨works.done_retires (kept _ _ _ _) _ _ _, works.coresTake distinct (own _ _) fun n => State.done_core _ _ _ _ _ n⟩
  · rw [State.runVector_waits clear late]
    exact ⟨(kept _ _ _ _).cmds.trans works.cmds, x.workDone_wide _ _ _ _ _ _, works.coresTake distinct (own _ _) fun _ => rfl⟩
  · have counted := State.countFaults_onlyRegs (x.workDone d p (x.vecParts d p f.cycle f.cycle xs) none [] (f.cycle + 1)) p
      (l := x.vecFaults d p s.now xs) (firstFlt_mem first) kinds
    have work := (kept _ _ _ _).trans (WideKept.of_onlyRegs counted)
    rw [State.runVector_faults first, State.wideFault_own, work.now, works.now]
    exact ⟨works.done_retires work _ _ _, works.coresTake distinct (own _ _) counted.core⟩

/-! ### Matrix operations -/

/-- The faults that a matrix operation meets up to its present: of its fill, of its cores' walks, and of its reads. -/
def State.matFaults (x : State) (d : Cmd) (p : Nat) (o : MatOp) (start : List Walk) (fill : Fill) : List Flt :=
  let seen := x.wideFrom d p
  let table := fill.uses.filter fun u => decide (seen ≤ u.cycle) && decide (u.cycle ≤ o.now)
  let runs := x.matRuns p o (x.walksNow p start)
  ((fill.flts.filter fun f => decide (seen ≤ f.cycle)) ++ runs.flatMap MatRun.flts ++
    x.useFaults p (table ++ runs.flatMap fun r => r.uses ++ r.ahead)).filter fun f => decide (f.cycle ≤ o.now)

/-- A matrix operation without a fault has been performed as far as its walks go: the group table has been read, and every core has
taken its share. -/
def State.matDone (x : State) (d : Cmd) (p : Nat) (o : MatOp) (spec : Option Nat) (fill : Fill) (runs : List MatRun) : State :=
  let seen := x.wideFrom d p
  (x.perform p (fill.uses.filter fun u => decide (seen ≤ u.cycle) && decide (u.cycle ≤ o.now))).workDone d p
    (runs.map fun r => r.share none) spec (runs.map MatRun.w) (o.now + 1)

theorem State.runMatrix_clear {x : State} {d : Cmd} {p : Nat} {o : MatOp} {start : List Walk} {fill : Fill}
    (clear : firstFlt (x.matFaults d p o start fill) = none) (spec : Option Nat) :
    let runs := x.matRuns p o (x.walksNow p start)
    let walks := runs.map MatRun.w
    let t := x.matDone d p o spec fill runs
    x.runMatrix d p o spec start fill =
      if walks.all fun w => w.finished.isSome then
        (t.consume p o.ring walks (some (o.start + slowest runs + 8))).wideDone d (walks.map fun w => (w.core, w.dropped)) (slowest runs)
      else t.consume p o.ring walks none := by
  unfold State.matFaults at clear
  simp only [State.runMatrix, clear]
  rfl

theorem State.matDone_kept (x : State) (d : Cmd) (p : Nat) (o : MatOp) (spec : Option Nat) (fill : Fill) (runs : List MatRun) :
    WideKept p x (x.matDone d p o spec fill runs) := (x.perform_kept p _).trans (State.workDone_kept _ _ _ _ _ _ _)

theorem WorksOn.matDone_core {s x : State} {d : Cmd} {p n : Nat} {runs : List MatRun} {r : MatRun} (works : WorksOn s x d p)
    (distinct : (x.part p).positions.Nodup) (cores : ((runs.map MatRun.w).map Walk.core).Nodup) (mem : r ∈ runs)
    (here : (s.part p).position r.w.core = some n) (o : MatOp) (spec : Option Nat) (fill : Fill) :
    (x.matDone d p o spec fill runs).core n = r.k := by
  have read := x.perform_kept p (fill.uses.filter fun u => decide (x.wideFrom d p ≤ u.cycle) && decide (u.cycle ≤ o.now))
  rw [← Part.positions_of_bind read.bind] at distinct
  rw [← Part.position_of_bind works.bind, ← read.position] at here
  rw [List.map_map] at cores
  have own : ((runs.map fun r => r.share none).map CoreRun.lc).Nodup := by
    rw [List.map_map]
    exact cores
  exact State.applyRuns_core distinct own (List.mem_map_of_mem mem) here spec

/-- Consuming a ring concerns its buffers alone. -/
theorem State.consume_kept (s : State) (p : Nat) (g : Option RingGeo) (ws : List Walk) (due : Option Nat) :
    WideKept p s (s.consume p g ws due) := by
  cases g with
  | none => exact WideKept.refl
  | some g =>
    unfold State.consume
    exact WideKept.modStrm rfl

theorem State.consume_core (s : State) (p : Nat) (g : Option RingGeo) (ws : List Walk) (due : Option Nat) (n : Nat) :
    (s.consume p g ws due).core n = s.core n := by
  cases g <;> rfl

theorem State.consume_run (s : State) (p : Nat) (g : Option RingGeo) (ws : List Walk) (due : Option Nat) :
    ((s.consume p g ws due).part p).run = (s.part p).run := by
  cases g with
  | none => rfl
  | some g => rw [State.consume, State.part_modStrm]

/-- What a matrix operation says of its command, of whichever instruction that runs it. -/
theorem matrixOp_of_exec {i : Instr} {s x : State} {d : Cmd} {p : Nat} {o : MatOp} {spec : Option Nat} {start : List Walk} {fill : Fill}
    {F : List Field} {C : List Component} {Q : State → Prop} (works : WorksOn s x d p) (present : o.now = s.now)
    (e : exec i s = .next (x.runMatrix d p o spec start fill)) (changes : Changes F C s (x.runMatrix d p o spec start fill))
    (after : ∀ t, (∀ k, ((t.part p).pred k).shadow = ((x.part p).pred k).shadow) → Q t) : MatrixOp i s x d p o start fill F C Q := by
  simp only [MatrixOp, ← present]
  refine ⟨⟨_, e, changes, trivial⟩, fun distinct cores clear => ?_⟩
  have run := State.runMatrix_clear (x := x) (d := d) (p := p) (o := o) (start := start) (fill := fill) clear spec
  generalize x.matRuns p o (x.walksNow p start) = runs at cores clear run ⊢
  have done := x.matDone_kept d p o spec fill runs
  have kept := fun due => done.trans (State.consume_kept _ p o.ring (runs.map MatRun.w) due)
  have taken due : ∀ r ∈ runs, ∀ n, (s.part p).position r.w.core = some n →
      ((x.matDone d p o spec fill runs).consume p o.ring (runs.map MatRun.w) due).core n = r.k := fun r mem n here =>
    (State.consume_core _ _ _ _ _ n).trans (works.matDone_core distinct cores mem here o spec fill)
  refine ⟨fun ended => ⟨_, e, changes, ?_⟩, fun waits => ⟨_, e, changes, ?_⟩⟩
  · rw [run, if_pos ended]
    exact ⟨works.done_retires (kept (some _)) _ _ _, taken (some _), after _ (kept (some _)).shadow⟩
  · rw [run, if_neg (Bool.eq_false_iff.1 waits)]
    refine ⟨(kept _).cmds.trans works.cmds, ?_, taken _, after _ (kept _).shadow⟩
    rw [State.consume_run]
    exact State.workDone_wide _ _ _ _ _ _ _

end Sys2Proof.Machine
end

section
/-! The wide commands: WVECTOR, WSAMPLE, WMATMUL, WMATMUL_SPEC and WCONV (R82 to R96, R190, R213; log entries 20 and 21). -/

namespace Sys2Proof.Machine
open Sys2Proof.Safety

section
variable {s : State} {c : CmdId} {d : Cmd} {p : Nat}

/-- The register fields that a wide command may change: hazards, quarters, drops, misses, what a fault's end counts. -/
def wideFields : List Field :=
  taskFields ++ accessFields ++ slotFields ++ [Field.CORE_DROP_TOTAL, Field.CORE_DROP_TASK, Field.STRM_FAIL_DIGEST,
    Field.STRM_FAIL_UNDERRUN] ++ [Field.CORE_GATHER_MISSES]

/-- The parts of the state that a wide command may change. -/
def wideParts : List Component := taskParts ++ [Component.free, Component.fences, Component.power, Component.rehearsal]

/-- The frame that the five wide commands have in common. -/
theorem changes_of_wideFrame {t : State}
    (h : Same 0x220a6e84000000000000000000000000000001c0001010000000c600000500000000800000000000004054a000000000c70300000000 s t) :
    Changes wideFields wideParts s t := Same.changes h (by decide +kernel)

theorem execWvector_running (run : Running s c 0x102 d p) : execWvector c s = .next ((s.ownWide d p).wvector d p s.now) := by
  obtain ⟨ready, part⟩ := run
  simp only [execWvector, ready, part]

theorem execWsample_running (run : Running s c 0x104 d p) : execWsample c s = .next ((s.ownWide d p).wsample d p s.now) := by
  obtain ⟨ready, part⟩ := run
  simp only [execWsample, ready, part]

theorem execWmatmul_running (run : Running s c 0x100 d p) : execWmatmul c s = .next ((s.ownWide d p).wmatmul d p s.now) := by
  obtain ⟨ready, part⟩ := run
  simp only [execWmatmul, ready, part]

theorem execWmatmulSpec_running (run : Running s c 0x101 d p) :
    execWmatmulSpec c s = .next ((s.ownWide d p).wmatmulSpec d p s.now) := by
  obtain ⟨ready, part⟩ := run
  simp only [execWmatmulSpec, ready, part]

theorem execWconv_running (run : Running s c 0x103 d p) : execWconv c s = .next ((s.ownWide d p).wconv d p s.now) := by
  obtain ⟨ready, part⟩ := run
  simp only [execWconv, ready, part]

/-- A depthwise convolution is a vector operation on output positions (R94; log entry 20). -/
theorem State.wconv_depthwise (h : d.conv.depthwise = true) (lim : Nat) : s.wconv d p lim =
    s.runVector d p lim ((List.range (s.part p).lcores).map fun lc =>
      ⟨d.conv.run (s.lcore p lc) lc (s.part p).lcores d.t0 d.step,
        d.conv.cycles (dealt (d.conv.ho * d.conv.wo) (s.part p).lcores lc).length, 0⟩) := if_pos h

/-- Any other convolution is a matrix operation (R93). -/
theorem State.wconv_matrix (h : d.conv.depthwise = false) (lim : Nat) : s.wconv d p lim =
    s.runMatrix d p (s.convOp p d (s.convStart p d.conv d.t0) lim) none (s.convStart p d.conv d.t0) ⟨[], []⟩ :=
  if_neg (Bool.eq_false_iff.1 h)

end

/-- Settles O29: both commands are vector operations on the shares that their cores are dealt. -/
theorem vectorCommandsComplete : Obligations.VectorCommandsComplete := by
  intro s c d p
  refine ⟨fun run => ?_, fun run => ?_⟩
  · have e := execWvector_running run
    exact vectorOp_of_exec (worksOn_ownWide run) e (changes_of_wideFrame (execWvector_frame e))
  · have e := execWsample_running run
    exact vectorOp_of_exec (worksOn_ownWide run) e (changes_of_wideFrame (execWsample_frame e))

/-- Settles O30: both commands are matrix operations, and the work keeps the shadow groups with which the speculative one begins. -/
theorem matrixCommandsComplete : Obligations.MatrixCommandsComplete := by
  intro s c d p
  refine ⟨fun run => ?_, fun run => ?_⟩
  · have e := execWmatmul_running run
    exact matrixOp_of_exec (worksOn_ownWide run) rfl e (changes_of_wideFrame (execWmatmul_frame e)) fun _ _ => trivial
  · have e := execWmatmulSpec_running run
    refine matrixOp_of_exec ((worksOn_ownWide run).setPred _ _) rfl e (changes_of_wideFrame (execWmatmulSpec_frame e))
      fun t kept g mem => ?_
    rw [kept, State.pred_setPred, List.mem_dedup]
    exact List.mem_append_right _ mem

/-- Settles O31: a depthwise convolution is a vector operation, any other a matrix operation. -/
theorem convolutionCompletes : Obligations.ConvolutionCompletes := by
  intro s c d p run
  have e := execWconv_running run
  have changes := changes_of_wideFrame (execWconv_frame e)
  refine ⟨fun depthwise => ?_, fun matrix => ?_⟩
  · rw [State.wconv_depthwise depthwise] at e changes
    exact vectorOp_of_exec (worksOn_ownWide run) e changes
  · rw [State.wconv_matrix matrix] at e changes
    exact matrixOp_of_exec (worksOn_ownWide run) rfl e changes fun _ _ => trivial

end Sys2Proof.Machine
end

section
/-! Window descriptors: the writes that they check, and how a window command changes them on the named cores (R129, R131, R132, R134). -/

namespace Sys2Proof.Machine
open Sys2Proof.Safety

/-! ### Descriptors and the writes that they check -/

/-- A descriptor as a close by cycle `x` leaves it: the ones named that were open end there. -/
def Window.close (d : Window) (w : WindowP) (all : Bool) (x : Nat) : Window :=
  { d with till := if (all || d.index == w.index) && d.till.isNone then some x else d.till }

theorem Core.closeWindow_windows (k : Core) {w : WindowP} (h : w.stable = false) (all : Bool) (x : Nat) :
    (k.closeWindow w all x).windows = k.windows.map fun d => d.close w all x := by
  simp only [Core.closeWindow, h, Bool.false_eq_true, if_false, Window.close]

theorem Core.closeWindow_windows_stable (k : Core) {w : WindowP} (h : w.stable = true) (all : Bool) (x : Nat) :
    (k.closeWindow w all x).windows = k.windows := by
  simp only [Core.closeWindow, h, if_true]

/-- The window that WINDOW_OPEN puts in force from cycle `x` on. -/
def WindowP.opened (w : WindowP) (x : Nat) : Window :=
  ⟨w.index, w.rowFirst, w.rowLast, w.wcolFirst, w.wcolLast, w.core, w.stream, w.tether, w.srcFirst, w.srcLast, x, none⟩

theorem Core.openWindow_windows (k : Core) {w : WindowP} (h : w.stable = false) (x : Nat) :
    (k.openWindow w x).windows = (k.windows.map fun d => d.close w false x) ++ [w.opened x] := by
  rw [← k.closeWindow_windows h]
  simp only [Core.openWindow, h, Bool.false_eq_true, if_false, WindowP.opened]

theorem Core.openWindow_windows_stable (k : Core) {w : WindowP} (h : w.stable = true) (x : Nat) :
    (k.openWindow w x).windows = k.windows := by
  rw [← k.closeWindow_windows_stable h false x]
  simp only [Core.openWindow, h, if_true]

/-- Ending a window in cycle `x` or later changes nothing for the writes of earlier cycles. -/
theorem Window.close_covers (d : Window) (w : WindowP) (all : Bool) {x y : Nat} (h : y < x) (row a b e n : Nat) :
    (d.close w all x).covers y row a b e n = d.covers y row a b e n := by
  have force : inForce d.since (d.close w all x).till y = inForce d.since d.till y := by
    unfold Window.close
    dsimp only
    split
    · next ends =>
      have opened : d.till = none := Option.isNone_iff_eq_none.1 (Bool.and_eq_true_iff.1 ends).2
      simp [inForce, opened, h]
    · rfl
  unfold Window.covers
  rw [← force]
  rfl

theorem Core.accepts_close (k : Core) (w : WindowP) (all : Bool) {x y : Nat} (h : y < x) (row a b e n : Nat) :
    ((k.windows.map fun d => d.close w all x).any fun d => d.covers y row a b e n) = k.accepts y row a b e n := by
  rw [List.any_map]
  exact congrArg (k.windows.any ·) (funext fun d => d.close_covers w all h row a b e n)

/-- Until cycle `x` a close leaves in force what was in force. -/
theorem Core.accepts_closeWindow (k : Core) (w : WindowP) (all : Bool) {x y : Nat} (h : y < x) (row a b e n : Nat) :
    (k.closeWindow w all x).accepts y row a b e n = k.accepts y row a b e n := by
  cases kind : w.stable with
  | true => rw [Core.accepts, k.closeWindow_windows_stable kind, Core.accepts]
  | false => rw [Core.accepts, k.closeWindow_windows kind, k.accepts_close w all h]

/-- Until cycle `x` an open leaves in force what was in force: its own window does not check a write before that cycle. -/
theorem Core.accepts_openWindow (k : Core) (w : WindowP) {x y : Nat} (h : y < x) (row a b e n : Nat) :
    (k.openWindow w x).accepts y row a b e n = k.accepts y row a b e n := by
  cases kind : w.stable with
  | true => rw [Core.accepts, k.openWindow_windows_stable kind, Core.accepts]
  | false =>
    have early : (w.opened x).covers y row a b e n = false := by
      have : ¬x ≤ y := Nat.not_le.2 h
      simp [Window.covers, WindowP.opened, inForce, this]
    rw [Core.accepts, k.openWindow_windows kind, List.any_append, k.accepts_close w false h, List.any_cons, early]
    simp

/-- From cycle `x` on an opened window accepts the tether writes into its rows and word-columns. -/
theorem Core.openWindow_accepts (k : Core) {w : WindowP} {x y row a b : Nat} (kind : w.stable = false)
    (tether : w.tether = true) (after : x ≤ y) (low : w.rowFirst ≤ row) (high : row ≤ w.rowLast) (left : w.wcolFirst ≤ a)
    (right : b ≤ w.wcolLast) (n : Nat) :
    (k.openWindow w x).accepts y row a b 2 n = true := by
  have covers : (w.opened x).covers y row a b 2 n = true := by
    simp [Window.covers, WindowP.opened, inForce, tether, after, low, high, left, right]
  rw [Core.accepts, k.openWindow_windows kind, List.any_append, List.any_cons, covers, Bool.true_or, Bool.or_true]

/-- From cycle `x` on a core whose windows have all been closed by then accepts no remote write. -/
theorem Core.closeAll_accepts (k : Core) {w : WindowP} {x y : Nat} (kind : w.stable = false) (after : x ≤ y)
    (others : ∀ d ∈ k.windows, ∀ z, d.till = some z → z ≤ x) (row a b e n : Nat) :
    (k.closeWindow w true x).accepts y row a b e n = false := by
  rw [Core.accepts, k.closeWindow_windows kind, List.any_map, List.any_eq_false]
  intro d listed
  have ended : inForce d.since (d.close w true x).till y = false := by
    cases till : d.till with
    | none => simp [Window.close, till, inForce, after]
    | some z => simp [Window.close, till, inForce, Nat.le_trans (others d listed z till) after]
  have since : (d.close w true x).since = d.since := rfl
  simp [Window.covers, since, ended]

/-! ### The named cores -/

theorem WindowP.mem_cores {w : WindowP} {lc : Nat} : lc ∈ w.cores ↔ w.first ≤ lc ∧ lc ≤ w.last := by
  simp only [WindowP.cores, List.mem_map, List.mem_range]
  exact ⟨fun ⟨i, _, e⟩ => by omega, fun _ => ⟨lc - w.first, by omega, by omega⟩⟩

theorem WindowP.cores_nodup (w : WindowP) : w.cores.Nodup :=
  List.nodup_range.map fun _ _ e => Nat.add_right_cancel e

theorem State.modLcore_on {s : State} {p lc n : Nat} (h : (s.part p).position lc = some n) (f : Core → Core) :
    s.modLcore p lc f = s.modCore n f := by
  rw [State.modLcore, h]

theorem State.modLcore_part (s : State) (p lc : Nat) (f : Core → Core) (q : Nat) : (s.modLcore p lc f).part q = s.part q := by
  unfold State.modLcore
  split <;> rfl

theorem State.modLcore_core_other {s : State} {p lc n : Nat} (h : (s.part p).position lc ≠ some n) (f : Core → Core) :
    (s.modLcore p lc f).core n = s.core n := by
  cases at_ : (s.part p).position lc with
  | none => rw [State.modLcore, at_]
  | some m =>
    rw [State.modLcore_on at_]
    exact State.core_setCore_other _ _ fun e => h (e ▸ at_)

/-- A change of some logical cores of a partition. -/
def State.modLcores (s : State) (p : Nat) (f : Core → Core) (l : List Nat) : State := l.foldl (fun s lc => s.modLcore p lc f) s

theorem State.modLcores_part (s : State) (p : Nat) (f : Core → Core) (l : List Nat) (q : Nat) : (s.modLcores p f l).part q = s.part q :=
  foldl_kept (fun s : State => s.part q) (fun s lc => s.modLcore_part p lc f q) l s

theorem State.modLcores_core_other {s : State} {p n : Nat} {l : List Nat} (h : ∀ lc ∈ l, (s.part p).position lc ≠ some n)
    (f : Core → Core) : (s.modLcores p f l).core n = s.core n := by
  induction l generalizing s with
  | nil => rfl
  | cons lc l ih =>
    refine (ih (s := s.modLcore p lc f) fun m hm => ?_).trans (State.modLcore_core_other (h lc List.mem_cons_self) f)
    rw [State.modLcore_part]
    exact h m (List.mem_cons_of_mem lc hm)

/-- Each logical core of the list changes once, whatever stands around it there. -/
theorem State.modLcores_core {s : State} {p lc n : Nat} {l : List Nat} (distinct : (s.part p).positions.Nodup) (once : l.Nodup)
    (mem : lc ∈ l) (here : (s.part p).position lc = some n) (f : Core → Core) : (s.modLcores p f l).core n = f (s.core n) := by
  obtain ⟨before, after, rfl⟩ := List.append_of_mem mem
  obtain ⟨notBefore, notAfter⟩ : lc ∉ before ∧ lc ∉ after := by
    rw [List.nodup_middle, List.nodup_cons, List.mem_append, not_or] at once
    exact once.1
  have apart {r : List Nat} (h : lc ∉ r) : ∀ m ∈ r, (s.part p).position m ≠ some n := fun m hm there =>
    h (Part.position_inj distinct here there ▸ hm)
  have split : s.modLcores p f (before ++ lc :: after) = ((s.modLcores p f before).modLcore p lc f).modLcores p f after := by
    rw [State.modLcores, List.foldl_append, List.foldl_cons]
    rfl
  have there : ((s.modLcores p f before).part p).position lc = some n := by rw [State.modLcores_part, here]
  rw [split, State.modLcores_core_other fun m hm => ?_, State.modLcore_on there, State.core_modCore,
    State.modLcores_core_other (apart notBefore)]
  rw [State.modLcore_part, State.modLcores_part]
  exact apart notAfter m hm

/-- What the retirement of window command `d` in cycle `x` makes of a named core. -/
def Cmd.windowChange (d : Cmd) (x : Nat) (k : Core) : Core :=
  if d.op = 0x401 then k.openWindow d.window (x + 2) else k.closeWindow d.window d.closeAll (x + 2)

theorem State.changeWindows_eq (s : State) (d : Cmd) (p x : Nat) :
    s.changeWindows d p x = s.modLcores p (d.windowChange x) d.window.cores := rfl

/-- The command names a logical core of the partition that stands on position `k`. -/
def Named (s : State) (d : Cmd) (p k : Nat) : Prop :=
  ∃ lc, d.window.first ≤ lc ∧ lc ≤ d.window.last ∧ (s.part p).position lc = some k

theorem State.changeWindows_named {s : State} {d : Cmd} {p k : Nat} (distinct : (s.part p).positions.Nodup) (named : Named s d p k)
    (x : Nat) : (s.changeWindows d p x).core k = d.windowChange x (s.core k) := by
  obtain ⟨lc, low, high, here⟩ := named
  exact State.modLcores_core distinct d.window.cores_nodup (WindowP.mem_cores.2 ⟨low, high⟩) here _

theorem State.changeWindows_unnamed {s : State} {d : Cmd} {p k : Nat} (h : ¬Named s d p k) (x : Nat) :
    (s.changeWindows d p x).core k = s.core k :=
  State.modLcores_core_other (fun lc mem here => h ⟨lc, (WindowP.mem_cores.1 mem).1, (WindowP.mem_cores.1 mem).2, here⟩) _

theorem Cmd.windowChange_open {d : Cmd} (h : d.op = 0x401) (x : Nat) (k : Core) :
    d.windowChange x k = k.openWindow d.window (x + 2) := if_pos h

theorem Cmd.windowChange_close {d : Cmd} (h : d.op ≠ 0x401) (x : Nat) (k : Core) :
    d.windowChange x k = k.closeWindow d.window d.closeAll (x + 2) := if_neg h

theorem Cmd.windowChange_accepts (d : Cmd) {x y : Nat} (h : y < x + 2) (k : Core) (row a b e n : Nat) :
    (d.windowChange x k).accepts y row a b e n = k.accepts y row a b e n := by
  by_cases op : d.op = 0x401
  · rw [d.windowChange_open op, Core.accepts_openWindow _ _ h]
  · rw [d.windowChange_close op, Core.accepts_closeWindow _ _ _ h]

end Sys2Proof.Machine
end

section
/-! The retirement of a window command (R131, R132, R134). -/

namespace Sys2Proof.Machine
open Sys2Proof.Safety

/-! ### What a retirement leaves of the descriptors -/

/-- Every core's windows and stable ranges. -/
def State.descriptors (s : State) (k : Nat) : List Window × List StableRange := ((s.core k).windows, (s.core k).stable)

theorem State.descriptors_of_cores {s t : State} (h : t.cores = s.cores) : t.descriptors = s.descriptors := by
  funext k
  rw [State.descriptors, State.descriptors, State.core, State.core, h]

theorem State.descriptors_modCore {g : Core → Core} (h : ∀ k, (g k).windows = k.windows ∧ (g k).stable = k.stable)
    (s : State) (n : Nat) :
    (s.modCore n g).descriptors = s.descriptors := by
  funext k
  by_cases e : k = n
  · subst e
    rw [State.descriptors, State.core_modCore, (h _).1, (h _).2, State.descriptors]
  · rw [State.descriptors, State.modCore, State.core_setCore_other _ _ e, State.descriptors]

theorem State.voidRows_descriptors (s : State) (p r n : Nat) : (s.voidRows p r n).descriptors = s.descriptors := by
  unfold State.voidRows
  split
  · rfl
  · refine foldl_kept State.descriptors (fun t k => State.descriptors_modCore ?_ t k) _ s
    exact fun _ => ⟨rfl, rfl⟩

theorem State.voidGroup_descriptors (s : State) (p g : Nat) : (s.voidGroup p g).descriptors = s.descriptors := by
  unfold State.voidGroup
  refine foldl_kept State.descriptors (fun t k => State.descriptors_modCore ?_ t k) _ s
  exact fun _ => ⟨rfl, rfl⟩

theorem State.voidSlot_descriptors (s : State) (p : Nat) (d : Pred) : (s.voidSlot p d).descriptors = s.descriptors := by
  unfold State.voidSlot
  dsimp only
  rw [foldl_kept State.descriptors fun t (g : Nat × Nat) => t.voidGroup_descriptors p g.1, State.voidRows_descriptors,
    State.voidRows_descriptors]

theorem State.voidOut_descriptors (s : State) (p k : Nat) : (s.voidOut p k).descriptors = s.descriptors := by
  have counted (t : State) (n : Nat) : (t.inc .PART_SPEC_CNT_HELD_FAULTS p n).descriptors = t.descriptors := rfl
  have shown (t : State) (b : Nat) (v : Pred) :
      (((t.inc .PART_SPEC_CNT_SQUASHED p 1).inc .PART_SPEC_BYTES_BYTES p b).setPred p k v).descriptors = t.descriptors := rfl
  unfold State.voidOut
  dsimp only
  rw [shown, apply_ite State.descriptors, counted, ite_self, State.voidSlot_descriptors]

theorem State.settleSlots_descriptors (s : State) (p : Nat) (yes no : List Nat) : (s.settleSlots p yes no).descriptors = s.descriptors := by
  have released (t : State) (x : Nat × Cmd × Option Rec) : (t.releaseOne p yes x).descriptors = t.descriptors :=
    State.descriptors_of_cores (State.releaseOne_frame.cores (by decide))
  have emptied (t : State) (k : Nat) (v : Pred) : (t.setPred p k v).descriptors = t.descriptors := rfl
  unfold State.settleSlots
  dsimp only
  rw [foldl_kept State.descriptors fun t k => emptied t k _, foldl_kept State.descriptors released,
    foldl_kept State.descriptors fun t k => t.voidOut_descriptors p k]

theorem State.disarm_descriptors (s : State) (p : Nat) : (s.disarm p).descriptors = s.descriptors := by
  unfold State.disarm
  refine foldl_kept State.descriptors (fun t k => State.descriptors_modCore ?_ t k) _ s
  exact fun _ => ⟨rfl, rfl⟩

theorem State.endTask_descriptors (s : State) (p status : Nat) (aborted : Bool) :
    (s.endTask p status aborted).descriptors = s.descriptors := by
  have ended (t : State) (g : PartRun → PartRun) : ((t.modRun p g).showTask p).descriptors = t.descriptors := rfl
  unfold State.endTask
  dsimp only
  split
  · rfl
  · rw [ended, State.disarm_descriptors]
    refine State.descriptors_of_cores ?_
    rw [foldl_kept State.cores fun _ _ => State.sample_frame.cores (by decide)]
    exact State.journalTaskEnd_frame.cores (by decide)

theorem State.taskDone_descriptors (s : State) (p : Nat) : (s.taskDone p).descriptors = s.descriptors := by
  unfold State.taskDone
  split
  · rfl
  · rw [apply_ite State.descriptors, State.endTask_descriptors, State.settleSlots_descriptors, ite_self]

/-- The end of a command, as `retire` makes it before the task's own end. -/
def State.leave (s : State) (c : Cmd) : State :=
  let sd := s.finalStatus c
  let slack := s.slackAt c s.now
  match c.part, s.pendingSlot c with
  | some p, some k =>
    let d := (s.part p).pred k
    ((s.dropCmd c).setPred p k { d with held := d.held ++ [(c, s.recordOf c sd.1 sd.2 slack)] }).noteSlack c.part slack
  | _, _ => (s.finish c sd.1 sd.2 slack).addUpds (s.signals c)

theorem State.leave_cores (s : State) (c : Cmd) : (s.leave c).cores = s.cores := by
  have noted (t : State) (slack : Int) : (t.noteSlack c.part slack).cores = t.cores := State.noteSlack_frame.cores (by decide)
  unfold State.leave
  dsimp only
  split
  · rw [noted]
    rfl
  · exact State.finish_frame.cores (by decide)

theorem State.retire_part {c : Cmd} {p : Nat} (part : c.part = some p) (s : State) : s.retire c =
    if (((s.leave c).freeWide c).taskOf c).isSome then ((s.leave c).freeWide c).taskDone p else (s.leave c).freeWide c := by
  cases c
  cases part
  rfl

/-- A command's retirement leaves every core's descriptors: its own change of them has come before it. -/
theorem State.retire_descriptors {c : Cmd} {p : Nat} (part : c.part = some p) (s : State) : (s.retire c).descriptors = s.descriptors := by
  have left : ((s.leave c).freeWide c).descriptors = s.descriptors :=
    State.descriptors_of_cores ((State.freeWide_frame.cores (by decide)).trans (s.leave_cores c))
  rw [State.retire_part part, apply_ite State.descriptors, State.taskDone_descriptors, ite_self, left]

theorem State.retireEffect_window {d : Cmd} (h : d.op = 0x401 ∨ d.op = 0x402) (s : State) (p : Nat) :
    s.retireEffect d p = s.changeWindows d p s.now := by
  have narrow : opWide d.op = false := by
    rcases h with op | op <;> rw [op] <;> rfl
  rw [State.retireEffect, narrow, if_neg Bool.false_ne_true, if_pos h]

theorem State.retireNow_descriptors {d : Cmd} {p : Nat} (h : d.op = 0x401 ∨ d.op = 0x402) (part : d.part = some p) (s : State) :
    (s.retireNow d).descriptors = (s.changeWindows d p s.now).descriptors := by
  have noted : (((s.changeWindows d p s.now).writeMark d).noteHeader d).descriptors = (s.changeWindows d p s.now).descriptors :=
    State.descriptors_of_cores ((State.noteHeader_frame.cores (by decide)).trans (State.writeMark_frame.cores (by decide)))
  simp only [State.retireNow, part, State.retireEffect_window h]
  rw [State.retire_descriptors part, noted]

/-! ### The cycle of the retirement -/

/-- The end of a command's work, told of a state with the same commands and the same mark (R285). -/
theorem retiresAt_done {s u : State} {d : Cmd} (found : s.findCmd d.queue d.seq = some d) (due : d.due = none) (cmds : u.cmds = s.cmds)
    (mark : u.rehearsal = s.rehearsal) (x status detail : Nat) : RetiresAt s (u.done d x status detail) d x status detail := by
  have works : WorksOn u u d 0 := ⟨(State.findCmd_of_cmds cmds _ _).trans found, due, rfl, rfl, rfl, rfl⟩
  have retires := works.done_retires WideKept.refl x status detail
  rwa [RetiresAt, mark] at retires

/-- A fold that answers something from its first element on answers nothing only for no element. -/
theorem eq_nil_of_foldl_eq_none {α β : Type} {f : Option β → α → Option β} (h : ∀ o a, (f o a).isSome = true) {l : List α}
    (e : l.foldl f none = none) : l = [] := by
  cases l with
  | nil => rfl
  | cons a l =>
    have some_ := List.foldlRecOn l f (motive := fun o => o.isSome = true) (h none a) fun o _ a _ => h o a
    rw [List.foldl_cons] at e
    rw [e] at some_
    cases some_

/-- Where no fault comes up to some cycle, none comes up to an earlier one. -/
theorem State.firstFault_le {s : State} {p x y : Nat} (le : x ≤ y) (h : s.firstFault p y = none) : s.firstFault p x = none := by
  unfold State.firstFault at h ⊢
  have faultless := List.filterMap_eq_nil_iff.1 (eq_nil_of_foldl_eq_none (fun o a => ?_) h)
  · refine (congrArg (List.foldl _ none) (List.filterMap_eq_nil_iff.2 fun c mem => ?_)).trans rfl
    have sound := faultless c mem
    cases due : c.due with
    | none => rfl
    | some d =>
      simp only [due, ite_eq_right_iff, reduceCtorEq, imp_false, not_and] at sound ⊢
      exact fun faulty met => sound faulty (Nat.le_trans met le)
  · cases o with
    | none => rfl
    | some z => exact (apply_ite Option.isSome _ _ _).trans (ite_self _)

/-- A command of a partition that has come whole to its last cycle `x` retires there (R285). -/
theorem execCommandRetire_due {s : State} {c : CmdId} {d : Cmd} {p x : Nat} (found : s.findCmd c.queue.val c.seq = some d)
    (part : d.part = some p) (due : d.due = some x) (begun : d.began.isSome = true) (frame : x < s.nextEdge)
    (past : (s.catchUp p x).now ≤ x) (same : x < (s.catchUp p x).nextEdge)
    (still : (s.catchUp p x).findCmd d.queue d.seq = some d) (sound : (s.catchUp p x).firstFault p (s.nextEdge - 1) = none) :
    execCommandRetire c s = .next (((s.catchUp p x).advance x).retireNow d) := by
  have moved := State.advance_of past same
  have sound' : ((s.catchUp p x).advance x).firstFault p x = none := by
    rw [moved]
    exact State.firstFault_le (s := s.catchUp p x) (Nat.le_sub_one_of_lt frame) sound
  have still' : ((s.catchUp p x).advance x).findCmd d.queue d.seq = some d := by
    rw [moved]
    exact still
  simp only [execCommandRetire, found, State.commandRetire, part, begun, if_true, State.partRetire, due, still, sound, frame, State.endAt,
    sound', still']

/-- A change of logical cores looks at the partitions and the cores alone. -/
theorem State.modLcores_cores {s t : State} (parts : t.parts = s.parts) (cores : t.cores = s.cores) (p : Nat) (f : Core → Core)
    (l : List Nat) : (t.modLcores p f l).cores = (s.modLcores p f l).cores := by
  induction l generalizing s t with
  | nil => exact cores
  | cons lc l ih =>
    refine ih (s := s.modLcore p lc f) (t := t.modLcore p lc f) ?_ ?_
    · rw [State.modLcore_frame.parts (by decide), State.modLcore_frame.parts (by decide), parts]
    · have here : (t.part p).position lc = (s.part p).position lc := by rw [State.part, State.part, parts]
      cases position : (s.part p).position lc with
      | none => rw [State.modLcore, State.modLcore, here, position, cores]
      | some n => rw [State.modLcore_on position, State.modLcore_on (here.trans position), State.modCore, State.modCore, State.setCore,
          State.setCore, State.core, State.core, cores]

/-- Settles O33: the step is `done`, the retirement `changeWindows`, whose named cores change once and the others never. -/
theorem windowsOpenAndClose : Obligations.WindowsOpenAndClose := by
  refine ⟨fun s c d => ⟨fun ready => ?_, fun ready => ?_⟩,
    fun s c d p x found part op due begun frame => ?_, fun s d p x distinct => ?_⟩
  · obtain ⟨here, due⟩ := State.ready_running ready
    have e : execWindowOpen c s = .next (s.done d (d.t0 + 4) 0 0) := by simp only [execWindowOpen, ready]
    exact ⟨_, e, Same.changes (execWindowOpen_frame e) (by decide +kernel), retiresAt_done here due rfl rfl _ 0 0⟩
  · obtain ⟨here, due⟩ := State.ready_running ready
    have e : execWindowClose c s = .next (s.done d (d.t0 + 4) 0 0) := by simp only [execWindowClose, ready]
    exact ⟨_, e, Same.changes (execWindowClose_frame e) (by decide +kernel), retiresAt_done here due rfl rfl _ 0 0⟩
  · intro u past same still _ sound
    have e := execCommandRetire_due found part due begun frame past same still sound
    have moved : u.advance x = { u with clock := { u.clock with now := x } } := State.advance_of past same
    have told : ((u.advance x).retireNow d).descriptors = (u.changeWindows d p x).descriptors := by
      have now : (u.advance x).now = x := by
        rw [moved]
        rfl
      have changed : ((u.advance x).changeWindows d p x).cores = (u.changeWindows d p x).cores :=
        State.modLcores_cores (by rw [moved]) (by rw [moved]) p _ _
      rw [State.retireNow_descriptors op part, now, State.descriptors_of_cores changed]
    exact ⟨_, e, Same.changes (execCommandRetire_frame e) (by decide +kernel), fun k => Prod.mk.inj (congrFun told k)⟩
  · intro named t
    have core {k : Nat} (h : named k) : t.core k = d.windowChange x (s.core k) := State.changeWindows_named distinct h x
    refine ⟨fun k h => State.changeWindows_unnamed h x, fun k h op => ?_, fun k h op => ?_, fun k y row a b e n before => ?_,
      fun k y row a b n h op kind tether after low high left right => ?_, fun k y row a b e n h op kind all after ended => ?_⟩
    · rw [core h, d.windowChange_open op]
    · rw [core h, d.windowChange_close op]
    · by_cases h : named k
      · rw [core h, d.windowChange_accepts before]
      · rw [State.changeWindows_unnamed h x]
    · rw [core h, d.windowChange_open op]
      exact Core.openWindow_accepts _ kind tether after low high left right n
    · rw [core h, d.windowChange_close (by rw [op]; decide), all]
      exact Core.closeAll_accepts _ kind after ended row a b e n

end Sys2Proof.Machine
end

section
/-! A partition's binding: what the operations on its run, its streams and its journal leave of it, and how a reshape changes it. -/

namespace Sys2Proof.Machine
open Sys2Proof.Safety

theorem State.part_of_parts {s t : State} (h : t.parts = s.parts) (q : Nat) : t.part q = s.part q := by
  rw [State.part, State.part, h]

/-! ### Operations that leave every binding alone -/

/-- What binds a partition: its shape, its ranges, and what waits to change them. -/
def State.bindOf (s : State) (q : Nat) : PartBind := (s.part q).bind

theorem State.bindOf_of_parts {s t : State} (h : t.parts = s.parts) : t.bindOf = s.bindOf := by
  funext q
  rw [State.bindOf, State.bindOf, State.part_of_parts h]

theorem State.bindOf_modPart {g : Part → Part} (h : ∀ x, (g x).bind = x.bind) (s : State) (p : Nat) :
    (s.modPart p g).bindOf = s.bindOf := by
  funext q
  by_cases e : q = p
  · subst e
    rw [State.bindOf, State.part_modPart, h, State.bindOf]
  · rw [State.bindOf, State.modPart, State.part_setPart_other _ _ e, State.bindOf]

@[simp] theorem State.bindOf_put (s : State) (f : Field) (i v : Nat) : (s.put f i v).bindOf = s.bindOf := rfl

@[simp] theorem State.bindOf_modRun (s : State) (p : Nat) (g : PartRun → PartRun) : (s.modRun p g).bindOf = s.bindOf :=
  State.bindOf_modPart (g := fun x => { x with run := g x.run }) (fun _ => rfl) s p

@[simp] theorem State.bindOf_modStrm (s : State) (p : Nat) (g : PartStream → PartStream) : (s.modStrm p g).bindOf = s.bindOf :=
  State.bindOf_modPart (g := fun x => { x with strm := g x.strm }) (fun _ => rfl) s p

theorem State.bindOf_journal (s : State) (p type queue seq : Nat) (body : Bytes) : (s.journal p type queue seq body).bindOf = s.bindOf := by
  funext q
  have kept := congrArg Part.bind (s.journal_sansJournal p type queue seq body q)
  exact kept

theorem State.bindOf_noteSlack (s : State) (p : Option Nat) (x : Int) : (s.noteSlack p x).bindOf = s.bindOf := by
  cases p with
  | none => rfl
  | some p => exact State.bindOf_modRun _ _ _

theorem State.bindOf_finish (s : State) (c : Cmd) (status detail : Nat) (x : Int) : (s.finish c status detail x).bindOf = s.bindOf :=
  State.bindOf_noteSlack _ _ _

theorem State.bindOf_endStreams (s : State) (p : Nat) (keep : Stream → Bool) : (s.endStreams p keep).bindOf = s.bindOf := by
  unfold State.endStreams
  dsimp only
  rw [State.bindOf_modStrm]
  exact foldl_kept State.bindOf (fun _ _ => State.bindOf_of_parts (State.cancelStream_frame.parts (by decide))) _ s

theorem State.bindOf_dropStreams (s : State) (p : Nat) : (s.dropStreams p).bindOf = s.bindOf := by
  unfold State.dropStreams
  dsimp only
  rw [State.bindOf_modStrm, State.bindOf_endStreams]
  exact foldl_kept State.bindOf (fun _ _ => State.bindOf_of_parts (State.voidSlot_frame.parts (by decide))) _ s

theorem State.bindOf_endTask (s : State) (p status : Nat) (aborted : Bool) : (s.endTask p status aborted).bindOf = s.bindOf := by
  have shown (t : State) : (t.showTask p).bindOf = t.bindOf := rfl
  unfold State.endTask
  dsimp only
  split
  · rfl
  · rw [shown, State.bindOf_modRun, State.bindOf_of_parts (State.disarm_frame.parts (by decide)),
      foldl_kept State.bindOf fun _ _ => State.bindOf_of_parts (State.sample_frame.parts (by decide)), State.bindOf_put,
      State.bindOf_put]
    exact State.bindOf_journal _ _ _ _ _ _

/-- An abort ends commands, streams and the task; the partition stays as it is bound. -/
theorem State.bindOf_abortTask (s : State) (p : Nat) (first : Option Cmd) (st : Cmd → Nat × Nat) (slack : Option Int) (ts : Nat)
    (records : Bool) : (s.abortTask p first st slack ts records).bindOf = s.bindOf := by
  have dropped (t : State) (c : Cmd) : (t.dropCmd c).bindOf = t.bindOf := rfl
  have recorded (t : State) (r : List Rec) : ({ t with recs := r } : State).bindOf = t.bindOf := rfl
  unfold State.abortTask
  dsimp only
  split
  · rfl
  · rw [State.bindOf_endTask, apply_ite State.bindOf, State.bindOf_modRun, ite_self,
      State.bindOf_of_parts (State.sendFault_frame.parts (by decide)), State.bindOf_dropStreams]
    refine (foldl_kept State.bindOf (fun t c => ?_) _ _).trans ?_
    · split
      · split
        · exact recorded t _
        · exact t.bindOf_finish c _ _ _
      · exact dropped t c
    · split
      · exact State.bindOf_journal _ _ _ _ _ _
      · rfl

theorem State.bindOf_dropNext (s : State) (p : Nat) (st : Cmd → Nat × Nat) (records : Bool) :
    (s.dropNext p st records).bindOf = s.bindOf := by
  have shown (t : State) : (t.showTask p).bindOf = t.bindOf := rfl
  unfold State.dropNext
  dsimp only
  split
  · rfl
  · rw [shown, State.bindOf_modRun]
    refine foldl_kept State.bindOf (fun t c => ?_) _ s
    split
    · exact t.bindOf_finish c _ _ _
    · rfl

end Sys2Proof.Machine
end

section
/-! Resizes at their edge: they take effect or are cancelled (R318, R319). -/

namespace Sys2Proof.Machine
open Sys2Proof.Safety

/-! ### Events of a partition -/

/-- The bit of a partition's event stands at 1 once the event has been noted. -/
theorem State.get_partEvent (s : State) {f : Field} (p : Nat) (h : f.code < 400)
    (k : Nat.testBit
      0x2000000000000000000000000000000000001c000000000000000000000000000000000000000000000000000000000000000000000 f.code = false)
    (w : 1 % 2 ^ f.width = 1) : (s.partEvent f p).get f p = 1 := by
  rw [State.partEvent, State.get_event _ _ _ _ _ h k]
  exact (State.get_put s f p 1).trans w

/-- A field that is neither the event's bit nor a count of the book. -/
theorem State.get_partEvent_other (s : State) {f g : Field} (p i : Nat) (h : f.code < 400)
    (k : Nat.testBit
      0x2000000000000000000000000000000000001c000000000000000000000000000000000000000000000000000000000000000000000 f.code = false)
    (ne : f.code ≠ g.code) : (s.partEvent g p).get f i = s.get f i := by
  rw [State.partEvent, State.get_event _ _ _ _ _ h k]
  exact State.get_put_code s ne i p 1

theorem State.bindOf_partEvent (s : State) (f : Field) (p : Nat) : (s.partEvent f p).bindOf = s.bindOf := by
  rw [State.partEvent, State.bindOf_of_parts (State.event_parts _ _ _ _), State.bindOf_modRun]
  rfl

theorem State.bindOf_modBind (s : State) (p : Nat) (g : PartBind → PartBind) : (s.modBind p g).bindOf p = g (s.bindOf p) := by
  rw [State.bindOf, State.part_modBind, State.bindOf]

/-! ### The resize -/

theorem State.putShape_shape (s : State) (p : Nat) (v : Shape) : ((s.putShape p v).bindOf p).shape = some v := by
  unfold State.putShape
  dsimp only
  rw [State.bindOf_of_parts (State.rebase_frame.parts (by decide))]
  simp only [State.bindOf_put]
  rw [State.bindOf_of_parts (State.bindCores_frame.parts (by decide)), State.bindOf_modBind]

/-- The slots that await rebinding: `first` ones, then the others that are bound (R312, R370). -/
def State.toRebind (s : State) (p : Nat) (first : List Nat) : List Nat := first ++ (s.boundSlots p).filter fun h => !first.contains h

theorem State.bindOf_rebindSlots (s : State) (p : Nat) (first : List Nat) : (s.rebindSlots p first).bindOf p =
    { s.bindOf p with rebinds := s.toRebind p first, firstBound := (s.toRebind p first).isEmpty } := by
  unfold State.rebindSlots
  dsimp only
  rw [State.bindOf_modBind, foldl_kept State.bindOf fun t h => t.bindOf_put _ _ _]
  rfl

/-- A resize by its stages: the new shape in force and the state CLEARING, then what the partition no longer waits for, then the
slots that are to be bound again. -/
theorem State.resize_stages (s : State) (p : Nat) (v : Shape) : ∃ (t : State) (g : PartBind → PartBind) (l : List Nat),
    s.resize p v = (((t.put .PART_STATE_STATE p 1).put .PART_STATE_RESIZE_ARMED p 0).modBind p g).rebindSlots p l ∧
    (t.bindOf p).shape = some v ∧ ∀ b, (g b).shape = b.shape ∧ (g b).armed = none := by
  unfold State.resize
  extract_lets old pages gone added freed cleared shaped stated bound
  exact ⟨shaped, _, _, rfl,
    (congrArg PartBind.shape (congrFun (State.bindOf_of_parts (State.releasePages_frame.parts (by decide))) p)).trans
      (cleared.putShape_shape p v), fun b => ⟨rfl, rfl⟩⟩

/-- What a resize that takes effect shows (R318). -/
theorem State.resize_effect (s : State) (p : Nat) (v : Shape) :
    (s.resize p v).get .PART_STATE_STATE p = 1 ∧ (s.resize p v).get .PART_STATE_RESIZE_ARMED p = 0 ∧
    ((s.resize p v).part p).bind.armed = none ∧ ((s.resize p v).part p).bind.shape = some v := by
  obtain ⟨t, g, l, e, shape, kept⟩ := s.resize_stages p v
  rw [← State.bindOf, e, State.bindOf_rebindSlots, State.bindOf_modBind,
    State.rebindSlots_frame.reg _ _ (by decide) (by decide), State.rebindSlots_frame.reg _ _ (by decide) (by decide),
    State.modBind_get, State.modBind_get, State.get_put, State.get_put_code _ (by decide), State.get_put]
  exact ⟨rfl, rfl, (kept _).2, (kept _).1.trans shape⟩

/-- What a cancelled resize shows (R319). -/
theorem State.cancelResize_effect (s : State) (p : Nat) :
    (s.cancelResize p).get .PART_STATE_STATE p = s.get .PART_STATE_STATE p ∧
    (s.cancelResize p).get .PART_STATE_RESIZE_ARMED p = 0 ∧ ((s.cancelResize p).part p).bind.armed = none ∧
    ((s.cancelResize p).part p).bind.shape = (s.part p).bind.shape ∧ (s.cancelResize p).get .VFEVT_STAT_RESIZE_CANCELLED p = 1 := by
  rw [← State.bindOf, ← State.bindOf]
  unfold State.cancelResize
  dsimp only
  rw [State.get_partEvent_other _ p p (by decide) (by decide) (by decide),
    State.get_partEvent_other _ p p (by decide) (by decide) (by decide),
    State.get_partEvent _ p (by decide) (by decide) (by decide), State.bindOf_partEvent, State.bindOf_modBind, State.modBind_get,
    State.modBind_get, State.get_put_code _ (by decide), State.get_put]
  exact ⟨rfl, rfl, rfl, rfl, rfl⟩

theorem execResizeEffect_due {s : State} {p : Fin 16} {v : Shape} (armed : (s.part p.val).bind.armed = some v)
    (due : s.partDue p.val = true) (drained : s.get .PART_STATE_STATE p.val = 4) (task : (s.part p.val).run.task = none)
    (next : (s.part p.val).run.next = none) : execResizeEffect p s = .next (s.resizeEffect p.val v.params) := by
  simp only [execResizeEffect, armed, due, drained, task, next, and_self, if_true]

theorem State.resizeEffect_good {s : State} {p : Nat} {b : Bytes} (h : s.checkBind p (s.newShape p b) true true = none) :
    s.resizeEffect p b = s.resize p (s.newShape p b) := by
  simp only [State.resizeEffect, h]

theorem State.resizeEffect_bad {s : State} {p : Nat} {b : Bytes} {x : Nat × Nat × Nat}
    (h : s.checkBind p (s.newShape p b) true true = some x) :
    s.resizeEffect p b = ((s.put .PART_STATE_LAST_CHECK p x.1).put .PART_STATE_STATE p 2).cancelResize p := by
  simp only [State.resizeEffect, h]

end Sys2Proof.Machine
end

section
/-! The end of a clearing (R136, R137, R315, R383). -/

namespace Sys2Proof.Machine
open Sys2Proof.Safety

theorem State.endClear_core (s : State) (n : Nat) : ((s.endClear n).core n).clearing = none ∧
    ∀ k, k ≠ n → (s.endClear n).core k = s.core k := by
  have shown (t : State) (a b k : Nat) : ((t.put .CORE_TMEM_CLR_BUSY n a).put .CORE_TMEM_CLR_FRAME n b).core k = t.core k := rfl
  unfold State.endClear
  dsimp only
  refine ⟨?_, fun k h => ?_⟩
  · rw [shown, State.core_modCore]
  · rw [shown]
    exact State.core_setCore_other _ _ h

theorem State.endClear_busy (s : State) (n : Nat) : (s.endClear n).get .CORE_TMEM_CLR_BUSY n = 0 := by
  unfold State.endClear
  dsimp only
  rw [State.get_put_code _ (by decide), State.get_put]
  rfl

/-- The self-test that ran on the position is over (R383). -/
theorem State.bistCleared_busy {s : State} {n : Nat} (h : (s.bists.any fun b => b.position == n && b.done) = true) :
    (s.bistCleared n).get .CORE_BIST_BUSY n = 0 := by
  obtain ⟨b, found⟩ := Option.isSome_iff_exists.1 (List.find?_isSome.2 (List.any_eq_true.1 h))
  unfold State.bistCleared
  rw [found]
  dsimp only
  split
  · rw [State.done_get, State.get_put]
    rfl
  · rw [State.get_put]
    rfl

theorem execTmemClearDone_due {s : State} {n : Fin 96} {e : Nat} (clearing : (s.core n.val).clearing = some e) (frame : e < s.nextEdge) :
    execTmemClearDone n s = .next ((((s.advance e).endClear n.val).resetCleared n.val).bistCleared n.val) := by
  simp only [execTmemClearDone, clearing, frame, if_true]

/-- The clearing of a position ends in its cycle (R136). -/
theorem clearDone_effect {s : State} {n : Fin 96} {e : Nat} (clearing : (s.core n.val).clearing = some e) (past : s.now ≤ e)
    (frame : e < s.nextEdge) : ∃ t, execTmemClearDone n s = .next t ∧ (t.core n.val).clearing = none ∧ t.clock.now = e ∧
      t.get .CORE_TMEM_CLR_BUSY n.val = 0 ∧ (∀ k, k ≠ n.val → t.core k = s.core k) ∧
      ((s.bists.any fun b => b.position == n.val && b.done) = true → t.get .CORE_BIST_BUSY n.val = 0) := by
  have moved := State.advance_of past frame
  have ended := (s.advance e).endClear_core n.val
  let u := ((s.advance e).endClear n.val).resetCleared n.val
  have clock : u.clock = (s.advance e).clock := (State.resetCleared_frame.clock (by decide)).trans (State.endClear_frame.clock (by decide))
  have cores : (u.bistCleared n.val).cores = ((s.advance e).endClear n.val).cores :=
    (State.bistCleared_frame.cores (by decide)).trans (State.resetCleared_frame.cores (by decide))
  have core (k : Nat) : (u.bistCleared n.val).core k = ((s.advance e).endClear n.val).core k := by
    rw [State.core, State.core, cores]
  have bists : u.bists = s.bists :=
    ((State.resetCleared_frame.bists (by decide)).trans (State.endClear_frame.bists (by decide))).trans (by rw [moved])
  refine ⟨_, execTmemClearDone_due clearing frame, ?_, ?_, ?_, fun k h => ?_, fun h => ?_⟩
  · rw [core, ended.1]
  · rw [State.bistCleared_frame.clock (by decide), clock, moved]
  · rw [State.bistCleared_frame.reg _ _ (by decide) (by decide), State.resetCleared_frame.reg _ _ (by decide) (by decide),
      State.endClear_busy]
  · rw [core, ended.2 k h, moved]
    rfl
  · exact State.bistCleared_busy (bists ▸ h)

end Sys2Proof.Machine
end

section
/-! A core's replacement by a spare (R370, R381, R382). -/

namespace Sys2Proof.Machine
open Sys2Proof.Safety

/-! ### The spare -/

/-- The free spares are read off the shape and the positions' binding registers. -/
theorem State.freeSpares_congr {s t : State} {p : Nat} (shape : (t.bindOf p).shape = (s.bindOf p).shape)
    (regs : ∀ f ∈ [Field.CORE_BIND_BOUND, Field.CORE_BIND_PART, Field.CORE_BIND_SPARE, Field.CORE_BIND_SLOT],
      ∀ n, t.get f n = s.get f n) :
    t.freeSpares p = s.freeSpares p := by
  have shape : (t.part p).bind.shape = (s.part p).bind.shape := shape
  have bound n := regs .CORE_BIND_BOUND (by decide) n
  have part n := regs .CORE_BIND_PART (by decide) n
  have spare n := regs .CORE_BIND_SPARE (by decide) n
  have slot n := regs .CORE_BIND_SLOT (by decide) n
  simp only [State.freeSpares, State.boundTo, shape, bound, part, spare, slot]

theorem State.pickSpare_congr {s t : State} {p : Nat} (shape : (t.bindOf p).shape = (s.bindOf p).shape)
    (regs : ∀ f ∈ [Field.CORE_BIND_BOUND, Field.CORE_BIND_PART, Field.CORE_BIND_SPARE, Field.CORE_BIND_SLOT],
      ∀ n, t.get f n = s.get f n)
    (k : Nat) : t.pickSpare p k = s.pickSpare p k := by
  rw [State.pickSpare, State.pickSpare, State.freeSpares_congr shape regs]

/-! ### Steps 1 to 6 of a remap -/

/-- A reshape puts the shape in force with parameters and digest of its own, and shows its spares. -/
theorem State.reshape_stages (s : State) (p : Nat) (v : Shape) : ∃ w : Shape, w.positions = v.positions ∧
    s.reshape p v = (s.modBind p fun b => { b with shape := some w }).put .PART_SHAPE_SPARES p v.spares := by
  refine ⟨_, ?_, rfl⟩
  rfl

/-- What a remap leaves alone in its partition: the task, the remaps that wait, and the command that waits for one. -/
def State.steady (s : State) (p : Nat) : PartRun × List (Nat × Nat × Bool) × Option (Nat × Nat) :=
  ((s.part p).run, (s.part p).bind.remap, (s.part p).bind.waiter)

theorem State.steady_of_parts {s t : State} (h : t.parts = s.parts) (p : Nat) : t.steady p = s.steady p := by
  rw [State.steady, State.steady, State.part_of_parts h]

theorem State.steady_modBind {g : PartBind → PartBind} (h : ∀ b, (g b).remap = b.remap ∧ (g b).waiter = b.waiter)
    (s : State) (p : Nat) :
    (s.modBind p g).steady p = s.steady p := by
  rw [State.steady, State.part_modBind, (h _).1, (h _).2, State.steady]

/-- The position that failed is fenced and leaves its partition (R370). -/
def State.fenceOld (s : State) (p old : Nat) : State :=
  if s.boundTo old = some p then (s.put .CORE_BIND_FENCED old 1).put .CORE_BIND_BOUND old 0 else s

/-- The spare on position `n` becomes logical core `lc`, and GEN rises (R370). -/
def State.takeSpare (s : State) (p lc n : Nat) : State :=
  let s := (s.put .CORE_BIND_SPARE n 0).put .CORE_BIND_SLOT n lc
  s.put .PART_STATE_GEN p ((s.get .PART_STATE_GEN p + 1) % 2 ^ 32)

/-- What a remap shows: the new shape, the spare's set-point, the count of remaps and the event (R370). -/
def State.showRemap (s : State) (p lc n old : Nat) (v : Shape) : State :=
  let s := s.reshape p v
  let s := s.put .PWR_DOM_STAT_SETPOINT n (s.get .PWR_DOM_STAT_SETPOINT old)
  (s.inc .PART_RECOVER_REMAPS p 1).event 0xA001 n lc

/-- The partition waits for its slots to bind again, and its journal tells of the switch (R312, R370). -/
def State.rebindAfter (s : State) (p g : Nat) (digest : Bytes) : State :=
  let s := s.rebindSlots p (s.part p).bind.rebinds
  let s := if s.get .PART_STATE_STATE p = 1 then s
    else (s.put .PART_STATE_STATE p 4).modBind p fun b => { b with ending := 6 :: b.ending }
  s.journalSwitch p 0 0 2 g digest

/-- A remap stage by stage, each state told by the one before it. -/
theorem State.remapTo_stages (s : State) (p lc n : Nat) (v : Shape) : ∃ (t u : State) (g : Nat) (w : Shape) (digest : Bytes),
    t = (s.fenceOld p (v.positions.getD lc 0xFF)).takeSpare p lc n ∧ u = t.showRemap p lc n (v.positions.getD lc 0xFF) w ∧
    s.remapTo p lc n v = u.rebindAfter p g digest := by
  unfold State.remapTo
  extract_lets old fenced taken g positions reshaped pointed told
  exact ⟨taken.put .PART_STATE_GEN p g, told, g, { v with gen := g, spares := v.spares - 1, positions := positions }, _, rfl, rfl, rfl⟩

/-- The fields that show a position's binding, and GEN. -/
def placeFields : List Field :=
  [Field.CORE_BIND_BOUND, Field.CORE_BIND_PART, Field.CORE_BIND_SPARE, Field.CORE_BIND_FENCED, Field.CORE_BIND_SLOT, Field.PART_STATE_GEN]

/-- What leaves them out of its frame leaves them as they were. -/
theorem State.get_placeFields {s t : State} (h : Same (maskBut (placeFields.map Field.code)) s t) {f : Field} (hf : f ∈ placeFields)
    (i : Nat) : t.get f i = s.get f i := by
  have kept : ∀ f ∈ placeFields, f.code < 400 ∧ (maskBut (placeFields.map Field.code)).testBit f.code = false := by decide +kernel
  exact h.reg f i (kept f hf).1 (kept f hf).2

theorem State.showRemap_frame (s : State) (p lc n old : Nat) (v : Shape) :
    Same (maskBut (placeFields.map Field.code)) s (s.showRemap p lc n old v) :=
  Same.via State.event_frame (by decide +kernel) (State.inc_frame (by decide +kernel) (by decide +kernel)
    (State.put_frame (by decide +kernel) (Same.via State.reshape_frame (by decide +kernel) Same.refl)))

theorem State.rebindAfter_frame (s : State) (p g : Nat) (digest : Bytes) :
    Same (maskBut ((.PART_RECOVER_REMAPS :: placeFields).map Field.code)) s (s.rebindAfter p g digest) := by
  have rebound (l : List Nat) : Same (maskBut ((.PART_RECOVER_REMAPS :: placeFields).map Field.code)) s (s.rebindSlots p l) :=
    Same.via State.rebindSlots_frame (by decide +kernel) Same.refl
  exact Same.via State.journalSwitch_frame (by decide +kernel) (Same.ite (rebound _)
    (Same.via State.modBind_frame (by decide +kernel) (State.put_frame (by decide +kernel) (rebound _))))

/-- What a remap shows stands in the registers in which the spare was taken. -/
theorem State.get_remapTo {f : Field} (h : f ∈ placeFields) (s : State) (p lc n : Nat) (v : Shape) (i : Nat) :
    (s.remapTo p lc n v).get f i = ((s.fenceOld p (v.positions.getD lc 0xFF)).takeSpare p lc n).get f i := by
  obtain ⟨_, _, g, w, digest, rfl, rfl, e⟩ := s.remapTo_stages p lc n v
  have after (u : State) : Same (maskBut (placeFields.map Field.code)) u (u.rebindAfter p g digest) :=
    (u.rebindAfter_frame p g digest).mono (by decide +kernel)
  rw [e, State.get_placeFields (after _) h, State.get_placeFields (State.showRemap_frame _ p lc n _ w) h]

theorem State.fenceOld_frame (s : State) (p old : Nat) :
    Same (2 ^ Field.CORE_BIND_FENCED.code ||| 2 ^ Field.CORE_BIND_BOUND.code) s (s.fenceOld p old) :=
  Same.ite (State.put_frame (by decide +kernel) (State.put_frame (by decide +kernel) Same.refl)) Same.refl

theorem State.takeSpare_frame (s : State) (p lc n : Nat) :
    Same (2 ^ Field.CORE_BIND_SPARE.code ||| 2 ^ Field.CORE_BIND_SLOT.code ||| 2 ^ Field.PART_STATE_GEN.code) s (s.takeSpare p lc n) :=
  State.put_frame (by decide +kernel) (State.put_frame (by decide +kernel) (State.put_frame (by decide +kernel) Same.refl))

/-- The remap is counted (R370). -/
theorem State.get_remapTo_count (s : State) (p lc n : Nat) (v : Shape) : (s.remapTo p lc n v).get .PART_RECOVER_REMAPS p =
    satW Field.PART_RECOVER_REMAPS.width (s.get .PART_RECOVER_REMAPS p + 1) := by
  have taken (old : Nat) : ((s.fenceOld p old).takeSpare p lc n).get .PART_RECOVER_REMAPS p = s.get .PART_RECOVER_REMAPS p := by
    rw [(State.takeSpare_frame _ p lc n).reg _ p (by decide) (by decide), (State.fenceOld_frame s p old).reg _ p (by decide) (by decide)]
  obtain ⟨_, _, g, w, digest, rfl, rfl, e⟩ := s.remapTo_stages p lc n v
  rw [e, (State.rebindAfter_frame _ p g digest).reg _ p (by decide) (by decide +kernel), State.showRemap,
    State.get_event _ _ _ _ p (by decide) (by decide), State.get_inc, State.get_put_code _ (by decide),
    State.reshape_frame.reg _ p (by decide) (by decide), taken]

/-- What the registers show of a remap of logical core `lc` onto position `n` (R370). -/
theorem State.remapTo_shows (s : State) (p lc n : Nat) (v : Shape) :
    (s.remapTo p lc n v).get .CORE_BIND_SPARE n = 0 ∧
    (s.remapTo p lc n v).get .CORE_BIND_SLOT n = lc % 2 ^ Field.CORE_BIND_SLOT.width ∧
    (s.boundTo (v.positions.getD lc 0xFF) = some p → (s.remapTo p lc n v).get .CORE_BIND_FENCED (v.positions.getD lc 0xFF) = 1) ∧
    (s.remapTo p lc n v).get .PART_STATE_GEN p = (s.get .PART_STATE_GEN p + 1) % 2 ^ 32 := by
  have at_ {f : Field} (h : f ∈ placeFields) (i : Nat) := s.get_remapTo h p lc n v i
  rw [at_ (f := .CORE_BIND_SPARE) (by decide), at_ (f := .CORE_BIND_SLOT) (by decide), at_ (f := .CORE_BIND_FENCED) (by decide),
    at_ (f := .PART_STATE_GEN) (by decide)]
  generalize v.positions.getD lc 0xFF = old
  have gen (u : State) : (u.takeSpare p lc n).get .PART_STATE_GEN p = (u.get .PART_STATE_GEN p + 1) % 2 ^ 32 := by
    unfold State.takeSpare
    dsimp only
    rw [State.get_put, State.get_put_code _ (by decide), State.get_put_code _ (by decide)]
    exact Nat.mod_mod _ _
  refine ⟨?_, ?_, fun bound => ?_, ?_⟩
  · unfold State.takeSpare
    dsimp only
    rw [State.get_put_code _ (by decide), State.get_put_code _ (by decide), State.get_put]
    rfl
  · unfold State.takeSpare
    dsimp only
    rw [State.get_put_code _ (by decide), State.get_put]
  · rw [(State.takeSpare_frame _ p lc n).reg _ old (by decide) (by decide), State.fenceOld, if_pos bound, State.get_put_code _ (by decide),
      State.get_put]
    rfl
  · rw [gen, (State.fenceOld_frame s p old).reg _ p (by decide) (by decide)]

theorem State.steady_fenceOld (s : State) (p old : Nat) : (s.fenceOld p old).steady p = s.steady p :=
  State.steady_of_parts ((s.fenceOld_frame p old).parts (by decide)) p

theorem State.steady_reshape (s : State) (p : Nat) (v : Shape) : (s.reshape p v).steady p = s.steady p := by
  obtain ⟨w, -, e⟩ := s.reshape_stages p v
  rw [e, State.steady_of_parts (State.put_parts _ _ _ _)]
  refine State.steady_modBind ?_ s p
  exact fun _ => ⟨rfl, rfl⟩

theorem State.steady_showRemap (s : State) (p lc n old : Nat) (v : Shape) : (s.showRemap p lc n old v).steady p = s.steady p := by
  rw [State.showRemap, State.steady_of_parts (State.event_parts _ _ _ _), State.steady_of_parts (State.inc_parts _ _ _ _),
    State.steady_of_parts (State.put_parts _ _ _ _), State.steady_reshape]

theorem State.steady_rebindSlots (s : State) (p : Nat) (first : List Nat) : (s.rebindSlots p first).steady p = s.steady p := by
  refine (State.steady_modBind ?_ _ p).trans ?_
  · exact fun _ => ⟨rfl, rfl⟩
  · exact State.steady_of_parts (foldl_kept State.parts (fun t h => State.put_parts t _ _ _) _ s) p

theorem State.steady_journal (s : State) (p type queue seq : Nat) (body : Bytes) :
    (s.journal p type queue seq body).steady p = s.steady p := by
  have kept := congrArg (fun x : Part => (x.run, x.bind.remap, x.bind.waiter)) (s.journal_sansJournal p type queue seq body p)
  exact kept

theorem State.steady_rebindAfter (s : State) (p g : Nat) (digest : Bytes) : (s.rebindAfter p g digest).steady p = s.steady p := by
  have waits (t : State) : ((t.put .PART_STATE_STATE p 4).modBind p fun b => { b with ending := 6 :: b.ending }).steady p = t.steady p := by
    refine (State.steady_modBind ?_ _ p).trans (State.steady_of_parts rfl p)
    exact fun _ => ⟨rfl, rfl⟩
  rw [State.rebindAfter, State.journalSwitch, State.steady_journal, apply_ite (fun t : State => t.steady p), waits, ite_self,
    State.steady_rebindSlots]

theorem State.remapTo_steady (s : State) (p lc n : Nat) (v : Shape) : (s.remapTo p lc n v).steady p = s.steady p := by
  have taken (t : State) : (t.takeSpare p lc n).steady p = t.steady p := State.steady_of_parts rfl p
  obtain ⟨_, _, g, w, digest, rfl, rfl, e⟩ := s.remapTo_stages p lc n v
  rw [e, State.steady_rebindAfter, State.steady_showRemap, taken, State.steady_fenceOld]

/-- A remap leaves the task, the remaps that wait, and the command that waits for one. -/
theorem State.remapTo_keeps (s : State) (p lc n : Nat) (v : Shape) : ((s.remapTo p lc n v).part p).run = (s.part p).run ∧
    ((s.remapTo p lc n v).part p).bind.remap = (s.part p).bind.remap ∧
    ((s.remapTo p lc n v).part p).bind.waiter = (s.part p).bind.waiter := by
  have steady := s.remapTo_steady p lc n v
  rwa [State.steady, State.steady, Prod.mk.injEq, Prod.mk.injEq] at steady

/-! ### The remap at its edge -/

theorem execRemap_due {s : State} {p : Fin 16} {x : Nat × Nat × Bool} {r : List (Nat × Nat × Bool)}
    (waits : (s.part p.val).bind.remap = x :: r) (due : s.partDue p.val = true)
    (idle : x.2.2 = false ∨ ((s.part p.val).run.task = none ∧ (s.part p.val).run.next = none)) :
    execRemap p s = .next (s.remap p.val x r) := by
  simp only [execRemap, waits, due, idle, and_self, if_true]

/-- The state in which a remap that is due takes place: it no longer waits, and what it writes is marked as its fault was (R387). -/
def State.remapBegun (s : State) (p : Nat) (r : List (Nat × Nat × Bool)) : State :=
  (s.modBind p fun b => { b with remap := r }).mark (s.part p).bind.rehearsal

theorem State.remap_spare {s : State} {p n : Nat} {x : Nat × Nat × Bool} {r : List (Nat × Nat × Bool)} {v : Shape}
    (shape : (s.part p).bind.shape = some v) (listed : x.1 < v.lcores) (spare : s.pickSpare p x.2.1 = some n) :
    s.remap p x r = (((s.remapBegun p r).remapTo p x.1 n v).modBind p fun b => { b with rehearsal := false }).mark false := by
  have begun : ((s.remapBegun p r).bindOf p).shape = (s.bindOf p).shape := by
    rw [State.remapBegun, State.bindOf, State.mark_part, State.part_modBind, State.bindOf]
  have shape' : ((s.remapBegun p r).part p).bind.shape = some v := begun.trans shape
  have spare' : (s.remapBegun p r).pickSpare p x.2.1 = some n :=
    (State.pickSpare_congr begun (fun _ _ _ => rfl) _).trans spare
  unfold State.remapBegun at shape' spare' ⊢
  simp only [State.remap, shape', spare', listed, if_true]

end Sys2Proof.Machine
end

section
/-! CORE_FENCE and CORE_REMAP at their edge (R381, R382). -/

namespace Sys2Proof.Machine
open Sys2Proof.Safety

theorem State.atItsEdge_ready {s : State} {c : CmdId} {op : Nat} {d : Cmd} (h : s.atItsEdge c op = some d) : s.ready c op = some d := by
  unfold State.atItsEdge at h
  cases ready : s.ready c op with
  | none => simp [ready] at h
  | some e =>
    simp only [ready, Option.ite_none_right_eq_some, Option.some.injEq] at h
    rw [h.2]

/-! ### CORE_FENCE -/

theorem execCoreFence_at {s : State} {c : CmdId} {d : Cmd} (h : s.atItsEdge c 0x606 = some d) :
    execCoreFence c s = .next (s.coreFence d) := by
  simp only [execCoreFence, h]

theorem State.coreFence_release {d : Cmd} (release : d.fenceP.2 = true) (s : State) :
    s.coreFence d = (s.put .CORE_BIND_FENCED d.fenceP.1 0).done d s.now 0 0 := if_pos release

theorem State.coreFence_unbound {s : State} {d : Cmd} (fence : d.fenceP.2 = false) (bound : s.boundTo d.fenceP.1 = none) :
    s.coreFence d = (s.put .CORE_BIND_FENCED d.fenceP.1 1).done d s.now 0 0 := by
  simp only [State.coreFence, fence, bound, Bool.false_eq_true, if_false]

theorem State.coreFence_spare {s : State} {d : Cmd} {p : Nat} (fence : d.fenceP.2 = false) (bound : s.boundTo d.fenceP.1 = some p)
    (spare : s.get .CORE_BIND_SPARE d.fenceP.1 = 1) : s.coreFence d = (s.removeSpare p d.fenceP.1).done d s.now 0 0 := by
  simp only [State.coreFence, fence, bound, spare, Bool.false_eq_true, if_false, if_true]

theorem State.coreFence_core {s : State} {d : Cmd} {p : Nat} (fence : d.fenceP.2 = false) (bound : s.boundTo d.fenceP.1 = some p)
    (spare : s.get .CORE_BIND_SPARE d.fenceP.1 ≠ 1) : s.coreFence d = (s.setCmd { d with ran := true }).modBind p fun b =>
      { b with waiter := some (d.queue, d.seq), remap := b.remap ++ [(s.get .CORE_BIND_SLOT d.fenceP.1, 0xFF, true)] } := by
  simp only [State.coreFence, fence, bound, spare, Bool.false_eq_true, if_false]

theorem State.freeCore_part (s : State) (n q : Nat) : (s.freeCore n).part q = s.part q := rfl

theorem State.removeSpare_none {s : State} {p : Nat} (h : (s.part p).bind.shape = none) (n : Nat) :
    s.removeSpare p n = (s.freeCore n).put .CORE_BIND_FENCED n 1 := by
  simp only [State.removeSpare, State.put_part, State.freeCore_part, h]

theorem State.removeSpare_some {s : State} {p : Nat} {v : Shape} (h : (s.part p).bind.shape = some v) (n : Nat) :
    s.removeSpare p n = ((s.freeCore n).put .CORE_BIND_FENCED n 1).reshape p
      { v with spares := v.spares - 1, positions := v.positions.filter (· != n) } := by
  simp only [State.removeSpare, State.put_part, State.freeCore_part, h]

/-- The registers of a spare that has been removed: reshaping its partition leaves them. -/
theorem State.get_removeSpare {f : Field} (h : f ∈ placeFields) (s : State) (p n i : Nat) :
    (s.removeSpare p n).get f i = ((s.freeCore n).put .CORE_BIND_FENCED n 1).get f i := by
  cases shape : (s.part p).bind.shape with
  | none => rw [State.removeSpare_none shape]
  | some v => rw [State.removeSpare_some shape, State.get_placeFields (State.reshape_frame.mono (by decide +kernel)) h]

/-- A spare that is removed is fenced, and belongs to no partition any more (R381). -/
theorem State.removeSpare_shows (s : State) (p n : Nat) : (s.removeSpare p n).get .CORE_BIND_FENCED n = 1 ∧
    (s.removeSpare p n).get .CORE_BIND_BOUND n = 0 := by
  rw [State.get_removeSpare (by decide), State.get_removeSpare (by decide), State.get_put, State.get_put_code _ (by decide), State.freeCore,
    State.get_put_code _ (by decide), State.get_put_code _ (by decide), State.get_put_code _ (by decide), State.get_put]
  exact ⟨rfl, rfl⟩

theorem State.removeSpare_positions {s : State} {p : Nat} (h : (s.part p).bind.shape.isSome = true) (n : Nat) :
    ((s.removeSpare p n).part p).positions = (s.part p).positions.filter (· != n) := by
  obtain ⟨v, shape⟩ := Option.isSome_iff_exists.1 h
  obtain ⟨w, positions, e⟩ := State.reshape_stages ((s.freeCore n).put .CORE_BIND_FENCED n 1) p
    { v with spares := v.spares - 1, positions := v.positions.filter (· != n) }
  rw [State.removeSpare_some shape, e, State.put_part, State.part_modBind]
  simp only [Part.positions, shape, positions]

/-! ### CORE_REMAP -/

theorem execCoreRemap_at {s : State} {c : CmdId} {d : Cmd} (h : s.atItsEdge c 0x607 = some d) :
    execCoreRemap c s = .next (s.coreRemap d) := by
  simp only [execCoreRemap, h]

/-- The next task's end leaves the running one. -/
theorem State.dropNext_task (s : State) (p : Nat) (st : Cmd → Nat × Nat) (records : Bool) :
    ((s.dropNext p st records).part p).run.task = (s.part p).run.task := by
  have noted (t : State) (q : Option Nat) (x : Int) : ((t.noteSlack q x).part p).run.task = (t.part p).run.task := by
    cases q with
    | none => rfl
    | some q =>
      rw [State.noteSlack]
      by_cases e : p = q
      · subst e
        rw [State.part_modRun]
      · rw [State.part_modRun_other _ _ e]
  unfold State.dropNext
  dsimp only
  split
  · rfl
  · rw [State.showTask, State.put_part, State.part_modRun]
    refine foldl_kept (fun t : State => (t.part p).run.task) (fun t c => ?_) _ s
    split
    · exact noted _ _ _
    · rfl

/-- The partition's tasks have ended for a CORE_REMAP (R382). -/
def State.stopped (s : State) (p : Nat) : State :=
  (s.abortTask p none (fun _ => (0x4000, 0)) none 0x4000 true).dropNext p (fun _ => (0x4000, 0)) true

theorem State.bindOf_stopped (s : State) (p : Nat) : (s.stopped p).bindOf = s.bindOf :=
  (State.bindOf_dropNext _ _ _ _).trans (State.bindOf_abortTask _ _ _ _ _ _ _)

theorem State.get_stopped {f : Field} (h : f ∈ placeFields) (s : State) (p i : Nat) : (s.stopped p).get f i = s.get f i :=
  State.get_placeFields ((State.abortTask_frame.mono (by decide +kernel)).trans (State.dropNext_frame.mono (by decide +kernel))) h i

/-- After an abort the partition runs no task. -/
theorem State.abortTask_task (s : State) (p : Nat) (first : Option Cmd) (st : Cmd → Nat × Nat) (slack : Option Int) (ts : Nat)
    (records : Bool) : ((s.abortTask p first st slack ts records).part p).run.task = none := by
  unfold State.abortTask
  dsimp only
  split
  · assumption
  · exact State.endTask_task _ _ _ _

theorem State.stopped_task (s : State) (p : Nat) : ((s.stopped p).part p).run.task = none :=
  (State.dropNext_task _ _ _ _).trans (State.abortTask_task _ _ _ _ _ _ _)

/-- The command waits for its remap, and the slots that are to bind again are put in order (R370, R382). -/
def State.remapAwaited (s : State) (d : Cmd) (order : PartBind → List Nat) : State :=
  (s.setCmd { d with ran := true }).modBind d.remapP.1 fun b => { b with waiter := some (d.queue, d.seq), rebinds := order b }

theorem State.remapAwaited_get (s : State) (d : Cmd) (order : PartBind → List Nat) (f : Field) (i : Nat) :
    (s.remapAwaited d order).get f i = s.get f i := rfl

theorem State.remapAwaited_part (s : State) (d : Cmd) (order : PartBind → List Nat) :
    ((s.remapAwaited d order).part d.remapP.1).run = (s.part d.remapP.1).run ∧
    ((s.remapAwaited d order).part d.remapP.1).bind.waiter = some (d.queue, d.seq) := by
  rw [State.remapAwaited, State.part_modBind]
  exact ⟨rfl, rfl⟩

theorem State.coreRemap_spare {s : State} {d : Cmd} {n : Nat} {v : Shape} (shape : (s.part d.remapP.1).bind.shape = some v)
    (spare : s.pickSpare d.remapP.1 d.remapP.2.2 = some n) : ∃ order,
      s.coreRemap d = ((s.stopped d.remapP.1).remapAwaited d order).remapTo d.remapP.1 d.remapP.2.1 n v := by
  have shape' : ((s.stopped d.remapP.1).part d.remapP.1).bind.shape = some v :=
    (congrArg PartBind.shape (congrFun (s.bindOf_stopped _) _)).trans shape
  have places : ∀ f ∈ [Field.CORE_BIND_BOUND, Field.CORE_BIND_PART, Field.CORE_BIND_SPARE, Field.CORE_BIND_SLOT],
      f ∈ placeFields := by decide
  have spare' : (s.stopped d.remapP.1).pickSpare d.remapP.1 d.remapP.2.2 = some n :=
    (State.pickSpare_congr (shape'.trans shape.symm) (fun f hf i => s.get_stopped (places f hf) _ i) _).trans spare
  unfold State.stopped at shape' spare' ⊢
  unfold State.coreRemap
  simp only [shape', spare']
  exact ⟨_, rfl⟩

/-- What a CORE_REMAP with a spare to take leaves at its edge (R382). -/
theorem State.coreRemap_effect {s : State} {d : Cmd} {n : Nat} {v : Shape} (shape : (s.part d.remapP.1).bind.shape = some v)
    (spare : s.pickSpare d.remapP.1 d.remapP.2.2 = some n) : ((s.coreRemap d).part d.remapP.1).run.task = none ∧
      (s.coreRemap d).get .CORE_BIND_SPARE n = 0 ∧
      (s.coreRemap d).get .CORE_BIND_SLOT n = d.remapP.2.1 % 2 ^ Field.CORE_BIND_SLOT.width ∧
      (s.coreRemap d).get .PART_STATE_GEN d.remapP.1 = (s.get .PART_STATE_GEN d.remapP.1 + 1) % 2 ^ 32 ∧
      ((s.coreRemap d).part d.remapP.1).bind.waiter = some (d.queue, d.seq) := by
  obtain ⟨order, e⟩ := State.coreRemap_spare shape spare
  obtain ⟨run, waiter⟩ := (s.stopped d.remapP.1).remapAwaited_part d order
  obtain ⟨spared, slot, -, gen⟩ := ((s.stopped d.remapP.1).remapAwaited d order).remapTo_shows d.remapP.1 d.remapP.2.1 n v
  obtain ⟨run', -, waiter'⟩ := ((s.stopped d.remapP.1).remapAwaited d order).remapTo_keeps d.remapP.1 d.remapP.2.1 n v
  rw [State.remapAwaited_get, State.get_stopped (by decide)] at gen
  rw [e, run', waiter', run, waiter, State.stopped_task]
  exact ⟨rfl, spared, slot, gen, rfl⟩

end Sys2Proof.Machine
end

section
/-! What changes a partition's positions at an edge (R136, R318, R319, R370, R381, R382; log entries 41 and 54). -/

namespace Sys2Proof.Machine
open Sys2Proof.Safety

/-- Settles O47: each command is one of `resize`, `cancelResize`, `remapTo`, `endClear` and the cases of `coreFence`, whose effects are
lemmas of their own. -/
theorem positionsChangeAtAnEdge : Obligations.PositionsChangeAtAnEdge := by
  intro s
  refine ⟨fun p v0 armed due drained task next => ?_, fun p x r v n waits due idle shape listed spare => ?_,
    fun n e clearing past frame => ?_, fun c d ready => ?_, fun c d v n ready => ?_⟩
  · have e := execResizeEffect_due armed due drained task next
    refine ⟨fun good => ⟨_, e, Same.changes (execResizeEffect_frame e) (by decide +kernel), ?_⟩,
      fun x bad => ⟨_, e, Same.changes (execResizeEffect_frame e) (by decide +kernel), ?_⟩⟩
    · rw [State.resizeEffect_good good]
      exact s.resize_effect p.val _
    · rw [State.resizeEffect_bad bad]
      obtain ⟨state, fallen, unarmed, shape, told⟩ :=
        ((s.put .PART_STATE_LAST_CHECK p.val x.1).put .PART_STATE_STATE p.val 2).cancelResize_effect p.val
      exact ⟨state.trans (State.get_put _ _ _ _), fallen, unarmed, shape, told⟩
  · have e := execRemap_due waits due idle
    refine ⟨_, e, Same.changes (execRemap_frame e) (by decide +kernel), ?_⟩
    obtain ⟨spared, slot, fenced, gen⟩ := (s.remapBegun p.val r).remapTo_shows p.val x.1 n v
    have counted := (s.remapBegun p.val r).get_remapTo_count p.val x.1 n v
    obtain ⟨-, left, -⟩ := (s.remapBegun p.val r).remapTo_keeps p.val x.1 n v
    rw [State.remap_spare shape listed spare]
    simp only [State.mark_get, State.modBind_get, State.mark_part, State.part_modBind]
    refine ⟨left.trans ?_, spared, slot, fenced, gen, counted⟩
    rw [State.remapBegun, State.mark_part, State.part_modBind]
  · obtain ⟨t, e, effect⟩ := clearDone_effect clearing past frame
    exact ⟨t, e, Same.changes (execTmemClearDone_frame e) (by decide +kernel), effect⟩
  · have e := execCoreFence_at ready
    obtain ⟨here, due⟩ := State.ready_running (State.atItsEdge_ready ready)
    refine ⟨_, e, Same.changes (execCoreFence_frame e) (by decide +kernel), fun release => ?_, fun fence bound => ?_,
      fun p fence bound => ⟨fun spare => ?_, fun spare => ?_⟩⟩
    · rw [State.coreFence_release release]
      refine ⟨retiresAt_done here due rfl rfl _ 0 0, ?_⟩
      rw [State.done_get, State.get_put]
      rfl
    · rw [State.coreFence_unbound fence bound]
      refine ⟨retiresAt_done here due rfl rfl _ 0 0, ?_⟩
      rw [State.done_get, State.get_put]
      rfl
    · obtain ⟨fenced, free⟩ := s.removeSpare_shows p d.fenceP.1
      rw [State.coreFence_spare fence bound spare]
      exact ⟨retiresAt_done here due (State.removeSpare_frame.cmds (by decide)) (State.removeSpare_frame.rehearsal (by decide)) _ 0 0,
        fenced, free, fun shape => State.removeSpare_positions shape _⟩
    · rw [State.coreFence_core fence bound spare, State.part_modBind]
      exact ⟨rfl, rfl⟩
  · intro p shape spare
    have e := execCoreRemap_at ready
    refine ⟨_, e, Same.changes (execCoreRemap_frame e) (by decide +kernel), ?_⟩
    exact State.coreRemap_effect shape spare

end Sys2Proof.Machine
end

section
/-! BIND and the takeover of the firmware (R148, R378). -/

namespace Sys2Proof.Machine
open Sys2Proof.Safety

/-- While a takeover lasts, nothing is bound: the binding starts again after it (R378). -/
theorem execBind_takeover {s : State} (takeover : s.gondola.takeover = true) (p : Fin 16) (h : Fin 32) : execBind p h s = .next s :=
  congrArg Host.Outcome.next (if_pos takeover)

/-- Refutes O49: the statement does not ask that no takeover lasts, and in the reset state, with a takeover and a loaded program that
awaits its binding, BIND leaves the slot waiting. -/
theorem not_bindMakesSlotsReadyOrUnfit : ¬ Obligations.BindMakesSlotsReadyOrUnfit := by
  intro holds
  let s : State := { State.reset.modPart 0 fun x => { x with slots := [(31, { Slot.init with pending := true })] } with
    gondola := { State.reset.gondola with takeover := true } }
  have waits : ((s.part 0).slot 31).pending = true := by decide +kernel
  obtain ⟨t, e, -, ⟨-, bound, -⟩, -⟩ := (holds s 0 31).1 waits
  have same : s = t := Host.Outcome.next.inj ((execBind_takeover (s := s) rfl 0 31).symm.trans e)
  subst same
  exact Bool.false_ne_true (bound.symm.trans waits)

end Sys2Proof.Machine
end

section
/-! The service of a stack: DRAIN, DRAINED, SCRUB, SCRUB_DONE and RETURN (R384; log entry 49). -/

namespace Sys2Proof.Machine
open Sys2Proof.Safety

/-! ### A stack's state and its bytes -/

theorem State.stackState_state (s : State) (m : Nat) {v : Nat} (h : v < 8) : (s.stackState m v).get .HBM_STAT_STATE m = v := by
  rw [State.get_stackState, State.get_put]
  exact Nat.mod_eq_of_lt h

@[simp] theorem State.stackState_carrier (s : State) (m v : Nat) : (s.stackState m v).carrier = s.carrier :=
  State.stackState_frame.carrier (by decide)

/-- The fields that report the scrub of a stack. -/
def scrubFields : List Field := [Field.HBM_SVC_SCRUB_BUSY, Field.HBM_SVC_SCRUB_UNCORR]

theorem State.get_stackState_scrub {f : Field} (h : f ∈ scrubFields) (s : State) (m v k : Nat) :
    (s.stackState m v).get f k = s.get f k := by
  have apart : ∀ f ∈ scrubFields, f.code < 400 ∧ Nat.testBit
      0x2000000000000000000000000000000000001c000000000000000000000000000000000000000000000000000002000000000000000 f.code = false := by
    decide
  obtain ⟨listed, kept⟩ := apart f h
  exact State.stackState_frame.reg f k listed kept

/-- The stack takes a state in which it is not drained. -/
def State.undrained (s : State) (m v : Nat) : State := (s.stackState m v).put .HBM_SVC_DRAINED m 0

theorem State.undrained_reports (s : State) (m : Nat) {v : Nat} (h : v < 8) : (s.undrained m v).get .HBM_STAT_STATE m = v ∧
    (s.undrained m v).get .HBM_SVC_DRAINED m = 0 ∧ (s.undrained m v).carrier = s.carrier ∧ (s.undrained m v).now = s.now := by
  refine ⟨?_, State.get_put _ _ _ _, s.stackState_carrier m v, congrArg Clock.now (State.stackState_frame.clock (by decide))⟩
  rw [State.undrained, State.get_put_field _ (by decide), State.stackState_state _ _ h]

/-- Carrier memory that is cleared, byte by byte (R384, R417). -/
theorem State.byte_zeroCarrier (s : State) (a n j : Nat) :
    Mem.byte (s.zeroCarrier a n).carrier.mem j = if a ≤ j ∧ j < a + n then 0 else Mem.byte s.carrier.mem j :=
  Mem.byte_clear s.carrier.mem a n j

/-! ### The controls -/

theorem execDrain_ignored {s : State} {m : Fin 48} (booted : s.booted = true)
    (bad : s.get .HBM_STAT_STATE m.val ≠ 1 ∨ s.stackCoded m.val = true ∨ s.stackPointed m.val = true) :
    execDrain m s = .next (s.ignored (hbmCtlOffset m.val)) := by
  rw [execDrain, State.whenBooted_booted booted, if_neg]
  rintro ⟨state, coded, pointed⟩
  simp [state, coded, pointed] at bad

theorem execDrain_effect {s : State} {m : Fin 48} (booted : s.booted = true) (state : s.get .HBM_STAT_STATE m.val = 1)
    (coded : s.stackCoded m.val = false) (pointed : s.stackPointed m.val = false) : ∃ t, execDrain m s = .next t ∧
      t.get .HBM_STAT_STATE m.val = 2 ∧ t.get .HBM_SVC_DRAINED m.val = 0 ∧
      t.carrier.draining = s.carrier.draining ++ [(m.val, s.now)] ∧ t.carrier.mem = s.carrier.mem := by
  obtain ⟨shown, drained, carrier, now⟩ := s.undrained_reports m.val (v := 2) (by decide)
  have memory := congrArg Carrier.mem carrier
  rw [execDrain, State.whenBooted_booted booted, if_pos ⟨state, coded, pointed⟩]
  refine ⟨_, rfl, shown, drained, ?_, memory⟩
  exact congrArg₂ (fun c x => c.draining ++ [(m.val, x)]) carrier now

theorem execScrub_ignored {s : State} {m : Fin 48} (booted : s.booted = true)
    (bad : s.get .HBM_STAT_STATE m.val ≠ 2 ∨ s.get .HBM_SVC_DRAINED m.val ≠ 1) :
    execScrub m s = .next (s.ignored (hbmCtlOffset m.val)) := by
  rw [execScrub, State.whenBooted_booted booted, if_neg]
  exact fun good => bad.elim (absurd good.1) (absurd good.2)

theorem execScrub_effect {s : State} {m : Fin 48} (booted : s.booted = true) (state : s.get .HBM_STAT_STATE m.val = 2)
    (drained : s.get .HBM_SVC_DRAINED m.val = 1) : ∃ t, execScrub m s = .next t ∧
      t.get .HBM_STAT_STATE m.val = 3 ∧ t.get .HBM_SVC_SCRUB_BUSY m.val = 1 := by
  rw [execScrub, State.whenBooted_booted booted, if_pos ⟨state, drained⟩]
  refine ⟨_, rfl, ?_, State.get_put _ _ _ _⟩
  rw [State.get_put_field _ (by decide), State.stackState_state _ _ (by decide)]

theorem execReturnStack_ignored {s : State} {m : Fin 48} (booted : s.booted = true) (bad : s.get .HBM_STAT_STATE m.val ≠ 2) :
    execReturnStack m s = .next (s.ignored (hbmCtlOffset m.val)) := by
  rw [execReturnStack, State.whenBooted_booted booted, if_neg bad]

theorem execReturnStack_effect {s : State} {m : Fin 48} (booted : s.booted = true) (state : s.get .HBM_STAT_STATE m.val = 2) :
    ∃ t, execReturnStack m s = .next t ∧
      t.get .HBM_STAT_STATE m.val = 1 ∧ t.get .HBM_SVC_DRAINED m.val = 0 ∧ t.carrier.mem = s.carrier.mem := by
  obtain ⟨shown, drained, carrier, -⟩ := s.undrained_reports m.val (v := 1) (by decide)
  have memory := congrArg Carrier.mem carrier
  rw [execReturnStack, State.whenBooted_booted booted, if_pos state]
  exact ⟨_, rfl, shown, drained, memory⟩

/-! ### What the stack reports -/

theorem execDrained_effect {s : State} {m : Fin 48} {d : Nat × Nat}
    (asked : (s.carrier.draining.find? fun d => d.1 == m.val) = some d) (edge : s.atEdge = true) (past : d.2 < s.now)
    (idle : (List.range 16).all (fun p => !s.olderRuns p d.2) = true) : ∃ t, execDrained m s = .next t ∧
      t.get .HBM_SVC_DRAINED m.val = 1 ∧ t.carrier.mem = s.carrier.mem := by
  rw [execDrained, asked]
  dsimp only
  rw [if_pos ⟨edge, past, idle⟩]
  exact ⟨_, rfl, State.get_put _ _ _ _, rfl⟩

/-- A finished scrub: the stack is in service again or failed, and reads as zeros throughout (R384). -/
theorem State.scrubDone_effect (s : State) (m u : Nat) :
    (s.scrubDone m u).get .HBM_STAT_STATE m = (if u = 0 then 2 else 4) ∧ (s.scrubDone m u).get .HBM_SVC_SCRUB_BUSY m = 0 ∧
    (s.scrubDone m u).get .HBM_SVC_SCRUB_UNCORR m = u % 2 ^ Field.HBM_SVC_SCRUB_UNCORR.width ∧
    ∀ a, Mem.byte (s.scrubDone m u).carrier.mem a =
      if m * 2 ^ 36 ≤ a ∧ a < m * 2 ^ 36 + 2 ^ 36 then 0 else Mem.byte s.carrier.mem a := by
  rw [State.scrubDone]
  refine ⟨State.stackState_state _ _ ?_, ?_, ?_, fun a => ?_⟩
  · split <;> decide
  · rw [State.get_stackState_scrub (by decide), State.get_put_field _ (by decide), State.get_put]
    rfl
  · rw [State.get_stackState_scrub (by decide), State.get_put]
  · rw [State.stackState_carrier, State.put_carrier, State.put_carrier]
    exact s.byte_zeroCarrier _ _ a

end Sys2Proof.Machine
end

section
/-! The clearing of pages (R203, R417). -/

namespace Sys2Proof.Machine
open Sys2Proof.Safety

theorem execPageClear_effect {s : State} {m : Fin 48} {i : Nat} (idle : Tab.get none s.carrier.active m.val = none)
    (bursts : s.heldBursts < 125) (lowest : ((List.range 48).find? fun i =>
      s.carrier.clearing.contains (m.val * 48 + i) && s.pageFree (m.val * 48 + i)) = some i) : ∃ t, execPageClear m s = .next t ∧
      Tab.get none t.carrier.active m.val = some i ∧ t.get .HBM_CLR_BUSY m.val = 1 ∧ t.get .HBM_CLR_PAGE m.val = i ∧
      (m.val * 48 + i) ∉ t.carrier.clearing ∧ t.carrier.mem = s.carrier.mem := by
  have page : i < 48 := List.mem_range.1 (List.mem_of_find?_eq_some lowest)
  rw [execPageClear, if_pos ⟨by rw [idle]; rfl, bursts⟩, State.pageClear, lowest]
  refine ⟨_, rfl, Tab.get_put_same _ _ _ _, ?_, ?_, fun waits => ?_, rfl⟩
  · exact (State.get_put_field _ (by decide) _ _ _).trans (State.get_put _ _ _ _)
  · refine (State.get_put _ _ _ _).trans (Nat.mod_eq_of_lt (Nat.lt_trans page ?_))
    decide
  · simpa using (List.mem_filter.1 waits).2

theorem execPageClearDone_effect {s : State} {m : Fin 48} {i : Nat} (active : Tab.get none s.carrier.active m.val = some i) :
    ∃ t, execPageClearDone m s = .next t ∧
      Tab.get none t.carrier.active m.val = none ∧ t.get .HBM_CLR_BUSY m.val = 0 ∧
      ∀ a, Mem.byte t.carrier.mem a =
        if pageAddr (m.val * 48 + i) ≤ a ∧ a < pageAddr (m.val * 48 + i) + 2 ^ 30 then 0 else Mem.byte s.carrier.mem a := by
  rw [execPageClearDone, active]
  exact ⟨_, rfl, Tab.get_put_same _ _ _ _, State.get_put _ _ _ _, s.byte_zeroCarrier _ _⟩

end Sys2Proof.Machine
end

section
/-! Words with flipped bits on a Bridle link (R143, R155; log entry 78). -/

namespace Sys2Proof.Machine
open Sys2Proof.Safety

/-! ### The fault that an uncorrectable word is to its partition -/

/-- The command that a partition's fault is charged to is one of the partition, which runs a task. -/
theorem State.charge_part {s : State} {p x : Nat} {c : Cmd} (h : s.charge p x = some c) :
    c.part = some p ∧ (s.part p).run.task.isSome = true := by
  unfold State.charge at h
  split at h
  · cases h
  · next t task =>
    refine ⟨?_, by rw [task]; rfl⟩
    have listed : c ∈ sortCmds (s.cmds.filter fun c => c.part == some p && c.batch == t.batch && !c.over x) := by
      dsimp only at h
      split at h
      · next d found =>
        cases h
        exact List.mem_of_find?_eq_some found
      · exact List.mem_of_head? h
    have test := (List.mem_filter.1 (mem_sortCmds.1 listed)).2
    simp only [Bool.and_eq_true, beq_iff_eq] at test
    exact test.1.1

/-- A charged fault ends the partition's task (R295, R449). -/
theorem State.chargeFault_task {s : State} {p : Nat} (h : (s.charge p s.now).isSome = true) (status detail : Nat) :
    ((s.chargeFault p status detail).part p).run.task = none := by
  obtain ⟨c, charged⟩ := Option.isSome_iff_exists.1 h
  unfold State.chargeFault
  rw [charged]
  dsimp only
  rw [State.abort, (State.charge_part charged).1]
  exact State.abortTask_task _ _ _ _ _ _ _

theorem State.chargeAt_task {s : State} {p : Nat} (frame : s.now < s.nextEdge) (h : (s.charge p s.now).isSome = true)
    (status detail : Nat) : ((s.chargeAt p s.now status detail).part p).run.task = none := by
  have here : s.advance s.now = s := by
    rw [State.advance, if_pos ⟨Nat.le_refl _, frame⟩]
    rfl
  rw [State.chargeAt, if_pos frame, here]
  exact State.chargeFault_task h status detail

/-! ### The word -/

/-- The state once the uncorrectable word is counted and its lane is to be retired (R155). -/
def State.wordLost (s : State) (n lane : Nat) : State :=
  (s.inc .CORE_BRIDLE_LINK_UNCORRECTABLE n 1).setLink n
    { s.link n with retire := if (s.link n).retire.contains lane then (s.link n).retire else (s.link n).retire ++ [lane] }

/-- An uncorrectable word is told to the partition whose transfer it belongs to; on a reserved lane it is sent again (log entry 78). -/
def State.wordTold (s : State) (x : Nat) : Option (Nat × Nat) → State
  | some y => if (s.part y.1).run.task.isSome then s.chargeAt y.1 x 0x4000 0 else s.event 0x4000 y.1 0
  | none => s

/-- Counting the word moves no lane to another partition. -/
theorem State.wordLost_laneOwner (s : State) (n lane : Nat) : (s.wordLost n lane).laneOwner = s.laneOwner := by
  have base (p : Nat) : (s.wordLost n lane).get .PART_BRIDLE_BASE p = s.get .PART_BRIDLE_BASE p := State.get_inc_code s (by decide) _ _ _
  have range : (s.wordLost n lane).laneRange = s.laneRange := by
    funext p cls
    unfold State.laneRange
    rw [base]
    rfl
  funext k
  rw [State.laneOwner, range, State.laneOwner]

theorem State.linkWord_lost {flips : List Nat} (h : ∃ f ∈ flips, 2 ≤ f) (s : State) (n lane x : Nat) :
    s.linkWord n lane flips x = (s.wordLost n lane).wordTold x (s.laneOwner lane) := by
  have two : (flips.any fun f => decide (2 ≤ f)) = true := by simpa using h
  rw [State.linkWord, if_pos two, ← s.wordLost_laneOwner n lane]
  rfl

theorem State.linkWord_corrected {flips : List Nat} (h : ∀ f ∈ flips, f < 2) (s : State) (n lane x : Nat) :
    ∃ l, s.linkWord n lane flips x = if 1 ∈ flips then (s.inc .CORE_BRIDLE_LINK_CORRECTED n 1).setLink n l else s := by
  have two : ¬ (flips.any fun f => decide (2 ≤ f)) = true := by simpa using h
  have one : (flips.any fun f => f == 1) = true ↔ 1 ∈ flips := by simp
  rw [State.linkWord, if_neg two]
  simp only [one]
  exact ⟨_, rfl⟩

theorem State.wordLost_mem_retire (s : State) (n lane : Nat) : lane ∈ ((s.wordLost n lane).link n).retire := by
  rw [State.wordLost, State.link_setLink]
  dsimp only
  split
  · next h => exact List.contains_iff_mem.1 h
  · exact List.mem_append_right _ List.mem_cons_self

/-- Telling the partition changes neither the links nor what they have counted. -/
theorem State.wordTold_links (s : State) (x : Nat) (y : Option (Nat × Nat)) : (s.wordTold x y).links = s.links ∧
    ∀ n, (s.wordTold x y).get .CORE_BRIDLE_LINK_UNCORRECTABLE n = s.get .CORE_BRIDLE_LINK_UNCORRECTABLE n := by
  cases y with
  | none => exact ⟨rfl, fun _ => rfl⟩
  | some y =>
    rw [State.wordTold]
    split
    · exact ⟨State.chargeAt_frame.links (by decide), fun n => State.chargeAt_frame.reg _ n (by decide) (by decide)⟩
    · exact ⟨State.event_links _ _ _ _, fun n => State.get_event _ _ _ _ n (by decide) (by decide)⟩

/-- What an uncorrectable word does (R143, R155; log entry 78). -/
theorem State.linkWord_lost_effect {flips : List Nat} (h : ∃ f ∈ flips, 2 ≤ f) (s : State) (n lane : Nat) :
    (s.linkWord n lane flips s.now).get .CORE_BRIDLE_LINK_UNCORRECTABLE n =
      satW Field.CORE_BRIDLE_LINK_UNCORRECTABLE.width (s.get .CORE_BRIDLE_LINK_UNCORRECTABLE n + 1) ∧
    lane ∈ ((s.linkWord n lane flips s.now).link n).retire ∧
    (s.laneOwner lane = none →
      (s.linkWord n lane flips s.now).cmds = s.cmds ∧ (s.linkWord n lane flips s.now).parts = s.parts) ∧
    ∀ y, s.laneOwner lane = some y → s.now < s.nextEdge → (s.charge y.1 s.now).isSome = true →
      ((s.linkWord n lane flips s.now).part y.1).run.task = none := by
  rw [State.linkWord_lost h]
  obtain ⟨links, count⟩ := (s.wordLost n lane).wordTold_links s.now (s.laneOwner lane)
  refine ⟨?_, ?_, fun owner => ?_, fun y owner frame charged => ?_⟩
  · exact (count n).trans (State.get_inc _ _ _ _)
  · rw [State.link, links]
    exact s.wordLost_mem_retire n lane
  · rw [owner]
    exact ⟨rfl, rfl⟩
  · obtain ⟨c, hc⟩ := Option.isSome_iff_exists.1 charged
    have runs : ((s.wordLost n lane).part y.1).run.task.isSome = true := (State.charge_part hc).2
    rw [owner, State.wordTold, if_pos runs]
    exact State.chargeAt_task (s := s.wordLost n lane) frame charged 0x4000 0

/-- What a word does whose quarters all can be corrected (R155). -/
theorem State.linkWord_corrected_effect {flips : List Nat} (h : ∀ f ∈ flips, f < 2) (s : State) (n lane x : Nat) :
    (s.linkWord n lane flips x).cmds = s.cmds ∧ (s.linkWord n lane flips x).parts = s.parts ∧
    (s.linkWord n lane flips x).get .CORE_BRIDLE_LINK_CORRECTED n = (if 1 ∈ flips then
      satW Field.CORE_BRIDLE_LINK_CORRECTED.width (s.get .CORE_BRIDLE_LINK_CORRECTED n + 1)
      else s.get .CORE_BRIDLE_LINK_CORRECTED n) := by
  obtain ⟨l, e⟩ := State.linkWord_corrected h s n lane x
  rw [e]
  split
  · exact ⟨rfl, rfl, State.get_inc _ _ _ _⟩
  · exact ⟨rfl, rfl, rfl⟩

end Sys2Proof.Machine
end

section
/-! Stacks are serviced in their order, pages are cleared, and links count their words (R143, R155, R203, R384, R417; log entries 49
and 78). -/

namespace Sys2Proof.Machine
open Sys2Proof.Safety

/-- Settles O53: each command's effect is a lemma of its own; the frames bound what else may change. -/
theorem stacksAreServicedInOrder : Obligations.StacksAreServicedInOrder := by
  intro s m
  refine ⟨fun booted => ⟨fun state coded pointed => ?_, execDrain_ignored booted, fun state drained => ?_, execScrub_ignored booted,
    fun state => ?_, execReturnStack_ignored booted⟩, fun d asked edge past idle => ?_, fun u state => ?_,
    fun i idle bursts lowest => ?_, fun i active => ?_, fun n lane flips up => ?_⟩
  · obtain ⟨t, e, effect⟩ := execDrain_effect booted state coded pointed
    exact ⟨t, e, Same.changes (execDrain_frame e) (by decide +kernel), effect⟩
  · obtain ⟨t, e, effect⟩ := execScrub_effect booted state drained
    exact ⟨t, e, Same.changes (execScrub_frame e) (by decide +kernel), effect⟩
  · obtain ⟨t, e, effect⟩ := execReturnStack_effect booted state
    exact ⟨t, e, Same.changes (execReturnStack_frame e) (by decide +kernel), effect⟩
  · obtain ⟨t, e, effect⟩ := execDrained_effect asked edge past idle
    exact ⟨t, e, Same.changes (execDrained_frame e) (by decide +kernel), effect⟩
  · have e : execScrubDone m u s = .next (s.scrubDone m.val u) := by rw [execScrubDone, if_pos state]
    exact ⟨_, e, Same.changes (execScrubDone_frame e) (by decide +kernel), s.scrubDone_effect m.val u⟩
  · obtain ⟨t, e, effect⟩ := execPageClear_effect idle bursts lowest
    exact ⟨t, e, Same.changes (execPageClear_frame e) (by decide +kernel), effect⟩
  · obtain ⟨t, e, effect⟩ := execPageClearDone_effect active
    exact ⟨t, e, Same.changes (execPageClearDone_frame e) (by decide +kernel), effect⟩
  · have e : execBridleUncorrectable n lane flips s = .next (s.linkWord n.val lane.val flips s.now) := by
      rw [execBridleUncorrectable, if_pos up]
    exact ⟨_, e, Same.changes (execBridleUncorrectable_frame e) (by decide +kernel),
      fun lost => State.linkWord_lost_effect lost s n.val lane.val,
      fun corrected => State.linkWord_corrected_effect corrected s n.val lane.val s.now⟩

end Sys2Proof.Machine
end

section
/-! Streams: a task's bound plan and what leaves it alone; the stream of a command and the command itself (R181, R182, R192). -/

namespace Sys2Proof.Machine
open Sys2Proof.Safety

/-! ### The bound plan -/

/-- Partition `p` is bound alike and runs the same task from the same program slots: every transfer keeps its rounds and cycles. -/
structure SamePlan (p : Nat) (s t : State) : Prop where
  bind : (t.part p).bind = (s.part p).bind
  task : (t.part p).run.task = (s.part p).run.task
  slots : (t.part p).slots = (s.part p).slots

namespace SamePlan

variable {p : Nat} {s t : State}

theorem trans {u : State} (h : SamePlan p s t) (k : SamePlan p t u) : SamePlan p s u :=
  ⟨k.bind.trans h.bind, k.task.trans h.task, k.slots.trans h.slots⟩

theorem of_part (h : t.part p = s.part p) : SamePlan p s t := ⟨by rw [h], by rw [h], by rw [h]⟩

theorem of_sansJournal (h : (t.part p).sansJournal = (s.part p).sansJournal) : SamePlan p s t :=
  ⟨congrArg (·.bind) h, congrArg (·.run.task) h, congrArg (·.slots) h⟩

theorem taskSlotOf (h : SamePlan p s t) : (t.part p).taskSlotOf = (s.part p).taskSlotOf := by
  simp only [Part.taskSlotOf, Part.taskSlot, Part.slot, h.task, h.slots]

theorem entry (h : SamePlan p s t) : (t.part p).entry = (s.part p).entry := by
  funext i
  simp only [Part.entry, h.taskSlotOf]

theorem boundCycle (h : SamePlan p s t) : t.boundCycle p = s.boundCycle p := by
  funext x
  simp only [State.boundCycle, State.anchorCycle, h.task]

theorem roundCycle (h : SamePlan p s t) : t.roundCycle p = s.roundCycle p := by
  funext x
  simp only [State.roundCycle, State.anchorCycle, h.task]

theorem farHops (h : SamePlan p s t) : t.farHops p = s.farHops p := by
  funext e
  simp only [State.farHops, Part.cores, h.bind]

theorem pieces (h : SamePlan p s t) (d : Cmd) : t.pieces p d = s.pieces p d := by
  funext g
  simp only [State.pieces, h.entry, h.boundCycle]

theorem enterRounds (h : SamePlan p s t) : t.enterRounds p = s.enterRounds p := by
  funext g
  simp only [State.enterRounds, h.entry, h.roundCycle, h.farHops]

theorem placeEnd (h : SamePlan p s t) (d : Cmd) : t.placeEnd p d = s.placeEnd p d := by
  funext g
  simp only [State.placeEnd, State.farCycle, h.entry, h.boundCycle, h.farHops, h.pieces]

theorem lastPlaced (h : SamePlan p s t) (d : Cmd) (st : Stream) : Safety.lastPlaced t p d st = Safety.lastPlaced s p d st := by
  simp only [Safety.lastPlaced, h.placeEnd]

theorem lastRow (h : SamePlan p s t) : t.lastRow p = s.lastRow p := by
  funext i n
  simp only [State.lastRow, State.rowEnd, State.deliveries, State.farCycle, h.entry, h.boundCycle, h.farHops]

theorem brought (h : SamePlan p s t) (g : Shard) : Brought t p g ↔ Brought s p g := by
  rw [Brought, Brought, h.entry]

theorem ahead (h : SamePlan p s t) (now : t.now = s.now) {g : Shard} (a : Ahead s p g) : Ahead t p g := by
  rwa [Ahead, h.entry, h.roundCycle, h.boundCycle, now]

/-- Whether a shard's headers are as they should be is a matter of the shard and its plan entry (R176, R206). -/
theorem headFault (h : SamePlan p s t) (d : Cmd) (g : Shard) :
    (t.headFault d p g).isNone = (s.headFault d p g).isNone := by
  rw [State.headFault, State.headFault, h.entry]
  cases (s.part p).entry g.entry <;> dsimp only <;> split_ifs <;> rfl

theorem inPlace (h : SamePlan p s t) {d : Cmd} {st : Stream} (upto : s.uptoOf d ≤ t.uptoOf d) (i : InPlace s p d st) :
    InPlace t p d st := by
  intro g mem
  obtain ⟨delivered, brought, headed, placed, entered, written⟩ := i g mem
  refine ⟨delivered, (h.brought g).2 brought, (h.headFault d g).trans headed, placed, fun op => ?_, fun op w hw => ?_⟩
  · exact ⟨fun w hw => ((entered op).1 w (h.enterRounds ▸ hw)).trans_le upto, (entered op).2⟩
  · exact (written op w (h.pieces d ▸ hw)).trans_le upto

end SamePlan

/-- The commands, the time, the mark of an injected fault and the plan of partition `p` are as they were. -/
structure PlanKept (p : Nat) (s t : State) : Prop where
  cmds : t.cmds = s.cmds
  clock : t.clock = s.clock
  rehearsal : t.rehearsal = s.rehearsal
  plan : SamePlan p s t

namespace PlanKept

variable {p : Nat} {s t : State}

theorem refl : PlanKept p s s := ⟨rfl, rfl, rfl, rfl, rfl, rfl⟩

theorem trans {u : State} (h : PlanKept p s t) (k : PlanKept p t u) : PlanKept p s u :=
  ⟨k.cmds.trans h.cmds, k.clock.trans h.clock, k.rehearsal.trans h.rehearsal, h.plan.trans k.plan⟩

theorem now (h : PlanKept p s t) : t.now = s.now := congrArg Clock.now h.clock

theorem findCmd (h : PlanKept p s t) (q n : Nat) : t.findCmd q n = s.findCmd q n := State.findCmd_of_cmds h.cmds q n

theorem alive (h : PlanKept p s t) (d : Cmd) : t.alive d = s.alive d := by rw [State.alive, State.alive, h.findCmd]

theorem uptoOf (h : PlanKept p s t) (d : Cmd) : t.uptoOf d = s.uptoOf d := by rw [State.uptoOf, State.uptoOf, h.findCmd]

/-- An operation whose frame holds neither commands, time, partitions nor the mark. -/
theorem of_frame {m : Nat} (h : Same m s t)
    (k : m.testBit 409 = false ∧ m.testBit 401 = false ∧ m.testBit 429 = false ∧ m.testBit 413 = false) : PlanKept p s t := by
  obtain ⟨cmds, clock, rehearsal, parts⟩ := k
  exact ⟨h.cmds cmds, h.clock clock, h.rehearsal rehearsal, SamePlan.of_part (State.part_of_parts (h.parts parts) p)⟩

theorem modStrm (g : PartStream → PartStream) : PlanKept p s (s.modStrm p g) :=
  ⟨rfl, rfl, rfl, by rw [State.part_modStrm], by rw [State.part_modStrm], by rw [State.part_modStrm]⟩

theorem setStream (st : Stream) : PlanKept p s (s.setStream p st) := modStrm _

theorem inPlace (h : PlanKept p s t) {d : Cmd} {st : Stream} (i : InPlace s p d st) : InPlace t p d st :=
  h.plan.inPlace (h.uptoOf d).ge i

end PlanKept

theorem State.sendRequests_kept (s : State) (p : Nat) (st : Stream) : PlanKept p s (s.sendRequests p st) :=
  PlanKept.of_frame State.sendRequests_frame (by decide)

/-! ### The stream of a command -/

theorem Part.stream_name {x : Part} {d : Cmd} {st : Stream} (h : x.stream d = some st) : st.queue = d.queue ∧ st.seq = d.seq := by
  simpa using List.find?_some h

/-- A stream that takes a new content under its own name is found with it. -/
theorem State.stream_setStream {s : State} {p : Nat} {d : Cmd} {st v : Stream} (h : (s.part p).stream d = some st)
    (queue : v.queue = d.queue) (seq : v.seq = d.seq) : ((s.setStream p v).part p).stream d = some v := by
  have named : (fun x : Stream => x.queue == d.queue && x.seq == d.seq) ∘
      (fun x => if x.queue = v.queue ∧ x.seq = v.seq then v else x) =
      fun x => x.queue == d.queue && x.seq == d.seq := by
    funext x
    by_cases e : x.queue = v.queue ∧ x.seq = v.seq
    · simp [e, queue, seq]
    · simp [e]
  have found : (s.part p).strm.streams.find? (fun x => x.queue == d.queue && x.seq == d.seq) = some st := h
  have name : st.queue = v.queue ∧ st.seq = v.seq := by
    rw [queue, seq]
    exact Part.stream_name h
  rw [State.setStream, State.part_modStrm, Part.stream, List.find?_map, named, found, Option.map_some, if_pos name]

/-- A stream under the same name as another. -/
theorem State.streams_setStream {s : State} {p : Nat} {st v : Stream} (h : (s.part p).strm.streams = [st])
    (queue : v.queue = st.queue) (seq : v.seq = st.seq) : ((s.setStream p v).part p).strm.streams = [v] := by
  rw [State.setStream, State.part_modStrm]
  simp only [h, List.map_cons, List.map_nil, queue, seq, and_self, if_true]

/-- A stream whose command has ended is found no more. -/
theorem State.stream_dropped (s : State) (p : Nat) (d : Cmd) :
    ((s.modStrm p fun x => { x with streams := x.streams.filter fun t => !(t.queue == d.queue && t.seq == d.seq) }).part p).stream d =
      none := by
  rw [State.part_modStrm, Part.stream, List.find?_eq_none]
  intro t mem
  simpa only [Bool.not_eq_true', Bool.not_eq_true] using (List.mem_filter.1 mem).2

/-! ### The command of a stream -/

theorem State.setUpto_found {s : State} {d : Cmd} (h : s.findCmd d.queue d.seq = some d) (x : Nat) :
    s.setUpto d x = s.setCmd { d with upto := max d.upto x } := by
  rw [State.setUpto, h]

theorem State.setUpto_findCmd {s : State} {d : Cmd} (h : s.findCmd d.queue d.seq = some d) (x : Nat) :
    (s.setUpto d x).findCmd d.queue d.seq = some { d with upto := max d.upto x } := by
  rw [State.setUpto_found h]
  exact State.findCmd_setCmd h rfl rfl

theorem State.setUpto_plan {s : State} {d : Cmd} (h : s.findCmd d.queue d.seq = some d) (p x : Nat) :
    SamePlan p s (s.setUpto d x) := by
  rw [State.setUpto_found h]
  exact SamePlan.of_part rfl

theorem State.alive_of_found {s : State} {d e : Cmd} (h : s.findCmd d.queue d.seq = some e) : s.alive d = true := by
  rw [State.alive, h]
  rfl

theorem State.doneLinks_eq (s : State) (d : Cmd) (x : Nat) (l : List (Nat × Nat × Nat)) :
    s.doneLinks d x l = s.done d x (if l.isEmpty then 0 else 4) ((linkDetail l).getD 0) := by
  cases l <;> rfl

theorem State.doneLinks_part (s : State) (d : Cmd) (x : Nat) (l : List (Nat × Nat × Nat)) (p : Nat) :
    (s.doneLinks d x l).part p = s.part p := by
  rw [State.doneLinks_eq, State.done_part]

/-- A command that is found without a last cycle, wherever it stands, retires as its work gives (R285). -/
theorem retiresAt_done_found {s u : State} {d e : Cmd} (found : u.findCmd d.queue d.seq = some e) (due : e.due = none)
    (mark : u.rehearsal = s.rehearsal) (x status detail : Nat) : RetiresAt s (u.done d x status detail) d x status detail := by
  have whole : e.endsBy x = false := by rw [Cmd.endsBy, due, Bool.and_false]
  have content : u.doneCmd d x status detail =
      { d with ran := true, due := some x, status := status, detail := detail, rehearsal := s.rehearsal } := by
    simp only [State.doneCmd, found, Option.filter_some, whole, mark, Bool.false_eq_true, if_false]
  rw [RetiresAt, ← content]
  exact State.findCmd_setCmd found (by rw [content]) (by rw [content])

/-- The command of a transfer retires over the ports of the transfer (R259, R285). -/
theorem retiresOver_doneLinks {s u : State} {d e : Cmd} (found : u.findCmd d.queue d.seq = some e) (due : e.due = none)
    (mark : u.rehearsal = s.rehearsal) (y x : Nat) (l : List (Nat × Nat × Nat)) :
    RetiresOver s (u.doneLinks { d with upto := y } x l) d x l := by
  rw [State.doneLinks_eq]
  exact ⟨y, d.phase, retiresAt_done_found (d := { d with upto := y }) found due mark x _ _⟩

end Sys2Proof.Machine
end

section
/-! A stream of which nothing moves: how its command then goes on (R176, R181, R192). -/

namespace Sys2Proof.Machine
open Sys2Proof.Safety

/-! ### Carrier memory, headers and places -/

/-- Of a shard that carrier memory has no words left for, none leaves. -/
theorem State.readRound_brought {s : State} {d : Cmd} {p : Nat} {st : Stream} (stream : (s.part p).stream d = some st)
    (brought : ∀ h ∈ st.shards, Brought s p h) (lim k q : Nat) : s.readRound d p lim k q = s := by
  simp only [State.readRound, stream]
  cases listed : st.shards[k]? with
  | none => rfl
  | some h =>
    dsimp only
    cases entry : (s.part p).entry h.entry with
    | none => rfl
    | some x =>
      refine if_pos ?_
      rcases brought h (List.mem_of_getElem? listed) with tether | all
      · exact Or.inl tether
      · by_cases next : h.data.length = 64 * (x.1.roundWords q).1
        · exact Or.inr (Or.inr (Or.inl (all x.1 x.2 entry q next.symm)))
        · exact Or.inr (Or.inl next)

theorem State.readStacks_brought {s : State} {d : Cmd} {p : Nat} {st : Stream} (stream : (s.part p).stream d = some st)
    (brought : ∀ h ∈ st.shards, Brought s p h) (lim : Nat) : s.readStacks d p lim = s := by
  simp only [State.readStacks, stream]
  exact List.foldl_fixed' (fun q => List.foldl_fixed' (fun k => State.readRound_brought stream brought lim k q) _) _

/-- The shards that RESIDE copies from stack to stack have the digests of their headers, as far as they are whole (R177, R200). -/
def Copied (d : Cmd) (st : Stream) : Prop :=
  d.op = 0x203 → ∀ h ∈ st.shards, h.port = 64 → h.full = true → sha256 h.plain = shDigest h.header

theorem State.recheck_copied {s : State} {d : Cmd} {p : Nat} {st : Stream} (stream : (s.part p).stream d = some st)
    (copied : Copied d st) : s.recheck d p = s := by
  have none_ : (if d.op = 0x203 then st.shards.find? fun h => h.port == 64 && h.full && sha256 h.plain != shDigest h.header else none) =
      none := by
    refine ite_eq_right_iff.2 fun op => List.find?_eq_none.2 fun h mem bad => ?_
    simp only [Bool.and_eq_true, beq_iff_eq, bne_iff_ne] at bad
    exact bad.2 (copied op h mem bad.1.1 bad.1.2)
  simp only [State.recheck, stream, none_]

/-- No header is wrong, and no shard gets a place: it has one, or its header is still to come, or RESIDE brings it. -/
theorem State.settleShard_settled {s : State} {d : Cmd} {p : Nat} {st : Stream} (stream : (s.part p).stream d = some st)
    (heads : ∀ h ∈ st.shards, s.headFault d p h = none) (placed : d.op = 0x203 ∨ ∀ k, s.reserveShard p d st k = none) (k : Nat) :
    s.settleShard d p k = s := by
  have stays : (if d.op = 0x203 then none else s.reserveShard p d st k) = none :=
    ite_eq_left_iff.2 fun op => (placed.resolve_left op) k
  simp only [State.settleShard, stream]
  cases listed : st.shards[k]? with
  | none => rfl
  | some h =>
    simp only [heads h (List.mem_of_getElem? listed), stays, ite_self]

/-- A shard without its header, or with its place, gets none. -/
theorem State.reserveShard_none {s : State} {p : Nat} {d : Cmd} {st : Stream}
    (h : ∀ g ∈ st.shards, g.header = [] ∨ g.place ≠ []) (k : Nat) : s.reserveShard p d st k = none := by
  rw [State.reserveShard]
  cases listed : st.shards[k]? with
  | none => rfl
  | some g =>
    have known : (g.header.isEmpty || !g.place.isEmpty) = true := by
      simpa [List.isEmpty_eq_false_iff] using h g (List.mem_of_getElem? listed)
    dsimp only
    rw [known, Bool.true_or, Bool.true_or, if_pos rfl]

/-! ### Rows and rounds -/

theorem mem_insertNat {x y : Nat} {l : List Nat} : y ∈ insertNat x l ↔ y = x ∨ y ∈ l := by
  induction l with
  | nil => simp [insertNat]
  | cons z l ih =>
    unfold insertNat
    split
    · exact List.mem_cons
    · split
      · next e => simp [e]
      · rw [List.mem_cons, ih, List.mem_cons, or_left_comm]

theorem mem_rising {y : Nat} {l : List Nat} (h : y ∈ l.foldl (fun l x => insertNat x l) []) : y ∈ l :=
  (List.foldlRecOn l (fun l x => insertNat x l) (motive := fun r => ∀ y ∈ r, y ∈ l) (fun _ h => absurd h List.not_mem_nil)
    fun _ ih _ hx y hy => (mem_insertNat.1 hy).elim (fun e => e ▸ hx) (ih y)) y h

theorem firstOf_le {lim x : Nat} {l : List Nat} : firstOf lim l ≤ lim ∧ (x ∈ l → firstOf lim l ≤ x) := by
  induction l generalizing lim with
  | nil => exact ⟨Nat.le_refl lim, fun h => absurd h List.not_mem_nil⟩
  | cons y l ih =>
    obtain ⟨low, mem⟩ := ih (lim := min lim y)
    refine ⟨low.trans (Nat.min_le_left _ _), fun h => ?_⟩
    rcases List.mem_cons.1 h with rfl | h
    · exact low.trans (Nat.min_le_right _ _)
    · exact mem h

/-- No row of the stream falls in the cycles from where its command stands up to `lim`: none is written (R181, R182). -/
theorem State.runPieces_idle {s : State} {d : Cmd} {p lim : Nat} {st : Stream} (stream : (s.part p).stream d = some st)
    (idle : ∀ h ∈ st.shards, ∀ w ∈ s.pieces p d h, w.1 < s.uptoOf d ∨ lim < w.1) : ∃ x, s.runPieces d p lim = s.setUpto d x := by
  simp only [State.runPieces, stream]
  generalize hws : List.filter _ (List.flatMap _ _) = ws
  have late : ∀ x ∈ ws.map Prod.fst, lim + 1 ≤ x := by
    subst hws
    intro x hx
    obtain ⟨w, hw, rfl⟩ := List.mem_map.1 hx
    obtain ⟨mem, due⟩ := List.mem_filter.1 hw
    obtain ⟨h, live, hw⟩ := List.mem_flatMap.1 mem
    obtain ⟨v, hv, rfl⟩ := List.mem_map.1 hw
    have notYet : s.uptoOf d ≤ v.1 := of_decide_eq_true due
    exact (idle h (List.mem_of_mem_filter live) v hv).resolve_left (Nat.not_lt.2 notYet)
  generalize hstop : firstOf (lim + 1) _ = stop
  have stops : stop ≤ lim + 1 := hstop ▸ (firstOf_le (x := 0)).1
  have stays : ((ws.map Prod.fst).foldl (fun l x => insertNat x l) []).foldl
      (fun (a : State × Nat) x => a.1.pieceCycle d p a.2 x ws) (s, stop) = (s, stop) := by
    refine List.foldlRecOn _ _ (motive := fun r => r = (s, stop)) rfl fun r same x hx => ?_
    rw [same]
    exact if_pos (Or.inl (stops.trans (late x (mem_rising hx))))
  exact ⟨stop, by rw [stays]⟩

/-- No round of the stream's shards is due whose words have come: nothing enters a stack (R200). -/
theorem State.runEnters_idle {s : State} {d : Cmd} {p lim : Nat} {st : Stream} (stream : (s.part p).stream d = some st)
    (idle : ∀ h ∈ st.shards, ∀ w ∈ s.enterRounds p h, w.1 < s.uptoOf d ∨ h.wordsIn w = false) :
    ∃ x, s.runEnters d p lim = s.setUpto d x := by
  simp only [State.runEnters, stream]
  generalize hws : List.filter _ (List.flatMap _ _) = ws
  generalize hstop : firstOf (lim + 1) _ = stop
  have due : (ws.filter fun w => decide (w.2.1 < stop)) = [] := by
    refine List.filter_eq_nil_iff.2 fun w hw => ?_
    have absent : w.1.wordsIn w.2 = false := by
      subst hws
      obtain ⟨mem, todo⟩ := List.mem_filter.1 hw
      obtain ⟨h, listed, mem⟩ := List.mem_flatMap.1 mem
      obtain ⟨v, hv, rfl⟩ := List.mem_map.1 mem
      exact (idle h listed v hv).resolve_left (Nat.not_lt.2 (of_decide_eq_true todo))
    have first : stop ≤ w.2.1 := by
      subst hstop
      refine firstOf_le.2 (List.mem_map.2 ⟨w, List.mem_filter.2 ⟨hw, ?_⟩, rfl⟩)
      rw [absent]
      rfl
    simpa using first
  refine ⟨stop, ?_⟩
  rw [due]
  rfl

/-! ### The command goes on -/

/-- Of stream `st` no row and no round of command `d` is due up to cycle `lim` (R181, R200). -/
structure Idle (s : State) (p : Nat) (d : Cmd) (st : Stream) (lim : Nat) : Prop where
  rows : d.op ≠ 0x203 → ∀ h ∈ st.shards, ∀ w ∈ s.pieces p d h, w.1 < s.uptoOf d ∨ lim < w.1
  rounds : d.op = 0x203 → ∀ h ∈ st.shards, ∀ w ∈ s.enterRounds p h, w.1 < s.uptoOf d ∨ h.wordsIn w = false

/-- The shards of a stream are checked and get their places. -/
def State.settle (s : State) (d : Cmd) (p n : Nat) : State := (List.range n).foldl (fun (s : State) k => s.settleShard d p k) s

/-- With nothing to be read, and nothing due once the shards have their places, a pump only looks whether all is done. -/
theorem State.pumpTo_settled {s u : State} {d : Cmd} {p lim : Nat} {st v : Stream} (stream : (s.part p).stream d = some st)
    (brought : ∀ h ∈ st.shards, Brought s p h) (copied : Copied d st) (settled : s.settle d p st.shards.length = u)
    (found : u.findCmd d.queue d.seq = some d) (stream' : (u.part p).stream d = some v) (idle : Idle u p d v lim) :
    ∃ x, s.pumpTo d p lim = ((u.setUpto d x).markDelivered d p).streamDone d p := by
  obtain ⟨x, moved⟩ : ∃ x, (if d.op = 0x203 then u.runEnters d p lim else u.runPieces d p lim) = u.setUpto d x := by
    by_cases op : d.op = 0x203
    · rw [if_pos op]
      exact State.runEnters_idle stream' (idle.rounds op)
    · rw [if_neg op]
      exact State.runPieces_idle stream' (idle.rows op)
  have alive : u.alive d = true := State.alive_of_found found
  have still : (u.setUpto d x).alive d = true := State.alive_of_found (State.setUpto_findCmd found x)
  refine ⟨x, ?_⟩
  rw [State.settle] at settled
  simp only [State.pumpTo, stream, State.readStacks_brought stream brought, State.recheck_copied stream copied, settled, alive, moved,
    still, Bool.true_eq_false, if_false, if_true]

/-! ### A stream that still waits for words -/

/-- A shard that has not come whole is not delivered (R192). -/
theorem State.markDelivered_waiting {s : State} {d : Cmd} {p : Nat} {st : Stream} (stream : (s.part p).stream d = some st)
    (some_ : st.shards ≠ []) (waits : ∀ h ∈ st.shards, h.full = false ∧ h.delivered = false) :
    s.markDelivered d p = s.setStream p st := by
  have same : (st.shards.map fun h => { h with delivered := h.delivered || s.allPlaced d p h }) = st.shards := by
    refine (List.map_congr_left fun h mem => ?_).trans (List.map_id _)
    rw [State.allPlaced, (waits h mem).1, Bool.false_and, Bool.false_and, Bool.or_false]
    rfl
  obtain ⟨h, mem⟩ := List.exists_mem_of_ne_nil _ some_
  have open_ : ¬(st.shards.all Shard.delivered) = true := fun all => by
    have := List.all_eq_true.1 all h mem
    rw [(waits h mem).2] at this
    cases this
  simp only [State.markDelivered, stream, same, if_neg open_]

theorem State.streamDone_waiting {s : State} {d : Cmd} {p : Nat} {st : Stream} (stream : (s.part p).stream d = some st) {h : Shard}
    (mem : h ∈ st.shards) (waits : h.delivered = false) : s.streamDone d p = s := by
  have open_ : ¬(st.shards.all fun h => h.delivered && h.verdict.isSome) = true := fun all => by
    have := List.all_eq_true.1 all h mem
    rw [waits] at this
    cases this
  simp only [State.streamDone, stream]
  cases s.findCmd d.queue d.seq with
  | none => rfl
  | some e =>
    dsimp only
    rw [if_neg open_, ite_self]

/-- The pump of a stream whose words are still to come: its command stands at another cycle, and that is all. -/
theorem State.pumpTo_waiting {s u : State} {d : Cmd} {p lim : Nat} {st v : Stream} (stream : (s.part p).stream d = some st)
    (brought : ∀ h ∈ st.shards, Brought s p h) (copied : Copied d st) (settled : s.settle d p st.shards.length = u)
    (found : u.findCmd d.queue d.seq = some d) (stream' : (u.part p).stream d = some v) (idle : Idle u p d v lim)
    (some_ : v.shards ≠ []) (waits : ∀ h ∈ v.shards, h.full = false ∧ h.delivered = false) :
    ∃ x, s.pumpTo d p lim = (u.setUpto d x).setStream p v := by
  obtain ⟨x, e⟩ := State.pumpTo_settled stream brought copied settled found stream' idle
  have here : ((u.setUpto d x).part p).stream d = some v := by
    rw [State.setUpto_found found]
    exact stream'
  obtain ⟨h, mem⟩ := List.exists_mem_of_ne_nil _ some_
  obtain ⟨queue, seq⟩ := Part.stream_name stream'
  refine ⟨x, ?_⟩
  rw [e, State.markDelivered_waiting here some_ waits,
    State.streamDone_waiting (State.stream_setStream here queue seq) mem (waits h mem).2]

end Sys2Proof.Machine
end

section
/-! A stream whose rows are all in place: its command retires, and its ring is known to be complete (R181, R192, R259). -/

namespace Sys2Proof.Machine
open Sys2Proof.Safety

/-! ### All rows are in place -/

/-- The streams without those of a command. -/
def PartStream.without (x : PartStream) (d : Cmd) : PartStream :=
  { x with streams := x.streams.filter fun t => !(t.queue == d.queue && t.seq == d.seq) }

/-- The ring of a command is known to be complete since cycle `n`. -/
def PartStream.placedAt (x : PartStream) (d : Cmd) (n : Nat) : PartStream :=
  { x with rings := x.rings.map fun r => if r.queue = d.queue ∧ r.seq = d.seq then { r with placed := some n } else r }

theorem PartStream.mem_placedAt {x : PartStream} {d : Cmd} {n : Nat} {r : Ring} (mem : r ∈ (x.placedAt d n).rings)
    (queue : r.queue = d.queue) (seq : r.seq = d.seq) : r.placed = some n := by
  obtain ⟨o, -, rfl⟩ := List.mem_map.1 mem
  by_cases named : o.queue = d.queue ∧ o.seq = d.seq
  · rw [if_pos named]
  · rw [if_neg named] at queue seq
    exact absurd ⟨queue, seq⟩ named

/-- The last cycle in which a verdict of the stream has come, no earlier than its command's first cycle. -/
def lastVerdict (d : Cmd) (st : Stream) : Nat := (st.shards.filterMap fun h => h.verdict.map Prod.snd).foldl max d.t0

/-- A command in whose partition all of its stream is placed: it stands at cycle `x`, and its ring knows its last row. -/
def State.whole (s : State) (d : Cmd) (p : Nat) (st : Stream) (x : Nat) : State :=
  ((s.setUpto d x).setStream p st).modStrm p (·.placedAt d (lastPlaced s p d st))

theorem State.whole_plan {s : State} {d : Cmd} (found : s.findCmd d.queue d.seq = some d) (p : Nat) (st : Stream) (x : Nat) :
    SamePlan p s (s.whole d p st x) :=
  (State.setUpto_plan found p x).trans ((PlanKept.setStream st).trans (PlanKept.modStrm _)).plan

/-- RESIDE enters its experts in the shadow bank; the other commands of a stream have no more to do (R200). -/
def State.entered (s : State) (d : Cmd) (p : Nat) (st : Stream) : State :=
  if d.op = 0x203 then s.writeResidents p d.reside st else s

theorem State.markDelivered_whole {s : State} {d : Cmd} {p : Nat} {st : Stream} (stream : (s.part p).stream d = some st)
    (whole : ∀ h ∈ st.shards, h.delivered = true) :
    s.markDelivered d p = (s.setStream p st).modStrm p (·.placedAt d (lastPlaced s p d st)) := by
  have same : (st.shards.map fun h => { h with delivered := h.delivered || s.allPlaced d p h }) = st.shards := by
    refine (List.map_congr_left fun h mem => ?_).trans (List.map_id _)
    rw [whole h mem, Bool.true_or, ← whole h mem]
    rfl
  have all : (st.shards.all Shard.delivered) = true := List.all_eq_true.2 whole
  have ends : (s.setStream p st).placeEnd p d = s.placeEnd p d := (PlanKept.setStream st).plan.placeEnd d
  simp only [State.markDelivered, stream, same, all, if_true, ends]
  rfl

theorem State.streamDone_whole {s : State} {d e : Cmd} {p : Nat} {st : Stream} (stream : (s.part p).stream d = some st)
    (found : s.findCmd d.queue d.seq = some e) (due : e.due = none) (begun : e.began.isSome = true)
    (whole : ∀ h ∈ st.shards, h.delivered = true ∧ h.verdict.isSome = true) :
    s.streamDone d p = ((s.entered d p st).modStrm p (·.without d)).doneLinks e
      (max (lastVerdict e st) (lastPlaced s p d st) + 1) st.degraded := by
  have open_ : ¬(e.due.isSome = true ∨ e.began = none) := by
    rw [due, not_or]
    exact ⟨Bool.false_ne_true, Option.isSome_iff_ne_none.1 begun⟩
  have all : (st.shards.all fun h => h.delivered && h.verdict.isSome) = true :=
    List.all_eq_true.2 fun h mem => Bool.and_eq_true_iff.2 (whole h mem)
  have verdicts : st.shards.filterMap (fun h => h.verdict.map Prod.snd) = st.shards.map fun h => match h.verdict with
      | some y => y.2
      | none => 0 := by
    refine List.filterMap_eq_map_iff_forall_eq_some.2 fun h mem => ?_
    obtain ⟨y, hy⟩ := Option.isSome_iff_exists.1 (whole h mem).2
    rw [hy]
    rfl
  rw [lastVerdict, verdicts]
  simp only [State.streamDone, stream, found, if_neg open_, all, if_true]
  rfl

theorem State.entered_kept (s : State) (d : Cmd) (p : Nat) (st : Stream) : PlanKept p s (s.entered d p st) := by
  unfold State.entered
  split
  · exact PlanKept.of_frame State.writeResidents_frame (by decide)
  · exact PlanKept.refl

theorem State.entered_part (s : State) (d : Cmd) (p : Nat) (st : Stream) : (s.entered d p st).part p = s.part p := by
  unfold State.entered
  split
  · exact State.part_of_parts (State.writeResidents_frame.parts (by decide)) p
  · rfl

/-- Nothing of a stream that is in place is due (R176, R192, R200). -/
theorem idle_of_inPlace {s : State} {p : Nat} {d : Cmd} {st : Stream} (place : InPlace s p d st) (lim : Nat) : Idle s p d st lim where
  rows op h mem w hw := Or.inl ((place h mem).2.2.2.2.2 op w hw)
  rounds op h mem w hw := Or.inl (((place h mem).2.2.2.2.1 op).1 w hw)

/-- The pump of a stream that is in place and has its verdicts (R192). -/
theorem State.pumpTo_inPlace {s : State} {d : Cmd} {p : Nat} {st : Stream} (stream : (s.part p).stream d = some st)
    (found : s.findCmd d.queue d.seq = some d) (due : d.due = none) (begun : d.began.isSome = true)
    (verdicts : ∀ h ∈ st.shards, h.verdict.isSome = true) (place : InPlace s p d st) (lim : Nat) :
    ∃ x, s.pumpTo d p lim = (((s.whole d p st x).entered d p st).modStrm p (·.without d)).doneLinks
      { d with upto := max d.upto x } (max (lastVerdict d st) (lastPlaced s p d st) + 1) st.degraded := by
  have brought : ∀ h ∈ st.shards, Brought s p h := fun h mem => (place h mem).2.1
  have copied : Copied d st := fun op h mem port full => ((place h mem).2.2.2.2.1 op).2 port full
  have heads : ∀ h ∈ st.shards, s.headFault d p h = none := fun h mem => Option.isNone_iff_eq_none.1 (place h mem).2.2.1
  have placed : d.op = 0x203 ∨ ∀ k, s.reserveShard p d st k = none := or_iff_not_imp_left.2 fun op =>
    State.reserveShard_none fun h mem => Or.inr ((place h mem).2.2.2.1.resolve_left op)
  have settled : s.settle d p st.shards.length = s :=
    List.foldl_fixed' (fun k => State.settleShard_settled stream heads placed k) _
  obtain ⟨x, e⟩ := State.pumpTo_settled stream brought copied settled found stream (idle_of_inPlace place lim)
  have upto := State.setUpto_findCmd found x
  have here : ((s.setUpto d x).part p).stream d = some st := by
    rw [State.setUpto_found found]
    exact stream
  obtain ⟨queue, seq⟩ := Part.stream_name stream
  have marked : (s.setUpto d x).markDelivered d p = s.whole d p st x := by
    rw [State.markDelivered_whole here fun h mem => (place h mem).1, (State.setUpto_plan found p x).lastPlaced]
    rfl
  have still : ((s.whole d p st x).part p).stream d = some st := by
    rw [State.whole, State.part_modStrm]
    exact State.stream_setStream here queue seq
  refine ⟨x, ?_⟩
  rw [e, marked, State.streamDone_whole still (e := { d with upto := max d.upto x }) upto due begun
    fun h mem => ⟨(place h mem).1, verdicts h mem⟩, (State.whole_plan found p st x).lastPlaced]
  rfl

/-- Such a command retires in the cycle after its last row and verdict, its stream ends, and its ring is known to be complete. -/
theorem State.pumpTo_retires {s : State} {d : Cmd} {p : Nat} {st : Stream} (stream : (s.part p).stream d = some st)
    (found : s.findCmd d.queue d.seq = some d) (due : d.due = none) (begun : d.began.isSome = true)
    (verdicts : ∀ h ∈ st.shards, h.verdict.isSome = true) (place : InPlace s p d st) (lim : Nat) :
    RetiresOver s (s.pumpTo d p lim) d (max (lastVerdict d st) (lastPlaced s p d st) + 1) st.degraded ∧
    ((s.pumpTo d p lim).part p).stream d = none ∧
    ∀ r ∈ ((s.pumpTo d p lim).part p).strm.rings, r.queue = d.queue → r.seq = d.seq → r.placed = some (lastPlaced s p d st) := by
  obtain ⟨x, e⟩ := State.pumpTo_inPlace stream found due begun verdicts place lim
  have kept := ((s.whole d p st x).entered_kept d p st).trans (PlanKept.modStrm (·.without d))
  have mark : ((s.whole d p st x).entered d p st).rehearsal = s.rehearsal := by
    rw [((s.whole d p st x).entered_kept d p st).rehearsal, State.whole, State.setUpto_found found]
    rfl
  have here : (((s.whole d p st x).entered d p st).modStrm p (·.without d)).findCmd d.queue d.seq =
      some { d with upto := max d.upto x } := by
    rw [kept.findCmd]
    exact State.setUpto_findCmd found x
  have strm : ((s.pumpTo d p lim).part p).strm =
      ((((s.setUpto d x).setStream p st).part p).strm.placedAt d (lastPlaced s p d st)).without d := by
    rw [e, State.doneLinks_part, State.part_modStrm, State.entered_part, State.whole, State.part_modStrm]
  refine ⟨e ▸ retiresOver_doneLinks here due mark _ _ _, ?_, fun r mem => PartStream.mem_placedAt (strm ▸ mem)⟩
  rw [e, State.doneLinks_part]
  exact State.stream_dropped _ p d

end Sys2Proof.Machine
end

section
/-! STREAM_LOAD, STREAM_SPEC and PRUNE_LOAD ask for their shards and retire (R181, R192, R193, R206, R210, R259). -/

namespace Sys2Proof.Machine
open Sys2Proof.Safety

/-! ### The request -/

theorem State.ready_begun {s : State} {c : CmdId} {op : Nat} {d : Cmd} (h : s.ready c op = some d) :
    d.op = op ∧ d.began.isSome = true := by
  unfold State.ready at h
  cases found : s.findCmd c.queue.val c.seq with
  | none => simp [found] at h
  | some e =>
    simp only [found, Option.ite_none_right_eq_some, Option.some.injEq] at h
    obtain ⟨⟨op, begun, -, -⟩, rfl⟩ := h
    exact ⟨op, begun⟩

/-- The request of a stream goes out, and the stream notes it (R181). -/
def State.ask (s : State) (p : Nat) (st : Stream) : State := (s.sendRequests p st).setStream p { st with asked := true }

theorem State.ask_kept (s : State) (p : Nat) (st : Stream) : PlanKept p s (s.ask p st) :=
  (s.sendRequests_kept p st).trans (PlanKept.setStream _)

theorem State.ask_stream {s : State} {d : Cmd} {p : Nat} {st : Stream} (stream : (s.part p).stream d = some st) :
    ((s.ask p st).part p).stream d = some { st with asked := true } := by
  have parts : (s.sendRequests p st).part p = s.part p := State.part_of_parts (State.sendRequests_frame.parts (by decide)) p
  exact State.stream_setStream (parts ▸ stream) (Part.stream_name stream).1 (Part.stream_name stream).2

/-- Shards of which nothing has come; they all come over tethers. -/
def Unsent (st : Stream) : Prop := ∀ h ∈ st.shards, h.port < 64 ∧ h.header = [] ∧ h.place = [] ∧ h.delivered = false

/-- The pump of a stream of which nothing has come. -/
theorem State.pumpTo_unsent {s : State} {d : Cmd} {p : Nat} {st : Stream} (stream : (s.part p).stream d = some st)
    (found : s.findCmd d.queue d.seq = some d) (some_ : st.shards ≠ []) (unsent : Unsent st) (lim : Nat) :
    ∃ x, s.pumpTo d p lim = (s.setUpto d x).setStream p st := by
  have heads : ∀ h ∈ st.shards, s.headFault d p h = none := fun h mem => by
    rw [State.headFault, (unsent h mem).2.1]
    rfl
  have settled : s.settle d p st.shards.length = s := List.foldl_fixed' (fun k => State.settleShard_settled stream heads
    (Or.inr (State.reserveShard_none fun h mem => Or.inl (unsent h mem).2.1)) k) _
  refine State.pumpTo_waiting stream (fun h mem => Or.inl (unsent h mem).1)
    (fun _ h mem port => absurd port (Nat.ne_of_lt (unsent h mem).1)) settled found stream
    ⟨fun _ h mem w hw => ?_, fun _ h mem w _ => ?_⟩
    some_ fun h mem => ⟨?_, (unsent h mem).2.2.2⟩
  · rw [State.pieces, (unsent h mem).2.2.1] at hw
    cases entry : (s.part p).entry h.entry <;> simp [entry] at hw
  · rw [Shard.wordsIn, (unsent h mem).2.1]
    exact Or.inr rfl
  · rw [Shard.full, (unsent h mem).2.1]
    rfl

/-- What a command's step does that asks for its shards, all over tethers: the request goes out, once, and the command goes on. -/
theorem State.ask_pumps {s : State} {d : Cmd} {p : Nat} {st : Stream} (stream : (s.part p).stream d = some st)
    (found : s.findCmd d.queue d.seq = some d) (due : d.due = none) (some_ : st.shards ≠ []) (unsent : Unsent st) (lim : Nat) :
    (((s.ask p st).pumpTo d p lim).part p).stream d = some { st with asked := true } ∧
    ((s.ask p st).pumpTo d p lim).out = (s.sendRequests p st).out ∧ ((s.ask p st).pumpTo d p lim).carrier = s.carrier ∧
    ∃ v, ((s.ask p st).pumpTo d p lim).findCmd d.queue d.seq = some v ∧ v.due = none := by
  have asked := State.ask_stream stream
  have here : (s.ask p st).findCmd d.queue d.seq = some d := ((s.ask_kept p st).findCmd _ _).trans found
  obtain ⟨x, e⟩ := State.pumpTo_unsent (st := { st with asked := true }) asked here some_ unsent lim
  have name := Part.stream_name stream
  have upto := State.setUpto_findCmd here x
  rw [e]
  refine ⟨State.stream_setStream (st := { st with asked := true }) ?_ name.1 name.2, ?_, ?_, _, upto, due⟩
  · rw [State.setUpto_found here]
    exact asked
  · rw [State.setUpto_found here]
    rfl
  · rw [State.setUpto_found here]
    exact State.sendRequests_frame.carrier (by decide)

theorem State.streamStep_asks {s : State} {d : Cmd} {p : Nat} {st : Stream} (stream : (s.part p).stream d = some st)
    (asked : st.asked = false) (lim : Nat) : s.streamStep d p lim = (s.ask p st).pumpTo d p lim := by
  simp only [State.streamStep, stream, asked, Bool.false_eq_true, if_false]
  rfl

theorem State.streamStep_asked {s : State} {d : Cmd} {p : Nat} {st : Stream} (stream : (s.part p).stream d = some st)
    (asked : st.asked = true) (lim : Nat) : s.streamStep d p lim = s.pumpTo d p lim := by
  simp only [State.streamStep, stream, asked, if_true]

/-! ### The three commands -/

/-- The commands that stream shards into tile memory, with their opcodes. -/
def streamers (c : CmdId) : List (Nat × Instr) := [(0x200, Instr.streamLoad c), (0x201, Instr.streamSpec c), (0x206, Instr.pruneLoad c)]

/-- What a stream may change: the task that it may end, prediction slots, tile memory and carrier memory, and the verdicts' counts. -/
def streamFields : List Field := taskFields ++ slotFields ++ pruneFields ++ [Field.CORE_TMEM_HAZ_TOTAL, Field.CORE_TMEM_HAZ_WW,
  Field.CORE_TMEM_HAZ_TASK, Field.CORE_TMEM_STAB_VIOL_TOTAL] ++ [Field.HBM_STAT_WW, Field.HBM_ECC_CORRECTED,
  Field.HBM_ECC_UNCORRECTABLE, Field.STRM_FAIL_DIGEST]

def streamParts : List Component :=
  taskParts ++ [Component.clock, Component.fences, Component.carrier, Component.rehearsal, Component.out]

theorem streamer_changes {c : CmdId} {x : Nat × Instr} (mem : x ∈ streamers c) {s t : State} (e : exec x.2 s = .next t) :
    Changes streamFields streamParts s t := by
  simp only [streamers, List.mem_cons, List.not_mem_nil, or_false] at mem
  rcases mem with rfl | rfl | rfl
  · exact Same.changes (execStreamLoad_frame e) (by decide +kernel)
  · exact Same.changes (execStreamSpec_frame e) (by decide +kernel)
  · exact Same.changes (execPruneLoad_frame e) (by decide +kernel)

theorem streamer_runs {c : CmdId} {x : Nat × Instr} (mem : x ∈ streamers c) {s : State} {d : Cmd} {p : Nat}
    (run : Running s c x.1 d p) : exec x.2 s = .next (s.streamStep d p s.now) := by
  obtain ⟨ready, part⟩ := run
  simp only [streamers, List.mem_cons, List.not_mem_nil, or_false] at mem
  rcases mem with rfl | rfl | rfl
  · show execStreamLoad c s = _
    simp only [execStreamLoad, ready, part]
  · show execStreamSpec c s = _
    simp only [execStreamSpec, ready, part]
  · show execPruneLoad c s = _
    simp only [execPruneLoad, ready, part]

/-- Settles O34: the step is the pump, of which either nothing has come (`State.ask_pumps`) or all is in place (`State.pumpTo_retires`). -/
theorem streamingCommandsAskAndRetire : Obligations.StreamingCommandsAskAndRetire := by
  intro s c d p st stream x mem
  obtain ⟨t, next⟩ := exec_next x.2 s
  refine ⟨⟨t, next, streamer_changes mem next, trivial⟩, fun run => ?_⟩
  have e := streamer_runs mem run
  obtain ⟨found, due⟩ := State.ready_running run.1
  refine ⟨fun asked some_ unsent => ?_, fun asked verdicts place => ?_⟩
  · rw [State.streamStep_asks stream asked] at e
    obtain ⟨noted, out, -, command⟩ := State.ask_pumps stream found due some_ unsent s.now
    exact ⟨_, e, streamer_changes mem e, noted, out, command⟩
  · rw [State.streamStep_asked stream asked] at e
    exact ⟨_, e, streamer_changes mem e, State.pumpTo_retires stream found due (State.ready_begun run.1).2 verdicts place s.now⟩

end Sys2Proof.Machine
end

section
/-! RESIDE stores its experts in carrier memory and makes their shadow entries resident, or is refused (R198, R200, R201). -/

namespace Sys2Proof.Machine
open Sys2Proof.Safety

/-! ### Regions -/

/-- The regions lie where the plan and the entries in the shadow bank put them (R198). -/
theorem SamePlan.regions {p : Nat} {s t : State} (h : SamePlan p s t) (carrier : t.carrier = s.carrier) (q : ResideP) :
    t.regions p q = s.regions p q := by
  simp only [State.regions, State.ertShadow, Part.planRows, h.bind, h.taskSlotOf, carrier]

/-- Each expert that the command names has one region. -/
theorem State.regions_experts (s : State) (p : Nat) (q : ResideP) :
    (s.regions p q).map Region.expert = (List.range q.count).map (q.expert + ·) := by
  have grows {α β : Type} (f : α × β → Nat → α × β) (g : α → List Nat)
      (h : ∀ a i, g (f a i).1 = g a.1 ++ [q.expert + i]) (l : List Nat) :
      ∀ a, g (l.foldl f a).1 = g a.1 ++ l.map (q.expert + ·) := by
    induction l with
    | nil => simp
    | cons i l ih => intro a; rw [List.foldl_cons, ih, h, List.append_assoc]; rfl
  refine (grows _ (List.map Region.expert) (fun a i => ?_) _ _).trans (List.nil_append _)
  rw [List.map_append]
  rfl

theorem State.regions_distinct (s : State) (p : Nat) (q : ResideP) : ((s.regions p q).map Region.expert).Nodup := by
  rw [s.regions_experts]
  exact List.nodup_range.map fun _ _ e => Nat.add_left_cancel e

/-- The entry of an expert that has become resident in its new region (R200, Table 8-2). -/
def Region.entry (r : Region) : Nat := (r.ert / 4 * 4 + 2) % 2 ^ 64 + r.addr / 4096 * 2 ^ 64 + bits r.ert 127 96 * 2 ^ 96

theorem Region.ertState_entry (r : Region) : ertState r.entry = 2 := by
  rw [ertState, bits, Region.entry, Nat.shiftRight_zero]
  omega

theorem Region.ertCaddr_entry {r : Region} (page : r.addr % 4096 = 0) (room : r.addr < 2 ^ 42) : ertCaddr r.entry = r.addr := by
  rw [ertCaddr, bits, Region.entry, Nat.shiftRight_eq_div_pow]
  omega

theorem Region.ertShards_entry (r : Region) : ertShards r.entry = ertShards r.ert := by
  rw [ertShards, ertShards, bits, bits, Region.entry, Nat.shiftRight_eq_div_pow, Nat.shiftRight_eq_div_pow]
  omega

/-! ### The shadow bank -/

/-- The shadow bank of a partition that is bound to `sh` takes writes (R170, R171). -/
def Writable (p : Nat) (sh : Shape) (s : State) : Prop := (s.part p).bind.shape = some sh ∧ s.get .PART_ERT_CTL_SYNC_BUSY p ≠ 1

theorem Writable.of_same {p : Nat} {sh : Shape} {s t : State} (h : Writable p sh s) (parts : t.parts = s.parts) (regs : t.regs = s.regs) :
    Writable p sh t := by
  rwa [Writable, State.part_of_parts parts, State.get_of_regs regs]

theorem State.writeShadow_writable {p : Nat} {sh : Shape} {s : State} (h : Writable p sh s) (e v : Nat) :
    (s.writeShadow p e v).carrier.ertShadow = Tab.put 0 s.carrier.ertShadow (sh.ertBase + e) v ∧
    (s.writeShadow p e v).parts = s.parts ∧ (s.writeShadow p e v).regs = s.regs := by
  simp only [State.writeShadow, if_neg h.2, h.1, and_self]

theorem Writable.writeShadow {p : Nat} {sh : Shape} {s : State} (h : Writable p sh s) (e v : Nat) : Writable p sh (s.writeShadow p e v) :=
  h.of_same (State.writeShadow_writable h e v).2.1 (State.writeShadow_writable h e v).2.2

/-- The headers of a region's shards are stored at its start, marked as not encrypted (R198). -/
def State.storeHeaders (s : State) (addr : Nat) (hs : List Shard) : State := (enumFrom 0 hs).foldl (fun (s : State) x =>
  { s with carrier := { s.carrier with
      mem := Mem.write s.carrier.mem (addr + 64 * x.1) (x.2.header.set 1 ((x.2.header.getD 1 0) &&& 0xFB)) } }) s

theorem State.storeHeaders_kept (s : State) (addr : Nat) (hs : List Shard) : (s.storeHeaders addr hs).parts = s.parts ∧
    (s.storeHeaders addr hs).regs = s.regs ∧ (s.storeHeaders addr hs).carrier.ertShadow = s.carrier.ertShadow :=
  ⟨foldl_kept State.parts (fun _ _ => by rfl) _ s, foldl_kept State.regs (fun _ _ => by rfl) _ s,
   foldl_kept (fun v : State => v.carrier.ertShadow) (fun _ _ => by rfl) _ s⟩

/-- One region gets its stored headers, and its expert its entry (R198, R200). -/
def State.enterRegion (p : Nat) (q : ResideP) (st : Stream) (s : State) (r : Region) : State :=
  let n := ertShards r.ert
  let s := (s.storeHeaders r.addr ((st.shards.drop (r.first - q.entry)).take n)).writeShadow p r.expert r.entry
  let outside := fun (a : Nat) => decide (a < r.addr) || decide (r.addr + r.slots * 2 ^ 22 ≤ a)
  { s with carrier := { s.carrier with
    bad := s.carrier.bad.filter outside
    checked := (List.range n).foldl (fun t k => Tab.put 0 t (s.residentShard r.entry k) s.now)
      (s.carrier.checked.filter fun a => outside a.1) } }

theorem State.writeResidents_eq (s : State) (p : Nat) (q : ResideP) (st : Stream) :
    s.writeResidents p q st = (s.regions p q).foldl (State.enterRegion p q st) s := rfl

theorem State.enterRegion_writable {p : Nat} {sh : Shape} {s : State} (h : Writable p sh s) (q : ResideP) (st : Stream) (r : Region) :
    Writable p sh (s.enterRegion p q st r) ∧
    (s.enterRegion p q st r).carrier.ertShadow = Tab.put 0 s.carrier.ertShadow (sh.ertBase + r.expert) r.entry := by
  obtain ⟨parts, regs, shadow⟩ := s.storeHeaders_kept r.addr ((st.shards.drop (r.first - q.entry)).take (ertShards r.ert))
  have ready := h.of_same parts regs
  refine ⟨(ready.writeShadow r.expert r.entry).of_same rfl rfl, ?_⟩
  rw [← shadow]
  exact (State.writeShadow_writable ready _ _).1

/-- Every expert's entry in the shadow bank is the one of its new region. -/
theorem State.writeResidents_shadow {p : Nat} {sh : Shape} {s : State} (h : Writable p sh s) (q : ResideP) (st : Stream) {r : Region}
    (mem : r ∈ s.regions p q) : Tab.get 0 (s.writeResidents p q st).carrier.ertShadow (sh.ertBase + r.expert) = r.entry := by
  rw [State.writeResidents_eq]
  refine (foldl_reaches (I := Writable p sh) (P := fun u => Writable p sh u ∧
      Tab.get 0 u.carrier.ertShadow (sh.ertBase + r.expert) = r.entry) mem (fun u y w => (State.enterRegion_writable w q st y).1)
    (fun u w => ?_) (fun u y hy ne ⟨w, entry⟩ => ?_) h).2
  · obtain ⟨w', shadow⟩ := State.enterRegion_writable w q st r
    exact ⟨w', by rw [shadow, Tab.get_put_same]⟩
  · obtain ⟨w', shadow⟩ := State.enterRegion_writable w q st y
    refine ⟨w', ?_⟩
    rw [shadow, Tab.get_put_other _ _ _ fun same => ?_, entry]
    exact ne (List.inj_on_of_nodup_map (s.regions_distinct p q) hy mem (Nat.add_left_cancel same).symm)

/-! ### The command -/

/-- Slots that a RESIDE needs and cannot have (R201). -/
def State.shortSlots (s : State) (d : Cmd) (p : Nat) : Nat := ((s.neededSlots p d.reside).filter fun a => s.slotTaken p a).length

theorem State.resideStep_refused {s : State} {d : Cmd} {p : Nat} {st : Stream} (stream : (s.part p).stream d = some st)
    (asked : st.asked = false) (short : s.shortSlots d p ≠ 0) (lim : Nat) :
    s.resideStep d p lim = (s.modStrm p (·.without d)).done d (d.t0 + 1) 0x2000
      (s.shortSlots d p + (s.neededSlots p d.reside).length * 2 ^ 32) := by
  simp only [State.resideStep, stream]
  exact if_pos ⟨asked, short⟩

theorem State.resideStep_asks {s : State} {d : Cmd} {p : Nat} {st : Stream} (stream : (s.part p).stream d = some st)
    (asked : st.asked = false) (room : s.shortSlots d p = 0) (lim : Nat) : s.resideStep d p lim = (s.ask p st).pumpTo d p lim := by
  simp only [State.resideStep, stream, asked]
  exact if_neg fun h => h.2 room

theorem State.resideStep_asked {s : State} {d : Cmd} {p : Nat} {st : Stream} (stream : (s.part p).stream d = some st)
    (asked : st.asked = true) (lim : Nat) : s.resideStep d p lim = s.pumpTo d p lim := by
  simp only [State.resideStep, stream, asked, Bool.true_eq_false, false_and, if_false, if_true]

/-- The pump of a RESIDE whose shards are all stored makes its experts' shadow entries resident (R200). -/
theorem State.pumpTo_resident {s : State} {d : Cmd} {p : Nat} {st : Stream} {sh : Shape} (stream : (s.part p).stream d = some st)
    (found : s.findCmd d.queue d.seq = some d) (due : d.due = none) (begun : d.began.isSome = true) (op : d.op = 0x203)
    (verdicts : ∀ h ∈ st.shards, h.verdict.isSome = true) (place : InPlace s p d st) (writable : Writable p sh s) (lim : Nat) :
    ∀ r ∈ s.regions p d.reside, Tab.get 0 (s.pumpTo d p lim).carrier.ertShadow (sh.ertBase + r.expert) = r.entry := by
  intro r mem
  obtain ⟨x, e⟩ := State.pumpTo_inPlace stream found due begun verdicts place lim
  have upto := State.setUpto_found found x
  have plan := State.whole_plan found p st x
  have carrier : (s.whole d p st x).carrier = s.carrier := by
    rw [State.whole, upto]
    rfl
  have regs : (s.whole d p st x).regs = s.regs := by
    rw [State.whole, upto]
    rfl
  have ready : Writable p sh (s.whole d p st x) := by
    rwa [Writable, plan.bind, State.get_of_regs regs]
  rw [e, State.doneLinks_eq]
  show Tab.get 0 ((s.whole d p st x).entered d p st).carrier.ertShadow _ = _
  rw [State.entered, if_pos op]
  exact State.writeResidents_shadow ready _ _ (plan.regions carrier _ ▸ mem)

theorem execReside_running {s : State} {c : CmdId} {d : Cmd} {p : Nat} (run : Running s c 0x203 d p) :
    exec (.reside c) s = .next (s.resideStep d p s.now) := by
  obtain ⟨ready, part⟩ := run
  show execReside c s = _
  simp only [execReside, ready, part]

theorem reside_changes {s t : State} {c : CmdId} (e : exec (.reside c) s = .next t) : Changes streamFields streamParts s t :=
  Same.changes (execReside_frame e) (by decide +kernel)

/-- Settles O35: the step refuses, or asks for its shards, or is the pump of a stream in place, which writes the entries. -/
theorem resideStoresExperts : Obligations.ResideStoresExperts := by
  intro s c
  obtain ⟨t, next⟩ := exec_next (.reside c) s
  refine ⟨⟨t, next, reside_changes next, trivial⟩, fun d p st sh stream run => ?_⟩
  have e := execReside_running run
  obtain ⟨found, due⟩ := State.ready_running run.1
  obtain ⟨op, begun⟩ := State.ready_begun run.1
  refine ⟨fun asked short => ?_, fun asked room some_ unsent => ?_, fun asked shape busy verdicts place => ?_⟩
  · rw [State.resideStep_refused stream asked short] at e
    exact ⟨_, e, reside_changes e, retiresAt_done found due rfl rfl _ _ _, State.stream_dropped s p d, rfl, rfl⟩
  · rw [State.resideStep_asks stream asked room] at e
    obtain ⟨noted, out, carrier, -⟩ := State.ask_pumps stream found due some_ unsent s.now
    exact ⟨_, e, reside_changes e, noted, out, carrier⟩
  · rw [State.resideStep_asked stream asked] at e
    obtain ⟨retires, ended, -⟩ := State.pumpTo_retires stream found due begun verdicts place s.now
    refine ⟨_, e, reside_changes e, retires, ended, fun r mem page high => ?_⟩
    rw [State.pumpTo_resident stream found due begun op verdicts place ⟨shape, busy⟩ s.now r mem]
    exact ⟨r.ertState_entry, Region.ertCaddr_entry page high, r.ertShards_entry⟩

end Sys2Proof.Machine
end

section
/-! EVICT, SLOT_FREE and SWAP_MODEL (R202, R205). -/

namespace Sys2Proof.Machine
open Sys2Proof.Safety

/-! ### Entries of the shadow bank -/

theorem State.ertShadow_of_plan {p : Nat} {s t : State} (plan : SamePlan p s t) (carrier : t.carrier = s.carrier) :
    t.ertShadow p = s.ertShadow p := by
  funext e
  simp only [State.ertShadow, plan.bind, carrier]

/-- A command that notes something of its partition's streams and is done leaves the shadow bank. -/
theorem State.ertShadow_streams (s : State) (p : Nat) (g : PartStream → PartStream) (d : Cmd) (x status detail : Nat) :
    ((s.modStrm p g).done d x status detail).ertShadow p = s.ertShadow p :=
  State.ertShadow_of_plan ((PlanKept.modStrm g).plan.trans (SamePlan.of_part (State.done_part _ _ _ _ _ _))) (State.done_carrier _ _ _ _ _)

theorem Writable.ertShadow {p : Nat} {sh : Shape} {s : State} (h : Writable p sh s) {e : Nat} (inside : e < sh.ertCount) :
    s.ertShadow p e = Tab.get 0 s.carrier.ertShadow (sh.ertBase + e) := by
  simp only [State.ertShadow, h.1, if_pos inside]

theorem State.ertShadow_writeShadow {p : Nat} {sh : Shape} {s : State} (h : Writable p sh s) {i : Nat} (inside : i < sh.ertCount)
    (e v : Nat) : (s.writeShadow p e v).ertShadow p i = if i = e then v else s.ertShadow p i := by
  rw [(h.writeShadow e v).ertShadow inside, h.ertShadow inside, (State.writeShadow_writable h e v).1]
  split
  · next same => rw [same, Tab.get_put_same]
  · next other => exact Tab.get_put_other _ _ _ fun same => other (Nat.add_left_cancel same)

/-- `n` experts from `first` on become STATE 1 in the shadow bank (R202). -/
def State.unmap (s : State) (p first n : Nat) : State := (List.range n).foldl (fun (s : State) i =>
  s.writeShadow p (first + i) (s.ertShadow p (first + i) / 4 * 4 + 1)) s

theorem State.unmap_succ (s : State) (p first n : Nat) : s.unmap p first (n + 1) =
    (s.unmap p first n).writeShadow p (first + n) ((s.unmap p first n).ertShadow p (first + n) / 4 * 4 + 1) := by
  rw [State.unmap, List.range_succ, List.foldl_append]
  rfl

theorem State.unmap_ertShadow {p : Nat} {sh : Shape} {s : State} (h : Writable p sh s) (first n : Nat) :
    Writable p sh (s.unmap p first n) ∧ ∀ i, first + i < sh.ertCount →
      (s.unmap p first n).ertShadow p (first + i) =
        if i < n then s.ertShadow p (first + i) / 4 * 4 + 1 else s.ertShadow p (first + i) := by
  induction n with
  | zero => exact ⟨h, fun i _ => rfl⟩
  | succ n ih =>
    obtain ⟨writable, entries⟩ := ih
    rw [State.unmap_succ]
    refine ⟨writable.writeShadow _ _, fun i inside => ?_⟩
    rw [State.ertShadow_writeShadow writable inside, entries i inside]
    rcases Nat.lt_trichotomy i n with less | rfl | more
    · rw [if_neg (by omega), if_pos less, if_pos (by omega)]
    · rw [if_pos rfl, entries i inside, if_neg (Nat.lt_irrefl i), if_pos (Nat.lt_succ_self i)]
    · rw [if_neg (by omega), if_neg (by omega), if_neg (by omega)]

theorem State.writeShadow_committed (s : State) (p e v : Nat) :
    (s.writeShadow p e v).carrier.ertCommitted = s.carrier.ertCommitted := by
  unfold State.writeShadow
  split
  · rw [State.event_carrier]
  · split <;> rfl

/-! ### The commands -/

/-- The slots of one more EVICT wait to be freed. -/
def PartStream.hold (x : PartStream) (v : Evict) : PartStream := { x with evicts := x.evicts ++ [v] }

/-- EVICT's entries in the shadow bank, if it names any. -/
def State.evicted (s : State) (d : Cmd) (p : Nat) : State :=
  if d.evict.unmap then s.unmap p d.evict.expert d.evict.count else s

theorem State.evicted_frame (s : State) (d : Cmd) (p : Nat) :
    Same 0x2008000000000000000000000000000000001c000000000000000000000000000000000000000000000000000000000000000000000 s (s.evicted d p) :=
  Same.ite (Same.foldl (fun _ _ h => Same.via State.writeShadow_frame (by decide) h) _ Same.refl) Same.refl

theorem State.evicted_committed (s : State) (d : Cmd) (p : Nat) : (s.evicted d p).carrier.ertCommitted = s.carrier.ertCommitted := by
  unfold State.evicted
  split
  · exact foldl_kept (fun t : State => t.carrier.ertCommitted) (fun t _ => t.writeShadow_committed p _ _) _ s
  · rfl

theorem execEvict_running {s : State} {c : CmdId} {d : Cmd} {p : Nat} (run : Running s c 0x204 d p) :
    exec (.evict c) s = .next (((s.evicted d p).modStrm p (·.hold ⟨d.evict.caddr, d.evict.slots, (s.evicted d p).now⟩)).done d
      (d.t0 + 1) 0 0) := by
  obtain ⟨ready, part⟩ := run
  show execEvict c s = _
  simp only [execEvict, ready, part]
  rfl

theorem execSwapModel_running {s : State} {c : CmdId} {d : Cmd} {p : Nat} (run : Running s c 0x205 d p) :
    exec (.swapModel c) s = .next (((s.modStrm p fun x => { x with swap := some d.batch }).put .PART_MODEL_CTL_PENDING p 1).done d
      (d.t0 + 1) 0 0) := by
  obtain ⟨ready, part⟩ := run
  show execSwapModel c s = _
  simp only [execSwapModel, ready, part]

theorem execSlotFree_edge {s : State} {p : Fin 16} (edge : s.atEdge = true) : exec (.slotFree p) s =
    .next (s.modStrm p.val fun x => { x with evicts := x.evicts.filter fun v => !(decide (v.cycle < s.now) && s.mayFree p.val v) }) := by
  show execSlotFree p s = _
  simp only [execSlotFree, edge, if_true]

/-- Settles O40: EVICT's entries by induction over the experts (`State.unmap_ertShadow`); the others by their one change each. -/
theorem evictHoldsSlotsUntilFree : Obligations.EvictHoldsSlotsUntilFree := by
  intro s c d p
  refine ⟨fun run => ?_, fun p edge => ?_, fun run => ?_⟩
  · have e := execEvict_running run
    obtain ⟨found, due⟩ := State.ready_running run.1
    have frame := s.evicted_frame d p
    have parts := frame.parts (by decide)
    have kept : PlanKept p s (s.evicted d p) := PlanKept.of_frame frame (by decide)
    have held := kept.trans (PlanKept.modStrm (·.hold ⟨d.evict.caddr, d.evict.slots, (s.evicted d p).now⟩))
    refine ⟨_, e, Same.changes (execEvict_frame e) (by decide +kernel), retiresAt_done found due held.cmds held.rehearsal _ _ _, ?_,
      fun unmap idle i named inside => ?_, s.evicted_committed d p⟩
    · rw [State.done_part, State.part_modStrm, State.part_of_parts parts, kept.now]
      rfl
    · obtain ⟨sh, shape⟩ : ∃ sh, (s.part p).bind.shape = some sh := by
        cases shape : (s.part p).bind.shape with
        | none => simp [Part.ertCount, shape] at inside
        | some sh => exact ⟨sh, rfl⟩
      simp only [Part.ertCount, shape] at inside
      have entry := (State.unmap_ertShadow ⟨shape, idle⟩ d.evict.expert d.evict.count).2 i inside
      rw [if_pos named] at entry
      rw [State.ertShadow_streams, State.evicted, if_pos unmap, entry]
  · have e := execSlotFree_edge (p := p) edge
    refine ⟨_, e, Same.changes (execSlotFree_frame e) (by decide +kernel), fun v => ?_⟩
    rw [State.part_modStrm, List.mem_filter]
    simp only [Bool.not_eq_true', Bool.and_eq_false_iff, decide_eq_false_iff_not, not_and_or, Bool.not_eq_true]
  · have e := execSwapModel_running run
    obtain ⟨found, due⟩ := State.ready_running run.1
    refine ⟨_, e, Same.changes (execSwapModel_frame e) (by decide +kernel), retiresAt_done found due rfl rfl _ _ _, ?_, ?_⟩
    · rw [State.done_part, State.put_part, State.part_modStrm]
    · exact State.get_put _ _ _ _

end Sys2Proof.Machine
end

section
/-! WRITEBACK reads its rows and leaves; an encrypted one takes the next number of its key (R207, R259). -/

namespace Sys2Proof.Machine
open Sys2Proof.Safety

/-! ### The rows -/

/-- What rows that are read without an uncorrectable quarter leave alone: all but a count and the log of accesses (R135). -/
structure RowsRead (p : Nat) (s t : State) : Prop extends PlanKept p s t where
  cores : t.cores = s.cores
  ports : t.ports = s.ports
  widths : ∀ n d, t.width8 n d = s.width8 n d
  keys : (t.part p).keys = (s.part p).keys

namespace RowsRead

variable {p : Nat} {s t : State}

theorem refl : RowsRead p s s := ⟨PlanKept.refl, rfl, rfl, fun _ _ => rfl, rfl⟩

theorem trans {u : State} (h : RowsRead p s t) (k : RowsRead p t u) : RowsRead p s u :=
  ⟨h.toPlanKept.trans k.toPlanKept, k.cores.trans h.cores, k.ports.trans h.ports, fun n d => (k.widths n d).trans (h.widths n d),
   k.keys.trans h.keys⟩

theorem lcore (h : RowsRead p s t) (lc : Nat) : t.lcore p lc = s.lcore p lc := by
  rw [State.lcore, State.lcore, Part.position_of_bind h.plan.bind]
  simp only [State.core, h.cores]

theorem linkBits (h : RowsRead p s t) (n : Nat) (d : Dir) : t.linkBits n d = s.linkBits n d := by
  rw [State.linkBits, State.linkBits, h.widths, State.port, State.port, h.ports]

end RowsRead

theorem State.countEcc_read (s : State) (p lc x r : Nat) : RowsRead p s (s.countEcc p lc x r) := by
  have frame : Same _ s (s.countEcc p lc x r) := State.countEcc_frame
  refine ⟨PlanKept.of_frame frame (by decide), frame.cores (by decide), frame.ports (by decide), fun n d => ?_, ?_⟩
  · cases d
    · rw [State.width8, State.width8, frame.reg _ n (by decide) (by decide)]
    · rw [State.width8, State.width8, frame.reg _ n (by decide) (by decide)]
  · rw [State.part_of_parts (frame.parts (by decide))]

theorem State.addUses_read (s : State) (p : Nat) (us : List SlotUse) : RowsRead p s (s.addUses p us) := by
  have part : (s.addUses p us).part p = { s.part p with run := { (s.part p).run with uses := (s.part p).run.uses ++ us } } :=
    State.part_modRun _ _ _
  exact ⟨⟨rfl, rfl, rfl, by rw [part], by rw [part], by rw [part]⟩, rfl, rfl, fun _ _ => rfl, by rw [part]⟩

theorem State.readRow_read {s : State} {p lc x row : Nat} (sound : (s.lcore p lc).eccFaults lc x row = []) (d : Cmd) :
    RowsRead p s (s.readRow d p x lc row) := by
  rw [State.readRow, sound]
  exact (s.countEcc_read p lc x row).trans (State.addUses_read _ _ _)

/-- Rows of one core that are read as long as the command goes on. -/
def State.readRows (s : State) (d : Cmd) (p lc : Nat) (rows : List (Nat × Nat)) : State :=
  rows.foldl (fun (s : State) r => if s.alive d then s.readRow d p r.2 lc r.1 else s) s

theorem State.readRows_read {s : State} {p lc : Nat} {rows : List (Nat × Nat)}
    (sound : ∀ r ∈ rows, (s.lcore p lc).eccFaults lc r.2 r.1 = []) (d : Cmd) : RowsRead p s (s.readRows d p lc rows) := by
  refine List.foldlRecOn _ _ (motive := RowsRead p s) RowsRead.refl fun u h r mem => ?_
  split
  · exact h.trans (State.readRow_read (by rw [h.lcore, sound r mem]) d)
  · exact h

/-! ### The shard leaves -/

/-- An encrypted WRITEBACK takes the next number of its key (R207, R415). -/
def State.numbered (s : State) (p : Nat) (q : WritebackP) : State :=
  if q.enc then s.modPart p fun x => { x with keys := { x.keys with ivs := Tab.put 0 x.keys.ivs q.key (Tab.get 0 x.keys.ivs q.key + 1) } }
  else s

theorem State.numbered_kept (s : State) (p : Nat) (q : WritebackP) : PlanKept p s (s.numbered p q) := by
  unfold State.numbered
  split
  · exact ⟨rfl, rfl, rfl, by rw [State.part_modPart], by rw [State.part_modPart], by rw [State.part_modPart]⟩
  · exact PlanKept.refl

theorem State.numbered_linkBits (s : State) (p : Nat) (q : WritebackP) : (s.numbered p q).linkBits = s.linkBits := by
  unfold State.numbered
  split <;> rfl

theorem State.numbered_ivs (s : State) (p : Nat) (q : WritebackP) : Tab.get 0 ((s.numbered p q).part p).keys.ivs q.key =
    Tab.get 0 (s.part p).keys.ivs q.key + (if q.enc then 1 else 0) := by
  unfold State.numbered
  split
  · rw [State.part_modPart]
    exact Tab.get_put_same _ _ _ _
  · rfl

theorem State.sendWriteback_eq (s : State) (d : Cmd) (p : Nat) (e : PlanEntry) : ∃ bytes, s.sendWriteback d p e =
    ((s.numbered p d.writeback).sendWords e.dstFirst 2 2 bytes).doneLinks d
      (max d.t0 ((s.numbered p d.writeback).lastRow p d.writeback.entry 1) + 1)
      ((s.numbered p d.writeback).linkBits e.dstFirst .tx) := ⟨_, rfl⟩

/-- The command then retires in the cycle after its last row, over its port (R259). -/
theorem State.sendWriteback_retires {s : State} {d v : Cmd} (found : s.findCmd d.queue d.seq = some v) (due : v.due = none) (p : Nat)
    (e : PlanEntry) :
    RetiresOver s (s.sendWriteback d p e) d (max d.t0 (s.lastRow p d.writeback.entry 1) + 1) (s.linkBits e.dstFirst .tx) ∧
    Tab.get 0 ((s.sendWriteback d p e).part p).keys.ivs d.writeback.key =
      Tab.get 0 (s.part p).keys.ivs d.writeback.key + (if d.writeback.enc then 1 else 0) := by
  obtain ⟨bytes, eq⟩ := s.sendWriteback_eq d p e
  have numbered := s.numbered_kept p d.writeback
  have frame : Same _ (s.numbered p d.writeback) ((s.numbered p d.writeback).sendWords e.dstFirst 2 2 bytes) := State.sendWords_frame
  have sent : PlanKept p s _ := numbered.trans (PlanKept.of_frame frame (by decide))
  rw [eq, numbered.plan.lastRow, s.numbered_linkBits]
  refine ⟨retiresOver_doneLinks ((sent.findCmd _ _).trans found) due sent.rehearsal d.upto _ _, ?_⟩
  rw [State.doneLinks_part, State.part_of_parts (frame.parts (by decide)), State.numbered_ivs]

theorem execWriteback_running {s : State} {c : CmdId} {d : Cmd} {p : Nat} (run : Running s c 0x207 d p) :
    exec (.writeback c) s = .next (s.writeback d p s.now) := by
  obtain ⟨ready, part⟩ := run
  show execWriteback c s = _
  simp only [execWriteback, ready, part]

/-- The rows of a WRITEBACK that its reads up to cycle `lim` have still to bring. -/
def State.rowsDue (s : State) (d : Cmd) (p lim : Nat) : List (Nat × Nat) :=
  (s.writebackReads p d.writeback).filter fun r => decide (s.uptoOf d ≤ r.2) && decide (r.2 ≤ lim)

/-- A WRITEBACK whose rows have all been read by cycle `lim` leaves, standing at the next cycle. -/
theorem State.writeback_leaves {s u v : State} {d w : Cmd} {p lim : Nat} {e : PlanEntry} {b : Bound}
    (entry : (s.part p).entry d.writeback.entry = some (e, b)) (read : s.readRows d p e.src (s.rowsDue d p lim) = u)
    (upto : u.setUpto d (lim + 1) = v) (found : v.findCmd d.queue d.seq = some w) (last : v.lastRow p d.writeback.entry 1 ≤ lim) :
    s.writeback d p lim = v.sendWriteback d p e := by
  subst upto read
  simp only [State.writeback, entry]
  exact if_pos ⟨State.alive_of_found found, last⟩

/-- With no uncorrectable quarter in what it reads, it retires as its plan entry and its port say. -/
theorem State.writeback_retires {s : State} {d : Cmd} {p lim : Nat} {e : PlanEntry} {b : Bound}
    (found : s.findCmd d.queue d.seq = some d) (due : d.due = none) (entry : (s.part p).entry d.writeback.entry = some (e, b))
    (last : s.lastRow p d.writeback.entry 1 ≤ lim)
    (sound : ∀ r ∈ s.writebackReads p d.writeback, (s.lcore p e.src).eccFaults e.src r.2 r.1 = []) :
    RetiresOver s (s.writeback d p lim) d (max d.t0 (s.lastRow p d.writeback.entry 1) + 1) (s.linkBits e.dstFirst .tx) ∧
    Tab.get 0 ((s.writeback d p lim).part p).keys.ivs d.writeback.key =
      Tab.get 0 (s.part p).keys.ivs d.writeback.key + (if d.writeback.enc then 1 else 0) := by
  generalize rows : s.readRows d p e.src (s.rowsDue d p lim) = u
  have read : RowsRead p s u := rows ▸ State.readRows_read (fun r mem => sound r (List.mem_of_mem_filter mem)) d
  have here := (read.findCmd _ _).trans found
  generalize stands : u.setUpto d (lim + 1) = v
  have upto := stands ▸ State.setUpto_findCmd here (lim + 1)
  have lastRow : v.lastRow p = s.lastRow p := stands ▸ (read.plan.trans (State.setUpto_plan here p _)).lastRow
  rw [State.setUpto_found here] at stands
  have mark : v.rehearsal = s.rehearsal := stands ▸ read.rehearsal
  have links : v.linkBits e.dstFirst .tx = s.linkBits e.dstFirst .tx := stands ▸ read.linkBits e.dstFirst .tx
  have keys : (v.part p).keys = (s.part p).keys := stands ▸ read.keys
  rw [State.writeback_leaves entry rows (State.setUpto_found here _ ▸ stands) upto (lastRow ▸ last), ← lastRow, ← links, ← keys]
  obtain ⟨⟨x, y, retires⟩, number⟩ := State.sendWriteback_retires upto due p e
  exact ⟨⟨x, y, mark ▸ retires⟩, number⟩

/-- Settles O42: reading its rows changes nothing of what the command is (`State.readRows_read`); its shard then leaves as planned. -/
theorem writebackLeavesWithItsKeyCount : Obligations.WritebackLeavesWithItsKeyCount := by
  intro s c
  refine ⟨⟨_, rfl, Same.changes (execWriteback_frame rfl) (by decide +kernel), trivial⟩, fun d p e b run entry past sound => ?_⟩
  have next := execWriteback_running run
  obtain ⟨found, due⟩ := State.ready_running run.1
  exact ⟨_, next, Same.changes (execWriteback_frame next) (by decide +kernel), State.writeback_retires found due entry past sound⟩

end Sys2Proof.Machine
end

section
/-! The verdict of a shard (R177 to R180, R192). -/

namespace Sys2Proof.Machine
open Sys2Proof.Safety

/-! ### A verdict that is good -/

theorem State.journalInput_kept (s : State) (d : Cmd) (p kind port entry rows : Nat) (ref digest : Bytes) :
    PlanKept p s (s.journalInput d p kind port entry rows ref digest) ∧
    ((s.journalInput d p kind port entry rows ref digest).part p).strm = (s.part p).strm := by
  have frame : Same _ s (s.journalInput d p kind port entry rows ref digest) := State.journalInput_frame
  have part := s.journal_sansJournal p 5 d.queue d.seq
    (natLE 1 kind ++ natLE 1 port ++ natLE 2 entry ++ natLE 4 rows ++ fitBytes 8 ref ++ fitBytes 48 digest) p
  have strm := congrArg Part.strm part
  exact ⟨⟨frame.cmds (by decide), frame.clock (by decide), frame.rehearsal (by decide), SamePlan.of_sansJournal part⟩, strm⟩

theorem State.settleRing_kept (s : State) (p : Nat) (d : Cmd) (x : Nat) : PlanKept p s (s.settleRing p d x) ∧
    ((s.settleRing p d x).part p).strm.streams = (s.part p).strm.streams := by
  unfold State.settleRing
  split
  · exact ⟨PlanKept.modStrm _, by rw [State.part_modStrm]⟩
  · exact ⟨PlanKept.refl, rfl⟩

/-- Shard `k` of a stream has its good verdict: it is in the journal, and its ring's buffers know (R177, R180, R337). -/
def State.accepted (s : State) (d : Cmd) (p : Nat) (st : Stream) (k : Nat) (h : Shard) : State :=
  let s := s.journalInput d p 0 h.port h.entry (s.movedRows p d h) (natLE 6 h.id) (shDigest h.header)
  (s.setStream p (st.setShard k { h with verdict := some (0, s.now) })).settleRing p d s.now

theorem State.accepted_kept (s : State) (d : Cmd) (p : Nat) (st : Stream) (k : Nat) (h : Shard) : PlanKept p s (s.accepted d p st k h) :=
  ((s.journalInput_kept d p 0 h.port h.entry (s.movedRows p d h) (natLE 6 h.id) (shDigest h.header)).1.trans
    (PlanKept.setStream _)).trans (State.settleRing_kept _ _ _ _).1

theorem State.accepted_stream {s : State} {d : Cmd} {p : Nat} {st : Stream} (stream : (s.part p).stream d = some st) (k : Nat)
    (h : Shard) : ((s.accepted d p st k h).part p).stream d = some (st.setShard k { h with verdict := some (0, s.now) }) := by
  obtain ⟨kept, strm⟩ := s.journalInput_kept d p 0 h.port h.entry (s.movedRows p d h) (natLE 6 h.id) (shDigest h.header)
  obtain ⟨queue, seq⟩ := Part.stream_name stream
  rw [Part.stream, ← strm, ← Part.stream] at stream
  rw [State.accepted, Part.stream, (State.settleRing_kept _ _ _ _).2, ← kept.now]
  exact State.stream_setStream stream queue seq

/-- A verdict changes nothing of what a shard brings. -/
theorem inPlace_judged {s : State} {p : Nat} {d : Cmd} {st : Stream} {h : Shard} (only : st.shards = [h]) (place : InPlace s p d st)
    (v : Nat × Nat) : InPlace s p d (st.setShard 0 { h with verdict := some v }) ∧
    lastPlaced s p d (st.setShard 0 { h with verdict := some v }) = lastPlaced s p d st := by
  have shards : (st.setShard 0 { h with verdict := some v }).shards = [{ h with verdict := some v }] := by
    rw [Stream.setShard, only]
    rfl
  refine ⟨fun g mem => ?_, ?_⟩
  · rw [shards, List.mem_singleton] at mem
    subst mem
    exact place h (only ▸ List.mem_singleton_self h)
  · rw [lastPlaced, lastPlaced, shards, only]
    rfl

/-! ### The command -/

theorem execVerdict_found {s : State} {c : CmdId} {d : Cmd} {p : Nat} (found : s.findCmd c.queue.val c.seq = some d)
    (part : d.part = some p) (k : Nat) : exec (.verdict c k) s = .next (s.verdict d p k) := by
  show execVerdict c k s = _
  simp only [execVerdict, found, part]

/-- A shard that is wholly there and judged bad is a DIGEST_FAIL of its command (R177 to R179). -/
theorem State.verdict_bad {s : State} {d : Cmd} {p k e : Nat} {st : Stream} {h : Shard} (alive : (s.pump d p).alive d = true)
    (stream : ((s.pump d p).part p).stream d = some st) (listed : st.shards[k]? = some h) (fresh : h.verdict = none)
    (full : h.full = true) (kept : h.lost = 0) (bad : h.cause = some e) :
    s.verdict d p k = (s.pump d p).fault d 0x3002 (h.id % 2 ^ 48 + e * 2 ^ 48) := by
  simp only [State.verdict, alive, if_true, stream, listed]
  rw [if_neg (by simp [fresh, full, kept, bad])]
  simp only [bad, State.digestFail]

theorem State.verdict_good {s : State} {d : Cmd} {p k : Nat} {st : Stream} {h : Shard} (alive : (s.pump d p).alive d = true)
    (stream : ((s.pump d p).part p).stream d = some st) (listed : st.shards[k]? = some h) (fresh : h.verdict = none)
    (full : h.full = true) (kept : h.lost = 0) (delivered : h.delivered = true) (good : h.cause = none) :
    s.verdict d p k = ((s.pump d p).accepted d p st k h).pump d p := by
  simp only [State.verdict, alive, if_true, stream, listed]
  rw [if_neg (by simp [fresh, full, kept, delivered])]
  simp only [good]
  rfl

/-- The good verdict of a command's only shard, which is in place, lets the command retire in the next cycle (R192). -/
theorem State.accepted_retires {s : State} {d : Cmd} {p : Nat} {st : Stream} {h : Shard} (stream : (s.part p).stream d = some st)
    (found : s.findCmd d.queue d.seq = some d) (due : d.due = none) (begun : d.began.isSome = true) (only : st.shards = [h])
    (place : InPlace s p d st) :
    RetiresOver s ((s.accepted d p st 0 h).pump d p) d (max (max d.t0 s.now) (lastPlaced s p d st) + 1) st.degraded ∧
    (((s.accepted d p st 0 h).pump d p).part p).stream d = none := by
  have kept := s.accepted_kept d p st 0 h
  have judged := State.accepted_stream stream 0 h
  obtain ⟨there, last⟩ := inPlace_judged only place (0, s.now)
  have shards : (st.setShard 0 { h with verdict := some (0, s.now) }).shards = [{ h with verdict := some (0, s.now) }] := by
    rw [Stream.setShard, only]
    rfl
  have verdicts : ∀ g ∈ (st.setShard 0 { h with verdict := some (0, s.now) }).shards, g.verdict.isSome = true := by
    rw [shards]
    simp
  have verdict : lastVerdict d (st.setShard 0 { h with verdict := some (0, s.now) }) = max d.t0 s.now := by
    rw [lastVerdict, shards]
    rfl
  obtain ⟨retires, ended, -⟩ := State.pumpTo_retires judged ((kept.findCmd _ _).trans found) due begun verdicts (kept.inPlace there)
    (s.accepted d p st 0 h).now
  rw [kept.plan.lastPlaced, last, verdict, RetiresOver, RetiresWith, kept.rehearsal] at retires
  exact ⟨retires, ended⟩

/-- Settles O37: a bad verdict is the fault of `State.verdict_bad`; a good one leaves a stream in place with all its verdicts. -/
theorem verdictEndsTheShard : Obligations.VerdictEndsTheShard := by
  intro s c k
  refine ⟨⟨_, rfl, Same.changes (execVerdict_frame rfl) (by decide +kernel), trivial⟩, fun d p st h found part => ?_⟩
  have next := execVerdict_found found part k
  intro u alive stream listed fresh full kept
  refine ⟨fun e bad => ?_, fun good first only _ place here begun due => ?_⟩
  · rw [next, State.verdict_bad alive stream listed fresh full kept bad]
  · subst first
    have delivered := (place h (only ▸ List.mem_singleton_self h)).1
    rw [State.verdict_good alive stream listed fresh full kept delivered good] at next
    exact ⟨_, next, Same.changes (execVerdict_frame next) (by decide +kernel),
      State.accepted_retires stream here due begun only place⟩

end Sys2Proof.Machine
end

section
/-! The words of class 2 frames join the shard under way (R176, R178, R181, R244). -/

namespace Sys2Proof.Machine
open Sys2Proof.Safety

/-! ### How far a shard has come -/

/-- Counter mode makes no byte more than it is given. -/
theorem gcmCrypt_length_le (key iv data : Bytes) : (gcmCrypt key iv data).length ≤ data.length := by
  have blocks (g : Nat × Bytes → Bytes) (fuel : Nat) : ∀ (i : Nat) (l : Bytes),
      ((enumFrom i (chunks 16 fuel l)).flatMap fun c => xorB c.2 (g c)).length ≤ l.length := by
    induction fuel with
    | zero => exact fun _ l => Nat.zero_le _
    | succ fuel ih =>
      intro i l
      rw [chunks]
      split
      · exact Nat.zero_le _
      · have rest := ih (i + 1) (l.drop 16)
        rw [List.length_drop] at rest
        rw [enumFrom, List.flatMap_cons, List.length_append, xorB, List.length_zipWith, List.length_take]
        omega
  exact blocks _ _ _ _

theorem Shard.plain_length_le (h : Shard) : h.plain.length ≤ h.data.length := by
  have kept : (h.data.take (shLen h.header)).length ≤ h.data.length := List.length_take_le' _ _
  unfold Shard.plain
  split
  · cases h.key with
    | none => exact Nat.zero_le _
    | some k => exact (gcmCrypt_length_le _ _ _).trans kept
  · exact kept

/-- Tile headers of a shard are still to come. -/
def Shard.short (h : Shard) : Prop :=
  shKind h.header = 0 ∧ h.lost = 0 ∧ h.data.length < 64 * shTiles h.header ∧ 64 * shTiles h.header ≤ shLen h.header

theorem Shard.headsIn_of_short {h : Shard} (short : h.short) : h.headsIn = false := by
  obtain ⟨kind, -, some_, room⟩ := short
  have plain := h.plain_length_le
  have missing : ¬64 * shTiles h.header ≤ h.plain.length := by omega
  rw [Shard.headsIn, kind, decide_eq_false missing, decide_eq_false (Nat.not_lt.2 room)]
  exact Bool.and_false _

theorem Shard.full_of_short {h : Shard} (short : h.short) : h.full = false := by
  obtain ⟨-, lost, some_, room⟩ := short
  have missing : ¬shWire h.header ≤ h.came := by
    rw [Shard.came, shWire, lost]
    omega
  rw [Shard.full, decide_eq_false missing]
  exact Bool.and_false _

/-! ### A place for a shard -/

/-- The same shard at another place. -/
def Shard.withPlace (h : Shard) (place : List (Nat × Nat × Nat)) (outs : List (Nat × List Nat)) : Shard :=
  { h with place := place, outs := outs }

/-- A place is all that a shard gets; a shard to be pruned gets it only when its headers are in (R182, R206). -/
theorem State.reserveShard_some {s : State} {p k : Nat} {d : Cmd} {st : Stream} {h g : Shard} (listed : st.shards[k]? = some h)
    (e : s.reserveShard p d st k = some g) : (∃ place outs, g = h.withPlace place outs) ∧ (d.op = 0x206 → h.headsIn = true) := by
  simp only [State.reserveShard, listed, Option.ite_none_left_eq_some, Bool.or_eq_true, not_or, Option.some.injEq] at e
  obtain ⟨⟨⟨-, pruned⟩, -⟩, rfl⟩ := e
  refine ⟨⟨_, _, rfl⟩, fun op => ?_⟩
  rw [op] at pruned
  simpa using pruned

/-- Headers that are not in are not wrong (R176). -/
theorem State.headFault_short {s : State} {p : Nat} {d : Cmd} {h : Shard} (short : h.short) : s.headFault d p h = none := by
  rw [State.headFault, Shard.headsIn_of_short short, Bool.not_false, Bool.or_true, if_pos rfl]

/-- The settling of a stream's only shard, whose headers are not in: at most it gets its place. -/
theorem State.settle_short {s : State} {p : Nat} {d : Cmd} {st : Stream} {h : Shard} (only : (s.part p).strm.streams = [st])
    (stream : (s.part p).stream d = some st) (shards : st.shards = [h]) (short : h.short) (op : d.op ≠ 0x203)
    (alive : s.alive d = true) : ∃ place outs, (d.op = 0x206 → place = h.place) ∧ PlanKept p s (s.settle d p 1) ∧
      ((s.settle d p 1).part p).strm.streams = [{ st with shards := [h.withPlace place outs] }] := by
  have listed : st.shards[0]? = some h := by rw [shards]; rfl
  have heads : s.headFault d p h = none := State.headFault_short short
  have one : s.settle d p 1 = s.settleShard d p 0 := rfl
  rw [one]
  simp only [State.settleShard, stream, listed, alive, heads, if_neg op, Bool.true_eq_false, if_false]
  cases reserved : s.reserveShard p d st 0 with
  | none =>
    refine ⟨h.place, h.outs, fun _ => rfl, PlanKept.refl, ?_⟩
    rw [only, Shard.withPlace, ← shards]
  | some g =>
    obtain ⟨⟨place, outs, rfl⟩, pruned⟩ := State.reserveShard_some listed reserved
    refine ⟨place, outs, fun prune => ?_, PlanKept.setStream _, ?_⟩
    · rw [Shard.headsIn_of_short short] at pruned
      exact absurd (pruned prune) Bool.false_ne_true
    · dsimp only
      rw [State.streams_setStream (st := st) (v := st.setShard 0 (h.withPlace place outs)) only rfl rfl, Stream.setShard, shards]
      rfl

/-! ### The pump after a frame -/

/-- Rows that lie ahead are not written yet (R181). -/
theorem pieces_ahead {s : State} {p : Nat} {d : Cmd} {h : Shard} (ahead : Ahead s p h) (pruned : d.op = 0x206 → h.place = [])
    {w : Nat × Nat × Piece} (mem : w ∈ s.pieces p d h) : s.now < w.1 := by
  unfold State.pieces at mem
  cases entry : (s.part p).entry h.entry with
  | none => simp [entry] at mem
  | some x =>
    obtain ⟨e, b⟩ := x
    simp only [entry, List.mem_flatMap] at mem
    obtain ⟨y, placed, mem⟩ := mem
    by_cases op : d.op = 0x206
    · rw [pruned op] at placed
      cases placed
    · rw [if_neg op] at mem
      obtain ⟨j, -, row⟩ := List.mem_filterMap.1 mem
      split at row
      · next _ _ x _ cycle =>
        cases row
        exact (ahead e b entry).2 _ _ _ cycle
      · cases row

/-- The one stream of partition `p` is the one of command `d`, whose only shard `h` waits for tile headers and for its rows' rounds. -/
structure AwaitsHeads (s : State) (p : Nat) (d : Cmd) (st : Stream) (h : Shard) : Prop where
  only : (s.part p).strm.streams = [st]
  command : s.streamCmd st = some d
  shards : st.shards = [h]
  op : d.op ≠ 0x203
  ahead : Ahead s p h
  tether : h.port < 64
  short : h.short
  undelivered : h.delivered = false
  unplaced : d.op = 0x206 → h.place = []

namespace AwaitsHeads

variable {s : State} {p : Nat} {d : Cmd} {st : Stream} {h : Shard}

theorem name (x : AwaitsHeads s p d st h) : d.queue = st.queue ∧ d.seq = st.seq := State.findCmd_name x.command

theorem found (x : AwaitsHeads s p d st h) : s.findCmd d.queue d.seq = some d := by
  obtain ⟨queue, seq⟩ := x.name
  rw [queue, seq]
  exact x.command

theorem stream (x : AwaitsHeads s p d st h) {t : State} {v : Stream} (only : (t.part p).strm.streams = [v])
    (queue : v.queue = st.queue) (seq : v.seq = st.seq) : (t.part p).stream d = some v := by
  obtain ⟨dqueue, dseq⟩ := x.name
  rw [Part.stream, only, List.find?_cons, dqueue, dseq, queue, seq]
  simp

/-- The pump of such a stream: its shard may get a place, and that is all. -/
theorem pump (x : AwaitsHeads s p d st h) : ∃ place outs,
    ((s.pump d p).part p).strm.streams = [{ st with shards := [h.withPlace place outs] }] := by
  have stream := x.stream x.only rfl rfl
  obtain ⟨place, outs, pruned, kept, only⟩ :=
    State.settle_short x.only stream x.shards x.short x.op (State.alive_of_found x.found)
  obtain ⟨u, settled⟩ : ∃ u, s.settle d p 1 = u := ⟨_, rfl⟩
  rw [settled] at kept only
  have found : u.findCmd d.queue d.seq = some d := (kept.findCmd _ _).trans x.found
  have ahead : Ahead u p (h.withPlace place outs) := kept.plan.ahead kept.now x.ahead
  have idle : Idle u p d { st with shards := [h.withPlace place outs] } s.now := by
    refine ⟨fun _ g mem w hw => Or.inr ?_, fun op => absurd op x.op⟩
    rw [List.mem_singleton.1 mem] at hw
    rw [← kept.now]
    exact pieces_ahead ahead (fun op => (pruned op).trans (x.unplaced op)) hw
  obtain ⟨y, e⟩ := State.pumpTo_waiting stream (fun g mem => by
      rw [x.shards, List.mem_singleton] at mem
      exact Or.inl (mem ▸ x.tether)) (fun op => absurd op x.op) (by rw [x.shards]; exact settled) found
    (x.stream only rfl rfl) idle (List.cons_ne_nil _ _) (fun g mem => by
      rw [List.mem_singleton.1 mem]
      exact ⟨Shard.full_of_short (h := h.withPlace place outs) x.short, x.undelivered⟩)
  refine ⟨place, outs, ?_⟩
  rw [State.pump, e]
  refine State.streams_setStream ?_ rfl rfl
  rw [State.setUpto_found found]
  exact only

end AwaitsHeads

/-! ### One word -/

/-- Partition `p`, with no clock step under way, has one stream, of command `d`, which waits for one shard `h` on port `n`; nothing of
the shard is due, and it has no place yet (R176, R181). -/
structure UnderWay (s : State) (n p : Nat) (d : Cmd) (st : Stream) (h : Shard) : Prop where
  only : (s.part p).strm.streams = [st]
  command : s.streamCmd st = some d
  shards : st.shards = [h]
  ahead : Ahead s p h
  port : h.port = n
  id : h.id < 2 ^ 48
  going : h.cancelled = false
  lost : h.lost = 0
  undelivered : h.delivered = false
  unplaced : h.place = []
  quiet : s.power.step = none

theorem Part.onPort_single {x : Part} {n : Nat} {st : Stream} {h : Shard} (only : x.strm.streams = [st]) (shards : st.shards = [h])
    (port : h.port = n) : x.onPort n = [(st, 0, h)] := by
  simp only [Part.onPort, only, shards, List.flatMap_cons, List.flatMap_nil, List.append_nil, enumFrom, List.filterMap_cons, port,
    if_true, List.filterMap_nil]

theorem Stream.setShard_single {st : Stream} {h : Shard} (shards : st.shards = [h]) (g : Shard) :
    st.setShard 0 g = { st with shards := [g] } := by
  rw [Stream.setShard, shards]
  rfl

/-- The key of a shard that takes a payload word: with its first one it meets the key of its slot (R178, R415). -/
def Shard.keyMet (h : Shard) (x : Part) : Option Bytes :=
  if h.data.isEmpty && shEnc h.header then
    (let v := Tab.get [] x.keys.keys (shKey h.header)
     if v.isEmpty then none else some v) else h.key

theorem Shard.keyMet_later {h : Shard} (later : h.data ≠ []) (x : Part) : h.keyMet x = h.key := by
  rw [Shard.keyMet, List.isEmpty_eq_false_iff.2 later]
  rfl

theorem Shard.keyMet_first {h : Shard} {x : Part} (first : h.data = []) (enc : shEnc h.header = true)
    (slot : Tab.get [] x.keys.keys (shKey h.header) ≠ []) : h.keyMet x = some (Tab.get [] x.keys.keys (shKey h.header)) := by
  rw [Shard.keyMet, first, enc, List.isEmpty_nil, Bool.and_true, if_pos rfl]
  exact if_neg (by simpa using slot)

/-- A shard that takes a payload word (R176, R178). -/
def Shard.joined (h : Shard) (x : Part) (w : Bytes) : Shard := { h with data := h.data ++ w, key := h.keyMet x }

/-- A shard of which every word so far is kept keeps the next one too, unless its port's store is full (R361). -/
theorem Shard.more_kept {h : Shard} (lost : h.lost = 0) (w : Bytes) : h.more w false = { h with data := h.data ++ w } :=
  if_pos ⟨rfl, lost⟩

/-- No row of a shard whose rounds lie ahead is late (R181). -/
theorem State.lateRow_ahead {s : State} {p : Nat} {d : Cmd} {old new : Shard} (ahead : Ahead s p new) :
    s.lateRow p d old new = none := by
  rw [State.lateRow]
  cases entry : (s.part p).entry new.entry with
  | none => rfl
  | some x =>
    obtain ⟨e, b⟩ := x
    refine List.find?_eq_none.2 fun j _ late => ?_
    rw [decide_eq_false (Nat.not_lt.2 ((ahead e b entry).1 j))] at late
    simp only [Bool.and_false] at late
    split at late <;> cases late

theorem State.addBytes_load {s : State} {d : Cmd} (op : d.op = 0x200) (p n : Nat) : s.addBytes d p n = s := by
  have slot : s.pendingSlot d = none := by
    rw [State.pendingSlot, Cmd.specSlot, op]
    cases d.part <;> rfl
  rw [State.addBytes, slot]

/-- A shard `h` of a stream of command `d` becomes `g` by a word: its headers are checked, it gets its place, and its rows are in
time or late (R176, R181, R182). -/
def State.joinShard (s : State) (p k : Nat) (d : Cmd) (st : Stream) (h g : Shard) : State :=
  let s := (s.setStream p (st.setShard k g)).addBytes d p (if g.lost = 0 then min 64 (shLen h.header - h.data.length) else 0)
  let s := match s.headFault d p g with
    | some t => t
    | none => s
  if s.alive d = false then s
  else
    let h2 := match (if d.op = 0x203 then none else s.reserveShard p d (st.setShard k g) k) with
      | some x => x
      | none => g
    let s := s.setStream p (st.setShard k h2)
    match s.lateRow p d h h2 with
    | some j => s.absentRow d h.id j
    | none => s

/-- A shard of STREAM_LOAD whose headers are still to come may get its place as it takes the word (R182). -/
theorem State.joinShard_short {s : State} {p : Nat} {d : Cmd} {st v : Stream} {h g : Shard} (only : (s.part p).strm.streams = [st])
    (name : v.queue = st.queue ∧ v.seq = st.seq) (shards : v.shards = [h]) (alive : s.alive d = true) (op : d.op = 0x200)
    (short : g.short) (ahead : Ahead s p g) : PlanKept p s (s.joinShard p 0 d v h g) ∧ ∃ place outs,
      ((s.joinShard p 0 d v h g).part p).strm.streams = [{ v with shards := [g.withPlace place outs] }] := by
  have taken : PlanKept p s (s.setStream p { v with shards := [g] }) := PlanKept.setStream _
  have there := State.streams_setStream (v := { v with shards := [g] }) only name.1 name.2
  have still := (taken.alive d).trans alive
  have heads : (s.setStream p { v with shards := [g] }).headFault d p g = none := State.headFault_short short
  have load : ¬d.op = 0x203 := by
    rw [op]
    decide
  obtain ⟨place, outs, placed⟩ : ∃ place outs, (match
      (s.setStream p { v with shards := [g] }).reserveShard p d { v with shards := [g] } 0 with
      | some x => x
      | none => g) = g.withPlace place outs := by
    cases reserved : (s.setStream p { v with shards := [g] }).reserveShard p d { v with shards := [g] } 0 with
    | none => exact ⟨g.place, g.outs, rfl⟩
    | some x => exact (State.reserveShard_some (h := g) rfl reserved).1
  have late (u : State) (kept : PlanKept p s u) : u.lateRow p d h (g.withPlace place outs) = none :=
    State.lateRow_ahead (kept.plan.ahead kept.now ahead)
  have kept : PlanKept p s ((s.setStream p { v with shards := [g] }).setStream p { v with shards := [g.withPlace place outs] }) :=
    taken.trans (PlanKept.setStream _)
  have e : s.joinShard p 0 d v h g =
      (s.setStream p { v with shards := [g] }).setStream p { v with shards := [g.withPlace place outs] } := by
    simp only [State.joinShard, Stream.setShard_single shards, State.addBytes_load op, heads, still, load, Bool.true_eq_false, if_false,
      placed, late _ kept]
  rw [e]
  exact ⟨kept, place, outs, State.streams_setStream there rfl rfl⟩

namespace UnderWay

variable {s : State} {n p : Nat} {d : Cmd} {st : Stream} {h : Shard} {w : Bytes}

theorem here (x : UnderWay s n p d st h) : (s.part p).onPort n = [(st, 0, h)] := Part.onPort_single x.only x.shards x.port

theorem alive (x : UnderWay s n p d st h) : s.alive d = true := by
  obtain ⟨queue, seq⟩ := State.findCmd_name x.command
  refine State.alive_of_found (e := d) ?_
  rw [queue, seq]
  exact x.command

/-- The first word of a shard is its header (R176). -/
theorem shardWord_header (x : UnderWay s n p d st h) (header : h.header = []) (fits : shOk w h.id = true)
    (prunes : ¬(d.op = 0x206 ∧ (shPrune w = false ∨ shKind w ≠ 0))) :
    s.shardWord n p w = s.setStream p { st with shards := [{ h with header := w }] } := by
  have expected : (s.part p).expected n = some (st, 0, h) := by
    simp only [Part.expected, x.here, List.filter_cons, List.filter_nil, header, x.going, x.id, List.isEmpty_nil, Bool.not_false,
      decide_true, Bool.and_self, if_true, List.foldl_cons, List.foldl_nil]
  simp [State.shardWord, x.here, header, x.going, expected, x.command, fits, if_neg prunes, Stream.setShard_single x.shards]

/-- With its header a shard waits for its tile headers. -/
theorem awaits_header (x : UnderWay s n p d st h) (tether : n < 64) (header : h.header = []) (data : h.data = [])
    (op : d.op = 0x200 ∨ d.op = 0x206) (fits : shOk w h.id = true) (kind : shKind w = 0) (some_ : 0 < shTiles w)
    (room : 64 * shTiles w ≤ shLen w) (prunes : d.op = 0x206 → shPrune w = true) :
    AwaitsHeads (s.shardWord n p w) p d { st with shards := [{ h with header := w }] } { h with header := w } := by
  have sound : ¬(d.op = 0x206 ∧ (shPrune w = false ∨ shKind w ≠ 0)) := by
    rintro ⟨prune, wrong⟩
    simp [prunes prune, kind] at wrong
  have kept : PlanKept p s (s.setStream p { st with shards := [{ h with header := w }] }) := PlanKept.setStream _
  have first : h.data.length < 64 * shTiles w := by
    rw [data]
    exact Nat.mul_pos (by decide) some_
  rw [x.shardWord_header header fits sound]
  exact {
    only := State.streams_setStream (st := st) x.only rfl rfl
    command := (kept.findCmd _ _).trans x.command
    shards := rfl
    op := by rcases op with op | op <;> rw [op] <;> decide
    ahead := kept.plan.ahead kept.now x.ahead
    tether := x.port ▸ tether
    short := ⟨kind, x.lost, first, room⟩
    undelivered := x.undelivered
    unplaced := fun _ => x.unplaced }

/-- A later word of a shard joins it, over a port that may run degraded (R176, R259). -/
theorem shardWord_payload (x : UnderWay s n p d st h) (header : h.header ≠ []) (unfinished : h.full = false) (w : Bytes) :
    s.shardWord n p w =
      s.joinShard p 0 d { st with degraded := (s.linkBits n .rx ++ st.degraded).dedup } h (h.joined (s.part p) w) := by
  have room : s.storeFull n p w.length = false := by
    rw [State.storeFull, x.quiet]
    rfl
  have underWay : (!h.header.isEmpty && !h.full && decide (h.id < 2 ^ 48)) = true := by
    rw [List.isEmpty_eq_false_iff.2 header, unfinished, decide_eq_true x.id]
    rfl
  simp only [State.shardWord, x.here, List.find?_cons, underWay, x.going, x.command, room, Bool.not_false, Bool.true_and,
    Bool.false_eq_true, if_false, Shard.more_kept x.lost, Shard.joined]
  rfl

/-- With a payload word that does not end its tile headers a shard of STREAM_LOAD goes on waiting for them. -/
theorem awaits_payload (x : UnderWay s n p d st h) (tether : n < 64) (header : h.header ≠ []) (unfinished : h.full = false)
    (op : d.op = 0x200) (len : w.length = 64) (kind : shKind h.header = 0) (some_ : h.data.length + 64 < 64 * shTiles h.header)
    (room : 64 * shTiles h.header ≤ shLen h.header) : ∃ deg place outs, AwaitsHeads (s.shardWord n p w) p d
      { st with shards := [(h.joined (s.part p) w).withPlace place outs], degraded := deg }
      ((h.joined (s.part p) w).withPlace place outs) := by
  have words : (h.data ++ w).length < 64 * shTiles h.header := by
    rw [List.length_append, len]
    exact some_
  have short : (h.joined (s.part p) w).short := ⟨kind, x.lost, words, room⟩
  obtain ⟨kept, place, outs, streams⟩ := State.joinShard_short (st := st) (h := h)
    (v := { st with degraded := (s.linkBits n .rx ++ st.degraded).dedup }) x.only ⟨rfl, rfl⟩ x.shards x.alive op short x.ahead
  rw [x.shardWord_payload header unfinished]
  exact ⟨_, place, outs, {
    only := streams
    command := (kept.findCmd _ _).trans x.command
    shards := rfl
    op := by rw [op]; decide
    ahead := kept.plan.ahead kept.now x.ahead
    tether := x.port ▸ tether
    short := short
    undelivered := x.undelivered
    unplaced := fun prune => by rw [op] at prune; cases prune }⟩

end UnderWay

/-! ### One frame -/

theorem frameWords_one {w : WslFrame} (len : w.payload.length = 64) : frameWords w = [w.payload] := by
  have some_ : w.payload.isEmpty = false := by
    rw [List.isEmpty_eq_false_iff, ← List.length_pos_iff, len]
    decide
  rw [frameWords, chunks, some_, if_neg Bool.false_ne_true, List.take_of_length_le len.le, List.drop_of_length_le len.le]
  rfl

theorem State.linkCheck_kept (s : State) (n : Nat) (w : WslFrame) (p : Nat) : PlanKept p s (s.linkCheck n w).2 :=
  PlanKept.of_frame State.linkCheck_frame (by decide)

theorem State.linkCheck_parts (s : State) (n : Nat) (w : WslFrame) : (s.linkCheck n w).2.part = s.part :=
  funext (State.part_of_parts (State.linkCheck_frame.parts (by decide)))

theorem State.linkCheck_owner (s : State) (n : Nat) (w : WslFrame) : (s.linkCheck n w).2.portOwner n = s.portOwner n := by
  simp only [State.portOwner, s.linkCheck_parts n w]

/-- A frame that does not stand, or whose port no partition owns, changes only what its link check counts (R244, R248). -/
theorem execShardData_dropped {s : State} {n : Fin 64} {w : WslFrame} (talks : s.portTalks n.val = true) (cls : w.cls = 2)
    (type : w.type = 1) (drop : (s.linkCheck n.val w).1 = false ∨ s.portOwner n.val = none) :
    exec (.shardData n w) s = .next (s.linkCheck n.val w).2 := by
  have nobody : (if (s.linkCheck n.val w).1 then (s.linkCheck n.val w).2.portOwner n.val else none) = none := by
    rw [s.linkCheck_owner]
    rcases drop with bad | free
    · rw [bad]
      rfl
    · rw [free, ite_self]
  show execShardData n w s = _
  simp only [execShardData, talks, cls, type, nobody, Bool.true_eq_false, ne_eq, not_true_eq_false, or_self, if_false]

/-- The commands that have shards on a port go on. -/
def State.pumpPort (s : State) (n p : Nat) : State :=
  (((s.part p).strm.streams.filter fun st => st.shards.any fun h => h.port == n && decide (h.id < 2 ^ 48)).filterMap s.streamCmd).foldl
    (fun (s : State) c => s.pump c p) s

/-- A frame of one word that stands: the word joins, and the commands of its port go on. -/
theorem execShardData_word {s : State} {n : Fin 64} {w : WslFrame} {p : Nat} {st : Stream} {h : Shard}
    (word : OneWord s n.val w 2 1 p st h) :
    exec (.shardData n w) s = .next (((s.linkCheck n.val w).2.shardWord n.val p w.payload).pumpPort n.val p) := by
  obtain ⟨talks, cls, type, len, stands, owner, -⟩ := word
  show execShardData n w s = _
  simp only [execShardData, talks, cls, type, stands, s.linkCheck_owner, owner, frameWords_one len, Bool.true_eq_false, ne_eq,
    not_true_eq_false, or_self, if_false, if_true, List.foldl_cons, List.foldl_nil]
  rfl

theorem AwaitsHeads.pumpPort {s : State} {p n : Nat} {d : Cmd} {st : Stream} {h : Shard} (waits : AwaitsHeads s p d st h)
    (port : h.port = n) (id : h.id < 2 ^ 48) : s.pumpPort n p = s.pump d p := by
  have listed : (st.shards.any fun h => h.port == n && decide (h.id < 2 ^ 48)) = true := by
    rw [waits.shards, List.any_cons, port, decide_eq_true id, beq_self_eq_true]
    rfl
  rw [State.pumpPort, waits.only, List.filter_cons, if_pos listed, List.filter_nil, List.filterMap_cons, waits.command]
  rfl

/-- The step of a frame of one word, after which its shard still waits for tile headers. -/
theorem execShardData_waits {s : State} {n : Fin 64} {w : WslFrame} {p : Nat} {st v : Stream} {h g : Shard} {d : Cmd}
    (word : OneWord s n.val w 2 1 p st h) (waits : AwaitsHeads ((s.linkCheck n.val w).2.shardWord n.val p w.payload) p d v g)
    (port : g.port = n.val) (id : g.id < 2 ^ 48) :
    ∃ t place outs, exec (.shardData n w) s = .next t ∧ (t.part p).strm.streams = [{ v with shards := [g.withPlace place outs] }] := by
  obtain ⟨place, outs, streams⟩ := waits.pump
  exact ⟨_, place, outs, (execShardData_word word).trans (congrArg _ (waits.pumpPort port id)), streams⟩

/-- A frame of one word that stands finds its shard under way: the link check concerns the port alone. -/
theorem UnderWay.of_word {s : State} {n p : Nat} {w : WslFrame} {st : Stream} {h : Shard} {d : Cmd}
    (word : OneWord s n w 2 1 p st h) (ahead : Ahead s p h) (command : s.streamCmd st = some d) (id : h.id < 2 ^ 48)
    (unplaced : h.place = []) : UnderWay (s.linkCheck n w).2 n p d st h := by
  obtain ⟨-, -, -, -, -, -, only, shards, port, going, lost, undelivered, -, quiet⟩ := word
  have kept := s.linkCheck_kept n w p
  have power : (s.linkCheck n w).2.power = s.power := State.linkCheck_frame.power (by decide)
  exact {
    only := congrFun (s.linkCheck_parts n w) p ▸ only
    command := (kept.findCmd _ _).trans command
    shards := shards
    ahead := kept.plan.ahead kept.now ahead
    port := port
    id := id
    going := going
    lost := lost
    undelivered := undelivered
    unplaced := unplaced
    quiet := power ▸ quiet }

/-- What words of a frame may change: the port, the task that they may end, prediction slots, tile memory and carrier memory. -/
def wordFields : List Field := taskFields ++ slotFields ++ pruneFields ++ frameFields ++ [Field.CORE_TMEM_HAZ_TOTAL,
  Field.CORE_TMEM_HAZ_WW, Field.CORE_TMEM_HAZ_TASK, Field.CORE_TMEM_STAB_VIOL_TOTAL] ++ [Field.HBM_STAT_WW, Field.HBM_ECC_CORRECTED,
  Field.HBM_ECC_UNCORRECTABLE, Field.STRM_FAIL_DIGEST] ++ [Field.TETH_UNCORR_SINCE_TRAIN]

def wordParts : List Component := taskParts ++ [Component.clock, Component.fences, Component.carrier, Component.rehearsal]

theorem shardData_changes {s t : State} {n : Fin 64} {w : WslFrame} (next : exec (.shardData n w) s = .next t) :
    Changes wordFields wordParts s t := Same.changes (execShardData_frame next) (by decide +kernel)

/-- Settles O36: a first word is the header (`UnderWay.awaits_header`), a later one joins its shard (`UnderWay.awaits_payload`). -/
theorem shardWordsJoinTheirShard : Obligations.ShardWordsJoinTheirShard := by
  intro s n w
  refine ⟨execShardData_dropped, fun p st h d word ahead command id unplaced => ?_, ⟨_, rfl, shardData_changes rfl, trivial⟩⟩
  have underWay := UnderWay.of_word word ahead command id unplaced
  have ⟨_, _, _, len, _, _, _, _, port, _, _, undelivered, fresh, _⟩ := word
  refine ⟨fun header data key op fits kind some_ room prunes => ?_, fun header unfinished op kind some_ room => ?_⟩
  · obtain ⟨t, place, outs, next, streams⟩ :=
      execShardData_waits word (underWay.awaits_header n.isLt header data op fits kind some_ room prunes) port id
    exact ⟨t, next, shardData_changes next, _, streams, rfl, data, key, rfl, fresh, undelivered⟩
  · obtain ⟨deg, _, _, waits⟩ := underWay.awaits_payload n.isLt header unfinished op len kind some_ room
    obtain ⟨t, place, outs, next, streams⟩ := execShardData_waits word waits port id
    rw [s.linkCheck_parts] at streams
    exact ⟨t, next, shardData_changes next, _, deg, streams, rfl, rfl, fresh, fun later => Shard.keyMet_later later _,
      Shard.keyMet_first⟩

end Sys2Proof.Machine
end

section
/-! Words of pieces and of plan transfers join what is under way (R231, R232, R247). -/

namespace Sys2Proof.Machine
open Sys2Proof.Safety

/-! ### A frame's link check leaves the lanes -/

theorem State.modPort_lanes {g : Port → Port} (h : ∀ x d, ((g x).dir d).lanes = (x.dir d).lanes) (s : State) (n k : Nat) (d : Dir) :
    (((s.modPort n g).port k).dir d).lanes = ((s.port k).dir d).lanes := by
  by_cases e : k = n
  · subst e
    rw [State.modPort, State.port, State.setPort, Tab.get_put_same]
    exact h _ _
  · rw [State.modPort, State.port, State.setPort, Tab.get_put_other _ _ _ e]
    rfl

/-- Counts of symbols and of frames concern no lane (R244, R257, R260). -/
theorem State.linkCheck_lanes (s : State) (n : Nat) (w : WslFrame) (k : Nat) (d : Dir) :
    (((s.linkCheck n w).2.port k).dir d).lanes = ((s.port k).dir d).lanes := by
  have counted (u : State) (f : Field) (i v : Nat) : (u.tethInc f i v).ports = u.ports := by
    unfold State.tethInc
    dsimp only
    split
    · exact State.event_frame.ports (by decide)
    · rfl
  have corrected (wrong : List (List Nat)) : (((s.countCorrected n wrong).port k).dir d).lanes = ((s.port k).dir d).lanes := by
    unfold State.countCorrected
    dsimp only
    split
    · rfl
    · rw [State.modPort_lanes (fun x d => by cases d <;> rfl), State.port, State.port, counted]
  generalize wrong : s.wrongAt n w = x at corrected
  have checked (since : Bool) : ((((s.countCorrected n x).countUncorr n x since).port k).dir d).lanes = ((s.port k).dir d).lanes := by
    rw [← corrected x, State.port, State.port, State.countUncorr_frame.ports (by decide)]
  unfold State.linkCheck
  dsimp only
  rw [wrong]
  split_ifs
  · rw [State.port, counted]
    exact checked _
  · rw [State.modPort_lanes fun x d => by cases d <;> rfl]
    exact checked _
  · rw [State.modPort_lanes fun x d => by cases d <;> rfl]
    exact checked _
  · exact checked _

theorem State.linkCheck_linkBits (s : State) (n : Nat) (w : WslFrame) : (s.linkCheck n w).2.linkBits = s.linkBits := by
  funext k d
  have frame : Same _ s (s.linkCheck n w).2 := State.linkCheck_frame
  have widths : (s.linkCheck n w).2.width8 k d = s.width8 k d := by
    cases d
    · rw [State.width8, State.width8, frame.reg _ k (by decide) (by decide)]
    · rw [State.width8, State.width8, frame.reg _ k (by decide) (by decide)]
  rw [State.linkBits, State.linkBits, widths, s.linkCheck_lanes]

/-! ### One word joins -/

/-- Partition `p`, with no clock step under way, has one stream, of command `d`, whose one shard `h` comes over port `n`. -/
structure RowsAwaited (s : State) (n p : Nat) (d : Cmd) (st : Stream) (h : Shard) : Prop where
  only : (s.part p).strm.streams = [st]
  command : s.streamCmd st = some d
  shards : st.shards = [h]
  port : h.port = n
  going : h.cancelled = false
  lost : h.lost = 0
  quiet : s.power.step = none

/-- Row `j` of the entry of a piece or transfer is in time when these bytes complete it (R232). -/
def State.rowInTime (s : State) (p : Nat) (e : PlanEntry) (b : Bound) (h : Shard) : Prop :=
  (h.data.length + 64) % 4096 = 0 → s.now ≤ s.roundCycle p (e.rowLast b.round (h.data.length / 4096))

/-- What a word that joins in time makes of its stream (R259). -/
def State.tookWord (s : State) (n p : Nat) (st : Stream) (g : Shard) : State :=
  s.setStream p { st with shards := [g], degraded := (s.linkBits n .rx ++ st.degraded).dedup }

/-- A word that completes no row after its round joins its piece or transfer. -/
theorem State.joinWord_inTime {s : State} {n p : Nat} {d : Cmd} {st : Stream} {h : Shard} {e : PlanEntry} {b : Bound} {w : Bytes}
    (command : s.streamCmd st = some d) (shards : st.shards = [h]) (going : h.cancelled = false) (lost : h.lost = 0)
    (quiet : s.power.step = none) (len : w.length = 64) (entry : (s.part p).entry h.entry = some (e, b))
    (inTime : s.rowInTime p e b h) :
    s.joinWord n p st 0 h w = s.tookWord n p st { h with data := h.data ++ w } := by
  have room : (!h.cancelled && s.storeFull n p w.length) = false := by
    rw [State.storeFull, quiet]
    exact Bool.and_false _
  have taken : ¬h.cancelled = true := by rw [going]; exact Bool.false_ne_true
  have kept : PlanKept p s (s.tookWord n p st { h with data := h.data ++ w }) := PlanKept.setStream _
  have set (deg : List (Nat × Nat × Nat)) (g : Shard) :
      Stream.setShard { st with degraded := deg } 0 g = { st with shards := [g], degraded := deg } :=
    Stream.setShard_single (st := { st with degraded := deg }) shards g
  have there : ((s.tookWord n p st { h with data := h.data ++ w }).part p).entry h.entry = some (e, b) := by rw [kept.plan.entry, entry]
  have early : ¬(h.lost = 0 ∧ (h.data ++ w).length % 4096 = 0 ∧ h.data.length / 4096 < e.rows ∧
      (s.tookWord n p st { h with data := h.data ++ w }).roundCycle p (e.rowLast b.round (h.data.length / 4096)) <
        (s.tookWord n p st { h with data := h.data ++ w }).now) := by
    rintro ⟨-, whole, -, late⟩
    rw [List.length_append, len] at whole
    rw [kept.plan.roundCycle, kept.now] at late
    exact absurd (inTime whole) (Nat.not_le.2 late)
  rw [State.tookWord] at there early ⊢
  simp only [State.joinWord, room, if_neg taken, command, Shard.more_kept lost, set, there]
  exact if_neg early

namespace RowsAwaited

variable {s : State} {n p : Nat} {d : Cmd} {st : Stream} {h : Shard} {w : Bytes} {e : PlanEntry} {b : Bound}

theorem here (x : RowsAwaited s n p d st h) : (s.part p).onPort n = [(st, 0, h)] := Part.onPort_single x.only x.shards x.port

/-- Nothing is under way where the one shard has no header yet. -/
theorem idle (x : RowsAwaited s n p d st h) (header : h.header = []) (lo hi : Nat) : (s.part p).underWay n lo hi = none := by
  simp [Part.underWay, x.here, header]

/-- The one shard, with its header and not yet whole, is under way. -/
theorem underWay (x : RowsAwaited s n p d st h) {lo hi : Nat} (low : lo ≤ h.id) (high : h.id < hi) (header : h.header ≠ [])
    (room : h.data.length < 4096 * h.takes) (rows : h.id < rowBase ∨ h.data.length < 4096 * e.rows)
    (entry : (s.part p).entry h.entry = some (e, b)) : (s.part p).underWay n lo hi = some (st, 0, h) := by
  have plan : (s.part p).taskSlotOf.plan[h.entry]? = some e := by
    unfold Part.entry at entry
    dsimp only at entry
    split at entry
    · next plan _ => cases entry; exact plan
    · cases entry
  have came : h.came = h.data.length := by rw [Shard.came, x.lost, Nat.add_zero]
  rw [Part.underWay, x.here, List.find?_cons_of_pos]
  simpa [low, high, List.isEmpty_eq_false_iff.2 header, came, room, plan] using rows

theorem joinWord (x : RowsAwaited s n p d st h) (len : w.length = 64) (entry : (s.part p).entry h.entry = some (e, b))
    (inTime : s.rowInTime p e b h) : s.joinWord n p st 0 h w = s.tookWord n p st { h with data := h.data ++ w } :=
  State.joinWord_inTime x.command x.shards x.going x.lost x.quiet len entry inTime

/-- A header that the command of a piece expects begins the piece (R232). -/
theorem pieceWord_expected (x : RowsAwaited s n p d st h) (header : h.header = []) (expected : s.expects st h w = true) :
    s.pieceWord n p w = s.setStream p { st with shards := [{ h with header := w }] } := by
  simp [State.pieceWord, x.idle header, x.here, header, x.going, expected, Stream.setShard_single x.shards]

/-- A header that no command expects is counted; of no rows, that is all (R232). -/
theorem pieceWord_stray (x : RowsAwaited s n p d st h) (header : h.header = []) (stray : s.expects st h w = false)
    (none_ : u16 w 8 = 0) : s.pieceWord n p w = s.inc .PART_COLL_MISMATCH p 1 := by
  simp [State.pieceWord, x.idle header, x.here, header, x.going, stray, none_]

theorem pieceWord_data (x : RowsAwaited s n p d st h) (low : pieceBase ≤ h.id) (high : h.id < rowBase) (header : h.header ≠ [])
    (room : h.data.length < 4096 * h.takes) (len : w.length = 64) (entry : (s.part p).entry h.entry = some (e, b))
    (inTime : s.rowInTime p e b h) : s.pieceWord n p w = s.tookWord n p st { h with data := h.data ++ w } := by
  simp only [State.pieceWord, x.underWay low high header room (.inl high) entry]
  exact x.joinWord len entry inTime

/-- A word of a plan transfer joins it, the first one with the name of its frame (R247, R336). -/
theorem rowWord_joins (x : RowsAwaited s n p d st h) (low : rowBase ≤ h.id) (high : h.id < 2 ^ 50)
    (room : h.header ≠ [] → h.data.length < 4096 * min e.rows 16384) (len : w.length = 64)
    (entry : (s.part p).entry h.entry = some (e, b)) (inTime : s.rowInTime p e b h) (head : Bytes) :
    s.rowWord n p head w =
      s.tookWord n p st { h with header := if h.header = [] then head else h.header, data := h.data ++ w } := by
  by_cases header : h.header = []
  · have first : ((s.part p).onPort n).filter (fun y => y.2.2.header.isEmpty && !y.2.2.cancelled && decide (rowBase ≤ y.2.2.id)) =
        [(st, 0, h)] := by
      simp [x.here, header, x.going, low]
    simp only [State.rowWord, x.idle header, first, List.foldl_cons, List.foldl_nil, if_pos header]
    rw [Stream.setShard_single x.shards]
    exact State.joinWord_inTime (st := { st with shards := [{ h with header := head }] }) (h := { h with header := head })
      x.command rfl x.going x.lost x.quiet len entry inTime
  · have takes : h.takes = 16384 := if_neg (Nat.not_lt.2 low)
    have rows := room header
    simp only [State.rowWord, if_neg header, x.underWay low high header (by rw [takes]; omega) (.inr (by omega)) entry]
    exact x.joinWord len entry inTime

/-- The frame's command goes on once the word has joined. -/
theorem takeRows (x : RowsAwaited s n p d st h) {v : Stream} {g : Shard} {f : WslFrame} {t : State} (len : f.payload.length = 64)
    {word : State → Bytes → State} (joined : word s f.payload = t) (streams : (t.part p).strm.streams = [v])
    (name : v.queue = st.queue ∧ v.seq = st.seq) (shards : v.shards = [g]) (port : g.port = n) (id : pieceBase ≤ g.id) (cmds : t.cmds = s.cmds) :
    s.takeRows n p f word = t.resume d p := by
  have listed : (v.shards.any fun h => h.port == n && decide (pieceBase ≤ h.id)) = true := by simp [shards, port, id]
  have command : t.streamCmd v = some d := by
    rw [State.streamCmd, State.findCmd_of_cmds cmds, name.1, name.2]
    exact x.command
  simp only [State.takeRows, frameWords_one len, List.foldl_cons, List.foldl_nil, joined, streams, List.filter_cons, listed, if_true,
    List.filter_nil, List.filterMap_cons, command, List.filterMap_nil]

end RowsAwaited

/-! ### One frame -/

/-- A frame of one word that stands is taken for the partition that owns the port. -/
theorem State.dataFrame_word {s : State} {n p cls type : Nat} {w : WslFrame} {st : Stream} {h : Shard}
    (word : OneWord s n w cls type p st h) (f : Nat → State → State) : s.dataFrame n w cls type f = f p (s.linkCheck n w).2 := by
  obtain ⟨talks, rfl, rfl, -, stands, owner, -⟩ := word
  simp only [State.dataFrame, talks, stands, s.linkCheck_owner, owner, Bool.true_eq_false, ne_eq, not_true_eq_false, or_self, if_false,
    if_true]

theorem RowsAwaited.of_word {s : State} {n p cls type : Nat} {w : WslFrame} {st : Stream} {h : Shard} {d : Cmd}
    (word : OneWord s n w cls type p st h) (command : s.streamCmd st = some d) : RowsAwaited (s.linkCheck n w).2 n p d st h := by
  obtain ⟨-, -, -, -, -, -, only, shards, port, going, lost, -, -, quiet⟩ := word
  have kept := s.linkCheck_kept n w p
  have power : (s.linkCheck n w).2.power = s.power := State.linkCheck_frame.power (by decide)
  exact {
    only := congrFun (s.linkCheck_parts n w) p ▸ only
    command := (kept.findCmd _ _).trans command
    shards := shards
    port := port
    going := going
    lost := lost
    quiet := power ▸ quiet }

theorem State.linkCheck_expects (s : State) (n : Nat) (w : WslFrame) : (s.linkCheck n w).2.expects = s.expects := by
  funext st h x
  simp only [State.expects, State.streamCmd, (s.linkCheck_kept n w 0).findCmd, s.linkCheck_parts n w]

/-- What the link check leaves: the plan's entry, its rounds and the time (R232). -/
theorem State.linkCheck_rowInTime {s : State} {p : Nat} {e : PlanEntry} {b : Bound} {h : Shard} (inTime : s.rowInTime p e b h) (n : Nat)
    (w : WslFrame) : (s.linkCheck n w).2.rowInTime p e b h := by
  have kept := s.linkCheck_kept n w p
  rwa [State.rowInTime, kept.now, kept.plan.roundCycle]

theorem State.linkCheck_tookWord (s : State) (n : Nat) (w : WslFrame) (p : Nat) (st : Stream) (g : Shard) :
    (s.linkCheck n w).2.tookWord n p st g =
      (s.linkCheck n w).2.setStream p { st with shards := [g], degraded := (s.linkBits n .rx ++ st.degraded).dedup } := by
  rw [State.tookWord, s.linkCheck_linkBits]

/-- The step of a frame of one word: the word joins as `joined` says, and the command of its stream goes on. -/
theorem RowsAwaited.took {s : State} {n p : Nat} {d : Cmd} {st : Stream} {h g : Shard} {w : WslFrame} {word : State → Bytes → State}
    (x : RowsAwaited s n p d st h) (len : w.payload.length = 64) (joined : word s w.payload = s.tookWord n p st g) (port : g.port = n)
    (id : pieceBase ≤ g.id) : s.takeRows n p w word = (s.tookWord n p st g).resume d p :=
  x.takeRows len joined (State.streams_setStream x.only rfl rfl) ⟨rfl, rfl⟩ rfl port id rfl

/-- Settles O45: `RowsAwaited.pieceWord_…` and `RowsAwaited.rowWord_joins` for the word, `RowsAwaited.takeRows` for its command. -/
theorem rowsJoinTheirTransfer : Obligations.RowsJoinTheirTransfer := by
  intro s n w
  refine ⟨fun p st h d e b command entry => ?_, ⟨_, rfl, Same.changes (execCollectivePiece_frame rfl) (by decide +kernel), trivial⟩,
    ⟨_, rfl, Same.changes (execActivationRows_frame rfl) (by decide +kernel), trivial⟩,
    ⟨_, rfl, Same.changes (execBulkRows_frame rfl) (by decide +kernel), trivial⟩⟩
  have there : ((s.linkCheck n.val w).2.part p).entry h.entry = some (e, b) := by rw [s.linkCheck_parts, entry]
  intro took inTime
  refine ⟨fun word low high => ?_, fun x listed word low high room inTime => ?_⟩
  · have awaited := RowsAwaited.of_word word command
    have ⟨_, _, _, len, _, _, _, _, port, _⟩ := word
    have step : exec (.collectivePiece n w) s = .next ((s.linkCheck n.val w).2.takeRows n.val p w fun s y => s.pieceWord n.val p y) :=
      congrArg Host.Outcome.next (State.dataFrame_word word _)
    refine ⟨fun header expected => ?_, fun header stray none_ => ?_, fun header room inTime => ?_⟩
    · rw [← s.linkCheck_expects n.val w] at expected
      have joined := awaited.pieceWord_expected header expected
      rw [step, awaited.takeRows (word := fun s y => s.pieceWord n.val p y) len joined (State.streams_setStream awaited.only rfl rfl)
        ⟨rfl, rfl⟩ rfl port low rfl]
    · rw [← s.linkCheck_expects n.val w] at stray
      have counted := awaited.pieceWord_stray header stray none_
      rw [step, awaited.takeRows (word := fun s y => s.pieceWord n.val p y) len counted awaited.only ⟨rfl, rfl⟩ awaited.shards port
        low rfl]
      rfl
    · have joined := awaited.pieceWord_data low high header room len there (State.linkCheck_rowInTime inTime _ _)
      rw [step, awaited.took (word := fun s y => s.pieceWord n.val p y) len joined port low, s.linkCheck_tookWord]
  · have awaited := RowsAwaited.of_word word command
    have ⟨_, _, _, len, _, _, _, _, port, _⟩ := word
    have above : pieceBase ≤ h.id := le_trans (by decide) low
    have joined := awaited.rowWord_joins low high room len there (State.linkCheck_rowInTime inTime _ _) (rowHead w x.2.2.1)
    have step : exec x.2.2.2 s =
        .next ((s.linkCheck n.val w).2.takeRows n.val p w fun s y => s.rowWord n.val p (rowHead w x.2.2.1) y) := by
      simp only [List.mem_cons, List.not_mem_nil, or_false] at listed
      rcases listed with rfl | rfl
      · exact congrArg Host.Outcome.next (State.dataFrame_word word _)
      · exact congrArg Host.Outcome.next (State.dataFrame_word word _)
    rw [step, awaited.took (word := fun s y => s.rowWord n.val p (rowHead w x.2.2.1) y) len joined port above, s.linkCheck_tookWord]

end Sys2Proof.Machine
end

section
/-! Faults on the way of a command's transfers: each ends the command, is charged to it, or leaves it as it was (R295, R449). -/

namespace Sys2Proof.Machine
open Sys2Proof.Safety

/-- The command that stands in `t` under a name, if no fault has been charged to it, stood so in `s`: on the way there, commands of this
name have ended or met a fault, and no more. -/
def Spares (q n : Nat) (s t : State) : Prop := ∀ v, t.findCmd q n = some v → v.status < 0x3000 → s.findCmd q n = some v

theorem State.pendingSlot_none {c : Cmd} (plain : c.specSlot = none) (s : State) : s.pendingSlot c = none := by
  rw [State.pendingSlot, plain]
  cases c.part <;> rfl

namespace Spares

variable {q n : Nat} {r s t : State}

theorem refl : Spares q n s s := fun _ found _ => found

/-- An operation that leaves the commands alone. -/
theorem keep (h : Spares q n r s) (k : t.cmds = s.cmds) : Spares q n r t :=
  fun v found sound => h v ((State.findCmd_of_cmds k q n).symm.trans found) sound

theorem frame {m : Nat} (h : Spares q n r s) (k : Same m s t) (free : m.testBit 409 = false) : Spares q n r t := h.keep (k.cmds free)

theorem ite {c : Prop} [Decidable c] (h : Spares q n r s) (k : Spares q n r t) : Spares q n r (if c then s else t) := by
  split <;> assumption

theorem foldl {α : Type} {f : State → α → State} (h : Spares q n r s) (step : ∀ s x, Spares q n r s → Spares q n r (f s x))
    (l : List α) : Spares q n r (l.foldl f s) :=
  List.foldlRecOn l f (motive := Spares q n r) h fun _ k x _ => step _ x k

/-! ### Ends and faults of commands -/

theorem dropCmd (h : Spares q n r s) {c : Cmd} : Spares q n r (s.dropCmd c) := by
  refine fun v found sound => h v ?_ sound
  have other : ¬(v.queue = c.queue ∧ v.seq = c.seq) := (State.mem_dropCmd.1 (List.mem_of_find?_eq_some found)).2
  obtain ⟨rfl, rfl⟩ := State.findCmd_name found
  rw [State.findCmd, State.dropCmd, List.find?_filter] at found
  rw [State.findCmd, ← found]
  refine congrArg (s.cmds.find? ·) (funext fun x => ?_)
  by_cases name : x.queue = v.queue ∧ x.seq = v.seq
  · simpa [name, ← not_and_or] using other
  · have off : (x.queue == v.queue && x.seq == v.seq) = false := by simpa using name
    simp only [off, Bool.false_eq_true, and_false, decide_false]

/-- A command takes the status of a fault (R449). -/
theorem setCmd (h : Spares q n r s) {c : Cmd} (fault : 0x3000 ≤ c.status) : Spares q n r (s.setCmd c) := by
  refine fun v found sound => h v ?_ sound
  by_cases name : c.queue = q ∧ c.seq = n
  · obtain ⟨rfl, rfl⟩ := name
    obtain ⟨x, -, e⟩ := List.mem_map.1 (List.mem_of_find?_eq_some found)
    split at e
    · subst e
      omega
    · next other => exact absurd (e ▸ State.findCmd_name found) other
  · have same : (fun d : Cmd => d.queue == q && d.seq == n) ∘ (fun d => if d.queue = c.queue ∧ d.seq = c.seq then c else d) =
        fun d => d.queue == q && d.seq == n := by
      funext d
      by_cases e : d.queue = c.queue ∧ d.seq = c.seq <;> simp [e]
    rw [State.findCmd, State.setCmd, List.find?_map, same] at found
    obtain ⟨x, first, rfl⟩ := Option.map_eq_some_iff.1 found
    obtain ⟨queue, seq⟩ := State.findCmd_name first
    rw [if_neg fun e => name ⟨e.1.symm.trans queue, e.2.symm.trans seq⟩]
    exact first

theorem event (h : Spares q n r s) {code subject arg : Nat} : Spares q n r (s.event code subject arg) :=
  h.frame State.event_frame (by decide)

theorem advance (h : Spares q n r s) {x : Nat} : Spares q n r (s.advance x) := h.frame State.advance_frame (by decide)

theorem mark (h : Spares q n r s) {on : Bool} : Spares q n r (s.mark on) := h.keep rfl

theorem put (h : Spares q n r s) {f : Field} {i v : Nat} : Spares q n r (s.put f i v) := h.keep rfl

theorem inc (h : Spares q n r s) {f : Field} {i v : Nat} : Spares q n r (s.inc f i v) := h.keep rfl

theorem modCore (h : Spares q n r s) {k : Nat} {f : Core → Core} : Spares q n r (s.modCore k f) := h.keep rfl

theorem setLink (h : Spares q n r s) {k : Nat} {x : Link} : Spares q n r (s.setLink k x) := h.keep rfl

theorem modBind (h : Spares q n r s) {p : Nat} {f : PartBind → PartBind} : Spares q n r (s.modBind p f) := h.keep rfl

theorem addUses (h : Spares q n r s) {p : Nat} {us : List SlotUse} : Spares q n r (s.addUses p us) := h.keep rfl

theorem finish (h : Spares q n r s) {c : Cmd} {status detail : Nat} {x : Int} : Spares q n r (s.finish c status detail x) :=
  h.dropCmd.keep (State.finish_cmds s c status detail x)

theorem abortCmd (h : Spares q n r s) (held : List (Cmd × Rec)) (st : Cmd → Nat × Nat) (f : Cmd) (slack : Option Int) (c : Cmd) :
    Spares q n r (s.abortCmd held st f slack c) := by
  unfold State.abortCmd
  split
  · exact h.keep rfl
  · exact h.finish

/-- An abort ends commands, and changes no other (R295). -/
theorem abortTask (h : Spares q n r s) {p : Nat} {f : Cmd} {st : Cmd → Nat × Nat} {slack : Option Int} {ts : Nat} :
    Spares q n r (s.abortTask p (some f) st slack ts true) := by
  cases task : (s.part p).run.task with
  | none =>
    rw [State.abortTask, task]
    exact h
  | some t =>
    obtain ⟨wide, e⟩ := State.abortTask_stages task f st slack ts
    rw [e]
    exact ((h.frame State.journalFault_frame (by decide)).foldl (fun _ c k => k.abortCmd _ st f slack c) _).keep
      (State.abortRest_cmds _ _ _ _)

theorem abort (h : Spares q n r s) {c : Cmd} {status detail : Nat} : Spares q n r (s.abort c status detail) := by
  unfold State.abort
  split
  · exact h.abortTask
  · exact h.finish

theorem chargeFault (h : Spares q n r s) {p status detail : Nat} : Spares q n r (s.chargeFault p status detail) := by
  unfold State.chargeFault
  split
  · exact h.abort
  · exact h.ite h.event

/-- A fault that R449 charges to a command ends it now, or waits there as its end. -/
theorem chargeAt (h : Spares q n r s) {p x status detail : Nat} (fault : 0x3000 ≤ status) :
    Spares q n r (s.chargeAt p x status detail) := by
  unfold State.chargeAt
  refine (ite h.advance.chargeFault ?_).mark
  split
  · exact h.ite (h.setCmd fault)
  · exact h.ite h.event

theorem positionFault (h : Spares q n r s) {k : Nat} : Spares q n r (s.positionFault k) := by
  unfold State.positionFault
  refine frame ?_ State.deflate_frame (by decide)
  split
  · exact ite (modBind h.event.chargeFault.put.put) h.event.chargeFault.put.put
  · exact h.event.put

/-! ### Accesses to tile memory -/

theorem noteEcc (h : Spares q n r s) {p lc : Nat} : Spares q n r (s.noteEcc p lc) := by
  unfold State.noteEcc
  split
  · exact ite h.mark.inc.event.modCore.positionFault h.mark.inc.event.modCore
  · exact h

theorem hazards (h : Spares q n r s) {p : Nat} {u : SlotUse} : Spares q n r (s.hazards p u) := by
  unfold State.hazards
  split
  · exact h
  · have counted {c : Prop} [Decidable c] {k : Nat} : Spares q n r (if c then s.inc .CORE_TMEM_HAZ_WW k 1 else s) := h.inc.ite h
    refine ite counted ?_
    dsimp only
    split
    · exact counted.inc.inc.chargeAt (by decide)
    · exact counted.inc.inc

theorem writeS (h : Spares q n r s) {p lc row wc0 : Nat} {bs : Bytes} {x : Nat} : Spares q n r (s.writeS p lc row wc0 bs x) := by
  unfold State.writeS
  split
  · exact h
  · exact h.modCore.addUses.hazards

theorem remoteWrite (h : Spares q n r s) {p lc row wc0 : Nat} {bs : Bytes} {kind sender x : Nat} :
    Spares q n r (s.remoteWrite p lc row wc0 bs kind sender x) := by
  unfold State.remoteWrite
  split
  · exact h
  · exact h.writeS.ite (h.inc.chargeAt (by decide))

theorem placeRow (h : Spares q n r s) {p lc row wc0 : Nat} {bs : Bytes} {src : Option Nat} {kind x : Nat} :
    Spares q n r (s.placeRow p lc row wc0 bs src kind x) := by
  cases src with
  | none => exact h.remoteWrite
  | some c => exact h.writeS.ite h.remoteWrite

/-! ### The events of a transfer -/

/-- A fault of the transfer of a command that is not speculative is charged to the oldest command (R449). -/
theorem transferFault (h : Spares q n r s) {c : Cmd} (plain : c.specSlot = none) {p x status detail : Nat} (fault : 0x3000 ≤ status) :
    Spares q n r (s.transferFault c p x status detail) := by
  rw [State.transferFault, State.pendingSlot_none plain]
  exact h.chargeAt fault

theorem readRow (h : Spares q n r s) {c : Cmd} (plain : c.specSlot = none) {p x lc row : Nat} :
    Spares q n r (s.readRow c p x lc row) := by
  unfold State.readRow
  split
  · exact h.noteEcc.transferFault plain (by decide)
  · exact (h.frame State.countEcc_frame (by decide)).addUses

theorem leaveBursts (h : Spares q n r s) {c : Cmd} (plain : c.specSlot = none) {p x period a k : Nat} {counts : Bool} :
    Spares q n r (s.leaveBursts c p x period a k counts) := by
  unfold State.leaveBursts
  refine ite (h.transferFault plain (by decide)) ?_
  have counted {c : Prop} [Decidable c] {m k : Nat} : Spares q n r (if c then s.inc .HBM_ECC_CORRECTED m k else s) := h.inc.ite h
  dsimp only
  split
  · exact counted
  · exact counted.mark.inc.transferFault plain (by decide)

theorem enterBurst (h : Spares q n r s) {c : Cmd} (plain : c.specSlot = none) {p i k x a : Nat} {bs : Bytes} :
    Spares q n r (s.enterBurst c p i k x a bs) := by
  unfold State.enterBurst
  exact ite (h.transferFault plain (by decide)) (ite (h.inc.transferFault plain (by decide)) (h.keep rfl))

theorem linkWord (h : Spares q n r s) {k lane : Nat} {flips : List Nat} {x : Nat} : Spares q n r (s.linkWord k lane flips x) := by
  unfold State.linkWord
  refine ite ?_ (ite h.inc.setLink h)
  dsimp only
  split
  · exact ite (h.inc.setLink.chargeAt (by decide)) h.inc.setLink.event
  · exact h.inc.setLink

theorem crossInjected (h : Spares q n r s) {k lane x : Nat} : Spares q n r (s.crossInjected k lane x) := by
  unfold State.crossInjected
  refine (linkWord (mark (setLink ?_))).mark
  split
  · exact h.keep rfl
  · exact h

theorem placeEvent (h : Spares q n r s) {c : Cmd} {p : Nat} {u : Event} {e : PlanEntry} {b : Bound} {j : Nat} :
    Spares q n r (s.placeEvent c p u e b j) := by
  unfold State.placeEvent
  dsimp only
  split
  · exact ite (h.placeRow.frame State.setFlag_frame (by decide)) h.placeRow
  · exact h.placeRow

/-- Each event of a transfer, by what it does (R181, R230, R291). -/
theorem happen (h : Spares q n r s) {c : Cmd} (plain : c.specSlot = none) (p : Nat) (u : Event) :
    Spares q n r (s.happen c p u) := by
  unfold State.happen
  split
  · exact h
  · split
    · exact h.readRow plain
    · exact h.leaveBursts plain
    · exact h.placeEvent
    · exact h.foldl (fun _ _ k => (k.enterBurst plain).ite k) _
    · exact h.frame State.frameEvent_frame (by decide)
    · exact h.crossInjected

theorem happenAll (h : Spares q n r s) {c : Cmd} (plain : c.specSlot = none) (p : Nat) (us : List Event) :
    Spares q n r (s.happenAll c p us) :=
  h.foldl (fun _ u k => (k.happen plain p u).ite k) us

end Spares

/-! ### The transfers of a command -/

/-- A command that stands without a fault once its transfers have gone on is what it was, but for how far they have come. -/
theorem State.moveRows_command {s : State} {d v : Cmd} {p first n lim : Nat} (plain : d.specSlot = none)
    (found : s.findCmd d.queue d.seq = some d) (there : (s.moveRows d p first n lim).1.findCmd d.queue d.seq = some v)
    (sound : v.status < 0x3000) : ∃ y, v = { d with upto := y } := by
  have settled : (s.moveRows d p first n lim).1.cmds = (s.runPlan d p first n lim).1.cmds := by
    rw [State.moveRows, apply_ite State.cmds, State.settleArrivals_frame.cmds (by decide), ite_self]
  rw [State.findCmd_of_cmds settled, State.runPlan] at there
  dsimp only at there
  generalize firstOf _ _ = stop at there
  generalize happened : s.happenAll d p _ = u at there
  have spares : Spares d.queue d.seq s u := happened ▸ Spares.refl.happenAll plain p _
  cases still : u.findCmd d.queue d.seq with
  | none =>
    rw [State.setUpto, still] at there
    rw [still] at there
    cases there
  | some x =>
    obtain ⟨queue, seq⟩ := State.findCmd_name still
    simp only [State.setUpto, still] at there
    cases (State.findCmd_setCmd (d := { x with upto := max x.upto stop }) still queue seq).symm.trans there
    cases found.symm.trans (spares x still sound)
    exact ⟨_, rfl⟩

/-- A command whose transfers are all done without a fault of its own retires in the cycle after their last row (R230, R259, R291). -/
theorem State.moved_retires {s : State} {d : Cmd} {y : Nat} (there : s.findCmd d.queue d.seq = some { d with upto := y })
    (due : d.due = none) (p first n : Nat) :
    RetiresOver s (s.moved d p first n) d (max d.t0 (s.lastRow p first n) + 1) ((s.egress p first n ++ s.degradedOf d p).dedup) ∧
    (∀ k, (s.moved d p first n).core k = s.core k) ∧ ((s.moved d p first n).part p).stream d = none := by
  refine ⟨retiresOver_doneLinks (u := s.closeStream d p) there due rfl d.upto _ _, fun k => ?_, ?_⟩
  · rw [State.moved, State.doneLinks_eq, State.done_core]
    rfl
  · rw [State.moved, State.doneLinks_part]
    exact s.stream_dropped p d

end Sys2Proof.Machine
end

section
/-! Tile memory of a core whose writes all come before the present read or write (R124, R125, R127, R135). -/

namespace Sys2Proof.Machine
open Sys2Proof.Safety

theorem Mem.read_write_same (m : Mem) (a : Nat) (bs : Bytes) : Mem.read (Mem.write m a bs) a bs.length = bs := by
  refine List.ext_getElem (by rw [Mem.read, List.length_map, List.length_range]) fun i _ inside => ?_
  simp only [Mem.read, List.getElem_map, List.getElem_range]
  rw [Mem.byte_write_same m a bs i inside, List.getD_eq_getElem _ _ inside]

theorem Mem.read_write_other (m : Mem) {a n b : Nat} {bs : Bytes} (apart : a + n ≤ b ∨ b + bs.length ≤ a) :
    Mem.read (Mem.write m b bs) a n = Mem.read m a n :=
  List.map_congr_left fun i inside => Mem.byte_write_other m b bs (a + i) (by have := List.mem_range.1 inside; omega)

theorem Mem.length_read (m : Mem) (a n : Nat) : (Mem.read m a n).length = n := by
  rw [Mem.read, List.length_map, List.length_range]

/-- No bit is flipped, no range is stable, and every write that is still told came before cycle `x`. -/
structure Core.Clean (k : Core) (x : Nat) : Prop where
  ecc : k.ecc = []
  stable : k.stable = []
  past : ∀ y ∈ k.past, y.cycle < x

namespace Core.Clean

variable {k : Core} {x y : Nat}

theorem init : Core.init.Clean x := ⟨rfl, rfl, nofun⟩

theorem mono (h : k.Clean x) (le : x ≤ y) : k.Clean y := ⟨h.ecc, h.stable, fun e mem => Nat.lt_of_lt_of_le (h.past e mem) le⟩

theorem no_later (h : k.Clean x) (le : x ≤ y) : (k.past.filter fun e => decide (y ≤ e.cycle)) = [] :=
  List.filter_eq_nil_iff.2 fun e mem => by have := h.past e mem; simp; omega

/-- A read sees tile memory as it stands. -/
theorem readAt (h : k.Clean x) (le : x ≤ y) (a n : Nat) : k.readAt y a n = k.read a n := by
  rw [Core.readAt, asOf, h.no_later le]
  rfl

theorem rowAt (h : k.Clean x) (le : x ≤ y) (r : Nat) : k.rowAt y r = k.row r := h.readAt le _ _

theorem eccIn (h : k.Clean x) (le : x ≤ y) (r : Nat) : k.eccIn y r = [] := by
  rw [Core.eccIn, Core.eccAt, flipsAt, h.no_later le, h.ecc]
  rfl

theorem eccFaults (h : k.Clean x) (le : x ≤ y) (lc r : Nat) : k.eccFaults lc y r = [] := by
  rw [Core.eccFaults, h.eccIn le]
  rfl

/-- A write finds nothing after it (R125). -/
theorem writeAt (h : k.Clean x) (le : x ≤ y) (slot a : Nat) (bs : Bytes) : k.writeAt y slot a bs =
    { k with tmem := Mem.write k.tmem a bs, past := k.past ++ [⟨y, slot, a, Mem.read k.tmem a bs.length, []⟩] } := by
  have later : (k.past.filter fun e => e.after y slot) = [] := List.filter_eq_nil_iff.2 fun e mem => by
    have := h.past e mem
    simp only [Replaced.after, Bool.or_eq_true, decide_eq_true_eq, Bool.and_eq_true, beq_iff_eq]
    omega
  have before : (k.past.filter fun e => !e.after y slot) = k.past := List.filter_eq_self.2 fun e mem => by
    simpa using List.filter_eq_nil_iff.1 later e mem
  simp only [Core.writeAt, timedWrite, later, before, h.ecc, List.filter_nil, List.foldr_nil, List.isEmpty_nil, if_true, coverBytes]

theorem write (h : k.Clean x) (le : x ≤ y) (slot a : Nat) (bs : Bytes) : (k.writeAt y slot a bs).Clean (y + 1) := by
  rw [h.writeAt le]
  refine ⟨h.ecc, h.stable, fun e mem => ?_⟩
  rcases List.mem_append.1 mem with old | new
  · exact Nat.lt_of_lt_of_le (h.past e old) (by omega)
  · rw [List.mem_singleton.1 new]
    exact Nat.lt_succ_self y

theorem row_write_same (h : k.Clean x) (le : x ≤ y) (slot r : Nat) {bs : Bytes} (len : bs.length = 4096) :
    (k.writeAt y slot (tmemAddr r 0) bs).row r = bs := by
  rw [h.writeAt le, Core.row, Core.read, tmemAddr, Nat.zero_mul, Nat.add_zero, ← len, Mem.read_write_same]

theorem row_write_other (h : k.Clean x) (le : x ≤ y) (slot : Nat) {r q : Nat} {bs : Bytes} (len : bs.length = 4096) (ne : q ≠ r) :
    (k.writeAt y slot (tmemAddr r 0) bs).row q = k.row q := by
  rw [h.writeAt le, Core.row, Core.read, tmemAddr, Mem.read_write_other _ (by omega)]
  rfl

end Core.Clean

/-! ### Writes and reads on slot S -/

theorem PlanKept.of_onlyRegs {p : Nat} {s t : State} (h : OnlyRegs s t) : PlanKept p s t := by
  obtain ⟨g, rfl⟩ := h
  exact ⟨rfl, rfl, rfl, SamePlan.of_part rfl⟩

theorem OnlyRegs.inc {r s : State} (h : OnlyRegs r s) {f : Field} {i v : Nat} : OnlyRegs r (s.inc f i v) := h.trans ⟨_, rfl⟩

/-- Without a stable range, hazards are counted, and that is all (R125, R126). -/
theorem State.hazards_onlyRegs {s : State} {p : Nat} {u : SlotUse}
    (free : ∀ n, (s.part p).position u.core = some n → (s.core n).stable = []) : OnlyRegs s (s.hazards p u) := by
  unfold State.hazards
  split
  · exact OnlyRegs.refl s
  · next n here =>
    have counted {c : Prop} [Decidable c] : OnlyRegs s (if c then s.inc .CORE_TMEM_HAZ_WW n 1 else s) := by
      split
      · exact ⟨_, rfl⟩
      · exact OnlyRegs.refl s
    have unstable {t : State} (h : OnlyRegs s t) : (t.core n).stableOf u.cycle u.row = none := by
      rw [h.core, Core.stableOf, free n here]
      rfl
    dsimp only
    split
    · exact counted
    · rw [unstable counted.inc.inc]
      exact counted.inc.inc

theorem State.addUses_kept (s : State) (p : Nat) (us : List SlotUse) : PlanKept p s (s.addUses p us) := (s.addUses_read p us).toPlanKept

theorem State.writeS_eq {s : State} {p lc n : Nat} (here : (s.part p).position lc = some n) (row wc0 : Nat) (bs : Bytes) (x : Nat) :
    s.writeS p lc row wc0 bs x = ((s.modCore n fun c => c.writeAt x 2 (tmemAddr row wc0) bs).addUses p
      [writeUse lc 2 x (tmemAddr row wc0) bs.length]).hazards p (writeUse lc 2 x (tmemAddr row wc0) bs.length) := by
  rw [State.writeS, here]

/-- A write on a core without a stable range changes that core, and else only counts and the log of accesses. -/
theorem State.writeS_on {s : State} {p lc n : Nat} (here : (s.part p).position lc = some n) (free : (s.core n).stable = [])
    (row wc0 : Nat) (bs : Bytes) (x : Nat) : PlanKept p s (s.writeS p lc row wc0 bs x) ∧
    (s.writeS p lc row wc0 bs x).cores = (s.modCore n fun c => c.writeAt x 2 (tmemAddr row wc0) bs).cores := by
  have taken : PlanKept p s (s.modCore n fun c => c.writeAt x 2 (tmemAddr row wc0) bs) := ⟨rfl, rfl, rfl, SamePlan.of_part rfl⟩
  have logged := taken.trans (State.addUses_kept _ p [writeUse lc 2 x (tmemAddr row wc0) bs.length])
  have counted := State.hazards_onlyRegs (u := writeUse lc 2 x (tmemAddr row wc0) bs.length) fun m there => by
    rw [Part.position_of_bind logged.plan.bind] at there
    cases here.symm.trans there
    show ((s.modCore n fun c => c.writeAt x 2 (tmemAddr row wc0) bs).core n).stable = []
    rw [State.core_modCore]
    exact free
  rw [State.writeS_eq here]
  exact ⟨logged.trans (PlanKept.of_onlyRegs counted), counted.component .cores⟩

/-! ### Changes of some logical cores -/

/-- From `s` to `t` each of these logical cores of partition `p` changes by `f`, no other core does, and the rest is kept. -/
structure CoresChange (p : Nat) (l : List Nat) (f : Core → Core) (s t : State) : Prop extends PlanKept p s t where
  named : ∀ lc ∈ l, ∀ n, (s.part p).position lc = some n → t.core n = f (s.core n)
  others : ∀ n, (∀ lc ∈ l, (s.part p).position lc ≠ some n) → t.core n = s.core n

namespace CoresChange

variable {p lc : Nat} {l : List Nat} {f g : Core → Core} {s t u : State}

theorem position (h : CoresChange p l f s t) : (t.part p).position = (s.part p).position := Part.position_of_bind h.plan.bind

theorem none_ : CoresChange p [] f s s := ⟨PlanKept.refl, nofun, fun _ _ => rfl⟩

/-- Nothing changes where `f` changes none of the cores that it is for. -/
theorem still (h : PlanKept p s t) (cores : t.cores = s.cores)
    (same : ∀ n, (∃ lc ∈ l, (s.part p).position lc = some n) → f (s.core n) = s.core n) : CoresChange p l f s t := by
  have core (n : Nat) : t.core n = s.core n := by rw [State.core, State.core, cores]
  exact ⟨h, fun lc mem n here => (core n).trans (same n ⟨lc, mem, here⟩).symm, fun n _ => core n⟩

/-- One logical core after another. -/
theorem cons (h : CoresChange p [lc] f s t) (k : CoresChange p l f t u) (fresh : lc ∉ l) (distinct : (s.part p).positions.Nodup) :
    CoresChange p (lc :: l) f s u := by
  have apart {m n : Nat} (mem : m ∈ l) (here : (s.part p).position lc = some n) : (s.part p).position m ≠ some n := fun there =>
    fresh (Part.position_inj distinct here there ▸ mem)
  refine ⟨h.toPlanKept.trans k.toPlanKept, fun m mem n here => ?_, fun n free => ?_⟩
  · rcases List.mem_cons.1 mem with rfl | mem
    · rw [k.others n fun i mem => by rw [h.position]; exact apart mem here, h.named m (List.mem_singleton_self m) n here]
    · rw [k.named m mem n (by rw [h.position, here]), h.others n fun i one there => ?_]
      rw [List.mem_singleton.1 one] at there
      exact apart mem there here
  · rw [k.others n fun m mem => by rw [h.position]; exact free m (List.mem_cons_of_mem lc mem),
      h.others n fun m one => free m (List.mem_singleton.1 one ▸ List.mem_cons_self)]

/-- One change after another. -/
theorem comp (h : CoresChange p l f s t) (k : CoresChange p l g t u) : CoresChange p l (fun c => g (f c)) s u := by
  refine ⟨h.toPlanKept.trans k.toPlanKept, fun m mem n here => ?_, fun n free => ?_⟩
  · rw [k.named m mem n (by rw [h.position, here]), h.named m mem n here]
  · rw [k.others n fun m mem => by rw [h.position]; exact free m mem, h.others n free]

/-- A logical core that has changed, if it stands on a position. -/
theorem lcore_clean (h : CoresChange p l f s t) (mem : lc ∈ l) {x y : Nat} (clean : (s.lcore p lc).Clean x)
    (keeps : ∀ c : Core, c.Clean x → (f c).Clean y) : (t.lcore p lc).Clean y := by
  unfold State.lcore at clean ⊢
  rw [h.position]
  cases here : (s.part p).position lc with
  | none => exact Core.Clean.init
  | some n =>
    simp only [here] at clean ⊢
    rw [h.named lc mem n here]
    exact keeps _ clean

theorem lcore_other (h : CoresChange p l f s t) (distinct : (s.part p).positions.Nodup) (free : lc ∉ l) :
    t.lcore p lc = s.lcore p lc := by
  unfold State.lcore
  rw [h.position]
  cases here : (s.part p).position lc with
  | none => rfl
  | some n => exact h.others n fun m mem there => free (Part.position_inj distinct here there ▸ mem)

end CoresChange

end Sys2Proof.Machine
end

section
/-! A local MOVE copies its rows on each named core (R291). -/

namespace Sys2Proof.Machine
open Sys2Proof.Safety

/-! ### On one core -/

/-- What the k-th cycle of a local copy makes of a core: an odd one writes the row that the cycle before it read (R291). -/
def MoveP.copyStep (q : MoveP) (x0 k : Nat) (c : Core) : Core :=
  if k % 2 = 0 then c else c.writeAt (x0 + k) 2 (tmemAddr (q.dst + k / 2) 0) (c.rowAt (x0 + k - 1) (q.src + k / 2))

/-- What the first n cycles of a local copy make of a core. -/
def MoveP.copied (q : MoveP) (x0 : Nat) : Nat → Core → Core
  | 0, c => c
  | k + 1, c => q.copyStep x0 k (q.copied x0 k c)

section

variable (q : MoveP) {x0 : Nat} {c : Core}

theorem MoveP.copyStep_clean {k : Nat} (h : c.Clean (x0 + 2 * (k / 2))) : (q.copyStep x0 k c).Clean (x0 + 2 * ((k + 1) / 2)) := by
  unfold MoveP.copyStep
  split
  · exact h.mono (by omega)
  · exact (h.write (by omega) _ _ _).mono (by omega)

theorem MoveP.copied_clean (h : c.Clean x0) (n : Nat) : (q.copied x0 n c).Clean (x0 + 2 * (n / 2)) := by
  induction n with
  | zero => exact h
  | succ k ih => exact q.copyStep_clean ih

/-- A copy between rows apart leaves its source, and every row that has been written holds its source row. -/
theorem MoveP.copied_rows (h : c.Clean x0) (apart : q.dst + q.rows ≤ q.src ∨ q.src + q.rows ≤ q.dst) (n : Nat) :
    n ≤ 2 * q.rows → (∀ i, i < q.rows → (q.copied x0 n c).row (q.src + i) = c.row (q.src + i)) ∧
      ∀ i, i < n / 2 → (q.copied x0 n c).row (q.dst + i) = c.row (q.src + i) := by
  induction n with
  | zero => exact fun _ => ⟨fun _ _ => rfl, fun i none_ => absurd none_ (Nat.not_lt_zero i)⟩
  | succ k ih =>
    intro le
    obtain ⟨source, written⟩ := ih (by omega)
    have clean := q.copied_clean h k
    unfold MoveP.copied MoveP.copyStep
    by_cases even : k % 2 = 0
    · rw [if_pos even]
      exact ⟨source, fun i lt => written i (by omega)⟩
    · have row : (q.copied x0 k c).rowAt (x0 + k - 1) (q.src + k / 2) = c.row (q.src + k / 2) := by
        rw [clean.rowAt (by omega), source _ (by omega)]
      have len : (c.row (q.src + k / 2)).length = 4096 := Mem.length_read _ _ _
      rw [if_neg even, row]
      refine ⟨fun i lt => ?_, fun i lt => ?_⟩
      · rw [clean.row_write_other (by omega) 2 len (by omega), source i lt]
      · by_cases last : i = k / 2
        · rw [last, clean.row_write_same (by omega) 2 _ len]
        · rw [clean.row_write_other (by omega) 2 len (by omega), written i (by omega)]

end

/-! ### On the named cores -/

/-- The k-th cycle of the copy on one logical core: nothing faults. -/
theorem State.copyCycle_change {s : State} {p lc x0 k : Nat} (d : Cmd) (clean : (s.lcore p lc).Clean (x0 + 2 * (k / 2))) :
    CoresChange p [lc] (d.move.copyStep x0 k) s (s.copyCycle d p lc x0 k) := by
  unfold State.copyCycle
  dsimp only
  by_cases even : k % 2 = 0
  · rw [if_pos even]
    have read := State.readRow_read (row := d.move.src + k / 2) (clean.eccFaults (y := x0 + k) (by omega) lc _) d
    exact CoresChange.still read.toPlanKept read.cores fun n _ => if_pos even
  · rw [if_neg even]
    cases here : (s.part p).position lc with
    | none =>
      have off : s.writeS p lc (d.move.dst + k / 2) 0 ((s.lcore p lc).rowAt (x0 + k - 1) (d.move.src + k / 2)) (x0 + k) = s := by
        rw [State.writeS, here]
      rw [off]
      exact CoresChange.still PlanKept.refl rfl fun n ⟨m, mem, there⟩ => by
        rw [List.mem_singleton.1 mem, here] at there
        cases there
    | some n =>
      have core : s.lcore p lc = s.core n := by rw [State.lcore, here]
      rw [core] at clean ⊢
      obtain ⟨kept, cores⟩ := State.writeS_on here clean.stable (d.move.dst + k / 2) 0
        ((s.core n).rowAt (x0 + k - 1) (d.move.src + k / 2)) (x0 + k)
      refine ⟨kept, fun m mem j there => ?_, fun j free => ?_⟩
      · rw [List.mem_singleton.1 mem, here] at there
        cases there
        rw [State.core, cores, MoveP.copyStep, if_neg even]
        exact State.core_modCore s n _
      · rw [State.core, cores]
        exact State.core_setCore_other s _ fun e => free lc (List.mem_singleton_self lc) (e ▸ here)

/-- One cycle of the copy on these logical cores, as long as the command goes on. -/
def State.copyOn (s : State) (d : Cmd) (p x0 : Nat) (l : List Nat) (k : Nat) : State :=
  l.foldl (fun (s : State) lc => if s.alive d then s.copyCycle d p lc x0 k else s) s

theorem State.copyOn_change {s : State} {d : Cmd} {p x0 k : Nat} {l : List Nat} (alive : s.alive d = true)
    (distinct : (s.part p).positions.Nodup) (once : l.Nodup) (clean : ∀ lc ∈ l, (s.lcore p lc).Clean (x0 + 2 * (k / 2))) :
    CoresChange p l (d.move.copyStep x0 k) s (s.copyOn d p x0 l k) := by
  induction l generalizing s with
  | nil => exact CoresChange.none_
  | cons lc l ih =>
    obtain ⟨fresh, once⟩ := List.nodup_cons.1 once
    have first := State.copyCycle_change d (clean lc List.mem_cons_self)
    rw [State.copyOn, List.foldl_cons, if_pos alive]
    refine first.cons (ih ((first.alive d).trans alive) (Part.positions_of_bind first.plan.bind ▸ distinct) once fun m mem => ?_) fresh
      distinct
    rw [first.lcore_other distinct fun one => fresh (List.mem_singleton.1 one ▸ mem)]
    exact clean m (List.mem_cons_of_mem lc mem)

/-- The first n cycles of the copy. -/
theorem State.copyRun_change {s : State} {d : Cmd} {p x0 : Nat} {l : List Nat} (alive : s.alive d = true)
    (distinct : (s.part p).positions.Nodup) (once : l.Nodup) (clean : ∀ lc ∈ l, (s.lcore p lc).Clean x0) (n : Nat) :
    CoresChange p l (d.move.copied x0 n) s ((List.range n).foldl (fun s k => s.copyOn d p x0 l k) s) := by
  induction n with
  | zero => exact CoresChange.still PlanKept.refl rfl fun _ _ => rfl
  | succ k ih =>
    rw [List.range_succ, List.foldl_append]
    refine ih.comp (State.copyOn_change ((ih.alive d).trans alive) (Part.positions_of_bind ih.plan.bind ▸ distinct) once
      fun lc mem => ?_)
    exact ih.lcore_clean mem (clean lc mem) fun c h => d.move.copied_clean h k

/-! ### The command -/

/-- The logical cores that a local MOVE names. -/
def MoveP.cores (q : MoveP) : List Nat := (List.range (q.coreLast + 1 - q.coreFirst)).map (q.coreFirst + ·)

theorem MoveP.mem_cores {q : MoveP} {lc : Nat} : lc ∈ q.cores ↔ q.coreFirst ≤ lc ∧ lc ≤ q.coreLast := by
  simp only [MoveP.cores, List.mem_map, List.mem_range]
  exact ⟨fun ⟨i, _, e⟩ => by omega, fun _ => ⟨lc - q.coreFirst, by omega, by omega⟩⟩

theorem MoveP.cores_nodup (q : MoveP) : q.cores.Nodup := List.nodup_range.map fun _ _ e => Nat.add_left_cancel e

/-- The first n cycles of the copy on the cores that the command names. -/
def State.copyCycles (s : State) (d : Cmd) (p n : Nat) : State :=
  (List.range n).foldl (fun u k => u.copyOn d p (s.boundCycle p d.move.phase) d.move.cores k) s

/-- Every cycle of a copy whose phase lies between what has been done and cycle `lim` is performed. -/
theorem State.moveLocal_whole {s : State} {d : Cmd} {p lim : Nat} (found : s.findCmd d.queue d.seq = some d)
    (ahead : d.upto ≤ s.boundCycle p d.move.phase) (past : s.boundCycle p d.move.phase + 2 * d.move.rows ≤ lim + 1)
    (alive : ((s.copyCycles d p (2 * d.move.rows)).setUpto d (lim + 1)).alive d = true) : s.moveLocal d p lim =
      ((s.copyCycles d p (2 * d.move.rows)).setUpto d (lim + 1)).done d (s.boundCycle p d.move.phase + 2 * d.move.rows + 4) 0 0 := by
  have all : (List.range (2 * d.move.rows)).filter (fun k => decide (s.uptoOf d ≤ s.boundCycle p d.move.phase + k) &&
      decide (s.boundCycle p d.move.phase + k ≤ lim)) = List.range (2 * d.move.rows) := by
    refine List.filter_eq_self.2 fun k mem => ?_
    have := List.mem_range.1 mem
    rw [State.uptoOf, found, Bool.and_eq_true, decide_eq_true_eq, decide_eq_true_eq]
    dsimp only
    omega
  have cycles : (List.range (2 * d.move.rows)).foldl (fun (u : State) k =>
      (List.range (d.move.coreLast + 1 - d.move.coreFirst)).foldl (fun (u : State) j =>
        if u.alive d then u.copyCycle d p (d.move.coreFirst + j) (s.boundCycle p d.move.phase) k else u) u) s =
      s.copyCycles d p (2 * d.move.rows) := by
    simp only [State.copyCycles, State.copyOn, MoveP.cores, List.foldl_map]
  unfold State.moveLocal
  dsimp only
  rw [all, cycles, if_pos ⟨alive, past⟩]

/-- A local MOVE whose cycles have all come retires four cycles after the last one, its rows copied (R291). -/
theorem State.moveLocal_retires {s : State} {d : Cmd} {p lim : Nat} (found : s.findCmd d.queue d.seq = some d) (due : d.due = none)
    (ahead : d.upto ≤ s.boundCycle p d.move.phase) (past : s.boundCycle p d.move.phase + 2 * d.move.rows ≤ lim + 1)
    (distinct : (s.part p).positions.Nodup) (clean : ∀ lc ∈ d.move.cores, (s.lcore p lc).Clean (s.boundCycle p d.move.phase)) :
    RetiresWith s (s.moveLocal d p lim) d (s.boundCycle p d.move.phase + 2 * d.move.rows + 4) 0 0 ∧
    ∀ lc ∈ d.move.cores, ∀ n, (s.part p).position lc = some n →
      (s.moveLocal d p lim).core n = d.move.copied (s.boundCycle p d.move.phase) (2 * d.move.rows) (s.core n) := by
  have change : CoresChange p d.move.cores _ s (s.copyCycles d p (2 * d.move.rows)) :=
    State.copyRun_change (State.alive_of_found found) distinct d.move.cores_nodup clean _
  have here := (change.findCmd _ _).trans found
  have upto := State.setUpto_findCmd here (lim + 1)
  have mark : ((s.copyCycles d p (2 * d.move.rows)).setUpto d (lim + 1)).rehearsal = s.rehearsal := by
    rw [State.setUpto_found here]
    exact change.rehearsal
  rw [State.moveLocal_whole found ahead past (State.alive_of_found upto)]
  refine ⟨⟨d.upto, d.phase, retiresAt_done_found upto due mark _ 0 0⟩, fun lc mem n at_ => ?_⟩
  rw [State.done_core, State.setUpto_found here]
  exact change.named lc mem n at_

end Sys2Proof.Machine
end

section
/-! BCAST, MOVE and a send-scope REDUCE1 (R227, R230, R259, R291). -/

namespace Sys2Proof.Machine
open Sys2Proof.Safety

theorem execBcast_running {s : State} {c : CmdId} {d : Cmd} {p : Nat} (run : Running s c 0x300 d p) :
    exec (.bcast c) s = .next (s.runMoves d p d.coll.first d.coll.entries s.now) := by
  obtain ⟨ready, part⟩ := run
  show execBcast c s = _
  simp only [execBcast, ready, part, State.bcast]

theorem execReduce1_running {s : State} {c : CmdId} {d : Cmd} {p : Nat} (run : Running s c 0x301 d p) :
    exec (.reduce1 c) s = .next (s.reduce1 d p s.now) := by
  obtain ⟨ready, part⟩ := run
  show execReduce1 c s = _
  simp only [execReduce1, ready, part]

theorem execMove_running {s : State} {c : CmdId} {d : Cmd} {p : Nat} (run : Running s c 0x400 d p) :
    exec (.move c) s = .next (s.move d p s.now) := by
  obtain ⟨ready, part⟩ := run
  show execMove c s = _
  simp only [execMove, ready, part]

/-- Only STREAM_SPEC and WMATMUL_SPEC are speculative (R210, R213). -/
theorem specSlot_none_of_running {s : State} {c : CmdId} {op : Nat} {d : Cmd} {p : Nat} (run : Running s c op d p)
    (plain : op ≠ 0x201 ∧ op ≠ 0x101) : d.specSlot = none := by
  obtain ⟨rfl, -⟩ := State.ready_begun run.1
  rw [Cmd.specSlot, if_neg plain.1, if_neg plain.2]

/-- Transfers that are all done, without a fault of their command, let it retire. -/
theorem State.runMoves_retires {s : State} {c : CmdId} {d : Cmd} {p op : Nat} (run : Running s c op d p)
    (plain : op ≠ 0x201 ∧ op ≠ 0x101) {first n lim : Nat} {r : State × Bool} (moves : s.moveRows d p first n lim = r) (all : r.2 = true)
    (sound : Unfaulted r.1 d) :
    RetiresOver r.1 (s.runMoves d p first n lim) d (max d.t0 (r.1.lastRow p first n) + 1)
      ((r.1.egress p first n ++ r.1.degradedOf d p).dedup) ∧
    (∀ k, (s.runMoves d p first n lim).core k = r.1.core k) ∧ ((s.runMoves d p first n lim).part p).stream d = none := by
  obtain ⟨found, due⟩ := State.ready_running run.1
  obtain ⟨v, there, low⟩ := sound
  have whole : s.runMoves d p first n lim = r.1.moved d p first n := by
    rw [State.runMoves, moves]
    exact if_pos all
  subst moves
  obtain ⟨y, rfl⟩ := State.moveRows_command (specSlot_none_of_running run plain) found there low
  rw [whole]
  exact State.moved_retires there due p first n

/-- Settles O43: transfers by `State.runMoves_retires`, a local MOVE by `State.moveLocal_retires` and `MoveP.copied_rows`. -/
theorem transfersRetireAfterTheirLastRow : Obligations.TransfersRetireAfterTheirLastRow := by
  intro s c
  refine ⟨fun d p first n => ?_, fun d p run local_ => ?_,
    ⟨_, rfl, Same.changes (execBcast_frame rfl) (by decide +kernel), trivial⟩,
    ⟨_, rfl, Same.changes (execMove_frame rfl) (by decide +kernel), trivial⟩⟩
  · intro r x kind run atFirst count send far all sound
    simp only [List.mem_cons, List.not_mem_nil, or_false] at kind
    rcases kind with rfl | rfl | rfl <;> subst atFirst count
    · have next := execBcast_running run
      exact ⟨_, next, Same.changes (execBcast_frame next) (by decide +kernel),
        State.runMoves_retires (op := 0x300) run (by decide) rfl all sound⟩
    · have next : exec (.reduce1 c) s = .next (s.runMoves d p d.coll.first d.coll.entries s.now) := by
        rw [execReduce1_running run, State.reduce1]
        exact congrArg _ (if_pos (send rfl))
      exact ⟨_, next, Same.changes (execReduce1_frame next) (by decide +kernel),
        State.runMoves_retires (op := 0x301) run (by decide) rfl all sound⟩
    · have next : exec (.move c) s = .next (s.runMoves d p d.move.first d.move.entries s.now) := by
        rw [execMove_running run, State.move, far rfl]
        rfl
      exact ⟨_, next, Same.changes (execMove_frame next) (by decide +kernel),
        State.runMoves_retires (op := 0x400) run (by decide) rfl all sound⟩
  · intro m x0 ahead past distinct free
    obtain ⟨found, due⟩ := State.ready_running run.1
    have next : exec (.move c) s = .next (s.moveLocal d p s.now) := by
      rw [execMove_running run, State.move, local_]
      rfl
    have clean (lc : Nat) (mem : lc ∈ d.move.cores) : (s.lcore p lc).Clean x0 := by
      obtain ⟨low, high⟩ := MoveP.mem_cores.1 mem
      obtain ⟨ecc, stable, past⟩ := free lc low high
      exact ⟨ecc, stable, past⟩
    obtain ⟨retires, copied⟩ := State.moveLocal_retires found due ahead past distinct clean
    refine ⟨_, next, Same.changes (execMove_frame next) (by decide +kernel), retires, fun apart lc k i low high here row => ?_⟩
    have named := MoveP.mem_cores.2 ⟨low, high⟩
    have core : s.lcore p lc = s.core k := by rw [State.lcore, here]
    rw [copied lc named k here]
    exact (d.move.copied_rows (core ▸ clean lc named) apart _ (Nat.le_refl _)).2 i
      (Nat.lt_of_lt_of_eq row (Nat.mul_div_cancel_left _ (by decide)).symm)

end Sys2Proof.Machine
end

section
/-! The reduce phase of a REDUCE1 on its root (R233 to R236). -/

namespace Sys2Proof.Machine
open Sys2Proof.Safety

/-- A REDUCE1 of partition 0 with logical core 0 as its root, that has begun in cycle 0, with no entry and no row, whose phase is bound
to cycle 1. -/
def emptyReduce : Cmd :=
  ⟨0, 0, some 0, 1, 0, natLE 2 0x301 ++ List.replicate 50 0 ++ natLE 4 1, 0, some 0, false, none, 0, 0, 0, 0, 0, 0, false⟩

/-- Cycle 0 of a module whose partition 0, of core 0, runs that command alone. -/
def emptyReduceState : State :=
  { State.reset.modBind 0 fun b => { b with shape := some ⟨1, 0, [0], 1, [], 0, 1, 0, 0, 0, 0, 1, 0, [], []⟩ } with
    cmds := [emptyReduce] }

/-- Refutes O44: the statement does not ask that the phase has rows. One of no rows that is bound to the next cycle is over by the
present one, as the statement counts; but the command still waits for its first cycle, and its end is not known. (R229 refuses such a
command at its begin; the statement speaks of every state.) -/
theorem not_reducePhaseWritesTheSums : ¬ Obligations.ReducePhaseWritesTheSums := by
  intro holds
  obtain ⟨r, moves⟩ : ∃ r, emptyReduceState.moveRows emptyReduce 0 emptyReduce.coll.first emptyReduce.coll.entries
    emptyReduceState.now = r := ⟨_, rfl⟩
  have root : r.1.core 0 = Core.init := by rw [← moves]; decide +kernel
  have rows : emptyReduce.coll.rows = 0 := by decide +kernel
  have sums := (holds emptyReduceState ⟨0, 0⟩).2 emptyReduce 0 0
  dsimp only at sums
  rw [moves, root] at sums
  subst moves
  obtain ⟨t, step, -, ⟨u, v, retires⟩, -⟩ := sums ⟨by decide +kernel, rfl⟩ (by decide +kernel) (by decide +kernel) (by decide +kernel)
    ⟨_, rfl, by decide +kernel⟩ (by decide +kernel) (by decide +kernel) (by decide +kernel) rfl nofun rfl (fun _ _ => rfl)
    (.inl (by decide +kernel)) (fun j _ row => absurd (rows ▸ row) (Nat.not_lt_zero j))
  have waits : ((emptyReduceState.reduce1 emptyReduce 0 0).findCmd 0 0).map Cmd.due = some none := by decide +kernel
  have same : emptyReduceState.reduce1 emptyReduce 0 0 = t := Host.Outcome.next.inj step
  rw [same, show t.findCmd 0 0 = _ from retires] at waits
  cases waits

end Sys2Proof.Machine
end

section
/-! Tether ports: what their operations leave of the registers and of a port (R251, R252, R260, R267). -/

namespace Sys2Proof.Machine
open Sys2Proof.Safety

/-! ### Events and counters of a port -/

/-- The field counts nothing of what the logbook holds, so that no event changes it. -/
def Field.offBook (f : Field) : Bool :=
  decide (f.code < 400) && !Nat.testBit
    0x2000000000000000000000000000000000001c000000000000000000000000000000000000000000000000000000000000000000000 f.code

theorem State.get_update (s : State) (u : Update) {f : Field} (off : f.offBook = true) (i : Nat) : (s.update u).get f i = s.get f i := by
  rw [Field.offBook, Bool.and_eq_true, decide_eq_true_eq, Bool.not_eq_true'] at off
  exact State.update_frame.reg f i off.1 off.2

theorem State.get_tethEvent (s : State) {f : Field} (off : f.offBook = true) (bit : f.width = 1) (n : Nat) :
    (s.tethEvent f n).get f n = 1 := by
  rw [State.tethEvent, State.get_update _ _ off]
  exact (State.get_put s f n 1).trans (by rw [bit]; rfl)

theorem State.get_tethEvent_other (s : State) {f g : Field} (off : f.offBook = true) (ne : f.code ≠ g.code) (n i : Nat) :
    (s.tethEvent g n).get f i = s.get f i := by
  rw [State.tethEvent, State.get_update _ _ off]
  exact State.get_put_code s ne i n 1

@[simp] theorem State.tethEvent_ports (s : State) (f : Field) (n : Nat) : (s.tethEvent f n).ports = s.ports :=
  State.update_frame.ports (by decide)

@[simp] theorem State.tethEvent_port (s : State) (f : Field) (n k : Nat) : (s.tethEvent f n).port k = s.port k := by
  rw [State.port, State.tethEvent_ports, State.port]

theorem State.tethInc_cases (s : State) (f : Field) (n k : Nat) :
    s.tethInc f n k = s.inc f n k ∨ ∃ u, s.tethInc f n k = (s.inc f n k).update u := by
  unfold State.tethInc
  dsimp only
  split
  · exact .inr ⟨_, rfl⟩
  · exact .inl rfl

theorem State.get_tethInc (s : State) {f : Field} (off : f.offBook = true) (n k : Nat) :
    (s.tethInc f n k).get f n = satW f.width (s.get f n + k) := by
  obtain e | ⟨u, e⟩ := s.tethInc_cases f n k
  · rw [e, State.get_inc]
  · rw [e, State.get_update _ _ off, State.get_inc]

theorem State.get_tethInc_other (s : State) {f g : Field} (off : f.offBook = true) (ne : f.code ≠ g.code) (n k i : Nat) :
    (s.tethInc g n k).get f i = s.get f i := by
  obtain e | ⟨u, e⟩ := s.tethInc_cases g n k
  · rw [e, State.get_inc_code s ne]
  · rw [e, State.get_update _ _ off, State.get_inc_code s ne]

@[simp] theorem State.tethInc_port (s : State) (f : Field) (n k j : Nat) : (s.tethInc f n k).port j = s.port j := by
  obtain e | ⟨u, e⟩ := s.tethInc_cases f n k
  · rw [e, State.inc_port]
  · rw [e, State.port, State.update_frame.ports (by decide), State.inc_ports, State.port]

/-! ### The state of a port -/

/-- A port but for its `assigned`, which a forgotten node address takes from it. -/
def Port.unassigned (x : Port) : Port := { x with assigned := false }

theorem State.get_forgetNode (s : State) {f : Field} (ne : f.code ≠ Field.TETH_NODE_NODE.code) (i : Nat) :
    s.forgetNode.get f i = s.get f i := by
  refine foldl_kept (fun s : State => s.get f i) (fun s k => ?_) _ _
  exact State.get_put_code s ne i k 0

theorem State.forgetNode_unassigned (s : State) (k : Nat) : (s.forgetNode.port k).unassigned = (s.port k).unassigned := by
  refine foldl_kept (fun s : State => (s.port k).unassigned) (fun s j => ?_) _ _
  by_cases e : k = j
  · subst e
    rw [State.port_modPort]
    rfl
  · rw [State.modPort, State.port_setPort_other _ _ e]
    rfl

theorem State.setPortState_cases (s : State) (n v : Nat) :
    s.setPortState n v = s.put .TETH_STAT_STATE n v ∨ s.setPortState n v = (s.put .TETH_STAT_STATE n v).forgetNode := by
  unfold State.setPortState
  dsimp only
  split
  · exact .inr rfl
  · exact .inl rfl

theorem State.get_setPortState_put (s : State) (n v : Nat) {f : Field} (ne : f.code ≠ Field.TETH_NODE_NODE.code) (i : Nat) :
    (s.setPortState n v).get f i = (s.put .TETH_STAT_STATE n v).get f i := by
  obtain e | e := s.setPortState_cases n v
  · rw [e]
  · rw [e, State.get_forgetNode _ ne]

theorem State.get_setPortState (s : State) (n : Nat) {v : Nat} (small : v < 8) : (s.setPortState n v).get .TETH_STAT_STATE n = v := by
  rw [State.get_setPortState_put _ _ _ (by decide), State.get_put]
  exact Nat.mod_eq_of_lt small

theorem State.setPortState_unassigned (s : State) (n v k : Nat) :
    ((s.setPortState n v).port k).unassigned = (s.port k).unassigned := by
  obtain e | e := s.setPortState_cases n v
  · rw [e, State.put_port]
  · rw [e, State.forgetNode_unassigned, State.put_port]

theorem State.get_portDown (s : State) (n : Nat) {cause : Nat} (small : cause < 16) :
    (s.portDown n cause).get .TETH_STAT_STATE n = 6 ∧ (s.portDown n cause).get .TETH_STAT_DOWN_CAUSE n = cause := by
  constructor
  · rw [State.portDown, State.get_tethEvent_other _ (by decide) (by decide), State.get_put_code _ (by decide),
      State.get_setPortState _ _ (by decide)]
  · rw [State.portDown, State.get_tethEvent_other _ (by decide) (by decide), State.get_put]
    exact Nat.mod_eq_of_lt small

theorem State.portDown_unassigned (s : State) (n cause k : Nat) : ((s.portDown n cause).port k).unassigned = (s.port k).unassigned := by
  rw [State.portDown, State.tethEvent_port, State.put_port, State.setPortState_unassigned]

/-! ### Training begins -/

theorem Port.untrained_unassigned (x : Port) : x.unassigned.untrained = x.untrained := rfl

theorem State.get_startTraining (s : State) (n : Nat) : (s.startTraining n).get .TETH_STAT_STATE n = 2 :=
  State.get_setPortState _ n (by decide)

theorem State.port_startTraining (s : State) (n : Nat) :
    (s.startTraining n).port n = { (s.port n).untrained with attempts := 0, rehearsal := false } := by
  have kept (u : State) (same : u.port n = s.port n) : ((u.setPortState n 2).port n).untrained = (s.port n).untrained := by
    rw [← Port.untrained_unassigned, State.setPortState_unassigned, Port.untrained_unassigned, same]
  unfold State.startTraining
  dsimp only
  rw [State.port_modPort]
  split
  · rw [kept _ (s.tethInc_port ..)]
  · rw [kept _ rfl]

end Sys2Proof.Machine
end

section
/-! The controls of a port (R252, R263). -/

namespace Sys2Proof.Machine
open Sys2Proof.Safety

theorem State.portAction_allowed (s : State) (n a : Nat) {allowed : Bool} (h : allowed = true) :
    s.portAction n a allowed = s.modPort n fun x => { x with action := x.action ++ [a] } := if_pos h

theorem State.portAction_refused (s : State) (n a : Nat) {allowed : Bool} (h : ¬allowed = true) :
    s.portAction n a allowed = s.ignored (tethCtlOffset n) := if_neg h

theorem execPortAction_allowed {c : Instr} {n : Fin 64} {a : Nat} {s : State} (booted : s.booted = true)
    (h : (c = .online n ∧ a = 1 ∧ (s.get .TETH_STAT_STATE n.val = 1 ∨ s.get .TETH_STAT_STATE n.val = 5 ∨
        s.get .TETH_STAT_STATE n.val = 6)) ∨ (c = .loopback n ∧ a = 2 ∧ s.get .TETH_STAT_STATE n.val = 1) ∨
      (c = .offline n ∧ a = 3 ∧ s.get .TETH_STAT_STATE n.val ≠ 0) ∨
      (c = .retrain n ∧ a = 4 ∧ (s.get .TETH_STAT_STATE n.val = 3 ∨ s.get .TETH_STAT_STATE n.val = 4))) :
    exec c s = .next (s.modPort n.val fun x => { x with action := x.action ++ [a] }) := by
  have acts {allowed : Bool} (h : allowed = true) : s.whenBooted (s.portAction n.val a allowed) =
      s.modPort n.val fun x => { x with action := x.action ++ [a] } :=
    (State.whenBooted_booted booted _).trans (s.portAction_allowed _ _ h)
  obtain ⟨rfl, rfl, st⟩ | ⟨rfl, rfl, st⟩ | ⟨rfl, rfl, st⟩ | ⟨rfl, rfl, st⟩ := h
  · exact congrArg Host.Outcome.next (acts (by simpa [or_assoc] using st))
  · exact congrArg Host.Outcome.next (acts (by simpa using st))
  · exact congrArg Host.Outcome.next (acts (by simpa using st))
  · exact congrArg Host.Outcome.next (acts (by simpa [State.portTalks] using st))

theorem execPortAction_refused {c : Instr} {n : Fin 64} {s : State} (booted : s.booted = true)
    (h : (c = .online n ∧ s.get .TETH_STAT_STATE n.val ≠ 1 ∧ s.get .TETH_STAT_STATE n.val ≠ 5 ∧ s.get .TETH_STAT_STATE n.val ≠ 6) ∨
      (c = .loopback n ∧ s.get .TETH_STAT_STATE n.val ≠ 1) ∨ (c = .offline n ∧ s.get .TETH_STAT_STATE n.val = 0) ∨
      (c = .retrain n ∧ s.get .TETH_STAT_STATE n.val ≠ 3 ∧ s.get .TETH_STAT_STATE n.val ≠ 4)) :
    exec c s = .next (s.ignored (tethCtlOffset n.val)) := by
  have refuses (a : Nat) {allowed : Bool} (h : ¬allowed = true) :
      s.whenBooted (s.portAction n.val a allowed) = s.ignored (tethCtlOffset n.val) :=
    (State.whenBooted_booted booted _).trans (s.portAction_refused _ _ h)
  obtain ⟨rfl, st⟩ | ⟨rfl, st⟩ | ⟨rfl, st⟩ | ⟨rfl, st⟩ := h
  · exact congrArg Host.Outcome.next (refuses 1 (by simpa [and_assoc] using st))
  · exact congrArg Host.Outcome.next (refuses 2 (by simpa using st))
  · exact congrArg Host.Outcome.next (refuses 3 (by simpa using st))
  · exact congrArg Host.Outcome.next (refuses 4 (by simpa [State.portTalks] using st))

/-! ### A dark port trains -/

theorem State.tryTrain_cases (s : State) (n : Nat) : s.tryTrain n = s.startTraining n ∨ s.tryTrain n = s := by
  unfold State.tryTrain
  split
  · exact .inl rfl
  · exact .inr rfl

theorem State.get_tryTrain (s : State) (n : Nat) :
    (s.tryTrain n).get .TETH_STAT_STATE n =
      if s.get .TETH_STAT_STATE n = 1 ∧ s.get .TETH_CFG_ENABLE n = 1 ∧ s.laserState (laserOf n) = 4 ∧
        s.get .GCTL_FW_STAT_UNREADABLE 0 = 0 then 2 else s.get .TETH_STAT_STATE n := by
  unfold State.tryTrain
  split
  · exact State.get_startTraining s n
  · rfl

/-- A port that changes its state leaves the registers of the others alone, but for the node address. -/
theorem State.get_setPortState_index (s : State) (n v : Nat) {k : Nat} (apart : k % 65536 ≠ n % 65536) {f : Field}
    (ne : f.code ≠ Field.TETH_NODE_NODE.code) : (s.setPortState n v).get f k = s.get f k := by
  rw [State.get_setPortState_put _ _ _ ne, State.get_put_index _ apart]

theorem State.get_startTraining_index (s : State) (n : Nat) {k : Nat} (apart : k % 65536 ≠ n % 65536) {f : Field}
    (ne : f.code ≠ Field.TETH_NODE_NODE.code) (ne' : f.code ≠ Field.TETH_LINK_CNT_RETRAINS.code) (off : f.offBook = true) :
    (s.startTraining n).get f k = s.get f k := by
  unfold State.startTraining
  dsimp only
  rw [State.modPort_get, State.get_setPortState_index _ _ _ apart ne]
  split
  · exact State.get_tethInc_other s off ne' _ _ _
  · rfl

/-! ### PORT_ENABLE -/

theorem execPortEnable_trains {n : Fin 64} {s : State} (booted : s.booted = true) :
    exec (.portEnable n) s = .next ((s.put .TETH_CFG_ENABLE n.val 1).tryTrain n.val) :=
  congrArg Host.Outcome.next (State.whenBooted_booted booted _)

theorem State.get_tryTrain_enable (s : State) (n i : Nat) : (s.tryTrain n).get .TETH_CFG_ENABLE i = s.get .TETH_CFG_ENABLE i :=
  State.tryTrain_frame.reg _ i (by decide) (by decide)

theorem execPortEnable_effect {n : Fin 64} {s : State} (booted : s.booted = true) :
    Completes (.portEnable n) s (bookFields ++ [Field.TETH_CFG_ENABLE, Field.TETH_STAT_STATE, Field.TETH_LINK_CNT_RETRAINS,
      Field.TETH_NODE_NODE]) [Component.ports, Component.book] fun t =>
      t.get .TETH_CFG_ENABLE n.val = 1 ∧
      t.get .TETH_STAT_STATE n.val =
        if s.get .TETH_STAT_STATE n.val = 1 ∧ s.laserState (laserOf n.val) = 4 ∧ s.get .GCTL_FW_STAT_UNREADABLE 0 = 0 then 2
        else s.get .TETH_STAT_STATE n.val := by
  have step := execPortEnable_trains (n := n) booted
  have enabled : (s.put .TETH_CFG_ENABLE n.val 1).get .TETH_CFG_ENABLE n.val = 1 := State.get_put _ _ _ _
  refine ⟨_, step, Same.changes (execPortEnable_frame step) (by decide +kernel), ?_, ?_⟩
  · rw [State.get_tryTrain_enable, enabled]
  · rw [State.get_tryTrain, enabled, State.laserState, State.laserState]
    simp (disch := decide) only [State.get_put_code, true_and]

end Sys2Proof.Machine
end

section
/-! Laser modules and their four ports (R264 to R266). -/

namespace Sys2Proof.Machine
open Sys2Proof.Safety

/-! ### A fold that visits an element once -/

/-- The steps of a list keep an invariant and a view. -/
theorem foldl_kept_under {α β γ : Type} {f : β → α → β} {g : β → γ} {I : β → Prop} {l : List α}
    (kept : ∀ s, ∀ y ∈ l, I s → I (f s y) ∧ g (f s y) = g s) {s : β} (h : I s) : I (l.foldl f s) ∧ g (l.foldl f s) = g s := by
  induction l generalizing s with
  | nil => exact ⟨h, rfl⟩
  | cons y l ih =>
    obtain ⟨i, e⟩ := kept s y List.mem_cons_self h
    obtain ⟨i', e'⟩ := ih (fun s z hz => kept s z (List.mem_cons_of_mem y hz)) i
    exact ⟨i', e'.trans e⟩

/-- A view that only the step of `x` changes shows after the fold what that step shows in a state that the view does not tell from
the first one. -/
theorem foldl_once {α β γ : Type} {f : β → α → β} {g : β → γ} {I : β → Prop} {x : α} {l : List α} (once : l.Nodup) (mem : x ∈ l)
    (inv : ∀ s, ∀ y ∈ l, I s → I (f s y)) (other : ∀ s, ∀ y ∈ l, y ≠ x → I s → g (f s y) = g s) {s : β} (h : I s) :
    ∃ u, I u ∧ g u = g s ∧ g (l.foldl f s) = g (f u x) := by
  obtain ⟨a, b, rfl⟩ := List.append_of_mem mem
  have apart := List.nodup_middle.1 once
  have absent : ∀ y ∈ a ++ b, y ≠ x := fun y hy e => (List.nodup_cons.1 apart).1 (e ▸ hy)
  have before := foldl_kept_under (f := f) (g := g) (I := I) (l := a) (fun s y hy i =>
    ⟨inv s y (by simp [hy]) i, other s y (by simp [hy]) (absent y (by simp [hy])) i⟩) h
  have after := foldl_kept_under (f := f) (g := g) (I := I) (l := b) (fun s y hy i =>
    ⟨inv s y (by simp [hy]) i, other s y (by simp [hy]) (absent y (by simp [hy])) i⟩)
    (inv _ x (by simp) before.1)
  exact ⟨_, before.1, before.2, by rw [List.foldl_append]; exact after.2⟩

theorem laserPorts_nodup (e : Nat) : (laserPorts e).Nodup := by simp [laserPorts]

theorem mem_laserPorts {e n : Nat} : n ∈ laserPorts e ↔ laserOf n = e := by
  simp only [laserPorts, laserOf, List.mem_cons, List.not_mem_nil, or_false]
  omega

/-- The registers of two ports of one module lie apart. -/
theorem laserPorts_apart {e : Fin 16} {n k : Nat} (hn : n ∈ laserPorts e.val) (hk : k ∈ laserPorts e.val) (ne : n ≠ k) :
    k % 65536 ≠ n % 65536 := by
  rw [mem_laserPorts, laserOf] at hn hk
  omega

/-! ### The state of a module -/

theorem State.get_setLaserState {f : Field} (off : f.offBook = true) (ne : f.code ≠ Field.TETH_LASER_STATE.code)
    (ne' : f.code ≠ Field.TETH_EVT_LASER.code) (s : State) (e v i : Nat) : (s.setLaserState e v).get f i = s.get f i := by
  unfold State.setLaserState
  split
  · rfl
  · exact (foldl_kept (fun s : State => s.get f i) (fun s n => State.get_tethEvent_other s off ne' n i) _ _).trans
      (State.get_put_code s ne _ _ _)

theorem State.laserState_setLaserState (s : State) (e : Nat) {v : Nat} (small : v < 8) : (s.setLaserState e v).laserState e = v := by
  unfold State.setLaserState
  split
  · assumption
  · refine (foldl_kept (fun s : State => s.laserState e) (fun s n => ?_) _ _).trans
      ((State.get_put _ _ _ _).trans (Nat.mod_eq_of_lt small))
    exact State.get_tethEvent_other s (by decide) (by decide) n _

theorem State.setLaserState_laser (s : State) (e v k : Nat) : (s.setLaserState e v).laser k = s.laser k := by
  rw [State.laser, State.setLaserState_frame.lasers (by decide), State.laser]

/-! ### LASER_READY -/

theorem State.tryTrain_laserState (s : State) (n e : Nat) : (s.tryTrain n).laserState e = s.laserState e :=
  State.tryTrain_frame.reg _ _ (by decide) (by decide)

theorem State.get_tryTrain_index (s : State) (n : Nat) {k : Nat} (apart : k % 65536 ≠ n % 65536) :
    (s.tryTrain n).get .TETH_STAT_STATE k = s.get .TETH_STAT_STATE k := by
  obtain e | e := s.tryTrain_cases n
  · rw [e, State.get_startTraining_index s n apart (by decide) (by decide) (by decide)]
  · rw [e]

/-- The enabled dark ports of a module that is ready train. -/
theorem State.get_trainAll (s : State) (e : Fin 16) (ready : s.laserState e.val = 4) {n : Nat} (mem : n ∈ laserPorts e.val) :
    ((laserPorts e.val).foldl (fun (s : State) n => s.tryTrain n) s).get .TETH_STAT_STATE n =
      if s.get .TETH_STAT_STATE n = 1 ∧ s.get .TETH_CFG_ENABLE n = 1 ∧ s.get .GCTL_FW_STAT_UNREADABLE 0 = 0 then 2
      else s.get .TETH_STAT_STATE n := by
  have kept (u : State) (k : Nat) : (u.tryTrain k).get .TETH_CFG_ENABLE n = u.get .TETH_CFG_ENABLE n ∧
      (u.tryTrain k).get .GCTL_FW_STAT_UNREADABLE 0 = u.get .GCTL_FW_STAT_UNREADABLE 0 ∧
      (u.tryTrain k).laserState e.val = u.laserState e.val :=
    ⟨State.tryTrain_frame.reg _ _ (by decide) (by decide), State.tryTrain_frame.reg _ _ (by decide) (by decide), u.tryTrain_laserState k _⟩
  obtain ⟨u, ⟨enable, readable, laser⟩, state, result⟩ := foldl_once (f := fun (s : State) n => s.tryTrain n)
    (g := fun s : State => s.get .TETH_STAT_STATE n)
    (I := fun u => u.get .TETH_CFG_ENABLE n = s.get .TETH_CFG_ENABLE n ∧
      u.get .GCTL_FW_STAT_UNREADABLE 0 = s.get .GCTL_FW_STAT_UNREADABLE 0 ∧ u.laserState e.val = 4)
    (laserPorts_nodup e.val) mem
    (fun u k _ h => ⟨(kept u k).1.trans h.1, (kept u k).2.1.trans h.2.1, (kept u k).2.2.trans h.2.2⟩)
    (fun u k hk ne _ => u.get_tryTrain_index k (laserPorts_apart hk mem ne)) ⟨rfl, rfl, ready⟩
  refine result.trans ((u.get_tryTrain n).trans ?_)
  rw [mem_laserPorts.1 mem, laser, enable, readable, show u.get .TETH_STAT_STATE n = _ from state]
  simp only [true_and]

theorem execLaserReady_trains {e : Fin 16} {s : State} (starting : s.laserState e.val = 3) :
    exec (.laserReady e) s = .next ((laserPorts e.val).foldl (fun (s : State) n => s.tryTrain n)
      ((s.setLaserState e.val 4).put .PWR_DOM_STAT_STATE (laserDomain e.val) 2)) := by
  refine Eq.trans (b := execLaserReady e s) rfl ?_
  rw [execLaserReady, if_pos starting]

theorem execLaserReady_effect {e : Fin 16} {s : State} (starting : s.laserState e.val = 3) :
    Completes (.laserReady e) s (bookFields ++ [Field.TETH_STAT_STATE, Field.TETH_LINK_CNT_RETRAINS,
        Field.TETH_EVT_LASER, Field.TETH_NODE_NODE] ++ [Field.TETH_LASER_STATE,
          Field.PWR_DOM_STAT_STATE]) [Component.ports, Component.book, Component.fresh] fun t =>
      t.laserState e.val = 4 ∧ t.get .PWR_DOM_STAT_STATE (laserDomain e.val) = 2 ∧
      ∀ n ∈ laserPorts e.val, t.get .TETH_STAT_STATE n =
        if s.get .TETH_STAT_STATE n = 1 ∧ s.get .TETH_CFG_ENABLE n = 1 ∧ s.get .GCTL_FW_STAT_UNREADABLE 0 = 0 then 2
        else s.get .TETH_STAT_STATE n := by
  have step := execLaserReady_trains starting
  have ready : ((s.setLaserState e.val 4).put .PWR_DOM_STAT_STATE (laserDomain e.val) 2).laserState e.val = 4 :=
    (State.get_put_code _ (by decide) _ _ _).trans (s.laserState_setLaserState e.val (by decide))
  refine ⟨_, step, Same.changes (execLaserReady_frame step) (by decide +kernel), ?_, ?_, fun n mem => ?_⟩
  · exact (foldl_kept (fun s : State => s.laserState e.val) (fun s n => s.tryTrain_laserState n _) _ _).trans ready
  · exact (foldl_kept (fun s : State => s.get .PWR_DOM_STAT_STATE (laserDomain e.val))
      (fun s n => State.tryTrain_frame.reg _ _ (by decide) (by decide)) _ _).trans (State.get_put _ _ _ _)
  · rw [State.get_trainAll _ e ready mem]
    simp (disch := decide) only [State.get_put_code, State.get_setLaserState]

/-! ### LASER_ALARM and LASER_REMOVE -/

theorem State.get_portDown_index (s : State) (n cause : Nat) {k : Nat} (apart : k % 65536 ≠ n % 65536) {f : Field}
    (off : f.offBook = true) (ne : f.code ≠ Field.TETH_NODE_NODE.code) (ne' : f.code ≠ Field.TETH_EVT_DOWN.code) :
    (s.portDown n cause).get f k = s.get f k := by
  rw [State.portDown, State.get_tethEvent_other _ off ne', State.get_put_index _ apart, State.get_setPortState_index _ _ _ apart ne]

/-- The alarm of a module takes a port down unless it is OFF (R266). -/
def State.alarmPort (s : State) (n : Nat) : State := if s.get .TETH_STAT_STATE n = 0 then s else s.portDown n 4

/-- The withdrawal of a module leaves a port DARK unless it is OFF (R265). -/
def State.darkenPort (s : State) (n : Nat) : State := if s.get .TETH_STAT_STATE n = 0 then s else s.setPortState n 1

theorem State.get_alarmAll (s : State) (e : Fin 16) {n : Nat} (mem : n ∈ laserPorts e.val) :
    (s.get .TETH_STAT_STATE n ≠ 0 → ((laserPorts e.val).foldl State.alarmPort s).get .TETH_STAT_STATE n = 6 ∧
      ((laserPorts e.val).foldl State.alarmPort s).get .TETH_STAT_DOWN_CAUSE n = 4) ∧
    (s.get .TETH_STAT_STATE n = 0 → ((laserPorts e.val).foldl State.alarmPort s).get .TETH_STAT_STATE n = 0) := by
  have apart (u : State) (k : Nat) (hk : k ∈ laserPorts e.val) (ne : k ≠ n) :
      (u.alarmPort k).get .TETH_STAT_STATE n = u.get .TETH_STAT_STATE n ∧
      (u.alarmPort k).get .TETH_STAT_DOWN_CAUSE n = u.get .TETH_STAT_DOWN_CAUSE n := by
    unfold State.alarmPort
    split
    · exact ⟨rfl, rfl⟩
    · have other := laserPorts_apart hk mem ne
      exact ⟨u.get_portDown_index k 4 other (by decide) (by decide) (by decide),
        u.get_portDown_index k 4 other (by decide) (by decide) (by decide)⟩
  obtain ⟨u, -, before, result⟩ := foldl_once (f := State.alarmPort) (I := fun _ => True)
    (g := fun s : State => (s.get .TETH_STAT_STATE n, s.get .TETH_STAT_DOWN_CAUSE n)) (laserPorts_nodup e.val) mem
    (fun _ _ _ _ => trivial) (fun u k hk ne _ => Prod.ext (apart u k hk ne).1 (apart u k hk ne).2) (s := s) trivial
  obtain ⟨state, -⟩ := Prod.mk.inj before
  obtain ⟨atState, atCause⟩ := Prod.mk.inj result
  rw [atState, atCause, ← state]
  refine ⟨fun lit => ?_, fun off => ?_⟩
  · rw [State.alarmPort, if_neg lit]
    exact u.get_portDown n (by decide)
  · rw [State.alarmPort, if_pos off, off]

theorem State.get_darkenAll (s : State) (e : Fin 16) {n : Nat} (mem : n ∈ laserPorts e.val) :
    ((laserPorts e.val).foldl State.darkenPort s).get .TETH_STAT_STATE n = if s.get .TETH_STAT_STATE n = 0 then 0 else 1 := by
  have apart (u : State) (k : Nat) (hk : k ∈ laserPorts e.val) (ne : k ≠ n) :
      (u.darkenPort k).get .TETH_STAT_STATE n = u.get .TETH_STAT_STATE n := by
    unfold State.darkenPort
    split
    · rfl
    · exact u.get_setPortState_index k 1 (laserPorts_apart hk mem ne) (by decide)
  obtain ⟨u, -, before, result⟩ := foldl_once (f := State.darkenPort) (I := fun _ => True)
    (g := fun s : State => s.get .TETH_STAT_STATE n) (laserPorts_nodup e.val) mem
    (fun _ _ _ _ => trivial) (fun u k hk ne _ => apart u k hk ne) (s := s) trivial
  refine result.trans ?_
  rw [← show u.get .TETH_STAT_STATE n = _ from before, State.darkenPort]
  split
  · assumption
  · exact u.get_setPortState n (by decide)

theorem execLaserAlarm_alarms {e : Fin 16} {s : State} (running : s.laserState e.val = 4) :
    exec (.laserAlarm e) s = .next ((laserPorts e.val).foldl State.alarmPort (s.setLaserState e.val 5)) :=
  congrArg Host.Outcome.next (if_pos running)

theorem execLaserAlarm_effect {e : Fin 16} {s : State} (running : s.laserState e.val = 4) :
    Completes (.laserAlarm e) s (bookFields ++ [Field.TETH_STAT_DOWN_CAUSE, Field.TETH_STAT_STATE,
        Field.TETH_EVT_LASER, Field.TETH_EVT_DOWN] ++ [Field.TETH_NODE_NODE,
          Field.TETH_LASER_STATE]) [Component.ports, Component.book, Component.fresh] fun t =>
      t.laserState e.val = 5 ∧ ∀ n ∈ laserPorts e.val,
        (s.get .TETH_STAT_STATE n ≠ 0 → t.get .TETH_STAT_STATE n = 6 ∧ t.get .TETH_STAT_DOWN_CAUSE n = 4) ∧
        (s.get .TETH_STAT_STATE n = 0 → t.get .TETH_STAT_STATE n = 0) := by
  have step := execLaserAlarm_alarms running
  refine ⟨_, step, Same.changes (execLaserAlarm_frame step) (by decide +kernel), ?_, fun n mem => ?_⟩
  · refine (foldl_kept (fun s : State => s.laserState e.val) (fun u n => ?_) _ _).trans (s.laserState_setLaserState e.val (by decide))
    unfold State.alarmPort
    split
    · rfl
    · exact State.portDown_frame.reg _ _ (by decide) (by decide)
  · have state : (s.setLaserState e.val 5).get .TETH_STAT_STATE n = s.get .TETH_STAT_STATE n :=
      State.get_setLaserState (by decide) (by decide) (by decide) _ _ _ _
    rw [← state]
    exact State.get_alarmAll _ e mem

/-! ### The FRU block -/

theorem State.get_fruCopy {g : Field} (ne : g.code ≠ Field.FRU_STAT_LASER_VALID.code) (ne' : g.code ≠ Field.FRU_STAT_GEN.code)
    (s : State) (a : Nat) (bs : Bytes) (b : Nat) (valid : Bool) (i : Nat) :
    (s.fruCopy a bs .FRU_STAT_LASER_VALID b valid).get g i = s.get g i := by
  unfold State.fruCopy
  dsimp only
  rw [State.get_put_code _ ne', State.get_put_code _ ne]
  rfl

@[simp] theorem State.fruCopy_fru (s : State) (a : Nat) (bs : Bytes) (f : Field) (b : Nat) (valid : Bool) :
    (s.fruCopy a bs f b valid).fru = Mem.write s.fru a bs := rfl

@[simp] theorem State.fruCopy_laser (s : State) (a : Nat) (bs : Bytes) (f : Field) (b : Nat) (valid : Bool) (e : Nat) :
    (s.fruCopy a bs f b valid).laser e = s.laser e := rfl

theorem State.setLaserState_fru (s : State) (e v : Nat) : (s.setLaserState e v).fru = s.fru :=
  State.setLaserState_frame.fru (by decide)

theorem execLaserRemove_removes {e : Fin 16} {s : State} (present : (s.laser e.val).present = true) :
    exec (.laserRemove e) s = .next (((((laserPorts e.val).foldl State.darkenPort s).setLaser e.val Laser.init).fruCopy (0x80 * e.val)
      (List.replicate 128 0) .FRU_STAT_LASER_VALID e.val false).setLaserState e.val 0) := by
  refine Eq.trans (b := execLaserRemove e s) rfl ?_
  rw [execLaserRemove, if_pos present]
  rfl

theorem execLaserRemove_effect {e : Fin 16} {s : State} (present : (s.laser e.val).present = true) :
    Completes (.laserRemove e) s (bookFields ++ [Field.TETH_STAT_STATE, Field.TETH_EVT_LASER,
        Field.TETH_NODE_NODE, Field.TETH_LASER_STATE] ++ [Field.FRU_STAT_LASER_VALID,
          Field.FRU_STAT_GEN]) [Component.fru, Component.ports, Component.lasers, Component.book, Component.fresh] fun t =>
      t.laser e.val = Laser.init ∧ t.laserState e.val = 0 ∧ Mem.read t.fru (0x80 * e.val) 128 = List.replicate 128 0 ∧
      ∀ n ∈ laserPorts e.val, t.get .TETH_STAT_STATE n = if s.get .TETH_STAT_STATE n = 0 then 0 else 1 := by
  have step := execLaserRemove_removes present
  refine ⟨_, step, Same.changes (execLaserRemove_frame step) (by decide +kernel), ?_,
    State.laserState_setLaserState _ _ (by decide), ?_, fun n mem => ?_⟩
  · rw [State.setLaserState_laser, State.fruCopy_laser, State.laser_setLaser]
  · rw [State.setLaserState_fru, State.fruCopy_fru]
    exact Mem.read_write_same _ _ (List.replicate 128 0)
  · rw [State.get_setLaserState (by decide) (by decide) (by decide), State.get_fruCopy (by decide) (by decide), State.setLaser_get,
      State.get_darkenAll s e mem]

/-! ### LASER_INSERT -/

theorem State.laserParts_congr {s t : State} (same : t.sec = s.sec) : t.laserParts = s.laserParts := by
  rw [State.laserParts, same, State.laserParts]

/-- Module e passes the checks of its identity (R264). -/
def State.laserPasses (s : State) (e : Nat) : Bool := (s.laser e).accepted && s.laserParts.contains (fitBytes 16 (s.laser e).part)

theorem State.checkLaser_passes {s : State} {e : Nat} (ok : s.laserPasses e = true) :
    s.checkLaser e = ((s.fruCopy (0x80 * e) (s.laser e).page .FRU_STAT_LASER_VALID e true).setLaserState e 3).put
      .PWR_DOM_STAT_STATE (laserDomain e) 1 := by
  rw [State.laserPasses] at ok
  unfold State.checkLaser
  dsimp only
  rw [ok, if_pos rfl, if_pos rfl]

theorem State.checkLaser_fails {s : State} {e : Nat} (bad : s.laserPasses e = false) :
    s.checkLaser e = (s.fruCopy (0x80 * e) (List.replicate 128 0) .FRU_STAT_LASER_VALID e false).setLaserState e 2 := by
  rw [State.laserPasses] at bad
  unfold State.checkLaser
  dsimp only
  rw [bad, if_neg Bool.false_ne_true, if_neg Bool.false_ne_true]

theorem State.checkLaser_laser (s : State) (e k : Nat) : (s.checkLaser e).laser k = s.laser k := by
  rw [State.laser, State.checkLaser_frame.lasers (by decide), State.laser]

theorem State.checkLaser_laserState (s : State) (e : Nat) : (s.checkLaser e).laserState e = if s.laserPasses e then 3 else 2 := by
  cases ok : s.laserPasses e with
  | false => rw [State.checkLaser_fails ok]; exact State.laserState_setLaserState _ _ (by decide)
  | true =>
    rw [State.checkLaser_passes ok]
    exact (State.get_put_code _ (by decide) _ _ _).trans (State.laserState_setLaserState _ _ (by decide))

/-- The bay of a module that has just been inserted, before it is checked. -/
def State.inserted (s : State) (e : Nat) (x : Laser) : State := (s.tethInc .TETH_LASER_INSERTIONS (4 * e) 1).setLaser e x

theorem State.inserted_laserPasses (s : State) (e : Nat) (lower page : Bytes) (typeOk : Bool) (part : Bytes) (watts : Nat) :
    (s.inserted e ⟨true, lower, page, typeOk && decide (watts ≤ 36), part, false⟩).laserPasses e =
      (typeOk && s.laserParts.contains (fitBytes 16 part) && decide (watts ≤ 36)) := by
  have parts (x : Laser) : (s.inserted e x).laserParts = s.laserParts :=
    State.laserParts_congr ((State.tethInc_frame (mm := 2 ^ Field.TETH_LASER_INSERTIONS.code |||
      0x2000000000000000000000000000000000001c000000000000000000000000000000000000000000000000000000000000000000000)
      (by decide) (by decide) Same.refl).sec (by decide))
  rw [State.laserPasses, parts, State.inserted, State.laser_setLaser]
  exact Bool.and_right_comm _ _ _

theorem State.get_inserted {f : Field} (off : f.offBook = true) (ne : f.code ≠ Field.TETH_LASER_INSERTIONS.code) (s : State) (e : Nat)
    (x : Laser) (i : Nat) : (s.inserted e x).get f i = s.get f i := State.get_tethInc_other s off ne _ _ _

theorem execLaserInsert_checks {e : Fin 16} {s : State} (lower page : Bytes) (typeOk : Bool) (part : Bytes) (watts : Nat)
    (absent : (s.laser e.val).present = false) : exec (.laserInsert e lower page typeOk part watts) s =
      .next ((s.inserted e.val ⟨true, lower, page, typeOk && decide (watts ≤ 36), part, false⟩).checkLaser e.val) :=
  congrArg Host.Outcome.next (if_neg (by rw [absent]; exact Bool.false_ne_true))

theorem execLaserInsert_effect {e : Fin 16} {s : State} (lower page : Bytes) (typeOk : Bool) (part : Bytes) (watts : Nat)
    (absent : (s.laser e.val).present = false) :
    let ok := typeOk && s.laserParts.contains (fitBytes 16 part) && decide (watts ≤ 36)
    Completes (.laserInsert e lower page typeOk part watts) s (bookFields ++ [Field.TETH_EVT_LASER,
        Field.TETH_LASER_INSERTIONS, Field.TETH_LASER_STATE, Field.PWR_DOM_STAT_STATE] ++ [Field.FRU_STAT_LASER_VALID,
        Field.FRU_STAT_GEN]) [Component.fru, Component.lasers, Component.book, Component.fresh] fun t =>
      t.laser e.val = ⟨true, lower, page, typeOk && decide (watts ≤ 36), part, false⟩ ∧ t.laserState e.val = (if ok then 3 else 2) ∧
      (ok = true → t.get .PWR_DOM_STAT_STATE (laserDomain e.val) = 1 ∧
        ∀ k, k < page.length → Mem.byte t.fru (0x80 * e.val + k) = page.getD k 0) ∧
      (ok = false → ∀ d, t.get .PWR_DOM_STAT_STATE d = s.get .PWR_DOM_STAT_STATE d) ∧
      t.get .TETH_LASER_INSERTIONS (4 * e.val) =
        satW Field.TETH_LASER_INSERTIONS.width (s.get .TETH_LASER_INSERTIONS (4 * e.val) + 1) := by
  intro ok
  have step := execLaserInsert_checks lower page typeOk part watts absent
  have passes : (s.inserted e.val ⟨true, lower, page, typeOk && decide (watts ≤ 36), part, false⟩).laserPasses e.val = ok :=
    s.inserted_laserPasses e.val lower page typeOk part watts
  refine ⟨_, step, Same.changes (execLaserInsert_frame step) (by decide +kernel), ?_, ?_, fun good => ?_, fun bad d => ?_, ?_⟩
  · rw [State.checkLaser_laser, State.inserted, State.laser_setLaser]
  · rw [State.checkLaser_laserState, passes]
  · rw [State.checkLaser_passes (passes.trans good)]
    refine ⟨State.get_put _ _ _ _, fun k short => ?_⟩
    rw [State.put_fru, State.setLaserState_fru, State.fruCopy_fru, State.inserted, State.laser_setLaser]
    exact Mem.byte_write_same _ _ page k short
  · rw [State.checkLaser_fails (passes.trans bad), State.get_setLaserState (by decide) (by decide) (by decide),
      State.get_fruCopy (by decide) (by decide), State.get_inserted (by decide) (by decide)]
  · exact (State.checkLaser_frame.reg _ _ (by decide) (by decide)).trans (State.get_tethInc s (by decide) _ _)

/-! ### SWAP -/

theorem execSwap_absent {e : Fin 16} {s : State} (booted : s.booted = true) (absent : (s.laser e.val).present = false) :
    exec (.swap e) s = .next s :=
  congrArg Host.Outcome.next ((State.whenBooted_booted booted _).trans (if_neg (by rw [absent]; exact Bool.false_ne_true)))

/-- A swap asks a port to go DARK at the next edge. -/
def State.swapPort (s : State) (n : Nat) : State := s.modPort n fun x => { x with action := x.action ++ [5] }

theorem State.swapAll_action (s : State) {e n : Nat} (mem : n ∈ laserPorts e) :
    (((laserPorts e).foldl State.swapPort s).port n).action = (s.port n).action ++ [5] := by
  obtain ⟨u, -, before, result⟩ := foldl_once (f := State.swapPort) (I := fun _ => True)
    (g := fun s : State => (s.port n).action) (laserPorts_nodup e) mem (fun _ _ _ _ => trivial)
    (fun u k _ ne _ => congrArg Port.action (u.port_setPort_other _ (Ne.symm ne))) (s := s) trivial
  rw [show (((laserPorts e).foldl State.swapPort s).port n).action = _ from result, State.swapPort, State.port_modPort,
    ← show (u.port n).action = _ from before]

theorem execSwap_present {e : Fin 16} {s : State} (booted : s.booted = true) (present : (s.laser e.val).present = true) :
    exec (.swap e) s = .next (((laserPorts e.val).foldl State.swapPort s).setLaser e.val { s.laser e.val with swapping := true }) :=
  congrArg Host.Outcome.next ((State.whenBooted_booted booted _).trans (if_pos present))

theorem execSwap_effect {e : Fin 16} {s : State} (booted : s.booted = true) (present : (s.laser e.val).present = true) :
    Completes (.swap e) s [] [Component.ports, Component.lasers] fun t =>
      t.laser e.val = { s.laser e.val with swapping := true } ∧
      ∀ n ∈ laserPorts e.val, (t.port n).action = (s.port n).action ++ [5] := by
  have step := execSwap_present booted present
  refine ⟨_, step, Same.changes (execSwap_frame step) (by decide +kernel), ?_, fun n mem => ?_⟩
  · rw [State.laser_setLaser]
  · rw [State.setLaser_port, s.swapAll_action mem]

/-- Settles O57: the actions of a port by their guards, and each event of a laser module by its fold over the module's four ports. -/
theorem portsFollowControlsAndLasers : Obligations.PortsFollowControlsAndLasers := by
  intro s
  refine ⟨fun n booted => ⟨fun c a h => execPortAction_allowed booted h, fun c h => execPortAction_refused booted h,
    execPortEnable_effect booted⟩, fun e => ⟨execLaserInsert_effect, execLaserReady_effect,
    fun booted => ⟨execSwap_absent booted, execSwap_effect booted⟩, execLaserAlarm_effect, execLaserRemove_effect⟩⟩

end Sys2Proof.Machine
end

section
/-! Class 0 messages of a port: acceptance, ASSIGN, ACK, the switches that they name, and resends (R250, R251, R256, R257, R261; log
entry 14). -/

namespace Sys2Proof.Machine
open Sys2Proof.Safety

/-! ### Acceptance -/

theorem State.get_acceptMsg (s : State) (n : Nat) (m : Msg) (f : Field) (i : Nat) : (s.acceptMsg n m).2.get f i = s.get f i := by
  unfold State.acceptMsg
  dsimp only
  split_ifs <;> rfl

theorem State.acceptMsg_portTalks (s : State) (n : Nat) (m : Msg) (k : Nat) : (s.acceptMsg n m).2.portTalks k = s.portTalks k := by
  rw [State.portTalks, State.get_acceptMsg, State.portTalks]

theorem State.acceptMsg_reelCount (s : State) (n : Nat) (m : Msg) : (s.acceptMsg n m).2.reelCount = s.reelCount := s.get_acceptMsg ..

section
variable {s : State} {n type : Nat} {m : Msg}

/-- A message that was heard before is only acknowledged. -/
theorem State.port_acceptMsg_again (again : (s.port n).seen.contains m.seq = true) :
    (s.acceptMsg n m).2.port n = if m.type = 3 then s.port n else { s.port n with acks := (s.port n).acks ++ [m.seq] } := by
  unfold State.acceptMsg
  dsimp only
  rw [if_pos again]
  split
  · rfl
  · exact State.port_modPort _ _ _

theorem State.acceptMsg_new (s : State) (n : Nat) (m : Msg) : (s.acceptMsg n m).1 = !(s.port n).seen.contains m.seq := by
  unfold State.acceptMsg
  dsimp only
  cases (s.port n).seen.contains m.seq <;> rfl

theorem State.onMsg_hears (hears : s.portHears n = true) (kind : m.type = type) (f : State → State) :
    s.onMsg n m type f = if !(s.port n).seen.contains m.seq then f (s.acceptMsg n m).2 else (s.acceptMsg n m).2 := by
  rw [← State.acceptMsg_new, State.onMsg, if_pos (by rw [hears, kind, beq_self_eq_true, Bool.and_self])]

theorem State.onMsg_again (hears : s.portHears n = true) (kind : m.type = type) (again : (s.port n).seen.contains m.seq = true)
    (f : State → State) : s.onMsg n m type f = (s.acceptMsg n m).2 := by
  rw [State.onMsg_hears hears kind, again, Bool.not_true, if_neg Bool.false_ne_true]

/-- A message that is heard for the first time has its effect. -/
theorem State.onMsg_heard (h : Heard s n m type) (f : State → State) : s.onMsg n m type f = f (s.acceptMsg n m).2 := by
  obtain ⟨hears, kind, new⟩ := h
  rw [State.onMsg_hears hears kind, new, Bool.not_false, if_pos rfl]

theorem State.port_acceptMsg_heard (h : Heard s n m type) : (s.acceptMsg n m).2.port n = { s.port n with
    acks := if m.type = 3 then (s.port n).acks else (s.port n).acks ++ [m.seq], seen := m.seq :: (s.port n).seen } := by
  obtain ⟨-, -, new⟩ := h
  unfold State.acceptMsg
  dsimp only
  rw [if_neg (by rw [new]; exact Bool.false_ne_true)]
  split
  · exact State.port_modPort _ _ _
  · rw [State.port_modPort, State.port_modPort]

end

theorem exec_heardAgain {s : State} {n : Fin 64} {m : Msg} {c : Instr}
    (kind : c = .assign n m ∧ m.type = 2 ∨ c = .ack n m ∧ m.type = 3 ∨ c = .laneFail n m ∧ m.type = 4 ∨
      c = .laneSwitch n m ∧ m.type = 5 ∨ c = .narrow n m ∧ m.type = 6 ∨ c = .retrainReq n m ∧ m.type = 7)
    (hears : s.portHears n.val = true) (again : (s.port n.val).seen.contains m.seq = true) :
    exec c s = .next (s.acceptMsg n.val m).2 := by
  obtain ⟨rfl, k⟩ | ⟨rfl, k⟩ | ⟨rfl, k⟩ | ⟨rfl, k⟩ | ⟨rfl, k⟩ | ⟨rfl, k⟩ := kind
  all_goals exact congrArg Host.Outcome.next (State.onMsg_again hears k again _)

/-! ### ASSIGN -/

theorem State.get_assignAll (s : State) (v : Nat) {k : Nat} (port : k < 64) :
    ((List.range 64).foldl (fun (s : State) k => s.put .TETH_NODE_NODE k v) s).get .TETH_NODE_NODE k = v % 2 ^ 32 := by
  obtain ⟨u, -, -, result⟩ := foldl_once (f := fun (s : State) k => s.put .TETH_NODE_NODE k v) (I := fun _ => True)
    (g := fun s : State => s.get .TETH_NODE_NODE k) List.nodup_range (List.mem_range.2 port) (fun _ _ _ _ => trivial)
    (fun u j hj ne _ => u.get_put_index (by have := List.mem_range.1 hj; omega) v) (s := s) trivial
  exact result.trans (u.get_put _ _ _)

theorem State.assignNode_takes {s : State} {n : Nat} {m : Msg}
    (free : s.get .TETH_NODE_NODE n = 0 ∨ s.get .TETH_NODE_NODE n = u32 m.body 0) :
    s.assignNode n m = (((List.range 64).foldl (fun (s : State) k => s.put .TETH_NODE_NODE k (u32 m.body 0)) s).put
      .TETH_NODE_PEER n (u32 m.body 4)).modPort n fun x => { x with assigned := true } := by
  rw [State.assignNode, if_pos free]

theorem State.assignNode_refuses {s : State} {n : Nat} {m : Msg}
    (held : ¬(s.get .TETH_NODE_NODE n = 0 ∨ s.get .TETH_NODE_NODE n = u32 m.body 0)) :
    s.assignNode n m = (s.portDown n 3).tethEvent .TETH_EVT_ADDR_MISMATCH n := by
  rw [State.assignNode, if_neg held]

theorem execAssign_heard {s : State} {n : Fin 64} {m : Msg} (h : Heard s n.val m 2) :
    exec (.assign n m) s = .next ((s.acceptMsg n.val m).2.assignNode n.val m) := congrArg Host.Outcome.next (State.onMsg_heard h _)

theorem execAssign_effect {s : State} {n : Fin 64} {m : Msg} (h : Heard s n.val m 2) :
    let node := u32 m.body 0
    let mine := s.get .TETH_NODE_NODE n.val
    ((mine = 0 ∨ mine = node) → Completes (.assign n m) s (bookFields ++ [Field.TETH_STAT_DOWN_CAUSE, Field.TETH_STAT_STATE,
        Field.TETH_EVT_ADDR_MISMATCH, Field.TETH_EVT_DOWN] ++ [Field.TETH_NODE_PEER,
          Field.TETH_NODE_NODE]) [Component.ports, Component.book, Component.fresh] fun t =>
      t.get .TETH_NODE_PEER n.val = u32 m.body 4 % 2 ^ 32 ∧ (t.port n.val).assigned = true ∧
      ∀ k, k < 64 → t.get .TETH_NODE_NODE k = node % 2 ^ 32) ∧
    (mine ≠ 0 → mine ≠ node → Completes (.assign n m) s (bookFields ++ [Field.TETH_STAT_DOWN_CAUSE, Field.TETH_STAT_STATE,
        Field.TETH_EVT_ADDR_MISMATCH, Field.TETH_EVT_DOWN] ++ [Field.TETH_NODE_PEER,
          Field.TETH_NODE_NODE]) [Component.ports, Component.book, Component.fresh] fun t =>
      t.get .TETH_STAT_STATE n.val = 6 ∧ t.get .TETH_STAT_DOWN_CAUSE n.val = 3 ∧ t.get .TETH_EVT_ADDR_MISMATCH n.val = 1) := by
  intro node mine
  have step := execAssign_heard h
  have held : (s.acceptMsg n.val m).2.get .TETH_NODE_NODE n.val = mine := s.get_acceptMsg ..
  have frame := Same.changes (F := bookFields ++ [Field.TETH_STAT_DOWN_CAUSE, Field.TETH_STAT_STATE,
    Field.TETH_EVT_ADDR_MISMATCH, Field.TETH_EVT_DOWN] ++ [Field.TETH_NODE_PEER, Field.TETH_NODE_NODE])
    (C := [Component.ports, Component.book, Component.fresh]) (execAssign_frame step) (by decide +kernel)
  refine ⟨fun free => ⟨_, step, frame, ?_⟩, fun some other => ⟨_, step, frame, ?_⟩⟩
  · rw [State.assignNode_takes (by rw [held]; exact free)]
    refine ⟨?_, by rw [State.port_modPort], fun k port => ?_⟩
    · rw [State.modPort_get, State.get_put]
      rfl
    · rw [State.modPort_get, State.get_put_code _ (by decide), State.get_assignAll _ _ port]
  · rw [State.assignNode_refuses (by rw [held]; exact not_or.2 ⟨some, other⟩)]
    obtain ⟨down, cause⟩ := (s.acceptMsg n.val m).2.get_portDown n.val (cause := 3) (by decide)
    refine ⟨?_, ?_, State.get_tethEvent _ (by decide) (by decide) _⟩
    · rw [State.get_tethEvent_other _ (by decide) (by decide), down]
    · rw [State.get_tethEvent_other _ (by decide) (by decide), cause]

/-! ### ACK, LANE_SWITCH, NARROW and RETRAIN_REQ -/

theorem execAck_effect {s : State} {n : Fin 64} {m : Msg} (h : Heard s n.val m 3) :
    Completes (.ack n m) s [] [Component.ports] fun t =>
      (t.port n.val).sent = (s.port n.val).sent.filter (fun u => u.msg.seq != u32 m.body 0) ∧
      (t.port n.val).queue = (s.port n.val).queue.filter fun u => !(u.resend && u.seq == u32 m.body 0) := by
  have step : execAck n m s = .next _ := congrArg Host.Outcome.next (State.onMsg_heard h _)
  refine ⟨_, step, Same.changes (execAck_frame step) (by decide +kernel), ?_⟩
  dsimp only
  rw [State.port_modPort, State.port_acceptMsg_heard h]
  exact ⟨rfl, rfl⟩

theorem execLaneSwitch_effect {s : State} {n : Fin 64} {m : Msg} (h : Heard s n.val m 5) :
    Completes (.laneSwitch n m) s [] [Component.ports] fun t =>
      (t.port n.val).rx.substitute = some (u8 m.body 0, u64 m.body 8) := by
  have step : execLaneSwitch n m s = .next _ := congrArg Host.Outcome.next (State.onMsg_heard h _)
  refine ⟨_, step, Same.changes (execLaneSwitch_frame step) (by decide +kernel), ?_⟩
  dsimp only
  rw [State.port_modPort]

theorem execNarrow_effect {s : State} {n : Fin 64} {m : Msg} (h : Heard s n.val m 6) :
    Completes (.narrow n m) s [] [Component.ports] fun t =>
      (t.port n.val).tx.narrow = some (bits (u32 m.body 0) 16 0, u64 m.body 8, u32 m.body 4) := by
  have step : execNarrow n m s = .next _ := congrArg Host.Outcome.next (State.onMsg_heard h _)
  refine ⟨_, step, Same.changes (execNarrow_frame step) (by decide +kernel), ?_⟩
  dsimp only
  rw [State.port_modPort]

theorem execRetrainReq_trains {s : State} {n : Fin 64} {m : Msg} (h : Heard s n.val m 7) (talks : s.portTalks n.val = true) :
    exec (.retrainReq n m) s = .next ((s.acceptMsg n.val m).2.startTraining n.val) :=
  congrArg Host.Outcome.next ((State.onMsg_heard h _).trans (if_pos (by rw [State.acceptMsg_portTalks, talks])))

theorem execRetrainReq_effect {s : State} {n : Fin 64} {m : Msg} (h : Heard s n.val m 7) (talks : s.portTalks n.val = true) :
    Completes (.retrainReq n m) s (bookFields ++ [Field.TETH_STAT_STATE,
      Field.TETH_LINK_CNT_RETRAINS, Field.TETH_NODE_NODE]) [Component.ports, Component.book] fun t =>
      t.get .TETH_STAT_STATE n.val = 2 ∧ (t.port n.val).trained = false ∧ (t.port n.val).assigned = false ∧ (t.port n.val).attempts = 0 := by
  have step := execRetrainReq_trains h talks
  refine ⟨_, step, Same.changes (execRetrainReq_frame step) (by decide +kernel), State.get_startTraining _ _, ?_⟩
  rw [State.port_startTraining]
  exact ⟨rfl, rfl, rfl⟩

/-! ### MESSAGE_RESEND -/

theorem execMessageResend_overdue {s : State} {n : Fin 64} {u : Sent} (opens : s.slotOpen n.val = true)
    (due : (s.port n.val).overdue s.clock.frameNo = some u) :
    exec (.messageResend n) s = .next (if 3 ≤ u.resends then s.startTraining n.val
      else s.modPort n.val fun x => { x with queue := { u.msg with resend := true } :: x.queue }) := by
  refine Eq.trans (b := execMessageResend n s) rfl ?_
  rw [execMessageResend, if_pos opens, due]

theorem execMessageResend_effect {s : State} {n : Fin 64} {u : Sent} (opens : s.slotOpen n.val = true)
    (due : (s.port n.val).overdue s.clock.frameNo = some u) :
    Completes (.messageResend n) s (bookFields ++ [Field.TETH_STAT_STATE, Field.TETH_LINK_CNT_RETRAINS,
      Field.TETH_NODE_NODE]) [Component.ports, Component.book] fun t =>
      (u.resends < 3 → t.port n.val = { s.port n.val with queue := { u.msg with resend := true } :: (s.port n.val).queue }) ∧
      (3 ≤ u.resends → t.get .TETH_STAT_STATE n.val = 2) := by
  have step := execMessageResend_overdue opens due
  refine ⟨_, step, Same.changes (execMessageResend_frame step) (by decide +kernel), fun few => ?_, fun many => ?_⟩
  · rw [if_neg (Nat.not_le.2 few), State.port_modPort]
  · rw [if_pos many, State.get_startTraining]

end Sys2Proof.Machine
end

section
/-! The link check of a frame: what it counts, and where the receive sequence then stands (R244, R254, R257, R260, R261, R263; log
entry 79). -/

namespace Sys2Proof.Machine
open Sys2Proof.Safety

/-! ### Corrected and uncorrectable codewords -/

/-- How many codewords the decoder corrected. -/
def fixedWords (wrong : List (List Nat)) : Nat := (wrong.filter fun y => !y.isEmpty && decodes y).length

/-- How many it could not correct. -/
def badWords (wrong : List (List Nat)) : Nat := (wrong.filter fun y => !decodes y).length

theorem badWords_eq_zero {wrong : List (List Nat)} : badWords wrong = 0 ↔ wrong.all decodes = true := by
  simp [badWords, List.filter_eq_nil_iff]

theorem State.get_countCorrected {s : State} {wrong : List (List Nat)} (some : fixedWords wrong ≠ 0) (n : Nat) :
    (s.countCorrected n wrong).get .TETH_FEC_CORRECTED n =
      satW Field.TETH_FEC_CORRECTED.width (s.get .TETH_FEC_CORRECTED n + fixedWords wrong) := by
  unfold State.countCorrected
  dsimp only
  rw [if_neg (by rw [List.isEmpty_iff_length_eq_zero]; exact some), State.modPort_get, State.get_tethInc _ (by decide)]
  rfl

theorem State.countCorrected_rx (s : State) (n : Nat) (wrong : List (List Nat)) :
    ((s.countCorrected n wrong).port n).rx = (s.port n).rx := by
  unfold State.countCorrected
  dsimp only
  split
  · rfl
  · rw [State.port_modPort, State.tethInc_port]

theorem State.countUncorr_some {s : State} {n : Nat} {wrong : List (List Nat)} {since : Bool} (some : badWords wrong ≠ 0) :
    s.countUncorr n wrong since = if since then
      (s.tethInc .TETH_FEC_UNCORR_TOTAL n (badWords wrong)).tethInc .TETH_UNCORR_SINCE_TRAIN n (badWords wrong)
      else s.tethInc .TETH_FEC_UNCORR_TOTAL n (badWords wrong) := if_neg some

@[simp] theorem State.countUncorr_port (s : State) (n : Nat) (wrong : List (List Nat)) (since : Bool) (k : Nat) :
    (s.countUncorr n wrong since).port k = s.port k := by
  rw [State.port, State.countUncorr_frame.ports (by decide), State.port]

theorem State.get_countUncorr {s : State} {wrong : List (List Nat)} (some : badWords wrong ≠ 0) (n : Nat) (since : Bool) :
    (s.countUncorr n wrong since).get .TETH_FEC_UNCORR_TOTAL n =
      satW Field.TETH_FEC_UNCORR_TOTAL.width (s.get .TETH_FEC_UNCORR_TOTAL n + badWords wrong) := by
  rw [State.countUncorr_some some]
  split
  · rw [State.get_tethInc_other _ (by decide) (by decide), State.get_tethInc _ (by decide)]
  · rw [State.get_tethInc _ (by decide)]

theorem State.get_countUncorr_since {s : State} {wrong : List (List Nat)} (some : badWords wrong ≠ 0) (n : Nat) :
    (s.countUncorr n wrong true).get .TETH_UNCORR_SINCE_TRAIN n =
      satW Field.TETH_UNCORR_SINCE_TRAIN.width (s.get .TETH_UNCORR_SINCE_TRAIN n + badWords wrong) := by
  rw [State.countUncorr_some some, if_pos rfl, State.get_tethInc _ (by decide), State.get_tethInc_other _ (by decide) (by decide)]

/-- The counts of a frame's codewords; `since` where they count towards the limit of R261. -/
def State.countWords (s : State) (n : Nat) (w : WslFrame) (since : Bool) : State :=
  (s.countCorrected n (s.wrongAt n w)).countUncorr n (s.wrongAt n w) since

section
variable (s : State) (n : Nat) (w : WslFrame) (since : Bool)

theorem State.countWords_rx : ((s.countWords n w since).port n).rx = (s.port n).rx := by
  rw [State.countWords, State.countUncorr_port, State.countCorrected_rx]

theorem State.get_countWords_corrected (some : fixedWords (s.wrongAt n w) ≠ 0) : (s.countWords n w since).get .TETH_FEC_CORRECTED n =
    satW Field.TETH_FEC_CORRECTED.width (s.get .TETH_FEC_CORRECTED n + fixedWords (s.wrongAt n w)) :=
  (State.countUncorr_frame.reg _ _ (by decide) (by decide)).trans (State.get_countCorrected some n)

theorem State.get_countWords_total (some : badWords (s.wrongAt n w) ≠ 0) : (s.countWords n w since).get .TETH_FEC_UNCORR_TOTAL n =
    satW Field.TETH_FEC_UNCORR_TOTAL.width (s.get .TETH_FEC_UNCORR_TOTAL n + badWords (s.wrongAt n w)) := by
  rw [State.countWords, State.get_countUncorr some, State.countCorrected_frame.reg _ _ (by decide) (by decide)]

theorem State.get_countWords_since (some : badWords (s.wrongAt n w) ≠ 0) : (s.countWords n w true).get .TETH_UNCORR_SINCE_TRAIN n =
    satW Field.TETH_UNCORR_SINCE_TRAIN.width (s.get .TETH_UNCORR_SINCE_TRAIN n + badWords (s.wrongAt n w)) := by
  rw [State.countWords, State.get_countUncorr_since some, State.countCorrected_frame.reg _ _ (by decide) (by decide)]

theorem State.get_countWords_discard : (s.countWords n w since).get .TETH_UNCORR_DISCARD_NARROW n = s.get .TETH_UNCORR_DISCARD_NARROW n :=
  (State.countUncorr_frame.reg _ _ (by decide) (by decide)).trans (State.countCorrected_frame.reg _ _ (by decide) (by decide))

/-! ### The link check -/

/-- A direction that awaits its narrowing discards this frame (R257). -/
def State.losesFrame : Prop :=
  (s.port n).rx.lossy = true ∧ w.short = false ∧ ((2 ≤ w.cls ∧ w.cls ≤ 4) ∨ badWords (s.wrongAt n w) ≠ 0)

theorem State.losesFrame_iff : ((s.port n).rx.lossy && !w.short && (decide (2 ≤ w.cls ∧ w.cls ≤ 4) || !(s.wrongAt n w).all decodes)) = true ↔
    s.losesFrame n w := by
  rw [State.losesFrame, Ne, badWords_eq_zero]
  simp only [Bool.and_eq_true, Bool.or_eq_true, Bool.not_eq_true', decide_eq_true_eq, Bool.not_eq_true, and_assoc]

variable {s n w}

theorem State.linkCheck_loses (lost : s.losesFrame n w) :
    (s.linkCheck n w).2 = (s.countWords n w false).tethInc .TETH_UNCORR_DISCARD_NARROW n 1 := by
  rw [← State.losesFrame_iff] at lost
  unfold State.linkCheck
  dsimp only
  rw [lost, if_pos rfl]
  rfl

theorem State.linkCheck_fails (keeps : ¬s.losesFrame n w) (bad : s.linkOk n w = false) :
    (s.linkCheck n w).2 = (s.countWords n w true).modPort n fun x => { x with discarded := x.discarded + 1 } := by
  rw [← State.losesFrame_iff, Bool.not_eq_true] at keeps
  unfold State.linkCheck
  dsimp only
  rw [keeps, bad, if_neg Bool.false_ne_true, Bool.not_false, if_pos rfl]
  rfl

theorem State.linkCheck_passes (keeps : ¬s.losesFrame n w) (ok : s.linkOk n w = true) :
    (s.linkCheck n w).2 = if 2 ≤ w.cls ∧ w.cls ≤ 4 then
      (s.countWords n w true).modPort n fun x => { x with rx := { x.rx with seq := (w.seq + 1) % 2 ^ 32 } } else s.countWords n w true := by
  rw [← State.losesFrame_iff, Bool.not_eq_true] at keeps
  unfold State.linkCheck
  dsimp only
  rw [keeps, ok, if_neg Bool.false_ne_true, Bool.not_true, if_neg Bool.false_ne_true, Bool.not_false]
  simp only [decide_eq_true_eq]
  rfl

/-- Whatever becomes of the frame, its codewords are counted. -/
theorem State.linkCheck_counts (s : State) (n : Nat) (w : WslFrame) {f : Field} (off : f.offBook = true)
    (ne : f.code ≠ Field.TETH_UNCORR_DISCARD_NARROW.code) (i : Nat) :
    ∃ since, (since = true ↔ ¬s.losesFrame n w) ∧ (s.linkCheck n w).2.get f i = (s.countWords n w since).get f i := by
  by_cases lost : s.losesFrame n w
  · exact ⟨false, by simp [lost], by rw [State.linkCheck_loses lost, State.get_tethInc_other _ off ne]⟩
  · refine ⟨true, by simp [lost], ?_⟩
    cases ok : s.linkOk n w with
    | false => rw [State.linkCheck_fails lost ok, State.modPort_get]
    | true =>
      rw [State.linkCheck_passes lost ok]
      split <;> rfl

end

/-! ### WSL_FRAME -/

theorem execWslFrame_open {s : State} {n : Fin 64} (opens : s.slotOpen n.val = true) (w : WslFrame) :
    exec (.wslFrame n w) s = .next (s.linkCheck n.val w).2 := congrArg Host.Outcome.next (if_pos opens)

theorem execWslFrame_loopback {s : State} {n : Fin 64} (shut : ¬s.slotOpen n.val = true) (loopback : s.get .TETH_STAT_STATE n.val = 5)
    (w : WslFrame) : exec (.wslFrame n w) s = .next (s.countWords n.val w true) :=
  congrArg Host.Outcome.next ((if_neg shut).trans (if_pos loopback))

theorem execWslFrame_effect {s : State} {n : Fin 64} (w : WslFrame)
    (takes : s.slotOpen n.val = true ∨ s.get .TETH_STAT_STATE n.val = 5) :
    Completes (.wslFrame n w) s (bookFields ++ frameFields ++ [Field.TETH_UNCORR_SINCE_TRAIN]) [Component.ports, Component.book] fun t =>
      let wrong := s.wrongAt n.val w
      let fixed := (wrong.filter fun y => !y.isEmpty && decodes y).length
      let bad := (wrong.filter fun y => !decodes y).length
      let data := 2 ≤ w.cls ∧ w.cls ≤ 4
      let lost := (s.port n.val).rx.lossy = true ∧ w.short = false ∧ (data ∨ bad ≠ 0)
      (fixed ≠ 0 → t.get .TETH_FEC_CORRECTED n.val =
        satW Field.TETH_FEC_CORRECTED.width (s.get .TETH_FEC_CORRECTED n.val + fixed)) ∧
      (bad ≠ 0 → t.get .TETH_FEC_UNCORR_TOTAL n.val =
        satW Field.TETH_FEC_UNCORR_TOTAL.width (s.get .TETH_FEC_UNCORR_TOTAL n.val + bad)) ∧
      (s.slotOpen n.val = true → lost → t.get .TETH_UNCORR_DISCARD_NARROW n.val =
          satW Field.TETH_UNCORR_DISCARD_NARROW.width (s.get .TETH_UNCORR_DISCARD_NARROW n.val + 1) ∧ (t.port n.val).rx = (s.port n.val).rx) ∧
      (s.slotOpen n.val = true → ¬lost →
        (bad ≠ 0 → t.get .TETH_UNCORR_SINCE_TRAIN n.val =
          satW Field.TETH_UNCORR_SINCE_TRAIN.width (s.get .TETH_UNCORR_SINCE_TRAIN n.val + bad)) ∧
        (s.linkOk n.val w = false → (t.port n.val).rx = (s.port n.val).rx) ∧
        (s.linkOk n.val w = true → data → (t.port n.val).rx.seq = (w.seq + 1) % 2 ^ 32)) := by
  by_cases opens : s.slotOpen n.val = true
  · have step := execWslFrame_open opens w
    refine ⟨_, step, Same.changes (execWslFrame_frame step) (by decide +kernel), fun some => ?_, fun some => ?_, fun _ lost => ?_,
      fun _ keeps => ⟨fun some => ?_, fun bad => ?_, fun ok data => ?_⟩⟩
    · obtain ⟨since, -, counted⟩ := s.linkCheck_counts n.val w (f := .TETH_FEC_CORRECTED) (by decide) (by decide) n.val
      exact counted.trans (s.get_countWords_corrected n.val w since some)
    · obtain ⟨since, -, counted⟩ := s.linkCheck_counts n.val w (f := .TETH_FEC_UNCORR_TOTAL) (by decide) (by decide) n.val
      exact counted.trans (s.get_countWords_total n.val w since some)
    · rw [State.linkCheck_loses lost, State.get_tethInc _ (by decide), State.get_countWords_discard, State.tethInc_port,
        State.countWords_rx]
      exact ⟨rfl, rfl⟩
    · obtain ⟨since, keep, counted⟩ := s.linkCheck_counts n.val w (f := .TETH_UNCORR_SINCE_TRAIN) (by decide) (by decide) n.val
      rw [keep.2 keeps] at counted
      exact counted.trans (s.get_countWords_since n.val w some)
    · rw [State.linkCheck_fails keeps bad, State.port_modPort, State.countWords_rx]
    · rw [State.linkCheck_passes keeps ok, if_pos data, State.port_modPort]
  · have step := execWslFrame_loopback opens (takes.resolve_left opens) w
    exact ⟨_, step, Same.changes (execWslFrame_frame step) (by decide +kernel), s.get_countWords_corrected n.val w true,
      s.get_countWords_total n.val w true, fun h => absurd h opens, fun h => absurd h opens⟩

end Sys2Proof.Machine
end

section
/-! Lanes of a port: loss, substitution and narrowing (R240, R253 to R258). -/

namespace Sys2Proof.Machine
open Sys2Proof.Safety

/-! ### Lanes and their registers -/

theorem State.port_queueMsg (s : State) (n type : Nat) (body : Bytes) : (s.queueMsg n type body).port n = { s.port n with
    queue := (s.port n).queue ++ [⟨type, false, n, (s.port n).msgSeq % 2 ^ 32, fitBytes 56 body⟩], msgSeq := (s.port n).msgSeq + 1 } :=
  State.port_modPort _ _ _

theorem State.port_setDir_rx (s : State) (n : Nat) (v : PortDir) (w : Bool) (l : Nat) :
    (s.setDir n .rx v w l).port n = { s.port n with rx := v } := by
  simp only [State.setDir, State.put_port, State.port_modPort]

theorem State.port_setDir_tx (s : State) (n : Nat) (v : PortDir) (w : Bool) (l : Nat) :
    (s.setDir n .tx v w l).port n = { s.port n with tx := v } := by
  simp only [State.setDir, State.put_port, State.port_modPort]

theorem State.setDir_dir (s : State) (n : Nat) (d : Dir) (v : PortDir) (w : Bool) (l : Nat) :
    ((s.setDir n d v w l).port n).dir d = v := by
  cases d
  · rw [State.port_setDir_rx]; rfl
  · rw [State.port_setDir_tx]; rfl

theorem State.setDir_subst (s : State) (n : Nat) (d : Dir) (v : PortDir) (w : Bool) (l : Nat) :
    (s.setDir n d v w l).subst n d = l % 32 := by
  cases d <;> exact State.get_put _ _ _ _

theorem State.setDir_width8 (s : State) (n : Nat) (d : Dir) (v : PortDir) (w : Bool) (l : Nat) :
    (s.setDir n d v w l).width8 n d = w := by
  have bit : (nat01 w % 2 == 1) = w := by cases w <;> rfl
  cases d
  · refine Eq.trans (congrArg (· == 1) ?_) bit
    exact (State.get_put_code _ (by decide) _ _ _).trans (State.get_put _ _ _ _)
  · refine Eq.trans (congrArg (· == 1) ?_) bit
    exact (State.get_put_code _ (by decide) _ _ _).trans (State.get_put _ _ _ _)

/-- Neither of two fields is one of a port's lanes. -/
def offLanes (c e : Field) : Bool := laneFields.all fun f => f.code != c.code && f.code != e.code

/-- What happens to a lane or a direction is counted, and is an event of the port (R260, R267). -/
def State.noteLane (s : State) (n : Nat) (c e : Field) : State := (s.tethInc c n 1).tethEvent e n

section
variable (s : State) (n : Nat) {c e : Field}

@[simp] theorem State.noteLane_port (k : Nat) : (s.noteLane n c e).port k = s.port k := by
  rw [State.noteLane, State.tethEvent_port, State.tethInc_port]

theorem State.get_noteLane_count (off : c.offBook = true) (ne : c.code ≠ e.code) :
    (s.noteLane n c e).get c n = satW c.width (s.get c n + 1) := by
  rw [State.noteLane, State.get_tethEvent_other _ off ne, State.get_tethInc _ off]

theorem State.get_noteLane_event (off : e.offBook = true) (bit : e.width = 1) : (s.noteLane n c e).get e n = 1 :=
  State.get_tethEvent _ off bit n

theorem State.get_noteLane_other {f : Field} (off : f.offBook = true) (nc : f.code ≠ c.code) (ne : f.code ≠ e.code) (i : Nat) :
    (s.noteLane n c e).get f i = s.get f i := by
  rw [State.noteLane, State.get_tethEvent_other _ off ne, State.get_tethInc_other _ off nc]

theorem State.get_noteLane_lanes (off : offLanes c e = true) {f : Field} (lane : f ∈ laneFields) (i : Nat) :
    (s.noteLane n c e).get f i = s.get f i := by
  have apart := List.all_eq_true.1 off f lane
  rw [Bool.and_eq_true, bne_iff_ne, bne_iff_ne] at apart
  have book : ∀ f ∈ laneFields, f.offBook = true := by decide
  exact s.get_noteLane_other n (book f lane) apart.1 apart.2 i

theorem State.noteLane_width8 (off : offLanes c e = true) (k : Nat) (d : Dir) : (s.noteLane n c e).width8 k d = s.width8 k d := by
  cases d
  · rw [State.width8, State.width8, s.get_noteLane_lanes n off (by decide)]
  · rw [State.width8, State.width8, s.get_noteLane_lanes n off (by decide)]

theorem State.noteLane_subst (off : offLanes c e = true) (k : Nat) (d : Dir) : (s.noteLane n c e).subst k d = s.subst k d := by
  cases d
  · exact s.get_noteLane_lanes n off (by decide) k
  · exact s.get_noteLane_lanes n off (by decide) k

end

/-! ### LANE_LOST -/

/-- What becomes of a lost receive lane: rebuilt where parity still has one lane to give, failed elsewhere (R253, R255). -/
def State.lostState (s : State) (n l : Nat) : Nat :=
  if (s.port n).rx.lanes.getD l 4 = 1 ∧ (s.port n).rx.lanes.getD 16 4 = 2 ∧ (s.port n).rx.lanes.contains 3 = false ∧
    s.width8 n .rx = false then 3 else 4

/-- The loss of a lane has been counted, and the lane has the state `st`. -/
def State.laneGone (s : State) (n l st : Nat) : State :=
  let u := s.noteLane n .TETH_LINK_CNT_LANES_LOST .TETH_EVT_LANE_LOST
  u.setDir n .rx { (s.port n).rx with lanes := (s.port n).rx.lanes.set l st } (u.width8 n .rx) (u.subst n .rx)

theorem State.loseLane_gone {s : State} {n l : Nat} (lost : 3 ≤ (s.port n).rx.lanes.getD l 4) : s.loseLane n l = s := if_pos lost

theorem State.loseLane_alive {s : State} {n l : Nat} (alive : (s.port n).rx.lanes.getD l 4 < 3) :
    s.loseLane n l = if (s.port n).rx.lanes.getD l 4 = 0 then s.laneGone n l 4
      else if (s.port n).rx.lanes.getD l 4 = 2 then
        if (s.port n).rx.lanes.contains 3 then (s.laneGone n l 4).narrowRx n else s.laneGone n l 4
      else if (s.port n).rx.lanes.getD 16 4 = 2 ∧ (s.port n).rx.lanes.contains 3 = false ∧ s.width8 n .rx = false then
        (s.laneGone n l 3).queueMsg n 4 (natLE 1 l)
      else (s.laneGone n l 4).narrowRx n := by
  have width := s.noteLane_width8 n (c := .TETH_LINK_CNT_LANES_LOST) (e := .TETH_EVT_LANE_LOST) (by decide) n .rx
  rw [← width]
  exact if_neg (Nat.not_le.2 alive)

/-- A lane that is lost is counted, and the direction then stays, narrows, or asks for the substitution. -/
theorem State.loseLane_cases {s : State} {n l : Nat} (alive : (s.port n).rx.lanes.getD l 4 < 3) :
    s.loseLane n l = s.laneGone n l (s.lostState n l) ∨ s.loseLane n l = (s.laneGone n l (s.lostState n l)).narrowRx n ∨
      s.loseLane n l = (s.laneGone n l (s.lostState n l)).queueMsg n 4 (natLE 1 l) := by
  have failed (other : (s.port n).rx.lanes.getD l 4 ≠ 1) : s.lostState n l = 4 := if_neg fun h => other h.1
  rw [State.loseLane_alive alive]
  by_cases unused : (s.port n).rx.lanes.getD l 4 = 0
  · rw [if_pos unused, failed (by omega)]
    exact .inl rfl
  rw [if_neg unused]
  by_cases parity : (s.port n).rx.lanes.getD l 4 = 2
  · rw [if_pos parity, failed (by omega)]
    split
    · exact .inr (.inl rfl)
    · exact .inl rfl
  rw [if_neg parity]
  have data : (s.port n).rx.lanes.getD l 4 = 1 := by omega
  by_cases rebuilt : (s.port n).rx.lanes.getD 16 4 = 2 ∧ (s.port n).rx.lanes.contains 3 = false ∧ s.width8 n .rx = false
  · rw [if_pos rebuilt, show s.lostState n l = 3 from if_pos ⟨data, rebuilt⟩]
    exact .inr (.inr rfl)
  · rw [if_neg rebuilt, show s.lostState n l = 4 from if_neg fun h => rebuilt h.2]
    exact .inr (.inl rfl)

theorem State.portDown_rx (s : State) (n cause k : Nat) : ((s.portDown n cause).port k).rx = (s.port k).rx :=
  (congrArg Port.rx (s.portDown_unassigned n cause k) :)

theorem State.narrowRx_lanes (s : State) (n : Nat) : ((s.narrowRx n).port n).rx.lanes = (s.port n).rx.lanes := by
  unfold State.narrowRx
  dsimp only
  split_ifs
  · rw [State.portDown_rx]
  · rw [State.portDown_rx]
  · rw [State.port_queueMsg, State.port_modPort]

theorem State.loseLane_lanes {s : State} {n l : Nat} (alive : (s.port n).rx.lanes.getD l 4 < 3) :
    ((s.loseLane n l).port n).rx.lanes = (s.port n).rx.lanes.set l (s.lostState n l) := by
  have gone : ((s.laneGone n l (s.lostState n l)).port n).rx.lanes = (s.port n).rx.lanes.set l (s.lostState n l) := by
    rw [State.laneGone, State.port_setDir_rx]
  obtain e | e | e := State.loseLane_cases alive
  · rw [e, gone]
  · rw [e, State.narrowRx_lanes, gone]
  · rw [e, State.port_queueMsg, gone]

/-- All that follows a lane's loss concerns neither its count nor its event. -/
theorem State.loseLane_frame_noted {s : State} {n l : Nat} (alive : (s.port n).rx.lanes.getD l 4 < 3) :
    Same (maskBut [Field.TETH_LINK_CNT_LANES_LOST.code, Field.TETH_EVT_LANE_LOST.code])
      (s.noteLane n .TETH_LINK_CNT_LANES_LOST .TETH_EVT_LANE_LOST) (s.loseLane n l) := by
  have gone : Same (maskBut [Field.TETH_LINK_CNT_LANES_LOST.code, Field.TETH_EVT_LANE_LOST.code])
      (s.noteLane n .TETH_LINK_CNT_LANES_LOST .TETH_EVT_LANE_LOST) (s.laneGone n l (s.lostState n l)) := by
    rw [State.laneGone]
    exact Same.via State.setDir_frame (by decide +kernel) Same.refl
  obtain e | e | e := State.loseLane_cases alive <;> rw [e]
  · exact gone
  · exact Same.via State.narrowRx_frame (by decide +kernel) gone
  · exact Same.via State.queueMsg_frame (by decide +kernel) gone

theorem State.get_loseLane {s : State} {n l : Nat} (alive : (s.port n).rx.lanes.getD l 4 < 3) :
    (s.loseLane n l).get .TETH_LINK_CNT_LANES_LOST n =
      satW Field.TETH_LINK_CNT_LANES_LOST.width (s.get .TETH_LINK_CNT_LANES_LOST n + 1) ∧
    (s.loseLane n l).get .TETH_EVT_LANE_LOST n = 1 :=
  ⟨((State.loseLane_frame_noted alive).reg _ _ (by decide) (by decide +kernel)).trans
      (s.get_noteLane_count n (by decide) (by decide)),
    ((State.loseLane_frame_noted alive).reg _ _ (by decide) (by decide +kernel)).trans
      (s.get_noteLane_event n (by decide) (by decide))⟩

theorem execLaneLost_kept {s : State} {n : Fin 64} {l : Fin 17} {signal : Bool}
    (kept : 3 ≤ (s.port n.val).rx.lanes.getD l.val 4 ∨
      (signal = false ∧ Tab.get 0 (s.port n.val).laneErrs l.val ≤ 16 * s.get .TETH_CFG_LANE_ERR_LIMIT n.val)) :
    exec (.laneLost n l signal) s = .next s := by
  refine congrArg Host.Outcome.next ?_
  obtain gone | ⟨rfl, quiet⟩ := kept
  · rw [State.loseLane_gone gone, ite_self]
  · rw [State.laneNoisy, decide_eq_false (Nat.not_lt.2 quiet), Bool.or_self, Bool.and_false, if_neg Bool.false_ne_true]

theorem execLaneLost_loses {s : State} {n : Fin 64} {l : Fin 17} {signal : Bool} (talks : s.portTalks n.val = true)
    (bad : signal = true ∨ 16 * s.get .TETH_CFG_LANE_ERR_LIMIT n.val < Tab.get 0 (s.port n.val).laneErrs l.val) :
    exec (.laneLost n l signal) s = .next (s.loseLane n.val l.val) :=
  congrArg Host.Outcome.next (if_pos (by simpa [talks, State.laneNoisy] using bad))

theorem execLaneLost_effect {s : State} {n : Fin 64} {l : Fin 17} {signal : Bool} (talks : s.portTalks n.val = true)
    (alive : (s.port n.val).rx.lanes.getD l.val 4 < 3)
    (bad : signal = true ∨ 16 * s.get .TETH_CFG_LANE_ERR_LIMIT n.val < Tab.get 0 (s.port n.val).laneErrs l.val) :
    Completes (.laneLost n l signal) s (laneFields ++ bookFields ++ [Field.TETH_STAT_DOWN_CAUSE, Field.TETH_STAT_STATE,
        Field.TETH_LINK_CNT_LANES_LOST, Field.TETH_EVT_DOWN] ++ [Field.TETH_EVT_LANE_LOST,
        Field.TETH_NODE_NODE]) [Component.ports, Component.book, Component.fresh] fun t =>
      t.get .TETH_LINK_CNT_LANES_LOST n.val =
        satW Field.TETH_LINK_CNT_LANES_LOST.width (s.get .TETH_LINK_CNT_LANES_LOST n.val + 1) ∧
      t.get .TETH_EVT_LANE_LOST n.val = 1 ∧
      (t.port n.val).rx.lanes = (s.port n.val).rx.lanes.set l.val (s.lostState n.val l.val) := by
  have step := execLaneLost_loses talks bad
  obtain ⟨count, event⟩ := State.get_loseLane alive
  exact ⟨_, step, Same.changes (execLaneLost_frame step) (by decide +kernel), count, event, State.loseLane_lanes alive⟩

/-! ### LANE_FAIL -/

theorem State.answerLaneFail_switches {s : State} {n : Nat} {m : Msg} (data : u8 m.body 0 < 16)
    (parity : (s.port n).tx.lanes.getD 16 4 = 2) :
    s.answerLaneFail n m = (s.setDir n .tx { (s.port n).tx with
        lanes := (s.port n).tx.lanes.set (u8 m.body 0) 3, substitute := some (u8 m.body 0, s.reelCount + 3) }
      (s.width8 n .tx) (s.subst n .tx)).queueMsg n 5 (natLE 8 (u8 m.body 0) ++ natLE 8 (s.reelCount + 3)) := if_pos ⟨data, parity⟩

theorem execLaneFail_effect {s : State} {n : Fin 64} {m : Msg} (h : Heard s n.val m 4) (data : u8 m.body 0 < 16)
    (parity : (s.port n.val).tx.lanes.getD 16 4 = 2) :
    Completes (.laneFail n m) s laneFields [Component.ports] fun t =>
      (t.port n.val).tx.lanes = (s.port n.val).tx.lanes.set (u8 m.body 0) 3 ∧
      (t.port n.val).tx.substitute = some (u8 m.body 0, s.reelCount + 3) ∧
      (t.port n.val).queue = (s.port n.val).queue ++
        [⟨5, false, n.val, (s.port n.val).msgSeq % 2 ^ 32, fitBytes 56 (natLE 8 (u8 m.body 0) ++ natLE 8 (s.reelCount + 3))⟩] := by
  have step : execLaneFail n m s = .next ((s.acceptMsg n.val m).2.answerLaneFail n.val m) :=
    congrArg Host.Outcome.next (State.onMsg_heard h _)
  refine ⟨_, step, Same.changes (execLaneFail_frame step) (by decide +kernel), ?_⟩
  dsimp only
  have noted := State.port_acceptMsg_heard h
  rw [State.answerLaneFail_switches data (by rw [noted, parity]), State.port_queueMsg, State.port_setDir_tx, noted,
    State.acceptMsg_reelCount]
  exact ⟨rfl, rfl, rfl⟩

/-! ### SUBSTITUTION -/

/-- The direction whose logical lane `l` has moved to L16. -/
def PortDir.substituted (v : PortDir) (l : Nat) : PortDir :=
  { v with lanes := (v.lanes.set 16 1).set l 4, map := v.map.set l 16, substitute := none }

theorem State.substitute_moves {s : State} {n : Nat} {d : Dir} {l f : Nat} (named : ((s.port n).dir d).substitute = some (l, f))
    (due : f ≤ s.reelCount) (talks : s.portTalks n = true) :
    s.substitute n d = (s.setDir n d (((s.port n).dir d).substituted l) (s.width8 n d) l).noteLane n
      .TETH_LINK_CNT_SUBSTITUTIONS .TETH_EVT_SUBSTITUTED := by
  unfold State.substitute
  dsimp only
  rw [named]
  exact if_pos ⟨due, talks⟩

theorem execSubstitution_effect {s : State} {n : Fin 64} {d : Dir} {l f : Nat}
    (named : ((s.port n.val).dir d).substitute = some (l, f)) (due : f ≤ s.reelCount) (talks : s.portTalks n.val = true) :
    Completes (.substitution n d) s (laneFields ++ bookFields ++ [Field.TETH_LINK_CNT_SUBSTITUTIONS,
        Field.TETH_EVT_SUBSTITUTED]) [Component.ports, Component.book, Component.fresh] fun t =>
      ((t.port n.val).dir d).lanes = (((s.port n.val).dir d).lanes.set 16 1).set l 4 ∧ ((t.port n.val).dir d).substitute = none ∧
      t.subst n.val d = l % 32 ∧ t.get .TETH_EVT_SUBSTITUTED n.val = 1 ∧
      t.get .TETH_LINK_CNT_SUBSTITUTIONS n.val =
        satW Field.TETH_LINK_CNT_SUBSTITUTIONS.width (s.get .TETH_LINK_CNT_SUBSTITUTIONS n.val + 1) := by
  have step : execSubstitution n d s = .next _ := congrArg Host.Outcome.next (State.substitute_moves named due talks)
  refine ⟨_, step, Same.changes (execSubstitution_frame step) (by decide +kernel), ?_, ?_, ?_,
    State.get_noteLane_event _ _ (by decide) (by decide), ?_⟩
  · rw [State.noteLane_port, State.setDir_dir, PortDir.substituted]
  · rw [State.noteLane_port, State.setDir_dir, PortDir.substituted]
  · rw [State.noteLane_subst _ _ (by decide), State.setDir_subst]
  · rw [State.get_noteLane_count _ _ (by decide) (by decide), State.setDir_frame.reg _ _ (by decide) (by decide)]

/-! ### NARROW_SWITCH -/

/-- L16 carries data or nothing once a direction has narrowed. -/
theorem narrowLanes_parity (v : PortDir) (mask : Nat) : ((narrowLanes v mask).getD 16 4 == 2) = false := by
  have last : (narrowLanes v mask).getD 16 4 = if mask.testBit 16 then 1 else if healthyLane v 16 && decide (mask < 2 ^ 16) then 0 else 4 := rfl
  rw [last]
  split_ifs <;> rfl

/-- The frames that a transmitter sends again from a SEQ on (R257). -/
def State.storedFrom (s : State) (n q : Nat) : List (Nat × WslFrame) :=
  (s.port n).store.filter fun k => decide (s.now ≤ k.1 + 102400) && decide ((k.2.seq + 2 ^ 32 - q) % 2 ^ 32 < 2 ^ 31)

theorem State.resendFrom_stays {s : State} {n : Nat} (still : s.dataFlows n = false) (q : Nat) : s.resendFrom n q = s := by
  rw [State.resendFrom, still, if_neg Bool.false_ne_true]

theorem State.sendAll_out (s : State) (n : Nat) (l : List (Nat × WslFrame)) :
    (l.foldl (fun (s : State) x => s.sendOn n x.2) s).out =
      s.out ++ l.map fun k => .frame n k.2 (s.port n).tx.map ((s.port n).tx.lanes.getD 16 4 == 2) := by
  induction l generalizing s with
  | nil => exact (List.append_nil _).symm
  | cons x l ih => exact (ih (s.sendOn n x.2)).trans (List.append_assoc _ _ _)

theorem State.resendFrom_out {s : State} {n : Nat} (flows : s.dataFlows n = true) (q : Nat) : (s.resendFrom n q).out =
    s.out ++ (s.storedFrom n q).map fun k => .frame n k.2 (s.port n).tx.map ((s.port n).tx.lanes.getD 16 4 == 2) := by
  rw [State.resendFrom, if_pos flows]
  exact s.sendAll_out n _

/-- The direction as it stands after its narrowing to a mask. -/
def PortDir.narrowed (v : PortDir) (mask : Nat) : PortDir :=
  { v with lanes := narrowLanes v mask, map := lanesOf mask, narrow := none, lossy := false, substitute := none }

/-- The port whose direction has narrowed, before anything is sent again. -/
def State.narrowed (s : State) (n : Nat) (d : Dir) (mask : Nat) : State :=
  (s.setDir n d (((s.port n).dir d).narrowed mask) true 0x1F).noteLane n .TETH_LINK_CNT_NARROWINGS .TETH_EVT_NARROWED

section
variable (s : State) (n : Nat) (d : Dir) (mask : Nat)

theorem State.narrowed_dir : ((s.narrowed n d mask).port n).dir d = ((s.port n).dir d).narrowed mask := by
  rw [State.narrowed, State.noteLane_port, State.setDir_dir]

theorem State.narrowed_frame :
    Same 0x82020000000000000000000000000000000001c000000000000000000000000000000000010106f00000000000000000000000000000 s
      (s.narrowed n d mask) :=
  State.tethEvent_frame (by decide) (by decide)
    (State.tethInc_frame (by decide) (by decide) (Same.via State.setDir_frame (by decide) Same.refl))

theorem State.narrowed_dataFlows : (s.narrowed n d mask).dataFlows n = s.dataFlows n := by
  have kept := s.narrowed_frame n d mask
  rw [State.dataFlows, State.portUp, kept.reg .TETH_STAT_STATE n (by decide) (by decide),
    kept.reg .REEL_STAT_STATE 0 (by decide) (by decide)]
  rfl

theorem State.narrowed_store : ((s.narrowed n d mask).port n).store = (s.port n).store := by
  rw [State.narrowed, State.noteLane_port]
  cases d
  · rw [State.port_setDir_rx]
  · rw [State.port_setDir_tx]

/-- After its narrowing a transmitter sends again (R257). -/
def State.sentAgain (q : Nat) : State := match d with
  | .rx => s
  | .tx => s.resendFrom n q

theorem State.sentAgain_frame (q : Nat) :
    Same 0x400000000000000000000000000000000000000000000000000000000000000000000000000000000000000000000000000000000000 s
      (s.sentAgain n d q) := by
  cases d
  · exact Same.refl
  · exact State.resendFrom_frame

theorem State.sentAgain_port (q k : Nat) : (s.sentAgain n d q).port k = s.port k := by
  rw [State.port, (s.sentAgain_frame n d q).ports (by decide), State.port]

theorem State.sentAgain_width8 (q k : Nat) (e : Dir) : (s.sentAgain n d q).width8 k e = s.width8 k e := by
  cases e
  · rw [State.width8, State.width8, (s.sentAgain_frame n d q).reg _ _ (by decide) (by decide)]
  · rw [State.width8, State.width8, (s.sentAgain_frame n d q).reg _ _ (by decide) (by decide)]

theorem State.sentAgain_subst (q k : Nat) (e : Dir) : (s.sentAgain n d q).subst k e = s.subst k e := by
  cases e
  · exact (s.sentAgain_frame n d q).reg _ _ (by decide) (by decide)
  · exact (s.sentAgain_frame n d q).reg _ _ (by decide) (by decide)

theorem State.sentAgain_still (still : d = .rx ∨ s.dataFlows n = false) (q : Nat) : s.sentAgain n d q = s := by
  obtain rfl | still := still
  · rfl
  · cases d
    · rfl
    · exact State.resendFrom_stays still q

theorem State.narrowed_storedFrom (q : Nat) : (s.narrowed n d mask).storedFrom n q = s.storedFrom n q := by
  rw [State.storedFrom, State.narrowed_store, State.now, (s.narrowed_frame n d mask).clock (by decide)]
  rfl

/-- What a transmitter that has narrowed sends again, on the lanes of the mask. -/
theorem State.narrowed_sentAgain_out (flows : s.dataFlows n = true) (q : Nat) : ((s.narrowed n .tx mask).sentAgain n .tx q).out =
    s.out ++ (s.storedFrom n q).map fun k => .frame n k.2 (lanesOf mask) false := by
  have tx : ((s.narrowed n .tx mask).port n).tx = (s.port n).tx.narrowed mask := s.narrowed_dir n .tx mask
  rw [State.sentAgain, State.resendFrom_out ((s.narrowed_dataFlows n .tx mask).trans flows), tx,
    (s.narrowed_frame n .tx mask).out (by decide), s.narrowed_storedFrom, PortDir.narrowed, narrowLanes_parity]

end

theorem State.narrowSwitch_narrows {s : State} {n : Nat} {d : Dir} {mask f q : Nat}
    (named : ((s.port n).dir d).narrow = some (mask, f, q)) (due : f ≤ s.reelCount) (talks : s.portTalks n = true) :
    s.narrowSwitch n d = (s.narrowed n d mask).sentAgain n d q := by
  unfold State.narrowSwitch
  dsimp only
  rw [named]
  refine (if_pos ⟨due, talks⟩).trans ?_
  cases d <;> rfl

theorem execNarrowSwitch_effect {s : State} {n : Fin 64} {d : Dir} {mask f q : Nat}
    (named : ((s.port n.val).dir d).narrow = some (mask, f, q)) (due : f ≤ s.reelCount) (talks : s.portTalks n.val = true) :
    Completes (.narrowSwitch n d) s (laneFields ++ bookFields ++ [Field.TETH_LINK_CNT_NARROWINGS,
        Field.TETH_EVT_NARROWED]) [Component.ports, Component.book, Component.out, Component.fresh] fun t =>
      ((t.port n.val).dir d).lanes = narrowLanes ((s.port n.val).dir d) mask ∧ ((t.port n.val).dir d).narrow = none ∧
      ((t.port n.val).dir d).lossy = false ∧ t.width8 n.val d = true ∧ t.subst n.val d = 0x1F ∧ t.get .TETH_EVT_NARROWED n.val = 1 ∧
      ((d = .rx ∨ s.dataFlows n.val = false) → t.out = s.out) ∧
      (d = .tx → s.dataFlows n.val = true →
        t.out = s.out ++ (s.storedFrom n.val q).map fun k => .frame n.val k.2 (lanesOf mask) false) := by
  have step : execNarrowSwitch n d s = .next _ := congrArg Host.Outcome.next (State.narrowSwitch_narrows named due talks)
  have dir : (((s.narrowed n.val d mask).sentAgain n.val d q).port n.val).dir d = ((s.port n.val).dir d).narrowed mask := by
    rw [State.sentAgain_port, State.narrowed_dir]
  refine ⟨_, step, Same.changes (execNarrowSwitch_frame step) (by decide +kernel), ?_, ?_, ?_, ?_, ?_, ?_, fun still => ?_,
    fun sends flows => ?_⟩
  · rw [dir, PortDir.narrowed]
  · rw [dir, PortDir.narrowed]
  · rw [dir, PortDir.narrowed]
  · rw [State.sentAgain_width8, State.narrowed, State.noteLane_width8 _ _ (by decide), State.setDir_width8]
  · rw [State.sentAgain_subst, State.narrowed, State.noteLane_subst _ _ (by decide), State.setDir_subst]
  · rw [(State.sentAgain_frame _ _ _ _).reg _ _ (by decide) (by decide)]
    exact State.get_noteLane_event _ _ (by decide) (by decide)
  · rw [State.sentAgain_still _ _ _ (still.imp_right (s.narrowed_dataFlows n.val d mask).trans),
      (s.narrowed_frame n.val d mask).out (by decide)]
  · subst sends
    exact s.narrowed_sentAgain_out n.val mask flows q

end Sys2Proof.Machine
end

section
/-! A port stops, trains, and is UP at an edge; all that its messages and lanes do (R244, R250, R251, R253 to R258, R261, R262; log
entries 14 and 79). -/

namespace Sys2Proof.Machine
open Sys2Proof.Safety

/-! ### UNCORR_LIMIT -/

theorem State.setPortState_queue (s : State) (n v k : Nat) : ((s.setPortState n v).port k).queue = (s.port k).queue :=
  (congrArg Port.queue (s.setPortState_unassigned n v k) :)

theorem State.setPortState_msgSeq (s : State) (n v k : Nat) : ((s.setPortState n v).port k).msgSeq = (s.port k).msgSeq :=
  (congrArg Port.msgSeq (s.setPortState_unassigned n v k) :)

/-- The port has stopped, and a retraining is to follow the messages that wait already (R261). -/
def State.stopPort (s : State) (n : Nat) : State :=
  (((s.setPortState n 4).tethEvent .TETH_EVT_STOPPED n).queueMsg n 7 (natLE 1 0)).modPort n fun x =>
    { x with retrain := some (s.now + 3200, ((s.port n).queue.filter fun m => !m.resend).map Msg.seq) }

theorem State.setPortState_now (s : State) (n v : Nat) : (s.setPortState n v).now = s.now := by
  rw [State.now, State.setPortState_frame.clock (by decide), State.now]

theorem State.tethEvent_now (s : State) (f : Field) (n : Nat) : (s.tethEvent f n).now = s.now := by
  rw [State.now, State.tethEvent, State.update_frame.clock (by decide)]
  rfl

theorem execUncorrLimit_stops {s : State} {n : Fin 64} (up : s.portUp n.val = true) (limited : s.get .TETH_CFG_UNCORR_LIMIT n.val ≠ 0)
    (reached : s.get .TETH_CFG_UNCORR_LIMIT n.val ≤ s.get .TETH_UNCORR_SINCE_TRAIN n.val) :
    execUncorrLimit n s = .next (s.stopPort n.val) := by
  have now : (((s.setPortState n.val 4).tethEvent .TETH_EVT_STOPPED n.val).queueMsg n.val 7 (natLE 1 0)).now = s.now :=
    (State.tethEvent_now _ _ _).trans (s.setPortState_now _ _)
  rw [execUncorrLimit, if_pos ⟨up, limited, reached⟩, State.stopPort, ← now]

theorem execUncorrLimit_effect {s : State} {n : Fin 64} (up : s.portUp n.val = true) (limited : s.get .TETH_CFG_UNCORR_LIMIT n.val ≠ 0)
    (reached : s.get .TETH_CFG_UNCORR_LIMIT n.val ≤ s.get .TETH_UNCORR_SINCE_TRAIN n.val) :
    Completes (.uncorrLimit n) s (bookFields ++ [Field.TETH_STAT_STATE, Field.TETH_EVT_STOPPED,
        Field.TETH_NODE_NODE]) [Component.ports, Component.book, Component.fresh] fun t =>
      t.get .TETH_STAT_STATE n.val = 4 ∧ t.get .TETH_EVT_STOPPED n.val = 1 ∧
      (t.port n.val).retrain = some (s.now + 3200, ((s.port n.val).queue.filter fun u => !u.resend).map Msg.seq) ∧
      (t.port n.val).queue = (s.port n.val).queue ++
        [⟨7, false, n.val, (s.port n.val).msgSeq % 2 ^ 32, fitBytes 56 (natLE 1 0)⟩] := by
  have step := execUncorrLimit_stops up limited reached
  refine ⟨_, step, Same.changes (execUncorrLimit_frame step) (by decide +kernel), ?_, ?_, ?_, ?_⟩
  · rw [State.stopPort, State.modPort_get, State.queueMsg, State.modPort_get, State.get_tethEvent_other _ (by decide) (by decide),
      State.get_setPortState _ _ (by decide)]
  · rw [State.stopPort, State.modPort_get, State.queueMsg, State.modPort_get, State.get_tethEvent _ (by decide) (by decide)]
  · rw [State.stopPort, State.port_modPort]
  · rw [State.stopPort, State.port_modPort, State.port_queueMsg, State.tethEvent_port, State.setPortState_queue,
      State.setPortState_msgSeq]

/-! ### TRAINING -/

/-- The number of lanes that training found healthy. -/
def healthyCount (mask : Nat) : Nat := ((List.range 17).filter mask.testBit).length

/-- Both directions have taken the lanes that training found (R262). -/
def State.lanesTrained (s : State) (n rx tx : Nat) : State :=
  let r := trainedDir rx (s.port n).rx
  let t := trainedDir tx (s.port n).tx
  (s.setDir n .rx { r.1 with seq := 0 } r.2.1 r.2.2).setDir n .tx { t.1 with seq := 0 } t.2.1 t.2.2

section
variable (s : State) (n rx tx : Nat)

theorem State.port_lanesTrained : (s.lanesTrained n rx tx).port n = { s.port n with
    rx := { (trainedDir rx (s.port n).rx).1 with seq := 0 }, tx := { (trainedDir tx (s.port n).tx).1 with seq := 0 } } := by
  rw [State.lanesTrained, State.port_setDir_tx, State.port_setDir_rx]

theorem State.lanesTrained_frame :
    Same 0x200000000000000000000000000000000000000000000000000000000000000000000000006f00000000000000000000000000000 s
      (s.lanesTrained n rx tx) := by
  rw [State.lanesTrained]
  exact Same.trans State.setDir_frame State.setDir_frame

/-- The trained port is to say who it is and to measure its delay (R251, R262). -/
def State.discovers : State :=
  ((s.modPort n fun x => { x.untrained with trained := true }).queueMsg n 1
    (natLE 6 (s.get .ID_IDENTITY_PID 0) ++ natLE 1 n ++ [0xA2])).queueMsg n 0x0A (natLE 8 (625 * s.now))

theorem State.get_discovers (f : Field) (i : Nat) : (s.discovers n).get f i = s.get f i := by
  rw [State.discovers, State.queueMsg, State.modPort_get, State.queueMsg, State.modPort_get, State.modPort_get]

theorem State.port_discovers : (s.discovers n).port n = { (s.port n).untrained with
    trained := true
    msgSeq := (s.port n).msgSeq + 1 + 1
    queue := ((s.port n).queue.filter fun u => !trainingMsg u && !u.resend) ++
      [⟨1, false, n, (s.port n).msgSeq % 2 ^ 32, fitBytes 56 (natLE 6 (s.get .ID_IDENTITY_PID 0) ++ natLE 1 n ++ [0xA2])⟩,
       ⟨0x0A, false, n, ((s.port n).msgSeq + 1) % 2 ^ 32, fitBytes 56 (natLE 8 (625 * s.now))⟩] } := by
  rw [State.discovers, State.port_queueMsg, State.port_queueMsg, State.port_modPort]
  simp only [Port.untrained, List.append_assoc, List.cons_append, List.nil_append]

variable {s n rx tx}

theorem State.trainLanes_few (few : healthyCount rx < 8 ∨ healthyCount tx < 8) :
    s.trainLanes n rx tx = (s.lanesTrained n rx tx).portDown n 1 := if_pos few

theorem State.trainLanes_enough (enough : ¬(healthyCount rx < 8 ∨ healthyCount tx < 8)) :
    s.trainLanes n rx tx = (s.lanesTrained n rx tx).discovers n := if_neg enough

theorem State.trainLanes_dirs (s : State) (n rx tx : Nat) :
    ((s.trainLanes n rx tx).port n).rx = { (trainedDir rx (s.port n).rx).1 with seq := 0 } ∧
    ((s.trainLanes n rx tx).port n).tx = { (trainedDir tx (s.port n).tx).1 with seq := 0 } := by
  by_cases few : healthyCount rx < 8 ∨ healthyCount tx < 8
  · have kept := (s.lanesTrained n rx tx).portDown_unassigned n 1 n
    rw [State.trainLanes_few few]
    exact ⟨(congrArg Port.rx kept).trans (congrArg Port.rx (s.port_lanesTrained n rx tx)),
      (congrArg Port.tx kept).trans (congrArg Port.tx (s.port_lanesTrained n rx tx))⟩
  · rw [State.trainLanes_enough few, State.port_discovers, State.port_lanesTrained]
    exact ⟨rfl, rfl⟩

end

theorem execTraining_trains {s : State} {n : Fin 64} (training : s.get .TETH_STAT_STATE n.val = 2) (rx tx : BitVec 17) :
    execTraining n rx tx s = .next (s.trainLanes n.val rx.toNat tx.toNat) := by
  have running : ¬s.get .TETH_STAT_STATE n.val = 4 := by rw [training]; decide
  rw [execTraining, if_neg running, if_pos training]

theorem execTraining_effect {s : State} {n : Fin 64} (training : s.get .TETH_STAT_STATE n.val = 2) (rx tx : BitVec 17) :
    Completes (.training n rx tx) s (laneFields ++ bookFields
        ++ [Field.TETH_STAT_DOWN_CAUSE, Field.TETH_STAT_STATE, Field.TETH_LINK_CNT_RETRAINS, Field.TETH_EVT_DOWN]
          ++ [Field.TETH_NODE_NODE]) [Component.ports, Component.book, Component.fresh] fun t =>
      (t.port n.val).rx = { (trainedDir rx.toNat (s.port n.val).rx).1 with seq := 0 } ∧
      (t.port n.val).tx = { (trainedDir tx.toNat (s.port n.val).tx).1 with seq := 0 } ∧
      (8 ≤ healthyCount rx.toNat → 8 ≤ healthyCount tx.toNat →
        (t.port n.val).trained = true ∧ t.get .TETH_STAT_STATE n.val = 2 ∧
        (t.port n.val).queue = ((s.port n.val).queue.filter fun u => !trainingMsg u && !u.resend) ++
          [⟨1, false, n.val, (s.port n.val).msgSeq % 2 ^ 32,
            fitBytes 56 (natLE 6 (s.get .ID_IDENTITY_PID 0) ++ natLE 1 n.val ++ [0xA2])⟩,
           ⟨0x0A, false, n.val, ((s.port n.val).msgSeq + 1) % 2 ^ 32, fitBytes 56 (natLE 8 (625 * s.now))⟩]) ∧
      ((healthyCount rx.toNat < 8 ∨ healthyCount tx.toNat < 8) →
        t.get .TETH_STAT_STATE n.val = 6 ∧ t.get .TETH_STAT_DOWN_CAUSE n.val = 1 ∧ t.out = s.out) := by
  have step := execTraining_trains training rx tx
  have lanes := s.lanesTrained_frame n.val rx.toNat tx.toNat
  obtain ⟨receive, transmit⟩ := s.trainLanes_dirs n.val rx.toNat tx.toNat
  refine ⟨_, step, Same.changes (execTraining_frame step) (by decide +kernel), receive, transmit, fun r t => ?_, fun few => ?_⟩
  · have now : (s.lanesTrained n.val rx.toNat tx.toNat).now = s.now := congrArg Clock.now (lanes.clock (by decide))
    have state := lanes.reg .TETH_STAT_STATE n.val (by decide) (by decide)
    have pid := lanes.reg .ID_IDENTITY_PID 0 (by decide) (by decide)
    rw [State.trainLanes_enough (by omega), State.get_discovers, State.port_discovers, State.port_lanesTrained, now, pid, state]
    exact ⟨rfl, training, rfl⟩
  · obtain ⟨down, cause⟩ := (s.lanesTrained n.val rx.toNat tx.toNat).get_portDown n.val (cause := 1) (by decide)
    rw [State.trainLanes_few few]
    exact ⟨down, cause, (State.portDown_frame.out (by decide)).trans (lanes.out (by decide))⟩

theorem execTraining_due {s : State} {n : Fin 64} (stopped : s.get .TETH_STAT_STATE n.val = 4)
    (due : (s.retrainDue n.val).get .TETH_STAT_STATE n.val = 2) (rx tx : BitVec 17) :
    exec (.training n rx tx) s = exec (.training n rx tx) (s.retrainDue n.val) := by
  have later : execTraining n rx tx s = .next ((s.retrainDue n.val).trainLanes n.val rx.toNat tx.toNat) := by
    rw [execTraining, if_pos stopped, if_pos due]
  exact later.trans (execTraining_trains due rx tx).symm

/-! ### TRAINING_DONE and TRAINING_TIMEOUT -/

theorem execTrainingDone_rises {s : State} {n : Fin 64} {m : Msg} (arrival : Nat) (edge : s.atEdge = true)
    (training : s.get .TETH_STAT_STATE n.val = 2) (trained : (s.port n.val).trained = true) (assigned : (s.port n.val).assigned = true)
    (h : Heard s n.val m 0x0B) : execTrainingDone n m arrival s =
      .next (((((s.acceptMsg n.val m).2.setPortState n.val 3).put .TETH_DELAY_DELAY n.val (replyDelay m arrival)).put
        .TETH_UNCORR_SINCE_TRAIN n.val 0).tethEvent .TETH_EVT_RETRAINED n.val) := by
  rw [execTrainingDone, if_pos ⟨edge, training, trained, assigned⟩, State.onMsg_heard h]

theorem execTrainingDone_effect {s : State} {n : Fin 64} {m : Msg} (arrival : Nat) (edge : s.atEdge = true)
    (training : s.get .TETH_STAT_STATE n.val = 2) (trained : (s.port n.val).trained = true) (assigned : (s.port n.val).assigned = true)
    (h : Heard s n.val m 0x0B) :
    Completes (.trainingDone n m arrival) s (bookFields ++ [Field.TETH_STAT_STATE, Field.TETH_UNCORR_SINCE_TRAIN,
        Field.TETH_EVT_RETRAINED, Field.TETH_NODE_NODE]
          ++ [Field.TETH_DELAY_DELAY]) [Component.ports, Component.book, Component.fresh] fun t =>
      t.get .TETH_STAT_STATE n.val = 3 ∧ t.get .TETH_DELAY_DELAY n.val = (arrival - u64 m.body 0 - u32 m.body 8) / 2 % 2 ^ 32 ∧
      t.get .TETH_UNCORR_SINCE_TRAIN n.val = 0 ∧ t.get .TETH_EVT_RETRAINED n.val = 1 := by
  have step := execTrainingDone_rises arrival edge training trained assigned h
  refine ⟨_, step, Same.changes (execTrainingDone_frame step) (by decide +kernel), ?_, ?_, ?_,
    State.get_tethEvent _ (by decide) (by decide) _⟩
  · rw [State.get_tethEvent_other _ (by decide) (by decide), State.get_put_code _ (by decide), State.get_put_code _ (by decide),
      State.get_setPortState _ _ (by decide)]
  · rw [State.get_tethEvent_other _ (by decide) (by decide), State.get_put_code _ (by decide), State.get_put]
    rfl
  · rw [State.get_tethEvent_other _ (by decide) (by decide), State.get_put, Nat.zero_mod]

theorem execTrainingTimeout_again {s : State} {n : Fin 64} (training : s.get .TETH_STAT_STATE n.val = 2)
    (few : (s.port n.val).attempts + 1 < 3) : exec (.trainingTimeout n) s =
      .next (s.modPort n.val fun x => { x.untrained with attempts := (s.port n.val).attempts + 1 }) :=
  congrArg Host.Outcome.next ((if_pos training).trans (if_neg (Nat.not_le.2 few)))

theorem execTrainingTimeout_down {s : State} {n : Fin 64} (training : s.get .TETH_STAT_STATE n.val = 2)
    (many : 3 ≤ (s.port n.val).attempts + 1) : exec (.trainingTimeout n) s = .next (s.portDown n.val 2) :=
  congrArg Host.Outcome.next ((if_pos training).trans (if_pos many))

theorem execTrainingTimeout_effect {s : State} {n : Fin 64} (training : s.get .TETH_STAT_STATE n.val = 2)
    (many : 3 ≤ (s.port n.val).attempts + 1) :
    Completes (.trainingTimeout n) s (bookFields ++ [Field.TETH_STAT_DOWN_CAUSE, Field.TETH_STAT_STATE,
        Field.TETH_EVT_DOWN, Field.TETH_NODE_NODE]) [Component.ports, Component.book, Component.fresh] fun t =>
      t.get .TETH_STAT_STATE n.val = 6 ∧ t.get .TETH_STAT_DOWN_CAUSE n.val = 2 := by
  have step := execTrainingTimeout_down training many
  exact ⟨_, step, Same.changes (execTrainingTimeout_frame step) (by decide +kernel), State.get_portDown _ _ (by decide)⟩

/-! ### Messages, lanes and training together -/

theorem exec_heardAgain_effect {s : State} {n : Fin 64} {m : Msg} {c : Instr}
    (kind : c = .assign n m ∧ m.type = 2 ∨ c = .ack n m ∧ m.type = 3 ∨ c = .laneFail n m ∧ m.type = 4 ∨
      c = .laneSwitch n m ∧ m.type = 5 ∨ c = .narrow n m ∧ m.type = 6 ∨ c = .retrainReq n m ∧ m.type = 7)
    (hears : s.portHears n.val = true) (again : (s.port n.val).seen.contains m.seq = true) :
    Completes c s [] [Component.ports] fun t => t.port n.val =
      if m.type = 3 then s.port n.val else { s.port n.val with acks := (s.port n.val).acks ++ [m.seq] } :=
  ⟨_, exec_heardAgain kind hears again, Same.changes State.acceptMsg_frame (by decide +kernel), State.port_acceptMsg_again again⟩

/-- Settles O56: one theorem for each event of a port. -/
theorem tetherPortsKeepTheirLanes : Obligations.TetherPortsKeepTheirLanes := by
  intro s n m
  refine ⟨fun c kind hears again => exec_heardAgain_effect kind hears again, fun w takes => execWslFrame_effect w takes,
    execAssign_effect, execAck_effect, fun u opens due => execMessageResend_effect opens due,
    fun l signal talks => ⟨execLaneLost_kept, fun alive bad => execLaneLost_effect talks alive bad⟩,
    execLaneFail_effect, execLaneSwitch_effect, fun d l f named due talks => execSubstitution_effect named due talks,
    execNarrow_effect, fun d mask f q named due talks => execNarrowSwitch_effect named due talks,
    execUncorrLimit_effect, execRetrainReq_effect,
    fun rx tx => ⟨fun training => execTraining_effect training rx tx, fun stopped due => execTraining_due stopped due rx tx⟩,
    fun arrival edge training trained assigned h => execTrainingDone_effect arrival edge training trained assigned h,
    fun training => ⟨execTrainingTimeout_again training, execTrainingTimeout_effect training⟩⟩

end Sys2Proof.Machine
end

section
/-! A fetch error of a queue that is not enabled (R271, R272). -/

namespace Sys2Proof.Machine
open Sys2Proof.Safety

/-- A queue that is not enabled fetches nothing: no completion error faults it (R272). -/
theorem execFetchCompletionError_disabled {s : State} {q : Fin 16384} (off : (s.queueSt q.val).enabled = false) :
    execFetchCompletionError q s = .next s := by
  rw [execFetchCompletionError, off]
  rfl

/-- Refutes O17: the statement does not ask that the queue is enabled. In the reset state queue 0 is not, and a completion error leaves
its FAULT bit at 0. -/
theorem not_hostWritesWaitForTheEdge : ¬ Obligations.HostWritesWaitForTheEdge := by
  intro holds
  obtain ⟨-, -, -, faults, -⟩ := holds State.reset
  have same : State.reset = (State.reset.put .QTAB_CMD_FAULT 0 1).put .QTAB_CMD_FAULT_CAUSE 0 3 :=
    Host.Outcome.next.inj ((execFetchCompletionError_disabled (s := State.reset) (q := 0) rfl).symm.trans (faults 0))
  have clear : State.reset.get .QTAB_CMD_FAULT 0 = 0 := by decide +kernel
  rw [same, State.get_put_code _ (by decide), State.get_put] at clear
  exact absurd clear (by decide)

end Sys2Proof.Machine
end

section
/-! Completion records (R292, R297, R298). -/

namespace Sys2Proof.Machine
open Sys2Proof.Safety

/-! ### The oldest record is written -/

theorem takeRec_queue {q : Nat} {l m : List Rec} {r : Rec} (h : takeRec q l = some (r, m)) : r.queue = q := by
  induction l generalizing m with
  | nil => cases h
  | cons x l ih =>
    rw [takeRec] at h
    split at h
    · next own =>
      cases h
      exact own
    · obtain ⟨y, rest, e⟩ := Option.map_eq_some_iff.1 h
      obtain ⟨rfl, -⟩ := Prod.mk.inj e
      exact ih rest

theorem natLE_length (n v : Nat) : (natLE n v).length = n := by
  simp [natLE]

theorem recBytes_length (r : Rec) (phase : Bool) : (recBytes r phase).length = 32 := by
  simp only [recBytes, List.length_append, natLE_length]

/-- Where queue `q`'s next record goes (R292, R297). -/
def State.recordPlace (s : State) (q : Nat) : Nat :=
  s.get .QTAB_CPL_BASE q * 4096 + s.get .QTAB_PTR_CPL_TAIL q % 2 ^ s.get .QTAB_CPL_LOG2 q * 32

theorem State.writeRecord_tail (s : State) (r : Rec) :
    (s.writeRecord r).get .QTAB_PTR_CPL_TAIL r.queue = (s.get .QTAB_PTR_CPL_TAIL r.queue + 1) % 2 ^ 32 := by
  rw [State.writeRecord, State.get_put]
  exact Nat.mod_mod _ _

theorem State.writeRecord_byte (s : State) (r : Rec) {i : Nat} (h : i < 32) :
    Mem.byte (s.writeRecord r).host (s.recordPlace r.queue + i) =
      (recBytes r (s.get .QTAB_PTR_CPL_TAIL r.queue / 2 ^ s.get .QTAB_CPL_LOG2 r.queue % 2 == 0)).getD i 0 :=
  Mem.byte_write_same _ _ _ _ (by rw [recBytes_length]; exact h)

theorem State.writeRecord_byte_other (s : State) (r : Rec) {i : Nat} (h : i < s.recordPlace r.queue ∨ s.recordPlace r.queue + 32 ≤ i) :
    Mem.byte (s.writeRecord r).host i = Mem.byte s.host i :=
  Mem.byte_write_other _ _ _ _ (by rw [recBytes_length]; exact h)

theorem State.raise_raised (s : State) (fn v : Nat) : v ∈ ((s.raise fn v).msixOf fn).raised := by
  unfold State.raise
  dsimp only
  split
  · next h => exact List.contains_iff_mem.1 h
  · rw [State.msixOf_setMsix]
    exact List.mem_append_right _ List.mem_cons_self

/-- A record as the logbook counts it (Table 18-4). -/
def State.tallyRecord (s : State) (r : Rec) : State :=
  if r.status = 0 ∨ r.status = 0x1000 then s
  else s.update (.event r.status (match r.part with
    | some p => p
    | none => 0xFF) r.cycles r.rehearsal)

theorem State.tallyRecord_frame (s : State) (r : Rec) :
    Same 0x2000000000000000000000000000000000001c000000000000000000000000000000000000000000000000000000000000000000000 s
      (s.tallyRecord r) := Same.ite Same.refl State.update_frame

theorem State.noteRecord_asks {r : Rec} (asks : r.interrupt = true ∨ 0x2000 ≤ r.status) (s : State) :
    s.noteRecord r = (s.tallyRecord r).raise ((s.tallyRecord r).vectorFn r.part) ((s.tallyRecord r).get .QTAB_CPL_VECTOR r.queue) :=
  if_pos asks

/-- A record that asks for its vector, by its flag or by its status, raises it (R298). -/
theorem State.noteRecord_raised {r : Rec} (asks : r.interrupt = true ∨ 0x2000 ≤ r.status) (s : State) :
    s.get .QTAB_CPL_VECTOR r.queue ∈ ((s.noteRecord r).msixOf (s.vectorFn r.part)).raised := by
  have tallied := s.tallyRecord_frame r
  have fn : (s.tallyRecord r).vectorFn r.part = s.vectorFn r.part := by
    unfold State.vectorFn
    rw [tallied.vfs (by decide)]
  rw [State.noteRecord_asks asks, fn, tallied.reg _ _ (by decide) (by decide)]
  exact State.raise_raised _ _ _

theorem execCompletionRecord_room {s : State} {q : Fin 16384} {r : Rec} {l : List Rec} (oldest : takeRec q.val s.recs = some (r, l))
    (room : s.ringRoom q.val = true) :
    execCompletionRecord q s = .next ((({ s with recs := l } : State).writeRecord r).noteRecord r) := by
  simp only [execCompletionRecord, oldest, room, if_true]

/-! ### A full ring -/

theorem execCompletionRecord_full {s : State} {q : Fin 16384} {r : Rec} {l : List Rec} (oldest : takeRec q.val s.recs = some (r, l))
    (full : s.ringRoom q.val = false) : execCompletionRecord q s = .next (s.dropProgress q.val) := by
  simp only [execCompletionRecord, oldest, full, Bool.false_eq_true, if_false]

theorem satW_satW (w a b : Nat) : satW w (satW w a + b) = satW w (a + b) := by
  unfold satW
  omega

/-- A counter that each occurrence of its own index in a list raises by one. -/
theorem State.get_foldl_inc {f : Field} {i : Nat} {l : List Nat} (apart : ∀ k ∈ l, k ≠ i → f.key i ≠ f.key k) (s : State) :
    (l.foldl (fun (s : State) k => s.inc f k 1) s).get f i =
      if l.count i = 0 then s.get f i else satW f.width (s.get f i + l.count i) := by
  induction l generalizing s with
  | nil => rfl
  | cons k l ih =>
    rw [List.foldl_cons, ih fun m hm => apart m (List.mem_cons_of_mem k hm)]
    by_cases own : k = i
    · subst own
      rw [State.get_inc, List.count_cons_self, if_neg (Nat.succ_ne_zero _), satW_satW, Nat.add_right_comm, Nat.add_assoc]
      split
      · next none_left => rw [none_left]
      · rfl
    · have kept : (s.inc f k 1).get f i = s.get f i := Tab.get_put_other _ _ _ (apart k List.mem_cons_self own)
      rw [List.count_cons_of_ne own, kept]

theorem State.dropProgress_recs (s : State) (q : Nat) :
    (s.dropProgress q).recs = s.recs.filter fun x => !(x.queue == q && x.progress) :=
  foldl_kept (f := fun (s : State) k => s.inc .PART_CMD_DEFER_DROPPED k 1) State.recs (fun _ _ => rfl) _ _

/-- The dropped records count for their partitions (R297). -/
theorem State.dropProgress_counts {s : State} {q : Nat}
    (parts : ∀ x ∈ s.recs.filter fun x => x.queue == q && x.progress, ∀ k, x.part = some k → k < 16) (p : Fin 16) :
    (s.dropProgress q).get .PART_CMD_DEFER_DROPPED p.val =
      let n := ((s.recs.filter fun x => x.queue == q && x.progress).filter fun x => x.part == some p.val).length
      if n = 0 then s.get .PART_CMD_DEFER_DROPPED p.val
      else satW Field.PART_CMD_DEFER_DROPPED.width (s.get .PART_CMD_DEFER_DROPPED p.val + n) := by
  rw [State.dropProgress, State.get_foldl_inc, List.count_filterMap, List.countP_eq_length_filter]
  · rfl
  · intro k hk ne
    obtain ⟨x, hx, part⟩ := List.mem_filterMap.1 hk
    have small := parts x hx k part
    have own := p.isLt
    unfold Field.key
    omega

/-- Settles O19: the record's bytes by the laws of memory, its vector by `noteRecord_raised`, the dropped records by their count. -/
theorem completionRecordIsWritten : Obligations.CompletionRecordIsWritten := by
  intro s q r l oldest
  have queue := takeRec_queue oldest
  refine ⟨fun room => ?_, fun full => ?_⟩
  · have e := execCompletionRecord_room oldest room
    have written := State.writeRecord_frame (s := { s with recs := l }) (r := r)
    have noted := State.noteRecord_frame (s := ({ s with recs := l } : State).writeRecord r) (r := r)
    have host := noted.host (by decide)
    refine ⟨_, e, Same.changes (execCompletionRecord_frame e) (by decide +kernel), ?_, ?_, fun i h => ?_, fun i h => ?_, fun asks => ?_⟩
    · exact noted.recs (by decide)
    · rw [noted.reg _ _ (by decide) (by decide), ← queue]
      exact State.writeRecord_tail _ r
    · rw [host, ← queue]
      exact State.writeRecord_byte _ r h
    · rw [host]
      rw [← queue] at h
      exact State.writeRecord_byte_other _ r h
    · have raised := State.noteRecord_raised asks (({ s with recs := l } : State).writeRecord r)
      rwa [written.reg _ _ (by decide) (by decide)] at raised
  · have e := execCompletionRecord_full oldest full
    exact ⟨_, e, Same.changes State.dropProgress_frame (by decide +kernel), s.dropProgress_recs q.val, State.dropProgress_counts⟩

end Sys2Proof.Machine
end

section
/-! NOP, FENCE_WAIT, FENCE_SIGNAL, BARRIER and FORECAST (R286, R289, R290, R356). -/

namespace Sys2Proof.Machine
open Sys2Proof.Safety

/-- A command whose step is the end of its work: it changes commands and the mark alone, and retires as the work gives. -/
theorem done_effect {s : State} {c : CmdId} {op : Nat} {d : Cmd} (ready : s.ready c op = some d) {i : Instr} {x status detail : Nat}
    (step : exec i s = .next (s.done d x status detail)) :
    Completes i s [] [Component.cmds, Component.rehearsal] fun t => RetiresAt s t d x status detail := by
  obtain ⟨found, due⟩ := State.ready_running ready
  exact ⟨_, step, Same.changes State.done_frame (by decide +kernel), retiresAt_done found due rfl rfl x status detail⟩

theorem execNop_ready {s : State} {c : CmdId} {d : Cmd} (ready : s.ready c 0 = some d) :
    execNop c s = .next (s.done d (d.t0 + 1) 0 0) := by
  simp only [execNop, ready]

theorem execFenceWait_ready {s : State} {c : CmdId} {d : Cmd} (ready : s.ready c 1 = some d) :
    execFenceWait c s = .next (s.done d (d.t0 + 1) 0 0) := by
  simp only [execFenceWait, ready]

theorem execFenceSignal_ready {s : State} {c : CmdId} {d : Cmd} (ready : s.ready c 2 = some d) :
    execFenceSignal c s = .next (s.done d (d.t0 + 1) 0 0) := by
  simp only [execFenceSignal, ready]

theorem execBarrier_pf {s : State} {c : CmdId} {d : Cmd} (ready : s.ready c 3 = some d) (part : d.part = none) :
    execBarrier c s = .next (s.done d (d.t0 + 1) 0 0) := by
  simp only [execBarrier, ready, part]

/-- With the end of every other command known, a BARRIER's is the latest of them (R286). -/
theorem execBarrier_part {s : State} {c : CmdId} {d : Cmd} {p : Nat} (run : Running s c 3 d p) (known : s.othersOpen d p = false) :
    execBarrier c s = .next (s.done d (max (d.t0 + 1) (s.othersDue d p)) 0 0) := by
  obtain ⟨ready, part⟩ := run
  simp only [execBarrier, ready, part, State.barrier, known, Bool.false_eq_true, if_false]

/-- The segments to come, with one more (R356). -/
def PartRun.forecast (segment frame : Nat) (r : PartRun) : PartRun :=
  { r with sum := { r.sum with nextSegment := r.sum.nextSegment ++ [(segment, frame)] } }

theorem execForecast_part {s : State} {c : CmdId} {d : Cmd} {p a : Nat} {k : Task} (run : Running s c 0x500 d p)
    (task : s.taskOf d = some k) (anchor : k.anchor = some a) :
    execForecast c s =
      .next ((s.modRun p (PartRun.forecast d.forecastP.1 (a + d.forecastP.2))).done d (d.t0 + 1) 0 0) := by
  obtain ⟨ready, part⟩ := run
  simp only [execForecast, ready, part, State.forecast, task, anchor]
  rfl

/-- Settles O26: each command's step is `done` in its cycle, FORECAST's after the segment has joined those to come. -/
theorem fenceUnitCommandsAndForecastRetire : Obligations.FenceUnitCommandsAndForecastRetire := by
  intro s c d
  refine ⟨fun ready => done_effect ready (execNop_ready ready), fun ready => done_effect ready (execFenceWait_ready ready),
    fun ready => done_effect ready (execFenceSignal_ready ready), fun ready part => done_effect ready (execBarrier_pf ready part),
    fun p run known => done_effect run.1 (execBarrier_part run known), fun p a k run task anchor => ?_⟩
  obtain ⟨found, due⟩ := State.ready_running run.1
  have e := execForecast_part run task anchor
  refine ⟨_, e, Same.changes (execForecast_frame e) (by decide +kernel), retiresAt_done found due rfl rfl _ _ _, ?_, fun n ne => ?_⟩
  · rw [State.done_part, State.part_modRun]
    rfl
  · exact State.part_setPart_other s _ ne

end Sys2Proof.Machine
end

section
/-! Retirement: the record of a command and its changes of fences (R285, R288, R289, R292). -/

namespace Sys2Proof.Machine
open Sys2Proof.Safety

/-! ### Nothing is left to do -/

theorem State.mem_begunCmds {s : State} {p : Nat} {c : Cmd} (h : c ∈ s.begunCmds p) :
    c ∈ s.cmds ∧ c.part = some p ∧ c.began.isSome = true := by
  simp only [State.begunCmds, List.mem_append, List.mem_filter, mem_sortCmds, Bool.and_eq_true, beq_iff_eq, ← and_or_left] at h
  exact h.1

/-- A round takes none of a settled partition's commands further. -/
theorem State.roundTo_settled {s : State} {p : Nat} (settled : Settled s p) (lim : Nat) : s.roundTo p lim = s := by
  refine List.foldlRecOn (s.begunCmds p) _ (motive := (· = s)) rfl fun u same c mem => ?_
  subst same
  obtain ⟨listed, part, begun⟩ := State.mem_begunCmds mem
  have idle : (u.findCmd c.queue c.seq).filter (fun d => d.began.isSome && !d.ran && d.due.isNone) = none := by
    refine Option.filter_eq_none_iff.2 fun d found open_ => ?_
    have known := settled c listed part begun d found
    rw [Bool.and_eq_true, Option.isNone_iff_eq_none] at open_
    rw [open_.2] at known
    cases known
  rw [idle]

theorem State.runAll_settled {s : State} {p : Nat} (settled : Settled s p) (lim n : Nat) : s.runAll p lim n = s := by
  cases n with
  | zero => rfl
  | succ n =>
    rw [State.runAll, State.roundTo_settled settled]
    exact if_pos ⟨rfl, rfl⟩

theorem State.catchUp_settled {s : State} {p : Nat} (settled : Settled s p) (x : Nat) : s.catchUp p x = s := by
  rw [State.catchUp, State.catchUpN, State.runAll_settled settled]
  exact if_pos (.inl rfl)

/-! ### Ends only: commands leave, records and changes of fences come -/

/-- From `s` to `t` no command has come, and no record and no change of a fence has gone. -/
structure EndsOnly (s t : State) : Prop where
  cmds : t.cmds ⊆ s.cmds
  recs : s.recs ⊆ t.recs
  fences : s.fences ⊆ t.fences

namespace EndsOnly

theorem refl (s : State) : EndsOnly s s := ⟨List.Subset.refl _, List.Subset.refl _, List.Subset.refl _⟩

theorem trans {s t u : State} (h : EndsOnly s t) (k : EndsOnly t u) : EndsOnly s u :=
  ⟨List.Subset.trans k.cmds h.cmds, List.Subset.trans h.recs k.recs, List.Subset.trans h.fences k.fences⟩

theorem foldl {α : Type} {f : State → α → State} (h : ∀ s x, EndsOnly s (f s x)) (l : List α) (s : State) :
    EndsOnly s (l.foldl f s) :=
  List.foldlRecOn l f (motive := EndsOnly s) (refl s) fun u ends x _ => ends.trans (h u x)

theorem of_eq {s t : State} (cmds : t.cmds = s.cmds) (recs : t.recs = s.recs) (fences : t.fences = s.fences) : EndsOnly s t :=
  ⟨cmds ▸ List.Subset.refl _, recs ▸ List.Subset.refl _, fences ▸ List.Subset.refl _⟩

theorem of_frame {m : Nat} {s t : State} (h : Same m s t)
    (k : m.testBit 409 = false ∧ m.testBit 410 = false ∧ m.testBit 411 = false) : EndsOnly s t := by
  obtain ⟨cmds, recs, fences⟩ := k
  exact of_eq (h.cmds cmds) (h.recs recs) (h.fences fences)

theorem addRec (s : State) (r : Rec) : EndsOnly s { s with recs := s.recs ++ [r] } :=
  ⟨List.Subset.refl _, List.subset_append_left _ _, List.Subset.refl _⟩

theorem finish (s : State) (c : Cmd) (status detail : Nat) (slack : Int) : EndsOnly s (s.finish c status detail slack) := by
  refine ⟨?_, ?_, State.finish_frame.fences (by decide) ▸ List.Subset.refl _⟩
  · rw [State.finish_cmds]
    exact fun _ mem => (State.mem_dropCmd.1 mem).1
  · rw [State.finish_recs]
    exact List.subset_append_left _ _

end EndsOnly

theorem mem_insertUpd {u v : FenceUpd} {l : List FenceUpd} : v ∈ insertUpd u l ↔ v = u ∨ v ∈ l := by
  induction l with
  | nil => simp [insertUpd]
  | cons x l ih =>
    unfold insertUpd
    split
    · exact List.mem_cons
    · rw [List.mem_cons, ih, List.mem_cons]
      exact or_left_comm

/-- Changes that enter the fence unit wait in it, with those that waited (R288). -/
theorem State.mem_addUpds {s : State} {us : List FenceUpd} {v : FenceUpd} : v ∈ (s.addUpds us).fences ↔ v ∈ us ∨ v ∈ s.fences := by
  have joined (l : List FenceUpd) : v ∈ us.foldl (fun l u => insertUpd u l) l ↔ v ∈ us ∨ v ∈ l := by
    induction us generalizing l with
    | nil => simp
    | cons u us ih =>
      rw [List.foldl_cons, ih, mem_insertUpd, List.mem_cons]
      exact or_left_comm.trans or_assoc.symm
  exact joined s.fences

theorem EndsOnly.addUpds (s : State) (us : List FenceUpd) : EndsOnly s (s.addUpds us) :=
  ⟨List.Subset.refl _, List.Subset.refl _, fun _ mem => State.mem_addUpds.2 (.inr mem)⟩

theorem State.releaseOne_ends (s : State) (p : Nat) (yes : List Nat) (x : Nat × Cmd × Option Rec) :
    EndsOnly s (s.releaseOne p yes x) := by
  unfold State.releaseOne
  dsimp only
  split
  · split
    · exact .addUpds s _
    · exact (EndsOnly.addRec s _).trans (.addUpds _ _)
  · exact (EndsOnly.addRec s _).trans (.addUpds _ _)
  · exact .refl s
  · exact ((EndsOnly.of_frame State.endStreams_frame (by decide)).trans (.addUpds _ _)).trans (.finish _ _ _ _ _)

theorem State.settleSlots_ends (s : State) (p : Nat) (yes no : List Nat) : EndsOnly s (s.settleSlots p yes no) := by
  have voided (u : State) (k : Nat) : EndsOnly u (u.voidOut p k) := .of_frame State.voidOut_frame (by decide)
  have emptied (u : State) (k : Nat) (v : Pred) : EndsOnly u (u.setPred p k v) := .of_eq rfl rfl rfl
  unfold State.settleSlots
  exact ((EndsOnly.foldl voided no s).trans (.foldl (fun u x => u.releaseOne_ends p yes x) _ _)).trans
    (.foldl (fun u k => emptied u k _) no _)

/-- What follows upon the last command of a task, its slots' refutation and its own end, brings no command back (R220, R280). -/
theorem State.taskDone_ends (s : State) (p : Nat) : EndsOnly s (s.taskDone p) := by
  have ended (u : State) : EndsOnly u (u.endTask p 0 false) :=
    .of_eq (State.endTask_frame.cmds (by decide)) (State.endTask_recs u p 0 false) (State.endTask_frame.fences (by decide))
  unfold State.taskDone
  split
  · exact .refl s
  · split
    · exact .refl s
    · exact (s.settleSlots_ends p _ _).trans (ended _)

/-! ### The end of a command -/

/-- A command that no slot holds leaves with its record and its changes of fences (R285, R288). -/
theorem State.leave_apart {s : State} {c : Cmd} (apart : s.pendingSlot c = none) :
    s.leave c = (s.finish c (s.finalStatus c).1 (s.finalStatus c).2 (s.slackAt c s.now)).addUpds (s.signals c) := by
  rw [State.leave, apart]
  cases c.part <;> rfl

/-- What `retire` does once the command has left: the next wide operation may begin, and the task may be over (R88, R280). -/
theorem State.retire_ends (s : State) (c : Cmd) : EndsOnly (s.leave c) (s.retire c) := by
  have freed (u : State) : EndsOnly u (u.freeWide c) := .of_frame State.freeWide_frame (by decide)
  cases part : c.part with
  | none =>
    have alone : s.retire c = (s.leave c).freeWide c := by
      cases c
      cases part
      rfl
    exact alone ▸ freed _
  | some p =>
    rw [State.retire_part part]
    split
    · exact (freed _).trans (State.taskDone_ends _ p)
    · exact freed _

/-- The command named has left, and this record and these changes of fences wait. -/
structure Retired (c : Cmd) (r : Rec) (us : List FenceUpd) (t : State) : Prop where
  gone : t.findCmd c.queue c.seq = none
  record : r ∈ t.recs
  signals : us ⊆ t.fences

theorem Retired.later {c : Cmd} {r : Rec} {us : List FenceUpd} {s t : State} (h : Retired c r us s) (ends : EndsOnly s t) :
    Retired c r us t :=
  ⟨List.find?_eq_none.2 fun d mem => List.find?_eq_none.1 h.gone d (ends.cmds mem), ends.recs h.record,
    List.Subset.trans h.signals ends.fences⟩

theorem State.leave_retired {s : State} {c : Cmd} (apart : s.pendingSlot c = none) :
    Retired c (s.recordOf c (s.finalStatus c).1 (s.finalStatus c).2 (s.slackAt c s.now)) (s.signals c) (s.leave c) := by
  rw [State.leave_apart apart]
  refine ⟨List.find?_eq_none.2 fun d mem named => ?_, ?_, fun _ mem => State.mem_addUpds.2 (.inl mem)⟩
  · rw [State.addUpds_cmds, State.finish_cmds] at mem
    exact (State.mem_dropCmd.1 mem).2 (by simpa using named)
  · rw [State.addUpds_recs, State.finish_recs]
    exact List.mem_append_right _ List.mem_cons_self

theorem State.retire_retired {s : State} {c : Cmd} (apart : s.pendingSlot c = none) :
    Retired c (s.recordOf c (s.finalStatus c).1 (s.finalStatus c).2 (s.slackAt c s.now)) (s.signals c) (s.retire c) :=
  (State.leave_retired apart).later (s.retire_ends c)

theorem State.signal_mem {s : State} {c : Cmd} (on : c.sigEn = true) :
    ⟨s.fenceBase c.part + c.sigIdx, s.now + 1, true, c.sigInc⟩ ∈ s.signals c := by
  rw [State.signals, if_pos on]
  exact List.mem_cons_self

theorem State.fenceSignal_mem {s : State} {c : Cmd} (op : c.op = 2) :
    ⟨s.fenceBase c.part + c.fsFence, s.now + 1, !c.fsOp, c.fsValue⟩ ∈ s.signals c := by
  rw [State.signals, if_pos op]
  exact List.mem_append_right _ List.mem_cons_self

/-! ### What the retirement itself brings about leaves to the record -/

/-- Of a partition, what a record and its changes of fences are made from: its binding, its slots, its task, and the first void
frame (R274, R292, R338). -/
def Part.told (x : Part) : PartBind × PartStream × Option Task × Option Nat := (x.bind, x.strm, x.run.task, x.run.sum.voidFrom)

/-- The state in which a command's record is made: what its retirement itself brings about has been done (R131, R238, R339, R341). -/
def State.retireReady (s : State) (c : Cmd) : State :=
  let s := match c.part with
    | some p => s.retireEffect c p
    | none => s
  (s.writeMark c).noteHeader c

theorem State.retireNow_eq (s : State) (c : Cmd) : s.retireNow c = (s.retireReady c).retire c := rfl

theorem State.retireReady_frame (s : State) (c : Cmd) :
    Same 0x64800000000000000000000000000000000000000000000046000000000000000000000000000400000000000000003c00000000 s
      (s.retireReady c) := by
  unfold State.retireReady
  refine Same.via State.noteHeader_frame (by decide) (Same.via State.writeMark_frame (by decide) ?_)
  split
  · exact State.retireEffect_frame
  · exact Same.refl

theorem State.retireEffect_sansJournal (s : State) (c : Cmd) (p q : Nat) :
    ((s.retireEffect c p).part q).sansJournal = (s.part q).sansJournal := by
  have same {t : State} (h : t.parts = s.parts) : (t.part q).sansJournal = (s.part q).sansJournal := by rw [State.part_of_parts h]
  unfold State.retireEffect
  split
  · exact same (State.showPaths_frame.parts (by decide))
  · split
    · exact same (State.changeWindows_frame.parts (by decide))
    · split
      · refine (foldl_kept (fun t : State => (t.part q).sansJournal) (fun t _ => t.journal_sansJournal p _ _ _ _ q) _ _).trans ?_
        exact State.modJournal_sansJournal _ _ _ _
      · split
        · rfl
        · rfl

theorem State.writeMark_sansJournal (s : State) (c : Cmd) (q : Nat) : ((s.writeMark c).part q).sansJournal = (s.part q).sansJournal := by
  unfold State.writeMark
  split
  · exact s.journal_sansJournal _ _ _ _ _ q
  · rfl

theorem State.noteHeader_told (s : State) (c : Cmd) (q : Nat) : ((s.noteHeader c).part q).told = (s.part q).told := by
  unfold State.noteHeader
  split
  · split
    · next p _ _ _ _ =>
      by_cases own : q = p
      · subst own
        rw [State.part_modRun]
        rfl
      · exact congrArg Part.told (State.part_setPart_other _ _ own)
    · rfl
  · rfl

theorem State.retireReady_told (s : State) (c : Cmd) (q : Nat) : ((s.retireReady c).part q).told = (s.part q).told := by
  have effect {t : State} (h : (t.part q).sansJournal = (s.part q).sansJournal) :
      (((t.writeMark c).noteHeader c).part q).told = (s.part q).told := by
    have kept := congrArg Part.told ((t.writeMark_sansJournal c q).trans h)
    exact (State.noteHeader_told _ c q).trans kept
  unfold State.retireReady
  split
  · exact effect (s.retireEffect_sansJournal c _ q)
  · exact effect rfl

/-- Two states in which every partition tells the same, at the same time and under the same Reel. -/
structure ToldSame (s t : State) : Prop where
  part : ∀ q, (t.part q).told = (s.part q).told
  clock : t.clock = s.clock
  reel : t.reel = s.reel
  count : t.reelCount = s.reelCount
  state : t.get .REEL_STAT_STATE 0 = s.get .REEL_STAT_STATE 0
  period : t.get .REEL_STAT_PERIOD 0 = s.get .REEL_STAT_PERIOD 0
  ports : t.get .REEL_REFSET_PORTS 0 = s.get .REEL_REFSET_PORTS 0

namespace ToldSame

variable {s t : State}

theorem now (h : ToldSame s t) : t.now = s.now := congrArg Clock.now h.clock

theorem fenceBase (h : ToldSame s t) (p : Option Nat) : t.fenceBase p = s.fenceBase p := by
  cases p with
  | none => rfl
  | some p =>
    have bind := congrArg Prod.fst (h.part p)
    exact congrArg (fun b : PartBind => b.fences.1) bind

theorem pendingSlot (h : ToldSame s t) (c : Cmd) : t.pendingSlot c = s.pendingSlot c := by
  have strm (p : Nat) : (t.part p).pred = (s.part p).pred :=
    congrArg (fun x : PartBind × PartStream × Option Task × Option Nat => Tab.get Pred.init x.2.1.preds) (h.part p)
  simp only [State.pendingSlot, strm]

theorem task (h : ToldSame s t) (p : Nat) : (t.part p).run.task = (s.part p).run.task :=
  congrArg (fun x : PartBind × PartStream × Option Task × Option Nat => x.2.2.1) (h.part p)

theorem voidFrom (h : ToldSame s t) (p : Nat) : (t.part p).run.sum.voidFrom = (s.part p).run.sum.voidFrom :=
  congrArg (fun x : PartBind × PartStream × Option Task × Option Nat => x.2.2.2) (h.part p)

theorem periodInForce (h : ToldSame s t) : t.periodInForce = s.periodInForce := by
  have tracker (n : Nat) : t.tracker n = s.tracker n := by rw [State.tracker, State.tracker, h.reel]
  have healthy : t.refHealthy = s.refHealthy := by
    funext n
    rw [State.refHealthy, State.refHealthy, h.ports, tracker]
  simp only [State.periodInForce, State.lowestRef, h.state, h.period, healthy, tracker]

theorem deadlineCycle (h : ToldSame s t) (c : Cmd) : t.deadlineCycle c = s.deadlineCycle c := by
  have base : t.baseFrame c = s.baseFrame c := by simp only [State.baseFrame, State.taskOf, h.task]
  have frame : t.frameCycle = s.frameCycle := by
    funext F
    simp only [State.frameCycle, State.fullLen, State.nextEdge, h.clock, h.periodInForce]
  rw [State.deadlineCycle, State.deadlineCycle, base, frame]

theorem slackAt (h : ToldSame s t) (c : Cmd) (x : Nat) : t.slackAt c x = s.slackAt c x := by
  unfold State.slackAt
  rw [h.deadlineCycle]

end ToldSame

theorem State.retireReady_same (s : State) (c : Cmd) : ToldSame s (s.retireReady c) :=
  have frame := s.retireReady_frame c
  ⟨s.retireReady_told c, frame.clock (by decide), frame.reel (by decide), frame.reg _ _ (by decide) (by decide),
    frame.reg _ _ (by decide) (by decide), frame.reg _ _ (by decide) (by decide), frame.reg _ _ (by decide) (by decide)⟩

/-- With no void frame in its task, a command that runs to its end has its own status and Detail (R294, R338). -/
theorem State.finalStatus_valid {s : State} {c : Cmd} (valid : ∀ p, c.part = some p → (s.part p).run.sum.voidFrom = none) :
    s.finalStatus c = (c.status, c.detail) := by
  unfold State.finalStatus
  split
  · next p _ part _ =>
    dsimp only
    rw [valid p part]
  · rfl

/-! ### COMMAND_RETIRE -/

/-- A PF command that has come whole to its last cycle `x` retires there (R285). -/
theorem execCommandRetire_pf {s : State} {c : CmdId} {d : Cmd} {x : Nat} (found : s.findCmd c.queue.val c.seq = some d)
    (part : d.part = none) (due : d.due = some x) (frame : x < s.nextEdge) (whole : d.status < 0x3000) :
    execCommandRetire c s = .next ((s.advance x).retireNow d) := by
  simp only [execCommandRetire, found, State.commandRetire, part, due, frame, if_true, if_neg (Nat.not_le.2 whole)]

/-- What a retirement in the present cycle leaves: the command has left, and its record and its changes of fences wait (R285, R288,
R292). -/
theorem State.retireNow_leaves {v : State} {d : Cmd} {b : Nat} (apart : v.pendingSlot d = none) (begun : d.began = some b) :
    (v.retireNow d).findCmd d.queue d.seq = none ∧
    (∃ r ∈ (v.retireNow d).recs, r.queue = d.queue ∧ r.seq = d.seq ∧ r.part = d.part ∧ r.opcode = d.op % 32768 ∧
      r.reel = v.reelCount ∧ r.cycles = v.now - b ∧ r.interrupt = d.interrupt ∧ r.slack = v.slackAt d v.now ∧
      ((∀ p, d.part = some p → (v.part p).run.sum.voidFrom = none) → r.status = d.status ∧ r.detail = d.detail)) ∧
    (d.sigEn = true → (⟨v.fenceBase d.part + d.sigIdx, v.now + 1, true, d.sigInc⟩ : FenceUpd) ∈ (v.retireNow d).fences) ∧
    (d.op = 2 → (⟨v.fenceBase d.part + d.fsFence, v.now + 1, !d.fsOp, d.fsValue⟩ : FenceUpd) ∈ (v.retireNow d).fences) := by
  have same := v.retireReady_same d
  obtain ⟨gone, record, signals⟩ := State.retire_retired ((same.pendingSlot d).trans apart)
  rw [← State.retireNow_eq] at gone record signals
  refine ⟨gone, ⟨_, record, rfl, rfl, rfl, rfl, same.count, ?_, rfl, ?_, fun valid => ?_⟩, fun on => ?_, fun op => ?_⟩
  · simp only [State.recordOf, begun, same.now]
  · exact (same.slackAt d _).trans (congrArg _ same.now)
  · have own := State.finalStatus_valid fun p part => (same.voidFrom p).trans (valid p part)
    exact ⟨congrArg Prod.fst own, congrArg Prod.snd own⟩
  · rw [← same.fenceBase, ← same.now]
    exact signals (State.signal_mem on)
  · rw [← same.fenceBase, ← same.now]
    exact signals (State.fenceSignal_mem op)

/-- Settles O24: the command meets `retireNow` in its cycle, of which `State.retireNow_leaves` says what it leaves. -/
theorem commandRetires : Obligations.CommandRetires := by
  refine ⟨fun s c => ⟨_, rfl, Same.changes (execCommandRetire_frame rfl) (by decide +kernel), trivial⟩,
    fun s p x settled => State.catchUp_settled settled x, fun s c d x b found due begun frame => ?_⟩
  intro u past edge still apart whole sound
  have e : execCommandRetire c s = .next ((u.advance x).retireNow d) := by
    cases part : d.part with
    | none =>
      have same : u = s := by simp only [u, caughtUp, part]
      rw [same]
      exact execCommandRetire_pf found part due frame whole
    | some p =>
      have same : u = s.catchUp p x := by simp only [u, caughtUp, part]
      rw [same] at past edge still ⊢
      exact execCommandRetire_due found part due (by rw [begun]; rfl) frame past edge still (same ▸ sound p part)
  have moved := State.advance_of past edge
  have clock : ((u.advance x).retireNow d).clock = (u.advance x).clock := State.retireNow_frame.clock (by decide)
  have leaves := State.retireNow_leaves (v := u.advance x) (by rw [moved]; exact apart) begun
  have now : (u.advance x).now = x := by rw [moved]; rfl
  refine ⟨_, e, Same.changes (execCommandRetire_frame e) (by decide +kernel), (congrArg Clock.now clock).trans now, ?_⟩
  rw [now, moved] at leaves
  rw [moved]
  exact leaves

end Sys2Proof.Machine
end

section
/-! Before the Gondola has booted (R430; log entry 58). -/

namespace Sys2Proof.Machine
open Sys2Proof.Safety
-- The evaluations by the kernel follow one another: side by side they would take more memory than the check allows.
set_option Elab.async false

theorem State.whenBooted_unbooted {s : State} (h : s.booted = false) (t : State) : s.whenBooted t = s :=
  if_neg (by rw [h]; decide)

theorem State.hostFence_pf_unbooted {s : State} (h : s.booted = false) (i : Nat) : s.hostFence .pf i = none :=
  if_neg fun k => Bool.false_ne_true (h.symm.trans k.1)

theorem State.doorbellQueue_pf_unbooted {s : State} (h : s.booted = false) (i : Nat) : s.doorbellQueue .pf i = none :=
  if_neg fun k => Bool.false_ne_true (h.symm.trans k.1)

theorem execLogbookStore_unbooted {s : State} (h : s.booted = false) : execLogbookStore s = .next s :=
  congrArg _ (if_neg fun k => Bool.false_ne_true (h.symm.trans k.1))

theorem execFenceHostWrite_pf_unbooted {s : State} (h : s.booted = false) (i : Nat) (v : BitVec 64) :
    execFenceHostWrite .pf i v s = .next s := by
  rw [execFenceHostWrite, State.hostFence_pf_unbooted h]

theorem execRegisterWrite_pf_unbooted {s : State} (h : s.booted = false) {off size : Nat} (g : goodAccess off size = true) (w : Nat) :
    execRegisterWrite .pf off size w s = .next s := by
  rw [execRegisterWrite, if_pos g]
  exact congrArg _ (State.whenBooted_unbooted h _)

/-- What a command does whose bytes the host holds in its own memory: they stand there (log entry 5). -/
def State.fed (s : State) (l : List (Nat × Byte)) : State := { s with host := Mem.writeCells s.host l }

theorem execDoorbell_pf_unbooted {s : State} (h : s.booted = false) (i : Nat) (t u : BitVec 32) (l : List (Nat × Byte)) :
    execDoorbell .pf i t u l s = .next (s.fed l) := by
  have quiet : ({ s with host := Mem.writeCells s.host l } : State).doorbellQueue .pf i = none := State.doorbellQueue_pf_unbooted h i
  rw [execDoorbell, quiet, State.fed]

/-- Settles O32: `whenBooted` guards every command but four, which have the same condition of their own. -/
theorem beforeBootWritesAreIgnored : Obligations.BeforeBootWritesAreIgnored := by
  intro s h
  refine ⟨fun d m n e p k hh x half v u q i off size w a b y g r pw ww good c hc => ?_, fun p hh i t u l c hc => ?_⟩
  · simp only [List.mem_cons, List.not_mem_nil, or_false] at hc
    by_cases own : c = .registerWrite .pf off size w ∨ c = .fenceHostWrite .pf i v ∨ c = .logbookStore
    · obtain rfl | rfl | rfl := own
      · exact execRegisterWrite_pf_unbooted h good w
      · exact execFenceHostWrite_pf_unbooted h i v
      · exact execLogbookStore_unbooted h
    · obtain ⟨write, fence, store⟩ : _ ∧ _ ∧ _ := by simpa only [not_or] using own
      simp only [write, fence, store, false_or] at hc
      have guarded : ∃ t, exec c s = .next (s.whenBooted t) := by
        casesm* _ ∨ _ <;> subst c <;> exact ⟨_, rfl⟩
      obtain ⟨t, e⟩ := guarded
      rw [e, State.whenBooted_unbooted h]
  · simp only [List.mem_cons, List.not_mem_nil, or_false] at hc
    obtain rfl | guarded : c = .doorbell .pf i t u l ∨ ∃ t, exec c s = .next ((s.fed l).whenBooted t) := by
      obtain rfl | rfl | rfl | rfl | rfl := hc
      case inr.inr.inr.inr => exact .inl rfl
      all_goals exact .inr ⟨_, rfl⟩
    · exact execDoorbell_pf_unbooted h i t u l
    · obtain ⟨t, e⟩ := guarded
      rw [e, State.whenBooted_unbooted (s := s.fed l) h]
      rfl

end Sys2Proof.Machine
end

section
/-! What waits for the next edge: programs, keys, power, a live update, the journal (R310, R311, R339, R346, R348, R364, R405, R414, R415). -/

namespace Sys2Proof.Machine
open Sys2Proof.Safety
-- The evaluations by the kernel follow one another: side by side they would take more memory than the check allows.
set_option Elab.async false

section
variable {s : State} (booted : s.booted = true)
include booted

theorem execProgLoad_named {p : Fin 16} {h : Fin 32} (named : (s.part p.val).names h.val = true) (m : List (Nat × Byte)) :
    execProgLoad p h m s = .next (({ s with host := Mem.writeCells s.host m } : State).ignored (progCtlOffset p.val h.val)) :=
  congrArg _ ((State.whenBooted_booted (s := { s with host := Mem.writeCells s.host m }) booted _).trans (if_pos named))

theorem execProgLoad_unnamed {p : Fin 16} {h : Fin 32} (unnamed : (s.part p.val).names h.val = false) (m : List (Nat × Byte)) :
    execProgLoad p h m s = .next ((({ s with host := Mem.writeCells s.host m } : State).put .PART_PROG_STAT_STATE
      (progIdx p.val h.val) 1).atNextEdge (.load p.val h.val)) :=
  congrArg _ ((State.whenBooted_booted (s := { s with host := Mem.writeCells s.host m }) booted _).trans (if_neg (ne_true_of_eq_false unnamed)))

theorem execProgClear_named {p : Fin 16} {h : Fin 32} (named : (s.part p.val).names h.val = true) :
    execProgClear p h s = .next (s.ignored (progCtlOffset p.val h.val)) :=
  congrArg _ ((State.whenBooted_booted booted _).trans (if_pos named))

theorem execProgClear_unnamed {p : Fin 16} {h : Fin 32} (unnamed : (s.part p.val).names h.val = false) :
    execProgClear p h s = .next (s.atNextEdge (.clear p.val h.val)) :=
  congrArg _ ((State.whenBooted_booted booted _).trans (if_neg (ne_true_of_eq_false unnamed)))

theorem execInflate_may {d : Fin 250} (may : d.val < 248 ∧ s.fusedOff d.val = false) :
    execInflate d s = .next (s.atNextEdge (.inflate d.val)) :=
  congrArg _ ((State.whenBooted_booted booted _).trans (if_pos may))

theorem execInflate_may_not {d : Fin 250} (not : ¬(d.val < 248 ∧ s.fusedOff d.val = false)) :
    execInflate d s = .next (s.ignored (domCtlOffset d.val)) :=
  congrArg _ ((State.whenBooted_booted booted _).trans (if_neg not))

theorem execDeflate_may {d : Fin 250} (may : s.mayDeflate d.val = true) : execDeflate d s = .next (s.atNextEdge (.deflate d.val)) :=
  congrArg _ ((State.whenBooted_booted booted _).trans (if_pos may))

theorem execDeflate_may_not {d : Fin 250} (not : s.mayDeflate d.val = false) :
    execDeflate d s = .next (s.ignored (domCtlOffset d.val)) :=
  congrArg _ ((State.whenBooted_booted booted _).trans (if_neg (ne_true_of_eq_false not)))

end

theorem State.journalReady_spec {s : State} {c : CmdId} {op : Nat} {d : Cmd} (h : s.journalReady c op = some d) :
    s.ready c 0x702 = some d ∧ d.journal.op = op := by
  unfold State.journalReady at h
  split at h
  next k found =>
    split at h
    next same => cases h; exact ⟨found, same⟩
    next => cases h
  next => cases h

/-- The request that a JOURNAL_CTL of this operation puts to the next edge, and the end of the command in its second cycle (R339). -/
theorem journalRequest_waits {s : State} {c : CmdId} {op : Nat} {d : Cmd} (ready : s.journalReady c op = some d) (r : EdgeReq) :
    RetiresAt s ((s.atNextEdge r).done d (d.t0 + 1) 0 0) d (d.t0 + 1) 0 0 ∧
    ((s.atNextEdge r).done d (d.t0 + 1) 0 0).edge = s.edge ++ [r] := by
  obtain ⟨found, due⟩ := State.ready_running (State.journalReady_spec ready).1
  exact ⟨retiresAt_done found due rfl rfl _ _ _, rfl⟩

/-- Settles O48: each request joins `edge`, or is counted as ignored, as its guard says; the journal's commands then retire. -/
theorem requestsWaitForTheNextEdge : Obligations.RequestsWaitForTheNextEdge := by
  intro s
  refine ⟨fun booted => ⟨fun p h m => ⟨fun unnamed => ?_, fun named => ?_⟩, fun p k => ?_, fun d => ?_, ?_⟩, fun c d => ?_⟩
  · exact ⟨execProgLoad_unnamed booted unnamed m, execProgClear_unnamed booted unnamed⟩
  · exact ⟨execProgLoad_named booted named m, execProgClear_named booted named⟩
  · have waits (r : EdgeReq) := congrArg (Host.Outcome.next (φ := Fault) (ρ := Refusal)) (State.whenBooted_booted booted (s.atNextEdge r))
    exact ⟨waits _, waits _, waits _⟩
  · refine ⟨fun small on => execInflate_may booted ⟨small, on⟩, fun no => execInflate_may_not booted fun may => ?_,
      execDeflate_may booted, execDeflate_may_not booted⟩
    rcases no with large | off
    · exact absurd may.1 (by omega)
    · exact Bool.false_ne_true (may.2.symm.trans off)
  · exact congrArg _ (State.whenBooted_booted booted _)
  · refine ⟨fun ready => ?_, fun ready => ?_⟩
    · have e : execJournalEnable c s = .next ((s.atNextEdge (.journal d.journalPart true d.journal.log2 d.journal.arg
          (if d.journal.mirror then some d.journal.port else none))).done d (d.t0 + 1) 0 0) := by
        simp only [execJournalEnable, ready]
      exact ⟨_, e, Same.changes (execJournalEnable_frame e) (by decide +kernel), journalRequest_waits ready _⟩
    · have e : execJournalDisable c s = .next ((s.atNextEdge (.journal d.journalPart false 0 0 none)).done d (d.t0 + 1) 0 0) := by
        simp only [execJournalDisable, ready]
      exact ⟨_, e, Same.changes (execJournalDisable_frame e) (by decide +kernel), journalRequest_waits ready _⟩

end Sys2Proof.Machine
end

section
/-! Cores whose clearing begins, and the Core Map of a shape (R136, R137, R308). -/

namespace Sys2Proof.Machine
open Sys2Proof.Safety
-- The evaluations by the kernel follow one another: side by side they would take more memory than the check allows.
set_option Elab.async false

theorem mem_enumFrom {α : Type} {l : List α} {i : Nat} {x : α} (h : l[i]? = some x) (k : Nat) : (k + i, x) ∈ enumFrom k l := by
  induction l generalizing i k with
  | nil => cases h
  | cons y l ih =>
    cases i with
    | zero => cases h; exact List.mem_cons_self
    | succ i =>
      have there := ih h (k + 1)
      rw [Nat.add_right_comm] at there
      exact List.mem_cons_of_mem _ there

theorem enumFrom_snd {α : Type} (l : List α) (k : Nat) : (enumFrom k l).map Prod.snd = l := by
  induction l generalizing k with
  | nil => rfl
  | cons y l ih => exact congrArg (y :: ·) (ih (k + 1))

/-- Position `n` has begun to clear in the frame that stands since cycle `x` (R136). -/
def BeginsClearing (x n : Nat) (s : State) : Prop := (s.core n).clearing = some (x + 5478) ∧ s.get .CORE_TMEM_CLR_BUSY n = 1

theorem BeginsClearing.of_same {x n : Nat} {s t : State} (h : BeginsClearing x n s)
    (kept : Same (maskBut [Field.CORE_TMEM_CLR_BUSY.code, 414]) s t) : BeginsClearing x n t := by
  unfold BeginsClearing State.core
  rw [kept.cores (by decide +kernel), kept.reg _ _ (by decide) (by decide +kernel)]
  exact h

theorem State.clearCore_begins (s : State) (n cause : Nat) : BeginsClearing s.clock.frameStart n (s.clearCore n cause) := by
  refine ⟨?_, ?_⟩
  · simp only [State.clearCore, State.put_core, State.core_modCore]
    rfl
  · simp only [State.clearCore]
    iterate 5 rw [State.get_put_code _ (by decide)]
    rw [State.get_put]
    rfl

theorem State.clearCore_core_other (s : State) {n k : Nat} (ne : k ≠ n) (cause : Nat) : (s.clearCore n cause).core k = s.core k := by
  simp only [State.clearCore, State.put_core]
  exact State.core_setCore_other _ _ ne

theorem BeginsClearing.clearCore_other {x n k : Nat} {s : State} (h : BeginsClearing x n s) (hn : n < 96) (hk : k < 96) (ne : k ≠ n)
    (cause : Nat) : BeginsClearing x n (s.clearCore k cause) := by
  obtain ⟨clearing, busy⟩ := h
  refine ⟨(congrArg Core.clearing (s.clearCore_core_other ne.symm cause)).trans clearing, ?_⟩
  simp only [State.clearCore]
  iterate 5 rw [State.get_put_code _ (by decide)]
  rw [State.get_put_instance _ _ (by omega)]
  exact busy

theorem State.clearCore_clock (s : State) (n cause : Nat) : (s.clearCore n cause).clock = s.clock :=
  State.clearCore_frame.clock (by decide)

/-- Each of the positions whose clearing a fold begins is being cleared (R136). -/
theorem State.clearCores_begin (s : State) {l : List Nat} (small : ∀ n ∈ l, n < 96) (cause : Nat) {n : Nat} (mem : n ∈ l) :
    BeginsClearing s.clock.frameStart n (l.foldl (fun s n => s.clearCore n cause) s) := by
  refine foldl_reaches (I := fun t : State => t.clock = s.clock) (P := BeginsClearing s.clock.frameStart n) mem
    (fun t k i => (t.clearCore_clock k cause).trans i) (fun t i => ?_)
    (fun _ k hk ne h => h.clearCore_other (small n mem) (small k hk) ne cause) rfl
  rw [← i]
  exact t.clearCore_begins n cause

/-- As `clearCores_begin`, of the core alone: numbers that are no positions do no harm. -/
theorem State.clearCores_clearing (s : State) (l : List Nat) (cause : Nat) {n : Nat} (mem : n ∈ l) :
    ((l.foldl (fun s n => s.clearCore n cause) s).core n).clearing = some (s.clock.frameStart + 5478) := by
  refine foldl_reaches (I := fun t : State => t.clock = s.clock)
    (P := fun t : State => (t.core n).clearing = some (s.clock.frameStart + 5478)) mem
    (fun t k i => (t.clearCore_clock k cause).trans i) (fun t i => ?_)
    (fun t _ _ ne h => (congrArg Core.clearing (t.clearCore_core_other ne.symm cause)).trans h) rfl
  rw [← i]
  exact (t.clearCore_begins n cause).1

/-- Position `n` is bound to slot `i` of partition `p` (R327). -/
def BoundAs (p i n : Nat) (s : State) : Prop :=
  s.get .CORE_BIND_BOUND n = 1 ∧ s.get .CORE_BIND_PART n = p % 2 ^ Field.CORE_BIND_PART.width ∧
  s.get .CORE_BIND_SLOT n = i % 2 ^ Field.CORE_BIND_SLOT.width

theorem BoundAs.of_same {p i n : Nat} {s t : State} (h : BoundAs p i n s)
    (kept : Same (maskBut ([Field.CORE_BIND_BOUND, Field.CORE_BIND_PART, Field.CORE_BIND_SLOT].map Field.code)) s t) : BoundAs p i n t := by
  unfold BoundAs
  rw [kept.reg _ _ (by decide) (by decide +kernel), kept.reg _ _ (by decide) (by decide +kernel),
    kept.reg _ _ (by decide) (by decide +kernel)]
  exact h

/-- One entry of a Core Map is recorded (R308). -/
def State.bindCore (s : State) (p spareFrom : Nat) (x : Nat × Nat) : State :=
  (((s.put .CORE_BIND_BOUND x.2 1).put .CORE_BIND_SPARE x.2 (nat01 (decide (spareFrom ≤ x.1)))).put .CORE_BIND_PART x.2 p).put
    .CORE_BIND_SLOT x.2 x.1

theorem State.bindCores_eq (s : State) (p : Nat) (v : Shape) :
    s.bindCores p v = (enumFrom 0 v.positions).foldl (fun s x => s.bindCore p v.lcores x) s := rfl

theorem State.bindCore_bound (s : State) (p k : Nat) (x : Nat × Nat) : BoundAs p x.1 x.2 (s.bindCore p k x) := by
  unfold BoundAs State.bindCore
  rw [State.get_put_code _ (by decide), State.get_put_code _ (by decide), State.get_put_code _ (by decide), State.get_put,
    State.get_put_code _ (by decide), State.get_put, State.get_put]
  exact ⟨rfl, rfl, rfl⟩

theorem BoundAs.bindCore_other {p i n : Nat} {s : State} (h : BoundAs p i n s) {x : Nat × Nat} (apart : n % 65536 ≠ x.2 % 65536)
    (q k : Nat) : BoundAs p i n (s.bindCore q k x) := by
  have kept (f : Field) : (s.bindCore q k x).get f n = s.get f n := by
    unfold State.bindCore
    iterate 4 rw [State.get_put_key _ (by unfold Field.key; omega)]
  unfold BoundAs
  rw [kept, kept, kept]
  exact h

/-- A Core Map of distinct positions is recorded whole (R308, R327). -/
theorem State.bindCores_bound (s : State) (p : Nat) {v : Shape} (distinct : v.positions.Nodup) (small : ∀ n ∈ v.positions, n < 96)
    {i n : Nat} (listed : v.positions[i]? = some n) : BoundAs p i n (s.bindCores p v) := by
  have mem : (i, n) ∈ enumFrom 0 v.positions := by simpa using mem_enumFrom listed 0
  have places := enumFrom_snd v.positions 0
  have here {x : Nat × Nat} (hx : x ∈ enumFrom 0 v.positions) : x.2 ∈ v.positions := by
    rw [← places]
    exact List.mem_map_of_mem hx
  rw [State.bindCores_eq]
  refine foldl_reaches (I := fun _ => True) (P := BoundAs p i n) mem (fun _ _ _ => trivial) (fun t _ => t.bindCore_bound p _ (i, n))
    (fun t x hx ne h => h.bindCore_other ?_ p _) trivial
  have apart : n ≠ x.2 := fun e => ne (List.inj_on_of_nodup_map (f := Prod.snd) (by rw [places]; exact distinct) hx mem e.symm)
  have := small n (here mem)
  have := small x.2 (here hx)
  omega

end Sys2Proof.Machine
end

section
/-! PART_CREATE and PART_RESIZE at their edge (R305 to R308, R318). -/

namespace Sys2Proof.Machine
open Sys2Proof.Safety
-- The evaluations by the kernel follow one another: side by side they would take more memory than the check allows.
set_option Elab.async false

/-- A command that fails its checks ends, LAST_CHECK keeping the code (R307). -/
theorem execPartCreate_fails {s : State} {c : CmdId} {d : Cmd} (at_ : s.atItsEdge c 0x600 = some d) {x : Nat × Nat × Nat}
    (fails : s.checkBind d.partP.part (s.newShape d.partP.part d.bytes) false false = some x) :
    execPartCreate c s = .next (s.failCheck d d.partP.part x) := by
  simp only [execPartCreate, at_, fails]

theorem execPartCreate_passes {s : State} {c : CmdId} {d : Cmd} (at_ : s.atItsEdge c 0x600 = some d)
    (passes : s.checkBind d.partP.part (s.newShape d.partP.part d.bytes) false false = none) :
    execPartCreate c s = .next (s.create d d.partP.part (s.newShape d.partP.part d.bytes)) := by
  simp only [execPartCreate, at_, passes]

theorem execPartResize_fails {s : State} {c : CmdId} {d : Cmd} (at_ : s.atItsEdge c 0x601 = some d) {x : Nat × Nat × Nat}
    (fails : s.checkBind d.partP.part (s.newShape d.partP.part d.bytes) true false = some x) :
    execPartResize c s = .next (s.failCheck d d.partP.part x) := by
  simp only [execPartResize, at_, fails]

theorem execPartResize_passes {s : State} {c : CmdId} {d : Cmd} (at_ : s.atItsEdge c 0x601 = some d)
    (passes : s.checkBind d.partP.part (s.newShape d.partP.part d.bytes) true false = none) :
    execPartResize c s = .next (s.armResize d d.partP.part (s.newShape d.partP.part d.bytes)) := by
  simp only [execPartResize, at_, passes]

/-- A partition that is created, its cores clearing, before its Core Map stands (R308). -/
def State.clearedFor (s : State) (p : Nat) (v : Shape) : State :=
  v.positions.foldl (fun s n => s.clearCore n 1) (s.put .PART_STATE_STATE p 1)

/-- What a create shows beside the shape: its state, its Core Map, its clearing. -/
def createMask : Nat :=
  maskBut ([Field.PART_STATE_STATE, Field.PART_STATE_GEN, Field.CORE_BIND_BOUND, Field.CORE_BIND_PART, Field.CORE_BIND_SLOT,
    Field.CORE_TMEM_CLR_BUSY].map Field.code ++ [401, 409, 414, 429])

/-- The slots that the partition kept when it was destroyed return in a warm create (R325). -/
def State.restoreSlots (s : State) (p : Nat) (v : Shape) : State := match (s.part p).bind.retained with
  | some (d, l) => if (partOf v.params).warm = true ∧ d = v.digest then
      l.foldl (fun (s : State) (x : Nat × Slot × Nat) => s.restoreSlot p x.1 x.2.1 x.2.2) s else s
  | none => s

theorem State.restoreSlots_frame (s : State) (p : Nat) (v : Shape) : Same createMask s (s.restoreSlots p v) := by
  unfold State.restoreSlots
  split
  · split
    · exact Same.foldl (fun _ _ h => Same.via State.restoreSlot_frame (by decide +kernel) h) _ Same.refl
    · exact Same.refl
  · exact Same.refl

theorem State.bindOf_setSlot (s : State) (p h : Nat) (v : Slot) : (s.setSlot p h v).bindOf = s.bindOf :=
  State.bindOf_modPart (g := fun x => { x with slots := Tab.put Slot.init x.slots h v }) (fun _ => rfl) s p

theorem State.bindOf_restoreSlots (s : State) (p : Nat) (v : Shape) : (s.restoreSlots p v).bindOf = s.bindOf := by
  unfold State.restoreSlots
  split
  · split
    · refine foldl_kept State.bindOf (fun t x => ?_) _ s
      simp only [State.restoreSlot, State.bindOf_put, State.bindOf_setSlot]
    · rfl
  · rfl

theorem State.bindOf_emptySlots (s : State) (p : Nat) : (s.emptySlots p).bindOf = s.bindOf := by
  refine foldl_kept State.bindOf (fun t h => ?_) _ s
  simp only [State.clearSlot, State.bindOf_put, State.bindOf_setSlot]

theorem State.bindOf_freshKeys (s : State) (p : Nat) : (s.freshKeys p).bindOf = s.bindOf := by
  unfold State.freshKeys
  dsimp only
  rw [foldl_kept State.bindOf fun t i => State.bindOf_of_parts (t.putA_parts _ _ _)]
  exact State.bindOf_modPart (g := fun x => { x with keys := { x.keys with secret := some s.draw.1 } }) (fun _ => rfl) s.draw.2 p

theorem State.book_frame {m : Nat} (hb : m.testBit 425 = true) (s : State) (b : Book) : Same m s { s with book := b } := by
  constructor
  case book => exact fun h => absurd (hb.symm.trans h) (by decide)
  all_goals intros; rfl

theorem State.bindOf_book (s : State) (b : Book) : ({ s with book := b } : State).bindOf = s.bindOf := rfl

/-- Nothing is retained any more, nothing is awaited, and the partition's view of the book starts empty (R325, R399). -/
def State.startView (s : State) (p : Nat) : State :=
  let s := (s.put .PART_STATE_RETAINED p 0).modBind p fun b => { b with retained := none, ending := [1], waiter := none, readyAt := none, rebinds := s.unboundSlots p }
  ({ s with book := { s.book with views := Tab.put View.init s.book.views p View.init } }).putA .VFLOG_SEQ_PSEQ p 0

theorem State.startView_frame (s : State) (p : Nat) : Same createMask s (s.startView p) :=
  State.putA_frame (by decide +kernel) ((Same.via State.modBind_frame (by decide +kernel)
    (State.put_frame (by decide +kernel) Same.refl)).trans (State.book_frame (by decide +kernel) _ _))

theorem State.bindOf_startView (s : State) (p : Nat) : ((s.startView p).bindOf p).shape = (s.bindOf p).shape ∧
    ((s.startView p).bindOf p).queues = (s.bindOf p).queues ∧ ((s.startView p).bindOf p).fences = (s.bindOf p).fences := by
  unfold State.startView
  rw [State.bindOf_of_parts (State.putA_parts _ _ _ _), State.bindOf_book, State.bindOf_modBind, State.bindOf_put]
  exact ⟨rfl, rfl, rfl⟩

theorem State.create_eq (s : State) (c : Cmd) (p : Nat) (v : Shape) : s.create c p v =
    (((((((s.clearedFor p v).putShape p v).emptySlots p).restoreSlots p v).startView p).freshKeys p).done c
      (((((s.clearedFor p v).putShape p v).emptySlots p).restoreSlots p v).startView p).now 0 0) := by
  unfold State.create
  extract_lets stated cleared shaped emptied restored waiting seen
  have slots : emptied = ((s.clearedFor p v).putShape p v).emptySlots p := rfl
  clear_value emptied
  rw [← slots]
  rfl

theorem State.clearedFor_frame (s : State) (p : Nat) (v : Shape) :
    Same 0x40000000000000000000000000000000000000000000000000000000000000000000000000000004000000000003060200000000 
      (s.put .PART_STATE_STATE p 1) (s.clearedFor p v) :=
  Same.foldl (fun _ _ h => Same.via State.clearCore_frame (by decide +kernel) h) _ Same.refl

theorem State.clearedFor_begins (s : State) (p : Nat) {v : Shape} (small : ∀ n ∈ v.positions, n < 96) {n : Nat} (mem : n ∈ v.positions) :
    BeginsClearing s.clock.frameStart n (s.clearedFor p v) :=
  (s.put .PART_STATE_STATE p 1).clearCores_begin small 1 mem

/-- What a shape in force shows of itself (R308, R327). -/
theorem State.putShape_shows (s : State) (p : Nat) {v : Shape} (distinct : v.positions.Nodup) (small : ∀ n ∈ v.positions, n < 96) :
    (s.putShape p v).get .PART_STATE_GEN p = v.gen % 2 ^ Field.PART_STATE_GEN.width ∧
    ((s.putShape p v).bindOf p).queues = s.descQueues p ∧ ((s.putShape p v).bindOf p).fences = s.descFences p ∧
    ∀ i n, v.positions[i]? = some n → BoundAs p i n (s.putShape p v) := by
  unfold State.putShape
  extract_lets bound mapped shown ranged
  have bind : ranged.rebase.bindOf p = bound.bindOf p := by
    rw [State.bindOf_of_parts (State.rebase_frame.parts (by decide))]
    simp only [ranged, shown, State.bindOf_put]
    exact congrFun (State.bindOf_of_parts (State.bindCores_frame.parts (by decide))) p
  have get {f : Field} (hf : f ∈ placeFields) (n : Nat) : ranged.rebase.get f n = shown.get f n :=
    State.get_placeFields (Same.via State.rebase_frame (by decide +kernel) (State.put_frame (by decide +kernel)
      (State.put_frame (by decide +kernel) (State.put_frame (by decide +kernel) Same.refl)))) hf n
  refine ⟨?_, ?_, ?_, fun i n listed => ?_⟩
  · rw [get (by decide)]
    exact State.get_put _ _ _ _
  · rw [bind, State.bindOf_modBind]
  · rw [bind, State.bindOf_modBind]
  · exact (bound.bindCores_bound p distinct small listed).of_same (Same.via State.rebase_frame (by decide +kernel)
      (State.put_frame (by decide +kernel) (State.put_frame (by decide +kernel) (State.put_frame (by decide +kernel)
        (State.put_frame (by decide +kernel) (State.put_frame (by decide +kernel) (State.put_frame (by decide +kernel) Same.refl)))))))

/-- A created partition before its command retires. -/
def State.formed (s : State) (p : Nat) (v : Shape) : State :=
  (((((s.clearedFor p v).putShape p v).emptySlots p).restoreSlots p v).startView p).freshKeys p

theorem State.formed_frame (s : State) (p : Nat) (v : Shape) : Same createMask ((s.clearedFor p v).putShape p v) (s.formed p v) :=
  Same.via State.freshKeys_frame (by decide +kernel) (((State.emptySlots_frame.mono (by decide +kernel)).trans
    (State.restoreSlots_frame _ _ _)).trans (State.startView_frame _ _))

theorem State.bindOf_formed (s : State) (p : Nat) (v : Shape) :
    ((s.formed p v).bindOf p).shape = (((s.clearedFor p v).putShape p v).bindOf p).shape ∧
    ((s.formed p v).bindOf p).queues = (((s.clearedFor p v).putShape p v).bindOf p).queues ∧
    ((s.formed p v).bindOf p).fences = (((s.clearedFor p v).putShape p v).bindOf p).fences := by
  have view := State.bindOf_startView ((((s.clearedFor p v).putShape p v).emptySlots p).restoreSlots p v) p
  rw [State.bindOf_restoreSlots, State.bindOf_emptySlots] at view
  rw [State.formed, State.bindOf_freshKeys]
  exact view

theorem State.clearedFor_ranges (s : State) (p : Nat) (v : Shape) :
    (s.clearedFor p v).descQueues p = s.descQueues p ∧ (s.clearedFor p v).descFences p = s.descFences p := by
  have kept {f : Field} (hf : f ∈ [Field.PART_QUEUES_BASE, Field.PART_QUEUES_COUNT, Field.PART_FENCES_BASE, Field.PART_FENCES_COUNT]) :
      (s.clearedFor p v).get f p = s.get f p := by
    have apart : ∀ f ∈ [Field.PART_QUEUES_BASE, Field.PART_QUEUES_COUNT, Field.PART_FENCES_BASE, Field.PART_FENCES_COUNT],
        f.code < 400 ∧ f.code ≠ Field.PART_STATE_STATE.code ∧ Nat.testBit
        0x40000000000000000000000000000000000000000000000000000000000000000000000000000004000000000003060200000000 f.code = false := by
      decide +kernel
    obtain ⟨reg, ne, off⟩ := apart f hf
    rw [(s.clearedFor_frame p v).reg _ _ reg off, State.get_put_code _ ne]
  simp only [State.descQueues, State.descFences]
  rw [kept (by decide), kept (by decide), kept (by decide), kept (by decide)]
  exact ⟨rfl, rfl⟩

/-- What a create leaves: the partition's state, number, shape and ranges, its Core Map, and its cores, which are being cleared (R308). -/
theorem State.formed_effect (s : State) (p : Nat) {v : Shape} (distinct : v.positions.Nodup)
    (small : ∀ n ∈ v.positions, n < 96) : (s.formed p v).get .PART_STATE_STATE p = 1 ∧
    (s.formed p v).get .PART_STATE_GEN p = v.gen % 2 ^ Field.PART_STATE_GEN.width ∧
    ((s.formed p v).part p).bind.shape = some v ∧ ((s.formed p v).part p).bind.queues = s.descQueues p ∧
    ((s.formed p v).part p).bind.fences = s.descFences p ∧
    ∀ i n, v.positions[i]? = some n → BoundAs p i n (s.formed p v) ∧ BeginsClearing s.clock.frameStart n (s.formed p v) := by
  have later := s.formed_frame p v
  obtain ⟨shape, queues, fences⟩ := s.bindOf_formed p v
  obtain ⟨gen, queues', fences', places⟩ := (s.clearedFor p v).putShape_shows p distinct small
  obtain ⟨sameQueues, sameFences⟩ := s.clearedFor_ranges p v
  have begun : ∀ n ∈ v.positions, BeginsClearing s.clock.frameStart n (s.clearedFor p v) := fun n mem => s.clearedFor_begins p small mem
  have created : (s.clearedFor p v).get .PART_STATE_STATE p = 1 := by
    rw [(s.clearedFor_frame p v).reg _ _ (by decide) (by decide)]
    exact State.get_put _ _ _ _
  generalize s.formed p v = u at *
  generalize s.clearedFor p v = w at *
  rw [← State.bindOf]
  refine ⟨?_, (later.reg _ _ (by decide) (by decide +kernel)).trans gen, shape.trans (State.putShape_shape _ p v),
    (queues.trans queues').trans sameQueues, (fences.trans fences').trans sameFences, fun i n listed => ⟨?_, ?_⟩⟩
  · rw [later.reg _ _ (by decide) (by decide +kernel), State.putShape_frame.reg _ _ (by decide) (by decide), created]
  · exact (places i n listed).of_same (later.mono (by decide +kernel))
  · exact ((begun n (List.mem_of_getElem? listed)).of_same (State.putShape_frame.mono (by decide +kernel))).of_same
      (later.mono (by decide +kernel))

theorem State.create_formed (s : State) (c : Cmd) (p : Nat) (v : Shape) : s.create c p v = (s.formed p v).done c s.now 0 0 := by
  have shaped : ((s.clearedFor p v).putShape p v).clock = s.clock :=
    (State.putShape_frame.clock (by decide)).trans ((s.clearedFor_frame p v).clock (by decide))
  have viewed := (State.startView_frame ((((s.clearedFor p v).putShape p v).emptySlots p).restoreSlots p v) p).clock (by decide +kernel)
  have slots := ((State.restoreSlots_frame (((s.clearedFor p v).putShape p v).emptySlots p) p v).clock (by decide +kernel)).trans
    (State.emptySlots_frame.clock (by decide))
  rw [State.create_eq, State.formed, State.now, viewed, slots, shaped, State.now]

/-- A create whose shape lists distinct positions: the command retires in this cycle, and the partition is as `formed_effect` says. -/
theorem State.create_effect {s : State} {d : Cmd} (found : s.findCmd d.queue d.seq = some d) (due : d.due = none) (p : Nat) {v : Shape}
    (distinct : v.positions.Nodup) (small : ∀ n ∈ v.positions, n < 96) :
    RetiresAt s (s.create d p v) d s.now 0 0 ∧ (s.create d p v).get .PART_STATE_STATE p = 1 ∧
    (s.create d p v).get .PART_STATE_GEN p = v.gen % 2 ^ Field.PART_STATE_GEN.width ∧
    ((s.create d p v).part p).bind.shape = some v ∧ ((s.create d p v).part p).bind.queues = s.descQueues p ∧
    ((s.create d p v).part p).bind.fences = s.descFences p ∧
    ∀ i n, v.positions[i]? = some n →
      (s.create d p v).get .CORE_BIND_BOUND n = 1 ∧
      (s.create d p v).get .CORE_BIND_PART n = p % 2 ^ Field.CORE_BIND_PART.width ∧
      (s.create d p v).get .CORE_BIND_SLOT n = i % 2 ^ Field.CORE_BIND_SLOT.width ∧
      ((s.create d p v).core n).clearing = some (s.clock.frameStart + 5478) ∧ (s.create d p v).get .CORE_TMEM_CLR_BUSY n = 1 := by
  obtain ⟨state, gen, shape, queues, fences, places⟩ := s.formed_effect p distinct small
  have later := s.formed_frame p v
  have cmds : (s.formed p v).cmds = s.cmds := (later.cmds (by decide +kernel)).trans
    ((State.putShape_frame.cmds (by decide)).trans ((s.clearedFor_frame p v).cmds (by decide)))
  have mark : (s.formed p v).rehearsal = s.rehearsal := (later.rehearsal (by decide +kernel)).trans
    ((State.putShape_frame.rehearsal (by decide)).trans ((s.clearedFor_frame p v).rehearsal (by decide)))
  rw [State.create_formed]
  generalize s.formed p v = u at *
  refine ⟨retiresAt_done found due cmds mark _ _ _, state, gen, shape, queues, fences, fun i n listed => ?_⟩
  obtain ⟨⟨bound, part, slot⟩, clearing, busy⟩ := places i n listed
  exact ⟨bound, part, slot, clearing, busy⟩

/-- The shape that a resize is to bring is armed, and a partition that is not CLEARING waits for its tasks to end (R318). -/
def State.armed (s : State) (p : Nat) (v : Shape) : State :=
  let s := s.put .PART_STATE_RESIZE_ARMED p 1
  let s := if s.get .PART_STATE_STATE p = 1 then s else s.put .PART_STATE_STATE p 4
  s.modBind p fun b => { b with armed := some v, readyAt := some (s.clock.frameNo + 1) }

theorem State.armed_effect (s : State) (p : Nat) (v : Shape) : 
    (s.armed p v).get .PART_STATE_RESIZE_ARMED p = 1 ∧
    ((s.armed p v).part p).bind.armed = some v ∧ ((s.armed p v).part p).bind.shape = (s.part p).bind.shape ∧
    (s.get .PART_STATE_STATE p ≠ 1 → (s.armed p v).get .PART_STATE_STATE p = 4) := by
  have kept : (s.put .PART_STATE_RESIZE_ARMED p 1).get .PART_STATE_STATE p = s.get .PART_STATE_STATE p :=
    State.get_put_code _ (by decide) _ _ _
  have armed := State.get_put s .PART_STATE_RESIZE_ARMED p 1
  unfold State.armed
  dsimp only
  rw [State.modBind_get, State.modBind_get, State.part_modBind, kept]
  by_cases clearing : s.get .PART_STATE_STATE p = 1
  · rw [if_pos clearing]
    exact ⟨armed, rfl, rfl, fun ne => absurd clearing ne⟩
  · rw [if_neg clearing, State.get_put_code _ (by decide), State.get_put _ .PART_STATE_STATE]
    exact ⟨armed, rfl, rfl, fun _ => rfl⟩

/-- A resize that passes its checks: its shape is armed, and the command retires in this cycle (R318). -/
theorem State.armResize_effect {s : State} {d : Cmd} (found : s.findCmd d.queue d.seq = some d) (due : d.due = none) (p : Nat) (v : Shape) :
    RetiresAt s (s.armResize d p v) d s.now 0 0 ∧ (s.armResize d p v).get .PART_STATE_RESIZE_ARMED p = 1 ∧
    ((s.armResize d p v).part p).bind.armed = some v ∧ ((s.armResize d p v).part p).bind.shape = (s.part p).bind.shape ∧
    (s.get .PART_STATE_STATE p ≠ 1 → (s.armResize d p v).get .PART_STATE_STATE p = 4) := by
  have frame : Same (maskBut [401, 409, 429]) s (s.armed p v) := by
    unfold State.armed
    dsimp only
    exact Same.via State.modBind_frame (by decide +kernel) (Same.ite (State.put_frame (by decide +kernel) Same.refl)
      (State.put_frame (by decide +kernel) (State.put_frame (by decide +kernel) Same.refl)))
  have e : s.armResize d p v = (s.armed p v).done d s.now 0 0 := by
    rw [show s.now = (s.armed p v).now from congrArg Clock.now (frame.clock (by decide +kernel)).symm]
    rfl
  rw [e, State.done_get, State.done_part, State.done_get]
  exact ⟨retiresAt_done found due (frame.cmds (by decide +kernel)) (frame.rehearsal (by decide +kernel)) _ _ _, s.armed_effect p v⟩

end Sys2Proof.Machine
end

section
/-! What an end of a partition's tasks leaves of them, and PART_RESET and PART_DESTROY at their edge (R315, R324, R339, R416). -/

namespace Sys2Proof.Machine
open Sys2Proof.Safety
-- The evaluations by the kernel follow one another: side by side they would take more memory than the check allows.
set_option Elab.async false

/-! ### The tasks of a partition -/

/-- The running task of a partition, and the next one whose header has been found. -/
def State.tasksOf (s : State) (q : Nat) : Option Task × Option Task := ((s.part q).run.task, (s.part q).run.next)

theorem State.tasksOf_none {s : State} {q : Nat} :
    s.tasksOf q = (none, none) ↔ (s.part q).run.task = none ∧ (s.part q).run.next = none := by
  rw [State.tasksOf, Prod.mk.injEq]

theorem State.tasksOf_of_parts {s t : State} (h : t.parts = s.parts) : t.tasksOf = s.tasksOf := by
  funext q
  rw [State.tasksOf, State.tasksOf, State.part_of_parts h]

theorem State.tasksOf_modPart {g : Part → Part} (h : ∀ x, (g x).run.task = x.run.task ∧ (g x).run.next = x.run.next) (s : State) (p : Nat) :
    (s.modPart p g).tasksOf = s.tasksOf := by
  funext q
  by_cases e : q = p
  · subst e
    rw [State.tasksOf, State.part_modPart, (h _).1, (h _).2, State.tasksOf]
  · rw [State.tasksOf, State.modPart, State.part_setPart_other _ _ e, State.tasksOf]

theorem State.tasksOf_modRun {g : PartRun → PartRun} (h : ∀ r, (g r).task = r.task ∧ (g r).next = r.next) (s : State) (p : Nat) :
    (s.modRun p g).tasksOf = s.tasksOf :=
  State.tasksOf_modPart (g := fun x => { x with run := g x.run }) (fun x => h x.run) s p

theorem State.tasksOf_modStrm (s : State) (p : Nat) (g : PartStream → PartStream) : (s.modStrm p g).tasksOf = s.tasksOf :=
  State.tasksOf_modPart (g := fun x => { x with strm := g x.strm }) (fun _ => ⟨rfl, rfl⟩) s p

theorem State.tasksOf_modBind (s : State) (p : Nat) (g : PartBind → PartBind) : (s.modBind p g).tasksOf = s.tasksOf :=
  State.tasksOf_modPart (g := fun x => { x with bind := g x.bind }) (fun _ => ⟨rfl, rfl⟩) s p

theorem State.tasksOf_put (s : State) (f : Field) (i v : Nat) : (s.put f i v).tasksOf = s.tasksOf := rfl

theorem State.tasksOf_unnext (s : State) (p : Nat) : (s.modRun p fun r => { r with next := none }).tasksOf p = ((s.tasksOf p).1, none) := by
  rw [State.tasksOf, State.part_modRun, State.tasksOf]

theorem State.tasksOf_finish (s : State) (c : Cmd) (status detail : Nat) (x : Int) : (s.finish c status detail x).tasksOf = s.tasksOf := by
  have noted (t : State) (p : Option Nat) : (t.noteSlack p x).tasksOf = t.tasksOf := by
    cases p with
    | none => rfl
    | some p => exact State.tasksOf_modRun (by exact fun _ => ⟨rfl, rfl⟩) t p
  exact noted _ _

theorem State.tasksOf_dropStreams (s : State) (p : Nat) : (s.dropStreams p).tasksOf = s.tasksOf := by
  unfold State.dropStreams State.endStreams
  dsimp only
  rw [State.tasksOf_modStrm, State.tasksOf_modStrm,
    foldl_kept State.tasksOf fun _ _ => State.tasksOf_of_parts (State.cancelStream_frame.parts (by decide)),
    foldl_kept State.tasksOf fun _ _ => State.tasksOf_of_parts (State.voidSlot_frame.parts (by decide))]

theorem State.tasksOf_partEvent (s : State) (f : Field) (p : Nat) : (s.partEvent f p).tasksOf = s.tasksOf := by
  rw [State.partEvent, State.tasksOf_of_parts (State.event_parts _ _ _ _), State.tasksOf_modRun (by exact fun _ => ⟨rfl, rfl⟩)]
  rfl

theorem State.tasksOf_cancelResize (s : State) (p : Nat) : (s.cancelResize p).tasksOf = s.tasksOf := by
  unfold State.cancelResize
  dsimp only
  rw [State.tasksOf_partEvent, State.tasksOf_modBind, State.tasksOf_put]

/-- The next task is gone, and the running one is as it was. -/
theorem State.tasksOf_resetNext (s : State) (p : Nat) (records : Bool) :
    (s.resetNext p records).tasksOf p = ((s.tasksOf p).1, none) := by
  have ended : ∀ l : List Cmd, (l.foldl (fun (s : State) c =>
      if records then s.finish c 0x4001 0 2147483647 else s.dropCmd c) s).tasksOf = s.tasksOf := fun l => by
    refine foldl_kept State.tasksOf (fun t c => ?_) l s
    split
    · exact t.tasksOf_finish c _ _ _
    · rfl
  unfold State.resetNext
  dsimp only
  split
  next none => exact Prod.ext rfl none
  next t _ =>
    rw [State.showTask, State.tasksOf_put, State.tasksOf_unnext, ended]

/-! ### The reset of a partition -/

/-- The partition's tasks, commands and streams have ended (R315). -/
def State.emptied (s : State) (p : Nat) (records : Bool) : State :=
  ((s.abortTask p none (fun _ => (0x4001, 0)) none 0x4001 records).resetNext p records).dropStreams p

theorem State.tasksOf_emptied (s : State) (p : Nat) (records : Bool) : (s.emptied p records).tasksOf p = (none, none) := by
  rw [State.emptied, State.tasksOf_dropStreams, State.tasksOf_resetNext]
  exact Prod.ext (State.abortTask_task _ _ _ _ _ _ _) rfl

theorem State.bindOf_resetNext (s : State) (p : Nat) (records : Bool) : (s.resetNext p records).bindOf = s.bindOf := by
  unfold State.resetNext
  dsimp only
  split
  · rfl
  · rw [State.showTask, State.bindOf_put, State.bindOf_modRun]
    refine foldl_kept State.bindOf (fun t c => ?_) _ s
    split
    · exact t.bindOf_finish c _ _ _
    · rfl

theorem State.bindOf_emptied (s : State) (p : Nat) (records : Bool) : (s.emptied p records).bindOf = s.bindOf := by
  rw [State.emptied, State.bindOf_dropStreams, State.bindOf_resetNext, State.bindOf_abortTask]

theorem State.emptied_frame (s : State) (p : Nat) (records : Bool) :
    Same (maskBut (placeFields.map Field.code ++ [401])) s (s.emptied p records) :=
  Same.via State.dropStreams_frame (by decide +kernel) (Same.via State.resetNext_frame (by decide +kernel)
    (State.abortTask_frame.mono (by decide +kernel)))

/-- The cores that the partition holds. -/
def State.heldCores (s : State) (p : Nat) : List Nat := (s.part p).positions.filter fun n => s.boundTo n == some p

theorem State.mem_heldCores {s : State} {p n : Nat} : n ∈ s.heldCores p ↔ n ∈ (s.part p).positions ∧ s.boundTo n = some p := by
  rw [State.heldCores, List.mem_filter, beq_iff_eq]

theorem State.heldCores_emptied (s : State) (p : Nat) (records : Bool) : (s.emptied p records).heldCores p = s.heldCores p := by
  have kept := s.emptied_frame p records
  have positions : ((s.emptied p records).part p).positions = (s.part p).positions :=
    Part.positions_of_bind (congrFun (s.bindOf_emptied p records) p)
  have boundTo : (s.emptied p records).boundTo = s.boundTo := by
    funext n
    simp only [State.boundTo]
    rw [kept.reg .CORE_BIND_BOUND _ (by decide) (by decide +kernel), kept.reg .CORE_BIND_PART _ (by decide) (by decide +kernel)]
  rw [State.heldCores, positions, boundTo, State.heldCores]

/-- An armed resize falls, and an acknowledgement with it (R315). -/
def State.fallBack (s : State) (p : Nat) : State :=
  let s := if s.get .PART_STATE_RESIZE_ARMED p = 1 then s.cancelResize p else s
  if s.get .PART_MODE_ACK p = 1 then s.put .PART_MODE_ACK p 3 else s

theorem State.resetPart_eq (s : State) (p cause : Nat) (records : Bool) : s.resetPart p cause records =
    ((((s.emptied p records).heldCores p).foldl (fun s n => s.clearCore n cause) (s.emptied p records)).put .PART_STATE_STATE p 1).fallBack p := rfl

theorem State.fallBack_frame (s : State) (p : Nat) : Same (maskBut [Field.PART_STATE_STATE.code, 414]) s (s.fallBack p) := by
  unfold State.fallBack
  dsimp only
  have fallen : Same (maskBut [Field.PART_STATE_STATE.code, 414]) s
      (if s.get .PART_STATE_RESIZE_ARMED p = 1 then s.cancelResize p else s) :=
    Same.ite (State.cancelResize_frame.mono (by decide +kernel)) Same.refl
  exact Same.ite (State.put_frame (by decide +kernel) fallen) fallen

theorem State.tasksOf_fallBack (s : State) (p : Nat) : (s.fallBack p).tasksOf = s.tasksOf := by
  unfold State.fallBack
  dsimp only
  rw [apply_ite State.tasksOf, State.tasksOf_put, ite_self, apply_ite State.tasksOf, State.tasksOf_cancelResize, ite_self]

theorem State.fallBack_shape (s : State) (p : Nat) : ((s.fallBack p).bindOf p).shape = (s.bindOf p).shape := by
  unfold State.fallBack
  dsimp only
  rw [apply_ite State.bindOf, State.bindOf_put, ite_self, apply_ite State.bindOf]
  split
  · exact (s.cancelResize_effect p).2.2.2.1
  · rfl

/-- What a reset of the partition leaves: it is CLEARING, without a task, its shape as before, and its cores are being cleared (R315). -/
theorem State.resetPart_effect (s : State) (p cause : Nat) (records : Bool) :
    (s.resetPart p cause records).get .PART_STATE_STATE p = 1 ∧ (s.resetPart p cause records).tasksOf p = (none, none) ∧
    ((s.resetPart p cause records).part p).bind.shape = (s.part p).bind.shape ∧
    ∀ n ∈ s.heldCores p, ((s.resetPart p cause records).core n).clearing = some (s.clock.frameStart + 5478) := by
  have clock := (s.emptied_frame p records).clock (by decide +kernel)
  have tasks := s.tasksOf_emptied p records
  have bind := congrArg PartBind.shape (congrFun (s.bindOf_emptied p records) p)
  have cores (n : Nat) := (s.emptied p records).clearCores_clearing (s.heldCores p) cause (n := n)
  rw [← State.bindOf, ← State.bindOf]
  rw [State.resetPart_eq, State.heldCores_emptied]
  generalize s.emptied p records = u at *
  have parts : ((s.heldCores p).foldl (fun s n => s.clearCore n cause) u).parts = u.parts :=
    foldl_kept State.parts (fun _ _ => State.clearCore_frame.parts (by decide)) _ u
  generalize (s.heldCores p).foldl (fun s n => s.clearCore n cause) u = w at *
  have last := (w.put .PART_STATE_STATE p 1).fallBack_frame p
  refine ⟨?_, ?_, ?_, fun n held => ?_⟩
  · rw [last.reg _ _ (by decide) (by decide +kernel), State.get_put]
    rfl
  · rw [State.tasksOf_fallBack, State.tasksOf_put, State.tasksOf_of_parts parts, tasks]
  · rw [State.fallBack_shape, State.bindOf_put, State.bindOf_of_parts parts, bind]
  · rw [State.core, last.cores (by decide +kernel), ← clock]
    exact cores n held

/-! ### The command that waits for the end -/

theorem execPartReset_free {s : State} {c : CmdId} {d : Cmd} (at_ : s.atItsEdge c 0x603 = some d) (free : s.created d.partArg = false) :
    execPartReset c s = .next (s.failCheck d d.partArg (1, 0, 0)) := by
  simp only [execPartReset, at_, free, Bool.false_eq_true, if_false]

theorem execPartReset_created {s : State} {c : CmdId} {d : Cmd} (at_ : s.atItsEdge c 0x603 = some d) (created : s.created d.partArg = true) :
    execPartReset c s = .next ((s.resetPart d.partArg 2 true).await d d.partArg 2) := by
  simp only [execPartReset, at_, created, if_true]

theorem execPartDestroy_free {s : State} {c : CmdId} {d : Cmd} (at_ : s.atItsEdge c 0x602 = some d) (free : s.created d.partArg = false) :
    execPartDestroy c s = .next (s.failCheck d d.partArg (1, 0, 0)) := by
  simp only [execPartDestroy, at_, free, Bool.false_eq_true, if_false]

theorem execPartDestroy_created {s : State} {c : CmdId} {d : Cmd} (at_ : s.atItsEdge c 0x602 = some d)
    (created : s.created d.partArg = true) : execPartDestroy c s = .next (s.destroy d d.partArg) := by
  simp only [execPartDestroy, at_, created, if_true]

/-- What a command that waits for its partition leaves of it: it is the one that the partition's end retires. -/
theorem State.await_part (s : State) (c : Cmd) (p ending : Nat) : ((s.await c p ending).part p).run = (s.part p).run ∧
    ((s.await c p ending).part p).keys = (s.part p).keys ∧ ((s.await c p ending).part p).bind.shape = (s.part p).bind.shape ∧
    ((s.await c p ending).part p).bind.retain = (s.part p).bind.retain ∧
    ((s.await c p ending).part p).bind.waiter = some (c.queue, c.seq) := by
  rw [State.await, State.part_modBind]
  exact ⟨rfl, rfl, rfl, rfl, rfl⟩

theorem State.await_get (s : State) (c : Cmd) (p ending : Nat) (f : Field) (i : Nat) : (s.await c p ending).get f i = s.get f i := rfl

theorem State.await_core (s : State) (c : Cmd) (p ending n : Nat) : (s.await c p ending).core n = s.core n := rfl

/-- What an erasure of a partition's keys leaves of them and of its tasks (R416). -/
theorem State.eraseKeys_effect (s : State) (p : Nat) : ((s.eraseKeys p).part p).keys.keys = [] ∧
    (s.eraseKeys p).get .PART_KEY_STAT_LOADED p = 0 ∧ (s.eraseKeys p).tasksOf = s.tasksOf := by
  unfold State.eraseKeys
  extract_lets bare shown
  have keys : (bare.part p).keys.keys = [] := by rw [State.part_modPart]
  have tasks : bare.tasksOf = s.tasksOf := State.tasksOf_modPart (by exact fun _ => ⟨rfl, rfl⟩) s p
  have parts : shown.parts = bare.parts := foldl_kept State.parts (fun t i => t.putA_parts _ _ _) _ bare
  clear_value shown bare
  rw [State.put_part, State.part_of_parts parts, State.get_put, State.tasksOf_put, State.tasksOf_of_parts parts]
  exact ⟨keys, Nat.zero_mod _, tasks⟩

/-- A journal that stops leaves its partition without one (R339). -/
theorem State.journalOff_effect {s : State} {p : Nat} (tasks : s.tasksOf p = (none, none)) :
    (s.journalSwitchOn p false 0 0 none).tasksOf p = (none, none) ∧
    ((s.journalSwitchOn p false 0 0 none).part p).keys = (s.part p).keys ∧
    (s.journalSwitchOn p false 0 0 none).get .PART_JRNL_STAT_ENABLED p = 0 := by
  obtain ⟨task, next⟩ := State.tasksOf_none.1 tasks
  simp only [State.journalSwitchOn, Bool.false_eq_true, if_false]
  rw [State.tasksOf_none, State.put_part, State.put_part, State.part_modRun, State.get_put_code _ (by decide), State.get_put,
    task, next]
  exact ⟨⟨rfl, rfl⟩, rfl, rfl⟩

/-- What a destroy takes from its partition beside what a reset does: its keys and its journal (R339, R416). -/
theorem State.destroy_effect (s : State) (c : Cmd) (p : Nat) :
    (s.destroy c p).get .PART_STATE_STATE p = 1 ∧ (s.destroy c p).tasksOf p = (none, none) ∧
    ((s.destroy c p).part p).bind.waiter = some (c.queue, c.seq) ∧ ((s.destroy c p).part p).bind.retain = c.retain ∧
    ((s.destroy c p).part p).keys.keys = [] ∧ (s.destroy c p).get .PART_KEY_STAT_LOADED p = 0 ∧
    (s.destroy c p).get .PART_JRNL_STAT_ENABLED p = 0 := by
  obtain ⟨reset, tasks, -, -⟩ := s.resetPart_effect p 1 true
  unfold State.destroy
  generalize s.resetPart p 1 true = u at *
  obtain ⟨keys, loaded, tasks'⟩ := u.eraseKeys_effect p
  have state : (u.eraseKeys p).get .PART_STATE_STATE p = 1 := (State.eraseKeys_frame.reg _ _ (by decide) (by decide)).trans reset
  rw [← tasks'] at tasks
  generalize u.eraseKeys p = w at *
  obtain ⟨tasks, keys', journal⟩ := State.journalOff_effect tasks
  rw [← keys'] at keys
  have kept := State.journalSwitchOn_frame (s := w) (p := p) (on := false) (log2 := 0) (base := 0) (mirror := none)
  rw [← kept.reg _ _ (by decide) (by decide)] at state loaded
  generalize w.journalSwitchOn p false 0 0 none = v at *
  dsimp only
  obtain ⟨run, same, -, retain, waiter⟩ := (v.modBind p fun b => { b with retain := c.retain }).await_part c p 4
  rw [State.await_get, State.await_get, State.await_get, State.tasksOf, run, same, retain, State.part_modBind]
  exact ⟨state, tasks, waiter, rfl, keys, loaded, journal⟩

end Sys2Proof.Machine
end

section
/-! The commands on a partition (R304 to R308, R315, R316, R318, R324, R339, R416). -/

namespace Sys2Proof.Machine
open Sys2Proof.Safety
-- The evaluations by the kernel follow one another: side by side they would take more memory than the check allows.
set_option Elab.async false

/-- Settles O46: a failed check is `failCheck`, and the other cases are `create`, `armResize`, `resetPart` and `destroy`, whose effects
are lemmas of their own. -/
theorem partitionCommandsActAtTheirEdge : Obligations.PartitionCommandsActAtTheirEdge := by
  intro s c d
  refine ⟨fun at_ => ⟨fun x fails => execPartCreate_fails at_ fails, fun passes distinct small => ?_⟩,
    fun at_ => ⟨fun x fails => execPartResize_fails at_ fails, fun passes => ?_⟩,
    fun at_ => ⟨fun free => execPartReset_free at_ free, fun created => ?_⟩,
    fun at_ => ⟨fun free => execPartDestroy_free at_ free, fun created => ?_⟩,
    fun p => ⟨fun enabled => congrArg _ (if_pos enabled), fun off => congrArg _ (if_neg (ne_true_of_eq_false off))⟩⟩
  · have e := execPartCreate_passes at_ passes
    obtain ⟨found, due⟩ := State.ready_running (State.atItsEdge_ready at_)
    exact ⟨_, e, Same.changes (execPartCreate_frame e) (by decide +kernel), State.create_effect found due _ distinct small⟩
  · have e := execPartResize_passes at_ passes
    obtain ⟨found, due⟩ := State.ready_running (State.atItsEdge_ready at_)
    exact ⟨_, e, Same.changes (execPartResize_frame e) (by decide +kernel), State.armResize_effect found due _ _⟩
  · have e := execPartReset_created at_ created
    refine ⟨_, e, Same.changes (execPartReset_frame e) (by decide +kernel), ?_⟩
    obtain ⟨state, tasks, shape, cores⟩ := s.resetPart_effect d.partArg 2 true
    obtain ⟨task, next⟩ := State.tasksOf_none.1 tasks
    obtain ⟨run, -, shape', -, waiter⟩ := (s.resetPart d.partArg 2 true).await_part d d.partArg 2
    rw [State.await_get, run, shape']
    refine ⟨state, task, next, waiter, shape, fun n listed small held => ?_⟩
    rw [State.await_core]
    exact cores n (State.mem_heldCores.2 ⟨listed, held⟩)
  · have e := execPartDestroy_created at_ created
    refine ⟨_, e, Same.changes (execPartDestroy_frame e) (by decide +kernel), ?_⟩
    obtain ⟨state, tasks, rest⟩ := s.destroy_effect d d.partArg
    obtain ⟨task, next⟩ := State.tasksOf_none.1 tasks
    exact ⟨state, task, next, rest⟩

end Sys2Proof.Machine
end

section
/-! Mode changes: preparation, decision, switch and expiry (R320 to R323, R352, R353, R355; log entry 55). -/

namespace Sys2Proof.Machine
open Sys2Proof.Safety
-- The evaluations by the kernel follow one another: side by side they would take more memory than the check allows.
set_option Elab.async false

theorem mem_maskParts {m p : Nat} : p ∈ maskParts m ↔ p < 16 ∧ m.testBit p = true := by
  rw [maskParts, List.mem_filter, List.mem_range]

theorem maskParts_nodup (m : Nat) : (maskParts m).Nodup := List.Nodup.filter _ List.nodup_range

/-! ### Preparation -/

/-- The answer of partition `p` to a mode change is open (R321). -/
def AnswerOpen (mode p : Nat) (s : State) : Prop :=
  s.get .PART_MODE_MODE p = mode % 2 ^ Field.PART_MODE_MODE.width ∧ s.get .PART_MODE_ACK p = 3 ∧ s.get .PART_MODE_CAUSE p = 0

/-- A target's answer is set open. -/
def State.openAnswer (s : State) (mode p : Nat) : State :=
  ((s.put .PART_MODE_MODE p mode).put .PART_MODE_CAUSE p 0).put .PART_MODE_ACK p 3

theorem State.openAnswer_open (s : State) (mode p : Nat) : AnswerOpen mode p (s.openAnswer mode p) := by
  unfold AnswerOpen State.openAnswer
  rw [State.get_put_code _ (by decide), State.get_put_code _ (by decide), State.get_put, State.get_put,
    State.get_put_code _ (by decide), State.get_put]
  exact ⟨rfl, rfl, rfl⟩

theorem AnswerOpen.other {mode p q : Nat} {s : State} (h : AnswerOpen mode p s) (hp : p < 16) (hq : q < 16) (ne : q ≠ p) (k : Nat) :
    AnswerOpen mode p (s.openAnswer k q) := by
  have kept (f : Field) : (s.openAnswer k q).get f p = s.get f p := by
    unfold State.openAnswer
    iterate 3 rw [State.get_put_key _ (by unfold Field.key; omega)]
  unfold AnswerOpen
  rw [kept, kept, kept]
  exact h

/-- The answers of a change's targets are open (R321). -/
def State.openAnswers (s : State) (mode targets : Nat) : State :=
  (maskParts targets).foldl (fun s p => s.openAnswer mode p) s

theorem State.openAnswers_frame (s : State) (mode targets : Nat) :
    Same (maskBut [401, 409, 420, 429]) s (s.openAnswers mode targets) :=
  Same.foldl (fun _ _ h => State.put_frame (by decide +kernel) (State.put_frame (by decide +kernel)
    (State.put_frame (by decide +kernel) h))) _ Same.refl

theorem State.openAnswers_open (s : State) (mode : Nat) {targets p : Nat} (hp : p < 16) (target : targets.testBit p = true) :
    AnswerOpen mode p (s.openAnswers mode targets) :=
  foldl_reaches (I := fun _ => True) (P := AnswerOpen mode p) (mem_maskParts.2 ⟨hp, target⟩) (fun _ _ _ => trivial)
    (fun t _ => t.openAnswer_open mode p) (fun _ _ hq ne h => h.other hp (mem_maskParts.1 hq).1 ne mode) trivial

/-- The change that a MODE_PREPARE prepares (R321). -/
def Cmd.modeChange (d : Cmd) (frame : Nat) : ModeChange :=
  ⟨d.modeP.1, d.modeP.2.1, d.modeP.2.2.1, d.modeP.2.2.2, frame, none, false⟩

theorem execModePrepare_ready {s : State} {c : CmdId} {d : Cmd} (ready : s.ready c 0x604 = some d) : execModePrepare c s =
    .next ((({ s with mode := some (d.modeChange s.clock.frameNo) } : State).openAnswers d.modeP.1 d.modeP.2.1).done d (d.t0 + 1) 0 0) := by
  simp only [execModePrepare, ready]
  rfl

/-! ### The end of a change -/

/-- Partition `p` has left the change: no mode, no answer, and out of MODE_HOLD if it was there; its event is told (R322, R328). -/
def LeftMode (f : Field) (state p : Nat) (s : State) : Prop :=
  s.get .PART_MODE_MODE p = 0 ∧ s.get .PART_MODE_ACK p = 0 ∧ (state = 5 → s.get .PART_STATE_STATE p = 2) ∧ s.get f p = 1

/-- A target leaves the change. -/
def State.leaveMode (s : State) (f : Field) (p : Nat) : State :=
  let s := (s.put .PART_MODE_MODE p 0).put .PART_MODE_ACK p 0
  let s := if s.get .PART_STATE_STATE p = 5 then s.put .PART_STATE_STATE p 2 else s
  s.partEvent f p

theorem State.endMode_eq (s : State) (m : ModeChange) (f : Field) :
    s.endMode m f = (maskParts m.targets).foldl (fun s p => s.leaveMode f p) { s with mode := none } := rfl

theorem Field.offBook_iff {f : Field} : f.offBook = true ↔ f.code < 400 ∧ Nat.testBit
    0x2000000000000000000000000000000000001c000000000000000000000000000000000000000000000000000000000000000000000 f.code = false := by
  rw [Field.offBook, Bool.and_eq_true, decide_eq_true_eq, Bool.not_eq_true']

/-- A field that may tell of a change's end: one bit, none of those that the end clears. -/
def Field.endsMode (f : Field) : Bool :=
  f.offBook && f.width == 1 && [Field.PART_MODE_MODE, Field.PART_MODE_ACK, Field.PART_STATE_STATE].all fun g => g.code != f.code

section
variable {f : Field} (event : f.endsMode = true)
include event

theorem Field.endsMode_spec : (f.offBook = true ∧ f.width = 1) ∧ Field.PART_MODE_MODE.code ≠ f.code ∧
    Field.PART_MODE_ACK.code ≠ f.code ∧ Field.PART_STATE_STATE.code ≠ f.code := by
  simpa only [Field.endsMode, Bool.and_eq_true, beq_iff_eq, List.all_cons, List.all_nil, Bool.and_true, bne_iff_ne] using event

theorem State.leaveMode_left (s : State) (p : Nat) : LeftMode f (s.get .PART_STATE_STATE p) p (s.leaveMode f p) := by
  obtain ⟨⟨off, bit⟩, mode, ack, state⟩ := Field.endsMode_spec event
  obtain ⟨small, quiet⟩ := Field.offBook_iff.1 off
  have cleared (u : State) : u = (s.put .PART_MODE_MODE p 0).put .PART_MODE_ACK p 0 →
      u.get .PART_MODE_MODE p = 0 ∧ u.get .PART_MODE_ACK p = 0 ∧ u.get .PART_STATE_STATE p = s.get .PART_STATE_STATE p := by
    rintro rfl
    rw [State.get_put_code _ (by decide), State.get_put, State.get_put, State.get_put_code _ (by decide),
      State.get_put_code _ (by decide)]
    exact ⟨Nat.zero_mod _, Nat.zero_mod _, rfl⟩
  unfold State.leaveMode
  extract_lets u v
  obtain ⟨noMode, noAck, same⟩ := cleared u rfl
  clear_value u
  have left : v.get .PART_MODE_MODE p = 0 ∧ v.get .PART_MODE_ACK p = 0 ∧
      (s.get .PART_STATE_STATE p = 5 → v.get .PART_STATE_STATE p = 2) := by
    by_cases held : u.get .PART_STATE_STATE p = 5
    · simp only [v]
      rw [if_pos held, State.get_put_code _ (by decide), State.get_put_code _ (by decide), State.get_put]
      exact ⟨noMode, noAck, fun _ => rfl⟩
    · simp only [v]
      rw [if_neg held]
      exact ⟨noMode, noAck, fun e => absurd (same.trans e) held⟩
  clear_value v
  unfold LeftMode
  rw [State.get_partEvent_other _ p p (by decide) (by decide) mode, State.get_partEvent_other _ p p (by decide) (by decide) ack,
    State.get_partEvent_other _ p p (by decide) (by decide) state, State.get_partEvent _ p small quiet (by rw [bit]; rfl)]
  obtain ⟨noMode, noAck, out⟩ := left
  exact ⟨noMode, noAck, out, rfl⟩

omit event in
theorem State.leaveMode_other (s : State) {g : Field} (hg : g.offBook = true) {p q : Nat} (hp : p < 16) (hq : q < 16) (ne : q ≠ p) :
    (s.leaveMode f q).get g p = s.get g p := by
  obtain ⟨small, quiet⟩ := Field.offBook_iff.1 hg
  have key (h : Field) : g.key p ≠ h.key q := by unfold Field.key; omega
  unfold State.leaveMode
  extract_lets u v
  have there : v.get g p = s.get g p := by
    have here : u.get g p = s.get g p := by
      simp only [u]
      rw [State.get_put_key _ (key _), State.get_put_key _ (key _)]
    clear_value u
    simp only [v]
    split
    · exact (State.get_put_key _ (key _) _).trans here
    · exact here
  clear_value v
  rw [State.partEvent, State.get_event _ _ _ _ _ small quiet, ← there, State.modRun_get]
  exact State.get_put_key v (key f) 1

theorem State.endMode_left (s : State) {m : ModeChange} {p : Nat} (hp : p < 16) (target : m.targets.testBit p = true) :
    LeftMode f (s.get .PART_STATE_STATE p) p (s.endMode m f) := by
  have off := (Field.endsMode_spec event).1.1
  have once := foldl_once (f := fun (s : State) q => s.leaveMode f q) (I := fun _ => True)
    (g := fun t : State => (t.get .PART_MODE_MODE p, t.get .PART_MODE_ACK p, t.get .PART_STATE_STATE p, t.get f p))
    (maskParts_nodup m.targets) (mem_maskParts.2 ⟨hp, target⟩) (fun _ _ _ _ => trivial)
    (fun t q hq ne _ => by
      have hq := (mem_maskParts.1 hq).1
      rw [t.leaveMode_other (by decide) hp hq ne, t.leaveMode_other (by decide) hp hq ne, t.leaveMode_other (by decide) hp hq ne,
        t.leaveMode_other off hp hq ne])
    (s := ({ s with mode := none } : State)) trivial
  obtain ⟨u, -, before, after⟩ := once
  simp only [Prod.mk.injEq] at before after
  obtain ⟨-, -, state, -⟩ := before
  obtain ⟨mode, ack, out, told⟩ := after
  have left := State.leaveMode_left event u p
  rw [State.endMode_eq]
  unfold LeftMode at left ⊢
  rw [mode, ack, out, told]
  rw [state] at left
  exact left

end

theorem State.endMode_mode (s : State) (m : ModeChange) (f : Field) : (s.endMode m f).mode = none := by
  rw [State.endMode_eq]
  refine foldl_kept State.mode (fun t p => ?_) _ { s with mode := none }
  unfold State.leaveMode
  extract_lets u v
  have same : v.mode = t.mode := by
    simp only [v]
    split <;> rfl
  clear_value v
  rw [State.partEvent, State.event_mode]
  exact same

/-! ### The command of a change -/

theorem State.doneMode_retires {s w : State} {q n : Nat} {d : Cmd} (found : s.findCmd q n = some d) (due : d.due = none)
    (cmds : w.cmds = s.cmds) (clock : w.clock = s.clock) (mark : w.rehearsal = s.rehearsal) (status detail : Nat) :
    w.doneMode q n status detail = w.done d s.now status detail ∧ RetiresAt s (w.done d s.now status detail) d s.now status detail := by
  obtain ⟨rfl, rfl⟩ := State.findCmd_name found
  refine ⟨?_, retiresAt_done found due cmds mark _ _ _⟩
  rw [State.doneMode, State.findCmd_of_cmds cmds, found, State.now, clock, State.now]

/-- A change has ended on its targets, with that event (R322, R328). -/
def State.leftBy (s : State) (m : ModeChange) (f : Field) (t : State) : Prop :=
  t.mode = none ∧ ∀ p, p < 16 → m.targets.testBit p = true → LeftMode f (s.get .PART_STATE_STATE p) p t

theorem State.leftBy.ended {s t : State} {m : ModeChange} {f : Field} (h : s.leftBy m f t) :
    (t.mode = none ∧ ∀ p, p < 16 → m.targets.testBit p = true → t.get .PART_MODE_MODE p = 0 ∧ t.get .PART_MODE_ACK p = 0 ∧
      (s.get .PART_STATE_STATE p = 5 → t.get .PART_STATE_STATE p = 2)) ∧
    ∀ p, p < 16 → m.targets.testBit p = true → t.get f p = 1 := by
  obtain ⟨none, left⟩ := h
  exact ⟨⟨none, fun p hp target => ⟨(left p hp target).1, (left p hp target).2.1, (left p hp target).2.2.1⟩⟩,
    fun p hp target => (left p hp target).2.2.2⟩

theorem State.endMode_leftBy {f : Field} (event : f.endsMode = true) (s : State) (m : ModeChange) : s.leftBy m f (s.endMode m f) :=
  ⟨s.endMode_mode m f, fun _ hp target => s.endMode_left event hp target⟩

/-- The end of a change whose command retires in this cycle (R322). -/
theorem State.endMode_retires {f : Field} (event : f.endsMode = true) (bit : (maskBut [401, 409, 429]).testBit f.code = true)
    {s w : State} (m : ModeChange) {q n : Nat} {d : Cmd}
    (found : s.findCmd q n = some d) (due : d.due = none) (kept : Same (maskBut [Field.PART_STATE_STATE.code, 401, 409, 429]) s w)
    (status detail : Nat) :
    RetiresAt s ((w.endMode m f).doneMode q n status detail) d s.now status detail ∧
    s.leftBy m f ((w.endMode m f).doneMode q n status detail) ∧
    ∀ g i, ((w.endMode m f).doneMode q n status detail).get g i = (w.endMode m f).get g i := by
  have ended : Same (maskBut [401, 409, 429]) w (w.endMode m f) := State.endMode_frame bit (by decide +kernel) Same.refl
  have whole : Same (maskBut [401, 409, 429]) s (w.endMode m f) := (kept.mono (by decide +kernel)).trans ended
  have left := State.endMode_leftBy event w m
  obtain ⟨e, retires⟩ := State.doneMode_retires (w := w.endMode m f) found due (whole.cmds (by decide +kernel))
    (whole.clock (by decide +kernel)) (whole.rehearsal (by decide +kernel)) status detail
  have state (i : Nat) : w.get .PART_STATE_STATE i = s.get .PART_STATE_STATE i := kept.reg _ _ (by decide) (by decide +kernel)
  rw [e]
  generalize w.endMode m f = v at *
  refine ⟨retires, ?_, fun g i => v.done_get ..⟩
  unfold State.leftBy LeftMode at left ⊢
  simpa only [state, State.done_get, State.done_mode] using left

/-! ### A mode takes its value -/

/-- A field that a place holds at a value goes on holding it when the value is written again, wherever it is. -/
theorem State.get_put_again {s : State} {f : Field} {k v : Nat} (h : s.get f k = v % 2 ^ f.width) (n : Nat) :
    (s.put f n v).get f k = v % 2 ^ f.width := by
  by_cases same : f.key k = f.key n
  · rw [State.get, same]
    exact s.get_put f n v
  · rw [State.get_put_key _ same]
    exact h

theorem State.puts_reach (s : State) (f : Field) (v : Nat) {l : List Nat} {k : Nat} (mem : k ∈ l) :
    (l.foldl (fun (s : State) n => s.put f n v) s).get f k = v % 2 ^ f.width :=
  foldl_reaches (I := fun _ => True) (P := fun t : State => t.get f k = v % 2 ^ f.width) mem (fun _ _ _ => trivial)
    (fun t _ => t.get_put f k v) (fun _ n _ _ h => State.get_put_again h n) trivial

theorem State.puts_keep {s : State} {f : Field} {k v : Nat} (h : s.get f k = v % 2 ^ f.width) (l : List Nat) :
    (l.foldl (fun (s : State) n => s.put f n v) s).get f k = v % 2 ^ f.width := by
  induction l generalizing s with
  | nil => exact h
  | cons n l ih => exact ih (State.get_put_again h n)

/-- The change's value on all of its targets (R322, Table 14-6). -/
def State.applyModes (s : State) (m : ModeChange) : State := (maskParts m.targets).foldl (fun (s : State) p => s.applyMode m p) s

theorem State.applyModes_frame (s : State) (m : ModeChange) :
    Same 0x202000000000000000000000000000000002000000000000000000000000000 s (s.applyModes m) :=
  Same.foldl (fun _ _ h => Same.via State.applyMode_frame (by decide) h) _ Same.refl

theorem State.applyModes_setpoint {s : State} {m : ModeChange} (mode : m.mode = 1) {p : Nat} (hp : p < 16)
    (target : m.targets.testBit p = true) {k : Nat} (mem : k ∈ (s.part p).positions) :
    (s.applyModes m).get .PWR_DOM_STAT_SETPOINT k = (m.value - 600) / 5 % 2 ^ Field.PWR_DOM_STAT_SETPOINT.width := by
  have apply (t : State) (q : Nat) : t.applyMode m q =
      (t.part q).positions.foldl (fun (s : State) n => s.put .PWR_DOM_STAT_SETPOINT n ((m.value - 600) / 5)) t := if_pos mode
  refine foldl_reaches (I := fun t : State => t.parts = s.parts)
    (P := fun t : State => t.get .PWR_DOM_STAT_SETPOINT k = (m.value - 600) / 5 % 2 ^ Field.PWR_DOM_STAT_SETPOINT.width)
    (mem_maskParts.2 ⟨hp, target⟩) (fun t q i => (State.applyMode_frame.parts (by decide)).trans i) (fun t i => ?_) (fun t q _ _ h => ?_) rfl
  · rw [apply]
    refine t.puts_reach _ _ ?_
    rw [State.part_of_parts i]
    exact mem
  · rw [apply]
    exact State.puts_keep h _

theorem State.applyModes_alloc {s : State} {m : ModeChange} (mode : m.mode = 2) {p : Nat} (hp : p < 16)
    (target : m.targets.testBit p = true) : (s.applyModes m).get .PWR_PART_ALLOC p = m.value % 2 ^ Field.PWR_PART_ALLOC.width := by
  have apply : s.applyModes m = (maskParts m.targets).foldl (fun (s : State) q => s.put .PWR_PART_ALLOC q m.value) s := by
    refine List.foldl_ext _ _ _ fun t q _ => ?_
    rw [State.applyMode, if_neg (by rw [mode]; decide), if_pos mode]
  rw [apply]
  exact s.puts_reach _ _ (mem_maskParts.2 ⟨hp, target⟩)

/-! ### The commands at their edge -/

section
variable {s : State} {m : ModeChange} (prepared : s.mode = some m)
include prepared

theorem execModeCommit_ready {c : CmdId} {d : Cmd} (ready : s.ready c 0x605 = some d) : execModeCommit c s =
    .next { s.setCmd { d with ran := true } with mode := some { m with commit := some (d.queue, d.seq, d.commitP.2) } } := by
  simp only [execModeCommit, ready, prepared]

variable (edge : s.atEdge = true)
include edge

theorem execModePrepareExpire_due (open_ : m.commit = none) (late : m.frame + 1024 ≤ s.clock.frameNo) :
    execModePrepareExpire s = .next (s.endMode m .VFEVT_STAT_MODE_CANCELLED) := by
  simp only [execModePrepareExpire, prepared, edge, open_, late, and_self, if_true]

variable {q n f : Nat} (committed : m.commit = some (q, n, f))
include committed

theorem execModeDecision_due (undecided : m.decided = false) (due : f ≤ s.reelCount + 2) :
    execModeDecision s = .next (s.decideMode m q n) := by
  simp only [execModeDecision, prepared, committed, edge, undecided, due, and_self, if_true]

theorem execModeSwitch_due (decided : m.decided = true) (due : f ≤ s.reelCount) : execModeSwitch s =
    .next (((s.applyModes m).endMode m .VFEVT_STAT_MODE_SWITCHED).doneMode q n 0 0) := by
  simp only [execModeSwitch, prepared, committed, edge, decided, due, and_self, if_true]
  rfl

end

/-- Settles O50: a prepared change's targets await their answers; its end, of whatever cause, is `endMode`, before which a switch
gives each target its value. -/
theorem modeChangesRunToTheirEnd : Obligations.ModeChangesRunToTheirEnd := by
  intro s
  refine ⟨fun c d ready => ?_, fun c d m ready prepared => execModeCommit_ready prepared ready, fun m prepared edge => ?_⟩
  · have e := execModePrepare_ready ready
    obtain ⟨found, due⟩ := State.ready_running ready
    refine ⟨_, e, Same.changes (execModePrepare_frame e) (by decide +kernel), ?_⟩
    have opens := ({ s with mode := some (d.modeChange s.clock.frameNo) } : State).openAnswers_frame d.modeP.1 d.modeP.2.1
    have answers (p : Nat) := ({ s with mode := some (d.modeChange s.clock.frameNo) } : State).openAnswers_open d.modeP.1
      (targets := d.modeP.2.1) (p := p)
    have cmds := opens.cmds (by decide +kernel)
    have mark := opens.rehearsal (by decide +kernel)
    have mode := opens.mode (by decide +kernel)
    generalize State.openAnswers _ _ _ = u at *
    exact ⟨retiresAt_done found due cmds mark _ _ _, mode, fun p hp target => answers p hp target⟩
  · refine ⟨fun open_ late => ?_, fun q n f committed => ⟨fun undecided soon noRefusal noOpen => ?_, fun d undecided soon found due not => ?_,
      fun d decided now found due => ?_⟩⟩
    · have e := execModePrepareExpire_due prepared edge open_ late
      refine ⟨_, e, Same.changes (execModePrepareExpire_frame e) (by decide +kernel), ?_⟩
      exact (s.endMode_leftBy (f := .VFEVT_STAT_MODE_CANCELLED) (by decide) m).ended
    · rw [show exec .modeDecision s = execModeDecision s from rfl, execModeDecision_due prepared edge committed undecided soon,
        State.decideMode, if_pos ⟨noRefusal, noOpen⟩]
    · have e := execModeDecision_due prepared edge committed undecided soon
      refine ⟨_, e, Same.changes (execModeDecision_frame e) (by decide +kernel), ?_⟩
      rw [State.decideMode, if_neg fun clear => not.elim (· clear.1) (· clear.2)]
      obtain ⟨retires, left, -⟩ := State.endMode_retires (f := .VFEVT_STAT_MODE_CANCELLED) (by decide) (by decide +kernel)
        (w := s) m found due Same.refl 0x2001 (s.ackMask m (· == 2) + s.ackMask m (fun a => a != 1 && a != 2) * 2 ^ 16)
      obtain ⟨ended, told⟩ := left.ended
      exact ⟨ended, retires, told⟩
    · have e := execModeSwitch_due prepared edge committed decided now
      refine ⟨_, e, Same.changes (execModeSwitch_frame e) (by decide +kernel), ?_⟩
      obtain ⟨retires, left, same⟩ := State.endMode_retires (f := .VFEVT_STAT_MODE_SWITCHED) (by decide) (by decide +kernel)
        (w := s.applyModes m) m found due ((s.applyModes_frame m).mono (by decide +kernel)) 0 0
      obtain ⟨ended, told⟩ := left.ended
      have later : Same (maskBut [Field.PWR_DOM_STAT_SETPOINT.code, Field.PWR_PART_ALLOC.code]) (s.applyModes m)
          ((s.applyModes m).endMode m .VFEVT_STAT_MODE_SWITCHED) :=
        State.endMode_frame (by decide +kernel) (by decide +kernel) Same.refl
      refine ⟨ended, retires, fun p hp target => ⟨told p hp target, fun mode k mem => ?_, fun mode => ?_⟩⟩
      · rw [same, later.reg _ _ (by decide) (by decide +kernel)]
        exact State.applyModes_setpoint mode hp target mem
      · rw [same, later.reg _ _ (by decide) (by decide +kernel)]
        exact State.applyModes_alloc mode hp target

end Sys2Proof.Machine
end


section
/-! The loss of the Reel and what a prediction slot holds (R42, R220, R386, R387). -/

namespace Sys2Proof.Machine
open Sys2Proof.Safety
-- The evaluations by the kernel follow one another: side by side they would take more memory than the check allows.
set_option Elab.async false

/-- An INJECT_FAULT of a PF queue, begun, whose fault has not yet happened. -/
def lossCommand : Cmd := ⟨0, 0, none, 0, 0, natLE 2 0x701, 0, some 0, true, none, 0, 0, 0, 0, 0, 0, false⟩

/-- A command of partition 0 under the same name. -/
def lossHeld : Cmd := { lossCommand with part := some 0, batch := 1 }

/-- The next task of partition 0, of that command alone. -/
def lossNext : Task := ⟨1, 0, 0, 1, 2, 0, 1, 0, 0, false, [0], 2, some 0, 0, some 0, true, true⟩

/-- The fault that falls due: the loss of the Reel. -/
def lossFault : Inject := ⟨0, 0, 5, 0, 0, 0, 0, 0⟩

/-- Frame 0 of a module whose partition 0 runs no task and has found the next one's header, while a prediction slot still holds
a command of it. -/
def lossState : State :=
  { (State.reset.modRun 0 fun r => { r with next := some lossNext }).setPred 0 0
      { Pred.init with held := [(lossHeld, State.reset.recordOf lossHeld 0 0 0)] } with
    cmds := [lossCommand], injects := [lossFault] }

/-- The state in which INJECTED_FAULT looks for the command that it is to retire. -/
def State.faulted (s : State) (i : Inject) : State :=
  ((({ s with injects := s.injects.filter fun x => !(x.queue == i.queue && x.seq == i.seq) } : State).mark true).inject i).mark false

/-- Where the fault has taken its own command away, INJECTED_FAULT retires none. -/
theorem execInjectedFault_lost {s : State} {c : CmdId} {i : Inject}
    (named : (s.injects.find? fun i => i.queue == c.queue.val && i.seq == c.seq) = some i) (edge : s.atEdge = true)
    (due : i.frame ≤ s.reelCount) (lost : (s.faulted i).findCmd i.queue i.seq = none) :
    execInjectedFault c s = .next (s.faulted i) := by
  rw [execInjectedFault, named]
  dsimp only
  rw [if_pos ⟨edge, due⟩]
  change Host.Outcome.next (match (s.faulted i).findCmd i.queue i.seq with
    | some d => (s.faulted i).done d (s.faulted i).now 0 0
    | none => s.faulted i) = _
  rw [lost]

/-- With the next task what the slot holds ends too, and with it, by its name, the command that injects the fault. -/
theorem lossState_loses : (lossState.faulted lossFault).findCmd 0 0 = none := by decide +kernel

/-- Refutes O51: the statement asks that no fetched command has the injecting command's name, but not that no prediction slot holds one
that has. The loss of the Reel ends the next task's commands, held ones among them, by their names, and so the injecting command goes
without its retirement. (R219 releases what a slot holds before its task ends; the statement speaks of every state.) -/
theorem not_serviceCommandsComplete : ¬ Obligations.ServiceCommandsComplete := by
  intro holds
  obtain ⟨-, -, -, injected, -⟩ := holds lossState ⟨0, 0⟩ lossCommand
  obtain ⟨t, step, -, retires, -⟩ := injected lossFault (by decide +kernel) (by decide +kernel) (by decide +kernel) (by decide +kernel)
    rfl rfl fun x listed _ _ => List.mem_singleton.1 listed
  have none := execInjectedFault_lost (s := lossState) (c := ⟨0, 0⟩) (i := lossFault) (by decide +kernel) (by decide +kernel)
    (by decide +kernel) lossState_loses
  rw [Host.Outcome.next.inj (step.symm.trans none)] at retires
  exact absurd (lossState_loses.symm.trans retires) (by simp)

end Sys2Proof.Machine
end


section
/-! Every task of the module ends (R361, R366). -/

namespace Sys2Proof.Machine
open Sys2Proof.Safety
-- The evaluations by the kernel follow one another: side by side they would take more memory than the check allows.
set_option Elab.async false

theorem State.tasksOf_journal (s : State) (p type queue seq : Nat) (body : Bytes) :
    (s.journal p type queue seq body).tasksOf = s.tasksOf := by
  funext q
  have kept := congrArg Part.run (s.journal_sansJournal p type queue seq body q)
  change ((s.journal p type queue seq body).part q).run = (s.part q).run at kept
  rw [State.tasksOf, kept, State.tasksOf]

/-- A task's end touches no other partition's tasks. -/
theorem State.tasksOf_endTask_other (s : State) {p k : Nat} (other : k ≠ p) (status : Nat) (aborted : Bool) :
    (s.endTask p status aborted).tasksOf k = s.tasksOf k := by
  have ended (t : State) (g : PartRun → PartRun) : ((t.modRun p g).showTask p).tasksOf k = t.tasksOf k := by
    rw [State.showTask, State.tasksOf_put, State.tasksOf, State.part_modRun_other _ _ other, State.tasksOf]
  unfold State.endTask
  dsimp only
  split
  · rfl
  · rw [ended, State.tasksOf_of_parts (State.disarm_frame.parts (by decide)),
      foldl_kept State.tasksOf fun _ _ => State.tasksOf_of_parts (State.sample_frame.parts (by decide)), State.tasksOf_put,
      State.tasksOf_put]
    exact congrFun (State.tasksOf_journal _ _ _ _ _ _) k

/-- An abort touches no other partition's tasks. -/
theorem State.tasksOf_abortTask_other (s : State) {p k : Nat} (other : k ≠ p) (first : Option Cmd) (st : Cmd → Nat × Nat)
    (slack : Option Int) (ts : Nat) (records : Bool) : (s.abortTask p first st slack ts records).tasksOf k = s.tasksOf k := by
  have recorded (t : State) (r : List Rec) : ({ t with recs := r } : State).tasksOf = t.tasksOf := rfl
  have widened (t : State) (r : Nat) : (t.modRun p fun x => { x with wideFree := max x.wideFree r }).tasksOf = t.tasksOf :=
    State.tasksOf_modRun (by exact fun _ => ⟨rfl, rfl⟩) t p
  unfold State.abortTask
  dsimp only
  split
  · rfl
  · rw [State.tasksOf_endTask_other _ other, apply_ite State.tasksOf, widened, ite_self,
      State.tasksOf_of_parts (State.sendFault_frame.parts (by decide)), State.tasksOf_dropStreams]
    refine congrFun ((foldl_kept State.tasksOf (fun t c => ?_) _ _).trans ?_) k
    · split
      · split
        · exact recorded t _
        · exact t.tasksOf_finish c _ _ _
      · rfl
    · split
      · exact State.tasksOf_journal _ _ _ _ _ _
      · rfl

/-- A partition that runs no task runs none after another's abort, or its own. -/
theorem State.abortTask_idle {s : State} {k : Nat} (idle : (s.part k).run.task = none) (p : Nat) (first : Option Cmd)
    (st : Cmd → Nat × Nat) (slack : Option Int) (ts : Nat) (records : Bool) :
    ((s.abortTask p first st slack ts records).part k).run.task = none := by
  by_cases same : k = p
  · subst same
    exact State.abortTask_task _ _ _ _ _ _ _
  · exact (congrArg Prod.fst (s.tasksOf_abortTask_other same first st slack ts records)).trans idle

/-- The end of a partition's next task leaves every running one. -/
theorem State.dropNext_tasks (s : State) (p k : Nat) (st : Cmd → Nat × Nat) (records : Bool) :
    ((s.dropNext p st records).part k).run.task = (s.part k).run.task := by
  by_cases same : k = p
  · subst same
    exact State.dropNext_task _ _ _ _
  · unfold State.dropNext
    dsimp only
    split
    · rfl
    · rw [State.showTask, State.put_part, State.part_modRun_other _ _ same]
      refine congrArg Prod.fst (congrFun (foldl_kept State.tasksOf (fun t c => ?_) _ s) k)
      split
      · exact t.tasksOf_finish c _ _ _
      · rfl

/-- The tasks of one partition end (R361, R366). -/
def State.abortBoth (records : Bool) (s : State) (p : Nat) : State :=
  (s.abortTask p none (fun _ => (0x4000, 0)) none 0x4000 records).dropNext p (fun _ => (0x4000, 0)) records

theorem State.abortAll_eq (s : State) (records : Bool) : s.abortAll records = (List.range 16).foldl (State.abortBoth records) s := rfl

theorem State.abortBoth_task (records : Bool) (s : State) (p : Nat) : ((s.abortBoth records p).part p).run.task = none := by
  rw [State.abortBoth, State.dropNext_tasks, State.abortTask_task]

theorem State.abortBoth_idle {s : State} {k : Nat} (idle : (s.part k).run.task = none) (records : Bool) (p : Nat) :
    ((s.abortBoth records p).part k).run.task = none := by
  rw [State.abortBoth, State.dropNext_tasks]
  exact State.abortTask_idle idle _ _ _ _ _ _

/-- After the end of every task no partition runs one. -/
theorem State.abortAll_task (s : State) (records : Bool) {p : Nat} (h : p < 16) :
    ((s.abortAll records).part p).run.task = none := by
  rw [State.abortAll_eq]
  exact foldl_reaches (I := fun _ => True) (P := fun t : State => (t.part p).run.task = none) (List.mem_range.2 h)
    (fun _ _ _ => trivial) (fun t _ => t.abortBoth_task records p) (fun _ q _ _ idle => State.abortBoth_idle idle records q) trivial

end Sys2Proof.Machine
end

section
/-! Deflation and the stop of the module (R348, R359, R361, R366). -/

namespace Sys2Proof.Machine
open Sys2Proof.Safety
-- The evaluations by the kernel follow one another: side by side they would take more memory than the check allows.
set_option Elab.async false

theorem State.domain_setDomain_other (s : State) {d k : Nat} (x : Domain) (h : k ≠ d) : (s.setDomain d x).domain k = s.domain k :=
  Tab.get_put_other _ _ _ h

/-- A domain that is on stands at 3 once it deflates. -/
theorem State.deflate_active {s : State} {d : Nat} (on : s.active d = true) : (s.deflate d).get .PWR_DOM_STAT_STATE d = 3 := by
  obtain ⟨off, failed⟩ : s.get .PWR_DOM_STAT_STATE d ≠ 0 ∧ s.get .PWR_DOM_STAT_STATE d ≠ 5 := by
    simpa [State.active] using on
  rw [State.deflate, if_neg (not_or.2 ⟨off, failed⟩)]
  exact (State.get_put s .PWR_DOM_STAT_STATE d 3).trans rfl

/-- A domain in deflation stays there when another, or the same, begins to deflate. -/
theorem State.deflate_deflating {s : State} {k : Nat} (deflates : s.get .PWR_DOM_STAT_STATE k = 3) (d : Nat) :
    (s.deflate d).get .PWR_DOM_STAT_STATE k = 3 := by
  unfold State.deflate
  split
  · exact deflates
  · exact State.get_put_again (v := 3) deflates d

theorem State.deflateNext_deflating {s : State} {k : Nat} (deflates : s.get .PWR_DOM_STAT_STATE k = 3) :
    s.deflateNext.get .PWR_DOM_STAT_STATE k = 3 := by
  unfold State.deflateNext
  split
  · exact List.foldlRecOn _ _ (motive := fun t : State => t.get .PWR_DOM_STAT_STATE k = 3) deflates fun _ h d _ =>
      State.deflate_deflating h d
  · exact deflates

end Sys2Proof.Machine
end


section
/-! Faults of core positions (R369, R370, R379). -/

namespace Sys2Proof.Machine
open Sys2Proof.Safety
-- The evaluations by the kernel follow one another: side by side they would take more memory than the check allows.
set_option Elab.async false

/-- The owner's task has ended by the fault, and position `n` is fenced and unbound (R369). -/
def State.fencedOff (s : State) (n p : Nat) : State :=
  (((s.event 0xA000 n 0).chargeFault p 0x4000 n).put .CORE_BIND_FENCED n 1).put .CORE_BIND_BOUND n 0

/-- What a fault leaves alone before the position is fenced. -/
theorem State.get_faultCharged {f : Field} (off : f.code < 400)
    (k : Nat.testBit 0x2026680000000000000000000000000000001c0001000000000c6000000000000008000000000000000000000000000000000000000 f.code =
      false) (s : State) (n p i : Nat) : ((s.event 0xA000 n 0).chargeFault p 0x4000 n).get f i = s.get f i :=
  ((State.event_frame.mono (by decide +kernel)).trans (State.chargeFault_frame (s := s.event 0xA000 n 0))).reg f i off k

/-- A position fault of a bound position: the remap that it asks for, if one can be made (R370). -/
theorem State.positionFault_bound {s : State} {n p : Nat} (owner : s.boundTo n = some p) : ∃ g : PartBind → PartBind,
    (∀ b, (g b).remap = b.remap ++ [(s.get .CORE_BIND_SLOT n, 0xFF, false)]) ∧
    s.positionFault n = (if s.get .CORE_BIND_SPARE n = 0 ∧ (s.fencedOff n p).get .PART_RECOVER_AUTO_REMAP p = 1 ∧
        ((s.fencedOff n p).freeSpares p).isEmpty = false then (s.fencedOff n p).modBind p g
      else s.fencedOff n p).deflate n := by
  have same (f : Field) (off : f.code < 400) (k) : (s.event 0xA000 n 0).get f n = s.get f n := State.get_event _ _ _ _ _ off k
  have owner' : (s.event 0xA000 n 0).boundTo n = some p := by
    rw [← owner, State.boundTo, State.boundTo, same _ (by decide) (by decide), same _ (by decide) (by decide)]
  refine ⟨fun b => { b with
    remap := b.remap ++ [(s.get .CORE_BIND_SLOT n, 0xFF, false)]
    readyAt := some ((s.fencedOff n p).clock.frameNo + 1)
    rehearsal := (s.fencedOff n p).rehearsal
    rebinds := match ((s.event 0xA000 n 0).part p).taskSlot with
      | some h => h :: b.rebinds.filter (· != h)
      | none => b.rebinds }, fun _ => rfl, ?_⟩
  unfold State.positionFault
  dsimp only
  rw [owner', same _ (by decide) (by decide), same _ (by decide) (by decide)]
  rfl

theorem State.positionFault_free {s : State} {n : Nat} (free : s.boundTo n = none) :
    s.positionFault n = ((s.event 0xA000 n 0).put .CORE_BIND_FENCED n 1).deflate n := by
  have same (f : Field) (off : f.code < 400) (k) : (s.event 0xA000 n 0).get f n = s.get f n := State.get_event _ _ _ _ _ off k
  have free' : (s.event 0xA000 n 0).boundTo n = none := by
    rw [← free, State.boundTo, State.boundTo, same _ (by decide) (by decide), same _ (by decide) (by decide)]
  unfold State.positionFault
  dsimp only
  rw [free']

/-! ### What a position fault shows -/

theorem State.get_deflate {f : Field} (other : f.code ≠ Field.PWR_DOM_STAT_STATE.code) (s : State) (d i : Nat) :
    (s.deflate d).get f i = s.get f i := by
  unfold State.deflate
  split
  · rfl
  · exact (State.get_put_code _ other _ _ _ : (s.put .PWR_DOM_STAT_STATE d 3).get f i = _)

theorem State.deflate_part (s : State) (d p : Nat) : (s.deflate d).part p = s.part p :=
  State.part_of_parts (State.deflate_frame.parts (by decide)) p

theorem State.get_fencedOff {f : Field} (off : f.code < 400)
    (k : Nat.testBit 0x2026680000000000000000000000000000001c0001000000000c6000000000000008000000000000000000000000000000000000000 f.code =
      false) (fenced : f.code ≠ Field.CORE_BIND_FENCED.code) (bound : f.code ≠ Field.CORE_BIND_BOUND.code) (s : State) (n p i : Nat) :
    (s.fencedOff n p).get f i = s.get f i := by
  rw [State.fencedOff, State.get_put_code _ bound, State.get_put_code _ fenced, State.get_faultCharged off k]

theorem State.fencedOff_shows (s : State) (n p : Nat) :
    (s.fencedOff n p).get .CORE_BIND_FENCED n = 1 ∧ (s.fencedOff n p).get .CORE_BIND_BOUND n = 0 := by
  constructor
  · rw [State.fencedOff, State.get_put_code _ (by decide), State.get_put]
    rfl
  · rw [State.fencedOff, State.get_put]
    rfl

/-- A charged fault leaves every partition as it is bound. -/
theorem State.bindOf_chargeFault (s : State) (p status detail : Nat) : (s.chargeFault p status detail).bindOf = s.bindOf := by
  unfold State.chargeFault
  split
  · unfold State.abort
    split
    · exact State.bindOf_abortTask _ _ _ _ _ _ _
    · exact State.bindOf_finish _ _ _ _ _
  · rw [apply_ite State.bindOf, State.bindOf_of_parts (State.event_parts _ _ _ _), ite_self]

theorem State.bindOf_fencedOff (s : State) (n p : Nat) : (s.fencedOff n p).bindOf = s.bindOf := by
  rw [State.fencedOff, State.bindOf_put, State.bindOf_put, State.bindOf_chargeFault, State.bindOf_of_parts (State.event_parts _ _ _ _)]

/-- The free spares stand when a position that is none of them is fenced (R370). -/
theorem State.freeSpares_fencedOff {s : State} {n : Nat} (core : s.get .CORE_BIND_SPARE n = 0) (p : Nat) :
    (s.fencedOff n p).freeSpares p = s.freeSpares p := by
  have shape : ((s.fencedOff n p).part p).bind.shape = (s.part p).bind.shape :=
    congrArg PartBind.shape (congrFun (s.bindOf_fencedOff n p) p)
  have slot (k : Nat) : (s.fencedOff n p).get .CORE_BIND_SLOT k = s.get .CORE_BIND_SLOT k :=
    State.get_fencedOff (by decide) (by decide) (by decide) (by decide) s n p k
  have spare (k : Nat) : (s.fencedOff n p).get .CORE_BIND_SPARE k = s.get .CORE_BIND_SPARE k :=
    State.get_fencedOff (by decide) (by decide) (by decide) (by decide) s n p k
  have owner (k : Nat) : (s.fencedOff n p).get .CORE_BIND_PART k = s.get .CORE_BIND_PART k :=
    State.get_fencedOff (by decide) (by decide) (by decide) (by decide) s n p k
  have test (k : Nat) : ((s.fencedOff n p).boundTo k == some p && (s.fencedOff n p).get .CORE_BIND_SPARE k == 1) =
      (s.boundTo k == some p && s.get .CORE_BIND_SPARE k == 1) := by
    rw [spare]
    by_cases same : Field.CORE_BIND_SPARE.key k = Field.CORE_BIND_SPARE.key n
    · have none : s.get .CORE_BIND_SPARE k = 0 := by rw [State.get, same]; exact core
      rw [none]
      simp
    · have apart : Field.CORE_BIND_BOUND.key k ≠ Field.CORE_BIND_BOUND.key n := fun e =>
        same (congrArg (Field.CORE_BIND_SPARE.code * 65536 + ·) (Nat.add_left_cancel e))
      have bound : (s.fencedOff n p).get .CORE_BIND_BOUND k = s.get .CORE_BIND_BOUND k := by
        rw [State.fencedOff, State.get_put_key _ apart, State.get_put_code _ (by decide),
          State.get_faultCharged (by decide) (by decide)]
      rw [State.boundTo, State.boundTo, bound, owner]
  unfold State.freeSpares
  rw [shape]
  simp only [slot, test]

/-- The state of a domain that is on, once the fault of its position has deflated it (R348). -/
theorem State.deflate_on {s t : State} {d : Nat} (same : t.get .PWR_DOM_STAT_STATE d = s.get .PWR_DOM_STAT_STATE d)
    (on : s.active d = true) : (t.deflate d).get .PWR_DOM_STAT_STATE d = 3 := by
  refine State.deflate_active ?_
  rw [State.active, same]
  exact on

theorem State.positionFault_fences (s : State) (n : Nat) : (s.positionFault n).get .CORE_BIND_FENCED n = 1 := by
  cases owner : s.boundTo n with
  | none =>
    rw [State.positionFault_free owner, State.get_deflate (by decide), State.get_put]
    rfl
  | some p =>
    obtain ⟨g, -, e⟩ := State.positionFault_bound owner
    rw [e, State.get_deflate (by decide), apply_ite (fun t : State => t.get .CORE_BIND_FENCED n), State.modBind_get, ite_self]
    exact (s.fencedOff_shows n p).1

theorem State.positionFault_deflates {s : State} {n : Nat} (on : s.active n = true) :
    (s.positionFault n).get .PWR_DOM_STAT_STATE n = 3 := by
  cases owner : s.boundTo n with
  | none =>
    rw [State.positionFault_free owner]
    refine State.deflate_on ?_ on
    rw [State.get_put_code _ (by decide), State.get_event _ _ _ _ _ (by decide) (by decide)]
  | some p =>
    obtain ⟨g, -, e⟩ := State.positionFault_bound owner
    rw [e]
    refine State.deflate_on ?_ on
    rw [apply_ite (fun t : State => t.get .PWR_DOM_STAT_STATE n), State.modBind_get, ite_self]
    exact State.get_fencedOff (by decide) (by decide) (by decide) (by decide) s n p n

/-- A free position's fault reaches no partition. -/
theorem State.positionFault_apart {s : State} {n : Nat} (free : s.boundTo n = none) :
    (s.positionFault n).cmds = s.cmds ∧ (s.positionFault n).parts = s.parts := by
  rw [State.positionFault_free free]
  exact ⟨(State.deflate_frame.cmds (by decide)).trans (State.event_cmds _ _ _ _),
    (State.deflate_frame.parts (by decide)).trans (State.event_parts _ _ _ _)⟩

/-- The fault ends its owner's task, unbinds the position, and asks for a remap where one can be made (R369, R370). -/
theorem State.positionFault_owner {s : State} {n p : Nat} (owner : s.boundTo n = some p) :
    (s.positionFault n).get .CORE_BIND_BOUND n = 0 ∧
    ((s.charge p s.now).isSome = true → ((s.positionFault n).part p).run.task = none) ∧
    (s.get .CORE_BIND_SPARE n = 0 → s.get .PART_RECOVER_AUTO_REMAP p = 1 → s.freeSpares p ≠ [] →
      (s.get .CORE_BIND_SLOT n, 0xFF, false) ∈ ((s.positionFault n).part p).bind.remap) := by
  obtain ⟨g, asks, e⟩ := State.positionFault_bound owner
  rw [e, State.get_deflate (by decide), State.deflate_part]
  refine ⟨?_, fun charged => ?_, fun core auto free => ?_⟩
  · rw [apply_ite (fun t : State => t.get .CORE_BIND_BOUND n), State.modBind_get, ite_self]
    exact (s.fencedOff_shows n p).2
  · have same : (s.event 0xA000 n 0).charge p (s.event 0xA000 n 0).now = s.charge p s.now := by
      rw [State.charge, State.charge, State.part_of_parts (State.event_parts _ _ _ _), State.event_cmds, State.now, State.event_clock,
        State.now]
    have ended : ((s.fencedOff n p).part p).run.task = none :=
      State.chargeFault_task (s := s.event 0xA000 n 0) (by rw [same]; exact charged) 0x4000 n
    split
    · rw [State.part_modBind]
      exact ended
    · exact ended
  · have on : (s.fencedOff n p).get .PART_RECOVER_AUTO_REMAP p = 1 :=
      (State.get_fencedOff (by decide) (by decide) (by decide) (by decide) s n p p).trans auto
    have some : ((s.fencedOff n p).freeSpares p).isEmpty = false := by
      rw [State.freeSpares_fencedOff core]
      simpa using free
    rw [if_pos ⟨core, on, some⟩, State.part_modBind]
    exact asks _ ▸ List.mem_append_right _ List.mem_cons_self

/-! ### POSITION_FAULT -/

/-- A fenced position's fault without a self-test there does nothing (R379). -/
theorem State.coreFault_quiet {s : State} {n : Nat} (fenced : s.get .CORE_BIND_FENCED n = 1)
    (idle : (s.bists.all fun b => b.position != n || b.done) = true) : s.coreFault n = s := by
  have none : ¬(s.bists.any fun b => b.position == n && !b.done) = true := by
    simpa [or_iff_not_imp_left] using idle
  rw [State.coreFault, if_pos fenced, State.bistFault, if_neg none]

theorem State.coreFault_open {s : State} {n : Nat} (opened : s.get .CORE_BIND_FENCED n ≠ 1) : s.coreFault n = s.positionFault n :=
  if_neg opened

/-- After a position's fault it is fenced. -/
theorem State.coreFault_fenced (s : State) (n : Nat) : (s.coreFault n).get .CORE_BIND_FENCED n = 1 := by
  by_cases fenced : s.get .CORE_BIND_FENCED n = 1
  · rw [State.coreFault, if_pos fenced, State.bistFault_frame.reg _ _ (by decide) (by decide), fenced]
  · rw [State.coreFault_open fenced, State.positionFault_fences]

theorem execPositionFault_quiet {s : State} {n : Fin 96} (fenced : s.get .CORE_BIND_FENCED n.val = 1)
    (idle : (s.bists.all fun b => b.position != n.val || b.done) = true) : execPositionFault n s = .next s :=
  congrArg Host.Outcome.next (State.coreFault_quiet fenced idle)

theorem execPositionFault_effect {s : State} {n : Fin 96} (opened : s.get .CORE_BIND_FENCED n.val ≠ 1) :
    Completes (.positionFault n) s (taskFields ++ [Field.CORE_BIND_BOUND,
        Field.CORE_BIND_FENCED, Field.PWR_DOM_STAT_STATE, Field.CORE_BIST_RESULT] ++ [Field.CORE_BIST_FRAME]) (taskParts
          ++ [Component.free, Component.power, Component.bists, Component.edge, Component.rehearsal]) fun t =>
      t.get .CORE_BIND_FENCED n.val = 1 ∧
      (s.active n.val = true → t.get .PWR_DOM_STAT_STATE n.val = 3) ∧
      (s.boundTo n.val = none → t.cmds = s.cmds ∧ t.parts = s.parts) ∧
      ∀ p, s.boundTo n.val = some p → t.get .CORE_BIND_BOUND n.val = 0 ∧
        ((s.charge p s.now).isSome = true → (t.part p).run.task = none) ∧
        (s.get .CORE_BIND_SPARE n.val = 0 → s.get .PART_RECOVER_AUTO_REMAP p = 1 → s.freeSpares p ≠ [] →
          (s.get .CORE_BIND_SLOT n.val, 0xFF, false) ∈ (t.part p).bind.remap) := by
  have e : execPositionFault n s = .next (s.positionFault n.val) := congrArg Host.Outcome.next (State.coreFault_open opened)
  exact ⟨_, e, Same.changes (execPositionFault_frame e) (by decide +kernel), s.positionFault_fences _,
    State.positionFault_deflates, State.positionFault_apart, fun _ => State.positionFault_owner⟩

end Sys2Proof.Machine
end


section
/-! Failed stacks and stopped Gondola halves (R358, R366, R374, R377, R378, R438). -/

namespace Sys2Proof.Machine
open Sys2Proof.Safety
-- The evaluations by the kernel follow one another: side by side they would take more memory than the check allows.
set_option Elab.async false

theorem State.failStack_eq (s : State) (m : Nat) : s.failStack m = (s.put .HBM_STAT_STATE m 4).event 0x9004 m 0 := rfl

theorem State.failStack_state (s : State) (m : Nat) : (s.failStack m).get .HBM_STAT_STATE m = 4 := s.stackState_state m (by decide)

/-! ### The states of the halves -/

/-- The halves' states stand in two registers. -/
theorem State.halfState_frame {m : Nat} {s t : State} (h : Same m s t) (gw : m.testBit Field.GCTL_FW_STAT_GW_STATE.code = false)
    (ge : m.testBit Field.GCTL_FW_STAT_GE_STATE.code = false) : t.halfState = s.halfState := by
  funext g
  rw [State.halfState, State.halfState, h.reg _ _ (by decide) gw, h.reg _ _ (by decide) ge]

theorem State.drives_of_halves {s t : State} (h : t.halfState = s.halfState) (g : Nat) : t.drives g = s.drives g := by
  rw [State.drives, State.drives, h]

theorem State.halfState_setHalf (s : State) (g : Nat) {v : Nat} (small : v < 8) : (s.setHalf g v).halfState g = v := by
  unfold State.halfState State.setHalf
  split
  · rw [State.get_put]
    exact Nat.mod_eq_of_lt small
  · rw [State.get_put]
    exact Nat.mod_eq_of_lt small

theorem State.halfState_setHalf_other (s : State) {g k : Nat} (other : (k = 0) ≠ (g = 0)) (v : Nat) :
    (s.setHalf g v).halfState k = s.halfState k := by
  unfold State.halfState State.setHalf
  by_cases east : g = 0
  · have west : ¬k = 0 := fun e => other (by simp [e, east])
    rw [if_pos east, if_neg west, if_neg west, State.get_put_code _ (by decide)]
  · have west : k = 0 := by simpa [east] using other
    rw [if_neg east, if_pos west, if_pos west, State.get_put_code _ (by decide)]

/-- The other half is none of the first's register. -/
theorem otherHalf (g : Fin 2) : (1 - g.val = 0) ≠ (g.val = 0) := by
  revert g
  decide

/-! ### The stop of the module -/

theorem State.get_withPower (s : State) (w : Power) (f : Field) (i : Nat) : ({ s with power := w } : State).get f i = s.get f i := rfl

theorem State.get_withGondola (s : State) (w : Gondola) (f : Field) (i : Nat) : ({ s with gondola := w } : State).get f i = s.get f i :=
  rfl

theorem State.part_withPower (s : State) (w : Power) (p : Nat) : ({ s with power := w } : State).part p = s.part p := rfl

theorem State.stopModule_stops (s : State) : s.stopModule.get .GCTL_STAT_STOPPED 0 = 1 := by
  rw [State.stopModule, State.deflateNext_frame.reg _ _ (by decide) (by decide), State.get_withPower, State.get_put]
  rfl

theorem State.stopModule_task (s : State) {p : Nat} (h : p < 16) : (s.stopModule.part p).run.task = none := by
  rw [State.stopModule, State.part_of_parts (State.deflateNext_frame.parts (by decide)), State.part_withPower, State.put_part]
  exact s.abortAll_task true h

theorem State.stopModule_deflating {s : State} {k : Nat} (deflates : s.get .PWR_DOM_STAT_STATE k = 3) :
    s.stopModule.get .PWR_DOM_STAT_STATE k = 3 := by
  rw [State.stopModule]
  refine State.deflateNext_deflating ?_
  rw [State.get_withPower, State.get_put_code _ (by decide), State.abortAll_frame.reg _ _ (by decide) (by decide), deflates]

theorem State.stopModule_halves (s : State) : s.stopModule.halfState = s.halfState :=
  State.halfState_frame State.stopModule_frame (by decide) (by decide)

/-! ### The stop of a half -/

/-- The half has stopped, and nothing else has happened yet (R377). -/
def State.halfStopped (s : State) (g : Nat) : State :=
  { (s.setHalf g 4).event 0xB003 g 0 with gondola := { ((s.setHalf g 4).event 0xB003 g 0).gondola with
    gwStopped := ((s.setHalf g 4).event 0xB003 g 0).gondola.gwStopped || g == 0
    geStopped := ((s.setHalf g 4).event 0xB003 g 0).gondola.geStopped || g == 1
    takeover := ((s.setHalf g 4).event 0xB003 g 0).gondola.takeover || (s.halfState g == 2) } }

theorem State.halfStop_eq (s : State) (g : Nat) :
    s.halfStop g = if (s.halfStopped g).drives (1 - g) then s.halfStopped g else (s.halfStopped g).stopModule := rfl

theorem State.halfStopped_get (s : State) (g : Nat) (f : Field) (i : Nat) :
    (s.halfStopped g).get f i = ((s.setHalf g 4).event 0xB003 g 0).get f i := State.get_withGondola _ _ _ _

theorem State.halfStopped_halves (s : State) (g : Nat) : (s.halfStopped g).halfState = (s.setHalf g 4).halfState := by
  funext k
  rw [State.halfState, State.halfState, State.halfStopped_get, State.halfStopped_get, State.get_event _ _ _ _ _ (by decide) (by decide),
    State.get_event _ _ _ _ _ (by decide) (by decide)]

theorem State.halfStopped_drives (s : State) (g : Fin 2) : (s.halfStopped g.val).drives (1 - g.val) = s.drives (1 - g.val) := by
  rw [State.drives, State.drives, State.halfStopped_halves, State.halfState_setHalf_other _ (otherHalf g)]

theorem State.halfStop_state (s : State) (g : Nat) : (s.halfStop g).halfState g = 4 := by
  have stopped : (s.halfStopped g).halfState g = 4 :=
    (congrFun (s.halfStopped_halves g) g).trans (s.halfState_setHalf g (by decide))
  rw [State.halfStop_eq]
  split
  · exact stopped
  · exact (congrFun (State.stopModule_halves _) g).trans stopped

theorem State.get_halfStopped {f : Field} (h : f.code < 400)
    (k : Nat.testBit
      0x2000000000000000000000000000000000001c000000000000000000000000000000000000000000000000000000000000000000000 f.code = false)
    (gw : f.code ≠ Field.GCTL_FW_STAT_GW_STATE.code) (ge : f.code ≠ Field.GCTL_FW_STAT_GE_STATE.code) (s : State) (g i : Nat) :
    (s.halfStopped g).get f i = s.get f i := by
  rw [State.halfStopped_get, State.get_event _ _ _ _ _ h k]
  unfold State.setHalf
  split
  · exact State.get_put_code _ gw _ _ _
  · exact State.get_put_code _ ge _ _ _

theorem State.halfStop_other {s : State} {g : Fin 2} (other : s.drives (1 - g.val) = true) : s.halfStop g.val = s.halfStopped g.val := by
  rw [State.halfStop_eq, State.halfStopped_drives, if_pos other]

theorem State.halfStop_last {s : State} {g : Fin 2} (none : s.drives (1 - g.val) = false) :
    s.halfStop g.val = (s.halfStopped g.val).stopModule := by
  rw [State.halfStop_eq, State.halfStopped_drives, none, if_neg Bool.false_ne_true]

theorem execGondolaHalfStop_effect {s : State} {g : Fin 2} (h : s.drives g.val = true) :
    Completes (.gondolaHalfStop g) s (taskFields ++ [Field.PWR_DOM_STAT_STATE,
      Field.GCTL_FW_STAT_GE_STATE, Field.GCTL_FW_STAT_GW_STATE, Field.GCTL_STAT_STOPPED]) (taskParts
        ++ [Component.power, Component.gondola]) fun t =>
      t.halfState g.val = 4 ∧
      (s.drives (1 - g.val) = true → t.get .GCTL_STAT_STOPPED 0 = s.get .GCTL_STAT_STOPPED 0 ∧ t.cmds = s.cmds ∧ t.parts = s.parts ∧
        t.power = s.power ∧ ∀ d, t.get .PWR_DOM_STAT_STATE d = s.get .PWR_DOM_STAT_STATE d) ∧
      (s.drives (1 - g.val) = false → t.get .GCTL_STAT_STOPPED 0 = 1 ∧ ∀ p, p < 16 → (t.part p).run.task = none) := by
  have e : execGondolaHalfStop g s = .next (s.halfStop g.val) := congrArg Host.Outcome.next (if_pos h)
  refine ⟨_, e, Same.changes (execGondolaHalfStop_frame e) (by decide +kernel), s.halfStop_state _, fun other => ?_, fun none => ?_⟩
  · rw [State.halfStop_other other]
    exact ⟨State.get_halfStopped (by decide) (by decide) (by decide) (by decide) s _ _,
      (State.event_cmds _ _ _ _).trans (State.setHalf_frame.cmds (by decide)),
      (State.event_parts _ _ _ _).trans (State.setHalf_frame.parts (by decide)),
      (State.event_power _ _ _ _).trans (State.setHalf_frame.power (by decide)),
      fun d => State.get_halfStopped (by decide) (by decide) (by decide) (by decide) s _ _⟩
  · rw [State.halfStop_last none]
    exact ⟨State.stopModule_stops _, fun p => State.stopModule_task _⟩

/-! ### The takeover of the firmware -/

theorem State.takeOver_effect (s : State) (g : Nat) : (s.takeOver g).halfState g = 2 ∧ (s.takeOver g).gondola.firmware = g ∧
    (s.takeOver g).gondola.takeover = false ∧
    (s.takeOver g).cmds = s.cmds.map fun c => if c.part = none ∧ c.ran = false ∧ c.due = none then { c with began := none } else c := by
  have half : (s.takeOver g).halfState g = (s.setHalf g 2).halfState g := rfl
  have cmds : (s.setHalf g 2).cmds = s.cmds := by
    unfold State.setHalf
    split <;> rfl
  refine ⟨half.trans (s.halfState_setHalf g (by decide)), rfl, rfl, ?_⟩
  rw [← cmds]
  rfl

theorem execFirmwareTakeover_effect {s : State} (awaited : s.gondola.takeover = true) (drives : s.drives (1 - s.gondola.firmware) = true) :
    Completes .firmwareTakeover s [Field.GCTL_FW_STAT_GE_STATE, Field.GCTL_FW_STAT_GW_STATE] [Component.cmds, Component.gondola] fun t =>
        t.halfState (1 - s.gondola.firmware) = 2 ∧ t.gondola.firmware = 1 - s.gondola.firmware ∧ t.gondola.takeover = false ∧
        t.cmds = s.cmds.map fun c => if c.part = none ∧ c.ran = false ∧ c.due = none then { c with began := none } else c := by
  have e : execFirmwareTakeover s = .next (s.takeOver (1 - s.gondola.firmware)) := congrArg Host.Outcome.next (if_pos ⟨awaited, drives⟩)
  exact ⟨_, e, Same.changes (execFirmwareTakeover_frame e) (by decide +kernel), s.takeOver_effect _⟩

end Sys2Proof.Machine
end


section
/-! Trips of domains, and warnings (R358, R359, R366, R437, R438). -/

namespace Sys2Proof.Machine
open Sys2Proof.Safety
-- The evaluations by the kernel follow one another: side by side they would take more memory than the check allows.
set_option Elab.async false

/-! ### A domain fails -/

theorem State.get_domainCause (s : State) (d : Nat) {c : Nat} (small : c < 8) : (s.domainCause d c).get .PWR_DOM_STAT_CAUSE d = c := by
  rw [State.domainCause, State.get_event _ _ _ _ _ (by decide) (by decide), State.get_put]
  exact Nat.mod_eq_of_lt small

theorem State.failDomain_cause (s : State) (d : Nat) {c : Nat} (small : c < 8) : (s.failDomain d c).get .PWR_DOM_STAT_CAUSE d = c := by
  have shown : (s.failDomain d c).get .PWR_DOM_STAT_CAUSE d = ((s.domainCause d c).deflate d).get .PWR_DOM_STAT_CAUSE d := rfl
  rw [shown, State.get_deflate (by decide), s.get_domainCause d small]

theorem State.failDomain_deflates {s : State} {d : Nat} (on : s.active d = true) (c : Nat) :
    (s.failDomain d c).get .PWR_DOM_STAT_STATE d = 3 := by
  have shown : (s.failDomain d c).get .PWR_DOM_STAT_STATE d = ((s.domainCause d c).deflate d).get .PWR_DOM_STAT_STATE d := rfl
  rw [shown]
  exact State.deflate_on (State.domainCause_frame.reg _ _ (by decide) (by decide)) on

/-! ### What each kind of domain carries -/

/-- The trip of a core domain is a fault of its position (R358). -/
theorem State.trip_core {s : State} {d : Nat} (core : d < 96) (c : Nat) : s.trip d c = (s.failDomain d c).coreFault d := if_pos core

theorem State.coreFault_deflating {s : State} {n : Nat} (deflates : s.get .PWR_DOM_STAT_STATE n = 3) :
    (s.coreFault n).get .PWR_DOM_STAT_STATE n = 3 := by
  by_cases fenced : s.get .CORE_BIND_FENCED n = 1
  · rw [State.coreFault, if_pos fenced, State.bistFault_frame.reg _ _ (by decide) (by decide), deflates]
  · rw [State.coreFault_open fenced]
    exact State.positionFault_deflates (by simp [State.active, deflates])

/-- One regulator group of a die uncore is lost (R359). -/
def State.groupLost (s : State) (d cause : Nat) : State :=
  ((s.domainCause d cause).put .PWR_DOM_STAT_GROUP_LOST d 1).setDomain d
    { s.domain d with groupsLost := (s.domain d).groupsLost + 1 }

theorem State.uncoreTrip_eq (s : State) (d cause : Nat) : s.uncoreTrip d cause =
    if 1 ≤ (s.domain d).groupsLost then ((s.groupLost d cause).deflateDie (d - 96)).stopModule else s.groupLost d cause := by
  have power : ((s.domainCause d cause).put .PWR_DOM_STAT_GROUP_LOST d 1).domain d = s.domain d :=
    congrArg (fun w : Power => Tab.get Domain.init w.domains d) (State.domainCause_frame.power (by decide))
  have lost : ((s.groupLost d cause).domain d).groupsLost = (s.domain d).groupsLost + 1 := by
    rw [State.groupLost, State.domain_setDomain]
  unfold State.uncoreTrip
  dsimp only
  rw [power, ← State.groupLost, lost]
  exact if_congr (by omega) rfl rfl

theorem State.groupLost_shows (s : State) (d : Nat) {cause : Nat} (small : cause < 8) :
    (s.groupLost d cause).get .PWR_DOM_STAT_CAUSE d = cause ∧ (s.groupLost d cause).get .PWR_DOM_STAT_GROUP_LOST d = 1 ∧
    (s.groupLost d cause).get .PWR_DOM_STAT_STATE d = s.get .PWR_DOM_STAT_STATE d := by
  have shown (f : Field) : (s.groupLost d cause).get f d = ((s.domainCause d cause).put .PWR_DOM_STAT_GROUP_LOST d 1).get f d := rfl
  rw [shown, shown, shown, State.get_put_code _ (by decide), State.get_put, State.get_put_code _ (by decide), s.get_domainCause d small]
  exact ⟨rfl, rfl, State.domainCause_frame.reg _ _ (by decide) (by decide)⟩

/-- The trip of an uncore domain: its group is lost, and with the second one the module stops (R359). -/
theorem State.uncoreTrip_effect (s : State) (d : Nat) {cause : Nat} (small : cause < 8) :
    (s.uncoreTrip d cause).get .PWR_DOM_STAT_CAUSE d = cause ∧ (s.uncoreTrip d cause).get .PWR_DOM_STAT_GROUP_LOST d = 1 ∧
    ((s.domain d).groupsLost = 0 → (s.uncoreTrip d cause).get .PWR_DOM_STAT_STATE d = s.get .PWR_DOM_STAT_STATE d) ∧
    (1 ≤ (s.domain d).groupsLost → (s.uncoreTrip d cause).get .GCTL_STAT_STOPPED 0 = 1) := by
  obtain ⟨causes, lost, stays⟩ := s.groupLost_shows d small
  rw [State.uncoreTrip_eq]
  by_cases second : 1 ≤ (s.domain d).groupsLost
  · rw [if_pos second]
    refine ⟨?_, ?_, fun first => absurd second (by omega), fun _ => State.stopModule_stops _⟩
    · rw [State.stopModule_frame.reg _ _ (by decide) (by decide), State.deflateDie_frame.reg _ _ (by decide) (by decide), causes]
    · rw [State.stopModule_frame.reg _ _ (by decide) (by decide), State.deflateDie_frame.reg _ _ (by decide) (by decide), lost]
  · rw [if_neg second]
    exact ⟨causes, lost, fun _ => stays, fun h => absurd h second⟩

/-- The trip of a stack's domain fails the stack (R358). -/
theorem State.trip_stack {s : State} {d : Nat} (low : 120 ≤ d) (high : d < 168) (c : Nat) :
    s.trip d c = ((s.failDomain d c).failStack (d - 120)).abortStackUsers (d - 120) := by
  rw [State.trip, if_neg (by omega), if_neg (by omega), if_pos high]

theorem State.tripStack_effect {s : State} {d : Nat} (on : s.active d = true) (m : Nat) {c : Nat} (small : c < 8) :
    (((s.failDomain d c).failStack m).abortStackUsers m).get .PWR_DOM_STAT_CAUSE d = c ∧
    (((s.failDomain d c).failStack m).abortStackUsers m).get .PWR_DOM_STAT_STATE d = 3 ∧
    (((s.failDomain d c).failStack m).abortStackUsers m).get .HBM_STAT_STATE m = 4 := by
  rw [State.abortStackUsers_frame.reg _ _ (by decide) (by decide), State.failStack_frame.reg _ _ (by decide) (by decide),
    State.abortStackUsers_frame.reg _ _ (by decide) (by decide), State.failStack_frame.reg _ _ (by decide) (by decide),
    State.abortStackUsers_frame.reg _ _ (by decide) (by decide), State.failStack_state]
  exact ⟨s.failDomain_cause d small, State.failDomain_deflates on c, rfl⟩

/-- The trip of a port's domain takes the port down, unless it is OFF (R358). -/
theorem State.trip_port {s : State} {d : Nat} (low : 168 ≤ d) (high : d < 232) (c : Nat) : s.trip d c =
    if s.get .TETH_STAT_STATE (d - 168) = 0 then s.failDomain d c else (s.failDomain d c).portDown (d - 168) 4 := by
  have same : (s.failDomain d c).get .TETH_STAT_STATE (d - 168) = s.get .TETH_STAT_STATE (d - 168) :=
    State.failDomain_frame.reg _ _ (by decide) (by decide)
  rw [State.trip, if_neg (by omega), if_neg (by omega), if_neg (by omega), if_pos high]
  dsimp only
  rw [same]

theorem State.tripPort_effect {s : State} {d : Nat} (low : 168 ≤ d) (high : d < 232) (on : s.active d = true) {c : Nat} (small : c < 8) :
    (s.trip d c).get .PWR_DOM_STAT_CAUSE d = c ∧ (s.trip d c).get .PWR_DOM_STAT_STATE d = 3 ∧
    (s.get .TETH_STAT_STATE (d - 168) ≠ 0 →
      (s.trip d c).get .TETH_STAT_STATE (d - 168) = 6 ∧ (s.trip d c).get .TETH_STAT_DOWN_CAUSE (d - 168) = 4) := by
  rw [State.trip_port low high]
  by_cases off : s.get .TETH_STAT_STATE (d - 168) = 0
  · rw [if_pos off]
    exact ⟨s.failDomain_cause d small, State.failDomain_deflates on c, fun lit => absurd off lit⟩
  · rw [if_neg off, State.portDown_frame.reg _ _ (by decide) (by decide), State.portDown_frame.reg _ _ (by decide) (by decide)]
    exact ⟨s.failDomain_cause d small, State.failDomain_deflates on c, fun _ => State.get_portDown _ _ (by decide)⟩

/-- The trip of a laser's domain does no more than deflate it (R358). -/
theorem State.trip_laser {s : State} {d : Nat} (low : 232 ≤ d) (high : d < 248) (c : Nat) : s.trip d c = s.failDomain d c := by
  rw [State.trip, if_neg (by omega), if_neg (by omega), if_neg (by omega), if_neg (by omega), if_pos high]

/-- The trip of a half's domain stops the half, if it drives (R366). -/
theorem State.trip_half {s : State} {d : Nat} (low : 248 ≤ d) (c : Nat) : s.trip d c =
    if s.drives (d - 248) then (s.failDomain d c).halfStop (d - 248) else s.failDomain d c := by
  have same : (s.failDomain d c).drives (d - 248) = s.drives (d - 248) :=
    State.drives_of_halves (State.halfState_frame State.failDomain_frame (by decide) (by decide)) _
  rw [State.trip, if_neg (by omega), if_neg (by omega), if_neg (by omega), if_neg (by omega), if_neg (by omega)]
  dsimp only
  rw [same]

theorem State.halfStop_keeps {s : State} {g d : Nat} (deflates : s.get .PWR_DOM_STAT_STATE d = 3) :
    (s.halfStop g).get .PWR_DOM_STAT_STATE d = 3 := by
  have stopped : (s.halfStopped g).get .PWR_DOM_STAT_STATE d = 3 :=
    (State.get_halfStopped (by decide) (by decide) (by decide) (by decide) s g d).trans deflates
  rw [State.halfStop_eq]
  split
  · exact stopped
  · exact State.stopModule_deflating stopped

theorem State.tripHalf_effect {s : State} {d : Nat} (low : 248 ≤ d) (on : s.active d = true) {c : Nat} (small : c < 8) :
    (s.trip d c).get .PWR_DOM_STAT_CAUSE d = c ∧ (s.trip d c).get .PWR_DOM_STAT_STATE d = 3 ∧
    (s.drives (d - 248) = true → (s.trip d c).halfState (d - 248) = 4) := by
  rw [State.trip_half low]
  by_cases drives : s.drives (d - 248) = true
  · rw [if_pos drives, State.halfStop_frame.reg _ _ (by decide) (by decide)]
    exact ⟨s.failDomain_cause d small, State.halfStop_keeps (State.failDomain_deflates on c), fun _ => State.halfStop_state _ _⟩
  · rw [if_neg drives]
    exact ⟨s.failDomain_cause d small, State.failDomain_deflates on c, fun h => absurd h drives⟩

theorem State.tripCore_effect {s : State} {d : Nat} (core : d < 96) (on : s.active d = true) {c : Nat} (small : c < 8) :
    (s.trip d c).get .PWR_DOM_STAT_CAUSE d = c ∧ (s.trip d c).get .PWR_DOM_STAT_STATE d = 3 ∧
    (s.trip d c).get .CORE_BIND_FENCED d = 1 := by
  rw [State.trip_core core, State.coreFault_frame.reg _ _ (by decide) (by decide)]
  exact ⟨s.failDomain_cause d small, State.coreFault_deflating (State.failDomain_deflates on c), State.coreFault_fenced _ _⟩

theorem State.trip_uncore {s : State} {d : Nat} (low : 96 ≤ d) (high : d < 120) (c : Nat) : s.trip d c = s.uncoreTrip d c := by
  rw [State.trip, if_neg (by omega), if_pos high]

/-! ### The trip of a hard limit -/

/-- What the trip of domain `d` does to what the domain carries (R358, R359, R366). -/
def TripShows (s : State) (d : Nat) (t : State) : Prop :=
  t.get .PWR_DOM_STAT_CAUSE d = 2 ∧
  ((d < 96 ∨ 120 ≤ d) → t.get .PWR_DOM_STAT_STATE d = 3) ∧
  (∀ n : Fin 96, n.val = d → t.get .CORE_BIND_FENCED n.val = 1) ∧
  (96 ≤ d → d < 120 → t.get .PWR_DOM_STAT_GROUP_LOST d = 1 ∧
    ((s.domain d).groupsLost = 0 → t.get .PWR_DOM_STAT_STATE d = s.get .PWR_DOM_STAT_STATE d) ∧
    (1 ≤ (s.domain d).groupsLost → t.get .GCTL_STAT_STOPPED 0 = 1)) ∧
  (∀ m, d = 120 + m → m < 48 → t.get .HBM_STAT_STATE m = 4) ∧
  (∀ n, d = 168 + n → n < 64 → s.get .TETH_STAT_STATE n ≠ 0 → t.get .TETH_STAT_STATE n = 6 ∧ t.get .TETH_STAT_DOWN_CAUSE n = 4) ∧
  ∀ g, d = 248 + g → s.drives g = true → t.halfState g = 4

theorem State.trip_shows {s : State} {d : Nat} (on : s.active d = true) : TripShows s d (s.trip d 2) := by
  have kind : d < 96 ∨ (96 ≤ d ∧ d < 120) ∨ (120 ≤ d ∧ d < 168) ∨ (168 ≤ d ∧ d < 232) ∨ (232 ≤ d ∧ d < 248) ∨ 248 ≤ d := by omega
  rcases kind with core | ⟨low, high⟩ | ⟨low, high⟩ | ⟨low, high⟩ | ⟨low, high⟩ | low
  · obtain ⟨cause, state, fenced⟩ := State.tripCore_effect core on (c := 2) (by decide)
    refine ⟨cause, fun _ => state, fun n same => same ▸ fenced, fun low => ?_, fun m e => ?_, fun n e => ?_, fun g e => ?_⟩ <;> omega
  · obtain ⟨cause, rest⟩ := s.uncoreTrip_effect d (cause := 2) (by decide)
    rw [State.trip_uncore low high]
    refine ⟨cause, fun other => ?_, fun n same => ?_, fun _ _ => rest, fun m e => ?_, fun n e => ?_, fun g e => ?_⟩ <;> omega
  · obtain ⟨cause, state, fails⟩ := State.tripStack_effect on (d - 120) (c := 2) (by decide)
    rw [State.trip_stack low high]
    refine ⟨cause, fun _ => state, fun n same => ?_, fun _ h => ?_, fun m e _ => ?_, fun n e => ?_, fun g e => ?_⟩
    case refine_3 =>
      rw [show m = d - 120 by omega]
      exact fails
    all_goals omega
  · obtain ⟨cause, state, down⟩ := State.tripPort_effect low high on (c := 2) (by decide)
    refine ⟨cause, fun _ => state, fun n same => ?_, fun _ h => ?_, fun m e => ?_, fun n e _ lit => ?_, fun g e => ?_⟩
    case refine_4 =>
      have port : d - 168 = n := by omega
      rw [port] at down
      exact down lit
    all_goals omega
  · rw [State.trip_laser low high]
    refine ⟨s.failDomain_cause d (by decide), fun _ => State.failDomain_deflates on 2, fun n same => ?_, fun _ h => ?_, fun m e => ?_,
      fun n e => ?_, fun g e => ?_⟩ <;> omega
  · obtain ⟨cause, state, stops⟩ := State.tripHalf_effect low on (c := 2) (by decide)
    refine ⟨cause, fun _ => state, fun n same => ?_, fun _ h => ?_, fun m e => ?_, fun n e => ?_, fun g e drives => ?_⟩
    case refine_5 =>
      have half : d - 248 = g := by omega
      rw [half] at stops
      exact stops drives
    all_goals omega

/-! ### Warnings -/

theorem execThermalWarning_effect (s : State) (inlet flow : Nat) :
    Completes (.thermalWarning inlet flow) s [] [Component.power, Component.out] fun t =>
      t.out = if 400 < inlet ∨ flow < 300 then s.out ++ [.pldmEvent 1] else s.out := by
  refine ⟨_, rfl, Same.changes (execThermalWarning_frame rfl) (by decide +kernel), ?_⟩
  split <;> rfl

/-- Settles O54: each failed part by its own theorem; a trip by the kind of its domain (`trip_shows`). -/
theorem failedPartsStop : Obligations.FailedPartsStop := by
  intro s
  refine ⟨fun n => ⟨execPositionFault_quiet, execPositionFault_effect⟩, fun m sound => ⟨?_, ?_⟩,
    fun g drives => execGondolaHalfStop_effect drives, execFirmwareTakeover_effect, fun d on steady => ?_,
    execThermalWarning_effect s⟩
  · exact congrArg Host.Outcome.next ((if_neg sound).trans (s.failStack_eq m.val))
  · exact congrArg Host.Outcome.next ((if_neg sound).trans (s.failStack_eq m.val))
  · have e : execHardLimitTrip d s = .next (s.trip d.val 2) := congrArg Host.Outcome.next (if_pos ⟨on, steady⟩)
    exact ⟨_, e, Same.changes (execHardLimitTrip_frame e) (by decide +kernel), State.trip_shows on⟩

end Sys2Proof.Machine
end


section
/-! The count of emergency clock steps (R360, R364). -/

namespace Sys2Proof.Machine
open Sys2Proof.Safety
-- The evaluations by the kernel follow one another: side by side they would take more memory than the check allows.
set_option Elab.async false

theorem State.get_withClockPower (s : State) (x : Clock) (w : Power) (f : Field) (i : Nat) :
    ({ s with clock := x, power := w } : State).get f i = s.get f i := rfl

/-- An emergency clock step is counted, and the count stays at its largest value once it is there. -/
theorem State.clockStep_count {s : State} (first : s.power.step = none) (cause : Nat) :
    (s.clockStep cause).get .PWR_STEP_COUNT 0 = satW Field.PWR_STEP_COUNT.width (s.get .PWR_STEP_COUNT 0 + 1) := by
  have first' : (s.put .PWR_STEP_CAUSE 0 cause).power.step = none := first
  unfold State.clockStep
  dsimp only
  rw [first']
  dsimp only
  rw [foldl_kept (fun t : State => t.get .PWR_STEP_COUNT 0) fun _ _ => State.markVoid_frame.reg _ _ (by decide) (by decide),
    State.get_withClockPower, State.get_inc, State.get_put_code _ (by decide), State.get_put_code _ (by decide),
    State.get_put_code _ (by decide)]

theorem execEmergencyClockStep_steps {s : State} {cause : Nat} (low : 1 ≤ cause) (high : cause ≤ 3)
    (runs : s.get .GCTL_STAT_STOPPED 0 = 0) : execEmergencyClockStep cause s = .next (s.clockStep cause) :=
  congrArg Host.Outcome.next (if_pos ⟨low, high, runs⟩)

/-- Refutes O55: the statement has PWR_STEP.COUNT go round to 0, but the count saturates as the model's other counters do. After reset,
with the count at 65,535, an emergency clock step leaves it there. -/
theorem not_powerRunsByItsStates : ¬ Obligations.PowerRunsByItsStates := by
  intro holds
  let s : State := State.reset.put .PWR_STEP_COUNT 0 0xFFFF
  have full : s.get .PWR_STEP_COUNT 0 = 0xFFFF := State.get_put _ _ _ _
  obtain ⟨-, -, -, -, -, steps, -⟩ := holds s
  have runs : s.get .GCTL_STAT_STOPPED 0 = 0 := by decide +kernel
  obtain ⟨t, e, -, -, -, count, -⟩ := (steps 1 (by decide) (by decide) runs).2 rfl
  have same : s.clockStep 1 = t :=
    Host.Outcome.next.inj ((execEmergencyClockStep_steps (by decide) (by decide) runs).symm.trans e)
  rw [← same, State.clockStep_count rfl, full] at count
  exact absurd count (by decide)

end Sys2Proof.Machine
end


section
/-! Requests on the management bus (R378, R411, R412, R419, R438). -/

namespace Sys2Proof.Machine
open Sys2Proof.Safety
-- The evaluations by the kernel follow one another: side by side they would take more memory than the check allows.
set_option Elab.async false

/-! ### When the firmware takes a request up -/

/-- A booted Gondola whose firmware runs takes a request up at once. -/
theorem State.viaFirmware_calm {s : State} (booted : s.booted = true) (calm : s.gondola.takeover = false) (i : Instr) (t : State) :
    s.whenBooted (s.viaFirmware i t) = t := by
  rw [State.whenBooted_booted booted, State.viaFirmware, calm]
  rfl

/-- While a half takes the firmware over, the request waits for the next edge (R378). -/
theorem State.viaFirmware_takeover {s : State} (booted : s.booted = true) (takeover : s.gondola.takeover = true) (i : Instr)
    (t : State) : s.whenBooted (s.viaFirmware i t) = s.atNextEdge (.mail i) := by
  rw [State.whenBooted_booted booted, State.viaFirmware, takeover]
  rfl

theorem exec_firmwareRequest_waits {s : State} (booted : s.booted = true) (takeover : s.gondola.takeover = true) {c : Instr}
    (request : FirmwareRequest c) : exec c s = .next (s.atNextEdge (.mail c)) := by
  have waits := State.viaFirmware_takeover booted takeover
  rcases request with ⟨a, rfl⟩ | rfl | rfl | ⟨a, b, rfl⟩ | rfl | ⟨k, off, len, rfl⟩ | ⟨k, nonce, rfl⟩ | ⟨k, nonce, rfl⟩ | ⟨key, rfl⟩ |
    ⟨k, rfl⟩ | ⟨off, len, rfl⟩ <;> exact congrArg Host.Outcome.next (waits _ _)

/-! ### Replies -/

/-- Request `c` brings this reply, which enters the transcript with the request (R412). -/
def Replies (s : State) (c : Instr) (request reply : Bytes) : Prop :=
  Completes c s [] [Component.sec, Component.out] fun t =>
    t.out = s.out ++ [.spdm reply] ∧ t.sec.transcript = s.sec.transcript ++ request ++ reply

theorem replies_of {s : State} {c : Instr} {request reply : Bytes} (e : exec c s = .next (s.spdmReply request reply)) :
    Replies s c request reply := ⟨_, e, Same.changes State.spdmReply_frame (by decide +kernel), rfl, rfl⟩

/-- Request `c` brings this content with a nonce of the module's, signed over the transcript (R412). -/
def Signs (s : State) (c : Instr) (request content : Bytes) : Prop :=
  Completes c s [] [Component.sec, Component.out, Component.free] fun t =>
    let body := content ++ natLE 32 s.draw.1
    t.out = s.out ++ [.spdm (body ++ Config.aliasSign s.imageDigest (s.sec.transcript ++ request ++ body))]

theorem signs_of {s : State} {c : Instr} {request content : Bytes} (e : exec c s = .next (s.signedReply request content)) :
    Signs s c request content := ⟨_, e, Same.changes State.signedReply_frame (by decide +kernel), rfl⟩

section
variable {s : State} (booted : s.booted = true) (calm : s.gondola.takeover = false)
include booted calm

theorem execGetVersion_effect : Completes .getVersion s [] [Component.sec, Component.edge, Component.out] fun t =>
    t.out = s.out ++ [.spdm [0x12]] ∧ t.sec = { s.sec with transcript := [0x84, 0x12], negotiated := false } := by
  have e : execGetVersion s = .next s.replyVersion := congrArg Host.Outcome.next (State.viaFirmware_calm booted calm _ _)
  exact ⟨_, e, Same.changes (execGetVersion_frame e) (by decide +kernel), rfl, rfl⟩

theorem execNegotiateAlgorithms_effect : Completes (.negotiateAlgorithms true true) s bookFields [Component.sec, Component.book,
    Component.edge, Component.out] fun t => t.out = s.out ++ [.spdm [1, 1]] ∧ t.sec.negotiated = true := by
  have e : execNegotiateAlgorithms true true s = .next (s.negotiate true true) :=
    congrArg Host.Outcome.next (State.viaFirmware_calm booted calm _ _)
  exact ⟨_, e, Same.changes (execNegotiateAlgorithms_frame e) (by decide +kernel), rfl, rfl⟩

theorem execNegotiateAlgorithms_refused {a b : Bool} (other : (a && b) = false) :
    exec (.negotiateAlgorithms a b) s = .next (s.event 0xC008 0 0) := by
  refine congrArg Host.Outcome.next ((State.viaFirmware_calm booted calm _ _).trans ?_)
  rw [State.negotiate, other, if_neg Bool.false_ne_true, State.spdmRefuse]

theorem execGetCertificate_replies (off len : Nat) :
    Replies s (.getCertificate 0 off len) ([0x82, 0] ++ natLE 2 off ++ natLE 2 len) ((s.chain.drop off).take len) :=
  replies_of (congrArg Host.Outcome.next ((State.viaFirmware_calm booted calm _ _).trans (if_pos rfl)))

theorem execGetCertificate_refused {slot : Nat} (other : slot ≠ 0) (off len : Nat) :
    exec (.getCertificate slot off len) s = .next (s.event 0xC008 0 0) :=
  congrArg Host.Outcome.next ((State.viaFirmware_calm booted calm _ _).trans (if_neg other))

theorem execChallenge_signs {nonce : Bytes} (may : s.mayAttest 0 nonce = true) :
    Signs s (.challenge 0 nonce) ([0x83, 0] ++ nonce) (sha384 s.chain) :=
  signs_of (congrArg Host.Outcome.next ((State.viaFirmware_calm booted calm _ _).trans (if_pos may)))

theorem execGetMeasurements_signs {nonce : Bytes} (may : s.mayAttest 0 nonce = true) {k : Nat} {m : Bytes}
    (known : s.measurement k = some m) : Signs s (.getMeasurements k nonce) ([0xE0] ++ natLE 1 k ++ nonce) (natLE 1 k ++ m) := by
  refine signs_of (congrArg Host.Outcome.next ((State.viaFirmware_calm booted calm _ _).trans ?_))
  rw [State.replyMeasurement, known]
  exact if_pos may

theorem execChallenge_refused {slot : Nat} {nonce : Bytes} (barred : s.mayAttest slot nonce = false) :
    exec (.challenge slot nonce) s = .next (s.event 0xC008 0 0) :=
  congrArg Host.Outcome.next ((State.viaFirmware_calm booted calm _ _).trans (if_neg (by rw [barred]; exact Bool.false_ne_true)))

theorem execGetMeasurements_refused {k : Nat} {nonce : Bytes} (barred : s.measurement k = none ∨ s.mayAttest 0 nonce = false) :
    exec (.getMeasurements k nonce) s = .next (s.event 0xC008 0 0) := by
  refine congrArg Host.Outcome.next ((State.viaFirmware_calm booted calm _ _).trans ?_)
  unfold State.replyMeasurement
  cases known : s.measurement k with
  | none => rfl
  | some m =>
    have closed : s.mayAttest 0 nonce = false := barred.resolve_left (by rw [known]; exact Option.some_ne_none m)
    exact if_neg (by rw [closed]; exact Bool.false_ne_true)

/-! ### The owner key, sensors and the book -/

theorem execOwnerKeyInstall_first {key : Bytes} (size : key.length = 96) (none : s.sec.ownerKey = []) :
    exec (.ownerKeyInstall key) s =
      .next { s with sec := { s.sec with ownerKey := key }, fuses := { s.fuses with ownerDigest := sha384 key } } := by
  refine congrArg Host.Outcome.next ((State.viaFirmware_calm booted calm _ _).trans ?_)
  rw [State.installOwner, if_neg (not_not.2 size), none]
  rfl

theorem execOwnerKeyInstall_again {key : Bytes} (size : key.length = 96) (some' : s.sec.ownerKey ≠ []) :
    exec (.ownerKeyInstall key) s =
      .next (if s.sec.rootOpened then { s with sec := { s.sec with nextOwner := some key } } else s) := by
  refine congrArg Host.Outcome.next ((State.viaFirmware_calm booted calm _ _).trans ?_)
  have full : ¬s.sec.ownerKey.isEmpty = true := by simpa using some'
  rw [State.installOwner, if_neg (not_not.2 size), if_neg full]

theorem execPldmSensorRead_calm (k : Fin 5) : exec (.pldmSensorRead k) s =
    .next ((s.sensor k.val).2.send (.pldm (natLE 4 (s.sensor k.val).1))) :=
  congrArg Host.Outcome.next (State.viaFirmware_calm booted calm _ _)

end

theorem State.sensor_inlet {s : State} {a b : Nat} (told : s.power.climate = some (a, b)) : s.sensor 0 = (a, s) := by
  rw [State.sensor, told]
  rfl

theorem State.sensor_flow {s : State} {a b : Nat} (told : s.power.climate = some (a, b)) : s.sensor 2 = (b, s) := by
  rw [State.sensor, told]
  rfl

theorem State.sensor_free {s : State} {n : Nat} (free : s.power.climate = none ∨ (n ≠ 0 ∧ n ≠ 2)) : s.sensor n = s.draw := by
  unfold State.sensor
  cases told : s.power.climate with
  | none => rfl
  | some x =>
    obtain ⟨inlet, flow⟩ := free.resolve_left (by rw [told]; exact Option.some_ne_none x)
    exact (if_neg inlet).trans (if_neg flow)

end Sys2Proof.Machine
end


section
/-! The logbook: stores, freezes and counts (R389, R392, R398). -/

namespace Sys2Proof.Machine
open Sys2Proof.Safety
-- The evaluations by the kernel follow one another: side by side they would take more memory than the check allows.
set_option Elab.async false

theorem State.mayAttest_iff {s : State} {slot : Nat} {nonce : Bytes} :
    s.mayAttest slot nonce = true ↔ s.sec.negotiated = true ∧ slot = 0 ∧ nonce.length = 32 := by
  simp [State.mayAttest, and_assoc]

theorem State.mayAttest_barred {s : State} {slot : Nat} {nonce : Bytes} :
    s.mayAttest slot nonce = false ↔ s.sec.negotiated = false ∨ slot ≠ 0 ∨ nonce.length ≠ 32 := by
  rw [← Bool.not_eq_true, State.mayAttest_iff, not_and_or, not_and_or, Bool.not_eq_true]

/-! ### An update that reaches the book -/

/-- An update's count of updates, and the queue of a freeze. -/
def State.bookPlace (s : State) : Nat × List (Nat × Nat × Update) × Nat :=
  (s.getA .LOGB_SEQ_SEQ 0, s.book.queue, s.get .LOGB_FRZ_FROZEN 0)

theorem State.bookPlace_withTallies (s : State) (l : Tab (Option Tally)) :
    ({ s with book := { s.book with tallies := l } } : State).bookPlace = s.bookPlace := rfl

theorem State.bookPlace_incA (s : State) {f : Field} (other : Field.LOGB_SEQ_SEQ.code ≠ f.code) (n : Nat) :
    (s.incA f 0 n).bookPlace = s.bookPlace := by
  rw [State.bookPlace, State.incA, State.getA_putA_code _ other, State.putA_get, State.putA_book, State.bookPlace]

theorem State.bookPlace_createTally (s : State) (t : Tally) : (s.createTally t).bookPlace = s.bookPlace := by
  unfold State.createTally
  dsimp only
  split
  · rfl
  · split
    · split
      · rw [State.bookPlace_incA _ (by decide), State.bookPlace_withTallies]
      · rw [State.bookPlace_incA _ (by decide)]
    · rw [State.bookPlace_incA _ (by decide)]

/-- The update is counted. -/
def State.counted (s : State) : State := s.putA .LOGB_SEQ_SEQ 0 (s.getA .LOGB_SEQ_SEQ 0 + 1)

theorem State.bookPlace_counted (s : State) :
    s.counted.bookPlace = ((s.getA .LOGB_SEQ_SEQ 0 + 1) % 2 ^ 64, s.book.queue, s.get .LOGB_FRZ_FROZEN 0) := by
  rw [State.bookPlace, State.counted, State.getA_putA, State.putA_get, State.putA_book]
  rfl

/-- The hour's limits are those of the present hour (R395). -/
def State.hourly (s : State) : State :=
  if s.book.hour = s.get .LOGB_TIME_OP_SEC 0 / 3600 then s
  else { s with book := { s.book with hour := s.get .LOGB_TIME_OP_SEC 0 / 3600, created := [] } }

theorem State.hourly_keeps (s : State) : s.hourly.bookPlace = s.bookPlace ∧ s.hourly.book.tallies = s.book.tallies := by
  unfold State.hourly
  split <;> exact ⟨rfl, rfl⟩

/-- An event whose tally stands makes it one more (R392). -/
theorem State.applyEvent_found {s : State} {code subject k : Nat} {reh : Bool} {y : Tally}
    (found : s.book.findKey code subject reh false = some (k, y)) (st arg : Nat) : s.applyEvent st code subject arg reh =
      { s.counted.hourly with book := { s.counted.hourly.book with
        tallies := Tab.put none s.counted.hourly.book.tallies k (some (y.more arg st)) } } := by
  have found' : s.counted.hourly.book.findKey code subject reh false = some (k, y) := by
    rw [← found, Book.findKey, Book.findKey, s.counted.hourly_keeps.2]
    rfl
  have shape : s.applyEvent st code subject arg reh = match s.counted.hourly.book.findKey code subject reh false with
    | some (i, t) => { s.counted.hourly with book := { s.counted.hourly.book with
        tallies := Tab.put none s.counted.hourly.book.tallies i (some (t.more arg st)) } }
    | none => _ := rfl
  rw [shape, found']

theorem State.bookPlace_applyEvent (s : State) (st code subject arg : Nat) (reh : Bool) :
    (s.applyEvent st code subject arg reh).bookPlace = s.counted.bookPlace := by
  rw [← s.counted.hourly_keeps.1]
  unfold State.applyEvent
  dsimp only
  rw [← State.counted, ← State.hourly]
  generalize s.counted.hourly = u
  split
  · rfl
  · split
    · exact State.bookPlace_createTally _ _
    · split
      · rfl
      · exact State.bookPlace_createTally _ _

theorem State.bookPlace_applySample (s : State) (st hcode subject : Nat) (x : Int) :
    (s.applySample st hcode subject x).bookPlace = s.counted.bookPlace := rfl

theorem State.bookPlace_applyQueued (s : State) (x : Nat × Nat × Update) : (s.applyQueued x).bookPlace = s.counted.bookPlace := by
  unfold State.applyQueued State.applyUpdate
  split
  · exact s.bookPlace_applyEvent _ _ _ _ _
  · exact s.bookPlace_applySample _ _ _ _

/-- Every update of the queue is counted; none joins the queue or starts a freeze (R398). -/
theorem State.applyQueue_place (l : List (Nat × Nat × Update)) (s : State) :
    (l.foldl State.applyQueued s).getA .LOGB_SEQ_SEQ 0 % 2 ^ 64 = (s.getA .LOGB_SEQ_SEQ 0 + l.length) % 2 ^ 64 ∧
    (l.foldl State.applyQueued s).book.queue = s.book.queue ∧
    (l.foldl State.applyQueued s).get .LOGB_FRZ_FROZEN 0 = s.get .LOGB_FRZ_FROZEN 0 := by
  induction l generalizing s with
  | nil => exact ⟨rfl, rfl, rfl⟩
  | cons x l ih =>
    obtain ⟨count, queue, frozen⟩ := ih (s.applyQueued x)
    obtain ⟨one, place⟩ := Prod.mk.inj ((s.bookPlace_applyQueued x).trans s.bookPlace_counted)
    obtain ⟨same, still⟩ := Prod.mk.inj place
    refine ⟨count.trans ?_, queue.trans same, frozen.trans still⟩
    rw [one, List.length_cons, Nat.mod_add_mod, Nat.add_right_comm, Nat.add_assoc]

/-! ### Stores and freezes -/

theorem State.storeBook_keeps (s : State) (orderly : Bool) : (s.storeBook orderly).bookPlace = s.bookPlace := rfl

/-- The book as a freeze's end leaves it: the queue is empty, and its updates are counted (R398). -/
theorem State.thaw_effect {s : State} (frozen : s.get .LOGB_FRZ_FROZEN 0 = 1) :
    s.thaw.get .LOGB_FRZ_FROZEN 0 = 0 ∧ s.thaw.book.queue = [] ∧
    s.thaw.getA .LOGB_SEQ_SEQ 0 % 2 ^ 64 = (s.getA .LOGB_SEQ_SEQ 0 + s.book.queue.length) % 2 ^ 64 := by
  let u : State := ({ s with book := { s.book with queue := [], storeDue := false } } : State).put .LOGB_FRZ_FROZEN 0 0
  obtain ⟨count, queue, still⟩ := State.applyQueue_place s.book.queue u
  have place : s.thaw.bookPlace = (s.book.queue.foldl State.applyQueued u).bookPlace := by
    rw [State.thaw, if_pos frozen]
    dsimp only
    rw [apply_ite State.bookPlace, State.storeBook_keeps, ite_self]
  obtain ⟨count', rest⟩ := Prod.mk.inj place
  obtain ⟨queue', frozen'⟩ := Prod.mk.inj rest
  rw [count', queue', frozen']
  exact ⟨still.trans (State.get_put _ _ _ _), queue, count⟩

/-- The three ways in which a freeze ends (R398). -/
theorem exec_thaws {s : State} {c : Instr} (frozen : s.get .LOGB_FRZ_FROZEN 0 = 1)
    (way : (c = .thaw ∧ s.booted = true) ∨ (c = .freezeTimeout ∧ s.book.frozenAt + 1600000000 ≤ s.now) ∨
      (c = .freezeQueueFull ∧ 16384 ≤ s.book.queue.length)) : exec c s = .next s.thaw := by
  rcases way with ⟨rfl, booted⟩ | ⟨rfl, late⟩ | ⟨rfl, full⟩
  · exact congrArg Host.Outcome.next (State.whenBooted_booted booted _)
  · exact congrArg Host.Outcome.next (if_pos ⟨frozen, late⟩)
  · exact congrArg Host.Outcome.next (if_pos ⟨frozen, full⟩)

theorem execLogbookStore_effect {s : State} (booted : s.booted = true) (open' : s.get .LOGB_FRZ_FROZEN 0 = 0)
    (due : s.book.storeTime % 2 ^ 32 + 60 ≤ s.get .LOGB_TIME_OP_SEC 0) : Completes .logbookStore s [] [Component.book] fun t =>
      t.book.stored = s.book.tallies ∧ t.book.storedHists = s.book.hists ∧ t.book.storeTime = s.stamps ∧
      t.book.tallies = s.book.tallies ∧ t.book.hists = s.book.hists := by
  have e : execLogbookStore s = .next (s.storeBook false) := by
    rw [execLogbookStore, if_pos ⟨booted, open', due⟩]
  have time : (s.storeBook false).book.storeTime = s.stamps + 0 * 2 ^ 48 := rfl
  exact ⟨_, e, Same.changes (execLogbookStore_frame e) (by decide +kernel), rfl, rfl, by rw [time, Nat.zero_mul, Nat.add_zero], rfl, rfl⟩

theorem execFreeze_frozen {s : State} (booted : s.booted = true) (frozen : s.get .LOGB_FRZ_FROZEN 0 = 1) :
    exec .freeze s = .next s := congrArg Host.Outcome.next ((State.whenBooted_booted booted _).trans (if_pos frozen))

theorem execFreeze_effect {s : State} (booted : s.booted = true) (open' : s.get .LOGB_FRZ_FROZEN 0 ≠ 1) :
    Completes .freeze s [Field.LOGB_FRZ_FROZEN] [Component.book] fun t =>
      t.get .LOGB_FRZ_FROZEN 0 = 1 ∧ t.book = { s.book with frozenAt := s.now } := by
  have e : execFreeze s = .next { s.put .LOGB_FRZ_FROZEN 0 1 with book := { s.book with frozenAt := s.now } } :=
    congrArg Host.Outcome.next ((State.whenBooted_booted booted _).trans (if_neg open'))
  exact ⟨_, e, Same.changes (execFreeze_frame e) (by decide +kernel), State.get_put s .LOGB_FRZ_FROZEN 0 1, rfl⟩

/-! ### Events -/

/-- The copy of an update waits for its partition's view (R399). -/
def State.viewed (s : State) (u : Update) : State := match u.view with
  | some p =>
    let v := Tab.get View.init s.book.views p
    { s with book := { s.book with views := Tab.put View.init s.book.views p { v with waiting := v.waiting ++ [u] } } }
  | none => s

theorem State.update_eq (s : State) (u : Update) : s.update u =
    if (s.viewed u).get .LOGB_FRZ_FROZEN 0 = 1 then { s.viewed u with book := { (s.viewed u).book with
      queue := insertUpdate ((s.viewed u).now, (s.viewed u).stamps, u) (s.viewed u).book.queue } }
    else (s.viewed u).applyUpdate (s.viewed u).stamps u := rfl

/-- Views stand apart from the tallies and the queue. -/
theorem State.viewed_keeps (s : State) (u : Update) : (s.viewed u).get = s.get ∧ (s.viewed u).now = s.now ∧
    (s.viewed u).stamps = s.stamps ∧ (s.viewed u).book.tallies = s.book.tallies ∧ (s.viewed u).book.queue = s.book.queue := by
  unfold State.viewed
  split <;> exact ⟨rfl, rfl, rfl, rfl, rfl⟩

/-- During a freeze an event joins the queue, and the tallies stand (R398). -/
theorem State.event_frozen {s : State} (frozen : s.get .LOGB_FRZ_FROZEN 0 = 1) (code subject arg : Nat) :
    (s.event code subject arg).book.queue = insertUpdate (s.now, s.stamps, .event code subject arg s.rehearsal) s.book.queue ∧
    (s.event code subject arg).book.tallies = s.book.tallies := by
  obtain ⟨get, now, stamps, tallies, queue⟩ := s.viewed_keeps (.event code subject arg s.rehearsal)
  rw [State.event, State.update_eq, get, if_pos frozen, ← now, ← stamps, ← tallies, ← queue]
  exact ⟨rfl, rfl⟩

/-- An event whose tally stands makes it one more, and no other (R392). -/
theorem State.event_found {s : State} {code subject k : Nat} {y : Tally} (open' : s.get .LOGB_FRZ_FROZEN 0 ≠ 1)
    (found : s.book.findKey code subject s.rehearsal false = some (k, y)) (arg : Nat) :
    (s.event code subject arg).book.tallies = Tab.put none s.book.tallies k (some (y.more arg s.stamps)) := by
  obtain ⟨get, -, stamps, tallies, -⟩ := s.viewed_keeps (.event code subject arg s.rehearsal)
  have found' : (s.viewed (.event code subject arg s.rehearsal)).book.findKey code subject s.rehearsal false = some (k, y) := by
    rw [← found, Book.findKey, Book.findKey, tallies]
  rw [State.event, State.update_eq, get, if_neg open', State.applyUpdate, State.applyEvent_found found', stamps]
  dsimp only
  rw [(State.hourly_keeps _).2, State.counted, State.putA_book, tallies]

/-! ### The management bus and the logbook together -/

/-- Settles O60: one theorem for each request and each event of the book. -/
theorem managementAndLogbookAnswer : Obligations.ManagementAndLogbookAnswer := by
  intro s
  refine ⟨fun booted => ⟨fun takeover c request => exec_firmwareRequest_waits booted takeover request, fun calm => ?_,
    execLogbookStore_effect booted, execFreeze_frozen booted, execFreeze_effect booted⟩, fun c frozen way => ?_,
    fun code subject arg k y => ⟨fun open' found => ?_, fun frozen => State.event_frozen frozen code subject arg⟩⟩
  · have taken (i : Instr) (t : State) := State.viaFirmware_calm booted calm i t
    refine ⟨fun a => congrArg Host.Outcome.next (taken _ _), execGetVersion_effect booted calm,
      replies_of (congrArg Host.Outcome.next (taken _ _)), execNegotiateAlgorithms_effect booted calm,
      fun a b => execNegotiateAlgorithms_refused booted calm, replies_of (congrArg Host.Outcome.next (taken _ _)),
      execGetCertificate_replies booted calm, fun slot off len other => execGetCertificate_refused booted calm other off len,
      fun nonce negotiated size => ?_, fun slot nonce barred => execChallenge_refused booted calm (State.mayAttest_barred.2 barred),
      fun k nonce barred => execGetMeasurements_refused booted calm ?_,
      fun key size => ⟨execOwnerKeyInstall_first booted calm size, execOwnerKeyInstall_again booted calm size⟩,
      fun k a b told => ⟨fun inlet => ?_, fun flow => ?_, fun other other' => ?_⟩, fun k unknown => ?_,
      fun off len => congrArg Host.Outcome.next (taken _ _)⟩
    · have may : s.mayAttest 0 nonce = true := State.mayAttest_iff.2 ⟨negotiated, rfl, size⟩
      exact ⟨execChallenge_signs booted calm may, fun k m known => execGetMeasurements_signs booted calm may known⟩
    · rcases barred with fresh | unknown | size
      · exact .inr (State.mayAttest_barred.2 (.inl fresh))
      · exact .inl unknown
      · exact .inr (State.mayAttest_barred.2 (.inr (.inr size)))
    · subst inlet
      rw [execPldmSensorRead_calm booted calm]
      exact congrArg (fun r : Nat × State => Host.Outcome.next (r.2.send (.pldm (natLE 4 r.1)))) (State.sensor_inlet told)
    · subst flow
      rw [execPldmSensorRead_calm booted calm]
      exact congrArg (fun r : Nat × State => Host.Outcome.next (r.2.send (.pldm (natLE 4 r.1)))) (State.sensor_flow told)
    · rw [execPldmSensorRead_calm booted calm,
        State.sensor_free (.inr ⟨fun e => other (Fin.ext e), fun e => other' (Fin.ext e)⟩)]
    · rw [execPldmSensorRead_calm booted calm, State.sensor_free (.inl unknown)]
  · exact ⟨_, exec_thaws frozen way, Same.changes State.thaw_frame (by decide +kernel), State.thaw_effect frozen⟩
  · rw [State.event_found open' found]
    exact ⟨Tab.get_put_same _ _ _ _, fun j other => Tab.get_put_other _ _ _ other⟩

end Sys2Proof.Machine
end


section
/-! Firmware images: staging, handovers, confirmation and fallback (R402, R404 to R406). -/

namespace Sys2Proof.Machine
open Sys2Proof.Safety
-- The evaluations by the kernel follow one another: side by side they would take more memory than the check allows.
set_option Elab.async false

/-! ### Staging -/

/-- The image that host memory holds for STAGE (R404). -/
def State.stagedImage (s : State) : Image :=
  imageOf (s.hostRead (s.get .GCTL_FW_IMG_BASE 0 * 4096) (s.get .GCTL_FW_IMG_LENGTH 0 * 4096))

theorem State.imageFail_lt (s : State) (i : Option Image) : s.imageFail i < 16 := by
  unfold State.imageFail
  split
  · decide
  · split
    · decide
    · split
      · decide
      · split <;> decide

theorem State.prevSlot_le (s : State) : s.prevSlot ≤ 1 := Nat.sub_le _ _

/-- The previous slot takes the image (R404). -/
def State.fillPrevious (s : State) (i : Image) : State :=
  if s.prevSlot = 0 then { s with sec := { s.sec with slotA := some i } } else { s with sec := { s.sec with slotB := some i } }

theorem State.stage_eq (s : State) : s.stage = if s.imageFail (some s.stagedImage) = 0 then
    (s.fillPrevious s.stagedImage).put .GCTL_FW_STAT_STAGE_RESULT 0 1
  else (s.put .GCTL_FW_STAT_STAGE_RESULT 0 (s.imageFail (some s.stagedImage))).event 0xC001 s.prevSlot
    (s.imageFail (some s.stagedImage)) := rfl

theorem State.fillPrevious_slots (s : State) (i : Image) : (s.fillPrevious i).slotImage s.prevSlot = some i ∧
    (s.fillPrevious i).slotImage (1 - s.prevSlot) = s.slotImage (1 - s.prevSlot) := by
  unfold State.fillPrevious
  by_cases first : s.prevSlot = 0
  · rw [if_pos first, first]
    exact ⟨rfl, rfl⟩
  · have second : s.prevSlot = 1 := Nat.le_antisymm s.prevSlot_le (Nat.one_le_iff_ne_zero.2 first)
    rw [if_neg first, second]
    exact ⟨rfl, rfl⟩

theorem State.fillPrevious_host (s : State) (i : Image) : (s.fillPrevious i).host = s.host := by
  unfold State.fillPrevious
  split <;> rfl

/-- An image that checks is staged; of one that does not, the result says why not (R402, R404). -/
theorem State.stage_effect (s : State) : s.stage.host = s.host ∧
    (s.imageFail (some s.stagedImage) = 0 → s.stage.get .GCTL_FW_STAT_STAGE_RESULT 0 = 1 ∧
      s.stage.slotImage s.prevSlot = some s.stagedImage ∧ s.stage.slotImage (1 - s.prevSlot) = s.slotImage (1 - s.prevSlot)) ∧
    (s.imageFail (some s.stagedImage) ≠ 0 →
      s.stage.get .GCTL_FW_STAT_STAGE_RESULT 0 = s.imageFail (some s.stagedImage) ∧ s.stage.sec = s.sec) := by
  rw [State.stage_eq]
  by_cases good : s.imageFail (some s.stagedImage) = 0
  · rw [if_pos good]
    exact ⟨s.fillPrevious_host _, fun _ => ⟨State.get_put _ _ _ _, s.fillPrevious_slots _⟩, fun bad => absurd good bad⟩
  · rw [if_neg good]
    refine ⟨State.event_host _ _ _ _, fun h => absurd h good, fun _ => ⟨?_, State.event_sec _ _ _ _⟩⟩
    rw [State.get_event _ _ _ _ _ (by decide) (by decide), State.get_put]
    exact Nat.mod_eq_of_lt (s.imageFail_lt _)

theorem execStage_unconfirmed {s : State} (booted : s.booted = true) (mem : List (Nat × Byte)) (once : s.sec.bootedOnce = true) :
    exec (.stage mem) s = .next ((s.fed mem).ignored 0x1810) :=
  congrArg Host.Outcome.next ((State.whenBooted_booted (s := s.fed mem) booted _).trans (if_pos once))

theorem execStage_stages {s : State} (booted : s.booted = true) (mem : List (Nat × Byte)) (free : s.sec.bootedOnce = false) :
    execStage mem s = .next (s.fed mem).stage :=
  congrArg Host.Outcome.next ((State.whenBooted_booted (s := s.fed mem) booted _).trans
    (if_neg fun once => Bool.false_ne_true (free.symm.trans once)))

/-! ### The settings that an image selects -/

theorem State.sec_logBadRecords (s : State) (own : Nat) : (s.logBadRecords own).sec = s.sec :=
  State.logBadRecords_frame.sec (by decide)

/-- A translation at most stores a record (R408). -/
theorem State.translate_cases (s : State) (own : Nat) (r : Settings) :
    s.translate own r = s ∨ ∃ x : Settings, x.schema = own ∧ s.translate own r = s.storeRecord x := by
  unfold State.translate
  split
  · exact .inl rfl
  · exact .inr ⟨_, rfl, rfl⟩

theorem State.translate_bootedOnce (s : State) (own : Nat) (r : Settings) :
    (s.translate own r).sec.bootedOnce = s.sec.bootedOnce := by
  obtain e | ⟨x, -, e⟩ := s.translate_cases own r
  · rw [e]
  · rw [e, State.storeRecord]

theorem State.selectSettings_bootedOnce (s : State) (own : Nat) : (s.selectSettings own).sec.bootedOnce = s.sec.bootedOnce := by
  have logged := congrArg Security.bootedOnce (s.sec_logBadRecords own)
  rw [← logged]
  unfold State.selectSettings
  dsimp only
  generalize s.logBadRecords own = u
  split
  · next r _ => exact u.translate_bootedOnce own r
  · rw [State.event_sec]
    rfl

/-! ### Handovers -/

theorem State.halfState_put (s : State) {f : Field} (gw : Field.GCTL_FW_STAT_GW_STATE.code ≠ f.code)
    (ge : Field.GCTL_FW_STAT_GE_STATE.code ≠ f.code) (i v : Nat) : (s.put f i v).halfState = s.halfState := by
  funext g
  rw [State.halfState, State.halfState, State.get_put_code _ gw, State.get_put_code _ ge]

theorem standbyHalf (f : Nat) : (1 - (1 - f) = 0) ≠ (1 - f = 0) := by
  obtain e | e : 1 - f = 0 ∨ 1 - f = 1 := by omega
  · rw [e]
    decide
  · rw [e]
    decide

/-- The new firmware runs on the standby half, and the slots have exchanged their roles (R405). -/
def State.tookOver (s : State) : State :=
  ((s.setHalf (1 - (1 - s.gondola.firmware)) 1).takeOver (1 - s.gondola.firmware)).swapSlots

theorem State.tookOver_halves (s : State) : s.tookOver.halfState (1 - s.gondola.firmware) = 2 ∧
    s.tookOver.halfState (1 - (1 - s.gondola.firmware)) = 1 := by
  have swapped (t : State) : t.swapSlots.halfState = t.halfState := t.halfState_put (by decide) (by decide) _ _
  have other (t : State) (g k : Nat) : (t.takeOver g).halfState k = (t.setHalf g 2).halfState k := rfl
  rw [State.tookOver, swapped, (State.takeOver_effect _ _).1, other,
    State.halfState_setHalf_other _ (standbyHalf s.gondola.firmware), State.halfState_setHalf _ _ (by decide)]
  exact ⟨rfl, rfl⟩

theorem State.tookOver_slot (s : State) : s.tookOver.get .GCTL_FW_STAT_BOOT_SLOT 0 = s.prevSlot := by
  have kept (g h v : Nat) : ((s.setHalf h v).takeOver g).prevSlot = s.prevSlot := by
    rw [State.prevSlot, State.bootSlot, State.takeOver_frame.reg _ _ (by decide) (by decide),
      State.setHalf_frame.reg _ _ (by decide) (by decide), State.prevSlot, State.bootSlot]
  rw [State.tookOver, State.swapSlots, State.get_put, kept]
  exact Nat.mod_eq_of_lt (Nat.lt_succ_of_le s.prevSlot_le)

theorem State.tookOver_firmware (s : State) : s.tookOver.gondola.firmware = 1 - s.gondola.firmware :=
  (State.takeOver_effect _ _).2.1

/-- The handover is noted, and its result stands (R405). -/
def State.handedOver (s : State) (new : Image) : State :=
  ((({ s.tookOver with
    sec := { s.tookOver.sec with bootedOnce := true, confirmed := false, fallback := false }
    gondola := { s.tookOver.gondola with handover := 3 } } : State).put .GCTL_FW_STAT_HANDOVER_RESULT 0 1).put
      .GCTL_FW_STAT_CONFIRMED 0 0).event 0xC000 (1 - s.gondola.firmware) new.svn

theorem State.handOver_eq (s : State) (new : Image) : s.handOver new =
    ((s.handedOver new).runImage new).put .ID_SIGNATURE_SIG 0 (((s.handedOver new).runImage new).signatureOf new.microcode) := rfl

theorem State.handedOver_get (s : State) (new : Image) {f : Field} (h : f.code < 400)
    (k : Nat.testBit
      0x2000000000000000000000000000000000001c000000000000000000000000000000000000000000000000000000000000000000000 f.code = false)
    (result : f.code ≠ Field.GCTL_FW_STAT_HANDOVER_RESULT.code) (confirmed : f.code ≠ Field.GCTL_FW_STAT_CONFIRMED.code) (i : Nat) :
    (s.handedOver new).get f i = s.tookOver.get f i := by
  rw [State.handedOver, State.get_event _ _ _ _ _ h k, State.get_put_code _ confirmed, State.get_put_code _ result]
  rfl

theorem State.handedOver_shows (s : State) (new : Image) : (s.handedOver new).get .GCTL_FW_STAT_HANDOVER_RESULT 0 = 1 ∧
    (s.handedOver new).get .GCTL_FW_STAT_CONFIRMED 0 = 0 ∧ (s.handedOver new).gondola.handover = 3 ∧
    (s.handedOver new).gondola.firmware = s.tookOver.gondola.firmware ∧ (s.handedOver new).sec.bootedOnce = true := by
  rw [State.handedOver, State.get_event _ _ _ _ _ (by decide) (by decide), State.get_event _ _ _ _ _ (by decide) (by decide),
    State.get_put_code _ (by decide), State.get_put, State.get_put, State.event_gondola, State.event_sec]
  exact ⟨rfl, rfl, rfl, rfl, rfl⟩

/-- A handover whose checks pass (R405). -/
theorem State.handOver_effect (s : State) (new : Image) : (s.handOver new).gondola.handover = 3 ∧
    (s.handOver new).halfState (1 - s.gondola.firmware) = 2 ∧ (s.handOver new).halfState (1 - (1 - s.gondola.firmware)) = 1 ∧
    (s.handOver new).gondola.firmware = 1 - s.gondola.firmware ∧ (s.handOver new).get .GCTL_FW_STAT_HANDOVER_RESULT 0 = 1 ∧
    (s.handOver new).get .GCTL_FW_STAT_BOOT_SLOT 0 = s.prevSlot ∧ (s.handOver new).get .GCTL_FW_STAT_CONFIRMED 0 = 0 ∧
    (s.handOver new).sec.bootedOnce = true := by
  obtain ⟨result, confirmed, handover, firmware, once⟩ := s.handedOver_shows new
  obtain ⟨runs, reboots⟩ := s.tookOver_halves
  have slot := (s.handedOver_get new (f := .GCTL_FW_STAT_BOOT_SLOT) (by decide) (by decide) (by decide) (by decide) 0).trans s.tookOver_slot
  have halves : (s.handedOver new).halfState = s.tookOver.halfState := by
    funext g
    rw [State.halfState, State.halfState, s.handedOver_get new (by decide) (by decide) (by decide) (by decide),
      s.handedOver_get new (by decide) (by decide) (by decide) (by decide)]
  have same : (s.handOver new).halfState = (s.handedOver new).halfState := by
    rw [State.handOver_eq, State.halfState_put _ (by decide) (by decide)]
    exact State.halfState_frame State.runImage_frame (by decide) (by decide)
  have gondola : ((s.handedOver new).runImage new).gondola = (s.handedOver new).gondola := State.runImage_frame.gondola (by decide)
  have sec : ((s.handedOver new).runImage new).sec.bootedOnce = (s.handedOver new).sec.bootedOnce :=
    State.selectSettings_bootedOnce _ _
  rw [same, halves, runs, reboots, State.handOver_eq, State.put_gondola, State.put_sec, gondola, sec, handover, firmware, once,
    State.get_put_code _ (by decide), State.get_put_code _ (by decide), State.get_put_code _ (by decide),
    State.runImage_frame.reg _ _ (by decide) (by decide), State.runImage_frame.reg _ _ (by decide) (by decide),
    State.runImage_frame.reg _ _ (by decide) (by decide), result, slot, confirmed]
  exact ⟨rfl, rfl, rfl, s.tookOver_firmware, rfl, rfl, rfl, rfl⟩

/-- A handover whose checks fail (R405). -/
theorem State.handoverFails_effect (s : State) : s.handoverFails.gondola.handover = 3 ∧
    s.handoverFails.get .GCTL_FW_STAT_HANDOVER_RESULT 0 = 2 ∧ s.handoverFails.halfState = s.halfState ∧
    s.handoverFails.get .GCTL_FW_STAT_BOOT_SLOT 0 = s.get .GCTL_FW_STAT_BOOT_SLOT 0 := by
  have kept {f : Field} (h : f.code < 400) (k : Nat.testBit
      0x2000000000000000000000000000000000001c000000000000000000000000000000000000000000000000000000000000000000000 f.code = false)
      (other : f.code ≠ Field.GCTL_FW_STAT_HANDOVER_RESULT.code) :
      s.handoverFails.get f 0 = s.get f 0 := by
    rw [State.handoverFails, State.get_event _ _ _ _ _ h k, State.get_put_code _ other]
    rfl
  refine ⟨congrArg Gondola.handover (State.event_gondola _ _ _ _), ?_, ?_, kept (by decide) (by decide) (by decide)⟩
  · rw [State.handoverFails, State.get_event _ _ _ _ _ (by decide) (by decide), State.get_put]
    rfl
  · funext g
    rw [State.halfState, State.halfState, kept (by decide) (by decide) (by decide), kept (by decide) (by decide) (by decide)]

theorem execHandoverTakeover_due {s : State} {o n : Image} (due : s.gondola.handover = 2) (edge : s.atEdge = true)
    (old : s.bootImage = some o) (new : s.slotImage s.prevSlot = some n) : execHandoverTakeover s =
      .next (if s.handoverPasses o n then s.handOver n else s.handoverFails) := by
  rw [execHandoverTakeover, if_pos ⟨due, edge⟩, old, new]

theorem execHandoverTakeover_effect {s : State} {o n : Image} (due : s.gondola.handover = 2) (edge : s.atEdge = true)
    (old : s.bootImage = some o) (new : s.slotImage s.prevSlot = some n) :
    Completes .handoverTakeover s (bookFields ++ [Field.GCTL_FW_STAT_BOOT_SVN, Field.GCTL_FW_STAT_HANDOVER_RESULT,
        Field.GCTL_FW_STAT_UNREADABLE, Field.GCTL_FW_STAT_CONFIRMED] ++ [Field.GCTL_FW_STAT_BOOT_SLOT, Field.GCTL_FW_STAT_SCHEMA,
          Field.GCTL_FW_STAT_GE_STATE, Field.GCTL_FW_STAT_GW_STATE]
          ++ [Field.ID_SIGNATURE_SIG]) [Component.cmds, Component.gondola, Component.sec, Component.book] fun t =>
        t.gondola.handover = 3 ∧
        (s.handoverPasses o n = true → t.halfState (1 - s.gondola.firmware) = 2 ∧ t.halfState (1 - (1 - s.gondola.firmware)) = 1 ∧
          t.gondola.firmware = 1 - s.gondola.firmware ∧
          t.get .GCTL_FW_STAT_HANDOVER_RESULT 0 = 1 ∧ t.get .GCTL_FW_STAT_BOOT_SLOT 0 = s.prevSlot ∧
          t.get .GCTL_FW_STAT_CONFIRMED 0 = 0 ∧ t.sec.bootedOnce = true) ∧
        (s.handoverPasses o n = false → t.get .GCTL_FW_STAT_HANDOVER_RESULT 0 = 2 ∧ t.halfState 0 = s.halfState 0 ∧
          t.halfState 1 = s.halfState 1 ∧ t.get .GCTL_FW_STAT_BOOT_SLOT 0 = s.get .GCTL_FW_STAT_BOOT_SLOT 0) := by
  have e := execHandoverTakeover_due due edge old new
  refine ⟨_, e, Same.changes (execHandoverTakeover_frame e) (by decide +kernel), ?_⟩
  cases passes : s.handoverPasses o n with
  | true =>
    rw [if_pos rfl]
    obtain ⟨handover, rest⟩ := s.handOver_effect n
    exact ⟨handover, fun _ => rest, nofun⟩
  | false =>
    rw [if_neg Bool.false_ne_true]
    obtain ⟨handover, result, halves, slot⟩ := s.handoverFails_effect
    exact ⟨handover, nofun, fun _ => ⟨result, congrFun halves 0, congrFun halves 1, slot⟩⟩

/-! ### The reboot of the standby half, confirmation and fallback -/

theorem execStandbyRebootDone_effect {s : State} (due : s.gondola.handover = 3) (reboots : s.halfState (1 - s.gondola.firmware) = 1) :
    Completes .standbyRebootDone s (bookFields ++ [Field.GCTL_FW_STAT_GE_STATE,
      Field.GCTL_FW_STAT_GW_STATE]) [Component.gondola, Component.book] fun t =>
      t.halfState (1 - s.gondola.firmware) = 3 ∧ t.gondola = { s.gondola with handover := 0 } := by
  have e : execStandbyRebootDone s = .next { (s.setHalf (1 - s.gondola.firmware) 3).event 0xC000 (1 - s.gondola.firmware)
      (s.get .GCTL_FW_STAT_BOOT_SVN 0) with gondola := { s.gondola with handover := 0 } } :=
    congrArg Host.Outcome.next (if_pos ⟨due, reboots⟩)
  refine ⟨_, e, Same.changes (execStandbyRebootDone_frame e) (by decide +kernel), ?_, rfl⟩
  have logged := congrFun (State.halfState_frame (State.event_frame (s := s.setHalf (1 - s.gondola.firmware) 3) (code := 0xC000)
    (subject := 1 - s.gondola.firmware) (arg := s.get .GCTL_FW_STAT_BOOT_SVN 0)) (by decide) (by decide)) (1 - s.gondola.firmware)
  exact logged.trans (State.halfState_setHalf _ _ (by decide))

/-- The fuses are blown up to the boot image's SVN, and the update is confirmed (R406). -/
def State.blown (s : State) : State :=
  { s with
    fuses := { s.fuses with svn := max s.fuses.svn (s.get .GCTL_FW_STAT_BOOT_SVN 0) }
    sec := { s.sec with bootedOnce := false, confirmed := true } }

theorem State.confirm_eq (s : State) : s.confirm = ((s.blown.put .GCTL_FW_STAT_FUSED_SVN 0 s.blown.fuses.svn).put
    .GCTL_FW_STAT_CONFIRMED 0 1).event 0xC005 0 (s.get .GCTL_FW_STAT_BOOT_SVN 0) := rfl

theorem State.confirm_effect (s : State) : s.confirm.fuses = s.blown.fuses ∧ s.confirm.sec = s.blown.sec ∧
    s.confirm.get .GCTL_FW_STAT_FUSED_SVN 0 = s.blown.fuses.svn % 2 ^ 6 ∧ s.confirm.get .GCTL_FW_STAT_CONFIRMED 0 = 1 := by
  rw [State.confirm_eq, State.event_sec, State.event_fuses, State.get_event _ _ _ _ _ (by decide) (by decide),
    State.get_event _ _ _ _ _ (by decide) (by decide), State.get_put_code _ (by decide), State.get_put, State.get_put]
  exact ⟨rfl, rfl, rfl, rfl⟩

theorem execConfirm_effect {s : State} (booted : s.booted = true) : Completes .confirm s (bookFields ++ [Field.GCTL_FW_STAT_FUSED_SVN,
      Field.GCTL_FW_STAT_CONFIRMED]) [Component.fuses, Component.sec, Component.book] fun t =>
      t.fuses.svn = max s.fuses.svn (s.get .GCTL_FW_STAT_BOOT_SVN 0) ∧ t.get .GCTL_FW_STAT_FUSED_SVN 0 = t.fuses.svn % 2 ^ 6 ∧
      t.get .GCTL_FW_STAT_CONFIRMED 0 = 1 ∧ t.sec = { s.sec with bootedOnce := false, confirmed := true } := by
  have e : execConfirm s = .next s.confirm := congrArg Host.Outcome.next (State.whenBooted_booted booted _)
  obtain ⟨fuses, sec, fused, confirmed⟩ := s.confirm_effect
  exact ⟨_, e, Same.changes (execConfirm_frame e) (by decide +kernel), congrArg Fuses.svn fuses, fused.trans (by rw [fuses]),
    confirmed, sec⟩

theorem execFallback_refused {s : State} (booted : s.booted = true) (refused : s.fallbackRefused = true) :
    exec .fallback s = .next (s.ignored 0x1810) :=
  congrArg Host.Outcome.next ((State.whenBooted_booted booted _).trans (if_pos refused))

theorem execFallback_effect {s : State} (booted : s.booted = true) (taken : s.fallbackRefused = false) :
    Completes .fallback s bookFields [Component.sec, Component.book] fun t => t.sec = { s.sec with fallback := true } := by
  have e : execFallback s = .next (({ s with sec := { s.sec with fallback := true } } : State).event 0xC005 1
      (s.get .GCTL_FW_STAT_BOOT_SVN 0)) := by
    rw [execFallback, State.whenBooted_booted booted, taken, if_neg Bool.false_ne_true]
  exact ⟨_, e, Same.changes (execFallback_frame e) (by decide +kernel), State.event_sec _ _ _ _⟩

end Sys2Proof.Machine
end


section
/-! The settings store (R407, R408, R410). -/

namespace Sys2Proof.Machine
open Sys2Proof.Safety
-- The evaluations by the kernel follow one another: side by side they would take more memory than the check allows.
set_option Elab.async false

/-- The schema of the firmware that runs. -/
def State.ownSchema (s : State) : Nat := match s.bootImage with
  | some i => i.schema
  | none => 0

theorem State.recordResult_eq (s : State) (r : Settings) : s.recordResult r =
    if r.schema = 0 ∨ s.ownSchema < r.schema then 2
    else if State.recordDigestOk r = false then 3
    else if s.recordSigned r = false then 4
    else if r.gen ≠ Tab.get 0 s.sec.index r.schema + 1 then 5
    else 1 := rfl

theorem State.recordResult_lt (s : State) (r : Settings) : s.recordResult r < 8 := by
  rw [State.recordResult_eq]
  split
  · decide
  · split
    · decide
    · split
      · decide
      · split <;> decide

/-- An accepted record has its digest and its signature (R407, R410). -/
theorem State.recordResult_accepted {s : State} {r : Settings} (accepted : s.recordResult r = 1) :
    State.recordDigestOk r = true ∧ s.recordSigned r = true := by
  rw [State.recordResult_eq] at accepted
  split at accepted
  · exact absurd accepted (by decide)
  · split at accepted
    · exact absurd accepted (by decide)
    · next digest =>
      split at accepted
      · exact absurd accepted (by decide)
      · next signed => exact ⟨Bool.of_not_eq_false digest, Bool.of_not_eq_false signed⟩

/-- The store holds the record, under its index entry (R407). -/
def Holds (r : Settings) (s : State) : Prop := r ∈ s.sec.settings ∧ Tab.get 0 s.sec.index r.schema = r.gen

theorem Holds.of_sec {r : Settings} {s t : State} (h : Holds r s) (same : t.sec = s.sec) : Holds r t := by
  rw [Holds, same]
  exact h

theorem State.storeRecord_holds (s : State) (r : Settings) : Holds r (s.storeRecord r) :=
  ⟨List.mem_append_right _ List.mem_cons_self, Tab.get_put_same _ _ _ _⟩

/-- A record of another schema leaves the store as it is for this one. -/
theorem Holds.storeRecord {r : Settings} {s : State} (h : Holds r s) {x : Settings} (other : r.schema ≠ x.schema) :
    Holds r (s.storeRecord x) := by
  obtain ⟨listed, entry⟩ := h
  refine ⟨List.mem_append_left _ (List.mem_filter.2 ⟨listed, ?_⟩), (Tab.get_put_other _ _ _ other).trans entry⟩
  simpa using other

/-- A record that checks stays through a translation: the firmware's own schema is not translated where the store has one (R408). -/
theorem Holds.translate {r : Settings} {s : State} (h : Holds r s) (checks : s.recordChecks r = true) (own : Nat) (x : Settings) :
    Holds r (s.translate own x) := by
  by_cases same : r.schema = own
  · have present : (s.sec.settings.any fun x => x.schema == own && s.recordChecks x) = true :=
      List.any_eq_true.2 ⟨r, h.1, by simp [same, checks]⟩
    rw [State.translate, if_pos present]
    exact h
  · obtain e | ⟨y, schema, e⟩ := s.translate_cases own x
    · rw [e]
      exact h
    · rw [e]
      exact h.storeRecord (schema ▸ same)

theorem State.recordChecks_of_sec {s t : State} (h : t.sec = s.sec) (r : Settings) : t.recordChecks r = s.recordChecks r := by
  rw [State.recordChecks, State.recordChecks, State.recordSigned, State.recordSigned, h]

theorem Holds.selectSettings {r : Settings} {s : State} (h : Holds r s) (checks : s.recordChecks r = true) (own : Nat) :
    Holds r (s.selectSettings own) := by
  have logged := h.of_sec (s.sec_logBadRecords own)
  have still : (s.logBadRecords own).recordChecks r = true := (State.recordChecks_of_sec (s.sec_logBadRecords own) r).trans checks
  unfold State.selectSettings
  dsimp only
  generalize s.logBadRecords own = u at logged still
  split
  · next x _ => exact logged.translate still own x
  · refine Holds.of_sec (s := ({ u with sec := { u.sec with selected := none } } : State).put .GCTL_FW_STAT_UNREADABLE 0 1) logged
      (State.event_sec _ _ _ _)

/-! ### SETTINGS_WRITE -/

/-- Bring-up that completes from Ring 7 leaves the store as it is (R409). -/
theorem State.sec_completed (s : State) : (if s.power.ring = 8 then
    ((List.range 16).foldl (fun (s : State) e => s.recheckLaser e) s).completeBringUp else s).sec = s.sec := by
  split
  · rw [State.completeBringUp_frame.sec (by decide), foldl_kept State.sec fun _ _ => State.recheckLaser_frame.sec (by decide)]
  · rfl

/-- The set-points of the settings leave the store as it is (R352). -/
theorem State.sec_setPoints (s : State) (p : Nat) : ((List.range 96).foldl (fun (s : State) n =>
    if s.get .CORE_BIND_DISABLED n = 1 then s else s.put .PWR_DOM_STAT_SETPOINT n (max p (s.get .CORE_BIST_VMIN n + 5))) s).sec = s.sec := by
  refine foldl_kept State.sec (fun t n => ?_) _ _
  split <;> rfl

/-- What becomes of the records when settings can be read again is their selection (R409, R410). -/
theorem State.sec_readableAgain (s : State) : ∃ own, s.readableAgain.sec = (s.selectSettings own).sec := by
  unfold State.readableAgain
  extract_lets own u v p w
  refine ⟨own, ?_⟩
  change _ = u.sec
  have set : w.sec = u.sec := (v.sec_setPoints p).trans (State.applySettings_frame.sec (by decide))
  clear_value w v u
  split
  · rfl
  · exact w.sec_completed.trans set

/-- The state with the result of a settings write (R410). -/
def State.judged (s : State) : State := s.put .GCTL_FW_STAT_SET_RESULT 0 (s.recordResult s.hostRecord)

theorem State.writeSettings_eq (s : State) : s.writeSettings = if s.recordResult s.hostRecord = 1 then
    (if (s.judged.storeRecord s.hostRecord).get .GCTL_FW_STAT_UNREADABLE 0 = 1 then (s.judged.storeRecord s.hostRecord).readableAgain
      else s.judged.storeRecord s.hostRecord) else s.judged := rfl

theorem State.judged_result (s : State) : s.judged.get .GCTL_FW_STAT_SET_RESULT 0 = s.recordResult s.hostRecord :=
  (State.get_put _ _ _ _).trans (Nat.mod_eq_of_lt (s.recordResult_lt _))

theorem State.storeRecord_checks {s : State} {r : Settings} (accepted : s.recordResult r = 1) :
    (s.judged.storeRecord r).recordChecks r = true := by
  obtain ⟨digest, signed⟩ := State.recordResult_accepted accepted
  have signed' : (s.judged.storeRecord r).recordSigned r = true := signed
  rw [State.recordChecks, digest, signed', (State.storeRecord_holds s.judged r).2]
  simp

/-- A settings write: its result stands, and an accepted record is in the store (R407, R410). -/
theorem State.writeSettings_effect (s : State) : s.writeSettings.host = s.host ∧
    s.writeSettings.get .GCTL_FW_STAT_SET_RESULT 0 = s.recordResult s.hostRecord ∧
    (s.recordResult s.hostRecord ≠ 1 → s.writeSettings.sec = s.sec) ∧
    (s.recordResult s.hostRecord = 1 → Holds s.hostRecord s.writeSettings) := by
  rw [State.writeSettings_eq]
  by_cases accepted : s.recordResult s.hostRecord = 1
  · rw [if_pos accepted]
    have checks := State.storeRecord_checks accepted
    have holds := State.storeRecord_holds s.judged s.hostRecord
    have host : (s.judged.storeRecord s.hostRecord).host = s.host := rfl
    have result : (s.judged.storeRecord s.hostRecord).get .GCTL_FW_STAT_SET_RESULT 0 = s.recordResult s.hostRecord := s.judged_result
    generalize s.judged.storeRecord s.hostRecord = u at *
    obtain ⟨own, readable⟩ := u.sec_readableAgain
    split
    · exact ⟨(State.readableAgain_frame.host (by decide)).trans host,
        (State.readableAgain_frame.reg _ _ (by decide) (by decide)).trans result, fun h => absurd accepted h,
        fun _ => (holds.selectSettings checks own).of_sec readable⟩
    · exact ⟨host, result, fun h => absurd accepted h, fun _ => holds⟩
  · rw [if_neg accepted]
    exact ⟨rfl, s.judged_result, fun _ => rfl, fun h => absurd h accepted⟩

theorem execSettingsWrite_waits {s : State} (booted : s.booted = true) (mem : List (Nat × Byte)) (takeover : s.gondola.takeover = true) :
    exec (.settingsWrite mem) s = .next ((s.fed mem).atNextEdge (.mail (.settingsWrite []))) :=
  congrArg Host.Outcome.next (State.viaFirmware_takeover (s := s.fed mem) booted takeover _ _)

theorem execSettingsWrite_writes {s : State} (booted : s.booted = true) (mem : List (Nat × Byte)) (calm : s.gondola.takeover = false) :
    execSettingsWrite mem s = .next (s.fed mem).writeSettings :=
  congrArg Host.Outcome.next (State.viaFirmware_calm (s := s.fed mem) booted calm _ _)

end Sys2Proof.Machine
end


section
/-! A debug opening (R416, R418). -/

namespace Sys2Proof.Machine
open Sys2Proof.Safety
-- The evaluations by the kernel follow one another: side by side they would take more memory than the check allows.
set_option Elab.async false

/-! ### Keys -/

/-- Partition `p` has no key, and none shows as loaded (R416). -/
def Keyless (p : Nat) (s : State) : Prop := (s.part p).keys.keys = [] ∧ s.get .PART_KEY_STAT_LOADED p = 0

theorem Keyless.of_same {p : Nat} {s t : State} (h : Keyless p s) (parts : t.parts = s.parts)
    (shown : t.get .PART_KEY_STAT_LOADED p = s.get .PART_KEY_STAT_LOADED p) : Keyless p t := by
  rw [Keyless, State.part_of_parts parts, shown]
  exact h

theorem State.eraseKeys_keyless (s : State) (p : Nat) : Keyless p (s.eraseKeys p) :=
  ⟨(s.eraseKeys_effect p).1, (s.eraseKeys_effect p).2.1⟩

/-- The erasure of another partition's keys brings none back. -/
theorem Keyless.eraseKeys {p q : Nat} {s : State} (h : Keyless p s) (other : q ≠ p) : Keyless p (s.eraseKeys q) := by
  obtain ⟨keys, loaded⟩ := h
  unfold State.eraseKeys
  extract_lets bare shown
  have parts : shown.parts = bare.parts := foldl_kept State.parts (fun t i => t.putA_parts _ _ _) _ bare
  have still : shown.get .PART_KEY_STAT_LOADED p = 0 :=
    (foldl_kept (fun t : State => t.get .PART_KEY_STAT_LOADED p) (fun t i => t.putA_get _ _ _ _ _) _ bare).trans loaded
  have apart : bare.part p = s.part p := State.part_setPart_other _ _ other.symm
  clear_value shown bare
  refine ⟨?_, State.get_put_again (v := 0) still q⟩
  rw [State.put_part, State.part_of_parts parts, apart, keys]

/-- The keys of every partition are erased (R418). -/
def State.unkeyed (s : State) : State := (List.range 16).foldl (fun (s : State) p => s.eraseKeys p) s

theorem State.unkeyed_keyless (s : State) {p : Nat} (h : p < 16) : Keyless p s.unkeyed :=
  foldl_reaches (I := fun _ => True) (P := Keyless p) (List.mem_range.2 h) (fun _ _ _ => trivial)
    (fun t _ => t.eraseKeys_keyless p) (fun _ _ _ other k => k.eraseKeys other) trivial

theorem State.unkeyed_frame (s : State) : Same 0x20000000000000000000000081000000000000000000000000000000000000000000000000000000000000000000000000000000 s
    s.unkeyed := Same.foldl (fun _ _ h => Same.via State.eraseKeys_frame (by decide) h) _ Same.refl

/-! ### What is cleared -/

/-- The clearing of every position that is in service is asked for (R418). -/
def State.coresAsked (s : State) : State :=
  (List.range 96).foldl (fun (s : State) n => if s.get .CORE_BIND_DISABLED n = 1 then s else s.atNextEdge (.core n 5)) s

/-- What the requests leave alone: everything but the list of requests. -/
theorem State.coresAsked_keeps {α : Type} (g : State → α) (kept : ∀ (t : State) (r : EdgeReq), g (t.atNextEdge r) = g t) (s : State) :
    g s.coresAsked = g s := by
  refine foldl_kept g (fun t n => ?_) _ _
  split
  · rfl
  · exact kept _ _

theorem State.coresAsked_edge (s : State) {n : Nat} (h : n < 96) (enabled : s.get .CORE_BIND_DISABLED n ≠ 1) :
    EdgeReq.core n 5 ∈ s.coresAsked.edge := by
  refine foldl_reaches (I := fun t : State => t.get .CORE_BIND_DISABLED n = s.get .CORE_BIND_DISABLED n)
    (P := fun t : State => EdgeReq.core n 5 ∈ t.edge) (List.mem_range.2 h) (fun t m same => ?_) (fun t same => ?_)
    (fun t m _ _ asked => ?_) rfl
  · split
    · exact same
    · exact same
  · rw [if_neg (by rw [same]; exact enabled)]
    exact List.mem_append_right _ List.mem_cons_self
  · split
    · exact asked
    · exact List.mem_append_left _ asked

/-- Keys are locked, and the opening is under way (R418). -/
def State.openingBy (s : State) (who : Nat) : State :=
  { s with sec := { s.sec with keysLocked := true, opening := true, rootOpened := s.sec.rootOpened || who == 0 } }

/-- Every page is to be cleared (R418). -/
def State.pagesAsked (s : State) : State := (List.range 2304).foldl (fun (s : State) g => s.queuePage g) s

theorem State.openDebug_eq (s : State) (who : Nat) :
    s.openDebug who = ((s.unkeyed.openingBy who).coresAsked.pagesAsked).event 0xC007 who 0 := rfl

/-! ### OPEN -/

/-- What the clearing of pages and a new challenge leave of an opening. -/
theorem State.openDebug_rest (s : State) (who : Nat) : (s.openDebug who).newChallenge.sec = (s.unkeyed.openingBy who).coresAsked.sec ∧
    (s.openDebug who).newChallenge.parts = (s.unkeyed.openingBy who).coresAsked.parts ∧
    (s.openDebug who).newChallenge.edge = (s.unkeyed.openingBy who).coresAsked.edge ∧
    ∀ p, (s.openDebug who).newChallenge.get .PART_KEY_STAT_LOADED p =
      (s.unkeyed.openingBy who).coresAsked.get .PART_KEY_STAT_LOADED p := by
  rw [State.openDebug_eq]
  generalize (s.unkeyed.openingBy who).coresAsked = u
  have kept : Same (maskBut [Field.PART_KEY_STAT_LOADED.code, 413, 424, 428]) u (u.pagesAsked.event 0xC007 who 0).newChallenge :=
    Same.via State.newChallenge_frame (by decide +kernel) (Same.via State.event_frame (by decide +kernel)
      (Same.foldl (fun _ _ h => Same.via State.queuePage_frame (by decide +kernel) h) _ Same.refl))
  exact ⟨kept.sec (by decide +kernel), kept.parts (by decide +kernel), kept.edge (by decide +kernel),
    fun p => kept.reg _ _ (by decide) (by decide +kernel)⟩

/-- Keys that are locked, and requests, leave the partitions as they are. -/
theorem State.openingBy_shows (s : State) (who : Nat) : (s.openingBy who).coresAsked.sec.opening = true ∧
    (s.openingBy who).coresAsked.sec.keysLocked = true ∧ (s.openingBy who).coresAsked.parts = s.parts ∧
    ∀ p, (s.openingBy who).coresAsked.get .PART_KEY_STAT_LOADED p = s.get .PART_KEY_STAT_LOADED p := by
  rw [State.coresAsked_keeps State.sec (fun _ _ => rfl), State.coresAsked_keeps State.parts (fun _ _ => rfl)]
  exact ⟨rfl, rfl, rfl, fun p => State.coresAsked_keeps (fun t => t.get .PART_KEY_STAT_LOADED p) (fun _ _ => rfl) (s.openingBy who)⟩

theorem State.openingBy_edge (s : State) (who : Nat) {n : Nat} (h : n < 96) (enabled : s.get .CORE_BIND_DISABLED n ≠ 1) :
    EdgeReq.core n 5 ∈ (s.openingBy who).coresAsked.edge := State.coresAsked_edge (s.openingBy who) h enabled

theorem State.unkeyed_disabled (s : State) (n : Nat) : s.unkeyed.get .CORE_BIND_DISABLED n = s.get .CORE_BIND_DISABLED n :=
  s.unkeyed_frame.reg _ _ (by decide) (by decide)

/-- A debug opening (R416, R418). -/
theorem State.openDebug_effect (s : State) (who : Nat) : (s.openDebug who).newChallenge.sec.opening = true ∧
    (s.openDebug who).newChallenge.sec.keysLocked = true ∧ (∀ p, p < 16 → Keyless p (s.openDebug who).newChallenge) ∧
    ∀ n, n < 96 → s.get .CORE_BIND_DISABLED n ≠ 1 → EdgeReq.core n 5 ∈ (s.openDebug who).newChallenge.edge := by
  obtain ⟨sec, parts, edge, loaded⟩ := s.openDebug_rest who
  obtain ⟨opening, locked, parts', loaded'⟩ := s.unkeyed.openingBy_shows who
  rw [sec, edge]
  exact ⟨opening, locked, fun p h => (s.unkeyed_keyless h).of_same (parts.trans parts') ((loaded p).trans (loaded' p)),
    fun n h enabled => s.unkeyed.openingBy_edge who h (by rw [State.unkeyed_disabled]; exact enabled)⟩

/-- OPEN changes no byte that the host holds. -/
theorem State.openDebug_host (s : State) (who : Nat) : (s.openDebug who).newChallenge.host = s.host :=
  (State.newChallenge_frame.host (by decide)).trans (State.openDebug_frame.host (by decide))

/-- Whether OPEN finds every partition destroyed (R418). -/
def State.allDestroyed (s : State) : Bool := (List.range 16).all fun p => !s.created p

theorem State.allDestroyed_iff {s : State} : s.allDestroyed = true ↔ ∀ p, p < 16 → s.created p = false := by
  simp [State.allDestroyed]

theorem execOpenDebug_opens {s : State} (booted : s.booted = true) (mem : List (Nat × Byte)) (free : ∀ p, p < 16 → s.created p = false)
    {w : Nat} (signer : (s.fed mem).tokenSigner = some w) :
    execOpenDebug mem s = .next ((s.fed mem).openDebug w).newChallenge := by
  have destroyed : (List.range 16).all (fun p => !(s.fed mem).created p) = true := State.allDestroyed_iff.2 free
  have taken : (s.fed mem).whenBooted (if (List.range 16).all (fun p => !(s.fed mem).created p) then
      (match (s.fed mem).tokenSigner with
        | some w => (s.fed mem).openDebug w
        | none => s.fed mem) else s.fed mem).newChallenge = ((s.fed mem).openDebug w).newChallenge := by
    rw [State.whenBooted_booted (s := s.fed mem) booted, if_pos destroyed, signer]
  exact congrArg Host.Outcome.next taken

/-- OPEN without a token, or while a partition stands, makes a new challenge and no more. -/
theorem execOpenDebug_shut {s : State} (booted : s.booted = true) (mem : List (Nat × Byte))
    (shut : (∃ p, p < 16 ∧ s.created p = true) ∨ (s.fed mem).tokenSigner = none) :
    execOpenDebug mem s = .next (s.fed mem).newChallenge := by
  have taken : (s.fed mem).whenBooted (if (List.range 16).all (fun p => !(s.fed mem).created p) then
      (match (s.fed mem).tokenSigner with
        | some w => (s.fed mem).openDebug w
        | none => s.fed mem) else s.fed mem).newChallenge = (s.fed mem).newChallenge := by
    rw [State.whenBooted_booted (s := s.fed mem) booted]
    obtain ⟨p, low, created⟩ | unsigned := shut
    · have stands : ¬(List.range 16).all (fun p => !(s.fed mem).created p) = true := fun all =>
        Bool.false_ne_true ((State.allDestroyed_iff.1 all p low).symm.trans created)
      rw [if_neg stands]
    · rw [unsigned, ite_self]
  exact congrArg Host.Outcome.next taken

/-! ### Firmware, settings and debug together -/

/-- Settles O59: one theorem for each command. -/
theorem firmwareChecksBeforeItChanges : Obligations.FirmwareChecksBeforeItChanges := by
  intro s mem booted
  refine ⟨execStage_unconfirmed booted mem, fun free => ?_, fun o n => execHandoverTakeover_effect, execStandbyRebootDone_effect,
    execConfirm_effect booted, execFallback_refused booted, execFallback_effect booted, execSettingsWrite_waits booted mem,
    fun calm => ?_, fun free w signer => ?_, fun shut => ?_⟩
  · have e := execStage_stages booted mem free
    exact ⟨_, e, Same.changes (execStage_frame e) (by decide +kernel), (s.fed mem).stage_effect⟩
  · have e := execSettingsWrite_writes booted mem calm
    exact ⟨_, e, Same.changes (execSettingsWrite_frame e) (by decide +kernel), (s.fed mem).writeSettings_effect⟩
  · have e := execOpenDebug_opens booted mem free signer
    exact ⟨_, e, Same.changes (execOpenDebug_frame e) (by decide +kernel), (s.fed mem).openDebug_host w, (s.fed mem).openDebug_effect w⟩
  · have e := execOpenDebug_shut booted mem shut
    exact ⟨_, e, Same.changes (execOpenDebug_frame e) (by decide +kernel), State.newChallenge_frame.host (by decide)⟩

end Sys2Proof.Machine
end
